-- ==== Sys2Proof/Word.lean ====
section
/-! DEFINITION. The word types of the AET-6448 (00_scope.md R7, R8): bytes, 16-, 32- and 64-bit words. -/

namespace Sys2Proof

/-- A byte. -/
abbrev Byte := BitVec 8

/-- A 16-bit word (Desk indices, TAGs, opcodes). -/
abbrev Word16 := BitVec 16

/-- A BAR0 register (R8). -/
abbrev Word32 := BitVec 32

/-- A 64-bit word (one Census cell, R377). -/
abbrev Word64 := BitVec 64

end Sys2Proof
end

