-- ==== Sys2Proof/Operand.lean ====
section
/-! DEFINITION. The operand types of the commands: what a Desk request carries (13_curator_desk.md R315), the paths to the
registers (R308), the object selector (14_command_reference.md R332) and a time stamp (R341). -/

namespace Sys2Proof

/-- How a register access reaches the device (R26, R308): BAR0, the SPI target, or the mate link (MATE channel only). -/
inductive Path where
  | bar0
  | spi
  | mate
deriving DecidableEq, Repr

/-- A Desk request as a command row carries it: the fields of a request entry (R315) but for the opcode, which the row
fixes. `body` is PAYLOAD[0 .. LEN), `slot` the bulk slot when FLAGS.BULK is set, `bulk` the BULK_LEN request bytes of the
slot. -/
structure Request where
  /-- Channel: 0 PCIe, 1 SPI, 2 MATE, 3 DIAG (R308). -/
  ch : Fin 4
  tag : Word16
  ordered : Bool
  holdMs : Word32
  slot : Option (Fin 32)
  body : List Byte
  bulk : List Byte
deriving DecidableEq, Repr

/-- A device time stamp (R341): seconds, nanoseconds and 2^-16 ns. -/
structure Stamp where
  sec : Nat
  ns : Nat
  frac : Nat
deriving DecidableEq, Repr

/-- The four arguments of an event record (R366). -/
structure EvtArg where
  state : BitVec 8
  sub : BitVec 8
  aux : Word16
  value : Word64
deriving DecidableEq, Repr

/-- The bit through which an MSI-X vector ceases to be masked (R368). -/
inductive MsixBit where
  | vectorMask (v : Fin 32)
  | functionMask
  | msixEnable
deriving DecidableEq, Repr

/-- Why a time source's validity changes (R259, TIME_SOURCE_TIMER). -/
inductive SourceTimer where
  | ppsEdgeMissing
  | todMessageMissing
  | burstMissing (c : Fin 2) (g : Fin 16)
  | primaryTenSeconds
deriving DecidableEq, Repr

/-- How a PTP message is carried (R270): by its EtherType, or over UDP on a port, IPv4 with or without options, IPv6 with or without
an extension header, with its UDP checksum. -/
inductive PtpCarry where
  | ether (typ : Nat)
  | udp4 (port csum : Nat) (options : Bool)
  | udp6 (port csum : Nat) (ext : Bool)
deriving DecidableEq, Repr

/-- A frame with a PTP message (R270, R271): its VLAN tags, how it is carried, messageType and major versionPTP of IEEE 1588,
correctionField, bytes 16 to 19 of the common header, and whether its FCS is bad. -/
structure PtpMsg where
  tags : List Nat := []
  carry : PtpCarry := .ether 0x88F7
  mtype : Nat := 0
  major : Nat := 2
  correction : Nat := 0
  field : Nat := 0
  fcsBad : Bool := false
deriving DecidableEq, Repr

/-- Is it a message that the transparent clock acts on (R270): Sync, Delay_Req, Pdelay_Req or Pdelay_Resp of version 2, in one of the
transports, under at most two VLAN tags? -/
def PtpMsg.handled (m : PtpMsg) : Bool :=
  decide (m.tags.length ≤ 2) && m.tags.all (fun t => t == 0x8100 || t == 0x88A8) && decide (m.mtype ≤ 3) && m.major == 2 &&
    match m.carry with
    | .ether t => t == 0x88F7
    | .udp4 p _ o => p == 319 && !o
    | .udp6 p _ x => p == 319 && !x

/-- The field of `w` bits of a word from bit `lo`. -/
def fieldAt (n lo w : Nat) : Nat := n / 2 ^ lo % 2 ^ w

/-- A selection word that the redundant elements of R36 allow converter `k` of a carrier (layout of the word: log 60). ADC
(converters 4 to 7): [15:0] one of 3 candidates for each of 8 decisions, [19:16] ladder tap, [25:20] phase tap. DAC: [71:0] the 63
unit cells used of 72, [73:72] the candidate of each binary bit, [77:74] current tap, [83:78] phase tap. -/
def selOk (k sel : Nat) : Bool :=
  if k < 4 then ((List.range 72).filter sel.testBit).length == 63 && sel / 2 ^ 84 == 0
  else (List.range 8).all (fun d => fieldAt sel (2 * d) 2 != 3) && sel / 2 ^ 26 == 0

/-- What one measurement run of a slice finds (R36, R39): offset (0.01 LSB), gain (0.01 %) and skew (fs) of the chosen
elements, the selection the run chose, the four residuals of the first run's selection in the order of R36 (ADC: offset,
threshold, gain, skew; DAC: INL, DNL, gain, skew) with this run's data, the bandwidth from the converter median (0.01 %),
and that no selection meets R36. -/
structure MeasRun where
  off : Int
  gain : Int
  skew : Int
  sel : BitVec 96
  r1 : Int
  r2 : Int
  r3 : Int
  r4 : Int
  bw : Int
  noSel : Bool
deriving DecidableEq, Repr

/-- Statistics of an active slice over a fault window (R45): its mean less the converter mean (0.01 LSB) and its rms level
against the converter's (0.01 dB). -/
structure SliceStat where
  slice : Fin 132
  mean : Int
  level : Int
deriving DecidableEq, Repr

/-- Front-end corrections of one polarisation (R58): skew of I to Q and of this polarisation to X (10 fs), gain imbalance
(0.01 dB), quadrature error (0.02°), DC offsets of I and Q (1/64 LSB), and the amplitude response at 64 frequency points across
±150 GHz (0.01 dB of roll-off). -/
structure FrontEnd where
  skew : Int := 0
  skewXY : Int := 0
  gain : Int := 0
  quad : Int := 0
  dcI : Int := 0
  dcQ : Int := 0
  amp : List Int := List.replicate 64 0
deriving DecidableEq, Repr

/-- A value brought into a range. -/
def clampInt (lo hi v : Int) : Int := max lo (min hi v)

/-- The corrections within the ranges of R58. -/
def FrontEnd.inRange (f : FrontEnd) : FrontEnd :=
  { skew := clampInt (-2500) 2500 f.skew, skewXY := clampInt (-2500) 2500 f.skewXY, gain := clampInt (-300) 300 f.gain,
    quad := clampInt (-750) 750 f.quad, dcI := clampInt (-1024) 1024 f.dcI, dcQ := clampInt (-1024) 1024 f.dcQ,
    amp := (List.range 64).map fun i => clampInt 0 1200 (f.amp.getD i 0) }

/-- The pilots of a subcarrier and polarisation (Y or X) in a folio (R67): the phase error of each, in 2π/65,536, and the quadrants
by which it shows that the phase has slipped since the pilot before it. -/
structure PilotRun where
  k : Fin 16
  y : Bool
  pilots : List (Int × Fin 4)
deriving DecidableEq, Repr

/-- What a received volume brings (R58, R61, R63, R66, R75): the group delay (0.001 ps) and the wavelength (0.0001 nm) of each
subcarrier against the group's centre, the residual dispersion across the equaliser taps of a single subcarrier (1/16 ps/nm), the
σ of the total (1/256 ps/nm), clipped samples and samples, the far laser's offset (MHz), the far clock's (1/1,024 ppm), and the
front-end corrections as tracked. -/
structure RxVolume where
  delays : List (Fin 16 × Int × Int) := []
  tapResid : Int := 0
  sigma : Nat := 0
  clipped : Nat := 0
  samples : Nat := 0
  freq : Int := 0
  clock : Int := 0
  fe : FrontEnd × FrontEnd := ({}, {})
deriving DecidableEq, Repr

/-- A subcarrier's measures over a quality window (R77, R80): SNR of X and Y (1/256 dB), GMI (1/4,096 bit), DGD (0.1 ps), PDL
(0.01 dB), peak rotation rate (0.1 Mrad/s). -/
structure SubQuality where
  snrX : Int
  snrY : Int
  gmi : Nat
  dgd : Nat
  pdl : Nat
  rot : Nat
deriving DecidableEq, Repr

/-- Which frame overhead is meant (R194 to R201, R211): a client bond, the ODUCm of a line group, or a tributary of a container
(container kind, carrier or lead slice, group, TPN). -/
inductive FramerId where
  | bond (b : Fin 48)
  | odum (c : Fin 2) (g : Fin 16)
  | trib (kind cont group tpn : Nat)
deriving DecidableEq, Repr

/-- What a searcher or a unit in frame finds at a predicted position (R189, R191, R193): the pattern matched, the identity
there, the physical lane, and the arrival after the earliest unit in 0.1 ns. -/
structure AlignCheck where
  pos : Nat
  matched : Bool
  ident : Nat
  lane : Nat
  skew : Nat
deriving DecidableEq, Repr

/-- Overhead of one layer in one frame (R195): TTI byte, BIP-8 violations found, the BEI/BIAE code, BDI, IAE and STAT. -/
structure LayerOh where
  tti : Byte := 0
  bip : Nat := 0
  bei : Nat := 0
  bdi : Bool := false
  iae : Bool := false
  stat : Nat := 1
deriving DecidableEq, Repr

/-- The errored blocks that a BEI/BIAE code reports, and whether it is a BIAE (R195; the codes of ITU-T G.709: log 33). -/
def LayerOh.blocks (x : LayerOh) : Nat := if x.bei ≤ 8 then x.bei else 0
def LayerOh.biae (x : LayerOh) : Bool := x.bei == 11

/-- What RS decoding found (R188, R201, R204): codewords corrected, uncorrectable codewords, symbols corrected. -/
structure RsSeen where
  corrected : Nat := 0
  uncorr : Nat := 0
  symbols : Nat := 0
deriving DecidableEq, Repr

/-- The defects that DEFECT_PERSISTENCE_END times or that a standard defines (R197): LOF, LOA and LOM after the LOF time; hi_ser of the
PCS clause, the local and the remote fault sequences of the reconciliation sublayer. -/
inductive DefectTimer where
  | lof | loa | lom | hiSer | localFault | remoteFault
deriving DecidableEq, Repr

/-- A reassembled OTN frame's overhead (R194, R195): MFAS, the layers OTU SM, ODU PM, TCM1 to TCM6, the OPU PSI byte, APS/PCC,
the FTFL byte, GCC0 to GCC2, the FlexO group and instance identifiers, GMP justification events, and what its FEC found. -/
structure OtnFrame where
  mfas : Nat := 0
  layers : List LayerOh := []
  psi : Byte := 0
  aps : Nat := 0
  ftfl : Byte := 0
  gcc : List Byte := []
  gid : Nat := 0
  iid : List Nat := []
  gmp : Nat := 0
  rs : RsSeen := {}
deriving DecidableEq, Repr

/-- What a lane has measured since it was last read (R300, R301, R306): checked bits, bit errors and symbol errors, whether the
checker is locked, SNR (1/256 dB) and recovered-clock offset (1/1,024 ppm). -/
structure LaneSeen where
  bits : Nat
  errs : Nat
  syms : Nat
  locked : Bool
  snr : Int
  offset : Int
deriving DecidableEq, Repr

/-- What a receive direction recognises (R298). -/
inductive IdleMark where
  | idle
  | sleep
  | keepAlive
deriving DecidableEq, Repr

/-- How a periodic PMBus read ends (R417): READ_VOUT (mV) and READ_IOUT (mA), STATUS_WORD, no acknowledge, a PEC failure. -/
inductive PmRead where
  | values (mv ma : Word16)
  | status (w : Word16)
  | noAck
  | badPec
deriving DecidableEq, Repr

/-- What a held command may need from outside when it runs (HOLD_RELEASE): the operands that its own row takes beside its request
(LANE_TEST_SET, MATE_COMMAND, DECODE_POOL_RESTORE, DECODE_READER_ENABLE, TIME_TEST). -/
structure HeldExtra where
  seen : LaneSeen
  mateDenies : Bool
  failedReaders : Word16
  readerFailed : Bool
  fault : Word32
deriving DecidableEq, Repr

/-- The boot flash as the device finds it (R429): the two selectors, the board configuration record, the Catalogue slots and
the images; a range that reads as erased holds no bytes. -/
structure Flash where
  sel0 : List Byte := []
  sel1 : List Byte := []
  bcfg : List Byte := []
  cat0 : List Byte := []
  cat1 : List Byte := []
  imgA : List Byte := []
  imgB : List Byte := []
deriving DecidableEq, Repr

/-- What a safety diagnostic compares (R466): the levels that TXEN and TXDIS of each carrier read back; the decisions for light of
channels 1 and 2 for each carrier; the periods of the ring oscillator that channel 1 counted in its window of 100 µs and those of
the AON oscillator that channel 2 counted in its own; the configuration; the results of owned channels; µs since the LOS
heartbeat of each carrier last toggled; µs for which the two samples of each ALS pin have disagreed. -/
inductive DiagSample where
  | readback (a b : Bool × Bool)
  | channels (a b : Bool × Bool)
  | clocks (ring aon : Nat)
  | config
  | freshness
  | heartbeat (a b : Nat)
  | alsInput (a b : Nat)
deriving DecidableEq, Repr

/-- A line tributary as a member of a pair provisions it (R475): group, TPN, kind, rate (kb/s), line slots, and the interface of
its client bond. -/
structure MateTrib where
  group : Nat
  tpn : Nat
  kind : Nat
  rate : Nat
  slots : List Nat
  iface : Nat
deriving DecidableEq, Repr

/-- What the members of a pair compare for a carrier (R475): symbol rate, group map, m of each group and tributaries. -/
structure MateCarrier where
  symRate : Nat
  groupMap : List Nat
  slices : List Nat
  tribs : List MateTrib
deriving DecidableEq, Repr

/-- What the members of a pair compare (R474, R475): mode (coded as in DEVICE.PROVISION), LANES, LIMIT_NS, carriers A and B; none
for a carrier that is not provisioned. -/
structure MateProv where
  mode : Nat
  lanes : Nat
  limitNs : Nat
  carA : Option MateCarrier
  carB : Option MateCarrier
deriving DecidableEq, Repr

/-- The instructions of the test access port (R509). -/
inductive TapIns where
  | bypass | idcode | sample | extest | highz | clamp | extestPulse | extestTrain
deriving DecidableEq, Repr, Inhabited

end Sys2Proof
end

