-- ==== Sys2Proof/Syntax.lean ====
section
/-! DEFINITION. The commands of the AET-6448: one constructor per row of the operation table, with the row's operands.
A Desk command row carries its request; an event row carries what the environment or a unit decided (a measured value, a
received message, which object). -/

namespace Sys2Proof


/-- A command of the block. -/
inductive Instr where
  /-- R339. Command 0x0101 returns the part, revision, firmware, serial, mode, mate role and uptime. -/
  | deviceInfo (q : Request)
  /-- R340. Command 0x0102 sets the operating mode after full de-provisioning and allocates the Reserve and transmit queue of the new mode. -/
  | deviceProvision (q : Request)
  /-- R341. Command 0x0D01 returns up to 128 event-log records from START_SEQ onwards. -/
  | eventLogGet (q : Request)
  /-- R376. Command 0x0D10 requests a Census snapshot at a given instant and completes when it is written. -/
  | censusTake (q : Request)
  /-- R376. Command 0x0D11 sets the period of periodic Census snapshots. -/
  | censusSet (q : Request)
  /-- R385. Command 0x0D12 returns the Census status items. -/
  | censusStatus (q : Request)
  /-- R343. Command 0x0201 sets a disabled carrier's symbol rate, LDPC rate, converter levels, group map, slices and loading targets. -/
  | carrierProvision (q : Request)
  /-- R342. Command 0x0202 brings the carrier domain and pools to RUN, loads or runs converter calibration and allocates the receive queue. -/
  | carrierEnable (q : Request)
  /-- R323. Command 0x0203 terminates the carrier and every contained transition, freeing its receive queue. -/
  | carrierDisable (q : Request)
  /-- R49. Command 0x0210 runs a foreground calibration of a provisioned, disabled carrier's eight converters. -/
  | convCalibrate (q : Request)
  /-- R49. Command 0x0211 sets the background rotation parameters of one or all converters. -/
  | convRotationSet (q : Request)
  /-- R49. Command 0x0212 forces retirement of one converter slice according to its role. -/
  | convSliceRetire (q : Request)
  /-- R50. Command 0x0213 returns the converter status items. -/
  | convStatus (q : Request)
  /-- R78. Command 0x0301 sets the receive DSP parameters of a carrier or group. -/
  | rxdspSet (q : Request)
  /-- R60. Command 0x0302 sets the provisioned dispersion search window. -/
  | rxdspCdHint (q : Request)
  /-- R79. Command 0x0303 drops a group's held hint and sends it to CD_SEARCH. -/
  | rxdspReacquire (q : Request)
  /-- R80. Command 0x0304 returns the receive DSP status items. -/
  | rxdspStatus (q : Request)
  /-- R90. Command 0x0401 sets a group's loading policy and its thresholds and timers. -/
  | bitloadPolicySet (q : Request)
  /-- R90. Command 0x0402 supplies a manual loading table to be proposed under MANUAL policy. -/
  | bitloadTableSet (q : Request)
  /-- R87. Command 0x0403 replaces the required-SNR curve of one LDPC rate after a monotonicity check. -/
  | bitloadCurveSet (q : Request)
  /-- R104. Command 0x0404 returns the bit-loading status items of a group. -/
  | bitloadStatus (q : Request)
  /-- R345. Command 0x0410 sets the transmit skew, gain, quadrature, pre-emphasis and clip level. -/
  | txdspSet (q : Request)
  /-- R99. Command 0x0411 loads the 1,024-entry pre-distortion table. -/
  | txdspPredistSet (q : Request)
  /-- R104. Command 0x0412 returns the transmit DSP status items. -/
  | txdspStatus (q : Request)
  /-- R130. Command 0x0501 sets the decoding parameters, reallocating the Reserve when its size changes. -/
  | decodeSet (q : Request)
  /-- R131. Command 0x0502 returns the decoding status items. -/
  | decodeStatus (q : Request)
  /-- R129. Command 0x0503 begins taking a Reader pool out of service, subject to the capacity check or forced. -/
  | decodePoolRemove (q : Request)
  /-- R129. Command 0x0504 self-tests an OUT pool and returns it to service. -/
  | decodePoolRestore (q : Request) (failed : Word16)
  /-- R118. Command 0x0505 self-tests one Reader and returns it to service when it passes. -/
  | decodeReaderEnable (q : Request) (failed : Bool)
  /-- R158. Command 0x0601 sets the Interloan parameters of a carrier. -/
  | interloanSet (q : Request)
  /-- R145. Command 0x0602 sets the hub grant table after checking its validity. -/
  | interloanScheduleSet (q : Request)
  /-- R143. Command 0x0603 queues a MGMT burst for transmission or returns ST_BUSY when the queue is full. -/
  | interloanSend (q : Request)
  /-- R348. Command 0x0604 removes and returns the oldest MGMT datagram of the receive store. -/
  | interloanRecv (q : Request)
  /-- R159. Command 0x0605 returns the Interloan status items. -/
  | interloanStatus (q : Request)
  /-- R184. Command 0x0701 returns the folio frame status items of a group. -/
  | frameStatus (q : Request)
  /-- R176. Command 0x0710 sets line encryption and its countdown, rekey and timeout parameters within the Charter's key rights. -/
  | cryptSet (q : Request)
  /-- R177. Command 0x0711 sets the expected peer public-key hash of a group. -/
  | cryptPeerSet (q : Request)
  /-- R177. Command 0x0712 starts a key exchange for a group as initiator. -/
  | cryptRekey (q : Request)
  /-- R184. Command 0x0713 returns the encryption status items. -/
  | cryptStatus (q : Request)
  /-- R187. Command 0x0801 provisions a bond with its interface, size and FEC handling. -/
  | framerProvision (q : Request)
  /-- R323. Command 0x0802 terminates and de-provisions a bond. -/
  | framerDeprovision (q : Request)
  /-- R203. Command 0x0803 sets the confirmation, loss and LOF parameters of a bond or line ODUCm. -/
  | framerSet (q : Request)
  /-- R351. Command 0x0804 sets TIM, expected and transmitted TTI, expected PT and TCM mode of a layer. -/
  | framerOhSet (q : Request)
  /-- R349. Command 0x0805 returns the accepted overhead of a layer. -/
  | framerOhGet (q : Request)
  /-- R199. Command 0x0806 sets a bond's maintenance signal and forced BDI. -/
  | framerMaintSet (q : Request)
  /-- R204. Command 0x0807 returns the framer status items. -/
  | framerStatus (q : Request)
  /-- R209. Command 0x0901 adds a tributary with its slots to a container, applied at the next multiframe. -/
  | mapTribAdd (q : Request)
  /-- R210. Command 0x0902 removes a tributary from its container. -/
  | mapTribRemove (q : Request)
  /-- R227. Command 0x0903 returns the mapping status items. -/
  | mapStatus (q : Request)
  /-- R212. Command 0x0910 connects a switch source to a destination in FRAMER mode. -/
  | switchConnect (q : Request)
  /-- R215. Command 0x0911 removes a destination's source and sends its replacement signal. -/
  | switchDisconnect (q : Request)
  /-- R218. Command 0x0920 creates, changes or deletes a 1+1 protection group. -/
  | protProvision (q : Request)
  /-- R222. Command 0x0921 issues Clear, LO, FS or MS to a protection group. -/
  | protCommand (q : Request)
  /-- R220. Command 0x0922 remeasures the leads of a protection group and steps the timeline. -/
  | protRealign (q : Request)
  /-- R227. Command 0x0923 returns the protection status items. -/
  | protStatus (q : Request)
  /-- R246. Command 0x0A01 writes every unretired word of the Stacks with zero data and valid check. -/
  | stacksInit (q : Request)
  /-- R252. Command 0x0A02 sets the tracker thresholds and the scrubber. -/
  | stacksSet (q : Request)
  /-- R248. Command 0x0A03 retires a page or bank of the Stacks. -/
  | stacksRetire (q : Request)
  /-- R253. Command 0x0A04 returns the Stacks status items. -/
  | stacksStatus (q : Request)
  /-- R355. Command 0x0A05 returns repeat-correction tracker entries. -/
  | stacksTrackerGet (q : Request)
  /-- R243. Command 0x0A06 frees one or every tracker entry. -/
  | stacksTrackerClear (q : Request)
  /-- R247. Command 0x0A07 returns Accession log entries. -/
  | stacksAccessionGet (q : Request)
  /-- R354. Command 0x0A08 returns a stored word as read, before correction, without side effects. -/
  | stacksWordRead (q : Request)
  /-- R279. Command 0x0B01 sets the DPLL bandwidth. -/
  | timeProvision (q : Request)
  /-- R277. Command 0x0B02 sets reference limits, timers, priority table and candidate frequencies. -/
  | timeRefTableSet (q : Request)
  /-- R278. Command 0x0B03 sets FORCE, MANUAL, LOCKOUT or CLEAR for a reference candidate. -/
  | timeRefCommand (q : Request)
  /-- R274. Command 0x0B04 sets the oscillator sensor and compensation coefficients. -/
  | timeLoCompSet (q : Request)
  /-- R274. Command 0x0B05 starts learning the oscillator coefficients over a period. -/
  | timeLoLearn (q : Request)
  /-- R259. Command 0x0B06 sets the primary and backup time sources and servo parameters. -/
  | timeSourceSet (q : Request)
  /-- R262. Command 0x0B07 steps the TOD to a given value under a HOST source. -/
  | timeSet (q : Request)
  /-- R262. Command 0x0B08 adds a phase offset removed by slewing under a HOST source. -/
  | timeAdjust (q : Request)
  /-- R267. Command 0x0B09 sets a Colophon link's role, frequency, delays and asymmetry. -/
  | timeLinkSet (q : Request)
  /-- R263. Command 0x0B0A sets cable delay, output compensation, 1PPS_OUT and TOD rate. -/
  | timePpsSet (q : Request)
  /-- R356. Command 0x0B0B tests the time engine and leaves the DPLL in FREE_RUN with history cleared. -/
  | timeTest (q : Request) (fault : Word32)
  /-- R286. Command 0x0B0C returns the time engine status items. -/
  | timeStatus (q : Request)
  /-- R270. Command 0x0B10 enables or disables the transparent clock on an Ethernet bond. -/
  | ptpTcSet (q : Request)
  /-- R288. Command 0x0C01 provisions a host lane's rate, bring-up mode and taps and starts bring-up. -/
  | laneProvision (q : Request)
  /-- R294. Command 0x0C02 terminates and de-provisions a lane. -/
  | laneDeprovision (q : Request)
  /-- R305. Command 0x0C03 sets lane timers, mate-link limits, idle and detector parameters. -/
  | laneSet (q : Request)
  /-- R301. Command 0x0C04 sets a lane's pattern generator, checker and error injection. -/
  | laneTestSet (q : Request) (seen : LaneSeen)
  /-- R302. Command 0x0C05 sets a lane's loopback. -/
  | laneLoopbackSet (q : Request)
  /-- R297. Command 0x0C06 restarts the whole mate link at 26.5625 Gb/s. -/
  | laneMateRetrain (q : Request)
  /-- R306. Command 0x0C07 returns the lane status items. -/
  | laneStatus (q : Request) (seen : LaneSeen)
  /-- R388. Command 0x0E01 requests a device power state and begins its entry. -/
  | powerDeviceSet (q : Request)
  /-- R391. Command 0x0E02 requests a power state for one domain. -/
  | powerDomainSet (q : Request)
  /-- R395. Command 0x0E03 sets the wake mask and wake timer. -/
  | powerWakeSet (q : Request)
  /-- R403. Command 0x0E04 returns the power status items and wake record. -/
  | powerStatus (q : Request)
  /-- R408. Command 0x0F01 turns the monitor reference buffers on or off. -/
  | monRefSet (q : Request)
  /-- R409. Command 0x0F02 sets a monitor channel's converter, gain, filter and period. -/
  | monChannelSet (q : Request)
  /-- R414. Command 0x0F03 removes samples from the head of the monitor result queue. -/
  | monRead (q : Request)
  /-- R425. Command 0x0F04 returns the monitor status items. -/
  | monStatus (q : Request)
  /-- R426. Command 0x0F10 returns the thermal status items. -/
  | thermalStatus (q : Request)
  /-- R417. Command 0x0F20 sets a PMBus rail's address, mode and voltage. -/
  | pmbusRailSet (q : Request)
  /-- R427. Command 0x0F21 returns the PMBus status items. -/
  | pmbusStatus (q : Request)
  /-- R360. Command 0x0F30 sets GPIO directions and output levels. -/
  | gpioSet (q : Request)
  /-- R360. Command 0x0F31 returns GPIO levels and directions. -/
  | gpioGet (q : Request) (pins : Word32)
  /-- R440. Command 0x1001 returns the identity public key and its hash. -/
  | secIdentityGet (q : Request)
  /-- R441. Command 0x1002 builds and signs an attestation report over a nonce. -/
  | secAttest (q : Request)
  /-- R435. Command 0x1003 returns the Charter in force. -/
  | secCharterGet (q : Request)
  /-- R442. Command 0x1010 stages one chunk of a new image and checks it at LAST. -/
  | fwLoad (q : Request)
  /-- R445. Command 0x1011 writes a trial selector and restarts the Curator into the inactive image. -/
  | fwActivate (q : Request)
  /-- R443. Command 0x1012 advances the anti-rollback counter and sets revoke bits. -/
  | fwCommit (q : Request)
  /-- R454. Command 0x1013 returns the firmware status items. -/
  | fwStatus (q : Request)
  /-- R455. Command 0x1020 returns the Catalogue status items. -/
  | catalogueStatus (q : Request)
  /-- R362. Command 0x1021 returns one Catalogue record. -/
  | catalogueRead (q : Request)
  /-- R448. Command 0x1022 removes one or every Calibration record. -/
  | catalogueReset (q : Request)
  /-- R459. Command 0x1101 stores the host's request for light and returns the pair state. -/
  | safetyTxenSet (q : Request)
  /-- R472. Command 0x1102 returns the safety status items. -/
  | safetyStatus (q : Request)
  /-- R468. Command 0x1103 injects each diagnostic fault into a shadow path and reports the results. -/
  | safetyProofTest (q : Request) (failed : Word32)
  /-- R474. Command 0x1201 makes the device a mated-pair member or removes it. -/
  | mateProvision (q : Request)
  /-- R485. Command 0x1202 issues Clear, LO, FS or MS to both pair groups, forwarded to the mate. -/
  | mateCommand (q : Request) (mateDenies : Bool)
  /-- R489. Command 0x1203 returns the mated-pair status items. -/
  | mateStatus (q : Request)
  /-- R336. The QUERY reading form of a P or R command returns its parameters or request body in force. -/
  | readingForm (op : Nat) (q : Request)
  /-- R312. A doorbell write of REQ_TAIL makes new request entries available or is ignored with DOORBELL_ERR. -/
  | deskReqTailWrite (p : Path) (ch : Fin 4) (v : Word32)
  /-- R318. The Curator copies a waiting request entry, checks it and advances REQ_HEAD when the channel has room. -/
  | requestAccept (ch : Fin 4)
  /-- R322. A held command runs when its function's transition ends or the earlier request completes. -/
  | holdRelease (ch : Fin 4) (tag : Word16) (x : HeldExtra)
  /-- R322. HOLD_MS passes before a held command can run and it returns ST_IN_TRANSITION. -/
  | holdLimitExpiry (ch : Fin 4) (tag : Word16)
  /-- R324. A function gives no reply within the completion time plus 1 s and the command returns ST_TIMEOUT. -/
  | functionReplyTimeout (ch : Fin 4) (tag : Word16)
  /-- R314. A completed command's response is written at RSP_TAIL once the response ring has room. -/
  | responseWrite (ch : Fin 4)
  /-- R314. The host advances RSP_HEAD, freeing response slots and bulk slots. -/
  | deskRspHeadWrite (p : Path) (ch : Fin 4) (v : Word32)
  /-- R325. Writing RESET in DESK_CH_CTRL resets one Desk channel. -/
  | deskChReset (p : Path) (ch : Fin 4) (v : Word32)
  /-- R325. The started requests of a reset channel finish, its indices go to 0 and READY is set again. -/
  | channelResetComplete (ch : Fin 4)
  /-- R326. The activated image starts, sets READY, advances RESTARTS and accepts from REQ_HEAD. -/
  | firmwareRestartReady
  /-- R327. The Curator watchdog restarts Yozon, failing unfinished requests with ST_RESTARTED. -/
  | watchdogRestart
  /-- R445. An image on trial holds READY for 60 s and the device writes a selector with TRIAL clear. -/
  | trialEnd
  /-- R445. A trial image fails and the Curator restarts into the previous image. -/
  | trialFallback
  /-- R9. A write to a BAR0 register without behaviour of its own sets its RW fields or clears its W1C bits. -/
  | registerWrite (p : Path) (w : Fin 262144) (v : Word32)
  /-- R367. A W1C write to EVT_STATUS clears sticky bits, an occurrence in the same cycle winning. -/
  | evtStatusWrite (p : Path) (g : Fin 16) (v : Word32) (occ : List (Fin 32 × Word32 × EvtArg))
  /-- R368. A write to EVT_EN sets enables and makes a vector due for each set status newly enabled. -/
  | evtEnWrite (p : Path) (g : Fin 16) (v : Word32)
  /-- R369. A write to EVT_FORCE makes one occurrence of each source written. -/
  | evtForceWrite (p : Path) (g : Fin 16) (v : Word32)
  /-- R368. A vector ceases to be masked and its pending bit is sent or cleared. -/
  | msixUnmask (w : MsixBit)
  /-- R365. An event occurrence sets its status bit, counts, queues a log record and signals. -/
  | eventOccurrence (n : Fin 512) (ob : Word32) (arg : EvtArg)
  /-- R371. The Curator takes a queued event record, gives it SEQ and advances EVT_LOG_SEQ. -/
  | logRecordTake
  /-- R376. Writing TAKE in EVT_CENSUS_CTRL requests a snapshot. -/
  | censusTakeRegister (p : Path)
  /-- R380. Writing HOLD holds or releases the half of the last complete snapshot. -/
  | censusHoldWrite (p : Path) (b : Bool)
  /-- R376. A periodic Census instant arrives and a snapshot starts or is skipped. -/
  | censusPeriodicInstant
  /-- R372. An island latches all its cells at its first tick at or after the snapshot instant. -/
  | censusIslandLatch (k : Fin 27)
  /-- R373. A Census mark reaches a Chute's output stage and the in-flight cell is fixed. -/
  | chuteMarkAbsorb (k : Fin 256)
  /-- R377. The last cell of a snapshot is written, cell 0 is set complete and CENSUS_DONE is raised. -/
  | censusWriteComplete
  /-- R201. A bond or line ODUCm closes a second and hands its four results to performance monitoring. -/
  | pmSecondClose (fid : FramerId) (b : Nat) (rs : RsSeen)
  /-- R382. A second is classified for availability 10 s after it closes and counted in its bin. -/
  | pmSecondDecide (fid : FramerId)
  /-- R383. A 15-minute or 24-hour bin ends and the bins shift. -/
  | pmBinBoundary (day : Bool)
  /-- R15. A producer writes an item into a Chute's input stage. -/
  | chuteWrite (k : Fin 256) (data : Nat) (errs : Nat) (endMark poison : BitVec 3)
  /-- R18. An end-marked item comes to rest and the packet counter rises. -/
  | chuteItemRest (k : Fin 256)
  /-- R19. A consumer takes the item at the output stage after its SEC-DED check. -/
  | chuteRead (k : Fin 256)
  /-- R24. A Chute holds items unread for longer than the stall limit. -/
  | chuteStall (k : Fin 256)
  /-- R38. Every 100 ms the full-scale compensation is applied and the stale check of R47 is made. -/
  | convTempUpdate (c : Fin 2)
  /-- R39. A 20 ms or 80 ms measurement run of a slice ends. -/
  | measurementRunEnd (c : Fin 2) (k : Fin 8) (sl : Fin 132) (r : MeasRun)
  /-- R40. A foreground calibration group or repeat group of slices finishes measuring. -/
  | calibrationGroupEnd (c : Fin 2)
  /-- R41. Foreground calibration ends, positions are assigned and the Catalogue is written or the calibration fails. -/
  | foregroundCalComplete (c : Fin 2)
  /-- R42. A shadowing slice's output agrees within 0.5 LSB rms and the exchange is made at a clock edge. -/
  | shadowAgree (c : Fin 2) (k : Fin 8) (sel : BitVec 96)
  /-- R44. Shadowing has not agreed after 4 ms. -/
  | shadowTimeout (c : Fin 2) (k : Fin 8)
  /-- R44. A background measurement of a slice ends accepted, unfit or failed. -/
  | sliceMeasurementEnd (c : Fin 2) (k : Fin 8)
  /-- R44. The rotation gap elapses and the converter returns to SELECT. -/
  | rotationGapEnd (c : Fin 2) (k : Fin 8)
  /-- R45. A 1 ms statistics window of the active slices ends and faults are judged. -/
  | faultWindowEnd (c : Fin 2) (k : Fin 8) (ts : List SliceStat)
  /-- R45. After 4 ms of alignment the replacement takes the faulty position and the slice is retired. -/
  | emergencyAlignComplete (c : Fin 2) (k : Fin 8) (pos : Fin 128) (sel : BitVec 96)
  /-- R70. The first symbol of a folio leaves the ADC, is stamped and is demapped. -/
  | folioArrival (c : Fin 2) (g : Fin 16) (sub : Nat) (pilots : List PilotRun) (ys : List Int)
  /-- R71. The ADC rms stays below the LOS threshold for the declare time. -/
  | losDeclare (c : Fin 2)
  /-- R71. The ADC rms stays 3 dB above the threshold for the clear time. -/
  | losClear (c : Fin 2)
  /-- R72. 1 ms of FRONT_END elapses, corrections are set and groups enter CD_SEARCH. -/
  | frontEndDone (c : Fin 2) (x y : FrontEnd)
  /-- R60. The dispersion search of a group ends with a candidate or a failure. -/
  | cdSearchEnd (c : Fin 2) (coarse fine : List Nat)
  /-- R63. A group's clock recovery holds within 1/16 symbol for 100 µs. -/
  | clockLock (c : Fin 2) (g : Fin 16) (off : Int)
  /-- R63. A group's clock phase error exceeds 1/4 symbol for 10 µs. -/
  | clockLoss (c : Fin 2) (g : Fin 16)
  /-- R72. A group's CLOCK_ACQ, FREQ_ACQ, TRAIN_SYNC or EQ_ACQ time limit expires. -/
  | acquisitionTimeout (c : Fin 2) (g : Fin 16)
  /-- R66. A group's frequency offset is found within range. -/
  | freqAcquired (c : Fin 2) (g : Fin 16) (off : Int)
  /-- R66. The tracked offset leaves the range by more than 500 MHz. -/
  | freqLoss (c : Fin 2) (g : Fin 16) (off : Int)
  /-- R72. Training is found at the same position in 3 folios and the group enters EQ_ACQ. -/
  | trainingFound (c : Fin 2) (g : Fin 16)
  /-- R73. A subcarrier meets the pilot lock test and the group may enter TRACK. -/
  | subcarrierLocked (c : Fin 2) (k : Fin 16)
  /-- R73. A subcarrier in ACQ does not lock within 2 ms. -/
  | subcarrierAcqTimeout (c : Fin 2) (k : Fin 16)
  /-- R61. At each received volume the subcarrier loss test, bulk move, dispersion record and clip check run. -/
  | rxVolumeBoundary (c : Fin 2) (g : Fin 16) (v : RxVolume)
  /-- R77. The quality window ends, SNR and GMI are updated and the report advances. -/
  | qualityWindowEnd (c : Fin 2) (g : Fin 16) (ms : List (Fin 16 × SubQuality))
  /-- R95. A received loading field is checked and its report, schedule and acknowledgement used. -/
  | loadingFieldReceived (c : Fin 2) (g : Fin 16) (bs : List Byte)
  /-- R89. A candidate loading table is computed and proposed when its margin exceeds the margin in force. -/
  | loadingCandidateReady (c : Fin 2) (g : Fin 16)
  /-- R90. A loading interval ends and the averaged reports are judged against the hysteresis. -/
  | loadingIntervalEnd (c : Fin 2) (g : Fin 16)
  /-- R94. A transmit folio boundary decrements the loading countdown and switches the table at 0. -/
  | txFolioBoundary (c : Fin 2) (g : Fin 16) (sub : Nat) (src : Option (List (List Nat)))
  /-- R94. No matching ACK_TID arrives within the proposal timeout and the proposal is withdrawn. -/
  | proposalTimeout (c : Fin 2) (g : Fin 16)
  /-- R174. A transmit volume boundary advances VOLUME, the key countdown and applies new transmit corrections. -/
  | txVolumeBoundary (c : Fin 2) (g : Fin 16) (clips : List Nat) (samples : Nat)
  /-- R114. A codeword parcel is completed and sent to a pool queue or parked. -/
  | parcelAssembled (c : Fin 2) (g : Fin 16)
  /-- R115. An idle Reader takes work from its queue, by Lending or from the Reserve. -/
  | readerIdle (p : Fin 8) (r : Fin 12)
  /-- R117. A Reader iteration ends and the syndrome test, limits and result write follow. -/
  | decodeIterationEnd (p : Fin 8) (r : Fin 12) (fault : Option (List Byte))
  /-- R122. A Reserve entry's LLRs are fetched and the Reserve pass begins or is abandoned. -/
  | reserveFetchComplete (p : Fin 8) (r : Fin 12)
  /-- R122. A Reserve entry can no longer be started before its deadline and is freed. -/
  | reserveEntryExpiry (c : Fin 2) (g : Fin 16) (seq : Word32)
  /-- R127. A codeword's deadline passes and its slot stands as it is. -/
  | codewordDeadline (c : Fin 2) (g : Fin 16) (seq : Word32)
  /-- R125. A Reader result reaches a receive-queue slot and is accepted or discarded as late. -/
  | resultWrite
  /-- R124. A folio is released from the receive queue at its release time. -/
  | folioRelease (c : Fin 2) (g : Fin 16)
  /-- R129. A removed pool's queue and current codewords finish and the pool reports OUT. -/
  | poolDrained (p : Fin 8)
  /-- R143. At an Interloan slot boundary the transmitter places the next burst on a qualifying tone. -/
  | slotBoundaryTx (c : Fin 2) (x : Nat)
  /-- R147. A join window opens and an unranged leaf schedules its JOIN burst. -/
  | joinWindowStart (c : Fin 2)
  /-- R149. The tone detector declares a detection 68 symbols after an implied preamble start. -/
  | toneDetection (c : Fin 2) (t : Fin 4) (start : Nat) (ms : List Nat) (later : Nat)
  /-- R150. At symbol 127 the receiver freezes the burst frequency. -/
  | preambleEnd (c : Fin 2) (t : Fin 4) (a1 a16 : Int) (bad : Bool)
  /-- R151. At symbol 255 the Jones matrix is solved or the burst abandoned. -/
  | burstTrainingEnd (c : Fin 2) (t : Fin 4) (h1x h1y h2x h2y : Int × Int) (bad : Bool)
  /-- R152. The burst header check is ready and the receiver enters PAYLOAD or fails. -/
  | headerCrcReady (c : Fin 2) (t : Fin 4) (bs : List Byte) (bad : Bool) (stamp : Nat)
  /-- R152. The payload CRC is ready and a good burst is delivered by type. -/
  | payloadCrcReady (c : Fin 2) (t : Fin 4) (bs : List Byte) (bad : Bool) (evm : Int)
  /-- R148. No good burst from a granted leaf within the leaf timeout; the leaf is marked unranged. -/
  | leafTimeout (c : Fin 2) (l : Fin 16)
  /-- R157. An Interloan noise window ends and the noise floor is judged. -/
  | noiseWindowEnd (c : Fin 2) (t : Fin 4) (x y : Int)
  /-- R181. A received folio header drives the alignment, numbering and slice defects. -/
  | folioHeaderReceived (c : Fin 2) (g : Fin 16) (h : List Byte)
  /-- R174. A received KEY field schedules key changes, checks the tag and drives the crypt defects. -/
  | keyFieldReceived (c : Fin 2) (g : Fin 16) (kf : List Byte)
  /-- R178. A complete M1, M2 or M3 key-exchange message is received and processed. -/
  | kexMessageReceived (c : Fin 2) (g : Fin 16)
  /-- R179. A key exchange's message is incomplete when the exchange timeout expires. -/
  | kexTimeout (c : Fin 2) (g : Fin 16)
  /-- R179. The retry delay after a failed exchange ends and a new attempt starts. -/
  | kexRetry (c : Fin 2) (g : Fin 16)
  /-- R177. The rekey interval ends and the initiator starts an exchange. -/
  | rekeyIntervalEnd (c : Fin 2) (g : Fin 16)
  /-- R189. An alignment unit checks the pattern at a candidate's or its own predicted position. -/
  | alignmentPrediction (b : Fin 48) (k : Nat) (rs : List AlignCheck)
  /-- R189. An exact pattern match at a new position opens a candidate. -/
  | alignmentMatch (b : Fin 48) (k : Nat) (r : AlignCheck)
  /-- R197. A framer defect's LOF-time persistence timer completes and the defect enters or exits. -/
  | defectPersistenceEnd (fid : FramerId) (d : DefectTimer) (enter : Bool)
  /-- R195. A reassembled OTN frame is checked for MFAS, BIP and overhead acceptance. -/
  | otnFrameReceived (fid : FramerId) (sl : Fin 32) (o : OtnFrame)
  /-- R210. An OPUC multiframe boundary applies added or removed tributaries. -/
  | multiframeBoundary (kind cont group : Nat) (idles : List (Nat × Nat × Nat))
  /-- R215. A destination's ODU frame boundary applies a connection change. -/
  | switchFrameBoundary (ukind bond tpn : Nat)
  /-- R214. Every 1 µs a rate-following bond's synthesiser is steered from its buffer fill. -/
  | rateFollowSteer (b : Fin 48) (target : Int)
  /-- R214. A sourceless rate-following bond's 100 ms hold ends and it returns to the exact rate. -/
  | rateHoldEnd (b : Fin 48)
  /-- R217. A received switching-request field passes the persistence filter. -/
  | srFieldReceived (c : Fin 2) (g : Fin 16) (bs : List Byte)
  /-- R221. SF or SD still present after the hold-off becomes a request. -/
  | holdOffExpiry (c : Fin 2) (g : Fin 16)
  /-- R220. Both carriers reach TRACK or the alignment wait ends and the leads are measured. -/
  | protectionAlign (g : Fin 16)
  /-- R223. The wait-to-restore timer expires and working is selected. -/
  | wtrExpiry (g : Fin 18)
  /-- R223. The far end's requested signal has not matched 50 ms after a change. -/
  | fopTimeout (g : Fin 16)
  /-- R224. The selector changes carrier at the switch-point ODUC frame. -/
  | selectorSwitch (g : Fin 18) (arrival : Nat)
  /-- R240. A stack controller reads and decodes a word and delivers it with its outcome. -/
  | stacksRead (w : Fin 2147483648) (expect : Option (Nat × Nat)) (waiting : Bool)
  /-- R239. A whole-word write stores the new word clean. -/
  | stacksWholeWrite (w : Fin 2147483648) (data : List Byte) (seq region : Nat) (unres endMark poison : Bool)
  /-- R238. A partial write is carried out as a locked read-modify-write. -/
  | narrowWrite (w : Fin 2147483648) (off : Fin 64) (data : List Byte)
  /-- R230. A freed channel tag lets a waiting request proceed. -/
  | tagFreed (c : Fin 64)
  /-- R244. The scrubber reads the next word at its paced rate and writes back as needed. -/
  | scrubRead (waiting : Bool)
  /-- R236. A receive queue's write position wraps and added pages join it. -/
  | queueWrap (c : Fin 2)
  /-- R248. A region page is released by its reader or last entry and becomes retired. -/
  | pageRetireComplete (p : Fin 65536)
  /-- R246. Initialisation of every word completes and STACKS_INIT_DONE is raised. -/
  | stacksInitComplete
  /-- R250. A BAR2 read is judged by the Charter and served with corrected data. -/
  | apertureRead (off : Fin 67108864) (n : Fin 4097)
  /-- R250. A BAR2 write is judged by the Charter and stored. -/
  | apertureWrite (off : Fin 67108864) (bs : List Byte)
  /-- R256. A TIME island tick advances the TOD by 1.6 ns × (1 + ρ). -/
  | timeTick (n : Nat)
  /-- R261. The servo window ends and the TOD is stepped or slewed. -/
  | servoWindowEnd
  /-- R262. A TIME.ADJUST offset has been removed by slewing. -/
  | slewComplete
  /-- R263. A rising edge on 1PPS_IN is stamped and yields an offset sample. -/
  | ppsInEdge (sub : Fin 400) (widthNs : Nat)
  /-- R263. No 1PPS_IN edge arrives for 2 s. -/
  | ppsInLos
  /-- R264. A complete TOD_IN message is received and checked. -/
  | todInMessage (bs : List Byte)
  /-- R263. 1PPS_OUT rises at a whole second of the TOD. -/
  | ppsOutEdge
  /-- R264. 200 ms after a 1PPS_OUT edge the device sends a TOD_OUT message. -/
  | todOutSend
  /-- R265. A Colophon TX or RX record is received and its stamps kept. -/
  | colophonRecordReceived (c : Fin 2) (g : Fin 16) (bs : List Byte)
  /-- R266. Once per volume an end forms a Colophon offset sample. -/
  | colophonSample (c : Fin 2) (g : Fin 16)
  /-- R269. Once per second a TIME burst is queued for each active link. -/
  | timeBurstSend (c : Fin 2) (g : Fin 16)
  /-- R271. A PTP event message is stamped at ingress. -/
  | ptpIngress (b : Fin 48) (sub : Fin 26) (m : PtpMsg)
  /-- R271. A PTP event message's correctionField is updated at egress. -/
  | ptpEgress (b : Fin 48) (sub : Fin 26) (m : PtpMsg)
  /-- R275. Every second each candidate's offset is measured and tested and the history recorded. -/
  | refMeasurement (offs : List (Fin 12 × Int)) (control : Int)
  /-- R273. A reference candidate loses activity. -/
  | refActivityLoss (k : Fin 12)
  /-- R276. A candidate's qualification or wait-to-restore time completes. -/
  | qualificationTimerEnd (k : Fin 12) (restore : Bool)
  /-- R279. The lock criterion holds for the lock time and the DPLL enters LOCKED. -/
  | dpllLock
  /-- R274. Every 100 ms the oscillator estimate is updated from the sensor. -/
  | oscEstimateUpdate
  /-- R274. The learning period ends and the two halves' fits are compared and written. -/
  | loLearnEnd (fitA fitB fit : Int × Int × Int × Int) (temps : List Int)
  /-- R300. A lane's amplitude stays below the threshold for 1 µs. -/
  | laneLosDeclare (l : Fin 48)
  /-- R300. A lane's amplitude stays above the threshold plus 20 mV for 100 µs. -/
  | laneLosClear (l : Fin 48)
  /-- R300. An UP lane's clock or SNR fails the lock test for 10 µs. -/
  | laneLolDeclare (l : Fin 48)
  /-- R292. Auto-negotiation resolves a technology. -/
  | anResolved (l : Fin 48) (techs : List (Nat × Nat))
  /-- R294. Auto-negotiation does not resolve within 2.5 s. -/
  | anTimeout (l : Fin 48)
  /-- R294. Training completes and lock holds for 100 µs, and the lane goes UP. -/
  | laneTrained (l : Fin 48)
  /-- R294. A lane's training timeout elapses. -/
  | trainingTimeout (l : Fin 48)
  /-- R295. A mate training frame is received and its coefficient request and flags applied. -/
  | mateTrainingFrame (l : Fin 48) (fr : List Byte)
  /-- R296. The soak time ends and each trained lane reports PASS or FAIL. -/
  | soakEnd (ms : List (Nat × Nat))
  /-- R296. After 64 decision frames both ends apply UP, HOLD, DOWN or restart. -/
  | mateDecisionApply
  /-- R296. The 1 ms quiet ends and frames begin at the new class. -/
  | mateQuietEnd
  /-- R298. No data for the idle-entry time and the transmit direction enters EI. -/
  | idleEntry (l : Fin 48)
  /-- R298. The keep-alive period elapses in EI and a burst is sent. -/
  | keepaliveDue (l : Fin 48)
  /-- R298. The sleep delay elapses in EI and the direction enters SLEEP. -/
  | sleepDelayEnd (l : Fin 48)
  /-- R298. A data item arrives for a direction in EI or SLEEP and the direction leaves low power. -/
  | laneDataToSend (l : Fin 48)
  /-- R299. The exit burst ends and the receiver resumes or fails its exit. -/
  | exitBurstEnd (l : Fin 48) (locked : Bool)
  /-- R299. The wake time ends and an unlocked receiver goes to TRAIN. -/
  | wakeTimeEnd (l : Fin 48)
  /-- R302. A lane relocks and its loopback takes effect. -/
  | loopbackRelock (l : Fin 48)
  /-- R392. A queued power stage begins when the budget in the window allows it. -/
  | admissionStageStart
  /-- R391. Every stage is admitted, power-good holds 10 µs and the clock locks; the domain reaches its state. -/
  | domainPowerGood (d : Fin 20)
  /-- R391. Power-good is not reached within 5 ms and the domain returns to OFF. -/
  | powerGoodTimeout (d : Fin 20)
  /-- R391. A stopping domain's Chutes and transactions are empty and it reaches its lower state. -/
  | domainStopDrained (d : Fin 20)
  /-- R393. READ_VOUT holds within 1 % for 10 µs and the frequency is raised. -/
  | voutSettled (r : Fin 16)
  /-- R393. READ_VOUT does not settle within 5 ms and the transition fails. -/
  | voutSettleTimeout (r : Fin 16)
  /-- R388. Requests in progress complete during an entry and the stacks enter self-refresh. -/
  | sleepEntryDrained
  /-- R388. At the commit AON tick the wake logic takes control and clocks and rails go down. -/
  | sleepCommit
  /-- R396. An enabled wake source is latched, abandoning the entry or starting the exit. -/
  | wakeSourceLatch (src : Fin 6) (aonMs : Nat)
  /-- R389. An exit finishes and READY is set in DESK_STATUS. -/
  | wakeExitComplete (us : Nat)
  /-- R386. In IDLE a doorbell, SPI access, request or event record restarts the Curator cores. -/
  | idleCoreWake
  /-- R409. A scheduled monitor channel becomes due and its conversion starts when the converter is free. -/
  | conversionDue (k : Fin 64)
  /-- R407. A monitor conversion ends and its result enters the queue and checks. -/
  | conversionEnd (m : Fin 2) (va vb : Int)
  /-- R413. The safety function requests an urgent conversion that pre-empts the converter. -/
  | urgentRequest (k : Fin 16)
  /-- R408. A reference buffer becomes ready 2 ms after turning on. -/
  | refBufferReady (m : Fin 2)
  /-- R416. Every 10 ms ring-oscillator margins are measured and adaptive rails adjusted. -/
  | processMonitorPeriod (fro : List Nat)
  /-- R417. A periodic PMBus read of VOUT, IOUT or STATUS_WORD completes and rail faults are judged. -/
  | pmbusPoll (r : Fin 16) (rd : PmRead)
  /-- R419. Every 1 ms each sensor reads, its health and rate are judged and the thermal state updated. -/
  | sensorReading (rs : List Int)
  /-- R421. Recovery conditions hold for 1 s in WARN or 10 s in STOP and the state lowers. -/
  | thermalRecoveryHold
  /-- R419. A sensor's reading has not changed for 10 s while a neighbour moved. -/
  | sensorStuck (n : Fin 32)
  /-- R449. With changes pending and no write running, the device builds and programs a new slot. -/
  | catalogueWriteStart
  /-- R449. A Catalogue slot is programmed and read back, the pointer written and CATALOGUE_WRITTEN raised. -/
  | catalogueWriteDone (bad : List (Nat × Byte))
  /-- R449. The left slot's erase completes. -/
  | catalogueEraseDone
  /-- R444. Programming of the inactive image ends and its read-back is checked. -/
  | fwProgrammingDone (bad : List (Nat × Byte))
  /-- R452. Every 100 ms every Vault word is voted and a single differing copy rewritten. -/
  | vaultVote (ups : List (Fin 3 × Fin 256 × Word32))
  /-- R466. A safety diagnostic's periodic comparison runs and may latch a fault. -/
  | safetyDiagTick (x : DiagSample)
  /-- R458. A condition of the rule of light changes and the enable pair is driven accordingly. -/
  | safetyConditionChange (c : Fin 2)
  /-- R464. An ALS request pin holds a new level for 1 µs. -/
  | alsPinChange (c : Fin 2) (low : Bool)
  /-- R465. A restart interval ends under automatic laser shutdown and light is allowed for the pulse. -/
  | alsPulseStart (c : Fin 2)
  /-- R465. A restart pulse ends with LOS still declared and the carrier goes dark. -/
  | alsPulseEnd (c : Fin 2)
  /-- R477. A mate block is received, checked and handled by type. -/
  | mateBlockReceived (b : List Byte)
  /-- R478. Once per carrier A volume a member sends its state record. -/
  | stateRecordSend
  /-- R481. A mirrored item is written into the non-owner's transmit queue at the mirror delay. -/
  | mirrorItemApply (c : Fin 2) (tpn : Fin 1024) (w : Fin 2147483645) (seq : Nat) (lost : Bool) (shadow : List Byte) (shadowEnd : Bool)
  /-- R479. A MATE_SYNC marker is received and stamped. -/
  | mateSyncMarker (sub : Fin 400)
  /-- R479. No MATE_SYNC edge arrives for 320 ns. -/
  | mateSyncInactive
  /-- R484. No good mate block for 1 µs and the member goes ALONE. -/
  | mateLost
  /-- R484. One second after a mismatch the provisioning digests are compared again. -/
  | checkingRecompare (peer : MateProv)
  /-- R479. Once per second in LINKING beyond 1 s, MATE_SYNC_OUT is held high for 10 µs. -/
  | mateWakePulse
  /-- R505. SPI frame 0x02 writes whole words at the given address. -/
  | spiWrite (a : BitVec 24) (data : List Byte)
  /-- R505. SPI frame 0x0B reads words at the given address. -/
  | spiRead (a : BitVec 24) (n : Nat)
  /-- R505. SPI frame 0x38 writes words in quad form. -/
  | spiQwrite (a : BitVec 24) (data : List Byte)
  /-- R505. SPI frame 0xEB reads words in quad form. -/
  | spiQread (a : BitVec 24) (n : Nat)
  /-- R505. SPI frame 0x05 returns READY, RESTARTING and FRAME_ERR. -/
  | spiStatus
  /-- R505. An SPI frame with an unknown command or incomplete command or address is refused with FRAME_ERR. -/
  | spiBadFrame
  /-- R511. A keyed write of FULL to BOOT_RESET starts a software full reset when granted. -/
  | bootResetWrite (p : Path) (v : Word32)
  /-- R510. RESET_N low for 1 µs resets every domain except always-on. -/
  | resetNAssert
  /-- R432. Release of RESET_N starts the boot sequence. -/
  | resetNRelease (board : Option Flash)
  /-- R432. Boot finishes and Yozon sets READY. -/
  | yozonReady
  /-- R510. VAON rises from below the brown-out level and the whole device resets. -/
  | powerOn
  /-- R399. The always-on regulator stays below 0.62 V for 1 µs and the device resets to OFF. -/
  | brownout
  /-- R499. A supply leaves tolerance other than by command. -/
  | supplyFault (n : Fin 17)
  /-- R510. PERST_N low holds the PCIe endpoint in reset. -/
  | perstNAssert
  /-- R510. PERST_N release lets the PCIe endpoint train its link. -/
  | perstNRelease
  /-- R509. TRST_N low resets the test access port. -/
  | trstNAssert
  /-- R259. A time source ceases to be valid because its expected edge, TOD_IN message or TIME burst has not arrived in time, or the primary completes 10 s of validity, and the source in use changes. -/
  | timeSourceTimer (w : SourceTimer)
  /-- R479. An expected MATE_SYNC marker fails to arrive 1 s ± 1 µs after the previous one while edges continue, counting towards MATE_SYNC_LOST. -/
  | mateSyncMarkerMissing
  /-- R298. A lane's receive direction receives an idle marker, sleep marker or keep-alive burst and enters EI or SLEEP or re-aligns its phase. -/
  | laneRxIdleMarker (l : Fin 48) (m : IdleMark)
  /-- R299. A receive direction waking from SLEEP detects the signal and relocks from its stored equaliser within the wake time, then resumes. -/
  | laneWakeRelock (l : Fin 48)
  /-- R213. In FRAMER mode an item of a connection reaches its ingress arrival time plus the switch delay and is read from the switch buffer for a destination. -/
  | switchReadDue (ukind bond tpn : Nat) (w : Fin 2147483648) (seq arrival : Nat)
  /-- R509. A TCK edge moves the test access port state machine, including leaving or returning to Test-Logic-Reset, which gates Desk requests that change outputs. -/
  | tckEdge (rising tms tdi : Bool)
deriving DecidableEq, Repr

end Sys2Proof
end

