-- ==== Sys2Proof/WellFormed.lean ====
section
/-! DEFINITION. Well-formed commands: the operands that a row's sender can give. A Desk request is one that some entry and
bulk slot can spell (13_curator_desk.md R315, R317); a received field has the length its rule gives it; a list of
measurements names each object once. The effect of a command (Machine/) is total all the same. -/

namespace Sys2Proof

/-- No value twice. -/
def distinct : List Nat → Bool
  | [] => true
  | x :: r => !r.contains x && distinct r

/-- A request that an entry spells (R315, R317): 224 bytes of payload, 4,096 bulk bytes, none without a slot. -/
def Request.wf (q : Request) : Bool :=
  decide (q.body.length ≤ 224) && decide (q.bulk.length ≤ 4096) && (q.slot.isSome || q.bulk.isEmpty)

/-- Bit 7 of an opcode, the reading form's (R336). -/
def readingBit (op : Nat) : Bool := op / 128 % 2 == 1

/-- A container of tributaries (R207): kind 0 a carrier's group, kind 1 a bond named by its lead slice. -/
def containerOk (kind cont group : Nat) : Bool :=
  (kind == 0 && decide (cont < 2) && decide (group < 16)) || (kind == 1 && decide (cont < 48) && group == 0)

/-- A switch source or destination (R212): kind 0 a bond, kind 1 a tributary of a bond. -/
def unitOk (kind bond tpn : Nat) : Bool :=
  (kind == 0 && decide (bond < 48) && tpn == 0) || (kind == 1 && decide (bond < 48) && decide (1 ≤ tpn) && decide (tpn ≤ 640))

/-- A frame identity that exists (R211). -/
def FramerId.wf : FramerId → Bool
  | .bond _ => true
  | .odum _ _ => true
  | .trib kind cont group tpn => containerOk kind cont group && decide (1 ≤ tpn) && decide (tpn ≤ 640)

/-- A frame's overhead as its format carries it (R194, R195): MFAS of 8 bits and at most the eight layers. -/
def OtnFrame.wf (o : OtnFrame) : Bool := decide (o.mfas < 256) && decide (o.layers.length ≤ 8)

/-- The fields of a PTP message as its header carries them, and the 16-bit types, ports and checksums around it (R270, R271). -/
def PtpMsg.wf (m : PtpMsg) : Bool :=
  decide (m.correction < 2 ^ 64) && decide (m.field < 2 ^ 32) && decide (m.mtype < 16) && decide (m.major < 16) && m.tags.all (· < 65536)
    && match m.carry with
      | .ether t => decide (t < 65536)
      | .udp4 p u _ => decide (p < 65536) && decide (u < 65536)
      | .udp6 p u _ => decide (p < 65536) && decide (u < 65536)

/-- A boot flash whose ranges fit the map of R429. -/
def Flash.wf (f : Flash) : Bool :=
  decide (f.sel0.length ≤ 0x10000) && decide (f.sel1.length ≤ 0x10000) && decide (f.bcfg.length ≤ 0x10000)
    && decide (f.cat0.length ≤ 0x20000) && decide (f.cat1.length ≤ 0x20000) && decide (f.imgA.length ≤ 0x400000)
    && decide (f.imgB.length ≤ 0x400000)

/-- A well-formed command. -/
def Instr.wf : Instr → Bool
  | .deviceInfo q => q.wf
  | .deviceProvision q => q.wf
  | .eventLogGet q => q.wf
  | .censusTake q => q.wf
  | .censusSet q => q.wf
  | .censusStatus q => q.wf
  | .carrierProvision q => q.wf
  | .carrierEnable q => q.wf
  | .carrierDisable q => q.wf
  | .convCalibrate q => q.wf
  | .convRotationSet q => q.wf
  | .convSliceRetire q => q.wf
  | .convStatus q => q.wf
  | .rxdspSet q => q.wf
  | .rxdspCdHint q => q.wf
  | .rxdspReacquire q => q.wf
  | .rxdspStatus q => q.wf
  | .bitloadPolicySet q => q.wf
  | .bitloadTableSet q => q.wf
  | .bitloadCurveSet q => q.wf
  | .bitloadStatus q => q.wf
  | .txdspSet q => q.wf
  | .txdspPredistSet q => q.wf
  | .txdspStatus q => q.wf
  | .decodeSet q => q.wf
  | .decodeStatus q => q.wf
  | .decodePoolRemove q => q.wf
  | .decodePoolRestore q _ => q.wf
  | .decodeReaderEnable q _ => q.wf
  | .interloanSet q => q.wf
  | .interloanScheduleSet q => q.wf
  | .interloanSend q => q.wf
  | .interloanRecv q => q.wf
  | .interloanStatus q => q.wf
  | .frameStatus q => q.wf
  | .cryptSet q => q.wf
  | .cryptPeerSet q => q.wf
  | .cryptRekey q => q.wf
  | .cryptStatus q => q.wf
  | .framerProvision q => q.wf
  | .framerDeprovision q => q.wf
  | .framerSet q => q.wf
  | .framerOhSet q => q.wf
  | .framerOhGet q => q.wf
  | .framerMaintSet q => q.wf
  | .framerStatus q => q.wf
  | .mapTribAdd q => q.wf
  | .mapTribRemove q => q.wf
  | .mapStatus q => q.wf
  | .switchConnect q => q.wf
  | .switchDisconnect q => q.wf
  | .protProvision q => q.wf
  | .protCommand q => q.wf
  | .protRealign q => q.wf
  | .protStatus q => q.wf
  | .stacksInit q => q.wf
  | .stacksSet q => q.wf
  | .stacksRetire q => q.wf
  | .stacksStatus q => q.wf
  | .stacksTrackerGet q => q.wf
  | .stacksTrackerClear q => q.wf
  | .stacksAccessionGet q => q.wf
  | .stacksWordRead q => q.wf
  | .timeProvision q => q.wf
  | .timeRefTableSet q => q.wf
  | .timeRefCommand q => q.wf
  | .timeLoCompSet q => q.wf
  | .timeLoLearn q => q.wf
  | .timeSourceSet q => q.wf
  | .timeSet q => q.wf
  | .timeAdjust q => q.wf
  | .timeLinkSet q => q.wf
  | .timePpsSet q => q.wf
  | .timeTest q _ => q.wf
  | .timeStatus q => q.wf
  | .ptpTcSet q => q.wf
  | .laneProvision q => q.wf
  | .laneDeprovision q => q.wf
  | .laneSet q => q.wf
  | .laneTestSet q _ => q.wf
  | .laneLoopbackSet q => q.wf
  | .laneMateRetrain q => q.wf
  | .laneStatus q _ => q.wf
  | .powerDeviceSet q => q.wf
  | .powerDomainSet q => q.wf
  | .powerWakeSet q => q.wf
  | .powerStatus q => q.wf
  | .monRefSet q => q.wf
  | .monChannelSet q => q.wf
  | .monRead q => q.wf
  | .monStatus q => q.wf
  | .thermalStatus q => q.wf
  | .pmbusRailSet q => q.wf
  | .pmbusStatus q => q.wf
  | .gpioSet q => q.wf
  | .gpioGet q _ => q.wf
  | .secIdentityGet q => q.wf
  | .secAttest q => q.wf
  | .secCharterGet q => q.wf
  | .fwLoad q => q.wf
  | .fwActivate q => q.wf
  | .fwCommit q => q.wf
  | .fwStatus q => q.wf
  | .catalogueStatus q => q.wf
  | .catalogueRead q => q.wf
  | .catalogueReset q => q.wf
  | .safetyTxenSet q => q.wf
  | .safetyStatus q => q.wf
  | .safetyProofTest q _ => q.wf
  | .mateProvision q => q.wf
  | .mateCommand q _ => q.wf
  | .mateStatus q => q.wf
  | .readingForm op q => decide (op < 65536) && readingBit op && q.wf
  | .deskReqTailWrite _ _ _ => true
  | .requestAccept _ => true
  | .holdRelease _ _ _ => true
  | .holdLimitExpiry _ _ => true
  | .functionReplyTimeout _ _ => true
  | .responseWrite _ => true
  | .deskRspHeadWrite _ _ _ => true
  | .deskChReset _ _ _ => true
  | .channelResetComplete _ => true
  | .firmwareRestartReady => true
  | .watchdogRestart => true
  | .trialEnd => true
  | .trialFallback => true
  | .registerWrite _ _ _ => true
  | .evtStatusWrite _ _ _ occ => distinct (occ.map fun x => x.1.val)
  | .evtEnWrite _ _ _ => true
  | .evtForceWrite _ _ _ => true
  | .msixUnmask _ => true
  | .eventOccurrence _ _ _ => true
  | .logRecordTake => true
  | .censusTakeRegister _ => true
  | .censusHoldWrite _ _ => true
  | .censusPeriodicInstant => true
  | .censusIslandLatch _ => true
  | .chuteMarkAbsorb _ => true
  | .censusWriteComplete => true
  | .pmSecondClose fid _ _ => fid.wf
  | .pmSecondDecide fid => fid.wf
  | .pmBinBoundary _ => true
  | .chuteWrite _ data errs _ _ => decide (data < 2 ^ 1024) && decide (errs ≤ 2)
  | .chuteItemRest _ => true
  | .chuteRead _ => true
  | .chuteStall _ => true
  | .convTempUpdate _ => true
  | .measurementRunEnd _ k _ r => r.noSel || selOk k.val r.sel.toNat
  | .calibrationGroupEnd _ => true
  | .foregroundCalComplete _ => true
  | .shadowAgree _ k sel => selOk k.val sel.toNat
  | .shadowTimeout _ _ => true
  | .sliceMeasurementEnd _ _ => true
  | .rotationGapEnd _ _ => true
  | .faultWindowEnd _ _ ts => distinct (ts.map fun x => x.slice.val)
  | .emergencyAlignComplete _ k _ sel => selOk k.val sel.toNat
  | .folioArrival _ _ sub pilots _ => decide (sub < 104858) && pilots.all (fun p => decide (p.pilots.length ≤ 128))
      && distinct (pilots.map fun p => 2 * p.k.val + if p.y then 1 else 0)
  | .losDeclare _ => true
  | .losClear _ => true
  | .frontEndDone _ x y => x.inRange == x && y.inRange == y
  | .cdSearchEnd _ coarse fine => decide (coarse.length ≤ 401) && decide (fine.length ≤ 41)
  | .clockLock _ _ off => decide (off.natAbs ≤ 102400)
  | .clockLoss _ _ => true
  | .acquisitionTimeout _ _ => true
  | .freqAcquired _ _ _ => true
  | .freqLoss _ _ _ => true
  | .trainingFound _ _ => true
  | .subcarrierLocked _ _ => true
  | .subcarrierAcqTimeout _ _ => true
  | .rxVolumeBoundary _ _ v => distinct (v.delays.map fun x => x.1.val) && decide (v.clipped ≤ v.samples)
  | .qualityWindowEnd _ _ ms => distinct (ms.map fun x => x.1.val)
  | .loadingFieldReceived _ _ bs => bs.length == 112
  | .loadingCandidateReady _ _ => true
  | .loadingIntervalEnd _ _ => true
  | .txFolioBoundary _ _ sub src => decide (sub < 104858) && (src.getD []).all (fun l => l.all fun w => decide (w < 2 ^ 31))
  | .proposalTimeout _ _ => true
  | .txVolumeBoundary _ _ clips samples => clips.length == 4 && clips.all fun n => decide (n ≤ samples)
  | .parcelAssembled _ _ => true
  | .readerIdle _ _ => true
  | .decodeIterationEnd _ _ fault => fault.all fun b => b.length == 2560
  | .reserveFetchComplete _ _ => true
  | .reserveEntryExpiry _ _ _ => true
  | .codewordDeadline _ _ _ => true
  | .resultWrite => true
  | .folioRelease _ _ => true
  | .poolDrained _ => true
  | .slotBoundaryTx _ x => decide (x < 2 ^ 18)
  | .joinWindowStart _ => true
  | .toneDetection _ _ _ ms _ => ms.length == 65 && ms.all fun m => decide (m ≤ 65536)
  | .preambleEnd _ _ a1 a16 _ => decide (a1.natAbs ≤ 32768) && decide (a16.natAbs ≤ 32768)
  | .burstTrainingEnd _ _ _ _ _ _ _ => true
  | .headerCrcReady _ _ bs _ _ => bs.length == 32
  | .payloadCrcReady _ _ bs _ _ => decide (4 ≤ bs.length) && decide (bs.length ≤ 2052)
  | .leafTimeout _ _ => true
  | .noiseWindowEnd _ _ _ _ => true
  | .folioHeaderReceived _ _ h => h.length == 16
  | .keyFieldReceived _ _ kf => kf.length == 26
  | .kexMessageReceived _ _ => true
  | .kexTimeout _ _ => true
  | .kexRetry _ _ => true
  | .rekeyIntervalEnd _ _ => true
  | .alignmentPrediction _ _ rs => distinct (rs.map fun x => x.pos)
  | .alignmentMatch _ _ _ => true
  | .defectPersistenceEnd fid _ _ => fid.wf
  | .otnFrameReceived fid _ o => fid.wf && o.wf
  | .multiframeBoundary kind cont group idles => containerOk kind cont group && distinct (idles.map fun x => x.1)
  | .switchFrameBoundary ukind bond tpn => unitOk ukind bond tpn
  | .rateFollowSteer _ _ => true
  | .rateHoldEnd _ => true
  | .srFieldReceived _ _ bs => bs.length == 6
  | .holdOffExpiry _ _ => true
  | .protectionAlign _ => true
  | .wtrExpiry _ => true
  | .fopTimeout _ => true
  | .selectorSwitch _ _ => true
  | .stacksRead _ _ _ => true
  | .stacksWholeWrite _ data seq region _ _ _ => data.length == 64 && decide (seq < 256) && decide (region < 8)
  | .narrowWrite _ off data => !data.isEmpty && decide (off.val + data.length ≤ 64)
  | .tagFreed _ => true
  | .scrubRead _ => true
  | .queueWrap _ => true
  | .pageRetireComplete _ => true
  | .stacksInitComplete => true
  | .apertureRead off n => decide (off.val + n.val ≤ 2 ^ 26)
  | .apertureWrite off bs => decide (bs.length ≤ 4096) && decide (off.val + bs.length ≤ 2 ^ 26)
  | .timeTick _ => true
  | .servoWindowEnd => true
  | .slewComplete => true
  | .ppsInEdge _ _ => true
  | .ppsInLos => true
  | .todInMessage _ => true
  | .ppsOutEdge => true
  | .todOutSend => true
  | .colophonRecordReceived _ _ bs => bs.length == 16
  | .colophonSample _ _ => true
  | .timeBurstSend _ _ => true
  | .ptpIngress _ _ m => m.wf
  | .ptpEgress _ _ m => m.wf
  | .refMeasurement offs _ => distinct (offs.map fun x => x.1.val)
  | .refActivityLoss _ => true
  | .qualificationTimerEnd _ _ => true
  | .dpllLock => true
  | .oscEstimateUpdate => true
  | .loLearnEnd _ _ _ _ => true
  | .laneLosDeclare _ => true
  | .laneLosClear _ => true
  | .laneLolDeclare _ => true
  | .anResolved _ _ => true
  | .anTimeout _ => true
  | .laneTrained _ => true
  | .trainingTimeout _ => true
  | .mateTrainingFrame _ fr => fr.length == 22
  | .soakEnd ms => decide (ms.length = 16)
  | .mateDecisionApply => true
  | .mateQuietEnd => true
  | .idleEntry _ => true
  | .keepaliveDue _ => true
  | .sleepDelayEnd _ => true
  | .laneDataToSend _ => true
  | .exitBurstEnd _ _ => true
  | .wakeTimeEnd _ => true
  | .loopbackRelock _ => true
  | .admissionStageStart => true
  | .domainPowerGood _ => true
  | .powerGoodTimeout _ => true
  | .domainStopDrained _ => true
  | .voutSettled _ => true
  | .voutSettleTimeout _ => true
  | .sleepEntryDrained => true
  | .sleepCommit => true
  | .wakeSourceLatch _ _ => true
  | .wakeExitComplete _ => true
  | .idleCoreWake => true
  | .conversionDue _ => true
  | .conversionEnd _ _ _ => true
  | .urgentRequest _ => true
  | .refBufferReady _ => true
  | .processMonitorPeriod fro => fro.length == 27
  | .pmbusPoll _ _ => true
  | .sensorReading rs => rs.length == 32
  | .thermalRecoveryHold => true
  | .sensorStuck _ => true
  | .catalogueWriteStart => true
  | .catalogueWriteDone _ => true
  | .catalogueEraseDone => true
  | .fwProgrammingDone _ => true
  | .vaultVote _ => true
  | .safetyDiagTick _ => true
  | .safetyConditionChange _ => true
  | .alsPinChange _ _ => true
  | .alsPulseStart _ => true
  | .alsPulseEnd _ => true
  | .mateBlockReceived b => b.length == 264
  | .stateRecordSend => true
  | .mirrorItemApply _ _ _ seq _ shadow _ => decide (seq < 256) && shadow.length == 256
  | .mateSyncMarker _ => true
  | .mateSyncInactive => true
  | .mateLost => true
  | .checkingRecompare _ => true
  | .mateWakePulse => true
  | .spiWrite _ data => data.length % 4 == 0
  | .spiRead _ _ => true
  | .spiQwrite _ data => data.length % 4 == 0
  | .spiQread _ _ => true
  | .spiStatus => true
  | .spiBadFrame => true
  | .bootResetWrite _ _ => true
  | .resetNAssert => true
  | .resetNRelease board => match board with
    | some f => f.wf
    | none => true
  | .yozonReady => true
  | .powerOn => true
  | .brownout => true
  | .supplyFault _ => true
  | .perstNAssert => true
  | .perstNRelease => true
  | .trstNAssert => true
  | .timeSourceTimer _ => true
  | .mateSyncMarkerMissing => true
  | .laneRxIdleMarker _ _ => true
  | .laneWakeRelock _ => true
  | .switchReadDue ukind bond tpn _ _ _ => unitOk ukind bond tpn
  | .tckEdge _ _ _ => true

end Sys2Proof
end

