-- ==== Sys2Proof/Decode.lean ====
section
/-! DEFINITION. Decoding of command words. The operation table gives no row any bits (a command is an access, a request entry
or an event, not a word), so no word spells a command. The Desk's own request entries are read by `requestOf`
(Machine/Ops.lean, 13_curator_desk.md R315), and the SPI frames and BAR0 addresses by Machine/Registers.lean. -/

namespace Sys2Proof

/-- The command that a table word spells: none, since the table numbers no bits. -/
def decodeTableWord (_nbits _w : Nat) : Option Instr := none

end Sys2Proof
end

