-- ==== Sys2Proof/Config.lean ====
section
/-! DEFINITION. What an implementation fixes and what the spec leaves open: values that no proof can see (`opaque`, each
applied to plain data), and the identities the spec names without giving their places. -/

namespace Sys2Proof.Config

/-- A free value of `w` bits, drawn by the counter of the state (log 7). -/
opaque freeBits (w : Nat) (n : Nat) : BitVec w

/-- A free integer, drawn by the counter of the state (log 7). -/
opaque freeInt (n : Nat) : Int

/-- How far an island's replica of the time of day lies from TIME's at a system tick, before it is brought into the bound that
R14 gives (log 59). -/
opaque replica (island tick : Nat) : Int

/-- The order code is "E"; else it is "C" (R339, R434: by OTP; log 8). -/
opaque orderE : Bool

/-- The serial number that the factory block holds (R430, R434; log 8). -/
opaque serial : Word64

/-- What the Catalogue record 0x0013 gives for an island of R12: the voltage (mV) that its clock needs, and its ratio K in
1/1,000 (R416, R448 name both; the record's layout is open, log 43). -/
opaque curveMv (rec : List Byte) (island : Nat) : Nat
opaque ringRatio (rec : List Byte) (island : Nat) : Nat

/-- The detection threshold of the dispersion search (R60, which gives no value), in units of the clock-tone metric. -/
opaque cdThreshold : Nat

/-- The amplitude response at a frequency point that Factory record 0x0002 gives, 0.01 dB (R98, R448 name it; layout: log 43). -/
opaque dacResponse (rec : List Byte) (point : Nat) : Int

/-- The full-scale compensation that the coefficients of Factory record 0x0003 give a converter (8 × carrier + converter) at a
temperature (R38, R448 name them; the record's layout is open, log 43). -/
opaque fullScale (rec : List Byte) (conv : Nat) (temp : Int) : Int

/-- The arbitrary content of a stored symbol that nothing has written since the n-th loss of contents (R246; log 11). -/
opaque powerUpSymbol (n addr : Nat) : Byte

/-- Where in a join period of `n` volumes the hub's join window begins (R147 gives its length and period; log 31). -/
opaque joinPhase (n : Nat) : Nat

/-- OTP (R430): the device secret (log 8). -/
opaque deviceSecret : BitVec 256

/-- OTP (R430): the four signer slots, the factory block and its digest; the version of the boot ROM (R441; log 8). -/
opaque otpSigner (k : Nat) : BitVec 256
opaque factoryBlock : List Byte
opaque factoryDigest : BitVec 256
opaque romVersion : Word32

/-- Does the min-sum product round up when it leaves a fraction of r/16 (R117, which gives no rounding; log 66)? -/
opaque minSumUp (r : Nat) : Bool

/-- The bits of overhead periods past the end of the overhead block (R161, R163; log 68). -/
opaque ohPad (i : Nat) : Bool

/-- The demapper (R68, which names its inputs and gives no formula; log 67): the 5-bit LLR of a bit level and the hard decision of a
higher one, from the format and entropy of the loading table, the subcarrier's SNR (1/256 dB) and the component as equalised. -/
opaque llr (fmt entropy : Nat) (snr : Int) (level : Nat) (y : Int) : BitVec 5
opaque hardLevel (fmt entropy : Nat) (snr : Int) (level : Nat) (y : Int) : Bool

/-- The outer code (R166; the spec names a zipper code and gives no construction; log 67): the coded folio from the payload areas of
this folio and those before it; its decoding from what the receive queue held for this folio and those before it, with the bits
corrected in all and in levels 2 and 3, and the blocks with rows left unsatisfied (R77, R131). -/
opaque outerEncode (areas : List (List Byte)) : List Byte
structure OuterOut where
  payload : List Byte
  corrected : Nat
  level2 : Nat
  level3 : Nat
  blocks : Nat
deriving Inhabited
opaque outerDecode (slots : List (List Byte)) : OuterOut

/-- The distribution matcher (R83, R110; no algorithm given; log 67): the information bits of the i-th codeword that begins in a
folio, and its upper-level bits, from the coded folio, the LDPC rate and the loading table. -/
opaque matchedInfo (coded : List Byte) (rate : Nat) (table : List Nat) (i : Nat) : List Byte
opaque matchedUpper (coded : List Byte) (rate : Nat) (table : List Nat) (i : Nat) : List Bool

/-- The payload type that the mapping provisioning gives an ODU (R196), by kind of tributary: 0 ODUflex by IMP, 1 ODU4,
2 ODUflex by GMP, 3 an ODUCn or ODUCm that is demultiplexed (values of ITU-T G.709; log 33). -/
opaque mappingPt (kind : Nat) : Nat

/-- The test access port's codes (R509 names the instructions; their codes, the length of the instruction register, the bits that it
captures above the two of IEEE 1149.1, the boundary register and what it captures are open; log 55). -/
opaque irLength : Nat
opaque irCapture (i : Nat) : Bool
opaque tapIns (code : Nat) : TapIns
opaque boundaryCells : Nat
opaque boundarySample (n i : Nat) : Bool

end Sys2Proof.Config
end

