-- ==== Sys2Proof/Machine/Bytes.lean ====
section
/-! DEFINITION. Byte order, bit fields, saturating counts, check codes and the small operations on fixed arrays that
every chapter uses (00_scope.md R7, R8; R23 saturation). -/

namespace Sys2Proof.Machine

/-- Little-endian bytes of a number (R8: registers and Desk payloads). -/
def leBytes : Nat → Nat → List Byte
  | 0, _ => []
  | k + 1, v => BitVec.ofNat 8 v :: leBytes k (v / 256)

/-- The number that little-endian bytes spell (R8). -/
def leNat : List Byte → Nat
  | [] => 0
  | b :: bs => b.toNat + 256 * leNat bs

/-- Most-significant-byte-first bytes of a number (R8: line and client overhead). -/
def beBytes (k v : Nat) : List Byte := (leBytes k v).reverse

/-- The number that most-significant-first bytes spell (R8). -/
def beNat (l : List Byte) : Nat := leNat l.reverse

/-- Two's complement reading of a `w`-bit number. -/
def signedOf (w v : Nat) : Int := (BitVec.ofNat w v).toInt

/-- The `w`-bit two's complement code of an integer. -/
def codeOf (w : Nat) (v : Int) : Nat := (BitVec.ofInt w v).toNat

/-- `n` bytes of a list from an offset; bytes past its end read 0. -/
def bytesAt (l : List Byte) (off n : Nat) : List Byte :=
  ((l.drop off).take n) ++ List.replicate (n - (l.drop off).length) 0

/-- The byte at an offset; past the end it reads 0. -/
def byteAt (l : List Byte) (off : Nat) : Nat := (l.getD off 0).toNat

/-- The little-endian number of `n` bytes at an offset. -/
def natAt (l : List Byte) (off n : Nat) : Nat := leNat (bytesAt l off n)

/-- The most-significant-first number of `n` bytes at an offset. -/
def beAt (l : List Byte) (off n : Nat) : Nat := beNat (bytesAt l off n)

/-- Pad (or cut) a byte list to `n` bytes with 0. -/
def padTo (n : Nat) (l : List Byte) : List Byte := bytesAt l 0 n

/-- Put bytes over a list at an offset, keeping its length. -/
def overlay (l : List Byte) (off : Nat) (bs : List Byte) : List Byte :=
  (l.take off) ++ (bs.take (l.length - off)) ++ (l.drop (off + bs.length))

/-- Is bit `i` of a number 1? -/
def bit (v i : Nat) : Bool := v.testBit i

/-- The `n`-bit field of a number from bit `lo`. -/
def field (v lo n : Nat) : Nat := v / 2 ^ lo % 2 ^ n

/-- A Bool as a bit. -/
def b2n (b : Bool) : Nat := if b then 1 else 0

/-- The largest value of a 64-bit saturating count (R23, R365). -/
def max64 : Nat := 2 ^ 64 - 1

/-- Add to a 64-bit saturating count. -/
def satAdd (a k : Nat) : Nat := min (a + k) max64

/-- Add 1 to a 64-bit saturating count. -/
def bump (a : Nat) : Nat := satAdd a 1

/-- Replace one element of a fixed array by a function of it. -/
def upd {α : Type} {n : Nat} (v : Vector α n) (i : Fin n) (f : α → α) : Vector α n := v.set i (f v[i])

/-- Replace one element of a fixed array by an index that may lie outside it (then nothing changes). -/
def updNat {α : Type} {n : Nat} (v : Vector α n) (i : Nat) (f : α → α) : Vector α n :=
  if h : i < n then v.set i (f v[i]) else v

/-- Read a fixed array at an index that may lie outside it. -/
def getNat {α : Type} {n : Nat} (d : α) (v : Vector α n) (i : Nat) : α := v.toList.getD i d

/-- The positions of a list's elements that satisfy a test. -/
def positions {α : Type} (p : α → Bool) (l : List α) : List Nat :=
  (l.zipIdx.filter fun x => p x.1).map (·.2)

/-- Look up the first entry with a key. -/
def lookupD {α : Type} (d : α) (k : Nat) : List (Nat × α) → α
  | [] => d
  | (j, v) :: r => if j = k then v else lookupD d k r

/-- Set the entry with a key in a key-ordered list. -/
def putKey {α : Type} (k : Nat) (v : α) : List (Nat × α) → List (Nat × α)
  | [] => [(k, v)]
  | (j, w) :: r => if k < j then (k, v) :: (j, w) :: r else if j = k then (k, v) :: r else (j, w) :: putKey k v r

/-- Remove the entry with a key. -/
def delKey {α : Type} (k : Nat) (l : List (Nat × α)) : List (Nat × α) := l.filter fun x => x.1 ≠ k

/-- One step of a most-significant-bit-first CRC of `w` bits with polynomial `poly`. -/
def crcBit (w poly crc : Nat) (b : Bool) : Nat :=
  let top := crc.testBit (w - 1) != b
  let sh := (crc * 2) % 2 ^ w
  if top then Nat.xor sh poly else sh

/-- A CRC over bytes, each sent bit 7 first. -/
def crcBytes (w poly init : Nat) (l : List Byte) : Nat :=
  l.foldl (fun c b => (List.range 8).foldl (fun c k => crcBit w poly c (b.toNat.testBit (7 - k))) c) init

/-- CRC-16 with polynomial 0x1021 and initial value 0xFFFF (the line overhead's check). -/
def crc16 (l : List Byte) : Nat := crcBytes 16 0x1021 0xFFFF l

/-- Reverse the low `n` bits of a number. -/
def revBits (n v : Nat) : Nat := (List.range n).foldl (fun a i => if v.testBit i then a + 2 ^ (n - 1 - i) else a) 0

/-- CRC-32C (Castagnoli): reflected, initial value and final complement all ones. Its register after more bytes; the code that a
register gives. -/
def crc32cOver (c : Nat) (l : List Byte) : Nat :=
  l.foldl (fun c b => (List.range 8).foldl (fun c k => crcBit 32 0x1EDC6F41 c (b.toNat.testBit k)) c) c
def crc32cEnd (c : Nat) : Nat := Nat.xor (revBits 32 c) 0xFFFFFFFF
def crc32c (l : List Byte) : Nat := crc32cEnd (crc32cOver 0xFFFFFFFF l)

/-- Round a quotient of integers to the nearest integer, halves away from zero. -/
def divRound (a : Int) (b : Nat) : Int :=
  if a ≥ 0 then (2 * a + b) / (2 * b) else -((2 * (-a) + b) / (2 * b))

/-- The smallest `k` with `a ≤ k * b`. -/
def ceilDiv (a b : Nat) : Nat := (a + b - 1) / b

end Sys2Proof.Machine
end

