-- ==== Sys2Proof/Machine/Crypto.lean ====
section
/-! DEFINITION. The standard functions that the spec names: AES-256 in GCM (07_folio_encryption.md R171: NIST SP 800-38D, FIPS 197)
and SHA3-256 with its relatives (R177, R178; 18_boot_security.md R429 to R440: FIPS 202). -/

namespace Sys2Proof.Machine

/-- Product in GF(2^8) with x^8 + x^4 + x^3 + x + 1 (FIPS 197). -/
def aesMul (a b : Nat) : Nat :=
  ((List.range 8).foldl (fun (x : Nat × Nat) k =>
    (if b.testBit k then Nat.xor x.1 x.2 else x.1, if 128 ≤ x.2 then Nat.xor (2 * x.2) 0x11B else 2 * x.2)) (0, a)).1

/-- The S-box: the inverse, a^254, then the affine map. -/
def aesInv (a : Nat) : Nat :=
  let a2 := aesMul a a
  let a3 := aesMul a2 a
  let a12 := aesMul (aesMul a3 a3) (aesMul a3 a3)
  let a15 := aesMul a12 a3
  let sq (x : Nat) : Nat := aesMul x x
  aesMul (aesMul (sq (sq (sq (sq a15)))) a12) a2
def aesSub (a : Nat) : Nat :=
  let b := aesInv a
  let rot (k : Nat) : Nat := (b * 2 ^ k + b / 2 ^ (8 - k)) % 256
  Nat.xor (Nat.xor (Nat.xor b (rot 1)) (Nat.xor (rot 2) (rot 3))) (Nat.xor (rot 4) 0x63)

/-- The 60 words of the key schedule of AES-256, each four bytes; the state of the fold is the words so far, newest first. -/
def xorL (a b : List Nat) : List Nat := List.zipWith Nat.xor a b
def aesKeys (key : List Nat) : List (List Nat) :=
  let first := ((List.range 8).map fun i => (key.drop (4 * i)).take 4).reverse
  (((List.range 52).foldl (fun (x : List (List Nat) × Nat) j =>
    let i := j + 8
    let t := x.1.headD []
    let u := if i % 8 = 0 then xorL ((t.drop 1 ++ t.take 1).map aesSub) [x.2, 0, 0, 0]
      else if i % 8 = 4 then t.map aesSub else t
    (xorL (x.1.getD 7 []) u :: x.1, if i % 8 = 0 then aesMul x.2 2 else x.2)) (first, 1)).1).reverse

/-- One block under a key schedule: 14 rounds over the 16 bytes in column order. -/
def aesShift (s : List Nat) : List Nat := (List.range 16).map fun i => s.getD ((i + 4 * (i % 4)) % 16) 0
def aesMix (s : List Nat) : List Nat :=
  (List.range 16).map fun i =>
    let a (k : Nat) : Nat := s.getD (4 * (i / 4) + (i + k) % 4) 0
    Nat.xor (Nat.xor (aesMul (a 0) 2) (aesMul (a 1) 3)) (Nat.xor (a 2) (a 3))
def aesBlock (ks : List (List Nat)) (b : List Nat) : List Nat :=
  let rk (r : Nat) : List Nat := ((ks.drop (4 * r)).take 4).flatten
  let s := (List.range 13).foldl (fun s r => xorL (aesMix (aesShift (s.map aesSub))) (rk (r + 1))) (xorL b (rk 0))
  xorL (aesShift (s.map aesSub)) (rk 14)

/-- A 128-bit block as a number, most significant byte first. -/
def blockNat (b : List Nat) : Nat := (b ++ List.replicate (16 - b.length) 0).foldl (fun a x => 256 * a + x) 0
def natBlock (n : Nat) : List Nat := (List.range 16).map fun i => n / 256 ^ (15 - i) % 256

/-- Product in GF(2^128) of GCM (SP 800-38D, 6.3). -/
def ghashMul (x y : Nat) : Nat :=
  ((List.range 128).foldl (fun (p : Nat × Nat) i =>
    (if x.testBit (127 - i) then Nat.xor p.1 p.2 else p.1,
      if p.2.testBit 0 then Nat.xor (p.2 / 2) (0xE1 * 2 ^ 120) else p.2 / 2)) (0, y)).1

/-- A volume that GCM goes over in pieces: the key, the first counter block J0, the GHASH so far, the ciphertext that does not fill a
block yet, and the bytes of additional data and ciphertext. -/
structure Gcm where
  key : BitVec 256 := 0
  j0 : Nat := 0
  hash : Nat := 0
  tail : List Byte := []
  aad : Nat := 0
  len : Nat := 0
deriving DecidableEq, Repr

/-- The key schedule, and the hash key of GCM. -/
def gcmKeys (key : BitVec 256) : List (List Nat) := aesKeys ((beBytes 32 key.toNat).map (·.toNat))
def gcmH (ks : List (List Nat)) : Nat := blockNat (aesBlock ks (List.replicate 16 0))

/-- GHASH over the whole blocks of bytes (`n` of them at most). -/
def ghash (h : Nat) : Nat → Nat → List Byte → Nat
  | 0, y, _ => y
  | n + 1, y, bs => ghash h n (ghashMul (Nat.xor y (blockNat ((bs.take 16).map (·.toNat)))) h) (bs.drop 16)

/-- Begin with a 96-bit IV and additional data. -/
def gcmStart (key : BitVec 256) (iv aad : List Byte) : Gcm :=
  let h := gcmH (gcmKeys key)
  { key := key, j0 := beNat (padTo 12 iv) * 2 ^ 32 + 1, hash := ghash h (ceilDiv aad.length 16) 0 aad, aad := aad.length }

/-- The key stream from byte `pos` of a volume: counter blocks J0 + 1 onwards. -/
def gcmStream (g : Gcm) (n : Nat) : List Byte :=
  let ks := gcmKeys g.key
  let a := g.len / 16
  let blocks := (List.range ((g.len + n + 15) / 16 - a)).flatMap fun i =>
    aesBlock ks (natBlock (g.j0 / 2 ^ 32 * 2 ^ 32 + (g.j0 + 1 + a + i) % 2 ^ 32))
  ((blocks.drop (g.len % 16)).take n).map (BitVec.ofNat 8)

/-- Take ciphertext into the GHASH. -/
def Gcm.absorb (g : Gcm) (ct : List Byte) : Gcm :=
  let l := g.tail ++ ct
  let n := l.length / 16
  { g with hash := ghash (gcmH (gcmKeys g.key)) n g.hash (l.take (16 * n)), tail := l.drop (16 * n), len := g.len + ct.length }

/-- Encrypt or decrypt a piece. -/
def gcmEncrypt (g : Gcm) (pt : List Byte) : Gcm × List Byte :=
  let ct := List.zipWith (· ^^^ ·) pt (gcmStream g pt.length)
  (g.absorb ct, ct)
def gcmDecrypt (g : Gcm) (ct : List Byte) : Gcm × List Byte :=
  (g.absorb ct, List.zipWith (· ^^^ ·) ct (gcmStream g ct.length))

/-- The 128-bit tag. -/
def gcmTag (g : Gcm) : Nat :=
  let ks := gcmKeys g.key
  let h := gcmH ks
  let y := if g.tail.isEmpty then g.hash else ghash h 1 g.hash g.tail
  Nat.xor (ghashMul (Nat.xor y (8 * g.aad * 2 ^ 64 + 8 * g.len)) h) (blockNat (aesBlock ks (natBlock g.j0)))

/-- Keccak-f[1600] (FIPS 202): 25 lanes of 64 bits, lane (x, y) at x + 5y. -/
def rotl64 (v k : Nat) : Nat := (v * 2 ^ k + v / 2 ^ (64 - k)) % 2 ^ 64
def keccakRot : List Nat :=
  [0, 1, 62, 28, 27, 36, 44, 6, 55, 20, 3, 10, 43, 25, 39, 41, 45, 15, 21, 8, 18, 2, 61, 56, 14]

/-- The round constants, by the linear feedback register of the standard. -/
def keccakRc : Nat → Nat → Nat × Nat
  | 0, r => (0, r)
  | j + 1, r =>
    let x := keccakRc j r
    let r1 := 2 * x.2
    (if x.2.testBit 0 then x.1 + 2 ^ (2 ^ j - 1) else x.1, if r1.testBit 8 then Nat.xor r1 0x171 else r1)
def keccakRound (rc : Nat) (a : List Nat) : List Nat :=
  let l (i : Nat) : Nat := a.getD i 0
  let c := (List.range 5).map fun x => Nat.xor (Nat.xor (Nat.xor (l x) (l (x + 5))) (Nat.xor (l (x + 10)) (l (x + 15)))) (l (x + 20))
  let d := (List.range 5).map fun x => Nat.xor (c.getD ((x + 4) % 5) 0) (rotl64 (c.getD ((x + 1) % 5) 0) 1)
  let e := (List.range 25).map fun i => rotl64 (Nat.xor (l i) (d.getD (i % 5) 0)) (keccakRot.getD i 0)
  let b := (List.range 25).map fun i =>
    let x := i % 5
    let y := i / 5
    e.getD ((x + 3 * y) % 5 + 5 * x) 0
  (List.range 25).map fun i =>
    let x := i % 5
    let y := i / 5 * 5
    let v := Nat.xor (b.getD i 0) (Nat.land (Nat.xor (b.getD ((x + 1) % 5 + y) 0) (2 ^ 64 - 1)) (b.getD ((x + 2) % 5 + y) 0))
    if i = 0 then Nat.xor v rc else v
def keccakF (a : List Nat) : List Nat :=
  ((List.range 24).foldl (fun (x : List Nat × Nat) _ =>
    let rc := keccakRc 7 x.2
    (keccakRound rc.1 x.1, rc.2)) (a, 1)).1

/-- The sponge: absorb blocks of `rate` bytes, then squeeze `n` bytes. `fuel` bounds the number of blocks. -/
def keccakIn (rate : Nat) : Nat → List Byte → List Nat → List Nat
  | 0, _, a => a
  | k + 1, m, a =>
    keccakIn rate k (m.drop rate) (keccakF (a.zipIdx.map fun x =>
      if 8 * x.2 < rate then Nat.xor x.1 (natAt m (8 * x.2) 8) else x.1))
def keccakOut (rate : Nat) : Nat → List Nat → List Byte
  | 0, _ => []
  | k + 1, a => ((a.flatMap (leBytes 8)).take rate) ++ keccakOut rate k (keccakF a)
def sponge (rate suffix n : Nat) (m : List Byte) : List Byte :=
  let k := m.length / rate + 1
  let pad := m ++ [BitVec.ofNat 8 suffix] ++ List.replicate (rate * k - m.length - 1) 0
  let p := pad.modify (rate * k - 1) fun b => b ^^^ 0x80
  (keccakOut rate (ceilDiv n rate) (keccakIn rate k p (List.replicate 25 0))).take n

/-- SHA3-256, SHA3-512, SHAKE128 and SHAKE256 of bytes. -/
def sha3Bytes (m : List Byte) : List Byte := sponge 136 0x06 32 m
def sha3x512 (m : List Byte) : List Byte := sponge 72 0x06 64 m
def shake128 (n : Nat) (m : List Byte) : List Byte := sponge 168 0x1F n m
def shake256 (n : Nat) (m : List Byte) : List Byte := sponge 136 0x1F n m

/-- SHA3-256 as a number, its first byte the most significant. -/
def sha3 (m : List Byte) : BitVec 256 := BitVec.ofNat 256 (beNat (sha3Bytes m))

end Sys2Proof.Machine
end

