-- ==== Sys2Proof/Machine/Lattice.lean ====
section
/-! DEFINITION. ML-KEM-768 and ML-DSA-44, which the key exchange and the device identity use (07_folio_encryption.md R177, R178;
18_boot_security.md R431, R440: FIPS 203, FIPS 204). Polynomials are lists of 256 coefficients below q. -/

namespace Sys2Proof.Machine

/-- Powers and values of polynomials modulo q. -/
def powMod (q b e : Nat) : Nat :=
  ((List.range 24).foldl (fun (x : Nat × Nat) i => (if e.testBit i then x.1 * x.2 % q else x.1, x.2 * x.2 % q)) (1, b)).1
def horner (q : Nat) (l : List Nat) (x : Nat) : Nat := l.foldr (fun c a => (a * x + c) % q) 0

/-- The low `n` bits of a number in reverse order. -/
def bitRev (n x : Nat) : Nat := ((List.range n).map fun i => if x.testBit i then 2 ^ (n - 1 - i) else 0).sum

/-- Sums and differences modulo q. -/
def addMod (q : Nat) (a b : List Nat) : List Nat := List.zipWith (fun x y => (x + y) % q) a b
def subMod (q : Nat) (a b : List Nat) : List Nat := List.zipWith (fun x y => (x + q - y) % q) a b
def zeroPoly : List Nat := List.replicate 256 0

/-- Coefficients of `d` bits each, the first in the lowest bits of the first byte; and back. -/
def packCoefs (d : Nat) (l : List Nat) : List Byte := leBytes (d * l.length / 8) (l.foldr (fun c a => a * 2 ^ d + c) 0)
def unpackCoefs (d n : Nat) (b : List Byte) : List Nat :=
  let v := natAt b 0 b.length
  (List.range n).map fun i => v / 2 ^ (d * i) % 2 ^ d

/-- ML-KEM (FIPS 203): the transform and its inverse, q = 3329, ζ = 17, by pairs of coefficients. -/
def kemQ : Nat := 3329
def evens (l : List Nat) : List Nat := (List.range 128).map fun i => l.getD (2 * i) 0
def odds (l : List Nat) : List Nat := (List.range 128).map fun i => l.getD (2 * i + 1) 0
def kemGamma (i : Nat) : Nat := powMod kemQ 17 (2 * bitRev 7 i + 1)
def kemNtt (f : List Nat) : List Nat :=
  let a := evens f
  let b := odds f
  (List.range 128).flatMap fun i => let g := kemGamma i; [horner kemQ a g, horner kemQ b g]
def kemInv (f : List Nat) : List Nat :=
  let order (l : List Nat) : List Nat := (List.range 128).map fun e => l.getD (bitRev 7 e) 0
  let a := order (evens f)
  let b := order (odds f)
  (List.range 128).flatMap fun j =>
    let w := powMod kemQ 17 (256 - j)
    let k := 3303 * w
    [k * horner kemQ a (w * w) % kemQ, k * horner kemQ b (w * w) % kemQ]

/-- Products in the transformed domain. -/
def kemMul (f g : List Nat) : List Nat :=
  (List.range 128).flatMap fun i =>
    let a0 := f.getD (2 * i) 0
    let a1 := f.getD (2 * i + 1) 0
    let b0 := g.getD (2 * i) 0
    let b1 := g.getD (2 * i + 1) 0
    [(a0 * b0 + a1 * b1 % kemQ * kemGamma i) % kemQ, (a0 * b1 + a1 * b0) % kemQ]
def kemDot (u v : List (List Nat)) : List Nat := (List.zipWith kemMul u v).foldl (addMod kemQ) zeroPoly

/-- SampleNTT: candidates of 12 bits from SHAKE128, those below q. -/
def split12 : List Byte → List Nat
  | a :: b :: c :: r => (a.toNat + 256 * (b.toNat % 16)) :: (b.toNat / 16 + 16 * c.toNat) :: split12 r
  | _ => []
def kemSample (seed : List Byte) : List Nat := ((split12 (shake128 840 seed)).filter (· < kemQ)).take 256
def kemMatrix (rho : List Byte) : List (List (List Nat)) :=
  (List.range 3).map fun i => (List.range 3).map fun j => kemSample (rho ++ [BitVec.ofNat 8 j, BitVec.ofNat 8 i])
def transpose3 (m : List (List (List Nat))) : List (List (List Nat)) :=
  (List.range 3).map fun j => m.map fun r => r.getD j []

/-- The centred binomial distribution with η = 2, from SHAKE256 of a seed and a counter. -/
def cbd2 (seed : List Byte) (n : Nat) : List Nat :=
  (shake256 128 (seed ++ [BitVec.ofNat 8 n])).flatMap fun b =>
    let f (x : Nat) : Nat := (x % 2 + x / 2 % 2 + kemQ - x / 4 % 2 - x / 8 % 2) % kemQ
    [f (b.toNat % 16), f (b.toNat / 16)]

/-- Compression to `d` bits and decompression. -/
def kemCompress (d x : Nat) : Nat := (2 * x * 2 ^ d + kemQ) / (2 * kemQ) % 2 ^ d
def kemExpand (d y : Nat) : Nat := (2 * kemQ * y + 2 ^ d) / 2 ^ (d + 1)

/-- Pieces of a byte string, `n` bytes each. -/
def pieces (n k : Nat) (b : List Byte) : List (List Byte) := (List.range k).map fun i => bytesAt b (n * i) n
def kemVector (b : List Byte) : List (List Nat) := (pieces 384 3 b).map fun p => (unpackCoefs 12 256 p).map (· % kemQ)

/-- Key generation from the seeds d and z: the encapsulation key (1,184 bytes) and the decapsulation key (2,400 bytes). -/
def kemKeys (d z : List Byte) : List Byte × List Byte :=
  let g := sha3x512 (d ++ [3])
  let rho := g.take 32
  let sigma := g.drop 32
  let s := (List.range 3).map fun i => kemNtt (cbd2 sigma i)
  let e := (List.range 3).map fun i => kemNtt (cbd2 sigma (3 + i))
  let t := List.zipWith (fun row e => addMod kemQ (kemDot row s) e) (kemMatrix rho) e
  let ek := t.flatMap (packCoefs 12) ++ rho
  (ek, s.flatMap (packCoefs 12) ++ ek ++ sha3Bytes ek ++ z)

/-- Encryption of 32 bytes under an encapsulation key with the coins r. -/
def kemEncrypt (ek m r : List Byte) : List Byte :=
  let rho := bytesAt ek 1152 32
  let y := (List.range 3).map fun i => kemNtt (cbd2 r i)
  let u := (transpose3 (kemMatrix rho)).zipIdx.map fun x => addMod kemQ (kemInv (kemDot x.1 y)) (cbd2 r (3 + x.2))
  let mu := (unpackCoefs 1 256 m).map (kemExpand 1)
  let v := addMod kemQ (addMod kemQ (kemInv (kemDot (kemVector ek) y)) (cbd2 r 6)) mu
  u.flatMap (fun p => packCoefs 10 (p.map (kemCompress 10))) ++ packCoefs 4 (v.map (kemCompress 4))
def kemDecrypt (dk c : List Byte) : List Byte :=
  let u := (pieces 320 3 c).map fun p => (unpackCoefs 10 256 p).map (kemExpand 10)
  let v := (unpackCoefs 4 256 (bytesAt c 960 128)).map (kemExpand 4)
  packCoefs 1 ((subMod kemQ v (kemInv (kemDot (kemVector dk) (u.map kemNtt)))).map (kemCompress 1))

/-- Encapsulation with the message m: the ciphertext (1,088 bytes) and the shared secret; none when the key fails its check. -/
def kemEncaps (ek m : List Byte) : Option (List Byte × List Byte) :=
  if ek.length = 1184 ∧ (kemVector ek).flatMap (packCoefs 12) = ek.take 1152 then
    let g := sha3x512 (m ++ sha3Bytes ek)
    some (kemEncrypt ek m (g.drop 32), g.take 32)
  else none

/-- Decapsulation: the shared secret; none when an input fails its check. -/
def kemDecaps (dk c : List Byte) : Option (List Byte) :=
  let ek := bytesAt dk 1152 1184
  if c.length = 1088 ∧ dk.length = 2400 ∧ sha3Bytes ek = bytesAt dk 2336 32 then
    let m := kemDecrypt dk c
    let g := sha3x512 (m ++ bytesAt dk 2336 32)
    some (if kemEncrypt ek m (g.drop 32) = c then g.take 32 else shake256 32 (bytesAt dk 2368 32 ++ c))
  else none

/-- ML-DSA-44 (FIPS 204): q = 8,380,417, ζ = 1,753; the transform and its inverse. -/
def dsaQ : Nat := 8380417
def dsaNtt (f : List Nat) : List Nat := (List.range 256).map fun i => horner dsaQ f (powMod dsaQ 1753 (2 * bitRev 8 i + 1))
def dsaInv (f : List Nat) : List Nat :=
  let g := (List.range 256).map fun e => f.getD (bitRev 8 e) 0
  (List.range 256).map fun j =>
    let w := powMod dsaQ 1753 (512 - j)
    8347681 * w % dsaQ * horner dsaQ g (w * w % dsaQ) % dsaQ
def dsaMul (f g : List Nat) : List Nat := List.zipWith (fun x y => x * y % dsaQ) f g
def dsaDot (u v : List (List Nat)) : List Nat := (List.zipWith dsaMul u v).foldl (addMod dsaQ) zeroPoly

/-- A coefficient from an integer, and its centred value. -/
def dsaOf (x : Int) : Nat := (x % (dsaQ : Int)).toNat
def dsaCentred (x : Nat) : Int := if dsaQ < 2 * x then (x : Int) - dsaQ else x

/-- ExpandA: candidates of 23 bits from SHAKE128, those below q. -/
def split23 : List Byte → List Nat
  | a :: b :: c :: r => (a.toNat + 256 * b.toNat + 65536 * (c.toNat % 128)) :: split23 r
  | _ => []
def dsaMatrix (rho : List Byte) : List (List (List Nat)) :=
  (List.range 4).map fun r => (List.range 4).map fun s =>
    ((split23 (shake128 1008 (rho ++ [BitVec.ofNat 8 s, BitVec.ofNat 8 r]))).filter (· < dsaQ)).take 256

/-- ExpandS: coefficients -2 to 2 from half bytes of SHAKE256. -/
def dsaSmall (seed : List Byte) (n : Nat) : List Nat :=
  (((shake256 272 (seed ++ leBytes 2 n)).flatMap fun b => [b.toNat % 16, b.toNat / 16]).filter (· < 15)).take 256 |>.map
    fun z => dsaOf (2 - ((z % 5 : Nat) : Int))

/-- ExpandMask: coefficients -2^17 + 1 to 2^17. -/
def dsaMask (seed : List Byte) (n : Nat) : List Nat :=
  (unpackCoefs 18 256 (shake256 576 (seed ++ leBytes 2 n))).map fun (z : Nat) => dsaOf (131072 - (z : Int))

/-- Power2Round and Decompose: the high part of a coefficient, and its centred low part. -/
def dsaRound (r : Nat) : Nat × Int :=
  let h := (r + 4095) / 8192
  (h, (r : Int) - 8192 * (h : Int))
def dsaDecompose (r : Nat) : Nat × Int :=
  let h := (r + 95231) / 190464
  let l := (r : Int) - 190464 * (h : Int)
  if h = 44 then (0, l - 1) else (h, l)

/-- SampleInBall: 39 coefficients that are 1 or -1. -/
def ballStep (x : List Nat × List Byte) (i : Nat) (neg : Bool) : List Nat × List Byte :=
  let rest := x.2.dropWhile fun b => i < b.toNat
  let j := (rest.headD 0).toNat
  ((x.1.set i (x.1.getD j 0)).set j (if neg then dsaQ - 1 else 1), rest.drop 1)
def dsaBall (seed : List Byte) : List Nat :=
  let b := shake256 1088 seed
  let signs := natAt b 0 8
  ((List.range 39).foldl (fun x k => ballStep x (217 + k) (signs.testBit k)) (zeroPoly, b.drop 8)).1

/-- The largest centred magnitude of a vector. -/
def dsaNorm (v : List (List Nat)) : Nat := (v.flatten.map fun x => (dsaCentred x).natAbs).foldl max 0

/-- The hints as bytes: positions, then running counts; and back. -/
def packHints (h : List (List Bool)) : List Byte :=
  let pos := h.map fun p => (List.range 256).filter fun j => p.getD j false
  let counts := (List.range 4).map fun i => ((pos.take (i + 1)).map (·.length)).sum
  (padTo 80 (pos.flatten.map (BitVec.ofNat 8))) ++ counts.map (BitVec.ofNat 8)
def unpackHints (b : List Byte) : Option (List (List Bool)) :=
  let at_ (i : Nat) : Nat := (b.getD i 0).toNat
  let start (i : Nat) : Nat := if i = 0 then 0 else at_ (79 + i)
  let ok := (List.range 4).all (fun i => start i ≤ at_ (80 + i) && at_ (80 + i) ≤ 80
      && (List.range 80).all fun j => !(start i < j && j < at_ (80 + i)) || at_ (j - 1) < at_ j)
    && (List.range 80).all fun j => j < at_ 83 || at_ j == 0
  if ok then
    some ((List.range 4).map fun i =>
      let ps := ((List.range 80).filter fun j => start i ≤ j && j < at_ (80 + i)).map at_
      (List.range 256).map fun k => ps.contains k)
  else none

/-- Key generation from a seed: the public key (1,312 bytes) and the parts of the private key. -/
structure DsaKey where
  pub : List Byte
  rho : List Byte
  key : List Byte
  s1 : List (List Nat)
  s2 : List (List Nat)
  t0 : List (List Nat)
def dsaKeys (seed : List Byte) : DsaKey :=
  let g := shake256 128 (seed ++ [4, 4])
  let rho := g.take 32
  let sd := bytesAt g 32 64
  let s1 := (List.range 4).map fun i => dsaSmall sd i
  let s2 := (List.range 4).map fun i => dsaSmall sd (4 + i)
  let s1h := s1.map dsaNtt
  let t := List.zipWith (fun row e => addMod dsaQ (dsaInv (dsaDot row s1h)) e) (dsaMatrix rho) s2
  { pub := rho ++ t.flatMap (fun p => packCoefs 10 (p.map fun x => (dsaRound x).1)), rho := rho, key := bytesAt g 96 32
    s1 := s1, s2 := s2, t0 := t.map fun p => p.map fun x => dsaOf (dsaRound x).2 }

/-- The digest that is signed, of a message with an empty context. -/
def dsaMu (pub m : List Byte) : List Byte := shake256 64 (shake256 64 pub ++ [0, 0] ++ m)
def packHigh (w : List (List Nat)) : List Byte := w.flatMap (packCoefs 6)

/-- One attempt at a signature with counter κ; none when it is rejected. -/
def dsaAttempt (k : DsaKey) (a : List (List (List Nat))) (mu seed : List Byte) (kappa : Nat) : Option (List Byte) :=
  let y := (List.range 4).map fun i => dsaMask seed (kappa + i)
  let yh := y.map dsaNtt
  let w := a.map fun row => dsaInv (dsaDot row yh)
  let high (v : List (List Nat)) : List (List Nat) := v.map fun p => p.map fun x => (dsaDecompose x).1
  let ct := shake256 32 (mu ++ packHigh (high w))
  let ch := dsaNtt (dsaBall ct)
  let by_ (v : List (List Nat)) : List (List Nat) := v.map fun p => dsaInv (dsaMul ch (dsaNtt p))
  let z := List.zipWith (addMod dsaQ) y (by_ k.s1)
  let r := List.zipWith (subMod dsaQ) w (by_ k.s2)
  let low := ((r.flatten.map fun x => (dsaDecompose x).2.natAbs).foldl max 0)
  let ct0 := by_ k.t0
  let r1 := List.zipWith (addMod dsaQ) r ct0
  let h := List.zipWith (fun p q => List.zipWith (· != ·) p q) (high r1) (high r)
  if 131072 - 78 ≤ dsaNorm z ∨ 95232 - 78 ≤ low ∨ 95232 ≤ dsaNorm ct0 ∨ 80 < (h.flatten.filter id).length then none
  else some (ct ++ z.flatMap (fun p => packCoefs 18 (p.map fun x => (131072 - dsaCentred x).toNat)) ++ packHints h)

/-- The signature of a message with the random value `rnd`: the first attempt that is not rejected. -/
def dsaLoop (k : DsaKey) (a : List (List (List Nat))) (mu seed : List Byte) : Nat → Nat → List Byte
  | 0, _ => []
  | n + 1, kappa =>
    match dsaAttempt k a mu seed kappa with
    | some b => b
    | none => dsaLoop k a mu seed n (kappa + 4)
def dsaSign (k : DsaKey) (m rnd : List Byte) : List Byte :=
  let mu := dsaMu k.pub m
  dsaLoop k (dsaMatrix k.rho) mu (shake256 64 (k.key ++ rnd ++ mu)) 1024 0

/-- Does a signature verify? -/
def dsaVerify (pub m sig : List Byte) : Bool :=
  let ct := sig.take 32
  let z := (pieces 576 4 (sig.drop 32)).map fun p => (unpackCoefs 18 256 p).map fun (x : Nat) => dsaOf (131072 - (x : Int))
  match unpackHints (bytesAt sig 2336 84) with
  | none => false
  | some h =>
    let zh := z.map dsaNtt
    let ch := dsaNtt (dsaBall ct)
    let t1 := (pieces 320 4 (pub.drop 32)).map fun p => dsaNtt ((unpackCoefs 10 256 p).map (· * 8192))
    let w := List.zipWith (fun row t => dsaInv (subMod dsaQ (dsaDot row zh) (dsaMul ch t))) (dsaMatrix (pub.take 32)) t1
    let use (b : Bool) (r : Nat) : Nat :=
      let d := dsaDecompose r
      if !b then d.1 else if 0 < d.2 then (d.1 + 1) % 44 else (d.1 + 43) % 44
    let w1 := List.zipWith (fun p q => List.zipWith use p q) h w
    pub.length == 1312 && sig.length == 2420 && decide (dsaNorm z < 131072 - 78) && ct == shake256 32 (dsaMu pub m ++ packHigh w1)

end Sys2Proof.Machine
end

