-- ==== Sys2Proof/Machine/Identity.lean ====
section
/-! DEFINITION. The device identity: its key pair, from the device secret, and signatures over digests (18_boot_security.md R430,
R431, R440; 07_folio_encryption.md R177, R178). -/

namespace Sys2Proof.Machine

/-- The seed of the key pair: SHA3-256 of the device secret and ASCII "AET-ID" (R440). -/
def identitySeed : List Byte :=
  sha3Bytes (beBytes 32 Config.deviceSecret.toNat ++ [0x41, 0x45, 0x54, 0x2D, 0x49, 0x44])

/-- The ML-DSA-44 key pair, and its public key (R440). -/
def identityKey : DsaKey := dsaKeys identitySeed
def ownPub : List Byte := identityKey.pub

/-- The device's signature over a digest, with the random value that FIPS 204 calls for, and the check of one. The digest is the
message, with an empty context (log 82). -/
def signDigest (d rnd : BitVec 256) : List Byte := dsaSign identityKey (beBytes 32 d.toNat) (beBytes 32 rnd.toNat)
def verifyDigest (pub : List Byte) (d : BitVec 256) (sig : List Byte) : Bool := dsaVerify pub (beBytes 32 d.toNat) sig

end Sys2Proof.Machine
end

