-- ==== Sys2Proof/Machine/StateClient.lean ====
section
/-! DEFINITION. State of the Interloan channel (06_interloan.md), the folio and line encryption (07_folio_encryption.md), the
client framers (08_client_framers.md) and mapping, switching and protection (09_mapping_protection.md). Defaults are the
values after a full reset. -/

namespace Sys2Proof.Machine

/-- A burst queued for sending (R142, R143). -/
structure Burst where
  typ : Nat
  dst : Nat
  seq : Nat
  payload : List Byte
deriving DecidableEq, Repr

/-- A QPSK symbol by its two bits: the component of each is (1 − 2b)/√2 (R138, R139). -/
structure Qpsk where
  i : Bool
  q : Bool
deriving DecidableEq, Repr

/-- A QPSK symbol of both polarisations. -/
structure DualQpsk where
  x : Qpsk
  y : Qpsk
deriving DecidableEq, Repr

/-- A burst as sent on a tone (R134, R137, R140): grid position of its first preamble symbol, its header, payload and CRCs as
scrambled (R139), its symbols from the first of sequence A, and the tone power level, 0.01 dB. -/
structure AirBurst where
  pos : Nat
  bytes : List Byte
  syms : List DualQpsk
  power : Int
deriving DecidableEq, Repr

/-- A SCHED as a leaf received it (R145): volume described, join window, owners, advance of this leaf (none: not ranged). -/
structure Sched where
  vol : Nat
  join : Bool
  owner : List Nat
  adv : Option Nat
deriving DecidableEq, Repr

/-- A MGMT datagram received (R142, R348). -/
structure Datagram where
  src : Nat
  dst : Nat
  tone : Nat
  seq : Nat
  stamp : Stamp
  evm : Int
  payload : List Byte
deriving DecidableEq, Repr

/-- The receiver of a tone (R152). -/
inductive ToneState where
  | off | idle | preamble | train | header | payload
deriving DecidableEq, Repr

/-- Quality of one source on a tone (R156, R159). -/
structure EvmStat where
  last : Int := 0
  worst : Int := 0
  sum : Int := 0
  count : Nat := 0
deriving DecidableEq, Repr

/-- A service tone of a carrier (R134 to R159). -/
structure Tone where
  st : ToneState := .off
  /-- The burst being received: M of its detection in 2^-16 and its frequency hypothesis, preamble start and present time in tone
  symbols, frequency as frozen (Hz), Jones matrix times 2 as solved (R149 to R151), header fields, TX_POS, and the instant of its first
  header symbol in 2^-16 ns (R155). -/
  det : Nat := 0
  hyp : Nat := 0
  freq : Int := 0
  jones : List (Int × Int) := []
  txPos : Nat := 0
  stamp : Nat := 0
  start : Nat := 0
  clock : Nat := 0
  typ : Nat := 0
  src : Nat := 0
  dst : Nat := 0
  ranged : Bool := false
  seq : Nat := 0
  len : Nat := 0
  /-- An item of the burst arrived poisoned (R154). -/
  poisoned : Bool := false
  /-- The held detection (R152): its M, hypothesis and preamble start. -/
  held : Option (Nat × Nat × Nat) := none
  noiseRaised : Bool := false
  noiseX : Int := 0
  noiseY : Int := 0
  /-- First slot of the sender's grid, volume × 16 + slot, that its own bursts and guards leave free (R143). -/
  freeAt : Nat := 0
  sending : Option AirBurst := none
  detections : Nat := 0
  delivered : List Nat := List.replicate 5 0
  abandoned : Nat := 0
  captured : Nat := 0
  collisions : Nat := 0
  trainFails : Nat := 0
  headerErrs : Nat := 0
  payloadErrs : Nat := 0
  poisonedCount : Nat := 0
  sent : List Nat := List.replicate 5 0
  evm : List (Nat × EvmStat) := []
deriving DecidableEq, Repr

/-- A leaf as the hub knows it (R146 to R148). -/
structure LeafEntry where
  advance : Int := 0
  ranged : Bool := false
deriving DecidableEq, Repr

/-- Interloan of one carrier (R132 to R159). -/
structure Interloan where
  tones : Vector Tone 4 := Vector.replicate 4 {}
  /-- Send queue, oldest first; at most 32 per type (R143). -/
  queue : List Burst := []
  /-- Next SEQ for each type (R140). -/
  nextSeq : List Nat := List.replicate 5 0
  /-- MGMT receive store, oldest first (R348). -/
  store : List Datagram := []
  /-- OWNER table in force and the one that waits for a slot boundary (R145, R158). -/
  owner : List Nat := List.replicate 64 0xFF
  ownerNext : Option (List Nat) := none
  leaves : Vector LeafEntry 16 := Vector.replicate 16 {}
  /-- SCHEDs a leaf holds for volumes not yet past, its advance and whether it is ranged (R145, R146). -/
  scheds : List Sched := []
  advance : Nat := 0
  ranged : Bool := false
  /-- Slot at which an unranged leaf sends its JOIN (R147). -/
  joinDue : Option Nat := none
  /-- The last slot boundary of the sender's grid, volume × 16 + slot. -/
  slot : Nat := 0
  /-- Last EVM figure for each SRC, 1/256 dB (R140, R156). -/
  evmBy : List (Nat × Int) := []
  joinRx : Nat := 0
  joinIgnored : Nat := 0
  schedMissed : Nat := 0
  mgmtDrops : Nat := 0
  sendRefused : Nat := 0
deriving DecidableEq, Repr

/-- A key slot of a group (R172): whether it holds a pair, its epoch, the keys of the transmit and receive directions. -/
structure KeySlot where
  loaded : Bool := false
  epoch : Nat := 0
  keyTx : BitVec 256 := 0
  keyRx : BitVec 256 := 0
deriving DecidableEq, Repr

/-- Where a key exchange stands (R178): the initiator awaits M2, or the responder's new epoch after M3; the responder awaits
M3, or the initiator's new epoch after it has armed. -/
inductive KexPhase where
  | awaitM2 | awaitM3 | awaitFar | awaitNear
deriving DecidableEq, Repr

/-- A key exchange in progress (R177 to R179): its messages so far and the initiator's decapsulation key. -/
structure Kex where
  phase : KexPhase
  epoch : Nat
  m1 : List Byte
  m2 : List Byte
  dk : List Byte
  ss : BitVec 256
deriving DecidableEq, Repr

/-- The message whose fragments arrive (R178): EPOCH, MSG, NFRAG, MSG_LEN and the fragments held. -/
structure KexInbox where
  epoch : Nat
  msg : Nat
  nfrag : Nat
  len : Nat
  frags : List (Nat × List Byte)
deriving DecidableEq, Repr

/-- A received volume that is not yet wholly released (R174): the slot and KEY_VOL its schedule gives, and its ENC. -/
structure RxVol where
  vol : Nat
  slot : Nat
  keyVol : Nat
  epoch : Nat
  enc : Bool
deriving DecidableEq, Repr

/-- A symbol on a subcarrier: a fixed one (pilot, training, overhead: R162, R163), at the mean power of the data; or data, with its
format and the amplitudes of X I, X Q, Y I, Y Q (R106). -/
inductive LineSym where
  | fixed (z : DualQpsk)
  | data (fmt : Nat) (amps : List Int)
deriving DecidableEq, Repr

/-- One carrier and group of the folio layer (R163 to R170, R181). -/
structure FolioGroup where
  /-- The transmitter sends folios (a LEAF waits for the hub's grid, R165); VOLUME, FOLIO. -/
  txOn : Bool := false
  txVolume : Nat := 0
  txFolio : Nat := 0
  aisTx : Bool := false
  /-- LEAF: consecutive good hub headers that disagree with its count, and the hub VOLUME to adopt (R165). -/
  leafRun : Nat := 0
  adopt : Option Nat := none
  /-- The transmitter waits for its protection partner's next volume boundary (R219). -/
  joinPartner : Bool := false
  /-- Stream bits sent in the volume before this folio (R111, R164), and bytes of the ODUC frame already sent (R168). -/
  cwPos : Nat := 0
  oducPos : Nat := 0
  /-- The last folio sent: its numbers and its ODUCm area before encryption, none for ODUC-AIS (R218). -/
  sentNum : Nat × Nat := (0, 0)
  plain : Option (List Byte) := none
  /-- Stamp of the last folio sent, 2^-16 ns (R101). -/
  txStamp : Nat := 0
  /-- The last folio sent: overhead block, payload area after encryption and scrambling (R163, R166); the areas of the four folios
  before it, the stream bits of a codeword that goes on in the next folio (R111), and the symbols by period and subcarrier. -/
  sentOh : List Byte := []
  sentPayload : List Byte := []
  sentPast : List (List Byte) := []
  txTail : List Bool := []
  sentSyms : List (List LineSym) := []
  /-- Numbering in use at the receiver, and whether any was taken (R181). -/
  rxVolume : Nat := 0
  rxFolio : Nat := 0
  rxKnown : Bool := false
  /-- Position of the last good header when the folio before this one had it, of the run that jumps, and runs (R181). -/
  lastGood : Option Nat := none
  jumpLast : Nat := 0
  hcrcRun : Nat := 0
  goodRun : Nat := 0
  jumpRun : Nat := 0
  sliceRun : Nat := 0
  sliceGood : Nat := 0
  lof : Bool := false
  sliceDef : Bool := false
  auth : Bool := false
  clearDef : Bool := false
  noKey : Bool := false
  tagFailRun : Nat := 0
  tagGoodRun : Nat := 0
  clearRun : Nat := 0
  /-- The payload area last released, after descrambling and decryption or as ODUC-AIS (R166, R181), its poison, and the position
  that ODUC-AIS has reached. -/
  released : List Byte := []
  releasedBad : Bool := false
  aisPos : Nat := 0
  hcrc : Nat := 0
  kcrc : Nat := 0
  srCrc : Nat := 0
  verified : Nat := 0
  tagFails : Nat := 0
  unverified : Nat := 0
deriving DecidableEq, Repr

/-- Keys of one carrier and group (R171 to R180). -/
structure Crypt where
  slots : Vector KeySlot 2 := Vector.replicate 2 {}
  /-- Transmit: slot in force, whether a key is in force, this volume is encrypted, KEY_VOL. -/
  txSlot : Nat := 0
  txLive : Bool := false
  txEnc : Bool := false
  keyVolTx : Nat := 0
  /-- The slot left, until the first whole volume under the other slot has ended (R172). -/
  txTail : Option Nat := none
  /-- A change to be armed from the next volume; an armed change: EPOCH_NEXT and COUNTDOWN (R174). -/
  armNext : Option Nat := none
  armed : Option (Nat × Nat) := none
  /-- Running authentication of the volume being sent, and the previous volume's tag. -/
  txAcc : Gcm := {}
  txTag : Option Nat := none
  txNoKey : Bool := false
  /-- Receive: schedule taken, slot in force, the volume whose KEY_VOL is 0, a scheduled change (volume, epoch). -/
  rxSync : Bool := false
  rxSlot : Nat := 0
  rxEpoch : Nat := 0
  rxBase : Nat := 0
  rxTail : Option (Nat × Nat) := none
  rxArmed : Option (Nat × Nat) := none
  /-- The volume whose KEY fields arrive: a good one seen, one with ENC, one whose SLOT differs; the last volume differed. -/
  curGood : Bool := false
  curEnc : Bool := false
  curDiff : Bool := false
  lastDiff : Bool := false
  curSlot : Nat := 0
  curKeyVol : Nat := 0
  /-- The last good KEY field had ENC set: a volume without one is taken as the one before (R174). -/
  lastEnc : Bool := false
  rxVols : List RxVol := []
  /-- Tags received for a volume (none: no good field held one), tags computed, running authentication (R174). -/
  gotTags : List (Nat × Option Nat) := []
  doneTags : List (Nat × Nat) := []
  rxAcc : Gcm := {}
  kex : Option Kex := none
  inbox : Option KexInbox := none
  /-- Attempts made when a retry is due (R179). -/
  attempts : Nat := 0
  /-- Initiator: the epoch of an exchange whose timeout expired after M3 had gone out (R182). -/
  lateKex : Option Nat := none
  retryDue : Bool := false
  epoch : Nat := 0
  failCause : Nat := 0
  changes : Nat := 0
  resyncs : Nat := 0
  kexDone : Nat := 0
  kexFails : Nat := 0
deriving DecidableEq, Repr

/-- An alignment candidate (R189), with the N and M in force when it was opened (R203). -/
structure AlignCand where
  pos : Nat
  ident : Nat
  confirms : Nat
  n : Nat
  m : Nat
deriving DecidableEq, Repr

/-- The state of an alignment unit (R189 to R192). -/
inductive AlignState where
  | off | search | inFrame
deriving DecidableEq, Repr

/-- An alignment unit: one per logical lane of an interface (R189 to R193). -/
structure AlignUnit where
  st : AlignState := .off
  /-- Candidates, oldest first, at most 16. -/
  cands : List AlignCand := []
  /-- Several candidates reached N together: periods since, counted from 1; 0 when none did (R190). -/
  amb : Nat := 0
  pos : Nat := 0
  ident : Nat := 0
  lane : Nat := 0
  /-- 0.1 ns after the earliest unit. -/
  skew : Nat := 0
  errored : Nat := 0
  /-- M in force (R191, R203). -/
  m : Nat := 5
  entries : Nat := 0
  losses : Nat := 0
  evictions : Nat := 0
  ambiguities : Nat := 0
  erroredFrames : Nat := 0
deriving DecidableEq, Repr

/-- Settings of a layer (R195, R196, R351). -/
structure LayerCfg where
  timMode : Nat := 0
  timAct : Bool := true
  expTti : List Byte := List.replicate 32 0
  txTti : List Byte := List.replicate 64 0
  /-- Expected PT set by the host; none: the value from the mapping. -/
  expPt : Option Nat := none
  tcmMode : Nat := 0
deriving DecidableEq, Repr

/-- Received overhead of a layer (R195, R197, R201). -/
structure LayerRx where
  ttiBuf : List Byte := List.replicate 64 0
  ttiLast : List Byte := List.replicate 64 0
  ttiRun : Nat := 0
  ttiAcc : Option (List Byte) := none
  statCand : Nat := 0
  statRun : Nat := 0
  stat : Nat := 0
  /-- Frames in a row with the last value of BDI, and BDI as declared (5 in a row). -/
  bdiLast : Bool := false
  bdiRun : Nat := 0
  bdi : Bool := false
  /-- The layer in the last frame, as it came (R195). -/
  last : LayerOh := {}
  /-- Errored blocks of the second in progress and in all, near end and far end. -/
  neNow : Nat := 0
  feNow : Nat := 0
  neTotal : Nat := 0
  feTotal : Nat := 0
deriving DecidableEq, Repr

/-- A byte-wise accepted value: candidate, run, accepted (R217; MSI of R210). -/
structure Accept where
  cand : Nat := 0
  run : Nat := 0
  acc : Option Nat := none
deriving DecidableEq, Repr

/-- The overhead of one ODU (a bond has one; a line ODUCm one for each slice). -/
structure SliceOh where
  mfas : Option Nat := none
  mfIn : Bool := false
  mfRun : Nat := 0
  layers : Vector LayerRx 8 := Vector.replicate 8 {}
  pt : Accept := {}
  /-- MSI of slots 1 to 20 (R210), and the first byte of the one arriving. -/
  msi : List Accept := List.replicate 20 {}
  msiHigh : Nat := 0
deriving DecidableEq, Repr

/-- A layer as the egress sends it (R195): the 64 bytes of its TTI, BEI/BIAE code, BDI, IAE, STAT. -/
structure TxLayer where
  tti : List Byte := List.replicate 64 0
  bei : Nat := 0
  bdi : Bool := false
  iae : Bool := false
  stat : Nat := 1
deriving DecidableEq, Repr

/-- The overhead of the frames that an egress sends (R195, R198, R199, R210): its layers, PT, the MSI of each slot, APS/PCC, GCC0 to
GCC2, FTFL, and the signal in place of the payload: 0 none, 1 the replacement signal, 2 ODU-LCK, 3 ODU-OCI. -/
structure TxOh where
  layers : List TxLayer := List.replicate 8 {}
  pt : Nat := 0
  msi : List Nat := []
  aps : Nat := 0
  gcc : List Byte := List.replicate 6 0
  ftfl : List Byte := List.replicate 256 0
  rep : Nat := 0
deriving DecidableEq, Repr

/-- A client bond's framer, the ODUCm of a line group, or a demultiplexed tributary (R186 to R204, R211). -/
structure Framer where
  provisioned : Bool := false
  iface : Nat := 0
  k : Nat := 0
  fec : Nat := 0
  flexGid : Nat := 0
  flexIid : List Nat := List.replicate 8 0
  /-- The octet synthesiser that a rate-following bond holds alone (R214, R289). -/
  synth : Option Nat := none
  units : List AlignUnit := []
  /-- A lane of the bond reports loss of signal or of lock. -/
  los : Bool := false
  inFrame : Bool := false
  /-- Deskew set at the entry to frame: the latest unit, 0.1 ns (R193). -/
  deskew : Nat := 0
  cfg : Vector LayerCfg 8 := Vector.replicate 8 {}
  slices : List SliceOh := [{}]
  ftfl : List Byte := List.replicate 256 0
  /-- APS/PCC of the eight levels that MFAS selects (R217). -/
  aps : List Accept := List.replicate 8 {}
  /-- FlexO identifiers (R197): wrong in this multiframe, runs, defect condition. -/
  idBad : Bool := false
  idBadRun : Nat := 0
  idGoodRun : Nat := 0
  idm : Bool := false
  hiSer : Bool := false
  /-- Local and remote fault sequences are received (R197). -/
  localFault : Bool := false
  remoteFault : Bool := false
  /-- GCC0 to GCC2 and APS/PCC of the last frame, and the overhead sent: by a bond's egress, by the transmitter of a line ODUCm, by a
  tributary into its container (R195). -/
  gcc : List Byte := List.replicate 6 0
  apsLast : Nat := 0
  tx : TxOh := {}
  /-- MSI mismatch of a tributary (R211). -/
  msim : Bool := false
  /-- Defects declared, as event number, layer and slice; cleared by a mask; persistence timers running, with true for
  entry (R197, R200). -/
  declared : List (Nat × Nat × Nat) := []
  maskedHist : List (Nat × Nat) := []
  timing : List (Nat × Bool) := []
  /-- Maintenance signals of the egress and toward the mapper, and forced BDI of each (R199). -/
  maint : Nat × Nat := (0, 0)
  fbdi : Bool × Bool := (false, false)
  /-- The second in progress held a near-end, a far-end defect (R201). -/
  neDefect : Bool := false
  feDefect : Bool := false
  neSecs : Nat := 0
  feSecs : Nat := 0
  /-- Near-end errored blocks of the ODU PM layer in the last whole second (R221). -/
  pmLast : Nat := 0
  rsCorrected : Nat := 0
  rsUncorr : Nat := 0
  /-- rsUncorr at the start of the second in progress (R201). -/
  rsMark : Nat := 0
  rsSymbols : Nat := 0
  gmpEvents : Nat := 0
  poisonedEgress : Nat := 0
deriving DecidableEq, Repr

/-- Rate-following synthesiser of a bond (R214). -/
structure RateFollow where
  /-- Offset from the exact rate, 10^-6 ppm. -/
  offset : Int := 0
  /-- The source is gone and the last rate is held; the hold has ended and the rate returns to exact. -/
  holding : Bool := false
  returning : Bool := false
deriving DecidableEq, Repr

/-- A tributary (R206 to R211). -/
structure Trib where
  /-- Container: 0 line group, 1 OTUCn bond; carrier or lead slice; group. -/
  ckind : Nat
  cont : Nat
  group : Nat
  tpn : Nat
  /-- 0 ODUflex by IMP, 1 ODU4, 2 ODUflex by GMP; its rate in kb/s. -/
  kind : Nat
  rate : Nat
  bond : Nat
  /-- Slot codes, slice × 256 + slot, in the container and in the client OTUCn. -/
  slots : List Nat
  ncSlots : List Nat
  /-- In the multiplex structure being sent; to be removed from it (R210). -/
  active : Bool
  removing : Bool
  /-- Overhead and defects of the demultiplexed ODU (R211). -/
  oh : Framer := {}
  idlesIn : Nat := 0
  idlesOut : Nat := 0
deriving DecidableEq, Repr

/-- A switch unit: kind, bond, TPN (R212, R353). -/
structure SwUnit where
  kind : Nat
  bond : Nat
  tpn : Nat
deriving DecidableEq, Repr

/-- A connection (R212 to R215). -/
structure Conn where
  dst : SwUnit
  src : Option SwUnit
  /-- The source that waits for the frame boundary; none in it disconnects. -/
  next : Option (Option SwUnit)
  /-- ODU-AIS is sent until the first whole frame of the new source. -/
  ais : Bool
deriving DecidableEq, Repr

/-- What a switch destination last got: the item, or none for the replacement signal, and its poison (R213, R242). -/
structure SwOut where
  dst : SwUnit
  data : Option (List Byte)
  poison : Bool
deriving DecidableEq, Repr

/-- Mapping and the tributary switch (R206 to R215). -/
structure Mapping where
  tribs : List Trib := []
  conns : List Conn := []
  /-- Switch delay in force, ns. -/
  delay : Nat := 8000
  out : List SwOut := []
  changes : Nat := 0
  follow : Vector RateFollow 48 := Vector.replicate 48 {}
deriving DecidableEq, Repr

/-- The state of a protection group (R223). -/
inductive ProtState where
  | lo | sfP | fs | sfW | sd | ms | wtr | dnr | nr
deriving DecidableEq, Repr

/-- One carrier's side of a protection group (R217, R220, R221). Leads and stamps in 2^-16 ns. -/
structure ProtSide where
  /-- Signal fail and signal degrade present, and as requests after the hold-off. -/
  sfNow : Bool := false
  sdNow : Bool := false
  sf : Bool := false
  sd : Bool := false
  /-- Differential-delay fail, and the differential-delay limit in force, ns (R221, R236). -/
  dd : Bool := false
  limit : Nat := 0
  /-- Arrival of FOLIO 0 by VOLUME, newest first, at most 2,048. -/
  arrivals : List (Nat × Nat) := []
  /-- The SR value (R217). -/
  sr : Accept := {}
  sfSecs : Nat := 0
  sdSecs : Nat := 0
  ddSecs : Nat := 0
  srCrc : Nat := 0
  exer : Nat := 0
deriving DecidableEq, Repr

/-- A protection group (R216 to R227). -/
structure Prot where
  exists_ : Bool := false
  st : ProtState := .nr
  /-- The protection carrier is selected; the selector has made the switch; onset of an SF or SD that it waits for (R224). -/
  onProt : Bool := false
  selector : Bool := false
  onset : Option Nat := none
  /-- Commands in force (R222). -/
  lo : Bool := false
  fs : Bool := false
  ms : Bool := false
  /-- Sides of carrier A and B. -/
  sides : Vector ProtSide 2 := Vector.replicate 2 {}
  leadA : Int := 0
  leadB : Int := 0
  aligned : Bool := false
  fop : Bool := false
  /-- Switches by request code (R216). -/
  switches : List Nat := List.replicate 16 0
  realigns : Nat := 0
deriving DecidableEq, Repr

end Sys2Proof.Machine
end

