-- ==== Sys2Proof/Machine/StateCore.lean ====
section
/-! DEFINITION. State of the Desk (13_curator_desk.md), of the parameter records (14_command_reference.md R333 to R336), of
the event tree (15_events_census.md R364 to R371, R516) and of the Chutes (01_organisation.md R15 to R25). Each field's
default is its value after a full reset. -/

namespace Sys2Proof.Machine

/-- A function: the object a command is ordered, held and aborted by (R319, R323; Function column of R338 to R362). -/
inductive Fn where
  | device
  | census
  | carrier (c : Fin 2)
  | conv (c : Fin 2) (k : Nat)
  | group (c : Fin 2) (g : Nat)
  | pool (p : Nat)
  | bond (b : Nat)
  | odum (c : Fin 2) (g : Nat)
  | container (kind c g : Nat)
  | dest (kind b tpn : Nat)
  | prot (g : Nat)
  | stacks
  | time
  | link (c : Fin 2) (g : Nat)
  | lane (l : Nat)
  | mateLink
  | domain (d : Nat)
  | monitors
  | monChannel (k i : Nat)
  | sensor
  | firmware
  | catalogue
  | safety
  | mate
deriving DecidableEq, Repr

/-- Where an outstanding request stands (R318, R319, R322). -/
inductive Phase where
  /-- accepted, not started (also: waiting behind an ORDERED request) -/
  | waiting
  /-- held by R322 -/
  | held
  /-- started; it completes when its function ends the transition -/
  | started
deriving DecidableEq, Repr

/-- An outstanding request (R318). -/
structure Outst where
  op : Nat
  req : Request
  /-- ACCEPT_SEQ (R316). -/
  seq : Word32
  /-- Order of acceptance over all channels (R319: "whichever channel each came from"). -/
  order : Nat
  /-- System-clock tick of acceptance, for ELAPSED_US (R316). -/
  at_ : Nat
  phase : Phase
deriving DecidableEq, Repr

/-- A completed request whose response waits to be written (R314). -/
structure Done where
  op : Nat
  tag : Word16
  slot : Option (Fin 32)
  status : Nat
  detail : Nat
  seq : Word32
  elapsedUs : Nat
  payload : List Byte
  bulk : List Byte
deriving DecidableEq, Repr

/-- A bulk slot in use (R317): by an outstanding request, or by the unread response at a ring index. -/
structure SlotUse where
  slot : Fin 32
  tag : Word16
  unread : Option Word16
deriving DecidableEq, Repr

/-- One Desk channel (R308, R311, R329). -/
structure Channel where
  reqTail : Word16 := 0
  reqHead : Word16 := 0
  rspTail : Word16 := 0
  rspHead : Word16 := 0
  irqEn : Bool := false
  denied : Bool := false
  entryErr : Bool := false
  doorbellErr : Bool := false
  ready : Bool := false
  badTail : Word16 := 0
  /-- The window's bytes (R309), addresses 0 to 0x27FFF, canonical; an unlisted byte reads 0 (log 5). -/
  win : List Host.Cell := []
  seq : Word32 := 0
  outst : List Outst := []
  done : List Done := []
  slots : List SlotUse := []
  /-- A channel reset is in progress (R325). -/
  resetting : Bool := false
deriving DecidableEq, Repr

/-- A function carried from one settled state to another (R321 to R323), and the request that began it. -/
structure Transition where
  fn : Fn
  /-- Opcode of the command that began it; 0 for an internal sequence. -/
  op : Nat
  /-- Channel and TAG of that request while it is outstanding. -/
  by_ : Option (Fin 4 × Word16)
deriving DecidableEq, Repr

/-- The Desk (R308 to R329). -/
structure Desk where
  /-- RESTARTS (R328). -/
  restarts : BitVec 8 := 0
  restarting : Bool := false
  /-- The restart in progress is an activation (R326), not a watchdog's (R327). -/
  activating : Bool := false
  ready : Bool := false
  chans : Vector Channel 4 := Vector.replicate 4 {}
  transitions : List Transition := []
  /-- Next acceptance order number. -/
  nextOrder : Nat := 0
  /-- The channel served last (R318). -/
  served : Fin 4 := 3
deriving DecidableEq, Repr

/-- The parameter tables that P commands take their records from (R333, R334). -/
inductive PTab where
  | r48 | r78 | r103 | r130 | r158 | r183 | r203 | r226 | r252 | r285 | r305
deriving DecidableEq, Repr

/-- One parameter in force for an object (R333 to R336). -/
structure ParamVal where
  tab : PTab
  obj : Nat
  pid : Nat
  val : Int
deriving DecidableEq, Repr

/-- The request body in force of a command marked R (R336). -/
structure BodyVal where
  op : Nat
  obj : Nat
  body : List Byte
  bulk : List Byte
deriving DecidableEq, Repr

/-- Parameters and request bodies in force, and parameters that wait for their function (R103, R158, R183, R49, R78). -/
structure Params where
  inForce : List ParamVal := []
  waiting : List ParamVal := []
  /-- Receive values set in acquisition, which wait for an entry to CD_SEARCH (R78). -/
  acquiring : List ParamVal := []
  bodies : List BodyVal := []
deriving DecidableEq, Repr

/-- A record of the event queue or log (R341, R371). -/
structure EvtRec where
  event : Nat
  stamp : Stamp
  obj : Word32
  arg : EvtArg
deriving DecidableEq, Repr

/-- One entry of the MSI-X table (R368, PCIe 4.0 format): address, data, mask bit. -/
structure MsixEntry where
  addrLo : Word32 := 0
  addrHi : Word32 := 0
  data : Word32 := 0
  mask : Bool := true
deriving DecidableEq, Repr

/-- The event tree (R364 to R371). -/
structure EventTree where
  /-- EVT_STATUS, bit n for source n. -/
  status : BitVec 512 := 0
  /-- EVT_EN, bit n for source n. -/
  en : BitVec 512 := 0
  /-- EVT_ROUTE, byte n for source n. -/
  route : Vector Byte 512 := Vector.replicate 512 0
  irq0En : Bool := false
  irq1En : Bool := false
  /-- Occurrence counts (R365). -/
  counts : Vector Nat 512 := Vector.replicate 512 0
  /-- The queue of at most 256 records (R371), oldest first. -/
  queue : List EvtRec := []
  /-- The log of the last 1,024 records (R341), oldest first, each with its SEQ. -/
  log : List (Nat × EvtRec) := []
  /-- SEQ of the newest record; 0 when none (R369). -/
  logSeq : Word16 := 0
  /-- Lost-record count (R371). -/
  lost : Nat := 0
  /-- Log records taken (R385). -/
  logged : Nat := 0
  /-- System tick of the last raise of a limited event for its scope (R516). -/
  lastRaise : List ((Nat × Nat) × Nat) := []
  msix : Vector MsixEntry 32 := Vector.replicate 32 {}
  pba : BitVec 32 := 0
  msixEnable : Bool := false
  functionMask : Bool := false
  /-- MSI-X messages sent, newest first (vector numbers). -/
  sent : List Nat := []
deriving DecidableEq, Repr

/-- An item in a Chute (R16, R17): its data word, bits of it in error, and the two marks carried three times. -/
structure Item where
  data : Nat
  /-- Bit errors the check bits will find at the output: 0, 1, or 2 for an uncorrectable error (R21). -/
  errs : Nat
  endMark : BitVec 3
  poison : BitVec 3
deriving DecidableEq, Repr

/-- What stands in a Chute: an item, or the Census mark (R373). `rest` says whether the item has come to rest. -/
inductive InChute where
  | item (x : Item) (rest : Bool)
  | mark
deriving DecidableEq, Repr

/-- A Chute (R15 to R25). -/
structure Chute where
  /-- Oldest first. -/
  items : List InChute := []
  /-- Packets at rest (R18). -/
  packets : Nat := 0
  /-- The producer's incomplete write (R19, R20). -/
  pendingWrite : Option Item := none
  /-- That write has found the Chute closed (R25). -/
  shut : Bool := false
  corrected : Nat := 0
  uncorr : Nat := 0
  overrun : Nat := 0
  /-- Greatest occupancy since the last Census (R23). -/
  peak : Nat := 0
  written : Nat := 0
  taken : Nat := 0
  /-- In flight, of the last snapshot (R373). -/
  inFlight : Nat := 0
  /-- The consumer counts towards the mark (R373). -/
  counting : Option Nat := none
  /-- CHUTE_STALL raised for the present stall (R24), and the system tick from which the stall is counted. -/
  stalled : Bool := false
  since : Nat := 0
  /-- Items of the packet that the producer has begun and not ended (R17). -/
  open_ : Nat := 0
  /-- A read waits for an item at the output stage (R19). -/
  reading : Bool := false
  /-- The word last delivered to the consumer, with its end and poison marks (R21). -/
  out : Option (Nat × Bool × Bool) := none
  /-- Items delivered since the consumer last used what it took, and which of them were poisoned (R22). -/
  fresh : Nat := 0
  poisonAt : List Nat := []
deriving DecidableEq, Repr

end Sys2Proof.Machine
end

