-- ==== Sys2Proof/Machine/StateHouse.lean ====
section
/-! DEFINITION. State of the host lanes and the mate link (12_host_lanes.md), power (16_power.md), monitors, thermal management,
PMBus and GPIO (17_monitors_thermal.md). Defaults are the values after a full reset. -/

namespace Sys2Proof.Machine

/-- A lane's bring-up mode (R291). -/
inductive LaneMode where
  | anKr | training | fixed | stepped
deriving DecidableEq, Repr

/-- A lane's state (R294). -/
inductive LaneState where
  | off | wait | an | train | up
deriving DecidableEq, Repr

/-- A direction's low-power state (R298). -/
inductive LaneDir where
  | active | ei | sleep
deriving DecidableEq, Repr

/-- A host lane (R288 to R306). -/
structure Lane where
  provisioned : Bool := false
  /-- Exact rate, kb/s. -/
  rate : Nat := 0
  mode : LaneMode := .fixed
  /-- Transmit taps c(-3) to c(+1), 1/128 of peak: set at provisioning, and those in force. -/
  preset : List Int := [0, 0, 0, 128, 0]
  taps : List Int := [0, 0, 0, 128, 0]
  st : LaneState := .off
  los : Bool := true
  lol : Bool := false
  txDir : LaneDir := .active
  rxDir : LaneDir := .active
  /-- Test generator, checker, error injection, user pattern (R301, R359). -/
  gen : Nat := 0
  chk : Nat := 0
  inject : Nat := 0
  injectLive : Bool := false
  user : Nat := 0
  testBits : Nat := 0
  testErrs : Nat := 0
  testSyms : Nat := 0
  /-- Loopback in force, and one that waits for relock (R302). -/
  loop : Nat := 0
  loopNext : Option Nat := none
  /-- Octet synthesiser the lane takes its clock from (R289): 0 or 1. -/
  synth : Nat := 0
  /-- Stepped bring-up (R296, R297): trained in this step, PASS or FAIL of it, the far end's PASS, EXCLUDED. -/
  trained : Bool := false
  pass : Option Bool := none
  /-- TRAINED and PASS of the far end's last frame, and the frame this end sends meanwhile (R295). -/
  farTrained : Bool := false
  farPass : Bool := false
  frame : List Byte := []
  excluded : Bool := false
  /-- Classes the lane passed, with the taps stored there (R297); status of the partner's last COEF_REQ (R295). -/
  stored : List (Nat × List Int) := []
  coefStatus : Nat := 0
  /-- Receive SNR estimate, 1/256 dB; recovered-clock offset, 1/1,024 ppm (R306). -/
  snr : Int := 0
  offset : Int := 0
  losCount : Nat := 0
  lolCount : Nat := 0
  anFails : Nat := 0
  trainFails : Nat := 0
  exitFails : Nat := 0
  eiEntries : Nat := 0
  sleepEntries : Nat := 0
  /-- System ticks UP, in EI, in SLEEP, up to tick `mark` (R306). -/
  upTicks : Nat := 0
  eiTicks : Nat := 0
  sleepTicks : Nat := 0
  mark : Nat := 0
deriving DecidableEq, Repr

/-- Phase of the mate link's stepped bring-up (R296). -/
inductive MatePhase where
  | down | training | soak | decision | quiet | up
deriving DecidableEq, Repr

/-- A decision (R295, R296), in the order of its codes. -/
inductive Decision where
  | none | up | hold | down | restart
deriving DecidableEq, Repr

/-- The mate link (R295 to R297). -/
structure MateLink where
  cls : Nat := 0
  phase : MatePhase := .down
  /-- The training follows a DOWN decision: no soak, then HOLD (R297). -/
  noSoak : Bool := false
  /-- The decision of the last frame received, and COUNT: as received, or as the master sends it (R295). -/
  decision : Decision := .none
  count : Nat := 0
  farCaps : Nat := 0
  master : Bool := false
  isUp : Bool := false
deriving DecidableEq, Repr

/-- The device's power state (R386). -/
inductive DevPower where
  | run | idle | sleep | deepSleep | off
deriving DecidableEq, Repr

/-- A domain's state (R390, R391). -/
inductive DomState where
  | off | starting | run | stopping | clockOff | selfRefresh
deriving DecidableEq, Repr

/-- A power domain (R390 to R393). -/
structure Domain where
  st : DomState := .off
  /-- The state that the transition in progress leads to. -/
  target : DomState := .off
  /-- Stages of that transition that have not begun (R392). -/
  stagesLeft : Nat := 0
  /-- Stopping: its Chutes are empty and closed, its transactions complete (R391). -/
  drained : Bool := false
  /-- A stop forced by the thermal function, whose stages go to the head of the queue (R392, R422). -/
  thermal : Bool := false
  /-- Requests that wait until it settles, oldest first (R391), and the state of the second leg of a request that needs two
  legs (R392). -/
  next : List DomState := []
  leg : Option DomState := none
  /-- System tick at which the transition began. -/
  since : Nat := 0
  transitions : Nat := 0
  failed : Nat := 0
  /-- Saved Census values stand in for its islands (R374). -/
  saved : Bool := false
deriving DecidableEq, Repr

/-- The domains after a reset (R390): stacks in RUN, pools in CLOCK_OFF, carriers and octets OFF. -/
def resetDomains : Vector Domain 20 :=
  Vector.ofFn fun d => if d.val < 8 then {} else if d.val < 16 then { st := .clockOff } else { st := .run }

/-- A domain whose stages wait until a rail's voltage has settled (R393, R497). -/
structure RailRaise where
  rail : Nat
  dom : Nat
deriving DecidableEq, Repr

/-- The wake record (R397). -/
structure WakeRecord where
  fromState : Nat := 0xFF
  source : Nat := 0
  aborted : Bool := false
  brownout : Bool := false
  archiveBad : Bool := false
  elapsedValid : Bool := false
  other : Nat := 0
  entrySec : Nat := 0
  elapsedMs : Nat := 0
  exitUs : Nat := 0
  wakes : Nat := 0
deriving DecidableEq, Repr

/-- SAVE_HW of the Archive (R401): the BAR0 fields it holds. -/
structure SaveHw where
  en : BitVec 512
  route : Vector Byte 512
  irq0 : Bool
  irq1 : Bool
  chIrq : Vector Bool 4
  apBase : Nat
  apEn : Bool
  apEpEn : Bool
deriving DecidableEq, Repr

/-- SAVE_FW of the Archive (R401): the bodies and parameters in force of the commands it names; the rows of R285 that stand
elsewhere: priority table, reference command, oscillator sensor and coefficients. -/
structure SaveFw where
  bodies : List BodyVal
  params : List ParamVal
  prio : List Nat
  force : Option (Fin 12)
  manual : Option (Fin 12)
  lockouts : List Nat
  oscKind : Nat
  oscIdx : Nat
  oscCoef : Int × Int × Int × Int
deriving DecidableEq, Repr

/-- Power (R386 to R404). -/
structure Power where
  st : DevPower := .run
  /-- A state being entered (R388); its drain is done; its commit point is past. -/
  entering : Option DevPower := none
  drained : Bool := false
  committed : Bool := false
  /-- A wake source has been latched since the acceptance (R396); an exit is in progress, one of an abandoned entry. -/
  latched : Bool := false
  exiting : Bool := false
  /-- Stacks that this entry put into self-refresh (R388, step 3), and that its exit brings back. -/
  rested : List Nat := []
  /-- IDLE: the core clocks are gated (R386). -/
  coresOff : Bool := false
  domains : Vector Domain 20 := resetDomains
  /-- Stages that wait for admission, in order: domain (20 for the core), step in 0.01 A, found waiting (R392). -/
  queue : List (Nat × Nat × Bool) := []
  /-- Stages begun: system tick and step in 0.01 A, newest first. -/
  begun : List (Nat × Nat) := []
  budgetA : Nat := 20
  windowUs : Nat := 200
  waits : Nat := 0
  raises : List RailRaise := []
  wakeMask : Nat := 1
  timerSec : Nat := 0
  record : WakeRecord := {}
  /-- The BROWNOUT latch, fed from VAON (R399). -/
  brownLatch : Bool := false
  /-- Times in RUN, IDLE and SLEEP in system ticks up to tick `mark`, and aborted entries (R403). -/
  runTicks : Nat := 0
  idleTicks : Nat := 0
  sleepTicks : Nat := 0
  mark : Nat := 0
  aborted : Nat := 0
  /-- The save lists of the Archive, when they hold (R400, R401). -/
  saveHw : Option SaveHw := none
  saveFw : Option SaveFw := none
deriving DecidableEq, Repr

/-- State of a reference buffer (R408). -/
inductive RefBuf where
  | off | warming | ready
deriving DecidableEq, Repr

/-- A monitor channel (R405 to R412). -/
structure MonChan where
  conv : Nat := 0
  gain : Nat := 0
  filter : Nat := 0
  periodUs : Nat := 0
  /-- Latest code and latest settled code on MADC0 and MADC1. -/
  codeA : Int := 0
  codeB : Int := 0
  settledA : Int := 0
  settledB : Int := 0
  /-- Latest settled code not marked MISMATCH (R406). -/
  sensor : Int := 0
  /-- Consecutive mismatched and plausible pairs; MON_MISMATCH in force (R412). -/
  mismatchRun : Nat := 0
  matchRun : Nat := 0
  mismatch : Bool := false
  conversions : Nat := 0
  unsettled : Nat := 0
  restarts : Nat := 0
  late : Nat := 0
  pairs : Nat := 0
deriving DecidableEq, Repr

/-- A conversion on a converter (R407 to R413): channel, gain and filter at its start, whether it is half of a shared pair, the
safety check that asked for it, whether its next result carries RESTARTED, and for a streamed channel the µs since the latest
event after which its results are UNSETTLED (R411). -/
structure Conversion where
  chan : Nat
  gain : Nat
  filter : Nat
  shared : Bool := false
  check : Option Nat := none
  restarted : Bool := false
  stream : Option Nat := none
deriving DecidableEq, Repr

/-- One monitor converter (R407 to R413): its reference buffer's EN, the buffer, the conversion running, one aborted that starts
again (R413). -/
structure Madc where
  en : Bool := false
  buf : RefBuf := .off
  running : Option Conversion := none
  aborted : Option Conversion := none
  skipped : Nat := 0
  urgents : Nat := 0
  preempted : Nat := 0
deriving DecidableEq, Repr

/-- A sample of the result queue (R361). -/
structure MonSample where
  chan : Nat
  conv : Nat
  flags : Nat
  setting : Nat
  code : Int
  sec : Nat
  ns : Nat
deriving DecidableEq, Repr

/-- A PMBus rail (R417, R427, R496). -/
structure Rail where
  configured : Bool := false
  addr : Nat := 0
  adaptive : Bool := false
  /-- MV of PMBUS.RAIL.SET, and the setpoint commanded. -/
  mv : Nat := 0
  setMv : Nat := 0
  /-- Commanded on (R497); its voltage is being waited for (R393). -/
  on : Bool := true
  settling : Bool := false
  vout : Nat := 0
  iout : Nat := 0
  status : Nat := 0
  nackRun : Nat := 0
  pecRun : Nat := 0
  /-- READ_VOUT did not settle (R393). -/
  voutBad : Bool := false
  /-- 0 none; cause of the fault in force, as AUX of PMBUS_FAULT. -/
  cause : Nat := 0
  faults : Nat := 0
  nacks : Nat := 0
  pecs : Nat := 0
  /-- Adaptive loop (R416): its offset in mV, consecutive periods above 1.06, margin-deficit periods. -/
  offset : Int := 0
  aboveRun : Nat := 0
  deficit : Nat := 0
deriving DecidableEq, Repr

/-- A thermal sensor (R418 to R420). -/
structure Sensor where
  /-- 1/16 °C. -/
  reading : Int := 0
  healthy : Bool := true
  /-- The last 288 readings, newest first (R420). -/
  hist : List Int := []
  rangeRun : Nat := 0
  neighbourRun : Nat := 0
  /-- Consecutive readings at or above 110 °C, 120 °C and 125 °C (R421, R423). -/
  warnRun : Nat := 0
  stopRun : Nat := 0
  shutRun : Nat := 0
  peak : Int := 0
  /-- Readings since the last change, its neighbours' readings at that change, and whether a healthy one has moved by 2 °C or more
  since (R419). -/
  same : Nat := 0
  nearAt : List Int := []
  nearMoved : Bool := false
deriving DecidableEq, Repr

/-- The nominal voltage of a supply in mV (R496), its setpoint before `PMBUS.RAIL.SET` names another: VCORE at cold start 0.80 V; RAIL
13 to 15 are board rails that the device never commands. -/
def railNominal (r : Nat) : Nat := [800, 750, 900, 1200, 900, 1200, 750, 1200, 1100, 1100, 1100, 1100, 1800].getD r 0

/-- The thermal state (R421). -/
inductive ThermState where
  | normal | warn | stop | shutdown
deriving DecidableEq, Repr

/-- Monitors, thermal management, PMBus and GPIO. -/
structure House where
  chans : Vector MonChan 64 := Vector.replicate 64 {}
  madc : Vector Madc 2 := Vector.replicate 2 {}
  /-- Channels that are due and wait: due instant in 2^-16 ns and channel (R409); checks whose urgent request waits (R413). -/
  due : List (Nat × Nat) := []
  urgent : List Nat := []
  queue : List MonSample := []
  lost : Nat := 0
  lostPending : Bool := false
  /-- Process monitors: f_ro of the 27 islands of R12, 100 kHz (R416). -/
  fro : List Nat := List.replicate 27 0
  rails : Vector Rail 16 := Vector.ofFn fun r => { mv := railNominal r.val, setMv := railNominal r.val }
  sensors : Vector Sensor 32 := Vector.replicate 32 {}
  therm : ThermState := .normal
  /-- Consecutive computations with R_max at or above 4 °C/s and 12 °C/s, and rate events in force (R421). -/
  rateWarnRun : Nat := 0
  rateStopRun : Nat := 0
  rateWarn : Bool := false
  rateStop : Bool := false
  /-- 1 ms periods of sensing since it began. -/
  readings : Nat := 0
  /-- Consecutive readings, 1 ms apart, at which the conditions of recovery have been met (R421). -/
  recovering : Nat := 0
  /-- T_max in 1/16 °C; R_max as a difference of sums of 32 readings (R420): 1/16 °C in 8.192 s; none while no rate is valid. -/
  tMax : Int := 0
  rMax : Option Int := none
  /-- The shutdown record: sensor, reading, seconds; it has not been reported since (R423). -/
  shutRecord : Option (Nat × Int × Nat) := none
  shutFresh : Bool := false
  /-- The device has started after a shutdown that was not reported before (R423). -/
  afterShut : Bool := false
  /-- Octets that a thermal stop took from RUN (R422). -/
  stopOctets : List Nat := []
  warns : Nat := 0
  stops : Nat := 0
  warnTicks : Nat := 0
  stopTicks : Nat := 0
  mark : Nat := 0
  gpioDir : Nat := 0
  gpioOut : Nat := 0
deriving DecidableEq, Repr

end Sys2Proof.Machine
end

