-- ==== Sys2Proof/Machine/StateLine.lean ====
section
/-! DEFINITION. State of the line side: converters (02_converters.md), receive DSP (03_receive_dsp.md), bit loading and transmit
DSP (04_transmit_bitloading.md), decoding (05_readers_decoding.md). Defaults are the values after a full reset. -/

namespace Sys2Proof.Machine

/-- What a slice of a converter is doing (R34). -/
inductive Role where
  | active | spare | measuring | retired
deriving DecidableEq, Repr

/-- The rotation of a converter (R44). -/
inductive Rot where
  | off | foreground | select | shadowIn | measure | shadowOut | spareMeasure | gap | halted
deriving DecidableEq, Repr

/-- An emergency substitution (R45), or the same for a forced retirement (R49): position, faulty slice, replacement. -/
structure Subst where
  pos : Nat
  faulty : Nat
  repl : Nat
  forced : Bool
deriving DecidableEq, Repr

/-- The selection word of a DAC slice before a calibration: the first 63 cells, first candidates and taps (log 60). -/
def dacSelection : Nat := 2 ^ 63 - 1

/-- A converter (R34 to R51). Slice p starts at position p; slices 128 to 131 are spare (manufacture). -/
structure Conv where
  /-- Slice at each of the 128 positions (R37). -/
  map : List Nat := List.range 128
  roles : List Role := List.replicate 128 .active ++ List.replicate 4 .spare
  /-- Selection in force of each slice, as an element-index word of 96 bits (R36, R37; layout: log 60). -/
  selection : List Nat := List.replicate 132 0
  /-- Consecutive measurement failures of each slice (R44). -/
  fails : List Nat := List.replicate 132 0
  rot : Rot := .off
  /-- Visit under way: the position visited, the slice standing in (or shadowing), the slice measured. -/
  visitPos : Option Nat := none
  standIn : Option Nat := none
  measured : Option Nat := none
  /-- Measurement runs ended, by slice, oldest first (R39). -/
  runs : List (Nat × MeasRun) := []
  /-- Positions of the pass still to visit; positions put off until after the next item; spares measured in the pass. -/
  todo : List Nat := List.range 128
  redo : List Nat := []
  redoWait : Bool := false
  spareVisited : List Nat := []
  subst : List Subst := []
  /-- Slices whose substitution waits for a spare to be freed, with forced or not (R45). -/
  waitSpare : List (Nat × Bool) := []
  /-- Slices faulty in the last statistics window, and slices in fault already reported (R45). -/
  faultRun : List Nat := []
  faulted : List Nat := []
  /-- Temperature recorded at the last completed pass, 1/16 °C (R47). -/
  passTemp : Int := 0
  staleRaised : Bool := false
  /-- Temperature last applied by R38, 1/16 °C, and the full-scale compensation in force; none: uncompensated (R451). -/
  temp : Int := 0
  fsComp : Option Int := none
  /-- Map, roles and selections stand as the Catalogue or a calibration gave them since the full reset (R37, R44). -/
  loaded : Bool := false
  passes : Nat := 0
  /-- Completed visits (R50): a position visit that ends in a retirement is not completed, a spare's is (log 62). -/
  visits : Nat := 0
  measFails : Nat := 0
  sliceFaults : Nat := 0
  emergencies : Nat := 0
  abandoned : Nat := 0
  forced : Nat := 0
deriving DecidableEq, Repr

/-- The foreground calibration of a carrier's converters (R40, R41). -/
structure Foreground where
  /-- Groups ended: the 17 groups, then the repeat groups. -/
  group : Nat := 0
  /-- Slices to repeat, as 132 × converter + slice, in the order in which they failed. -/
  repeats : List Nat := []
  retest : Bool := false
  /-- Slices RETIRED when the calibration began, numbered likewise (R46, R51). -/
  retired0 : List Nat := []
  /-- True when a carrier enable started it, false for CONV.CALIBRATE. -/
  byEnable : Bool := false
deriving DecidableEq, Repr

/-- The receiver of a carrier (R72). -/
inductive RxCarrierState where
  | off | signalWait | frontEnd | running
deriving DecidableEq, Repr

/-- The state of a receive group (R72). -/
inductive RxGroupState where
  | off | cdSearch | clockAcq | freqAcq | trainSync | eqAcq | track
deriving DecidableEq, Repr

/-- The state of a subcarrier (R73). -/
inductive ScState where
  | unused | wait | acq | locked | lost
deriving DecidableEq, Repr

/-- A subcarrier of a carrier, receive side (R73, R77, R80). SNR in 1/256 dB, GMI in 1/4,096 bit. -/
structure RxSub where
  st : ScState := .unused
  snrLow : Bool := false
  snrX : Int := 0
  snrY : Int := 0
  gmi : Nat := 0
  dgd : Nat := 0
  pdl : Nat := 0
  rotRate : Nat := 0
  /-- Pilots of the present volume and those that mismatch (R67, R73); quadrants of phase correction of X and Y (R67). -/
  pilots : Nat := 0
  mism : Nat := 0
  quadX : Fin 4 := 0
  quadY : Fin 4 := 0
  /-- Dispersion whose delay the equaliser taps have been shifted by (R61), 1/16 ps/nm. -/
  tapShift : Int := 0
  slips : Nat := 0
  losses : Nat := 0
deriving DecidableEq, Repr

/-- What the demapper makes of one quadrature dimension of a data symbol (R68, R106): the LLRs of the levels in the LDPC code, level
0 first, and the hard decisions of the higher levels. -/
structure Dim where
  llr : List Nat
  up : List Bool
deriving DecidableEq, Repr

/-- The part of the codeword stream that one folio brings and that no parcel has taken yet (R111): the folio's arrival, whether the
folio begins a volume, and its dimensions in stream order. -/
structure RxSeg where
  arrival : Nat
  newVol : Bool
  dims : List Dim
deriving DecidableEq, Repr

/-- A folio that waits in the receive queue for its release (R30, R124): its arrival, its VOLUME and FOLIO, the slots of the codewords
that begin in it with their sequence numbers, and its bits of levels 2 and 3. -/
structure DueFolio where
  arrival : Nat
  num : Option (Nat × Nat) := none
  slots : List (Nat × Nat) := []
  bits2 : Nat := 0
  bits3 : Nat := 0
deriving DecidableEq, Repr

/-- A receive group (R59 to R77). Dispersion in 1/16 ps/nm. -/
structure RxGroup where
  st : RxGroupState := .off
  /-- Waiting for the carrier's one search engine (R60). -/
  engineWait : Bool := false
  hint : Option Int := none
  bulk : Int := 0
  /-- The search window in use: centre and half-width. -/
  centre : Int := 0
  half : Int := 0
  fails : Nat := 0
  acqFailRaised : Bool := false
  epoch : Nat := 0
  valid : Bool := false
  moved : Bool := false
  reacq : Bool := false
  /-- Total dispersion of the volumes since the entry to TRACK, newest first, at most the averaging window (R76). -/
  totals : List Int := []
  /-- CD_TOTAL and SIGMA of the latest record, and its 24 bytes (R75). -/
  cdTotal : Int := 0
  sigma : Nat := 0
  record : List Byte := List.replicate 24 0
  /-- More than half of the subcarriers have not been LOCKED since the last volume boundary (R72). -/
  halfOut : Bool := false
  /-- Far laser offset, MHz, with the correction set after the channeliser (HUB, R57); far clock offset, 1/1,024 ppm. -/
  freqOff : Int := 0
  postShift : Int := 0
  clockOff : Int := 0
  clockLocked : Bool := false
  /-- Stamp of the last folio's first symbol, 2^-16 ns (R70). -/
  arrival : Nat := 0
  /-- The codeword stream (R111): folios not yet taken, codeword boundaries known, a volume begins with the next folio, the group has
  left TRACK with a codeword open (R112). -/
  segs : List RxSeg := []
  synced : Bool := false
  volStart : Bool := false
  closing : Bool := false
  /-- Folios that wait for their release, oldest first, and what the last four folios released held (R30, R166). -/
  due : List DueFolio := []
  past : List (List Byte) := []
  acquisitions : Nat := 0
  acqFails : Nat := 0
  losses : Nat := 0
  bulkMoves : Nat := 0
deriving DecidableEq, Repr

/-- A carrier's receiver (R56 to R80). -/
structure RxCarrier where
  st : RxCarrierState := .off
  /-- LOS stands declared until it is first cleared: at reset and at an enable, with no event or count (log 64). -/
  los : Bool := true
  groups : Vector RxGroup 16 := Vector.replicate 16 {}
  subs : Vector RxSub 16 := Vector.replicate 16 {}
  /-- Group that holds the search engine (R60). -/
  engine : Option (Fin 16) := none
  /-- Front-end corrections in force, X then Y (R58). -/
  fe : FrontEnd × FrontEnd := ({}, {})
  /-- Common frequency shift before the channeliser, MHz (R62); 0 in HUB (R57). -/
  shift : Int := 0
  clipped : Nat := 0
  clipRaised : Bool := false
  losCount : Nat := 0
  /-- Pre-FEC bits and errored bits of levels 0 to 3 (R77). -/
  preFecBits : List Nat := List.replicate 4 0
  preFecErrs : List Nat := List.replicate 4 0
  /-- The same in the quality window in progress. -/
  winBits : List Nat := List.replicate 4 0
  winErrs : List Nat := List.replicate 4 0
deriving DecidableEq, Repr

/-- The loading state of a transmit group (R94). -/
inductive Loading where
  | off | steady | proposed | armed
deriving DecidableEq, Repr

/-- The loading of a group, transmit and receive side (R85 to R95). A table has 16 entries (R85). -/
structure TxGroup where
  st : Loading := .off
  tidCur : Nat := 0
  tidNext : Nat := 0
  countdown : Nat := 0
  tableCur : List Nat := List.replicate 16 0
  tableNext : List Nat := List.replicate 16 0
  /-- Last TID assigned (R94). -/
  lastTid : Nat := 0
  /-- Manual table (R90), and a proposal of AUTO that waits for STEADY (R94). -/
  manual : Option (List Nat) := none
  want : Option (List Nat) := none
  marginLow : Bool := false
  /-- Last accepted report as sent, its RPT_SEQ, and the SNR used for each subcarrier and polarisation, 0.01 dB (R88). -/
  report : List Nat := List.replicate 32 0xFF
  rptSeq : Option Nat := none
  snr : List Int := List.replicate 32 0
  /-- Sums of the accepted reports of the loading interval, their number, and the entries that were never valid in it. -/
  sums : List Int := List.replicate 32 0
  reports : Nat := 0
  neverOk : List Bool := List.replicate 32 true
  /-- A candidate is being computed: from the present SNR, or from the interval's means (R90). -/
  candidate : Option (List Int) := none
  /-- Receive side: applied TID and table, the epoch of TRACK they were taken in, the scheduled table, its TID and the folios
  that remain, ACK_TID, and consecutive good fields with another TID_CUR (R95). -/
  rxTid : Nat := 0
  rxTable : List Nat := List.replicate 16 0
  rxEpoch : Option Nat := none
  rxNextTid : Nat := 0
  rxNext : Option (List Nat) := none
  rxCount : Nat := 0
  /-- TID and table of a resynchronisation, applied from the next folio (R95). -/
  rxPend : Option (Nat × List Nat) := none
  ackTid : Nat := 0
  mismatch : Nat := 0
  /-- Report returned to the far end (R92): RPT_SEQ, RPT_TID, the epoch of the window, a table change within the window. -/
  outSeq : Nat := 0
  outTid : Nat := 0xFF
  outEpoch : Option Nat := none
  outChanged : Bool := false
  /-- The loading field of the last folio sent (R92). -/
  sent : List Byte := []
  changes : Nat := 0
  withdrawn : Nat := 0
  lfCrc : Nat := 0
  resyncs : Nat := 0
deriving DecidableEq, Repr

/-- A carrier's transmit DSP (R87, R98 to R104). -/
structure TxCarrier where
  groups : Vector TxGroup 16 := Vector.replicate 16 {}
  /-- Required-SNR curves set by the host, by LDPC rate (R87). -/
  curves : List (Nat × List Int) := []
  /-- Curves that wait for the end of a proposal (R103). -/
  curvesNext : List (Nat × List Int) := []
  /-- Pre-emphasis (0.01 dB at 64 points): in force, and the host's share of it; pre-distortion in force; and those that wait for a
  volume boundary (R98, R99). -/
  preEmph : List Int := List.replicate 64 0
  hostEmph : List Int := List.replicate 64 0
  preEmphNext : Option (List Int) := none
  predist : List Nat := (List.range 1024).map (· / 4)
  predistNext : Option (List Nat) := none
  clipRaised : List Bool := List.replicate 4 false
  clipped : List Nat := List.replicate 4 0
  poisoned : Nat := 0
  /-- The transmitter runs (R164, R165). -/
  txOn : Bool := false
deriving DecidableEq, Repr

/-- Provisioning and enable state of a carrier (R342, R343, R40). -/
structure Carrier where
  provisioned : Bool := false
  symRate : Nat := 288000
  ldpcRate : Nat := 1
  adcFs : Nat := 1
  dacSwing : Nat := 500
  groupMap : List Nat := List.replicate 16 0
  slices : List Nat := 32 :: List.replicate 15 0
  targets : List Nat := List.replicate 16 0
  enabled : Bool := false
  /-- An enable is in progress: its domains come up, or its converters are calibrated (R40, R390). -/
  enabling : Bool := false
  fg : Option Foreground := none
  /-- Converters: the four DACs, then the four ADCs. -/
  convs : Vector Conv 8 := (Vector.replicate 4 ({ selection := List.replicate 132 dacSelection } : Conv) ++ Vector.replicate 4 ({} : Conv) : Vector Conv (4 + 4))
deriving DecidableEq, Repr

/-- A pool's service state (R129). -/
inductive PoolState where
  | isIn | removing | out
deriving DecidableEq, Repr

/-- Where a codeword is (R127). REDECODING begins with the fetch of its entry. -/
inductive CwState where
  | queued | decoding | parked | redecoding | done | unresolved
deriving DecidableEq, Repr

/-- A codeword from its parcel to its release (R111 to R127), by its key: carrier, group and sequence number. -/
structure Codeword where
  key : Nat
  seq : Nat
  car : Fin 2
  group : Nat
  rate : Nat
  /-- Deadline in device time, 2^-16 ns (R123). -/
  deadline : Nat
  /-- Receive-queue slot of its result (R112, R125), a word address. -/
  slot : Nat
  /-- The items of its parcel that came poisoned and were erased (R119). -/
  bad : List Nat
  /-- 20,480 LLRs of 5 bits, and the hard decisions of the upper levels. -/
  llr : List Byte
  upper : List Byte
  /-- Stream positions that symbols filled, and those of them that carry level 1, as a mask (R77, R112). -/
  filled : Nat
  level1 : Nat
  st : CwState
  iter1 : Nat := 0
  /-- Checks unsatisfied in the placeholder (R120). -/
  unsat : Nat := 0
deriving DecidableEq, Repr

/-- What a Reader works on (R115 to R119, R122): the pool it was taken from, the iterations done and the limit, whether a cap (not
the deadline) set the limit, and the decoder's sums by code bit and messages by check. -/
structure Work where
  key : Nat
  rate : Nat
  reserve : Bool
  fetching : Bool
  from_ : Nat
  iter : Nat
  limit : Nat
  byCap : Bool
  post : Array Int := #[]
  msgs : Array Int := #[]
deriving DecidableEq, Repr

/-- A Reader (R115 to R118). Busy time in units of 40 ns. -/
structure Reader where
  inService : Bool := true
  work : Option Work := none
  busy : Nat := 0
  faults : Nat := 0
deriving DecidableEq, Repr

/-- A Reader pool (R113, R129, R131). -/
structure Pool where
  st : PoolState := .isIn
  /-- Keys of the codewords queued, in deadline order, at most 48. -/
  queue : List Nat := []
  /-- A restore whose domain comes up, with the mask of Readers that its self-test will find failed (R390). -/
  restoring : Option Nat := none
  lent : Nat := 0
  borrowed : Nat := 0
  peak : Nat := 0
  readers : Vector Reader 12 := Vector.replicate 12 {}
deriving DecidableEq, Repr

/-- A Reader result on its way to its slot (R117, R119, R120, R124, R125): from which island, and its words with a poison mark. -/
structure Result where
  island : Nat
  car : Fin 2
  seq : Nat
  slot : Nat
  data : List Byte
  unres : Bool
  poison : List Nat
deriving DecidableEq, Repr

/-- A receive-queue slot written or read (R124, R125): its words, the sequence number they carry, unresolved, read begun. -/
structure QSlot where
  slot : Nat
  car : Fin 2
  seq : Nat
  words : Nat
  unres : Bool
  readBegun : Bool
deriving DecidableEq, Repr

/-- Decoding counters of one carrier (R131). -/
structure DecCtr where
  first : Nat := 0
  reserve : Nat := 0
  /-- Unresolved in all, and by cause: cap in fixed latency, exhausted in Reserve, dropped, expired, poisoned fetch, too late. -/
  unresolved : Nat := 0
  causes : List Nat := List.replicate 6 0
  parkedCap : Nat := 0
  parkedArrival : Nat := 0
  late : Nat := 0
  hist : List Nat := List.replicate 49 0
  poisonedParcels : Nat := 0
  readerFaults : Nat := 0
  outerBits : Nat := 0
  outerBlocks : Nat := 0
  /-- The second of device time being counted, and its unresolved codewords (R124). -/
  second : Nat := 0
  inSecond : Nat := 0
  /-- DEC_UNRESOLVED has been raised in that second. -/
  raised : Bool := false
deriving DecidableEq, Repr

/-- The decoders (R105 to R131). -/
structure Decode where
  pools : Vector Pool 8 := Vector.replicate 8 {}
  words : List Codeword := []
  /-- Reserve entries in use: entry number and the codeword's key (R120). -/
  reserve : List (Nat × Nat) := []
  /-- Results in flight, oldest first (R125). -/
  results : List Result := []
  slots : List QSlot := []
  ctrs : Vector DecCtr 2 := Vector.replicate 2 {}
  /-- Next codeword number of each carrier and group, carrier × 16 + group (R122). -/
  nextSeq : List Nat := List.replicate 32 0
  /-- DEC_RESERVE_HIGH may be raised (R121). -/
  highArmed : Bool := true
  peak : Nat := 0
  /-- Parcels assembled in the present second of device time and in the one before (R129). -/
  rateSec : Nat := 0
  rateNow : Nat := 0
  rateLast : Nat := 0
deriving DecidableEq, Repr

end Sys2Proof.Machine
end

