-- ==== Sys2Proof/Machine/StateStacks.lean ====
section
/-! DEFINITION. State of the Stacks (10_stacks.md R229 to R253) and of the Census and performance monitoring
(15_events_census.md R372 to R385). Defaults are the values after a full reset from power-on. -/

namespace Sys2Proof.Machine

/-- A page of the Accession log (R247): page, cause, bank address. -/
structure AccEntry where
  page : Nat
  cause : Nat
  stack : Nat
  chan : Nat
  bank : Nat
deriving DecidableEq, Repr

/-- A tracker entry (R243, R355). -/
structure Track where
  word : Nat
  count : Nat := 0
  afterWrite : Nat := 0
  hard : Bool := false
  mask : Nat := 0
  firstSec : Nat := 0
  lastSec : Nat := 0
  /-- The word has been written since its last correction. -/
  written : Bool := false
  /-- The tracker has written the word back (R243). -/
  wroteBack : Bool := false
  /-- Order of opening, to find the oldest among equals. -/
  age : Nat := 0
deriving DecidableEq, Repr

/-- A transaction of a stack controller (R230, R237 to R241): a read with the REGION and SEQ a queue reader expects and
whether a write to the word is waiting behind it; a whole-word write; a narrow write of bytes at an offset. -/
inductive StkReq where
  | read (w : Nat) (expect : Option (Nat × Nat)) (waiting : Bool)
  | write (w : Nat) (data : List Byte) (seq region : Nat) (unres endMark poison : Bool)
  | narrow (w off : Nat) (data : List Byte) (region : Nat)
deriving DecidableEq, Repr

/-- Counts per stack, channel and bank (R253). -/
structure BankCtr where
  corrected : Nat := 0
  uncorr : Nat := 0
  addrCheck : Nat := 0
  poisonedReads : Nat := 0
deriving DecidableEq, Repr

/-- A region of the Stacks (R235, R236, numbered r as in R253): its pages in order. -/
structure Region where
  r : Nat
  pages : List Nat
  /-- Write position, in words from its start. -/
  wr : Nat := 0
  /-- Pages that join at the next wrap (R236), and replacements that wait for the next snapshot of a half (R248): the page
  left and the page that follows it. -/
  adding : List Nat := []
  leaving : List (Nat × Nat) := []
  /-- Pages already replaced that the reader has not yet passed (R248). -/
  old : List Nat := []
deriving DecidableEq, Repr

/-- The Stacks (R229 to R253). -/
structure Stacks where
  /-- Stored symbols: address 72 * word + symbol, canonical. -/
  mem : List Host.Cell := []
  initialised : Bool := false
  initBusy : Bool := false
  /-- What an unlisted symbol holds: false, the arbitrary content of power-up (log 11); true, 0 as initialisation wrote. -/
  cleared : Bool := false
  /-- Pages retired before the initialisation in force, which it did not write (R246). -/
  unwritten : List Nat := []
  /-- Losses of contents of each stack; names the arbitrary content (R246, R391). -/
  losses : List Nat := List.replicate 4 0
  /-- The Accession log (R247). -/
  log : List AccEntry := []
  regions : List Region := []
  /-- The two pages of the firmware staging area (R442). -/
  staging : List Nat := []
  /-- Retirement under way: entries that wait for their page's release, the pages retired so far, and OBJ of the command's
  report (R248). -/
  retiring : List AccEntry := []
  retiredNow : Nat := 0
  retireObj : Nat := 0
  limit1536 : Bool := false
  limit2048 : Bool := false
  /-- The 256 tracker entries by index (R243). -/
  tracker : List (Option Track) := List.replicate 256 none
  trackerFull : Bool := false
  trackAge : Nat := 0
  scrubPos : Nat := 0
  scrubPasses : Nat := 0
  /-- Counts by stack × 512 + channel × 32 + bank, those not all 0. -/
  banks : List (Nat × BankCtr) := []
  narrow : Nat := 0
  partialPoison : Nat := 0
  poisonWb : Nat := 0
  trackWb : Nat := 0
  scrubWb : Nat := 0
  evictions : Nat := 0
  poisonFound : Nat := 0
  /-- Tags in use and their peak for each of the 64 channels (R230). -/
  tags : List Nat := List.replicate 64 0
  tagPeak : List Nat := List.replicate 64 0
  /-- Requests that wait for a tag of their channel, oldest first (R230). -/
  tagWait : List (Nat × StkReq) := []
  bytesRead : List Nat := List.replicate 4 0
  bytesWritten : List Nat := List.replicate 4 0
  /-- Poisoned data consumed, by row of R242. -/
  consumed : List Nat := List.replicate 10 0
  /-- The data last delivered, with its outcome: 0 clean, 1 corrected, 2 uncorrectable, 3 poisoned. -/
  out : Option (List Byte × Nat) := none
deriving DecidableEq, Repr

/-- The aperture's registers (R250, R251). -/
structure Aperture where
  window : Nat := 0
  en : Bool := false
  epEn : Bool := true
  poison : Bool := false
  retired : Bool := false
  denied : Bool := false
  lastWord : Nat := 0
  lastWrite : Bool := false
  /-- The data of the last BAR2 read; none when it was refused or poisoned. -/
  out : Option (List Byte) := none
  /-- That read's TLP carried the EP bit (R251). -/
  outEp : Bool := false
deriving DecidableEq, Repr

/-- What waits in a PM entity's pipe until 10 s have passed (R382, R383): a second with its near-end and far-end errored blocks,
its B, and its near-end and far-end defects; the end of a 15-minute (false) or 24-hour bin; a mark that makes the bins SUSPECT;
seconds that a forward step passed over. -/
inductive PmStep where
  | second (ne fe b : Nat) (ned fed : Bool)
  | shift (day : Bool)
  | suspect
  | clean (n : Nat)
deriving DecidableEq, Repr

/-- A PM entity (R381): OBJ, layer (0xFF Ethernet) and TPN as a directory entry has them (R378), the 824 cells of R383, its pipe,
oldest first, and whether it is in unavailable time (R382). -/
structure PmEntity where
  ob : Nat
  layer : Nat
  tpn : Nat
  cells : List Nat
  pipe : List PmStep := []
  /-- Seconds that a forward step passed over and that follow the second in progress (R257, R383). -/
  owed : Nat := 0
  neUnavail : Bool := false
  feUnavail : Bool := false
deriving DecidableEq, Repr

/-- A block of a snapshot (R378, R379): its directory identity and its cells. -/
structure CensusBlock where
  typ : Nat
  layer : Nat
  op : Nat
  ob : Nat
  cells : List Nat
deriving DecidableEq, Repr

/-- A snapshot being latched or written (R372 to R376). -/
structure Snapshot where
  /-- Its instant in 2^-16 ns. -/
  t : Nat
  half : Nat
  /-- Islands that have latched, and those not in RUN at its instant, which supply saved values. -/
  latched : List Nat := []
  saved : List Nat := []
  blocks : List CensusBlock := []
  counts : List Nat := []
  /-- Chutes: index and consumer-side cells (corrected, uncorrectable, peak, taken); index and producer-side cells (overruns,
  written). -/
  takenCells : List (Nat × List Nat) := []
  writtenCells : List (Nat × List Nat) := []
  /-- Asked for by a `CENSUS.TAKE`, which completes with it. -/
  byCmd : Bool
deriving DecidableEq, Repr

/-- The Census engine (R372 to R380). -/
structure Census where
  periodMs : Nat := 0
  /-- A requested instant not yet reached, in 2^-16 ns (R376, R380). -/
  want : Option Nat := none
  /-- That instant is a `CENSUS.TAKE`'s, not the register's. -/
  wantCmd : Bool := false
  busy : Option Snapshot := none
  seq : Nat := 0
  lastHalf : Nat := 0
  lastT : Nat := 0
  lastUs : Nat := 0
  /-- The half held (R380). -/
  held : Option Nat := none
  /-- The HOLD bit of EVT_CENSUS_CTRL (R380). -/
  hold : Bool := false
  skippedBit : Bool := false
  mapIndex : Nat := 0
  layoutGen : Nat := 0
  /-- Directory of the last layout, to see a change (R378). -/
  dir : List (Nat × Nat × Nat × Nat) := []
  taken : Nat := 0
  delayed : Nat := 0
  skipped : Nat := 0
  pm : List PmEntity := []
  /-- Ends of bins, newest first: of a 24-hour bin or not, and SEC (R378, R383). -/
  bounds : List (Bool × Nat) := []
deriving DecidableEq, Repr

end Sys2Proof.Machine
end

