-- ==== Sys2Proof/Machine/StateSys.lean ====
section
/-! DEFINITION. State of boot, firmware, Catalogue and Vault (18_boot_security.md), the laser safety function
(19_laser_safety.md), the mated pair (20_mated_pair.md), pins, SPI and JTAG (21_pins_electrical.md, 22_reset_bringup.md).
Defaults are the values after a full reset from power-on. -/

namespace Sys2Proof.Machine

/-- Boot and firmware (R428 to R446). -/
structure Boot where
  /-- BOOT_STATUS (R434): STAGE, ERR_A, ERR_B, FALLBACK, TRIAL, CAT_RECOVERED, BCFG_VALID, DONE. -/
  stage : Nat := 0
  errA : Nat := 0xF
  errB : Nat := 0xF
  fallback : Bool := false
  trial : Bool := false
  catRecovered : Bool := false
  bcfgValid : Bool := false
  done : Bool := false
  /-- BOOT_FW (R434); 0 until step 6 of R432. -/
  fw : Nat := 0
  /-- BOOT_RESET_CAUSE (R511). -/
  cause : Nat := 1
  /-- RESET_N is low (R498: the board holds it low as the supplies rise). -/
  resetLow : Bool := true
  /-- The Archive holds (R399, R400, R511). -/
  archiveOk : Bool := false
  /-- Yozon initialises the functions (R432 step 7). -/
  booting : Bool := false
  /-- A supply of the stacks left its tolerance (R512); one that a wake needs was removed at rest (R497). -/
  stackSupplyLost : Bool := false
  coldNext : Bool := false
  /-- The boot flash as it stands (R429). -/
  flash : Flash := {}
  /-- OTP (R430): the bits of the anti-rollback counter that are set, and the revoke bits. -/
  counter : Nat := 0
  revoked : Nat := 0
  /-- Factory records that the first stage took from the OTP factory block, by type (R446). -/
  factory : List (Nat × List Byte) := []
  /-- BOOT_FALLBACK to raise once Yozon runs: AUX (R432, R433, R456). -/
  fallbackCause : Option Nat := none
  /-- Events of step 6 to raise once Yozon runs: SUB of CATALOGUE_SLOT_BAD (R450, R451). -/
  slotBad : List Nat := []
  /-- The boot follows an exit from DEEP_SLEEP (R432 steps 6 and 7). -/
  fromDeep : Bool := false
  /-- FW.LOAD in progress: channel and TOTAL (R442); the bytes staged. -/
  staging : Option (Fin 4 × Nat) := none
  staged : List Byte := []
  /-- The staged image is being programmed (R444). -/
  programming : Bool := false
  /-- System tick from which an image on trial has held READY (R445). -/
  trialSince : Nat := 0
  loads : Nat := 0
  loadFails : Nat := 0
  activations : Nat := 0
  fallbacks : Nat := 0
  commits : Nat := 0
deriving DecidableEq, Repr

/-- The Catalogue (R447 to R455). -/
structure Catalogue where
  /-- Slot in force, once the first stage has chosen one: false slot 0. -/
  slot : Option Bool := none
  seq : Nat := 0
  /-- Records that the device holds by type and number, ascending (R448). -/
  records : List (Nat × List Byte) := []
  /-- Changes pending; an empty record removes (R449). -/
  pending : List (Nat × List Byte) := []
  /-- The write in progress: the records that the new slot will hold. -/
  writing : Option (List (Nat × List Byte)) := none
  /-- The slot being erased: false slot 0. -/
  erasing : Option Bool := none
  /-- The write in progress has failed its read-back once (R449). -/
  retry : Bool := false
  /-- A new slot is to be written although no change is pending (R450). -/
  mustWrite : Bool := false
  writes : Nat := 0
  writeFails : Nat := 0
  interrupted : Nat := 0
  foreign : Nat := 0
  recovered : Nat := 0
deriving DecidableEq, Repr

/-- The Vault (R452): three copies of 256 words. -/
structure Vault where
  a : List Nat := List.replicate 256 0
  b : List Nat := List.replicate 256 0
  c : List Nat := List.replicate 256 0
  corrected : Nat := 0
  noMajority : Nat := 0
deriving DecidableEq, Repr

/-- Automatic laser shutdown (R465). -/
inductive Als where
  | clear | shutdown | pulse
deriving DecidableEq, Repr

/-- The laser safety function for one carrier (R457 to R472). -/
structure SafeCarrier where
  /-- The carrier entry of the configuration (R461): USED, ALS_LOS, ALS_PIN, RESTART_S, PULSE_MS. -/
  used : Bool := false
  alsLos : Bool := false
  alsPin : Bool := false
  restartS : Nat := 0
  pulseMs : Nat := 0
  /-- The host's request for light (R459). -/
  req : Bool := false
  /-- TXEN and TXDIS as driven; none while they float (R457, R469). -/
  txen : Option Bool := some false
  txdis : Option Bool := some true
  /-- Level of the ALS request pin, low as the board pulls it (R464, R470). -/
  pinLow : Bool := true
  als : Als := .clear
  /-- Latched diagnostics that act on the carrier (R467), bits of R466. -/
  diag : Nat := 0
  trips : Nat := 0
  shutdowns : Nat := 0
  pulses : Nat := 0
  /-- System ticks lit, up to tick `mark` (R472). -/
  litTicks : Nat := 0
  mark : Nat := 0
  /-- Consecutive mismatches of the output readback, and differences of the two channels' decisions (R466). -/
  backRun : Nat := 0
  chanRun : Nat := 0
  /-- System tick of the last trip of a check that names the carrier (R471). -/
  tripTick : Option Nat := none
deriving DecidableEq, Repr

/-- A check of the configuration (R462) and where it stands. -/
structure SafeCheck where
  chan : Nat
  conv : Nat
  gain : Nat
  filter : Nat
  intervalUs : Nat
  carriers : Nat
  persist : Nat
  lo : Int
  hi : Int
  /-- Consecutive violated intervals; carriers tripped; carriers whose REQ was set to 1 since; last code. -/
  run : Nat := 0
  tripped : Nat := 0
  again : Nat := 0
  last : Int := 0
  /-- System tick of the last result, or from which results are expected (R466). -/
  lastAt : Nat := 0
deriving DecidableEq, Repr

/-- The laser safety function (R456 to R472). -/
structure Safety where
  /-- A valid configuration is in force (R458, condition 1). -/
  valid : Bool := false
  cars : Vector SafeCarrier 2 := Vector.replicate 2 {}
  checks : List SafeCheck := []
deriving DecidableEq, Repr

/-- The pair state (R484). -/
inductive PairState where
  | off | linking | checking | aligning | paired | alone
deriving DecidableEq, Repr

/-- The peer's last state record (R478): role, state (0 OFF to 5 ALONE), flags, VOLUME of its carrier A transmitter, its top
requests on A and B, its receive digests and its uptime. -/
structure PeerRecord where
  role : Nat
  st : Nat
  flags : Nat
  volume : Nat
  reqA : Nat
  reqB : Nat
  digA : Nat
  digB : Nat
  uptime : Nat
deriving DecidableEq, Repr

/-- The digest of a carrier's released payload (R478): the folio expected next (0 begins a volume), the CRC so far, whether a
poisoned word was met, and the digest of the last whole volume (0: none, or poisoned). -/
structure MateDigest where
  next : Nat := 0
  acc : Nat := 0
  bad : Bool := false
  last : Nat := 0
  lastBad : Bool := false
deriving DecidableEq, Repr

/-- A mirror item received and not yet applied (R477, R481). -/
structure MirrorItem where
  car : Nat
  tpn : Nat
  data : List Byte
  poison : Bool
  endMark : Bool
deriving DecidableEq, Repr

/-- The shadow mapper of a tributary (R482): SYNCED, and consecutive equal and unequal frames. -/
structure Shadow where
  car : Nat
  tpn : Nat
  synced : Bool := false
  eqRun : Nat := 0
  neRun : Nat := 0
  /-- The frame so far: 0 equal, 1 not equal, 2 not compared, an item of it being lost or poisoned. -/
  frame : Nat := 0
deriving DecidableEq, Repr

/-- The mated pair (R473 to R490). -/
structure Mate where
  /-- 0 none, 1 PRIMARY, 2 SECONDARY (R474). -/
  role : Nat := 0
  lanes : Nat := 0
  limitNs : Nat := 0
  st : PairState := .off
  /-- System tick at which LINKING began (R479). -/
  since : Nat := 0
  /-- This member is the timing donor (R484). -/
  donor : Bool := false
  mismatch : Bool := false
  /-- Ownership of each carrier's groups (R481, R484). -/
  owns : Vector (Vector Bool 16) 2 := Vector.replicate 2 (Vector.replicate 16 true)
  /-- MATE_SYNC_LOST is in force; consecutive good and consecutive missing markers; stamp (2^-16 ns) and system tick of the last
  marker (R479). -/
  syncLost : Bool := false
  markers : Nat := 0
  missing : Nat := 0
  lastMarker : Option Nat := none
  lastTick : Nat := 0
  /-- θ of the MATE time source, 2^-16 ns. -/
  theta : Int := 0
  /-- The peer's last record, its arrival in 2^-16 ns and the SYNC_STAMP it held. -/
  peer : Option PeerRecord := none
  peerAt : Nat := 0
  peerSync : Nat := 0
  /-- Volumes in a row whose digests were equal, and were not (R484). -/
  eqRun : Nat := 0
  neRun : Nat := 0
  digs : Vector MateDigest 2 := Vector.replicate 2 {}
  /-- The pair group of each carrier (R485): side 0 the PRIMARY's copy, which is working, side 1 the SECONDARY's. -/
  pair : Vector Prot 2 := Vector.replicate 2 {}
  mirror : List MirrorItem := []
  shadows : List Shadow := []
  /-- Sequence number of the last mirror item applied. -/
  lastSeq : Nat := 0
  /-- The last blocks sent, of a state record and of a mirror item, and the last Desk bytes received (R477, R478, R481). -/
  sent : List Byte := []
  mirrorOut : List Byte := []
  deskIn : List Byte := []
  badBlocks : Nat := 0
  repaired : Nat := 0
  poisoned : Nat := 0
  takeovers : Nat := 0
  digestFails : Nat := 0
  paired : Nat := 0
  /-- Wake pulses sent (R479). -/
  wakePulses : Nat := 0
deriving DecidableEq, Repr

/-- JTAG TAP states (R509). -/
inductive Tap where
  | tlr | rti | selDr | capDr | shDr | ex1Dr | pauDr | ex2Dr | updDr | selIr | capIr | shIr | ex1Ir | pauIr | ex2Ir | updIr
deriving DecidableEq, Repr

/-- Pins, SPI target, PCIe endpoint and test access port (R491 to R512). -/
structure Pins where
  frameErr : Bool := false
  /-- Bytes the SPI target drove in the last frame; none while its data lines stayed at Z. -/
  spiOut : List Byte := []
  perstLow : Bool := false
  /-- The test access port: its state, the instruction in force, its shift registers (the bit shifted out first is the head), the
  boundary register as last updated, and TDO (none at Z). -/
  tap : Tap := .tlr
  ins : TapIns := .idcode
  irShift : List Bool := []
  drShift : List Bool := []
  boundary : List Bool := []
  tdo : Option Bool := none
deriving DecidableEq, Repr

end Sys2Proof.Machine
end

