-- ==== Sys2Proof/Machine/StateTime.lean ====
section
/-! DEFINITION. State of the time engine (11_time_references.md R255 to R287). Defaults are the values after a full reset. -/

namespace Sys2Proof.Machine

/-- A time source (R259, codes of R357). -/
inductive Source where
  | pps
  | host
  | mate
  | colophon (c : Fin 2) (g : Fin 16)
deriving DecidableEq, Repr

/-- The time servo's state (R261). -/
inductive Servo where
  | free | acquire | locked | holdover
deriving DecidableEq, Repr

/-- The DPLL's state (R280). -/
inductive Dpll where
  | acquire | locked | holdover | freeRun
deriving DecidableEq, Repr

/-- A frequency-reference candidate, codes of R357 (R273 to R276). -/
structure Cand where
  active : Bool := false
  inTol : Bool := false
  /-- Consecutive measurements out of tolerance. -/
  oot : Nat := 0
  qualified : Bool := false
  /-- It has lost qualification and the wait-to-restore has not passed since (R276). -/
  lost : Bool := false
  lockout : Bool := false
  /-- Last measured offset, 0.001 ppm (R275). -/
  offset : Int := 0
  /-- Consensus of the last measurement, 0.001 ppm. -/
  consensus : Int := 0
  /-- Seconds that the reference has lain beyond half the soft limit without a break (R281). -/
  beyondHalf : Nat := 0
deriving DecidableEq, Repr

/-- A TIME burst as received (R269). -/
structure TimeBurst where
  role : Nat
  freq : Nat
  cdTotal : Int
  cdSigma : Nat
  flags : Nat
  steps : Nat
  dlyTx : Nat
  dlyRx : Nat
  utcOffset : Int
  /-- Instant of the burst's first header symbol (R155), 2^-16 ns. -/
  stamp : Nat := 0
deriving DecidableEq, Repr

/-- A Colophon link, one carrier and group (R265 to R269). Stamps in 2^-16 ns of device time. -/
structure Link where
  /-- Own TX stamps of FOLIO 0 by volume, newest first, at most 256. -/
  tx : List (Nat × Nat) := []
  /-- RX stamps of the far end's FOLIO 0 by far volume, newest first, at most 256. -/
  rx : List (Nat × Nat) := []
  /-- The far end's last TX record: volume (low 8 bits), stamp. -/
  farTx : Option (Nat × Nat) := none
  /-- The far end's last RX record: own volume (low 8 bits), stamp. -/
  farRx : Option (Nat × Nat) := none
  /-- The last volume held a good TX record, a good RX record (R259). -/
  goodTx : Bool := false
  goodRx : Bool := false
  burst : Option TimeBurst := none
  /-- The last burst arrived within 3 s (cleared by TIME_SOURCE_TIMER). -/
  burstFresh : Bool := false
  /-- Last θ, mean path delay and asymmetry, in 1/8,192,000 ns. -/
  theta : Int := 0
  mpd : Int := 0
  asym : Int := 0
  /-- STEPS of the far end + 1 for a sink (R269). -/
  steps : Nat := 0
deriving DecidableEq, Repr

/-- Counters of one bond's transparent clock (R271, R272, R286). -/
structure PtpBond where
  corrected : Nat := 0
  notLocked : Nat := 0
  nonZero : Nat := 0
  overLimit : Nat := 0
  /-- The message last passed on (ingress or egress). -/
  last : Option PtpMsg := none
deriving DecidableEq, Repr

/-- A TOD_IN message accepted and not yet consumed by its edge (R264). -/
structure TodMsg where
  sec : Nat
  flags : Nat
  utcOffset : Int
deriving DecidableEq, Repr

/-- The time engine (R255 to R287). -/
structure TimeState where
  /-- The TOD in units of 2^-48 / 5 ns: one tick without correction is 8 * 2^48 units (R255, R256). -/
  tod : Nat := 0
  /-- A step that waits for its tick (R257, R375): the new TOD as a change in 2^-16 ns, or a value. -/
  stepBy : Option Int := none
  stepTo : Option Nat := none
  /-- ρ and ρ_int, signed, 2^-48 (R256, R262). -/
  rho : Int := 0
  rhoInt : Int := 0
  todValid : Bool := false
  traceable : Bool := false
  leap61 : Bool := false
  leap59 : Bool := false
  utcValid : Bool := false
  utcOffset : Int := 0
  servo : Servo := .free
  inUse : Option Source := none
  /-- `TIME.SET` has been accepted (R259, HOST). -/
  hostSet : Bool := false
  /-- The MATE source is valid ("Mated pair operation"). -/
  mateValid : Bool := false
  /-- The primary has been valid throughout the last 10 s (R259; set by TIME_SOURCE_TIMER). -/
  primary10 : Bool := false
  /-- Sum of θ samples in 2^-16 ns and their number in the open window (R260). -/
  winSum : Int := 0
  winCount : Nat := 0
  /-- Last θ̄, 2^-16 ns. -/
  thetaBar : Int := 0
  /-- Offset of `TIME.ADJUST` still to be slewed, in TOD units of 2^-48 / 5 ns (R262). -/
  adjust : Int := 0
  /-- 1PPS_IN (R263): consecutive good edges named by messages, last edge stamp, loss declared. -/
  ppsRun : Nat := 0
  ppsLast : Option Nat := none
  ppsLastTick : Nat := 0
  ppsLos : Bool := false
  todMsg : Option TodMsg := none
  lastNamed : Option Nat := none
  /-- The second that the last 1PPS_OUT edge marked; none while it is squelched low (R263). -/
  ppsOutSec : Option Nat := none
  /-- The width of that pulse, ns. -/
  ppsOutWidth : Nat := 0
  /-- TOD_OUT messages sent, newest first (R264). -/
  todOut : List (List Byte) := []
  dpll : Dpll := .freeRun
  selected : Option (Fin 12) := none
  target : Option (Fin 12) := none
  /-- Control value, 2^-48 (R280). -/
  control : Int := 0
  /-- The DPLL has been LOCKED since the last record of the history (R281). -/
  lockRun : Bool := false
  /-- History of at most 3,600 s, newest first: mean control value and good (R281). -/
  history : List (Int × Bool) := []
  holdoverValue : Int := 0
  /-- Phase build-outs made (R279). -/
  buildOuts : Nat := 0
  loFault : Bool := false
  cands : Vector Cand 12 := Vector.replicate 12 {}
  /-- Candidate under FORCE and under MANUAL (R278). -/
  force : Option (Fin 12) := none
  manual : Option (Fin 12) := none
  /-- Priority table (R277), one code per entry, 0xFF empty. -/
  prio : List Nat := List.replicate 12 0xFF
  /-- Oscillator sensor kind and index and c0 to c3, signed 2^-48 per °C^k (R274, R356). -/
  oscKind : Nat := 0
  oscIdx : Nat := 0
  oscCoef : Int × Int × Int × Int := (0, 0, 0, 0)
  /-- c(T), 2^-48. -/
  oscEst : Int := 0
  learning : Bool := false
  links : Vector (Vector Link 16) 2 := Vector.replicate 2 (Vector.replicate 16 {})
  ptp : Vector PtpBond 48 := Vector.replicate 48 {}
  steps : Nat := 0
  refSwitches : Nat := 0
  holdoverEntries : Nat := 0
  crcFails : Nat := 0
  todInErrs : Nat := 0
deriving DecidableEq, Repr

end Sys2Proof.Machine
end

