-- ==== Sys2Proof/Machine/State.lean ====
section
/-! DEFINITION. The block's state: everything the spec gives the device, and the queue of waiting commands. -/

namespace Sys2Proof.Machine

/-- Why a step stops with a fault. -/
inductive Fault where
  /-- Raised by the register writes (REGISTER_WRITE, EVT_STATUS_WRITE, DESK_CH_RESET and the like) when a Reserved field
  is written with a non-zero value: R10 leaves the device's behaviour undefined for that register and gives no effect.
  Safe: the model stops where the hardware may do anything. -/
  | reservedFieldWritten
deriving DecidableEq, Repr

/-- Why a step refuses a command. -/
inductive Refusal where
  /-- Raised by an arm of `exec` whose command has no meaning yet. Safe: nothing is claimed of it. -/
  | notModelled (mnemonic : String)
deriving DecidableEq, Repr

/-- The operating mode (R3), in the order of `DEVICE.PROVISION`. -/
inductive Mode where
  | transponder | muxponder | regenerator | hub | leaf | framer
deriving DecidableEq, Repr

/-- The device as a whole (R1 to R14, R339). -/
structure Dev where
  /-- None before the first `DEVICE.PROVISION` (R339). -/
  mode : Option Mode := none
  /-- Ticks of the cleaned system clock (625 MHz) since the last full reset (R12, R339, R516). -/
  ticks : Nat := 0
  /-- The Charter in force as written by boot code, empty before boot (R435, R438). -/
  charter : List Byte := []
  /-- Image running: false A, true B (R328). -/
  imageB : Bool := false
  /-- The stall limit of the Chutes, ns (R24: 10 µs to 100 ms, set at provisioning; no command of the spec carries it, log 58). -/
  stallNs : Nat := 1000000
deriving DecidableEq, Repr

/-- The machine. -/
structure State where
  /-- Commands that wait, first in first out. -/
  pending : List Instr := []
  /-- The model's own counter of free values (log 7). -/
  free : Nat := 0
  dev : Dev := {}
  desk : Desk := {}
  par : Params := {}
  evt : EventTree := {}
  chutes : Vector Chute 256 := Vector.replicate 256 {}
  time : TimeState := {}
  cars : Vector Carrier 2 := Vector.replicate 2 {}
  rx : Vector RxCarrier 2 := Vector.replicate 2 {}
  tx : Vector TxCarrier 2 := Vector.replicate 2 {}
  dec : Decode := {}
  il : Vector Interloan 2 := Vector.replicate 2 {}
  folio : Vector (Vector FolioGroup 16) 2 := Vector.replicate 2 (Vector.replicate 16 {})
  crypt : Vector (Vector Crypt 16) 2 := Vector.replicate 2 (Vector.replicate 16 {})
  /-- Client framers by lead slice. -/
  bonds : Vector Framer 48 := Vector.replicate 48 {}
  /-- Line ODUCm framers by carrier and group. -/
  odum : Vector (Vector Framer 16) 2 := Vector.replicate 2 (Vector.replicate 16 {})
  map : Mapping := {}
  prot : Vector Prot 16 := Vector.replicate 16 {}
  stk : Stacks := {}
  ap : Aperture := {}
  cen : Census := {}
  lanes : Vector Lane 48 := Vector.replicate 48 {}
  link : MateLink := {}
  pwr : Power := {}
  house : House := {}
  boot : Boot := {}
  cat : Catalogue := {}
  vault : Vault := {}
  safe : Safety := {}
  mate : Mate := {}
  pins : Pins := {}
deriving DecidableEq, Repr

/-- The machine right after reset. -/
def State.reset : State := {}

end Sys2Proof.Machine
end

