-- ==== Sys2Proof/Machine/Commands.lean ====
section
/-! DEFINITION. The command tables of 14_command_reference.md (R330 to R362): opcode, class, object shapes (R332), function
(R319), form (R333, R336, R337), Reserved bytes (R331) and whether a bulk slot is needed (R317). -/

namespace Sys2Proof.Machine

/-- Command classes, numbered as CLASSES bits (R310, R435). -/
inductive CmdClass where
  | query | configure | provision | maintenance | security
deriving DecidableEq, Repr

/-- Bit of the class in a Charter CLASSES byte (R435). -/
def CmdClass.bitNo : CmdClass → Nat
  | .query => 0 | .configure => 1 | .provision => 2 | .maintenance => 3 | .security => 4

/-- How the body is laid out: byte map, parameter records P, byte map with reading form R, status items S. -/
inductive Form where
  | plain | p | r | st
deriving DecidableEq, Repr

/-- The shapes of object selector a command takes (R332). -/
inductive Shape where
  | device
  /-- Carrier with SUB 0xFF. -/
  | carrier
  /-- Carrier with SUB a group. -/
  | group
  /-- Converter with SUB 0xFF and SUB2 0xFF. -/
  | convAll
  /-- One converter, SUB2 0xFF. -/
  | conv
  /-- One slice of one converter. -/
  | slice
  | pool | reader | lane
  /-- A lane of HL32 to HL47. -/
  | mateLane
  | bond | odum
  /-- A protection group that the mode in force can have (R218). -/
  | prot
  /-- A protection group that is provisioned. -/
  | protIn
  | stacks | time | link | monitor | sensor | domain | mate
deriving DecidableEq, Repr

/-- How a command's function (R319) follows from its body. -/
inductive FnRule where
  | device | census | carrier | conv | group | pool | bond | container | dest | prot | stacks | time | link | lane
  | mateLink | domain | monitors | monChannel | sensor | firmware | catalogue | safety | mate
deriving DecidableEq, Repr

/-- One row of the command tables. -/
structure CmdInfo where
  op : Nat
  cls : CmdClass
  fn : FnRule
  form : Form
  shapes : List Shape
  /-- Reserved request bits: (byte offset, mask) (R331). -/
  resv : List (Nat × Nat) := []
  /-- The response carries bulk bytes, or the request needs them (R317). -/
  bulk : Bool := false
  /-- A rule of its own governs it while its function is in transition (R321). -/
  own : Bool := false
deriving DecidableEq, Repr

/-- `n` whole Reserved bytes from an offset. -/
def rsv (off n : Nat) : List (Nat × Nat) := (List.range n).map fun k => (off + k, 0xFF)

/-- Device, events and Census (R338). -/
def cmdsDevice : List CmdInfo :=
  [ { op := 0x0101, cls := .query, fn := .device, form := .plain, shapes := [.device] },
    { op := 0x0102, cls := .provision, fn := .device, form := .r, shapes := [.device], resv := rsv 5 3 },
    { op := 0x0D01, cls := .query, fn := .device, form := .plain, shapes := [.device], resv := rsv 6 2, bulk := true },
    { op := 0x0D10, cls := .configure, fn := .census, form := .plain, shapes := [.device], resv := rsv 10 2 },
    { op := 0x0D11, cls := .configure, fn := .census, form := .r, shapes := [.device] },
    { op := 0x0D12, cls := .query, fn := .census, form := .st, shapes := [.device] } ]

/-- Carrier, converters and receive DSP (R342). -/
def cmdsLine : List CmdInfo :=
  [ { op := 0x0201, cls := .provision, fn := .carrier, form := .r, shapes := [.carrier], resv := rsv 76 4 },
    { op := 0x0202, cls := .provision, fn := .carrier, form := .plain, shapes := [.carrier] },
    { op := 0x0203, cls := .provision, fn := .carrier, form := .plain, shapes := [.carrier] },
    { op := 0x0210, cls := .maintenance, fn := .conv, form := .plain, shapes := [.convAll],
      resv := (4, 0xFE) :: rsv 5 3 },
    { op := 0x0211, cls := .configure, fn := .conv, form := .p, shapes := [.conv, .convAll], own := true },
    { op := 0x0212, cls := .maintenance, fn := .conv, form := .plain, shapes := [.slice] },
    { op := 0x0213, cls := .query, fn := .conv, form := .st, shapes := [.conv] },
    { op := 0x0301, cls := .configure, fn := .carrier, form := .p, shapes := [.carrier, .group], own := true },
    { op := 0x0302, cls := .configure, fn := .carrier, form := .p, shapes := [.carrier, .group], own := true },
    { op := 0x0303, cls := .maintenance, fn := .carrier, form := .plain, shapes := [.group], own := true },
    { op := 0x0304, cls := .query, fn := .carrier, form := .st, shapes := [.carrier, .group] } ]

/-- Bit loading, transmit DSP and decoding (R344). -/
def cmdsTx : List CmdInfo :=
  [ { op := 0x0401, cls := .configure, fn := .group, form := .p, shapes := [.group], own := true },
    { op := 0x0402, cls := .configure, fn := .group, form := .r, shapes := [.group], own := true,
      resv := (List.range 16).map fun k => (4 + 2 * k, 0x7E) },
    { op := 0x0403, cls := .configure, fn := .carrier, form := .r, shapes := [.carrier], resv := rsv 5 3 },
    { op := 0x0404, cls := .query, fn := .group, form := .st, shapes := [.group] },
    { op := 0x0410, cls := .configure, fn := .carrier, form := .p, shapes := [.carrier] },
    { op := 0x0411, cls := .configure, fn := .carrier, form := .r, shapes := [.carrier], bulk := true },
    { op := 0x0412, cls := .query, fn := .carrier, form := .st, shapes := [.carrier] },
    { op := 0x0501, cls := .configure, fn := .carrier, form := .p, shapes := [.carrier, .device] },
    { op := 0x0502, cls := .query, fn := .pool, form := .st, shapes := [.carrier, .pool, .reader] },
    { op := 0x0503, cls := .maintenance, fn := .pool, form := .plain, shapes := [.pool], resv := (4, 0xFE) :: rsv 5 3 },
    { op := 0x0504, cls := .maintenance, fn := .pool, form := .plain, shapes := [.pool] },
    { op := 0x0505, cls := .maintenance, fn := .pool, form := .plain, shapes := [.reader] } ]

/-- Interloan, folio and encryption (R347). -/
def cmdsInterloan : List CmdInfo :=
  [ { op := 0x0601, cls := .configure, fn := .carrier, form := .p, shapes := [.carrier], own := true },
    { op := 0x0602, cls := .configure, fn := .carrier, form := .r, shapes := [.carrier], own := true },
    { op := 0x0603, cls := .configure, fn := .carrier, form := .plain, shapes := [.carrier], resv := rsv 5 1,
      own := true },
    { op := 0x0604, cls := .configure, fn := .carrier, form := .plain, shapes := [.carrier], bulk := true, own := true },
    { op := 0x0605, cls := .query, fn := .carrier, form := .st, shapes := [.carrier] },
    { op := 0x0701, cls := .query, fn := .group, form := .st, shapes := [.group] },
    { op := 0x0710, cls := .security, fn := .carrier, form := .p, shapes := [.carrier], own := true },
    { op := 0x0711, cls := .security, fn := .group, form := .r, shapes := [.group], own := true },
    { op := 0x0712, cls := .security, fn := .group, form := .plain, shapes := [.group], own := true },
    { op := 0x0713, cls := .query, fn := .group, form := .st, shapes := [.group] } ]

/-- Client framers, mapping, switching and protection (R349). -/
def cmdsClient : List CmdInfo :=
  [ { op := 0x0801, cls := .provision, fn := .bond, form := .r, shapes := [.bond], resv := rsv 7 1 ++ rsv 18 2 },
    { op := 0x0802, cls := .provision, fn := .bond, form := .plain, shapes := [.bond] },
    { op := 0x0803, cls := .configure, fn := .bond, form := .p, shapes := [.bond, .odum] },
    { op := 0x0804, cls := .configure, fn := .bond, form := .r, shapes := [.bond, .odum],
      resv := (5, 0xE0) :: rsv 11 1 },
    { op := 0x0805, cls := .query, fn := .bond, form := .plain, shapes := [.bond, .odum], resv := rsv 5 3,
      bulk := true },
    { op := 0x0806, cls := .maintenance, fn := .bond, form := .r, shapes := [.bond], resv := rsv 7 1 },
    { op := 0x0807, cls := .query, fn := .bond, form := .st, shapes := [.bond, .odum] },
    { op := 0x0901, cls := .provision, fn := .container, form := .plain, shapes := [.device],
      resv := rsv 11 1 ++ rsv 20 4 },
    { op := 0x0902, cls := .provision, fn := .container, form := .plain, shapes := [.device],
      resv := rsv 7 1 ++ rsv 10 2 },
    { op := 0x0903, cls := .query, fn := .container, form := .st, shapes := [.group, .bond] },
    { op := 0x0910, cls := .provision, fn := .dest, form := .plain, shapes := [.device] },
    { op := 0x0911, cls := .provision, fn := .dest, form := .plain, shapes := [.device] },
    { op := 0x0920, cls := .provision, fn := .prot, form := .p, shapes := [.prot], own := true },
    { op := 0x0921, cls := .configure, fn := .prot, form := .plain, shapes := [.protIn], resv := rsv 5 3, own := true },
    { op := 0x0922, cls := .maintenance, fn := .prot, form := .plain, shapes := [.protIn], own := true },
    { op := 0x0923, cls := .query, fn := .prot, form := .st, shapes := [.protIn] } ]

/-- Stacks (R354). -/
def cmdsStacks : List CmdInfo :=
  [ { op := 0x0A01, cls := .provision, fn := .stacks, form := .plain, shapes := [.stacks] },
    { op := 0x0A02, cls := .configure, fn := .stacks, form := .p, shapes := [.stacks] },
    { op := 0x0A03, cls := .maintenance, fn := .stacks, form := .plain, shapes := [.stacks], resv := rsv 11 1 },
    { op := 0x0A04, cls := .query, fn := .stacks, form := .st, shapes := [.stacks] },
    { op := 0x0A05, cls := .query, fn := .stacks, form := .plain, shapes := [.stacks], resv := rsv 6 2, bulk := true },
    { op := 0x0A06, cls := .maintenance, fn := .stacks, form := .plain, shapes := [.stacks] },
    { op := 0x0A07, cls := .query, fn := .stacks, form := .plain, shapes := [.stacks], resv := rsv 6 2, bulk := true },
    { op := 0x0A08, cls := .maintenance, fn := .stacks, form := .plain, shapes := [.stacks] } ]

/-- Time and PTP (R356). -/
def cmdsTime : List CmdInfo :=
  [ { op := 0x0B01, cls := .provision, fn := .time, form := .p, shapes := [.time] },
    { op := 0x0B02, cls := .configure, fn := .time, form := .p, shapes := [.time] },
    { op := 0x0B03, cls := .configure, fn := .time, form := .plain, shapes := [.time], resv := rsv 6 2 },
    { op := 0x0B04, cls := .configure, fn := .time, form := .r, shapes := [.time], resv := rsv 6 2 },
    { op := 0x0B05, cls := .maintenance, fn := .time, form := .plain, shapes := [.time] },
    { op := 0x0B06, cls := .configure, fn := .time, form := .p, shapes := [.time] },
    { op := 0x0B07, cls := .configure, fn := .time, form := .plain, shapes := [.time] },
    { op := 0x0B08, cls := .configure, fn := .time, form := .plain, shapes := [.time], resv := rsv 4 4 },
    { op := 0x0B09, cls := .configure, fn := .link, form := .p, shapes := [.link] },
    { op := 0x0B0A, cls := .configure, fn := .time, form := .p, shapes := [.time] },
    { op := 0x0B0B, cls := .maintenance, fn := .time, form := .plain, shapes := [.time] },
    { op := 0x0B0C, cls := .query, fn := .time, form := .st, shapes := [.time] },
    { op := 0x0B10, cls := .configure, fn := .bond, form := .r, shapes := [.bond], resv := rsv 5 3 } ]

/-- Host lanes (R358). -/
def cmdsLane : List CmdInfo :=
  [ { op := 0x0C01, cls := .provision, fn := .lane, form := .r, shapes := [.lane], resv := rsv 9 3 ++ rsv 17 3 },
    { op := 0x0C02, cls := .provision, fn := .lane, form := .plain, shapes := [.lane] },
    { op := 0x0C03, cls := .configure, fn := .lane, form := .p, shapes := [.lane], own := true },
    { op := 0x0C04, cls := .maintenance, fn := .lane, form := .r, shapes := [.lane], resv := [(7, 0xF8)] },
    { op := 0x0C05, cls := .maintenance, fn := .lane, form := .r, shapes := [.lane], resv := rsv 6 2 },
    { op := 0x0C06, cls := .maintenance, fn := .mateLink, form := .plain, shapes := [.mateLane] },
    { op := 0x0C07, cls := .query, fn := .lane, form := .st, shapes := [.lane] } ]

/-- Power, monitors and housekeeping (R360). -/
def cmdsPower : List CmdInfo :=
  [ { op := 0x0E01, cls := .configure, fn := .device, form := .plain, shapes := [.device], resv := rsv 5 3 },
    { op := 0x0E02, cls := .configure, fn := .domain, form := .plain, shapes := [.domain], resv := rsv 5 3 },
    { op := 0x0E03, cls := .configure, fn := .device, form := .r, shapes := [.device],
      resv := (4, 0xC0) :: rsv 5 3 ++ rsv 14 2 },
    { op := 0x0E04, cls := .query, fn := .device, form := .st, shapes := [.device] },
    { op := 0x0F01, cls := .configure, fn := .monitors, form := .r, shapes := [.device], resv := (4, 0xFC) :: rsv 5 3 },
    { op := 0x0F02, cls := .configure, fn := .monChannel, form := .r, shapes := [.monitor], resv := rsv 7 1 },
    { op := 0x0F03, cls := .configure, fn := .monitors, form := .plain, shapes := [.device], resv := rsv 6 2,
      bulk := true },
    { op := 0x0F04, cls := .query, fn := .monitors, form := .st, shapes := [.device, .monitor] },
    { op := 0x0F10, cls := .query, fn := .sensor, form := .st, shapes := [.device, .sensor] },
    { op := 0x0F20, cls := .configure, fn := .device, form := .r, shapes := [.device],
      resv := (5, 0x80) :: rsv 7 1 ++ rsv 10 2 },
    { op := 0x0F21, cls := .query, fn := .device, form := .st, shapes := [.device] },
    { op := 0x0F30, cls := .configure, fn := .device, form := .r, shapes := [.device] },
    { op := 0x0F31, cls := .query, fn := .device, form := .plain, shapes := [.device] } ]

/-- Security, firmware, Catalogue, safety and mate (R362). -/
def cmdsSecurity : List CmdInfo :=
  [ { op := 0x1001, cls := .query, fn := .device, form := .plain, shapes := [.device], bulk := true },
    { op := 0x1002, cls := .security, fn := .device, form := .plain, shapes := [.device], bulk := true },
    { op := 0x1003, cls := .query, fn := .device, form := .plain, shapes := [.device], bulk := true },
    { op := 0x1010, cls := .security, fn := .firmware, form := .plain, shapes := [.device],
      resv := (12, 0xFC) :: rsv 13 3, bulk := true },
    { op := 0x1011, cls := .security, fn := .firmware, form := .plain, shapes := [.device] },
    { op := 0x1012, cls := .security, fn := .firmware, form := .plain, shapes := [.device] },
    { op := 0x1013, cls := .query, fn := .firmware, form := .st, shapes := [.device] },
    { op := 0x1020, cls := .query, fn := .catalogue, form := .st, shapes := [.device] },
    { op := 0x1021, cls := .query, fn := .catalogue, form := .plain, shapes := [.device], resv := rsv 6 2,
      bulk := true },
    { op := 0x1022, cls := .security, fn := .catalogue, form := .plain, shapes := [.device], resv := rsv 6 2 },
    { op := 0x1101, cls := .configure, fn := .safety, form := .plain, shapes := [.carrier], resv := rsv 5 3 },
    { op := 0x1102, cls := .query, fn := .device, form := .st, shapes := [.device] },
    { op := 0x1103, cls := .maintenance, fn := .safety, form := .plain, shapes := [.carrier] },
    { op := 0x1201, cls := .provision, fn := .mate, form := .r, shapes := [.mate], resv := rsv 5 1 },
    { op := 0x1202, cls := .configure, fn := .mate, form := .plain, shapes := [.mate], resv := rsv 5 3 },
    { op := 0x1203, cls := .query, fn := .mate, form := .st, shapes := [.mate] } ]

/-- Every command that Yozon 4.2 defines, but for the reading forms (R330). -/
def cmdTable : List CmdInfo :=
  cmdsDevice ++ cmdsLine ++ cmdsTx ++ cmdsInterloan ++ cmdsClient ++ cmdsStacks ++ cmdsTime ++ cmdsLane ++ cmdsPower
    ++ cmdsSecurity

/-- The table's row for an opcode without bit 7. -/
def findCmd (op : Nat) : Option CmdInfo := cmdTable.find? fun c => c.op == op

/-- Is an opcode a reading form (R330, R336): bit 7 set over a P or R command? -/
def readingOf (op : Nat) : Option CmdInfo :=
  if bit op 7 then
    match findCmd (op - 0x80) with
    | some c => if c.form = .p ∨ c.form = .r then some c else none
    | none => none
  else none

/-- The row that governs an opcode, reading forms being of class QUERY with OBJ alone (R330, R336). -/
def cmdInfo (op : Nat) : Option CmdInfo :=
  match readingOf op with
  | some c => some { c with op := op, cls := .query, form := .plain, resv := [], bulk := false, own := false }
  | none => findCmd op

/-- The kind, index, sub and sub2 bytes of OBJ (R332). -/
def objKind (q : Request) : Nat := byteAt q.body 0
def objIndex (q : Request) : Nat := byteAt q.body 1
def objSub (q : Request) : Nat := byteAt q.body 2
def objSub2 (q : Request) : Nat := byteAt q.body 3

/-- OBJ as one little-endian number (R8, R332). -/
def objOf (q : Request) : Nat := natAt q.body 0 4

/-- Encode an object selector (R332). -/
def obj (kind index sub sub2 : Nat) : Nat := kind + 256 * index + 65536 * sub + 16777216 * sub2

/-- The object of a carrier as a whole, a group, a lane, a bond (R332). -/
def objDevice : Nat := 0
def objCarrier (c : Nat) : Nat := obj 1 c 0xFF 0
def objGroup (c g : Nat) : Nat := obj 1 c g 0
def objLane (l : Nat) : Nat := obj 4 l 0 0
def objBond (b : Nat) : Nat := obj 5 b 0 0
def objOdum (c g sl : Nat) : Nat := obj 6 c g sl
def objProt (g : Nat) : Nat := obj 7 g 0 0
def objPool (p : Nat) : Nat := obj 3 p 0xFF 0
def objReader (p r : Nat) : Nat := obj 3 p r 0
def objStack (st ch bk : Nat) : Nat := obj 8 st ch bk
def objTime : Nat := obj 9 0 0 0
def objLink (c g : Nat) : Nat := obj 10 c g 0
def objConv (c k sl : Nat) : Nat := obj 2 c k sl
def objMonitor (ch : Nat) : Nat := obj 11 0 ch 0
def objSensor (n : Nat) : Nat := obj 11 1 n 0
def objDomain (d : Nat) : Nat := obj 12 d 0 0
def objMate : Nat := obj 13 0 0 0

/-- A carrier number from a byte. -/
def carrierOf (n : Nat) : Fin 2 := if n = 1 then 1 else 0

/-- A group number from a byte. -/
def groupOf (n : Nat) : Fin 16 := ⟨n % 16, Nat.mod_lt _ (by decide)⟩

/-- Does the mode in force have a line (R3, R332)? -/
def hasLine (s : State) : Bool :=
  match s.dev.mode with
  | none => false
  | some .framer => false
  | some _ => true

/-- Are several groups assigned to a carrier (R3, R343): HUB and LEAF only? -/
def multiGroup (s : State) : Bool :=
  match s.dev.mode with
  | some .hub => true
  | some .leaf => true
  | _ => false

/-- Does a group number exist in the mode in force (R332, R343; DEDUCED, log 12)? -/
def groupExists (s : State) (g : Nat) : Bool := if multiGroup s then g < 16 else g == 0

/-- Does OBJ have a shape and name an object that exists in the mode in force (R332)? Only PROT.PROVISION and its reading form take a
protection group that is not provisioned (R336; log 12). -/
def shapeOk (s : State) (k i sub sub2 : Nat) : Shape → Bool
  | .device => k == 0 && i == 0 && sub == 0 && sub2 == 0
  | .carrier => k == 1 && i < 2 && sub == 0xFF && sub2 == 0 && hasLine s
  | .group => k == 1 && i < 2 && groupExists s sub && sub2 == 0 && hasLine s
  | .convAll => k == 2 && i < 2 && sub == 0xFF && sub2 == 0xFF && hasLine s
  | .conv => k == 2 && i < 2 && sub < 8 && sub2 == 0xFF && hasLine s
  | .slice => k == 2 && i < 2 && sub < 8 && sub2 < 132 && hasLine s
  | .pool => k == 3 && i < 8 && sub == 0xFF && sub2 == 0
  | .reader => k == 3 && i < 8 && sub < 12 && sub2 == 0
  | .lane => k == 4 && i < 48 && sub == 0 && sub2 == 0
  | .mateLane => k == 4 && 32 ≤ i && i < 48 && sub == 0 && sub2 == 0
  | .bond => k == 5 && i < 48 && sub == 0 && sub2 == 0
  | .odum => k == 6 && i < 2 && groupExists s sub && sub2 ≤ 32 && hasLine s
  | .prot => k == 7 && i < 16 && groupExists s i && sub == 0 && sub2 == 0 && hasLine s
  | .protIn => k == 7 && i < 16 && (getNat {} s.prot i).exists_ && sub == 0 && sub2 == 0
  | .stacks => k == 8 && (i < 4 || i == 0xFF) && (sub < 16 || sub == 0xFF) && (sub2 < 32 || sub2 == 0xFF)
  | .time => k == 9 && i == 0 && sub == 0 && sub2 == 0
  | .link => k == 10 && i < 2 && groupExists s sub && sub2 == 0 && hasLine s
  | .monitor => k == 11 && i == 0 && sub < 64 && sub2 == 0
  | .sensor => k == 11 && i == 1 && sub < 32 && sub2 == 0
  | .domain => k == 12 && i < 20 && sub == 0 && sub2 == 0
  | .mate => k == 13 && i == 0 && sub == 0 && sub2 == 0

/-- Does a request's OBJ suit its command (R332)? -/
def objOk (s : State) (c : CmdInfo) (q : Request) : Bool :=
  c.shapes.any (shapeOk s (objKind q) (objIndex q) (objSub q) (objSub2 q))

/-- The function a request addresses (R319; Function column). -/
def fnOf (r : FnRule) (q : Request) : Fn :=
  let c := carrierOf (objIndex q)
  match r with
  | .device => .device
  | .census => .census
  | .carrier => if objKind q = 0 then .device else .carrier c
  | .conv => .conv c (objSub q)
  | .group => .group c (objSub q)
  | .pool => if objKind q = 3 then .pool (objIndex q) else .carrier c
  | .bond => if objKind q = 6 then .odum c (objSub q) else .bond (objIndex q)
  | .container =>
    if objKind q = 0 then .container (byteAt q.body 4) (byteAt q.body 5) (byteAt q.body 6)
    else if objKind q = 5 then .container 1 (objIndex q) 0
    else .container 0 (objIndex q) (objSub q)
  | .dest => .dest (byteAt q.body 8) (byteAt q.body 9) (natAt q.body 10 2)
  | .prot => .prot (objIndex q)
  | .stacks => .stacks
  | .time => .time
  | .link => .link c (objSub q)
  | .lane => .lane (objIndex q)
  | .mateLink => .mateLink
  | .domain => .domain (objIndex q)
  | .monitors => .monitors
  | .monChannel => .monChannel (objIndex q) (objSub q)
  | .sensor => .sensor
  | .firmware => .firmware
  | .catalogue => .catalogue
  | .safety => .safety
  | .mate => .mate

/-- The function of a request of an opcode; `SWITCH.DISCONNECT` carries its destination at offset 4 (R349). -/
def fnOfOp (c : CmdInfo) (q : Request) : Fn :=
  if c.op = 0x0911 then .dest (byteAt q.body 4) (byteAt q.body 5) (natAt q.body 6 2) else fnOf c.fn q

/-- Is a function the object `o` or contained in it (R323)? A carrier contains its converters, groups, line ODUCm and
Colophon links; the eight converters addressed together contain each. -/
def within (o f : Fn) : Bool :=
  o == f ||
  match o, f with
  | .carrier c, .conv c' _ => c == c'
  | .carrier c, .group c' _ => c == c'
  | .carrier c, .odum c' _ => c == c'
  | .carrier c, .link c' _ => c == c'
  | .carrier c, .container 0 c' _ => c.val == c'
  | .conv c 0xFF, .conv c' _ => c == c'
  | _, _ => false

/-- A terminating command (R323). -/
def terminating (op : Nat) (q : Request) : Bool :=
  op == 0x0203 || (op == 0x0503 && bit (byteAt q.body 4) 0) || op == 0x0802 || op == 0x0C02 || op == 0x0902
    || op == 0x0911 || (op == 0x0920 && bit (byteAt q.body 5) 0) || (op == 0x1201 && byteAt q.body 4 == 0)

end Sys2Proof.Machine
end

