-- ==== Sys2Proof/Machine/Flags.lean ====
section
/-! DEFINITION. The event tree's operations: occurrence, limits, masking, vectors and pins (15_events_census.md R364 to R371,
R516), device time stamps, and the draw of a free value. -/

namespace Sys2Proof.Machine

/-- Units of the TOD counter in 2^-16 ns: one unit is 2^-48 / 5 ns (R255, R256). -/
def todUnit : Nat := 5 * 2 ^ 32

/-- 2^-16 ns in one second. -/
def fracPerSec : Nat := 1000000000 * 65536

/-- The TOD in 2^-16 ns (R255). -/
def State.tod16 (s : State) : Nat := s.time.tod / todUnit

/-- A TOD in 2^-16 ns as a stamp (R255, R341). -/
def stampOf (t : Nat) : Stamp :=
  { sec := t / fracPerSec % 2 ^ 48, ns := t / 65536 % 1000000000, frac := t % 65536 }

/-- The stamp's TOD in 2^-16 ns. -/
def stampVal (t : Stamp) : Nat := t.sec * fracPerSec + t.ns * 65536 + t.frac

/-- The present device time (R341). -/
def State.stamp (s : State) : Stamp := stampOf s.tod16

/-- One period of an island's own clock (R12) in 2^-16 ns: a LINE island's is 256 samples at 1.25 times its carrier's symbol rate
(R33), kept in MBd. -/
def islandPeriod (s : State) (k : Nat) : Nat :=
  let nominal (mhz : Nat) : Nat := 65536 * 1000 / mhz
  if h : k < 2 then 65536 * 256 * 1000 * 4 / (5 * max 1 (s.cars[k]'h).symRate)
  else if k < 10 then nominal 1600 else if k < 12 then nominal 1200 else if k < 18 then nominal 1400 else if k < 23 then nominal 2000
  else if k = 23 then nominal 625 else if k = 24 then nominal 1200 else if k = 25 then nominal 200 else nominal 20

/-- An island's replica of the time of day (R14): it lies from TIME's by at most one period of the island's clock plus 1 ns; by how
much is left free (log 59). -/
def State.replica (s : State) (k : Nat) : Nat :=
  let b := islandPeriod s k + 65536
  if k = 23 then s.tod16 else ((s.tod16 : Int) + (Config.replica k s.dev.ticks % (2 * b + 1 : Nat) - b)).toNat

/-- The island that stamps an event (R14, R27), by the group of its number and its object (DEDUCED, log 59). -/
def evtIsland (n ob : Nat) (a : EvtArg) : Nat :=
  let c := ob / 256 % 256 % 2
  if n = 0 then a.aux.toNat % 256 else if n ≤ 2 then a.aux.toNat / 256 else if n < 32 then 24 else if n < 80 then c
  else if n < 96 then (if ob % 256 = 3 then 2 + ob / 256 % 8 else 18) else if n < 160 then 10 + c
  else if n < 176 then (if ob % 256 = 5 then 12 + ob / 256 % 48 / 8 else 10 + c) else if n < 208 then 10
  else if n < 224 then (if ob / 256 % 256 < 4 then 19 + ob / 256 % 4 else 18) else if n < 256 then 23
  else if n < 288 then 12 + ob / 256 % 48 / 8 else if n < 320 then 24 else if n < 352 then 25 else if n < 384 then 24
  else if n < 416 then 26 else 24

/-- The device time that an island stamps (R14, R341). -/
def State.stampAt (s : State) (k : Nat) : Stamp := stampOf (s.replica k)

/-- Set, clear one bit of a word. -/
def setBit {w : Nat} (v : BitVec w) (n : Nat) : BitVec w := v ||| (1#w <<< n)
def clrBit {w : Nat} (v : BitVec w) (n : Nat) : BitVec w := v &&& ~~~(1#w <<< n)
def putBit {w : Nat} (v : BitVec w) (n : Nat) (b : Bool) : BitVec w := if b then setBit v n else clrBit v n

/-- Draw a free value of `w` bits: the counter advances (log 7). -/
def State.drawn (s : State) : State := { s with free := s.free + 1 }
def State.freeVal (s : State) (w : Nat) : BitVec w := Config.freeBits w s.free

/-- The event sources of R364; every other number is reserved. -/
def eventDefined (n : Nat) : Bool :=
  n ≤ 11 || (32 ≤ n && n ≤ 37) || (40 ≤ n && n ≤ 46) || (64 ≤ n && n ≤ 68) || (80 ≤ n && n ≤ 87) || (96 ≤ n && n ≤ 101)
    || (128 ≤ n && n ≤ 130) || (136 ≤ n && n ≤ 142) || (160 ≤ n && n ≤ 172) || (176 ≤ n && n ≤ 180)
    || (208 ≤ n && n ≤ 218) || (224 ≤ n && n ≤ 237) || (256 ≤ n && n ≤ 264) || (288 ≤ n && n ≤ 292)
    || (320 ≤ n && n ≤ 323) || (328 ≤ n && n ≤ 333) || (352 ≤ n && n ≤ 357) || (384 ≤ n && n ≤ 387)
    || (416 ≤ n && n ≤ 420)

/-- The enable, force and route bits that exist in group `g` (R364, R369). -/
def groupMask (g : Nat) : Word32 :=
  (List.range 32).foldl (fun m i => if eventDefined (32 * g + i) then setBit m i else m) 0

/-- An event's arguments from numbers (R366). -/
def evtArg (state sub aux value : Nat) : EvtArg :=
  { state := BitVec.ofNat 8 state, sub := BitVec.ofNat 8 sub, aux := BitVec.ofNat 16 aux,
    value := BitVec.ofNat 64 value }

/-- A source is pending: status and enable both 1 (R367). -/
def EventTree.pend (e : EventTree) (n : Nat) : Bool := e.status.getLsbD n && e.en.getLsbD n

/-- The route byte of a source (R369). -/
def EventTree.routeOf (e : EventTree) (n : Nat) : Byte := getNat 0 e.route n

/-- Is a source routed to vector `v` (R369: [5] MSIX, [4:0] VECTOR)? -/
def EventTree.routedTo (e : EventTree) (n v : Nat) : Bool :=
  (e.routeOf n).getLsbD 5 && (e.routeOf n).toNat % 32 == v

/-- A vector counts as masked (R368). -/
def EventTree.masked (e : EventTree) (v : Nat) : Bool :=
  (getNat {} e.msix v).mask || e.functionMask || !e.msixEnable

/-- A vector becomes due: its message is sent, or its pending bit set while it is masked (R368). -/
def EventTree.vectorDue (e : EventTree) (v : Nat) : EventTree :=
  if e.masked v then { e with pba := setBit e.pba v } else { e with sent := v :: e.sent }

/-- The vector of a source that becomes pending becomes due (R368). -/
def EventTree.signal (e : EventTree) (n : Nat) : EventTree :=
  if (e.routeOf n).getLsbD 5 then e.vectorDue ((e.routeOf n).toNat % 32) else e

/-- A pin is driven low while a pending source is routed to it and it is enabled (R367): 6 for IRQ0, 7 for IRQ1. -/
def EventTree.pinLow (e : EventTree) (b : Nat) : Bool :=
  (if b = 6 then e.irq0En else e.irq1En) &&
    (List.range 512).any fun n => e.pend n && (e.routeOf n).getLsbD b

/-- DESK_RSP_READY is counted but not logged (R365). -/
def isRspReady (n : Nat) : Bool := 4 ≤ n && n ≤ 7

/-- One occurrence: status, count, signalling and, unless the queue is full, its record (R365, R371). The Bool says that a
record was lost. -/
def EventTree.occurCore (e : EventTree) (st : Stamp) (n : Nat) (ob : Nat) (a : EvtArg) : EventTree × Bool :=
  let fresh := !e.status.getLsbD n
  let e1 := { e with status := setBit e.status n, counts := updNat e.counts n bump }
  let e2 := if fresh && e1.en.getLsbD n then e1.signal n else e1
  if isRspReady n then (e2, false)
  else if e2.queue.length < 256 then
    ({ e2 with queue := e2.queue ++ [{ event := n, stamp := st, obj := BitVec.ofNat 32 ob, arg := a }] }, false)
  else ({ e2 with lost := bump e2.lost }, true)

/-- May a limited event be raised for its scope: at least 1 s of the cleaned clock since the last (R516)? -/
def EventTree.limitOk (e : EventTree) (tick n scope : Nat) : Bool :=
  match e.lastRaise.find? fun x => x.1 == (n, scope) with
  | none => true
  | some x => x.2 + 625000000 ≤ tick

/-- Note the raise of a limited event (R516). -/
def EventTree.noteRaise (e : EventTree) (tick n scope : Nat) : EventTree :=
  { e with lastRaise := ((n, scope), tick) :: e.lastRaise.filter fun x => x.1 != (n, scope) }

/-- An occurrence of a source, with EVT_LOG_LOST (11) raised at most once per second when its record is lost (R365, R371);
a reserved source has none (R364). -/
def EventTree.occur (e : EventTree) (st : Stamp) (tick n ob : Nat) (a : EvtArg) : EventTree :=
  if eventDefined n then
    let r := e.occurCore st n ob a
    if r.2 && r.1.limitOk tick 11 0 then
      ((r.1.noteRaise tick 11 0).occurCore st 11 objDevice (evtArg 0 0 0 r.1.lost)).1
    else r.1
  else e

/-- The scope of an event that a rule raises at most once per second (R516): the object its record carries, or what the rule
names (R156 each SRC, R241 each stack, R242 the device). None for an event that no rule limits. -/
def limitScope (n ob : Nat) (a : EvtArg) : Option Nat :=
  if n = 215 then some 0
  else if n = 96 then some (ob + 2 ^ 32 * a.aux.toNat)
  else if n = 212 ∨ n = 213 then some (ob / 256 % 256)
  else if n = 81 ∨ n = 82 ∨ n = 84 ∨ n = 87 ∨ n = 100 ∨ n = 235 ∨ n = 236 ∨ n = 264 ∨ n = 290 ∨ n = 320 ∨ n = 322 ∨ n = 357
  then some ob
  else none

/-- Raise an event (R365); one that a rule limits is withheld within a second of the last for its scope (R516). -/
def EventTree.raiseEvt (e : EventTree) (st : Stamp) (tick n ob : Nat) (a : EvtArg) : EventTree :=
  match limitScope n ob a with
  | none => e.occur st tick n ob a
  | some sc => if e.limitOk tick n sc then (e.noteRaise tick n sc).occur st tick n ob a else e

/-- Raise an event when `b` holds. Nothing but the event tree changes. -/
def raiseIf (b : Bool) (n ob : Nat) (a : EvtArg) (s : State) : State :=
  { s with evt := if b then s.evt.raiseEvt (s.stampAt (evtIsland n ob a)) s.dev.ticks n ob a else s.evt }

/-- Raise an event (R365, R516). Nothing but the event tree changes. -/
def raise (n ob : Nat) (a : EvtArg) (s : State) : State :=
  { s with evt := s.evt.raiseEvt (s.stampAt (evtIsland n ob a)) s.dev.ticks n ob a }

/-- Raise an event with OBJ alone. -/
def raise0 (n ob : Nat) (s : State) : State := raise n ob (evtArg 0 0 0 0) s

end Sys2Proof.Machine
end

