-- ==== Sys2Proof/Machine/Ops.lean ====
section
/-! DEFINITION. The Desk's operations (13_curator_desk.md R308 to R329; R330 to R332): accepting a request, holding it,
running it, completing it, and the windows its entries and responses lie in. -/

namespace Sys2Proof.Machine

/-- Status codes (R320). -/
def stOk : Nat := 0
def stBadOpcode : Nat := 1
def stBadEntry : Nat := 2
def stBadParam : Nat := 3
def stBadState : Nat := 4
def stDenied : Nat := 5
def stBusy : Nat := 6
def stNoCapacity : Nat := 7
def stNoSpare : Nat := 8
def stCalFail : Nat := 9
def stMemError : Nat := 0xA
def stInTransition : Nat := 0xB
def stAborted : Nat := 0xC
def stTimeout : Nat := 0xD
def stRestarted : Nat := 0xE

/-- What a command returns (R316). -/
structure Resp where
  status : Nat
  detail : Nat := 0
  payload : List Byte := []
  bulk : List Byte := []
deriving DecidableEq, Repr

/-- A command's answer: completed, or started and completed later by its function (R319, R324). -/
inductive Reply where
  | done (r : Resp)
  | later
deriving DecidableEq, Repr

/-- ST_OK with a payload, with bulk bytes; a refusal; ST_BAD_PARAM with DETAIL. -/
def ok (payload : List Byte := []) : Reply := .done { status := stOk, payload := payload }
def okBulk (payload bulk : List Byte) : Reply := .done { status := stOk, payload := payload, bulk := bulk }
def refuse (st : Nat) : Reply := .done { status := st }
def badParam (off : Nat) : Reply := .done { status := stBadParam, detail := off }

/-- Update one channel of the Desk. -/
def onChan (c : Fin 4) (f : Channel → Channel) (s : State) : State :=
  { s with desk := { s.desk with chans := upd s.desk.chans c f } }

/-- A channel. -/
def State.chan (s : State) (c : Fin 4) : Channel := s.desk.chans[c]

/-- Outstanding requests of a channel: accepted, and completed ones whose response is not yet written (R314, R318). -/
def Channel.outstanding (c : Channel) : Nat := c.outst.length + c.done.length

/-- The outstanding request of a channel with a TAG. -/
def Channel.find (c : Channel) (tag : Word16) : Option Outst := c.outst.find? fun o => o.req.tag == tag

/-- Is a bulk slot in use (R317)? -/
def Channel.slotUsed (c : Channel) (sl : Fin 32) : Bool := c.slots.any fun u => u.slot == sl

/-- The CLASSES byte of a channel in the Charter in force (R435); with no Charter it is 0. -/
def charterClasses (s : State) (c : Fin 4) : Nat := byteAt s.dev.charter (8 + c.val)

/-- Is a class granted to a channel (R310, R435)? -/
def granted (s : State) (c : Fin 4) (k : CmdClass) : Bool := bit (charterClasses s c) k.bitNo

/-- Microseconds between two system-clock ticks of 1.6 ns, saturating in 32 bits (R316). -/
def elapsedUs (a b : Nat) : Nat := min ((b - a) * 16 / 10000) (2 ^ 32 - 1)

/-- The sticky bits that a status sets (R310, R318, R329). -/
def Channel.sticky (c : Channel) (st : Nat) : Channel :=
  { c with denied := c.denied || st == stDenied, entryErr := c.entryErr || st == stBadEntry }

/-- Put a completed request in its channel's queue of responses; a channel being reset discards it (R314, R325). -/
def Channel.push (c : Channel) (d : Done) : Channel :=
  if c.resetting then c else { (c.sticky d.status) with done := c.done ++ [d] }

/-- The completed form of an outstanding request. -/
def doneOf (tick : Nat) (o : Outst) (r : Resp) : Done :=
  { op := o.op, tag := o.req.tag, slot := o.req.slot, status := r.status, detail := r.detail, seq := o.seq,
    elapsedUs := elapsedUs o.at_ tick, payload := r.payload.take 224, bulk := r.bulk.take 4096 }

/-- Complete an outstanding request: it leaves the outstanding list and its response waits to be written (R314). -/
def complete (ch : Fin 4) (tag : Word16) (r : Resp) (s : State) : State :=
  match (s.chan ch).find tag with
  | none => s
  | some o =>
    onChan ch (fun c => { c with outst := c.outst.filter fun x => x.req.tag != tag }.push (doneOf s.dev.ticks o r)) s

/-- Set the phase of an outstanding request. -/
def setPhase (ch : Fin 4) (tag : Word16) (p : Phase) (s : State) : State :=
  onChan ch (fun c => { c with outst := c.outst.map fun x => if x.req.tag = tag then { x with phase := p } else x }) s

/-- Every outstanding request of every channel. -/
def allOutst (s : State) : List Outst := s.desk.chans.toList.flatMap (·.outst)

/-- The transition, if any, that holds commands for a function (R322): of the function, or of an object that contains it. -/
def transitionOver (s : State) (f : Fn) : Bool := s.desk.transitions.any fun t => within t.fn f

/-- What the rules of order allow a request to do (R319, R322). -/
inductive Gate where
  | go
  /-- waits behind an ORDERED request, or is ORDERED itself with earlier requests incomplete -/
  | wait
  | hold
deriving DecidableEq, Repr

/-- The class of an opcode is QUERY. -/
def isQuery (op : Nat) : Bool :=
  match cmdInfo op with
  | some c => c.cls == .query
  | none => false

/-- A safety command is never held (R362). -/
def isSafety (op : Nat) : Bool := op == 0x1101 || op == 0x1103

/-- R319's ORDERED rule within the channel. -/
def orderedBlocks (s : State) (ch : Fin 4) (o : Outst) : Bool :=
  (s.chan ch).outst.any fun x => x.order < o.order && (o.req.ordered || x.req.ordered)

/-- An earlier request other than QUERY for the same function is not complete (R319). -/
def earlierBlocks (s : State) (c : CmdInfo) (o : Outst) : Bool :=
  (allOutst s).any fun x => x.order < o.order && !isQuery x.op &&
    match cmdInfo x.op with
    | some cx => fnOfOp cx x.req == fnOfOp c o.req
    | none => false

/-- The state of a power domain (R391). -/
def State.dom (s : State) (d : Nat) : DomState := (getNat {} s.pwr.domains d).st

/-- A command that R394 holds until a stopping domain settles: an enable for its carrier, a lane for its octet. A carrier
command also waits for a calibration of its converters (R322, DEDUCED, log 23). -/
def domainHold (s : State) (op : Nat) (q : Request) : Bool :=
  ((op == 0x0201 || op == 0x0202) && s.cars[carrierOf (objIndex q)].fg.isSome) || (op == 0x0202 && s.dom (objIndex q) == .stopping) || (op == 0x0C01 && s.dom (2 + objIndex q / 8) == .stopping)

/-- May an accepted request start (R319, R321, R322, R323, R394)? -/
def gate (s : State) (ch : Fin 4) (c : CmdInfo) (o : Outst) : Gate :=
  if terminating c.op o.req then .go
  else if orderedBlocks s ch o then .wait
  else if c.cls == .query || isSafety c.op then .go
  else if earlierBlocks s c o then .hold
  else if transitionOver s (fnOfOp c o.req) && !c.own then .hold
  else if domainHold s c.op o.req then .hold
  else .go

/-- The entry faults that a request can show whatever bytes its entry holds (R318). -/
def requestBad (s : State) (q : Request) : Bool :=
  let c := s.chan q.ch
  600000 < q.holdMs.toNat || 224 < q.body.length || 4096 < q.bulk.length
    || (q.slot.isNone && !q.bulk.isEmpty)
    || (match q.slot with | some sl => c.slotUsed sl | none => false)
    || c.outst.any (fun o => o.req.tag == q.tag) || c.done.any (fun d => d.tag == q.tag)

/-- Does the Curator accept requests on a channel now (R318, R325, R326, R328)? Not while IDLE has gated its cores (R386). -/
def accepting (s : State) (ch : Fin 4) : Bool :=
  s.desk.ready && !s.pwr.coresOff && !s.desk.restarting && !s.desk.activating && (s.chan ch).ready && (s.chan ch).outstanding < 32

/-- Outside Test-Logic-Reset of the test access port, a request that would change a function's outputs stays in its ring (R509): any
command of a class other than QUERY (DEDUCED, log 55). -/
def tapHolds (s : State) (op : Nat) : Bool :=
  s.pins.tap != .tlr && match cmdInfo op with
    | some c => c.cls != .query
    | none => false

/-- The response of a command carries bulk bytes, or may (R317, R336, R337): the command needs BULK. -/
def needsBulk (ci : CmdInfo) : Bool := ci.bulk || ci.form == .st || ci.op == 0x0491

/-- Acceptance of a request (R310, R313, R316 to R318, R330): it takes ACCEPT_SEQ and its slot; a bad entry, an undefined
opcode, a class not granted and a missing bulk slot complete it at once, in that order (log 13). -/
def acceptRequest (op : Nat) (bad : Bool) (q : Request) (s : State) : State :=
  let c := s.chan q.ch
  let o : Outst := { op := op, req := q, seq := c.seq + 1, order := s.desk.nextOrder, at_ := s.dev.ticks,
                     phase := .waiting }
  let isBad := bad || requestBad s q
  let put (r : Resp) : State :=
    let s1 := onChan q.ch (fun c => { c with seq := c.seq + 1 }.push (doneOf s.dev.ticks o r)) s
    { s1 with desk := { s1.desk with nextOrder := s1.desk.nextOrder + 1 } }
  let own (s : State) : State :=
    match q.slot with
    | some sl => onChan q.ch (fun c => { c with slots := { slot := sl, tag := q.tag, unread := none } :: c.slots }) s
    | none => s
  if isBad then put { status := stBadEntry }
  else
    match cmdInfo op with
    | none => own (put { status := stBadOpcode })
    | some ci =>
      if !granted s q.ch ci.cls then own (put { status := stDenied })
      else if needsBulk ci && q.slot.isNone then put { status := stBadEntry }
      else
        let ph : Phase := if gate s q.ch ci o = .hold then .held else .waiting
        let s1 := onChan q.ch (fun c => { c with seq := c.seq + 1, outst := c.outst ++ [{ o with phase := ph }] }) s
        own { s1 with desk := { s1.desk with nextOrder := s1.desk.nextOrder + 1 } }

/-- The request as its command finds it: one that was accepted before is used as accepted; one that was not is accepted at
this instant (log 4). -/
def admitRequest (op : Nat) (q : Request) (s : State) : State :=
  match (s.chan q.ch).find q.tag with
  | some o => if o.op = op && o.phase != .started then s else if accepting s q.ch && !tapHolds s op then acceptRequest op false q s else s
  | none => if accepting s q.ch && !tapHolds s op then acceptRequest op false q s else s

/-- The first Reserved byte of a body that is not 0 (R331). -/
def firstReserved (resv : List (Nat × Nat)) (q : Request) : Option Nat :=
  (resv.find? fun r => Nat.land (byteAt q.body r.1) r.2 ≠ 0).map (·.1)

/-- The checks every command makes first (R331, R332): OBJ, then the Reserved fields. -/
def precheck (c : CmdInfo) (q : Request) (s : State) : Option Reply :=
  if !objOk s c q then some (badParam 0)
  else
    match firstReserved c.resv q with
    | some off => some (badParam off)
    | none => none

/-- Run a request that may start: the common checks, then the command's own effect (R331, R332). -/
def runNow (c : CmdInfo) (f : Request → State → State × Reply) (ch : Fin 4) (q : Request) (s : State) : State :=
  let r := match precheck c q s with
    | some rep => (s, rep)
    | none => f q s
  match r.2 with
  | .done rsp => complete ch q.tag rsp r.1
  | .later => setPhase ch q.tag .started r.1

/-- A Desk command (R318, R319, R322): accept if it was not, hold or let it wait where the rules say so, and run it. -/
def deskRun (op : Nat) (f : Request → State → State × Reply) (q : Request) (s : State) : State :=
  let s1 := admitRequest op q s
  match (s1.chan q.ch).find q.tag, cmdInfo op with
  | some o, some c =>
    if o.op = op && o.phase != .started then
      match gate s1 q.ch c o with
      | .go => runNow c f q.ch o.req s1
      | .hold => setPhase q.ch q.tag .held s1
      | .wait => s1
    else s1
  | _, _ => s1

/-- Begin a transition of a function for a request (R319 to R322). -/
def beginTransition (fn : Fn) (op : Nat) (q : Request) (s : State) : State :=
  { s with desk := { s.desk with transitions := { fn := fn, op := op, by_ := some (q.ch, q.tag) } ::
      s.desk.transitions } }

/-- Begin an internal sequence of a function (R321). -/
def beginInternal (fn : Fn) (s : State) : State :=
  { s with desk := { s.desk with transitions := { fn := fn, op := 0, by_ := none } :: s.desk.transitions } }

/-- End the transition of a function: the request that began it completes with the answer given (R319, R322). -/
def endTransition (fn : Fn) (r : Resp) (s : State) : State :=
  let ts := s.desk.transitions.filter fun t => t.fn == fn
  let s1 := { s with desk := { s.desk with transitions := s.desk.transitions.filter fun t => t.fn != fn } }
  ts.foldl (fun s t => match t.by_ with | some (ch, tag) => complete ch tag r s | none => s) s1

/-- Is a function in transition? -/
def inTransition (fn : Fn) (s : State) : Bool := s.desk.transitions.any fun t => t.fn == fn

/-- A terminating command on an object (R323): the transitions on it and on what it contains end, the commands that began
them and those held behind them return ST_ABORTED. -/
def terminate (o : Fn) (s : State) : State :=
  let ts := s.desk.transitions.filter fun t => within o t.fn
  let s1 := ts.foldl (fun s t => endTransition t.fn { status := stAborted } s) s
  let held := (List.finRange 4).flatMap fun ch => ((s.chan ch).outst.filter fun x => x.phase == .held &&
    match cmdInfo x.op with
    | some c => within o (fnOfOp c x.req)
    | none => false).map fun x => (ch, x.req.tag)
  held.foldl (fun s h => complete h.1 h.2 { status := stAborted } s) s1

/-- The byte listed at an address of a canonical cell list, if one is. -/
def cellFind (a : Nat) : List Host.Cell → Option Byte
  | [] => none
  | (b, v) :: r => if b = a then some v else if a < b then none else cellFind a r

/-- Put one byte into a canonical cell list whose unlisted byte there reads as `d` (none: no fixed value): an entry equal to
what an unlisted byte reads is removed. -/
def cellPut (d : Option Byte) (a : Nat) (v : Byte) : List Host.Cell → List Host.Cell
  | [] => if d = some v then [] else [(a, v)]
  | (b, w) :: r =>
    if a < b then (if d = some v then (b, w) :: r else (a, v) :: (b, w) :: r)
    else if a = b then (if d = some v then r else (a, v) :: r)
    else (b, w) :: cellPut d a v r

/-- Put bytes at consecutive addresses. -/
def cellPutList (d : Option Byte) (a : Nat) : List Byte → List Host.Cell → List Host.Cell
  | [], m => m
  | v :: vs, m => cellPutList d (a + 1) vs (cellPut d a v m)

/-- Read `n` bytes at consecutive addresses of memory whose unlisted bytes read 0. -/
def cellGetList (a n : Nat) (m : List Host.Cell) : List Byte :=
  (List.range n).map fun k => (cellFind (a + k) m).getD 0

/-- Offsets in a channel's window (R309). -/
def reqEntryAt (i : Word16) : Nat := 256 * (i.toNat % 64)
def rspEntryAt (i : Word16) : Nat := 0x4000 + 256 * (i.toNat % 64)
def slotAt (sl : Fin 32) : Nat := 0x8000 + 0x1000 * sl.val

/-- The 256 bytes of the request entry at REQ_HEAD (R309, R313). -/
def Channel.entry (c : Channel) : List Byte := cellGetList (reqEntryAt c.reqHead) 256 c.win

/-- The faults of an entry's own bytes (R318): Reserved fields, LEN, BULK_LEN, BULK_SLOT, BULK clear with slot fields. -/
def entryBad (e : List Byte) : Bool :=
  natAt e 10 2 != 0 || natAt e 16 16 != 0 || byteAt e 6 / 4 != 0 || 224 < natAt e 4 2 || 4096 < natAt e 8 2
    || 31 < byteAt e 7 || (!bit (byteAt e 6) 0 && (byteAt e 7 != 0 || natAt e 8 2 != 0)) || 600000 < natAt e 12 4

/-- The request that an entry spells (R315), with the bulk slot's request bytes. -/
def requestOf (ch : Fin 4) (c : Channel) (e : List Byte) : Request :=
  let sl : Option (Fin 32) := if bit (byteAt e 6) 0 then some ⟨byteAt e 7 % 32, Nat.mod_lt _ (by decide)⟩ else none
  { ch := ch, tag := BitVec.ofNat 16 (natAt e 2 2), ordered := bit (byteAt e 6) 1,
    holdMs := BitVec.ofNat 32 (natAt e 12 4), slot := sl, body := bytesAt e 32 (min (natAt e 4 2) 224),
    bulk := match sl with
      | some x => cellGetList (slotAt x) (min (natAt e 8 2) 4096) c.win
      | none => [] }

/-- A channel's ring holds a request that the Curator may accept now (R318, R509). -/
def requestWaits (s : State) (ch : Fin 4) : Bool :=
  accepting s ch && (s.chan ch).reqHead != (s.chan ch).reqTail && !tapHolds s (natAt (s.chan ch).entry 0 2)

/-- The channel whose turn it is: the next one after the channel served last that has a request (R318). -/
def nextTurn (s : State) : Option (Fin 4) := [s.desk.served + 1, s.desk.served + 2, s.desk.served + 3, s.desk.served].find? (requestWaits s)

/-- REQUEST_ACCEPT (R313, R318): in the channel's turn, the entry at REQ_HEAD is copied and REQ_HEAD advances. -/
def acceptNext (ch : Fin 4) (s : State) : State :=
  if nextTurn s = some ch then
    let c := s.chan ch
    let e := c.entry
    acceptRequest (natAt e 0 2) (entryBad e) (requestOf ch c e)
      (onChan ch (fun c => { c with reqHead := c.reqHead + 1 }) { s with desk := { s.desk with served := ch } })
  else s

/-- The 256 bytes of a response entry (R316). -/
def responseEntry (d : Done) : List Byte :=
  leBytes 2 d.op ++ leBytes 2 d.tag.toNat ++ leBytes 2 d.payload.length ++ leBytes 1 (b2n !d.bulk.isEmpty)
    ++ leBytes 1 (match d.slot with | some sl => sl.val | none => 0) ++ leBytes 2 d.bulk.length ++ leBytes 2 d.status
    ++ leBytes 4 d.detail ++ leBytes 4 d.seq.toNat ++ leBytes 4 d.elapsedUs ++ leBytes 8 0 ++ padTo 224 d.payload

/-- RESPONSE_WRITE (R314, R316, R317): the oldest completed response is written at RSP_TAIL while the ring has room. -/
def writeResponse (ch : Fin 4) (s : State) : State :=
  let c := s.chan ch
  match c.done with
  | [] => s
  | d :: rest =>
    if (c.rspTail - c.rspHead).toNat < 64 then
      let w1 := cellPutList (some 0) (rspEntryAt c.rspTail) (responseEntry d) c.win
      let w2 := match d.slot with
        | some sl => cellPutList (some 0) (slotAt sl) d.bulk w1
        | none => w1
      let s1 := onChan ch (fun c => { c with
        done := rest, win := w2, rspTail := c.rspTail + 1,
        slots := c.slots.map fun u => if d.status != stBadEntry && u.tag = d.tag && u.unread.isNone then { u with unread := some c.rspTail } else u }) s
      if c.irqEn then raise0 (4 + ch.val) objDevice s1 else s1
    else s

/-- One item of a status list (R337). -/
structure StatItem where
  row : Nat
  fld : Nat
  elem : Nat := 0xFFFF
  value : List Byte
  /-- The quantity can be negative (R379). -/
  signed : Bool := false
deriving DecidableEq, Repr

end Sys2Proof.Machine
end

