-- ==== Sys2Proof/Machine/Operands.lean ====
section
/-! DEFINITION. The operand forms of Desk requests: little-endian fields, the parameter tables and records (R333 to R336),
reading forms, and status items with their paging (R337). -/

namespace Sys2Proof.Machine

/-- Fields of a request body (R8). -/
def u8 (q : Request) (off : Nat) : Nat := byteAt q.body off
def u16 (q : Request) (off : Nat) : Nat := natAt q.body off 2
def u32 (q : Request) (off : Nat) : Nat := natAt q.body off 4
def u48 (q : Request) (off : Nat) : Nat := natAt q.body off 6
def u64 (q : Request) (off : Nat) : Nat := natAt q.body off 8
def s8 (q : Request) (off : Nat) : Int := signedOf 8 (u8 q off)
def s16 (q : Request) (off : Nat) : Int := signedOf 16 (u16 q off)
def s64 (q : Request) (off : Nat) : Int := signedOf 64 (u64 q off)

/-- The carrier and group that OBJ names. -/
def reqCarrier (q : Request) : Fin 2 := carrierOf (objIndex q)
def reqGroup (q : Request) : Fin 16 := groupOf (objSub q)

/-- The object a parameter belongs to (R78, R158, R346, R358: "per carrier", "per group", the device, the mate link). -/
inductive Scope where
  /-- OBJ as it stands. -/
  | obj
  /-- The carrier that OBJ names, SUB taken as 0xFF. -/
  | carrier
  /-- The group that OBJ names; every group for a carrier as a whole (log 14). -/
  | group
  /-- The converter that OBJ names; every converter for SUB 0xFF (R342). -/
  | conv
  | device
  /-- The mate link, whichever lane names it (R358). -/
  | mateLink
deriving DecidableEq, Repr

/-- One value of a parameter table: its PID (R334), the commands that take it, whether VALUE is signed (R335), the values
allowed as (lowest, highest, step), and the default. -/
structure ParRow where
  pid : Nat
  ops : List Nat
  signed : Bool := false
  ok : List (Int × Int × Int)
  dflt : Int
  scope : Scope := .obj
deriving DecidableEq, Repr

/-- A range with a step. -/
def rng (lo hi : Int) (step : Int := 1) : List (Int × Int × Int) := [(lo, hi, step)]

/-- Converter parameters (R48, R39, R45). -/
def parR48 : List ParRow :=
  [ { pid := 0x20, ops := [0x0211], ok := rng 0 1, dflt := 1, scope := .conv },
    { pid := 0x30, ops := [0x0211], ok := rng 0 60000, dflt := 0, scope := .conv },
    { pid := 0x40, ops := [0x0211], ok := rng 5 50, dflt := 25, scope := .conv },
    { pid := 0x41, ops := [0x0211], ok := rng 5 50, dflt := 10, scope := .conv },
    { pid := 0x42, ops := [0x0211], ok := rng 20 200, dflt := 40, scope := .conv },
    { pid := 0x50, ops := [0x0211], ok := rng 1 8, dflt := 3, scope := .conv },
    { pid := 0x60, ops := [0x0211], ok := rng 100 800, dflt := 200, scope := .conv },
    { pid := 0x61, ops := [0x0211], ok := rng 50 300, dflt := 100, scope := .conv },
    { pid := 0x70, ops := [0x0211], signed := true, ok := rng 32 320, dflt := 80, scope := .conv } ]

/-- Receive parameters (R78, R71); which rows are per group is DEDUCED (log 14). -/
def parR78 : List ParRow :=
  [ { pid := 0x10, ops := [0x0302], signed := true, ok := rng (-1600000) 1600000, dflt := 0, scope := .group },
    { pid := 0x20, ops := [0x0302], signed := true, ok := rng 16000 1600000, dflt := 1600000, scope := .group },
    { pid := 0x30, ops := [0x0301], ok := rng 0 1, dflt := 0, scope := .group },
    { pid := 0x40, ops := [0x0301], signed := true, ok := rng 8000 160000, dflt := 32000, scope := .group },
    { pid := 0x50, ops := [0x0301], ok := rng 16 4096, dflt := 256, scope := .group },
    { pid := 0x60, ops := [0x0301], ok := rng 9 21 2, dflt := 15, scope := .group },
    { pid := 0x70, ops := [0x0301], ok := rng 0 2, dflt := 1, scope := .group },
    { pid := 0x80, ops := [0x0301], ok := rng 0 2, dflt := 2, scope := .group },
    { pid := 0x90, ops := [0x0301], ok := rng 8 64, dflt := 32, scope := .group },
    { pid := 0xA0, ops := [0x0301], signed := true, ok := rng (-3000) (-1000), dflt := -2400, scope := .carrier },
    { pid := 0xA1, ops := [0x0301], ok := rng 1000 1000000, dflt := 10000, scope := .carrier },
    { pid := 0xA2, ops := [0x0301], ok := rng 10000 10000000, dflt := 100000, scope := .carrier },
    { pid := 0xB0, ops := [0x0301], ok := rng 1 1024, dflt := 16, scope := .group },
    { pid := 0xC0, ops := [0x0301], signed := true, ok := rng 0 3000, dflt := 0, scope := .group },
    { pid := 0xD0, ops := [0x0301], ok := rng 0 15 ++ rng 255 255, dflt := 255, scope := .carrier } ]

/-- Transmit and loading parameters (R103, R98, R345). -/
def parR103 : List ParRow :=
  [ { pid := 0x20, ops := [0x0401], ok := rng 0 2, dflt := 0 },
    { pid := 0x30, ops := [0x0401], signed := true, ok := rng (-300) 600 10, dflt := 100 },
    { pid := 0x40, ops := [0x0401], signed := true, ok := rng 10 300, dflt := 50 },
    { pid := 0x50, ops := [0x0401], ok := rng 1000 3600000, dflt := 10000 },
    { pid := 0x60, ops := [0x0401], ok := rng 16 255, dflt := 64 },
    { pid := 0x70, ops := [0x0401], ok := rng 10000000 1000000000, dflt := 100000000 },
    { pid := 0xA0, ops := [0x0410], signed := true, ok := rng (-400) 400, dflt := 0 },
    { pid := 0xA1, ops := [0x0410], signed := true, ok := rng (-400) 400, dflt := 0 },
    { pid := 0xA2, ops := [0x0410], signed := true, ok := rng (-400) 400, dflt := 0 },
    { pid := 0xA3, ops := [0x0410], signed := true, ok := rng (-400) 400, dflt := 0 },
    { pid := 0xA4, ops := [0x0410], signed := true, ok := rng (-300) 300, dflt := 0 },
    { pid := 0xA5, ops := [0x0410], signed := true, ok := rng (-300) 300, dflt := 0 },
    { pid := 0xA6, ops := [0x0410], signed := true, ok := rng (-1500) 1500 2, dflt := 0 },
    { pid := 0xA7, ops := [0x0410], signed := true, ok := rng (-1500) 1500 2, dflt := 0 },
    { pid := 0xC0, ops := [0x0410], signed := true, ok := rng 600 1400 10, dflt := 1050 } ]

/-- Decoding parameters (R130); rows 6 and 9 act on the device (R346). -/
def parR130 : List ParRow :=
  [ { pid := 0x20, ops := [0x0501], ok := rng 0 1, dflt := 0, scope := .carrier },
    { pid := 0x30, ops := [0x0501], ok := rng 30000 400000, dflt := 60000, scope := .carrier },
    { pid := 0x40, ops := [0x0501], ok := rng 4 16, dflt := 10, scope := .carrier },
    { pid := 0x50, ops := [0x0501], ok := rng 4 16, dflt := 4, scope := .carrier },
    { pid := 0x51, ops := [0x0501], ok := rng 8 48, dflt := 32, scope := .carrier },
    { pid := 0x60, ops := [0x0501], ok := rng 0 4, dflt := 2, scope := .device },
    { pid := 0x61, ops := [0x0501], ok := rng 0 12, dflt := 1, scope := .device },
    { pid := 0x70, ops := [0x0501], ok := rng 6250 8750, dflt := 7500, scope := .carrier },
    { pid := 0x71, ops := [0x0501], ok := rng 6250 8750, dflt := 6875, scope := .carrier },
    { pid := 0x80, ops := [0x0501], ok := rng 2 16, dflt := 4, scope := .carrier },
    { pid := 0x90, ops := [0x0501], ok := rng 1024 131072, dflt := 8192, scope := .device },
    { pid := 0xA0, ops := [0x0501], ok := rng 0 4294967295, dflt := 0, scope := .carrier } ]

/-- Interloan parameters (R158). -/
def parR158 : List ParRow :=
  [ { pid := 0x10, ops := [0x0601], signed := true, ok := rng (-600) 600, dflt := 0 },
    { pid := 0x20, ops := [0x0601], ok := rng 0 15, dflt := 15 },
    { pid := 0x30, ops := [0x0601], ok := rng 16 256, dflt := 64 },
    { pid := 0x40, ops := [0x0601], ok := rng 2000 8000, dflt := 3500 },
    { pid := 0x50, ops := [0x0601], signed := true, ok := rng 300 2000, dflt := 1000 },
    { pid := 0x60, ops := [0x0601], signed := true, ok := rng (-3000) (-600), dflt := -1200 },
    { pid := 0x70, ops := [0x0601], ok := rng 16 4096, dflt := 256 },
    { pid := 0x71, ops := [0x0601], signed := true, ok := rng (-3000) 0, dflt := -1000 },
    { pid := 0x80, ops := [0x0601], ok := rng 0 15, dflt := 0 },
    { pid := 0x90, ops := [0x0601], ok := rng 2 256, dflt := 32 },
    { pid := 0xA0, ops := [0x0601], ok := rng 2 64, dflt := 16 },
    { pid := 0xA1, ops := [0x0601], ok := rng 64 65536, dflt := 4096 },
    { pid := 0xB0, ops := [0x0601], ok := rng 1000000 1000000000, dflt := 50000000 } ]

/-- Encryption parameters (R183). -/
def parR183 : List ParRow :=
  [ { pid := 0x20, ops := [0x0710], ok := rng 0 2, dflt := 0 },
    { pid := 0x30, ops := [0x0710], ok := rng 4 255, dflt := 16 },
    { pid := 0x40, ops := [0x0710], ok := rng 60000 86400000, dflt := 3600000 },
    { pid := 0x50, ops := [0x0710], ok := rng 100 10000, dflt := 1000 } ]

/-- Framer parameters (R203). -/
def parR203 : List ParRow :=
  [ { pid := 0x40, ops := [0x0803], ok := rng 1 8, dflt := 2 },
    { pid := 0x50, ops := [0x0803], ok := rng 2 16, dflt := 5 },
    { pid := 0x60, ops := [0x0803], ok := rng 1000000 10000000, dflt := 3000000 } ]

/-- Protection parameters (R226). -/
def parR226 : List ParRow :=
  [ { pid := 0x40, ops := [0x0920], ok := rng 2 16, dflt := 3 },
    { pid := 0x50, ops := [0x0920], ok := rng 0 1, dflt := 0 },
    { pid := 0x60, ops := [0x0920], ok := rng 0 1, dflt := 0 },
    { pid := 0x61, ops := [0x0920], ok := rng 0 1, dflt := 1 },
    { pid := 0x70, ops := [0x0920], ok := rng 0 10000, dflt := 1000 },
    { pid := 0x80, ops := [0x0920], ok := rng 1000000 100000000, dflt := 10000000 },
    { pid := 0x90, ops := [0x0920], ok := rng 0 16777216, dflt := 0 },
    { pid := 0xA0, ops := [0x0920], ok := rng 0 10000 100, dflt := 0 },
    { pid := 0xB0, ops := [0x0920], ok := rng 60000 720000, dflt := 300000 },
    { pid := 0xC0, ops := [0x0920], ok := rng 0 50000, dflt := 20000 } ]

/-- Stacks parameters (R252). -/
def parR252 : List ParRow :=
  [ { pid := 0x10, ops := [0x0A02], ok := rng 2 64, dflt := 4, scope := .device },
    { pid := 0x20, ops := [0x0A02], ok := rng 1 16, dflt := 2, scope := .device },
    { pid := 0x30, ops := [0x0A02], ok := rng 3600000 604800000, dflt := 86400000, scope := .device },
    { pid := 0x40, ops := [0x0A02], ok := rng 0 1, dflt := 1, scope := .device } ]

/-- The codes of a time source (R357). -/
def sourceCodes : List (Int × Int × Int) := rng 0 3 ++ rng 0x10 0x2F

/-- Time parameters (R285, R357). -/
def parR285 : List ParRow :=
  [ { pid := 0x10, ops := [0x0B01], ok := rng 0 3, dflt := 1 },
    { pid := 0x20, ops := [0x0B02], signed := true, ok := rng 1000 100000, dflt := 9200 },
    { pid := 0x21, ops := [0x0B02], signed := true, ok := rng 10 10000, dflt := 2000 },
    { pid := 0x30, ops := [0x0B02], ok := rng 1000 600000, dflt := 10000 },
    { pid := 0x40, ops := [0x0B02], ok := rng 0 720000, dflt := 300000 },
    { pid := 0x51, ops := [0x0B02], ok := rng 0 1, dflt := 1 },
    { pid := 0x60, ops := [0x0B02], ok := rng 0 800000000 1000, dflt := 0 },
    { pid := 0x61, ops := [0x0B02], ok := rng 0 800000000 1000, dflt := 0 },
    { pid := 0x62, ops := [0x0B02], ok := rng 0 800000000 1000, dflt := 0 },
    { pid := 0x63, ops := [0x0B02], ok := rng 0 800000000 1000, dflt := 0 },
    { pid := 0x64, ops := [0x0B02], ok := rng 0 47 ++ rng 255 255, dflt := 255 },
    { pid := 0x65, ops := [0x0B02], ok := rng 0 47 ++ rng 255 255, dflt := 255 },
    { pid := 0x66, ops := [0x0B02], ok := rng 0 47 ++ rng 255 255, dflt := 255 },
    { pid := 0x67, ops := [0x0B02], ok := rng 0 47 ++ rng 255 255, dflt := 255 },
    { pid := 0x90, ops := [0x0B06], ok := sourceCodes, dflt := 0 },
    { pid := 0x91, ops := [0x0B06], ok := sourceCodes, dflt := 0 },
    { pid := 0xA0, ops := [0x0B06], ok := rng 1000 64000, dflt := 4000 },
    { pid := 0xA1, ops := [0x0B06], ok := rng 16 65536, dflt := 4096 },
    { pid := 0xB0, ops := [0x0B06], ok := rng 10 1000000000, dflt := 1000 },
    { pid := 0xC0, ops := [0x0B06], ok := rng 1 1000000, dflt := 10 },
    { pid := 0xD0, ops := [0x0B06], ok := rng 1000 1024000, dflt := 16000 },
    { pid := 0xD1, ops := [0x0B06], signed := true, ok := rng 100 100000, dflt := 10000 },
    { pid := 0xE0, ops := [0x0B09], ok := rng 0 3, dflt := 0 },
    { pid := 0xE1, ops := [0x0B09], ok := rng 0 4294967295, dflt := 0 },
    { pid := 0xE2, ops := [0x0B09], signed := true, ok := rng 0 2147483647, dflt := 0 },
    { pid := 0xE3, ops := [0x0B09], signed := true, ok := rng 0 2147483647, dflt := 0 },
    { pid := 0xE4, ops := [0x0B09], signed := true, ok := rng (-2147483648) 2147483647, dflt := 0 },
    { pid := 0xE5, ops := [0x0B09], ok := rng 0 1, dflt := 0 },
    { pid := 0xF0, ops := [0x0B0A], signed := true, ok := rng 0 16000000, dflt := 0 },
    { pid := 0xF1, ops := [0x0B0A], signed := true, ok := rng 0 16000000, dflt := 0 },
    { pid := 0x100, ops := [0x0B0A], ok := rng 100 500000000, dflt := 100000 },
    { pid := 0x101, ops := [0x0B0A], ok := rng 0 1, dflt := 0 },
    { pid := 0x110, ops := [0x0B0A], ok := rng 9600 9600 ++ rng 115200 115200 ++ rng 921600 921600, dflt := 115200 } ]

/-- Lane parameters (R305, R298, R300; rows 3 and 4 act on the mate link, R358). -/
def parR305 : List ParRow :=
  [ { pid := 0x20, ops := [0x0C03], ok := rng 10000000 500000000, dflt := 50000000 },
    { pid := 0x30, ops := [0x0C03], ok := rng 26562500 26562500 ++ rng 53125000 53125000 ++ rng 106250000 106250000
        ++ rng 212500000 212500000, dflt := 212500000, scope := .mateLink },
    { pid := 0x31, ops := [0x0C03], ok := rng 1 16, dflt := 12, scope := .mateLink },
    { pid := 0x40, ops := [0x0C03], ok := rng 1000000 100000000, dflt := 10000000, scope := .mateLink },
    { pid := 0x41, ops := [0x0C03], ok := rng 400 900, dflt := 600, scope := .mateLink },
    { pid := 0x50, ops := [0x0C03], ok := rng 0 1, dflt := 0 },
    { pid := 0x60, ops := [0x0C03], ok := rng 500 100000, dflt := 2000 },
    { pid := 0x61, ops := [0x0C03], ok := rng 10000 1000000, dflt := 100000 },
    { pid := 0x62, ops := [0x0C03], ok := rng 1000000 1000000000, dflt := 10000000 },
    { pid := 0x63, ops := [0x0C03], ok := rng 50000 1000000, dflt := 200000 },
    { pid := 0x70, ops := [0x0C03], ok := rng 40 200, dflt := 80 },
    { pid := 0x71, ops := [0x0C03], signed := true, ok := rng 1000 2500, dflt := 1500 } ]

/-- The parameter table of each name (R333, R334). -/
def parTable : PTab → List ParRow
  | .r48 => parR48 | .r78 => parR78 | .r103 => parR103 | .r130 => parR130 | .r158 => parR158 | .r183 => parR183
  | .r203 => parR203 | .r226 => parR226 | .r252 => parR252 | .r285 => parR285 | .r305 => parR305

/-- The parameter table of a P command (R338 to R362). -/
def tabOf (op : Nat) : PTab :=
  if op = 0x0211 then .r48
  else if op = 0x0301 ∨ op = 0x0302 then .r78
  else if op = 0x0401 ∨ op = 0x0410 then .r103
  else if op = 0x0501 then .r130
  else if op = 0x0601 then .r158
  else if op = 0x0710 then .r183
  else if op = 0x0803 then .r203
  else if op = 0x0920 then .r226
  else if op = 0x0A02 then .r252
  else if op = 0x0C03 then .r305
  else .r285

/-- Does a row allow a value? -/
def ParRow.allows (r : ParRow) (v : Int) : Bool :=
  r.ok.any fun x => x.1 ≤ v && v ≤ x.2.1 && (v - x.1) % x.2.2 == 0

/-- The objects that a record of a row acts on, for an OBJ. -/
def scopeKeys (sc : Scope) (q : Request) : List Nat :=
  let c := objIndex q
  match sc with
  | .obj => if objKind q = 6 then [objOdum c (objSub q) 0] else [objOf q]
  | .carrier => [objCarrier c]
  | .group => if objSub q = 0xFF then (List.range 16).map (objGroup c) else [objGroup c (objSub q)]
  | .conv => if objSub q = 0xFF then (List.range 8).map fun k => objConv c k 0xFF else [objConv c (objSub q) 0xFF]
  | .device => [objDevice]
  | .mateLink => [objMate]

/-- The parameter of a table for an object: its value in force, or its default (R333, R336). -/
def Params.get (p : Params) (t : PTab) (ob pid : Nat) : Int :=
  match p.inForce.find? fun v => v.tab == t && v.obj == ob && v.pid == pid with
  | some v => v.val
  | none =>
    match (parTable t).find? fun r => r.pid == pid with
    | some r => r.dflt
    | none => 0

/-- Take one parameter out of a list, and put it in. -/
def dropPar (v : ParamVal) (l : List ParamVal) : List ParamVal :=
  l.filter fun w => !(w.tab == v.tab && w.obj == v.obj && w.pid == v.pid)
def putPar (v : ParamVal) (l : List ParamVal) : List ParamVal := v :: dropPar v l

/-- Set a parameter in force, in place of an earlier value that still waits, or one that waits. -/
def Params.put (p : Params) (v : ParamVal) : Params :=
  { p with inForce := putPar v p.inForce, waiting := dropPar v p.waiting, acquiring := dropPar v p.acquiring }
def Params.wait (p : Params) (v : ParamVal) : Params :=
  { p with waiting := putPar v p.waiting, acquiring := dropPar v p.acquiring }

/-- Set a receive parameter that waits for the next entry to CD_SEARCH (R78). -/
def Params.waitSearch (p : Params) (v : ParamVal) : Params :=
  { p with acquiring := putPar v p.acquiring, waiting := dropPar v p.waiting }

/-- The waiting parameters of a table and object take effect. -/
def Params.release (p : Params) (t : PTab) (ob : Nat) : Params :=
  let mine := p.waiting.filter fun v => v.tab == t && v.obj == ob
  { p with waiting := p.waiting.filter fun v => !(v.tab == t && v.obj == ob),
           inForce := mine.foldr putPar p.inForce }

/-- The parameters that wait for an entry to CD_SEARCH take effect (R78). -/
def Params.releaseSearch (p : Params) (t : PTab) (ob : Nat) : Params :=
  let mine := p.acquiring.filter fun v => v.tab == t && v.obj == ob
  { p with acquiring := p.acquiring.filter fun v => !(v.tab == t && v.obj == ob), inForce := mine.foldr putPar p.inForce }

/-- A parameter as a natural number. -/
def getPar (s : State) (t : PTab) (ob pid : Nat) : Int := s.par.get t ob pid
def getParN (s : State) (t : PTab) (ob pid : Nat) : Nat := (s.par.get t ob pid).toNat

/-- A parsed record. -/
structure ParRec where
  row : ParRow
  val : Int
  /-- Offset of the record in the body. -/
  off : Nat
deriving DecidableEq, Repr

/-- The record at an offset: its row when the command takes it and the value is allowed, else the offset refused
(R331, R333 to R335). -/
def parseRecord (op off : Nat) (q : Request) : Except Nat ParRec :=
  match (parTable (tabOf op)).find? fun r => r.pid == u16 q off && r.ops.contains op with
  | none => .error off
  | some r =>
    if u8 q (off + 2) ≠ 0 then .error (off + 2)
    else if u8 q (off + 3) ≠ 0 then .error (off + 3)
    else
      let v : Int := if r.signed then signedOf 32 (u32 q (off + 4)) else u32 q (off + 4)
      if r.allows v then .ok { row := r, val := v, off := off } else .error off

/-- The records from record `i` on. -/
def parseFrom (op : Nat) (q : Request) : Nat → Nat → Except Nat (List ParRec)
  | 0, _ => .ok []
  | k + 1, i =>
    match parseRecord op (8 + 8 * i) q with
    | .error e => .error e
    | .ok r =>
      match parseFrom op q k (i + 1) with
      | .error e => .error e
      | .ok rs => .ok (r :: rs)

/-- The records of a P request in order, or the byte offset refused (R331, R333). FLAGS.DELETE is for
`PROT.PROVISION` only. -/
def parseRecords (op : Nat) (q : Request) : Except Nat (List ParRec) :=
  if 27 < u8 q 4 ∨ q.body.length < 8 + 8 * u8 q 4 ∧ u8 q 4 ≠ 0 then .error 4
  else if (if op = 0x0920 then u8 q 5 / 2 else u8 q 5) ≠ 0 then .error 5
  else if u8 q 6 ≠ 0 then .error 6
  else if u8 q 7 ≠ 0 then .error 7
  else parseFrom op q (u8 q 4) 0

/-- The parameter values a list of records sets (R333: the last of one PID governs, being applied last). -/
def recVals (op : Nat) (q : Request) (rs : List ParRec) : List ParamVal :=
  rs.flatMap fun r => (scopeKeys r.row.scope q).map fun k =>
    { tab := tabOf op, obj := k, pid := r.row.pid, val := r.val }

/-- Put records in force, or make them wait. -/
def applyRecs (op : Nat) (q : Request) (rs : List ParRec) (s : State) : State :=
  { s with par := (recVals op q rs).foldl Params.put s.par }
def waitRecs (op : Nat) (q : Request) (rs : List ParRec) (s : State) : State :=
  { s with par := (recVals op q rs).foldl Params.wait s.par }

/-- Does a list of records hold one of a row? -/
def hasRow (rs : List ParRec) (row : Nat) : Bool := rs.any fun r => r.row.pid / 16 == row

/-- A P command whose records take effect at once when no rule of its chapter refuses them. `chk` gives a refusal. -/
def pCommand (op : Nat) (chk : List ParRec → State → Option Reply) (act : List ParRec → State → State)
    (q : Request) (s : State) : State × Reply :=
  match parseRecords op q with
  | .error off => (s, badParam off)
  | .ok rs =>
    match chk rs s with
    | some r => (s, r)
    | none => (act rs s, ok)

/-- Keep the body of a command marked R (R336), keyed by its OBJ. -/
def keepBody (op : Nat) (q : Request) (s : State) : State :=
  { s with par := { s.par with bodies := { op := op, obj := objOf q, body := q.body, bulk := q.bulk } ::
      (s.par.bodies.filter fun b => !(b.op == op && b.obj == objOf q)) } }

/-- Forget the body of an object (it counts as never provisioned again). -/
def dropBody (op ob : Nat) (s : State) : State :=
  { s with par := { s.par with bodies := s.par.bodies.filter fun b => !(b.op == op && b.obj == ob) } }

/-- The body in force of an R command for an object (R336). -/
def bodyOf (s : State) (op ob : Nat) : Option BodyVal := s.par.bodies.find? fun b => b.op == op && b.obj == ob

/-- One record of a parameter body (R333). -/
def recordBytes (pid : Nat) (v : Int) : List Byte := leBytes 2 pid ++ leBytes 2 0 ++ leBytes 4 (codeOf 32 v)

/-- The object key under which a reading form looks a row up. -/
def readKey (sc : Scope) (q : Request) : Nat :=
  match sc with
  | .group => objGroup (objIndex q) (if objSub q = 0xFF then 0 else objSub q)
  | .conv => objConv (objIndex q) (if objSub q = 0xFF then 0 else objSub q) 0xFF
  | sc => (scopeKeys sc q).headD 0

/-- The parameter body of a P command's reading form: COUNT, and the records in PID order (R336). -/
def readingP (op : Nat) (q : Request) (s : State) : Nat × List Byte :=
  let rows := (parTable (tabOf op)).filter fun r => r.ops.contains op
  (rows.length, rows.flatMap fun r => recordBytes r.pid (s.par.get (tabOf op) (readKey r.scope q) r.pid))

/-- One status item as its record, padded to 8 bytes (R337). -/
def itemBytes (i : StatItem) : List Byte :=
  leBytes 1 i.row ++ leBytes 1 i.fld ++ leBytes 2 i.elem ++ leBytes 2 i.value.length ++ leBytes 2 0
    ++ padTo (8 * ceilDiv i.value.length 8) i.value

/-- The items of a list that fit in `room` bytes. -/
def fitItems : Nat → List StatItem → List StatItem
  | _, [] => []
  | room, i :: r => if (itemBytes i).length ≤ room then i :: fitItems (room - (itemBytes i).length) r else []

/-- A page of status items from START (R337): the response. -/
def pageItems (l : List StatItem) (start : Nat) : Reply :=
  let got := fitItems 4096 (l.drop start)
  let next := if start + got.length < l.length then start + got.length else 0
  okBulk (leBytes 2 next ++ leBytes 2 got.length ++ leBytes 4 0) (got.flatMap itemBytes)

/-- Items of the kinds of R337: counter (8 bytes), gauge or status (4 bytes, saturating, log 18), signed gauge, list. -/
def ctr (row fld : Nat) (v : Nat) (elem : Nat := 0xFFFF) : StatItem :=
  { row := row, fld := fld, elem := elem, value := leBytes 8 v }
def gau (row fld : Nat) (v : Nat) (elem : Nat := 0xFFFF) : StatItem :=
  { row := row, fld := fld, elem := elem, value := leBytes 4 (min v (2 ^ 32 - 1)) }
def sgau (row fld : Nat) (v : Int) (elem : Nat := 0xFFFF) : StatItem :=
  { row := row, fld := fld, elem := elem, signed := true,
    value := leBytes 4 (codeOf 32 (max (-2147483648) (min 2147483647 v))) }
def lst (row fld : Nat) (v : List Byte) (elem : Nat := 0xFFFF) : StatItem :=
  { row := row, fld := fld, elem := elem, value := v }

/-- A status command (S): a QUERY that pages its object's items; it needs BULK (R337). -/
def sCommand (items : Request → State → List StatItem) (q : Request) (s : State) : State × Reply :=
  if q.slot.isNone then (s, refuse stBadEntry)
  else if u16 q 6 ≠ 0 then (s, badParam (if u8 q 6 ≠ 0 then 6 else 7))
  else (s, pageItems (items q s) (u16 q 4))

end Sys2Proof.Machine
end

