-- ==== Sys2Proof/Machine/Shared.lean ====
section
/-! DEFINITION. Operations and views that several chapters share: addressed parts of the state, the Interloan send queues
(R142, R143), Catalogue changes (R448, R449), and which functions are in use. -/

namespace Sys2Proof.Machine

/-- A step's answer. -/
abbrev Out := Host.Outcome State Fault Refusal

/-- Addressed parts of the state. -/
def State.car (s : State) (c : Fin 2) : Carrier := s.cars[c]
def State.rxc (s : State) (c : Fin 2) : RxCarrier := s.rx[c]
def State.rxg (s : State) (c : Fin 2) (g : Fin 16) : RxGroup := s.rx[c].groups[g]
def State.txc (s : State) (c : Fin 2) : TxCarrier := s.tx[c]
def State.txg (s : State) (c : Fin 2) (g : Fin 16) : TxGroup := s.tx[c].groups[g]
def State.fol (s : State) (c : Fin 2) (g : Fin 16) : FolioGroup := s.folio[c][g]
def State.cry (s : State) (c : Fin 2) (g : Fin 16) : Crypt := s.crypt[c][g]
def State.lnk (s : State) (c : Fin 2) (g : Fin 16) : Link := s.time.links[c][g]

/-- The value of a Vault word by vote (R452): two equal copies. -/
def Vault.word (v : Vault) (w : Nat) : Option Nat :=
  let a := v.a.getD w 0
  let b := v.b.getD w 0
  let c := v.c.getD w 0
  if a = b ∨ a = c then some a else if b = c then some b else none

/-- Write all three copies of a Vault word (R452). -/
def Vault.put (v : Vault) (w x : Nat) : Vault := { v with a := v.a.set w x, b := v.b.set w x, c := v.c.set w x }

/-- The KEYSLOT word of a carrier (R452): bit 2g the transmit slot of group g, bit 2g + 1 its receive slot. -/
def keySlotWord (v : Vector Crypt 16) : Nat :=
  ((List.finRange 16).map fun g => 2 ^ (2 * g.val) * v[g].txSlot + 2 ^ (2 * g.val + 1) * v[g].rxSlot).sum

/-- Update a group's keys; the key logic writes the carrier's KEYSLOT word when a slot changes (R452). -/
def onCry (c : Fin 2) (g : Fin 16) (f : Crypt → Crypt) (s : State) : State :=
  let v := upd s.crypt[c] g f
  let w := keySlotWord v
  { s with crypt := s.crypt.set c v, vault := if w = keySlotWord s.crypt[c] then s.vault else s.vault.put (2 + c.val) w }

/-- Update addressed parts of the state; nothing else changes. -/
def onCar (c : Fin 2) (f : Carrier → Carrier) (s : State) : State := { s with cars := upd s.cars c f }
def onConv (c : Fin 2) (k : Fin 8) (f : Conv → Conv) (s : State) : State :=
  onCar c (fun x => { x with convs := upd x.convs k f }) s
def onRx (c : Fin 2) (f : RxCarrier → RxCarrier) (s : State) : State := { s with rx := upd s.rx c f }
def onRxg (c : Fin 2) (g : Fin 16) (f : RxGroup → RxGroup) (s : State) : State :=
  onRx c (fun r => { r with groups := upd r.groups g f }) s
def onSub (c : Fin 2) (k : Fin 16) (f : RxSub → RxSub) (s : State) : State :=
  onRx c (fun r => { r with subs := upd r.subs k f }) s
def onTx (c : Fin 2) (f : TxCarrier → TxCarrier) (s : State) : State := { s with tx := upd s.tx c f }
def onTxg (c : Fin 2) (g : Fin 16) (f : TxGroup → TxGroup) (s : State) : State :=
  onTx c (fun t => { t with groups := upd t.groups g f }) s
def onIl (c : Fin 2) (f : Interloan → Interloan) (s : State) : State := { s with il := upd s.il c f }
def onFol (c : Fin 2) (g : Fin 16) (f : FolioGroup → FolioGroup) (s : State) : State :=
  { s with folio := upd s.folio c fun v => upd v g f }
def onLink (c : Fin 2) (g : Fin 16) (f : Link → Link) (s : State) : State :=
  { s with time := { s.time with links := upd s.time.links c fun v => upd v g f } }
def onTime (f : TimeState → TimeState) (s : State) : State := { s with time := f s.time }
def onBond (b : Fin 48) (f : Framer → Framer) (s : State) : State := { s with bonds := upd s.bonds b f }
def onOdum (c : Fin 2) (g : Fin 16) (f : Framer → Framer) (s : State) : State :=
  { s with odum := upd s.odum c fun v => upd v g f }
def onLane (l : Fin 48) (f : Lane → Lane) (s : State) : State := { s with lanes := upd s.lanes l f }
def onProt (g : Fin 16) (f : Prot → Prot) (s : State) : State := { s with prot := upd s.prot g f }
def onDec (f : Decode → Decode) (s : State) : State := { s with dec := f s.dec }
def onStk (f : Stacks → Stacks) (s : State) : State := { s with stk := f s.stk }
def onMap (f : Mapping → Mapping) (s : State) : State := { s with map := f s.map }
def onCen (f : Census → Census) (s : State) : State := { s with cen := f s.cen }
def onPwr (f : Power → Power) (s : State) : State := { s with pwr := f s.pwr }
def onHouse (f : House → House) (s : State) : State := { s with house := f s.house }
def onBoot (f : Boot → Boot) (s : State) : State := { s with boot := f s.boot }
def onCat (f : Catalogue → Catalogue) (s : State) : State := { s with cat := f s.cat }
def onSafe (c : Fin 2) (f : SafeCarrier → SafeCarrier) (s : State) : State :=
  { s with safe := { s.safe with cars := upd s.safe.cars c f } }
def onMate (f : Mate → Mate) (s : State) : State := { s with mate := f s.mate }

/-- Set the role of a slice; put a slice at a position. -/
def Conv.setRole (x : Conv) (sl : Nat) (r : Role) : Conv := { x with roles := x.roles.set sl r }
def Conv.place (x : Conv) (pos sl : Nat) : Conv := { x.setRole sl .active with map := x.map.set pos sl }

/-- End of a visit. -/
def Conv.clearVisit (x : Conv) : Conv := { x with visitPos := none, standIn := none, measured := none, runs := [] }

/-- The converters rest: a measurement, a visit, a substitution and a foreground calibration under way are abandoned (R44, row
"Any"). A measurement discarded so is not counted as abandoned by the rotation, and an abandoned calibration leaves the roles and
selections of the groups that it has judged (log 62). -/
def Conv.rest (x : Conv) : Conv :=
  let y := match x.visitPos, x.standIn, x.measured with
    | some p, some si, some m => (x.place p m).setRole si .spare
    | none, _, some m => x.setRole m .spare
    | _, _, _ => x
  { y.clearVisit with rot := .off, subst := [], waitSpare := [], faultRun := [], faulted := [] }

def convDisable (c : Fin 2) (s : State) : State :=
  onCar c (fun x => { x with fg := none, convs := x.convs.map Conv.rest }) s

/-- The carrier's domain leaves RUN (R44, row "Any"): the converters rest, and commands that wait on them return ST_ABORTED. -/
def convLeave (c : Fin 2) (s : State) : State :=
  (0xFF :: List.range 8).foldl (fun s k => endTransition (.conv c k) { status := stAborted } s) (convDisable c s)

/-- Is any carrier enabled; is any lane provisioned; any bond provisioned? -/
def anyCarrier (s : State) : Bool := s.cars.toList.any fun c => c.enabled || c.enabling
def anyLane (s : State) : Bool := s.lanes.toList.any (·.provisioned)
def anyBond (s : State) : Bool := s.bonds.toList.any (·.provisioned)

/-- An Ethernet bond in TERMINATE (R188, R350): IFACE rows 0 to 3 of R186 are Ethernet. -/
def ethTerminate (f : Framer) : Bool := f.provisioned && f.iface < 4 && f.fec == 0

/-- This end's SRC code (R140). -/
def ilSrc (s : State) (c : Fin 2) : Nat :=
  match s.dev.mode with
  | some .hub => 0x80
  | some .leaf => if s.il[c].ranged then getParN s .r158 (objCarrier c) 0x80 else 0xFF
  | _ => 0x81

/-- The far end of a group as a DST code (R140): a hub's group g is leaf g (DEDUCED, log 16). -/
def ilPeer (s : State) (g : Nat) : Nat :=
  match s.dev.mode with
  | some .hub => g
  | some .leaf => 0x80
  | _ => 0x81

/-- Bursts of a type in a carrier's send queue (R143: at most 32 per type). -/
def ilQueued (i : Interloan) (typ : Nat) : Nat := (i.queue.filter fun b => b.typ == typ).length

/-- Queue a burst of a type when there is room, with the next SEQ of its type (R140, R143). -/
def ilEnqueue (c : Fin 2) (typ dst : Nat) (payload : List Byte) (s : State) : State :=
  onIl c (fun i =>
    if ilQueued i typ < 32 then
      { i with queue := i.queue ++ [{ typ := typ, dst := dst, seq := i.nextSeq.getD typ 0, payload := payload }],
               nextSeq := i.nextSeq.modify typ fun n => (n + 1) % 65536 }
    else i) s

/-- The core domain is powered and out of reset (R386, R402, R510). -/
def coreUp (s : State) : Bool := !s.boot.resetLow && s.pwr.st != .deepSleep && s.pwr.st != .off

/-- Raise an event from the always-on domain: the event tree stops with the core (R386, R404, R510). -/
def raiseAon (n ob : Nat) (a : EvtArg) (s : State) : State := raiseIf (coreUp s) n ob a s

/-- Is a path to the registers served: each with the core, BAR0 while PERST_N is high as well (R402, R510)? -/
def pathServed (s : State) (p : Path) : Bool :=
  match p with
  | .bar0 => coreUp s && !s.pins.perstLow
  | .spi => coreUp s
  | .mate => coreUp s

/-- MODE as `DEVICE.PROVISION` codes it (R338). -/
def Mode.code : Mode → Nat
  | .transponder => 0 | .muxponder => 1 | .regenerator => 2 | .hub => 3 | .leaf => 4 | .framer => 5
def modeOf (n : Nat) : Option Mode := [Mode.transponder, .muxponder, .regenerator, .hub, .leaf, .framer][n]?

/-- Key of a Catalogue record: type and instance (R448). -/
def catKey (typ idx : Nat) : Nat := typ * 65536 + idx

/-- A Catalogue record's bytes (R448): head, payload, CRC-32C, zero padding to a multiple of 8. -/
def catRecord (typ idx sec : Nat) (temp : Int) (payload : List Byte) : List Byte :=
  let b := leBytes 2 typ ++ leBytes 2 payload.length ++ leBytes 2 idx ++ leBytes 2 0 ++ leBytes 6 sec
    ++ leBytes 2 (codeOf 16 temp) ++ payload
  let r := b ++ leBytes 4 (crc32c b)
  padTo (8 * ceilDiv r.length 8) r

/-- A change of one Catalogue record becomes pending (R37, R449). An empty record stands for a removal. -/
def catChange (typ idx : Nat) (rec : List Byte) (s : State) : State :=
  onCat (fun k => { k with pending := putKey (catKey typ idx) rec k.pending }) s

/-- Time of day for records: the seconds, 0 without TOD_VALID (R447). -/
def recordSec (s : State) : Nat := if s.time.todValid then s.stamp.sec else 0

end Sys2Proof.Machine
end

