-- ==== Sys2Proof/Machine/PmOps.lean ====
section
/-! DEFINITION. Performance monitoring: the entities, their bins and how a second is decided (15_events_census.md R381 to
R383). -/

namespace Sys2Proof.Machine

/-- Flags of a bin cell (R383). -/
def binSuspect : Nat := 2 ^ 63
def binInvalid : Nat := 2 ^ 62

/-- A bin with one more flag, without INVALID, with `n` more counted. -/
def binFlag (fl v : Nat) : Nat := Nat.lor v fl
def binValid (v : Nat) : Nat := if bit v 62 then v - binInvalid else v
def binAdd (n v : Nat) : Nat := v - v % binInvalid + min (v % binInvalid + n) (binInvalid - 1)

/-- The cells of a new block: every bin INVALID (R383). -/
def freshCells : List Nat := List.replicate 824 binInvalid

/-- The cells of the bins that run now: the 15-minute and the 24-hour bin of each parameter. -/
def currentBins : List Nat := (List.range 8).flatMap fun p => [103 * p, 103 * p + 97]

/-- Change the running bins of every parameter, or of one. -/
def PmEntity.onCurrent (f : Nat → Nat) (x : PmEntity) : PmEntity :=
  { x with cells := currentBins.foldl (fun l i => l.modify i f) x.cells }
def PmEntity.add (p n : Nat) (x : PmEntity) : PmEntity :=
  { x with cells := (x.cells.modify (103 * p) (binAdd n)).modify (103 * p + 97) (binAdd n) }

/-- A bin ends (R383): the bins of one length shift, and the new bin has no second yet. -/
def PmEntity.shift (day : Bool) (x : PmEntity) : PmEntity :=
  { x with cells := (List.range 8).flatMap fun p =>
      let b := (x.cells.drop (103 * p)).take 103
      if day then b.take 97 ++ [binInvalid] ++ (b.drop 97).take 5 else [binInvalid] ++ b.take 96 ++ b.drop 97 }

/-- Severely errored seconds of a step, near and far end (R381), one for each second it stands for. -/
def PmStep.ses : PmStep → List (Bool × Bool)
  | .second ne fe b ned fed =>
    [(ned || (0 < b && 15 * b ≤ 100 * ne), !ned && (fed || (0 < b && 15 * b ≤ 100 * fe)))]
  | .clean n => List.replicate (min n 10) (false, false)
  | _ => []

/-- Unavailable time after the second that a list of ten begins with (R382). -/
def unavailNext (now : Bool) (ten : List Bool) : Bool :=
  if ten.length = 10 then if now then ten.any id else ten.all id else now

/-- Count a decided second (R381, R382): UAS alone in unavailable time; else ES, SES, and BBE of a second that is no SES. -/
def PmEntity.count (off : Nat) (un es ses : Bool) (errs : Nat) (x : PmEntity) : PmEntity :=
  if un then x.add (off + 3) 1
  else
    let x1 := if es then x.add off 1 else x
    if ses then x1.add (off + 1) 1 else x1.add (off + 2) errs

/-- The oldest second of the pipe, `e` ahead of `rest`, is decided (R381, R382). -/
def PmEntity.decideSecond (ne fe b : Nat) (ned fed : Bool) (rest : List PmStep) (x : PmEntity) : PmEntity :=
  let s := PmStep.second ne fe b ned fed
  let ten := ((s :: rest).flatMap PmStep.ses).take 10
  let nu := unavailNext x.neUnavail (ten.map (·.1))
  let fu := unavailNext x.feUnavail (ten.map (·.2))
  let me := (s.ses.headD (false, false))
  let x1 := { x with pipe := rest, neUnavail := nu, feUnavail := fu }.onCurrent binValid
  (x1.count 0 nu (ned || 0 < ne) me.1 ne).count 4 fu (!ned && (fed || 0 < fe)) me.2 (if ned then 0 else fe)

/-- Decide the oldest second, with what stands before it in the pipe. -/
def PmEntity.decideWith : List PmStep → PmEntity → PmEntity
  | [], x => { x with pipe := [] }
  | .shift d :: r, x => PmEntity.decideWith r (x.shift d)
  | .suspect :: r, x => PmEntity.decideWith r (x.onCurrent (binFlag binSuspect))
  | .clean _ :: r, x => PmEntity.decideWith r { x with neUnavail := false, feUnavail := false }
  | .second ne fe b ned fed :: r, x => x.decideSecond ne fe b ned fed r

/-- PM_SECOND_DECIDE for an entity (R382): a second is decided once the ten seconds it needs are there. -/
def PmEntity.decide (x : PmEntity) : PmEntity :=
  if 10 ≤ (x.pipe.flatMap PmStep.ses).length then PmEntity.decideWith x.pipe x else x

/-- Put a step in an entity's pipe. -/
def PmEntity.put (e : PmStep) (x : PmEntity) : PmEntity := { x with pipe := x.pipe ++ [e] }

/-- Layers that a framer monitors (R381): its PM layer, with the SM layer of a bond, and the TCMs in MONITOR or OPERATIONAL. -/
def monitoredLayers (sm : Bool) (f : Framer) : List Nat :=
  (if sm then [0] else []) ++ [1] ++ (List.range 6).filterMap fun i =>
    if (getNat {} f.cfg (2 + i)).tcmMode ≠ 0 then some (2 + i) else none

/-- OBJ of a tributary's container (R378). -/
def objContainer (t : Trib) : Nat := if t.ckind = 0 then objGroup t.cont t.group else objBond t.cont

/-- The entities that are provisioned (R381): OBJ, layer, TPN. -/
def pmEntities (s : State) : List (Nat × Nat × Nat) :=
  ((List.finRange 48).flatMap fun (b : Fin 48) =>
      let f := s.bonds[b]
      if !f.provisioned then [] else if f.iface < 4 then [(objBond b, 0xFF, 0)]
      else (monitoredLayers true f).map fun l => (objBond b, l, 0))
    ++ ((List.finRange 2).flatMap fun (c : Fin 2) => if !(s.car c).provisioned || !hasLine s then [] else
      (List.finRange 16).flatMap fun (g : Fin 16) => if !groupExists s g then [] else
        (List.range ((s.car c).slices.getD g 0)).flatMap fun m =>
          (monitoredLayers false s.odum[c][g]).map fun l => (objOdum c g (m + 1), l, 0))
    ++ s.map.tribs.map fun t => (objContainer t, 1, t.tpn)

/-- Blocks follow what is provisioned (R381, R383): a new entity has every bin INVALID and its running bins SUSPECT. -/
def pmSync (s : State) : State :=
  let known (e : Nat × Nat × Nat) : PmEntity :=
    match s.cen.pm.find? fun x => (x.ob, x.layer, x.tpn) == e with
    | some x => x
    | none => PmEntity.onCurrent (binFlag binSuspect) { ob := e.1, layer := e.2.1, tpn := e.2.2, cells := freshCells }
  onCen (fun c => { c with pm := (pmEntities s).map known }) s

/-- Put a step in the pipe of the entities that a test picks. -/
def pmPut (p : PmEntity → Bool) (e : PmStep) (s : State) : State :=
  onCen (fun c => { c with pm := c.pm.map fun x => if p x then x.put e else x }) s

/-- A time step changes the bins it falls in; the seconds that it passes over follow the second in progress (R257, R383). -/
def pmStep (old new : Nat) (s : State) : State :=
  let n := new / (fracPerSec * todUnit) - old / (fracPerSec * todUnit) - 1
  let s1 := pmPut (fun _ => true) .suspect s
  onCen (fun c => { c with pm := c.pm.map fun x => { x with owed := x.owed + n } }) s1

/-- The offset that the bins align to (R383). -/
def TimeState.binOffset (t : TimeState) : Int := if t.utcValid then t.utcOffset else 0

/-- Every bin of one length ends now (R383). -/
def pmShift (day : Bool) (s : State) : State :=
  onCen (fun c => { c with bounds := ((day, s.stamp.sec) :: c.bounds).take 8 }) (pmPut (fun _ => true) (.shift day) s)

/-- A change of the offset or of UTC_VALID ends the current bins at once; the bins on both sides are SUSPECT (R383). -/
def pmAlign (old : State) (s : State) : State :=
  if old.time.binOffset = s.time.binOffset ∧ old.time.utcValid = s.time.utcValid then s
  else pmPut (fun _ => true) .suspect (pmShift true (pmShift false (pmPut (fun _ => true) .suspect s)))

/-- An OBJ lies in a power domain: a client bond in its octet, a line group in its carrier. -/
def objInDomain (ob d : Nat) : Bool :=
  let k := ob % 256
  let i := ob / 256 % 256
  if k = 5 then d == 2 + i / 8 else (k == 1 || k == 6) && d == i

end Sys2Proof.Machine
end

