-- ==== Sys2Proof/Machine/SafetyFn.lean ====
section
/-! DEFINITION. The laser safety function: its configuration, the rule of light, checks, diagnostics, automatic laser shutdown
and its commands (19_laser_safety.md R457 to R473; 14_command_reference.md R362; 18_boot_security.md R452). -/

namespace Sys2Proof.Machine

/-- The 960 bytes of the safety configuration in the Vault; none when a word has no majority (R452, R460). -/
def Vault.safety (v : Vault) : Option (List Byte) :=
  let ws := (List.range 240).map fun i => v.word (16 + i)
  if ws.all (·.isSome) then some (ws.flatMap fun w => leBytes 4 (w.getD 0)) else none

/-- Conversion time of a gain and filter code, µs (R407). -/
def monTime (gain filter : Nat) : Nat :=
  (if gain ≤ 1 then 2 else if gain = 2 then 4 else 8) + 3 * [1, 8, 32, 128].getD filter 1

/-- A check entry (R462). -/
def checkAt (bs : List Byte) (k : Nat) : SafeCheck :=
  let e := bytesAt bs (40 + 24 * k) 24
  { chan := byteAt e 0, conv := byteAt e 1, gain := byteAt e 2, filter := byteAt e 3, intervalUs := natAt e 4 2
    carriers := byteAt e 6, persist := byteAt e 7, lo := signedOf 16 (natAt e 8 2), hi := signedOf 16 (natAt e 10 2) }

/-- Are bytes all 0? -/
def zeroBytes (bs : List Byte) (off n : Nat) : Bool := (bytesAt bs off n).all (· == 0)

/-- A carrier entry keeps its rules (R461). -/
def carrierEntryOk (bs : List Byte) (off : Nat) : Bool :=
  byteAt bs off < 8 && zeroBytes bs (off + 1) 1 && 60 ≤ natAt bs (off + 2) 2 && natAt bs (off + 2) 2 ≤ 300
    && 1750 ≤ natAt bs (off + 4) 2 && natAt bs (off + 4) 2 ≤ 2250 && zeroBytes bs (off + 6) 10

/-- A check entry keeps its rules (R462, R463). -/
def checkOk (bs : List Byte) (k : Nat) : Bool :=
  let x := checkAt bs k
  x.chan < 64 && x.conv < 3 && x.gain < 4 && x.filter < 4 && 100 ≤ x.intervalUs && x.intervalUs ≤ 2000
    && monTime x.gain x.filter ≤ x.intervalUs && x.carriers < 4 && 1 ≤ x.persist && x.persist ≤ 8 && x.lo ≤ x.hi
    && x.intervalUs * (x.persist + 1) ≤ 5000 && zeroBytes bs (52 + 24 * k) 12

/-- The sum of T_c / INTERVAL_US over the owned channels of a converter is at most 0.5 (R463), over the product of the intervals. -/
def ownedOk (l : List SafeCheck) (conv : Nat) : Bool :=
  let own := l.filter fun x => x.conv == conv || x.conv == 2
  let p := (own.map fun x => x.intervalUs).foldl (· * ·) 1
  2 * (own.map fun x => monTime x.gain x.filter * (p / x.intervalUs)).sum ≤ p

/-- The checks in use. -/
def checksOf (bs : List Byte) : List SafeCheck := (List.range (byteAt bs 6)).map (checkAt bs)

/-- Does a safety configuration keep every rule (R460 to R463)? -/
def safetyOk (bs : List Byte) : Bool :=
  bs.length == 960 && bytesAt bs 0 4 == [0x53, 0x41, 0x46, 0x45] && natAt bs 4 2 == 1 && byteAt bs 6 ≤ 16 && zeroBytes bs 7 1
    && carrierEntryOk bs 8 && carrierEntryOk bs 24 && (List.range (byteAt bs 6)).all (checkOk bs)
    && zeroBytes bs (40 + 24 * byteAt bs 6) (384 - 24 * byteAt bs 6) && zeroBytes bs 424 532
    && natAt bs 956 4 == crc32c (bs.take 956)
    && ownedOk (checksOf bs) 0 && ownedOk (checksOf bs) 1

/-- A carrier entry in force (R461). -/
def SafeCarrier.entry (x : SafeCarrier) (bs : List Byte) (off : Nat) : SafeCarrier :=
  { x with used := bit (byteAt bs off) 0, alsLos := bit (byteAt bs off) 1, alsPin := bit (byteAt bs off) 2
           restartS := natAt bs (off + 2) 2, pulseMs := natAt bs (off + 4) 2 }

/-- The configuration that the boot ROM copied to the Vault comes into force (R432 step 5, R460). -/
def Safety.configure (f : Safety) (tick : Nat) (bs : List Byte) : Safety :=
  { f with
    valid := true, checks := (checksOf bs).map fun k => { k with lastAt := tick }
    cars := upd (upd f.cars 0 fun x => x.entry bs 8) 1 fun x => x.entry bs 24 }

/-- Results of the owned channels are expected from a tick: the monitor converters run again after SLEEP (R466). -/
def Safety.expect (f : Safety) (tick : Nat) : Safety := { f with checks := f.checks.map fun k => { k with lastAt := tick } }

/-- The state for one carrier. -/
def State.sf (s : State) (c : Fin 2) : SafeCarrier := s.safe.cars[c]

/-- The pair shows light (R457): TXEN high and TXDIS low. -/
def SafeCarrier.light (x : SafeCarrier) : Bool := x.txen == some true && x.txdis == some false

/-- A check that names the carrier is tripped (R462). -/
def checkTripped (s : State) (c : Fin 2) : Bool := s.safe.checks.any fun k => bit k.tripped c.val

/-- Condition n + 1 of R458 fails. -/
def lightFails (s : State) (c : Fin 2) : List Bool :=
  let x := s.sf c
  let k := s.cars[c]
  [ !(s.safe.valid && x.used), !x.req, !(s.dom c == .run && (k.enabled || k.enabling)), x.alsPin && x.pinLow, x.als == .shutdown,
    checkTripped s c, x.diag != 0, s.house.therm == .shutdown || s.boot.stage == 0xF ]

/-- The rule of light (R458). -/
def lightAllowed (s : State) (c : Fin 2) : Bool := (lightFails s c).all (!·)

/-- The first condition that fails and that ends light as a trip (R473; REQ, the carrier's own stop and a check's trip have
their own reports: DEDUCED, log 41). -/
def tripCause (s : State) (c : Fin 2) : Option Nat :=
  [1, 4, 5, 7, 8].find? fun n => (lightFails s c).getD (n - 1) false

/-- Count a trip: SAFETY_TRIP (384) with its cause and check (R473). -/
def raiseTrip (c : Fin 2) (cause check : Nat) (s : State) : State :=
  raiseAon 384 (objCarrier c) (evtArg 0 cause check 0) (onSafe c (fun x => { x with trips := bump x.trips }) s)

/-- Drive a pair by the rule of light (R457, R458, R468), or let it float in OFF (R469): SAFETY_TXEN_CHANGE (387) with each
change. -/
def driveLight (quiet : Bool) (c : Fin 2) (s : State) : State :=
  let on := lightAllowed s c && s.pwr.st != .off
  let was := (s.sf c).light
  let s1 := onSafe c (fun x => { x with
    txen := if s.pwr.st = .off then none else some on, txdis := if s.pwr.st = .off then none else some !on
    mark := s.dev.ticks, litTicks := if was then x.litTicks + (s.dev.ticks - x.mark) else x.litTicks }) s
  if on = was then s1
  else
    let s2 := raiseAon 387 (objCarrier c) (evtArg 0 (b2n on) 0 0) s1
    match tripCause s c with
    | some n => if on || quiet then s2 else raiseTrip c n 0xFFFF s2
    | none => s2

/-- Both pairs by the rule of light. -/
def driveAll (s : State) : State := driveLight false 1 (driveLight false 0 s)

/-- SAFETY_CONDITION_CHANGE (R458). -/
def execSafetyConditionChange (c : Fin 2) (s : State) : Out := .next (driveLight false c s)

/-- REQ is cleared and the shutdown ends with the carrier (R459, R465): it is disabled, or its domain leaves RUN. -/
def safetyLeave (c : Fin 2) (s : State) : State :=
  driveLight false c (onSafe c (fun x => { x with req := false, als := .clear }) s)

/-- LOS is declared, or is in force when the carrier is enabled (R465, R515). -/
def safetyLos (c : Fin 2) (s : State) : State :=
  let x := s.sf c
  if x.alsLos ∧ x.als = .clear then
    driveLight false c (onSafe c (fun x => { x with als := .shutdown, shutdowns := bump x.shutdowns }) s)
  else s

/-- LOS clears (R465): the shutdown ends; during a pulse light continues. -/
def safetyLosClear (c : Fin 2) (s : State) : State := driveLight false c (onSafe c (fun x => { x with als := .clear }) s)

/-- ALS_PIN_CHANGE (R464, R471): the pin has held a new level for 1 µs; ignored when ALS_PIN is clear. -/
def alsPin (c : Fin 2) (low : Bool) (s : State) : State :=
  let x := s.sf c
  let s1 := onSafe c (fun x => { x with
    pinLow := low, als := if x.alsPin && low && x.als == .pulse then .shutdown else x.als }) s
  if x.alsPin ∧ x.pinLow ≠ low then driveLight false c (raiseAon 386 (objCarrier c) (evtArg (b2n low) 0 0 0) s1) else s1

def execAlsPinChange (c : Fin 2) (low : Bool) (s : State) : Out := .next (alsPin c low s)

/-- ALS_PULSE_START (R465): at a multiple of RESTART_S after the shutdown, while LOS persists. -/
def alsPulseStart (c : Fin 2) (s : State) : State :=
  if (s.sf c).als = .shutdown then
    driveLight false c (onSafe c (fun x => { x with als := .pulse, pulses := bump x.pulses }) s)
  else s

def execAlsPulseStart (c : Fin 2) (s : State) : Out := .next (alsPulseStart c s)

/-- ALS_PULSE_END (R465): PULSE_MS have passed; the end of a pulse belongs to the shutdown already reported (log 41). -/
def alsPulseEnd (c : Fin 2) (s : State) : State :=
  if (s.sf c).als = .pulse then driveLight true c (onSafe c (fun x => { x with als := .shutdown }) s) else s

def execAlsPulseEnd (c : Fin 2) (s : State) : Out := .next (alsPulseEnd c s)

/-- The Vault copy of the configuration fails (R466, diagnostic 3). -/
def vaultBad (s : State) : Bool :=
  match s.vault.safety with
  | none => true
  | some bs => s.safe.valid && natAt bs 956 4 != crc32c (bs.take 956)

/-- Latch a diagnostic for carriers given by a mask (R467): SAFETY_DIAG_FAIL (385) for a carrier or for the device. -/
def latchDiag (d mask : Nat) (s : State) : State :=
  let s1 := (List.finRange 2).foldl (fun s c =>
    if bit mask c.val then onSafe c (fun x => { x with diag := Nat.lor x.diag (2 ^ d) }) s else s) s
  driveAll (raiseAon 385 (if mask = 3 then objDevice else objCarrier (mask / 2)) (evtArg 0 d 0 0) s1)

/-- Number of a diagnostic: its bit of RESULT (R466). -/
def diagBit : DiagSample → Nat
  | .readback _ _ => 0 | .channels _ _ => 1 | .clocks _ _ => 2 | .config => 3 | .freshness => 4 | .heartbeat _ _ => 5
  | .alsInput _ _ => 6

/-- A count differs by more than 25 % from nominal (R466). -/
def offRatio (n nominal : Nat) : Bool := 4 * n < 3 * nominal || 5 * nominal < 4 * n

/-- One comparison of a carrier's outputs with their driven levels, and of the two channels' decisions for it (R466). -/
def SafeCarrier.compare (x : SafeCarrier) (v : Bool × Bool) : SafeCarrier :=
  { x with backRun := if x.txen = some v.1 ∧ x.txdis = some v.2 then 0 else x.backRun + 1 }
def SafeCarrier.agree (x : SafeCarrier) (v : Bool × Bool) : SafeCarrier :=
  { x with chanRun := if v.1 = v.2 then 0 else x.chanRun + 1 }

/-- The counts of consecutive mismatches after a comparison (R466). -/
def noteDiag (d : DiagSample) (s : State) : State :=
  match d with
  | .readback a b => onSafe 1 (fun x => x.compare b) (onSafe 0 (fun x => x.compare a) s)
  | .channels a b => onSafe 1 (fun x => x.agree b) (onSafe 0 (fun x => x.agree a) s)
  | _ => s

/-- An owned channel has had no result for 2 intervals (R466); the monitor converters stop in SLEEP and below. -/
def SafeCheck.stale (k : SafeCheck) (tick : Nat) : Bool := k.lastAt + 2 * k.intervalUs * 625 < tick

/-- The carriers whose owned channels give no results (R466). -/
def staleMask (s : State) : Nat :=
  if s.pwr.st = .run ∨ s.pwr.st = .idle then
    (s.safe.checks.filter fun k => k.stale s.dev.ticks).foldl (fun m k => Nat.lor m k.carriers) 0
  else 0

/-- The carriers on which a diagnostic finds a fault that acts on them (R466, R467, R471): 0, 4 and 5 on the carrier concerned,
the LOS path only while the carrier's domain is in RUN; the others on both. -/
def diagMask (s : State) (d : DiagSample) : Nat :=
  match d with
  | .readback _ _ => b2n (decide (4 ≤ (s.sf 0).backRun)) + 2 * b2n (decide (4 ≤ (s.sf 1).backRun))
  | .channels _ _ => 3 * b2n (decide (4 ≤ (s.sf 0).chanRun) || decide (4 ≤ (s.sf 1).chanRun))
  | .clocks ring aon => 3 * b2n (offRatio ring 1600 || offRatio aon 2000)
  | .config => 3 * b2n (vaultBad s)
  | .freshness => staleMask s
  | .heartbeat a b => b2n (decide (10 ≤ a) && s.dom 0 == .run) + 2 * b2n (decide (10 ≤ b) && s.dom 1 == .run)
  | .alsInput a b => 3 * b2n (decide (100 ≤ a) || decide (100 ≤ b))

/-- SAFETY_DIAG_TICK (R466, R467): one comparison of a diagnostic. A fault latched before is not raised again. In DEEP_SLEEP only
diagnostic 0 runs (R469). -/
def diagTick (d : DiagSample) (s : State) : State :=
  if s.pwr.st = .off ∨ (s.pwr.st = .deepSleep ∧ diagBit d ≠ 0) then s
  else
    let s1 := noteDiag d s
    let m := diagMask s1 d
    let fresh := b2n (bit m 0 && !bit (s.sf 0).diag (diagBit d)) + 2 * b2n (bit m 1 && !bit (s.sf 1).diag (diagBit d))
    if fresh = 0 then s1 else latchDiag (diagBit d) fresh s1

def execSafetyDiagTick (d : DiagSample) (s : State) : Out := .next (diagTick d s)

/-- The carriers for which a check trips now (R462). -/
def SafeCheck.newly (x : SafeCheck) (bad : Bool) : Nat :=
  if bad && x.persist ≤ x.run + 1 then Nat.land x.carriers (Nat.xor (Nat.lor x.carriers x.tripped) x.tripped) else 0

/-- One interval of a check (R462): the results of its converters, and MISMATCH of a pair. -/
def SafeCheck.interval (x : SafeCheck) (tick : Nat) (codes : List Int) (bad : Bool) : SafeCheck :=
  let left := Nat.land x.tripped x.again
  { x with
    run := if bad then x.run + 1 else 0
    tripped := if bad then Nat.lor x.tripped (x.newly bad) else x.tripped - left
    again := if bad then x.again - Nat.land x.again (x.newly bad) else x.again - left
    last := codes.getLast?.getD x.last, lastAt := tick }

/-- The deciding results of check k (R462, R471): a trip clears REQ of its carriers. -/
def safetyResult (k : Nat) (codes : List Int) (mism : Bool) (s : State) : State :=
  match s.safe.checks[k]? with
  | none => s
  | some x =>
    let bad := mism || codes.any fun v => v < x.lo || x.hi < v
    let new := x.newly bad
    let s1 := { s with safe := { s.safe with checks := s.safe.checks.modify k fun x => x.interval s.dev.ticks codes bad } }
    driveAll ((List.finRange 2).foldl (fun s c =>
      if bit new c.val then raiseTrip c 6 k (onSafe c (fun x => { x with req := false, tripTick := some s.dev.ticks }) s) else s) s1)

/-- SAFETY.TXEN.SET (R459, R462, R471: a check that trips in the same tick governs). -/
def txenSet (q : Request) (s : State) : State × Reply :=
  let c := reqCarrier q
  if 1 < u8 q 4 then (s, badParam 4)
  else
    let on := u8 q 4 = 1 ∧ (s.sf c).tripTick ≠ some s.dev.ticks
    let s1 := onSafe c (fun x => { x with req := on }) s
    let s2 := if on then { s1 with safe := { s1.safe with
        checks := s1.safe.checks.map fun k => if bit k.tripped c.val then { k with again := Nat.lor k.again (2 ^ c.val) } else k } }
      else s1
    let s3 := driveLight false c s2
    (s3, ok (leBytes 1 (b2n (s3.sf c).light)))

def execSafetyTxenSet (q : Request) (s : State) : Out := .next (deskRun 0x1101 txenSet q s)

/-- SAFETY.PROOF.TEST (R468, R362): `failed` are the diagnostics that do not find the fault injected in their shadow path. -/
def proofTest (failed : Word32) (q : Request) (s : State) : State × Reply :=
  if (s.sf (reqCarrier q)).req then (s, refuse stBadState) else (s, ok (leBytes 4 (failed.toNat % 128)))

def execSafetyProofTest (q : Request) (failed : Word32) (s : State) : Out := .next (deskRun 0x1103 (proofTest failed) q s)

/-- Milliseconds lit (R472). -/
def SafeCarrier.litMs (x : SafeCarrier) (tick : Nat) : Nat :=
  (x.litTicks + if x.light then tick - x.mark else 0) / 625000

def Als.code : Als → Nat | .clear => 0 | .shutdown => 1 | .pulse => 2

/-- SAFETY.STATUS (R472). -/
def safetyItems (s : State) : List StatItem :=
  let cs : List (Fin 2) := [0, 1]
  let mask (c : Fin 2) : Nat := ((lightFails s c).zipIdx.map fun x => b2n x.1 * 2 ^ x.2).sum
  (cs.flatMap fun c => [gau 1 0 (b2n !(s.sf c).light) c.val, gau 1 1 (b2n (s.sf c).req) c.val])
    ++ (cs.map fun c => gau 2 0 (mask c) c.val) ++ (cs.map fun c => gau 3 0 (s.sf c).als.code c.val)
    ++ (cs.map fun c => gau 4 0 (s.sf c).diag c.val)
    ++ (s.safe.checks.zipIdx.flatMap fun k => [gau 5 0 (b2n (k.1.tripped != 0)) k.2, sgau 5 1 k.1.last k.2])
    ++ (cs.flatMap fun c => [ctr 6 0 (s.sf c).trips c.val, ctr 6 1 (s.sf c).shutdowns c.val, ctr 6 2 (s.sf c).pulses c.val])
    ++ (cs.map fun c => ctr 7 0 ((s.sf c).litMs s.dev.ticks) c.val)

def execSafetyStatus (q : Request) (s : State) : Out := .next (deskRun 0x1102 (sCommand fun _ s => safetyItems s) q s)

end Sys2Proof.Machine
end

