-- ==== Sys2Proof/Machine/Stacks.lean ====
section
/-! DEFINITION. The Stacks' words and controllers: the RS(72,66) code, stored words, reads and writes with their outcomes,
poison, the repeat-correction tracker and the scrubber (10_stacks.md R229 to R246). -/

namespace Sys2Proof.Machine

/-- Product in GF(2^8) with field polynomial x^8 + x^4 + x^3 + x^2 + 1 (R233). -/
def gfMul (a b : Nat) : Nat :=
  (List.range 8).foldl (fun r k =>
    let r2 := if r ≥ 128 then Nat.xor ((r * 2) % 256) 0x1D else r * 2
    if b.testBit (7 - k) then Nat.xor r2 a else r2) 0

/-- Power and inverse in the field. -/
def gfPow (a : Nat) : Nat → Nat
  | 0 => 1
  | n + 1 => gfMul a (gfPow a n)
def gfInv (a : Nat) : Nat :=
  let a2 := gfMul a a
  let a4 := gfMul a2 a2
  let a8 := gfMul a4 a4
  let a16 := gfMul a8 a8
  let a32 := gfMul a16 a16
  let a64 := gfMul a32 a32
  let a128 := gfMul a64 a64
  gfMul a2 (gfMul a4 (gfMul a8 (gfMul a16 (gfMul a32 (gfMul a64 a128)))))

/-- g(x) = (x − α^0) … (x − α^5), coefficients of x^5 down to x^0 (R233); α is 2. -/
def rsGen : List Nat :=
  let mulRoot (p : List Nat) (r : Nat) : List Nat :=
    (List.range (p.length + 1)).map fun i => Nat.xor (p.getD i 0) (if i = 0 then 0 else gfMul (p.getD (i - 1) 0) r)
  ((List.range 6).foldl (fun p j => mulRoot p (gfPow 2 j)) [1]).drop 1

/-- The six check symbols of 66 message symbols (R233): r(x) = m(x) x^6 mod g(x), coefficient of x^5 first. -/
def rsCheck (m : List Byte) : List Byte :=
  let gen := rsGen
  (m.foldl (fun r s =>
    let f := Nat.xor (r.getD 0 0) s.toNat
    (List.range 6).map fun i => Nat.xor (r.getD (i + 1) 0) (gfMul f (gen.getD i 0))) (List.replicate 6 0)).map
    (BitVec.ofNat 8)

/-- The syndromes c(α^j), j = 0 to 5. -/
def syndromes (w : List Byte) : List Nat :=
  (List.range 6).map fun j => let a := gfPow 2 j; w.foldl (fun r s => Nat.xor (gfMul r a) s.toNat) 0

/-- What decoding a word finds (R233): the corrected symbols with their positions, or that they can't be corrected. -/
inductive Decoded where
  | clean
  | corrected (w : List Byte) (at_ : List Nat)
  | uncorrectable
deriving DecidableEq, Repr

/-- Flip symbol `i` by `v`. -/
def flipSym (w : List Byte) (i v : Nat) : List Byte := w.modify i fun b => b ^^^ BitVec.ofNat 8 v

/-- The exponents 0 to 71 whose power of α satisfies a test. -/
def locators (p : Nat → Bool) : List Nat :=
  ((List.range 72).foldl (fun (acc : List Nat × Nat) e =>
    (if p acc.2 then e :: acc.1 else acc.1, gfMul acc.2 2)) ([], 1)).1

/-- Bounded-distance decoding of one or two symbols (R233); five or more may be miscorrected, as any such decoder does
(log 22). -/
def rsDecode (w : List Byte) : Decoded :=
  let sy := syndromes w
  let q (j : Nat) : Nat := sy.getD j 0
  if sy.all (· == 0) then .clean
  else
    let x1 := gfMul (q 1) (gfInv (q 0))
    let ok1 := q 0 != 0 && (List.range 5).all fun j => q (j + 1) == gfMul (q j) x1
    match ok1, locators (· == x1) with
    | true, e :: _ => .corrected (flipSym w (71 - e) (q 0)) [71 - e]
    | _, _ =>
      let det := Nat.xor (gfMul (q 1) (q 1)) (gfMul (q 0) (q 2))
      if det = 0 then .uncorrectable
      else
        let di := gfInv det
        let s1 := gfMul (Nat.xor (gfMul (q 1) (q 2)) (gfMul (q 0) (q 3))) di
        let s2 := gfMul (Nat.xor (gfMul (q 1) (q 3)) (gfMul (q 2) (q 2))) di
        match locators fun x => Nat.xor (Nat.xor (gfMul x x) (gfMul s1 x)) s2 == 0 with
        | [e2, e1] =>
          let a1 := gfPow 2 e1
          let a2 := gfPow 2 e2
          let v1 := gfMul (Nat.xor (q 1) (gfMul (q 0) a2)) (gfInv (Nat.xor a1 a2))
          let v2 := Nat.xor (q 0) v1
          let fixed := flipSym (flipSym w (71 - e1) v1) (71 - e2) v2
          if v1 ≠ 0 ∧ v2 ≠ 0 ∧ (syndromes fixed).all (· == 0) then .corrected fixed [71 - e2, 71 - e1]
          else .uncorrectable
        | _ => .uncorrectable

/-- A stored word from its fields (R232). -/
def mkWord (data : List Byte) (seq region : Nat) (unres endMark poison : Bool) : List Byte :=
  let m := padTo 64 data ++ [BitVec.ofNat 8 seq,
    BitVec.ofNat 8 (region % 8 + 8 * b2n unres + 16 * b2n endMark + (if poison then 0xE0 else 0))]
  m ++ rsCheck m

/-- Fields of a stored word (R232): data, SEQ, REGION, UNRES, END, and POISON by majority of three. -/
def wData (w : List Byte) : List Byte := w.take 64
def wSeq (w : List Byte) : Nat := byteAt w 64
def wRegion (w : List Byte) : Nat := byteAt w 65 % 8
def wUnres (w : List Byte) : Bool := bit (byteAt w 65) 3
def wEnd (w : List Byte) : Bool := bit (byteAt w 65) 4
def wPoison (w : List Byte) : Bool :=
  2 ≤ b2n (bit (byteAt w 65) 5) + b2n (bit (byteAt w 65) 6) + b2n (bit (byteAt w 65) 7)

/-- The word with POISON 0b111 and fresh CHECK (R239, R241). -/
def poisonWord (w : List Byte) : List Byte :=
  let m := w.take 65 ++ [BitVec.ofNat 8 (byteAt w 65 % 32 + 0xE0)]
  m ++ rsCheck m

/-- Address mapping (R234) of a word address: page, stack, channel, bank. -/
def pageOf (w : Nat) : Nat := w / 32768
def stackOfPage (p : Nat) : Nat := p % 4
def bankOfPage (p : Nat) : Nat := p / 4 % 32
def chanOfWord (w : Nat) : Nat := w / 4 % 16
def bankKey (w : Nat) : Nat := stackOfPage (pageOf w) * 512 + chanOfWord w * 32 + bankOfPage (pageOf w)

/-- Index of a word's channel among the 64 (R230, R253). -/
def chanKey (w : Nat) : Nat := stackOfPage (pageOf w) * 16 + chanOfWord w

/-- Is a page in the Accession log (R247)? -/
def Stacks.retired (k : Stacks) (p : Nat) : Bool := k.log.any fun e => e.page == p

/-- What an unlisted symbol of a page reads as: 0 once initialised; otherwise no fixed value (R246). -/
def Stacks.blank (k : Stacks) (p : Nat) : Option Byte := if k.cleared && !k.unwritten.contains p then some 0 else none

/-- A symbol as stored (R246: arbitrary where nothing has been written). -/
def Stacks.sym (k : Stacks) (a : Nat) : Byte :=
  match cellFind a k.mem with
  | some v => v
  | none =>
    match k.blank (pageOf (a / 72)) with
    | some v => v
    | none => Config.powerUpSymbol (k.losses.getD (stackOfPage (pageOf (a / 72))) 0) a

/-- The 72 symbols of a word as stored. -/
def Stacks.word (k : Stacks) (w : Nat) : List Byte := (List.range 72).map fun i => k.sym (72 * w + i)

/-- Store the 72 symbols of a word; the canonical form is kept. -/
def Stacks.store (k : Stacks) (w : Nat) (v : List Byte) : Stacks :=
  { k with mem := cellPutList (k.blank (pageOf w)) (72 * w) v k.mem }

/-- The canonical form of the Stacks' memory: strictly rising addresses, no entry equal to what an unlisted symbol reads. -/
def Stacks.wf (k : Stacks) : Bool :=
  k.mem.Pairwise (fun a b => a.1 < b.1) && k.mem.all fun x => k.blank (pageOf (x.1 / 72)) != some x.2

/-- The region that holds a page, by its number r of R253, and its code of R235 (6: no region). -/
def Stacks.regionAt (k : Stacks) (p : Nat) : Option Region :=
  if k.retired p then none else k.regions.find? fun r => r.pages.contains p || r.old.contains p
def regionCode (r : Nat) : Nat :=
  if r = 0 then 5 else if r = 1 then 4 else if r = 2 then 2 else if r = 3 then 3 else 1
def Stacks.codeAt (k : Stacks) (p : Nat) : Nat :=
  match k.regionAt p with
  | some r => regionCode r.r
  | none => 6

/-- OBJ of a word (R366). -/
def objWord (w : Nat) : Nat := objStack (stackOfPage (pageOf w)) (chanOfWord w) (bankOfPage (pageOf w))

/-- Raise a Stacks event about a word: AUX the page, VALUE the word address (R366). -/
def raiseWord (n w : Nat) (s : State) : State := raise n (objWord w) (evtArg 0 0 (pageOf w) w) s

/-- Count in a word's bank (R240, R253). -/
def countBank (w : Nat) (f : BankCtr → BankCtr) (s : State) : State :=
  onStk (fun k => { k with banks := putKey (bankKey w) (f (lookupD {} (bankKey w) k.banks)) k.banks }) s

/-- Index of a word's tracker entry. -/
def Stacks.trackAt (k : Stacks) (w : Nat) : Option Nat :=
  k.tracker.findIdx? fun e => match e with
    | some t => t.word == w
    | none => false

/-- Free the tracker entries that a test selects (R243); a freed entry arms STACKS_TRACKER_FULL again. -/
def Stacks.freeTracks (k : Stacks) (p : Track → Bool) : Stacks :=
  let hit := k.tracker.any fun e => match e with | some t => p t | none => false
  { k with
    tracker := k.tracker.map fun e => match e with
      | some t => if p t then none else some t
      | none => none
    trackerFull := k.trackerFull && !hit }

/-- Any write to a word counts as one since its last correction (R243). -/
def Stacks.noteWrite (k : Stacks) (w : Nat) : Stacks :=
  { k with tracker := k.tracker.map fun e => match e with
      | some t => if t.word = w then some { t with written := true } else some t
      | none => none }

/-- The index a new entry takes (R243): an empty one, or the least corrected that is not HARD, the oldest among equals. -/
def Stacks.victim (k : Stacks) : Option (Nat × Bool) :=
  match k.tracker.findIdx? (·.isNone) with
  | some i => some (i, false)
  | none =>
    (k.tracker.zipIdx.foldl (fun (best : Option (Nat × Track)) e => match e.1 with
      | some t =>
        if t.hard then best
        else match best with
          | none => some (e.2, t)
          | some (_, b) => if t.count < b.count || (t.count == b.count && t.age < b.age) then some (e.2, t) else best
      | none => best) none).map fun x => (x.1, true)

/-- Write a word back as a tracker, scrubber or poison write-back (R241, R243, R244). -/
def writeBack (w : Nat) (v : List Byte) (s : State) : State := onStk (fun k => (k.store w v).noteWrite w) s

/-- Note that the tracker wrote an entry's word back. -/
def Stacks.markBack (k : Stacks) (i : Nat) : Stacks :=
  { k with tracker := k.tracker.modify i (Option.map fun t => { t with wroteBack := true }), trackWb := bump k.trackWb }

/-- The tracker hears of a corrected read (R243): open or count, write back, judge HARD. `fixed` is the corrected word;
`waiting` says that a write to the word waits, which drops the write-back. -/
def trackCorrection (w : Nat) (fixed : List Byte) (at_ : List Nat) (waiting : Bool) (s : State) : State :=
  let sec := s.stamp.sec
  let bits := at_.foldl (fun m i => Nat.lor m (2 ^ i)) 0
  let rep := getParN s .r252 objDevice 0x10
  let hardT := getParN s .r252 objDevice 0x20
  let back (i : Nat) (s : State) : State :=
    if waiting then s else onStk (fun k => k.markBack i) (writeBack w fixed s)
  match s.stk.trackAt w with
  | some i =>
    match s.stk.tracker.getD i none with
    | none => s
    | some t =>
      let t1 := { t with
        count := min (t.count + 1) 65535, afterWrite := if t.written then min (t.afterWrite + 1) 255 else t.afterWrite,
        mask := Nat.lor t.mask bits, lastSec := sec, written := false, hard := t.hard || (t.written && hardT ≤ t.afterWrite + 1) }
      let s1 := onStk (fun k => { k with tracker := k.tracker.set i (some t1) }) s
      let s2 := raiseIf (t1.count == rep) 216 (objWord w) (evtArg 0 0 (pageOf w) w) s1
      let s3 := raiseIf (t1.hard && !t.hard) 217 (objWord w) (evtArg 0 (at_.foldl min 71) (pageOf w) w) s2
      if at_.length == 2 || (rep ≤ t1.count && !t.written) || (t.wroteBack && t.written && t1.afterWrite < hardT) then back i s3
      else s3
  | none =>
    match s.stk.victim with
    | none =>
      let s1 := raiseIf (!s.stk.trackerFull) 218 (objWord w) (evtArg 0 0 (pageOf w) w) s
      let s2 := onStk (fun k => { k with trackerFull := true }) s1
      if at_.length == 2 && !waiting then onStk (fun k => { k with trackWb := bump k.trackWb }) (writeBack w fixed s2) else s2
    | some (i, ev) =>
      let t : Track := { word := w, count := 1, mask := bits, firstSec := sec, lastSec := sec, age := s.stk.trackAge }
      let s1 := onStk (fun k => { k with
        tracker := k.tracker.set i (some t), trackAge := k.trackAge + 1,
        evictions := if ev then bump k.evictions else k.evictions }) s
      if at_.length == 2 then back i s1 else s1

/-- What a read delivers (R240): the data, whether they carry the poison mark, and the outcome. -/
structure Delivered where
  data : List Byte
  poison : Bool
  /-- 0 clean, 1 corrected, 2 uncorrectable. -/
  outcome : Nat
  unres : Bool
  endMark : Bool
deriving DecidableEq, Repr

/-- A read by a stack controller (R240, R241, R243). `expect` is the REGION and SEQ a queue reader expects; `waiting` says
that a write to the word already waits; `scrub` that the scrubber reads (R244). -/
def stkRead (w : Nat) (expect : Option (Nat × Nat)) (waiting scrub : Bool) (s : State) : Delivered × State :=
  let v := s.stk.word w
  let s0 := onStk (fun k => { k with bytesRead := k.bytesRead.modify (stackOfPage (pageOf w)) (satAdd · 64) }) s
  let deliver (x : List Byte) (n : Nat) (pz : Bool) : Delivered :=
    { data := wData x, poison := pz, outcome := n, unres := wUnres x, endMark := wEnd x }
  let checkAddr (x : List Byte) (n : Nat) (s : State) : Delivered × State :=
    match expect with
    | none => (deliver x n (wPoison x), s)
    | some (rg, sq) =>
      if wRegion x = rg ∧ wSeq x = sq then (deliver x n (wPoison x), s)
      else (deliver x n true, raiseWord 213 w (countBank w (fun b => { b with addrCheck := bump b.addrCheck }) s))
  match rsDecode v with
  | .clean =>
    let s1 := onStk (fun k => k.freeTracks fun t => t.word == w && !t.hard) s0
    if wPoison v then
      let s2 := countBank w (fun b => { b with poisonedReads := bump b.poisonedReads }) s1
      checkAddr v 0 (if scrub then onStk (fun k => { k with poisonFound := bump k.poisonFound }) s2 else s2)
    else checkAddr v 0 s1
  | .corrected x at_ =>
    let s1 := countBank w (fun b => { b with corrected := bump b.corrected }) s0
    let s2 := trackCorrection w x at_ waiting s1
    let s3 := if scrub && !waiting then onStk (fun k => { k with scrubWb := bump k.scrubWb }) (writeBack w x s2) else s2
    checkAddr x 1 s3
  | .uncorrectable =>
    let s1 := raiseWord 212 w (countBank w (fun b => { b with uncorr := bump b.uncorr }) s0)
    let s2 := if waiting then s1 else onStk (fun k => { k with poisonWb := bump k.poisonWb }) (writeBack w (poisonWord v) s1)
    (deliver v 2 true, s2)

/-- A whole-word write (R239, R241): the new word as written; an item's poison mark is stored. -/
def stkWrite (w : Nat) (data : List Byte) (seq region : Nat) (unres endMark poison : Bool) (s : State) : State :=
  onStk (fun k =>
    { ((k.store w (mkWord data seq region unres endMark poison)).noteWrite w) with
      bytesWritten := k.bytesWritten.modify (stackOfPage (pageOf w)) (satAdd · 64) }) s

/-- A narrow write (R238, R239): read and decode, merge, write back. -/
def stkNarrow (w off : Nat) (data : List Byte) (region : Nat) (s : State) : State :=
  let v := s.stk.word w
  let merge (x : List Byte) (pz : Bool) : List Byte :=
    mkWord (overlay (wData x) off data) (wSeq x) region (wUnres x) (wEnd x) pz
  let put (x : List Byte) (s : State) : State :=
    onStk (fun k =>
      { ((k.store w x).noteWrite w) with
        narrow := bump k.narrow
        bytesRead := k.bytesRead.modify (stackOfPage (pageOf w)) (satAdd · 64)
        bytesWritten := k.bytesWritten.modify (stackOfPage (pageOf w)) (satAdd · 64) }) s
  let onPoison (s : State) : State := raiseWord 214 w (onStk (fun k => { k with partialPoison := bump k.partialPoison }) s)
  match rsDecode v with
  | .clean => if wPoison v then onPoison (put (merge v true) s) else put (merge v false) s
  | .corrected x at_ =>
    let s1 := put (merge x (wPoison x))
      (trackCorrection w x at_ true (countBank w (fun b => { b with corrected := bump b.corrected }) s))
    if wPoison x then onPoison s1 else s1
  | .uncorrectable =>
    onPoison (raiseWord 212 w (put (merge v true) (countBank w (fun b => { b with uncorr := bump b.uncorr }) s)))

/-- Poisoned data reach a consumer, by its row of R242: count, and STACKS_POISON_OUT (215). -/
def poisonOut (row : Nat) (s : State) : State :=
  raise 215 (objStack 0xFF 0xFF 0xFF) (evtArg 0 0 row 0)
    (onStk (fun k => { k with consumed := k.consumed.modify (row - 1) bump }) s)

/-- Poisoned data reach a consumer when `b` holds. -/
def poisonOutIf (b : Bool) (row : Nat) (s : State) : State := if b then poisonOut row s else s

/-- Carry out a transaction (R237: in the order in which they come). -/
def runReq (r : StkReq) (s : State) : State :=
  match r with
  | .read w expect waiting =>
    let d := stkRead w expect waiting false s
    onStk (fun k => { k with out := some (d.1.data, if d.1.poison && d.1.outcome != 2 then 3 else d.1.outcome) }) d.2
  | .write w data seq region unres endMark poison => stkWrite w data seq region unres endMark poison s
  | .narrow w off data region => stkNarrow w off data region s

/-- The word a transaction addresses. -/
def StkReq.word : StkReq → Nat
  | .read w _ _ => w
  | .write w _ _ _ _ _ _ => w
  | .narrow w _ _ _ => w

/-- A transaction takes one of its channel's 768 tags, or waits for one (R230). -/
def submit (r : StkReq) (s : State) : State :=
  let c := chanKey r.word
  if s.stk.tags.getD c 0 < 768 then
    runReq r (onStk (fun k => { k with
      tags := k.tags.modify c (· + 1), tagPeak := k.tagPeak.modify c (max (k.tags.getD c 0 + 1)) }) s)
  else onStk (fun k => { k with tagWait := k.tagWait ++ [(c, r)] }) s

/-- STACKS_READ (R240). -/
def execStacksRead (w : Fin 2147483648) (expect : Option (Nat × Nat)) (waiting : Bool) (s : State) : Out :=
  .next (submit (.read w.val expect waiting) s)

/-- STACKS_WHOLE_WRITE (R239). -/
def execStacksWholeWrite (w : Fin 2147483648) (data : List Byte) (seq region : Nat) (unres endMark poison : Bool)
    (s : State) : Out :=
  .next (submit (.write w.val data seq region unres endMark poison) s)

/-- NARROW_WRITE (R238): by the Curator or the aperture; REGION is the code of the page's region (R232). -/
def execNarrowWrite (w : Fin 2147483648) (off : Fin 64) (data : List Byte) (s : State) : Out :=
  .next (submit (.narrow w.val off.val data (s.stk.codeAt (pageOf w.val))) s)

/-- TAG_FREED (R230): the oldest request waiting for the channel proceeds under the freed tag. -/
def tagFreed (c : Fin 64) (s : State) : State :=
  match s.stk.tagWait.find? fun x => x.1 == c.val with
  | some x => runReq x.2 (onStk (fun k => { k with tagWait := k.tagWait.eraseP fun y => y.1 == c.val }) s)
  | none => onStk (fun k => { k with tags := k.tags.modify c.val (· - 1) }) s

def execTagFreed (c : Fin 64) (s : State) : Out := .next (tagFreed c s)

/-- The next word from `w` whose page is not retired; none past the last (R244). -/
def nextScrub (k : Stacks) : Nat → Nat → Option Nat
  | 0, _ => none
  | n + 1, w =>
    if 2147483648 ≤ w then none
    else if k.retired (pageOf w) then nextScrub k n ((pageOf w + 1) * 32768) else some w

/-- SCRUB_READ (R244): the next word in ascending address; a pass ends past the last word. -/
def scrubRead (waiting : Bool) (s : State) : State :=
  if s.stk.initialised && getPar s .r252 objDevice 0x40 == 1 then
    match nextScrub s.stk 65537 s.stk.scrubPos with
    | some w => onStk (fun k => { k with scrubPos := w + 1 }) (stkRead w none waiting true s).2
    | none =>
      let s1 := onStk (fun k => { k with scrubPos := 0, scrubPasses := bump k.scrubPasses }) s
      match nextScrub s1.stk 65537 0 with
      | some w => onStk (fun k => { k with scrubPos := w + 1 }) (stkRead w none waiting true s1).2
      | none => s1
  else s

def execScrubRead (waiting : Bool) (s : State) : Out := .next (scrubRead waiting s)

end Sys2Proof.Machine
end

