-- ==== Sys2Proof/Machine/PowerOps.lean ====
section
/-! DEFINITION. Power domains and the admission sequencer (16_power.md R390 to R392): requesting a state, the stages, and what
a settled domain leaves. -/

namespace Sys2Proof.Machine

/-- Stages and load step in 0.01 A of a domain's transition (R392). -/
def stagesOf (d : Nat) : Nat × Nat :=
  if d < 2 then (8, 500) else if d < 8 then (2, 400) else if d < 16 then (1, 300) else if d < 20 then (2, 400) else (1, 600)

/-- Update one domain. -/
def onDom (d : Nat) (f : Domain → Domain) (s : State) : State :=
  onPwr (fun p => { p with domains := updNat p.domains d f }) s

/-- A domain. -/
def State.domain (s : State) (d : Nat) : Domain := getNat {} s.pwr.domains d

/-- Queue the stages of a domain for admission (R392): last; those of a thermal stop first, after earlier thermal stops. -/
def queueStages (d : Nat) (s : State) : State :=
  let st := List.replicate (stagesOf d).1 (d, (stagesOf d).2, false)
  let front (x : Nat × Nat × Bool) : Bool := (s.domain x.1).thermal && (s.domain x.1).st == .stopping
  onPwr (fun p => { p with queue :=
    if (s.domain d).thermal then p.queue.takeWhile front ++ st ++ p.queue.dropWhile front else p.queue ++ st }) s

/-- Codes of a domain state by R337 over R391, and as `POWER.DOMAIN.SET` codes it (R360). -/
def DomState.code : DomState → Nat
  | .off => 0 | .starting => 1 | .run => 2 | .stopping => 3 | .clockOff => 4 | .selfRefresh => 5
def DomState.reqCode : DomState → Nat
  | .run => 0 | .clockOff => 1 | .off => 2 | .selfRefresh => 3 | .starting => 0 | .stopping => 0

/-- The domains that a rail feeds (R496); 20 is the core. -/
def railFeeds (r d : Nat) : Bool :=
  if r = 0 then 2 ≤ d && d ≤ 20
  else if r = 1 then d == 20
  else if r = 2 ∨ r = 3 then d == 0
  else if r = 4 ∨ r = 5 then d == 1
  else if r = 6 ∨ r = 7 then 2 ≤ d && d < 8
  else if r < 12 then d == 8 + r
  else r == 12 && 16 ≤ d && d < 20

/-- A rail. -/
def State.rail (s : State) (r : Nat) : Rail := getNat {} s.house.rails r
def onRail (r : Nat) (f : Rail → Rail) (s : State) : State := onHouse (fun h => { h with rails := updNat h.rails r f }) s

/-- The Factory record 0x0013 is present (R451). -/
def ringRecord (s : State) : Option (List Byte) := lookupD none 0x0013 (s.boot.factory.map fun x => (x.1, some x.2))

/-- Floors of the adaptive rails, mV (R416, R496). -/
def railFloor (r : Nat) : Nat := if r = 0 then 600 else 700

/-- The voltage that R393 needs on an adaptive rail with a domain's clock running: its island's curve plus the loop's offset,
between floor and MV; MV when the record is absent (R416, R451). Domain 2 + o holds CLIENT o, 8 + p POOL p, 16 + k STK k. -/
def railNeed (r d : Nat) (s : State) : Nat :=
  let x := s.rail r
  match ringRecord s with
  | none => x.mv
  | some rec =>
    let island := if d < 8 then 10 + d else if d < 16 then d - 6 else d + 3
    min x.mv (max (railFloor r) ((Config.curveMv rec island : Int) + x.offset).toNat)

/-- The rails whose voltage a domain that starts must wait for (R393, R497): a carrier or lane rail that is off, an adaptive
rail set below its need. A rail in fixed mode holds its voltage. -/
def railsToRaise (d : Nat) (s : State) : List Nat :=
  (List.range 13).filter fun r =>
    let x := s.rail r
    railFeeds r d && x.configured && ((2 ≤ r && r < 8 && !x.on) || (x.adaptive && x.setMv < railNeed r d s))

/-- Command a rail on, or to the voltage a domain needs. -/
def raiseRail (d r : Nat) (s : State) : State :=
  onPwr (fun p => { p with raises := p.raises ++ [{ rail := r, dom := d }] }) (onRail r (fun x => { x with
    on := true, settling := true, setMv := if x.adaptive then max x.setMv (railNeed r d s) else x.mv }) s)

/-- A starting domain queues its stages, once no rail is waited for (R391, R393). -/
def startStages (d : Nat) (s : State) : State :=
  match railsToRaise d s with
  | [] => queueStages d s
  | rs => rs.foldl (fun s r => raiseRail d r s) s

/-- While STOP holds, no command may bring a carrier, octet or pool domain to RUN (R422). -/
def stopHolds (s : State) : Bool := s.house.therm == .stop || s.house.therm == .shutdown
def stopHeld (d : Nat) (s : State) : Bool := stopHolds s && d < 16 && s.dom d != .run

/-- Begin a domain's transition to another state (R391): STARTING with its stages queued, or STOPPING, which clears a
carrier's request for light (R459) and sets its converters to rest (R44). A stack asked from OFF
to SELF_REFRESH goes through RUN (R392: two legs). -/
def beginDomain (d : Nat) (t : DomState) (s : State) : State :=
  let st := s.dom d
  let up := st = .off ∨ (t = .run ∧ (st = .clockOff ∨ st = .selfRefresh))
  let s1 := if inTransition (.domain d) s then s else beginInternal (.domain d) s
  if up then
    startStages d (onDom d (fun x => { x with
      st := .starting, target := if t = .selfRefresh then .run else t, stagesLeft := (stagesOf d).1, drained := false
      leg := if t = .selfRefresh then some t else none, thermal := false, since := s.dev.ticks }) s1)
  else
    let s2 := onDom d (fun x => { x with
      st := .stopping, target := t, stagesLeft := (stagesOf d).1, drained := false, thermal := false, since := s.dev.ticks }) s1
    let s3 := if st = .run then pmPut (fun x => objInDomain x.ob d) .suspect s2 else s2
    if d < 2 then convLeave (carrierOf d) (safetyLeave (carrierOf d) s3) else s3

/-- Request a state of a domain (R391): a domain in transition takes it up once it has settled. -/
def requestDomain (d : Nat) (t : DomState) (s : State) : State :=
  let x := s.domain d
  if x.st = .starting ∨ x.st = .stopping then
    if x.next = [] ∧ x.leg.getD x.target = t then s else onDom d (fun x => { x with next := x.next ++ [t] }) s
  else if x.st = t then s
  else beginDomain d t s

/-- A stack that reaches OFF loses its contents (R391, R246). -/
def loseStack (k : Nat) (s : State) : State :=
  onStk (fun x => { x with
    mem := x.mem.filter fun c => stackOfPage (pageOf (c.1 / 72)) != k
    losses := x.losses.modify k (· + 1)
    unwritten := if x.cleared then x.unwritten ++ ((List.range 65536).filter fun p => stackOfPage p == k && !x.unwritten.contains p) else x.unwritten
    initialised := false }) s

/-- The voltage that the clocks running on an adaptive rail need: the highest of its domains that run or start, and of the core while it
runs; its floor with none (R393). -/
def railTarget (r : Nat) (s : State) : Nat :=
  ((List.range 21).filter fun d => railFeeds r d &&
    if d = 20 then s.pwr.st == .run || s.pwr.st == .idle else s.dom d == .run || s.dom d == .starting).foldl
      (fun m d => max m (railNeed r d s)) (railFloor r)

/-- The clocks of a domain have stopped: the adaptive rails that feed it are lowered to what the others on them need (R393: a shared
rail, a rail in fixed mode never). -/
def lowerRails (d : Nat) (s : State) : State :=
  (List.range 13).foldl (fun s r =>
    let x := s.rail r
    if railFeeds r d && x.configured && x.adaptive && !x.settling then
      onRail r (fun x => { x with setMv := min x.setMv (max (railFloor r) (railTarget r s)) }) s
    else s) s

/-- A domain settles (R391, R392, R404): POWER_DOMAIN_DONE is raised; its second leg begins, or the command that asked for it
completes and the next request that waited begins. -/
def settleDomain (d : Nat) (st : DomState) (failed : Bool) (s : State) : State :=
  let x := s.domain d
  let s1 := onDom d (fun x => { x with
    st := st, stagesLeft := 0, drained := false, thermal := false, leg := none
    transitions := bump x.transitions, failed := if failed then bump x.failed else x.failed
    saved := st != .run && (x.saved || !failed) }) s
  let s2 := if st = .off && 16 ≤ d then loseStack (d - 16) (lowerRails d s1)
    else if st = .run then pmPut (fun x => objInDomain x.ob d) .suspect s1 else lowerRails d s1
  let s3 := raise 289 (objDomain d) (evtArg 0 st.code (b2n failed) (elapsedUs x.since s.dev.ticks)) s2
  match x.leg, failed with
  | some t, false => beginDomain d t s3
  | _, _ =>
    let s4 := endTransition (.domain d)
      (if failed then { status := stTimeout } else { status := stOk, payload := leBytes 1 st.reqCode })
      (onDom d (fun x => { x with next := x.next.drop 1 }) s3)
    match x.next with
    | [] => s4
    | t :: _ => if t = st then s4 else beginDomain d t s4

/-- The steps begun in the window that ends now, in 0.01 A (R392). -/
def Power.stepSum (p : Power) (tick : Nat) : Nat :=
  ((p.begun.filter fun b => tick < b.1 + p.windowUs * 625).map (·.2)).sum

/-- May a stage with a step begin now (R392)? -/
def Power.admits (p : Power) (tick step : Nat) : Bool :=
  p.stepSum tick + step ≤ 100 * p.budgetA || (100 * p.budgetA < step && p.stepSum tick == 0)

/-- ADMISSION_STAGE_START (R392): the first stage that waits begins when the budget in the window allows it; else it waits,
with POWER_ADMIT_WAIT at most once per second. A stopping domain settles with its last stage. -/
def admissionStart (s : State) : State :=
  match s.pwr.queue with
  | [] => s
  | (d, step, _) :: rest =>
    if s.pwr.admits s.dev.ticks step then
      let s1 := onPwr (fun p => { p with
        queue := rest
        begun := (s.dev.ticks, step) :: (p.begun.filter fun b => s.dev.ticks < b.1 + p.windowUs * 625) }) s
      let s2 := onDom d (fun x => { x with stagesLeft := x.stagesLeft - 1 }) s1
      let x := s2.domain d
      if d < 20 ∧ x.st = .stopping ∧ x.drained ∧ x.stagesLeft = 0 then settleDomain d x.target false s2 else s2
    else
      raise 290 (objDomain d) (evtArg 0 0 0 s.pwr.queue.length) (onPwr (fun p => { p with
        waits := satAdd p.waits (p.queue.filter fun x => !x.2.2).length
        queue := p.queue.map fun x => (x.1, x.2.1, true) }) s)

/-- Bring the four stack domains to RUN (R390). -/
def stacksToRun (s : State) : State := [16, 17, 18, 19].foldl (fun s d => requestDomain d .run s) s

/-- Are the four stack domains in RUN? -/
def stacksRun (s : State) : Bool := [16, 17, 18, 19].all fun d => s.dom d == .run

end Sys2Proof.Machine
end

