-- ==== Sys2Proof/Machine/Regions.lean ====
section
/-! DEFINITION. Regions of the Stacks, retirement and the Accession log, initialisation, the Stacks commands and the aperture
(10_stacks.md R235, R236, R246 to R253; 14_command_reference.md R354, R355; 18_boot_security.md R436). -/

namespace Sys2Proof.Machine

/-- Pages for bytes at `mbps` bytes per microsecond over `ns` nanoseconds (R235: 2 MiB a page). -/
def pagesFor (bytesPerUs ns : Nat) : Nat := ceilDiv (bytesPerUs * ns) (1000 * 2097152)

/-- The playout delay D in force for a carrier, ns: 12 µs in fixed-latency mode (R123, R235). -/
def playoutNs (s : State) (c : Nat) : Nat :=
  if getPar s .r130 (objCarrier c) 0x20 == 1 then 12000 else getParN s .r130 (objCarrier c) 0x30

/-- The differential-delay limit L in force, ns: of a 1+1 protection group, or of a mated pair; 0 where neither covers the
carrier (R235). -/
def diffLimitNs (s : State) : Nat :=
  max (((List.range 16).filter fun g => (getNat {} s.prot g).exists_).foldl
        (fun m g => max m (getParN s .r226 (objProt g) 0x80)) 0)
    (if s.mate.role = 0 then 0 else s.mate.limitNs)

/-- Sizes of the regions in pages (R235). -/
def reservePages (s : State) : Nat := ceilDiv (getParN s .r130 objDevice 0x90) 163
def switchPages (delayNs : Nat) : Nat := pagesFor 1275000 (delayNs + 16000)
def rxQueuePages (s : State) (c : Nat) : Nat := pagesFor 425000 (playoutNs s c + diffLimitNs s + 100000)

/-- Is a page in a region, in the staging area (R442), in a retirement, or retired (R236)? -/
def Stacks.pageUsed (k : Stacks) (p : Nat) : Bool :=
  k.retired p || k.staging.contains p || k.retiring.any (fun e => e.page == p)
    || k.regions.any fun r => r.pages.contains p || r.adding.contains p || r.leaving.any fun x => x.2 == p

/-- The lowest page not used among `p`, `p + 4`, … of one stack. -/
def nextFree (used : Nat → Bool) : Nat → Nat → Option Nat
  | 0, _ => none
  | n + 1, p => if 65536 ≤ p then none else if used p then nextFree used n (p + 4) else some p

/-- `n` pages in turns over the stacks, the k-th from stack k mod 4, each the lowest free one (R236). -/
def takePages (used : Nat → Bool) : Nat → Nat → List Nat → Option (List Nat)
  | 0, _, _ => some []
  | n + 1, k, ptr =>
    match nextFree used 16384 (ptr.getD (k % 4) 0) with
    | none => none
    | some p => (takePages used n (k + 1) (ptr.set (k % 4) (p + 4))).map (p :: ·)

/-- The region numbered r (R253). -/
def Stacks.region (k : Stacks) (r : Nat) : Option Region := k.regions.find? fun x => x.r == r

/-- Free a region. -/
def Stacks.freeRegion (k : Stacks) (r : Nat) : Stacks := { k with regions := k.regions.filter fun x => x.r != r }
def freeRegion (r : Nat) (s : State) : State := onStk (fun k => k.freeRegion r) s

/-- Allocate a region of `n` pages, freeing its former pages first; none when a stack has no page for its turn (R236). -/
def Stacks.allocRegion (k : Stacks) (r n : Nat) : Option Stacks :=
  let k1 := k.freeRegion r
  (takePages k1.pageUsed n 0 [0, 1, 2, 3]).map fun ps => { k1 with regions := { r := r, pages := ps } :: k1.regions }

/-- What allocating a region answers (R236, R246): ST_BAD_STATE before `STACKS.INIT`, ST_NO_CAPACITY without pages. -/
def allocRegion (r n : Nat) (s : State) : Except Nat State :=
  if !s.stk.initialised then .error stBadState
  else
    match s.stk.allocRegion r n with
    | none => .error stNoCapacity
    | some k => .ok (stacksToRun { s with stk := k })

/-- Grow a queue's region at its next wrap to the size its limit now needs; a lower limit leaves it (R236). None when a stack
has no page. -/
def growQueue (c : Nat) (s : State) : Option State :=
  match s.stk.region (4 + c) with
  | none => some s
  | some r =>
    let have_ := r.pages.length + r.adding.length
    let want := rxQueuePages s c
    if want ≤ have_ then some s
    else
      (takePages s.stk.pageUsed (want - have_) have_ [0, 1, 2, 3]).map fun ps =>
        onStk (fun k => { k with regions := k.regions.map fun x =>
          if x.r = 4 + c then { x with adding := x.adding ++ ps } else x }) s

/-- QUEUE_WRAP (R236): the pages added join the queue's page list as its write position returns to the first page. -/
def queueWrap (c : Fin 2) (s : State) : State :=
  onStk (fun k => { k with regions := k.regions.map fun x =>
    if x.r = 4 + c.val then { x with pages := x.pages ++ x.adding, adding := [], wr := 0 } else x }) s

/-- The event report of a page or bank (R248, R366). -/
def objPage (p : Nat) : Nat := objStack (stackOfPage p) 0xFF (bankOfPage p)

/-- The Accession log as its Catalogue copy holds it (R247). -/
def accBytes (e : AccEntry) : List Byte :=
  leBytes 2 e.page ++ leBytes 2 e.cause ++ leBytes 2 (if e.cause = 1 then e.stack * 512 + e.chan * 32 + e.bank else 0xFFFF)
    ++ leBytes 2 0

/-- A page becomes retired (R247, R248): the log and its Catalogue copy, its contents lost, its tracker entries freed, and
STACKS_RETIRE_LIMIT when the log first reaches 1,536 and 2,048 entries. -/
def retirePage (e : AccEntry) (s : State) : State :=
  let s1 := onStk (fun k =>
    let k1 := k.freeTracks fun t => pageOf t.word == e.page
    { k1 with
      log := k1.log ++ [e]
      mem := k1.mem.filter fun c => pageOf (c.1 / 72) != e.page
      unwritten := e.page :: k1.unwritten
      retiredNow := k1.retiredNow + 1
      limit1536 := k1.limit1536 || 1536 ≤ k1.log.length + 1
      limit2048 := k1.limit2048 || 2048 ≤ k1.log.length + 1 }) s
  let n := s1.stk.log.length
  let s2 := raiseIf ((s1.stk.limit1536 && !s.stk.limit1536) || (s1.stk.limit2048 && !s.stk.limit2048)) 210
    (objStack 0xFF 0xFF 0xFF) (evtArg 0 0 0 n) s1
  catChange 0x0020 0 (catRecord 0x0020 0 (recordSec s2) s2.house.tMax (s2.stk.log.flatMap accBytes)) s2

/-- The pages that a retirement names and that are not retired or being retired yet (R247, R248). -/
def retireTargets (k : Stacks) (q : Request) : List AccEntry :=
  let ps := if u8 q 4 = 0 then [u16 q 6]
    else (List.range 65536).filter fun p => stackOfPage p == u8 q 8 && bankOfPage p == u8 q 10
  (ps.filter fun p => !k.retired p && !k.retiring.any fun e => e.page == p).map fun p =>
    { page := p, cause := u8 q 4, stack := u8 q 8, chan := u8 q 9, bank := u8 q 10 }

/-- A page that waits to join a region: with the queue's next wrap (R236), or for a Census page that is retiring (R248). -/
def Stacks.planned (k : Stacks) (p : Nat) : Bool := k.regions.any fun r => r.adding.contains p || r.leaving.any fun x => x.2 == p

/-- Another page in place of one that waits to join a region. -/
def Region.replan (r : Region) (p q : Nat) : Region :=
  { r with adding := r.adding.map fun y => if y = p then q else y, leaving := r.leaving.map fun x => (x.1, if x.2 = p then q else x.2) }

/-- Replace each region page of a list by a free page of the same stack (R248): at once in a queue or the switch buffer, at
the next snapshot of its half in the Census area; a Reserve page has no replacement. A page that waits to join a region is replaced
too, since a retired page is never allocated (R247). -/
def replacePages (bad : Nat → Bool) : List AccEntry → Stacks → Option Stacks
  | [], k => some k
  | e :: es, k =>
    match k.regionAt e.page with
    | none =>
      if k.planned e.page then
        match nextFree (fun p => bad p || k.pageUsed p) 16384 (stackOfPage e.page) with
        | none => none
        | some p => replacePages bad es { k with regions := k.regions.map fun x => x.replan e.page p }
      else replacePages bad es k
    | some r =>
      if r.r = 1 then replacePages bad es k
      else
        match nextFree (fun p => bad p || k.pageUsed p) 16384 (stackOfPage e.page) with
        | none => none
        | some p =>
          replacePages bad es { k with regions := k.regions.map fun x =>
            if x.r ≠ r.r then x
            else if r.r = 0 then { x with leaving := x.leaving ++ [(e.page, p)] }
            else { x with pages := x.pages.map fun y => if y = e.page then p else y, old := e.page :: x.old } }

/-- The command's report when its last page is retired (R248, R354). -/
def retireReport (s : State) : Resp :=
  { status := stOk, payload := leBytes 2 s.stk.retiredNow ++ leBytes 2 s.stk.log.length }

/-- STACKS.RETIRE (R247, R248, R354): free and host pages at once, region pages when they are released. -/
def stacksRetire (q : Request) (s : State) : State × Reply :=
  if 1 < u8 q 4 then (s, badParam 4)
  else if 1 < u8 q 5 then (s, badParam 5)
  else if u8 q 4 = 1 ∧ 3 < u8 q 8 then (s, badParam 8)
  else if u8 q 4 = 1 ∧ 15 < u8 q 9 then (s, badParam 9)
  else if u8 q 4 = 1 ∧ 31 < u8 q 10 then (s, badParam 10)
  else
    let ts := retireTargets s.stk q
    let isIn (e : AccEntry) : Bool := (s.stk.regionAt e.page).isSome
    if u8 q 5 = 0 ∧ 2048 < s.stk.log.length + s.stk.retiring.length + ts.length then (s, refuse stNoCapacity)
    else
      match replacePages (fun p => ts.any fun e => e.page == p) ts s.stk with
      | none => (s, refuse stNoCapacity)
      | some k =>
        let ob := if u8 q 4 = 0 then objPage (u16 q 6) else objStack (u8 q 8) (u8 q 9) (u8 q 10)
        let s1 := (ts.filter fun e => !isIn e).foldl (fun s e => retirePage e s)
          { s with stk := { k with retiredNow := 0, retireObj := ob, retiring := k.retiring ++ ts.filter isIn } }
        if ts.any isIn then (beginTransition .stacks 0x0A03 q s1, .later)
        else
          let last := (ts.getLast?.map (·.page)).getD 0
          (raiseIf (!ts.isEmpty) 209 ob (evtArg 0 0 last 0) s1, .done (retireReport s1))

/-- Does an entry of the Reserve lie in a page (R235)? -/
def reserveHolds (s : State) (p : Nat) : Bool := match s.stk.region 1 with
  | some r => s.dec.reserve.any fun x => r.pages[x.1 / 163]? == some p
  | none => false

/-- Is a page still in use in its region: a Reserve page that holds an entry, or a Census page that the next snapshot of its half
has not replaced yet (R248)? -/
def stillHeld (s : State) (p : Nat) : Bool := reserveHolds s p || s.stk.regions.any fun r => r.leaving.any fun x => x.1 == p

/-- PAGE_RETIRE_COMPLETE (R248): a page is released by its reader, in the Reserve once its last entry is free, or in the Census area once
it is replaced, and is retired; with the last one STACKS_PAGE_RETIRED is raised and the command completes. The Reserve's other entries keep their places. -/
def pageRetireComplete (p : Nat) (s : State) : State :=
  match s.stk.retiring.find? fun e => e.page == p with
  | none => s
  | some e =>
    if stillHeld s p then s
    else
    let s1 := onStk (fun k => { k with
      retiring := k.retiring.filter fun x => x.page != p
      regions := k.regions.map fun x => { x with
        pages := if x.r = 1 then x.pages else x.pages.filter fun y => y != p, old := x.old.filter fun y => y != p } }) s
    let s2 := retirePage e s1
    if s2.stk.retiring.isEmpty then
      endTransition .stacks (retireReport s2) (raise 209 s2.stk.retireObj (evtArg 0 0 p 0) s2)
    else s2

def execPageRetireComplete (p : Fin 65536) (s : State) : Out := .next (pageRetireComplete p.val s)

/-- STACKS.INIT (R236, R246, R390): the stack domains are brought to RUN, the Census area is allocated at the first one, and
every word of every page that is not retired is written. -/
def stacksInit (q : Request) (s : State) : State × Reply :=
  if s.stk.regions.any fun r => r.r ≠ 0 then (s, refuse stBadState)
  else
    let go (k : Stacks) : State × Reply :=
      (beginTransition .stacks 0x0A01 q (stacksToRun { s with stk := { k with initBusy := true } }), .later)
    match s.stk.region 0 with
    | some _ => go s.stk
    | none =>
      match s.stk.allocRegion 0 40 with
      | none => (s, refuse stNoCapacity)
      | some k => go k

/-- STACKS_INIT_COMPLETE (R246): all words written zero with valid CHECK, in every page that is not retired. -/
def stacksInitComplete (s : State) : State :=
  if s.stk.initBusy && stacksRun s then
    let s1 := onStk (fun k => { k with
      mem := k.mem.filter fun c => k.retired (pageOf (c.1 / 72))
      cleared := true, unwritten := (k.log.map (·.page)), initialised := true, initBusy := false }) s
    endTransition .stacks { status := stOk } (raise0 208 (objStack 0xFF 0xFF 0xFF) s1)
  else s

def execStacksInitComplete (s : State) : Out := .next (stacksInitComplete s)

def execStacksInit (q : Request) (s : State) : Out := .next (deskRun 0x0A01 stacksInit q s)
def execStacksSet (q : Request) (s : State) : Out :=
  .next (deskRun 0x0A02 (pCommand 0x0A02 (fun _ _ => none) fun rs => applyRecs 0x0A02 q rs) q s)
def execStacksRetire (q : Request) (s : State) : Out := .next (deskRun 0x0A03 stacksRetire q s)

/-- A tracker entry's 32 bytes (R355). -/
def trackBytes : Option Track → List Byte
  | none => leBytes 4 0xFFFFFFFF ++ List.replicate 28 0
  | some t => leBytes 4 t.word ++ leBytes 2 t.count ++ leBytes 1 t.afterWrite ++ leBytes 1 (b2n t.hard) ++ leBytes 9 t.mask
      ++ leBytes 1 0 ++ leBytes 6 t.firstSec ++ leBytes 6 t.lastSec ++ leBytes 2 0

/-- Chunks of at most `n` elements. -/
def chunks (n : Nat) : Nat → List Nat → List (List Nat)
  | 0, _ => []
  | f + 1, l => if l.isEmpty then [] else l.take n :: chunks n f (l.drop n)

/-- The elements that an OBJ of KIND 8 names (R332): a byte 0xFF names all. -/
def objPicks (q : Request) (st ch bk : Nat) : Bool :=
  (objIndex q == 0xFF || objIndex q == st) && (objSub q == 0xFF || objSub q == ch) && (objSub2 q == 0xFF || objSub2 q == bk)

/-- STACKS.STATUS (R253). -/
def stacksItems (q : Request) (s : State) : List StatItem :=
  let k := s.stk
  let lists := (List.range 6).flatMap fun r => match k.region r with
    | none => []
    | some x => (chunks 2040 33 (x.pages.filter fun p => !k.retired p)).zipIdx.map fun c => lst 1 1 (c.1.flatMap (leBytes 2)) (1024 * r + c.2)
  let banks := (List.range 2048).filter fun e => objPicks q (e / 512) (e / 32 % 16) (e % 32)
  let ctrs (f : BankCtr → Nat) (fld : Nat) := banks.map fun e => ctr 5 fld (f (lookupD {} e k.banks)) e
  let chans := (List.range 64).filter fun e => objPicks q (e / 16) (e % 16) (if objSub2 q == 0xFF then 0xFF else objSub2 q)
  let sts := (List.range 4).filter fun e => objIndex q == 0xFF || objIndex q == e
  [gau 1 0 (b2n k.initialised)] ++ lists ++ (k.tracker.zipIdx.map fun t => lst 2 0 (trackBytes t.1) t.2)
    ++ [gau 3 0 k.log.length, gau 4 0 k.scrubPos, ctr 4 1 k.scrubPasses]
    ++ ctrs (·.corrected) 0 ++ ctrs (·.uncorr) 1 ++ ctrs (·.addrCheck) 2 ++ ctrs (·.poisonedReads) 3
    ++ [ctr 6 0 k.narrow, ctr 6 1 k.partialPoison, ctr 7 0 k.poisonWb, ctr 7 1 k.trackWb, ctr 7 2 k.scrubWb,
        ctr 8 0 k.evictions, ctr 8 1 k.poisonFound]
    ++ (chans.map fun e => gau 9 0 (k.tags.getD e 0) e) ++ (chans.map fun e => gau 9 1 (k.tagPeak.getD e 0) e)
    ++ (sts.map fun e => ctr 10 0 (k.bytesRead.getD e 0) e) ++ (sts.map fun e => ctr 10 1 (k.bytesWritten.getD e 0) e)

def execStacksStatus (q : Request) (s : State) : Out := .next (deskRun 0x0A04 (sCommand stacksItems) q s)

/-- STACKS.TRACKER.GET (R354): entries from START, at most 128. -/
def stacksTrackerGet (q : Request) (s : State) : State × Reply :=
  if 255 < u16 q 4 then (s, badParam 4)
  else
    let l := (s.stk.tracker.drop (u16 q 4)).take 128
    let nx := u16 q 4 + l.length
    (s, okBulk (leBytes 2 l.length ++ leBytes 2 (if nx < 256 then nx else 0)) (l.flatMap trackBytes))

def execStacksTrackerGet (q : Request) (s : State) : Out := .next (deskRun 0x0A05 stacksTrackerGet q s)

/-- STACKS.TRACKER.CLEAR (R354, R243). -/
def stacksTrackerClear (q : Request) (s : State) : State × Reply :=
  let w := u32 q 4
  let hit (t : Track) : Bool := w == 0xFFFFFFFF || t.word == w
  let n := (s.stk.tracker.filter fun e => match e with | some t => hit t | none => false).length
  if w ≠ 0xFFFFFFFF ∧ 2147483648 ≤ w then (s, badParam 4)
  else (onStk (fun k => k.freeTracks hit) s, ok (leBytes 2 n))

def execStacksTrackerClear (q : Request) (s : State) : Out := .next (deskRun 0x0A06 stacksTrackerClear q s)

/-- STACKS.ACCESSION.GET (R354): entries from START, at most 512. -/
def stacksAccessionGet (q : Request) (s : State) : State × Reply :=
  let l := (s.stk.log.drop (u16 q 4)).take 512
  let nx := u16 q 4 + l.length
  (s, okBulk (leBytes 2 l.length ++ leBytes 2 (if nx < s.stk.log.length then nx else 0)) (l.flatMap accBytes))

def execStacksAccessionGet (q : Request) (s : State) : Out := .next (deskRun 0x0A07 stacksAccessionGet q s)

/-- Does the Charter grant an access type (bit 0 read, 1 write) at a page (R435, R436)? None
reaches the staging area (R442). -/
def windowGrants (s : State) (p acc : Nat) : Bool :=
  !s.stk.staging.contains p && (List.range (byteAt s.dev.charter 13)).any fun i =>
    let o := 48 + 16 * i
    bit (byteAt s.dev.charter (o + 1)) acc &&
      (if byteAt s.dev.charter o = 0 then natAt s.dev.charter (o + 4) 2 ≤ p && p ≤ natAt s.dev.charter (o + 6) 2
       else s.stk.codeAt p == byteAt s.dev.charter (o + 2))

/-- STACKS.WORD.READ (R354): the stored word before correction and its outcome; nothing is written back or counted.
The Curator reads under the Charter windows (R27, R436); the status of a word that none grants is not stated (log 63). -/
def stacksWordRead (q : Request) (s : State) : State × Reply :=
  if !s.stk.initialised then (s, refuse stBadState)
  else if 2147483648 ≤ u32 q 4 then (s, badParam 4)
  else if !windowGrants s (pageOf (u32 q 4)) 0 then (s, refuse stDenied)
  else
    let v := s.stk.word (u32 q 4)
    let o := match rsDecode v with
      | .clean => 0
      | .corrected _ _ => 1
      | .uncorrectable => 2
    (s, ok (v ++ leBytes 1 o))

def execStacksWordRead (q : Request) (s : State) : Out := .next (deskRun 0x0A08 stacksWordRead q s)

/-- Words that an aperture access of `n` bytes at an offset touches, with the byte range in each (R250). -/
def apertureWords (s : State) (off n : Nat) : List Nat :=
  let a := s.ap.window * 67108864 + off
  if n = 0 then [] else (List.range ((a + n - 1) / 64 - a / 64 + 1)).map fun i => a / 64 + i

/-- Note an access that sets an AP_STATUS bit (R251). -/
def apNote (w : Nat) (wr : Bool) (f : Aperture → Aperture) (s : State) : State :=
  { s with ap := f { s.ap with lastWord := w, lastWrite := wr } }

/-- A refused aperture access (R250): DENIED or RETIRED, and STACKS_APERTURE. -/
def apRefuse (w : Nat) (wr denied : Bool) (s : State) : State :=
  raiseWord 211 w (apNote w wr (fun a => if denied then { a with denied := true } else { a with retired := true }) s)

/-- The first word of an access that is not served, with whether the Charter denies it (judged first, R250). -/
def apStop (s : State) (acc : Nat) (ws : List Nat) : Option (Nat × Bool) :=
  match ws.find? fun w => !windowGrants s (pageOf w) acc with
  | some w => some (w, true)
  | none => (ws.find? fun w => s.stk.retired (pageOf w)).map fun w => (w, false)

/-- A BAR2 read of `n` bytes (R250, R251, R386). -/
def apertureRead (off n : Nat) (s : State) : State :=
  let none_ (s : State) : State := { s with ap := { s.ap with out := none, outEp := false } }
  if s.pwr.st = .sleep || !s.ap.en || !pathServed s .bar0 then none_ s
  else
    let ws := apertureWords s off n
    match apStop s 0 ws with
    | some (w, d) => none_ (apRefuse w false d s)
    | none =>
      let r := ws.foldl (fun (x : List Byte × Option Nat × State) w =>
        let d := stkRead w none false false x.2.2
        (x.1 ++ d.1.data, if d.1.poison then some w else x.2.1, d.2)) ([], none, s)
      let a := s.ap.window * 67108864 + off
      let bs := bytesAt r.1 (a % 64) n
      match r.2.1 with
      | none => { r.2.2 with ap := { r.2.2.ap with out := some bs, outEp := false } }
      | some w =>
        poisonOut 8 (apNote w false (fun x => { x with poison := true, out := some bs, outEp := x.epEn }) r.2.2)

def execApertureRead (off : Fin 67108864) (n : Fin 4097) (s : State) : Out := .next (apertureRead off.val n.val s)

/-- The bytes of an access that fall into a word, and their offset in it. -/
def wordShare (a : Nat) (bs : List Byte) (w : Nat) : Nat × List Byte :=
  let lo := max a (64 * w)
  let hi := min (a + bs.length) (64 * w + 64)
  (lo - 64 * w, bytesAt bs (lo - a) (hi - lo))

/-- A BAR2 write (R250, R238): whole words and narrow writes, in address order. -/
def apertureWrite (off : Nat) (bs : List Byte) (s : State) : State :=
  if s.pwr.st = .sleep || !s.ap.en || !pathServed s .bar0 then s
  else
    let ws := apertureWords s off bs.length
    match apStop s 1 ws with
    | some (w, d) => apRefuse w true d s
    | none =>
      ws.foldl (fun s w =>
        let x := wordShare (s.ap.window * 67108864 + off) bs w
        let rg := s.stk.codeAt (pageOf w)
        if x.2.length = 64 then stkWrite w x.2 0 rg false false false s else stkNarrow w x.1 x.2 rg s) s

def execApertureWrite (off : Fin 67108864) (bs : List Byte) (s : State) : Out := .next (apertureWrite off.val (bs.take 4096) s)

end Sys2Proof.Machine
end

