-- ==== Sys2Proof/Machine/Conv.lean ====
section
/-! DEFINITION. Line converters: measurement, foreground calibration, background rotation, emergency substitution and their
commands (02_converters.md R33 to R51; 14_command_reference.md R342). -/

namespace Sys2Proof.Machine

/-- A converter number from a byte. -/
def convOf (n : Nat) : Fin 8 := ⟨n % 8, Nat.mod_lt _ (by decide)⟩

/-- A converter. -/
def State.conv (s : State) (c : Fin 2) (k : Fin 8) : Conv := s.cars[c].convs[k]

/-- A converter's parameter (R48). -/
def convPar (s : State) (c : Fin 2) (k : Fin 8) (pid : Nat) : Int := getPar s .r48 (objConv c k 0xFF) pid

/-- Mean of the healthy sensors in a list, 1/16 °C; none when none is healthy. -/
def meanHealthy (s : State) (l : List Nat) : Option Int :=
  let h := l.filter fun n => (getNat ({} : Sensor) s.house.sensors n).healthy
  if h.isEmpty then none
  else some (divRound ((h.map fun n => (getNat ({} : Sensor) s.house.sensors n).reading).sum) h.length)

/-- The temperature of R38 of a carrier's converters (R418): its converter row, else its LINE row; with no healthy sensor in
either the highest temperature (log 24). -/
def convTemp (s : State) (c : Fin 2) : Int :=
  match meanHealthy s ((List.range 4).map (· + 4 * c.val)) with
  | some t => t
  | none => (meanHealthy s [8 + 2 * c.val, 9 + 2 * c.val]).getD s.house.tMax

/-- Raise a converter event: OBJ the converter with the slice, SUB the position (R366). -/
def raiseConv (n : Nat) (c : Fin 2) (k : Fin 8) (slice pos : Nat) (s : State) : State :=
  raise n (objConv c k slice) (evtArg 0 pos 0 0) s

/-- The position that a slice holds. -/
def Conv.posOf (x : Conv) (sl : Nat) : Option Nat := x.map.findIdx? (· == sl)

/-- Slices RETIRED. -/
def Conv.retired (x : Conv) : Nat := (x.roles.filter (· == .retired)).length

/-- Slices that are SPARE and not taken by an emergency substitution, lowest first (R42, R45). -/
def Conv.spares (x : Conv) : List Nat :=
  (positions (· == Role.spare) x.roles).filter fun sl => !x.subst.any fun u => u.repl == sl

/-- A converter's Catalogue payload: map, retired slices, selections (R37, R448; layout by the model, log 25). -/
def Conv.payload (x : Conv) : List Byte :=
  x.map.flatMap (leBytes 1) ++ x.roles.flatMap (fun r => leBytes 1 (b2n (r == .retired)))
    ++ x.selection.flatMap (leBytes 12)

/-- The record of a type and instance that the device holds: a pending change first (R449; log 26). -/
def catLookup (s : State) (typ idx : Nat) : List Byte :=
  let k := catKey typ idx
  match s.cat.pending.find? fun x => x.1 == k with
  | some x => x.2
  | none =>
    match (s.cat.writing.getD []).find? fun x => x.1 == k with
    | some x => x.2
    | none => lookupD [] k s.cat.records

/-- Write a converter's record to the Catalogue (R37). -/
def convWrite (c : Fin 2) (k : Fin 8) (s : State) : State :=
  let i := 8 * c.val + k.val
  catChange 0x0001 i (catRecord 0x0001 i (recordSec s) (convTemp s c) (s.conv c k).payload) s

/-- Retire a slice (R46, R49): the Catalogue is written, CONV_SLICE_RETIRED (33) raised, and CONV_SPARES_LOW (34) when 3
slices are then RETIRED. -/
def retireSlice (c : Fin 2) (k : Fin 8) (sl pos : Nat) (s : State) : State :=
  let s1 := convWrite c k (onConv c k (fun x => x.setRole sl .retired) s)
  raiseIf ((s1.conv c k).retired == 3) 34 (objConv c k sl) (evtArg 0 pos 0 0) (raiseConv 33 c k sl pos s1)

/-- The next item of the pass (R44, R50): a position put off and now due, the next position, then the next spare. -/
def Conv.nextItem (x : Conv) : Option Nat :=
  let spare := x.spares.find? fun sl => !x.spareVisited.contains sl
  let usual := match x.todo with
    | p :: _ => some p
    | [] => spare.map (· + 0x100)
  match x.redo with
  | [] => usual
  | p :: _ => if x.redoWait && usual.isSome then usual else some p

/-- Take an item out of the pass. -/
def Conv.dropItem (x : Conv) (i : Nat) : Conv :=
  if i < 128 then
    { x with todo := x.todo.filter (· != i), redo := x.redo.filter (· != i)
             redoWait := x.redoWait && x.redo.contains i }
  else { x with spareVisited := (i - 0x100) :: x.spareVisited, redoWait := false }

/-- A position is visited again after the next item. -/
def Conv.putOff (x : Conv) (p : Nat) : Conv := { x with redo := x.redo ++ [p], redoWait := x.redo.isEmpty }

/-- Positions passed over because their substitution is in progress leave the pass (R44). -/
def Conv.passOver : Nat → Conv → Conv
  | 0, x => x
  | n + 1, x =>
    match x.nextItem with
    | some i => if i < 128 && x.subst.any (fun u => u.pos == i) then Conv.passOver n (x.dropItem i) else x
    | none => x

/-- Begin a new pass: count it and record the temperature (R44, R47). -/
def Conv.newPass (x : Conv) (t : Int) : Conv :=
  { x with passes := bump x.passes, passTemp := t, staleRaised := false, todo := List.range 128, redo := [],
           redoWait := false, spareVisited := [] }

/-- Begin the visit of the next item. -/
def Conv.visit (x : Conv) : Conv :=
  match x.nextItem with
  | none => x
  | some i =>
    if i < 128 then
      { x.dropItem i with rot := .shadowIn, visitPos := some i, standIn := x.spares.head?, measured := none, runs := [] }
    else
      { (x.dropItem i).setRole (i - 0x100) .measuring with
        rot := .spareMeasure, visitPos := none, standIn := none, measured := some (i - 0x100), runs := [] }

/-- SELECT (R44): waiting parameters take effect (R49), then HALTED, or a new pass where this one is complete, and the next
visit. -/
def select (c : Fin 2) (k : Fin 8) (s : State) : State :=
  let s1 := { s with par := s.par.release .r48 (objConv c k 0xFF) }
  let x := s1.conv c k
  if convPar s1 c k 0x20 = 0 ∨ x.spares.isEmpty then
    raiseConv 36 c k 0xFF 0xFF (onConv c k (fun x => { x.clearVisit with rot := .halted }) s1)
  else
    onConv c k (fun x =>
      let y := x.clearVisit.passOver 128
      let z := if y.nextItem.isNone then (y.newPass (convTemp s c)).passOver 128 else y
      z.visit) s1

/-- The replacement that a faulty position gets (R45, step 1): start its alignment, abandon a measurement to free a spare, or
report CONV_NO_SPARE (35). `forced` for R49: a forced retirement that no slice can be freed for returns ST_NO_SPARE as well. A
fault in SHADOW_OUT, of which R45 does not speak, waits for the spare that the visit frees (log 62). -/
def startSubst (c : Fin 2) (k : Fin 8) (sl : Nat) (forced : Bool) (s : State) : State :=
  let x := s.conv c k
  let pos := (x.posOf sl).getD 0xFF
  match x.spares with
  | r :: _ =>
    let s1 := onConv c k (fun x => { x with subst := x.subst ++ [{ pos := pos, faulty := sl, repl := r, forced := forced }] }) s
    if x.rot = .shadowIn ∧ x.standIn = some r then
      let p := x.visitPos.getD 0
      select c k (onConv c k (fun x => if p = pos then x else x.putOff p) s1)
    else s1
  | [] =>
    if x.rot = .measure then
      onConv c k (fun x => { x with rot := .shadowOut, runs := [], abandoned := bump x.abandoned
                                    waitSpare := x.waitSpare ++ [(sl, forced)] }) s
    else if x.rot = .shadowOut ∧ x.visitPos.isSome then onConv c k (fun x => { x with waitSpare := x.waitSpare ++ [(sl, forced)] }) s
    else
      let s1 := raiseConv 35 c k sl pos s
      if forced then endTransition (.conv c k) { status := stNoSpare } s1 else s1

/-- The visit is over: each substitution that waits for a spare starts when one is free, else CONV_NO_SPARE is raised (R45). -/
def serveWaiting (c : Fin 2) (k : Fin 8) (s : State) : State :=
  ((s.conv c k).waitSpare).foldl (fun s w => startSubst c k w.1 w.2 s) (onConv c k (fun x => { x with waitSpare := [] }) s)

/-- The stand-in of a visit is lost (R44, R45): the measured slice takes its position back, the stand-in is retired. -/
def standInLost (c : Fin 2) (k : Fin 8) (s : State) : State :=
  let x := s.conv c k
  match x.visitPos, x.standIn, x.measured with
  | some p, some si, some m =>
    let s1 := onConv c k (fun x => { (x.place p m).clearVisit with
      rot := .select, abandoned := if x.rot = .measure then bump x.abandoned else x.abandoned }) s
    select c k (serveWaiting c k (retireSlice c k si p s1))
  | _, _, _ => s

/-- The measured slice is retired; the stand-in keeps its position (R44). A visit of a position that ends so is not counted as
completed (R50; log 62). -/
def measuredLost (c : Fin 2) (k : Fin 8) (s : State) : State :=
  let x := s.conv c k
  match x.measured with
  | some m =>
    let s1 := onConv c k (fun x => { x.clearVisit with rot := .select }) s
    select c k (serveWaiting c k (retireSlice c k m (x.visitPos.getD 0xFF) s1))
  | none => s

/-- A fault of an active slice (R45): CONV_SLICE_FAULT (32), then the row of R44 or the substitution. -/
def sliceFault (c : Fin 2) (k : Fin 8) (sl : Nat) (s : State) : State :=
  let x := s.conv c k
  let pos := (x.posOf sl).getD 0xFF
  let s1 := raiseConv 32 c k sl pos (onConv c k (fun x => { x with
    sliceFaults := bump x.sliceFaults, faulted := sl :: x.faulted }) s)
  if x.standIn = some sl ∧ (x.rot = .measure ∨ x.rot = .shadowOut) then standInLost c k s1
  else if x.rot = .shadowIn ∧ x.visitPos = some pos then
    /- the visit is abandoned, its spare is SPARE again, and the position leaves the pass -/
    select c k (startSubst c k sl false (onConv c k (fun x => { x.clearVisit with rot := .select }) s1))
  else startSubst c k sl false s1

/-- A slice's window is faulty (R45): the level counts for an ADC (converters 4 to 7) only. -/
def statFaulty (s : State) (c : Fin 2) (k : Fin 8) (t : SliceStat) : Bool :=
  convPar s c k 0x60 < t.mean.natAbs || (4 ≤ k.val && convPar s c k 0x61 < t.level.natAbs)

/-- FAULT_WINDOW_END (R45): active slices faulty in two consecutive windows are in fault. -/
def faultWindow (c : Fin 2) (k : Fin 8) (ts : List SliceStat) (s : State) : State :=
  let x := s.conv c k
  if x.rot = .off ∨ x.rot = .foreground then s
  else
    let bad := (positions (· == Role.active) x.roles).filter fun sl =>
      ts.any fun t => t.slice.val == sl && statFaulty s c k t
    let new_ := bad.filter fun sl => x.faultRun.contains sl && !x.faulted.contains sl
      && !x.subst.any fun u => u.faulty == sl
    new_.foldl (fun s sl => sliceFault c k sl s)
      (onConv c k (fun x => { x with faultRun := bad, faulted := x.faulted.filter bad.contains }) s)

def execFaultWindowEnd (c : Fin 2) (k : Fin 8) (ts : List SliceStat) (s : State) : Out := .next (faultWindow c k ts s)

/-- A slice takes a selection. -/
def Conv.install (x : Conv) (k : Fin 8) (sl sel : Nat) : Conv :=
  if selOk k.val sel then { x with selection := x.selection.set sl sel } else x

/-- EMERGENCY_ALIGN_COMPLETE (R45, R49): the replacement, with the elements that its alignment selected, takes the position, the
faulty slice is retired, and a forced retirement's command completes. -/
def emergencyDone (c : Fin 2) (k : Fin 8) (pos sel : Nat) (s : State) : State :=
  match (s.conv c k).subst.find? fun u => u.pos == pos with
  | none => s
  | some u =>
    let s1 := onConv c k (fun x => { (x.place u.pos u.repl).install k u.repl sel with
      subst := x.subst.filter fun v => v.pos != pos, faulted := x.faulted.filter (· != u.faulty)
      emergencies := bump x.emergencies
      forced := if u.forced then bump x.forced else x.forced }) s
    let s2 := retireSlice c k u.faulty u.pos s1
    if u.forced then endTransition (.conv c k) { status := stOk, payload := leBytes 1 u.pos } s2 else s2

def execEmergencyAlignComplete (c : Fin 2) (k : Fin 8) (pos : Fin 128) (sel : BitVec 96) (s : State) : Out :=
  .next (emergencyDone c k pos.val sel.toNat s)

/-- SHADOW_AGREE (R42, R44): the outputs agree with the elements that the shadowing slice has selected, and the exchange is made
at a LINE clock edge. -/
def shadowAgree (c : Fin 2) (k : Fin 8) (sel : Nat) (s : State) : State :=
  let x := s.conv c k
  match x.rot, x.visitPos, x.standIn, x.measured with
  | .shadowIn, some p, some si, _ =>
    let m := x.map.getD p 0
    onConv c k (fun x => { ((x.setRole m .measuring).place p si).install k si sel with
      rot := .measure, measured := some m, runs := [] }) s
  | .shadowOut, some p, some si, some m =>
    let s1 := onConv c k (fun x =>
      { (((x.place p m).setRole si .spare).install k m sel).clearVisit with rot := .gap, visits := bump x.visits }) s
    serveWaiting c k s1
  | _, _, _, _ => s

def execShadowAgree (c : Fin 2) (k : Fin 8) (sel : BitVec 96) (s : State) : Out := .next (shadowAgree c k sel.toNat s)

/-- SHADOW_TIMEOUT (R44). -/
def shadowTimeout (c : Fin 2) (k : Fin 8) (s : State) : State :=
  let x := s.conv c k
  match x.rot, x.visitPos, x.standIn with
  | .shadowIn, some p, some si =>
    select c k (onConv c k (fun x => { x.putOff p with fails := x.fails.modify si (· + 1) }) s)
  | .shadowOut, _, _ => measuredLost c k s
  | _, _, _ => s

def execShadowTimeout (c : Fin 2) (k : Fin 8) (s : State) : Out := .next (shadowTimeout c k s)

/-- MEASUREMENT_RUN_END (R39): the run's data are kept for a slice being measured. No run chooses elements that R36 does not
allow. -/
def runEnd (c : Fin 2) (k : Fin 8) (sl : Nat) (r : MeasRun) (s : State) : State :=
  onConv c k (fun x =>
    let mine := x.runs.filter fun y => y.1 == sl
    if (x.measured = some sl ∨ x.rot = .foreground) ∧ mine.length < 2 ∧ (r.noSel || selOk k.val r.sel.toNat) = true then { x with runs := x.runs ++ [(sl, r)] } else x) s

def execMeasurementRunEnd (c : Fin 2) (k : Fin 8) (sl : Fin 132) (r : MeasRun) (s : State) : Out :=
  .next (runEnd c k sl.val r s)

/-- The outcome of a measurement (R39). -/
inductive MeasOut where
  | fit (sel : Nat)
  | unfit
  | failed
deriving DecidableEq, Repr

/-- Do residuals meet R36: DAC (converters 0 to 3) or ADC? -/
def residualsOk (k : Fin 8) (r : MeasRun) : Bool :=
  r.r1.natAbs ≤ (if k.val < 4 then 40 else 30) && r.r2.natAbs ≤ (if k.val < 4 then 25 else 15) && r.r3.natAbs ≤ 10
    && r.r4.natAbs ≤ 30

/-- Judge two runs (R39). The slice is unfit when neither run finds a selection; where only one does, the first run's word with
the second run's residuals decides, and the bandwidth is the second run's (log 61). -/
def judgeRuns (s : State) (c : Fin 2) (k : Fin 8) (a b : MeasRun) : MeasOut :=
  if (a.off - b.off).natAbs > convPar s c k 0x40 ∨ (a.gain - b.gain).natAbs > convPar s c k 0x41
      ∨ (a.skew - b.skew).natAbs > convPar s c k 0x42 then .failed
  else if a.noSel ∧ b.noSel then .unfit
  else if residualsOk k b ∧ b.bw.natAbs ≤ 300 then .fit a.sel.toNat
  else .failed

/-- The outcome of a slice's measurement once both runs have ended. -/
def measOutcome (s : State) (c : Fin 2) (k : Fin 8) (sl : Nat) : Option MeasOut :=
  match (s.conv c k).runs.filter fun y => y.1 == sl with
  | [a, b] => some (judgeRuns s c k a.2 b.2)
  | _ => none

/-- SLICE_MEASUREMENT_END (R44): the rows of MEASURE and SPARE_MEASURE. -/
def measurementEnd (c : Fin 2) (k : Fin 8) (s : State) : State :=
  let x := s.conv c k
  match x.measured with
  | none => s
  | some m =>
    match measOutcome s c k m with
    | none => s
    | some o =>
      let isFail := o = .failed
      let n := x.fails.getD m 0 + 1
      let out := o = .unfit ∨ (isFail ∧ convPar s c k 0x50 ≤ n)
      let s1 := onConv c k (fun x => { x with
        measFails := if isFail then bump x.measFails else x.measFails
        fails := if isFail then x.fails.set m n else if o = .unfit then x.fails else x.fails.set m 0
        selection := match o with
          | .fit sel => x.selection.set m sel
          | _ => x.selection }) s
      match x.rot with
      | .measure =>
        if out then measuredLost c k s1 else onConv c k (fun x => { x with rot := .shadowOut, runs := [] }) s1
      | .spareMeasure =>
        let s2 := onConv c k (fun x => { (x.setRole m .spare).clearVisit with rot := .gap, visits := bump x.visits }) s1
        if out then retireSlice c k m 0xFF s2 else s2
      | _ => s

def execSliceMeasurementEnd (c : Fin 2) (k : Fin 8) (s : State) : Out := .next (measurementEnd c k s)

/-- ROTATION_GAP_END (R44). -/
def gapEnd (c : Fin 2) (k : Fin 8) (s : State) : State := if (s.conv c k).rot = .gap then select c k s else s

def execRotationGapEnd (c : Fin 2) (k : Fin 8) (s : State) : Out := .next (gapEnd c k s)

/-- The full-scale compensation of a converter at a temperature (R38): by the coefficients of Factory record 0x0003, whose
coding the spec leaves open (Config.fullScale); none when the record is absent (R451). -/
def fullScale (s : State) (c : Fin 2) (k : Fin 8) (t : Int) : Option Int :=
  (lookupD none 0x0003 (s.boot.factory.map fun x => (x.1, some x.2))).map fun rec => Config.fullScale rec (8 * c.val + k.val) t

/-- The update of one converter (R38), and its stale check (R47). -/
def staleCheck (c : Fin 2) (k : Fin 8) (t : Int) (s : State) : State :=
  let x := s.conv c k
  let above := (convPar s c k 0x70).toNat < (t - x.passTemp).natAbs
  let live := x.rot != .off && x.rot != .foreground
  raiseIf (live && above && !x.staleRaised) 37 (objConv c k 0xFF) (evtArg 0 0xFF 0 0)
    (onConv c k (fun x => { x with temp := t, staleRaised := live && above, fsComp := fullScale s c k t }) s)

/-- CONV_TEMP_UPDATE (R38, R47): every 100 ms the compensation is applied to the mean temperature. -/
def tempUpdate (c : Fin 2) (s : State) : State :=
  (List.finRange 8).foldl (fun s' k => staleCheck c k (convTemp s c) s') s

def execConvTempUpdate (c : Fin 2) (s : State) : Out := .next (tempUpdate c s)

/-- A converter as its Catalogue record gives it (R37, R44). -/
def Conv.load (x : Conv) (rec : List Byte) : Conv :=
  let pl := rec.drop 16
  let map := (List.range 128).map (byteAt pl)
  { x with
    map := map
    roles := (List.range 132).map fun i =>
      if byteAt pl (128 + i) = 1 then .retired else if map.contains i then .active else .spare
    selection := (List.range 132).map fun i => natAt pl (260 + 12 * i) 12
    passTemp := signedOf 16 (natAt rec 14 2), staleRaised := false, loaded := true }

/-- The converter's record in the Catalogue. -/
def convRecord (c : Fin 2) (k : Fin 8) (s : State) : List Byte := catLookup s 0x0001 (8 * c.val + k.val)

/-- A disabled carrier's converter before a command works on it: as its record gives it, when nothing has been loaded since the
full reset (R34, R37). -/
def convReady (c : Fin 2) (k : Fin 8) (s : State) : State :=
  if (s.conv c k).loaded ∨ (s.conv c k).rot ≠ .off ∨ convRecord c k s = [] then s
  else onConv c k (fun x => x.load (convRecord c k s)) s

/-- The converter enters SELECT for an enabled carrier (R44, R45): at the head of a new pass, whatever the pass that the disable
interrupted had left (log 62). -/
def Conv.start (x : Conv) : Conv :=
  { x.clearVisit with rot := .select, todo := List.range 128, redo := [], redoWait := false, spareVisited := [], subst := [],
                      waitSpare := [], faultRun := [], faulted := [] }

/-- Start the converters of an enabled carrier: selections and maps are loaded, then SELECT (R44). -/
def convStart (c : Fin 2) (s : State) : State :=
  (List.finRange 8).foldl (fun s k =>
    select c k (onConv c k (fun x => (x.load (convRecord c k s)).start) s)) s

/-- Does the enable of a carrier need a foreground calibration (R40): a record is missing, or was written more than 40 °C
away from the present temperature? -/
def needsForeground (s : State) (c : Fin 2) : Bool :=
  (List.range 8).any fun k =>
    let r := convRecord c (convOf k) s
    r.isEmpty || 640 < (signedOf 16 (natAt r 14 2) - convTemp s c).natAbs

/-- The slices RETIRED on a carrier's converters, as 132 × converter + slice. -/
def retiredSlices (x : Carrier) : List Nat :=
  (List.range 8).flatMap fun k => (positions (· == Role.retired) (getNat {} x.convs k).roles).map (132 * k + ·)

/-- A converter after its record left the Catalogue (R34): slice p holds position p and slices 128 to 131 are spares. -/
def Conv.default (x : Conv) : Conv :=
  { x with map := List.range 128, roles := List.replicate 128 .active ++ List.replicate 4 .spare, loaded := true }

/-- Converters, as 8 × carrier + converter, return to the default (R34). -/
def convDefaults (is_ : List Nat) (s : State) : State :=
  is_.foldl (fun s i => if i < 16 then onConv (carrierOf (i / 8)) (convOf i) Conv.default s else s) s

/-- Begin a foreground calibration (R40, R44). The slices that it measures keep the roles ACTIVE, SPARE and RETIRED: no slice is
in MEASURING, of which R42 allows one at a time (log 62). -/
def fgStart (c : Fin 2) (byEnable retest : Bool) (s : State) : State :=
  let s1 := (List.finRange 8).foldl (fun s k => convReady c k s) s
  onCar c (fun x => { x with
    fg := some { byEnable := byEnable, retest := retest, retired0 := retiredSlices (s1.car c) }
    convs := x.convs.map fun y => { y.clearVisit with rot := .foreground } }) s1

/-- CONV.CALIBRATE (R49): on a provisioned, disabled carrier. -/
def convCalibrate (q : Request) (s : State) : State × Reply :=
  let c := reqCarrier q
  if (s.car c).enabled ∨ !(s.car c).provisioned ∨ stopHeld c s then (s, refuse stBadState)
  else
    (beginTransition (.conv c 0xFF) 0x0210 q (fgStart c false (bit (u8 q 4) 0) (requestDomain c .run s)), .later)

def execConvCalibrate (q : Request) (s : State) : Out := .next (deskRun 0x0210 convCalibrate q s)

/-- The slices that a group of a foreground calibration measures on a converter (R40): 8 by 8, retired ones only with the
re-test flag; then the repeats, 8 by 8. -/
def Foreground.slices (f : Foreground) (k : Nat) (x : Conv) : List Nat :=
  if f.group < 17 then
    (List.range 132).filter fun i => i / 8 == f.group && (f.retest || x.roles.getD i .spare != .retired)
  else
    (((f.repeats.filter fun r => r / 132 == k).drop (8 * (f.group - 17))).take 8).map (· % 132)

/-- Repeat groups that a calibration needs (R40). -/
def Foreground.repeatGroups (f : Foreground) : Nat :=
  (List.range 8).foldl (fun m k => max m (ceilDiv (f.repeats.filter fun r => r / 132 == k).length 8)) 0

/-- One slice of a group is judged (R41): a first failure is repeated; a second one, or an unfit slice, retires it; a fit one
takes its selection, and a retired one that is fit is SPARE. -/
def judgeForeground (s : State) (c : Fin 2) (f : Foreground) (k : Fin 8) (acc : Foreground × Conv) (sl : Nat) :
    Foreground × Conv :=
  match measOutcome s c k sl with
  | none => acc
  | some (.fit sel) =>
    (acc.1, { acc.2.setRole sl (if acc.2.roles.getD sl .spare = .retired then .spare else acc.2.roles.getD sl .spare) with
      selection := acc.2.selection.set sl sel, fails := acc.2.fails.set sl 0 })
  | some .unfit => (acc.1, acc.2.setRole sl .retired)
  | some .failed =>
    let y := { acc.2 with measFails := bump acc.2.measFails }
    if f.group < 17 then ({ acc.1 with repeats := acc.1.repeats ++ [132 * k.val + sl] }, y) else (acc.1, y.setRole sl .retired)

/-- One converter's slices of a group are judged. -/
def judgeConv (s : State) (c : Fin 2) (f0 : Foreground) (a : Foreground × Carrier) (k : Fin 8) : Foreground × Carrier :=
  let r := (f0.slices k (s.conv c k)).foldl (judgeForeground s c f0 k) (a.1, s.conv c k)
  (r.1, { a.2 with convs := upd a.2.convs k fun _ => { r.2 with runs := [] } })

/-- CALIBRATION_GROUP_END (R40, R41): every converter's slices of the group are judged in parallel. -/
def groupEnd (c : Fin 2) (s : State) : State :=
  match (s.car c).fg with
  | none => s
  | some f =>
    if s.dom c ≠ .run ∨ 17 + f.repeatGroups ≤ f.group then s
    else
      let r := (List.finRange 8).foldl (judgeConv s c f) (f, s.car c)
      onCar c (fun _ => { r.2 with fg := some { r.1 with group := f.group + 1 } }) s

def execCalibrationGroupEnd (c : Fin 2) (s : State) : Out := .next (groupEnd c s)

/-- Positions after a foreground calibration (R41): each slice not retired keeps its own; the others are taken by the lowest
spare available. -/
def Conv.assign (x : Conv) : Conv :=
  let dead (i : Nat) : Bool := x.roles.getD i .retired == .retired
  let r := (List.range 128).foldl (fun (a : List Nat × List Nat) p =>
    if dead p then (a.1 ++ [a.2.headD p], a.2.drop 1) else (a.1 ++ [p], a.2)) ([], [128, 129, 130, 131].filter fun i => !dead i)
  { x with loaded := true, map := r.1, roles := (List.range 132).map fun i => if dead i then .retired else if r.1.contains i then .active else .spare }

/-- The calibration's report (R342). -/
def fgReport (s : State) (c : Fin 2) : Resp :=
  { status := stOk, payload := (s.car c).convs.toList.flatMap fun x => leBytes 1 x.retired }

/-- Events of a calibration on a converter (R46, R51): CONV_SLICE_RETIRED for each slice that was not RETIRED when it began, with
the position that the slice held (`old`: before the positions were assigned), and CONV_SPARES_LOW when the RETIRED slices have
grown to 3 or past it. -/
def fgEvents (c : Fin 2) (f : Foreground) (old : Carrier) (k : Fin 8) (s : State) : State :=
  let x := s.conv c k
  let before := f.retired0.filter fun r => r / 132 == k.val
  let new_ := (positions (· == Role.retired) x.roles).filter fun i => !before.contains (132 * k.val + i)
  let s1 := new_.foldl (fun s i => raiseConv 33 c k i ((old.convs[k].posOf i).getD 0xFF) s) s
  raiseIf (decide (before.length < 3) && decide (3 ≤ x.retired)) 34 (objConv c k 0xFF) (evtArg 0 0xFF 0 0) s1

/-- Is a converter in a visit (R49)? -/
def Conv.inVisit (x : Conv) : Bool := x.rot == .shadowIn || x.rot == .measure || x.rot == .shadowOut || x.rot == .spareMeasure

/-- CONV.ROTATION.SET on one converter (R49): the values wait during a visit; else they act, and turning rotation on leaves
HALTED when a slice is SPARE. -/
def rotationSet (c : Fin 2) (vs : List ParamVal) (s : State) (k : Fin 8) : State :=
  let mine := vs.filter fun v => v.obj == objConv c k 0xFF
  if mine.isEmpty then s
  else if (s.conv c k).inVisit then { s with par := mine.foldl Params.wait s.par }
  else
    let s1 := { s with par := mine.foldl Params.put s.par }
    if (s.conv c k).rot = .halted ∧ convPar s1 c k 0x20 = 1 ∧ !(s.conv c k).spares.isEmpty then select c k s1 else s1

def convRotationSet (q : Request) (rs : List ParRec) (s : State) : State :=
  (List.finRange 8).foldl (rotationSet (reqCarrier q) (recVals 0x0211 q rs)) s

def execConvRotationSet (q : Request) (s : State) : Out :=
  .next (deskRun 0x0211 (pCommand 0x0211 (fun _ _ => none) (convRotationSet q)) q s)

/-- Count a forced retirement (R50). -/
def countForced (c : Fin 2) (k : Fin 8) (s : State) : State := onConv c k (fun x => { x with forced := bump x.forced }) s

/-- CONV.SLICE.RETIRE (R49), by the slice's role. With no spare that can be freed the command returns ST_NO_SPARE, and raises
CONV_NO_SPARE as R45 does (log 62). -/
def convSliceRetire (q : Request) (s0 : State) : State × Reply :=
  let c := reqCarrier q
  let k := convOf (objSub q)
  let sl := objSub2 q
  let s := convReady c k s0
  let x := s.conv c k
  let pos := (x.posOf sl).getD 0xFF
  let isStandIn := x.standIn = some sl ∧ (x.rot = .measure ∨ x.rot = .shadowOut)
  if 4 ≤ x.retired then (s, refuse stNoSpare)
  else if x.subst.any (fun u => u.faulty == sl || u.repl == sl) ∨ x.waitSpare.any (fun w => w.1 == sl)
      ∨ (x.rot = .shadowIn ∧ x.standIn = some sl) then (s, refuse stBadState)
  else
    match x.roles.getD sl .retired with
    | .retired => (s, refuse stBadState)
    | .spare => (countForced c k (retireSlice c k sl 0xFF s), ok (leBytes 1 0xFF))
    | .measuring =>
      match x.visitPos with
      | some p => (measuredLost c k (countForced c k s), ok (leBytes 1 p))
      | none =>
        (retireSlice c k sl 0xFF (onConv c k (fun x =>
          { x.clearVisit with rot := .gap, visits := bump x.visits, forced := bump x.forced }) s), ok (leBytes 1 0xFF))
    | .active =>
      if isStandIn then (standInLost c k (countForced c k s), ok (leBytes 1 pos))
      else if x.rot = .off then
        match x.spares with
        | r :: _ => (countForced c k (retireSlice c k sl pos (onConv c k (fun x => x.place pos r) s)), ok (leBytes 1 pos))
        | [] => (s, refuse stNoSpare)
      else if x.spares.isEmpty ∧ x.rot ≠ .measure ∧ x.rot ≠ .shadowOut then (raiseConv 35 c k sl pos s, refuse stNoSpare)
      else (beginTransition (.conv c k) 0x0212 q (startSubst c k sl true s), .later)

def execConvSliceRetire (q : Request) (s : State) : Out := .next (deskRun 0x0212 convSliceRetire q s)

/-- Codes of a rotation state and a role (R337 over R44; R50). -/
def Rot.code : Rot → Nat
  | .off => 0 | .foreground => 1 | .select => 2 | .shadowIn => 3 | .measure => 4 | .shadowOut => 5 | .spareMeasure => 6
  | .gap => 7 | .halted => 8
def Role.code : Role → Nat
  | .active => 0 | .spare => 1 | .measuring => 2 | .retired => 3

/-- CONV.STATUS (R50). -/
def convItems (q : Request) (s : State) : List StatItem :=
  let x := s.conv (reqCarrier q) (convOf (objSub q))
  [ lst 1 0 (x.map.flatMap (leBytes 1)), lst 2 0 (x.roles.flatMap fun r => leBytes 1 r.code),
    gau 3 0 x.rot.code, gau 3 1 (if x.rot = .off ∨ x.rot = .foreground then 0xFFFF else x.nextItem.getD 0xFFFF), gau 4 0 x.retired, ctr 5 0 x.passes, ctr 6 0 x.visits,
    ctr 7 0 x.measFails, ctr 8 0 x.sliceFaults, ctr 9 0 x.emergencies, ctr 10 0 x.abandoned, sgau 11 0 x.passTemp,
    ctr 12 0 x.forced ]

def execConvStatus (q : Request) (s : State) : Out := .next (deskRun 0x0213 (sCommand convItems) q s)

end Sys2Proof.Machine
end

