-- ==== Sys2Proof/Machine/RxDsp.lean ====
section
/-! DEFINITION. Receive signal processing: acquisition and loss, the dispersion estimate, quality measures and the receive
commands (03_receive_dsp.md R56 to R80; 14_command_reference.md R342). -/

namespace Sys2Proof.Machine

/-- Group that a subcarrier is assigned to; 0xFF for none (R56, R170). Outside HUB and LEAF one group takes them all. -/
def subGroup (s : State) (c : Fin 2) (k : Nat) : Nat := if multiGroup s then (s.car c).groupMap.getD k 0xFF else 0

/-- The subcarriers of a group, and the groups of a carrier (R56). -/
def groupSubs (s : State) (c : Fin 2) (g : Nat) : List Nat := (List.range 16).filter fun k => subGroup s c k == g
def groupsOf (s : State) (c : Fin 2) : List (Fin 16) := (List.finRange 16).filter fun g => !(groupSubs s c g.val).isEmpty

/-- A receive parameter of a group (R78). -/
def rxPar (s : State) (c : Fin 2) (g : Fin 16) (pid : Nat) : Int := getPar s .r78 (objGroup c g) pid

/-- Raise an RX event: OBJ carrier and group, SUB a subcarrier or 0xFF (R366). -/
def raiseRx (n : Nat) (c : Fin 2) (g : Nat) (state sub : Nat) (s : State) : State :=
  raise n (objGroup c g) (evtArg state sub 0 0) s

/-- State of a group's subcarriers. -/
def setSubs (c : Fin 2) (g : Nat) (f : RxSub → RxSub) (s : State) : State :=
  (List.finRange 16).foldl (fun s k => if subGroup s c k.val = g then onSub c k f s else s) s

/-- Parameters that wait for a group take effect at a volume in TRACK, and at its entry to CD_SEARCH (R78). -/
def releaseRx (c : Fin 2) (g : Fin 16) (s : State) : State :=
  { s with par := (s.par.release .r78 (objGroup c g)).release .r78 (objCarrier c) }
def releaseSearch (c : Fin 2) (g : Fin 16) (s : State) : State :=
  let s1 := releaseRx c g s
  { s1 with par := (s1.par.releaseSearch .r78 (objGroup c g)).releaseSearch .r78 (objCarrier c) }

/-- A provisioned carrier's subcarriers are WAIT when a group has them, else UNUSED (R73). -/
def assignSubs (c : Fin 2) (s : State) : State :=
  (List.finRange 16).foldl (fun s k => onSub c k (fun x => { x with
    st := if (s.car c).provisioned && decide (subGroup s c k.val < 16) then .wait else .unused }) s) s

/-- The group that waits for the search engine and has the lowest-numbered subcarrier (R60). -/
def engineNext (s : State) (c : Fin 2) : Option (Fin 16) :=
  ((List.range 16).map fun k => subGroup s c k).findSome? fun g =>
    if h : g < 16 then (if (s.rxg c ⟨g, h⟩).engineWait then some ⟨g, h⟩ else none) else none

/-- Give the free search engine to the next group (R60). -/
def grantEngine (c : Fin 2) (s : State) : State :=
  if (s.rxc c).engine.isSome then s
  else
    match engineNext s c with
    | none => s
    | some g => onRxg c g (fun x => { x with engineWait := false }) (onRx c (fun r => { r with engine := some g }) s)

/-- The group leaves the search engine. -/
def freeEngine (c : Fin 2) (g : Fin 16) (s : State) : State :=
  onRxg c g (fun x => { x with engineWait := false })
    (onRx c (fun r => { r with engine := if r.engine = some g then none else r.engine }) s)

/-- VALID is cleared, in the latest record too (R76). -/
def RxGroup.invalid (x : RxGroup) : RxGroup :=
  { x with valid := false, record := x.record.modify 2 fun b => b &&& 0xFE }

/-- A bulk setting within the filter's reach of ±100,000 ps/nm (R59). -/
def bulkRange (v : Int) : Int := clampInt (-1600000) 1600000 v

/-- Entry to CD_SEARCH (R60, R72, R78), but for the engine: waiting values take effect; with a fixed setting the window centre is
used and the group goes on to CLOCK_ACQ; else it waits for the engine with the window from the held hint or from provisioning. -/
def prepSearch (c : Fin 2) (g : Fin 16) (s : State) : State :=
  let s1 := freeEngine c g (releaseSearch c g s)
  let s2 := setSubs c g.val (fun x => { x with st := .wait }) s1
  if rxPar s2 c g 0x30 = 1 then
    onRxg c g (fun x => { x.invalid with st := .clockAcq, bulk := rxPar s2 c g 0x10, clockLocked := false }) s2
  else
    onRxg c g (fun x => { x.invalid with
      st := .cdSearch, engineWait := true, clockLocked := false
      centre := x.hint.getD (rxPar s2 c g 0x10)
      half := if x.hint.isSome then rxPar s2 c g 0x40 else rxPar s2 c g 0x20 }) s2

/-- Entry to CD_SEARCH: the engine goes to the waiting group with the lowest-numbered subcarrier (R60). -/
def enterSearch (c : Fin 2) (g : Fin 16) (s : State) : State := grantEngine c (prepSearch c g s)

/-- A failure (R72): the consecutive count; RX_ACQ_FAIL (44) when it reaches 3, and again only after a success. -/
def rxFailure (c : Fin 2) (g : Fin 16) (s : State) : State :=
  let x := s.rxg c g
  let hit := x.fails + 1 = 3 ∧ !x.acqFailRaised
  let s1 := onRxg c g (fun x => { x with
    fails := x.fails + 1, acqFails := bump x.acqFails, acqFailRaised := x.acqFailRaised || x.fails + 1 == 3 }) s
  enterSearch c g (raiseIf (decide hit) 44 (objGroup c g) (evtArg 0 0xFF 0 0) s1)

/-- Entry to TRACK (R72, R75): RX_LOCK (41), a new epoch. -/
def enterTrack (c : Fin 2) (g : Fin 16) (s : State) : State :=
  raiseRx 41 c g 0 0xFF (onRxg c g (fun x => { x with
    st := .track, fails := 0, acqFailRaised := false, epoch := (x.epoch + 1) % 65536, acquisitions := bump x.acquisitions
    reacq := 0 < x.acquisitions, totals := [], valid := false, halfOut := false, moved := false
    segs := [], synced := false, volStart := false, closing := false }) s)

/-- A group is not in TRACK: folio alignment is lost (R181), and the key schedule waits for a good KEY field (R182). -/
def folioLost (c : Fin 2) (g : Fin 16) (s : State) : State :=
  let was := (s.fol c g).lof
  let s1 := onCry c g (fun k => { k with rxSync := false, rxArmed := none })
    (onFol c g (fun f => { f with lof := true, hcrcRun := 0, goodRun := 0, lastGood := none, jumpRun := 0 }) s)
  raiseIf (!was) 128 (objGroup c g) (evtArg 1 0 0 0) s1

/-- Take the dimensions that hold the first `n` stream bits of a folio (R111). -/
def takeDims : Nat → List Dim → List Dim × List Dim
  | _, [] => ([], [])
  | n, d :: r => if n = 0 then ([], d :: r) else (d :: (takeDims (n - d.llr.length) r).1, (takeDims (n - d.llr.length) r).2)

/-- A group out of TRACK has its open codeword still to complete; without codeword boundaries there is none (R112). -/
def RxGroup.leave (x : RxGroup) : RxGroup :=
  { x with closing := x.synced, segs := if x.synced then x.segs else [], volStart := false }

/-- The group leaves TRACK for CD_SEARCH (R72): RX_LOL (42), and the total dispersion is kept as a hint (R60). -/
def loseTrack (c : Fin 2) (g : Fin 16) (s : State) : State :=
  enterSearch c g (folioLost c g <| raiseRx 42 c g 0 0xFF (onRxg c g (fun x => { x.leave with
    hint := some (if x.totals.isEmpty then x.bulk else x.cdTotal), losses := bump x.losses }) s))

/-- A group's receiver without its estimates and hints; counts, EPOCH and the mark of RX_ACQ_FAIL stay (R72). -/
def RxGroup.idle (x : RxGroup) : RxGroup :=
  { epoch := x.epoch, acquisitions := x.acquisitions, acqFails := x.acqFails, losses := x.losses, bulkMoves := x.bulkMoves }

/-- A subcarrier without its estimates. -/
def RxSub.idle (x : RxSub) : RxSub := { slips := x.slips, losses := x.losses }

/-- Carrier disabled or its domain leaves RUN (R72, row "Any"): estimates and hints are discarded. -/
def rxOff (c : Fin 2) (s : State) : State :=
  (List.finRange 16).foldl (fun s g => onFol c g (fun f => { f with
    lof := false, sliceDef := false, auth := false, clearDef := false, noKey := false, rxKnown := false, lastGood := none
    tagFailRun := 0, tagGoodRun := 0, clearRun := 0, sliceRun := 0, sliceGood := 0, leafRun := 0, adopt := none }) s) <|
  assignSubs c <|
  onRx c (fun r => { r with
    st := .off, los := true, engine := none, fe := ({}, {}), shift := 0
    groups := r.groups.map RxGroup.idle, subs := r.subs.map RxSub.idle }) s

/-- The receiver of an enabled carrier whose converters have passed FOREGROUND (R72, R73). LOS stands declared until it is first
cleared, with no event (DEDUCED from the worked example of 03_receive_dsp.md; log 64). -/
def rxStart (c : Fin 2) (s : State) : State :=
  (groupsOf s c).foldl (fun s g => folioLost c g s) (assignSubs c (onRx c (fun r => { r with st := .signalWait, los := true }) s))

/-- The receive part of LOS_DECLARE (R71, R72, R74). -/
def rxLos (c : Fin 2) (s : State) : State :=
  let past := (s.rxc c).st = .frontEnd ∨ (s.rxc c).st = .running
  let s1 := onRx c (fun r => { r with los := true, losCount := bump r.losCount }) s
  let s2 := raiseRx 40 c 0xFF 1 0xFF s1
  if past then
    (groupsOf s2 c).foldl (fun s g => folioLost c g <| setSubs c g.val (fun x => { x with st := .wait }) (onRxg c g (fun x => { (if x.st = .track then x.leave else x) with
        hint := if x.st = .track then some (if x.totals.isEmpty then x.bulk else x.cdTotal) else x.hint
        st := .off, engineWait := false, clockLocked := false, valid := false, record := x.invalid.record }) s))
      (onRx c (fun r => { r with st := .signalWait, engine := none }) s2)
  else s2

/-- The receive part of LOS_CLEAR (R71, R72). -/
def rxLosClear (c : Fin 2) (s : State) : State :=
  raiseRx 40 c 0xFF 0 0xFF (onRx c (fun r => { r with
    los := false, st := if r.st = .signalWait then .frontEnd else r.st }) s)

/-- FRONT_END_DONE (R58, R72): corrections are set and each group enters CD_SEARCH. -/
def frontEndDone (c : Fin 2) (x y : FrontEnd) (s : State) : State :=
  if (s.rxc c).st = .frontEnd then
    grantEngine c ((groupsOf s c).foldl (fun s g => prepSearch c g s)
      (onRx c (fun r => { r with st := .running, fe := (x.inRange, y.inRange) }) s))
  else s

def execFrontEndDone (c : Fin 2) (x y : FrontEnd) (s : State) : Out := .next (frontEndDone c x y s)

/-- The coarse candidates of a search (R60): the multiples of 500 ps/nm within the window (1/16 ps/nm). -/
def coarseCands (centre half : Int) : List Int :=
  ((List.range 401).map fun i => 8000 * (Int.ofNat i - 200)).filter fun v => centre - half ≤ v && v ≤ centre + half

/-- The fine candidates about the best coarse one: steps of 25 ps/nm within ±500 ps/nm. -/
def fineCands (best : Int) : List Int := (List.range 41).map fun i => best + 400 * (Int.ofNat i - 20)

/-- The candidate with the highest clock-tone metric, the first of equals (which of equals: log 27). Metrics stand in the
candidates' order. -/
def bestOf (cands : List Int) (ms : List Nat) : Option (Int × Nat) :=
  (cands.zip ms).foldl (fun b x => match b with
    | some y => if y.2 < x.2 then some x else b
    | none => some x) none

/-- What a search finds (R60): the best fine candidate, none when its metric lies below the detection threshold, which the spec
does not give (Config.cdThreshold). -/
def cdFound (x : RxGroup) (coarse fine : List Nat) : Option Int :=
  match bestOf (coarseCands x.centre x.half) coarse with
  | none => none
  | some b =>
    match bestOf (fineCands b.1) fine with
    | none => none
    | some y => if y.2 < Config.cdThreshold then none else some y.1

/-- CD_SEARCH_END (R59, R60, R72): the clock-tone metrics of the candidates of both stages. The search ends with the best
candidate, or fails and drops a held hint. -/
def cdSearchEnd (c : Fin 2) (coarse fine : List Nat) (s : State) : State :=
  match (s.rxc c).engine with
  | none => s
  | some g =>
    match cdFound (s.rxg c g) coarse fine with
    | some b => grantEngine c (freeEngine c g (onRxg c g (fun x => { x with st := .clockAcq, bulk := bulkRange b }) s))
    | none => rxFailure c g (onRxg c g (fun x => { x with hint := none }) s)

def execCdSearchEnd (c : Fin 2) (coarse fine : List Nat) (s : State) : Out := .next (cdSearchEnd c coarse fine s)

/-- CLOCK_LOCK (R63, R72): with the far clock's offset in 1/1,024 ppm, within ±100 ppm. -/
def execClockLock (c : Fin 2) (g : Fin 16) (off : Int) (s : State) : Out :=
  .next (onRxg c g (fun x =>
    if x.st = .clockAcq ∧ off.natAbs ≤ 102400 then { x with st := .freqAcq, clockOff := off, clockLocked := true } else x) s)

/-- CLOCK_LOSS (R63, R72). -/
def clockLoss (c : Fin 2) (g : Fin 16) (s : State) : State := if (s.rxg c g).st = .track then loseTrack c g s else s

/-- The acquisition range of a group, MHz (R57, R66). -/
def freqRange (s : State) (c : Fin 2) (g : Fin 16) : Int :=
  if s.dev.mode = some .hub then 100
  else if rxPar s c g 0x80 = 0 then 1000 else if rxPar s c g 0x80 = 1 then 2500 else 5000

/-- Set a group's frequency offset, MHz: as the correction after the channeliser in HUB (R57), else as the common shift before it
(R62). -/
def setFreq (c : Fin 2) (g : Fin 16) (off : Int) (s : State) : State :=
  let hub := s.dev.mode = some .hub
  onRxg c g (fun x => { x with freqOff := off, postShift := if hub then off else 0 })
    (onRx c (fun r => { r with shift := if hub then 0 else off }) s)

/-- FREQ_ACQUIRED (R57, R62, R66): an offset found within the range, MHz. -/
def freqAcquired (c : Fin 2) (g : Fin 16) (off : Int) (s : State) : State :=
  if (s.rxg c g).st = .freqAcq ∧ off.natAbs ≤ (freqRange s c g).toNat then
    setFreq c g off (onRxg c g (fun x => { x with st := .trainSync }) s)
  else s

def execFreqAcquired (c : Fin 2) (g : Fin 16) (off : Int) (s : State) : Out := .next (freqAcquired c g off s)

/-- FREQ_LOSS (R66): the tracked offset leaves the range by more than 500 MHz. -/
def freqLoss (c : Fin 2) (g : Fin 16) (off : Int) (s : State) : State :=
  if (s.rxg c g).st = .track ∧ (freqRange s c g).toNat + 500 < off.natAbs then
    loseTrack c g (setFreq c g off s)
  else s

/-- A subcarrier's equaliser starts on training (R65, R73). -/
def RxSub.train (x : RxSub) : RxSub := { x with st := .acq, pilots := 0, mism := 0, quadX := 0, quadY := 0, tapShift := 0 }

/-- TRAINING_FOUND (R65, R72, R73): at the same position in 3 consecutive folios. -/
def trainingFound (c : Fin 2) (g : Fin 16) (s : State) : State :=
  if (s.rxg c g).st = .trainSync then
    setSubs c g.val RxSub.train (onRxg c g (fun x => { x with st := .eqAcq }) s)
  else s

def execTrainingFound (c : Fin 2) (g : Fin 16) (s : State) : Out := .next (trainingFound c g s)

/-- Subcarriers of a group that are LOCKED. -/
def lockedSubs (s : State) (c : Fin 2) (g : Nat) : Nat :=
  ((List.finRange 16).filter fun k => subGroup s c k.val == g && (s.rxc c).subs[k].st == .locked).length

/-- A group of EQ_ACQ whose subcarriers are all LOCKED enters TRACK (R72). -/
def eqDone (c : Fin 2) (g : Nat) (s : State) : State :=
  if h : g < 16 then
    if (s.rxg c ⟨g, h⟩).st = .eqAcq ∧ lockedSubs s c g = (groupSubs s c g).length then enterTrack c ⟨g, h⟩ s else s
  else s

/-- More than half of a group's subcarriers are not LOCKED (R72). -/
def mostOut (s : State) (c : Fin 2) (g : Nat) : Bool :=
  decide ((groupSubs s c g).length < 2 * ((groupSubs s c g).length - lockedSubs s c g))

/-- A lock ends the span in which more than half were not LOCKED (R72: a whole volume). -/
def halfCheck (c : Fin 2) (g : Nat) (s : State) : State :=
  if mostOut s c g then s else onRx c (fun r => { r with groups := updNat r.groups g fun x => { x with halfOut := false } }) s

/-- SUBCARRIER_LOCKED (R73). -/
def subLocked (c : Fin 2) (k : Fin 16) (s : State) : State :=
  if (s.rxc c).subs[k].st = .acq then
    eqDone c (subGroup s c k.val) (halfCheck c (subGroup s c k.val) (onSub c k (fun x => { x with st := .locked }) s))
  else s

def execSubcarrierLocked (c : Fin 2) (k : Fin 16) (s : State) : Out := .next (subLocked c k s)

/-- SUBCARRIER_ACQ_TIMEOUT (R73). -/
def execSubcarrierAcqTimeout (c : Fin 2) (k : Fin 16) (s : State) : Out :=
  .next (onSub c k (fun x => if x.st = .acq then { x with st := .lost } else x) s)

/-- ACQUISITION_TIMEOUT (R72): failure, or TRACK from EQ_ACQ with at least half of the subcarriers LOCKED. -/
def acqTimeout (c : Fin 2) (g : Fin 16) (s : State) : State :=
  match (s.rxg c g).st with
  | .clockAcq | .freqAcq | .trainSync => rxFailure c g s
  | .eqAcq => if (groupSubs s c g).length ≤ 2 * lockedSubs s c g then enterTrack c g s else rxFailure c g s
  | _ => s

def execAcquisitionTimeout (c : Fin 2) (g : Fin 16) (s : State) : Out := .next (acqTimeout c g s)

/-- LOST subcarriers of a group in TRACK start again on the training of a folio (R73). -/
def reacquireSubs (c : Fin 2) (g : Fin 16) (s : State) : State :=
  if (s.rxg c g).st = .track then setSubs c g.val (fun x => if x.st = .lost then x.train else x) s else s

/-- The quadrants of slip that pilots show, in all. -/
def slipSum (ps : List (Int × Fin 4)) : Fin 4 := ps.foldl (fun a p => a + p.2) 0

/-- A folio's pilots of a subcarrier and polarisation (R67, R73): a phase error above π/4 is a mismatch; at each quadrant slip the
phase is corrected and the slip counted. -/
def RxSub.hear (x : RxSub) (p : PilotRun) : RxSub :=
  { x with
    pilots := x.pilots + p.pilots.length, mism := x.mism + (p.pilots.filter fun e => decide (8192 < e.1.natAbs)).length
    slips := satAdd x.slips (p.pilots.filter fun e => e.2 != 0).length
    quadX := if p.y then x.quadX else x.quadX + slipSum p.pilots, quadY := if p.y then x.quadY + slipSum p.pilots else x.quadY }

/-- The pilots of a folio reach the phase estimators of the group's subcarriers in ACQ and LOCKED (R67). -/
def hearPilots (c : Fin 2) (g : Fin 16) (ps : List PilotRun) (s : State) : State :=
  ps.foldl (fun s p =>
    if subGroup s c p.k.val = g.val then
      onSub c p.k (fun x => if x.st = .acq ∨ x.st = .locked then x.hear p else x) s
    else s) s

/-- The lock and loss tests of one subcarrier over a volume (R73): the lock test needs a whole volume's 65,536 pilots. -/
def subVolume (c : Fin 2) (g : Fin 16) (s : State) (k : Fin 16) : State :=
  if subGroup s c k.val ≠ g.val then s
  else
    let x := (s.rxc c).subs[k]
    let s1 := onSub c k (fun x => { x with pilots := 0, mism := 0 }) s
    match x.st with
    | .locked =>
      if 8192 < x.mism then
        raiseRx 43 c g 0 k (onSub c k (fun x => { x with st := .lost, losses := bump x.losses }) s1)
      else s1
    | .acq => if 65536 ≤ x.pilots ∧ x.mism ≤ 1024 then onSub c k (fun x => { x with st := .locked }) s1 else s1
    | _ => s1

/-- Floor of the base-2 logarithm, at most 12 (R75; where the number of volumes is no power of two: log 27). -/
def log2le12 (n : Nat) : Nat := ((List.range 13).filter fun i => 2 ^ i ≤ n).foldl max 0

/-- The slope of a least-squares fit of delay (0.001 ps) against wavelength (0.0001 nm), in 1/16 ps/nm; none without two distinct
wavelengths. -/
def fitSlope (l : List (Int × Int)) : Option Int :=
  let n : Int := l.length
  let sd := (l.map (·.1)).sum
  let sw := (l.map (·.2)).sum
  let num := n * (l.map fun p => p.1 * p.2).sum - sw * sd
  let den := n * (l.map fun p => p.2 * p.2).sum - sw * sw
  if den ≤ 0 then none else some (divRound (160 * num) den.toNat)

/-- The residual dispersion of a group (R61), 1/16 ps/nm: by the fit over its LOCKED subcarriers; with one of them, across its
equaliser taps; with none, nothing is measured (log 27). -/
def residual (s : State) (c : Fin 2) (g : Fin 16) (v : RxVolume) : Option Int :=
  let on := v.delays.filter fun d => subGroup s c d.1.val == g.val && (s.rxc c).subs[d.1].st == .locked
  if lockedSubs s c g.val = 0 then none
  else if lockedSubs s c g.val = 1 then some v.tapResid
  else fitSlope (on.map (·.2))

/-- A volume in the averaging window of R76. -/
def RxGroup.measured (x : RxGroup) (win : Nat) (resid : Option Int) : List Int :=
  match resid with
  | some r => ((x.bulk + r) :: x.totals).take win
  | none => x.totals.take win

/-- The dispersion record of a volume (R75, R76) and then the bulk move of R61, once the averaging window has filled (DEDUCED
from the worked example: the record carries the setting before the move; log 27). Without a measure CD_TOTAL is the setting. -/
def RxGroup.volume (x : RxGroup) (c : Fin 2) (gnum win vol sigma : Nat) (resid : Option Int) : RxGroup :=
  let tot := x.measured win resid
  let mean := if tot.isEmpty then x.bulk else divRound tot.sum tot.length
  let full := x.valid || decide (win ≤ tot.length)
  let mv := if full then bulkRange (x.bulk + clampInt (-400) 400 (mean - x.bulk)) - x.bulk else 0
  let flags := b2n full + 2 * b2n x.moved + 4 * b2n x.reacq
  { x with
    totals := tot, cdTotal := mean, sigma := min sigma 65535, valid := full
    record := leBytes 1 c.val ++ leBytes 1 gnum ++ leBytes 1 flags
      ++ leBytes 1 (log2le12 tot.length) ++ leBytes 4 (codeOf 32 mean) ++ leBytes 4 (codeOf 32 x.bulk)
      ++ leBytes 4 (codeOf 32 (mean - x.bulk)) ++ leBytes 2 (min sigma 65535) ++ leBytes 2 x.epoch ++ leBytes 4 vol
    reacq := false, moved := mv ≠ 0, bulk := x.bulk + mv, bulkMoves := if mv = 0 then x.bulkMoves else bump x.bulkMoves }

/-- The dispersion estimate of a group at a volume boundary: the record, the move, and with a move the matching shift of every
equaliser's taps (R61). -/
def dispersion (c : Fin 2) (g : Fin 16) (v : RxVolume) (s : State) : State :=
  let x := s.rxg c g
  let y := x.volume c (if s.dev.mode = some .hub then g.val else 0) (rxPar s c g 0x50).toNat (s.fol c g).rxVolume v.sigma
    (residual s c g v)
  setSubs c g.val (fun k => { k with tapShift := k.tapShift + (y.bulk - x.bulk) }) (onRxg c g (fun _ => y) s)

/-- A group in TRACK follows the far laser within the range and 500 MHz (R66) and the far clock within ±100 ppm (R63). -/
def trackFar (c : Fin 2) (g : Fin 16) (v : RxVolume) (s : State) : State :=
  let s1 := if v.freq.natAbs ≤ (freqRange s c g).toNat + 500 then setFreq c g v.freq s else s
  onRxg c g (fun x => { x with clockOff := if v.clock.natAbs ≤ 102400 then v.clock else x.clockOff }) s1

/-- The clip check over a volume (R58): RX_FE_CLIP (45) above 1 in 10,000, again only after a volume below 1 in 100,000. -/
def clipCheck (c : Fin 2) (clipped samples : Nat) (s : State) : State :=
  let hi := samples < 10000 * clipped
  raiseIf (decide hi && !(s.rxc c).clipRaised) 45 (objGroup c 0xFF) (evtArg 0 0xFF 0 0) (onRx c (fun r => { r with
    clipped := satAdd r.clipped clipped
    clipRaised := if hi then true else if 100000 * clipped < samples then false else r.clipRaised }) s)

/-- RX_VOLUME_BOUNDARY (R58, R61, R63, R66, R72, R73, R75, R78). -/
def rxVolumeBoundary (c : Fin 2) (g : Fin 16) (v : RxVolume) (s : State) : State :=
  let s1 := clipCheck c v.clipped v.samples (onRx c (fun r => { r with
    fe := if r.st = .running then (v.fe.1.inRange, v.fe.2.inRange) else r.fe }) s)
  let s2 := (List.finRange 16).foldl (subVolume c g) s1
  match (s2.rxg c g).st with
  | .eqAcq => eqDone c g.val s2
  | .track =>
    let out := mostOut s2 c g
    if out && (s2.rxg c g).halfOut then loseTrack c g s2
    else dispersion c g v (trackFar c g v (onRxg c g (fun x => { x with halfOut := out, volStart := true }) (releaseRx c g s2)))
  | _ => s2

/-- A value of SNR in its range of −10 to 40 dB (R77). -/
def snrClamp (v : Int) : Int := max (-2560) (min 10240 v)

/-- The quality of one subcarrier (R77): RX_SNR_LOW (46) below the threshold, again only after recovery by 1 dB. -/
def subQuality (c : Fin 2) (g : Fin 16) (s : State) (m : Fin 16 × SubQuality) : State :=
  if subGroup s c m.1.val ≠ g.val then s
  else
    let q := m.2
    let thr := rxPar s c g 0xC0
    let snr := 100 * (snrClamp q.snrX + snrClamp q.snrY)
    let low := decide (0 < thr ∧ snr < 512 * thr)
    raiseIf (low && !(s.rxc c).subs[m.1].snrLow) 46 (objGroup c g) (evtArg 0 0xFF 0 0) (onSub c m.1 (fun x => { x with
      snrX := snrClamp q.snrX, snrY := snrClamp q.snrY, gmi := min q.gmi 65535, dgd := q.dgd, pdl := q.pdl, rotRate := q.rot
      snrLow := if low then true else if 512 * (thr + 100) ≤ snr then false else x.snrLow }) s)

/-- At a window's end the pre-FEC counts of its codewords and folios join the totals (R77). -/
def preFec (c : Fin 2) (s : State) : State :=
  onRx c (fun r => { r with
    preFecBits := List.zipWith satAdd r.preFecBits r.winBits, preFecErrs := List.zipWith satAdd r.preFecErrs r.winErrs
    winBits := List.replicate 4 0, winErrs := List.replicate 4 0 }) s

/-- Does an object of the receive parameters name a group (the carrier's own rows: any group) in a state? -/
def rxAny (s : State) (c : Fin 2) (ob : Nat) (p : RxGroupState → Bool) : Bool :=
  (List.finRange 16).any fun g => (ob == objCarrier c || ob == objGroup c g) && p (s.rxg c g).st

/-- RXDSP.SET and RXDSP.CD.HINT (R78): a value for a group in TRACK waits for its next volume, one for a group that is acquiring
for the next entry to CD_SEARCH. -/
def rxdspSet (op : Nat) (q : Request) (rs : List ParRec) (s : State) : State :=
  let c := reqCarrier q
  { s with par := (recVals op q rs).foldl (fun p v =>
      if rxAny s c v.obj (· == .track) then p.wait v
      else if rxAny s c v.obj (· != .off) then p.waitSearch v
      else p.put v) s.par }

def execRxdspSet (q : Request) (s : State) : Out :=
  .next (deskRun 0x0301 (pCommand 0x0301 (fun _ _ => none) (rxdspSet 0x0301 q)) q s)
def execRxdspCdHint (q : Request) (s : State) : Out :=
  .next (deskRun 0x0302 (pCommand 0x0302 (fun _ _ => none) (rxdspSet 0x0302 q)) q s)

/-- Codes of the states (R337 over R72 and R73). A carrier past FRONT_END shows CD_SEARCH (DEDUCED, log 27). -/
def RxCarrierState.code : RxCarrierState → Nat
  | .off => 0 | .signalWait => 1 | .frontEnd => 2 | .running => 3
def RxGroupState.code (cs : RxCarrierState) : RxGroupState → Nat
  | .off => cs.code | .cdSearch => 3 | .clockAcq => 4 | .freqAcq => 5 | .trainSync => 6 | .eqAcq => 7 | .track => 8
def ScState.code : ScState → Nat
  | .unused => 0 | .wait => 1 | .acq => 2 | .locked => 3 | .lost => 4

/-- Front-end corrections as an array of 4-byte entries. -/
def feBytes (f : FrontEnd) : List Byte :=
  ([f.skew, f.skewXY, f.gain, f.quad, f.dcI, f.dcQ] ++ f.amp).flatMap fun v => leBytes 4 (codeOf 32 v)

/-- RXDSP.STATUS (R80): of a carrier, or of one group of it. -/
def rxItems (q : Request) (s : State) : List StatItem :=
  let c := reqCarrier q
  let r := s.rxc c
  let gs := if objSub q = 0xFF then groupsOf s c else [reqGroup q]
  let ks := (List.finRange 16).filter fun k => objSub q == 0xFF || subGroup s c k.val == objSub q
  let pg (f : Fin 16 → RxGroup → StatItem) := gs.map fun g => f g (r.groups[g])
  let ps (f : Fin 16 → RxSub → StatItem) := ks.map fun k => f k (r.subs[k])
  [gau 1 0 r.st.code] ++ pg (fun g x => gau 1 1 (x.st.code r.st) g.val) ++ ps (fun k x => gau 1 2 x.st.code k.val)
    ++ pg (fun g x => lst 2 0 x.record g.val) ++ pg (fun g x => sgau 3 0 x.freqOff g.val)
    ++ pg (fun g x => sgau 4 0 x.clockOff g.val) ++ ps (fun k x => gau 5 0 x.dgd k.val) ++ ps (fun k x => gau 5 1 x.pdl k.val)
    ++ ps (fun k x => gau 6 0 x.rotRate k.val)
    ++ ks.flatMap (fun k => [sgau 7 0 r.subs[k].snrX (2 * k.val), sgau 7 0 r.subs[k].snrY (2 * k.val + 1)])
    ++ ps (fun k x => gau 7 1 x.gmi k.val)
    ++ ((List.range 4).map fun i => ctr 8 0 (r.preFecErrs.getD i 0) i)
    ++ ((List.range 4).map fun i => ctr 8 1 (r.preFecBits.getD i 0) i)
    ++ [lst 9 0 (feBytes r.fe.1) 0, lst 9 0 (feBytes r.fe.2) 1, ctr 10 0 r.clipped]
    ++ pg (fun g x => ctr 11 0 x.acquisitions g.val) ++ pg (fun g x => ctr 11 1 x.acqFails g.val) ++ [ctr 12 0 r.losCount]
    ++ pg (fun g x => ctr 13 0 x.losses g.val) ++ ps (fun k x => ctr 13 1 x.losses k.val) ++ ps (fun k x => ctr 14 0 x.slips k.val)
    ++ pg (fun g x => ctr 15 0 x.bulkMoves g.val)

def execRxdspStatus (q : Request) (s : State) : Out := .next (deskRun 0x0304 (sCommand rxItems) q s)

end Sys2Proof.Machine
end

