-- ==== Sys2Proof/Machine/Chutes.lean ====
section
/-! DEFINITION. The Chutes between the islands (01_organisation.md R15 to R25; 15_events_census.md R370, R373). Which pairs have
which index is the model's choice (log 10). -/

namespace Sys2Proof.Machine

/-- A Chute's identity (R378): producer island, consumer island, class (0 Wide, 1 Narrow, 2 Control), instance. -/
structure ChuteId where
  prod : Nat
  cons : Nat
  cls : Nat
  inst : Nat := 0
deriving DecidableEq, Repr

/-- Islands other than the CURATOR, in the order of R370. -/
def otherIslands : List Nat := List.range 24 ++ [25, 26]

/-- Chutes in the order of their index (R15, R16, R26, R27, R29; log 10). -/
def chuteTable : List ChuteId :=
  (otherIslands.map fun k => { prod := 24, cons := k, cls := 2 })
    ++ (otherIslands.map fun k => { prod := k, cons := 24, cls := 2 })
    ++ (otherIslands.map fun k => { prod := k, cons := 24, cls := 2, inst := 1 })
    ++ ([0, 1].flatMap fun c => (List.range 8).map fun p => { prod := c, cons := 2 + p, cls := 0 })
    ++ ((List.range 8).flatMap fun p => [{ prod := 2 + p, cons := 18, cls := 0 }, { prod := 18, cons := 2 + p, cls := 0 }])
    ++ ([0, 1].flatMap fun c => [{ prod := c, cons := 18, cls := 0 }, { prod := 18, cons := 10 + c, cls := 0 },
      { prod := 10 + c, cons := 18, cls := 0 }, { prod := 10 + c, cons := c, cls := 0 }, { prod := 10 + c, cons := 11 - c, cls := 0 }])
    ++ ((List.range 4).flatMap fun k => [{ prod := 18, cons := 19 + k, cls := 0 }, { prod := 19 + k, cons := 18, cls := 0 }])
    ++ ((List.range 6).flatMap fun o => [{ prod := 12 + o, cons := 18, cls := 1 }, { prod := 18, cons := 12 + o, cls := 1 }])
    ++ ([0, 1].flatMap fun c => [{ prod := 10 + c, cons := 23, cls := 1 }, { prod := 23, cons := 10 + c, cls := 1 }])
    ++ ([0, 1].flatMap fun c => { prod := c, cons := 10 + c, cls := 0 } :: { prod := 10 + c, cons := 24, cls := 2, inst := 2 }
      :: (List.range 6).map fun o => { prod := 10 + c, cons := 12 + o, cls := 1 })
    ++ ((List.range 8).flatMap fun p => [{ prod := 2 + p, cons := 2 + (p + 1) % 8, cls := 0 }, { prod := 2 + (p + 1) % 8, cons := 2 + p, cls := 0 }])

/-- The identity of an index; none for an index that is not used. -/
def chuteId (k : Nat) : Option ChuteId := chuteTable[k]?

/-- Stages, data bits and check bits of a class, and the items of its largest packet (R16). -/
def chuteStages (cls : Nat) : Nat := if cls = 2 then 8 else 16
def chuteDataBits (cls : Nat) : Nat := if cls = 0 then 1024 else if cls = 1 then 256 else 64
def chuteCheckBits (cls : Nat) : Nat := if cls = 0 then 12 else if cls = 1 then 10 else 8
def chutePacket (cls : Nat) : Nat := if cls = 2 then 8 else 16

/-- The producers that run at a fixed rate (R20): the receive path of a LINE island, the Interloan receiver of a FRAME island and
the ingress of a CLIENT island (which Chutes they write is part of log 10). -/
def ChuteId.fixedRate (i : ChuteId) : Bool :=
  (i.prod < 2 && i.cls == 0) || ((i.prod == 10 || i.prod == 11) && i.cls == 2 && i.inst == 2) || (12 ≤ i.prod && i.prod < 18 && i.cls == 1)

/-- The power domain of an island; none for the core and the always-on islands (R12, R390). -/
def islandDomain (k : Nat) : Option Nat :=
  if k < 2 then some k else if k < 10 then some (8 + (k - 2)) else if k < 12 then some (k - 10) else if k < 18 then some (2 + (k - 12))
  else if 19 ≤ k ∧ k < 23 then some (16 + (k - 19)) else none

/-- Is an island in RUN and out of reset (R25, R374)? The core islands stop in SLEEP and below, but for the TIME island, which runs in
SLEEP, and the AON island, which always runs (R386); all but the AON island are held in reset while RESET_N is low (R510). -/
def islandRun (s : State) (k : Nat) : Bool :=
  match islandDomain k with
  | some d => !s.boot.resetLow && s.dom d == .run
  | none => k == 26 || (!s.boot.resetLow && (s.pwr.st == .run || s.pwr.st == .idle || (k == 23 && s.pwr.st == .sleep)))

/-- A Chute is open while both its islands are in RUN (R25). -/
def chuteOpen (s : State) (x : ChuteId) : Bool := islandRun s x.prod && islandRun s x.cons

/-- The register that holds a Chute's packet counter (R18, R25): the counter, and whether the Chute is closed. -/
def chuteRegister (s : State) (k : Fin 256) : Option (Nat × Bool) :=
  (chuteId k.val).map fun i => (s.chutes[k].packets, !chuteOpen s i)

/-- Items in a Chute, the Census mark apart (R373). -/
def Chute.held (c : Chute) : Nat := (c.items.filter fun x => x != .mark).length

/-- The majority of three copies of a mark (R17). -/
def vote3 (b : BitVec 3) : Bool :=
  (b.getLsbD 0 && b.getLsbD 1) || (b.getLsbD 0 && b.getLsbD 2) || (b.getLsbD 1 && b.getLsbD 2)

/-- Put an item in: it becomes the newest; the peak follows the occupancy (R15, R23); the stall of R24 is counted from here when
the Chute was empty. -/
def Chute.enter (tick : Nat) (x : Item) (c : Chute) : Chute :=
  let c1 := { c with
    items := c.items ++ [InChute.item x false], written := bump c.written
    since := if c.held = 0 then tick else c.since }
  { c1 with peak := max c1.peak c1.held }

/-- The producer's count of the items of a packet that has no end mark yet (R17). -/
def Chute.packetOf (x : Item) (c : Chute) : Chute := { c with open_ := if vote3 x.endMark then 0 else c.open_ + 1 }

/-- An incomplete write completes once the input stage has emptied (R19), unless the Chute is closed: a closed Chute accepts no
new item, and a write that was waiting when it closed completes after it has opened again (DESIGN CHOICE, log 58). -/
def Chute.settle (isOpen : Bool) (n tick : Nat) (c : Chute) : Chute :=
  match c.pendingWrite with
  | some x =>
    if c.held < n then (if isOpen then { c.enter tick x with pendingWrite := none, shut := false } else { c with shut := true }) else c
  | none => c

/-- Update a Chute. -/
def onChute (k : Fin 256) (f : Chute → Chute) (s : State) : State := { s with chutes := upd s.chutes k f }

/-- Raise an event of a Chute with its identity (R366). -/
def raiseChute (n : Nat) (k : Fin 256) (x : ChuteId) (s : State) : State :=
  raise n objDevice (evtArg 0 x.cls (x.prod + 256 * x.cons) k.val) s

/-- A write that waited while the Chute was closed completes when it is open again (log 58). -/
def chuteSettle (k : Fin 256) (i : ChuteId) (s : State) : State :=
  onChute k (fun c => c.settle (chuteOpen s i) (chuteStages i.cls) s.dev.ticks) s

/-- CHUTE_WRITE (R15 to R17, R19, R20, R25): the item enters, or its write waits for the input stage. A producer that runs at a
fixed rate discards the item that comes while one waits, poisons the one that waits and counts an overrun; another producer does
not write again before its write is complete. No producer sends a packet longer than the class's largest: the item that would
make it so is not written. -/
def chuteWrite (k : Fin 256) (x : Item) (s : State) : State :=
  match chuteId k.val with
  | none => s
  | some i =>
    let s := chuteSettle k i s
    let c := s.chutes[k]
    if !chuteOpen s i then s
    else
      match c.pendingWrite with
      | some p =>
        if i.fixedRate then raiseChute 0 k i (onChute k (fun c => { c with
          pendingWrite := some { p with poison := 7 }, overrun := bump c.overrun }) s)
        else s
      | none =>
        if chutePacket i.cls ≤ c.open_ + 1 ∧ !vote3 x.endMark then s
        else if c.held < chuteStages i.cls then onChute k (fun c => (c.enter s.dev.ticks x).packetOf x) s
        else onChute k (fun c => { c with pendingWrite := some x }.packetOf x) s

def execChuteWrite (k : Fin 256) (data : Nat) (errs : Nat) (endMark poison : BitVec 3) (s : State) : Out :=
  let w := match chuteId k.val with
    | some i => chuteDataBits i.cls
    | none => 0
  .next (chuteWrite k { data := data % 2 ^ w, errs := errs, endMark := endMark, poison := poison } s)

/-- The oldest item that has not come to rest comes to rest; an end-marked one raises the packet counter (R18). -/
def restFirst : List InChute → List InChute × Bool
  | [] => ([], false)
  | .item x false :: r => (InChute.item x true :: r, vote3 x.endMark)
  | y :: r => (y :: (restFirst r).1, (restFirst r).2)

def Chute.rest (c : Chute) : Chute :=
  let r := restFirst c.items
  { c with items := r.1, packets := c.packets + b2n r.2 }

/-- The consumer side absorbs the marks at its output stage, at once and without a read (R373). A mark that comes before the
consumer's own latch fixes the taken count of the snapshot there (DEDUCED, log 45: the relation of R373 holds in either order). -/
def absorbMarks (k : Nat) (s : State) (c : Chute) : Chute × State :=
  match c.items with
  | .mark :: r =>
    let early := c.counting.isNone
    let c1 := { c with items := r, inFlight := c.counting.getD 0, counting := none }
    (c1, if early then onCen (fun z => { z with busy := z.busy.map fun sn => { sn with
        takenCells := putKey k [c.corrected, c.uncorr, c.peak, c.taken] sn.takenCells } }) s else s)
  | _ => (c, s)

/-- CHUTE_MARK_ABSORB (R373): the in-flight count of the Chute is fixed. -/
def chuteAbsorb (k : Fin 256) (s : State) : State :=
  let r := absorbMarks k.val s s.chutes[k]
  onChute k (fun _ => r.1) r.2

def execChuteMarkAbsorb (k : Fin 256) (s : State) : Out := .next (chuteAbsorb k s)

/-- Take the item at the output stage (R17, R19, R21, R23). -/
def Chute.take (isOpen : Bool) (n tick : Nat) (c : Chute) : Chute :=
  match c.items with
  | .item x rest :: r =>
    let bad := 2 ≤ x.errs
    let c1 := { c with
      items := r
      packets := if rest && vote3 x.endMark then c.packets - 1 else c.packets
      corrected := if x.errs = 1 then bump c.corrected else c.corrected
      uncorr := if bad then bump c.uncorr else c.uncorr
      taken := bump c.taken
      counting := c.counting.map (· + 1)
      stalled := false
      reading := false
      since := tick
      out := some (x.data, vote3 x.endMark, vote3 x.poison || bad)
      fresh := c.fresh + 1
      poisonAt := if vote3 x.poison || bad then c.poisonAt ++ [c.fresh] else c.poisonAt }
    c1.settle isOpen n tick
  | _ => c

/-- An item stands at the output stage: the oldest one has come to rest (R15, R18, R19). -/
def Chute.ready (c : Chute) : Bool :=
  match c.items with
  | .item _ rest :: _ => rest
  | _ => false

/-- The transmit DSP counts every poisoned item that it takes from its FRAME island (04_transmit_bitloading.md R102). -/
def countPoison (i : ChuteId) (bad : Bool) (s : State) : State :=
  if bad && (i.prod == 10 || i.prod == 11) && i.cons < 2 then
    { s with tx := upd s.tx (carrierOf i.cons) fun t => { t with poisoned := bump t.poisoned } }
  else s

/-- The consumer takes the item at the output stage: an uncorrectable one is delivered poisoned and raises CHUTE_UNCORR (R21). -/
def chuteTake (k : Fin 256) (i : ChuteId) (s : State) : State :=
  let c := s.chutes[k]
  let s1 := onChute k (fun c => c.take (chuteOpen s i) (chuteStages i.cls) s.dev.ticks) s
  match c.items with
  | .item x _ :: _ =>
    let s2 := countPoison i (vote3 x.poison || 2 ≤ x.errs) s1
    if 2 ≤ x.errs then raiseChute 1 k i s2 else s2
  | _ => s1

/-- CHUTE_READ (R17, R19, R21, R22, R25): the item at the output stage is delivered after its check. A read that finds none there
stalls until one reaches that stage; a closed Chute that holds no item is not read. The word that an uncorrectable item delivers
is the one that arrives. -/
def chuteRead (k : Fin 256) (s : State) : State :=
  match chuteId k.val with
  | none => s
  | some i =>
    let s1 := chuteAbsorb k (chuteSettle k i s)
    let c := s1.chutes[k]
    if c.ready then chuteTake k i s1
    else if c.held = 0 ∧ !chuteOpen s1 i then s1
    else onChute k (fun c => { c with reading := true }) s1

def execChuteRead (k : Fin 256) (s : State) : Out := .next (chuteRead k s)

/-- CHUTE_ITEM_REST (R18, R19): the oldest falling item comes to rest; a read that stalled for it takes it. -/
def chuteRest (k : Fin 256) (s : State) : State :=
  match chuteId k.val with
  | none => s
  | some i =>
    let s1 := onChute k Chute.rest (chuteSettle k i s)
    if s1.chutes[k].reading && s1.chutes[k].ready then chuteTake k i s1 else s1

def execChuteItemRest (k : Fin 256) (s : State) : Out := .next (chuteRest k s)

/-- CHUTE_STALL (R24): once per stall, when the Chute has held an item and none has been taken for longer than the stall limit. -/
def chuteStall (k : Fin 256) (s : State) : State :=
  match chuteId k.val with
  | none => s
  | some i =>
    let c := s.chutes[k]
    if c.held = 0 ∨ c.stalled ∨ (s.dev.ticks - c.since) * 16 ≤ s.dev.stallNs * 10 then s
    else raiseChute 2 k i (onChute k (fun c => { c with stalled := true }) s)

def execChuteStall (k : Fin 256) (s : State) : Out := .next (chuteStall k s)

/-- The items that came poisoned among those a consumer has taken from a Chute since it last used them (R22), numbered from 0, and
the state in which they are used. -/
def chutePoison (prod cons : Nat) (s : State) : List Nat × State :=
  match chuteTable.findIdx? fun i => i.prod == prod && i.cons == cons && i.cls != 2 with
  | some k => ((getNat {} s.chutes k).poisonAt, { s with chutes := updNat s.chutes k fun c => { c with fresh := 0, poisonAt := [] } })
  | none => ([], s)

end Sys2Proof.Machine
end

