-- ==== Sys2Proof/Machine/Coding.lean ====
section
/-! DEFINITION. The line code as arithmetic: the LDPC code and its decoding (05_readers_decoding.md R106 to R111, R117), the
generators of the line, the periods of a folio and its fixed symbols (07_folio_encryption.md R161 to R166), and the preamble of a
burst (06_interloan.md R138, R139). -/

namespace Sys2Proof.Machine

/-- A generator x^n + x^t + 1: the next bit and the register that follows. The register holds the last n bits, the latest in bit 0;
each new bit is the sum of those n and t places back, and is the output (which bit is the output: log 68). -/
def prbsStep (n t r : Nat) : Nat × Bool :=
  let o := r.testBit (n - 1) != r.testBit (t - 1)
  ((2 * r + b2n o) % 2 ^ n, o)

/-- Bits 0 to k − 1 of a generator from a seed, and the register's content after k bits. -/
def prbsBits (n t : Nat) : Nat → Nat → List Bool
  | 0, _ => []
  | k + 1, r => (prbsStep n t r).2 :: prbsBits n t k (prbsStep n t r).1
def prbsSkip (n t : Nat) : Nat → Nat → Nat
  | 0, r => r
  | k + 1, r => prbsSkip n t k (prbsStep n t r).1

/-- The bits of bytes in send order, most significant first (R8), and a byte of eight of them. -/
def sendBits (bs : List Byte) : List Bool := bs.flatMap fun b => (List.range 8).map fun k => b.getLsbD (7 - k)

/-- XOR bytes with a generator's output, most significant bit first (R139, R163, R166). -/
def prbsXor (n t : Nat) : Nat → List Byte → List Byte
  | _, [] => []
  | r, b :: bs =>
    let y := (prbsBits n t 8 r).foldl (fun a o => 2 * a + b2n o) 0
    (b ^^^ BitVec.ofNat 8 y) :: prbsXor n t (prbsSkip n t 8 r) bs

/-- Scramble or descramble bytes with x^15 + x^14 + 1 seeded with ones at the first bit (R139, R163). -/
def scramble (bs : List Byte) : List Byte := prbsXor 15 14 0x7FFF bs

/-- A field of the overhead block from its offset, as received: descrambled (R163). -/
def ohField (off : Nat) (bs : List Byte) : List Byte := (scramble (List.replicate off 0 ++ bs)).drop off

/-- Symbol number j of a bit sequence that pairs give (R138). -/
def pairSym (l : List Bool) (j : Nat) : Qpsk := { i := l.getD (2 * j) false, q := l.getD (2 * j + 1) false }

/-- The negative of a QPSK symbol. -/
def Qpsk.neg (z : Qpsk) : Qpsk := { i := !z.i, q := !z.q }

/-- The preamble of a burst (R137, R138): A (64 symbols), B four times (16), then training with C then C on X and C then −C on Y. -/
def preamble : List DualQpsk :=
  let l := prbsBits 7 6 288 0x7F
  let both (z : Qpsk) : DualQpsk := { x := z, y := z }
  let c := (List.range 64).map fun j => pairSym l (80 + j)
  ((List.range 64).map fun j => both (pairSym l j))
    ++ (List.range 64).map (fun j => both (pairSym l (64 + j % 16)))
    ++ c.map both ++ c.map fun z => { x := z, y := z.neg }

/-- Four bits a symbol in send order to X I, X Q, Y I, Y Q (R139). -/
def qpskSyms (l : List Bool) : List DualQpsk :=
  (List.range (ceilDiv l.length 4)).map fun k => { x := pairSym l (2 * k), y := pairSym l (2 * k + 1) }

/-- What a period of a folio carries on a subcarrier (R161); overhead with its rank among the overhead periods, data with its rank
among the data periods. -/
inductive Period where
  | pilot (j : Nat)
  | training
  | overhead (r : Nat)
  | data (r : Nat)
deriving DecidableEq, Repr

/-- Overhead periods of each subcarrier of a group of n (R161). -/
def ohPeriods (n : Nat) : Nat := ceilDiv 352 n

/-- Data periods per subcarrier and folio, N_d(n) (R161). -/
def dataPeriods (n : Nat) : Nat := 3937 - ohPeriods n

/-- The use of period i in a group of n subcarriers (R161): i − 32 − i/32 + 1 periods from 33 to i are no pilots. -/
def periodOf (n i : Nat) : Period :=
  if i % 32 = 0 then .pilot (i / 32)
  else if i < 32 then .training
  else
    let r := i - 32 - i / 32
    if r < ohPeriods n then .overhead r else .data (r - ohPeriods n)

/-- The data periods of a folio in ascending order (R111, R161). -/
def dataPeriodList (n : Nat) : List Nat :=
  (List.range 4096).filter fun i => match periodOf n i with | .data _ => true | _ => false

/-- A pilot or training symbol of subcarrier k (R162). -/
def pilotSym (k j : Nat) : DualQpsk :=
  let z (p : Nat) : Qpsk := pairSym (prbsBits 11 9 256 (64 * k + 32 * p + 1)) j
  { x := z 0, y := z 1 }
def trainSym (k i : Nat) : DualQpsk :=
  let z (p : Nat) : Qpsk := pairSym (prbsBits 9 5 62 (32 * k + 16 * p + 1)) (i - 1)
  { x := z 0, y := z 1 }

/-- The overhead symbol with rank r on the subcarrier that is the kk-th of its group of n (R163): periods ascending, and within a
period the subcarriers ascending. `oh` is the scrambled block of 352 symbols; what the periods left over carry when n does not divide 352 is open (log 68). -/
def ohSym (n : Nat) (oh : List Bool) (r kk : Nat) : DualQpsk :=
  let b (i : Nat) : Bool := oh.getD (4 * (r * n + kk) + i) (Config.ohPad (4 * (r * n + kk) + i))
  { x := { i := b 0, q := b 1 }, y := { i := b 2, q := b 3 } }

/-- Bit levels of a dimension, and those of them in the LDPC code (R106), by format code: QPSK, 16QAM, 64QAM, 256QAM. -/
def fmtLevels (f : Nat) : Nat := f + 1
def fmtCoded (f : Nat) : Nat := if f = 0 then 1 else 2

/-- The amplitude that a label selects in a dimension (R106): the levels lie at −(2^L − 1), …, 2^L − 1 in steps of 2 from the top,
numbered by the binary reflected Gray code (R106 gives the code, not the end it starts from: log 68). -/
def grayIndex (l : Nat) : Nat → Nat
  | 0 => l
  | n + 1 => Nat.xor l (grayIndex (l / 2) n)
def grayAmp (f label : Nat) : Int := 2 ^ fmtLevels f - 1 - 2 * Int.ofNat (grayIndex (label % 2 ^ fmtLevels f) 4)

/-- Base rows m_b and information columns of a rate (R108). -/
def baseRows (rate : Nat) : Nat := if rate = 0 then 16 else if rate = 1 then 12 else 8
def infoCols (rate : Nat) : Nat := 80 - baseRows rate

/-- The circulants of base row i (R109): base column and shift. -/
def rowBlocks (rate i : Nat) : List (Nat × Nat) :=
  let m := baseRows rate
  let k := infoCols rate
  ((List.range k).filter fun j => j % m == i || (j + 3) % m == i || (j + 7) % m == i).map
      (fun j => (j, (37 * i * j + 11 * j + 5 * i) % 256))
    ++ ((List.range m).filter fun t => t == i || (t + 1 == i && t + 1 < m)).map fun t => (k + t, 0)

/-- The code bits of check z of base row i (R109). -/
def checkBits (rate i z : Nat) : List Nat := (rowBlocks rate i).map fun b => 256 * b.1 + (z + b.2) % 256

/-- Rotate a column of 256 bits so that bit z becomes bit (z + s) mod 256 of the column (R109). -/
def rotCol (w sh : Nat) : Nat := (w / 2 ^ sh + w * 2 ^ (256 - sh)) % 2 ^ 256

/-- The 256 checks of base row i over code bits, as bits 1 where unsatisfied (R109). -/
def rowSyndrome (rate : Nat) (bits : List Byte) (i : Nat) : Nat :=
  (rowBlocks rate i).foldl (fun a b => Nat.xor a (rotCol (leNat (bytesAt bits (32 * b.1) 32)) b.2)) 0

/-- Number of checks unsatisfied by the hard decisions of a codeword (R117, R118). -/
def unsatisfied (rate : Nat) (bits : List Byte) : Nat :=
  ((List.range (baseRows rate)).map fun i =>
    let w := rowSyndrome rate bits i
    ((List.range 256).filter fun z => w.testBit z).length).sum

/-- Encoding by back-substitution, row by row (R108, R109): the parity column of row i is what the row's other columns sum to. -/
def ldpcEncode (rate : Nat) (info : List Byte) : List Byte :=
  let k := infoCols rate
  (List.range (baseRows rate)).foldl (fun bs i => bs ++ leBytes 32 (rowSyndrome rate (padTo 2560 bs) i)) (padTo (32 * k) info)

/-- Code bit at a stream position (R110), and the stream order of a codeword's bits. -/
def codePos (j : Nat) : Nat := 4099 * j % 20480
def streamOrder (code : List Byte) : List Bool :=
  let v := leNat code
  (List.range 20480).map fun j => v.testBit (codePos j)

/-- Hard decisions of the channel LLRs in code-bit order (R110, R120): the sign is the top bit of an LLR (log 30). -/
def hardBits (llr : List Byte) : List Byte :=
  let v := leNat llr
  leBytes 2560 ((List.range 20480).foldl (fun a j => if v.testBit (5 * j + 4) then a + 2 ^ codePos j else a) 0)

/-- Pack bits, the first in bit 0 of the first byte; pack 5-bit LLRs likewise (R122). -/
def packBits (l : List Bool) : List Byte := leBytes (ceilDiv l.length 8) (l.reverse.foldl (fun a b => 2 * a + b2n b) 0)
def packLlr (l : List Nat) : List Byte := leBytes 12800 (l.reverse.foldl (fun a v => 32 * a + v % 32) 0)

/-- A message brought to 7 bits, sign and magnitude (R117). -/
def msgSat (v : Int) : Int := clampInt (-63) 63 v

/-- The magnitude of a check's message (R117): the minimum times the factor, in 1/16; how a fraction is rounded is open. -/
def normMag (f16 mag : Nat) : Nat :=
  mag * f16 / 16 + (if mag * f16 % 16 = 0 then 0 else b2n (Config.minSumUp (mag * f16 % 16)))

/-- One check of a layered normalised min-sum iteration (R117): `es` are its edges, as the number of the message and the code bit. -/
def minSumCheck (f16 : Nat) (es : List (Nat × Nat)) (x : Array Int × Array Int) : Array Int × Array Int :=
  let ts := es.map fun e => (e, msgSat (x.1.getD e.2 0 - x.2.getD e.1 0))
  ts.zipIdx.foldl (fun y t =>
    let others := (ts.eraseIdx t.2).map (·.2)
    let neg := (others.filter (· < 0)).length % 2 == 1
    let mag := others.foldl (fun m v => min m v.natAbs) 63
    let r : Int := if neg then -(normMag f16 mag : Int) else normMag f16 mag
    (y.1.modify t.1.1.2 (fun _ => t.1.2 + r), y.2.modify t.1.1.1 fun _ => r)) x

/-- One iteration (R117): the base rows in order, each check of a row on its own edges. -/
def minSumIter (rate f16 : Nat) (x : Array Int × Array Int) : Array Int × Array Int :=
  ((List.range (baseRows rate)).foldl (fun (y : Nat × Array Int × Array Int) i =>
    let d := (rowBlocks rate i).length
    (y.1 + 256 * d, (List.range 256).foldl (fun a z =>
      minSumCheck f16 ((checkBits rate i z).zipIdx.map fun b => (y.1 + d * z + b.2, b.1)) a) y.2)) (0, x)).2

/-- Messages of all checks of a rate. -/
def edgeCount (rate : Nat) : Nat := 256 * ((List.range (baseRows rate)).map fun i => (rowBlocks rate i).length).sum

/-- Where decoding begins (R117): the channel LLRs by code bit, sign and magnitude (log 30), and messages of 0. -/
def llrVal (v : Nat) : Int := if v % 32 / 16 = 1 then -((v % 16 : Nat) : Int) else (v % 16 : Nat)
def minSumStart (rate : Nat) (llr : List Byte) : Array Int × Array Int :=
  let v := leNat llr
  ((List.range 20480).foldl (fun a j => a.modify (codePos j) fun _ => llrVal (field v (5 * j) 5)) (Array.replicate 20480 0),
    Array.replicate (edgeCount rate) 0)

/-- Hard decisions of the sums, in code-bit order: a negative sum is a 1. -/
def minSumBits (post : Array Int) : List Byte :=
  leBytes 2560 ((List.range 20480).foldl (fun a b => if post.getD b 0 < 0 then a + 2 ^ b else a) 0)

/-- Bytes of a slice in a folio, B_s (R168), for a symbol rate in MBd. -/
def sliceBytes (symRate : Nat) : Nat := 4 * (204768000 / symRate)

/-- The slices' shares of a folio laid into its payload area: word w belongs to slice w mod m (R168). -/
def layArea (m b : Nat) (shares : List (List Byte)) : List Byte :=
  (List.range (m * (b / 4))).flatMap fun w => bytesAt (shares.getD (w % m) []) (4 * (w / m)) 4

/-- A slice's share of a payload area (R168). -/
def shareOf (m b : Nat) (area : List Byte) (i : Nat) : List Byte :=
  (List.range (b / 4)).flatMap fun w => bytesAt area (4 * (m * w + i)) 4

/-- A byte of an ODUC frame stream that is ODUC-AIS (R165, R181): all ones but for the frame alignment bytes, MFAS and the OTU
overhead of row 1 columns 1 to 14 (ITU-T G.709: PRESUMED, log 42). `p` counts bytes from a frame with MFAS 0. -/
def aisByte (p : Nat) : Byte :=
  let i := p % 15296
  if i < 3 then 0xF6 else if i < 6 then 0x28 else if i = 6 then BitVec.ofNat 8 (p / 15296) else if i < 14 then 0 else 0xFF

/-- A folio's payload area with ODUC-AIS in every slice, from the position that the slices' frames have reached. -/
def aisArea (m b pos : Nat) : List Byte :=
  layArea m b (List.replicate m ((List.range b).map fun i => aisByte (pos + i)))

/-- Scramble or descramble a folio's payload area with x^31 + x^28 + 1 (R166): seeded with ones at the first payload bit of FOLIO 0
of each volume; `cap` is the number of bits of a folio's area with its fill. -/
def folioScramble (folio cap : Nat) (bs : List Byte) : List Byte := prbsXor 31 28 (prbsSkip 31 28 (cap * folio) (2 ^ 31 - 1)) bs

end Sys2Proof.Machine
end

