-- ==== Sys2Proof/Machine/TimeServo.lean ====
section
/-! DEFINITION. The time-of-day counter, the time servo, 1PPS and serial time, the Colophon and the PTP transparent clock
(11_time_references.md R255 to R272, R283 to R286). -/

namespace Sys2Proof.Machine

/-- 0.001 ppm as a rate in 2^-48. -/
def ppmRate (milli : Int) : Int := divRound (milli * 2 ^ 48) 1000000000

/-- The slew limit in 2^-48 (R262). -/
def slewLimit (s : State) : Int := ppmRate (getPar s .r285 objTime 0xD1)

/-- Clamp an integer to ±b. -/
def clampAbs (b v : Int) : Int := if v > b then b else if v < -b then -b else v

/-- A snapshot is between its first and its last latch (R375). -/
def latching (s : State) : Bool :=
  match s.cen.busy with
  | some sn => sn.latched.length < 27 && !sn.latched.isEmpty
  | none => false

/-- The waiting step takes place (R257); between the first and last latch of a snapshot it is held back (R375). -/
def applyStep (s : State) : State :=
  if latching s then s
  else
    let set (t : Nat) : State := pmStep s.time.tod t (onTime (fun x => { x with tod := t, stepTo := none, stepBy := none }) s)
    match s.time.stepTo, s.time.stepBy with
    | some t, _ => set (t * todUnit)
    | none, some d => set (Int.toNat ((s.time.tod : Int) + d * todUnit))
    | none, none => s

/-- TIME_TICK (R256): `n` ticks of the TIME island advance the TOD by 1.6 ns × (1 + ρ) each, with a `TIME.ADJUST` offset
being removed at the slew limit (R262), and a waiting step is made. The cleaned clock counts the ticks (R12, R516). -/
def timeTick (n : Nat) (s : State) : State :=
  let t := s.time
  let lim := max 0 (slewLimit s)
  let amt : Int := if t.adjust ≥ 0 then min t.adjust (n * 8 * lim) else -(min (-t.adjust) (n * 8 * lim))
  let rate := if t.adjust = 0 then t.rho else 0
  let adv : Int := n * 8 * (2 ^ 48 + rate) + amt
  applyStep { s with dev := { s.dev with ticks := s.dev.ticks + n },
                     time := { t with tod := t.tod + adv.toNat, adjust := t.adjust - amt } }

/-- The TIME island has no clock in DEEP_SLEEP, in OFF and under RESET_N (R386, R510). -/
def execTimeTick (n : Nat) (s : State) : Out := .next (if coreUp s then timeTick n s else s)

/-- The source that a code of R357 names. -/
def sourceOf (code : Nat) : Option Source :=
  if code = 1 then some .pps else if code = 2 then some .host else if code = 3 then some .mate
  else if 0x10 ≤ code ∧ code < 0x30 then some (.colophon (carrierOf ((code - 0x10) / 16)) (groupOf ((code - 0x10) % 16)))
  else none

/-- The provisioned primary and backup (R259). -/
def primary (s : State) : Option Source := sourceOf (getParN s .r285 objTime 0x90)
def backup (s : State) : Option Source := sourceOf (getParN s .r285 objTime 0x91)

/-- A link's provisioned role, mode and delays (R267). -/
def linkRole (s : State) (c : Fin 2) (g : Fin 16) : Nat := getParN s .r285 (objLink c g) 0xE0
def linkPar (s : State) (c : Fin 2) (g : Fin 16) (pid : Nat) : Int := getPar s .r285 (objLink c g) pid

/-- Validity of a source (R259, R268). -/
def sourceValid (s : State) : Source → Bool
  | .pps => 3 ≤ s.time.ppsRun && !s.time.ppsLos
  | .host => s.time.hostSet
  | .mate => s.time.mateValid
  | .colophon c g =>
    let l := s.lnk c g
    let r := s.rxg c g
    linkRole s c g == 2 && r.st == .track && r.valid && l.burstFresh && l.goodTx && l.goodRx &&
      match l.burst with
      | some b => b.role == 0 && bit b.flags 0 && bit b.flags 1
      | none => false

/-- The source the servo uses now (R259). -/
def chooseSource (s : State) : Option Source :=
  match primary s with
  | some p => if s.time.primary10 && sourceValid s p then some p else pickBackup s
  | none => pickBackup s
where
  /-- The backup while it is valid, otherwise none. -/
  pickBackup (s : State) : Option Source :=
    match backup s with
    | some b => if sourceValid s b then some b else none
    | none => none

/-- The candidate code that a source's events carry in SUB (R366, R357); 0 where none applies. -/
def sourceObj (src : Option Source) : Nat :=
  match src with
  | some (.colophon c g) => objLink c g
  | _ => objTime

/-- Choose the source in use again; a change raises TIME_SRC_CHANGE (230) and moves the servo (R259, R261). -/
def reselect (s : State) : State :=
  let p10 := match primary s with
    | some p => s.time.primary10 && sourceValid s p
    | none => false
  let s0 := onTime (fun t => { t with primary10 := p10 }) s
  let src := chooseSource s0
  if src = s0.time.inUse then s0
  else
    let s1 := raise0 230 (sourceObj src) (onTime (fun t => { t with inUse := src, winSum := 0, winCount := 0 })
      { s0 with par := s0.par.release .r285 objTime })
    match src, s1.time.servo with
    | none, .acquire => raise0 231 objTime (onTime (fun t => { t with servo := .holdover, traceable := false }) s1)
    | none, .locked => raise0 231 objTime (onTime (fun t => { t with servo := .holdover, traceable := false }) s1)
    | some _, .free => onTime (fun t => { t with servo := .acquire }) s1
    | some _, .holdover => onTime (fun t => { t with servo := .locked }) s1
    | _, _ => s1

/-- What makes a source cease to be valid, or the primary complete 10 s (R259). -/
def timeSourceTimer (w : SourceTimer) (s : State) : State :=
  match w with
  | .ppsEdgeMissing => reselect (onTime (fun t => { t with ppsRun := 0 }) s)
  | .todMessageMissing => reselect (onTime (fun t => { t with ppsRun := 0, todMsg := none }) s)
  | .burstMissing c g => reselect (onLink c g (fun l => { l with burstFresh := false }) s)
  | .primaryTenSeconds =>
    match primary s with
    | some p => if sourceValid s p then reselect (onTime (fun t => { t with primary10 := true }) s) else reselect s
    | none => s

def execTimeSourceTimer (w : SourceTimer) (s : State) : Out := .next (timeSourceTimer w s)

/-- The window length in milliseconds, for a source in use (R260): volumes last 256 × 65,536 symbol periods. -/
def windowMs (s : State) : Int :=
  match s.time.inUse with
  | some (.colophon c _) =>
    divRound (getPar s .r285 objTime 0xA1 * 16777216) ((s.car c).symRate * 1000)
  | _ => getPar s .r285 objTime 0xA0

/-- Slew by θ̄ (R262): ρ_int gains θ̄ W / τ², ρ = ρ_int + θ̄ / τ, limited. θ̄ is in 2^-16 ns. -/
def slew (th : Int) (s : State) : State :=
  let tau := getPar s .r285 objTime 0xD0
  let dInt := divRound (th * windowMs s * 2 ^ 32) (tau * tau * 1000000).toNat
  let ri := s.time.rhoInt + dInt
  let r := clampAbs (slewLimit s) (ri + divRound (th * 2 ^ 32) (tau * 1000000).toNat)
  onTime (fun t => { t with rhoInt := ri, rho := r }) s

/-- Step the TOD by θ̄ (R257, R261): TOD_VALID, TIME_STEP (232) with the step in 2^-16 ns. -/
def stepBy (th : Int) (s : State) : State :=
  raise 232 objTime (evtArg 0 0 0 (codeOf 64 th))
    (onTime (fun t => { t with stepBy := some th, todValid := true, steps := bump t.steps }) s)

/-- θ̄ in 1/256 ns (R269, R366). -/
def theta256 (th : Int) : Int := divRound th 256

/-- TRACEABLE and the leap data follow the source while LOCKED (R255, R261). -/
def followSource (s : State) : State :=
  match s.time.inUse with
  | some (.colophon c g) =>
    match (s.lnk c g).burst with
    | some b => onTime (fun t => { t with traceable := bit b.flags 2, leap61 := bit b.flags 3, leap59 := bit b.flags 4,
                                          utcValid := bit b.flags 5, utcOffset := b.utcOffset }) s
    | none => s
  | _ => s

/-- A servo window ends (R260, R261): the mean of the window's samples steps or slews the TOD. With no sample nothing is done,
except that the HOST source's own time counts as offset 0 (log 17). -/
def servoWindow (s : State) : State :=
  let t := s.time
  let mean : Option Int :=
    if t.winCount ≠ 0 then some (divRound t.winSum t.winCount)
    else if t.inUse = some .host then some 0 else none
  match mean, t.inUse with
  | some th, some _ =>
    let s1 := onTime (fun t => { t with thetaBar := th, winSum := 0, winCount := 0 }) s
    let lim := divRound (getPar s .r285 objTime 0xB0 * 65536) 1
    match t.servo with
    | .acquire => followSource (stepBy th (onTime (fun t => { t with servo := .locked }) s1))
    | .locked =>
      if (th.natAbs : Int) > lim then followSource (stepBy th s1)
      else
        let s2 := followSource (slew th s1)
        if (th.natAbs : Int) > getPar s .r285 objTime 0xC0 * 65536 then
          raise 233 objTime (evtArg 0 0 0 (codeOf 64 (theta256 th))) s2
        else s2
    | _ => s1
  | _, _ => s

/-- SERVO_WINDOW_END: after it the parameters set in the window take effect (R285). -/
def servoWindowEnd (s : State) : State :=
  let t := servoWindow s
  { t with par := t.par.release .r285 objTime }

def execServoWindowEnd (s : State) : Out := .next (pmAlign s (servoWindowEnd s))

/-- Add an offset sample to the open window (R260). -/
def addSample (th : Int) (s : State) : State :=
  onTime (fun t => { t with winSum := t.winSum + th, winCount := t.winCount + 1 }) s

/-- HOST is the source in use, or the named source while none is in use (R262; log 17). -/
def hostRules (s : State) : Bool :=
  s.time.inUse == some .host ||
    (s.time.inUse.isNone && (primary s == some .host || backup s == some .host))

/-- `TIME.SET` (R262, R356): the TOD takes the value at the next tick. -/
def timeSet (q : Request) (s : State) : State × Reply :=
  if !hostRules s then (s, refuse stBadState)
  else if 999999999 < u32 q 12 then (s, badParam 12)
  else
    let v := stampVal { sec := u48 q 4, ns := u32 q 12, frac := u16 q 10 }
    let d : Int := (v : Int) - s.tod16
    let s1 := onTime (fun t => { t with stepTo := some v, todValid := true, hostSet := true, steps := bump t.steps }) s
    (reselect (raise 232 objTime (evtArg 0 0 0 (codeOf 64 d)) s1), ok)

def execTimeSet (q : Request) (s : State) : Out := .next (deskRun 0x0B07 timeSet q s)

/-- `TIME.ADJUST` (R262, R356): an offset of up to ±1 s to be slewed. -/
def timeAdjust (q : Request) (s : State) : State × Reply :=
  if !hostRules s then (s, refuse stBadState)
  else if (s64 q 8).natAbs > fracPerSec then (s, badParam 8)
  else (onTime (fun t => { t with adjust := t.adjust + s64 q 8 * todUnit }) s, ok)

def execTimeAdjust (q : Request) (s : State) : Out := .next (deskRun 0x0B08 timeAdjust q s)

/-- SLEW_COMPLETE (R262): what is left of the offset has been removed. -/
def slewComplete (s : State) : State :=
  onTime (fun t => { t with tod := (Int.toNat ((t.tod : Int) + t.adjust)), adjust := 0 }) s

def execSlewComplete (s : State) : Out := .next (slewComplete s)

/-- A good edge follows the previous one by 1 s ± 1 µs of the cleaned clock (R259). -/
def edgeSpacingOk (s : State) : Bool :=
  let d := s.dev.ticks - s.time.ppsLastTick
  s.time.ppsLast.isSome && 625000000 ≤ d + 625 && d ≤ 625000000 + 625

/-- PPS_IN_EDGE (R258, R260, R263, R264): a rising edge, stamped with 4 ps resolution (`sub` steps of 4 ps after the tick),
of a pulse `widthNs` long; below 100 ns it is no pulse. -/
def ppsInEdge (sub : Fin 400) (widthNs : Nat) (s : State) : State :=
  if widthNs < 100 then s
  else
    let st := s.tod16 + sub.val * 4 * 65536 / 1000
    let t := s.time
    let run := match t.todMsg with
      | some _ => if edgeSpacingOk s then t.ppsRun + 1 else 0
      | none => 0
    let named := match t.todMsg with
      | some m => some m.sec
      | none => t.lastNamed
    let s1 := onTime (fun x => { x with
        ppsRun := run, ppsLast := some st, ppsLastTick := s.dev.ticks, lastNamed := named, todMsg := none }) s
    let s2 := if t.ppsLos then raise 234 objTime (evtArg 0 4 0 0) (onTime (fun t => { t with ppsLos := false }) s1) else s1
    let s3 := reselect s2
    match t.todMsg with
    | some m =>
      if s3.time.inUse = some .pps then
        let cable := getPar s .r285 objTime 0xF0
        let th := (m.sec * fracPerSec : Int) - ((st : Int) - divRound (cable * 65536) 16000)
        addSample th (onTime (fun x => { x with
          traceable := if x.servo = .locked then bit m.flags 0 else x.traceable, leap61 := bit m.flags 1,
          leap59 := bit m.flags 2, utcValid := bit m.flags 3, utcOffset := m.utcOffset }) s3)
      else s3
    | none => s3

def execPpsInEdge (sub : Fin 400) (widthNs : Nat) (s : State) : Out := .next (pmAlign s (ppsInEdge sub widthNs s))

/-- A TOD_IN message is good (R264): SYNC, TYPE, CRC, its place after the last edge, and a second in sequence. -/
def todInOk (bs : List Byte) (s : State) : Bool :=
  let d := s.dev.ticks - s.time.ppsLastTick
  bs.length == 16 && byteAt bs 0 == 0x5A && byteAt bs 1 == 0xA5 && byteAt bs 2 == 1
    && beAt bs 14 2 == crc16 (bs.take 14) && s.time.ppsLast.isSome && 62500000 ≤ d && d ≤ 562500000
    && match s.time.lastNamed with
       | some n => beAt bs 4 6 == n + 1
       | none => true

/-- TOD_IN_MESSAGE (R264): kept for the edge it names, or discarded with TIME_TODIN_ERR at most once per second. -/
def todInMessage (bs : List Byte) (s : State) : State :=
  if todInOk bs s then
    onTime (fun t => { t with todMsg := some { sec := beAt bs 4 6, flags := byteAt bs 3,
                                               utcOffset := signedOf 16 (beAt bs 10 2) } }) s
  else
    raise 235 objTime (evtArg 0 0 0 0)
      (onTime (fun t => { t with todInErrs := bump t.todInErrs, lastNamed := none }) s)

def execTodInMessage (bs : List Byte) (s : State) : Out := .next (todInMessage bs s)

/-- 1PPS_OUT is driven (R263): squelch VALID needs LOCKED or HOLDOVER, ALWAYS needs TOD_VALID. -/
def ppsOutOn (s : State) : Bool :=
  if getPar s .r285 objTime 0x101 = 0 then s.time.servo == .locked || s.time.servo == .holdover else s.time.todValid

/-- PPS_OUT_EDGE (R263): the output rises at a whole second of the TOD less the output compensation, for the width set. -/
def ppsOutEdge (s : State) : State :=
  let comp := (divRound (getPar s .r285 objTime 0xF1 * 65536) 16000).toNat
  if ppsOutOn s then
    onTime (fun t => { t with ppsOutSec := some ((s.tod16 + comp) / fracPerSec), ppsOutWidth := getParN s .r285 objTime 0x100 }) s
  else onTime (fun t => { t with ppsOutSec := none, ppsOutWidth := 0 }) s

def execPpsOutEdge (s : State) : Out := .next (ppsOutEdge s)

/-- A TOD_OUT message naming a second (R264). -/
def todOutMessage (t : TimeState) (sec : Nat) : List Byte :=
  let b := [0x5A#8, 0xA5#8, 1#8] ++ beBytes 1 (b2n t.traceable + 2 * b2n t.leap61 + 4 * b2n t.leap59 + 8 * b2n t.utcValid)
    ++ beBytes 6 sec ++ beBytes 2 (codeOf 16 t.utcOffset) ++ beBytes 2 0
  b ++ beBytes 2 (crc16 b)

/-- TOD_OUT_SEND (R264): 200 ms after an edge of 1PPS_OUT, only while it is not squelched; it names the next edge. -/
def todOutSend (s : State) : State :=
  match s.time.ppsOutSec with
  | some sec => if ppsOutOn s then onTime (fun t => { t with todOut := todOutMessage t (sec + 1) :: t.todOut }) s else s
  | none => s

def execTodOutSend (s : State) : Out := .next (todOutSend s)

/-- A COLOPHON field (R265, R283): a bad CRC, or poison on its way to TIME, discards it. -/
def colophonRecord (c : Fin 2) (g : Fin 16) (bs : List Byte) (poisoned : Bool) (s : State) : State :=
  if poisoned || beAt bs 14 2 != crc16 (bytesAt bs 0 14) then onTime (fun t => { t with crcFails := bump t.crcFails }) s
  else
    let kind := byteAt bs 0 / 64
    let st := stampVal { sec := beAt bs 2 6, ns := beAt bs 8 4, frac := beAt bs 12 2 }
    if kind = 1 then onLink c g (fun l => { l with farTx := some (byteAt bs 1, st), goodTx := true }) s
    else if kind = 2 then onLink c g (fun l => { l with farRx := some (byteAt bs 1, st), goodRx := true }) s
    else s

/-- COLOPHON_RECORD_RECEIVED: the 16 bytes of a folio's COLOPHON field as received, sent on to TIME by Chute (R22, R163). -/
def execColophonRecordReceived (c : Fin 2) (g : Fin 16) (bs : List Byte) (s : State) : Out :=
  let p := chutePoison (10 + c.val) 23 s
  .next (reselect (colophonRecord c g (ohField 160 (padTo 16 bs)) (!p.1.isEmpty) p.2))

/-- The stamp of the volume with the low 8 bits given, among the last 16 up to volume `cur` (R266). -/
def stampFor (cur : Nat) (l : List (Nat × Nat)) (low : Nat) : Option Nat :=
  (l.find? fun x => x.1 % 256 == low && (cur + 2 ^ 32 - x.1) % 2 ^ 32 ≤ 16).map (·.2)

/-- The asymmetry `a` in 1/8,192,000 ns (R267), rounded once: λ_E − λ_P = c × (f_P − f_E) / (f_E × f_P), in nm for f in MHz and
c = 299,792,458,000. -/
def asymmetry (s : State) (c : Fin 2) (g : Fin 16) (b : TimeBurst) : Int :=
  let fix := linkPar s c g 0xE4 * 512
  if linkPar s c g 0xE5 = 1 then fix
  else if linkPar s c g 0xE1 = 0 ∨ b.freq = 0 then Config.freeInt s.free
  else
    let fE := linkPar s c g 0xE1
    divRound ((b.cdTotal + (s.rxg c g).cdTotal) * 299792458000 * (b.freq - fE) * 8192) (32 * fE * b.freq).toNat + fix

/-- COLOPHON_SAMPLE (R266, R267): once per volume, θ = (d_out − d_in − a) / 2 from the latest pairs within 16 volumes. -/
def colophonSample (c : Fin 2) (g : Fin 16) (s : State) : State :=
  let l := s.lnk c g
  match l.farRx, l.farTx, l.burst with
  | some rx, some tx, some b =>
    match stampFor (s.fol c g).txVolume l.tx rx.1, stampFor (s.fol c g).rxVolume l.rx tx.1 with
    | some t1, some t4 =>
      let t2 : Int := rx.2
      let t3 : Int := tx.2
      let a := asymmetry s c g b
      let dOut := (t2 * 125 - b.dlyRx * 512) - ((t1 : Int) * 125 + linkPar s c g 0xE2 * 512)
      let dIn := ((t4 : Int) * 125 - linkPar s c g 0xE3 * 512) - (t3 * 125 + b.dlyTx * 512)
      let th := divRound (dOut - dIn - a) 2
      let s1 := onLink c g (fun l => { l with theta := th, mpd := divRound (dOut + dIn) 2, asym := a }) s.drawn
      let s2 := reselect s1
      let s3 := if s2.time.inUse = some (.colophon c g) then addSample (divRound th 125) s2 else s2
      onLink c g (fun l => { l with goodTx := false, goodRx := false }) s3
    | _, _ => reselect (onLink c g (fun l => { l with goodTx := false, goodRx := false }) s)
  | _, _, _ => reselect (onLink c g (fun l => { l with goodTx := false, goodRx := false }) s)

def execColophonSample (c : Fin 2) (g : Fin 16) (s : State) : Out := .next (colophonSample c g s)

/-- STEPS this device sends (R269): 0 at a PPS or HOST source, otherwise one more than the link in use gave. -/
def ownSteps (s : State) : Nat :=
  match s.time.inUse with
  | some (.colophon c g) => (s.lnk c g).steps
  | _ => 0

/-- The payload of a TIME burst (R269). -/
def timeBurstBytes (s : State) (c : Fin 2) (g : Fin 16) : List Byte :=
  let r := s.rxg c g
  let t := s.time
  let l := s.lnk c g
  let sat (lo hi v : Int) : Int := max lo (min hi v)
  beBytes 1 1 ++ beBytes 1 (linkRole s c g - 1) ++ beBytes 1 c.val ++ beBytes 1 g.val
    ++ beBytes 4 (linkPar s c g 0xE1).toNat ++ beBytes 4 (codeOf 32 r.cdTotal) ++ beBytes 2 r.sigma
    ++ beBytes 1 (b2n r.valid + 2 * b2n t.todValid + 4 * b2n t.traceable + 8 * b2n t.leap61 + 16 * b2n t.leap59
        + 32 * b2n t.utcValid)
    ++ beBytes 1 (ownSteps s) ++ beBytes 4 (linkPar s c g 0xE2).toNat ++ beBytes 4 (linkPar s c g 0xE3).toNat
    ++ beBytes 2 (codeOf 16 t.utcOffset) ++ beBytes 2 0
    ++ beBytes 4 (codeOf 32 (sat (-2147483648) 2147483647 (theta256 t.thetaBar)))
    ++ beBytes 4 (sat 0 4294967295 (divRound l.mpd 512000)).toNat ++ beBytes 4 0

/-- TIME_BURST_SEND (R269): one TIME burst (type 2) per second for a link whose role is not OFF. -/
def timeBurstSend (c : Fin 2) (g : Fin 16) (s : State) : State :=
  if linkRole s c g = 0 then s else ilEnqueue c 2 (ilPeer s g) (timeBurstBytes s c g) s

def execTimeBurstSend (c : Fin 2) (g : Fin 16) (s : State) : Out := .next (timeBurstSend c g s)

/-- A TIME burst delivered to the TIME island with its stamp (R142, R155, R269). -/
def timeBurstReceived (c : Fin 2) (bs : List Byte) (stamp : Nat) (s : State) : State :=
  let g := groupOf (byteAt bs 3)
  let b : TimeBurst :=
    { role := byteAt bs 1, freq := beAt bs 4 4, cdTotal := signedOf 32 (beAt bs 8 4), cdSigma := beAt bs 12 2,
      flags := byteAt bs 14, steps := byteAt bs 15, dlyTx := beAt bs 16 4, dlyRx := beAt bs 20 4,
      utcOffset := signedOf 16 (beAt bs 24 2), stamp := stamp }
  if byteAt bs 0 = 1 then
    reselect (onLink c g (fun l => { l with burst := some b, burstFresh := true, steps := b.steps + 1 }) s)
  else s

/-- A PTP stamp (R271): 1/16 ns, `sub` of them after the tick. -/
def ptpStamp16 (s : State) (sub : Nat) : Nat := (s.tod16 / 4096 + sub) % 2 ^ 32

/-- One's complement update of a UDP checksum when a 32-bit field changes (R271). -/
def csumUpdate (hc old new : Nat) : Nat :=
  let fold (v : Nat) : Nat := let a := v % 65536 + v / 65536; a % 65536 + a / 65536
  let inv (v : Nat) : Nat := 65535 - v
  inv (fold (fold (inv hc + inv (old / 65536 % 65536) + inv (old % 65536) + new / 65536 % 65536 + new % 65536)))

/-- The UDP checksum after a field changed (R271): an IPv4 checksum of 0 stays 0. -/
def carryAfter (k : PtpCarry) (old new : Nat) : PtpCarry := match k with
  | .ether t => .ether t
  | .udp4 p u o => .udp4 p (if u = 0 then 0 else csumUpdate u old new) o
  | .udp6 p u x => .udp6 p (csumUpdate u old new) x

/-- The transparent clock acts on a bond (R270): enabled with `PTP.TC.SET`, Ethernet in TERMINATE. -/
def tcOn (s : State) (b : Fin 48) : Bool :=
  ethTerminate s.bonds[b] &&
    match bodyOf s 0x0B10 (objBond b) with
    | some v => byteAt v.body 4 == 1
    | none => false

/-- Update one bond's transparent-clock counters. -/
def onPtp (b : Fin 48) (f : PtpBond → PtpBond) (s : State) : State := onTime (fun t => { t with ptp := upd t.ptp b f }) s

/-- PTP_INGRESS (R270, R271): T_in, `sub` sixteenths of a ns after the tick, goes into bytes 16 to 19; a value there is counted and
lost. Other frames pass unchanged. -/
def ptpIngress (b : Fin 48) (sub : Nat) (m : PtpMsg) (s : State) : State :=
  if tcOn s b && m.handled then
    let t := ptpStamp16 s sub
    onPtp b (fun p => { p with
      nonZero := if m.field = 0 then p.nonZero else bump p.nonZero, last := some { m with field := t, carry := carryAfter m.carry m.field t } }) s
  else onPtp b (fun p => { p with last := some m }) s

def execPtpIngress (b : Fin 48) (sub : Fin 26) (m : PtpMsg) (s : State) : Out := .next (ptpIngress b sub.val m s)

/-- PTP_EGRESS (R271, R272): correctionField gains (T_out − T_in) mod 2^32 in 1/16 ns, bytes 16 to 19 become 0; a residence
above 268 ms is counted and raises PTP_TC_LIMIT (236) once per second. -/
def ptpEgress (b : Fin 48) (sub : Nat) (m : PtpMsg) (s : State) : State :=
  if tcOn s b && m.handled then
    let d := (ptpStamp16 s sub + 2 ^ 32 - m.field % 2 ^ 32) % 2 ^ 32
    let above := 268000000 * 16 < d
    let cor := (m.correction + d * 4096) % 2 ^ 64
    let k := carryAfter (carryAfter (carryAfter m.carry m.field 0) (m.correction / 2 ^ 32) (cor / 2 ^ 32)) (m.correction % 2 ^ 32) (cor % 2 ^ 32)
    let m2 : PtpMsg := { m with correction := cor, field := 0, carry := k }
    let s1 := onPtp b (fun p => { p with
      corrected := bump p.corrected, notLocked := if s.time.servo = .locked then p.notLocked else bump p.notLocked,
      overLimit := if above then bump p.overLimit else p.overLimit, last := some m2 }) s
    if above then raise 236 (objBond b) (evtArg 0 0 0 0) s1 else s1
  else onPtp b (fun p => { p with last := some m }) s

def execPtpEgress (b : Fin 48) (sub : Fin 26) (m : PtpMsg) (s : State) : Out := .next (ptpEgress b sub.val m s)

/-- `PTP.TC.SET` (R270, R356). -/
def ptpTcSet (q : Request) (s : State) : State × Reply :=
  if 1 < u8 q 4 then (s, badParam 4)
  else if !ethTerminate (getNat {} s.bonds (objIndex q)) then (s, refuse stBadState)
  else (keepBody 0x0B10 q s, ok)

def execPtpTcSet (q : Request) (s : State) : Out := .next (deskRun 0x0B10 ptpTcSet q s)

/-- PPS_IN_LOS (R263): no edge for 2 s. -/
def ppsInLos (s : State) : State :=
  if s.time.ppsLos then s
  else reselect (raise 234 objTime (evtArg 1 4 0 0) (onTime (fun t => { t with ppsLos := true, ppsRun := 0 }) s))

/-- `TIME.SOURCE.SET` (R259, R285, R357): the sources are chosen again; the servo's values take effect at the next window. -/
def timeSourceSet (q : Request) (s : State) : State × Reply :=
  pCommand 0x0B06 (fun _ _ => none) (fun rs s =>
    let s1 := applyRecs 0x0B06 q (rs.filter fun r => r.row.pid < 0xA0) s
    let later := rs.filter fun r => 0xA0 ≤ r.row.pid
    let s2 := if s.time.inUse.isSome then waitRecs 0x0B06 q later s1 else applyRecs 0x0B06 q later s1
    reselect (if hasRow rs 9 then onTime (fun t => { t with primary10 := false }) s2 else s2)) q s

def execTimeSourceSet (q : Request) (s : State) : Out := .next (deskRun 0x0B06 timeSourceSet q s)

/-- `TIME.LINK.SET` (R267, R285). -/
def timeLinkSet (q : Request) (s : State) : State × Reply :=
  pCommand 0x0B09 (fun _ _ => none) (fun rs s => reselect (applyRecs 0x0B09 q rs s)) q s

def execTimeLinkSet (q : Request) (s : State) : Out := .next (deskRun 0x0B09 timeLinkSet q s)

/-- `TIME.PPS.SET` (R263, R264, R285). -/
def timePpsSet (q : Request) (s : State) : State × Reply :=
  pCommand 0x0B0A (fun _ _ => none) (fun rs s => applyRecs 0x0B0A q rs s) q s

def execTimePpsSet (q : Request) (s : State) : Out := .next (deskRun 0x0B0A timePpsSet q s)

end Sys2Proof.Machine
end

