-- ==== Sys2Proof/Machine/TimeRefs.lean ====
section
/-! DEFINITION. Frequency references, the DPLL, the oscillator estimate and the time commands and status
(11_time_references.md R273 to R287). -/

namespace Sys2Proof.Machine

/-- A candidate by number. -/
def State.cand (s : State) (k : Fin 12) : Cand := s.time.cands[k]
def onCand (k : Fin 12) (f : Cand → Cand) (s : State) : State := onTime (fun t => { t with cands := upd t.cands k f }) s

/-- Eligible (R276): qualified, restored since its last loss, not locked out. -/
def Cand.eligible (c : Cand) : Bool := c.qualified && !c.lost && !c.lockout

/-- The eligible candidate of the highest entry of the priority table (R277). -/
def topEligible (s : State) : Option (Fin 12) :=
  s.time.prio.findSome? fun n => if h : n < 12 then if (s.cand ⟨n, h⟩).eligible then some ⟨n, h⟩ else none else none

/-- The revertive setting (R277, R285). -/
def revertive (s : State) : Bool := getPar s .r285 objTime 0x51 == 1

/-- The SECONDARY in ALIGNING or PAIRED takes MATE, while it is eligible, ahead of its priority table (R480). -/
def followsMate (s : State) : Bool :=
  s.mate.role == 2 && (s.mate.st == .aligning || s.mate.st == .paired) && (s.cand 11).eligible

/-- The target by the first rule of R278 that applies. -/
def chooseTarget (s : State) : Option (Fin 12) :=
  let t := s.time
  let forced := match t.force with
    | some k => if (s.cand k).active then some k else none
    | none => none
  let manual := match t.manual with
    | some k => if (s.cand k).eligible then some k else none
    | none => none
  match forced, manual with
  | some k, _ => some k
  | none, some k => some k
  | none, none =>
    if followsMate s then some 11
    else if t.dpll = .locked ∧ !revertive s then
      match t.selected with
      | some k => if (s.cand k).eligible then some k else topEligible s
      | none => topEligible s
    else topEligible s

/-- The control value over the latest 60 s of consecutive good records that end at least `skip` records ago (R281). -/
def holdoverSpan (h : List (Int × Bool)) : Option Int :=
  match h with
  | [] => none
  | x :: r =>
    let w := (x :: r).take 60
    if w.length = 60 && w.all (·.2) then some (divRound (w.foldl (fun a y => a + y.1) 0) 60) else holdoverSpan r

/-- The history is qualified (R281). -/
def historyQualified (h : List (Int × Bool)) : Bool := 90 ≤ (h.filter (·.2)).length

/-- Choose the target again and move the DPLL (R278, R280). `ago` is how many seconds ago the loss instant lies (R281). -/
def retarget (ago : Nat) (s : State) : State :=
  let s0 := onTime (fun t => { t with
    manual := match t.manual with
      | some k => if (s.cand k).eligible then some k else none
      | none => none }) s
  let tg := chooseTarget s0
  let s1 := onTime (fun t => { t with target := tg }) s0
  let t := s1.time
  match tg with
  | some k =>
    if t.selected = some k ∧ t.dpll ≠ .holdover ∧ t.dpll ≠ .freeRun then s1
    else
      raise 225 objTime (evtArg 0 k.val 0 0) (onTime (fun t => { t with
        dpll := .acquire, lockRun := false, selected := some k, buildOuts := t.buildOuts + 1, refSwitches := bump t.refSwitches }) s1)
  | none =>
    if t.dpll = .holdover ∨ t.dpll = .freeRun then s1
    else
      match (if historyQualified t.history then holdoverSpan (t.history.drop (30 + ago)) else none) with
      | some v =>
        raise0 227 objTime (onTime (fun t => { t with
          dpll := .holdover, lockRun := false, selected := none, control := v, holdoverValue := v,
          holdoverEntries := bump t.holdoverEntries }) s1)
      | none => raise0 228 objTime (onTime (fun t => { t with dpll := .freeRun, lockRun := false, selected := none, control := 0 }) s1)

/-- A candidate loses qualification (R276). -/
def loseQual (k : Fin 12) (s : State) : State :=
  if (s.cand k).qualified then
    raise 224 objTime (evtArg 0 k.val 0 0) (onCand k (fun c => { c with qualified := false, lost := true }) s)
  else s

/-- REF_ACTIVITY_LOSS (R273, R276): qualification goes at once. -/
def refActivityLoss (k : Fin 12) (s : State) : State :=
  retarget 0 (loseQual k (onCand k (fun c => { c with active := false, inTol := false, oot := 0 }) s))

def execRefActivityLoss (k : Fin 12) (s : State) : Out := .next (refActivityLoss k s)

/-- The group whose recovered clock is a carrier's line clock (R63): in HUB mode the one that RXDSP.SET chooses, by default and
otherwise the lowest in TRACK. -/
def lineGroup (s : State) (c : Fin 2) : Option (Fin 16) :=
  let up (g : Fin 16) : Bool := (s.rxg c g).st == .track
  let ch := getParN s .r78 (objCarrier c) 0xD0
  if s.dev.mode = some .hub ∧ ch < 16 then (if up (groupOf ch) then some (groupOf ch) else none)
  else (List.finRange 16).find? up

/-- The lead lane of the bond that CLIENT0 to CLIENT3 names (R273). -/
def clientLane (s : State) (k : Nat) : Option Lane :=
  let b := getParN s .r285 objTime (0x64 + k)
  if b < 48 ∧ (getNat {} s.bonds b).provisioned then some (getNat {} s.lanes b) else none

/-- A candidate's source is there (R273): a REFIN provisioned, 1PPS_IN not lost, the line group in TRACK, the client lane with its
signal and lock, MATE_SYNC not lost. -/
def refLive (s : State) (k : Fin 12) : Bool :=
  if k.val < 4 then getPar s .r285 objTime (0x60 + k.val) != 0
  else if k.val = 4 then !s.time.ppsLos
  else if k.val < 7 then (lineGroup s (carrierOf (k.val - 5))).isSome
  else if k.val < 11 then (match clientLane s (k.val - 7) with | some x => !x.los && x.st == .up | none => false)
  else s.mate.role != 0 && !s.mate.syncLost

/-- Candidates whose source has gone lose activity (R273, R276). -/
def refLosses (s : State) : State :=
  (List.finRange 12).foldl (fun s k => if (s.cand k).active && !refLive s k then refActivityLoss k s else s) s

/-- PPS_IN_LOS (R263, R273). -/
def execPpsInLos (s : State) : Out := .next (refLosses (ppsInLos s))

/-- A clock recovered against the cleaned clock (1/1,024 ppm) as an offset from the oscillator estimate, 0.001 ppm (R275): the control
value is the cleaned clock's own. -/
def recovered (s : State) (off : Int) : Int := divRound (off * 1000) 1024 + divRound (s.time.control * 1000000000) (2 ^ 48)

/-- The offsets of a second (R275): of the line clocks by what their receivers have recovered (R63), of the others as measured. -/
def refOffsets (s : State) (offs : List (Fin 12 × Int)) : List (Fin 12 × Int) :=
  (List.finRange 12).filterMap fun k =>
    if !refLive s k then none
    else if k.val = 5 ∨ k.val = 6 then (lineGroup s (carrierOf (k.val - 5))).map fun g => (k, recovered s (s.rxg (carrierOf (k.val - 5)) g).clockOff)
    else offs.find? fun x => x.1 == k

/-- Insert into a rising list; sort a list. -/
def insertInt (x : Int) : List Int → List Int
  | [] => [x]
  | y :: r => if x ≤ y then x :: y :: r else y :: insertInt x r
def sortInts (l : List Int) : List Int := l.foldr insertInt []

/-- Median of a list: the middle value, or the rounded mean of the two middle ones (log 19). -/
def median (l : List Int) : Int :=
  let m := sortInts l
  if m.length % 2 = 1 then m.getD (m.length / 2) 0
  else divRound (m.getD (m.length / 2 - 1) 0 + m.getD (m.length / 2) 0) 2

/-- The consensus for a candidate (R275). -/
def consensusFor (s : State) (k : Fin 12) (offs : List (Fin 12 × Int)) : Int :=
  let others := (offs.filter fun x => x.1 != k && (s.cand x.1).qualified).map (·.2)
  if !others.isEmpty then median others
  else
    match s.time.selected with
    | none => 0
    | some sel => if sel = k then 0 else ((offs.find? fun x => x.1 == sel).map (·.2)).getD (s.cand sel).offset

/-- Every qualified candidate fails the hard test while two of them agree within the soft limit (R275). -/
def oscFaulty (s : State) (offs : List (Fin 12 × Int)) : Bool :=
  let hard := getPar s .r285 objTime 0x20
  let soft := getPar s .r285 objTime 0x21
  let q := (offs.filter fun x => (s.cand x.1).qualified).map (·.2)
  !q.isEmpty && q.all (fun o => (o.natAbs : Int) > hard)
    && (q.zipIdx.any fun a => q.zipIdx.any fun b => a.2 < b.2 && ((a.1 - b.1).natAbs : Int) ≤ soft)

/-- Test one candidate's measurement (R275, R276). -/
def testCand (fault : Bool) (offs : List (Fin 12 × Int)) (s : State) (x : Fin 12 × Int) : State :=
  let hard := getPar s .r285 objTime 0x20
  let soft := getPar s .r285 objTime 0x21
  let cons := consensusFor s x.1 offs
  let dev := ((x.2 - cons).natAbs : Int)
  let good := (fault || (x.2.natAbs : Int) ≤ hard) && dev ≤ soft
  onCand x.1 (fun c => { c with
    active := true, offset := x.2, consensus := cons, inTol := good, oot := if good then 0 else c.oot + 1,
    beyondHalf := if 2 * dev > soft then c.beyondHalf + 1 else 0 }) s

/-- REF_MEASUREMENT (R275, R276, R281): each second the active candidates' offsets (0.001 ppm) are tested, the second's mean
control value (2^-48) is recorded, and candidates twice out of tolerance lose qualification. -/
def refMeasurement (meas : List (Fin 12 × Int)) (control : Int) (s : State) : State :=
  let offs := refOffsets s meas
  let fault := oscFaulty s offs
  let s1 := raiseIf (fault && !s.time.loFault) 229 objTime (evtArg 0 0 0 0)
    (onTime (fun t => { t with loFault := fault }) s)
  let s2 := offs.foldl (testCand fault offs) s1
  let selOk := match s2.time.selected with
    | some k => (s2.cand k).inTol
    | none => false
  let rec_ : Int × Bool := (control, s.time.lockRun && s.time.dpll == .locked && selOk)
  let s3 := onTime (fun t => { t with
    history := (rec_ :: t.history).take 3600, lockRun := t.dpll == .locked,
    control := if t.dpll = .acquire ∨ t.dpll = .locked then control else t.control }) s2
  let losers := (List.finRange 12).filter fun k => (s3.cand k).qualified && 2 ≤ (s3.cand k).oot
  let ago := match s3.time.selected with
    | some k =>
      if (s3.cand k).oot ≥ 2 && (fault || ((s3.cand k).offset.natAbs : Int) ≤ getPar s .r285 objTime 0x20) then
        (s3.cand k).beyondHalf else 0
    | none => 0
  retarget ago (losers.foldl (fun s k => loseQual k s) s3)

def execRefMeasurement (offs : List (Fin 12 × Int)) (control : Int) (s : State) : Out := .next (refMeasurement offs control s)

/-- QUALIFICATION_TIMER_END (R276): the qualification time (or, with `restore`, the wait-to-restore) of a candidate that is
active and in tolerance completes. -/
def qualificationTimerEnd (k : Fin 12) (restore : Bool) (s : State) : State :=
  let c := s.cand k
  if c.active && c.inTol then
    if restore then
      if c.qualified then retarget 0 (onCand k (fun c => { c with lost := false }) s) else s
    else if c.qualified then s
    else retarget 0 (raise 224 objTime (evtArg 1 k.val 0 0) (onCand k (fun c => { c with qualified := true }) s))
  else s

def execQualificationTimerEnd (k : Fin 12) (restore : Bool) (s : State) : Out :=
  .next (qualificationTimerEnd k restore s)

/-- DPLL_LOCK (R279, R280): the lock criterion has held for the lock time. -/
def dpllLock (s : State) : State :=
  if s.time.dpll = .acquire then
    retarget 0 (raise 226 objTime (evtArg 0 ((s.time.selected.map (·.val)).getD 0) 0 0)
      (onTime (fun t => { t with dpll := .locked }) s))
  else s

def execDpllLock (s : State) : Out := .next (dpllLock s)

/-- c(T) = c0 + c1 ΔT + c2 ΔT² + c3 ΔT³ with ΔT = T − 25 °C; T in 1/128 °C, c in 2^-48 (R274). -/
def oscPoly (k : Int × Int × Int × Int) (temp : Int) : Int :=
  let d := temp - 3200
  k.1 + divRound (k.2.1 * d) 128 + divRound (k.2.2.1 * d * d) 16384 + divRound (k.2.2.2 * d * d * d) 2097152

/-- The temperature of the provisioned oscillator sensor, 1/128 °C (R274, R406): a die sensor, or a monitor channel's latest
settled code not marked MISMATCH. -/
def oscTemp (s : State) : Int :=
  if s.time.oscKind = 0 then 8 * (getNat {} s.house.sensors s.time.oscIdx).reading
  else (getNat {} s.house.chans s.time.oscIdx).sensor

/-- OSC_ESTIMATE_UPDATE (R274). -/
def oscEstimateUpdate (s : State) : State := onTime (fun t => { t with oscEst := oscPoly t.oscCoef (oscTemp s) }) s

def execOscEstimateUpdate (s : State) : Out := .next (oscEstimateUpdate s)

/-- The Catalogue payload of record type 0x0010: sensor kind and index and c0 to c3 (R448; layout as the body of
`TIME.LO.COMP.SET`, log 20). -/
def oscPayload (t : TimeState) : List Byte :=
  leBytes 1 t.oscKind ++ leBytes 1 t.oscIdx ++ leBytes 2 0 ++ leBytes 8 (codeOf 64 t.oscCoef.1)
    ++ leBytes 8 (codeOf 64 t.oscCoef.2.1) ++ leBytes 8 (codeOf 64 t.oscCoef.2.2.1)
    ++ leBytes 8 (codeOf 64 t.oscCoef.2.2.2)

/-- The new coefficients go to the Catalogue (R274). -/
def keepOsc (s : State) : State :=
  catChange 0x10 0 (catRecord 0x10 0 (recordSec s) (divRound (oscTemp s) 8) (oscPayload s.time)) s

/-- LO_LEARN_END (R274): the two halves' fits must agree within 10 ppb over the temperatures seen (1/128 °C). -/
def loLearnEnd (fitA fitB fit : Int × Int × Int × Int) (temps : List Int) (s : State) : State :=
  if s.time.learning then
    let s1 := onTime (fun t => { t with learning := false }) s
    let lim := ppmRate 10
    if temps.all fun x => ((oscPoly fitA x - oscPoly fitB x).natAbs : Int) ≤ lim then
      keepOsc (onTime (fun t => { t with oscCoef := fit }) s1)
    else raise0 237 objTime s1
  else s

def execLoLearnEnd (fitA fitB fit : Int × Int × Int × Int) (temps : List Int) (s : State) : Out :=
  .next (loLearnEnd fitA fitB fit temps s)

/-- The time engine may be provisioned or tested only with the traffic functions idle (R356). -/
def timeBusy (s : State) : Bool := anyCarrier s || anyLane s

/-- `TIME.PROVISION` (R279, R281, R285): a change of bandwidth clears the history. -/
def timeProvision (q : Request) (s : State) : State × Reply :=
  pCommand 0x0B01 (fun _ s => if timeBusy s then some (refuse stBadState) else none)
    (fun rs s =>
      let s1 := applyRecs 0x0B01 q rs s
      if getPar s1 .r285 objTime 0x10 = getPar s .r285 objTime 0x10 then s1
      else onTime (fun t => { t with history := [] }) s1) q s

def execTimeProvision (q : Request) (s : State) : Out := .next (deskRun 0x0B01 timeProvision q s)

/-- A priority table is well made (R277): codes 0 to 11 or 0xFF, none twice, PPS_IN only at 0.1 Hz. -/
def prioOk (l : List Nat) (s : State) : Bool :=
  let named := l.filter fun n => n ≠ 0xFF
  l.length == 12 && named.all (· < 12) && named.Nodup
    && (!named.contains 4 || getPar s .r285 objTime 0x10 == 0)

/-- `TIME.REF.TABLE.SET` (R275 to R277, R285, R357). -/
def timeRefTableSet (q : Request) (s : State) : State × Reply :=
  let tbl := q.bulk.map (·.toNat)
  pCommand 0x0B02 (fun _ s => if q.slot.isSome && !prioOk tbl s then some (badParam 0) else none)
    (fun rs s =>
      let s1 := applyRecs 0x0B02 q rs s
      refLosses (retarget 0 (if q.slot.isSome then onTime (fun t => { t with prio := tbl }) s1 else s1))) q s

def execTimeRefTableSet (q : Request) (s : State) : Out := .next (deskRun 0x0B02 timeRefTableSet q s)

/-- `TIME.REF.COMMAND` (R278, R357). -/
def timeRefCommand (q : Request) (s : State) : State × Reply :=
  if h : u8 q 4 < 12 then
    let k : Fin 12 := ⟨u8 q 4, h⟩
    match u8 q 5 with
    | 0 => (retarget 0 (onTime (fun t => { t with force := some k }) s), ok)
    | 1 => if (s.cand k).eligible then (retarget 0 (onTime (fun t => { t with manual := some k }) s), ok)
           else (s, refuse stBadState)
    | 2 => (retarget 0 (onCand k (fun c => { c with lockout := true }) s), ok)
    | 3 => (retarget 0 (onTime (fun t => { t with
              force := none, manual := none, cands := t.cands.map fun c => { c with lockout := false } }) s), ok)
    | _ => (s, badParam 5)
  else (s, badParam 4)

def execTimeRefCommand (q : Request) (s : State) : Out := .next (deskRun 0x0B03 timeRefCommand q s)

/-- `TIME.LO.COMP.SET` (R274, R285, R356). -/
def timeLoCompSet (q : Request) (s : State) : State × Reply :=
  if 1 < u8 q 4 then (s, badParam 4)
  else if (if u8 q 4 = 0 then 32 else 64) ≤ u8 q 5 then (s, badParam 5)
  else
    (keepOsc (keepBody 0x0B04 q (onTime (fun t => { t with
      oscKind := u8 q 4, oscIdx := u8 q 5, oscCoef := (s64 q 8, s64 q 16, s64 q 24, s64 q 32) }) s)), ok)

def execTimeLoCompSet (q : Request) (s : State) : Out := .next (deskRun 0x0B04 timeLoCompSet q s)

/-- `TIME.LO.LEARN` (R274, R324, R356): completes when the learning has started. -/
def timeLoLearn (q : Request) (s : State) : State × Reply :=
  if u32 q 4 < 3600000 ∨ 604800000 < u32 q 4 then (s, badParam 4)
  else if s.time.dpll ≠ .locked then (s, refuse stBadState)
  else (onTime (fun t => { t with learning := true }) s, ok)

def execTimeLoLearn (q : Request) (s : State) : Out := .next (deskRun 0x0B05 timeLoLearn q s)

/-- `TIME.TEST` (R281, R356): the test's FAULT word is the hardware's; the DPLL is left in FREE_RUN, its history cleared. -/
def timeTest (fault : Word32) (_q : Request) (s : State) : State × Reply :=
  if timeBusy s then (s, refuse stBadState)
  else
    (raise0 228 objTime (onTime (fun t => { t with
      dpll := .freeRun, lockRun := false, selected := none, control := 0, history := [] }) s),
     ok (leBytes 1 (b2n (fault != 0)) ++ leBytes 3 0 ++ leBytes 4 fault.toNat))

def execTimeTest (q : Request) (fault : Word32) (s : State) : Out := .next (deskRun 0x0B0B (timeTest fault) q s)

/-- Status codes of the DPLL and servo states (R337; LOCKED stands in no State cell of R280's table, log 18). -/
def Dpll.code : Dpll → Nat | .acquire => 0 | .holdover => 1 | .freeRun => 2 | .locked => 3
def Servo.code : Servo → Nat | .free => 0 | .acquire => 1 | .locked => 2 | .holdover => 3

/-- A source's code of R357. -/
def Source.code : Source → Nat
  | .pps => 1 | .host => 2 | .mate => 3 | .colophon c g => 0x10 + 16 * c.val + g.val

/-- The items of `TIME.STATUS` (R286). -/
def timeItems (s : State) : List StatItem :=
  let t := s.time
  let code (o : Option (Fin 12)) : Nat := match o with | some k => k.val | none => 0xFF
  [gau 1 0 t.dpll.code, gau 1 1 (code t.selected), gau 1 2 (code t.target)]
    ++ ((List.finRange 12).flatMap fun k =>
        let c := s.cand k
        [gau 2 0 (b2n c.active + 2 * b2n c.inTol + 4 * b2n c.qualified + 8 * b2n c.eligible + 16 * b2n c.lockout) k.val,
         sgau 2 1 c.offset k.val, sgau 2 2 c.consensus k.val])
    ++ [gau 3 0 (b2n (historyQualified t.history)), sgau 3 1 t.holdoverValue, sgau 4 0 t.oscEst,
        gau 5 0 t.servo.code, gau 5 1 (match t.inUse with | some x => x.code | none => 0), gau 5 2 (b2n t.todValid),
        gau 5 3 (b2n t.traceable), sgau 6 0 (theta256 t.thetaBar), sgau 6 1 t.rho]
    ++ ((List.finRange 2).flatMap fun c => (List.finRange 16).flatMap fun g =>
        let l := s.lnk c g
        let e := 16 * c.val + g.val
        [sgau 7 0 (divRound l.theta 32000) e, sgau 7 1 (divRound l.mpd 32000) e, sgau 7 2 (divRound l.asym 32000) e])
    ++ [ctr 8 0 t.steps, ctr 8 1 t.refSwitches, ctr 8 2 t.holdoverEntries, ctr 9 0 t.crcFails, ctr 9 1 t.todInErrs]
    ++ ((List.finRange 48).flatMap fun b =>
        let p := t.ptp[b]
        [ctr 10 0 p.corrected b.val, ctr 10 1 p.notLocked b.val, ctr 10 2 p.nonZero b.val, ctr 10 3 p.overLimit b.val])

def execTimeStatus (q : Request) (s : State) : Out := .next (deskRun 0x0B0C (sCommand fun _ s => timeItems s) q s)

end Sys2Proof.Machine
end

