-- ==== Sys2Proof/Machine/Interloan.lean ====
section
/-! DEFINITION. The Interloan service channel: the slot grid and the transmitter, access by schedule and ranging, the receiver of
each tone, delivery, quality and the Interloan commands (06_interloan.md R133 to R160; 14_command_reference.md R347, R348). -/

namespace Sys2Proof.Machine

/-- Update one tone. -/
def onTone (c : Fin 2) (t : Fin 4) (f : Tone → Tone) (s : State) : State := onIl c (fun i => { i with tones := upd i.tones t f }) s
def State.tone (s : State) (c : Fin 2) (t : Fin 4) : Tone := s.il[c].tones[t]

/-- A parameter of R158. -/
def ilPar (s : State) (c : Fin 2) (pid : Nat) : Nat := getParN s .r158 (objCarrier c) pid
def ilParI (s : State) (c : Fin 2) (pid : Nat) : Int := getPar s .r158 (objCarrier c) pid

/-- Symbols of a burst of L payload bytes (R137), and the slots it takes with its guard (R136). -/
def burstSymbols (l : Nat) : Nat := 320 + 2 * (l + 4)
def burstSlots (s : State) (c : Fin 2) (l : Nat) : Nat := ceilDiv (burstSymbols l + ilPar s c 0x30) 1024

/-- Is a tone in the transmit tone mask (R143)? The lowest-numbered one in it. -/
def toneInMask (s : State) (c : Fin 2) (t : Nat) : Bool := bit (ilPar s c 0x20) t
def lowestTone (s : State) (c : Fin 2) : Option (Fin 4) := (List.finRange 4).find? fun t => toneInMask s c t.val

/-- A slot of the grid: its volume and its number (R136). -/
def slotVol (n : Nat) : Nat := n / 16 % 2 ^ 32
def isQuiet (n : Nat) : Bool := n % 16 == 15 && slotVol n % 16 == 0

/-- The slots from `a` before `b` on a grid that wraps after 2^36 slots. -/
def slotsBetween (a b : Nat) : Nat := (b + 2 ^ 36 - a % 2 ^ 36) % 2 ^ 36

/-- Is a tone free of the transmitter's own bursts and guards at a slot (R143)? No burst takes more than 5 slots, so a mark further on
comes from before a renumbering (R165). -/
def Tone.freeIn (t : Tone) (n : Nat) : Bool := slotsBetween n t.freeAt == 0 || 5 < slotsBetween n t.freeAt

/-- Is a slot of a tone granted to this leaf (R146)? -/
def grantedSlot (s : State) (c : Fin 2) (t n : Nat) : Bool :=
  s.il[c].ranged && match s.il[c].scheds.find? fun x => x.vol == slotVol n with
    | some x => !x.join && x.owner.getD (16 * t + n % 16) 0xFF == ilPar s c 0x80
    | none => false

/-- Does a tone qualify for a burst of a type and length at a slot (R136, R143, R145, R146)? A SCHED goes out in slot 0 on the lowest
tone only, and no other burst of the hub takes that slot. -/
def toneQualifies (s : State) (c : Fin 2) (n typ l : Nat) (t : Fin 4) : Bool :=
  let k := burstSlots s c l
  toneInMask s c t.val && (s.tone c t).freeIn n
    && (List.range (ceilDiv (burstSymbols l) 1024)).all (fun j => !isQuiet (n + j))
    && (if typ = 3 then n % 16 == 0 && lowestTone s c == some t
        else s.dev.mode != some .hub || lowestTone s c != some t || (List.range k).all fun j => (n + j) % 16 != 0)
    && (s.dev.mode != some .leaf || (List.range k).all fun j => grantedSlot s c t.val ((n + j) % 2 ^ 36))

/-- EVM_FB (R140): the last figure measured on bursts from a peer, 0.25 dB below 0 dB; 0xFF when none. -/
def evmFb (i : Interloan) (dst : Nat) : Nat :=
  match i.evmBy.find? fun x => x.1 == dst with
  | some x => (max 0 (min 254 (divRound (-x.2) 64))).toNat
  | none => 0xFF

/-- A burst's header (R140) at a grid position. -/
def burstHeader (s : State) (c : Fin 2) (pos : Nat) (b : Burst) : List Byte :=
  let h := beBytes 1 (16 + b.typ) ++ beBytes 1 (if b.typ = 4 then 0xFF else ilSrc s c) ++ beBytes 1 b.dst
    ++ beBytes 1 (b2n (s.dev.mode == some .leaf && s.il[c].ranged && b.typ != 4)) ++ beBytes 2 b.payload.length
    ++ beBytes 2 b.seq ++ beBytes 4 pos ++ beBytes 1 (evmFb s.il[c] b.dst) ++ List.replicate 17 0
  h ++ beBytes 2 (crc16 h)

/-- A burst as sent (R137, R139, R141): the payload CRC goes least significant byte first. -/
def airBytes (s : State) (c : Fin 2) (pos : Nat) (b : Burst) : List Byte :=
  scramble (burstHeader s c pos b ++ b.payload ++ leBytes 4 (crc32c b.payload))

/-- The head of the highest-priority queue that is not empty (R143): SCHED, TIME, KEY, JOIN, MGMT. -/
def nextBurst (i : Interloan) : Option Burst :=
  ([3, 2, 1, 4, 0].findSome? fun typ => i.queue.find? fun b => b.typ == typ)

/-- Remove the first burst of a type from the queue. -/
def popBurst (typ : Nat) : List Burst → List Burst
  | [] => []
  | b :: r => if b.typ = typ then r else b :: popBurst typ r

/-- Send a burst on a tone from a slot (R134, R137 to R141). -/
def sendBurst (c : Fin 2) (t : Fin 4) (n : Nat) (b : Burst) (s : State) : State :=
  let pos := 1024 * n % 2 ^ 32
  let bs := airBytes s c pos b
  onTone c t (fun x => { x with
    freeAt := (n + burstSlots s c b.payload.length) % 2 ^ 36
    sending := some { pos := pos, bytes := bs, syms := preamble ++ qpskSyms (sendBits bs), power := ilParI s c 0x10 }
    sent := x.sent.modify b.typ bump }) s

/-- Place the next burst on the lowest-numbered tone that qualifies; else it waits (R143). -/
def placeBurst (c : Fin 2) (n : Nat) (s : State) : State :=
  match nextBurst s.il[c] with
  | none => s
  | some b =>
    match (List.finRange 4).find? fun t => toneQualifies s c n b.typ b.payload.length t with
    | none => s
    | some t => sendBurst c t n b (onIl c (fun i => { i with queue := popBurst b.typ i.queue }) s)

/-- Does a hub volume lie in a join window (R147)? Where the period begins is not stated (log 31). -/
def inJoinWindow (s : State) (c : Fin 2) (v : Nat) : Bool :=
  let per := ilPar s c 0xA1
  (v + Config.joinPhase per) % per < ilPar s c 0xA0

/-- The SCHED that describes a volume (R145). -/
def schedBytes (s : State) (c : Fin 2) (v : Nat) : List Byte :=
  let j := inJoinWindow s c v
  beBytes 4 v ++ beBytes 1 (b2n j) ++ List.replicate 3 0
    ++ (s.il[c].owner.flatMap fun o => beBytes 1 (if j then 0xFF else o))
    ++ (s.il[c].leaves.toList.flatMap fun l => beBytes 4 (if l.ranged then codeOf 32 l.advance else 0xFFFFFFFF))

/-- A leaf enters a hub volume (R146, R148): its SCHED's advance applies, or the SCHED was missed; those older than
the volume before are dropped. -/
def enterVolume (c : Fin 2) (v : Nat) (s : State) : State :=
  onIl c (fun i =>
    let keep := i.scheds.filter fun x => (x.vol + 2 ^ 32 + 1 - v) % 2 ^ 32 < 2 ^ 31
    match keep.find? fun x => x.vol == v with
    | none => { i with scheds := keep, schedMissed := bump i.schedMissed }
    | some x => match x.adv with
      | some a => { i with scheds := keep, advance := a, ranged := true }
      | none => { i with scheds := keep, ranged := false }) s

/-- The JOIN burst's payload (R147). -/
def joinBytes (s : State) (c : Fin 2) : List Byte :=
  beBytes 1 (ilPar s c 0x80) ++ List.replicate 7 0 ++ beBytes 8 Config.serial.toNat

/-- The JOIN of an unranged leaf goes out at the slot drawn, on the lowest free tone of its mask, past the queues that no grant serves
(R147; log 71). -/
def placeJoin (c : Fin 2) (n : Nat) (s : State) : State :=
  let i := s.il[c]
  if i.joinDue ≠ some n ∨ i.ranged then s
  else
    let s1 := onIl c (fun i => { i with joinDue := none }) s
    match (List.finRange 4).find? fun t => toneInMask s c t.val && (s.tone c t).freeIn n && !isQuiet n with
    | none => s1
    | some t =>
      sendBurst c t n { typ := 4, dst := 0x80, seq := i.nextSeq.getD 4 0, payload := joinBytes s c }
        (onIl c (fun i => { i with nextSeq := i.nextSeq.modify 4 fun k => (k + 1) % 65536 }) s1)

/-- The slot of the sender's grid at a position within the volume, 1/16 tone symbol (R144, R146): of its own transmit volume; for a
leaf, of the hub's volume as it is received, plus the leaf's advance once it is ranged. -/
def gridSlot (s : State) (c : Fin 2) (x : Nat) : Nat :=
  let g := (groupsOf s c).headD 0
  if s.dev.mode = some .leaf then
    ((2 ^ 18 * (s.fol c g).rxVolume + x + if s.il[c].ranged then s.il[c].advance else 0) / 16384) % 2 ^ 36
  else 16 * (s.fol c g).txVolume + x / 16384

/-- SLOT_BOUNDARY_TX (R134, R136, R143 to R147, R158): waiting parameters apply, bursts that have ended leave their tones silent; a
leaf enters a volume at its slot 0 and sends its JOIN when it is due; the hub sends SCHED in slot 0; the next burst is placed. -/
def slotBoundary (c : Fin 2) (x : Nat) (s0 : State) : State :=
  let n := gridSlot s0 c x
  let s1 : State := { s0 with par := s0.par.release .r158 (objCarrier c) }
  let s2 := onIl c (fun i => { i with
    slot := n, owner := i.ownerNext.getD i.owner, ownerNext := none
    tones := i.tones.map fun t => { t with sending := if t.freeIn n then none else t.sending } }) s1
  if !(s2.txc c).txOn then s2
  else
    let s3 :=
      if s2.dev.mode = some .hub ∧ n % 16 = 0 then
        ilEnqueue c 3 0xFE (schedBytes s2 c ((slotVol n + ilPar s2 c 0x90) % 2 ^ 32))
          (onIl c (fun i => { i with queue := i.queue.filter fun b => b.typ != 3 }) s2)
      else if s2.dev.mode = some .leaf then placeJoin c n (if n % 16 = 0 then enterVolume c (slotVol n) s2 else s2)
      else s2
    placeBurst c n s3

def execSlotBoundaryTx (c : Fin 2) (x : Nat) (s : State) : Out := .next (slotBoundary c x s)

/-- Does the SCHED that a leaf holds for a volume put it in a join window (R145, R147)? -/
def joinVolume (i : Interloan) (v : Nat) : Bool := i.scheds.any fun x => x.vol == v && x.join

/-- JOIN_WINDOW_START (R147): in the first volume of a join window an unranged leaf draws r from 0 to 15 (a free value) and sends one
JOIN r slots after the volume's start. -/
def joinWindow (c : Fin 2) (s : State) : State :=
  let v := (s.fol c ((groupsOf s c).headD 0)).rxVolume
  if s.dev.mode = some .leaf ∧ !s.il[c].ranged ∧ joinVolume s.il[c] v ∧ !joinVolume s.il[c] ((v + 2 ^ 32 - 1) % 2 ^ 32) then
    onIl c (fun i => { i with joinDue := some (16 * v + (s.freeVal 4).toNat) }) s.drawn
  else s

def execJoinWindowStart (c : Fin 2) (s : State) : Out := .next (joinWindow c s)

/-- Take up a detection (R152). -/
def takeDetection (m hyp start now : Nat) (t : Tone) : Tone :=
  { t with st := .preamble, det := m, hyp := hyp, start := start, clock := max t.clock now, poisoned := false }

/-- The receiver gives up or ends its burst (R152): a held detection whose preamble still lies in the 512-symbol history is
taken, otherwise it is dropped and the tone is IDLE. A burst with a poisoned item counts as poisoned (R154). -/
def Tone.release (now : Nat) (t0 : Tone) : Tone :=
  let t := { t0 with poisonedCount := if t0.poisoned then bump t0.poisonedCount else t0.poisonedCount, poisoned := false }
  let n := max t.clock now
  match t.held with
  | some (m, h, start) =>
    if n ≤ start + 512 then takeDetection m h start n { t with held := none } else { t with held := none, st := .idle, clock := n }
  | none => { t with st := .idle, clock := n }

/-- Hold the detection of the greatest SNR among those not taken (R152). -/
def Tone.hold (m h : Nat) (start : Nat) (t : Tone) : Tone :=
  { t with held := match t.held with
      | some (a, b, d) => if a < m then some (m, h, start) else some (a, b, d)
      | none => some (m, h, start) }

/-- SNR_det of `b` stands at least `margin` (0.01 dB) above that of `a` (R149, R152): with x = M/(1 − M), x_b ≥ x_a · 10^(margin/1000). -/
def snrAbove (margin a b : Nat) : Bool := 10 ^ margin * (a * (65536 - b)) ^ 1000 ≤ (b * (65536 - a)) ^ 1000

/-- A detection reaches the receiver of a tone (R149, R152, R153): `start` is its preamble start in tone symbols, `m` its M; it is
declared 68 symbols after the start. The detector counts in OFF too. -/
def Tone.detect (margin m h : Nat) (start : Nat) (t0 : Tone) : Tone :=
  let t := { t0 with detections := bump t0.detections, clock := max t0.clock (start + 68) }
  match t.st with
  | .off => t
  | .idle => takeDetection m h start (start + 68) t
  | .payload =>
    if snrAbove margin t.det m then { takeDetection m h start (start + 68) t with captured := bump t.captured }
    else { t.hold m h start with collisions := bump t.collisions }
  | .preamble | .train | .header =>
    if t.det < m then { takeDetection m h start (start + 68) t with abandoned := bump t.abandoned }
    else t.hold m h start

/-- The hypothesis with the greatest M, the lowest of equals, and that M (R149). -/
def bestHyp (ms : List Nat) : Nat × Nat :=
  ms.zipIdx.foldl (fun (b : Nat × Nat) x => if b.2 < x.1 then (x.2, x.1) else b) (0, 0)

/-- TONE_DETECTION (R149): the greatest M over the 65 hypotheses at a timing is a detection when it reaches the threshold and no
greater M, `later`, appears in the four symbols after it. M in 2^-16. -/
def toneDetection (c : Fin 2) (t : Fin 4) (start : Nat) (ms : List Nat) (later : Nat) (s : State) : State :=
  let b := bestHyp (ms.take 65)
  let m := min b.2 65536
  if 10000 * m < 65536 * ilPar s c 0x40 ∨ m < later then s
  else onTone c t (Tone.detect (ilPar s c 0x50) m b.1 start) s

def execToneDetection (c : Fin 2) (t : Fin 4) (start : Nat) (ms : List Nat) (later : Nat) (s : State) : Out :=
  .next (toneDetection c t start ms later s)

/-- The bulk dispersion setting and the common shift that a tone's receiver follows (R135): none in HUB mode, else the group's setting
as soon as it exists and the shift of R62, which is 0 before. -/
def toneBulk (s : State) (c : Fin 2) : Int :=
  let x := s.rxg c ((groupsOf s c).headD 0)
  if s.dev.mode = some .hub ∨ x.st = .off ∨ x.st = .cdSearch then 0 else x.bulk
def toneShift (s : State) (c : Fin 2) : Int := if s.dev.mode = some .hub then 0 else (s.rxc c).shift

/-- Frequency of a hypothesis, Hz (R149), and the frequency that PREAMBLE_END freezes (R150): the hypothesis, then the angle of the
lag-1 products over A, then that of the lag-16 products over B, in 2π/65,536, at Rs/1,024 symbols per second. -/
def hypFreq (h : Nat) : Int := 62500000 * (h : Int) - 2000000000
def refined (symRate h : Nat) (a1 a16 : Int) : Int :=
  hypFreq h + divRound ((16 * a1 + a16) * symRate * 1000000) (16 * 65536 * 1024)

/-- PREAMBLE_END (R150, R152): the frequency is frozen. `bad`: an item of the preamble came poisoned, and its sample counted as zero
(R154). -/
def preambleEnd (symRate : Nat) (a1 a16 : Int) (bad : Bool) (x : Tone) : Tone :=
  if x.st = .preamble then
    { x with st := .train, clock := max x.clock (x.start + 128), freq := refined symRate x.hyp a1 a16, poisoned := x.poisoned || bad }
  else x

def execPreambleEnd (c : Fin 2) (t : Fin 4) (a1 a16 : Int) (bad : Bool) (s : State) : Out :=
  .next (onTone c t (preambleEnd (s.car c).symRate a1 a16 bad) s)

/-- Complex integers, for the training of a burst. -/
def cAdd (a b : Int × Int) : Int × Int := (a.1 + b.1, a.2 + b.2)
def cSub (a b : Int × Int) : Int × Int := (a.1 - b.1, a.2 - b.2)
def cMul (a b : Int × Int) : Int × Int := (a.1 * b.1 - a.2 * b.2, a.1 * b.2 + a.2 * b.1)
def cNorm (a : Int × Int) : Nat := (a.1 * a.1 + a.2 * a.2).natAbs

/-- Twice the Jones matrix, by rows (R151): the first half of the training gives the sum of its columns, the second their difference. -/
def jonesOf (h1x h1y h2x h2y : Int × Int) : List (Int × Int) := [cAdd h1x h2x, cSub h1x h2x, cAdd h1y h2y, cSub h1y h2y]

/-- Is the smaller singular value at least a quarter of the larger (R151)? With F the sum of the squares of the entries and D the
determinant, σ₂/σ₁ ≥ 1/4 exactly when 17·|D| ≥ 4·F. -/
def wellConditioned (j : List (Int × Int)) : Bool :=
  let e (i : Nat) : Int × Int := j.getD i (0, 0)
  let f := (j.map cNorm).sum
  let d := cNorm (cSub (cMul (e 0) (e 3)) (cMul (e 1) (e 2)))
  0 < f && 16 * f * f ≤ 289 * d

/-- BURST_TRAINING_END (R151, R152, R154): the received X and Y against sequence C over the two halves of the training; the matrix is
solved, or the burst is abandoned. -/
def trainingEnd (h1x h1y h2x h2y : Int × Int) (bad : Bool) (x : Tone) : Tone :=
  if x.st ≠ .train then x
  else
    let y := { x with jones := jonesOf h1x h1y h2x h2y, poisoned := x.poisoned || bad }
    if wellConditioned y.jones then { y with st := .header, clock := max y.clock (y.start + 256) }
    else { y.release (y.start + 256) with trainFails := bump y.trainFails }

def execBurstTrainingEnd (c : Fin 2) (t : Fin 4) (h1x h1y h2x h2y : Int × Int) (bad : Bool) (s : State) : Out :=
  .next (onTone c t (trainingEnd h1x h1y h2x h2y bad) s)

/-- Is a burst header good (R140, R141, header fields only)? -/
def headerGood (h : List Byte) : Bool :=
  beAt h 30 2 == crc16 (bytesAt h 0 30) && byteAt h 0 / 16 == 1 && byteAt h 0 % 16 < 5 && beAt h 4 2 ≤ 2048

/-- An instant in steps of 1/256 tone symbol (R155), 2^-16 ns. -/
def toneStamp (symRate t : Nat) : Nat := t * symRate / 262144000 * 262144000 / symRate

/-- HEADER_CRC_READY (R139 to R141, R152, R154, R155): `bs` are the 32 header bytes as received, still scrambled; `stamp` is the instant
at which the first header symbol left the ADC, 2^-16 ns. -/
def headerReady (symRate : Nat) (bs : List Byte) (bad : Bool) (stamp : Nat) (x0 : Tone) : Tone :=
  let h := scramble (padTo 32 bs)
  let x := { x0 with poisoned := x0.poisoned || bad }
  if x0.st ≠ .header then x0
  else if headerGood h then
    { x with st := .payload, clock := max x.clock (x.start + 328), typ := byteAt h 0 % 16, src := byteAt h 1, dst := byteAt h 2
             ranged := bit (byteAt h 3) 0, len := beAt h 4 2, seq := beAt h 6 2, txPos := beAt h 8 4, stamp := toneStamp symRate stamp }
  else { x.release (x.start + 328) with headerErrs := bump x.headerErrs }

def execHeaderCrcReady (c : Fin 2) (t : Fin 4) (bs : List Byte) (bad : Bool) (stamp : Nat) (s : State) : Out :=
  .next (onTone c t (headerReady (s.car c).symRate bs bad stamp) s)

/-- e, the arrival position of a burst's first preamble symbol on the hub's grid less TX_POS (R148), 1/16 tone symbol: the header's
stamp less 256 symbols, against the stamp of the newest own volume that began before it (R101). -/
def burstError (s : State) (c : Fin 2) (stamp txPos : Nat) : Int :=
  let r := (s.car c).symRate
  let start := stamp - 256 * 1024 * 65536000 / r
  match (s.lnk c ((groupsOf s c).headD 0)).tx.find? fun x => decide (x.2 ≤ start) with
  | some (v, t0) =>
    let d : Int := (2 ^ 18 * v + (start - t0) * r * 16 / (1024 * 65536000) : Nat) - (16 * txPos : Nat)
    (d + 2 ^ 35) % 2 ^ 36 - 2 ^ 35
  | none => 0

/-- Record the EVM figure of a burst for its SRC (R156). -/
def EvmStat.add (e : EvmStat) (v : Int) : EvmStat :=
  { last := v, worst := if e.count = 0 then v else max e.worst v, sum := e.sum + v, count := e.count + 1 }
def recordEvm (c : Fin 2) (t : Fin 4) (src : Nat) (v : Int) (s : State) : State :=
  onIl c (fun i => { i with evmBy := (src, v) :: i.evmBy.filter fun x => x.1 != src })
    (onTone c t (fun x => { x with evm := putKey src ((lookupD {} src x.evm).add v) x.evm }) s)

/-- Is a leaf in the grant table (R147)? -/
def inGrant (i : Interloan) (l : Nat) : Bool := i.owner.any fun o => o == l

/-- The hub measures a ranged leaf's burst (R148): `e` is its arrival position less TX_POS, 1/16 tone symbol. -/
def rangeMeasure (c : Fin 2) (t : Fin 4) (l : Fin 16) (e : Int) (s : State) : State :=
  raiseIf (decide (8 * (ilPar s c 0x30 : Int) < e.natAbs)) 98 (objCarrier c) (evtArg 0 t.val l.val 0)
    (onIl c (fun i => { i with leaves := upd i.leaves l fun x => { x with advance := x.advance + e } }) s)

/-- A JOIN at the hub (R147, R148). -/
def joinReceived (c : Fin 2) (l : Nat) (e : Int) (s : State) : State :=
  onIl c (fun i =>
    if l < 16 ∧ inGrant i l then
      { i with joinRx := bump i.joinRx, leaves := updNat i.leaves l fun x => { x with advance := e, ranged := true } }
    else { i with joinRx := bump i.joinRx, joinIgnored := bump i.joinIgnored }) s

/-- A SCHED at a leaf (R145, R146). -/
def schedReceived (c : Fin 2) (p : List Byte) (s : State) : State :=
  let l := ilPar s c 0x80
  let a := beAt p (72 + 4 * l) 4
  let x : Sched := { vol := beAt p 0 4, join := byteAt p 4 == 1, owner := (bytesAt p 8 64).map (·.toNat)
                     adv := if a = 0xFFFFFFFF then none else some a }
  onIl c (fun i => { i with scheds := x :: i.scheds.filter fun y => y.vol != x.vol }) s

/-- A MGMT datagram enters the receive store of 64, or is dropped (R142, R160). -/
def mgmtReceived (c : Fin 2) (t : Fin 4) (d : Datagram) (s : State) : State :=
  if s.il[c].store.length < 64 then
    raise 101 (objCarrier c) (evtArg 0 t.val d.src 0) (onIl c (fun i => { i with store := i.store ++ [d] }) s)
  else raise 100 (objCarrier c) (evtArg 0 t.val d.src 0) (onIl c (fun i => { i with mgmtDrops := bump i.mgmtDrops }) s)

/-- A tone's receiver when its carrier enters OFF or SIGNAL_WAIT, and when it is past SIGNAL_WAIT (R135, R152). -/
def tonesOff (c : Fin 2) (s : State) : State :=
  onIl c (fun i => { i with tones := i.tones.map fun t => { t with st := .off, held := none } }) s
def tonesIdle (c : Fin 2) (s : State) : State :=
  onIl c (fun i => { i with tones := i.tones.map fun t => if t.st = .off then { t with st := .idle } else t }) s

/-- A carrier that is disabled sends nothing more (R134): its tones fall silent and are free, and its send queue is emptied (what waits
there is dropped: log 71). -/
def tonesStop (c : Fin 2) (s : State) : State :=
  onIl c (fun i => { i with queue := [], joinDue := none, tones := i.tones.map fun t => { t with sending := none, freeAt := 0 } })
    (tonesOff c s)

/-- LEAF_TIMEOUT (R148): a granted leaf that was ranged is marked unranged. -/
def leafTimeout (c : Fin 2) (l : Fin 16) (s : State) : State :=
  if s.dev.mode = some .hub ∧ inGrant s.il[c] l.val ∧ s.il[c].leaves[l].ranged then
    raise 99 (objCarrier c) (evtArg 0 0 l.val 0)
      (onIl c (fun i => { i with leaves := upd i.leaves l fun x => { x with ranged := false } }) s)
  else s

def execLeafTimeout (c : Fin 2) (l : Fin 16) (s : State) : Out := .next (leafTimeout c l s)

/-- NOISE_WINDOW_END (R157): the floors of a tone over a window, 1/256 dB. -/
def noiseWindow (c : Fin 2) (t : Fin 4) (x y : Int) (s : State) : State :=
  let th := ilParI s c 0x71
  let w := max x y
  let above := decide (th * 256 < w * 100)
  let was := (s.tone c t).noiseRaised
  raiseIf (above && !was) 97 (objCarrier c) (evtArg 0 t.val 0 0) (onTone c t (fun n => { n with
    noiseX := x, noiseY := y, noiseRaised := above || (was && !decide (w * 100 ≤ (th - 100) * 256)) }) s)

def execNoiseWindowEnd (c : Fin 2) (t : Fin 4) (x y : Int) (s : State) : Out := .next (noiseWindow c t x y s)

/-- Is a burst being sent or received on a carrier (R158)? -/
def ilBusy (i : Interloan) : Bool :=
  i.tones.toList.any fun t => !t.freeIn (i.slot + 1) || (t.st != .off && t.st != .idle) || (t.sending.isSome && !t.freeIn i.slot)

/-- INTERLOAN.SET (R158): values set during a burst wait for the next slot boundary. -/
def execInterloanSet (q : Request) (s : State) : Out :=
  .next (deskRun 0x0601 (pCommand 0x0601 (fun _ _ => none) fun rs s =>
    if ilBusy s.il[reqCarrier q] then waitRecs 0x0601 q rs s else applyRecs 0x0601 q rs s) q s)

/-- The first OWNER byte of a grant table that R145 refuses: a code that is no leaf, the quiet slot, a hub SCHED slot. A leaf's
shortest burst with any guard takes one slot, so a leaf that owns a slot has a run long enough. -/
def badOwner (s : State) (c : Fin 2) (q : Request) : Option Nat :=
  (List.range 64).find? fun k =>
    let o := u8 q (4 + k)
    o != 0xFF && (15 < o || k % 16 == 15 || (k % 16 == 0 && (lowestTone s c).map (·.val) == some (k / 16)))

/-- INTERLOAN.SCHEDULE.SET (R145, R347). -/
def scheduleSet (q : Request) (s : State) : State × Reply :=
  let c := reqCarrier q
  if s.dev.mode ≠ some .hub then (s, refuse stBadState)
  else
    match badOwner s c q with
    | some k => (s, badParam (4 + k))
    | none =>
      let o := (List.range 64).map fun k => u8 q (4 + k)
      (onIl c (fun i => if ilBusy i then { i with ownerNext := some o } else { i with owner := o, ownerNext := none })
        (keepBody 0x0602 q s), ok)

def execInterloanScheduleSet (q : Request) (s : State) : Out := .next (deskRun 0x0602 scheduleSet q s)

/-- A DST code (R140): a leaf, the hub, a point-to-point end, an unranged leaf, broadcast. -/
def dstOk (d : Nat) : Bool := d < 16 || d == 0x80 || d == 0x81 || d == 0xFE || d == 0xFF

/-- INTERLOAN.SEND (R143, R347). -/
def interloanSend (q : Request) (s : State) : State × Reply :=
  let c := reqCarrier q
  let l := u16 q 6
  if !dstOk (u8 q 4) then (s, badParam 4)
  else if 2048 < l then (s, badParam 6)
  else if 0 < l ∧ q.slot.isNone then (s, refuse stBadEntry)
  else if q.bulk.length < l then (s, badParam 6)
  else if !(s.car c).enabled then (s, refuse stBadState)
  else if 32 ≤ ilQueued s.il[c] 0 then (onIl c (fun i => { i with sendRefused := bump i.sendRefused }) s, refuse stBusy)
  else (ilEnqueue c 0 (u8 q 4) (q.bulk.take l) s, ok (leBytes 2 (s.il[c].nextSeq.getD 0 0)))

def execInterloanSend (q : Request) (s : State) : Out := .next (deskRun 0x0603 interloanSend q s)

/-- INTERLOAN.RECV (R348). -/
def interloanRecv (q : Request) (s : State) : State × Reply :=
  let c := reqCarrier q
  match s.il[c].store with
  | [] => (s, ok (List.replicate 24 0))
  | d :: rest =>
    (onIl c (fun i => { i with store := rest }) s,
     okBulk (leBytes 1 1 ++ leBytes 1 d.src ++ leBytes 1 d.dst ++ leBytes 1 d.tone ++ leBytes 2 d.seq
       ++ leBytes 2 d.payload.length ++ leBytes 6 d.stamp.sec ++ leBytes 2 d.stamp.frac ++ leBytes 4 d.stamp.ns
       ++ leBytes 2 (codeOf 16 d.evm) ++ leBytes 2 rest.length) d.payload)

def execInterloanRecv (q : Request) (s : State) : Out := .next (deskRun 0x0604 interloanRecv q s)

/-- Receiver state of a tone as R337 codes R152: in the order of the State column, without the "Any" rows. -/
def ToneState.code : ToneState → Nat
  | .payload => 0 | .off => 1 | .idle => 2 | .preamble => 3 | .train => 4 | .header => 5

/-- The grant table in force (R159): the hub's own; at a leaf that of the SCHED for the present volume, none without one. -/
def ilOwner (s : State) (c : Fin 2) : List Nat :=
  if s.dev.mode = some .leaf then
    match s.il[c].scheds.find? fun x => x.vol == slotVol s.il[c].slot with
    | some x => if x.join then List.replicate 64 0xFF else x.owner
    | none => List.replicate 64 0xFF
  else s.il[c].owner

/-- The leaves as INTERLOAN.STATUS shows them: the hub's table; at a leaf its own advance and whether it is ranged. -/
def ilLeaves (s : State) (c : Fin 2) : List LeafEntry :=
  if s.dev.mode = some .leaf then
    (List.range 16).map fun l => if l = ilPar s c 0x80 then { advance := s.il[c].advance, ranged := s.il[c].ranged } else {}
  else s.il[c].leaves.toList

/-- INTERLOAN.STATUS (R159, R337). -/
def interloanItems (c : Fin 2) (s : State) : List StatItem :=
  let i := s.il[c]
  let ts := i.tones.toList.zipIdx
  let per (row fld : Nat) (f : Tone → Nat) : List StatItem := ts.map fun t => ctr row fld (f t.1) t.2
  let typed (row fld : Nat) (f : Tone → List Nat) : List StatItem :=
    ts.flatMap fun t => (List.range 5).map fun k => ctr row fld ((f t.1).getD k 0) (5 * t.2 + k)
  (ts.map fun t => gau 1 0 t.1.st.code t.2)
    ++ [lst 2 0 ((ilOwner s c).flatMap (leBytes 1)), lst 2 1 ((ilLeaves s c).flatMap fun l => leBytes 4 (codeOf 32 l.advance)),
        gau 2 2 ((ilLeaves s c).zipIdx.foldl (fun a l => a + b2n l.1.ranged * 2 ^ l.2) 0)]
    ++ (ts.flatMap fun t => t.1.evm.flatMap fun e =>
          [sgau 3 0 e.2.last (256 * t.2 + e.1), sgau 3 1 e.2.worst (256 * t.2 + e.1),
           sgau 3 2 (if e.2.count = 0 then 0 else divRound e.2.sum e.2.count) (256 * t.2 + e.1)])
    ++ (ts.flatMap fun t => [sgau 4 0 t.1.noiseX (2 * t.2), sgau 4 0 t.1.noiseY (2 * t.2 + 1)])
    ++ per 5 0 (·.detections) ++ typed 5 1 (·.delivered)
    ++ per 6 0 (·.abandoned) ++ per 6 1 (·.captured) ++ per 6 2 (·.collisions)
    ++ per 7 0 (·.trainFails) ++ per 7 1 (·.headerErrs) ++ per 7 2 (·.payloadErrs) ++ per 7 3 (·.poisonedCount)
    ++ typed 8 0 (·.sent)
    ++ [ctr 9 0 i.joinRx, ctr 9 1 i.joinIgnored, ctr 10 0 i.schedMissed, ctr 11 0 i.mgmtDrops, ctr 11 1 i.sendRefused]

def execInterloanStatus (q : Request) (s : State) : Out :=
  .next (deskRun 0x0605 (sCommand fun q s => interloanItems (reqCarrier q) s) q s)

end Sys2Proof.Machine
end

