-- ==== Sys2Proof/Machine/Folio.lean ====
section
/-! DEFINITION. The folio header and its defects, line encryption, key schedules and the key exchange, with their commands
(07_folio_encryption.md R163 to R185; 14_command_reference.md R347; 18_boot_security.md R437). -/

namespace Sys2Proof.Machine

/-- Encryption of a carrier (R176, R183): 0 off, 1 on, 2 on with clear reception allowed. -/
def encMode (s : State) (c : Fin 2) : Nat := getParN s .r183 (objCarrier c) 0x20
def cryptPar (s : State) (c : Fin 2) (pid : Nat) : Nat := getParN s .r183 (objCarrier c) pid

/-- Raise an event of a group with the epoch (R366). -/
def raiseFol (n : Nat) (c : Fin 2) (g : Fin 16) (state epoch value : Nat) (s : State) : State :=
  raise n (objGroup c g) (evtArg state 0 epoch value) s

/-- ODUC slices of a group, m (R164, R168). -/
def groupSlices (s : State) (c : Fin 2) (g : Nat) : Nat := (s.car c).slices.getD g 0

/-- A received group shows ODUC-AIS to what follows (R181). -/
def FolioGroup.aisRx (f : FolioGroup) : Bool := f.lof || f.sliceDef || f.auth || f.clearDef || f.noKey

/-- A header's position, VOLUME × 256 + FOLIO, and the next one. -/
def hdrPos (h : List Byte) : Nat := 256 * beAt h 0 4 + byteAt h 4
def nextPos (p : Nat) : Nat := (p + 1) % 2 ^ 40

/-- A good folio header (R164, R181): alignment recovery, the numbering jump, the slice check. -/
def goodHeader (c : Fin 2) (g : Fin 16) (h : List Byte) (s : State) : State :=
  let f := s.fol c g
  let p := hdrPos h
  let follows := f.lastGood = some p
  let run := if follows then f.goodRun + 1 else 1
  let counted := nextPos (256 * f.rxVolume + f.rxFolio)
  let track := (s.rxg c g).st = .track
  let exitLof := f.lof ∧ track ∧ 2 ≤ run
  let take := exitLof ∨ !f.rxKnown
  let jr := if take ∨ p = counted then 0 else if 0 < f.jumpRun ∧ f.jumpLast = p then f.jumpRun + 1 else 1
  let jump := jr = 3
  let now := if take ∨ jump then p else counted
  let bad := byteAt h 6 != groupSlices s c g.val
  let sr := if bad then f.sliceRun + 1 else 0
  let sg := if bad then 0 else f.sliceGood + 1
  let mism := if f.sliceDef then decide (sg < 3) else decide (3 ≤ sr)
  let s1 := onFol c g (fun f => { f with
    hcrcRun := 0, goodRun := run, lastGood := some (nextPos p), rxKnown := true, rxVolume := now / 256, rxFolio := now % 256
    jumpRun := if jump then 0 else jr, jumpLast := nextPos p, sliceRun := sr, sliceGood := sg, sliceDef := mism
    lof := f.lof && !decide exitLof }) s
  let s2 := if exitLof then raiseFol 128 c g 0 0 0 s1 else s1
  let s3 := if jump then raiseFol 129 c g 0 0 0 s2 else s2
  if mism && !f.sliceDef then raiseFol 130 c g 0 0 0 s3 else s3

/-- The received number counts on over a bad header, and alignment is lost after 8 (R181). -/
def badHeader (c : Fin 2) (g : Fin 16) (s : State) : State :=
  let f := s.fol c g
  let now := nextPos (256 * f.rxVolume + f.rxFolio)
  let lost := f.hcrcRun + 1 = 8 ∧ !f.lof
  let s1 := onFol c g (fun f => { f with
    hcrc := bump f.hcrc, hcrcRun := f.hcrcRun + 1, goodRun := 0, jumpRun := 0, lastGood := none
    rxVolume := now / 256, rxFolio := now % 256, lof := f.lof || decide (f.hcrcRun + 1 = 8) }) s
  if lost then raiseFol 128 c g 1 0 0 s1 else s1

/-- A LEAF compares the hub's numbering with its own count (R165): 3 consecutive good headers that follow one another and disagree
are adopted at the next volume boundary; before its first volume 2 good headers give the hub's grid. `follows`: the header follows
the one before it. -/
def leafNumbers (c : Fin 2) (g : Fin 16) (good follows : Bool) (h : List Byte) (s : State) : State :=
  if s.dev.mode ≠ some .leaf then s
  else onFol c g (fun f =>
    if !good then { f with leafRun := 0 }
    else
      let v := beAt h 0 4
      let n := if f.txOn ∧ v = f.txVolume then 0 else if f.txOn ∧ !follows then 1 else f.leafRun + 1
      let need := if f.txOn then 3 else 2
      { f with leafRun := n, adopt := if need ≤ n then some v else if n = 0 then none else f.adopt }) s

/-- A FOLIO 0 in TRACK is numbered: its receive stamp is kept by VOLUME for the Colophon (R266) and for protection (R220). -/
def noteArrival (c : Fin 2) (g : Fin 16) (s : State) : State :=
  let f := s.fol c g
  let a := (f.rxVolume, (s.rxg c g).arrival)
  if f.rxFolio = 0 ∧ (s.rxg c g).st = .track then
    onLink c g (fun l => { l with rx := (a :: l.rx).take 256 }) (onProt g (fun p => { p with
      sides := upd p.sides c fun x => { x with arrivals := (a :: x.arrivals).take 2048 } }) s)
  else s

/-- The folio that arrived last waits for its release under the number now in use; a receiver that has entered TRACK within a volume
finds the codeword boundaries from a good header (R111). -/
def numberFolio (c : Fin 2) (g : Fin 16) (good : Bool) (h : List Byte) (s : State) : State :=
  let f := s.fol c g
  onRxg c g (fun x =>
    let due := x.due.modify (x.due.length - 1) fun d => if d.num.isNone then { d with num := some (f.rxVolume, f.rxFolio) } else d
    if good ∧ x.st = .track ∧ !x.synced ∧ beAt h 7 2 ≠ 0xFFFF then
      { x with
        due := due, synced := true
        segs := (x.segs.drop (x.segs.length - 1)).map fun y => { y with dims := (takeDims (beAt h 9 3) y.dims).2 } }
    else { x with due := due }) s

/-- FOLIO_HEADER_RECEIVED (R111, R163 to R165, R181): the 16 header bytes after descrambling. -/
def headerReceived (c : Fin 2) (g : Fin 16) (h : List Byte) (s : State) : State :=
  let good := beAt h 14 2 == crc16 (bytesAt h 0 14)
  let follows := (s.fol c g).lastGood == some (hdrPos h)
  noteArrival c g (numberFolio c g good h (leafNumbers c g good follows h (if good then goodHeader c g h s else badHeader c g s)))

/-- A slot of a group is in force for a direction, or received volumes under it are not all released (R172). -/
def Crypt.inForce (k : Crypt) (sl : Nat) : Bool :=
  (k.txLive && k.txSlot == sl) || k.txTail == some sl || (k.rxSync && k.rxSlot == sl && (getNat {} k.slots sl).loaded)
    || (match k.rxTail with | some (x, _) => x == sl | none => false) || k.rxVols.any fun v => v.enc && v.slot == sl

/-- The slot an exchange loads (R177): the one that the transmitter does not use; it must be idle and no change armed. -/
def Crypt.target (k : Crypt) : Nat := 1 - k.txSlot
def Crypt.canStart (k : Crypt) : Bool :=
  !k.inForce k.target && k.armed.isNone && k.armNext.isNone && k.rxArmed.isNone && k.kex.isNone

/-- Can the transmit key be used (R175, R176)? -/
def Crypt.usable (k : Crypt) : Bool := k.txLive && k.keyVolTx < 2 ^ 32 - 1

/-- The epoch of the transmit key in force; 0 before the first (R185). -/
def Crypt.txEpoch (k : Crypt) : Nat := if k.txLive then (getNat {} k.slots k.txSlot).epoch else 0

/-- With encryption on and no usable key CRYPT_NO_KEY (142) is raised (R176). -/
def noKeyCheck (c : Fin 2) (g : Fin 16) (s : State) : State :=
  let k := s.cry c g
  let bad := (s.car c).enabled && encMode s c != 0 && !k.usable
  let s1 := onCry c g (fun k => { k with txNoKey := bad }) s
  if bad && !k.txNoKey then raiseFol 142 c g 0 k.txEpoch 0 s1 else s1

/-- A group's transmit key changes slot (R172, R174). -/
def txKeySwitch (c : Fin 2) (g : Fin 16) (ep : Nat) (s : State) : State :=
  raiseFol 138 c g 0 ep 0 (onCry c g (fun k => { k with
    txTail := if k.txLive then some k.txSlot else none, txSlot := 1 - k.txSlot, txLive := true, keyVolTx := 0, armed := none
    changes := bump k.changes }) s)

/-- The key side of a transmit volume boundary (R171 to R176): the tag of the volume that ends, the countdown, KEY_VOL, and
whether the new volume is encrypted. -/
def txKeyVolume (c : Fin 2) (g : Fin 16) (s : State) : State :=
  let s1 := onCry c g (fun k => { k with
    txTag := if k.txEnc then some (gcmTag k.txAcc) else none, txTail := none }) s
  let k := s1.cry c g
  let s2 := match k.armed, k.armNext with
    | some (ep, n), _ =>
      if n ≤ 1 then txKeySwitch c g ep s1
      else onCry c g (fun k => { k with armed := some (ep, n - 1), keyVolTx := k.keyVolTx + b2n k.txLive }) s1
    | none, some ep =>
      onCry c g (fun k => { k with armNext := none, armed := some (ep, cryptPar s1 c 0x30), keyVolTx := k.keyVolTx + b2n k.txLive }) s1
    | none, none => onCry c g (fun k => { k with keyVolTx := k.keyVolTx + b2n k.txLive }) s1
  let k2 := s2.cry c g
  let s3 := if k2.txLive ∧ k2.keyVolTx = 2 ^ 31 then raiseFol 140 c g 0 k2.txEpoch 0 s2 else s2
  noKeyCheck c g (onCry c g (fun k => { k with txEnc := encMode s c != 0 && k.usable }) s3)

/-- IV and additional data of a volume (R171). -/
def gcmIv (c : Fin 2) (g : Fin 16) (epoch keyVol : Nat) : List Byte :=
  beBytes 1 c.val ++ beBytes 1 g.val ++ beBytes 1 epoch ++ beBytes 1 0 ++ beBytes 4 keyVol ++ beBytes 4 0
def gcmAad (c : Fin 2) (g : Fin 16) (vol m : Nat) : List Byte :=
  beBytes 4 vol ++ beBytes 1 c.val ++ beBytes 1 g.val ++ beBytes 1 m ++ beBytes 1 0

/-- The KEY field of the volume being sent (R173). -/
def txKeyField (k : Crypt) : List Byte :=
  let b := beBytes 1 (128 * b2n k.txEnc + 64 * b2n k.armed.isSome + 32 * k.txSlot + 16 * b2n k.txTag.isSome)
    ++ beBytes 1 (getNat {} k.slots k.txSlot).epoch ++ beBytes 1 (match k.armed with | some x => x.1 | none => 0)
    ++ beBytes 1 (match k.armed with | some x => x.2 | none => 0) ++ beBytes 4 k.keyVolTx ++ beBytes 16 (k.txTag.getD 0)
  b ++ beBytes 2 (crc16 b)

/-- A received group's key changes slot at a volume (R172, R174). -/
def rxKeySwitch (c : Fin 2) (g : Fin 16) (v ep slot base : Nat) (s : State) : State :=
  raiseFol 138 c g 0 ep 0 (onCry c g (fun k => { k with
    rxTail := if slot = k.rxSlot then k.rxTail else some (k.rxSlot, v), rxSlot := slot, rxEpoch := ep, rxBase := base
    rxArmed := none, changes := bump k.changes }) s)

/-- The scheduled change takes effect at its volume (R172, R174). -/
def rxKeyVolume (c : Fin 2) (g : Fin 16) (v : Nat) (s : State) : State :=
  let k := s.cry c g
  match k.rxArmed with
  | some (va, ep) => if (v + 2 ^ 32 - va) % 2 ^ 32 < 2 ^ 31 then rxKeySwitch c g v ep (1 - k.rxSlot) va s else s
  | none => s

/-- Volume v has been released: it and those before it no longer need their slots, and the old slot is idle once the first whole
volume under the other slot, or a later one, has been released (R172). -/
def Crypt.released (v : Nat) (k : Crypt) : Crypt :=
  { k with
    rxVols := k.rxVols.filter fun x => decide ((x.vol + 2 ^ 32 - v - 1) % 2 ^ 32 < 2 ^ 31)
    rxTail := match k.rxTail with
      | some (x, w) => if (v + 2 ^ 32 - w) % 2 ^ 32 < 2 ^ 31 then none else some (x, w)
      | none => none }

/-- What the schedule gives for volume v (R174). -/
def Crypt.scheduled (v : Nat) (enc : Bool) (k : Crypt) : RxVol :=
  { vol := v, slot := k.rxSlot, keyVol := (v + 2 ^ 32 - k.rxBase) % 2 ^ 32, epoch := k.rxEpoch, enc := enc }

/-- Judge volumes whose tag is both computed and received, or known not to come (R174, R181). -/
def judgeTags (c : Fin 2) (g : Fin 16) (s : State) : State :=
  (s.cry c g).doneTags.foldl (fun s d =>
    match (s.cry c g).gotTags.find? fun x => x.1 == d.1 with
    | none => s
    | some (_, t) =>
      let s1 := onCry c g (fun k => { k with
        doneTags := k.doneTags.filter fun x => x.1 != d.1, gotTags := k.gotTags.filter fun x => x.1 != d.1 }) s
      match t with
      | none => onFol c g (fun f => { f with unverified := bump f.unverified }) s1
      | some t =>
        if t = d.2 then
          onFol c g (fun f => { f with
            verified := bump f.verified, tagFailRun := 0, tagGoodRun := f.tagGoodRun + 1, auth := f.auth && f.tagGoodRun + 1 < 3 }) s1
        else
          let f := s1.fol c g
          let s2 := onFol c g (fun f => { f with
            tagFails := bump f.tagFails, tagGoodRun := 0, tagFailRun := f.tagFailRun + 1, auth := f.auth || 3 ≤ f.tagFailRun + 1 }) s1
          if 3 ≤ f.tagFailRun + 1 ∧ !f.auth then raiseFol 139 c g 0 (s2.cry c g).rxEpoch 0 s2 else s2) s

/-- Volumes of received tags are kept for at most 64 volumes. -/
def noteTag (v : Nat) (t : Option Nat) (k : Crypt) : Crypt :=
  if k.gotTags.any fun x => x.1 == v then k else { k with gotTags := ((v, t) :: k.gotTags).take 64 }

/-- CRYPT_KEX_DONE and the end of an exchange (R178). -/
def kexDone (c : Fin 2) (g : Fin 16) (ep : Nat) (s : State) : State :=
  raiseFol 136 c g 0 ep 0 (onCry c g (fun k => { k with
    kex := none, inbox := none, attempts := 0, kexDone := bump k.kexDone }) s)

/-- The exchange sees the far end's KEY field carry its epoch (R178): the initiator arms, the responder's end is done. An initiator
whose timeout expired with M3 in flight still arms, and the exchange counts as done (R182). -/
def kexSeen (c : Fin 2) (g : Fin 16) (cur next : Nat) (armed : Bool) (s : State) : State :=
  let sees (ep : Nat) : Bool := cur == ep || (armed && next == ep)
  match (s.cry c g).kex with
  | none =>
    match (s.cry c g).lateKex with
    | some ep => if sees ep then
        kexDone c g ep (onCry c g (fun k => { k with armNext := some ep, lateKex := none, retryDue := false }) s)
      else s
    | none => s
  | some x =>
    if !sees x.epoch then s
    else
      match x.phase with
      | .awaitFar => kexDone c g x.epoch (onCry c g (fun k => { k with armNext := some x.epoch }) s)
      | .awaitNear => kexDone c g x.epoch s
      | .awaitM2 => s
      | .awaitM3 => s

/-- What a receiver notes of a good KEY field of volume v (R173, R174, R182): out of schedule it takes SLOT, EPOCH_CUR and
KEY_VOL from the field; an armed one schedules the change; a valid tag belongs to the volume before. -/
def Crypt.heard (v : Nat) (kf : List Byte) (k : Crypt) : Crypt :=
  let fl := byteAt kf 0
  let slot := fl / 32 % 2
  let cur := byteAt kf 1
  let kv := beAt kf 4 4
  let k1 := if k.rxSync then k else { k with rxSync := true, rxSlot := slot, rxEpoch := cur, rxBase := (v + 2 ^ 32 - kv) % 2 ^ 32 }
  let k2 := { k1 with
    curGood := true, curEnc := k1.curEnc || bit fl 7, curDiff := k1.curDiff || slot != k1.rxSlot, curSlot := slot, curKeyVol := kv
    rxArmed := if bit fl 6 then some ((v + byteAt kf 3) % 2 ^ 32, byteAt kf 2) else k1.rxArmed }
  let k3 := { k2 with
    lastEnc := bit fl 7, rxVols := (k2.scheduled v (bit fl 7) :: k2.rxVols.filter fun x => x.vol != v).take 64 }
  if bit fl 4 then noteTag ((v + 2 ^ 32 - 1) % 2 ^ 32) (some (beAt kf 8 16)) k3 else k3

/-- A good KEY field of volume v (R173, R174, R181). -/
def goodKeyField (c : Fin 2) (g : Fin 16) (v : Nat) (kf : List Byte) (s : State) : State :=
  let fl := byteAt kf 0
  let enc := bit fl 7
  let slot := fl / 32 % 2
  let cur := byteAt kf 1
  let s2 := onCry c g (Crypt.heard v kf) (rxKeyVolume c g v s)
  let k := getNat {} (s2.cry c g).slots slot
  let usable := encMode s2 c != 0 && k.loaded && k.epoch == cur
  let noKey := if enc then !usable else (s2.fol c g).noKey
  let was := (s2.fol c g).noKey
  let s3 := onFol c g (fun f => { f with noKey := noKey, clearDef := f.clearDef && !enc, clearRun := if enc then 0 else f.clearRun }) s2
  let s4 := if noKey && !was then raiseFol 142 c g 0 cur 0 s3 else s3
  judgeTags c g (kexSeen c g cur (byteAt kf 2) (bit fl 6) s4)

/-- KEY_FIELD_RECEIVED (R174, R178, R181): the KEY field of a folio of volume v. -/
def keyField (c : Fin 2) (g : Fin 16) (v : Nat) (kf : List Byte) (s : State) : State :=
  if beAt kf 24 2 = crc16 (bytesAt kf 0 24) then goodKeyField c g v kf s
  else onFol c g (fun f => { f with kcrc := bump f.kcrc }) s

/-- The key side of a receive volume boundary (R174, R181): volume v has arrived whole, and the schedule gives the slot of the volume
that begins; its ENC is taken as before until a good KEY field comes (DEDUCED, log 70). -/
def rxKeyBoundary (c : Fin 2) (g : Fin 16) (v : Nat) (s : State) : State :=
  let s1 := onCry c g (noteTag ((v + 2 ^ 32 - 1) % 2 ^ 32) none) s
  let k := s1.cry c g
  let f := s1.fol c g
  let run := if encMode s1 c = 1 ∧ k.curGood ∧ !k.curEnc then f.clearRun + 1 else if k.curGood then 0 else f.clearRun
  let s2 := onFol c g (fun f => { f with clearRun := run, clearDef := f.clearDef || 3 ≤ run }) s1
  let s3 := if 3 ≤ run ∧ !f.clearDef then raiseFol 141 c g 0 k.rxEpoch 0 s2 else s2
  let s4 := if k.curDiff && k.lastDiff then
      onCry c g (fun k => { k with
        rxSlot := k.curSlot, rxBase := (v + 2 ^ 32 - k.curKeyVol) % 2 ^ 32, rxEpoch := (getNat {} k.slots k.curSlot).epoch
        rxArmed := none, curDiff := false, resyncs := bump k.resyncs }) s3
    else s3
  let s5 := onCry c g (fun k => { k with lastDiff := k.curDiff, curDiff := false, curGood := false, curEnc := false }) s4
  let w := (v + 1) % 2 ^ 32
  judgeTags c g (onCry c g (fun k =>
    if k.rxSync ∧ encMode s c ≠ 0 then { k with rxVols := (k.scheduled w k.lastEnc :: k.rxVols.filter fun x => x.vol != w).take 64 }
    else k) (rxKeyVolume c g w s5))

/-- Decrypt a released folio of volume v (R171, R174); the tag is complete with FOLIO 255. -/
def decryptFolio (c : Fin 2) (g : Fin 16) (v folio : Nat) (bs : List Byte) (s : State) : List Byte × State :=
  let k := s.cry c g
  match k.rxVols.find? fun x => x.vol == v with
  | none => (bs, s)
  | some r =>
    if !r.enc then (bs, if folio = 255 then onCry c g (Crypt.released v) s else s)
    else
      let key := (getNat {} k.slots r.slot).keyRx
      let acc := if folio = 0 then gcmStart key (gcmIv c g r.epoch r.keyVol) (gcmAad c g v (groupSlices s c g.val)) else k.rxAcc
      let d := gcmDecrypt acc bs
      let s1 := onCry c g (fun k => { k with rxAcc := d.1 }) s
      if folio = 255 then
        (d.2, judgeTags c g (onCry c g (fun k => { k.released v with doneTags := ((v, gcmTag d.1) :: k.doneTags).take 64 }) s1))
      else (d.2, s1)

/-- The peer hash set for a group (R177), as 32 bytes. -/
def peerHash (s : State) (c : Fin 2) (g : Nat) : Option (List Byte) :=
  (bodyOf s 0x0711 (objGroup c g)).map fun b => bytesAt b.body 4 32
def shaBytes (l : List Byte) : List Byte := sha3Bytes l
def ownHash : List Byte := shaBytes (padTo 1312 ownPub)

/-- Is this end the initiator of a group (R177)? Without a peer hash it is taken for one until a greater key shows (log 32). -/
def isInitiator (s : State) (c : Fin 2) (g : Nat) : Bool :=
  match s.dev.mode with
  | some .hub => true
  | some .leaf => false
  | _ => match peerHash s c g with
    | some h => beNat h < beNat ownHash
    | none => true

/-- Does the Charter require a peer hash (R437)? May an exchange start for a group? -/
def keyRight (s : State) (b : Nat) : Bool := bit (byteAt s.dev.charter 12) b
def peerAllowed (s : State) (c : Fin 2) (g : Nat) : Bool := !keyRight s 4 || (peerHash s c g).isSome

/-- Does a peer's public key pass (R177, R437)? -/
def peerOk (s : State) (c : Fin 2) (g : Nat) (pub : List Byte) : Bool :=
  match peerHash s c g with
  | some h => h == shaBytes pub
  | none => !keyRight s 4

/-- Send a message as KEY bursts of at most 2,040 bytes (R178). -/
def sendFragments (c : Fin 2) (g : Fin 16) (epoch msg : Nat) (m : List Byte) (s : State) : State :=
  let n := ceilDiv m.length 2040
  (List.range n).foldl (fun s i =>
    ilEnqueue c 1 (ilPeer s g.val) (beBytes 1 epoch ++ beBytes 1 msg ++ beBytes 1 i ++ beBytes 1 n ++ beBytes 2 m.length
      ++ beBytes 2 0 ++ (m.drop (2040 * i)).take 2040) s) s

/-- The head of a message (R178): MSG, EPOCH, GROUP, Reserved. -/
def kexHead (msg epoch : Nat) (g : Fin 16) : List Byte := beBytes 1 msg ++ beBytes 1 epoch ++ beBytes 1 g.val ++ beBytes 1 0

/-- Start an exchange as the initiator (R177, R178): the epoch adds 1, M1 goes out. -/
def startKex (c : Fin 2) (g : Fin 16) (s : State) : State :=
  let ep := ((s.cry c g).epoch + 1) % 256
  let kk := kemKeys (beBytes 32 (s.freeVal 256).toNat) (beBytes 32 (s.drawn.freeVal 256).toNat)
  let nonce := beBytes 32 (s.drawn.drawn.freeVal 256).toNat
  let m1 := kexHead 1 ep g ++ nonce ++ padTo 1184 kk.1 ++ padTo 1312 ownPub
  sendFragments c g ep 1 m1 (onCry c g (fun k => { k with
    epoch := ep, inbox := none, retryDue := false, lateKex := none
    kex := some { phase := .awaitM2, epoch := ep, m1 := m1, m2 := [], dk := kk.2, ss := 0 } }) s.drawn.drawn.drawn)

/-- Start an exchange when the start conditions hold (R177, R437). -/
def tryKex (c : Fin 2) (g : Fin 16) (s : State) : State :=
  if encMode s c ≠ 0 ∧ isInitiator s c g.val ∧ peerAllowed s c g.val ∧ (s.cry c g).canStart then startKex c g s else s

/-- An exchange fails (R179): CRYPT_KEX_FAIL (137) with its cause; the initiator will retry. -/
def failKex (c : Fin 2) (g : Fin 16) (cause : Nat) (s : State) : State :=
  let ep := match (s.cry c g).kex with | some x => x.epoch | none => (s.cry c g).epoch
  raiseFol 137 c g 0 ep cause (onCry c g (fun k => { k with
    kex := none, inbox := none, failCause := cause, kexFails := bump k.kexFails, retryDue := true
    attempts := if 3 ≤ k.attempts + 1 then 0 else k.attempts + 1 }) s)

/-- The two keys of an exchange (R178): K_fwd and K_rev. -/
def kexKeys (m1 m2 : List Byte) (ss : BitVec 256) : BitVec 256 × BitVec 256 :=
  let th := shaBytes (m1 ++ m2)
  (sha3 (beBytes 32 ss.toNat ++ th ++ beBytes 1 1), sha3 (beBytes 32 ss.toNat ++ th ++ beBytes 1 2))

/-- Load the pair into the idle slot (R178). -/
def loadPair (c : Fin 2) (g : Fin 16) (ep : Nat) (tx rx : BitVec 256) (s : State) : State :=
  onCry c g (fun k => { k with
    slots := updNat k.slots k.target fun _ => { loaded := true, epoch := ep, keyTx := tx, keyRx := rx }, epoch := ep }) s

/-- M1 at the responder (R177, R178); an encapsulation key that fails the check of FIPS 203 fails the exchange (log 32). -/
def kexM1 (c : Fin 2) (g : Fin 16) (m : List Byte) (s : State) : State :=
  let ep := byteAt m 1
  let pub := bytesAt m 1220 1312
  if !peerOk s c g.val pub then failKex c g 2 s
  else
    match kemEncaps (bytesAt m 36 1184) (beBytes 32 (s.freeVal 256).toNat) with
    | none => failKex c g 3 s
    | some e =>
      let part := kexHead 2 ep g ++ beBytes 32 (s.drawn.freeVal 256).toNat ++ padTo 1088 e.1 ++ padTo 1312 ownPub
      let m2 := part ++ padTo 2420 (signDigest (sha3 (m ++ part)) (s.drawn.drawn.freeVal 256))
      sendFragments c g ep 2 m2 (onCry c g (fun k => { k with
        inbox := none, kex := some { phase := .awaitM3, epoch := ep, m1 := m, m2 := m2, dk := [], ss := BitVec.ofNat 256 (beNat e.2) } })
        s.drawn.drawn.drawn)

/-- M2 at the initiator (R178, R179). -/
def kexM2 (c : Fin 2) (g : Fin 16) (x : Kex) (m : List Byte) (s : State) : State :=
  let pub := bytesAt m 1124 1312
  if !peerOk s c g.val pub then failKex c g 2 s
  else if !verifyDigest pub (sha3 (x.m1 ++ bytesAt m 0 2436)) (bytesAt m 2436 2420) then failKex c g 1 s
  else
    match kemDecaps x.dk (bytesAt m 36 1088) with
    | none => failKex c g 3 s
    | some sec =>
      let ss := BitVec.ofNat 256 (beNat sec)
      let ks := kexKeys x.m1 m ss
      let h := kexHead 3 x.epoch g
      let m3 := h ++ padTo 2420 (signDigest (sha3 (x.m1 ++ m ++ h)) (s.freeVal 256))
      sendFragments c g x.epoch 3 m3 (loadPair c g x.epoch ks.1 ks.2 (onCry c g (fun k => { k with
        inbox := none, kex := some { x with phase := .awaitFar, m2 := m, ss := ss } }) s.drawn))

/-- M3 at the responder (R178, R179): the pair is loaded and the transmit direction armed. -/
def kexM3 (c : Fin 2) (g : Fin 16) (x : Kex) (m : List Byte) (s : State) : State :=
  let pub := bytesAt x.m1 1220 1312
  if !verifyDigest pub (sha3 (x.m1 ++ x.m2 ++ bytesAt m 0 4)) (bytesAt m 4 2420) then failKex c g 1 s
  else
    let ks := kexKeys x.m1 x.m2 x.ss
    onCry c g (fun k => { k with inbox := none, armNext := some x.epoch, kex := some { x with phase := .awaitNear } })
      (loadPair c g x.epoch ks.2 ks.1 s)

/-- Does this end answer an M1 (R177)? The responder does; an end without a peer hash yields to a greater key (log 32). -/
def answersM1 (s : State) (c : Fin 2) (g : Nat) (m : List Byte) : Bool :=
  encMode s c != 0 && (!isInitiator s c g
    || (s.dev.mode != some .hub && (peerHash s c g).isNone && beNat ownHash < beNat (shaBytes (bytesAt m 1220 1312))))

/-- The message whose fragments are all held (R178). -/
def KexInbox.whole (b : KexInbox) : Option (List Byte) :=
  let m := (List.range b.nfrag).flatMap fun i => lookupD [] i b.frags
  if b.frags.length = b.nfrag ∧ m.length = b.len then some m else none

/-- KEX_MESSAGE_RECEIVED (R178, R179): a message whose fragments are complete is processed. -/
def kexMessage (c : Fin 2) (g : Fin 16) (s : State) : State :=
  match (s.cry c g).inbox with
  | none => s
  | some b =>
    match b.whole with
    | none => s
    | some m =>
      let drop (s : State) : State := onCry c g (fun k => { k with inbox := none }) s
      match b.msg, (s.cry c g).kex with
      | 1, kx =>
        let free := match kx with | none => true | some x => x.phase == .awaitM2
        if free && answersM1 s c g.val m then kexM1 c g m s else drop s
      | 2, some x => if x.phase = .awaitM2 then kexM2 c g x m s else drop s
      | 3, some x => if x.phase = .awaitM3 then kexM3 c g x m s else drop s
      | _, _ => drop s

def execKexMessageReceived (c : Fin 2) (g : Fin 16) (s : State) : Out := .next (kexMessage c g s)

/-- A KEY burst reaches the key-exchange logic of a group (R142, R178): fragments of another epoch are discarded. -/
def kexFragment (c : Fin 2) (g : Fin 16) (p : List Byte) (s : State) : State :=
  let ep := byteAt p 0
  let msg := byteAt p 1
  let k := s.cry c g
  let want := match k.kex with
    | some x => msg == 1 && x.phase == .awaitM2 && (peerHash s c g.val).isNone || x.epoch == ep &&
        ((x.phase == .awaitM2 && msg == 2) || (x.phase == .awaitM3 && msg == 3))
    | none => msg == 1
  let same (b : KexInbox) : Bool := b.epoch == ep && b.msg == msg
  let new : KexInbox := { epoch := ep, msg := msg, nfrag := byteAt p 3, len := beAt p 4 2, frags := [(byteAt p 2, p.drop 8)] }
  let keep (b : KexInbox) : State := onCry c g (fun k => { k with inbox := some b }) s
  if !want then s
  else
    match k.inbox with
    | some b =>
      if same b then keep { b with frags := putKey (byteAt p 2) (p.drop 8) b.frags }
      else if b.epoch = ep ∨ k.kex.isSome then keep new
      else s
    | none => keep new

/-- KEX_TIMEOUT (R179, R182): the exchange timeout expires before the exchange has run; an initiator that has sent M3 remembers the
epoch, since M3 may still be in flight. A responder that has armed has every message. -/
def kexTimeout (c : Fin 2) (g : Fin 16) (s : State) : State :=
  match (s.cry c g).kex with
  | some x => match x.phase with
    | .awaitM2 => failKex c g 4 s
    | .awaitM3 => failKex c g 4 s
    | .awaitFar => onCry c g (fun k => { k with lateKex := some x.epoch }) (failKex c g 4 s)
    | .awaitNear => s
  | none => if (s.cry c g).inbox.isSome then failKex c g 4 s else s

def execKexTimeout (c : Fin 2) (g : Fin 16) (s : State) : Out := .next (kexTimeout c g s)

/-- KEX_RETRY (R179): 1 s after a failure, or 60 s after the third, the initiator begins again. -/
def kexRetry (c : Fin 2) (g : Fin 16) (s : State) : State :=
  if (s.cry c g).retryDue ∧ (s.car c).enabled then
    tryKex c g (onCry c g (fun k => { k with retryDue := false }) s)
  else s

def execKexRetry (c : Fin 2) (g : Fin 16) (s : State) : Out := .next (kexRetry c g s)

/-- REKEY_INTERVAL_END (R177). -/
def execRekeyIntervalEnd (c : Fin 2) (g : Fin 16) (s : State) : Out :=
  .next (if (s.car c).enabled then tryKex c g s else s)

/-- Every key of a group is gone (R179, R452: a carrier disable, a reset, a key-slot word without a majority). -/
def eraseKeys (c : Fin 2) (g : Fin 16) (s : State) : State :=
  onCry c g (fun k => { ({} : Crypt) with
    epoch := k.epoch, failCause := k.failCause, changes := k.changes, resyncs := k.resyncs, kexDone := k.kexDone, kexFails := k.kexFails }) s

/-- The groups of a carrier have a change armed (R183). -/
def changeArmed (s : State) (c : Fin 2) : Bool :=
  (List.finRange 16).any fun g => (s.cry c g).armed.isSome || (s.cry c g).armNext.isSome

/-- The first record that the Charter's key rights refuse (R437). -/
def keyRefused (s : State) (c : Fin 2) (rs : List ParRec) : Option Nat :=
  (rs.find? fun r => r.row.pid == 0x20 &&
    ((r.val != 0 && !keyRight s c.val) || (r.val == 2 && !keyRight s 2) || (r.val == 0 && keyRight s 3 && keyRight s c.val))).map (·.off)

/-- CRYPT.SET (R176, R183, R437): refused by the Charter's key rights; held back while a change is armed. -/
def execCryptSet (q : Request) (s : State) : Out :=
  .next (deskRun 0x0710 (pCommand 0x0710
    (fun rs s => (keyRefused s (reqCarrier q) rs).map badParam)
    (fun rs s =>
      if changeArmed s (reqCarrier q) then waitRecs 0x0710 q rs s
      else (groupsOf s (reqCarrier q)).foldl (fun s g => noKeyCheck (reqCarrier q) g s) (applyRecs 0x0710 q rs s))) q s)

/-- CRYPT.PEER.SET (R177, R347). -/
def cryptPeerSet (q : Request) (s : State) : State × Reply :=
  if (s.cry (reqCarrier q) (reqGroup q)).kex.isSome then (s, refuse stBadState) else (keepBody 0x0711 q s, ok)

def execCryptPeerSet (q : Request) (s : State) : Out := .next (deskRun 0x0711 cryptPeerSet q s)

/-- CRYPT.REKEY (R177, R347). -/
def cryptRekey (q : Request) (s : State) : State × Reply :=
  let c := reqCarrier q
  let g := reqGroup q
  if encMode s c = 0 ∨ !isInitiator s c g.val ∨ !(s.car c).enabled ∨ !peerAllowed s c g.val then (s, refuse stBadState)
  else if !(s.cry c g).canStart then (s, refuse stBusy)
  else (startKex c g s, ok (leBytes 1 (((s.cry c g).epoch + 1) % 256)))

def execCryptRekey (q : Request) (s : State) : Out := .next (deskRun 0x0712 cryptRekey q s)

/-- FRAME.STATUS and CRYPT.STATUS (R184): element 0 is the transmit direction, 1 the receive direction. -/
def folioItems (q : Request) (s : State) : List StatItem :=
  let c := reqCarrier q
  let g := reqGroup q
  let f := s.fol c g
  let k := s.cry c g
  let def_ := [f.lof, false, f.sliceDef, f.auth, f.clearDef, f.noKey].zipIdx
  let slotCode (n : Nat) : Nat := if !(getNat {} k.slots n).loaded then 0 else if k.inForce n then 1 else 2
  let kexCode := match k.kex with
    | none => if k.retryDue then 5 else 0
    | some x => match x.phase with | .awaitM2 => 1 | .awaitM3 => 2 | .awaitFar => 3 | .awaitNear => 4
  (def_.map fun d => gau 1 0 (b2n d.1) d.2)
    ++ [gau 2 0 f.rxVolume, gau 2 1 f.rxFolio,
        gau 3 0 k.txSlot 0, gau 3 0 k.rxSlot 1, gau 3 1 (getNat {} k.slots k.txSlot).epoch 0, gau 3 1 k.rxEpoch 1,
        gau 3 2 k.keyVolTx 0, gau 3 2 ((f.rxVolume + 2 ^ 32 - k.rxBase) % 2 ^ 32) 1,
        gau 3 3 (b2n k.armed.isSome) 0, gau 3 3 (b2n k.rxArmed.isSome) 1,
        gau 3 4 (match k.armed with | some x => x.2 | none => 0) 0,
        gau 3 4 (match k.rxArmed with | some x => (x.1 + 2 ^ 32 - f.rxVolume) % 2 ^ 32 | none => 0) 1,
        gau 4 0 (slotCode 0) 0, gau 4 0 (slotCode 1) 1, gau 5 0 kexCode, gau 5 1 k.failCause,
        ctr 6 0 f.hcrc, ctr 6 1 f.kcrc, ctr 6 2 f.srCrc, ctr 7 0 f.verified, ctr 7 1 f.tagFails, ctr 7 2 f.unverified,
        ctr 8 0 k.changes, ctr 8 1 k.resyncs, ctr 9 0 k.kexDone, ctr 9 1 k.kexFails]

def execFrameStatus (q : Request) (s : State) : Out := .next (deskRun 0x0701 (sCommand folioItems) q s)
def execCryptStatus (q : Request) (s : State) : Out := .next (deskRun 0x0713 (sCommand folioItems) q s)

/-- The group a KEY burst belongs to, from its source (R140, R170): a hub's leaf g is group g; a leaf has one group. -/
def kexGroup (s : State) (c : Fin 2) (src : Nat) : Option (Fin 16) :=
  match s.dev.mode with
  | some .hub => if h : src < 16 then some ⟨src, h⟩ else none
  | some .leaf => (groupsOf s c).head?
  | _ => some 0

/-- A good burst is delivered by its type (R142, R147, R148, R155); the hub measures every ranged one from a leaf. -/
def deliver (c : Fin 2) (t : Fin 4) (p : List Byte) (evm : Int) (s : State) : State :=
  let x := s.tone c t
  let e := burstError s c x.stamp x.txPos
  let s1 := onTone c t (fun x => { x with delivered := x.delivered.modify x.typ bump }) s
  let hub := s.dev.mode = some .hub
  let s2 := if h : hub ∧ x.src < 16 ∧ x.ranged then rangeMeasure c t ⟨x.src, h.2.1⟩ e s1 else s1
  if x.typ = 0 then
    mgmtReceived c t { src := x.src, dst := x.dst, tone := t.val, seq := x.seq, stamp := stampOf x.stamp, evm := evm, payload := p } s2
  else if x.typ = 1 then
    match kexGroup s2 c x.src with
    | some g => if x.dst = ilSrc s2 c then kexFragment c g p s2 else s2
    | none => s2
  else if x.typ = 2 then timeBurstReceived c p x.stamp s2
  else if x.typ = 3 then (if s.dev.mode = some .leaf then schedReceived c p s2 else s2)
  else if hub then joinReceived c (byteAt p 0) e s2
  else s2

/-- PAYLOAD_CRC_READY (R139, R141, R142, R148, R152, R154, R156): `bs` are the payload and CRC bytes as received, still scrambled; `evm`
in 1/256 dB; `bad`, an item of the payload came poisoned. A burst with any poisoned item is discarded whatever its CRC shows. -/
def payloadReady (c : Fin 2) (t : Fin 4) (bs : List Byte) (bad : Bool) (evm : Int) (s : State) : State :=
  let x := s.tone c t
  if x.st ≠ .payload then s
  else
    let d := (scramble (List.replicate 32 0 ++ padTo (x.len + 4) bs)).drop 32
    let p := d.take x.len
    let good := natAt d x.len 4 = crc32c p
    let done (s : State) : State := onTone c t (fun x => x.release (x.start + burstSymbols x.len + 8)) s
    let s1 := recordEvm c t x.src evm (onTone c t (fun x => { x with poisoned := x.poisoned || bad }) s)
    if x.poisoned || bad then done s1
    else if !good then done (onTone c t (fun x => { x with payloadErrs := bump x.payloadErrs }) s1)
    else
      let s2 := raiseIf (decide (ilParI s c 0x60 * 256 < evm * 100)) 96 (objCarrier c) (evtArg 0 t.val x.src 0) s1
      done (deliver c t p evm s2)

def execPayloadCrcReady (c : Fin 2) (t : Fin 4) (bs : List Byte) (bad : Bool) (evm : Int) (s : State) : Out :=
  .next (payloadReady c t bs bad evm s)

end Sys2Proof.Machine
end

