-- ==== Sys2Proof/Machine/Framers.lean ====
section
/-! DEFINITION. Client framers: bonds, the search for alignment, deskew, overhead, defects and their masking, maintenance signals
and the framer commands (08_client_framers.md R186 to R205; 14_command_reference.md R349 to R351). -/

namespace Sys2Proof.Machine

/-- Interface rows of R186: Ethernet 0 to 3, OTU4 4, OTUCn over FlexO 5 to 9. -/
def isEth (f : Framer) : Bool := f.iface < 4
def isFlexo (f : Framer) : Bool := 5 ≤ f.iface

/-- Lane counts of an interface (R186). -/
def laneCounts (iface : Nat) : List Nat :=
  ([[4, 2, 1], [8, 4, 2], [8, 4], [8], [4], [4], [2], [4], [8], [4]] : List (List Nat)).getD iface []

/-- Rate of each lane, kb/s, of an interface run over k lanes (R186): its class is that of the rate (R288). -/
def laneRate (iface k : Nat) : Nat :=
  if iface < 4 then (if k = 4 ∧ iface = 0 ∨ k = 8 ∧ iface = 1 then 53125000
    else if k = 2 ∧ iface = 0 ∨ k = 4 ∧ iface = 1 ∨ k = 8 ∧ iface = 2 then 106250000 else 212500000)
  else if iface ≤ 5 then 27952000 else if iface ≤ 8 then 55905000 else 111810000

/-- Alignment units of an interface (R186): OTL4.4 has 20; the others by their standards (PRESUMED, log 34). -/
def unitCount (iface : Nat) : Nat := [8, 16, 32, 16, 20, 4, 2, 4, 8, 4].getD iface 0

/-- n of an OTUCn interface (R186, R209). -/
def otucN (iface : Nat) : Nat := if iface = 5 ∨ iface = 6 then 1 else if iface = 7 then 2 else if iface = 8 ∨ iface = 9 then 4 else 0

/-- A rate-following bond (R214): Ethernet in REGENERATE, OTU4. -/
def rateFollowing (f : Framer) : Bool := f.provisioned && ((isEth f && f.fec == 1) || f.iface == 4)

/-- The framer that an identity names: a bond, a line ODUCm, a tributary's ODU. -/
def Trib.isId (t : Trib) (kind cont group tpn : Nat) : Bool := t.ckind == kind && t.cont == cont && t.group == group && t.tpn == tpn
def State.framer (s : State) : FramerId → Option Framer
  | .bond b => some s.bonds[b]
  | .odum c g => some s.odum[c][g]
  | .trib k n g t => (s.map.tribs.find? fun x => x.isId k n g t).map (·.oh)
def onFramer (i : FramerId) (f : Framer → Framer) (s : State) : State :=
  match i with
  | .bond b => onBond b f s
  | .odum c g => onOdum c g f s
  | .trib k n g t => onMap (fun m => { m with tribs := m.tribs.map fun x => if x.isId k n g t then { x with oh := f x.oh } else x }) s

/-- OBJ, with a slice for a line ODUCm, and AUX of a framer's events (R366). -/
def framerObj (sl : Nat) : FramerId → Nat × Nat
  | .bond b => (objBond b.val, 0)
  | .odum c g => (objOdum c.val g.val sl, 0)
  | .trib k n g t => (if k = 0 then objOdum n g 0 else objBond n, t)

/-- Frame parameters N, M of a bond or a line ODUCm (R203). -/
def framerKey : FramerId → Nat
  | .bond b => objBond b.val
  | .odum c g => objOdum c.val g.val 0
  | .trib k n g _ => if k = 0 then objOdum n g 0 else objBond n
def framerPar (s : State) (i : FramerId) (pid : Nat) : Nat := getParN s .r203 (framerKey i) pid

/-- The carrier whose ODUCm the tributaries of a line group are taken from (R211, R218, R224): the one at the selector of its protection
group. -/
def demapSide (s : State) (c : Fin 2) (g : Fin 16) : Fin 2 :=
  let p := s.prot[g]
  let w := getParN s .r226 (objProt g.val) 0x50 % 2
  if !p.exists_ then c else if (if p.selector then 1 - w else w) = 1 then 1 else 0

/-- The folio layer masks every defect of a line ODUCm (R200); its defects mask those of its tributaries (R211). -/
def Framer.masksTribs (f : Framer) : Bool := f.declared.any fun d => d.1 != 168 && d.1 != 172
def outerMask (s : State) : FramerId → Bool
  | .bond _ => false
  | .odum c g => (s.fol c g).aisRx
  | .trib k n g _ =>
    if k = 0 then
      let c := demapSide s (carrierOf n) (groupOf g)
      (s.fol c (groupOf g)).aisRx || s.odum[c][groupOf g].masksTribs
    else (getNat {} s.bonds n).masksTribs

/-- Is a layer checked, and does it act (R195, R197)? OTU SM 0, ODU PM 1, TCM 2 to 7. -/
def Framer.checks (f : Framer) (l : Nat) : Bool := l < 2 || 1 ≤ (getNat {} f.cfg l).tcmMode
def Framer.acts (f : Framer) (l : Nat) : Bool := l < 2 || (getNat {} f.cfg l).tcmMode == 2

/-- The mode of a TCM layer (R195). -/
def Framer.tcm (f : Framer) (l : Nat) : Nat := (getNat {} f.cfg l : LayerCfg).tcmMode

/-- Does an accepted TTI differ from the expected one (R196)? -/
def timRaw (c : LayerCfg) (x : LayerRx) : Bool :=
  match x.ttiAcc with
  | none => false
  | some t => (bit c.timMode 0 && t.take 16 != c.expTti.take 16)
      || (bit c.timMode 1 && (t.drop 16).take 16 != (c.expTti.drop 16).take 16)

/-- Kind of payload type a framer checks (R197, PLM): a demultiplexed ODUCn or ODUCm, a tributary by its kind; an OTU4's ODU4
passes whole and is checked only against a value set by the host. -/
def mapKind (s : State) : FramerId → Option Nat
  | .bond b => if isFlexo s.bonds[b] then some 3 else none
  | .odum _ _ => some 3
  | .trib k n g t => (s.map.tribs.find? fun x => x.isId k n g t).map (·.kind)
def plmRaw (f : Framer) (kind : Option Nat) : Bool :=
  match (f.slices.getD 0 {}).pt.acc with
  | none => false
  | some p => match (getNat {} f.cfg 1).expPt, kind with
    | some e, _ => p != e
    | none, some k => p != Config.mappingPt k
    | none, none => false

/-- Slices of a framer for which a test holds: the first one, counted from 1; 0 for none. -/
def firstSlice (f : Framer) (t : SliceOh → Bool) : Nat :=
  match f.slices.zipIdx.find? fun x => t x.1 with
  | some x => x.2 + 1
  | none => 0

/-- The condition of a defect (R197): the slice it is found in, counted from 1, 0 when it is absent. -/
def Framer.raw (f : Framer) (line trib : Bool) (kind : Option Nat) (n l : Nat) : Nat :=
  let otn := !isEth f || line || trib
  let lay (x : SliceOh) : LayerRx := getNat {} x.layers l
  if n = 160 then b2n (f.los && !line && !trib)
  else if n = 161 then b2n (!f.inFrame && !line && !trib)
  else if n = 162 then b2n (!line && !trib && 1 < f.units.length && !f.inFrame && f.units.all fun u => u.st == .inFrame)
  else if n = 163 then (if otn && !trib && (line || f.inFrame) then firstSlice f fun x => !x.mfIn else 0)
  else if n = 164 then b2n (isFlexo f && f.idm && !line && !trib)
  else if !otn && n ≤ 170 then 0
  else if n = 165 then (if 1 ≤ l && f.acts l then firstSlice f fun x => (lay x).stat == 7 else 0)
  else if n = 166 then (if 1 ≤ l && f.acts l then firstSlice f fun x => (lay x).stat == 5 else 0)
  else if n = 167 then (if 1 ≤ l && f.acts l then firstSlice f fun x => (lay x).stat == 6 else 0)
  else if n = 168 then (if f.checks l then firstSlice f fun x => (lay x).bdi else 0)
  else if n = 169 then b2n (f.checks l && timRaw (getNat {} f.cfg l) (lay (f.slices.getD 0 {})))
  else if n = 170 then b2n (l = 1 && plmRaw f kind)
  else if n = 171 then b2n (!otn && f.hiSer)
  else b2n (!otn && if l = 1 then f.remoteFault else f.localFault)

/-- Is a defect declared? -/
def Framer.has (f : Framer) (n l : Nat) : Bool := f.declared.any fun d => d.1 == n && d.2.1 == l
def Framer.hasAny (f : Framer) (n : Nat) : Bool := f.declared.any fun d => d.1 == n

/-- Is a defect masked by those declared (R200)? A TCM level carries the ODU PM layer. -/
def Framer.masked (f : Framer) (outer : Bool) (n l : Nat) : Bool :=
  outer || (n != 160 && f.hasAny 160)
    || ((n == 163 || (165 ≤ n && n ≤ 170)) && (f.hasAny 161 || f.hasAny 162 || f.hasAny 164))
    || ((n == 169 || n == 170) && f.hasAny 163)
    || ((n == 168 || n == 169 || n == 170) && f.declared.any fun d =>
          165 ≤ d.1 && d.1 ≤ 167 && (d.2.1 == l || (2 ≤ d.2.1 && l == 1)))

/-- The order in which defects are judged, masks first; 0xFF is no layer; of CLI_FAULT_RX, 0xFF is LF_RX and 0x101 RF_RX. -/
def defectOrder : List (Nat × Nat) :=
  [(160, 0xFF), (161, 0xFF), (162, 0xFF), (164, 0xFF), (163, 0xFF)]
    ++ (([165, 166, 167, 168, 169] : List Nat).flatMap fun n => (List.range 8).map fun l => (n, l))
    ++ [(170, 1), (171, 0xFF), (172, 0xFF), (172, 0x101)]

/-- The layer of a defect of that order: for its condition, and for its event, where 0xFF is none. -/
def defLayer (l : Nat) : Nat := if l = 0x101 then 1 else if l = 0xFF then 0 else l
def evtLayer (l : Nat) : Nat := if 8 ≤ l then 0xFF else l

/-- LOF, LOA and LOM persist for the LOF time (R197). -/
def isTimed (n : Nat) : Bool := n == 161 || n == 162 || n == 163

/-- The exit condition of a timed defect (R197). -/
def Framer.restored (f : Framer) (n : Nat) : Bool := if n = 163 then f.slices.all (·.mfIn) else f.inFrame

/-- A defect's entry or exit: event number, layer, slice, state. -/
abbrev DefEvt := Nat × Nat × Nat × Nat

/-- Judge one defect (R197, R200): masks clear it at once without an event, timed ones run their timer afresh. -/
def Framer.judge (outer line trib : Bool) (kind : Option Nat) (x : Framer × List DefEvt) (d : Nat × Nat) : Framer × List DefEvt :=
  let f := x.1
  let n := d.1
  let l := d.2
  let r := f.raw line trib kind n (defLayer l)
  let drop (k : Nat) (e : Bool) : List (Nat × Bool) := f.timing.filter fun t => t != (k, e)
  let was := f.has n l
  if f.masked outer n l then
    ({ f with
       declared := f.declared.filter fun y => !(y.1 == n && y.2.1 == l), timing := f.timing.filter fun t => t.1 != n
       maskedHist := if was then (n, l) :: f.maskedHist.filter fun y => y != (n, l) else f.maskedHist }, x.2)
  else if isTimed n then
    if !was then
      ({ f with timing := if r = 0 then drop n true else if f.timing.contains (n, true) then f.timing else (n, true) :: f.timing }, x.2)
    else
      ({ f with timing := if !f.restored n then drop n false
          else if f.timing.contains (n, false) then f.timing else (n, false) :: f.timing }, x.2)
  else if r ≠ 0 ∧ !was then
    ({ f with declared := (n, l, r) :: f.declared, maskedHist := f.maskedHist.filter fun y => y != (n, l) }, x.2 ++ [(n, l, r, 1)])
  else if r = 0 ∧ was then
    let sl := match f.declared.find? fun y => y.1 == n && y.2.1 == l with | some y => y.2.2 | none => 0
    ({ f with declared := f.declared.filter fun y => !(y.1 == n && y.2.1 == l) }, x.2 ++ [(n, l, sl, 0)])
  else x

/-- The defects that make a near-end defect second (R201). -/
def nearDefect (eth : Bool) (n : Nat) : Bool := (160 ≤ n && n ≤ 167) || n == 169 || n == 170 || (eth && n == 171)

/-- Judge every defect of a framer. -/
def Framer.eval (f : Framer) (outer line trib : Bool) (kind : Option Nat) : Framer × List DefEvt :=
  let r := defectOrder.foldl (Framer.judge outer line trib kind) (f, [])
  ({ r.1 with
     neDefect := r.1.neDefect || r.1.declared.any fun d => nearDefect (isEth f) d.1
     feDefect := r.1.feDefect || r.1.hasAny 168 }, r.2)

/-- Is a framer watched for defects (R197): a provisioned bond, the ODUCm of a group in TRACK, an active tributary? -/
def framerWatched (s : State) : FramerId → Bool
  | .bond b => s.bonds[b].provisioned
  | .odum c g => (s.rxg c g).st == .track
  | .trib k n g t => s.map.tribs.any fun x => x.isId k n g t && x.active

def isLine : FramerId → Bool
  | .bond _ => false
  | .odum _ _ => true
  | .trib _ _ _ _ => false
def isTrib : FramerId → Bool
  | .bond _ => false
  | .odum _ _ => false
  | .trib _ _ _ _ => true

/-- Raise the events of a framer's defects (R197, R366): for a line ODUCm with the slice. -/
def raiseDefects (i : FramerId) (es : List DefEvt) (s : State) : State :=
  es.foldl (fun s e => raise e.1 (framerObj e.2.2.1 i).1 (evtArg e.2.2.2 (evtLayer e.2.1) (framerObj 0 i).2 0) s) s

/-- Judge the defects of one framer and raise their events; a mask clears them where nothing is watched, too (R200). -/
def evalFramer (i : FramerId) (s : State) : State :=
  match s.framer i with
  | none => s
  | some f =>
    if !framerWatched s i && !outerMask s i then s
    else
      let r := f.eval (outerMask s i) (isLine i) (isTrib i) (mapKind s i)
      raiseDefects i r.2 (onFramer i (fun _ => r.1) s)

/-- The MSI code of a slot (R210, in the format of ITU-T G.709: availability bit and port number; PRESUMED, log 33). -/
def msiCode (tpn : Nat) : Nat := 0x8000 + (tpn - 1)

/-- Does the accepted MSI of any slot of a tributary differ from its assignment (R211)? -/
def msimRaw (f : Framer) (t : Trib) : Bool :=
  t.slots.any fun c => match ((f.slices.getD (c / 256 - 1) {}).msi.getD (c % 256 - 1) {}).acc with
    | some v => v != msiCode t.tpn
    | none => false

/-- MSIM of the tributaries of a container (R210, R211): masked by the container's defects; MAP_MSIM on entry and exit. -/
def evalMsim (kind cont group : Nat) (s : State) : State :=
  let i : FramerId := if kind = 0 then .odum (demapSide s (carrierOf cont) (groupOf group)) (groupOf group) else .bond ⟨cont % 48, Nat.mod_lt _ (by decide)⟩
  match s.framer i with
  | none => s
  | some f =>
    (s.map.tribs.filter fun t => t.ckind == kind && t.cont == cont && t.group == group && t.active).foldl (fun s t =>
      let masked := outerMask s (.trib kind cont group t.tpn)
      let now := !masked && msimRaw f t
      let s1 := onFramer (.trib kind cont group t.tpn) (fun x => { x with msim := now, neDefect := x.neDefect || now }) s
      raiseIf (now != t.oh.msim && !masked) 176 (framerObj 0 i).1 (evtArg (b2n now) 0 t.tpn 0) s1) s

/-- Judge the tributaries of a container after its own defects changed (R200, R211). -/
def evalTribs (kind cont group : Nat) (s : State) : State :=
  (s.map.tribs.filter fun t => t.ckind == kind && t.cont == cont && t.group == group).foldl
    (fun s t => evalFramer (.trib kind cont group t.tpn) s) (evalMsim kind cont group s)

/-- "Replace" is in force for what a framer hands on (R197, R198); a TCM in MONITOR and a TIM with its action off do not act. -/
def Framer.replaces (f : Framer) : Bool :=
  f.declared.any fun d =>
    (160 ≤ d.1 && d.1 ≤ 164) || (165 ≤ d.1 && d.1 ≤ 167 && f.acts d.2.1)
      || (d.1 == 169 && f.acts d.2.1 && (getNat {} f.cfg d.2.1).timAct) || d.1 == 170 || d.1 == 171

/-- BDI is set in the overhead sent back at a layer (R197): the defects of the section at its own layer, SM or, on the line, PM. -/
def Framer.sendsBdi (f : Framer) (section_ l : Nat) : Bool :=
  f.declared.any fun d =>
    (160 ≤ d.1 && d.1 ≤ 164 && l == section_) || (165 ≤ d.1 && d.1 ≤ 167 && d.2.1 == l && f.acts l)
      || (d.1 == 169 && d.2.1 == l && f.acts l && (getNat {} f.cfg l).timAct)

/-- A layer that the device generates (R195): the host's TTI; BEI, BIAE and BDI by what its own ingress finds. -/
def Framer.gen (f : Framer) (section_ l : Nat) (forced : Bool) : TxLayer :=
  let x := (getNat {} (f.slices.getD 0 {}).layers l).last
  { tti := (getNat {} f.cfg l).txTti, bei := if x.iae && l != 1 then 11 else min x.bip 8
    bdi := forced || f.sendsBdi section_ l, iae := l == 0 && !f.inFrame }

/-- A layer that passes with its ODU (R195). -/
def Framer.pass (f : Framer) (l : Nat) : TxLayer :=
  let y := getNat {} (f.slices.getD 0 {}).layers l
  { tti := y.ttiBuf, bei := y.last.bei, bdi := y.last.bdi, iae := y.last.iae, stat := y.last.stat }

/-- STAT of a signal in place of the payload (R198, R199). -/
def statOf (rep stat : Nat) : Nat := if rep = 1 then 7 else if rep = 2 then 5 else if rep = 3 then 6 else stat

/-- The signal that replaces what a tributary brings (R197, R211): its own defects, MSIM, or those of its container. -/
def tribReplaced (s : State) (t : Trib) : Bool :=
  t.oh.replaces || t.oh.msim || outerMask s (.trib t.ckind t.cont t.group t.tpn)

/-- What a switch source brings is replaced (R198, R212). -/
def unitReplaced (s : State) (u : SwUnit) : Bool :=
  if u.kind = 0 then !(getNat {} s.bonds u.bond).provisioned || (getNat {} s.bonds u.bond).replaces
  else match s.map.tribs.find? fun t => t.isId 1 u.bond 0 u.tpn with
    | some t => tribReplaced s t
    | none => true

/-- The connection of a bond's egress, and the tributary of a line group that it sends. -/
def egressConn (s : State) (b : Nat) : Option Conn := s.map.conns.find? fun c => c.dst == { kind := 0, bond := b, tpn := 0 }
def egressTrib (s : State) (b : Nat) : Option Trib := s.map.tribs.find? fun t => t.ckind == 0 && t.active && t.bond == b

/-- Does a bond's egress have no valid data, or a defect upstream (R198)? The tributaries of an OTUCn are replaced one by one. -/
def egressReplaced (s : State) (b : Nat) : Bool :=
  !isFlexo (getNat {} s.bonds b) && match egressConn s b with
    | some c => c.ais || (match c.src with | some u => unitReplaced s u | none => true)
    | none => match egressTrib s b with
      | some t => tribReplaced s t
      | none => true

/-- The framer whose ODU passes through a bond's egress whole: an OTU4's ODU4 (R195, R214). -/
def egressSource (s : State) (b : Nat) : Option Framer :=
  if (getNat {} s.bonds b).iface ≠ 4 then none
  else match egressConn s b with
    | some c => c.src.bind fun u =>
      if u.kind = 0 then some (getNat {} s.bonds u.bond) else (s.map.tribs.find? fun t => t.isId 1 u.bond 0 u.tpn).map (·.oh)
    | none => (egressTrib s b).map (·.oh)

/-- The overhead of frames built over what passes, if any (R195): the section GEN, PM and the TCMs PASS or GEN. -/
def Framer.build (f : Framer) (section_ : Nat) (src : Option Framer) (forced : Bool) (rep pt aps : Nat) (gcc : Bool) (msi : List Nat) : TxOh :=
  let lay (l : Nat) : TxLayer :=
    if l = 0 then f.gen section_ 0 forced
    else
      let x := match src with
        | some y => if 2 ≤ l ∧ f.tcm l = 2 then f.gen section_ l forced else y.pass l
        | none => if l = 1 ∨ f.tcm l = 2 then f.gen section_ l forced else { stat := 0 }
      { x with stat := if l = 1 ∨ x.stat ≠ 0 then statOf rep x.stat else 0 }
  { layers := (List.range 8).map lay, pt := match src with | some y => ((y.slices.getD 0 {}).pt.acc).getD pt | none => pt
    msi := msi, aps := match src with | some y => y.apsLast | none => aps
    gcc := match src with | some y => if gcc then y.gcc else List.replicate 6 0 | none => List.replicate 6 0
    ftfl := match src with | some y => y.ftfl | none => List.replicate 256 0, rep := rep }

/-- The MSI that a container of `m` slices sends (R210): the TPN of the slot's tributary in the structure sent, or 0. -/
def sentMsi (s : State) (kind cont group m : Nat) : List Nat :=
  (List.range m).flatMap fun i => (List.range 20).map fun k =>
    match s.map.tribs.find? fun t => t.ckind == kind && t.cont == cont && t.group == group && t.active && t.slots.contains (256 * (i + 1) + k + 1) with
    | some t => msiCode t.tpn
    | none => 0

/-- The overhead that a framer's egress sends (R195, R198, R199, R210, R211). A bond: OTU4 over what passes, an OTUCn over the ODUCn that
the device generates. The transmitter of a line group: the ODUCm that it originates, or in REGENERATOR mode the other carrier's. A
tributary: IMP is originated, an ODU passes; without a provisioned bond it is ODU-OCI. -/
def txOh (s : State) (i : FramerId) : TxOh :=
  match i with
  | .bond b =>
    let f := s.bonds[b]
    let rep := if f.maint.1 ≠ 0 then f.maint.1 else b2n (egressReplaced s b.val)
    if isEth f then { rep := rep }
    else f.build 0 (egressSource s b.val) f.fbdi.1 rep (if isFlexo f then Config.mappingPt 3 else 0) 0 (s.dev.mode == some .framer)
      (if isFlexo f then sentMsi s 1 b.val 0 (otucN f.iface) else [])
  | .odum c g =>
    let f := s.odum[c][g]
    f.build 1 (if s.dev.mode = some .regenerator then some s.odum[1 - c][g] else none) false 0 (Config.mappingPt 3) 0 false
      (sentMsi s 0 c.val g.val ((s.car c).slices.getD g.val 0))
  | .trib k n g t => match s.map.tribs.find? fun x => x.isId k n g t with
    | none => {}
    | some x =>
      let f := getNat {} s.bonds x.bond
      let rep := if !f.provisioned then 3 else if f.maint.2 ≠ 0 then f.maint.2 else b2n f.replaces
      let h := { x.oh with cfg := f.cfg }
      if x.kind = 0 then { h.build 8 none f.fbdi.2 0 (Config.mappingPt 0) 0 false [] with rep := rep }
      else h.build 8 (some f) f.fbdi.2 rep (Config.mappingPt x.kind) 0 false []

/-- The framers whose egress depends on one: itself, the tributaries and bonds it feeds. -/
def egressOf (s : State) (i : FramerId) : List FramerId :=
  let bondId (b : Nat) : FramerId := .bond ⟨b % 48, Nat.mod_lt _ (by decide)⟩
  let ids (p : Trib → Bool) : List FramerId := (s.map.tribs.filter p).flatMap fun t => [.trib t.ckind t.cont t.group t.tpn, bondId t.bond]
  let fed (b : Nat) : List FramerId := (s.map.conns.filter fun c => match c.src with | some u => u.bond == b | none => false).map fun c => bondId c.dst.bond
  match i with
  | .bond b => i :: fed b.val ++ ids (fun t => t.bond == b.val || (t.ckind == 1 && t.cont == b.val))
  | .odum c g => i :: ids (fun t => t.ckind == 0 && (t.cont == c.val || s.prot[g].exists_) && t.group == g.val)
  | .trib k n g t => ids (fun x => x.isId k n g t) ++ (if k = 1 then fed n else [])

/-- What the egresses that depend on a framer send now (R195, R198). -/
def egressSync (i : FramerId) (s : State) : State :=
  (egressOf s i).foldl (fun s j => onFramer j (fun f => { f with tx := txOh s j }) s) s

/-- Judge a framer and what it contains; the egresses that depend on it follow. -/
def evalWhole (i : FramerId) (s : State) : State :=
  egressSync i (match i with
    | .bond b => evalTribs 1 b.val 0 (evalFramer i s)
    | .odum c g =>
      let s1 := evalTribs 0 c.val g.val (evalFramer i s)
      if s.prot[g].exists_ then evalTribs 0 (1 - c).val g.val s1 else s1
    | .trib _ _ _ _ => evalFramer i s)

/-- The identity that the standard predicts at the next occurrence (R189). -/
def predictId (f : Framer) (ident : Nat) : Nat := if f.iface = 4 then (ident + 20) % 240 else ident
/-- The logical lane of an identity (R189). -/
def laneOfId (f : Framer) (ident : Nat) : Nat := if f.iface = 4 then ident % 20 else ident

/-- A unit goes in frame at a candidate (R189, R192). -/
def AlignUnit.align (u : AlignUnit) (c : AlignCand) (r : AlignCheck) : AlignUnit :=
  { u with st := .inFrame, cands := [], amb := 0, pos := c.pos, ident := c.ident, lane := r.lane, skew := r.skew, errored := 0, m := c.m
           entries := bump u.entries }

/-- A unit searches anew (R192). -/
def AlignUnit.restart (u : AlignUnit) : AlignUnit := { u with st := .search, cands := [], amb := 0, errored := 0 }

/-- An exact match at a position held by no candidate (R189): with 16 slots full it replaces the candidate of the fewest
confirmations, the oldest among equals. -/
def AlignUnit.open_ (u : AlignUnit) (n m : Nat) (r : AlignCheck) : AlignUnit :=
  if u.st ≠ .search ∨ u.cands.any (fun c => c.pos == r.pos) then u
  else
    let c : AlignCand := { pos := r.pos, ident := r.ident, confirms := 1, n := n, m := m }
    if n ≤ 1 ∧ !(u.cands.any fun c => c.n ≤ c.confirms) then u.align c r
    else if u.cands.length < 16 then { u with cands := u.cands ++ [c] }
    else
      let least := u.cands.foldl (fun a c => min a c.confirms) 255
      let k := (u.cands.findIdx? fun c => c.confirms == least).getD 0
      { u with cands := u.cands.eraseIdx k ++ [c], evictions := bump u.evictions }

/-- Test the candidates predicted together (R189, R190): a failed one is dropped; exactly one that has reached N declares; two
or more that reach it together are tested on, for at most 8 periods. -/
def AlignUnit.predict (f : Framer) (u : AlignUnit) (rs : List AlignCheck) : AlignUnit :=
  let find (c : AlignCand) : Option AlignCheck := rs.find? fun r => r.pos == c.pos
  let cs := u.cands.filterMap fun c => match find c with
    | none => some c
    | some r => if r.matched && r.ident == predictId f c.ident then some { c with confirms := c.confirms + 1, ident := r.ident } else none
  let up := cs.filter fun c => c.n ≤ c.confirms
  let u1 := { u with cands := cs }
  match up with
  | [] => if u.amb = 0 then u1 else { u1.restart with ambiguities := bump u.ambiguities }
  | [c] => u1.align c ((find c).getD { pos := c.pos, matched := true, ident := c.ident, lane := 0, skew := 0 })
  | _ =>
    if 9 ≤ u.amb + 1 then { u1.restart with ambiguities := bump u.ambiguities }
    else { u1 with amb := u.amb + 1 }

/-- A unit in frame checks its position (R191, R193): an arrival outside the deskew window is an errored frame. -/
def AlignUnit.check (f : Framer) (u : AlignUnit) (r : AlignCheck) : AlignUnit :=
  let want := predictId f u.ident
  let late := f.inFrame && f.deskew + 160 < r.skew
  let u1 := { u with ident := want, skew := r.skew }
  if r.matched && r.ident == want && !late then { u1 with errored := 0 }
  else if u.errored + 1 < u.m then { u1 with errored := u.errored + 1, erroredFrames := bump u.erroredFrames }
  else { u1.restart with losses := bump u.losses, erroredFrames := bump u.erroredFrames }

/-- The bond's frame state from its units (R193). -/
def Framer.bondFrame (f : Framer) : Framer :=
  let all_ := f.units.all fun u => u.st == .inFrame
  let full := (List.range f.units.length).all fun k => f.units.any fun u => laneOfId f u.ident == k
  let hi := f.units.foldl (fun a u => max a u.skew) 0
  let lo := f.units.foldl (fun a u => min a u.skew) hi
  let ok := f.provisioned && !f.units.isEmpty && all_ && full && hi - lo ≤ 2560
  { f with inFrame := ok, deskew := if ok && !f.inFrame then hi else f.deskew }

/-- Apply a change of one unit of a bond and judge the bond. -/
def onUnit (b : Fin 48) (k : Nat) (g : AlignUnit → AlignUnit) (s : State) : State :=
  evalWhole (.bond b) (onBond b (fun f => { f with units := f.units.modify k g }.bondFrame) s)

/-- ALIGNMENT_MATCH (R189): an exact match at a new position of a unit that searches. -/
def execAlignmentMatch (b : Fin 48) (k : Nat) (r : AlignCheck) (s : State) : Out :=
  .next (onUnit b k (fun u => u.open_ (framerPar s (.bond b) 0x40) (framerPar s (.bond b) 0x50) r) s)

/-- ALIGNMENT_PREDICTION (R189 to R193): what a unit finds at the positions predicted for this instant. -/
def execAlignmentPrediction (b : Fin 48) (k : Nat) (rs : List AlignCheck) (s : State) : Out :=
  .next (onUnit b k (fun u => match u.st with
    | .off => u
    | .search => u.predict s.bonds[b] rs
    | .inFrame => match rs.find? fun r => r.pos == u.pos with
      | some r => u.check s.bonds[b] r
      | none => u) s)

/-- Does a lane report loss of signal or of lock to its slice (R192, R294)? -/
def laneDown (s : State) (l : Nat) : Bool := match s.lanes.toList[l]? with
  | some x => x.los || x.st != .up
  | none => true

/-- The lanes of a bond. -/
def bondLanes (b k : Nat) : List Nat := (List.range k).map (b + ·)

/-- A lane carries a bond only at the lane rate of its interface (R186): at another rate it is not locked to the bond's signal. -/
def laneOff (s : State) (rate l : Nat) : Bool := laneDown s l || (getNat {} s.lanes l).rate != rate

/-- The state of a bond's lanes reaches it (R186, R192, R197): any loss sends every unit to SEARCH. -/
def bondFromLanes (b : Fin 48) (s : State) : State :=
  let f := s.bonds[b]
  if !f.provisioned then s
  else
    let down := (bondLanes b.val f.k).any (laneOff s (laneRate f.iface f.k))
    evalWhole (.bond b) (onBond b (fun f => { f with
      los := down, units := f.units.map fun (u : AlignUnit) => if down || u.st == AlignState.off then u.restart else u }.bondFrame) s)

/-- The bond that holds a lane is told of the lane's state. -/
def laneChanged (l : Nat) (s : State) : State :=
  match (List.finRange 48).find? fun b => s.bonds[b].provisioned && b.val ≤ l && l < b.val + s.bonds[b].k with
  | some b => refLosses (bondFromLanes b s)
  | none => s

/-- The LOF time of defect n has run at entry or exit (R197). -/
def lofEnd (i : FramerId) (n : Nat) (enter : Bool) (s : State) : State :=
  match s.framer i with
  | none => s
  | some f =>
    if f.timing.contains (n, enter) then
      let sl := max 1 (f.raw (isLine i) (isTrib i) none n 0)
      let s1 := onFramer i (fun f => { f with
        timing := f.timing.filter fun t => t != (n, enter)
        declared := if enter then (n, 0xFF, sl) :: f.declared else f.declared.filter fun d => d.1 != n }) s
      evalWhole i (raiseDefects i [(n, 0xFF, if (isLine i) then sl else 0, b2n enter)] s1)
    else s

/-- DEFECT_PERSISTENCE_END (R197, R200): the LOF time of LOF, LOA or LOM has run; for HI_SER and the fault sequences, the
condition that their standard defines begins or ends. -/
def defectPersistence (i : FramerId) (d : DefectTimer) (enter : Bool) (s : State) : State :=
  match d with
  | .lof => lofEnd i 161 enter s
  | .loa => lofEnd i 162 enter s
  | .lom => lofEnd i 163 enter s
  | .hiSer => evalWhole i (onFramer i (fun f => { f with hiSer := enter }) s)
  | .localFault => evalWhole i (onFramer i (fun f => { f with localFault := enter }) s)
  | .remoteFault => evalWhole i (onFramer i (fun f => { f with remoteFault := enter }) s)

/-- One more occurrence of a value that is accepted after `p` identical ones in a row (R195, R217). -/
def Accept.see (a : Accept) (p v : Nat) : Accept :=
  let run := if 0 < a.run ∧ a.cand = v then a.run + 1 else 1
  { cand := v, run := run, acc := if p ≤ run then some v else a.acc }

/-- The overhead of a layer as it arrives, whether or not the layer is checked: what PASS sends (R195). -/
def LayerRx.arrive (x : LayerRx) (mfas : Nat) (o : LayerOh) : LayerRx := { x with last := o, ttiBuf := x.ttiBuf.set (mfas % 64) o.tti }

/-- The overhead of one layer in a frame (R195, R197): STAT after 3 frames, BDI after 5, TTI after 3 multiframes of 64. -/
def LayerRx.frame (x : LayerRx) (mfas : Nat) (o : LayerOh) (tti : Bool) : LayerRx :=
  let run := if x.statCand = o.stat then x.statRun + 1 else 1
  let brun := if x.bdiLast = o.bdi then x.bdiRun + 1 else 1
  let buf := x.ttiBuf.set (mfas % 64) o.tti
  let whole := tti && mfas % 64 == 63
  let trun := if whole then (if x.ttiLast = buf then x.ttiRun + 1 else 1) else x.ttiRun
  { x with
    last := o, ttiBuf := buf, ttiLast := if whole then buf else x.ttiLast, ttiRun := trun
    ttiAcc := if whole && 3 ≤ trun then some buf else x.ttiAcc
    statCand := o.stat, statRun := run, stat := if 3 ≤ run then o.stat else x.stat
    bdiLast := o.bdi, bdiRun := brun, bdi := if 5 ≤ brun then o.bdi else x.bdi
    neNow := satAdd x.neNow o.bip, feNow := satAdd x.feNow o.blocks, neTotal := satAdd x.neTotal o.bip
    feTotal := satAdd x.feTotal o.blocks }

/-- One frame of one ODU (R194, R195, R210): MFAS with N and M, layers, PT and MSI. -/
def SliceOh.frame (f : Framer) (x : SliceOh) (n m : Nat) (line first : Bool) (o : OtnFrame) : SliceOh :=
  let good := match x.mfas with | none => true | some v => o.mfas == (v + 1) % 256
  let run := if good != x.mfIn then x.mfRun + 1 else 0
  let flip := if x.mfIn then m ≤ run else n ≤ run
  let lay := (List.finRange 8).foldl (fun (v : Vector LayerRx 8) (l : Fin 8) =>
    let y := o.layers.getD l.val {}
    if line && l.val == 0 then v
    else if !f.checks l.val then v.set l (v[l].arrive o.mfas y)
    else v.set l (v[l].frame o.mfas y (!line || first))) x.layers
  let slot := (o.mfas - 2) / 2
  let isMsi := 2 ≤ o.mfas && slot < 20
  { x with
    mfas := some o.mfas, mfIn := x.mfIn != flip, mfRun := if flip then 0 else run, layers := lay
    pt := if o.mfas = 0 && (!line || first) then x.pt.see 3 o.psi.toNat else x.pt
    msiHigh := if isMsi && o.mfas % 2 == 0 then o.psi.toNat else x.msiHigh
    msi := if isMsi && o.mfas % 2 == 1 then x.msi.modify slot fun a => a.see 3 (256 * x.msiHigh + o.psi.toNat) else x.msi }

/-- FlexO identifiers over multiframes (R197, IDM). -/
def Framer.idents (f : Framer) (o : OtnFrame) : Framer :=
  if !isFlexo f then f
  else
    let bad := f.idBad || o.gid != f.flexGid || o.iid != f.flexIid.take f.k
    if o.mfas % 256 = 255 then
      let br := if bad then f.idBadRun + 1 else 0
      let gr := if bad then 0 else f.idGoodRun + 1
      { f with idBad := false, idBadRun := br, idGoodRun := gr, idm := if f.idm then decide (gr < 3) else decide (3 ≤ br) }
    else { f with idBad := bad }

/-- P of R217 for a framer's APS/PCC: that of the line group's protection group; of protection group 0 for a bond (log 35). -/
def apsP (s : State) : FramerId → Nat
  | .odum _ g => getParN s .r226 (objProt g.val) 0x40
  | .bond _ => getParN s .r226 (objProt 0) 0x40
  | .trib _ _ _ _ => getParN s .r226 (objProt 0) 0x40

/-- Count what RS decoding found (R188, R204). -/
def Framer.rsCount (f : Framer) (r : RsSeen) : Framer :=
  { f with rsCorrected := satAdd f.rsCorrected r.corrected, rsUncorr := satAdd f.rsUncorr r.uncorr, rsSymbols := satAdd f.rsSymbols r.symbols }

/-- A frame of slice `sl` (counted from 0) of a framer (R194 to R197, R217). -/
def frameIn (i : FramerId) (sl : Fin 32) (o : OtnFrame) (s : State) : State :=
  onFramer i (fun f =>
    let n := framerPar s i 0x40
    let m := framerPar s i 0x50
    let ss := f.slices ++ List.replicate (sl.val + 1 - f.slices.length) ({} : SliceOh)
    let f1 := { f.rsCount o.rs with
      slices := ss.modify sl.val fun x => x.frame f n m (isLine i) (sl.val == 0) o, gmpEvents := satAdd f.gmpEvents o.gmp }
    if sl.val ≠ 0 then f1
    else { f1.idents o with
      ftfl := f.ftfl.set (o.mfas % 256) o.ftfl, gcc := padTo 6 o.gcc, apsLast := o.aps
      aps := f.aps.modify (o.mfas % 8) fun a => a.see (apsP s i) o.aps }) s

/-- OTN_FRAME_RECEIVED (R194 to R197, R200, R210, R211, R217): a reassembled frame of a bond in frame, of slice `sl` of a line
ODUCm in TRACK, or of a tributary. -/
def otnFrame (i : FramerId) (sl : Fin 32) (o : OtnFrame) (s : State) : State :=
  let live := framerWatched s i && (match i with | .bond b => s.bonds[b].inFrame && !isEth s.bonds[b] | .odum _ _ => true | .trib _ _ _ _ => true)
  if live then evalWhole i (frameIn i sl { o with mfas := o.mfas % 256 } s) else s

/-- What a framer hands to performance monitoring at the end of a second (R201): near-end blocks, far-end blocks, near-end and
far-end defect; and the framer at the start of the next. -/
def Framer.second (f : Framer) (l : Nat) : Nat × Nat × Bool × Bool :=
  let sum (g : LayerRx → Nat) : Nat := (f.slices.map fun x => g (getNat {} x.layers l)).sum
  (sum (·.neNow), sum (·.feNow), f.neDefect, f.feDefect)
def Framer.nextSecond (f : Framer) : Framer :=
  { f with
    pmLast := (f.second 1).1, rsMark := f.rsUncorr
    neSecs := if f.neDefect then bump f.neSecs else f.neSecs, feSecs := if f.feDefect then bump f.feSecs else f.feSecs
    neDefect := f.msim || f.declared.any fun d => nearDefect (isEth f) d.1, feDefect := f.hasAny 168
    slices := f.slices.map fun x => { x with layers := x.layers.map fun y => { y with neNow := 0, feNow := 0 } } }

/-- Does a lane belong to the mate link in a mated pair (R187, R474)? -/
def mateLane (s : State) (l : Nat) : Bool := s.mate.role != 0 && 32 ≤ l && bit s.mate.lanes (l - 32)

/-- A synthesiser of a bond's octet that clocks no lane outside the bond and that no other rate-following bond holds (R214,
R289). -/
def soleSynth (s : State) (b k : Nat) : Option Nat :=
  [0, 1].find? fun y =>
    ((List.finRange 8).all fun i =>
      let l := 8 * (b / 8) + i.val
      let x := getNat {} s.lanes l
      (b ≤ l && l < b + k) || !x.provisioned || x.synth != y)
    && (List.finRange 48).all fun j => j.val / 8 != b / 8 || j.val == b || s.bonds[j].synth != some y

/-- FRAMER.PROVISION (R187, R188, R214, R350). -/
def framerProvision (q : Request) (s : State) : State × Reply :=
  let b := objIndex q
  let k := u8 q 5
  let fec := u8 q 6
  let iface := u8 q 4
  let fl := isFlexo { iface := iface }
  let f : Framer := { provisioned := true, iface := iface, k := k, fec := fec }
  if 9 < iface then (s, badParam 4)
  else if !(laneCounts iface).contains k ∨ b % k ≠ 0 then (s, badParam 5)
  else if 1 < fec ∨ (4 < iface ∧ fec ≠ 0) ∨ (iface < 4 ∧ fec = 1 ∧ s.dev.mode ≠ some .framer) then (s, badParam 6)
  else if !fl ∧ u16 q 8 ≠ 0 then (s, badParam 8)
  else if s.dev.mode = some .regenerator ∨ (bondLanes b k).any (mateLane s) then (s, badParam 0)
  else if (List.finRange 48).any fun j => s.bonds[j].provisioned && decide (j.val < b + k ∧ b < j.val + s.bonds[j].k) then (s, refuse stBadState)
  else
    let sole := if rateFollowing f then soleSynth s b k else none
    if rateFollowing f ∧ sole.isNone then (s, refuse stNoCapacity)
    else if h : b < 48 then
      let s1 := onBond ⟨b, h⟩ (fun old => { f with
        cfg := old.cfg, maint := if iface < 4 then (min old.maint.1 1, min old.maint.2 1) else old.maint, fbdi := old.fbdi, synth := sole, flexGid := u16 q 8, flexIid := (bytesAt q.body 10 8).map (·.toNat)
        units := List.replicate (unitCount iface) {}, poisonedEgress := old.poisonedEgress }) (keepBody 0x0801 q s)
      let s2 := match sole with
        | some y => { s1 with lanes := Vector.ofFn fun l => if b ≤ l.val && l.val < b + k then { s1.lanes[l] with synth := y } else s1.lanes[l] }
        | none => s1
      (bondFromLanes ⟨b, h⟩ s2, ok)
    else (s, badParam 0)

def execFramerProvision (q : Request) (s : State) : Out := .next (pmSync (deskRun 0x0801 framerProvision q s))

/-- Does a tributary or a connection use a bond (R349)? -/
def SwUnit.uses (u : SwUnit) (b : Nat) : Bool := u.bond == b
def bondInUse (s : State) (b : Nat) : Bool :=
  (s.map.tribs.any fun t => t.bond == b || (t.ckind == 1 && t.cont == b))
    || s.map.conns.any fun c => c.dst.uses b || (match c.src with | some u => u.uses b | none => false)
        || (match c.next with | some (some u) => u.uses b | _ => false)

/-- FRAMER.DEPROVISION (R192, R323, R349). -/
def framerDeprovision (q : Request) (s : State) : State × Reply :=
  let b := objIndex q
  if bondInUse s b then (s, refuse stBadState)
  else if h : b < 48 then
    (onBond ⟨b, h⟩ (fun old => { ({} : Framer) with cfg := old.cfg, maint := old.maint, fbdi := old.fbdi, poisonedEgress := old.poisonedEgress })
      (dropBody 0x0801 (objBond b) (terminate (.bond b) s)), ok)
  else (s, badParam 0)

def execFramerDeprovision (q : Request) (s : State) : Out := .next (pmSync (deskRun 0x0802 framerDeprovision q s))

/-- The framer that a request names: a bond or a line ODUCm (R349). -/
def reqFramer (q : Request) : FramerId :=
  if objKind q = 6 then .odum (reqCarrier q) (reqGroup q) else .bond ⟨objIndex q % 48, Nat.mod_lt _ (by decide)⟩

/-- FRAMER.SET (R203): M reaches the units in frame at the next frame, the searching ones with the next candidate. -/
def execFramerSet (q : Request) (s : State) : Out :=
  .next (deskRun 0x0803 (pCommand 0x0803 (fun _ _ => none) fun rs s =>
    let s1 := applyRecs 0x0803 q rs s
    onFramer (reqFramer q) (fun f => { f with units := f.units.map fun u =>
      if u.st = .inFrame then { u with m := framerPar s1 (reqFramer q) 0x50 } else u }) s1) q s)

/-- FRAMER.OH.SET (R195, R196, R351). -/
def framerOhSet (q : Request) (s : State) : State × Reply :=
  let l := u8 q 4
  let mk := u8 q 5
  let i := reqFramer q
  if 7 < l ∨ ((isLine i) ∧ l = 0) then (s, badParam 4)
  else if bit mk 0 ∧ 3 < u8 q 6 then (s, badParam 6)
  else if bit mk 0 ∧ 1 < u8 q 7 then (s, badParam 7)
  else if bit mk 3 ∧ 0xFF < u16 q 8 ∧ u16 q 8 ≠ 0xFFFF then (s, badParam 8)
  else if bit mk 4 ∧ (2 < u8 q 10 ∨ l < 2) then (s, badParam 10)
  else
    let s1 := onFramer i (fun f => { f with cfg := updNat f.cfg l fun c => { c with
      timMode := if bit mk 0 then u8 q 6 else c.timMode, timAct := if bit mk 0 then u8 q 7 == 1 else c.timAct
      expTti := if bit mk 1 then bytesAt q.body 12 32 else c.expTti, txTti := if bit mk 2 then bytesAt q.body 44 64 else c.txTti
      expPt := if bit mk 3 then (if u16 q 8 = 0xFFFF then none else some (u16 q 8)) else c.expPt
      tcmMode := if bit mk 4 then u8 q 10 else c.tcmMode } }) (keepBody 0x0804 q s)
    (evalWhole i s1, ok)

/-- The APS level of a layer (R217, in the order of ITU-T G.709: path, TCM1 to TCM6, section; PRESUMED, log 33). -/
def apsLevel (l : Nat) : Nat := if l = 0 then 7 else l - 1

/-- FRAMER.OH.GET (R195, R349). -/
def framerOhGet (q : Request) (s : State) : State × Reply :=
  let l := u8 q 4
  if 7 < l ∨ (objKind q = 6 ∧ l = 0) then (s, badParam 4)
  else
    match s.framer (reqFramer q) with
    | none => (s, badParam 0)
    | some f =>
      let y := f.slices.getD (if objKind q = 6 then objSub2 q - 1 else 0) {}
      let x := getNat {} y.layers l
      (s, okBulk (padTo 64 (x.ttiAcc.getD []) ++ leBytes 1 (y.pt.acc.getD 0) ++ leBytes 1 (x.stat % 8) ++ leBytes 2 0
        ++ leBytes 4 ((f.aps.getD (apsLevel l) {}).acc.getD 0)) f.ftfl)

def execFramerOhGet (q : Request) (s : State) : Out := .next (deskRun 0x0805 framerOhGet q s)

/-- FRAMER.MAINT.SET (R199, R349). -/
def framerMaintSet (q : Request) (s : State) : State × Reply :=
  let b := objIndex q
  let sg := u8 q 5
  let f := getNat {} s.bonds b
  if 1 < u8 q 4 then (s, badParam 4)
  else if 3 < sg ∨ (f.provisioned ∧ isEth f ∧ 1 < sg) then (s, badParam 5)
  else if 1 < u8 q 6 then (s, badParam 6)
  else
    (egressSync (reqFramer q) (onFramer (reqFramer q) (fun f =>
      if u8 q 4 = 0 then { f with maint := (sg, f.maint.2), fbdi := (u8 q 6 == 1, f.fbdi.2) }
      else { f with maint := (f.maint.1, sg), fbdi := (f.fbdi.1, u8 q 6 == 1) }) (keepBody 0x0806 q s)), ok)

def execFramerMaintSet (q : Request) (s : State) : Out := .next (deskRun 0x0806 framerMaintSet q s)

/-- Unit states as R337 codes R192. -/
def AlignState.code : AlignState → Nat
  | .off => 0 | .search => 1 | .inFrame => 2

/-- FRAMER.STATUS (R204): defects by layer × 13 + row of R197, 0 absent, 1 present, 2 cleared by a mask (R200). -/
def framerItems (q : Request) (s : State) : List StatItem :=
  let i := reqFramer q
  match s.framer i with
  | none => []
  | some f =>
    let us := f.units.zipIdx
    let sl := f.slices.zipIdx
    let ls := List.range 8
    let mark (d : Nat × Nat) : Nat := if f.has d.1 d.2 then 1 else if f.maskedHist.contains d then 2 else 0
    let defs := (defectOrder.filter fun d => d.2 != 0x101).map fun d =>
      (d.1, if d.2 = 0xFF then 0 else d.2, if d.1 = 172 ∧ mark d ≠ 1 then (if mark (172, 0x101) = 0 then mark d else mark (172, 0x101)) else mark d)
    let lay (x : SliceOh) (l : Nat) : LayerRx := getNat {} x.layers l
    (us.map fun u => gau 1 0 u.1.st.code u.2) ++ [gau 1 1 (b2n f.inFrame)] ++ (sl.map fun x => gau 1 2 (b2n x.1.mfIn) x.2)
      ++ (us.flatMap fun u => [gau 2 0 u.1.ident u.2, gau 2 1 u.1.lane u.2, gau 2 2 u.1.skew u.2])
      ++ (defs.map fun d => gau 3 0 d.2.2 (13 * d.2.1 + (d.1 - 160)))
      ++ (ls.map fun l => lst 4 0 ((lay (f.slices.getD 0 {}) l).ttiAcc.getD (List.replicate 64 0)) l)
      ++ [gau 4 1 ((f.slices.getD 0 {}).pt.acc.getD 0)] ++ (sl.flatMap fun x => ls.map fun l => gau 4 2 (lay x.1 l).stat (8 * x.2 + l))
      ++ [lst 4 3 f.ftfl] ++ (us.flatMap fun u => [ctr 5 0 u.1.entries u.2, ctr 5 1 u.1.losses u.2, ctr 6 0 u.1.evictions u.2,
          ctr 6 1 u.1.ambiguities u.2, ctr 7 0 u.1.erroredFrames u.2])
      ++ [ctr 8 0 f.rsCorrected, ctr 8 1 f.rsUncorr, ctr 8 2 f.rsSymbols]
      ++ (ls.flatMap fun l => [ctr 9 0 ((f.slices.map fun x => (lay x l).neTotal).sum) l, ctr 9 1 ((f.slices.map fun x => (lay x l).feTotal).sum) l])
      ++ [ctr 10 0 f.neSecs, ctr 10 1 f.feSecs, ctr 11 0 f.poisonedEgress]

def execFramerStatus (q : Request) (s : State) : Out := .next (deskRun 0x0807 (sCommand framerItems) q s)

end Sys2Proof.Machine
end

