-- ==== Sys2Proof/Machine/Mapping.lean ====
section
/-! DEFINITION. The mapper and the tributary switch (09_mapping_protection.md R206 to R215, R227 rows 1 to 4; 14_command_reference.md
R352, R353; 20_mated_pair.md R483). -/

namespace Sys2Proof.Machine

/-- ODU rate in kb/s of an IMP tributary, by Ethernet interface, and of an ODU4 (R206). -/
def impRate (iface : Nat) : Nat := [201624860, 403249720, 806499440, 1612998880].getD iface 0
def odu4Rate : Nat := 104794445

/-- Slots that a tributary of rate r (kb/s) occupies: in an ODUCm (R207), in a client OTUCn, whose slot carries 5.240886 Gb/s
(ITU-T G.709; PRESUMED, log 36). -/
def lineSlots (r : Nat) : Nat := ceilDiv (r * 10001) (4971116 * 10000)
def clientSlots (r : Nat) : Nat := ceilDiv (r * 10001) (5240886 * 10000)

/-- The 16-lane capacity of the mate link, kb/s (R477, R483). -/
def mateCapacity : Nat := 16 * 212500000 * 256 / 264

/-- Slices of a container: m of a line group, n of an OTUCn bond (R168, R209). -/
def containerSlices (s : State) (kind cont group : Nat) : Nat :=
  if kind = 0 then (s.car (carrierOf cont)).slices.getD group 0 else otucN (getNat {} s.bonds cont).iface

/-- The tributaries of a container; the slots they hold in it; the slots held in a client OTUCn bond (R209). -/
def Mapping.inContainer (m : Mapping) (kind cont group : Nat) : List Trib :=
  m.tribs.filter fun t => t.ckind == kind && t.cont == cont && t.group == group
def Mapping.taken (m : Mapping) (kind cont group : Nat) : List Nat := (m.inContainer kind cont group).flatMap (·.slots)
def Mapping.clientTaken (m : Mapping) (b : Nat) : List Nat := (m.tribs.filter fun t => t.bond == b).flatMap (·.ncSlots)

/-- Slot codes of a container in the order of AUTO (R209). -/
def slotOrder (slices : Nat) : List Nat := (List.range slices).flatMap fun i => (List.range 20).map fun k => 256 * (i + 1) + k + 1

/-- `n` slot codes of a request's bulk bytes from index i (R352). -/
def slotCodes (q : Request) (i n : Nat) : List Nat := (List.range n).map fun k => natAt q.bulk (2 * (i + k)) 2

/-- Are listed slots all free, in the container, and distinct? -/
def slotsOk (order taken l : List Nat) : Bool := (l.all fun c => order.contains c && !taken.contains c) && l.Nodup

/-- Does a container's transmitter run, so that multiframe boundaries come (R210)? -/
def containerRuns (s : State) (kind cont group : Nat) : Bool :=
  if kind = 0 then (s.fol (carrierOf cont) (groupOf group)).txOn else (getNat {} s.bonds cont).provisioned

/-- The rate of the tributary asked for, kb/s; 0 where its kind and bond give none (R206, R352). -/
def tribRate (kind : Nat) (f : Framer) (rate : Nat) : Nat :=
  if kind = 1 then odu4Rate else if kind = 2 then rate else if ethTerminate f then impRate f.iface else 0

/-- May a bond be the client of a tributary of a kind (R206)? A bond that is not provisioned leaves the tributary without a
source (R211). An OTUCn container is fed through the switch (R212). -/
def clientOk (ckind kind : Nat) (f : Framer) : Bool :=
  if kind = 0 then ethTerminate f
  else ckind == 1 || !f.provisioned || (if kind = 1 then f.iface == 4 || isFlexo f else isFlexo f)

/-- The fields of `MAP.TRIB.ADD` that are refused, by offset (R208, R209, R352). -/
def tribFieldBad (q : Request) (s : State) : Option Nat :=
  let ck := u8 q 4
  let f := getNat {} s.bonds (u8 q 10)
  let kind := u8 q 7
  let flex := ck = 0 ∧ f.provisioned ∧ isFlexo f
  if 1 < ck then some 4
  else if (ck = 0 ∧ (!hasLine s ∨ 1 < u8 q 5)) ∨ (ck = 1 ∧ !(isFlexo (getNat {} s.bonds (u8 q 5)) && (getNat {} s.bonds (u8 q 5)).provisioned)) then some 5
  else if (ck = 0 ∧ !groupExists s (u8 q 6)) ∨ (ck = 1 ∧ u8 q 6 ≠ 0) then some 6
  else if 2 < kind then some 7
  else if u16 q 8 = 0 ∨ 640 < u16 q 8 ∨ ((s.map.inContainer ck (u8 q 5) (u8 q 6)).any fun t => t.tpn == u16 q 8) then some 8
  else if 47 < u8 q 10 ∨ !clientOk ck kind f then some 10
  else if ck = 0 ∧ s.dev.mode = some .transponder ∧ (s.map.inContainer 0 (u8 q 5) (u8 q 6)).any (fun t => t.bond != u8 q 10) then some 10
  else if ck = 0 ∧ f.provisioned ∧ !isFlexo f ∧ s.map.tribs.any (fun t => t.ckind == 0 && t.bond == u8 q 10) then some 10
  else if (kind = 2 ∧ (u32 q 12 < 5000000 ∨ 1700000000 < u32 q 12)) ∨ (kind ≠ 2 ∧ u32 q 12 ≠ 0) then some 12
  else if 2 * (u16 q 16 + u16 q 18) > q.bulk.length then some 16
  else if (flex ∧ u16 q 18 = 0) ∨ (!flex ∧ u16 q 18 ≠ 0) then some 18
  else none

/-- Does a carrier's sum of tributary rates exceed the 16-lane capacity on a member of a pair (R483)? -/
def mateOver (s : State) (ck cont rate : Nat) : Bool :=
  s.mate.role != 0 && ck == 0 && decide (mateCapacity < ((s.map.tribs.filter fun t => t.ckind == 0 && t.cont == cont).map (·.rate)).sum + rate)

/-- A function's transition on a container completes: each command that began one with its own response (R349). -/
def addReply (s : State) (o : Outst) : Resp :=
  let q := o.req
  if o.op ≠ 0x0901 then { status := stOk }
  else match s.map.tribs.find? fun t => t.isId (u8 q 4) (u8 q 5) (u8 q 6) (u16 q 8) with
    | some t => { status := stOk, payload := leBytes 2 t.slots.length, bulk := if q.slot.isSome then t.slots.flatMap (leBytes 2) else [] }
    | none => { status := stOk }

/-- The transmit multiframe boundary of a container (R210): added tributaries are in the structure sent, removed ones are not;
the commands complete. -/
def applyContainer (kind cont group : Nat) (s : State) : State :=
  let mine (t : Trib) : Bool := t.ckind == kind && t.cont == cont && t.group == group
  let s1 := onMap (fun m => { m with
    tribs := (m.tribs.filter fun t => !(mine t && t.removing)).map fun t => if mine t then { t with active := true } else t }) s
  let fn := Fn.container kind cont group
  let ts := s1.desk.transitions.filter fun t => t.fn == fn
  let s2 := { s1 with desk := { s1.desk with transitions := s1.desk.transitions.filter fun t => t.fn != fn } }
  let i : FramerId := if kind = 0 then .odum (carrierOf cont) (groupOf group) else .bond ⟨cont % 48, Nat.mod_lt _ (by decide)⟩
  egressSync i <| evalMsim kind cont group (ts.foldl (fun s t => match t.by_ with
    | some (ch, tag) => match (s.chan ch).find tag with
      | some o => complete ch tag (addReply s o) s
      | none => s
    | none => s) s2)

/-- The change waits for the multiframe boundary, or is applied at once where the transmitter does not run (log 37). -/
def waitMultiframe (op : Nat) (q : Request) (s : State) : State × Reply :=
  let fn := Fn.container (u8 q 4) (u8 q 5) (u8 q 6)
  let s1 := beginTransition fn op q s
  if containerRuns s (u8 q 4) (u8 q 5) (u8 q 6) then (s1, .later) else (applyContainer (u8 q 4) (u8 q 5) (u8 q 6) s1, .later)

/-- MAP.TRIB.ADD (R206 to R210, R352, R483). -/
def mapTribAdd (q : Request) (s : State) : State × Reply :=
  let ck := u8 q 4
  let f := getNat {} s.bonds (u8 q 10)
  let rate := tribRate (u8 q 7) f (u32 q 12)
  let n := if ck = 0 then lineSlots rate else clientSlots rate
  let order := slotOrder (containerSlices s ck (u8 q 5) (u8 q 6))
  let taken := s.map.taken ck (u8 q 5) (u8 q 6)
  let free := order.filter fun c => !taken.contains c
  let listed := slotCodes q 0 (u16 q 16)
  let nc := slotCodes q (u16 q 16) (u16 q 18)
  if s.dev.mode = some .regenerator then (s, refuse stBadState)
  else match tribFieldBad q s with
    | some off => (s, badParam off)
    | none =>
      if 256 ≤ s.map.tribs.length ∨ 64 ≤ (s.map.inContainer ck (u8 q 5) (u8 q 6)).length ∨ free.length < n
          ∨ (u16 q 18 ≠ 0 ∧ 64 ≤ (s.map.tribs.filter fun t => t.bond == u8 q 10).length) ∨ mateOver s ck (u8 q 5) rate then
        (s, refuse stNoCapacity)
      else if u16 q 16 ≠ 0 ∧ (u16 q 16 ≠ n ∨ !slotsOk order taken listed) then (s, badParam 16)
      else if !slotsOk (slotOrder (otucN f.iface)) (s.map.clientTaken (u8 q 10)) nc then (s, badParam 18)
      else
        let t : Trib := {
          ckind := ck, cont := u8 q 5, group := u8 q 6, tpn := u16 q 8, kind := u8 q 7, rate := rate, bond := u8 q 10
          slots := if u16 q 16 = 0 then free.take n else listed, ncSlots := nc, active := false, removing := false }
        waitMultiframe 0x0901 q (onMap (fun m => { m with tribs := m.tribs ++ [t] }) s)

def execMapTribAdd (q : Request) (s : State) : Out := .next (pmSync (deskRun 0x0901 mapTribAdd q s))

/-- MAP.TRIB.REMOVE (R210, R323, R349): it ends an addition of the same tributary that has not taken effect. -/
def mapTribRemove (q : Request) (s : State) : State × Reply :=
  let kind := u8 q 4
  let isIt (t : Trib) : Bool := t.isId kind (u8 q 5) (u8 q 6) (u16 q 8)
  match s.map.tribs.find? isIt with
  | none => (s, badParam 8)
  | some t =>
    if kind = 1 ∧ s.map.conns.any fun c => c.dst == { kind := 1, bond := u8 q 5, tpn := u16 q 8 }
        || c.src == some { kind := 1, bond := u8 q 5, tpn := u16 q 8 } then (s, refuse stBadState)
    else if !t.active then
      (onMap (fun m => { m with tribs := m.tribs.filter fun t => !isIt t }) (terminate (.container kind (u8 q 5) (u8 q 6)) s), ok)
    else
      waitMultiframe 0x0902 q (onMap (fun m => { m with tribs := m.tribs.map fun t => if isIt t then { t with removing := true } else t }) s)

def execMapTribRemove (q : Request) (s : State) : Out := .next (pmSync (deskRun 0x0902 mapTribRemove q s))

/-- While PAIRED, ownership returns to R481 at a tributary's next multiframe boundary (R484): the PRIMARY has carrier A, the
SECONDARY carrier B. -/
def mateHandover (kind cont group : Nat) (s : State) : State :=
  if kind = 0 ∧ s.mate.st = .paired then
    onMate (fun m => { m with owns := updNat m.owns cont fun v => updNat v group fun _ => m.role == cont + 1 }) s
  else s

/-- MULTIFRAME_BOUNDARY (R210, R227): also the idles that IMP inserted and removed in the multiframe, by TPN. -/
def execMultiframeBoundary (kind cont group : Nat) (idles : List (Nat × Nat × Nat)) (s : State) : Out :=
  let count (t : Trib) : Trib := match idles.find? (fun x => t.isId kind cont group x.1 && t.kind == 0) with
    | some x => { t with idlesIn := satAdd t.idlesIn x.2.1, idlesOut := satAdd t.idlesOut x.2.2 }
    | none => t
  .next (pmSync (mateHandover kind cont group (applyContainer kind cont group (onMap (fun m => { m with tribs := m.tribs.map count }) s))))

/-- A switch unit of a request (R353). -/
def unitAt (q : Request) (off : Nat) : SwUnit := { kind := u8 q off, bond := u8 q (off + 1), tpn := u16 q (off + 2) }

/-- What a unit carries (R212): ODU kind and rate; 3 for PCS lanes of an interface and lane count; none when there is no such
unit. -/
def SwUnit.carries (s : State) (u : SwUnit) : Option (Nat × Nat × Nat) :=
  let f := getNat {} s.bonds u.bond
  if u.kind = 0 then
    if !f.provisioned ∨ u.tpn ≠ 0 ∨ isFlexo f then none
    else if f.iface = 4 then some (1, odu4Rate, 0)
    else if f.fec = 1 then some (3, f.iface, f.k)
    else some (0, impRate f.iface, 0)
  else if u.kind = 1 then (s.map.tribs.find? fun t => t.isId 1 u.bond 0 u.tpn).map fun t => (t.kind, t.rate, 0)
  else none

/-- The source of a connection once its change has taken effect. -/
def Conn.source (c : Conn) : Option SwUnit := match c.next with
  | some n => n
  | none => c.src

/-- SWITCH.CONNECT (R212, R213, R215, R236, R353). -/
def switchConnect (q : Request) (s : State) : State × Reply :=
  let src := unitAt q 4
  let dst := unitAt q 8
  let d := u32 q 12
  if s.dev.mode ≠ some .framer then (s, refuse stBadState)
  else match src.carries s, dst.carries s with
    | none, _ => (s, badParam 4)
    | some _, none => (s, badParam 8)
    | some a, some b =>
      if a ≠ b then (s, badParam 8)
      else if d ≠ 0 ∧ (d < 4000 ∨ 1000000 < d) then (s, badParam 12)
      else if d ≠ 0 ∧ d ≠ s.map.delay ∧ !s.map.conns.isEmpty then (s, refuse stBadState)
      else if 4 ≤ (s.map.conns.filter fun c => c.dst != dst && c.source == some src).length then (s, refuse stNoCapacity)
      else
        let fresh := (s.stk.region 3).isNone
        let dl := if fresh ∧ d ≠ 0 then d else s.map.delay
        match (if fresh then allocRegion 3 (switchPages dl) s else .ok s) with
        | .error e => (s, refuse e)
        | .ok s1 =>
          (onMap (fun m => { m with
            delay := dl
            conns := if m.conns.any fun c => c.dst == dst then m.conns.map fun c => if c.dst = dst then { c with next := some (some src) } else c
              else m.conns ++ [{ dst := dst, src := none, next := some (some src), ais := true }] })
            (beginTransition (.dest dst.kind dst.bond dst.tpn) 0x0910 q s1), .later)

def execSwitchConnect (q : Request) (s : State) : Out := .next (deskRun 0x0910 switchConnect q s)

/-- SWITCH.DISCONNECT (R215, R323): it ends a connection of the destination that has not taken effect. -/
def switchDisconnect (q : Request) (s : State) : State × Reply :=
  let dst := unitAt q 4
  let fn := Fn.dest dst.kind dst.bond dst.tpn
  match s.map.conns.find? fun c => c.dst == dst with
  | none => (s, refuse stBadState)
  | some c =>
    let s1 := terminate fn s
    if c.src.isNone then (onMap (fun m => { m with conns := m.conns.filter fun c => c.dst != dst }) s1, ok)
    else
      (onMap (fun m => { m with conns := m.conns.map fun c => if c.dst = dst then { c with next := some none } else c })
        (beginTransition fn 0x0911 q s1), .later)

def execSwitchDisconnect (q : Request) (s : State) : Out := .next (deskRun 0x0911 switchDisconnect q s)

/-- SWITCH_FRAME_BOUNDARY (R215): the change takes effect with ODU-AIS, until the first whole frame of the new source. -/
def switchBoundary (dst : SwUnit) (s : State) : State :=
  match s.map.conns.find? fun c => c.dst == dst with
  | none => s
  | some c => match c.next with
    | none => onMap (fun m => { m with conns := m.conns.map fun c => if c.dst = dst then { c with ais := false } else c }) s
    | some n =>
      let s1 := onMap (fun m => { m with
        changes := bump m.changes
        conns := if n.isNone then m.conns.filter fun c => c.dst != dst
          else m.conns.map fun c => if c.dst = dst then { c with src := n, next := none, ais := true } else c
        out := if n.isNone then { dst := dst, data := none, poison := false } :: m.out.filter (fun o => o.dst != dst) else m.out }) s
      endTransition (.dest dst.kind dst.bond dst.tpn) { status := stOk } (raise 177 (objBond dst.bond) (evtArg 0 0 dst.tpn 0) s1)

def execSwitchFrameBoundary (ukind bond tpn : Nat) (s : State) : Out :=
  .next (egressSync (.bond ⟨bond % 48, Nat.mod_lt _ (by decide)⟩) (switchBoundary { kind := ukind, bond := bond, tpn := tpn } s))

/-- The row of R242 of a client egress: 4 Ethernet in TERMINATE, 5 in REGENERATE, 6 OTN. -/
def egressRow (f : Framer) (u : SwUnit) : Nat := if u.kind = 0 ∧ isEth f then (if f.fec = 1 then 5 else 4) else 6

/-- SWITCH_READ_DUE (R213, R242): an item that arrived at `arrival` (2^-16 ns) is read for a destination from word `w` of the
switch buffer with its SEQ, no earlier than arrival plus the switch delay. -/
def switchRead (dst : SwUnit) (w seq arrival : Nat) (s : State) : State :=
  match s.map.conns.find? fun c => c.dst == dst with
  | none => s
  | some c =>
    if c.src.isNone || s.tod16 < arrival + s.map.delay * 65536 || s.stk.codeAt (pageOf w) != 3 then s
    else
      let d := stkRead w (some (3, seq % 256)) false false s
      let s1 := onMap (fun m => { m with
        out := { dst := dst, data := if c.ais then none else some d.1.data, poison := d.1.poison } :: m.out.filter fun o => o.dst != dst }) d.2
      let s2 := if d.1.poison then { s1 with bonds := updNat s1.bonds dst.bond fun f => { f with poisonedEgress := bump f.poisonedEgress } } else s1
      poisonOutIf d.1.poison (egressRow (getNat {} s.bonds dst.bond) dst) s2

def execSwitchReadDue (ukind bond tpn : Nat) (w : Fin 2147483648) (seq arrival : Nat) (s : State) : Out :=
  .next (switchRead { kind := ukind, bond := bond, tpn := tpn } w.val seq arrival s)

/-- Has a rate-following bond a source in frame (R214)? From the switch, or a tributary of a line group in TRACK. -/
def followsSource (s : State) (b : Fin 48) : Bool :=
  (s.map.conns.any fun c => c.dst == { kind := 0, bond := b.val, tpn := 0 } &&
    match c.src with
    | some u => (getNat {} s.bonds u.bond).provisioned && !((getNat {} s.bonds u.bond).declared.any fun d => 160 ≤ d.1 && d.1 ≤ 162)
    | none => false)
  || s.map.tribs.any fun t => t.ckind == 0 && t.active && t.bond == b.val &&
      (s.rxg (demapSide s (carrierOf t.cont) (groupOf t.group)) (groupOf t.group)).st == .track

/-- 120 ppm in units of 10^-6 ppm (R214). -/
def followLimit : Int := 120000000

/-- RATE_FOLLOW_STEER (R214): every 1 µs, toward the rate of the source (10^-6 ppm), by at most 1 ppm/s; the last rate is held
without a source, and after the hold the rate returns to exact. -/
def rateSteer (b : Fin 48) (target : Int) (s : State) : State :=
  if !rateFollowing s.bonds[b] then s
  else
    let goal (x t : Int) : Int := if x < t then x + 1 else if t < x then x - 1 else x
    let next (r : RateFollow) : RateFollow :=
      if followsSource s b then { offset := goal r.offset (max (-followLimit) (min followLimit target)), holding := false, returning := false }
      else if r.returning then { r with offset := goal r.offset 0 }
      else { r with holding := true }
    onMap (fun m => { m with follow := upd m.follow b next }) s

def execRateFollowSteer (b : Fin 48) (target : Int) (s : State) : Out := .next (rateSteer b target s)

/-- RATE_HOLD_END (R214): 100 ms after the source went. -/
def rateHoldEnd (b : Fin 48) (s : State) : State :=
  onMap (fun m => { m with follow := upd m.follow b fun r => if r.holding then { r with holding := false, returning := true } else r }) s

def execRateHoldEnd (b : Fin 48) (s : State) : Out := .next (rateHoldEnd b s)

/-- Defects of a tributary as a mask (R227 row 1; layout: log 38): bit 0 MSIM, bit 1 + (n − 160) defect n of R197. -/
def tribDefects (f : Framer) : Nat := f.declared.foldl (fun m d => Nat.lor m (2 ^ (d.1 - 159))) (b2n f.msim)

/-- MAP.STATUS (R227, rows 1 to 4): the tributaries of a line group or an OTUCn bond, the connections of a bond. -/
def mapItems (q : Request) (s : State) : List StatItem :=
  let ck := if objKind q = 1 then 0 else 1
  let c := carrierOf (objIndex q)
  let ts := s.map.inContainer ck (objIndex q) (if ck = 0 then objSub q else 0)
  let f := if ck = 0 then s.odum[c][reqGroup q] else getNat {} s.bonds (objIndex q)
  let acc (x : Nat) : Nat := (((f.slices.getD (x / 256 - 1) {}).msi.getD (x % 256 - 1) {}).acc).getD 0
  let cs := if ck = 0 then [] else s.map.conns.filter fun c => c.dst.bond == objIndex q
  let word (c : Conn) : List Byte := match c.src with
    | some u => leBytes 1 u.kind ++ leBytes 1 u.bond ++ leBytes 2 u.tpn
    | none => leBytes 4 0xFFFFFFFF
  (ts.flatMap fun t => [lst 1 0 (t.slots.flatMap (leBytes 2)) t.tpn, lst 1 1 (t.slots.flatMap fun x => leBytes 2 (acc x)) t.tpn,
    gau 1 2 (tribDefects t.oh) t.tpn])
    ++ (ts.map fun t => ctr 2 0 t.oh.gmpEvents t.tpn)
    ++ ((ts.filter fun t => t.kind == 0).flatMap fun t => [ctr 3 0 t.idlesIn t.tpn, ctr 3 1 t.idlesOut t.tpn])
    ++ (cs.map fun c => lst 4 0 (word c) c.dst.tpn) ++ [ctr 4 1 s.map.changes]

def execMapStatus (q : Request) (s : State) : Out := .next (deskRun 0x0903 (sCommand mapItems) q s)

end Sys2Proof.Machine
end

