-- ==== Sys2Proof/Machine/Protect.lean ====
section
/-! DEFINITION. 1+1 line protection: requests and their priority, the state table, the SR bytes, leads and the selector
(09_mapping_protection.md R216 to R226, R227 rows 5 to 9). A mated pair's groups use the same operations on `Prot` (R485). -/

namespace Sys2Proof.Machine

/-- What a protection group's rules need to know: the working side, bidirectional, revertive (R218, R226). -/
structure ProtRule where
  work : Nat
  bidir : Bool
  rev : Bool
deriving DecidableEq, Repr

def protRule (s : State) (g : Nat) : ProtRule :=
  { work := getParN s .r226 (objProt g) 0x50, bidir := getPar s .r226 (objProt g) 0x60 == 1, rev := getPar s .r226 (objProt g) 0x61 == 1 }

/-- The code of REQ_TYPE [7:4] of a state (R216). -/
def ProtState.req : ProtState → Nat
  | .lo => 15 | .sfP => 14 | .fs => 13 | .sfW => 11 | .sd => 9 | .ms => 7 | .wtr => 5 | .dnr => 1 | .nr => 0

/-- The state of a request of priority MS or above (R222, R223). -/
def reqState (code : Nat) : ProtState :=
  if code = 15 then .lo else if code = 14 then .sfP else if code = 13 then .fs else if code = 11 then .sfW
  else if code = 9 then .sd else .ms

/-- Code of a state in `PROT.STATUS` and `PROT.COMMAND` (R337 over R223; NR and DNR after those of the State column, log 39). -/
def ProtState.code : ProtState → Nat
  | .sfW => 0 | .sd => 1 | .wtr => 2 | .lo => 3 | .fs => 4 | .ms => 5 | .sfP => 6 | .nr => 7 | .dnr => 8

/-- A side of a group. -/
def Prot.side (p : Prot) (i : Nat) : ProtSide := getNat {} p.sides i

/-- The side selected: 0 A, 1 B (R366). -/
def Prot.selected (p : Prot) (b : ProtRule) : Nat := if p.onProt then 1 - b.work else b.work

/-- The top local request (R222); the codes rise with priority. -/
def Prot.local_ (p : Prot) (b : ProtRule) : Nat :=
  if p.lo then 15 else if (p.side (1 - b.work)).sf then 14 else if p.fs then 13 else if (p.side b.work).sf then 11
  else if (p.side 0).sd || (p.side 1).sd then 9 else if p.ms then 7 else if p.st = .wtr then 5 else if p.st = .dnr then 1 else 0

/-- The far end's bytes: from the protection carrier, from the working one while that is in signal fail (R216). -/
def Prot.farSr (p : Prot) (b : ProtRule) : Option Nat :=
  if (p.side (1 - b.work)).sfNow then (p.side b.work).sr.acc else (p.side (1 - b.work)).sr.acc

/-- Fields of an accepted SR value, bytes 0 to 3 as one number (R216): request, D, requested signal. -/
def srReq (v : Nat) : Nat := field v 28 4
def srD (v : Nat) : Bool := bit v 25
def srSig (v : Nat) : Bool := field v 16 8 != 0

/-- The accepted far-end request (R217, R222): an RR is none, an EXER counts as NR; only in bidirectional operation. -/
def Prot.far (p : Prot) (b : ProtRule) : Nat :=
  match p.farSr b with
  | some v => if b.bidir && srReq v != 2 && srReq v != 4 then srReq v else 0
  | none => 0

/-- The top request (R222). -/
def Prot.top (p : Prot) (b : ProtRule) : Nat := max (p.local_ b) (p.far b)

/-- Does a request select the protection side (R222)? SD: the carrier not in SD, working when both are; an SD of the far end
alone: the signal it requests. -/
def Prot.select (p : Prot) (b : ProtRule) (code : Nat) : Bool :=
  if code = 15 ∨ code = 14 then false
  else if code = 9 then
    if (p.side 0).sd || (p.side 1).sd then (p.side b.work).sd && !(p.side (1 - b.work)).sd
    else (p.farSr b).any srSig
  else true

/-- The state table (R223): the "Any" rows, then those of the state. An MS that a higher request removes is gone (R222). -/
def Prot.decide (b : ProtRule) (p : Prot) : Prot :=
  let top := p.top b
  let p1 := if 7 < top then { p with ms := false } else p
  let rest : ProtState := if !b.rev && p.onProt then .dnr else .nr
  if 7 ≤ top then { p1 with st := reqState top, onProt := if p.st.req ≠ top ∨ top = 9 then p.select b top else p.onProt }
  else match p1.st with
    | .sfW => { p1 with st := if b.rev then .wtr else .dnr }
    | .sd => { p1 with st := if b.rev && p1.onProt then .wtr else rest }
    | .lo => { p1 with st := rest }
    | .fs => { p1 with st := rest }
    | .ms => { p1 with st := rest }
    | .sfP => { p1 with st := .nr }
    | .wtr => p1
    | .dnr => p1
    | .nr => p1

/-- The look-back in 2^-16 ns (R224). -/
def lookBack (s : State) (g : Nat) : Nat := getParN s .r226 (objProt g) 0xC0 * 65536

/-- Arguments of PROT_* (R366): top request code, selected carrier. -/
def protArg (b : ProtRule) (p : Prot) (state : Nat) : EvtArg := evtArg state (p.top b) (p.selected b) 0

/-- Grow the receive queues of the enabled carriers to the limits in force (R236). -/
def growQueues (s : State) : Option State :=
  ([0, 1] : List Nat).foldl (fun (r : Option State) c => r.bind fun s => if (s.car (carrierOf c)).enabled then growQueue c s else some s) (some s)

/-- A group enters NR: parameters that waited come into force (R226, R236). -/
def protRelease (g : Fin 16) (s : State) : State :=
  let s1 := { s with par := s.par.release .r226 (objProt g.val) }
  (growQueues s1).getD s1

/-- Settle a group by the state table (R223): a change of the selected carrier raises PROT_SWITCH with the request that caused
it; for SF and SD the selector waits for `onset` (R224). -/
def protDecide (g : Fin 16) (onset : Nat) (s : State) : State :=
  let p := s.prot[g]
  if !p.exists_ then s
  else
    let b := protRule s g.val
    let p1 := p.decide b
    let code := p1.st.req
    let s1 := onProt g (fun _ => if p1.onProt = p.onProt then p1 else { p1 with
      onset := if code = 14 ∨ code = 11 ∨ code = 9 then some onset else none
      switches := p1.switches.modify code bump }) s
    let s2 := raiseIf (p1.onProt != p.onProt) 178 (objProt g.val) (evtArg 0 code (p1.selected b) 0) s1
    if p1.st = .nr ∧ p.st ≠ .nr then protRelease g s2 else s2

/-- Differential-delay fail of a side (R221): its lead is negative or exceeds the limit. -/
def ddFail (limitNs : Nat) (p : Prot) (i : Nat) : Bool :=
  let l := if i = 0 then p.leadA else p.leadB
  p.aligned && (decide (l < 0) || decide ((limitNs : Int) * 65536 < l))

/-- The differential-delay limit in force for a side whose limit in force was `old` (R236): a larger one applies once the pages that
it adds have joined the carrier's receive queue. -/
def limitInForce (s : State) (c want old : Nat) : Nat := match s.stk.region (4 + c) with
  | some r => if r.adding.isEmpty || want ≤ old then want else old
  | none => want

/-- Signal fail of a carrier of a group (R221), but for its lead. -/
def groupFailed (s : State) (c : Fin 2) (g : Fin 16) : Bool :=
  (s.rxg c g).st != .track || (s.fol c g).aisRx || !s.odum[c][g].declared.isEmpty

/-- A condition gone is no request; with no hold-off a condition present is one at once (R221). -/
def ProtSide.judge (x : ProtSide) (sf sd dd wait : Bool) : ProtSide :=
  { x with sfNow := sf, sdNow := sd, dd := dd, sf := sf && (x.sf || !wait), sd := sd && (x.sd || !wait) }

/-- Judge SF and SD of both carriers of a group (R221), PROT_DD_FAIL on entry and exit, and settle it. -/
def protConditions (g : Fin 16) (s : State) : State :=
  let p := s.prot[g]
  if !p.exists_ then s
  else
    let b := protRule s g.val
    let lim := getParN s .r226 (objProt g.val) 0x80
    let th := getParN s .r226 (objProt g.val) 0x90
    let wait := getParN s .r226 (objProt g.val) 0xA0 != 0
    let p1 := { p with sides := Vector.ofFn fun (i : Fin 2) =>
      let l := limitInForce s i.val lim (p.side i.val).limit
      let dd := ddFail l p i.val
      { (p.side i.val).judge (groupFailed s i g || dd) (th != 0 && decide (th < s.odum[i][g].pmLast)) dd wait with limit := l } }
    let p2 := { p1 with aligned := p1.aligned && !((p1.side 0).sfNow && (p1.side 1).sfNow) }
    let s1 := ([0, 1] : List Nat).foldl (fun s i =>
      raiseIf ((p2.side i).dd != (p.side i).dd) 179 (objProt g.val) (protArg b p2 (b2n (p2.side i).dd)) s) (onProt g (fun _ => p2) s)
    protDecide g (s.tod16 - lookBack s g.val) s1

/-- Judge every group (R221). -/
def protAll (s : State) : State := (List.finRange 16).foldl (fun s g => protConditions g s) s

def execQueueWrap (c : Fin 2) (s : State) : Out := .next (protAll (queueWrap c s))

/-- Who hears at once of a group's receive state and of its folio defects: its line ODUCm with the tributaries (R200, R211), its
protection group (R221), the choice of the time source (R259) and the line clock as a reference (R273). -/
def groupHeard (c : Fin 2) (g : Fin 16) (s : State) : State := refLosses (reselect (protConditions g (evalWhole (.odum c g) s)))

/-- The same for every group of a carrier. -/
def carrierHeard (c : Fin 2) (s : State) : State :=
  refLosses <| reselect (protAll ((groupsOf s c).foldl (fun s g => evalWhole (.odum c g) s) s))

/-- The protection group of a line ODUCm hears of its defects (R221). -/
def framerHeard (i : FramerId) (s : State) : State :=
  match i with
  | .odum _ g => protConditions g s
  | .bond _ => s
  | .trib _ _ _ _ => s

/-- CLOCK_LOSS and FREQ_LOSS (R63, R66, R72). -/
def execClockLoss (c : Fin 2) (g : Fin 16) (s : State) : Out := .next (groupHeard c g (clockLoss c g s))
def execFreqLoss (c : Fin 2) (g : Fin 16) (off : Int) (s : State) : Out := .next (groupHeard c g (freqLoss c g off s))

/-- RXDSP.REACQUIRE (R79): from TRACK as at any loss of lock (R72), but for the hint. -/
def rxdspReacquire (q : Request) (s : State) : State × Reply :=
  let c := reqCarrier q
  let g := reqGroup q
  if (s.rxg c g).st = .off then (s, refuse stBadState)
  else
    let s1 := if (s.rxg c g).st = .track then
        folioLost c g (raiseRx 42 c g 0 0xFF (onRxg c g (fun x => { x.leave with losses := bump x.losses }) s))
      else s
    (groupHeard c g (enterSearch c g (onRxg c g (fun x => { x with hint := none }) s1)), ok)

def execRxdspReacquire (q : Request) (s : State) : Out := .next (deskRun 0x0303 rxdspReacquire q s)

/-- FOLIO_HEADER_RECEIVED (R163): the 16 bytes of the folio that has arrived last, as received. -/
def execFolioHeaderReceived (c : Fin 2) (g : Fin 16) (h : List Byte) (s : State) : Out :=
  .next (groupHeard c g (headerReceived c g (ohField 0 (padTo 16 h)) s))

/-- KEY_FIELD_RECEIVED (R163): the 26 bytes of the folio that has arrived last, as received. -/
def execKeyFieldReceived (c : Fin 2) (g : Fin 16) (kf : List Byte) (s : State) : Out :=
  .next (groupHeard c g (keyField c g (s.fol c g).rxVolume (ohField 128 (padTo 26 kf)) s))

def execDefectPersistenceEnd (fid : FramerId) (d : DefectTimer) (enter : Bool) (s : State) : Out :=
  .next (framerHeard fid (defectPersistence fid d enter s))

def execOtnFrameReceived (fid : FramerId) (sl : Fin 32) (o : OtnFrame) (s : State) : Out := .next (framerHeard fid (otnFrame fid sl o s))

/-- FRAMER.OH.SET, with what its new checks declare; a refused one changes nothing. -/
def framerOhSetHeard (q : Request) (s : State) : State × Reply :=
  let r := framerOhSet q s
  (if r.2 = ok then framerHeard (reqFramer q) r.1 else r.1, r.2)

def execFramerOhSet (q : Request) (s : State) : Out := .next (pmSync (deskRun 0x0804 framerOhSetHeard q s))

/-- HOLD_OFF_EXPIRY (R221, R222, R224): SF or SD of a carrier, still present after the hold-off, becomes a request; the onset is
the instant it was declared, less the look-back. -/
def holdOff (c : Fin 2) (g : Fin 16) (s : State) : State :=
  let s1 := protConditions g s
  let hold := getParN s .r226 (objProt g.val) 0xA0 * 65536000000
  protDecide g (s.tod16 - hold - lookBack s g.val)
    (onProt g (fun p => { p with sides := upd p.sides c fun x => { x with sf := x.sfNow, sd := x.sdNow } }) s1)

def execHoldOffExpiry (c : Fin 2) (g : Fin 16) (s : State) : Out := .next (holdOff c g s)

/-- WTR_EXPIRY (R223): working is selected again. -/
def wtrExpiry (g : Fin 16) (s : State) : State :=
  let p := s.prot[g]
  if p.exists_ ∧ p.st = .wtr then
    let s1 := onProt g (fun p => { p with
      st := .nr, onProt := false, onset := none, switches := if p.onProt then p.switches.modify 0 bump else p.switches }) s
    protRelease g (raiseIf p.onProt 178 (objProt g.val) (evtArg 0 0 (protRule s g.val).work 0) s1)
  else s

/-- The pair group of a carrier (R485) as `Prot`; PRIMARY's copy works, by the defaults of R226. -/
def State.pairOf (s : State) (c : Nat) : Prot := getNat {} s.mate.pair c
def onPair (c : Nat) (f : Prot → Prot) (s : State) : State := onMate (fun m => { m with pair := updNat m.pair c f }) s
def pairRule (s : State) : ProtRule := { work := 0, bidir := false, rev := getPar s .r226 objMate 0x61 == 1 }

/-- PROT_SWITCH of a pair group, by R223 for its request code. -/
def raisePair (c code : Nat) (was : Bool) (s : State) : State :=
  raiseIf (was != (s.pairOf c).onProt) 178 objMate (evtArg 0 code ((s.pairOf c).selected (pairRule s)) 0) s

/-- Settle a pair group (R223, R485): the PRIMARY decides, the SECONDARY's selection follows its records, and in ALONE each member
selects its own copy. -/
def pairDecide (c onset : Nat) (s : State) : State :=
  let p := s.pairOf c
  let p1 := p.decide (pairRule s)
  let on_ := if s.mate.st = .alone then s.mate.role == 2 else if s.mate.role = 2 then p.onProt else p1.onProt
  let code := p1.st.req
  raisePair c code p.onProt (onPair c (fun _ => if on_ = p.onProt then { p1 with onProt := on_ } else { p1 with
    onProt := on_, onset := if code = 14 ∨ code = 11 ∨ code = 9 then some onset else none
    switches := p1.switches.modify code bump }) s)

/-- WTR_EXPIRY of a pair group (R223, R485). -/
def pairWtr (c : Nat) (s : State) : State :=
  let p := s.pairOf c
  if s.mate.role ≠ 0 ∧ p.st = .wtr then
    raisePair c 0 p.onProt (onPair c (fun p => { p with
      st := .nr, onProt := p.onProt && s.mate.role == 2, onset := if s.mate.role = 2 then p.onset else none }) s)
  else s

/-- Groups 16 and 17 are the pair groups of carriers A and B (R485). -/
def execWtrExpiry (g : Fin 18) (s : State) : Out :=
  .next (if h : g.val < 16 then wtrExpiry ⟨g.val, h⟩ s else pairWtr (g.val - 16) s)

/-- SELECTOR_SWITCH (R224): an ODUC frame that begins in a folio that arrived on the carrier left at `arrival` (2^-16 ns) is the
next to be released; from the onset on it comes from the selected carrier. -/
def selectorAt (arrival : Nat) (p : Prot) : Prot :=
  if p.selector != p.onProt && (match p.onset with | some t => decide (t ≤ arrival) | none => true)
    then { p with selector := p.onProt, onset := none } else p

/-- Groups 16 and 17 are the pair groups of carriers A and B (R485). -/
def execSelectorSwitch (g : Fin 18) (arrival : Nat) (s : State) : Out :=
  .next (if h : g.val < 16 then evalWhole (.odum 0 ⟨g.val, h⟩) (onProt ⟨g.val, h⟩ (selectorAt arrival) s)
    else onPair (g.val - 16) (selectorAt arrival) s)

/-- FOP_TIMEOUT (R223): in bidirectional operation the far end's requested signal has not matched the local one. -/
def fopTimeout (g : Fin 16) (s : State) : State :=
  let p := s.prot[g]
  let b := protRule s g.val
  let bad := p.exists_ && b.bidir && (p.farSr b).map srSig != some p.onProt
  raiseIf bad 180 (objProt g.val) (protArg b p 0) (onProt g (fun p => { p with fop := p.fop || bad }) s)

def execFopTimeout (g : Fin 16) (s : State) : Out := .next (fopTimeout g s)

/-- SR_FIELD_RECEIVED (R216, R217): the six bytes of the field on one carrier pass the persistence filter; the far end's request
acts in bidirectional operation, and a D bit that differs raises PROT_FOP. -/
def srReceived (c : Fin 2) (g : Fin 16) (bs : List Byte) (s : State) : State :=
  let p := s.prot[g]
  let b := protRule s g.val
  let v := beAt bs 0 4
  let good := crc16 (bytesAt bs 0 4) == beAt bs 4 2
  let s1 := onProt g (fun p => { p with sides := upd p.sides c fun x =>
    if good then { x with sr := x.sr.see (getParN s .r226 (objProt g.val) 0x40) v, exer := if srReq v = 4 then bump x.exer else x.exer }
    else { x with srCrc := bump x.srCrc } })
    (onFol c g (fun f => if good then f else { f with srCrc := bump f.srCrc }) s)
  let p1 := s1.prot[g]
  let dBad (x : Option Nat) : Bool := match x with | some v => srD v != b.bidir | none => false
  let s2 := if p.exists_ then protConditions g s1 else s1
  raiseIf (p.exists_ && b.bidir && dBad (p1.farSr b) && !dBad (p.farSr b)) 180 (objProt g.val) (protArg b p1 0) s2

def execSrFieldReceived (c : Fin 2) (g : Fin 16) (bs : List Byte) (s : State) : Out :=
  .next (srReceived c g (ohField 154 (padTo 6 bs)) s)

/-- The SR field sent on both carriers (R216): RR where the far end's request is the top one (log 39); zero without a group. -/
def srSent (s : State) (g : Fin 16) : List Byte :=
  let p := s.prot[g]
  let b := protRule s g.val
  let code := if p.local_ b < p.far b then 2 else p.st.req
  let bs := if p.exists_ then leBytes 1 (16 * code + 8 + 2 * b2n b.bidir + b2n b.rev) ++ leBytes 1 (b2n p.onProt) ++ leBytes 1 1 ++ leBytes 1 0
    else leBytes 4 0
  bs ++ beBytes 2 (crc16 bs)

/-- The newest VOLUME whose FOLIO 0 arrived on both sides, with the stamps (R220). -/
def Prot.common (p : Prot) : Option (Nat × Nat) :=
  match (p.side 0).arrivals.find? fun a => (p.side 1).arrivals.any fun b => b.1 == a.1 with
  | none => none
  | some a => ((p.side 1).arrivals.find? fun b => b.1 == a.1).map fun b => (a.2, b.2)

/-- Alignment (R220 step 1): the later carrier gets lead 0, the earlier one the difference; with one carrier in TRACK that one
gets lead 0. -/
def Prot.align (p : Prot) (both : Bool) (only : Nat) : Prot :=
  match both, p.common with
  | true, some (a, b) => { p with leadA := b - min a b, leadB := a - min a b, aligned := true }
  | _, _ => if only = 0 then { p with leadA := 0, aligned := true } else { p with leadB := 0, aligned := true }

/-- The standby's lead (R220 step 2): its folio of equal number is released at the same instant. -/
def Prot.follow (p : Prot) (sel : Nat) : Prot :=
  if !p.aligned then p
  else match p.common with
    | none => p
    | some (a, b) => if sel = 0 then { p with leadB := p.leadA + a - b } else { p with leadA := p.leadB + b - a }

/-- Leads follow at each received volume (R220), and the conditions are judged (R221). -/
def protLeads (g : Fin 16) (s : State) : State :=
  protConditions g (onProt g (fun p => if p.exists_ then p.follow (p.selected (protRule s g.val)) else p) s)

/-- A lead or delay (2^-16 ns) in 1/64 subcarrier symbol of a carrier (R227). -/
def leadSymbols (s : State) (c : Fin 2) (t : Int) : Int := divRound (t * (4 * (s.car c).symRate)) (65536 * 1000)

/-- PROTECTION_ALIGN (R220): both carriers are in TRACK, or the alignment wait has ended; a `PROT.REALIGN` completes. -/
def protAlign (g : Fin 16) (s : State) : State :=
  let p := s.prot[g]
  let again := inTransition (.prot g.val) s
  let up (c : Fin 2) : Bool := (s.rxg c g).st == .track
  if p.exists_ ∧ (!p.aligned ∨ again) ∧ (up 0 ∨ up 1) then
    let s1 := onProt g (fun p => { p.align (up 0 && up 1) (if up 0 then 0 else 1) with
      realigns := if again then bump p.realigns else p.realigns }) s
    let q := s1.prot[g]
    protConditions g (endTransition (.prot g.val)
      { status := stOk, payload := leBytes 4 (codeOf 32 (leadSymbols s 0 q.leadA)) ++ leBytes 4 (codeOf 32 (leadSymbols s 1 q.leadB)) } s1)
  else s

def execProtectionAlign (g : Fin 16) (s : State) : Out := .next (protAlign g s)

/-- At the end of a second of a carrier's line ODUCm (R221, R227): SD by the errored blocks of the second, and the seconds
counts. -/
def protSecond (c : Fin 2) (g : Fin 16) (s : State) : State :=
  protAll (onProt g (fun p => if p.exists_ then { p with sides := upd p.sides c fun x => { x with
      sfSecs := if x.sfNow then bump x.sfSecs else x.sfSecs, sdSecs := if x.sdNow then bump x.sdSecs else x.sdSecs
      ddSecs := if x.dd then bump x.ddSecs else x.ddSecs } } else p) s)

/-- `CARRIER.DISABLE` of a selected carrier while the standby is clear (R225): SF with onset at its arrival; the selector moves. -/
def protDisable (c : Fin 2) (s : State) : State :=
  (List.finRange 16).foldl (fun s g =>
    let p := s.prot[g]
    let b := protRule s g.val
    if p.exists_ && p.selected b == c.val && !(p.side (1 - c.val)).sfNow then
      onProt g (fun p => { p with selector := p.onProt, onset := none }) (protDecide g s.tod16
        (onProt g (fun p => { p with sides := upd p.sides c fun x => { x with sfNow := true, sf := true } }) s))
    else s) s

/-- A carrier's subcarriers of a group (R170, R218). -/
def groupRun (s : State) (c : Fin 2) (g : Nat) : List Nat := positions (fun x => x == g) (s.car c).groupMap

/-- PROT.PROVISION (R218, R226, R236, R474): create, change or delete a group. -/
def protProvision (q : Request) (s : State) : State × Reply :=
  let g := groupOf (objIndex q)
  let p := s.prot[g]
  match parseRecords 0x0920 q with
  | .error off => (s, badParam off)
  | .ok rs =>
    if bit (u8 q 5) 0 then
      if !p.exists_ then (s, refuse stBadState)
      else
        let s1 := terminate (.prot g.val) s
        ({ onProt g (fun _ => {}) s1 with par := { s1.par with
           inForce := s1.par.inForce.filter fun v => !(v.tab == .r226 && v.obj == objProt g.val)
           waiting := s1.par.waiting.filter fun v => !(v.tab == .r226 && v.obj == objProt g.val) } }, ok)
    else if !hasLine s ∨ s.dev.mode = some .regenerator ∨ (s.car 0).symRate ≠ (s.car 1).symRate
        ∨ groupRun s 0 g.val ≠ groupRun s 1 g.val ∨ groupSlices s 0 g.val ≠ groupSlices s 1 g.val then (s, badParam 0)
    else if s.mate.role ≠ 0 then (s, refuse stBadState)
    else if p.exists_ ∧ p.st ≠ .nr then (waitRecs 0x0920 q rs s, ok)
    else match growQueues (onProt g (fun p => { p with exists_ := true }) (applyRecs 0x0920 q rs s)) with
      | none => (s, refuse stNoCapacity)
      | some s1 => (protConditions g s1, ok)

def execProtProvision (q : Request) (s : State) : Out := .next (deskRun 0x0920 protProvision q s)

/-- PROT.COMMAND (R222, R223). -/
def protCommand (q : Request) (s : State) : State × Reply :=
  let g := groupOf (objIndex q)
  let p := s.prot[g]
  let b := protRule s g.val
  let cmd := u8 q 4
  let code := if cmd = 1 then 15 else if cmd = 2 then 13 else 7
  let reply (s : State) : State × Reply := (s, ok (leBytes 1 s.prot[g].st.code))
  if 3 < cmd then (s, badParam 4)
  else if cmd = 0 then
    let s1 := onProt g (fun p => { p with
      lo := false, fs := false, ms := false, st := if !b.rev && p.onProt then .dnr else .nr }) s
    reply (protDecide g (s.tod16 - lookBack s g.val) (if p.st ≠ .nr ∧ s1.prot[g].st = .nr then protRelease g s1 else s1))
  else if code < p.top b then (s, refuse stBadState)
  else
    reply (protDecide g s.tod16 (onProt g (fun p =>
      if cmd = 1 then { p with lo := true } else if cmd = 2 then { p with fs := true } else { p with ms := true }) s))

def execProtCommand (q : Request) (s : State) : Out := .next (deskRun 0x0921 protCommand q s)

/-- PROT.REALIGN (R220 step 4): step 1 again at once; with both carriers in TRACK it completes now. -/
def protRealign (q : Request) (s : State) : State × Reply :=
  let g := groupOf (objIndex q)
  let s1 := beginTransition (.prot g.val) 0x0922 q s
  (if (s.rxg 0 g).st = .track ∧ (s.rxg 1 g).st = .track then protAlign g s1 else s1, .later)

def execProtRealign (q : Request) (s : State) : Out := .next (deskRun 0x0922 protRealign q s)

/-- The measured differential delay of a side (R227): how much it comes before the other. -/
def Prot.diffDelay (p : Prot) (i : Nat) : Int :=
  match p.common with
  | some (a, b) => if i = 0 then (b : Int) - a else (a : Int) - b
  | none => 0

/-- PROT.STATUS (R227, rows 5 to 9). -/
def protItems (q : Request) (s : State) : List StatItem :=
  let g := groupOf (objIndex q)
  let p := s.prot[g]
  let b := protRule s g.val
  let cs : List (Fin 2) := [0, 1]
  [gau 5 0 p.st.code, gau 5 1 (p.top b), gau 5 2 (p.selected b), gau 5 3 ((p.farSr b).getD 0)]
    ++ (cs.flatMap fun c => [sgau 6 0 (leadSymbols s c (if c = 0 then p.leadA else p.leadB)) c.val,
      sgau 6 1 (leadSymbols s c (p.diffDelay c.val)) c.val])
    ++ ((List.range 16).map fun k => ctr 7 0 (p.switches.getD k 0) k) ++ [ctr 7 1 p.realigns]
    ++ (cs.flatMap fun c => let x := p.side c.val
      [ctr 8 0 x.sfSecs c.val, ctr 8 1 x.sdSecs c.val, ctr 8 2 x.ddSecs c.val, ctr 9 0 x.srCrc c.val, ctr 9 1 x.exer c.val])

def execProtStatus (q : Request) (s : State) : Out := .next (deskRun 0x0923 (sCommand protItems) q s)

end Sys2Proof.Machine
end

