-- ==== Sys2Proof/Machine/Lanes.lean ====
section
/-! DEFINITION. Host lanes and the stepped bring-up of the mate link (12_host_lanes.md R288 to R307; 14_command_reference.md R358,
R359; 16_power.md R390). -/

namespace Sys2Proof.Machine

/-- The exact rates in kb/s with their class (R288, R295). -/
def laneRates : List (Nat × Nat) :=
  [(26562500, 0), (27952000, 0), (53125000, 1), (55905000, 1), (106250000, 2), (111810000, 2), (212500000, 3)]
def classOf (rate : Nat) : Nat := ((laneRates.find? fun r => r.1 == rate).map (·.2)).getD 0
def classRate (cls : Nat) : Nat := [26562500, 53125000, 106250000, 212500000].getD cls 0

def State.lane (s : State) (l : Nat) : Lane := getNat {} s.lanes l
def lanePar (s : State) (l pid : Nat) : Nat := getParN s .r305 (objLane l) pid
def matePar (s : State) (pid : Nat) : Nat := getParN s .r305 objMate pid

/-- Lanes of the mate link: HL32 to HL47 in STEPPED (R291, R296). -/
def mateLinkLanes : List (Fin 48) := (List.finRange 48).filter fun l => 32 ≤ l.val
def isStepped (x : Lane) : Bool := x.provisioned && x.mode == .stepped
def linkLanes (s : State) : List (Fin 48) := mateLinkLanes.filter fun l => isStepped s.lanes[l]

/-- The lanes of the link that are up, as a mask (R295 numbering). -/
def linkMask (s : State) : Nat := (linkLanes s).foldl (fun m l => if s.lanes[l].st = .up then m + 2 ^ (l.val - 32) else m) 0

/-- Raise an event of a lane: SUB its class (R366). -/
def raiseLane (n : Nat) (l : Fin 48) (state : Nat) (s : State) : State :=
  raise n (objLane l.val) (evtArg state (if isStepped s.lanes[l] then s.link.cls else classOf s.lanes[l].rate) 0 0) s

/-- Raise a mate-link event: SUB the class, AUX the lane mask (R366). -/
def raiseLink (n : Nat) (s : State) : State := raise n (objLane 32) (evtArg 0 s.link.cls (linkMask s) 0) s

/-- Account the time spent in the present state (R306). -/
def Lane.account (x : Lane) (tick : Nat) : Lane :=
  let d := tick - x.mark
  let ei := x.txDir = .ei ∨ x.rxDir = .ei
  let sl := x.txDir = .sleep ∨ x.rxDir = .sleep
  { x with
    upTicks := if x.st = .up then x.upTicks + d else x.upTicks, eiTicks := if x.st = .up ∧ ei then x.eiTicks + d else x.eiTicks
    sleepTicks := if x.st = .up ∧ sl then x.sleepTicks + d else x.sleepTicks, mark := tick }

/-- A lane takes a state (R294): its directions are active again, and its slice hears of it (R192). -/
def laneTo (l : Fin 48) (st : LaneState) (s : State) : State :=
  laneChanged l.val (onLane l (fun x => { x.account s.dev.ticks with st := st, txDir := .active, rxDir := .active }) s)

/-- A lane enters TRAIN: parameters that waited take effect (R305). -/
def laneTrain (l : Fin 48) (s : State) : State :=
  let p1 := s.par.release .r305 (objLane l.val)
  laneTo l .train { s with par := if isStepped s.lanes[l] then p1.release .r305 objMate else p1 }

/-- A lane enters WAIT, and leaves it at once while LOS is clear (R294). An EXCLUDED lane stays down (R297). -/
def laneWait (l : Fin 48) (s : State) : State :=
  let x := s.lanes[l]
  if x.los || x.excluded then laneTo l .wait s
  else if x.mode = .anKr then laneTo l .an s
  else laneTrain l s

/-- A lane of a domain in RUN begins bring-up (R294): OFF to WAIT. The first lane of the mate link starts it at class 0. -/
def laneStart (l : Fin 48) (s : State) : State :=
  let s1 := if isStepped s.lanes[l] ∧ s.link.phase = .down then { s with link := { s.link with phase := .training, cls := 0, noSoak := false } } else s
  laneWait l (onLane l (fun x => { x with taps := x.preset, trained := false, pass := none, farTrained := false, farPass := false }) s1)

/-- An octet's domain is in RUN: its provisioned lanes start, and their commands complete (R358, R390). -/
def octetUp (o : Nat) (s : State) : State :=
  ((List.finRange 48).filter fun l => l.val / 8 == o).foldl (fun s l =>
    if s.lanes[l].provisioned ∧ s.lanes[l].st = .off then
      endTransition (.lane l.val) { status := stOk } (laneStart l s)
    else s) s

/-- An octet's domain leaves RUN: its lanes are OFF (R294). -/
def octetDown (o : Nat) (s : State) : State :=
  ((List.finRange 48).filter fun l => l.val / 8 == o).foldl (fun s l =>
    if s.lanes[l].provisioned then laneTo l .off s else s) s

/-- The rate-following bond that covers a lane, and the synthesiser it holds (R214). -/
def bondOfLane (s : State) (l : Nat) : Option (Fin 48) :=
  (List.finRange 48).find? fun b => s.bonds[b].provisioned && b.val ≤ l && l < b.val + s.bonds[b].k

/-- The synthesiser a lane takes at a rate (R289, R214): one that its rate-following bond holds, one of the octet at the same
rate, or an idle one; none when that needs a third rate or a synthesiser held alone. -/
def pickSynth (s : State) (l rate : Nat) : Option Nat :=
  let others (y : Nat) : List (Fin 48) := (List.finRange 48).filter fun k =>
    k.val / 8 == l / 8 && k.val != l && s.lanes[k].provisioned && s.lanes[k].synth == y
  let same (y : Nat) : Bool := (others y).all fun k => s.lanes[k].rate == rate
  let held (y : Nat) : Bool := (List.finRange 48).any fun b => b.val / 8 == l / 8 && s.bonds[b].synth == some y
  let own : Option Nat := (bondOfLane s l).bind fun b => s.bonds[b].synth
  match own with
  | some y => if same y then some y else none
  | none =>
    match [0, 1].find? fun y => !held y && same y && !(others y).isEmpty with
    | some y => some y
    | none => [0, 1].find? fun y => !held y && (others y).isEmpty

/-- TAPS of a request (R358). -/
def tapsOf (q : Request) : List Int := (List.range 5).map fun k => s8 q (12 + k)

/-- LANE.PROVISION (R288, R289, R291, R358, R390). -/
def laneProvision (q : Request) (s : State) : State × Reply :=
  let l := objIndex q
  let taps := tapsOf q
  if (s.lane l).provisioned ∨ stopHeld (2 + l / 8) s then (s, refuse stBadState)
  else if !(laneRates.any fun r => r.1 == u32 q 4) then (s, badParam 4)
  else if 3 < u8 q 8 ∨ (u8 q 8 = 3 ∧ l < 32) then (s, badParam 8)
  else if taps.getD 3 0 ≤ 0 ∨ 128 < (taps.map Int.natAbs).sum then (s, badParam 12)
  else match pickSynth s l (u32 q 4) with
    | none => (s, refuse stNoCapacity)
    | some y =>
      if h : l < 48 then
        let m : LaneMode := if u8 q 8 = 0 then .anKr else if u8 q 8 = 1 then .training else if u8 q 8 = 2 then .fixed else .stepped
        let s1 := onLane ⟨l, h⟩ (fun x => { x with
          provisioned := true, rate := u32 q 4, mode := m, preset := taps, taps := taps, synth := y, los := true, lol := false
          excluded := false, stored := [] }) (keepBody 0x0C01 q s)
        let s2 := requestDomain (2 + l / 8) .run (beginTransition (.lane l) 0x0C01 q s1)
        (if s2.dom (2 + l / 8) = .run then octetUp (l / 8) s2 else s2, .later)
      else (s, badParam 0)

def execLaneProvision (q : Request) (s : State) : Out := .next (deskRun 0x0C01 laneProvision q s)

/-- LANE.DEPROVISION (R294, R358): OFF, the counts kept; the mate link is down without lanes. -/
def laneDeprovision (q : Request) (s : State) : State × Reply :=
  let l := objIndex q
  if (bondOfLane s l).isSome then (s, refuse stBadState)
  else if h : l < 48 then
    let s1 := laneTo ⟨l, h⟩ .off (terminate (.lane l) s)
    let s2 := onLane ⟨l, h⟩ (fun x => { x with provisioned := false, loop := 0, loopNext := none, excluded := false, stored := [] })
      (dropBody 0x0C01 (objLane l) s1)
    (if (linkLanes s2).isEmpty then { s2 with link := {} } else s2, ok)
  else (s, badParam 0)

def execLaneDeprovision (q : Request) (s : State) : Out := .next (deskRun 0x0C02 laneDeprovision q s)

/-- LANE.SET (R305, R358): values wait for the next TRAIN while the lane is UP; rows 3 and 4 act on the whole link. -/
def laneSet (q : Request) (s : State) : State × Reply :=
  let l := objIndex q
  pCommand 0x0C03
    (fun rs s => (rs.find? fun r => r.row.scope == .mateLink && !isStepped (s.lane l)).map fun r => badParam r.off)
    (fun rs s => if (s.lane l).st = .up then waitRecs 0x0C03 q rs s else applyRecs 0x0C03 q rs s) q s

def execLaneSet (q : Request) (s : State) : Out := .next (deskRun 0x0C03 laneSet q s)

/-- What a lane has measured enters its counts (R301, R306), with LANE_TEST_ERR while a locked checker counts errors. -/
def laneSees (l : Fin 48) (w : LaneSeen) (s : State) : State :=
  let x := s.lanes[l]
  let on := x.chk != 0 && w.locked
  raiseIf (on && w.errs != 0) 264 (objLane l.val) (evtArg 0 (classOf x.rate) 0 0) (onLane l (fun x => { x with
    testBits := if on then satAdd x.testBits w.bits else x.testBits, testErrs := if on then satAdd x.testErrs w.errs else x.testErrs
    testSyms := if on && classOf x.rate != 0 then satAdd x.testSyms w.syms else x.testSyms, snr := w.snr, offset := w.offset }) s)

/-- The lane that a request names. -/
def reqLane (q : Request) : Fin 48 := ⟨objIndex q % 48, Nat.mod_lt _ (by decide)⟩

/-- The force rule of R301 and R302: a lane of a provisioned bond or of the mate link. -/
def laneNeedsForce (s : State) (l : Nat) : Bool := (bondOfLane s l).isSome || isStepped (s.lane l)

/-- A lane in EI or SLEEP is woken first (R303). -/
def laneWoken (l : Fin 48) (s : State) : State := onLane l (fun x => { x.account s.dev.ticks with txDir := .active }) s

/-- LANE.TEST.SET (R301, R359). -/
def laneTestSet (q : Request) (s : State) : State × Reply :=
  let l := objIndex q
  let x := s.lane l
  let pam (p : Nat) : Bool := 7 ≤ p && p ≤ 9 && x.provisioned && classOf x.rate == 0
  let fl := u8 q 7
  if 11 < u8 q 4 ∨ pam (u8 q 4) then (s, badParam 4)
  else if 11 < u8 q 5 ∨ pam (u8 q 5) then (s, badParam 5)
  else if u8 q 6 = 2 ∨ 12 < u8 q 6 then (s, badParam 6)
  else if laneNeedsForce s l ∧ !bit fl 1 then (s, refuse stBadState)
  else
    (onLane (reqLane q) (fun x => { x with
      gen := u8 q 4, chk := u8 q 5, inject := u8 q 6, injectLive := bit fl 0, user := u64 q 8
      testBits := if bit fl 2 then 0 else x.testBits, testErrs := if bit fl 2 then 0 else x.testErrs
      testSyms := if bit fl 2 then 0 else x.testSyms }) (laneWoken (reqLane q) (keepBody 0x0C04 q s)), ok)

/-- `seen` is what the lane's checker has counted up to the command (log 40). -/
def execLaneTestSet (q : Request) (seen : LaneSeen) (s : State) : Out :=
  .next (deskRun 0x0C04 laneTestSet q (laneSees (reqLane q) seen s))

/-- A synthesiser of a lane's octet that no other lane uses (R302). -/
def freeSynth (s : State) (l : Nat) : Option Nat :=
  [0, 1].find? fun y =>
    ((List.finRange 48).all fun k => k.val / 8 != l / 8 || k.val == l || !s.lanes[k].provisioned || s.lanes[k].synth != y)
    && (List.finRange 48).all fun b => b.val / 8 != l / 8 || s.bonds[b].synth != some y

/-- LANE.LOOPBACK.SET (R302, R303): in force once the lane relocks. -/
def laneLoopbackSet (q : Request) (s : State) : State × Reply :=
  let l := objIndex q
  let y := freeSynth s l
  if 3 < u8 q 4 then (s, badParam 4)
  else if 1 < u8 q 5 then (s, badParam 5)
  else if laneNeedsForce s l ∧ u8 q 5 = 0 then (s, refuse stBadState)
  else if u8 q 4 = 3 ∧ y.isNone then (s, refuse stNoCapacity)
  else
    (onLane (reqLane q) (fun x => { x with
      loopNext := some (u8 q 4), synth := if u8 q 4 = 3 then y.getD x.synth else x.synth }) (laneWoken (reqLane q) (keepBody 0x0C05 q s)), ok)

def execLaneLoopbackSet (q : Request) (s : State) : Out := .next (deskRun 0x0C05 laneLoopbackSet q s)

/-- LOOPBACK_RELOCK (R302). -/
def execLoopbackRelock (l : Fin 48) (s : State) : Out :=
  .next (onLane l (fun x => match x.loopNext with
    | some v => { x with loop := v, loopNext := none }
    | none => x) s)

/-- Every lane of the link begins a step at a class (R296): those not EXCLUDED train. -/
def linkStep (cls : Nat) (retrain : Bool) (s : State) : State :=
  let s1 := { s with link := { s.link with cls := cls, phase := .training, noSoak := retrain, decision := .none, count := 0 } }
  (linkLanes s1).foldl (fun s l =>
    let s2 := onLane l (fun x => { x with
      trained := false, pass := none, farTrained := false, farPass := false
      taps := if retrain then (lookupD x.preset cls x.stored) else if cls = 0 then x.preset else x.taps }) s
    if s.lanes[l].st = .off then s2 else laneWait l s2) s1

/-- The link restarts at 26.5625 Gb/s (R296, R297): no lane is EXCLUDED. -/
def linkRestart (s : State) : State :=
  linkStep 0 false ((linkLanes s).foldl (fun s l => onLane l (fun x => { x with excluded := false, stored := [] }) s)
    { s with link := { s.link with isUp := false } })

/-- LANE.MATE.RETRAIN (R297). -/
def laneMateRetrain (q : Request) (s : State) : State × Reply :=
  if !isStepped (s.lane (objIndex q)) then (s, refuse stBadState) else (linkRestart s, ok)

def execLaneMateRetrain (q : Request) (s : State) : Out := .next (deskRun 0x0C06 laneMateRetrain q s)

/-- Lanes of the link that take part in the step. -/
def stepLanes (s : State) : List (Fin 48) := (linkLanes s).filter fun l => !s.lanes[l].excluded

/-- A lane fails for good at the link's class: EXCLUDED, at common mode (R297). -/
def laneExclude (l : Fin 48) (s : State) : State := laneTo l .wait (onLane l (fun x => { x with excluded := true }) s)

/-- HOLD (R297): the lanes that passed enter UP, the others are EXCLUDED; the link is up. -/
def linkHold (ok_ : Lane → Bool) (s : State) : State :=
  let s1 := (stepLanes s).foldl (fun s l =>
    if ok_ s.lanes[l] then raiseLane 260 l 0 (laneTo l .up (onLane l (fun x => { x with stored := putKey s.link.cls x.taps x.stored }) s))
    else laneExclude l s) s
  let s2 := raiseLink 262 { s1 with link := { s1.link with phase := .up, isUp := true, noSoak := false } }
  if linkMask s2 = 0xFFFF then s2 else raiseLink 263 s2

/-- A lane of a step has trained once both ends say so (R296). -/
def Lane.complete (x : Lane) : Bool := x.trained && x.farTrained

/-- Every lane of the step has trained or failed (R296): the soak begins, or after DOWN the link is HOLD at its class. -/
def linkTrained (s : State) : State :=
  if s.link.phase = .training && !(stepLanes s).isEmpty && (stepLanes s).all (fun l => s.lanes[l].complete || s.lanes[l].pass == some false) then
    if s.link.noSoak then linkHold Lane.complete s else { s with link := { s.link with phase := .soak } }
  else s

/-- LANE_LOS_DECLARE (R294, R298, R299, R300, R303): masked in SLEEP; a lane of a step under way fails it. -/
def laneLos (l : Fin 48) (s : State) : State :=
  let x := s.lanes[l]
  if x.st = .off ∨ x.los ∨ x.rxDir = .sleep then s
  else
    let fail := isStepped x ∧ (s.link.phase = .training ∨ s.link.phase = .soak)
    let s1 := onLane l (fun x => { x with
      los := true, losCount := bump x.losCount, pass := if fail then some false else x.pass, trained := x.trained && !decide fail }) s
    linkTrained (laneTo l .wait (raiseLane 256 l 1 s1))

def execLaneLosDeclare (l : Fin 48) (s : State) : Out := .next (laneLos l s)

/-- LANE_LOS_CLEAR (R294, R300). -/
def laneLosClear (l : Fin 48) (s : State) : State :=
  let x := s.lanes[l]
  if x.st = .off ∨ !x.los then s
  else
    let s1 := raiseLane 256 l 0 (onLane l (fun x => { x with los := false }) s)
    if x.st = .wait then laneWait l s1 else s1

def execLaneLosClear (l : Fin 48) (s : State) : Out := .next (laneLosClear l s)

/-- LANE_LOL_DECLARE (R294, R297, R300): while UP; a lane of the link retrains alone from its stored taps. -/
def laneLol (l : Fin 48) (s : State) : State :=
  let x := s.lanes[l]
  if x.st ≠ .up then s
  else
    let s1 := raiseLane 257 l 1 (onLane l (fun x => { x with
      lol := true, lolCount := bump x.lolCount, trained := false, pass := none
      taps := if isStepped x then lookupD x.taps s.link.cls x.stored else x.taps }) s)
    if x.mode = .anKr then laneTo l .an s1 else laneTrain l s1

def execLaneLolDeclare (l : Fin 48) (s : State) : Out := .next (laneLol l s)

/-- AN_RESOLVED (R292, R294): the technologies that the partner advertises, as interface of R186 and lane count; the lane advertises the
one of its bond. -/
def anResolved (l : Fin 48) (techs : List (Nat × Nat)) (s : State) : State :=
  let own : Option (Nat × Nat) := (bondOfLane s l.val).map fun b => (s.bonds[b].iface, s.bonds[b].k)
  if s.lanes[l].st ≠ .an then s
  else if own.any techs.contains then laneTrain l s
  else raiseLane 258 l 0 (onLane l (fun x => { x with anFails := bump x.anFails }) s)

def execAnResolved (l : Fin 48) (techs : List (Nat × Nat)) (s : State) : Out := .next (anResolved l techs s)

/-- AN_TIMEOUT (R294). -/
def anTimeout (l : Fin 48) (s : State) : State :=
  if s.lanes[l].st ≠ .an then s
  else laneWait l (raiseLane 258 l 0 (onLane l (fun x => { x with anFails := bump x.anFails }) s))

def execAnTimeout (l : Fin 48) (s : State) : Out := .next (anTimeout l s)

/-- LANE_TRAINED (R294, R296, R297): training complete and lock held for 100 µs. -/
def laneTrained (l : Fin 48) (s : State) : State :=
  let x := s.lanes[l]
  if x.st ≠ .train then s
  else if isStepped x ∧ s.link.phase ≠ .up then
    if s.link.phase = .training ∧ x.pass.isNone then linkTrained (onLane l (fun x => { x with trained := true }) s) else s
  else
    let s1 := raiseLane 260 l 0 (laneTo l .up (onLane l (fun x => { x with lol := false, trained := isStepped x }) s))
    if x.lol then raiseLane 257 l 0 s1 else s1

def execLaneTrained (l : Fin 48) (s : State) : Out := .next (laneTrained l s)

/-- TRAINING_TIMEOUT (R294, R296, R297): in a step also of a lane without signal, which reports FAIL. -/
def trainingTimeout (l : Fin 48) (s : State) : State :=
  let x := s.lanes[l]
  let step := isStepped x && x.st == .wait && s.link.phase == .training && x.pass.isNone && !x.excluded
  if (x.st ≠ .train ∧ !step) ∨ (if isStepped x ∧ s.link.phase ≠ .up then x.complete else x.trained) then s
  else
    let s1 := raiseLane 259 l 0 (onLane l (fun x => { x with trainFails := bump x.trainFails }) s)
    if !isStepped x then laneWait l s1
    else if s.link.phase = .up then raiseLink 263 (laneExclude l s1)
    else linkTrained (onLane l (fun x => { x with pass := some false }) s1)

def execTrainingTimeout (l : Fin 48) (s : State) : Out := .next (trainingTimeout l s)

/-- A coefficient request on the taps (R293, R295); a step is 1/128, the limits those of R358 (log 40). -/
def Lane.coefficient (x : Lane) (tap op : Nat) : Lane :=
  let fits (ts : List Int) : Bool := decide (0 < ts.getD 3 0) && decide ((ts.map Int.natAbs).sum ≤ 128)
  let moved := x.taps.modify tap fun v => if op = 1 then v + 1 else if op = 2 then v - 1 else x.preset.getD tap v
  if op = 0 ∨ 4 < tap then { x with coefStatus := 0 }
  else if fits moved then { x with taps := moved, coefStatus := 1 }
  else { x with coefStatus := 2 }

/-- A decision's code (R295); restart is DOWN at class 0. -/
def decisionOf (c cls : Nat) : Decision := if c = 1 then .up else if c = 2 then .hold else if c = 3 then (if cls = 0 then .restart else .down) else .none

/-- Did a lane pass on both ends? -/
def Lane.passed (x : Lane) : Bool := x.pass == some true && x.farPass

/-- The master's decision, by the first rule that applies (R296). -/
def linkDecision (s : State) : Decision :=
  let n := ((stepLanes s).filter fun l => s.lanes[l].passed).length
  let cls := s.link.cls
  let higher := cls < 3 ∧ classRate (cls + 1) ≤ matePar s 0x30 ∧ bit s.link.farCaps (cls + 1)
  if matePar s 0x31 ≤ n then (if higher then .up else .hold) else if 0 < cls then .down else .restart

/-- CAPS that this end sends (R295): the classes up to the provisioned top class. -/
def ownCaps (s : State) : Nat := (List.range 4).foldl (fun m k => if classRate k ≤ matePar s 0x30 then m + 2 ^ k else m) 0

/-- The control field that a lane sends (R295). COEF_REQ's tap and request are its receiver's own, which the spec leaves to the
adaptation: free. The master counts its decision down. -/
def mateFrameOut (s : State) (l : Fin 48) : List Byte :=
  let x := s.lanes[l]
  let d := if s.link.master ∧ s.link.phase = .decision then (match linkDecision s with
    | .up => 1 | .hold => 2 | .down => 3 | .restart => 3 | .none => 0) else 0
  let b := beBytes 4 0x3C5AA5C3 ++ beBytes 1 (l.val - 32) ++ beBytes 1 s.link.cls ++ beBytes 1 (ownCaps s)
    ++ beBytes 1 ((match x.pass with | none => 0 | some true => 64 | some false => 128) + 32 * b2n x.trained)
    ++ beBytes 2 ((s.freeVal 6).toNat * 1024 + 256 * x.coefStatus) ++ beBytes 1 d ++ beBytes 1 (if d = 0 then 0 else s.link.count)
    ++ beBytes 8 Config.serial.toNat
  b ++ beBytes 2 (crc16 b)

/-- A frame goes out on a lane; the frames of the lowest lane count the master's decision down to 1 (R295). -/
def sendMateFrame (l : Fin 48) (s : State) : State :=
  let s1 := onLane l (fun x => { x with frame := mateFrameOut s l }) s.drawn
  if s.link.master ∧ s.link.phase = .decision ∧ (stepLanes s).head? = some l
    then { s1 with link := { s1.link with count := max 1 (s1.link.count - 1) } } else s1

/-- MATE_TRAINING_FRAME (R295, R296): the 22-byte field received on a lane, while one is sent; a bad CRC or MARKER discards it. -/
def mateFrame (l : Fin 48) (fr : List Byte) (s : State) : State :=
  let x := s.lanes[l]
  let good := beAt fr 0 4 == 0x3C5AA5C3 && crc16 (bytesAt fr 0 20) == beAt fr 20 2
  if !isStepped x ∨ x.st ≠ .train then s
  else if !good then sendMateFrame l s
  else
    let master := decide (beAt fr 12 8 < Config.serial.toNat)
    let s1 := onLane l (fun x => ({ x with farPass := field (byteAt fr 7) 6 2 == 1, farTrained := bit (byteAt fr 7) 5 } : Lane).coefficient (field (beAt fr 8 2) 12 4) (field (beAt fr 8 2) 10 2)) s
    sendMateFrame l <| linkTrained { s1 with link := { s1.link with
        farCaps := byteAt fr 6 % 16, master := master
        decision := if master then s1.link.decision else decisionOf (byteAt fr 10) s1.link.cls
        count := if master then s1.link.count else byteAt fr 11 } }

def execMateTrainingFrame (l : Fin 48) (fr : List Byte) (s : State) : Out := .next (mateFrame l fr s)

/-- Is a bit-error ratio at most the step limit 10^(-lim/100) (R296, R334)? -/
def berOk (lim bits errs : Nat) : Bool := decide (errs ^ 100 * 10 ^ lim ≤ bits ^ 100)

/-- SOAK_END (R296): the bits checked over the soak and the errors among them, by lane of the link. A trained lane passes when its
bit-error ratio was at most the step limit; the master's decision goes out for 64 frames. -/
def soakEnd (ms : List (Nat × Nat)) (s : State) : State :=
  if s.link.phase ≠ .soak then s
  else
    let lim := matePar s 0x41
    (stepLanes s).foldl (fun s l =>
      let m := ms.getD (l.val - 32) (0, 1)
      let good (x : Lane) : Bool := x.complete && x.pass != some false && berOk lim m.1 m.2
      onLane l (fun x => { x with
        pass := some (good x), stored := if good x then putKey s.link.cls x.taps x.stored else x.stored }) s)
      { s with link := { s.link with phase := .decision, count := if s.link.master then 64 else s.link.count } }

def execSoakEnd (ms : List (Nat × Nat)) (s : State) : Out := .next (soakEnd ms s)

/-- MATE_DECISION_APPLY (R296, R297): at the end of the 64th frame; the master's own decision, the other end's received one. -/
def mateDecision (s : State) : State :=
  if s.link.phase ≠ .decision then s
  else
    let quiet (s : State) : State := (stepLanes s).foldl (fun s l => laneTo l .wait s) { s with link := { s.link with phase := .quiet } }
    match (if s.link.master then linkDecision s else s.link.decision) with
    | .none => s
    | .up =>
      let s1 := (stepLanes s).foldl (fun s l => if s.lanes[l].passed then s else laneExclude l s) s
      quiet { s1 with link := { s1.link with cls := s1.link.cls + 1, noSoak := false } }
    | .hold => linkHold Lane.passed s
    | .down =>
      let cls := s.link.cls - 1
      let s1 := (linkLanes s).foldl (fun s l => onLane l (fun x => { x with excluded := !(x.stored.any fun y => y.1 == cls) }) s) s
      quiet { s1 with link := { s1.link with cls := cls, noSoak := true } }
    | .restart => quiet { s with link := { s.link with cls := 0, noSoak := false } }

/-- MATE_QUIET_END (R296): frames at the new class. -/
def mateQuietEnd (s : State) : State := if s.link.phase = .quiet then linkStep s.link.cls s.link.noSoak s else s

def execMateQuietEnd (s : State) : Out := .next (mateQuietEnd s)

/-- May a lane's directions enter low power (R298)? -/
def idleAllowed (s : State) (l : Fin 48) : Bool := isStepped s.lanes[l] && s.lanes[l].st == .up && lanePar s l.val 0x50 == 1

/-- A direction of a lane that may take low power moves; the time so far is accounted. -/
def onDir (l : Fin 48) (f : Lane → Lane) (s : State) : State := onLane l (fun x => f (x.account s.dev.ticks)) s

/-- IDLE_ENTRY (R298): ACTIVE to EI. -/
def execIdleEntry (l : Fin 48) (s : State) : Out :=
  .next (if idleAllowed s l && s.lanes[l].txDir == .active then onDir l (fun x => { x with txDir := .ei, eiEntries := bump x.eiEntries }) s else s)

/-- KEEPALIVE_DUE (R298): a burst of 4,096 symbols; the direction stays in EI. -/
def execKeepaliveDue (l : Fin 48) (s : State) : Out := .next (if s.lanes[l].txDir = .ei then onDir l id s else s)

/-- SLEEP_DELAY_END (R298): EI to SLEEP, driver off. -/
def execSleepDelayEnd (l : Fin 48) (s : State) : Out :=
  .next (if s.lanes[l].st = .up ∧ s.lanes[l].txDir = .ei then onDir l (fun x => { x with txDir := .sleep, sleepEntries := bump x.sleepEntries }) s else s)

/-- LANE_DATA_TO_SEND (R298, R303): the direction leaves EI or SLEEP. -/
def execLaneDataToSend (l : Fin 48) (s : State) : Out := .next (onDir l (fun x => { x with txDir := .active }) s)

/-- LANE_RX_IDLE_MARKER (R298, R299): the receive direction follows the markers. -/
def execLaneRxIdleMarker (l : Fin 48) (m : IdleMark) (s : State) : Out :=
  .next (if isStepped s.lanes[l] && s.lanes[l].st == .up then onDir l (fun x => match m with
    | .idle => { x with rxDir := .ei }
    | .sleep => { x with rxDir := .sleep }
    | .keepAlive => x) s else s)

/-- EXIT_BURST_END (R299): the receiver delivers data, or fails its exit and wakes as from SLEEP. -/
def exitBurst (l : Fin 48) (locked : Bool) (s : State) : State :=
  if s.lanes[l].rxDir ≠ .ei then s
  else if locked then onDir l (fun x => { x with rxDir := .active }) s
  else raiseLane 261 l 0 (onDir l (fun x => { x with rxDir := .sleep, exitFails := bump x.exitFails }) s)

def execExitBurstEnd (l : Fin 48) (locked : Bool) (s : State) : Out := .next (exitBurst l locked s)

/-- LANE_WAKE_RELOCK (R299): the direction resumes. -/
def execLaneWakeRelock (l : Fin 48) (s : State) : Out :=
  .next (if s.lanes[l].rxDir = .sleep then onDir l (fun x => { x with rxDir := .active }) s else s)

/-- WAKE_TIME_END (R299): not locked by the end of the wake time, the lane goes to TRAIN. -/
def execWakeTimeEnd (l : Fin 48) (s : State) : Out :=
  .next (if s.lanes[l].st = .up ∧ s.lanes[l].rxDir = .sleep then laneTrain l (onLane l (fun x => { x with trained := false, pass := none }) s) else s)

/-- Codes of a lane's state and of a direction (R337 over R294, R298). -/
def LaneState.code : LaneState → Nat
  | .off => 0 | .wait => 1 | .an => 2 | .train => 3 | .up => 4
def LaneDir.code : LaneDir → Nat
  | .active => 0 | .ei => 1 | .sleep => 2

/-- System ticks in ms. -/
def ticksMs (t : Nat) : Nat := t / 625000

/-- LANE.STATUS (R306). -/
def laneItems (q : Request) (s : State) : List StatItem :=
  let x := (s.lane (objIndex q)).account s.dev.ticks
  [gau 1 0 x.st.code, gau 1 1 x.txDir.code 0, gau 1 1 x.rxDir.code 1, gau 1 2 s.link.cls, gau 1 3 (linkMask s)]
    ++ ((List.range 5).map fun k => sgau 2 0 (x.taps.getD k 0) k) ++ [sgau 2 1 x.snr, sgau 3 0 x.offset]
    ++ [ctr 4 0 x.losCount, ctr 4 1 x.lolCount, ctr 4 2 x.anFails, ctr 4 3 x.trainFails, ctr 5 0 x.eiEntries, ctr 5 1 x.sleepEntries,
        ctr 5 2 x.exitFails, ctr 6 0 x.testBits, ctr 6 1 x.testErrs, ctr 6 2 x.testSyms, ctr 7 0 (ticksMs x.upTicks),
        ctr 7 1 (ticksMs x.eiTicks), ctr 7 2 (ticksMs x.sleepTicks)]

/-- `seen` is what the lane has measured up to the command (log 40). -/
def execLaneStatus (q : Request) (seen : LaneSeen) (s : State) : Out :=
  .next (deskRun 0x0C07 (sCommand laneItems) q (laneSees (reqLane q) seen s))

end Sys2Proof.Machine
end

