-- ==== Sys2Proof/Machine/TxLoad.lean ====
section
/-! DEFINITION. Bit loading and transmit DSP: required-SNR curves, allocation, the loading exchange, and the transmit commands
(04_transmit_bitloading.md R82 to R104; 14_command_reference.md R344, R345). -/

namespace Sys2Proof.Machine

/-- The default required-SNR curves in 0.01 dB, 10·log10(2^(f·H) − 1) + 1.5 dB rounded to the nearest, f = 0.826, 0.873 and
0.920 for LDPC rate 0.80, 0.85 and 0.90 (R87; rounding: log 28). -/
def curve80 : List Int :=
  [38, 73, 106, 138, 169, 199, 228, 256, 284, 310, 336, 362, 386, 411, 435, 458, 481, 504, 526, 548, 569]
    ++ [591, 612, 632, 653, 673, 693, 713, 733, 753, 772, 791, 810, 829, 848, 866, 885, 903, 921, 939, 957, 975]
    ++ [993, 1011, 1028, 1046, 1064, 1081, 1098, 1115, 1133, 1150, 1167, 1184, 1201, 1218, 1235, 1251, 1268, 1285, 1301, 1318, 1335]
    ++ [1351, 1368, 1384, 1401, 1417, 1433, 1450, 1466, 1482, 1499, 1515, 1531, 1547, 1563, 1579, 1596, 1612, 1628, 1644, 1660, 1676]
    ++ [1692, 1708, 1724, 1740, 1756, 1772, 1787, 1803, 1819, 1835, 1851, 1867, 1883, 1898, 1914, 1930, 1946, 1962, 1977, 1993, 2009]
def curve85 : List Int :=
  [70, 105, 139, 172, 203, 234, 263, 292, 320, 347, 374, 400, 425, 450, 474, 498, 522, 545, 568, 590, 613]
    ++ [635, 656, 678, 699, 720, 741, 761, 782, 802, 822, 842, 861, 881, 900, 919, 939, 958, 977, 995, 1014, 1033]
    ++ [1051, 1070, 1088, 1106, 1125, 1143, 1161, 1179, 1197, 1215, 1232, 1250, 1268, 1285, 1303, 1321, 1338, 1356, 1373, 1390, 1408]
    ++ [1425, 1442, 1460, 1477, 1494, 1511, 1528, 1545, 1562, 1580, 1597, 1614, 1631, 1647, 1664, 1681, 1698, 1715, 1732, 1749, 1766]
    ++ [1782, 1799, 1816, 1833, 1850, 1866, 1883, 1900, 1917, 1933, 1950, 1967, 1983, 2000, 2017, 2033, 2050, 2066, 2083, 2100, 2116]
def curve90 : List Int :=
  [100, 136, 171, 204, 236, 267, 297, 326, 355, 383, 410, 436, 462, 488, 513, 537, 562, 585, 609, 632, 655]
    ++ [678, 700, 722, 744, 765, 787, 808, 829, 850, 871, 891, 911, 932, 952, 972, 992, 1011, 1031, 1051, 1070, 1089]
    ++ [1109, 1128, 1147, 1166, 1185, 1204, 1223, 1241, 1260, 1279, 1297, 1316, 1334, 1353, 1371, 1389, 1408, 1426, 1444, 1462, 1480]
    ++ [1498, 1516, 1534, 1552, 1570, 1588, 1606, 1624, 1642, 1660, 1678, 1696, 1713, 1731, 1749, 1767, 1784, 1802, 1820, 1837, 1855]
    ++ [1873, 1890, 1908, 1926, 1943, 1961, 1978, 1996, 2013, 2031, 2049, 2066, 2084, 2101, 2119, 2136, 2154, 2171, 2189, 2206, 2223]

/-- What the better polarisation adds to the worse one (R88): 10·log10(2 / (1 + 10^(−d/10))) for a difference of d dB, rounded to
0.01 dB (rounding: log 28). The n-th number is the least difference, in 0.01 dB, that adds n + 1 hundredths. -/
def betterPol : List Nat :=
  [2, 4, 6, 8, 10, 12, 14, 16, 18, 20, 22, 24, 26, 28, 30, 32]
    ++ [34, 36, 38, 40, 43, 45, 47, 49, 51, 53, 55, 57, 60, 62, 64, 66]
    ++ [68, 70, 72, 75, 77, 79, 81, 83, 86, 88, 90, 92, 95, 97, 99, 101]
    ++ [104, 106, 108, 110, 113, 115, 117, 120, 122, 124, 127, 129, 131, 134, 136, 138]
    ++ [141, 143, 146, 148, 150, 153, 155, 158, 160, 163, 165, 167, 170, 172, 175, 177]
    ++ [180, 182, 185, 187, 190, 193, 195, 198, 200, 203, 205, 208, 211, 213, 216, 219]
    ++ [221, 224, 227, 229, 232, 235, 237, 240, 243, 246, 248, 251, 254, 257, 260, 262]
    ++ [265, 268, 271, 274, 277, 280, 282, 285, 288, 291, 294, 297, 300, 303, 306, 309]
    ++ [312, 315, 318, 322, 325, 328, 331, 334, 337, 340, 344, 347, 350, 353, 356, 360]
    ++ [363, 366, 370, 373, 376, 380, 383, 387, 390, 394, 397, 401, 404, 408, 411, 415]
    ++ [418, 422, 426, 429, 433, 437, 440, 444, 448, 452, 456, 460, 463, 467, 471, 475]
    ++ [479, 483, 487, 491, 496, 500, 504, 508, 512, 517, 521, 525, 530, 534, 538, 543]
    ++ [547, 552, 556, 561, 566, 570, 575, 580, 585, 590, 595, 599, 604, 610, 615, 620]
    ++ [625, 630, 635, 641, 646, 652, 657, 663, 668, 674, 680, 686, 691, 697, 703, 709]
    ++ [716, 722, 728, 735, 741, 748, 754, 761, 768, 775, 782, 789, 796, 803, 811, 818]
    ++ [826, 833, 841, 849, 857, 866, 874, 883, 891, 900, 909, 918, 928, 937, 947, 957]
    ++ [967, 978, 988, 999, 1010, 1021, 1033, 1045, 1057, 1070, 1083, 1096, 1110, 1124, 1138, 1153]
    ++ [1169, 1185, 1201, 1218, 1236, 1255, 1274, 1294, 1316, 1338, 1361, 1386, 1412, 1439, 1469, 1500]
    ++ [1534, 1571, 1611, 1654, 1703, 1758, 1820, 1893, 1980, 2089, 2234, 2453, 2914]

/-- The curve in force of a carrier for an LDPC rate, and for its own (R87). -/
def curveAt (s : State) (c : Fin 2) (r : Nat) : List Int :=
  match (s.txc c).curves.find? fun x => x.1 == r with
  | some x => x.2
  | none => if r = 0 then curve80 else if r = 1 then curve85 else curve90
def curveOf (s : State) (c : Fin 2) : List Int := curveAt s c (s.car c).ldpcRate

/-- The effective SNR of two polarisations in 0.01 dB (R88). -/
def snrEff (x y : Int) : Int := min x y + ((betterPol.filter fun d => d ≤ (x - y).natAbs).length : Int)

/-- The effective SNR of each subcarrier. -/
def effOf (snr : List Int) : List Int := (List.range 16).map fun k => snrEff (snr.getD (2 * k) 0) (snr.getD (2 * k + 1) 0)

/-- The loading target of a group (R86). -/
def targetOf (s : State) (c : Fin 2) (g : Nat) : Nat :=
  let t := (s.car c).targets.getD g 0
  if t = 0 then 1705 * (groupSubs s c g).length / 16 else t

/-- The format chosen for an entropy code (R82), and whether a format accepts it. -/
def autoFormat (e : Nat) : Nat := if e ≤ 16 then 0 else if e ≤ 40 then 1 else if e ≤ 68 then 2 else 3
def formatOk (f e : Nat) : Bool :=
  if f = 0 then e ≤ 16 else if f = 1 then 17 ≤ e && e ≤ 48 else if f = 2 then 32 ≤ e && e ≤ 80 else 48 ≤ e && e ≤ 104

/-- A table entry (R85): FORMAT, E, OUT. -/
def entryOf (f e : Nat) : Nat := f * 16384 + e * 128
def entryE (w : Nat) : Nat := w / 128 % 128

/-- One step of the allocation (R89): the subcarrier whose next 1/16 bit leaves the largest margin, the lowest on a tie. -/
def bestSub (req eff : List Int) (e : List Nat) (ks : List Nat) : Option (Nat × Int) :=
  ks.foldl (fun best k =>
    if e.getD k 0 = 104 then best
    else
      let m := eff.getD k 0 - req.getD (e.getD k 0 + 1) 0
      match best with
      | none => some (k, m)
      | some (_, bm) => if bm < m then some (k, m) else best) none

/-- The allocation of `left` sixteenths above H = 1.0 (R89). -/
def allocate (req eff : List Int) (ks : List Nat) : Nat → List Nat → List Nat
  | 0, e => e
  | left + 1, e =>
    match bestSub req eff e ks with
    | some (k, _) => allocate req eff ks left (e.modify k (· + 1))
    | none => e

/-- The table of a group for an effective SNR of each subcarrier (R85, R89): subcarriers outside the group are OUT. -/
def candidateTable (s : State) (c : Fin 2) (g : Nat) (eff : List Int) : List Nat :=
  let ks := groupSubs s c g
  let e := allocate (curveOf s c) eff ks (targetOf s c g - 16 * ks.length) (List.replicate 16 0)
  (List.range 16).map fun k => if ks.contains k then entryOf (autoFormat (e.getD k 0)) (e.getD k 0) else 1

/-- The start table (R91). -/
def startTable (s : State) (c : Fin 2) (g : Nat) : List Nat := candidateTable s c g (List.replicate 16 0)

/-- Margin of each subcarrier, and of a table, in 0.01 dB (R88). -/
def subMargin (s : State) (c : Fin 2) (tab : List Nat) (eff : List Int) (k : Nat) : Int :=
  eff.getD k 0 - (curveOf s c).getD (entryE (tab.getD k 0)) 0
def tableMargin (s : State) (c : Fin 2) (g : Nat) (tab : List Nat) (eff : List Int) : Int :=
  match (groupSubs s c g).map (subMargin s c tab eff) with
  | [] => 0
  | m :: r => r.foldl min m

/-- The margin in force (R88, R104). -/
def marginNow (s : State) (c : Fin 2) (g : Fin 16) : Int :=
  tableMargin s c g.val (s.txg c g).tableCur (effOf (s.txg c g).snr)

/-- A loading parameter of a group (R103). -/
def loadPar (s : State) (c : Fin 2) (g : Fin 16) (pid : Nat) : Int := getPar s .r103 (objGroup c g) pid

/-- The next TID (R94): 1 to 254 in turn, skipping TID_CUR. -/
def TxGroup.nextTid (x : TxGroup) : Nat :=
  let n := if 254 ≤ x.lastTid then 1 else x.lastTid + 1
  if n = x.tidCur then (if 254 ≤ n then 1 else n + 1) else n

/-- Propose a table (R94): from STEADY, or in place of the table proposed. During ARMED a proposal waits until STEADY: AUTO's
table in `want`, a manual one as the manual table. -/
def TxGroup.propose (x : TxGroup) (tab : List Nat) : TxGroup :=
  match x.st with
  | .steady | .proposed => { x with st := .proposed, tidNext := x.nextTid, lastTid := x.nextTid, tableNext := tab }
  | .armed => x
  | .off => x

/-- Propose the candidate of AUTO, unless it is the table proposed already (R90, R94). -/
def TxGroup.proposeAuto (x : TxGroup) (tab : List Nat) : TxGroup :=
  if x.st = .proposed ∧ x.tableNext = tab then x
  else if x.st = .armed then { x with want := some tab }
  else x.propose tab

/-- Raise a loading event of a group (R366). -/
def raiseLoad (n : Nat) (c : Fin 2) (g : Fin 16) (aux : Nat) (s : State) : State := raise n (objGroup c g) (evtArg 0 0 aux 0) s

/-- The margin check under AUTO (R90): BITLOAD_MARGIN_LOW (65) below the floor, again only after the margin rose above it. -/
def marginCheck (c : Fin 2) (g : Fin 16) (s : State) : State :=
  let m := marginNow s c g
  let low := loadPar s c g 0x20 == 0 && (s.txg c g).rptSeq.isSome && decide (m < loadPar s c g 0x30)
  raiseIf (low && !(s.txg c g).marginLow) 65 (objGroup c g) (evtArg 0 0 0 0) (onTxg c g (fun x => { x with
    marginLow := if low then true else if loadPar s c g 0x30 < m then false else x.marginLow }) s)

/-- The first entry of a manual table that R82 or R85 does not accept. -/
def badEntry (s : State) (c : Fin 2) (g : Nat) (tab : List Nat) : Option Nat :=
  (List.range 16).find? fun k =>
    let w := tab.getD k 0
    if (groupSubs s c g).contains k then bit w 0 || field w 1 6 != 0 || 104 < entryE w || !formatOk (w / 16384) (entryE w)
    else w != 1

/-- Does a manual table fit its group: entries that R82 accepts, and the sum T (R86, R90)? -/
def tableFits (s : State) (c : Fin 2) (g : Nat) (tab : List Nat) : Bool :=
  (badEntry s c g tab).isNone && ((groupSubs s c g).map fun k => 16 + entryE (tab.getD k 0)).sum == targetOf s c g

/-- Curves that wait take effect once no group of the carrier has a proposal outstanding (R103). -/
def releaseCurves (c : Fin 2) (s : State) : State :=
  onTx c (fun t =>
    if t.groups.toList.any fun x => x.st == .proposed || x.st == .armed then t
    else { t with curves := t.curvesNext.foldl (fun l v => putKey v.1 v.2 l) t.curves, curvesNext := [] }) s

/-- Entry to STEADY (R94, R103): waiting values apply. Then the policy in force proposes again (R90): AUTO the table that waited,
MANUAL its table when that is not in force (after a withdrawal too: log 29), HOLD nothing. -/
def enterSteady (c : Fin 2) (g : Fin 16) (s : State) : State :=
  let want := (s.txg c g).want
  let s1 := releaseCurves c (onTxg c g (fun x => { x with
    st := .steady, tidNext := 0, tableNext := List.replicate 16 0, countdown := 0, want := none })
    { s with par := s.par.release .r103 (objGroup c g) })
  let pol := loadPar s1 c g 0x20
  let next := if pol = 0 then want
    else if pol = 1 then (s1.txg c g).manual.filter fun t => t != (s1.txg c g).tableCur && tableFits s1 c g.val t
    else none
  match next with
  | some t => onTxg c g (fun x => x.propose t) s1
  | none => s1

/-- The groups of an enabled carrier start under the start table (R91, R94). -/
def loadStart (c : Fin 2) (s : State) : State :=
  (groupsOf s c).foldl (fun s g => enterSteady c g (onTxg c g (fun x => { x with
    st := .steady, tidCur := 0, tableCur := startTable s c g.val, lastTid := 0, rptSeq := none, candidate := none
    reports := 0, sums := List.replicate 32 0, neverOk := List.replicate 32 true, marginLow := false
    rxTid := 0, rxEpoch := none, rxNext := none, rxPend := none, ackTid := 0, mismatch := 0, outEpoch := none }) s)) s

/-- The carrier is disabled (R94, row "Any"): learned tables are discarded. -/
def loadStop (c : Fin 2) (s : State) : State :=
  onTx c (fun t => { t with groups := t.groups.map fun x => { x with
    st := .off, tidCur := 0, tidNext := 0, lastTid := 0, countdown := 0, tableCur := List.replicate 16 0
    tableNext := List.replicate 16 0, want := none, candidate := none, rxEpoch := none, rxNext := none, rxPend := none, rptSeq := none } }) s
    |> releaseCurves c

/-- The SNR that a report's value gives, 0.01 dB (R92). -/
def rptSnr (v : Nat) : Int := 25 * v - 1000

/-- An accepted report (R88): valid entries replace the SNR used, 0xFF keeps it; the interval's sums advance. -/
def TxGroup.accept (x : TxGroup) (seq : Nat) (rpt : List Nat) : TxGroup :=
  let snr := (List.range 32).map fun i => if rpt.getD i 0xFF ≤ 200 then rptSnr (rpt.getD i 0) else x.snr.getD i 0
  { x with
    report := rpt, rptSeq := some seq, snr := snr, reports := x.reports + 1
    sums := (List.range 32).map fun i => x.sums.getD i 0 + snr.getD i 0
    neverOk := (List.range 32).map fun i => x.neverOk.getD i true && 200 < rpt.getD i 0xFF }

/-- The far end's report in a good loading field (R88, R90): used when new, valid and taken under the table in force; under
AUTO a margin below the floor starts a candidate. -/
def useReport (c : Fin 2) (g : Fin 16) (bs : List Byte) (s : State) : State :=
  let x := s.txg c g
  let seq := byteAt bs 6
  if bit (byteAt bs 0) 5 && byteAt bs 7 == x.tidCur && x.rptSeq != some seq && x.st != .off then
    let s1 := marginCheck c g (onTxg c g (fun x => x.accept seq ((bytesAt bs 72 32).map (·.toNat))) s)
    if loadPar s1 c g 0x20 = 0 ∧ marginNow s1 c g < loadPar s1 c g 0x30 then
      onTxg c g (fun x => { x with candidate := some (effOf x.snr) }) s1
    else s1
  else s

/-- Table entries in a loading field, most significant byte first (R85, R92). -/
def fieldTable (bs : List Byte) (off : Nat) : List Nat := (List.range 16).map fun k => beAt bs (off + 2 * k) 2

/-- The receive side of a good loading field (R95); what is announced while the group is not in TRACK is not applied (R74). A
resynchronisation applies from the next folio, and ends a schedule that the field does not confirm. -/
def rxLoading (c : Fin 2) (g : Fin 16) (bs : List Byte) (s : State) : State :=
  let x := s.txg c g
  let track := (s.rxg c g).st = .track
  let fresh := track ∧ x.rxEpoch ≠ some (s.rxg c g).epoch
  let other := track ∧ !decide fresh ∧ byteAt bs 1 ≠ x.rxTid
  let resync := other ∧ 1 ≤ x.mismatch
  let armed := track ∧ bit (byteAt bs 0) 6
  raiseIf (decide resync) 67 (objGroup c g) (evtArg 0 0 0 0) (onTxg c g (fun x => { x with
    rxTid := if fresh then byteAt bs 1 else x.rxTid
    rxTable := if fresh then fieldTable bs 8 else x.rxTable
    rxPend := if resync then some (byteAt bs 1, fieldTable bs 8) else if fresh then none else x.rxPend
    rxEpoch := if fresh then some (s.rxg c g).epoch else x.rxEpoch
    outChanged := x.outChanged || decide fresh
    mismatch := if fresh ∨ resync then 0 else if other then x.mismatch + 1 else 0
    resyncs := if resync then bump x.resyncs else x.resyncs
    rxNext := if armed then some (fieldTable bs 40) else if fresh ∨ resync then none else x.rxNext
    rxNextTid := if armed then byteAt bs 2 else x.rxNextTid
    rxCount := if armed then byteAt bs 3 else x.rxCount
    ackTid := if byteAt bs 2 = 0 then x.ackTid else byteAt bs 2 }) s)

/-- The far end acknowledges the proposal (R94). -/
def ackLoading (c : Fin 2) (g : Fin 16) (ack : Nat) (s : State) : State :=
  onTxg c g (fun x => if x.st = .proposed ∧ ack = x.tidNext then
    { x with st := .armed, countdown := (loadPar s c g 0x60).toNat } else x) s

/-- LOADING_FIELD_RECEIVED (R88, R93 to R95): the 112 bytes of a received loading field. -/
def loadingField (c : Fin 2) (g : Fin 16) (bs : List Byte) (s : State) : State :=
  let b := padTo 112 bs
  if crc16 (b.take 110) ≠ beAt b 110 2 then onTxg c g (fun x => { x with lfCrc := bump x.lfCrc }) s
  else ackLoading c g (byteAt b 4) (useReport c g b (rxLoading c g b s))

def execLoadingFieldReceived (c : Fin 2) (g : Fin 16) (bs : List Byte) (s : State) : Out :=
  .next (loadingField c g (ohField 16 (padTo 112 bs)) s)

/-- LOADING_CANDIDATE_READY (R89, R90): under AUTO the candidate is proposed when its margin exceeds the margin in force. -/
def candidateReady (c : Fin 2) (g : Fin 16) (s : State) : State :=
  match (s.txg c g).candidate with
  | none => s
  | some eff =>
    let tab := candidateTable s c g.val eff
    let good := loadPar s c g 0x20 = 0 ∧ marginNow s c g < tableMargin s c g.val tab eff
    onTxg c g (fun x => let y := { x with candidate := none }; if good then y.proposeAuto tab else y) s

def execLoadingCandidateReady (c : Fin 2) (g : Fin 16) (s : State) : Out := .next (candidateReady c g s)

/-- LOADING_INTERVAL_END (R88, R90): an entry never valid in the interval counts as −10 dB from here, which may lower the margin
in force; the candidate is computed from the means over the interval. -/
def loadingIntervalEnd (c : Fin 2) (g : Fin 16) (s : State) : State :=
  let x := s.txg c g
  let dead (i : Nat) : Bool := x.neverOk.getD i true
  let eff := effOf ((List.range 32).map fun i => if dead i then -1000 else divRound (x.sums.getD i 0) x.reports)
  let s1 := onTxg c g (fun x => { x with
    sums := List.replicate 32 0, reports := 0, neverOk := List.replicate 32 true
    snr := if x.reports = 0 then x.snr else (List.range 32).map fun i => if dead i then -1000 else x.snr.getD i 0 }) s
  if x.reports = 0 ∨ x.st = .off then s1
  else
    let s2 := marginCheck c g s1
    let better := marginNow s2 c g + loadPar s c g 0x40 ≤ tableMargin s c g.val (candidateTable s c g.val eff) eff
    if loadPar s c g 0x20 = 0 ∧ better then onTxg c g (fun x => { x with candidate := some eff }) s2 else s2

def execLoadingIntervalEnd (c : Fin 2) (g : Fin 16) (s : State) : Out := .next (loadingIntervalEnd c g s)

/-- PROPOSAL_TIMEOUT (R94). -/
def proposalTimeout (c : Fin 2) (g : Fin 16) (s : State) : State :=
  if (s.txg c g).st = .proposed then
    enterSteady c g (raiseLoad 66 c g 0 (onTxg c g (fun x => { x with withdrawn := bump x.withdrawn }) s))
  else s

def execProposalTimeout (c : Fin 2) (g : Fin 16) (s : State) : Out := .next (proposalTimeout c g s)

/-- A transmit folio boundary's part in the loading exchange (R94): the countdown, and the switch at 0. -/
def loadBoundary (c : Fin 2) (g : Fin 16) (s : State) : State :=
  let x := s.txg c g
  if x.st = .armed then
    if x.countdown ≤ 1 then
      let s1 := raiseLoad 64 c g x.tidNext (onTxg c g (fun x => { x with
        tableCur := x.tableNext, tidCur := x.tidNext, changes := bump x.changes }) s)
      marginCheck c g (enterSteady c g s1)
    else onTxg c g (fun x => { x with countdown := x.countdown - 1 }) s
  else s

/-- The demapper takes a table (R95). -/
def TxGroup.demap (x : TxGroup) (tid : Nat) (tab : List Nat) : TxGroup :=
  { x with rxTid := tid, rxTable := tab, outChanged := true, mismatch := 0 }

/-- A received folio boundary's part (R95): a resynchronisation and the scheduled table take effect at their folio. -/
def rxLoadBoundary (c : Fin 2) (g : Fin 16) (s : State) : State :=
  onTxg c g (fun x =>
    let y := match x.rxPend with
      | some p => { x.demap p.1 p.2 with rxPend := none }
      | none => x
    match y.rxNext with
    | some t => if y.rxCount ≤ 1 then { y.demap y.rxNextTid t with rxNext := none, rxCount := 0 } else { y with rxCount := y.rxCount - 1 }
    | none => y) s

/-- SNR of a subcarrier as the report codes it (R92). -/
def rptCode (s : State) (c : Fin 2) (g : Nat) (k : Fin 16) (v : Int) : Nat :=
  if subGroup s c k.val = g ∧ (s.rxc c).subs[k].st = .locked then (max 0 (min 200 ((v + 2560) / 64))).toNat else 0xFF

/-- The loading field that a transmit group sends (R92). -/
def txLoadingField (s : State) (c : Fin 2) (g : Fin 16) : List Byte :=
  let x := s.txg c g
  let r := s.rxg c g
  let pend := x.st == .proposed || x.st == .armed
  let b := leBytes 1 (128 * b2n pend + 64 * b2n (x.st == .armed) + 32 * b2n (r.st == .track && x.outEpoch == some r.epoch))
    ++ leBytes 1 x.tidCur ++ leBytes 1 (if pend then x.tidNext else 0) ++ leBytes 1 (if x.st = .armed then x.countdown else 0)
    ++ leBytes 1 x.ackTid ++ leBytes 1 (if multiGroup s then g.val else 0) ++ leBytes 1 x.outSeq ++ leBytes 1 x.outTid
    ++ x.tableCur.flatMap (beBytes 2) ++ (if pend then x.tableNext else List.replicate 16 0).flatMap (beBytes 2)
    ++ (List.finRange 16).flatMap (fun k => leBytes 1 (rptCode s c g.val k (s.rxc c).subs[k].snrX)
        ++ leBytes 1 (rptCode s c g.val k (s.rxc c).subs[k].snrY))
    ++ List.replicate 6 0
  b ++ beBytes 2 (crc16 b)

/-- QUALITY_WINDOW_END (R77, R92): the measures, and the report returned to the far end advances. -/
def qualityWindowEnd (c : Fin 2) (g : Fin 16) (ms : List (Fin 16 × SubQuality)) (s : State) : State :=
  onTxg c g (fun x => { x with
    outSeq := (x.outSeq + 1) % 256, outTid := if x.outChanged then 0xFF else x.rxTid, outChanged := false
    outEpoch := if (s.rxg c g).st = .track then some (s.rxg c g).epoch else none })
    (preFec c (ms.foldl (subQuality c g) s))

def execQualityWindowEnd (c : Fin 2) (g : Fin 16) (ms : List (Fin 16 × SubQuality)) (s : State) : Out :=
  .next (qualityWindowEnd c g ms s)

/-- BITLOAD.POLICY.SET (R90, R94, R103): values wait while a proposal is outstanding; a policy set while PROPOSED acts at once
(log 29), and HOLD withdraws the proposal. -/
def policySet (q : Request) (rs : List ParRec) (s : State) : State :=
  let c := reqCarrier q
  let g := reqGroup q
  let st := (s.txg c g).st
  let later (v : ParamVal) : Bool := st == .armed || (st == .proposed && v.pid != 0x20)
  let s1 := { s with par := (recVals 0x0401 q rs).foldl (fun p v => if later v then p.wait v else p.put v) s.par }
  if st = .proposed ∧ hasRow rs 2 ∧ loadPar s1 c g 0x20 = 2 then
    enterSteady c g (onTxg c g (fun x => { x with withdrawn := bump x.withdrawn }) s1)
  else s1

def execBitloadPolicySet (q : Request) (s : State) : Out :=
  .next (deskRun 0x0401 (pCommand 0x0401 (fun _ _ => none) (policySet q)) q s)

/-- BITLOAD.TABLE.SET (R90, R344). -/
def tableSet (q : Request) (s : State) : State × Reply :=
  let c := reqCarrier q
  let g := reqGroup q
  let tab := (List.range 16).map fun k => u16 q (4 + 2 * k)
  if loadPar s c g 0x20 ≠ 1 then (s, refuse stBadState)
  else
    match badEntry s c g.val tab with
    | some k => (s, badParam (4 + 2 * k))
    | none =>
      if !tableFits s c g.val tab then (s, badParam 4)
      else
        let s1 := onTxg c g (fun x => { x.propose tab with manual := some tab }) s
        (keepBody 0x0402 q s1, ok (leBytes 1 (s.txg c g).nextTid))

def execBitloadTableSet (q : Request) (s : State) : Out := .next (deskRun 0x0402 tableSet q s)

/-- BITLOAD.CURVE.SET (R87, R103, R344): the curve must not decrease; it waits while a group of the carrier has a proposal
outstanding. -/
def curveSet (q : Request) (s : State) : State × Reply :=
  let c := reqCarrier q
  let cv := (List.range 105).map fun i => s16 q (8 + 2 * i)
  if 2 < u8 q 4 then (s, badParam 4)
  else
    match (List.range 104).find? fun i => cv.getD (i + 1) 0 < cv.getD i 0 with
    | some i => (s, badParam (10 + 2 * i))
    | none =>
      (keepBody 0x0403 q (releaseCurves c (onTx c (fun t => { t with curvesNext := putKey (u8 q 4) cv t.curvesNext }) s)), ok)

def execBitloadCurveSet (q : Request) (s : State) : Out := .next (deskRun 0x0403 curveSet q s)

/-- Codes of the loading states (R337 over R94). -/
def Loading.code : Loading → Nat
  | .off => 0 | .steady => 1 | .proposed => 2 | .armed => 3

/-- BITLOAD.STATUS (R104, the rows of a group). -/
def loadItems (q : Request) (s : State) : List StatItem :=
  let c := reqCarrier q
  let g := reqGroup q
  let x := s.txg c g
  [ gau 1 0 x.st.code, gau 1 1 x.tidCur, gau 1 2 x.tidNext, lst 2 0 (x.tableCur.flatMap (leBytes 2)),
    lst 2 1 (x.tableNext.flatMap (leBytes 2)), lst 3 0 (x.report.flatMap (leBytes 1)), gau 3 1 (x.rptSeq.getD 0),
    sgau 4 0 (marginNow s c g) ]
    ++ ((groupSubs s c g.val).map fun k => sgau 4 1 (subMargin s c x.tableCur (effOf x.snr) k) k)
    ++ [ gau 5 0 x.rxTid, ctr 6 0 x.changes, ctr 6 1 x.withdrawn, ctr 7 0 x.lfCrc, ctr 8 0 x.resyncs ]

def execBitloadStatus (q : Request) (s : State) : Out := .next (deskRun 0x0404 (sCommand loadItems) q s)

/-- The amplitude response of the carrier's DACs from Factory record 0x0002, flat when it is absent (R98, R448, R451). -/
def dacResponse (s : State) : List Int :=
  match lookupD none 0x0002 (s.boot.factory.map fun x => (x.1, some x.2)) with
  | some rec => (List.range 64).map fun i => clampInt 0 1200 (Config.dacResponse rec i)
  | none => List.replicate 64 0

/-- The pre-emphasis in force: the DAC's own response and what the host adds, within 12 dB (R98). -/
def applyEmph (c : Fin 2) (s : State) : State :=
  onTx c (fun t => { t with
    preEmph := (List.range 64).map fun i => clampInt 0 1200 ((dacResponse s).getD i 0 + t.hostEmph.getD i 0) }) s

/-- TXDSP.SET (R98, R103, R345): a new set applies at a volume boundary while the transmitter runs, else at once. -/
def txdspSet (q : Request) (rs : List ParRec) (s : State) : State :=
  let c := reqCarrier q
  let pre := (List.range 64).map fun i => signedOf 16 (natAt q.bulk (2 * i) 2)
  let s1 := if (s.txc c).txOn then waitRecs 0x0410 q rs s else applyRecs 0x0410 q rs s
  if q.slot.isNone ∨ q.bulk.isEmpty then s1
  else applyEmph c (onTx c (fun t => if t.txOn then { t with preEmphNext := some pre } else { t with hostEmph := pre }) s1)

/-- The bulk pre-emphasis of TXDSP.SET must be 64 values of 0 to 12 dB (R98, R345). -/
def txdspBulkOk (q : Request) : Bool :=
  q.slot.isNone || q.bulk.isEmpty || (q.bulk.length == 128 && (List.range 64).all fun i =>
    let v := signedOf 16 (natAt q.bulk (2 * i) 2)
    decide (0 ≤ v ∧ v ≤ 1200))

def execTxdspSet (q : Request) (s : State) : Out :=
  .next (deskRun 0x0410 (fun q => pCommand 0x0410 (fun _ _ => if txdspBulkOk q then none else some (badParam 0)) (txdspSet q) q) q s)

/-- TXDSP.PREDIST.SET (R99): 1,024 codes that do not decrease, taken at a volume boundary. -/
def predistSet (q : Request) (s : State) : State × Reply :=
  let c := reqCarrier q
  let tab := (q.bulk.map (·.toNat))
  if q.bulk.length ≠ 1024 ∨ (List.range 1023).any (fun i => tab.getD (i + 1) 0 < tab.getD i 0) then (s, badParam 0)
  else
    (keepBody 0x0411 q (onTx c (fun t => if t.txOn then { t with predistNext := some tab } else { t with predist := tab }) s), ok)

def execTxdspPredistSet (q : Request) (s : State) : Out := .next (deskRun 0x0411 predistSet q s)

/-- A transmit volume boundary's part in the transmit DSP (R98 to R100): new corrections, and the clip check of each DAC. -/
def txVolumeDsp (c : Fin 2) (clips : List Nat) (samples : Nat) (s : State) : State :=
  let s1 := { s with par := s.par.release .r103 (objCarrier c) }
  let s2 := applyEmph c (onTx c (fun t => { t with
    hostEmph := t.preEmphNext.getD t.hostEmph, preEmphNext := none, predist := t.predistNext.getD t.predist, predistNext := none }) s1)
  (List.range 4).foldl (fun s d =>
    let n := clips.getD d 0
    let hi := decide (samples < 10000 * n)
    raiseIf (hi && !(s.txc c).clipRaised.getD d false) 68 (objCarrier c) (evtArg 0 d 0 0) (onTx c (fun t => { t with
      clipped := t.clipped.modify d (satAdd · n)
      clipRaised := t.clipRaised.set d (if hi then true else if 100000 * n < samples then false else t.clipRaised.getD d false) }) s)) s2

/-- TXDSP.STATUS (R104, the rows of a carrier). -/
def txItems (q : Request) (s : State) : List StatItem :=
  let t := s.txc (reqCarrier q)
  ((List.range 4).map fun d => ctr 9 0 (t.clipped.getD d 0) d) ++ [ctr 10 0 t.poisoned]

def execTxdspStatus (q : Request) (s : State) : Out := .next (deskRun 0x0412 (sCommand txItems) q s)

end Sys2Proof.Machine
end

