-- ==== Sys2Proof/Machine/Readers.lean ====
section
/-! DEFINITION. Coded modulation and the Readers: assembly, queues, Lending, decoding, the Reserve, deadlines, pools and the
decoding commands (05_readers_decoding.md R108 to R131; 14_command_reference.md R344, R346). -/

namespace Sys2Proof.Machine

/-- A result's data (R117): the information bits, then the parcel's upper-level bits. -/
def resultData (w : Codeword) (bits : List Byte) : List Byte := bytesAt bits 0 (32 * infoCols w.rate) ++ w.upper

/-- A decoding parameter of a carrier (R130). -/
def decPar (s : State) (c : Nat) (pid : Nat) : Nat := getParN s .r130 (objCarrier c) pid
def decDev (s : State) (pid : Nat) : Nat := getParN s .r130 objDevice pid

/-- Is a carrier in fixed-latency mode (R126)? -/
def fixedLatency (s : State) (c : Nat) : Bool := decPar s c 0x20 == 1

/-- The alignment offset of a carrier, 2^-16 ns: what it leads its partner by while aligned, in a 1+1 group or with the mate's copy
in a mated pair (R30, R220, R485). -/
def alignOffset (s : State) (c : Nat) : Nat :=
  let pair := getNat {} s.mate.pair c
  ((List.range 16).filter fun g => (getNat {} s.prot g).exists_ && (getNat {} s.prot g).aligned).foldl
    (fun m g => max m ((if c = 0 then (getNat {} s.prot g).leadA else (getNat {} s.prot g).leadB).toNat))
    (if s.mate.role ≠ 0 ∧ pair.aligned then (if s.mate.role = 1 then pair.leadA else pair.leadB).toNat else 0)

/-- Update one pool, one Reader, one carrier's counters. -/
def onPool (p : Fin 8) (f : Pool → Pool) (s : State) : State := onDec (fun d => { d with pools := upd d.pools p f }) s
def onReader (p : Fin 8) (r : Fin 12) (f : Reader → Reader) (s : State) : State :=
  onPool p (fun x => { x with readers := upd x.readers r f }) s
def onDecCtr (c : Fin 2) (f : DecCtr → DecCtr) (s : State) : State := onDec (fun d => { d with ctrs := upd d.ctrs c f }) s

/-- The codeword with a key; update or drop it. -/
def State.cw (s : State) (k : Nat) : Option Codeword := s.dec.words.find? fun w => w.key == k
def onCw (k : Nat) (f : Codeword → Codeword) (s : State) : State :=
  onDec (fun d => { d with words := d.words.map fun w => if w.key = k then f w else w }) s

/-- Some of the parcel's items came poisoned (R119). -/
def Codeword.erased (w : Codeword) : Bool := !w.bad.isEmpty

/-- The item of 1,024 bits that holds a bit of the packed LLRs; the upper bits follow in items of their own (log 67). -/
def llrErased (bad : List Nat) (j : Nat) : Bool := bad.contains (5 * j / 1024) || bad.contains ((5 * j + 4) / 1024)

/-- LLRs, packed or not, with those of every poisoned item zero (R119). -/
def eraseItems (bad : List Nat) (llr : List Nat) : List Nat :=
  llr.zipIdx.map fun x => if llrErased bad x.2 then 0 else x.1

/-- The words of a result that hold bits of a poisoned item (R119): information bits by their code position, upper bits in place. -/
def poisonWords (w : Codeword) : List Nat :=
  let k := infoCols w.rate / 2
  ((List.range k).filter fun i => (List.range 20480).any fun j => llrErased w.bad j && codePos j / 512 == i)
    ++ (w.bad.filter (100 ≤ ·)).flatMap fun i => [k + 2 * (i - 100), k + 2 * (i - 100) + 1]

/-- Issue a result from an island towards a codeword's slot (R117, R119, R124). -/
def issue (island : Nat) (w : Codeword) (bits : List Byte) (unres : Bool) (s : State) : State :=
  let r : Result := { island := island, car := w.car, seq := w.seq, slot := w.slot, data := resultData w bits, unres := unres,
                      poison := if unres then poisonWords w else [] }
  onDec (fun d => { d with results := d.results ++ [r] }) s

/-- A codeword is unresolved for a cause, after a number of iterations in all (R131). -/
def unresolve (k : Nat) (cause iters : Nat) (s : State) : State :=
  match s.cw k with
  | none => s
  | some w => onDecCtr w.car (fun c => { c with causes := c.causes.modify cause bump, hist := c.hist.modify (min 48 iters) bump })
      (onCw k (fun w => { w with st := .unresolved }) s)

/-- The words of a Reserve entry in the Reserve's pages: 163 entries of 201 words a page (R120, R235). -/
def reserveWord (s : State) (e : Nat) : Option Nat :=
  (s.stk.region 1).bind fun r => (r.pages[e / 163]?).map fun p => 32768 * p + 201 * (e % 163)

/-- The lowest free Reserve entry; none lies in a page that is being retired (R121, R248). -/
def freeEntry (s : State) : Option Nat :=
  (List.range (decDev s 0x90)).find? fun e => !s.dec.reserve.any (fun x => x.1 == e) &&
    match reserveWord s e with
    | some w => !(s.stk.retired (pageOf w) || s.stk.retiring.any fun x => x.page == pageOf w)
    | none => false

/-- A Reserve entry's 12,864 bytes (R122). -/
def reserveBytes (w : Codeword) (arrival : Bool) : List Byte :=
  let t := stampOf w.deadline
  leBytes 4 w.seq ++ leBytes 1 w.car.val ++ leBytes 1 w.group ++ leBytes 1 w.rate ++ leBytes 1 w.iter1 ++ leBytes 6 t.sec
    ++ leBytes 4 t.ns ++ leBytes 2 w.unsat ++ leBytes 4 w.slot ++ leBytes 1 (b2n arrival + 2 * b2n w.erased)
    ++ List.replicate 39 0 ++ padTo 12800 w.llr

/-- Write an item of whole words to the Stacks (R17, R232): the last word carries the END mark; `bad` are its poisoned words. -/
def writeItem (a : Nat) (data : List Byte) (seq region : Nat) (unres : Bool) (bad : List Nat) (s : State) : State :=
  let n := ceilDiv data.length 64
  (List.range n).foldl (fun s i =>
    stkWrite (a + i) (bytesAt data (64 * i) 64) (seq % 256) region unres (i + 1 == n) (bad.contains i) s) s

/-- Events of the Reserve's occupancy after an entry is taken (R121). -/
def reserveHigh (c : Fin 2) (s : State) : State :=
  let n := s.dec.reserve.length
  raiseIf (s.dec.highArmed && 3 * decDev s 0x90 < 4 * n) 83 (objCarrier c) (evtArg 0 0 0 0) (onDec (fun d => { d with
    highArmed := d.highArmed && !decide (3 * decDev s 0x90 < 4 * n), peak := max d.peak n }) s)

/-- Park a codeword (R120, R121): the placeholder is issued, and the LLRs go to a free Reserve entry; with none free the
codeword is dropped. -/
def park (island k : Nat) (bits : List Byte) (iters : Nat) (arrival : Bool) (s : State) : State :=
  match s.cw k with
  | none => s
  | some w0 =>
    let w := { w0 with st := .parked, iter1 := iters, unsat := unsatisfied w0.rate bits }
    let s1 := issue island w bits true (onCw k (fun _ => w) (onDecCtr w.car (fun c =>
      if arrival then { c with parkedArrival := bump c.parkedArrival } else { c with parkedCap := bump c.parkedCap }) s))
    match freeEntry s1 with
    | none => raise 84 (objCarrier w.car) (evtArg 0 0 0 0) (unresolve k 2 iters s1)
    | some e =>
      let s2 := onDec (fun d => { d with reserve := d.reserve ++ [(e, k)] }) s1
      reserveHigh w.car (match reserveWord s2 e with
        | some a => writeItem a (reserveBytes w arrival) w.seq 4 false [] s2
        | none => s2)

/-- Free the Reserve entry of a codeword (R122); DEC_RESERVE_HIGH is armed again below 50 % (R121). -/
def freeReserve (k : Nat) (s : State) : State :=
  onDec (fun d =>
    let r := d.reserve.filter fun x => x.2 != k
    { d with reserve := r, highArmed := d.highArmed || 2 * r.length < decDev s 0x90 }) s

/-- Home pools of a carrier; distance on the ring (R113). -/
def homePool (c : Fin 2) (p : Fin 8) : Bool := p.val / 4 == c.val
def ringDist (p q : Fin 8) : Nat := let d := (p.val - q.val) + (q.val - p.val); min d (8 - d)

/-- The pool with the least key among those that satisfy a test; ties to the lowest number. -/
def bestPool (s : State) (ok : Fin 8 → Bool) (key : Pool → Nat) : Option (Fin 8) :=
  (List.finRange 8).foldl (fun b p =>
    if !ok p then b
    else match b with
      | none => some p
      | some q => if key s.dec.pools[p] < key s.dec.pools[q] then some p else b) none

/-- The pool a parcel goes to (R114). -/
def choosePool (s : State) (c : Fin 2) : Option (Fin 8) :=
  let live (p : Fin 8) : Bool := s.dec.pools[p].st == .isIn && s.dec.pools[p].queue.length < 48
  match bestPool s (fun p => live p && homePool c p) (·.queue.length) with
  | some p => some p
  | none => bestPool s live (·.queue.length)

/-- Insert a codeword's key by deadline, after those of equal deadline (R113). -/
def enqueue (s : State) (k dl : Nat) : List Nat → List Nat
  | [] => [k]
  | j :: r =>
    match s.cw j with
    | some w => if dl < w.deadline then k :: j :: r else j :: enqueue s k dl r
    | none => j :: enqueue s k dl r

/-- Count a parcel towards the measured codeword rate (R129). -/
def countRate (s : State) : State :=
  let sec := s.stamp.sec
  onDec (fun d =>
    if d.rateSec = sec then { d with rateNow := d.rateNow + 1 }
    else { d with rateSec := sec, rateNow := 1, rateLast := if d.rateSec + 1 = sec then d.rateNow else 0 }) s

/-- LLRs that dimensions hold. -/
def dimBits (ds : List Dim) : Nat := (ds.map (·.llr.length)).sum

/-- The folios of one volume at the head of a stream, and those after them (R111). -/
def sameVol (l : List RxSeg) : List RxSeg × List RxSeg :=
  match l with
  | [] => ([], [])
  | x :: r => (x :: r.takeWhile (!·.newVol), r.dropWhile (!·.newVol))

/-- Stream bits of folios. -/
def segBits (l : List RxSeg) : Nat := (l.map fun x => dimBits x.dims).sum

/-- The stream from which the next codeword is taken (R111): what remains of a volume that has ended, fewer than 20,480 bits, is fill
and is dropped. -/
def openStream (l : List RxSeg) : List RxSeg :=
  if segBits (sameVol l).1 < 20480 ∧ (sameVol l).2 ≠ [] then (sameVol l).2 else l

/-- Take `n` stream bits of the stream. -/
def takeSegs : Nat → List RxSeg → List Dim × List RxSeg
  | _, [] => ([], [])
  | n, x :: r =>
    let t := takeDims n x.dims
    if t.2.isEmpty then (t.1 ++ (takeSegs (n - dimBits t.1) r).1, (takeSegs (n - dimBits t.1) r).2)
    else (t.1, { x with dims := t.2 } :: r)

/-- A word of a carrier's receive queue for a result of `n` words (R112, R235): the next ones of one page; past the last page the
write position returns to the first, where added pages join (R236; which words a slot takes: log 67). -/
def queueSlot (c : Fin 2) (n : Nat) (s : State) : Nat × State :=
  match s.stk.region (4 + c.val) with
  | none => (0, s)
  | some r =>
    let pos := if 32768 < r.wr % 32768 + n then (r.wr / 32768 + 1) * 32768 else r.wr
    let take (pages : List Nat) (pos : Nat) (s : State) : Nat × State :=
      (32768 * pages.getD (pos / 32768) 0 + pos % 32768, onStk (fun k => { k with
        regions := k.regions.map fun x => if x.r = 4 + c.val then { x with wr := pos + n } else x }) s)
    if pos / 32768 < r.pages.length then take r.pages pos s else take (r.pages ++ r.adding) 0 (queueWrap c s)

/-- A codeword's parcel is complete (R112 to R114, R121, R123, R126): `ds` are its dimensions, `arrival` the stamp of the earliest
folio that holds any of its bits. The parcel's items that its Chute delivered poisoned are erased (R119). -/
def sendParcel (c : Fin 2) (g : Fin 16) (ds : List Dim) (arrival : Nat) (s0 : State) : State :=
  let s1 := countRate s0
  let i := 16 * c.val + g.val
  let seq := s1.dec.nextSeq.getD i 0
  let k := (i + 1) * 2 ^ 32 + seq
  let pool := choosePool s1 c
  let bad := match pool with
    | some p => chutePoison c.val (2 + p.val) s1
    | none => ([], s1)
  let llr := ds.flatMap (·.llr)
  let lv := ds.flatMap fun d => (List.range d.llr.length).map (· == 1)
  let up := packBits (ds.flatMap (·.up))
  let rate := (s1.car c).ldpcRate
  let q := queueSlot c (infoCols rate / 2 + ceilDiv up.length 64) bad.2
  let dl := arrival + (playoutNs s1 c) * 65536 + alignOffset s1 c - 1000 * 65536
  let w : Codeword :=
    { key := k, seq := seq, car := c, group := g, rate := rate, deadline := dl, slot := q.1
      bad := bad.1, llr := packLlr (eraseItems bad.1 llr), upper := up
      filled := min 20480 llr.length, level1 := leNat (packBits (lv.take 20480)), st := .queued }
  let s2 := onRxg c g (fun x => { x with
      due := x.due.map fun d => if d.arrival = arrival then { d with slots := d.slots ++ [(q.1, seq)] } else d })
    (onDec (fun d => { d with
      nextSeq := d.nextSeq.set i ((seq + 1) % 2 ^ 32), words := (d.words.filter fun x => x.key != k) ++ [w] }) q.2)
  match pool with
  | some p => onPool p (fun x =>
      let qu := enqueue s2 k dl x.queue
      { x with queue := qu, peak := max x.peak qu.length }) s2
  | none =>
    let s3 := raise 82 (objCarrier c) (evtArg 0 0 0 0) s2
    if fixedLatency s3 c then unresolve k 0 0 (issue c.val w (hardBits w.llr) true s3) else park c.val k (hardBits w.llr) 0 true s3

/-- PARCEL_ASSEMBLED (R74, R111, R112): the next 20,480 bits of the stream of a group in TRACK form a codeword; a group that has left
TRACK sends its open codeword, completed with zero LLRs. -/
def parcelAssembled (c : Fin 2) (g : Fin 16) (s : State) : State :=
  let x := s.rxg c g
  let l := openStream x.segs
  let n := segBits (sameVol l).1
  let a := (l.head?.map (·.arrival)).getD 0
  if !x.synced ∨ (x.st ≠ .track ∧ !x.closing) then s
  else if 20480 ≤ n then
    let t := takeSegs 20480 l
    sendParcel c g t.1 a (onRxg c g (fun x => { x with segs := t.2 }) s)
  else if x.closing then
    let s1 := onRxg c g (fun x => { x with segs := [], synced := false, closing := false }) s
    if n = 0 then s1 else sendParcel c g (takeSegs n l).1 a s1
  else s

def execParcelAssembled (c : Fin 2) (g : Fin 16) (s : State) : Out := .next (parcelAssembled c g s)

/-- 40 ns in 2^-16 ns. -/
def iter16 : Nat := 40 * 65536

/-- Whole iterations that end at least 40 ns before a deadline, from an instant (R116). -/
def deadlineIters (now dl : Nat) : Nat := (dl - now) / iter16 - 1

/-- The head a Reader takes (R115, rules 1 and 2): its own queue, or by Lending. -/
def nextQueued (s : State) (p : Fin 8) : Option (Fin 8 × Nat) :=
  match s.dec.pools[p].queue with
  | k :: _ => some (p, k)
  | [] =>
    if s.dec.pools[p].st ≠ .isIn then none
    else
      let ok (q : Fin 8) : Bool := q != p && ringDist p q ≤ decDev s 0x60 && s.dec.pools[q].st != .out
        && decDev s 0x61 < s.dec.pools[q].queue.length
      let far (q : Fin 8) : Nat := 16 * (48 - s.dec.pools[q].queue.length) + ringDist p q
      match (List.finRange 8).foldl (fun (b : Option (Fin 8)) q =>
          if !ok q then b else match b with
            | none => some q
            | some r => if far q < far r then some q else b) none with
      | some q => (s.dec.pools[q].queue.head?).map fun k => (q, k)
      | none => none

/-- Time needed before a deadline to start a Reserve pass (R122), 2^-16 ns. -/
def reserveLead (s : State) (w : Codeword) : Nat := 2000 * 65536 + iter16 * (decPar s w.car 0x80 + 1)

/-- The Reserve entry that a Reader may start, with the earliest deadline (R115, R122). -/
def nextReserve (s : State) : Option Codeword :=
  (s.dec.words.filter fun w => w.st == .parked && s.dec.reserve.any (fun x => x.2 == w.key)
      && s.tod16 + reserveLead s w ≤ w.deadline).foldl
    (fun b w => match b with
      | none => some w
      | some v => if w.deadline < v.deadline then some w else b) none

/-- A parcel with erased items is counted once, when its decoding has ended or is not begun (R119). -/
def countErased (w : Codeword) (c : DecCtr) : DecCtr := if w.erased then { c with poisonedParcels := bump c.poisonedParcels } else c

/-- A Reader starts a queued codeword (R116): with fewer than 2 iterations left it writes the channel's hard decisions. -/
def startCodeword (p : Fin 8) (r : Fin 12) (q : Fin 8) (w : Codeword) (s : State) : State :=
  let s1 := onPool q (fun x => { x with queue := x.queue.filter (· != w.key) }) s
  let s2 := if q = p then s1 else onPool q (fun x => { x with lent := bump x.lent }) (onPool p (fun x => { x with borrowed := bump x.borrowed }) s1)
  let above := decPar s w.car 0x51 < s.dec.pools[p].queue.length
  let cap := min (decPar s w.car 0x40) (if above then decPar s w.car 0x50 else decPar s w.car 0x40)
  let dl := deadlineIters (s.tod16 + iter16 * ringDist p q) w.deadline
  if min cap dl < 2 then unresolve w.key 5 0 (issue (2 + p.val) w (hardBits w.llr) true (onDecCtr w.car (countErased w) s2))
  else
    let d := minSumStart w.rate w.llr
    onReader p r (fun x => { x with
      work := some { key := w.key, rate := w.rate, reserve := false, fetching := false, from_ := q.val, iter := 0, limit := min cap dl,
                     byCap := cap ≤ dl, post := d.1, msgs := d.2 } }) (onCw w.key (fun w => { w with st := .decoding }) s2)

/-- READER_IDLE (R115, R116, R122). -/
def readerIdle (p : Fin 8) (r : Fin 12) (s : State) : State :=
  let x := s.dec.pools[p].readers[r]
  if !x.inService ∨ x.work.isSome ∨ s.dec.pools[p].st = .out then s
  else
    match nextQueued s p with
    | some (q, k) =>
      match s.cw k with
      | some w => startCodeword p r q w s
      | none => onPool q (fun x => { x with queue := x.queue.filter (· != k) }) s
    | none =>
      if s.dec.pools[p].st ≠ .isIn then s
      else
        match nextReserve s with
        | none => s
        | some w => onReader p r (fun x => { x with
            work := some { key := w.key, rate := w.rate, reserve := true, fetching := true, from_ := p.val, iter := 0, limit := 0,
                           byCap := false } }) (onCw w.key (fun w => { w with st := .redecoding }) s)

def execReaderIdle (p : Fin 8) (r : Fin 12) (s : State) : Out := .next (readerIdle p r s)

/-- The Reader has nothing to do: its busy time includes the 40 ns of load and unload (R117). -/
def readerDone (p : Fin 8) (r : Fin 12) (s : State) : State :=
  onReader p r (fun x => { x with work := none, busy := bump x.busy }) s

/-- Bits and errored bits of levels 0 and 1 of a converged codeword (R77): the hard signs against its bits, over the positions that
symbols filled. -/
def preFecCount (w : Codeword) (bits : List Byte) : List Nat × List Nat :=
  let v := leNat bits
  let h := leNat w.llr
  let js (l : Bool) : List Nat := (List.range w.filled).filter fun j => w.level1.testBit j == l
  let e (l : Bool) : Nat := ((js l).filter fun j => h.testBit (5 * j + 4) != v.testBit (codePos j)).length
  ([(js false).length, (js true).length], [e false, e true])

/-- Add pre-FEC counts to the window in progress (R77): bits and errored bits by level, from level `k`. -/
def addPreFec (c : Fin 2) (k : Nat) (n : List Nat × List Nat) (s : State) : State :=
  let add (l m : List Nat) : List Nat := l.zipIdx.map fun x => if k ≤ x.2 then x.1 + m.getD (x.2 - k) 0 else x.1
  onRx c (fun r => { r with winBits := add r.winBits n.1, winErrs := add r.winErrs n.2 }) s

/-- A converged result passes the syndrome checker (R117, R118): it is issued, the counters advance, an entry is freed. -/
def converged (island : Nat) (w : Codeword) (k : Work) (bits : List Byte) (s0 : State) : State :=
  let s := addPreFec w.car 0 (preFecCount w bits) s0
  let total := if k.reserve then min 48 (w.iter1 + k.iter) else min 48 k.iter
  let s1 := onDecCtr w.car (fun c => { c with
    first := if k.reserve then c.first else bump c.first, reserve := if k.reserve then bump c.reserve else c.reserve
    hist := c.hist.modify total bump }) (onDecCtr w.car (fun c => if k.reserve && w.iter1 != 0 then c else countErased w c) s)
  let s2 := issue island w bits false (onCw w.key (fun w => { w with st := .done }) s1)
  if k.reserve then freeReserve w.key s2 else s2

/-- The syndrome checker rejects a result (R118, R128): the parcel returns to the head of its queue, or the entry to PARKED if a pass
may still start; the Reader is out of service and DEC_READER_FAULT (85) is raised. -/
def readerFault (p : Fin 8) (r : Fin 12) (w : Codeword) (k : Work) (s : State) : State :=
  let q : Fin 8 := ⟨k.from_ % 8, Nat.mod_lt _ (by decide)⟩
  let s1 := if k.reserve then
      (if s.tod16 + reserveLead s w ≤ w.deadline then onCw w.key (fun w => { w with st := .parked }) s
       else freeReserve w.key (unresolve w.key 3 (w.iter1 + k.iter) s))
    else onPool q (fun x => { x with queue := w.key :: x.queue }) (onCw w.key (fun w => { w with st := .queued }) s)
  let s2 := onDecCtr w.car (fun c => { c with readerFaults := bump c.readerFaults })
    (onReader p r (fun x => { x with inService := false, faults := bump x.faults }) s1)
  raise0 85 (objReader p r) s2

/-- The limit is reached without convergence (R120, R122, R126, R127). -/
def exhausted (island : Nat) (w : Codeword) (k : Work) (bits : List Byte) (s : State) : State :=
  let n := w.iter1 + k.iter
  if k.reserve then
    let better := unsatisfied w.rate bits < w.unsat
    let s1 := if better then issue island w bits true s else s
    freeReserve w.key (unresolve w.key 1 n s1)
  else if fixedLatency s w.car then unresolve w.key 0 n (issue island w bits true s)
  else if k.byCap then park island w.key bits k.iter false s
  else unresolve w.key 5 n (issue island w bits true s)

/-- A result that comes too late is discarded and counted (R125). -/
def lateResult (c : Fin 2) (s : State) : State :=
  raise 81 (objCarrier c) (evtArg 0 0 0 0) (onDecCtr c (fun x => { x with late := bump x.late }) s)

/-- A Reader ends work on a codeword whose deadline has passed (R118, R127, R128): what it would have written is late. -/
def afterRelease (p : Fin 8) (r : Fin 12) (k : Work) (reported : Bool) (bits : List Byte) (s : State) : State :=
  let c := carrierOf ((k.key / 2 ^ 32 - 1) / 16)
  if reported && unsatisfied k.rate bits != 0 then
    raise0 85 (objReader p r) (onDecCtr c (fun c => { c with readerFaults := bump c.readerFaults })
      (onReader p r (fun x => { x with inService := false, faults := bump x.faults }) s))
  else if !reported && k.reserve then s
  else lateResult c s

/-- The normalisation factor of a pass, in 1/16 (R117, R130). -/
def normFactor (s : State) (c : Fin 2) (reserve : Bool) : Nat := decPar s c (if reserve then 0x71 else 0x70) / 625

/-- DECODE_ITERATION_END (R117 to R120, R122, R126): an iteration of layered min-sum and its syndrome test. `fault`: a faulty Reader
reports these bits as converged instead (R118). -/
def iterationEnd (p : Fin 8) (r : Fin 12) (fault : Option (List Byte)) (s : State) : State :=
  match s.dec.pools[p].readers[r].work with
  | none => s
  | some k0 =>
    if k0.fetching then s
    else
      let c := carrierOf ((k0.key / 2 ^ 32 - 1) / 16)
      let d := minSumIter k0.rate (normFactor s c k0.reserve) (k0.post, k0.msgs)
      let k := { k0 with iter := k0.iter + 1, post := d.1, msgs := d.2 }
      let bits := (fault.map (padTo 2560)).getD (minSumBits d.1)
      let reported := fault.isSome || unsatisfied k.rate bits == 0
      let s1 := onReader p r (fun x => { x with work := some k, busy := bump x.busy }) s
      match s1.cw k.key with
      | none => readerDone p r (afterRelease p r k reported bits s1)
      | some w =>
        if reported then
          if unsatisfied w.rate bits = 0 then readerDone p r (converged (2 + p.val) w k bits s1)
          else readerDone p r (readerFault p r w k s1)
        else if k.limit ≤ k.iter then
          readerDone p r (exhausted (2 + p.val) w k bits (onDecCtr w.car (fun c =>
            if k.reserve && w.iter1 != 0 then c else countErased w c) s1))
        else s1

def execDecodeIterationEnd (p : Fin 8) (r : Fin 12) (fault : Option (List Byte)) (s : State) : Out :=
  .next (iterationEnd p r fault s)

/-- Read the words of an item from the Stacks: its data, whether any word came poisoned (R240). -/
def readItem (a n : Nat) (expect : Option (Nat × Nat)) (s : State) : List Byte × Bool × State :=
  (List.range n).foldl (fun (x : List Byte × Bool × State) i =>
    let d := stkRead (a + i) expect false false x.2.2
    (x.1 ++ d.1.data, x.2.1 || d.1.poison, d.2)) ([], false, s)

/-- RESERVE_FETCH_COMPLETE (R122, R128): the pass begins from the channel LLRs fetched, or is abandoned on poison, a passed deadline,
or no iteration left before it. -/
def reserveFetch (p : Fin 8) (r : Fin 12) (s : State) : State :=
  match s.dec.pools[p].readers[r].work with
  | none => s
  | some k =>
    if !k.fetching then s
    else
      let idle (s : State) : State := onReader p r (fun x => { x with work := none }) s
      match s.cw k.key, s.dec.reserve.find? fun x => x.2 == k.key with
      | some w, some (e, _) =>
        let rd := match reserveWord s e with
          | some a => readItem a 201 (some (4, w.seq % 256)) s
          | none => ([], true, s)
        let dl := deadlineIters s.tod16 w.deadline
        let d := minSumStart w.rate (rd.1.drop 64)
        if rd.2.1 then idle (freeReserve w.key (unresolve w.key 4 w.iter1 (poisonOut 7 rd.2.2)))
        else if w.deadline ≤ s.tod16 then idle (freeReserve w.key (unresolve w.key 3 w.iter1 rd.2.2))
        else if dl = 0 then idle (freeReserve w.key (unresolve w.key 5 w.iter1 rd.2.2))
        else
          onReader p r (fun x => { x with
            work := some { k with fetching := false, iter := 0, limit := min (48 - w.iter1) dl, post := d.1, msgs := d.2 } }) rd.2.2
      | _, _ => idle s

def execReserveFetchComplete (p : Fin 8) (r : Fin 12) (s : State) : Out := .next (reserveFetch p r s)

/-- RESERVE_ENTRY_EXPIRY (R122): a parked codeword that can no longer be started before its deadline. -/
def reserveExpiry (c : Fin 2) (g : Fin 16) (seq : Word32) (s : State) : State :=
  let k := (16 * c.val + g.val + 1) * 2 ^ 32 + seq.toNat
  match s.cw k with
  | none => s
  | some w => if w.st = .parked ∧ w.deadline < s.tod16 + reserveLead s w then freeReserve k (unresolve k 3 w.iter1 s) else s

def execReserveEntryExpiry (c : Fin 2) (g : Fin 16) (seq : Word32) (s : State) : Out := .next (reserveExpiry c g seq s)

/-- Count unresolved codewords at the release of a folio (R124): DEC_UNRESOLVED (80) when the count in one second of device time
exceeds the threshold, once in that second. -/
def countUnresolved (c : Fin 2) (n : Nat) (s : State) : State :=
  let sec := s.stamp.sec
  let s1 := onDecCtr c (fun x => { x with
    unresolved := satAdd x.unresolved n, second := sec, inSecond := if x.second = sec then x.inSecond + n else n
    raised := x.second == sec && x.raised }) s
  if decPar s c 0xA0 < s1.dec.ctrs[c].inSecond ∧ !s1.dec.ctrs[c].raised then
    raise 80 (objCarrier c) (evtArg 0 0 0 0) (onDecCtr c (fun x => { x with raised := true }) s1)
  else s1

/-- CODEWORD_DEADLINE (R127): the slot stands as it is; the codeword leaves its queue, its entry and the list. One that no cause of
R131 has ended yet, a Reader's too, counts as expired (log 56). -/
def codewordDeadline (c : Fin 2) (g : Fin 16) (seq : Word32) (s : State) : State :=
  let k := (16 * c.val + g.val + 1) * 2 ^ 32 + seq.toNat
  match s.cw k with
  | none => s
  | some w =>
    let s1 := onDec (fun d => { d with
      words := d.words.filter fun x => x.key != k
      pools := d.pools.map fun p => { p with queue := p.queue.filter (· != k) } }) (freeReserve k s)
    if w.st = .done ∨ w.st = .unresolved then s1
    else onDecCtr w.car (fun c => { c with causes := c.causes.modify 3 bump, hist := c.hist.modify (min 48 w.iter1) bump }) s1

def execCodewordDeadline (c : Fin 2) (g : Fin 16) (seq : Word32) (s : State) : Out := .next (codewordDeadline c g seq s)

/-- RESULT_WRITE (R119, R124, R125): the oldest result in flight reaches its slot with the poison marks set on its Chute; once the
read of the slot has begun it is discarded as late. -/
def resultWrite (s : State) : State :=
  match s.dec.results with
  | [] => s
  | x :: rest =>
    let ch := chutePoison x.island 18 (onDec (fun d => { d with results := rest }) s)
    if ch.2.dec.slots.any fun q => q.slot == x.slot && q.seq == x.seq && q.car == x.car && q.readBegun then
      lateResult x.car ch.2
    else
      let q : QSlot := { slot := x.slot, car := x.car, seq := x.seq, words := ceilDiv x.data.length 64, unres := x.unres,
                         readBegun := false }
      onDec (fun d => { d with slots := q :: d.slots.filter fun y => y.slot != x.slot })
        (writeItem x.slot x.data x.seq 1 x.unres (x.poison ++ ch.1.flatMap fun i => [2 * i, 2 * i + 1]) ch.2)

def execResultWrite (s : State) : Out := .next (resultWrite s)

/-- Readers in service in pools that are IN, other than one pool (R129). -/
def readersLeft (s : State) (p : Fin 8) : Nat :=
  ((List.finRange 8).map fun q => if q = p ∨ s.dec.pools[q].st ≠ .isIn then 0
    else (s.dec.pools[q].readers.toList.filter (·.inService)).length).sum

def reqPool (q : Request) : Fin 8 := ⟨objIndex q % 8, Nat.mod_lt _ (by decide)⟩
def reqReader (q : Request) : Fin 12 := ⟨objSub q % 12, Nat.mod_lt _ (by decide)⟩

/-- A pool whose queue is empty and whose Readers are idle. -/
def Pool.drained (p : Pool) : Bool := p.queue.isEmpty && p.readers.toList.all fun r => r.work.isNone

/-- The codeword rate measured over the last second (R129). -/
def measuredRate (s : State) : Nat :=
  if s.dec.rateSec = s.stamp.sec then s.dec.rateLast else if s.dec.rateSec + 1 = s.stamp.sec then s.dec.rateNow else 0

/-- DECODE.POOL.REMOVE (R129, R323): refused when too few Readers would remain, unless forced. -/
def poolRemove (q : Request) (s : State) : State × Reply :=
  let p := reqPool q
  let force := bit (u8 q 4) 0
  if s.dec.pools[p].st = .out then (s, ok)
  else if !force ∧ readersLeft s p * 100000000000 < 125 * measuredRate s * 240 then (s, refuse stNoCapacity)
  else
    let s1 := if force then terminate (.pool p) s else s
    (beginTransition (.pool p) 0x0503 q (onPool p (fun x => { x with st := .removing, restoring := none }) s1), .later)

def execDecodePoolRemove (q : Request) (s : State) : Out := .next (deskRun 0x0503 poolRemove q s)

/-- POOL_DRAINED (R129): the pool reports OUT, DEC_POOL_OUT (86). -/
def poolDrained (p : Fin 8) (s : State) : State :=
  if s.dec.pools[p].st = .removing ∧ s.dec.pools[p].drained then
    endTransition (.pool p) { status := stOk } (raise0 86 (objPool p) (onPool p (fun x => { x with st := .out }) s))
  else s

def execPoolDrained (p : Fin 8) (s : State) : Out := .next (poolDrained p s)

/-- A restore whose domain is in RUN (R129, R344, R390): Readers that fail the self-test stay out; with no carrier enabled the
domain returns to CLOCK_OFF. -/
def poolRestored (p : Fin 8) (s : State) : State :=
  match s.dec.pools[p].restoring with
  | none => s
  | some mask =>
    if s.dom (8 + p.val) ≠ .run then s
    else
      let s1 := onPool p (fun x => { x with
        st := .isIn, restoring := none
        readers := Vector.ofFn fun r => { x.readers[r] with inService := !bit mask r.val } }) s
      let s2 := endTransition (.pool p) { status := stOk, payload := leBytes 2 (mask % 4096) } s1
      if anyCarrier s then s2 else requestDomain (8 + p.val) .clockOff s2

/-- DECODE.POOL.RESTORE (R129, R344): `failed` is what the self-test of the Readers will find. -/
def poolRestore (failed : Word16) (q : Request) (s : State) : State × Reply :=
  let p := reqPool q
  if s.dec.pools[p].st = .isIn ∨ stopHeld (8 + p.val) s then (s, refuse stBadState)
  else
    (poolRestored p (requestDomain (8 + p.val) .run (onPool p (fun x => { x with restoring := some (failed.toNat % 4096) })
      (beginTransition (.pool p) 0x0504 q s))), .later)

def execDecodePoolRestore (q : Request) (failed : Word16) (s : State) : Out :=
  .next (deskRun 0x0504 (poolRestore failed) q s)

/-- DECODE.READER.ENABLE (R118, R344): `failed` is the outcome of the self-test. -/
def readerEnable (failed : Bool) (q : Request) (s : State) : State × Reply :=
  let p := reqPool q
  let r := reqReader q
  if s.dec.pools[p].st ≠ .isIn then (s, refuse stBadState)
  else if failed then (raise0 85 (objReader p r) (onReader p r (fun x => { x with inService := false }) s), ok (leBytes 1 1))
  else (onReader p r (fun x => { x with inService := true }) s, ok (leBytes 1 0))

def execDecodeReaderEnable (q : Request) (failed : Bool) (s : State) : Out :=
  .next (deskRun 0x0505 (readerEnable failed) q s)

/-- What DECODE.SET refuses (R130, R344, R346). -/
def decodeSetCheck (q : Request) (rs : List ParRec) (s : State) : Option Reply :=
  match (if objKind q = 0 then rs.find? fun r => r.row.pid / 16 != 6 && r.row.pid / 16 != 9 else none) with
  | some r => some (badParam r.off)
  | none =>
    if (hasRow rs 2 || hasRow rs 3) && (s.car (reqCarrier q)).enabled then some (refuse stBadState)
    else if hasRow rs 9 && anyCarrier s then some (refuse stBadState)
    else none

/-- DECODE.SET (R120, R130, R236): a new entry count reallocates the Reserve at once. -/
def decodeSet (q : Request) (s : State) : State × Reply :=
  match parseRecords 0x0501 q with
  | .error off => (s, badParam off)
  | .ok rs =>
    match decodeSetCheck q rs s with
    | some r => (s, r)
    | none =>
      let s1 := applyRecs 0x0501 q rs s
      if hasRow rs 9 ∧ (s.stk.region 1).isSome then
        match allocRegion 1 (reservePages s1) s1 with
        | .ok s2 => (onDec (fun d => { d with reserve := [], highArmed := true }) s2, ok)
        | .error e => (s, refuse e)
      else (s1, ok)

def execDecodeSet (q : Request) (s : State) : Out := .next (deskRun 0x0501 decodeSet q s)

/-- Codes of pool and Reader states (R131). -/
def PoolState.code : PoolState → Nat
  | .isIn => 0 | .removing => 1 | .out => 2

/-- DECODE.STATUS of a carrier, a pool or a Reader (R131). -/
def decodeItems (q : Request) (s : State) : List StatItem :=
  let d := s.dec
  if objKind q = 1 then
    let c := d.ctrs[reqCarrier q]
    [ gau 3 0 d.reserve.length, gau 3 1 d.peak, ctr 4 0 c.first, ctr 4 1 c.reserve, ctr 5 0 c.unresolved ]
      ++ ((List.range 6).map fun i => ctr 5 1 (c.causes.getD i 0) i)
      ++ [ ctr 6 0 c.parkedCap, ctr 6 1 c.parkedArrival, ctr 7 0 c.late ]
      ++ ((List.range 49).map fun i => ctr 9 0 (c.hist.getD i 0) i)
      ++ [ ctr 11 0 c.poisonedParcels, ctr 11 1 c.readerFaults, ctr 12 0 c.outerBits, ctr 12 1 c.outerBlocks ]
  else
    let p := reqPool q
    let x := d.pools[p]
    let rs := if objSub q = 0xFF then List.finRange 12 else [reqReader q]
    let pool := if objSub q = 0xFF then
        [ gau 1 0 x.st.code p.val, gau 2 0 x.queue.length p.val, gau 2 1 x.peak p.val, ctr 8 0 x.borrowed p.val,
          ctr 8 1 x.lent p.val ]
      else []
    pool ++ (rs.map fun r => gau 1 1 (b2n !x.readers[r].inService) (12 * p.val + r.val))
      ++ (rs.map fun r => ctr 10 0 x.readers[r].busy (12 * p.val + r.val))
      ++ (rs.map fun r => ctr 11 1 x.readers[r].faults (12 * p.val + r.val))

def execDecodeStatus (q : Request) (s : State) : Out := .next (deskRun 0x0502 (sCommand decodeItems) q s)

end Sys2Proof.Machine
end

