-- ==== Sys2Proof/Machine/Carrier.lean ====
section
/-! DEFINITION. A carrier as a whole: provisioning, enabling and disabling (14_command_reference.md R342, R343; 02_converters.md
R40, R41, R44; 16_power.md R390), and the boundaries that several chapters share: received folios and volumes, loss of signal,
transmitted folios and volumes (07_folio_encryption.md R163 to R174), release (05_readers_decoding.md R124). -/

namespace Sys2Proof.Machine

/-- The least loading target that carries m slices (R169); ρ in 1/1000 by LDPC rate (R87). -/
def targetMin (symRate ldpc n m : Nat) : Nat :=
  ceilDiv (64 * m * sliceBytes symRate * 1000) (dataPeriods n * [826, 873, 920].getD ldpc 873)

/-- The fields of CARRIER.PROVISION (R343). -/
def provMap (q : Request) : List Nat := (List.range 16).map fun k => u8 q (12 + k)
def provSlices (q : Request) : List Nat := (List.range 16).map fun g => u8 q (28 + g)
def provTargets (q : Request) : List Nat := (List.range 16).map fun g => u16 q (44 + 2 * g)

/-- The subcarriers that a map gives a group; they form one contiguous run (R170). -/
def mapRun (m : List Nat) (g : Nat) : List Nat := positions (· == g) m
def contiguous (l : List Nat) : Bool :=
  match l with
  | [] => true
  | a :: _ => l == (List.range l.length).map (a + ·)

/-- Is a group map allowed in the mode in force (R170, R343)? -/
def mapOk (s : State) (m : List Nat) : Bool :=
  let used := (List.range 16).filter fun g => m.contains g
  if multiGroup s then
    m.all (fun g => g < 16 || g == 0xFF) && used.all (fun g => contiguous (mapRun m g))
      && (if s.dev.mode = some .leaf then used.length == 1 else 1 ≤ used.length)
  else m.all (· == 0)

/-- The loading target that a T selects for a group of n subcarriers (R86). -/
def provTarget (t n : Nat) : Nat := if t = 0 then 1705 * n / 16 else t

/-- The groups whose m and T a provisioning uses (R343). -/
def provGroups (s : State) (m : List Nat) : List Nat := if multiGroup s then (List.range 16).filter fun g => m.contains g else [0]

/-- The first m or T that R86, R169 or R170 refuses, as its offset in CARRIER.PROVISION. -/
def badSlices (s : State) (rs ldpc : Nat) (m sls ts : List Nat) : Option Nat :=
  let gs := provGroups s m
  let slices (g : Nat) : Nat := sls.getD g 0
  match (List.range 16).find? fun g =>
      if gs.contains g then slices g = 0 || 32 < slices g
          || 120 * (mapRun m g).length < targetMin rs ldpc (mapRun m g).length (slices g)
      else multiGroup s && slices g != 0 with
  | some g => some (28 + g)
  | none =>
    if 32 < (gs.map slices).sum then some 28
    else
      (gs.find? fun g =>
        let n := (mapRun m g).length
        let t := provTarget (ts.getD g 0) n
        t < 16 * n || 120 * n < t || t < targetMin rs ldpc n (slices g)).map fun g => 44 + 2 * g

/-- Does a carrier's provisioning, perhaps made in another mode, fit the mode in force (R56, R170)? -/
def provFits (s : State) (c : Fin 2) : Bool :=
  let x := s.car c
  mapOk s x.groupMap && (badSlices s x.symRate x.ldpcRate x.groupMap x.slices x.targets).isNone

/-- The first field of CARRIER.PROVISION that is not allowed (R33, R48, R108, R170, R343). -/
def provBad (s : State) (q : Request) : Option Nat :=
  let rs := u32 q 4
  if rs < 144000 ∨ 288000 < rs ∨ rs % 2250 ≠ 0 then some 4
  else if 2 < u8 q 8 then some 8
  else if 2 < u8 q 9 then some 9
  else if u16 q 10 < 300 ∨ 600 < u16 q 10 ∨ u16 q 10 % 25 ≠ 0 then some 10
  else if !mapOk s (provMap q) then some 12
  else badSlices s rs (u8 q 8) (provMap q) (provSlices q) (provTargets q)

/-- CARRIER.PROVISION (R343). -/
def carrierProvision (q : Request) (s : State) : State × Reply :=
  let c := reqCarrier q
  if (s.car c).enabled then (s, refuse stBadState)
  else
    match provBad s q with
    | some off => (s, badParam off)
    | none =>
      (keepBody 0x0201 q (assignSubs c (onCar c (fun x => { x with
        provisioned := true, symRate := u32 q 4, ldpcRate := u8 q 8, adcFs := u8 q 9, dacSwing := u16 q 10
        groupMap := provMap q, slices := provSlices q, targets := provTargets q }) s)), ok)

def execCarrierProvision (q : Request) (s : State) : Out := .next (pmSync (deskRun 0x0201 carrierProvision q s))

/-- Numbers of the pools that are IN. -/
def poolsIn (s : State) : List Nat := (List.range 8).filter fun p => (getNat {} s.dec.pools p).st == .isIn

/-- The domains that an enable waits for are in RUN (R390, R342). -/
def carrierDomains (c : Fin 2) (s : State) : Bool :=
  s.dom c == .run && (poolsIn s).all (fun p => s.dom (8 + p) == .run) && stacksRun s

/-- A group's transmitter at the enable (R165, R219): a LEAF waits for the hub's grid, a carrier whose protection partner
already sends waits for its next volume; any other begins with VOLUME 0. Where its first ODUC frame begins is a free value. -/
def txStart (c : Fin 2) (s : State) (g : Fin 16) : State :=
  let leaf := s.dev.mode = some .leaf
  let joins := s.prot[g].exists_ && (s.fol (1 - c) g).txOn
  let s1 := onFol c g (fun f => { f with
    txOn := decide (¬leaf) && !joins, joinPartner := decide (¬leaf) && joins, txVolume := 0, txFolio := 0, cwPos := 0, aisTx := true
    leafRun := 0, adopt := none, oducPos := (s.freeVal 32).toNat % (15296 * 256), txTail := [], sentPast := [] }) s.drawn
  let s2 := onLink c g (fun l => { l with tx := [], rx := [], farTx := none, farRx := none, goodTx := false, goodRx := false }) s1
  let s3 := onOdum c g (fun f => { f with slices := List.replicate (groupSlices s c g.val) {} }) s2
  tryKex c g (noKeyCheck c g s3)

/-- The carrier is enabled (R40, R44, R72, R94, R165, R342, R465): the enable completes. -/
def carrierEnabled (c : Fin 2) (s : State) : State :=
  let s1 := onTx c (fun t => { t with txOn := true }) (onCar c (fun x => { x with enabled := true, enabling := false, fg := none }) s)
  let s2 := loadStart c (rxStart c (convStart c (applyEmph c s1)))
  let s3 := (groupsOf s2 c).foldl (txStart c) s2
  carrierHeard c (endTransition (.carrier c) { status := stOk } (driveLight false c (safetyLos c s3)))

/-- An enable goes on once its domains are in RUN (R40, R390): to the foreground calibration, or to its end. -/
def carrierProceed (c : Fin 2) (s : State) : State :=
  if (s.car c).enabling ∧ (s.car c).fg = none ∧ carrierDomains c s then
    if needsForeground s c then fgStart c true false s else carrierEnabled c s
  else s

/-- CARRIER.ENABLE (R342, R236, R390). A carrier whose provisioning does not fit a mode set after it counts as not provisioned
(R56; log 65). -/
def carrierEnable (q : Request) (s : State) : State × Reply :=
  let c := reqCarrier q
  let x := s.car c
  if !x.provisioned ∨ !provFits s c ∨ x.enabled ∨ x.enabling ∨ stopHolds s then (s, refuse stBadState)
  else
    match allocRegion (4 + c.val) (rxQueuePages s c.val) s with
    | .error st => (s, refuse st)
    | .ok s1 =>
      let s2 := requestDomain c .run (beginTransition (.carrier c) 0x0202 q (onCar c (fun x => { x with enabling := true }) s1))
      (carrierProceed c ((poolsIn s2).foldl (fun s p => requestDomain (8 + p) .run s) s2), .later)

def execCarrierEnable (q : Request) (s : State) : Out := .next (deskRun 0x0202 carrierEnable q s)

/-- With the last carrier gone the pools that are IN return to CLOCK_OFF (R390). -/
def restPools (s : State) : State :=
  if anyCarrier s then s else (poolsIn s).foldl (fun s p => requestDomain (8 + p) .clockOff s) s

/-- An enable fails (R41, R391): the carrier stays disabled and its receive queue is freed. -/
def carrierFailed (c : Fin 2) (st : Nat) (s : State) : State :=
  let s1 := onCar c (fun x => { x with enabling := false, fg := none, convs := x.convs.map fun y => { y.clearVisit with rot := .off } }) s
  restPools (endTransition (.carrier c) { status := st } (safetyLeave c (freeRegion (4 + c.val) s1)))

/-- The codewords, results and queue slots of a carrier are gone with its receive queue. -/
def dropCodewords (c : Fin 2) (s : State) : State :=
  let mine (k : Nat) : Bool := match s.cw k with | some w => w.car == c | none => false
  onDec (fun d => { d with
    words := d.words.filter fun w => w.car != c
    reserve := d.reserve.filter fun x => !mine x.2
    highArmed := d.highArmed || 2 * (d.reserve.filter fun x => !mine x.2).length < decDev s 0x90
    results := d.results.filter fun r => r.car != c
    slots := d.slots.filter fun x => x.car != c
    pools := d.pools.map fun p => { p with
      queue := p.queue.filter fun k => !mine k
      readers := p.readers.map fun (r : Reader) => { r with
        work := match r.work with
          | some w => if mine w.key then none else some w
          | none => none } } }) s

/-- A group's transmitter stops; its keys are erased (R165, R179). -/
def txStop (c : Fin 2) (s : State) (g : Fin 16) : State :=
  eraseKeys c g (onFol c g (fun f => { f with
    txOn := false, joinPartner := false, aisTx := false, adopt := none, leafRun := 0, cwPos := 0, sentOh := [], sentPayload := []
    sentPast := [], txTail := [], sentSyms := [], released := [], releasedBad := false }) s)

/-- Disable a carrier (R323, R390; R422 for a thermal stop): what is in progress is aborted, a protection group switches (R225),
converters, receiver, tones, loading and transmitter stop, keys are erased (R179), the receive queue is freed (R236), REQ is
cleared (R459), and the last carrier's pools rest. The carrier's domain stays in RUN. -/
def carrierStop (c : Fin 2) (s : State) : State :=
  let s0 := if (s.car c).enabled then protDisable c (terminate (.carrier c) s) else terminate (.carrier c) s
  let s1 := onTx c (fun t => { t with
    txOn := false, hostEmph := t.preEmphNext.getD t.hostEmph, preEmphNext := none, predist := t.predistNext.getD t.predist
    predistNext := none }) (onCar c (fun x => { x with enabled := false, enabling := false }) s0)
  let s2 := loadStop c (tonesStop c (rxOff c (convDisable c s1)))
  let s3 := dropCodewords c ((List.finRange 16).foldl (fun s g => onOdum c g (fun f => { f with declared := [], timing := [] })
    (txStop c s g)) s2)
  let s4 := { s3 with par := (s3.par.release .r103 (objCarrier c)).release .r183 (objCarrier c) }
  let s5 := protAll (reselect (safetyLeave c (freeRegion (4 + c.val) s4)))
  if (s.car c).enabled || (s.car c).enabling then restPools s5 else s5

/-- CARRIER.DISABLE (R323, R342). -/
def carrierDisable (q : Request) (s : State) : State × Reply := (carrierStop (reqCarrier q) s, ok)

def execCarrierDisable (q : Request) (s : State) : Out := .next (deskRun 0x0203 carrierDisable q s)

/-- FOREGROUND_CAL_COMPLETE (R41): every group has ended. Positions are assigned; with more than 4 slices of a converter RETIRED
the calibration fails, else the Catalogue is written and the enable, or CONV.CALIBRATE, completes. -/
def foregroundDone (c : Fin 2) (s : State) : State :=
  match (s.car c).fg with
  | none => s
  | some f =>
    if s.dom c ≠ .run ∨ f.group < 17 + f.repeatGroups then s
    else
      let old := s.car c
      let s1 := onCar c (fun x => { x with convs := x.convs.map Conv.assign }) s
      let rest (s : State) : State :=
        onCar c (fun x => { x with fg := none, convs := x.convs.map fun y => { y.clearVisit with rot := .off } }) s
      let s2 := (List.finRange 8).foldl (fun s k => fgEvents c f old k s) s1
      if (s2.car c).convs.toList.any fun x => 4 < x.retired then
        if f.byEnable then carrierFailed c stCalFail s2 else endTransition (.conv c 0xFF) { status := stCalFail } (rest s2)
      else
        let s3 := (List.finRange 8).foldl (fun s k => convWrite c k s) s2
        if f.byEnable then carrierEnabled c s3 else endTransition (.conv c 0xFF) (fgReport s3 c) (rest s3)

def execForegroundCalComplete (c : Fin 2) (s : State) : Out := .next (foregroundDone c s)

/-- The instant `sub` × 2^-16 ns after the present system tick, in steps of 1/64 of a subcarrier symbol (R70, R101). -/
def symStamp (s : State) (c : Fin 2) (sub : Nat) : Nat :=
  let r := (s.car c).symRate
  s.tod16 + sub * r / 16384000 * 16384000 / r

/-- One quadrature dimension as the demapper reads it (R68, R69, R106), by its table entry: erasures and zeros of a subcarrier that is
not LOCKED. -/
def demapDim (w : Nat) (locked : Bool) (snr y : Int) : Dim :=
  let f := w / 16384
  let e := entryE w
  { llr := (List.range (fmtCoded f)).map fun l => if locked then (Config.llr f e snr l y).toNat else 0
    up := (List.range (fmtLevels f - fmtCoded f)).map fun l => locked && Config.hardLevel f e snr (fmtCoded f + l) y }

/-- The dimensions of a folio in stream order (R68, R111, R161): `ys` are the components as equalised, by period, subcarrier of the group
and X I, X Q, Y I, Y Q; only data periods give output. -/
def demapFolio (s : State) (c : Fin 2) (g : Fin 16) (ys : List Int) : List Dim :=
  let ks := groupSubs s c g.val
  let n := ks.length
  let tab := (s.txg c g).rxTable
  (dataPeriodList n).flatMap fun i => ks.zipIdx.flatMap fun k => (List.range 4).map fun d =>
    let x := getNat {} (s.rxc c).subs k.1
    demapDim (tab.getD k.1 0) (x.st == .locked) (if d < 2 then x.snrX else x.snrY) (ys.getD (4 * (i * n + k.2) + d) 0)

/-- Bits of the u-th upper level among dimensions. -/
def upperBits (u : Nat) (ds : List Dim) : Nat := (ds.filter fun d => u < d.up.length).length

/-- A folio enters the stream and the receive queue (R30, R111): before the codeword boundaries are known it is kept for its own header
only. -/
def RxGroup.takeFolio (x : RxGroup) (arrival : Nat) (ds : List Dim) : RxGroup :=
  let on_ := x.synced || x.volStart
  { x with
    segs := (if on_ then x.segs else []) ++ [{ arrival := arrival, newVol := x.volStart, dims := ds }]
    synced := on_, volStart := false
    due := x.due ++ [{ arrival := arrival, bits2 := upperBits 0 ds, bits3 := upperBits 1 ds }] }

/-- FOLIO_ARRIVAL (R67 to R70, R73, R95, R111): the instant, `sub` × 2^-16 ns after the tick, at which the first symbol left the ADC is
stamped, and the folio's pilots are heard. In TRACK a scheduled table takes effect, LOST subcarriers start again on its training, and
its data are demapped. -/
def folioArrival (c : Fin 2) (g : Fin 16) (sub : Nat) (pilots : List PilotRun) (ys : List Int) (s : State) : State :=
  let st := (s.rxg c g).st
  let a := symStamp s c sub
  if st = .track ∨ st = .eqAcq then
    let s1 := hearPilots c g pilots (onRxg c g (fun x => { x with arrival := a }) s)
    if st = .track then
      let s2 := rxLoadBoundary c g (reacquireSubs c g s1)
      onRxg c g (fun x => x.takeFolio a (demapFolio s2 c g ys)) s2
    else s1
  else s

def execFolioArrival (c : Fin 2) (g : Fin 16) (sub : Nat) (pilots : List PilotRun) (ys : List Int) (s : State) : Out :=
  .next (folioArrival c g sub pilots ys s)

/-- LOS_DECLARE (R71, R72, R74, R135, R221, R465): of a carrier whose receiver runs. -/
def losDeclare (c : Fin 2) (s : State) : State :=
  if (s.rxc c).st = .off ∨ (s.rxc c).los then s
  else carrierHeard c (safetyLos c (tonesOff c (rxLos c s)))

def execLosDeclare (c : Fin 2) (s : State) : Out := .next (losDeclare c s)

/-- LOS_CLEAR (R71, R72, R135, R465). -/
def losClear (c : Fin 2) (s : State) : State :=
  if (s.rxc c).st = .off ∨ !(s.rxc c).los then s else safetyLosClear c (tonesIdle c (rxLosClear c s))

def execLosClear (c : Fin 2) (s : State) : Out := .next (losClear c s)

/-- RX_VOLUME_BOUNDARY (R58, R61, R63, R66, R73, R75, R174, R181, R220). -/
def execRxVolumeBoundary (c : Fin 2) (g : Fin 16) (v : RxVolume) (s : State) : Out :=
  .next (reselect (protLeads g (evalWhole (.odum c g)
    (rxKeyBoundary c g (s.fol c g).rxVolume (rxVolumeBoundary c g v s)))))

/-- Stream bits of a folio under a table (R106, R111). -/
def folioBits (s : State) (c : Fin 2) (g : Nat) (tab : List Nat) : Nat :=
  let ks := groupSubs s c g
  dataPeriods ks.length * (ks.map fun k => if tab.getD k 0 / 16384 = 0 then 4 else 8).sum

/-- Stream bits of the volume being sent in all, from the folio that begins (R111): an armed change ends the table in force. -/
def volumeBits (s : State) (c : Fin 2) (g : Fin 16) : Nat :=
  let x := s.txg c g
  let f := s.fol c g
  let left := 256 - f.txFolio
  let a := if x.st = .armed then min x.countdown left else left
  f.cwPos + a * folioBits s c g.val x.tableCur + (left - a) * folioBits s c g.val x.tableNext

/-- CW_INDEX and CW_OFFSET of the folio that begins (R111, R164): only whole codewords count. -/
def cwField (s : State) (c : Fin 2) (g : Fin 16) : Nat × Nat :=
  let f := s.fol c g
  let k := ceilDiv f.cwPos 20480
  let off := 20480 * k - f.cwPos
  if off < folioBits s c g.val (s.txg c g).tableCur ∧ 20480 * (k + 1) ≤ volumeBits s c g then (k, off) else (0xFFFF, 0xFFFFFF)

/-- ODUC_PTR of the folio that begins (R164, R168). -/
def oducPtr (s : State) (c : Fin 2) (g : Fin 16) : Nat :=
  let off := (15296 - (s.fol c g).oducPos % 15296) % 15296
  if off < sliceBytes (s.car c).symRate then off else 0xFFFF

/-- The folio header (R164). -/
def txHeader (s : State) (c : Fin 2) (g : Fin 16) (ais : Bool) : List Byte :=
  let f := s.fol c g
  let cw := cwField s c g
  let b := beBytes 4 f.txVolume ++ beBytes 1 f.txFolio ++ beBytes 1 ((if multiGroup s then 16 * g.val else 0) + b2n ais)
    ++ beBytes 1 (groupSlices s c g.val) ++ beBytes 2 cw.1 ++ beBytes 3 cw.2 ++ beBytes 2 (oducPtr s c g)
  b ++ beBytes 2 (crc16 b)

/-- The Colophon record of the folio that begins (R265): even folios carry the TX stamp of the volume before, odd ones the
latest RX stamp; KIND 0 when there is none. -/
def txColophon (s : State) (c : Fin 2) (g : Fin 16) : List Byte :=
  let f := s.fol c g
  let l := s.lnk c g
  let x := if f.txFolio % 2 = 0 then (l.tx.find? fun x => x.1 == (f.txVolume + 2 ^ 32 - 1) % 2 ^ 32).map fun x => (1, x)
    else l.rx.head?.map fun x => (2, x)
  let tv := 32 * b2n s.time.todValid
  let b := match x with
    | some (k, v, t) => let st := stampOf t
      beBytes 1 (64 * k + tv) ++ beBytes 1 v ++ beBytes 6 st.sec ++ beBytes 4 st.ns ++ beBytes 2 st.frac
    | none => beBytes 1 tv ++ List.replicate 13 0
  b ++ beBytes 2 (crc16 b)

/-- The payload area encrypted when the volume is (R171, R172). -/
def encryptFolio (c : Fin 2) (g : Fin 16) (bs : List Byte) (s : State) : List Byte × State :=
  let k := s.cry c g
  let f := s.fol c g
  if !k.txEnc then (bs, s)
  else
    let sl := getNat {} k.slots k.txSlot
    let acc := if f.txFolio = 0 then
        gcmStart sl.keyTx (gcmIv c g sl.epoch k.keyVolTx) (gcmAad c g f.txVolume (groupSlices s c g.val))
      else k.txAcc
    let e := gcmEncrypt acc bs
    (e.2, onCry c g (fun k => { k with txAcc := e.1 }) s)

/-- Bits of a folio's payload area with its fill (R166, R169): what its tables carry, in whole bits (the floor: log 69). -/
def folioCap (s : State) (c : Fin 2) (g : Nat) : Nat :=
  targetOf s c g * dataPeriods (groupSubs s c g).length * [826, 873, 920].getD (s.car c).ldpcRate 873 / 8000

/-- The stream bits of the folio that begins, and the part of a codeword that goes on in the next (R110, R111): what a codeword begun
before leaves, whole codewords, each encoded from what the distribution matcher gives it (R83, R107), then the fill. -/
def folioStream (s : State) (c : Fin 2) (g : Fin 16) (coded : List Byte) : List Bool × List Bool :=
  let f := s.fol c g
  let x := s.txg c g
  let rate := (s.car c).ldpcRate
  let need := folioBits s c g.val x.tableCur
  let whole := volumeBits s c g / 20480
  let n := min (ceilDiv (need - f.txTail.length) 20480) (whole - ceilDiv f.cwPos 20480)
  let st := f.txTail ++ (List.range n).flatMap fun i => streamOrder (ldpcEncode rate (Config.matchedInfo coded rate x.tableCur i))
  let fill := prbsBits 31 28 (need - st.length) (prbsSkip 31 28 (f.cwPos + st.length - 20480 * whole) (2 ^ 31 - 1))
  ((st ++ fill).take need, st.drop need)

/-- Amplitudes of dimensions in stream order from their formats, the stream bits and the upper bits (R106, R111). -/
def layDims : List Nat → List Bool → List Bool → List Int
  | [], _, _ => []
  | f :: fs, st, up =>
    let c := fmtCoded f
    let u := fmtLevels f - c
    let label := ((st.take c ++ up.take u).reverse).foldl (fun a b => 2 * a + b2n b) 0
    grayAmp f label :: layDims fs (st.drop c) (up.drop u)

/-- The symbols of a folio by period and subcarrier (R97, R161 to R163): pilots and training, the overhead block `oh`, and data. -/
def folioSyms (s : State) (c : Fin 2) (g : Fin 16) (oh coded : List Byte) (st : List Bool) : List (List LineSym) :=
  let ks := groupSubs s c g.val
  let n := ks.length
  let tab := (s.txg c g).tableCur
  let fmt (k : Nat) : Nat := tab.getD k 0 / 16384
  let fs := (List.range (dataPeriods n)).flatMap fun _ => ks.flatMap fun k => List.replicate 4 (fmt k)
  let amps := layDims fs st (Config.matchedUpper coded (s.car c).ldpcRate tab 0)
  let ob := sendBits oh
  (List.range 4096).map fun i => ks.zipIdx.map fun k =>
    match periodOf n i with
    | .pilot j => .fixed (pilotSym k.1 j)
    | .training => .fixed (trainSym k.1 i)
    | .overhead r => .fixed (ohSym n ob r k.2)
    | .data r => .data (fmt k.1) ((amps.drop (4 * (r * n + k.2))).take 4)

/-- A folio begins (R92, R97, R101, R161 to R168, R173, R176, R216, R265): its overhead block, payload area and symbols. `payload` is
the group's ODUCm area from the transmit queue; without one, and while encryption is on without a key, ODUC-AIS is sent. -/
def sendFolio (c : Fin 2) (g : Fin 16) (stamp : Nat) (payload : Option (List Byte)) (s : State) : State :=
  let f := s.fol c g
  let k := s.cry c g
  let b := sliceBytes (s.car c).symRate
  let m := groupSlices s c g.val
  let ais := payload.isNone || (encMode s c != 0 && !k.txEnc)
  let area := if ais then aisArea m b f.oducPos else padTo (m * b) (payload.getD [])
  let e := encryptFolio c g area s
  let sent := folioScramble f.txFolio (folioCap s c g.val) e.1
  let oh := scramble (txHeader s c g ais ++ txLoadingField s c g ++ txKeyField k ++ srSent s g ++ txColophon s c g)
  let coded := Config.outerEncode (sent :: f.sentPast)
  let st := folioStream s c g coded
  let syms := folioSyms s c g oh coded st.1
  let s1 := if f.txFolio = 0 then onLink c g (fun l => { l with tx := ((f.txVolume, stamp) :: l.tx).take 256 }) e.2 else e.2
  onTxg c g (fun x => { x with sent := txLoadingField s c g }) (onFol c g (fun f => { f with
    sentNum := (f.txVolume, f.txFolio), plain := payload, aisTx := ais, txStamp := stamp, sentOh := oh, sentPayload := sent, sentPast := (sent :: f.sentPast).take 4, txTail := st.2
    sentSyms := syms, cwPos := f.cwPos + folioBits s c g.val (s.txg c g).tableCur, oducPos := (f.oducPos + b) % (15296 * 256)
    txFolio := (f.txFolio + 1) % 256 }) s1)

/-- The words of the transmit queue that STORE reads for a slice's share (R28, R242): the bytes, and whether any came poisoned from
the Stacks. A word outside the queue's region is none. -/
def readWords (ws : List Nat) (s : State) : List Byte × Bool × State :=
  ws.foldl (fun (x : List Byte × Bool × State) w =>
    let d := stkRead (w % 2 ^ 31) none false false x.2.2
    (x.1 ++ d.1.data, x.2.1 || d.1.poison, d.2)) ([], false, s)

/-- The payload area of the folio that begins, with its poison (R28, R29, R168): in REGENERATOR mode what the other carrier's group has
released; else the shares of the slices, each from the words of the transmit queue that STORE reads for it. None without them. STORE reads an
item once for a protection group: the folio of the same number on the other carrier carries the same area (R218). -/
def txArea (c : Fin 2) (g : Fin 16) (src : Option (List (List Nat))) (s : State) : Option (List Byte) × Bool × State :=
  let b := sliceBytes (s.car c).symRate
  let m := groupSlices s c g.val
  let p := s.fol (1 - c) g
  if s.prot[g].exists_ ∧ p.txOn ∧ p.txStamp ≠ 0 ∧ p.sentNum = ((s.fol c g).txVolume, (s.fol c g).txFolio) then (p.plain, false, s)
  else if s.dev.mode = some .regenerator then
    let o := s.fol (1 - c) g
    (if o.released.isEmpty then none else some o.released, false, s)
  else
    match src with
    | none => (none, false, s)
    | some ws =>
      if ws.length ≠ m ∨ ws.any (fun l => l.any fun w => s.stk.codeAt (pageOf (w % 2 ^ 31)) != 2) then (none, false, s)
      else
        let r := ws.foldl (fun (x : List (List Byte) × Bool × State) l =>
          let y := readWords l x.2.2
          (x.1 ++ [padTo b y.1], x.2.1 || y.2.1, y.2.2)) ([], false, s)
        let ch := chutePoison 18 (10 + c.val) r.2.2
        (some (layArea m b r.1), r.2.1 || !ch.1.isEmpty, ch.2)

/-- A HUB's groups share their folio timing (R170): a group other than the carrier's first sends the folio that the first has begun. -/
def hubStep (c : Fin 2) (g : Fin 16) (s : State) : State :=
  let l := (groupsOf s c).headD 0
  if s.dev.mode = some .hub ∧ l ≠ g ∧ (s.fol c l).txOn then
    onFol c g (fun f => { f with txVolume := (s.fol c l).txVolume, txFolio := ((s.fol c l).txFolio + 255) % 256 }) s
  else s

/-- TX_FOLIO_BOUNDARY (R94, R101, R163): the countdown, then the folio that begins `sub` × 2^-16 ns after the tick. A transmit-queue
item that comes poisoned has ODU-AIS in its slots (R242). -/
def txFolioBoundary (c : Fin 2) (g : Fin 16) (sub : Nat) (src : Option (List (List Nat))) (s : State) : State :=
  if !(s.fol c g).txOn then s
  else
    let a := txArea c g src s
    sendFolio c g (symStamp s c sub) a.1 (loadBoundary c g (hubStep c g (poisonOutIf a.2.1 2 a.2.2)))

def execTxFolioBoundary (c : Fin 2) (g : Fin 16) (sub : Nat) (src : Option (List (List Nat))) (s : State) : Out :=
  .next (txFolioBoundary c g sub src s)

/-- A volume begins with a number. -/
def beginVolume (c : Fin 2) (g : Fin 16) (v : Nat) (s : State) : State :=
  onFol c g (fun f => { f with txOn := true, joinPartner := false, txVolume := v % 2 ^ 32, txFolio := 0, cwPos := 0, txTail := [], adopt := none }) s

/-- A partner that waits begins its first volume with this one (R219). -/
def joinWith (c : Fin 2) (g : Fin 16) (s : State) : State :=
  if (s.fol (1 - c) g).joinPartner then beginVolume (1 - c) g (s.fol c g).txVolume s else s

/-- Encryption settings that waited for a change take effect (R183). -/
def releaseCrypt (c : Fin 2) (s : State) : State := if changeArmed s c then s else { s with par := s.par.release .r183 (objCarrier c) }

/-- A group's volume boundary (R165, R171 to R176, R219). A LEAF that does not send yet begins here, and one whose count disagrees
takes the hub's. -/
def groupVolume (c : Fin 2) (s : State) (g : Fin 16) : State :=
  let f := s.fol c g
  let next := match f.adopt with | some v => v + 1 | none => f.txVolume + 1
  if f.txOn then joinWith c g (txKeyVolume c g (beginVolume c g next s))
  else if s.dev.mode = some .leaf ∧ (s.txc c).txOn ∧ f.adopt.isSome then txKeyVolume c g (beginVolume c g next s)
  else s

/-- TX_VOLUME_BOUNDARY (R98 to R100, R165, R170 to R176, R219): `clips` are the samples that each DAC clipped in the volume. A HUB's
groups share their volumes. -/
def txVolumeBoundary (c : Fin 2) (g : Fin 16) (clips : List Nat) (samples : Nat) (s : State) : State :=
  let s1 := if (s.fol c g).txOn then releaseCrypt c (txVolumeDsp c clips samples s) else s
  (if s.dev.mode = some .hub then groupsOf s c else [g]).foldl (groupVolume c) s1

def execTxVolumeBoundary (c : Fin 2) (g : Fin 16) (clips : List Nat) (samples : Nat) (s : State) : Out :=
  .next (txVolumeBoundary c g clips samples s)

/-- Read a codeword's slot for its release (R124, R125): the read begins, so that later results are late. Its data, its poison, and
whether the codeword has not converged. -/
def readSlot (c : Fin 2) (slot seq : Nat) (s : State) : List Byte × Bool × Bool × State :=
  let q := s.dec.slots.find? fun x => x.slot == slot
  let words := match q with
    | some x => x.words
    | none => infoCols (s.car c).ldpcRate / 2
  let unres := match q with
    | some x => x.unres || x.seq != seq || x.car != c
    | none => true
  let s1 := onDec (fun d => { d with
    slots := { slot := slot, car := c, seq := seq, words := words, unres := unres, readBegun := true }
      :: d.slots.filter fun x => x.slot != slot }) s
  let r := readItem slot words (some (1, seq % 256)) s1
  (r.1, r.2.1, unres, r.2.2)

/-- The digest of a carrier hears of a released folio of its lowest group (R478; which group: log 50). -/
def mateDigest (c : Fin 2) (g : Fin 16) (folio : Nat) (pl : List Byte) (bad : Bool) (s : State) : State :=
  if s.mate.role = 0 ∨ (groupsOf s c).head? ≠ some g then s
  else onMate (fun m => { m with digs := upd m.digs c fun d =>
    if folio = 0 then { d with next := 1, acc := crc32cOver 0xFFFFFFFF pl, bad := bad }
    else if folio ≠ d.next then { d with next := 0 }
    else
      let acc := crc32cOver d.acc pl
      let bd := d.bad || bad
      if folio = 255 then { d with next := 0, last := if bd then 0 else crc32cEnd acc, lastBad := bd }
      else { d with next := folio + 1, acc := acc, bad := bd } }) s

/-- The slots of a folio are read in turn: their data, poison, and how many codewords have not converged (R124). -/
def readSlots (c : Fin 2) (slots : List (Nat × Nat)) (s : State) : List Byte × Bool × Nat × State :=
  slots.foldl (fun (x : List Byte × Bool × Nat × State) y =>
    let r := readSlot c y.1 y.2 x.2.2.2
    (x.1 ++ r.1, x.2.1 || r.2.1, x.2.2.1 + b2n r.2.2.1, r.2.2.2)) ([], false, 0, s)

/-- The release time of a folio (R30, R123), 2^-16 ns: its arrival, the playout delay in force and the carrier's alignment offset. -/
def releaseTime (s : State) (c : Fin 2) (d : DueFolio) : Nat := d.arrival + playoutNs s c.val * 65536 + alignOffset s c.val

/-- Poisoned data of a released folio reach the bonds that its tributaries leave on, each counting the folio once (R202, R242). -/
def poisonEgress (c : Fin 2) (g : Fin 16) (s : State) : State :=
  (s.map.tribs.filter fun t => t.ckind == 0 && t.active && t.group == g.val && demapSide s (carrierOf t.cont) g == c).foldl (fun s t =>
    { s with bonds := updNat s.bonds t.bond fun f => { f with poisonedEgress := bump f.poisonedEgress } }) s

/-- A folio leaves the receive queue (R124, R131, R166 to R168, R171, R181, R242): its slots are read as they stand, the outer decoder's
output is descrambled and decrypted, and ODUC-AIS replaces it while a defect with that action is present. The decoders' latency of
four folios is timing (log 57). -/
def releaseFolio (c : Fin 2) (g : Fin 16) (d : DueFolio) (s : State) : State :=
  let v := (d.num.getD ((s.fol c g).rxVolume, (s.fol c g).rxFolio)).1
  let folio := (d.num.getD ((s.fol c g).rxVolume, (s.fol c g).rxFolio)).2
  let rd := readSlots c d.slots s
  let ch := chutePoison 18 (10 + c.val) (countUnresolved c rd.2.2.1 rd.2.2.2)
  let bad := rd.2.1 || !ch.1.isEmpty
  let o := Config.outerDecode (rd.1 :: (s.rxg c g).past)
  let s1 := addPreFec c 2 ([d.bits2, d.bits3], [o.level2, o.level3]) (onRxg c g (fun x => { x with past := (rd.1 :: x.past).take 4 })
    (onDecCtr c (fun x => { x with outerBits := satAdd x.outerBits o.corrected, outerBlocks := satAdd x.outerBlocks o.blocks }) ch.2))
  let s2 := raiseIf (o.blocks != 0) 87 (objCarrier c) (evtArg 0 0 0 0) s1
  let b := sliceBytes (s.car c).symRate
  let m := groupSlices s c g.val
  let x := decryptFolio c g v folio (folioScramble folio (folioCap s c g.val) (padTo (m * b) o.payload)) s2
  let area := if (x.2.fol c g).aisRx then aisArea m b (x.2.fol c g).aisPos else x.1
  let s3 := mateDigest c g folio area bad (onFol c g (fun f => { f with
    released := area, releasedBad := bad, aisPos := (f.aisPos + b) % (15296 * 256) }) x.2)
  groupHeard c g (poisonOutIf (bad && s.dev.mode = some .regenerator) 3 (poisonOutIf bad 1 (if bad then poisonEgress c g s3 else s3)))

/-- FOLIO_RELEASE (R30): the oldest folio that waits is released once its release time has come. -/
def folioRelease (c : Fin 2) (g : Fin 16) (s : State) : State :=
  match (s.rxg c g).due with
  | [] => s
  | d :: r =>
    if s.tod16 < releaseTime s c d then s
    else releaseFolio c g d (onRxg c g (fun x => { x with due := r }) s)

def execFolioRelease (c : Fin 2) (g : Fin 16) (s : State) : Out := .next (folioRelease c g s)

end Sys2Proof.Machine
end

