-- ==== Sys2Proof/Machine/DeskRows.lean ====
section
/-! DEFINITION. The Desk's own rows: doorbells, acceptance, holds, timeouts, responses, channel reset, firmware restarts and
their registers (13_curator_desk.md R308 to R329). -/

namespace Sys2Proof.Machine

/-- Which channels a path reaches (R308). -/
def chanLive (s : State) (p : Path) (ch : Fin 4) : Bool :=
  pathServed s p &&
  match p with
  | .bar0 => ch.val == 0 || ch.val == 3
  | .spi => ch.val == 1
  | .mate => ch.val == 2

/-- A doorbell value is taken (R312): the ring holds at most 64 entries and REQ_TAIL does not move backwards. -/
def doorbellOk (c : Channel) (v : Word16) : Bool :=
  (c.reqTail - c.reqHead).toNat ≤ (v - c.reqHead).toNat && (v - c.reqHead).toNat ≤ 64

/-- DESK_REQ_TAIL_WRITE (R312, R329). -/
def doorbell (ch : Fin 4) (v : Word16) (s : State) : State :=
  onChan ch (fun c => if doorbellOk c v then { c with reqTail := v } else { c with doorbellErr := true, badTail := v }) s

/-- A 16-bit register written as a word: its Reserved upper half must be 0 (R10). -/
def word16Write (v : Word32) (f : Word16 → State → State) (s : State) : Out :=
  if v.toNat < 65536 then .next (f (BitVec.ofNat 16 v.toNat) s) else .fault .reservedFieldWritten

def execDeskReqTailWrite (p : Path) (ch : Fin 4) (v : Word32) (s : State) : Out :=
  if chanLive s p ch then word16Write v (doorbell ch) s else .next s

def execRequestAccept (ch : Fin 4) (s : State) : Out := .next (acceptNext ch s)

/-- DESK_RSP_HEAD_WRITE (R314, R317): responses before the new head are read and their bulk slots free. -/
def rspHead (ch : Fin 4) (v : Word16) (s : State) : State :=
  onChan ch (fun c => { c with
    rspHead := v,
    slots := c.slots.filter fun u => match u.unread with
      | some i => !((i - c.rspHead).toNat < (v - c.rspHead).toNat)
      | none => true }) s

def execDeskRspHeadWrite (p : Path) (ch : Fin 4) (v : Word32) (s : State) : Out :=
  if chanLive s p ch then word16Write v (rspHead ch) s else .next s

/-- Microseconds from the acceptance of a request (R316). -/
def waitedUs (s : State) (o : Outst) : Nat := (s.dev.ticks - o.at_) * 16 / 10000

/-- The hold limit of a request in ms (R315, R322). -/
def holdMs (q : Request) : Nat := if q.holdMs = 0 then 10000 else q.holdMs.toNat

/-- HOLD_LIMIT_EXPIRY (R322): a request still held when HOLD_MS have passed since its acceptance returns ST_IN_TRANSITION. -/
def holdLimit (ch : Fin 4) (tag : Word16) (s : State) : State :=
  match (s.chan ch).find tag with
  | some o => if o.phase = .held ∧ 1000 * holdMs o.req ≤ waitedUs s o then complete ch tag { status := stInTransition } s else s
  | none => s

def execHoldLimitExpiry (ch : Fin 4) (tag : Word16) (s : State) : Out := .next (holdLimit ch tag s)

/-- The transitions that a request began go on without it. -/
def orphan (ch : Fin 4) (tag : Word16) (ts : List Transition) : List Transition :=
  ts.map fun t => if t.by_ = some (ch, tag) then { t with by_ := none } else t

/-- Completion times in ms that the command tables state for commands that their functions complete later (R338 to R362). A
calibration takes 800 ms and 40 ms for each repeat group (R40); a snapshot 100 ms after its instant; a time that depends on
admission (R392) is counted without the waits (log 77). -/
def statedMs (s : State) (op : Nat) (q : Request) : Option Nat :=
  let calib : Nat := match s.cars[carrierOf (objIndex q)].fg with
    | some f => 800 + 40 * (List.range 8).foldl (fun m k => max m (ceilDiv (f.repeats.filter fun r => r / 132 == k).length 8)) 0
    | none => if op = 0x0202 then 50 else 800
  if op = 0x0202 ∨ op = 0x0210 then some calib
  else if op = 0x0D10 then some (match s.cen.want with
    | some t => 100 + (t - s.tod16) / 65536000000
    | none => 100)
  else lookupD none op [(0x0102, some 100), (0x0212, some 20), (0x0504, some 50), (0x0801, some 20), (0x0922, some 10000),
    (0x0A01, some 50), (0x0A03, some 200), (0x0B0B, some 2000), (0x0C05, some 1), (0x0F20, some 100), (0x1002, some 20),
    (0x1010, some 200), (0x1011, some 20), (0x1012, some 50), (0x1022, some 200), (0x1103, some 100), (0x1201, some 50)]

/-- The completion time of a command in ms (R331: 1 ms for QUERY and 10 ms for any other class when the table states none). -/
def completionMs (s : State) (op : Nat) (q : Request) : Nat := (statedMs s op q).getD (if isQuery op then 1 else 10)

/-- FUNCTION_REPLY_TIMEOUT (R324): when the completion time and 1 s have passed with no reply, ST_TIMEOUT, DESK_FUNC_TIMEOUT (3), and
the function counts as in transition. -/
def replyTimeout (ch : Fin 4) (tag : Word16) (s : State) : State :=
  match (s.chan ch).find tag with
  | some o =>
    if o.phase = .started ∧ 1000 * (completionMs s o.op o.req + 1000) ≤ waitedUs s o then
      let fn : Fn := match cmdInfo o.op with | some c => fnOfOp c o.req | none => .device
      let ts := orphan ch tag s.desk.transitions
      let ts1 := if ts.any fun t => t.fn == fn then ts else { fn := fn, op := o.op, by_ := none } :: ts
      let s1 := { s with desk := { s.desk with transitions := ts1 } }
      raise 3 objDevice (evtArg 0 ch.val o.op (objOf o.req)) (complete ch tag { status := stTimeout } s1)
    else s
  | none => s

def execFunctionReplyTimeout (ch : Fin 4) (tag : Word16) (s : State) : Out := .next (replyTimeout ch tag s)

/-- A channel's reset begins (R325, steps 1 to 4): READY clears, requests not started are dropped. -/
def channelReset (ch : Fin 4) (s : State) : State :=
  onChan ch (fun c => { c with
    ready := false, resetting := true, outst := c.outst.filter fun o => o.phase == .started, done := [] }) s

/-- A write to DESK_CH_CTRL (R325, R329): [1] IRQ_EN, [0] RESET, the rest Reserved. -/
def chCtrl (ch : Fin 4) (v : Word32) (s : State) : State :=
  let s1 := onChan ch (fun c => { c with irqEn := v.getLsbD 1 }) s
  if v.getLsbD 0 then channelReset ch s1 else s1

def execDeskChReset (p : Path) (ch : Fin 4) (v : Word32) (s : State) : Out :=
  if chanLive s p ch then
    if v.toNat < 4 then .next (chCtrl ch v s) else .fault .reservedFieldWritten
  else .next s

/-- CHANNEL_RESET_COMPLETE (R325, step 5): once the requests already started have completed (or timed out, R324), indices to 0, bulk
slots free, ACCEPT_SEQ to 0 (R316), READY. -/
def channelResetComplete (ch : Fin 4) (s : State) : State :=
  if (s.chan ch).resetting && (s.chan ch).outst.isEmpty then
    onChan ch (fun c => { c with
      reqTail := 0, reqHead := 0, rspTail := 0, rspHead := 0, seq := 0, done := [], slots := [], resetting := false, ready := true }) s
  else s

def execChannelResetComplete (ch : Fin 4) (s : State) : Out := .next (channelResetComplete ch s)

/-- FIRMWARE_RESTART_READY (R326, R327): READY is set again; an activation adds 1 to RESTARTS. During an entry to SLEEP or below
and its exit READY stays clear (R388). -/
def restartReady (s : State) : State :=
  if s.desk.restarting then
    { s with desk := { s.desk with
      restarting := false, activating := false, ready := s.pwr.entering.isNone && !s.pwr.exiting && s.pwr.st != .sleep,
      restarts := if s.desk.activating then s.desk.restarts + 1 else s.desk.restarts } }
  else s


/-- Every accepted request of every channel returns ST_RESTARTED (R327). -/
def failAll (st : Nat) (s : State) : State :=
  (List.finRange 4).foldl (fun s ch => ((s.chan ch).outst.map (·.req.tag)).foldl
    (fun s tag => complete ch tag { status := st } s) s) s

/-- WATCHDOG_RESTART (R327, R366): DESK_RESTART (8) carries RESTARTS; transitions go on without the Curator. -/
def watchdogRestart (s : State) : State :=
  let s1 := failAll stRestarted s
  let s2 := { s1 with desk := { s1.desk with
    restarts := s1.desk.restarts + 1, restarting := true, activating := false, ready := false,
    transitions := s1.desk.transitions.map fun t => { t with by_ := none } } }
  raise 8 objDevice (evtArg 0 0 0 s2.desk.restarts.toNat) s2

/-- Reading a channel's register block (R329). -/
def chanRead (c : Channel) (off : Nat) : Nat :=
  if off = 0x00 then c.reqTail.toNat
  else if off = 0x04 then c.reqHead.toNat
  else if off = 0x08 then c.rspTail.toNat
  else if off = 0x0C then c.rspHead.toNat
  else if off = 0x10 then 2 * b2n c.irqEn
  else if off = 0x14 then
    65536 * c.outstanding + 8 * b2n c.denied + 4 * b2n c.entryErr + 2 * b2n c.doorbellErr + b2n c.ready
  else if off = 0x18 then c.badTail.toNat
  else 0

/-- DESK_STATUS (R328). -/
def deskStatus (s : State) : Nat :=
  s.desk.restarts.toNat * 2 ^ 24 + 4 * b2n s.dev.imageB + 2 * b2n s.desk.restarting + b2n s.desk.ready

/-- A write to DESK_CH_STATUS clears its sticky bits (R9, R329); [21:16] and [0] are read-only and ignore the write. -/
def chStatusWrite (ch : Fin 4) (v : Word32) (s : State) : Out :=
  if Nat.land v.toNat 0xFFC0FFF0 ≠ 0 then .fault .reservedFieldWritten
  else
    .next (onChan ch (fun c => { c with
      denied := c.denied && !v.getLsbD 3, entryErr := c.entryErr && !v.getLsbD 2,
      doorbellErr := c.doorbellErr && !v.getLsbD 1 }) s)

end Sys2Proof.Machine
end

