-- ==== Sys2Proof/Machine/EvtRows.lean ====
section
/-! DEFINITION. The event tree's rows: occurrences, W1C status, enables, force, MSI-X, the log (15_events_census.md R364 to
R371, R516; R341). -/

namespace Sys2Proof.Machine

/-- Which paths reach the event and Census registers (R308). -/
def evtLive (s : State) (p : Path) : Bool := pathServed s p && p != .mate

/-- EVENT_OCCURRENCE (R365, R516). -/
def execEventOccurrence (n : Fin 512) (ob : Word32) (arg : EvtArg) (s : State) : Out :=
  .next (raise n.val ob.toNat arg s)

/-- EVT_STATUS of a group (R369). -/
def EventTree.statusOf (e : EventTree) (g : Nat) : Nat := field e.status.toNat (32 * g) 32
def EventTree.enOf (e : EventTree) (g : Nat) : Nat := field e.en.toNat (32 * g) 32

/-- Clear the status bits of a group that a word has set (R367). -/
def EventTree.clearStatus (e : EventTree) (g : Nat) (v : Word32) : EventTree :=
  { e with status := (List.range 32).foldl (fun m i => if v.getLsbD i then clrBit m (32 * g + i) else m) e.status }

/-- EVT_STATUS_WRITE (R367): the bits written 1 clear; a source that occurs in the same cycle stays set and counts as newly
set for signalling. `occ` lists those occurrences: bit, OBJ, arguments. -/
def evtStatusWrite (g : Fin 16) (v : Word32) (occ : List (Fin 32 × Word32 × EvtArg)) (s : State) : State :=
  occ.foldl (fun s o => raise (32 * g.val + o.1.val) o.2.1.toNat o.2.2 s)
    { s with evt := s.evt.clearStatus g.val v }

def execEvtStatusWrite (p : Path) (g : Fin 16) (v : Word32) (occ : List (Fin 32 × Word32 × EvtArg)) (s : State) : Out :=
  .next (if evtLive s p then evtStatusWrite g v occ s else evtStatusWrite g 0 occ s)

/-- A write to EVT_EN (R368, R369): reserved sources keep 0; each set status newly enabled makes its vector due. -/
def EventTree.writeEn (e : EventTree) (g : Nat) (v : Word32) : EventTree :=
  (List.range 32).foldl (fun e i =>
    let n := 32 * g + i
    if eventDefined n then
      let e1 := { e with en := putBit e.en n (v.getLsbD i) }
      if v.getLsbD i && !e.en.getLsbD n && e.status.getLsbD n then e1.signal n else e1
    else e) e

def evtEnWrite (g : Fin 16) (v : Word32) (s : State) : State := { s with evt := s.evt.writeEn g.val v }

def execEvtEnWrite (p : Path) (g : Fin 16) (v : Word32) (s : State) : Out :=
  .next (if evtLive s p then evtEnWrite g v s else s)

/-- EVT_FORCE (R365, R366, R369): one occurrence of each source written, with OBJ KIND 0xFF and ARG zero. -/
def evtForceWrite (g : Fin 16) (v : Word32) (s : State) : State :=
  { s with evt := (List.range 32).foldl (fun e i =>
      if v.getLsbD i then e.occur (s.stampAt 24) s.dev.ticks (32 * g.val + i) 0xFF (evtArg 0 0 0 0) else e) s.evt }

def execEvtForceWrite (p : Path) (g : Fin 16) (v : Word32) (s : State) : Out :=
  .next (if evtLive s p then evtForceWrite g v s else s)

/-- A write to EVT_ROUTE r of a group (R369): route bytes of reserved sources keep 0. -/
def EventTree.writeRoute (e : EventTree) (g r : Nat) (v : Word32) : EventTree :=
  { e with route := (List.range 4).foldl (fun rt k =>
      let n := 32 * g + 4 * r + k
      if eventDefined n then updNat rt n fun _ => BitVec.ofNat 8 (v.toNat / 256 ^ k) else rt) e.route }

/-- EVT_ROUTE r of a group as read. -/
def EventTree.readRoute (e : EventTree) (g r : Nat) : Nat :=
  leNat ((List.range 4).map fun k => e.routeOf (32 * g + 4 * r + k))

/-- EVT_SUMMARY (R369). -/
def EventTree.summary (e : EventTree) : Nat :=
  (List.range 16).foldl (fun a g => if Nat.land (e.statusOf g) (e.enOf g) ≠ 0 then a + 2 ^ g else a) 0

/-- Vectors that cease to be masked between two forms of the tree send or drop their pending bit (R368). -/
def EventTree.unmasked (old e : EventTree) : EventTree :=
  (List.range 32).foldl (fun e v =>
    if old.masked v && !e.masked v && e.pba.getLsbD v then
      let e1 := { e with pba := clrBit e.pba v }
      if (List.range 512).any fun n => e.pend n && e.routedTo n v then { e1 with sent := v :: e1.sent } else e1
    else e) e

/-- MSIX_UNMASK (R368): through the vector's mask bit, Function Mask or MSI-X Enable. -/
def msixUnmask (w : MsixBit) (s : State) : State :=
  let e := s.evt
  let e1 := match w with
    | .vectorMask v => { e with msix := upd e.msix v fun m => { m with mask := false } }
    | .functionMask => { e with functionMask := false }
    | .msixEnable => { e with msixEnable := true }
  { s with evt := e.unmasked e1 }

def execMsixUnmask (w : MsixBit) (s : State) : Out :=
  .next (if pathServed s .bar0 then msixUnmask w s else s)

/-- The next SEQ of a record: 1 to 65,535, never 0 (R341). -/
def nextLogSeq (n : Word16) : Word16 := if n = 0xFFFF then 1 else n + 1

/-- Is the Curator taking records (R371)? Not while Yozon restarts, before READY, in a sleep state, or with its cores gated (R386). -/
def curatorUp (s : State) : Bool := s.desk.ready && !s.desk.restarting && !s.pwr.coresOff

/-- LOG_RECORD_TAKE (R341, R371): the oldest queued record gets its SEQ; the log keeps the last 1,024. -/
def logTake (s : State) : State :=
  match s.evt.queue with
  | [] => s
  | r :: rest =>
    if curatorUp s then
      let n := nextLogSeq s.evt.logSeq
      let l := s.evt.log ++ [(n.toNat, r)]
      { s with evt := { s.evt with
        queue := rest, logSeq := n, log := l.drop (l.length - 1024), logged := bump s.evt.logged } }
    else s

def execLogRecordTake (s : State) : Out := .next (logTake s)

/-- A log record's 32 bytes (R341, R366). -/
def recBytes (r : Nat × EvtRec) : List Byte :=
  leBytes 2 r.2.event ++ leBytes 2 r.1 ++ leBytes 6 r.2.stamp.sec ++ leBytes 2 r.2.stamp.frac ++ leBytes 4 r.2.stamp.ns
    ++ leBytes 4 r.2.obj.toNat ++ leBytes 1 r.2.arg.state.toNat ++ leBytes 1 r.2.arg.sub.toNat
    ++ leBytes 2 r.2.arg.aux.toNat ++ leBytes 8 r.2.arg.value.toNat

/-- The records at or after START_SEQ, counting round the cycle of 1 to 65,535 (R341): with the oldest kept at `o`, a record
of SEQ n comes at or after `a` when it does not lie before `a` on the cycle from `o`. -/
def recsFrom (l : List (Nat × EvtRec)) (a : Nat) : List (Nat × EvtRec) :=
  match l with
  | [] => []
  | o :: _ =>
    if a = 0 then l
    else
      let d (n : Nat) : Nat := (n + 65535 - o.1) % 65535
      if d a < l.length then l.filter fun x => d a ≤ d x.1
      else if d a < 32768 then [] else l

/-- `EVENT.LOG.GET` (R338, R341): NEXT_SEQ is the SEQ after the last record returned, or the next to be given (log 21). -/
def eventLogGet (q : Request) (s : State) : State × Reply :=
  let got := (recsFrom s.evt.log (u16 q 4)).take 128
  let next := match got.getLast? with
    | some r => (nextLogSeq (BitVec.ofNat 16 r.1)).toNat
    | none => (nextLogSeq s.evt.logSeq).toNat
  (s, okBulk (leBytes 2 got.length ++ leBytes 2 next) (got.flatMap recBytes))

def execEventLogGet (q : Request) (s : State) : Out := .next (deskRun 0x0D01 eventLogGet q s)

end Sys2Proof.Machine
end

