-- ==== Sys2Proof/Machine/Power.lean ====
section
/-! DEFINITION. The power domains: power-good and its timeout, stops, rail voltages, `POWER.DOMAIN.SET` and `POWER.STATUS`
(16_power.md R390 to R394, R403; 21_pins_electrical.md R496, R497; 14_command_reference.md R360). -/

namespace Sys2Proof.Machine

/-- What waits for a domain goes on once it is in RUN (R390): enables, the restoration of a pool, the lanes of an octet. -/
def domainUp (d : Nat) (s : State) : State :=
  let s1 := carrierProceed 1 (carrierProceed 0 s)
  let s2 := if 2 ≤ d ∧ d < 8 then octetUp (d - 2) s1 else s1
  if h : 8 ≤ d ∧ d < 16 then poolRestored ⟨d - 8, by omega⟩ s2 else s2

/-- A rail that the domain needs is in fault (R417). -/
def railFault (d : Nat) (s : State) : Bool :=
  (List.range 13).any fun r => railFeeds r d && (s.rail r).configured && (s.rail r).cause != 0

/-- DOMAIN_POWER_GOOD (R391): every stage is admitted, power-good has held and the clock is locked. -/
def domainPowerGood (d : Fin 20) (s : State) : State :=
  let x := s.domain d
  if x.st = .starting ∧ x.stagesLeft = 0 ∧ !railFault d s ∧ !(s.pwr.raises.any fun y => y.dom == d.val) then
    domainUp d (settleDomain d x.target false s)
  else s

def execDomainPowerGood (d : Fin 20) (s : State) : Out := .next (domainPowerGood d s)

/-- The commands that wait for a domain end when it fails (R391): an enable, a calibration, a lane, a pool, the Stacks. -/
def domainCommandsFail (d : Nat) (st : Nat) (s : State) : State :=
  let s1 := (List.finRange 2).foldl (fun s c =>
    if (s.car c).enabling ∧ (d = c.val ∨ 16 ≤ d ∨ (8 ≤ d ∧ (poolsIn s).contains (d - 8))) then carrierFailed c st s
    else if d = c.val ∧ inTransition (.conv c 0xFF) s then
      endTransition (.conv c 0xFF) { status := st } (onCar c (fun x => { x with
        fg := none, convs := x.convs.map fun y => { y.clearVisit with rot := .off } }) s)
    else s) s
  let s2 := (List.range 8).foldl (fun s k =>
    if 2 ≤ d ∧ d < 8 then endTransition (.lane (8 * (d - 2) + k)) { status := st } s else s) s1
  let s3 := if h : 8 ≤ d ∧ d < 16 then
      if s2.dec.pools[d - 8].restoring.isSome then
        endTransition (.pool (d - 8)) { status := st } (onPool ⟨d - 8, by omega⟩ (fun x => { x with restoring := none }) s2)
      else s2
    else s2
  if 16 ≤ d ∧ s3.stk.initBusy then
    endTransition .stacks { status := st } (onStk (fun k => { k with initBusy := false }) s3)
  else s3

/-- A domain that starts fails and returns to OFF (R391). -/
def domainFail (d : Nat) (s : State) : State :=
  if (s.domain d).st = .starting then
    let s1 := onPwr (fun p => { p with
      queue := p.queue.filter fun x => x.1 != d, raises := p.raises.filter fun x => x.dom != d }) s
    domainCommandsFail d stTimeout (settleDomain d .off true s1)
  else s

/-- Every Chute with an end in a domain's islands is empty, but for those whose consumer has stopped and takes no more (R25, R391). -/
def domainChutesEmpty (d : Nat) (s : State) : Bool :=
  chuteTable.zipIdx.all fun x =>
    (islandDomain x.1.prod != some d && islandDomain x.1.cons != some d) || (getNat {} s.chutes x.2).held == 0 ||
      match islandDomain x.1.cons with
      | some e => e != d && (s.dom e == .off || s.dom e == .clockOff)
      | none => false

/-- The transactions of a stack's 16 channels are complete (R230, R391). -/
def domainTagsFree (d : Nat) (s : State) : Bool := d < 16 || (List.range 16).all fun k => s.stk.tags.getD (16 * (d - 16) + k) 0 == 0

/-- DOMAIN_STOP_DRAINED (R391): the Chutes are empty and closed and the transactions complete; the Census values are saved and
the down-steps queue for admission. -/
def domainStopDrained (d : Fin 20) (s : State) : State :=
  let x := s.domain d
  if x.st = .stopping ∧ !x.drained ∧ domainChutesEmpty d s ∧ domainTagsFree d s then queueStages d (onDom d (fun x => { x with drained := true, saved := true }) s) else s

def execDomainStopDrained (d : Fin 20) (s : State) : Out := .next (domainStopDrained d s)

/-- The domains that wait for a rail. -/
def railWaiters (r : Nat) (s : State) : List Nat := ((s.pwr.raises.filter fun x => x.rail == r).map (·.dom)).eraseDups

/-- STATUS_WORD shows a VOUT, IOUT, INPUT, TEMPERATURE or CML fault (R417; the bits of the PMBus specification, log 44). -/
def statusFault (w : Nat) : Bool := [15, 14, 13, 5, 4, 3, 2, 1].any (bit w)

/-- The cause of a rail's fault, 0 when there is none (R417, R428). -/
def Rail.judge (x : Rail) : Nat :=
  if 3 ≤ x.nackRun then 1 else if 3 ≤ x.pecRun then 2 else if statusFault x.status then 3 else if x.voutBad then 4 else 0

/-- Judge a rail (R417, R428): PMBUS_FAULT (323) with its cause and STATUS_WORD on entry to and exit from a fault. -/
def judgeRail (r : Nat) (s : State) : State :=
  let x := s.rail r
  let now := x.judge
  let s1 := onRail r (fun x => { x with cause := now, faults := if x.cause = 0 ∧ now ≠ 0 then bump x.faults else x.faults }) s
  if x.cause = 0 ↔ now = 0 then s1
  else raise 323 objDevice (evtArg (b2n (now != 0)) r (if now = 0 then x.cause else now) x.status) s1

/-- VOUT_SETTLED (R393): the frequency may rise: domains that wait for no other rail queue their stages. -/
def voutSettled (r : Fin 16) (s : State) : State :=
  let ds := railWaiters r s
  let s1 := onPwr (fun p => { p with raises := p.raises.filter fun x => x.rail != r.val })
    (judgeRail r (onRail r (fun x => { x with settling := false, voutBad := false }) s))
  ds.foldl (fun s d =>
    if s.pwr.raises.any fun x => x.dom == d then s
    else if d = 20 then queueStages 20 s
    else if (s.domain d).st = .starting then queueStages d s else s) s1

def execVoutSettled (r : Fin 16) (s : State) : Out := .next (voutSettled r s)

/-- VOUT_SETTLE_TIMEOUT (R393, R417): the frequency is not raised, the rail is in fault, and the transitions that waited fail. -/
def voutSettleTimeout (r : Fin 16) (s : State) : State :=
  if (s.rail r).settling then
    (railWaiters r s).foldl (fun s d => domainFail d s)
      (judgeRail r (onRail r (fun x => { x with settling := false, voutBad := true }) s))
  else s

/-- The state that STATE of `POWER.DOMAIN.SET` asks of a domain, when the domain takes it (R360, R390). -/
def askedState (d v : Nat) : Option DomState :=
  if v = 0 then some .run
  else if v = 1 then (if d < 16 then some .clockOff else none)
  else if v = 2 then some .off
  else if v = 3 then (if d < 16 then none else some .selfRefresh)
  else none

/-- A function of the domain is enabled or provisioned, or a region uses the stack (R360, R390). -/
def domainUsed (d : Nat) (s : State) : Bool :=
  if d < 2 then (s.car (carrierOf d)).enabled || (s.car (carrierOf d)).enabling || inTransition (.conv (carrierOf d) 0xFF) s
  else if d < 8 then (List.finRange 48).any fun l => l.val / 8 == d - 2 && s.lanes[l].provisioned
  else if d < 16 then
    ((poolsIn s).contains (d - 8) && anyCarrier s) || (getNat {} s.dec.pools (d - 8)).restoring.isSome
  else !s.stk.regions.isEmpty

/-- POWER.DOMAIN.SET (R360, R390, R391, R394, R422). -/
def domainSet (q : Request) (s : State) : State × Reply :=
  let d := objIndex q
  match askedState d (u8 q 4) with
  | none => (s, badParam 4)
  | some t =>
    if t ≠ .run ∧ domainUsed d s then (s, refuse stBadState)
    else if t = .run ∧ stopHeld d s then (s, refuse stBadState)
    else if s.dom d = t then (s, ok (leBytes 1 t.reqCode))
    else (beginDomain d t (beginTransition (.domain d) 0x0E02 q s), .later)

def execPowerDomainSet (q : Request) (s : State) : Out := .next (deskRun 0x0E02 domainSet q s)

/-- Whether the outputs of a domain's pins are driven (R402): a carrier's converter ports and an octet's transmit pins only in RUN; the
core's pins but in DEEP_SLEEP and OFF. A domain that does not drive its pins leaves them at high impedance. -/
def domainDrives (d : Nat) (s : State) : Bool :=
  if d = 20 then s.pwr.st != .deepSleep && s.pwr.st != .off else s.dom d == .run

/-- IRQ0_N and IRQ1_N are driven low (R367, R402): open-drain, released in DEEP_SLEEP and OFF. -/
def irqLow (b : Fin 2) (s : State) : Bool := domainDrives 20 s && s.evt.pinLow (6 + b.val)

/-- POWER.WAKE.SET (R360, R395). -/
def wakeSet (q : Request) (s : State) : State × Reply :=
  (onPwr (fun p => { p with wakeMask := u32 q 4 % 64, timerSec := u48 q 8 }) (keepBody 0x0E03 q s), ok)

def execPowerWakeSet (q : Request) (s : State) : Out := .next (deskRun 0x0E03 wakeSet q s)

/-- Device states as `POWER.DEVICE.SET` codes them (R360). -/
def DevPower.code : DevPower → Nat
  | .run => 0 | .idle => 1 | .sleep => 2 | .deepSleep => 3 | .off => 4

/-- The wake record as it is laid out (R397). -/
def WakeRecord.bytes (w : WakeRecord) : List Byte :=
  leBytes 1 w.fromState ++ leBytes 1 w.source
    ++ leBytes 1 (b2n w.aborted + 2 * b2n w.brownout + 4 * b2n w.archiveBad + 8 * b2n w.elapsedValid) ++ leBytes 1 w.other
    ++ leBytes 6 w.entrySec ++ leBytes 2 0 ++ leBytes 4 w.elapsedMs ++ leBytes 4 w.exitUs ++ leBytes 4 w.wakes

/-- System ticks in a device state, the present stay included (R403). -/
def Power.ticksIn (p : Power) (t : DevPower) (kept tick : Nat) : Nat := kept + if p.st = t then tick - p.mark else 0

/-- Account the time in the present state up to now. -/
def Power.accounted (p : Power) (tick : Nat) : Power :=
  { p with
    runTicks := p.ticksIn .run p.runTicks tick, idleTicks := p.ticksIn .idle p.idleTicks tick
    sleepTicks := p.ticksIn .sleep p.sleepTicks tick, mark := tick }

/-- POWER.STATUS (R403). -/
def powerItems (s : State) : List StatItem :=
  let p := s.pwr
  let ms (t : DevPower) (kept : Nat) : Nat := p.ticksIn t kept s.dev.ticks / 625000
  [gau 1 0 p.st.code, gau 1 1 (p.entering.getD p.st).code]
    ++ ((List.range 20).map fun d => gau 2 0 (s.dom d).code d) ++ [lst 3 0 p.record.bytes]
    ++ [gau 4 0 (100 * p.budgetA), gau 4 1 p.windowUs, gau 4 2 (p.stepSum s.dev.ticks), gau 4 3 p.queue.length, ctr 5 0 p.waits]
    ++ ((List.range 20).flatMap fun d => [ctr 6 0 (s.domain d).transitions d, ctr 6 1 (s.domain d).failed d])
    ++ [ctr 7 0 (ms .run p.runTicks), ctr 7 1 (ms .idle p.idleTicks), ctr 7 2 (ms .sleep p.sleepTicks), ctr 8 0 p.aborted]

def execPowerStatus (q : Request) (s : State) : Out := .next (deskRun 0x0E04 (sCommand fun _ s => powerItems s) q s)

end Sys2Proof.Machine
end

