-- ==== Sys2Proof/Machine/Monitors.lean ====
section
/-! DEFINITION. The monitor converters: channels, scheduling, urgent conversions, cross-checks and the result queue
(17_monitors_thermal.md R405 to R415, R425; 14_command_reference.md R360, R361). -/

namespace Sys2Proof.Machine

/-- A monitor channel, a converter. -/
def State.chanOf (s : State) (k : Nat) : MonChan := getNat {} s.house.chans k
def State.madcOf (s : State) (m : Fin 2) : Madc := s.house.madc[m]
def onMon (k : Nat) (f : MonChan → MonChan) (s : State) : State := onHouse (fun h => { h with chans := updNat h.chans k f }) s
def onMadc (m : Fin 2) (f : Madc → Madc) (s : State) : State := onHouse (fun h => { h with madc := upd h.madc m f }) s

/-- Filter ratio D of a filter code (R407). -/
def monD (filter : Nat) : Nat := [1, 8, 32, 128].getD filter 1

/-- The divider of a channel (R406): 1, 2 or 4. -/
def monDivider (k : Nat) : Nat := if k < 32 ∨ k = 53 ∨ k = 54 ∨ k = 63 then 1 else if 47 ≤ k ∧ k ≤ 51 then 4 else 2

/-- The code of a channel's source voltage in nV at a gain code (R405, R406): round(32,768 g V / 1.2 V) with V after the divider,
saturated. -/
def monCode (k gain : Nat) (nv : Int) : Int :=
  max (-32768) (min 32767 (divRound (32768 * (2 ^ gain : Nat) * nv) (1200000000 * monDivider k)))

/-- A channel that is streamed (R410): its period is its D and it names one converter. -/
def MonChan.streamed (x : MonChan) : Bool := x.periodUs == monD x.filter && x.conv < 2

/-- Is a channel scheduled on a converter (R409)? -/
def MonChan.on (x : MonChan) (m : Fin 2) : Bool := 0 < x.periodUs && (x.conv == m.val || x.conv == 2)

/-- The converters of a CONV code. -/
def convsOf (c : Nat) : List (Fin 2) := if c = 0 then [0] else if c = 1 then [1] else [0, 1]

/-- The safety function owns a channel (R462). -/
def owned (s : State) (k : Nat) : Bool := s.safe.valid && s.safe.checks.any fun x => x.chan == k

/-- The safety configuration assigns an owned channel to a converter (R408). -/
def bufNeeded (s : State) (m : Fin 2) : Bool := s.safe.valid && s.safe.checks.any fun x => x.conv == m.val || x.conv == 2

/-- Reference buffers turn on where EN or the safety configuration asks, and off where neither does and no conversion runs
(R408). -/
def bufRest (s : State) : State :=
  (List.finRange 2).foldl (fun s m => onMadc m (fun x =>
    let want := x.en || bufNeeded s m
    if want && x.buf == .off then { x with buf := .warming }
    else if !want && x.running.isNone then { x with buf := .off } else x) s) s

/-- The monitor converters stop in SLEEP and below. -/
def monStopped (s : State) : Bool := s.pwr.st != .run && s.pwr.st != .idle

/-- A conversion that cannot start because a reference buffer is not ready (R408): the converter counts it, and MON_REF_NOT_READY
(322) is raised. -/
def skipOn (m : Fin 2) (s : State) : State :=
  let n := bump (s.madcOf m).skipped
  raise 322 objDevice (evtArg 0 m.val 0 n) (onMadc m (fun x => { x with skipped := n }) s)

/-- Those of some converters whose buffer is not ready. -/
def notReady (s : State) (ms : List (Fin 2)) : List (Fin 2) := ms.filter fun m => (s.madcOf m).buf != .ready

/-- Start a conversion on its converters. -/
def convStartOn (ms : List (Fin 2)) (c : Conversion) (s : State) : State :=
  ms.foldl (fun s m => onMadc m (fun x => { x with running := some c, aborted := none }) s) s

/-- A waiting urgent request whose converters run nothing starts (R413). -/
def startUrgent (s : State) : Option State :=
  (s.house.urgent.find? fun k => (convsOf ((s.safe.checks[k]?.map (·.conv)).getD 2)).all fun m => (s.madcOf m).running.isNone).map
    fun k =>
      let x := (s.safe.checks[k]?).getD (checkAt [] 0)
      let ms := convsOf x.conv
      let s1 := onHouse (fun h => { h with urgent := h.urgent.erase k }) s
      let s2 := ms.foldl (fun s m => onMadc m (fun y => { y with
        running := some { chan := x.chan, gain := x.gain, filter := x.filter, shared := x.conv == 2, check := some k }
        urgents := bump y.urgents }) s) s1
      s2

/-- An aborted conversion starts again (R413): both halves of a pair together. -/
def startAborted (s : State) : Option State :=
  let free (m : Fin 2) : Bool := (s.madcOf m).running.isNone
  (([0, 1] : List (Fin 2)).findSome? fun m =>
    match (s.madcOf m).aborted with
    | none => none
    | some c =>
      let ms : List (Fin 2) := if c.shared then [0, 1] else [m]
      if ms.all free then some (ms, { c with restarted := true, stream := c.stream.map fun _ => 0 }) else none).map
    fun (x : List (Fin 2) × Conversion) => convStartOn x.1 x.2 s

/-- The earliest due channel of a converter: the lowest-numbered on a tie (R409). -/
def nextDue (s : State) (m : Fin 2) : Option (Nat × Nat) := s.house.due.find? fun x => (s.chanOf x.2).on m

/-- A due conversion starts on a free converter, a shared one when both are free (R409, R412), unless a buffer is not ready. -/
def startDue (s : State) : Option State :=
  let idle (m : Fin 2) : Bool := (s.madcOf m).running.isNone && (s.madcOf m).aborted.isNone
  (([0, 1] : List (Fin 2)).findSome? fun m =>
    match nextDue s m with
    | none => none
    | some x =>
      let ms := convsOf (s.chanOf x.2).conv
      if ms.all fun y => idle y && nextDue s y == some x then some (ms, x) else none).map
    fun (p : List (Fin 2) × (Nat × Nat)) =>
      let x := s.chanOf p.2.2
      let s1 := onHouse (fun h => { h with due := h.due.erase p.2 }) s
      match notReady s p.1 with
      | [] => convStartOn p.1 { chan := p.2.2, gain := x.gain, filter := x.filter, shared := x.conv == 2,
                                stream := if x.streamed then some 0 else none } s1
      | bad => bad.foldl (fun s m => skipOn m s) s1

/-- Everything that may start now starts: urgent requests first, then aborted conversions, then due ones; `n` bounds the starts
and skips. -/
def dispatchMon : Nat → State → State
  | 0, s => s
  | n + 1, s =>
    match (startUrgent s).orElse fun _ => (startAborted s).orElse fun _ => startDue s with
    | some s1 => dispatchMon n s1
    | none => s

/-- Put a due channel in its place: the earliest instant first, the lowest number on a tie. -/
def insertDue (x : Nat × Nat) : List (Nat × Nat) → List (Nat × Nat)
  | [] => [x]
  | y :: r => if x.1 < y.1 ∨ (x.1 = y.1 ∧ x.2 < y.2) then x :: y :: r else y :: insertDue x r

/-- The due instant of a period P µs (R409): the whole multiple of P that the time of day has reached. -/
def dueInstant (periodUs : Nat) (s : State) : Nat := s.replica 25 / (periodUs * 65536000) * (periodUs * 65536000)

/-- CONVERSION_DUE (R408, R409, R410): a channel's due instant is now; one that is still waiting merges and is late. -/
def conversionDue (k : Fin 64) (s : State) : State :=
  let x : MonChan := s.chanOf k
  if x.periodUs = 0 ∨ owned s k ∨ monStopped s then s
  else if x.streamed ∧ ([0, 1] : List (Fin 2)).any (fun m =>
      ((s.madcOf m).running.any fun c => c.chan == k.val) || ((s.madcOf m).aborted.any fun c => c.chan == k.val)) then s
  else if s.house.due.any fun d => d.2 == k.val then onMon k (fun x => { x with late := bump x.late }) s
  else dispatchMon 70 (onHouse (fun h => { h with due := insertDue (dueInstant x.periodUs s, k.val) h.due }) s)

def execConversionDue (k : Fin 64) (s : State) : Out := .next (conversionDue k s)

/-- An urgent request pre-empts a converter (R413): a conversion that is not urgent is aborted, with the other half of its pair. -/
def preempt (m : Fin 2) (s : State) : State :=
  match (s.madcOf m).running with
  | some c =>
    if c.check.isSome then s
    else
      (if c.shared then ([0, 1] : List (Fin 2)) else [m]).foldl (fun s m => onMadc m (fun x => { x with
        running := none, aborted := some c, preempted := bump x.preempted }) s) s
  | none => s

/-- URGENT_REQUEST (R413): check k of the safety configuration requests its channel. -/
def urgentRequest (k : Fin 16) (s : State) : State :=
  match (if s.safe.valid && !monStopped s then s.safe.checks[k.val]? else none) with
  | none => s
  | some x =>
    let ms := convsOf x.conv
    match notReady s ms with
    | [] =>
      if s.house.urgent.contains k.val then s
      else dispatchMon 70 (onHouse (fun h => { h with urgent := h.urgent ++ [k.val] }) (ms.foldl (fun s m => preempt m s) s))
    | bad => bad.foldl (fun s m => skipOn m s) s

def execUrgentRequest (k : Fin 16) (s : State) : Out := .next (urgentRequest k s)

/-- A sample enters the result queue (R414): a full queue discards it, and MON_QUEUE_LOST (320) is raised. -/
def enqueueSample (c : Conversion) (m : Fin 2) (code : Int) (unsettled mism : Bool) (s : State) : State :=
  let h := s.house
  if h.queue.length < 1024 then
    let x : MonSample :=
      { chan := c.chan, conv := m.val, flags := b2n unsettled + 2 * b2n mism + 4 * b2n c.restarted + 8 * b2n h.lostPending
        setting := c.gain + 4 * c.filter, code := code, sec := (s.stampAt 25).sec % 2 ^ 32, ns := (s.stampAt 25).ns }
    onHouse (fun h => { h with queue := h.queue ++ [x], lostPending := false }) s
  else
    raise 320 objDevice (evtArg 0 0 0 (bump h.lost)) (onHouse (fun h => { h with lost := bump h.lost, lostPending := true }) s)

/-- One result: the queue, and the channel's latest codes and counts (R411, R414, R425). -/
def deliverResult (c : Conversion) (m : Fin 2) (code : Int) (unsettled mism : Bool) (s : State) : State :=
  enqueueSample c m code unsettled mism (onMon c.chan (fun x => { x with
    codeA := if m.val = 0 then code else x.codeA
    codeB := if m.val = 1 then code else x.codeB
    settledA := if m.val = 0 && !unsettled then code else x.settledA
    settledB := if m.val = 1 && !unsettled then code else x.settledB
    sensor := if !unsettled && !mism then code else x.sensor
    conversions := bump x.conversions
    unsettled := if unsettled then bump x.unsettled else x.unsettled
    restarts := if c.restarted then bump x.restarts else x.restarts }) s)

/-- A pair is plausible (R412). -/
def plausible (a b : Int) : Bool := 256 * (a - b).natAbs ≤ 256 * 64 + (a + b).natAbs

/-- The cross-check of a pair (R412, R428): MON_MISMATCH (321) after 3 consecutive mismatched, and after 3 plausible pairs. -/
def crossCheck (k : Nat) (a b : Int) (s : State) : State :=
  let x := s.chanOf k
  let ok := plausible a b
  let mr := if ok then 0 else x.mismatchRun + 1
  let pr := if ok then x.matchRun + 1 else 0
  let now := if mr = 3 then true else if pr = 3 then false else x.mismatch
  let v := codeOf 16 a + 65536 * codeOf 16 b
  let s1 := onMon k (fun x => { x with
    mismatchRun := mr, matchRun := pr, mismatch := now, pairs := if ok then x.pairs else bump x.pairs }) s
  if now = x.mismatch then s1 else raise 321 (objMonitor k) (evtArg (b2n now) 0 0 v) s1

/-- What a converter goes on with after a streamed result (R410, R411): the stream, from the boundary with the channel's new gain
and filter; nothing when the channel is no longer streamed there or its buffer is no longer wanted. -/
def streamNext (c : Conversion) (e : Nat) (m : Fin 2) (s : State) : Option Conversion :=
  let x := s.chanOf c.chan
  if x.streamed ∧ x.on m ∧ ((s.madcOf m).en ∨ bufNeeded s m) then
    if x.gain = c.gain ∧ x.filter = c.filter then some { c with restarted := false, stream := some e }
    else some { c with restarted := false, gain := x.gain, filter := x.filter, stream := some 0 }
  else none

/-- The end of the conversion on a converter; `va` and `vb` are the channel's source voltages (nV), filtered, as MADC0 and MADC1 measure
them. -/
def finishConv (m : Fin 2) (c : Conversion) (va vb : Int) (s : State) : State :=
  let stop (s : State) (m : Fin 2) : State := onMadc m (fun x => { x with running := none }) s
  if c.shared then
    let a := monCode c.chan c.gain va
    let b := monCode c.chan c.gain vb
    let bad := !plausible a b
    let s1 := crossCheck c.chan a b (deliverResult c 1 b false bad (deliverResult c 0 a false bad (stop (stop s 0) 1)))
    match c.check with
    | some k => safetyResult k [a, b] bad s1
    | none => s1
  else
    let code := monCode c.chan c.gain (if m = 0 then va else vb)
    match c.stream with
    | some e =>
      let e1 := e + monD c.filter
      deliverResult c m code (e1 < monTime c.gain c.filter) false (onMadc m (fun x => { x with running := streamNext c e1 m s }) s)
    | none =>
      let s1 := deliverResult c m code false false (stop s m)
      match c.check with
      | some k => safetyResult k [code] false s1
      | none => s1

/-- CONVERSION_END (R407, R410 to R414): the conversion on MADC m ends, with its pair's other half. -/
def conversionEnd (m : Fin 2) (va vb : Int) (s : State) : State :=
  match (s.madcOf m).running with
  | none => s
  | some c => if monStopped s then s else dispatchMon 70 (bufRest (finishConv m c va vb s))

def execConversionEnd (m : Fin 2) (va vb : Int) (s : State) : Out := .next (conversionEnd m va vb s)

/-- REF_BUFFER_READY (R408): 2 ms after it turned on. -/
def refBufferReady (m : Fin 2) (s : State) : State :=
  if (s.madcOf m).buf = .warming then onMadc m (fun x => { x with buf := .ready }) s else s

def execRefBufferReady (m : Fin 2) (s : State) : Out := .next (refBufferReady m s)

/-- MON.REF.SET (R360, R408). -/
def monRefSet (q : Request) (s : State) : State × Reply :=
  let s1 := (List.finRange 2).foldl (fun s m => onMadc m (fun x => { x with en := bit (u8 q 4) m.val }) s) (keepBody 0x0F01 q s)
  (bufRest s1, ok)

def execMonRefSet (q : Request) (s : State) : Out := .next (deskRun 0x0F01 monRefSet q s)

/-- Sum of T_c / P over a converter's channels does not exceed 0.9 (R409): the scheduled channels other than `k`, the channel's
new setting, and the owned channels at their intervals. -/
def loadOk (s : State) (k : Nat) (x : MonChan) (m : Fin 2) : Bool :=
  let sched := (List.range 64).filterMap fun j =>
    let y := if j = k then x else s.chanOf j
    if y.on m && !owned s j then some (monTime y.gain y.filter, y.periodUs) else none
  let own := (s.safe.checks.filter fun c => s.safe.valid && (c.conv == m.val || c.conv == 2)).map fun c =>
    (monTime c.gain c.filter, c.intervalUs)
  let sum := (sched ++ own).foldl (fun (a : Nat × Nat) t => (a.1 * t.2 + t.1 * a.2, a.2 * t.2)) (0, 1)
  10 * sum.1 ≤ 9 * sum.2

/-- A channel's new setting may stand (R409, R410). -/
def settingOk (s : State) (k : Nat) (x : MonChan) : Bool :=
  if x.periodUs = 0 then true
  else if x.streamed then
    (convsOf x.conv).all fun m => (List.range 64).all fun j => j == k || owned s j || !(s.chanOf j).on m
  else monTime x.gain x.filter ≤ x.periodUs && (convsOf x.conv).all fun m => loadOk s k x m

/-- MON.CHANNEL.SET (R360, R409, R410). -/
def monChannelSet (q : Request) (s : State) : State × Reply :=
  let k := objSub q
  let x : MonChan := { s.chanOf k with conv := u8 q 4, gain := u8 q 5, filter := u8 q 6, periodUs := u32 q 8 }
  if 2 < x.conv then (s, badParam 4)
  else if 3 < x.gain then (s, badParam 5)
  else if 3 < x.filter then (s, badParam 6)
  else if owned s k then (s, refuse stBadState)
  else if !settingOk s k x then (s, badParam 8)
  else
    let s1 := onMon k (fun _ => x) (keepBody 0x0F02 q s)
    (onHouse (fun h => { h with due := if x.periodUs = 0 then h.due.filter fun d => d.2 != k else h.due }) s1, ok)

def execMonChannelSet (q : Request) (s : State) : Out := .next (deskRun 0x0F02 monChannelSet q s)

/-- A monitor sample (R361). -/
def MonSample.bytes (x : MonSample) : List Byte :=
  leBytes 1 x.chan ++ leBytes 1 x.conv ++ leBytes 1 x.flags ++ leBytes 1 x.setting ++ leBytes 2 (codeOf 16 x.code) ++ leBytes 2 0
    ++ leBytes 4 x.sec ++ leBytes 4 x.ns

/-- MON.READ (R360, R414). -/
def monRead (q : Request) (s : State) : State × Reply :=
  let n := u16 q 4
  if n = 0 ∨ 256 < n then (s, badParam 4)
  else
    let got := s.house.queue.take n
    let rest := s.house.queue.drop n
    (onHouse (fun h => { h with queue := rest }) s, okBulk (leBytes 2 got.length ++ leBytes 2 rest.length) (got.flatMap MonSample.bytes))

def execMonRead (q : Request) (s : State) : Out := .next (deskRun 0x0F03 monRead q s)

/-- The islands' clocks in units of 100 kHz / 512 (R12): those of the LINE islands follow the symbol rate (R33). -/
def islandClock (s : State) (n : Nat) : Nat :=
  if n < 2 then 25 * (s.car (carrierOf n)).symRate
  else 512 * (if n < 10 then 16000 else if n < 12 then 12000 else if n < 18 then 14000 else if n < 23 then 20000
    else if n = 23 then 6250 else if n = 24 then 12000 else if n = 25 then 2000 else 200)

/-- An island's margin as a fraction (R416): f_ro over K × f_clk. -/
def marginOf (s : State) (rec : List Byte) (n : Nat) : Nat × Nat :=
  (1000 * 512 * s.house.fro.getD n 0, Config.ringRatio rec n * islandClock s n)

/-- The islands of the domains in RUN on an adaptive rail (R416, R496). -/
def railIslands (r : Nat) (s : State) : List Nat :=
  ((List.range 20).filter fun d => 2 ≤ d && railFeeds r d && s.dom d == .run).map
      (fun d => if d < 8 then 10 + d else if d < 16 then d - 6 else d + 3)
    ++ (if r = 0 then [18, 23, 24, 25] else [])

/-- Is an island's margin below, above n/100? -/
def marginBelow (x : Nat × Nat) (n : Nat) : Bool := 100 * x.1 < n * x.2
def marginAbove (x : Nat × Nat) (n : Nat) : Bool := n * x.2 < 100 * x.1

/-- One period of the adaptive loop of a rail (R416, R451). -/
def adaptRail (r : Nat) (s : State) : State :=
  let x := s.rail r
  if !x.configured || !x.adaptive then s
  else
    match ringRecord s with
    | none => onRail r (fun x => { x with setMv := x.mv }) s
    | some rec =>
      let ms := (railIslands r s).map (marginOf s rec)
      let low := ms.any fun m => marginBelow m 103
      let high := !ms.isEmpty && ms.all fun m => marginAbove m 106
      let step (mv : Nat) (x : Rail) : Rail := { x with setMv := mv, offset := x.offset + ((mv : Int) - (x.setMv : Int)), aboveRun := 0 }
      if low then
        onRail r (fun x => { step (min x.mv (x.setMv + 5)) x with
          deficit := if x.setMv = x.mv && ms.any (fun m => marginBelow m 100) then bump x.deficit else x.deficit }) s
      else if high then
        if 9 ≤ x.aboveRun then onRail r (step (max (min x.mv (railFloor r)) (x.setMv - 5))) s
        else onRail r (fun x => { x with aboveRun := x.aboveRun + 1 }) s
      else onRail r (fun x => { x with aboveRun := 0 }) s

/-- PROCESS_MONITOR_PERIOD (R416): the edges counted over 1,000 periods of OSC_IN on each island are its f_ro in 100 kHz; the
adaptive rails, RAIL 0 and RAIL 6, are adjusted. -/
def processMonitor (fro : List Nat) (s : State) : State :=
  adaptRail 6 (adaptRail 0 (onHouse (fun h => { h with fro := (fro ++ List.replicate 27 0).take 27 }) s))

def execProcessMonitorPeriod (fro : List Nat) (s : State) : Out := .next (processMonitor fro s)

/-- MON.STATUS (R425): all items, or those of one channel. -/
def monItems (s : State) : List StatItem :=
  let h := s.house
  let ms : List (Fin 2) := [0, 1]
  let code (b : RefBuf) : Nat := match b with | .off => 0 | .warming => 1 | .ready => 2
  (ms.map fun m => gau 1 0 (code h.madc[m].buf) m.val) ++ [gau 1 1 h.queue.length]
    ++ (ms.flatMap fun m => [ctr 2 0 h.madc[m].skipped m.val, ctr 2 1 h.madc[m].urgents m.val, ctr 2 2 h.madc[m].preempted m.val])
    ++ [ctr 3 0 h.lost]

/-- The items of some channels. -/
def monChanItems (s : State) (ks : List Nat) : List StatItem :=
  (ks.flatMap fun k =>
      let x := s.chanOf k
      [sgau 4 0 x.settledA (2 * k), sgau 4 0 x.settledB (2 * k + 1), sgau 4 1 x.codeA (2 * k), sgau 4 1 x.codeB (2 * k + 1)])
    ++ (ks.flatMap fun k =>
      let x := s.chanOf k
      [ctr 5 0 x.conversions k, ctr 5 1 x.unsettled k, ctr 5 2 x.restarts k, ctr 5 3 x.late k])
    ++ ((ks.filter fun k => (s.chanOf k).conv == 2).map fun k => ctr 6 0 (s.chanOf k).pairs k)

/-- The process monitors' items. -/
def processItems (s : State) : List StatItem :=
  ((List.range 27).flatMap fun n =>
    let m := match ringRecord s with | some rec => marginOf s rec n | none => (0, 1)
    [gau 7 0 (s.house.fro.getD n 0) n, gau 7 1 (1000 * m.1 / m.2) n])
    ++ (((List.range 16).filter fun r => (s.rail r).adaptive).flatMap fun r =>
      [gau 8 0 (s.rail r).setMv r, ctr 8 1 (s.rail r).deficit r])

def monStatusItems (q : Request) (s : State) : List StatItem :=
  if objKind q = 0 then monItems s ++ monChanItems s (List.range 64) ++ processItems s else monChanItems s [objSub q]

def execMonStatus (q : Request) (s : State) : Out := .next (deskRun 0x0F04 (sCommand monStatusItems) q s)

end Sys2Proof.Machine
end

