-- ==== Sys2Proof/Machine/Boot.lean ====
section
/-! DEFINITION. Images, the boot selector, the Charter, the board configuration record and Catalogue slots as flash holds them,
and what the boot ROM and the first stage do with them (18_boot_security.md R429 to R439, R446 to R452). -/

namespace Sys2Proof.Machine

/-- ASCII of a four-letter mark. -/
def yzim : List Byte := [0x59, 0x5A, 0x49, 0x4D]
def bsel : List Byte := [0x42, 0x53, 0x45, 0x4C]
def chtr : List Byte := [0x43, 0x48, 0x54, 0x52]
def bcfg : List Byte := [0x42, 0x43, 0x46, 0x47]
def ctlg : List Byte := [0x43, 0x54, 0x4C, 0x47]

/-- A section of an image (R431): offset and length at a place of the header. -/
def section2 (img : List Byte) (at_ : Nat) : Nat × Nat := (natAt img at_ 4, natAt img (at_ + 4) 4)
def stage1Of (img : List Byte) : Nat × Nat := section2 img 20
def yozonOf (img : List Byte) : Nat × Nat := section2 img 28
def charterSec (img : List Byte) : Nat × Nat := section2 img 36

/-- Bytes of a section. -/
def secBytes (img : List Byte) (x : Nat × Nat) : List Byte := bytesAt img x.1 x.2

/-- Sections do not overlap. -/
def apart (a b : Nat × Nat) : Bool := a.1 + a.2 ≤ b.1 || b.1 + b.2 ≤ a.1

/-- Sizes and offsets obey R431. -/
def sizesOk (img : List Byte) : Bool :=
  let total := natAt img 16 4
  let secs := [stage1Of img, yozonOf img, charterSec img]
  4096 ≤ total && total ≤ 4194304 && total ≤ img.length
    && secs.all (fun x => 4096 ≤ x.1 && x.1 % 8 == 0 && x.1 + x.2 ≤ total)
    && (stage1Of img).2 ≤ 262144 && (yozonOf img).2 ≤ 3145728 && (charterSec img).2 ≤ 304
    && apart (stage1Of img) (yozonOf img) && apart (stage1Of img) (charterSec img) && apart (yozonOf img) (charterSec img)

/-- SVN and FW of an image, and the signer slots it asks to revoke (R431). -/
def svnOf (img : List Byte) : Nat := natAt img 12 4
def fwOf (img : List Byte) : Nat := natAt img 8 4
def revokeOf (img : List Byte) : Nat := byteAt img 6 % 16

/-- The signer slot of an image: one whose hash is that of its key and whose revoke bit is clear (R430, R431). -/
def signerOf (revoked : Nat) (img : List Byte) : Option Nat :=
  (List.range 4).find? fun k => Config.otpSigner k == sha3 (bytesAt img 144 1312) && !bit revoked k

/-- Does a digest in the header match a section? -/
def digestOk (img : List Byte) (at_ : Nat) (x : Nat × Nat) : Bool :=
  beBytes 32 (sha3 (secBytes img x)).toNat == bytesAt img at_ 32

/-- The Charter is valid (R435). -/
def charterOk (b : List Byte) : Bool :=
  let n := byteAt b 13
  b.take 4 == chtr && natAt b 4 2 == 1 && natAt b 6 2 == 48 + 16 * n && n ≤ 16 && b.length == natAt b 6 2
    && (List.range 4).all (fun c => byteAt b (8 + c) < 32) && byteAt b 12 < 32 && zeroBytes b 14 2
    && (List.range n).all fun i =>
      let o := 48 + 16 * i
      byteAt b (o + 1) < 4 && zeroBytes b (o + 3) 1 && zeroBytes b (o + 8) 8
        && (if byteAt b o = 0 then natAt b (o + 4) 2 ≤ natAt b (o + 6) 2
            else byteAt b o == 1 && 1 ≤ byteAt b (o + 2) && byteAt b (o + 2) ≤ 6)

/-- The result for an image, 0 when it is valid (R431, R434, R435). -/
def imageErr (counter revoked : Nat) (img : List Byte) : Nat :=
  if img.length < 4096 ∨ img.take 4 ≠ yzim ∨ natAt img 4 2 ≠ 1 then 1
  else if !sizesOk img then 2
  else if (signerOf revoked img).isNone then 3
  else if !verifyDigest (bytesAt img 144 1312) (sha3 (img.take 1456)) (bytesAt img 1456 2420) then 4
  else if svnOf img < counter then 5
  else if !digestOk img 48 (stage1Of img) then 6
  else if !digestOk img 80 (yozonOf img) then 7
  else if !digestOk img 112 (charterSec img) then 8
  else if !charterOk (secBytes img (charterSec img)) then 9
  else 0

/-- Images of the flash, and those that the boot state sees. -/
def flashImg (f : Flash) (b : Bool) : List Byte := if b then f.imgB else f.imgA
def flashSetImg (f : Flash) (b : Bool) (x : List Byte) : Flash := if b then { f with imgB := x } else { f with imgA := x }
def Boot.err (b : Boot) (which : Bool) : Nat := imageErr b.counter b.revoked (flashImg b.flash which)

/-- Erased flash reads 0xFF; flash that nothing has programmed is erased. -/
def erased (b : List Byte) : Bool := b.all (· == 0xFF)

/-- A selector copy holds (R433). -/
def selSectorOk (b : List Byte) : Bool := 16 ≤ b.length && b.take 4 == bsel && natAt b 12 4 == crc32c (b.take 12)
def selSeq (b : List Byte) : Nat := natAt b 4 4

/-- The selector in use (R433): preferred image B, TRIAL, its SEQ; image A when no copy holds. -/
def selectorOf (f : Flash) : Bool × Bool × Nat :=
  let use (b : List Byte) : Bool × Bool × Nat := (byteAt b 8 == 1, bit (byteAt b 9) 0, selSeq b)
  match selSectorOk f.sel0, selSectorOk f.sel1 with
  | true, true => if selSeq f.sel0 < selSeq f.sel1 then use f.sel1 else use f.sel0
  | true, false => use f.sel0
  | false, true => use f.sel1
  | false, false => (false, false, 0)

/-- The copy that a new selector is written over: the one that does not hold, or the one with the lower SEQ (R433). -/
def oldSel (f : Flash) : Bool :=
  match selSectorOk f.sel0, selSectorOk f.sel1 with
  | true, true => selSeq f.sel1 < selSeq f.sel0
  | true, false => true
  | _, _ => false

/-- Write a selector (R433). -/
def writeSel (f : Flash) (preferB trial : Bool) : Flash :=
  let b := bsel ++ leBytes 4 ((selectorOf f).2.2 + 1) ++ leBytes 1 (b2n preferB) ++ leBytes 1 (b2n trial) ++ leBytes 2 0
  let r := b ++ leBytes 4 (crc32c b)
  if oldSel f then { f with sel1 := r } else { f with sel0 := r }

/-- The board configuration record is accepted (R439) beside a Charter. -/
def bcfgOk (b charter : List Byte) : Bool :=
  980 ≤ b.length && b.take 4 == bcfg && natAt b 4 2 == 1 && natAt b 976 4 == crc32c (b.take 976)
    && (zeroBytes charter 16 32 || bytesAt charter 16 32 == beBytes 32 (sha3 (b.take 980)).toNat)

/-- Catalogue slots of the flash: false slot 0. -/
def flashCat (f : Flash) (b : Bool) : List Byte := if b then f.cat1 else f.cat0
def flashSetCat (f : Flash) (b : Bool) (x : List Byte) : Flash := if b then { f with cat1 := x } else { f with cat0 := x }

/-- A slot's header up to DIGEST (R447). -/
def catHeader (nrec seq bytes sec : Nat) : List Byte :=
  ctlg ++ leBytes 2 1 ++ leBytes 2 nrec ++ leBytes 4 seq ++ leBytes 4 bytes ++ leBytes 8 Config.serial.toNat ++ leBytes 6 sec
    ++ leBytes 2 0

/-- A whole slot: header, DIGEST, records (R447). -/
def catSlot (seq sec : Nat) (recs : List (Nat × List Byte)) : List Byte :=
  let body := recs.flatMap (·.2)
  let h := catHeader recs.length seq body.length sec
  h ++ beBytes 32 (sha3 (h ++ body)).toNat ++ body

/-- The record bytes of a slot: BYTES of them after the header (R447). -/
def slotBody (b : List Byte) : List Byte := (b.drop 64).take (natAt b 12 4)

/-- States of a slot (R447): 0 empty, 1 valid, 2 foreign, 3 bad. -/
def slotState (b : List Byte) : Nat :=
  if erased (b.take 64) then 0
  else if b.take 4 = ctlg ∧ natAt b 4 2 = 1 then
    if natAt b 16 8 ≠ Config.serial.toNat then 2
    else if 64 + natAt b 12 4 ≤ b.length ∧ natAt b 12 4 ≤ 131008
        ∧ bytesAt b 32 32 = beBytes 32 (sha3 (b.take 32 ++ slotBody b)).toNat then 1
    else 3
  else 3

/-- SEQ of a slot. -/
def slotSeq (b : List Byte) : Nat := natAt b 8 4

/-- The record that begins a run of bytes holds its CRC (R448). -/
def recOk (b : List Byte) : Bool :=
  let n := natAt b 2 2
  20 + n ≤ b.length && natAt b (16 + n) 4 == crc32c (b.take (16 + n))

/-- Bytes that a record takes. -/
def recSize (b : List Byte) : Nat := 8 * ceilDiv (20 + natAt b 2 2) 8

/-- Records whose CRC holds, in order, by type and instance (R448, R450). -/
def recordsIn : Nat → List Byte → List (Nat × List Byte)
  | 0, _ => []
  | n + 1, b =>
    if b.length < 20 then []
    else
      let rest := recordsIn n (b.drop (recSize b))
      if recOk b then (catKey (natAt b 0 2) (natAt b 4 2), b.take (recSize b)) :: rest else rest

/-- The records of a slot; a slot holds at most 131,008 bytes of them. -/
def slotRecords (b : List Byte) : List (Nat × List Byte) := recordsIn 6551 (if slotState b = 1 then slotBody b else b.drop 64)

/-- Keep the first record of each type and instance, in ascending order. -/
def mergeRecords (l : List (Nat × List Byte)) : List (Nat × List Byte) := l.reverse.foldl (fun a x => putKey x.1 x.2 a) []

/-- Factory types (R448). -/
def isFactory (typ : Nat) : Bool := [2, 3, 0x11, 0x12, 0x13].contains typ
def isCalibration (typ : Nat) : Bool := typ == 1 || typ == 0x10

/-- The Factory records of the OTP factory block, none when its digest fails (R430, R446, R451). -/
def factoryRecords : List (Nat × List Byte) :=
  if sha3 Config.factoryBlock = Config.factoryDigest then
    (recordsIn 1228 Config.factoryBlock).filter fun x => isFactory (x.1 / 65536)
  else []

/-- Payload of a record. -/
def recPayload (r : List Byte) : List Byte := bytesAt r 16 (natAt r 2 2)

/-- The slot in force (R450): on an exit from DEEP_SLEEP the one that the pointer Vault word names when valid; else the valid
one with the higher SEQ. -/
def chooseSlot (f : Flash) (ptr : Option Nat) : Option Bool :=
  let ok (b : Bool) : Bool := slotState (flashCat f b) == 1
  match ptr with
  | some w =>
    let b := bit w 31
    if ok b then some b
    else if ok false && ok true then some (slotSeq f.cat0 < slotSeq f.cat1)
    else if ok false then some false else if ok true then some true else none
  | none =>
    if ok false && ok true then some (slotSeq f.cat0 < slotSeq f.cat1)
    else if ok false then some false else if ok true then some true else none

/-- Records that bad slots still hold, the higher SEQ first (R450). -/
def recoverRecords (f : Flash) : List (Nat × List Byte) :=
  let bad := ([false, true] : List Bool).filter fun b => slotState (flashCat f b) == 3
  let order := if bad.length = 2 ∧ slotSeq f.cat0 < slotSeq f.cat1 then bad.reverse else bad
  mergeRecords (order.flatMap fun b => slotRecords (flashCat f b))

/-- An Accession log from its Catalogue copy (R247). -/
def accessionOf (p : List Byte) : List AccEntry :=
  (List.range (p.length / 8)).map fun i =>
    let o := 8 * i
    let b := natAt p (o + 4) 2
    { page := natAt p o 2, cause := byteAt p (o + 2), stack := b / 512 % 4, chan := b / 32 % 16, bank := b % 32 }

/-- The first stage's part with the Catalogue (R446, R450, R451). -/
def loadCatalogue (deep archive : Bool) (s : State) : State :=
  let f := s.boot.flash
  let slot := chooseSlot f (if deep then s.vault.word 1 else none)
  let states := ([false, true] : List Bool).map fun b => (b, slotState (flashCat f b), erased (flashCat f b))
  let others := states.filter fun x => slot != some x.1
  let badSlots := (others.filter fun x => x.2.1 == 3).map fun x => b2n x.1
  let fac := factoryRecords
  let own := match slot with
    | some b => slotRecords (flashCat f b)
    | none => (recoverRecords f).filter fun x => !isFactory (x.1 / 65536)
  let recs := mergeRecords (fac ++ own)
  let nrec := if slot.isNone then own.length else 0
  let accRec := lookupD [] (catKey 0x20 0) recs
  { s with
    boot := { s.boot with
      factory := fac.map fun x => (x.1 / 65536, recPayload x.2), catRecovered := slot.isNone && nrec != 0
      slotBad := (if badSlots.length = 2 then [0xFF] else badSlots) ++ (if fac.isEmpty then [0xFE] else []) }
    cat := { s.cat with
      slot := slot, seq := match slot with | some b => slotSeq (flashCat f b) | none => 0
      records := if slot.isSome then mergeRecords own else recs, mustWrite := slot.isNone, recovered := nrec
      interrupted := (others.filter fun x => x.2.1 == 0 && !x.2.2).length
      foreign := (others.filter fun x => x.2.1 == 2).length }
    stk := { s.stk with log := if archive then s.stk.log else accessionOf (recPayload accRec) } }

/-- The boot ROM's choice (R432, R433): which image runs, none when neither is valid, with what it tried first. -/
def chooseImage (b : Boot) : Option Bool × Bool :=
  let sel := selectorOf b.flash
  let first := if sel.2.1 then !sel.1 else sel.1
  (if b.err first = 0 then some first else if b.err (!first) = 0 then some (!first) else none, first)

/-- Steps 2 to 4 of R432: the selector, the images tried and their results; a trial that a full reset ends is reported once Yozon
runs. -/
def romSelect (b : Boot) : Boot :=
  let ch := chooseImage b
  let first := ch.2
  let second := b.err first ≠ 0
  let tried (w : Bool) : Nat := if w = first ∨ second then b.err w else 0xF
  let trial := (selectorOf b.flash).2.1
  { b with
    errA := tried false, errB := tried true
    flash := if trial then writeSel b.flash first false else b.flash
    fallback := second
    fallbackCause := if second then some (b.err first) else if trial then some 0x11 else none
    trial := false }

/-- Step 5 with the board configuration record (R432, R439, R460): the admission budget, the safety Vault words, the reference
buffers that the configuration needs. -/
def romBoard (s : State) : State :=
  let b := s.boot.flash.bcfg
  let cfg := bytesAt b 16 960
  if bcfgOk b s.dev.charter then
    let s1 := { s with
      boot := { s.boot with bcfgValid := true }
      pwr := { s.pwr with budgetA := natAt b 8 2, windowUs := natAt b 10 2 } }
    let s2 := if safetyOk cfg then
        { s1 with
          vault := (List.range 240).foldl (fun v i => v.put (16 + i) (natAt cfg (4 * i) 4)) s1.vault
          safe := s1.safe.configure s1.dev.ticks cfg }
      else { s1 with safe := { s1.safe with valid := false, checks := [] } }
    bufRest s2
  else
    { s with
      boot := { s.boot with bcfgValid := false }, pwr := { s.pwr with budgetA := 20, windowUs := 200 }
      safe := { s.safe with valid := false, checks := [] } }

/-- CHARTER_LOCK as it reads (R452): LOCKED also without a majority. -/
def lockedWord : Nat := 0x5A5AA5A5
def charterLocked (s : State) : Bool := (s.vault.word 0).getD lockedWord == lockedWord

/-- A carrier whose ENC bit is set starts with encryption on when ENC_REQUIRED is set (R437). -/
def encRequired (s : State) : State :=
  if keyRight s 3 then
    let on (c : Nat) : ParamVal := { tab := .r183, obj := objCarrier c, pid := 0x20, val := 1 }
    (List.range 2).foldl (fun s c => if keyRight s c then { s with par := s.par.put (on c) } else s) s
  else s

/-- A latched diagnostic ends, and REQ is cleared, with the next run of R432 (R459, R467). -/
def clearDiag (x : SafeCarrier) : SafeCarrier := { x with diag := 0, backRun := 0, chanRun := 0, req := false }

/-- Steps 1 to 6 of R432, from the release of reset to the start of Yozon. `deep`: an exit from DEEP_SLEEP; `archive`: the
Archive holds. -/
def bootRun (deep archive : Bool) (s : State) : State :=
  let s1 := { s with
    vault := s.vault.put 0 0, boot := { romSelect s.boot with stage := 0, done := false }
    safe := { s.safe with cars := s.safe.cars.map clearDiag } }
  match (chooseImage s.boot).1 with
  | none => driveAll { s1 with boot := { s1.boot with stage := 0xF, fallback := false, fallbackCause := none } }
  | some w =>
    let img := flashImg s.boot.flash w
    let s2 := encRequired (romBoard { s1 with dev := { s1.dev with charter := secBytes img (charterSec img), imageB := w } })
    let s3 := { s2 with vault := s2.vault.put 0 lockedWord, boot := { s2.boot with stage := 1 } }
    let s4 := loadCatalogue deep archive s3
    driveAll { s4 with boot := { s4.boot with stage := 2, done := true, fw := fwOf img, fromDeep := deep } }

end Sys2Proof.Machine
end

