-- ==== Sys2Proof/Machine/Firmware.lean ====
section
/-! DEFINITION. Identity and attestation, firmware update, the Catalogue and the Vault in service (18_boot_security.md R440 to
R456; 13_curator_desk.md R326, R327; 14_command_reference.md R362). -/

namespace Sys2Proof.Machine

/-- SEC.IDENTITY.GET (R440, R362). -/
def secIdentity (_ : Request) (s : State) : State × Reply := (s, okBulk ownHash (padTo 1312 ownPub))

def execSecIdentityGet (q : Request) (s : State) : Out := .next (deskRun 0x1001 secIdentity q s)

/-- The running image as flash holds it. -/
def runningImage (s : State) : List Byte := flashImg s.boot.flash s.dev.imageB

/-- CHARTER_PENDING (R438): the running image's own Charter is not the one in force. -/
def charterPending (s : State) : Bool :=
  let img := runningImage s
  secBytes img (charterSec img) != s.dev.charter

/-- Bytes 0 to 207 of an attestation report (R441). -/
def attestBody (nonce : List Byte) (s : State) : List Byte :=
  let img := runningImage s
  let t := s.stamp
  [0x41, 0x54, 0x53, 0x54] ++ leBytes 2 1 ++ leBytes 2 2628 ++ leBytes 8 Config.serial.toNat ++ nonce
    ++ leBytes 6 t.sec ++ leBytes 2 t.frac ++ leBytes 4 t.ns ++ leBytes 4 Config.romVersion.toNat ++ leBytes 4 (fwOf img)
    ++ leBytes 4 (svnOf img) ++ leBytes 4 s.boot.counter ++ leBytes 1 (b2n s.dev.imageB)
    ++ leBytes 1 (b2n s.boot.trial + 2 * b2n s.boot.fallback + 4 * b2n s.time.todValid + 8 * b2n (charterPending s))
    ++ leBytes 1 ((signerOf 0 img).getD 0) ++ leBytes 1 s.boot.revoked
    ++ beBytes 32 (sha3 (img.take 1456)).toNat ++ shaBytes s.dev.charter
    ++ (match s.cat.slot with | some b => bytesAt (flashCat s.boot.flash b) 32 32 | none => List.replicate 32 0) ++ ownHash

/-- SEC.ATTEST (R441). -/
def secAttest (q : Request) (s : State) : State × Reply :=
  let b := attestBody (bytesAt q.body 4 32) s
  (s.drawn, okBulk (leBytes 2 2628) (b ++ padTo 2420 (signDigest (sha3 b) (s.freeVal 256))))

def execSecAttest (q : Request) (s : State) : Out := .next (deskRun 0x1002 secAttest q s)

/-- SEC.CHARTER.GET (R435). -/
def secCharter (_ : Request) (s : State) : State × Reply := (s, okBulk (leBytes 2 s.dev.charter.length) s.dev.charter)

def execSecCharterGet (q : Request) (s : State) : Out := .next (deskRun 0x1003 secCharter q s)

/-- Which image is inactive. -/
def inactive (s : State) : Bool := !s.dev.imageB

/-- An image is valid by R431; that its Charter is (result 9) the boot ROM judges by R435. -/
def imageValid (counter revoked : Nat) (img : List Byte) : Bool :=
  imageErr counter revoked img == 0 || imageErr counter revoked img == 9

/-- State of the inactive image (R444, R454): 0 EMPTY, 1 INVALID, 2 PROGRAMMING, 3 VALID. -/
def inactiveState (s : State) : Nat :=
  let img := flashImg s.boot.flash (inactive s)
  if s.boot.programming then 2
  else if erased (img.take 4096) then 0
  else if imageValid s.boot.counter s.boot.revoked img then 3 else 1

/-- The two highest-numbered free pages (R442). -/
def stagingPages (k : Stacks) : List Nat := (((List.range 65536).reverse).filter fun p => !k.pageUsed p).take 2

/-- The staging area is freed; nothing is being loaded. -/
def freeStaging (s : State) : State :=
  onStk (fun k => { k with staging := [] }) (onBoot (fun b => { b with staging := none, staged := [], programming := false }) s)

/-- RESULT of a whole staged image (R442, R362): 0 valid, 1 signature failed, 2 rollback refused, 3 size wrong. -/
def loadResult (total : Nat) (img : List Byte) (b : Boot) : Nat :=
  if img.length ≠ total then 3
  else
    match imageErr b.counter b.revoked img with
    | 0 => 0
    | 9 => 0
    | 2 => 3
    | 5 => 2
    | _ => 1

/-- An image region that is being programmed, or that was left so: no image in it is valid (R442, R444). -/
def partImage : List Byte := [0]

/-- The inactive image is invalid from here (R442, R444). -/
def spoilInactive (s : State) : State := onBoot (fun b => { b with flash := flashSetImg b.flash (!s.dev.imageB) partImage }) s

/-- LAST (R442, R444): programming begins, or the load fails. -/
def fwLast (total : Nat) (s : State) : State × Reply :=
  let r := loadResult total s.boot.staged s.boot
  if r = 0 then
    (spoilInactive (onBoot (fun b => { b with staging := none, programming := true }) s), ok (leBytes 1 0))
  else
    let svn := svnOf s.boot.staged
    let s1 := freeStaging (onBoot (fun b => { b with loadFails := bump b.loadFails }) s)
    (if r = 2 then raise 354 objDevice (evtArg 0 0 s.boot.counter svn) s1 else raise 353 objDevice (evtArg 0 r 0 0) s1, ok (leBytes 1 r))

/-- FW.LOAD (R442, R362, R363). A FIRST over an earlier load or programming abandons it and leaves the inactive image invalid (log
80). -/
def fwLoad (q : Request) (s : State) : State × Reply :=
  let first := bit (u8 q 12) 0
  let last := bit (u8 q 12) 1
  let total := u32 q 8
  let add (s : State) : State := onBoot (fun b => { b with staged := b.staged ++ q.bulk }) s
  let finish (s : State) : State × Reply := if last then fwLast total (add s) else (add s, ok (leBytes 1 0))
  if first then
    let s0 := freeStaging (if s.boot.staging.isSome ∨ s.boot.programming then spoilInactive s else s)
    if !s.stk.initialised ∨ (stagingPages s0.stk).length < 2 ∨ u32 q 4 ≠ 0 then (s, refuse stBadState)
    else
      finish (onStk (fun k => { k with staging := stagingPages k }) (onBoot (fun b => { b with
        staging := some (q.ch, total), loads := bump b.loads }) s0))
  else
    match s.boot.staging with
    | none => (s, refuse stBadState)
    | some x => if x ≠ (q.ch, total) ∨ u32 q 4 ≠ s.boot.staged.length then (s, refuse stBadState) else finish s

def execFwLoad (q : Request) (s : State) : Out := .next (deskRun 0x1010 fwLoad q s)

/-- What flash holds after programming: the bytes that were programmed, but for those that read back otherwise. -/
def readBack (l : List Byte) (bad : List (Nat × Byte)) : List Byte := bad.foldl (fun l x => l.set x.1 x.2) l

/-- FW_PROGRAMMING_DONE (R444): the image as it reads back is checked against the digests; a mismatch leaves it invalid and raises
FW_LOAD_FAIL (353) with RESULT 4. Programming pauses in SLEEP (R453). -/
def programmingDone (bad : List (Nat × Byte)) (s : State) : State :=
  if s.boot.programming ∧ (s.pwr.st = .run ∨ s.pwr.st = .idle) then
    let img := readBack s.boot.staged bad
    let s1 := freeStaging (onBoot (fun b => { b with flash := flashSetImg b.flash (!s.dev.imageB) img }) s)
    if imageValid s.boot.counter s.boot.revoked img then s1
    else raise 353 objDevice (evtArg 0 4 0 0) (onBoot (fun b => { b with loadFails := bump b.loadFails }) s1)
  else s

def execFwProgrammingDone (bad : List (Nat × Byte)) (s : State) : Out := .next (programmingDone bad s)

/-- Accepted requests and responses not yet written, of every channel. -/
def deskBusy (s : State) : Bool := s.desk.chans.toList.any fun c => !c.outst.isEmpty || !c.done.isEmpty

/-- The Curator restarts into the other image (R326, R445). -/
def switchImage (s : State) : State :=
  { s with
    dev := { s.dev with imageB := !s.dev.imageB }
    desk := { s.desk with restarting := true, ready := false }
    boot := { s.boot with trial := true, fw := fwOf (flashImg s.boot.flash !s.dev.imageB) } }

/-- An activation goes on (R326): with every other request complete and written, its own response is given; once that is written
the Curator restarts. -/
def activateProgress (s : State) : State :=
  if s.desk.activating && !s.desk.restarting then
    if deskBusy s then
      match s.desk.chans.toList.flatMap (·.outst), s.desk.chans.toList.all (·.done.isEmpty) with
      | [o], true => if o.op = 0x1011 then complete o.req.ch o.req.tag { status := stOk } s else s
      | _, _ => s
    else switchImage s
  else s

/-- FW.ACTIVATE (R445, R326): a trial selector is written; no more requests are accepted. -/
def fwActivate (_ : Request) (s : State) : State × Reply :=
  if inactiveState s ≠ 3 then (s, refuse stBadState)
  else
    ({ s with
      desk := { s.desk with activating := true }
      boot := { s.boot with flash := writeSel s.boot.flash (!s.dev.imageB) true, activations := bump s.boot.activations } }, .later)

def execFwActivate (q : Request) (s : State) : Out := .next (activateProgress (deskRun 0x1011 fwActivate q s))

/-- In IDLE the core clocks are gated again once Yozon has no work (R386). -/
def idleRest (s : State) : State :=
  if s.pwr.st = .idle ∧ !deskBusy s then onPwr (fun p => { p with coresOff := true }) s else s

/-- RESPONSE_WRITE (R314, R316, R317), and what waits for the responses to be written. -/
def execResponseWrite (ch : Fin 4) (s : State) : Out := .next (idleRest (activateProgress (writeResponse ch s)))

/-- The Curator goes back to the previous image (R445): a selector with that image preferred and TRIAL clear, BOOT_FALLBACK (352)
with cause 0x10. -/
def trialBack (s : State) : State :=
  let back := !s.dev.imageB
  raise 352 objDevice (evtArg 0 (b2n back) 0x10 0) { s with
    dev := { s.dev with imageB := back }
    boot := { s.boot with
      trial := false, fw := fwOf (flashImg s.boot.flash back)
      flash := writeSel s.boot.flash back false, fallbacks := bump s.boot.fallbacks } }

/-- WATCHDOG_RESTART (R327); during a trial, the previous image (R445). -/
def execWatchdogRestart (s : State) : Out :=
  .next (if s.boot.trial then trialBack (watchdogRestart s) else watchdogRestart s)

/-- TRIAL_FALLBACK (R445): Yozon's digest mismatches at load, or READY is not set in time; neither befalls an image that has set
READY. -/
def execTrialFallback (s : State) : Out := .next (if s.boot.trial ∧ !s.desk.ready then trialBack (watchdogRestart s) else s)

/-- TRIAL_END (R445): 60 s of READY end the trial. -/
def trialEnd (s : State) : State :=
  if s.boot.trial ∧ s.desk.ready ∧ s.boot.trialSince + 60 * 625000000 ≤ s.dev.ticks then
    onBoot (fun b => { b with trial := false, flash := writeSel b.flash s.dev.imageB false }) s
  else s

def execTrialEnd (s : State) : Out := .next (trialEnd s)

/-- FIRMWARE_RESTART_READY (R326, R327, R445): READY; the trial time of a new image runs from here. -/
def execFirmwareRestartReady (s : State) : Out :=
  .next (onBoot (fun b => { b with trialSince := if s.desk.restarting then s.dev.ticks else b.trialSince }) (restartReady s))

/-- FW.COMMIT (R443). -/
def fwCommit (_ : Request) (s : State) : State × Reply :=
  let img := runningImage s
  let svn := svnOf img
  if s.boot.trial ∨ min svn 128 ≤ s.boot.counter then (s, refuse stBadState)
  else
    let keep := 2 ^ ((signerOf s.boot.revoked img).getD 4)
    let bits := Nat.xor (Nat.lor (revokeOf img) keep) keep
    (onBoot (fun b => { b with counter := min svn 128, revoked := Nat.lor b.revoked (bits % 16), commits := bump b.commits }) s,
      ok (leBytes 4 (min svn 128)))

def execFwCommit (q : Request) (s : State) : Out := .next (deskRun 0x1012 fwCommit q s)

/-- Seconds of a trial that remain. -/
def trialLeft (s : State) : Nat :=
  if s.boot.trial then if s.desk.ready then 60 - (s.dev.ticks - s.boot.trialSince) / 625000000 else 60 else 0

/-- FW.STATUS (R454); how far a programming has come is a free value (R444 gives only its longest time). -/
def fwItems (s : State) : List StatItem :=
  let b := s.boot
  let sectors := if b.programming then (s.freeVal 32).toNat % (ceilDiv b.staged.length 65536 + 1) else 0
  [gau 1 0 (b2n s.dev.imageB), gau 1 1 (b2n b.trial), gau 1 2 (trialLeft s), gau 2 0 (inactiveState s)]
    ++ (([false, true] : List Bool).flatMap fun w =>
      let img := flashImg b.flash w
      [gau 3 0 (fwOf img) (b2n w), gau 3 1 (svnOf img) (b2n w), gau 3 2 ((signerOf 0 img).getD 0xFF) (b2n w)])
    ++ [gau 4 0 b.counter, gau 4 1 b.revoked, gau 5 0 (b2n (charterPending s)), gau 6 0 b.staged.length, gau 6 1 sectors,
      ctr 7 0 b.loads, ctr 7 1 b.loadFails, ctr 7 2 b.activations, ctr 7 3 b.fallbacks, ctr 7 4 b.commits]

def execFwStatus (q : Request) (s : State) : Out := .next (deskRun 0x1013 (sCommand fun _ s => fwItems s) q s)

/-- The slot that the next write programs (R449, R450). -/
def catTarget (k : Catalogue) : Bool := match k.slot with | some b => !b | none => false

/-- A slot whose header is erased and whose record area is not (R450): what a write or an erase cut short leaves. -/
def partSlot : List Byte := List.replicate 64 0xFF ++ [0]

/-- The records of the next slot (R446, R449): every change, and the Factory records of the factory block. -/
def nextRecords (s : State) : List (Nat × List Byte) :=
  let base := s.cat.pending.foldl (fun l x => if x.2.isEmpty then delKey x.1 l else putKey x.1 x.2 l) s.cat.records
  factoryRecords.foldl (fun l x => putKey x.1 x.2 l) base

/-- CATALOGUE_WRITE_START (R449, R424): with a change pending, no write or erase running and no thermal stop, the new slot is
built and programmed. -/
def catWriteStart (s : State) : State :=
  let k := s.cat
  if (k.pending.isEmpty ∧ !k.mustWrite) ∨ k.writing.isSome ∨ k.erasing.isSome ∨ stopHolds s ∨ !s.desk.ready then s
  else
    { s with
      cat := { k with writing := some (nextRecords s), pending := [], mustWrite := false, retry := false }
      boot := { s.boot with flash := flashSetCat s.boot.flash (catTarget k) partSlot } }

def execCatalogueWriteStart (s : State) : Out := .next (catWriteStart s)

/-- The slot that the write in progress programs (R449). -/
def newSlot (recs : List (Nat × List Byte)) (s : State) : List Byte := catSlot ((s.cat.seq + 1) % 2 ^ 32) (recordSec s) recs

/-- A good write (R449): the slot, the pointer Vault word, CATALOGUE_WRITTEN (355), and the erase of the slot left. -/
def catWritten (slot : List Byte) (recs : List (Nat × List Byte)) (s : State) : State :=
  let t := catTarget s.cat
  let seq := (s.cat.seq + 1) % 2 ^ 32
  let f := flashSetCat s.boot.flash t slot
  raise 355 objDevice (evtArg 0 (b2n t) 0 seq) { s with
    boot := { s.boot with flash := flashSetCat f (!t) (if erased (flashCat f !t) then [] else partSlot) }
    vault := s.vault.put 1 (2 ^ 31 * b2n t + seq % 2 ^ 31)
    cat := { s.cat with
      slot := some t, seq := seq, records := recs, writing := none, retry := false, writes := bump s.cat.writes
      erasing := some !t } }

/-- CATALOGUE_WRITE_DONE (R449): a read-back failure is retried once after an erase; a second one is reported, the slot in force
stays, and the changes wait for the next write. `bad` are the bytes of the slot that read back otherwise than programmed. -/
def catWriteDone (bad : List (Nat × Byte)) (s : State) : State :=
  match s.cat.writing with
  | none => s
  | some recs =>
    if s.cat.erasing.isSome then s
    else if slotState (readBack (newSlot recs s) bad) = 1 then catWritten (readBack (newSlot recs s) bad) recs s
    else
      let t := catTarget s.cat
      let s1 := onCat (fun k => { k with erasing := some t, retry := true }) s
      if s.cat.retry then
        let old := s.cat.records
        let changed := recs.filter fun x => lookupD [] x.1 old != x.2
        let gone := (old.filter fun x => lookupD [] x.1 recs == []).map fun x => (x.1, ([] : List Byte))
        raise 356 objDevice (evtArg 0 (b2n t) 0 0) (onCat (fun k => { k with
          writing := none, retry := false, writeFails := bump k.writeFails, mustWrite := k.slot.isNone
          pending := k.pending.foldl (fun l x => putKey x.1 x.2 l) (changed ++ gone) }) s1)
      else s1

def execCatalogueWriteDone (bad : List (Nat × Byte)) (s : State) : Out := .next (catWriteDone bad s)

/-- CATALOGUE_ERASE_DONE (R449). -/
def catEraseDone (s : State) : State :=
  match s.cat.erasing with
  | none => s
  | some b =>
    { s with
      cat := { s.cat with erasing := none }
      boot := { s.boot with flash := flashSetCat s.boot.flash b (if s.cat.writing.isSome then partSlot else []) } }

def execCatalogueEraseDone (s : State) : Out := .next (catEraseDone s)

/-- The records as the slot in force numbers them (R447); with no slot in force, those that the device holds for the next. -/
def slotList (s : State) : List (Nat × List Byte) :=
  match s.cat.slot with
  | some b => slotRecords (flashCat s.boot.flash b)
  | none => s.cat.records

/-- CATALOGUE.READ (R362, R447): RECORD numbers the records of the slot in force in order. -/
def catRead (q : Request) (s : State) : State × Reply :=
  match (slotList s)[u16 q 4]? with
  | none => (s, badParam 4)
  | some x => (s, okBulk (leBytes 2 x.2.length) x.2)

def execCatalogueRead (q : Request) (s : State) : Out := .next (deskRun 0x1021 catRead q s)

/-- CATALOGUE.RESET (R34, R362, R448): one Calibration record, or every one, changes that wait with them; any other record is
refused. A converter without its record returns to the default. -/
def catReset (q : Request) (s : State) : State × Reply :=
  let drop (ks : List Nat) (s : State) : State :=
    convDefaults (ks.filterMap fun k => if k / 65536 = 1 then some (k % 65536) else none)
      (ks.foldl (fun s k => catChange (k / 65536) (k % 65536) [] s) s)
  let cal := ((s.cat.records ++ s.cat.writing.getD [] ++ s.cat.pending).map (·.1)).eraseDups.filter fun k => isCalibration (k / 65536)
  if s.cars.toList.any (·.enabled) then (s, refuse stBadState)
  else if u16 q 4 = 0xFFFF then (convDefaults (List.range 16) (drop cal s), ok)
  else
    match (slotList s)[u16 q 4]? with
    | none => (s, badParam 4)
    | some x => if isCalibration (x.1 / 65536) then (drop [x.1] s, ok) else (s, badParam 4)

def execCatalogueReset (q : Request) (s : State) : Out := .next (deskRun 0x1022 catReset q s)

/-- CATALOGUE.STATUS (R455). -/
def catItems (s : State) : List StatItem :=
  let k := s.cat
  let f := s.boot.flash
  let both : List Bool := [false, true]
  [gau 1 0 (match k.slot with | some b => b2n b | none => 0xFFFFFFFF)] ++ (both.map fun b => gau 1 1 (slotState (flashCat f b)) (b2n b))
    ++ (both.map fun b => gau 1 2 (slotSeq (flashCat f b)) (b2n b))
    ++ ((slotList s).zipIdx.map fun x => lst 2 0 (leBytes 2 x.2 ++ leBytes 2 (x.1.1 / 65536) ++ leBytes 2 (x.1.1 % 65536)) x.2)
    ++ [ctr 3 0 k.writes, ctr 3 1 k.writeFails, ctr 3 2 k.interrupted, ctr 3 3 k.foreign, ctr 3 4 k.recovered,
      gau 4 0 k.pending.length, ctr 5 0 s.vault.corrected, ctr 5 1 s.vault.noMajority]

def execCatalogueStatus (q : Request) (s : State) : Out := .next (deskRun 0x1020 (sCommand fun _ s => catItems s) q s)

/-- Every group of a carrier is without a key, and starts a new exchange as by `CRYPT.REKEY` (R452, R176). -/
def loseKeys (c : Fin 2) (s : State) : State :=
  (List.finRange 16).foldl (fun s g =>
    if (s.cry c g).slots.toList.any (·.loaded) then
      tryKex c g (noKeyCheck c g (onCry c g (fun k => { k with
        slots := Vector.replicate 2 {}, txLive := false, txEnc := false, armed := none, armNext := none, rxSync := false
        rxArmed := none }) s))
    else s) s

/-- The three copies of a Vault word. -/
def vaultCopies (v : Vault) (w : Nat) : List Nat := [v.a.getD w 0, v.b.getD w 0, v.c.getD w 0]

/-- Vote one word (R452): a single differing copy is rewritten; VAULT_MISMATCH (357) when any differs. -/
def voteWord (s : State) (w : Nat) : State :=
  let v := s.vault
  if v.a.getD w 0 = v.b.getD w 0 ∧ v.b.getD w 0 = v.c.getD w 0 then s
  else
    match v.word w with
    | some x => raiseAon 357 objDevice (evtArg 0 w 0 0) { s with vault := { v.put w x with corrected := bump v.corrected } }
    | none =>
      let s1 := raiseAon 357 objDevice (evtArg 0 w 1 0) { s with vault := { v with noMajority := bump v.noMajority } }
      if w = 2 then loseKeys 0 s1
      else if w = 3 then loseKeys 1 s1
      else if 16 ≤ w ∧ !(bit (s1.sf 0).diag 3 && bit (s1.sf 1).diag 3) then latchDiag 3 3 s1
      else s1

/-- An upset of one copy of a word. -/
def vaultUpset (v : Vault) (x : Fin 3 × Fin 256 × Word32) : Vault :=
  let w := x.2.1.val
  if x.1 = 0 then { v with a := v.a.set w x.2.2.toNat }
  else if x.1 = 1 then { v with b := v.b.set w x.2.2.toNat } else { v with c := v.c.set w x.2.2.toNat }

/-- VAULT_VOTE (R452): every word is voted; `ups` are the copies that upsets have changed since the last vote. -/
def vaultVote (ups : List (Fin 3 × Fin 256 × Word32)) (s : State) : State :=
  if s.pwr.st = .off then s
  else (List.range 256).foldl voteWord { s with vault := ups.foldl vaultUpset s.vault }

def execVaultVote (ups : List (Fin 3 × Fin 256 × Word32)) (s : State) : Out := .next (vaultVote ups s)

end Sys2Proof.Machine
end

