-- ==== Sys2Proof/Machine/Housekeeping.lean ====
section
/-! DEFINITION. PMBus rails and GPIO (17_monitors_thermal.md R417, R427; 21_pins_electrical.md R496, R497; 20_mated_pair.md R486;
14_command_reference.md R360). -/

namespace Sys2Proof.Machine

/-- PMBUS_POLL (R417): a periodic read ends; the rail's faults are judged. -/
def pmbusPoll (r : Fin 16) (rd : PmRead) (s : State) : State :=
  if (s.rail r).configured then
    judgeRail r (onRail r (fun x =>
      match rd with
      | .values mv ma => { x with vout := mv.toNat, iout := ma.toNat, nackRun := 0, pecRun := 0 }
      | .status w => { x with status := w.toNat, nackRun := 0, pecRun := 0 }
      | .noAck => { x with nackRun := x.nackRun + 1, nacks := bump x.nacks }
      | .badPec => { x with pecRun := x.pecRun + 1, pecs := bump x.pecs, nackRun := 0 }) s)
  else s

def execPmbusPoll (r : Fin 16) (rd : PmRead) (s : State) : Out := .next (pmbusPoll r rd s)

/-- The rail feeds a host-controllable domain that is in RUN (R360, R390, R496). -/
def railInUse (r : Nat) (s : State) : Bool := (List.range 20).any fun d => railFeeds r d && s.dom d == .run

/-- Key of a rail's body among the bodies in force. -/
def railKey (r : Nat) : Nat := 2 ^ 32 + r

/-- PMBUS.RAIL.SET (R360, R417, R497). -/
def pmbusRailSet (q : Request) (s : State) : State × Reply :=
  let r := u8 q 4
  let x := s.rail r
  let adaptive := u8 q 6 = 1
  if 15 < r then (s, badParam 4)
  else if 127 < u8 q 5 then (s, badParam 5)
  else if 1 < u8 q 6 ∨ (adaptive ∧ r ≠ 0 ∧ r ≠ 6) then (s, badParam 6)
  else if x.configured ∧ railInUse r s ∧ x.adaptive ≠ decide adaptive then (s, refuse stBadState)
  else
    let s1 := { s with par := { s.par with bodies :=
      { op := 0x0F20, obj := railKey r, body := q.body, bulk := [] } ::
        (s.par.bodies.filter fun b => !(b.op == 0x0F20 && (b.obj == railKey r || b.obj == 0))) } }
    let s2 := keepBody 0x0F20 q s1
    (onRail r (fun x => { x with
      configured := true, addr := u8 q 5, adaptive := adaptive, mv := u16 q 8, setMv := u16 q 8, offset := 0, aboveRun := 0 }) s2, ok)

def execPmbusRailSet (q : Request) (s : State) : Out := .next (deskRun 0x0F20 pmbusRailSet q s)

/-- PMBUS.STATUS (R427). -/
def pmbusItems (s : State) : List StatItem :=
  let rs := (List.range 16).map fun r => (r, s.rail r)
  (rs.flatMap fun x => [gau 1 0 (b2n x.2.adaptive) x.1, gau 1 1 x.2.setMv x.1])
    ++ (rs.flatMap fun x => [gau 2 0 x.2.vout x.1, gau 2 1 x.2.iout x.1])
    ++ (rs.flatMap fun x => [gau 3 0 x.2.status x.1, gau 3 1 (b2n (x.2.cause != 0)) x.1])
    ++ rs.flatMap fun x => [ctr 4 0 x.2.faults x.1, ctr 4 1 x.2.pecs x.1, ctr 4 2 x.2.nacks x.1]

def execPmbusStatus (q : Request) (s : State) : Out := .next (deskRun 0x0F21 (sCommand fun _ s => pmbusItems s) q s)

/-- Bits of a word, bit by bit, from `a` where a mask is 1 and from `b` elsewhere. -/
def pickBits (n mask a b : Nat) : Nat :=
  ((List.range n).map fun i => 2 ^ i * b2n (if bit mask i then bit a i else bit b i)).sum

/-- GPIO.SET (R360, R486): GPIO22 and GPIO23 belong to the pair on a member. There are 24 pins (R494). The body in force names
every pin that has been set, with its direction and level. -/
def gpioSet (q : Request) (s : State) : State × Reply :=
  let mask := u32 q 4
  if 2 ^ 24 ≤ mask then (s, badParam 4)
  else if s.mate.role ≠ 0 ∧ (bit mask 22 ∨ bit mask 23) then (s, badParam 4)
  else
    let h := s.house
    let dir := pickBits 24 mask (u32 q 8) h.gpioDir
    let out := pickBits 24 mask (u32 q 12) h.gpioOut
    let old := match bodyOf s 0x0F30 objDevice with
      | some b => natAt b.body 4 4
      | none => 0
    let q1 : Request := { q with body := leBytes 4 objDevice ++ leBytes 4 (Nat.lor old mask) ++ leBytes 4 dir ++ leBytes 4 out }
    (onHouse (fun h => { h with gpioDir := dir, gpioOut := out }) (keepBody 0x0F30 q1 s), ok)

def execGpioSet (q : Request) (s : State) : Out := .next (deskRun 0x0F30 gpioSet q s)

/-- ACTIVE of a carrier (R486): a member's own copy is selected, as its selector stands. -/
def mateActive (s : State) (c : Nat) : Bool := s.mate.role != 0 && (getNat {} s.mate.pair c).selector == (s.mate.role == 2)

/-- Direction and output levels of the GPIO pins: on a member GPIO22 and GPIO23 drive ACTIVE_A and ACTIVE_B (R486). -/
def gpioDrive (s : State) : Nat × Nat :=
  let h := s.house
  if s.mate.role = 0 then (h.gpioDir, h.gpioOut)
  else (Nat.lor h.gpioDir (3 * 2 ^ 22), pickBits 24 (3 * 2 ^ 22) (2 ^ 22 * b2n (mateActive s 0) + 2 ^ 23 * b2n (mateActive s 1)) h.gpioOut)

/-- GPIO.GET (R360): an output shows the level it drives, an input the level at its pin, which `pins` gives. -/
def gpioGet (pins : Word32) (_ : Request) (s : State) : State × Reply :=
  let d := gpioDrive s
  (s, ok (leBytes 4 (pickBits 24 d.1 d.2 pins.toNat) ++ leBytes 4 d.1))

def execGpioGet (q : Request) (pins : Word32) (s : State) : Out := .next (deskRun 0x0F31 (gpioGet pins) q s)

end Sys2Proof.Machine
end

