-- ==== Sys2Proof/Machine/Mate.lean ====
section
/-! DEFINITION. The mated pair: provisioning, mate blocks and state records, MATE_SYNC, mirroring and shadows, the pair state, the
selection between members, status (20_mated_pair.md R473 to R490; 14_command_reference.md R362; 12_host_lanes.md R296). -/

namespace Sys2Proof.Machine

/-- This member's side of a pair group, and the mate's (R485): 0 the PRIMARY's copy, 1 the SECONDARY's. -/
def Mate.own (m : Mate) : Nat := m.role - 1
def Mate.other (m : Mate) : Nat := 2 - m.role

/-- Is this member's copy of a carrier selected? -/
def Mate.selects (m : Mate) (c : Nat) : Bool := (getNat {} m.pair c).onProt == (m.role == 2)

/-- The pair state is past LINKING, and the mate is not lost (R484). -/
def PairState.joined : PairState → Bool
  | .checking => true | .aligning => true | .paired => true
  | .off => false | .linking => false | .alone => false

/-- Code of a pair state (R337: the order of the table's State column). -/
def PairState.code : PairState → Nat
  | .off => 0 | .linking => 1 | .checking => 2 | .aligning => 3 | .paired => 4 | .alone => 5

/-- MATE is active (R273, R479). -/
def mateSyncOn (s : State) : Bool := (s.cand 11).active

/-- The MATE time source is valid while MATE is active, the link is up, the mate reports TOD_VALID and MATE_SYNC_LOST does not hold
(R259, R479). -/
def mateTime (s : State) : State :=
  let tod := match s.mate.peer with
    | some p => bit p.flags 3
    | none => false
  reselect (onTime (fun t => { t with
    mateValid := s.mate.role != 0 && mateSyncOn s && s.link.isUp && tod && !s.mate.syncLost }) s)

/-- MATE_SYNC_LOST (418) on entry and exit, only on a member (R479, R490). -/
def mateSyncLost (lost : Bool) (s : State) : State :=
  if s.mate.role = 0 ∨ s.mate.syncLost = lost then s
  else refLosses (raise 418 objMate (evtArg (b2n lost) 0 0 0) (onMate (fun m => { m with syncLost := lost }) s))

/-- The lowest group of a carrier. -/
def leadGroup (s : State) (c : Fin 2) : Fin 16 := (groupsOf s c).headD 0

/-- A member's own copy of a carrier has failed (R221, R485). -/
def copyFailed (s : State) (c : Fin 2) : Bool := (groupsOf s c).isEmpty || (groupsOf s c).any fun g => groupFailed s c g

/-- The mate's copy of a carrier is in SF: the mate is lost or absent (R485), or its record says so by its top request: SF_W of
the PRIMARY, SF_P of the SECONDARY. -/
def peerFailed (s : State) (c : Fin 2) : Bool :=
  match s.mate.peer with
  | none => true
  | some p => !s.mate.st.joined || (if c = 0 then p.reqA else p.reqB) == (if s.mate.role == 1 then 14 else 11)

/-- Judge both pair groups (R221, R485), PROT_DD_FAIL (179) on entry and exit, and settle them. -/
def pairConditions (onset : Nat) (s : State) : State :=
  if s.mate.role = 0 then s
  else
    ([0, 1] : List (Fin 2)).foldl (fun s (c : Fin 2) =>
      let p := s.pairOf c.val
      let p1 := { p with sides := Vector.ofFn fun (i : Fin 2) =>
        let l := limitInForce s c.val s.mate.limitNs (p.side i.val).limit
        let dd := ddFail l p i.val
        { (p.side i.val).judge ((if i.val = s.mate.own then copyFailed s c else peerFailed s c) || dd) false dd false with limit := l } }
      let p2 := { p1 with aligned := p1.aligned && !((p1.side 0).sfNow && (p1.side 1).sfNow) }
      let s1 := ([0, 1] : List Nat).foldl (fun s i =>
        raiseIf ((p2.side i).dd != (p.side i).dd) 179 objMate (evtArg (b2n (p2.side i).dd) (p2.top (pairRule s)) (p2.selected (pairRule s)) 0) s)
        (onPair c.val (fun _ => p2) s)
      pairDecide c.val onset s1) s

/-- The group of a line tributary that a stream names (R477). -/
def streamTrib (s : State) (c tpn : Nat) : Option Trib := s.map.tribs.find? fun t => t.ckind == 0 && t.cont == c && t.tpn == tpn

/-- Does this member own the ingress mapping of a tributary (R481)? -/
def ownsTrib (s : State) (t : Trib) : Bool := getNat false (getNat (Vector.replicate 16 true) s.mate.owns t.cont) t.group

/-- Capacity of one direction of the mate link, kb/s times 264 (R477). -/
def linkCapacity264 (s : State) : Nat := ((linkLanes s).filter fun l => s.lanes[l].st == .up).length * classRate s.link.cls * 256

/-- Insert by TPN. -/
def insertTrib (t : Trib) : List Trib → List Trib
  | [] => [t]
  | x :: r => if t.tpn ≤ x.tpn then t :: x :: r else x :: insertTrib t r

/-- The tributaries from the lowest TPN on whose ODU rates, times 1.01, fit a capacity (R483). -/
def fitTribs (cap264 : Nat) : Nat → List Trib → List Trib
  | _, [] => []
  | sum, t :: r => if (sum + t.rate) * 101 * 264 ≤ cap264 * 100 then t :: fitTribs cap264 (sum + t.rate) r else []

/-- The MIRRORED tributaries of a carrier (R483). -/
def mirrored (s : State) (c : Nat) : List Trib :=
  fitTribs (linkCapacity264 s) 0 ((s.map.tribs.filter fun t => t.ckind == 0 && t.cont == c).foldr insertTrib [])
def isMirrored (s : State) (t : Trib) : Bool := (mirrored s t.cont).any fun x => x.tpn == t.tpn

/-- The shadow of a tributary (R482). -/
def Mate.shadow (m : Mate) (c tpn : Nat) : Shadow :=
  (m.shadows.find? fun x => x.car == c && x.tpn == tpn).getD { car := c, tpn := tpn }
def Mate.putShadow (m : Mate) (x : Shadow) : Mate :=
  { m with shadows := x :: m.shadows.filter fun y => !(y.car == x.car && y.tpn == x.tpn) }

/-- Every mirrored tributary that this member shadows is SYNCED (R482, R484). -/
def shadowsSynced (s : State) : Bool :=
  s.map.tribs.all fun t => t.ckind != 0 || ownsTrib s t || !isMirrored s t || (s.mate.shadow t.cont t.tpn).synced

/-- MATE_ALIGNED (419) on entry to PAIRED and on exit (R484, R490). -/
def leavePaired (s : State) : State :=
  if s.mate.st = .paired then
    retarget 0 (raise 419 objMate (evtArg 0 0 0 0) (onMate (fun m => { m with st := .aligning, eqRun := 0, neRun := 0 }) s))
  else s

/-- The mate is lost (R484, R485): ALONE with both carriers, MATE_LINK_DOWN (417) with its cause, the mate's copies in SF with the
onset at its last record; its role and flags count again only from its next record (log 51). -/
def mateLost (cause : Nat) (s : State) : State :=
  if !s.mate.st.joined then s
  else
    let taken := ([0, 1] : List Nat).foldl (fun m c =>
      if (getNat (Vector.replicate 16 true) s.mate.owns c).toList.all id then m else m + 2 ^ c) 0
    let s1 := onMate (fun m => { m with
      st := .alone, donor := false, mismatch := false, owns := Vector.replicate 2 (Vector.replicate 16 true), eqRun := 0, neRun := 0
      peer := m.peer.map fun p => { p with role := 0, flags := 0 }, takeovers := if taken = 0 then m.takeovers else bump m.takeovers }) s
    pairConditions s.mate.peerAt (retarget 0 (raise 417 objMate (evtArg 0 cause taken s.mate.lastSeq) s1))

def execMateLost (s : State) : Out := .next (mateTime (mateLost 1 s))

/-- The timing donor (R484): the member that carries a selected copy; the PRIMARY when neither does; when both do, the one that
comes from ALONE, else the PRIMARY (log 51). -/
def donorIsOwn (m : Mate) (p : PeerRecord) : Bool :=
  let mine := m.selects 0 || m.selects 1
  let theirs := bit p.flags 0 || bit p.flags 1
  if mine != theirs then mine
  else if mine && (m.st == .alone) != (p.st == 5) then m.st == .alone
  else m.role == 1

/-- LINKING or ALONE to CHECKING (R484): the link is up, MATE active, the roles complementary, and the mate not in STOP;
MATE_LINK_UP (416). -/
def mateProgress (s : State) : State :=
  let m := s.mate
  match m.peer with
  | none => s
  | some p =>
    if (m.st = .linking ∨ m.st = .alone) && s.link.isUp && mateSyncOn s && p.role + m.role == 3 && p.role != 0 && !bit p.flags 2 then
      pairConditions s.tod16 (raise 416 objMate (evtArg 0 s.link.cls (linkMask s) 0)
        (onMate (fun m => { m with st := .checking, donor := donorIsOwn m p, mismatch := false }) s))
    else s

/-- Insert by group and TPN. -/
def insertMate (t : MateTrib) : List MateTrib → List MateTrib
  | [] => [t]
  | x :: r => if 1024 * t.group + t.tpn ≤ 1024 * x.group + x.tpn then t :: x :: r else x :: insertMate t r

/-- What this member has provisioned for a carrier, and for the pair (R474, R475); tributaries by group and TPN. -/
def mateCarrier (s : State) (c : Fin 2) : Option MateCarrier :=
  let k := s.cars[c]
  if k.provisioned then
    some { symRate := k.symRate, groupMap := k.groupMap, slices := k.slices
           tribs := (s.map.tribs.filter fun t => t.ckind == 0 && t.cont == c.val).foldr (fun t l => insertMate
             { group := t.group, tpn := t.tpn, kind := t.kind, rate := t.rate, slots := t.slots, iface := (getNat {} s.bonds t.bond).iface } l) [] }
  else none
def mateProv (s : State) : MateProv :=
  { mode := (s.dev.mode.map Mode.code).getD 0xFF, lanes := s.mate.lanes, limitNs := s.mate.limitNs
    carA := mateCarrier s 0, carB := mateCarrier s 1 }

/-- CHECKING_RECOMPARE (R474, R475, R476, R484): the mate's provisioning, whose digest came over the Desk MATE channel, is compared
with this member's. In ALIGNING the donor owns both carriers and the other member shadows them (log 51); R480 applies. -/
def recompare (peer : MateProv) (s : State) : State :=
  if s.mate.st ≠ .checking then s
  else if peer = mateProv s then
    retarget 0 (onMate (fun m => { m with
      st := .aligning, mismatch := false, owns := Vector.replicate 2 (Vector.replicate 16 m.donor), shadows := [], mirror := [], eqRun := 0
      neRun := 0 }) s)
  else onMate (fun m => { m with mismatch := true }) s

def execCheckingRecompare (peer : MateProv) (s : State) : Out := .next (recompare peer s)

/-- A stamp in a state record (R478). -/
def stampBe (t : Nat) : List Byte := let x := stampOf t; beBytes 6 x.sec ++ beBytes 4 x.ns ++ beBytes 2 x.frac
def stampAt (l : List Byte) (off : Nat) : Nat :=
  stampVal { sec := beAt l off 6, ns := beAt l (off + 6) 4, frac := beAt l (off + 10) 2 }

/-- The latest arrival of FOLIO 0 of a carrier's own copy: volume and stamp (R70, R478). -/
def ownArrival (s : State) (c : Fin 2) : Nat × Nat := (((s.prot[leadGroup s c]).side c.val).arrivals.head?).getD (0, 0)

/-- Seconds since the last full reset (R339). -/
def uptime (s : State) : Nat := s.dev.ticks / 625000000

/-- A mate block (R477): TYPE, FLAGS, STREAM, 256 bytes of payload, CRC. -/
def blockBytes (typ flags stream : Nat) (payload : List Byte) : List Byte :=
  let b := beBytes 1 typ ++ beBytes 1 flags ++ beBytes 2 stream ++ padTo 256 payload
  b ++ beBytes 4 (crc32c b)

/-- The state record's 256 bytes (R478). -/
def stateRecord (s : State) : List Byte :=
  let m := s.mate
  let top (c : Nat) : Nat := (s.pairOf c).top (pairRule s)
  let a := ownArrival s 0
  let b := ownArrival s 1
  padTo 256 (beBytes 1 m.role ++ beBytes 1 m.st.code
    ++ beBytes 1 (b2n (m.selects 0) + 2 * b2n (m.selects 1) + 4 * b2n (s.house.therm == .stop) + 8 * b2n s.time.todValid) ++ beBytes 1 0
    ++ beBytes 4 (s.fol 0 (leadGroup s 0)).txVolume ++ beBytes 2 (4096 * top 0 + 256 * top 1) ++ beBytes 2 0 ++ stampBe a.2 ++ stampBe b.2
    ++ beBytes 4 a.1 ++ beBytes 4 b.1 ++ beBytes 4 m.digs[0].last ++ beBytes 4 m.digs[1].last ++ stampBe (m.lastMarker.getD 0)
    ++ beBytes 4 (uptime s))

/-- An arrival enters a side of a pair group; the leads follow (R220, R485). -/
def pairArrival (c : Nat) (i : Nat) (a : Nat × Nat) (s : State) : State :=
  onPair c (fun p =>
    if a.2 = 0 ∨ (p.side i).arrivals.any (fun x => x.1 == a.1) then p
    else
      let p1 := { p with sides := updNat p.sides i fun x => { x with arrivals := (a :: x.arrivals).take 2048 } }
      if p1.aligned then p1.follow (p1.selected (pairRule s)) else if p1.common.isSome then p1.align true 0 else p1) s

/-- STATE_RECORD_SEND (R478): also this member's arrivals enter the pair groups, and a digest that met poison counts as poisoned
data that the mate link read (R242). -/
def recordSend (s : State) : State :=
  if s.mate.role = 0 then s
  else
    let s1 := ([0, 1] : List (Fin 2)).foldl (fun s (c : Fin 2) => pairArrival c.val s.mate.own (ownArrival s c) s) (pairConditions s.tod16 s)
    let s2 := ([0, 1] : List (Fin 2)).foldl (fun s c => poisonOutIf s.mate.digs[c].lastBad 10 s) s1
    onMate (fun m => { m with sent := blockBytes 2 0 0 (stateRecord s2), digs := m.digs.map fun (d : MateDigest) => { d with lastBad := false } }) s2

def execStateRecordSend (s : State) : Out := .next (recordSend s)

/-- A state record's fields (R478). -/
def recordOf (l : List Byte) : PeerRecord :=
  { role := byteAt l 0, st := byteAt l 1, flags := byteAt l 2, volume := beAt l 4 4, reqA := field (beAt l 8 2) 12 4
    reqB := field (beAt l 8 2) 8 4, digA := beAt l 44 4, digB := beAt l 48 4, uptime := beAt l 64 4 }

/-- θ of the MATE source: peer time less own time, of the peer's stamp of this member's marker and this member's stamp of the
peer's; both markers are whole seconds (R267, R479). All in 2^-16 ns. -/
def mateTheta (peerStamp ownStamp : Nat) : Int :=
  let sec (t : Nat) : Int := ((t + fracPerSec / 2) / fracPerSec * fracPerSec : Nat)
  divRound (((peerStamp : Int) - sec ownStamp) - ((ownStamp : Int) - sec peerStamp)) 2

/-- A new SYNC_STAMP in the mate's record gives one sample (R479). -/
def mateSample (sync : Nat) (s : State) : State :=
  match s.mate.lastMarker with
  | none => s
  | some own =>
    if sync = 0 ∨ sync = s.mate.peerSync then s
    else
      let th := mateTheta sync own
      let s1 := onMate (fun m => { m with theta := th, peerSync := sync }) s
      if s1.time.inUse = some .mate ∧ s1.time.mateValid then addSample th s1 else s1

/-- Compare the members' digests of a volume (R478, R484): a digest of 0 is not compared. -/
def compareDigests (p : PeerRecord) (s : State) : State :=
  let own := s.mate.digs.map (·.last)
  let pairs := [(own[0], p.digA), (own[1], p.digB)].filter fun x => x.1 != 0 && x.2 != 0
  if pairs.isEmpty ∨ (s.mate.st ≠ .aligning ∧ s.mate.st ≠ .paired) then s
  else if pairs.all fun x => x.1 == x.2 then onMate (fun m => { m with eqRun := m.eqRun + 1, neRun := 0 }) s
  else onMate (fun m => { m with eqRun := 0, neRun := m.neRun + 1, digestFails := bump m.digestFails }) s

/-- ALIGNING: the non-donor takes the donor's numbering at its next volume boundary; ALIGNING to PAIRED and back (R484). Boundaries
within one LINE period: DEDUCED from equal VOLUMEs (log 51). -/
def mateAlign (p : PeerRecord) (s : State) : State :=
  let vol := (s.fol 0 (leadGroup s 0)).txVolume
  if s.mate.st = .aligning then
    if p.volume ≠ vol then
      if s.mate.donor then s
      else ([0, 1] : List (Fin 2)).foldl (fun s c => (groupsOf s c).foldl (fun s g =>
        onFol c g (fun f => if f.txOn then { f with adopt := some p.volume } else f) s) s) s
    else if s.mate.theta.natAbs < 65536 ∧ shadowsSynced s ∧ 16 ≤ s.mate.eqRun then
      raise 419 objMate (evtArg 1 0 0 vol) (onMate (fun m => { m with st := .paired, paired := bump m.paired, neRun := 0 }) s)
    else s
  else if 3 ≤ s.mate.neRun then leavePaired s
  else s

/-- The SECONDARY's selection follows the PRIMARY's records from CHECKING on (R485). -/
def followRecord (p : PeerRecord) (s : State) : State :=
  if s.mate.role ≠ 2 ∨ !s.mate.st.joined ∨ p.st < 2 ∨ 4 < p.st then s
  else
    ([0, 1] : List Nat).foldl (fun s c =>
      let code := if c = 0 then p.reqA else p.reqB
      let was := (s.pairOf c).onProt
      raisePair c code was (onPair c (fun x => if x.onProt = !bit p.flags c then x else { x with
        onProt := !bit p.flags c, switches := x.switches.modify code bump
        onset := if code = 14 ∨ code = 11 then some s.tod16 else none }) s)) s

/-- A state record of the mate (R478, R479, R484, R485, R490): MATE_PEER_RESET (420) when its uptime falls; THERM_STOP loses the
mate. -/
def mateRecord (l : List Byte) (s : State) : State :=
  let p := recordOf l
  let before := match s.mate.peer with
    | some x => x.uptime
    | none => 0
  let s1 := raiseIf (decide (p.uptime < before)) 420 objMate (evtArg 0 0 0 before) s
  let s2 := onMate (fun m => { m with peer := some p, peerAt := s.tod16 }) s1
  let s3 := pairArrival 0 s.mate.other (beAt l 36 4, stampAt l 12) (pairArrival 1 s.mate.other (beAt l 40 4, stampAt l 24) s2)
  let s4 := mateProgress (if bit p.flags 2 then mateLost 3 s3 else s3)
  let s5 := mateAlign p (compareDigests p (followRecord p (pairConditions s.tod16 (mateSample (stampAt l 52) s4))))
  mateTime s5

/-- MATE_BLOCK_RECEIVED (R477): the block's 264 bytes; one whose CRC fails is discarded and counted. -/
def mateBlock (b : List Byte) (s : State) : State :=
  let pl := bytesAt b 4 256
  if beAt b 260 4 ≠ crc32c (bytesAt b 0 260) then onMate (fun m => { m with badBlocks := bump m.badBlocks }) s
  else if s.mate.role = 0 then s
  else if byteAt b 0 = 1 then
    onMate (fun m => { m with mirror := m.mirror ++ [{
      car := byteAt b 2 / 128, tpn := beAt b 2 2 % 1024, data := pl, poison := bit (byteAt b 1) 0, endMark := bit (byteAt b 1) 1 }] }) s
  else if byteAt b 0 = 2 then mateRecord pl s
  else if byteAt b 0 = 3 then onMate (fun m => { m with deskIn := pl }) s
  else s

def execMateBlockReceived (b : List Byte) (s : State) : Out := .next (mateBlock b s)

/-- Put an item's four words into the transmit queue (R232, R481): the end mark stands in its last word (log 52). -/
def putItem (w seq : Nat) (data : List Byte) (poison endMark : Bool) (s : State) : State :=
  ([0, 1, 2, 3] : List Nat).foldl (fun s k => stkWrite (w + k) (bytesAt data (64 * k) 64) seq 2 false (endMark && k == 3) poison s) s

/-- A frame of a mirrored tributary compared with the shadow's (R482); leaving SYNCED leaves PAIRED (R484). -/
def shadowFrame (c tpn : Nat) (eq : Bool) (s : State) : State :=
  let x := s.mate.shadow c tpn
  let y : Shadow := if eq then { x with eqRun := x.eqRun + 1, neRun := 0, synced := x.synced || 64 ≤ x.eqRun + 1 }
    else { x with eqRun := 0, neRun := x.neRun + 1, synced := x.synced && x.neRun + 1 < 4 }
  let s1 := onMate (fun m => m.putShadow y) s
  if x.synced && !y.synced && (mirrored s c).any (fun t => t.tpn == tpn) then leavePaired s1 else s1

/-- One item of the comparison (R482): `how` it stands as in `Shadow.frame`; at the frame's end the frame is judged, unless an item
of it could not be compared (log 51). -/
def shadowItem (c tpn how : Nat) (last : Bool) (s : State) : State :=
  let x := s.mate.shadow c tpn
  let f := max x.frame how
  let s1 := onMate (fun m => m.putShadow { x with frame := if last then 0 else f }) s
  if last && f != 2 then shadowFrame c tpn (f == 0) s1 else s1

/-- The words of an item in the transmit queue, read as they stand: data, poison and end mark (R232, R481). -/
def itemAt (s : State) (w : Nat) : List Byte × Bool × Bool :=
  let ws := ([0, 1, 2, 3] : List Nat).map fun k => s.stk.word (w + k)
  (ws.flatMap wData, ws.any wPoison, ws.any wEnd)

/-- The owner sends an item of its transmit queue to the mate (R477, R481, R483); poisoned data are sent with the mark (R242). -/
def mirrorSend (c tpn w : Nat) (s : State) : State :=
  let x := itemAt s w
  poisonOutIf x.2.1 10 (onMate (fun m => { m with
    mirrorOut := blockBytes 1 (b2n x.2.1 + 2 * b2n x.2.2) (32768 * c + tpn) x.1 }) s)

/-- The item due of a tributary goes to words `w` to `w + 3` of the transmit queue with its sequence number (R481, R482, R483).
`lost`: its block failed its CRC; `shadow` is the shadow mapper's item, with its end mark. A member that has lost its mate still
writes the items received (R484). -/
def mirrorWrite (c tpn w seq : Nat) (lost : Bool) (shadow : List Byte) (shadowEnd : Bool) (s : State) : State :=
  let isIt (x : MirrorItem) : Bool := x.car == c && x.tpn == tpn
  if lost then
    let ok_ := (s.mate.shadow c tpn).synced
    shadowItem c tpn 2 shadowEnd (putItem w seq shadow (!ok_) shadowEnd (onMate (fun m => { m with
      lastSeq := seq, repaired := if ok_ then bump m.repaired else m.repaired, poisoned := if ok_ then m.poisoned else bump m.poisoned }) s))
  else match s.mate.mirror.find? isIt with
    | none => s
    | some x =>
      let how := if x.poison then 2 else if x.data == shadow && x.endMark == shadowEnd then 0 else 1
      shadowItem c tpn how x.endMark (putItem w seq x.data x.poison x.endMark (onMate (fun m => { m with
        lastSeq := seq, mirror := m.mirror.eraseP isIt, poisoned := if x.poison then bump m.poisoned else m.poisoned }) s))

/-- MIRROR_ITEM_APPLY (R481, R482, R483): the item at words `w` to `w + 3` of the transmit queue. Its owner sends it; the other
member writes it. -/
def mirrorApply (c : Fin 2) (tpn : Nat) (w seq : Nat) (lost : Bool) (shadow : List Byte) (shadowEnd : Bool) (s : State) : State :=
  let inQueue := ([0, 1, 2, 3] : List Nat).all fun k => s.stk.codeAt (pageOf (w + k)) == 2
  let aligned := s.mate.st == .aligning || s.mate.st == .paired
  match streamTrib s c tpn with
  | none => s
  | some t =>
    if s.mate.role = 0 ∨ !inQueue then s
    else if ownsTrib s t then
      if aligned && isMirrored s t then mirrorSend c.val tpn w s
      else if s.mate.st = .alone ∧ !lost then mirrorWrite c.val tpn w seq false shadow shadowEnd s
      else s
    else if aligned then mirrorWrite c.val tpn w seq lost shadow shadowEnd s
    else s

def execMirrorItemApply (c : Fin 2) (tpn : Fin 1024) (w : Fin 2147483645) (seq : Nat) (lost : Bool) (shadow : List Byte)
    (shadowEnd : Bool) (s : State) : Out :=
  .next (mirrorApply c tpn.val w.val seq lost shadow shadowEnd s)

/-- MATE_SYNC_MARKER (R263, R479): a marker, stamped with 4 ps resolution (`sub` steps of 4 ps after the tick). -/
def syncMarker (sub : Fin 400) (s : State) : State :=
  let st := s.tod16 + sub.val * 4 * 65536 / 1000
  let d := s.dev.ticks - s.mate.lastTick
  let good := s.mate.lastMarker.isSome && decide (625000000 ≤ d + 625) && decide (d ≤ 625000000 + 625)
  let s1 := onCand 11 (fun c => { c with active := true }) (onMate (fun m => { m with
    markers := if good then m.markers + 1 else 0, missing := 0, lastMarker := some st, lastTick := s.dev.ticks }) s)
  mateProgress (mateTime (if 3 ≤ s1.mate.markers then mateSyncLost false s1 else s1))

def execMateSyncMarker (sub : Fin 400) (s : State) : Out := .next (syncMarker sub s)

/-- MATE_SYNC_MARKER_MISSING (R479): the second in a row raises MATE_SYNC_LOST. -/
def markerMissing (s : State) : State :=
  let s1 := onMate (fun m => { m with markers := 0, missing := m.missing + 1 }) s
  mateTime (if 2 ≤ s1.mate.missing then mateSyncLost true s1 else s1)

def execMateSyncMarkerMissing (s : State) : Out := .next (markerMissing s)

/-- MATE_SYNC_INACTIVE (R273, R479, R484): MATE loses activity, and with it a member its mate. -/
def syncInactive (s : State) : State :=
  mateTime (mateLost 2 (mateSyncLost true (refActivityLoss 11 (onMate (fun m => { m with markers := 0 }) s))))

def execMateSyncInactive (s : State) : Out := .next (syncInactive s)

/-- MATE_WAKE_PULSE (R479): a member in LINKING for longer than 1 s holds MATE_SYNC_OUT high for 10 µs. -/
def execMateWakePulse (s : State) : Out :=
  .next (if s.mate.st = .linking ∧ s.mate.since + 625000000 < s.dev.ticks then onMate (fun m => { m with wakePulses := bump m.wakePulses }) s else s)

/-- MATE_DECISION_APPLY (R296, R297, R484): a link that is up may bring the pair to CHECKING. -/
def execMateDecisionApply (s : State) : Out := .next (mateTime (mateProgress (mateDecision s)))

/-- The mate provisioning is removed (R323, R484). -/
def mateRemove (q : Request) (s : State) : State :=
  mateTime (retarget 0 (onMate (fun m => { m with
    role := 0, lanes := 0, limitNs := 0, st := .off, donor := false, mismatch := false, syncLost := false, peer := none, mirror := []
    shadows := [], pair := Vector.replicate 2 {}, eqRun := 0, neRun := 0, owns := Vector.replicate 2 (Vector.replicate 16 true) })
    (keepBody 0x1201 q (terminate .mate s))))

/-- MATE.PROVISION (R362, R474, R236, R484). -/
def mateProvision (q : Request) (s : State) : State × Reply :=
  let role := u8 q 4
  let lanes := u16 q 6
  let named := mateLinkLanes.filter fun l => bit lanes (l.val - 32)
  if 2 < role then (s, badParam 4)
  else if role = 0 then (mateRemove q s, ok)
  else if s.dev.mode = some .framer ∨ s.prot.toList.any (·.exists_) ∨ named.any (fun l => (bondOfLane s l.val).isSome) then (s, refuse stBadState)
  else if named.any fun l => !isStepped s.lanes[l] then (s, badParam 6)
  else if u32 q 8 < 1000000 ∨ 100000000 < u32 q 8 then (s, badParam 8)
  else
    let fresh := s.mate.role ≠ role
    let s1 := onMate (fun m => { m with role := role, lanes := lanes, limitNs := u32 q 8 }) s
    let s2 := if fresh then onMate (fun m => { m with
        st := .linking, since := s1.dev.ticks, donor := false, mismatch := false, peer := none, pair := Vector.replicate 2 {}, mirror := [], shadows := []
        owns := Vector.replicate 2 (Vector.replicate 16 true) }) s1 else s1
    match growQueues s2 with
    | none => (s, refuse stNoCapacity)
    | some s3 => (pairConditions s3.tod16 (keepBody 0x1201 q s3), ok)

def execMateProvision (q : Request) (s : State) : Out := .next (deskRun 0x1201 mateProvision q s)

/-- MATE.COMMAND (R222, R223, R476, R485): it acts on both pair groups. `mateDenies`: the mate, to which a command that did not come
from it is forwarded, answered ST_DENIED. STATE is carrier A's group's. -/
def mateCommand (mateDenies : Bool) (q : Request) (s : State) : State × Reply :=
  let cmd := u8 q 4
  let code := if cmd = 1 then 15 else if cmd = 2 then 13 else 7
  let b := pairRule s
  let ranksBelow := ([0, 1] : List Nat).any fun c => decide (code < (s.pairOf c).top b)
  let set (p : Prot) : Prot :=
    if cmd = 0 then { p with lo := false, fs := false, ms := false, st := if !b.rev && p.onProt then .dnr else .nr }
    else if cmd = 1 then { p with lo := true } else if cmd = 2 then { p with fs := true } else { p with ms := true }
  if 3 < cmd then (s, badParam 4)
  else if s.mate.role = 0 ∨ (cmd ≠ 0 ∧ ranksBelow) then (s, refuse stBadState)
  else if mateDenies ∧ q.ch ≠ 2 ∧ s.mate.st.joined then (s, refuse stDenied)
  else
    let s1 := ([0, 1] : List Nat).foldl (fun s c => pairDecide c s.tod16 (onPair c set s)) s
    (s1, ok (leBytes 1 (s1.pairOf 0).st.code))

def execMateCommand (q : Request) (mateDenies : Bool) (s : State) : Out := .next (deskRun 0x1202 (mateCommand mateDenies) q s)

/-- MATE.STATUS (R489). Elements: carrier; STREAM of a tributary (R477); direction (0 sent); carrier × 2 + side of a copy. -/
def mateItems (s : State) : List StatItem :=
  let m := s.mate
  let cs : List (Fin 2) := [0, 1]
  let owns (c : Nat) : Bool := (getNat (Vector.replicate 16 true) m.owns c).toList.all id
  let ts := s.map.tribs.filter fun t => t.ckind == 0
  let load (own : Bool) : Nat := ((ts.filter fun t => isMirrored s t && ownsTrib s t == own).map (·.rate)).sum / 1000
  let cap := linkCapacity264 s / 264 / 1000
  [gau 1 0 m.st.code, gau 1 1 m.role, gau 1 2 (b2n m.donor), gau 1 3 (b2n m.mismatch)]
    ++ (cs.flatMap fun (c : Fin 2) => [gau 2 0 (b2n (owns c.val)) c.val, gau 2 1 ((s.pairOf c.val).selected (pairRule s)) c.val])
    ++ (ts.flatMap fun t => [gau 3 0 (b2n !(isMirrored s t)) (32768 * t.cont + t.tpn),
        gau 3 1 (b2n (m.shadow t.cont t.tpn).synced) (32768 * t.cont + t.tpn)])
    ++ [gau 4 0 cap 0, gau 4 0 cap 1, gau 4 1 (load true) 0, gau 4 1 (load false) 1, sgau 5 0 (divRound m.theta 256)]
    ++ (cs.flatMap fun (c : Fin 2) => [sgau 5 1 (leadSymbols s c (s.pairOf c.val).leadA) (2 * c.val), sgau 5 1 (leadSymbols s c (s.pairOf c.val).leadB) (2 * c.val + 1)])
    ++ [ctr 6 0 m.badBlocks, ctr 6 1 m.repaired, ctr 6 2 m.poisoned, ctr 7 0 m.takeovers, ctr 7 1 m.digestFails, ctr 7 2 m.paired]

def execMateStatus (q : Request) (s : State) : Out := .next (deskRun 0x1203 (sCommand fun _ s => mateItems s) q s)

end Sys2Proof.Machine
end

