-- ==== Sys2Proof/Machine/Reset.lean ====
section
/-! DEFINITION. Resets and the boot that follows (22_reset_bringup.md R510 to R515; 16_power.md R386, R399; 18_boot_security.md
R432). -/

namespace Sys2Proof.Machine

/-- The Stacks with their contents lost; the Accession log is the Archive's (R246, R247). -/
def Stacks.lost (k : Stacks) : Stacks := { log := k.log, losses := k.losses.map (· + 1) }

/-- The Stacks over a full reset that keeps their contents: only the Census area stays allocated (R512). -/
def Stacks.kept (k : Stacks) : Stacks :=
  { mem := k.mem, initialised := true, cleared := k.cleared, unwritten := k.unwritten, losses := k.losses, log := k.log
    regions := (k.regions.filter fun r => r.r == 0).map fun r => { r := 0, pages := r.pages } }

/-- The Stacks at the start of a full reset (R512): kept when initialised with all four stacks in RUN or SELF_REFRESH. -/
def stacksOver (s : State) : Stacks :=
  if s.stk.initialised && ([16, 17, 18, 19].all fun d => s.dom d == .run || s.dom d == .selfRefresh) then s.stk.kept else s.stk.lost

/-- The safety function over a full reset of the rest: REQ is cleared, the pairs are driven dark, every count is 0 (R459, R469,
R510). -/
def Safety.over (f : Safety) : Safety :=
  { f with cars := f.cars.map fun (x : SafeCarrier) => { x with
      req := false, txen := some false, txdis := some true, als := .clear, trips := 0, shutdowns := 0, pulses := 0, litTicks := 0
      mark := 0 } }

/-- What no reset changes: the commands that wait, the model's counter, flash and OTP, the levels that the board drives. -/
def survives (s : State) : State :=
  { pending := s.pending, free := s.free
    boot := { flash := s.boot.flash, counter := s.boot.counter, revoked := s.boot.revoked, resetLow := s.boot.resetLow, cause := 0 }
    pins := { perstLow := s.pins.perstLow }
    safe := { cars := s.safe.cars.map fun (x : SafeCarrier) => { pinLow := x.pinLow } }
    stk := { losses := s.stk.losses.map (· + 1) } }

/-- The always-on domain over a reset of every other: Archive, Vault, wake record, latches, safety function (R400, R510). -/
def keepAon (s t : State) : State :=
  { t with
    vault := { s.vault with corrected := 0, noMajority := 0 }, safe := s.safe.over
    stk := { t.stk with log := s.stk.log }
    boot := { t.boot with archiveOk := s.boot.archiveOk, stackSupplyLost := s.boot.stackSupplyLost, coldNext := s.boot.coldNext }
    pwr := { t.pwr with record := s.pwr.record, brownLatch := s.pwr.brownLatch, saveHw := s.pwr.saveHw, saveFw := s.pwr.saveFw }
    house := { t.house with shutRecord := s.house.shutRecord, shutFresh := s.house.shutFresh } }

/-- A full reset by RESET_N or BOOT_RESET (R510, R512): every domain but the always-on one. -/
def resetAll (cause : Nat) (s : State) : State :=
  let t := keepAon s (survives s)
  { t with stk := stacksOver s, boot := { t.boot with cause := cause }, pins := { s.pins with frameErr := false, spiOut := [] } }

/-- No domain is powered (R386: DEEP_SLEEP, OFF). -/
def darkDomains : Vector Domain 20 := Vector.replicate 20 {}

/-- RAIL 1 to 12 are commanded off in DEEP_SLEEP and OFF; a wake commands RAIL 1 and RAIL 8 to 12 on again (R497). -/
def railsAtRest (h : House) : House :=
  { h with rails := Vector.ofFn fun r => { (h.rails[r]) with on := r.val == 0 || 12 < r.val } }
def railsAtWake (h : House) : House :=
  { h with rails := Vector.ofFn fun r => { (h.rails[r]) with on := (h.rails[r]).on || r.val == 1 || 8 ≤ r.val } }

/-- The device at rest in DEEP_SLEEP (R386, R388): all is lost but the always-on domain and the save lists; the wake logic uses its
copy of the mask (R400). -/
def intoDeep (s : State) : State :=
  let t := keepAon s (survives s)
  { t with
    house := railsAtRest t.house
    pwr := { t.pwr with
      st := .deepSleep, domains := darkDomains, wakeMask := s.pwr.wakeMask, timerSec := s.pwr.timerSec, budgetA := s.pwr.budgetA
      windowUs := s.pwr.windowUs } }

/-- The device in OFF (R386, R469): also the Archive is lost, and the laser-enable outputs float. WAKE_N is the only source. -/
def intoOff (s : State) : State :=
  let t := survives s
  { t with
    safe := { t.safe with cars := t.safe.cars.map fun (x : SafeCarrier) => { x with txen := none, txdis := none } }
    boot := { t.boot with coldNext := s.boot.coldNext }
    pwr := { t.pwr with
      st := .off, domains := darkDomains, record := s.pwr.record, brownLatch := s.pwr.brownLatch }
    house := { railsAtRest t.house with shutRecord := s.house.shutRecord, shutFresh := s.house.shutFresh } }

/-- Cause bits that a boot finds (R511). -/
def bootCause (wake : Bool) (kept : Bool) (s : State) : Nat :=
  s.boot.cause + 128 * b2n s.boot.archiveOk + 64 * b2n kept + 32 * b2n wake + 16 * b2n s.pwr.brownLatch
    + 8 * b2n s.house.shutRecord.isSome

/-- Steps 1 to 6 of R432 with what a reset left (R432, R511, R512). -/
def bootUp (deep wake : Bool) (s : State) : State :=
  let s0 := if s.boot.stackSupplyLost then { s with stk := s.stk.lost } else s
  let cause := bootCause wake s0.stk.initialised s0
  let s1 := bootRun deep s0.boot.archiveOk { s0 with boot := { s0.boot with cause := cause, stackSupplyLost := false, coldNext := false } }
  { s1 with
    boot := { s1.boot with archiveOk := s1.boot.archiveOk || s1.boot.done, booting := s1.boot.done }
    house := { s1.house with afterShut := s1.house.shutFresh } }

/-- RESET_N_ASSERT (R510): RESET_N low for 1 µs; in OFF it is ignored (R494). -/
def resetAssert (s : State) : State :=
  if s.boot.resetLow then s
  else if s.pwr.st = .off then { s with boot := { s.boot with resetLow := true } }
  else
    let t := resetAll 2 s
    { t with boot := { t.boot with resetLow := true } }

def execResetNAssert (s : State) : Out := .next (resetAssert s)

/-- RESET_N_RELEASE (R432, R510): the device boots. The board may have programmed the flash while the device held off it (R432). -/
def resetRelease (board : Option Flash) (s : State) : State :=
  if !s.boot.resetLow then s
  else
    let s1 := { s with boot := { s.boot with resetLow := false } }
    if s.pwr.st = .off then s1
    else bootUp false false { s1 with boot := { s1.boot with flash := board.getD s.boot.flash } }

def execResetNRelease (board : Option Flash) (s : State) : Out := .next (resetRelease board s)

/-- BOOT_RESET_WRITE (R511, R514): with KEY, FULL and the grant of MAINTENANCE to the path's channel a full reset and its boot;
ignored while RESET_N is low. -/
def execBootResetWrite (p : Path) (v : Word32) (s : State) : Out :=
  let ch : Fin 4 := if p = .spi then 1 else 0
  if p = .mate ∨ !pathServed s p ∨ v.toNat / 65536 ≠ 0xA5C3 ∨ !granted s ch .maintenance ∨ s.boot.resetLow then .next s
  else if v.toNat % 65536 / 2 ≠ 0 then .fault .reservedFieldWritten
  else if v.getLsbD 0 then .next (bootUp false false (resetAll 4 s))
  else .next s

/-- POWER_ON (R510, R498): VAON rises; the whole device resets and waits with RESET_N low. -/
def powerOn (s : State) : State :=
  let t := survives s
  { t with boot := { t.boot with cause := 1, resetLow := true } }

def execPowerOn (s : State) : Out := .next (powerOn s)

/-- BROWNOUT (R399): the device ends in OFF with WAKE_N as its only source; the latch and the record report it. -/
def brownout (s : State) : State :=
  intoOff { s with
    pwr := { s.pwr with
      brownLatch := true
      record := { s.pwr.record with
        fromState := 4, source := 0x80, aborted := false, brownout := true, archiveBad := true, elapsedValid := false, other := 0
        entrySec := 0, elapsedMs := 0, exitUs := 0 } } }

def execBrownout (s : State) : Out := .next (brownout s)

/-- SUPPLY_FAULT (R497, R499, R512): supplies 0 to 12 are the rails of R496, 13 to 16 VIO0 to VIO3. A stack supply lost ends
STACKS_KEPT; RAIL 0, VIO0 or VIO1 removed at rest makes the next exit a cold start. -/
def supplyFault (n : Fin 17) (s : State) : State :=
  let rest := s.pwr.st == .deepSleep || s.pwr.st == .off
  onBoot (fun b => { b with
    stackSupplyLost := b.stackSupplyLost || (8 ≤ n.val && n.val ≤ 12)
    coldNext := b.coldNext || (rest && (n.val == 0 || n.val == 13 || n.val == 14)) }) s

def execSupplyFault (n : Fin 17) (s : State) : Out := .next (supplyFault n s)

/-- PERST_N_ASSERT (R510): the endpoint, its MSI-X table and pending bits are reset; BAR0 and BAR2 are not served. -/
def perstAssert (s : State) : State :=
  { s with
    pins := { s.pins with perstLow := true }
    evt := { s.evt with msix := Vector.replicate 32 {}, pba := 0, msixEnable := false, functionMask := false } }

def execPerstNAssert (s : State) : Out := .next (perstAssert s)
def execPerstNRelease (s : State) : Out := .next { s with pins := { s.pins with perstLow := false } }

end Sys2Proof.Machine
end

