-- ==== Sys2Proof/Machine/Thermal.lean ====
section
/-! DEFINITION. Thermal management (17_monitors_thermal.md R418 to R424, R426, R428; 18_boot_security.md R451). -/

namespace Sys2Proof.Machine

/-- Neighbours of a sensor (R418). -/
def neighbours (n : Nat) : List Nat :=
  if n < 8 then ((List.range 4).map (· + 4 * (n / 4))).filter (· != n)
  else if n < 12 then
    let c := (n - 8) / 2
    [if n % 2 = 0 then n + 1 else n - 1, 4 * c, 4 * c + 1]
  else if n < 20 then [12 + (n - 12 + 7) % 8, 12 + (n - 12 + 1) % 8]
  else if n < 26 then [if n = 20 then 31 else n - 1, if n = 25 then 31 else n + 1]
  else if n < 30 then [30, 12 + 2 * (n - 26), 13 + 2 * (n - 26)]
  else if n = 30 then [26, 27, 28, 29] else [20, 25]

/-- A sensor. -/
def House.sensor (h : House) (n : Nat) : Sensor := getNat {} h.sensors n
def onSensor (n : Nat) (f : Sensor → Sensor) (s : State) : State := onHouse (fun h => { h with sensors := updNat h.sensors n f }) s

/-- Healthy neighbours of a sensor. -/
def House.healthyNear (h : House) (n : Nat) : List Nat := (neighbours n).filter fun k => (h.sensor k).healthy

/-- A temperature limit in 1/16 °C: 5 °C lower without the Factory record 0x0012 (R451). -/
def thermLimit (s : State) (deg : Int) : Int :=
  16 * (if s.boot.factory.any fun x => x.1 == 0x12 then deg else deg - 5)

/-- The rate of rise of a sensor as the difference of two sums of 32 readings (R420): 1/16 °C in 8.192 s. -/
def Sensor.rise (x : Sensor) : Option Int :=
  if x.hist.length < 288 then none else some ((x.hist.take 32).sum - ((x.hist.drop 256).take 32).sum)

/-- A rate in 1/16 °C/s, and whether it is at least so many °C/s. -/
def riseRate (d : Int) : Int := divRound (d * 125) 1024
def riseAtLeast (degS : Int) (d : Int) : Bool := d * 125 ≥ degS * 16384

/-- A new reading (R419 to R421, R423): the readings kept, the peak, and the runs at each limit. -/
def Sensor.read (warn stop shut : Int) (r : Int) (x : Sensor) : Sensor :=
  let run (lim : Int) (n : Nat) : Nat := if lim ≤ r then n + 1 else 0
  { x with
    reading := r, hist := (r :: x.hist).take 288, peak := max x.peak r
    rangeRun := if r < -640 ∨ 2400 < r then x.rangeRun + 1 else 0
    warnRun := run warn x.warnRun, stopRun := run stop x.stopRun, shutRun := run shut x.shutRun }

/-- Raise THERM_SENSOR_FAULT (333): the sensor is faulted until reset (R419). -/
def sensorFault (n why : Nat) (s : State) : State :=
  raise 333 (objSensor n) (evtArg 0 0 why (codeOf 64 (s.house.sensor n).reading)) (onSensor n (fun x => { x with healthy := false }) s)

/-- The neighbour check of a sensor (R419), with at least two healthy neighbours. -/
def neighbourRun (h : House) (n : Nat) : Nat :=
  let near := h.healthyNear n
  let x := h.sensor n
  if near.length < 2 then 0
  else if 640 < (2 * x.reading - median (near.map fun k => 2 * (h.sensor k).reading)).natAbs then x.neighbourRun + 1 else 0

/-- The range and neighbour checks of every healthy sensor (R419), judged on the health before this reading. -/
def sensorChecks (s : State) : State :=
  let h := s.house
  (List.range 32).foldl (fun s n =>
    if (h.sensor n).healthy then
      let s1 := onSensor n (fun x => { x with neighbourRun := neighbourRun h n }) s
      if 2 ≤ (h.sensor n).rangeRun then sensorFault n 1 s1
      else if 16 ≤ neighbourRun h n then sensorFault n 2 s1 else s1
    else s) s

/-- The healthy sensors. -/
def House.healthySensors (h : House) : List Nat := (List.range 32).filter fun n => (h.sensor n).healthy

/-- The first sensor in a list with the greatest value. -/
def maxBy (f : Nat → Int) : List Nat → Option Nat
  | [] => none
  | n :: r => match maxBy f r with
    | none => some n
    | some m => if f m > f n then some m else some n

/-- The healthy sensors with the highest reading and the highest valid rate (R420). -/
def House.hottest (h : House) : Option Nat := maxBy (fun n => (h.sensor n).reading) h.healthySensors
def House.fastest (h : House) : Option Nat :=
  maxBy (fun n => (h.sensor n).rise.getD 0) (h.healthySensors.filter fun n => (h.sensor n).rise.isSome)

/-- T_max, R_max and the runs of the rate limits (R420, R421). -/
def House.judged (h : House) : House :=
  let r := (h.fastest.map fun n => (h.sensor n).rise.getD 0)
  let run (lim : Int) (n : Nat) : Nat := match r with
    | some d => if riseAtLeast lim d then n + 1 else 0
    | none => 0
  { h with
    tMax := match h.hottest with
      | some n => (h.sensor n).reading
      | none => h.tMax
    rMax := r, rateWarnRun := run 4 h.rateWarnRun, rateStopRun := run 12 h.rateStopRun }

/-- The rate events (R421, R428): 331 at 4 °C/s and 332 at 12 °C/s, on entry and on exit. -/
def rateEvents (s : State) : State :=
  let h := s.house
  let fast := h.fastest.getD 0
  let ev (n : Nat) (on was : Bool) (s : State) : State :=
    raiseIf (on != was) n (objSensor fast) (evtArg (b2n on) 0 0 (codeOf 64 (riseRate (h.rMax.getD 0)))) s
  let w := 16 ≤ h.rateWarnRun
  let t := 16 ≤ h.rateStopRun
  onHouse (fun h => { h with rateWarn := w, rateStop := t })
    (ev 332 t h.rateStop (ev 331 w h.rateWarn s))

/-- The time in WARN and STOP up to now (R426). -/
def House.accounted (h : House) (tick : Nat) : House :=
  { h with
    warnTicks := if h.therm = .warn then h.warnTicks + (tick - h.mark) else h.warnTicks
    stopTicks := if h.therm = .stop then h.stopTicks + (tick - h.mark) else h.stopTicks
    mark := tick }

/-- The thermal state changes. -/
def thermTo (t : ThermState) (s : State) : State :=
  onHouse (fun h => { h.accounted s.dev.ticks with therm := t, recovering := 0 }) s

/-- A domain that starts when STOP begins (R424): its stages not admitted are withdrawn, its commands abort, and it stops; a pool in
CLOCK_OFF, any other in OFF. -/
def stopStarting (d : Nat) (s : State) : State :=
  if (s.domain d).st = .starting then
    let s1 := onPwr (fun p => { p with queue := p.queue.filter fun x => x.1 != d, raises := p.raises.filter fun x => x.dom != d }) s
    let s2 := endTransition (.domain d) { status := stAborted } (domainCommandsFail d stAborted s1)
    onDom d (fun x => { x with
      st := .stopping, target := if 8 ≤ d then .clockOff else .off, stagesLeft := (stagesOf d).1, drained := false, thermal := true
      next := [], leg := none, since := s.dev.ticks }) (beginInternal (.domain d) s2)
  else s

/-- A domain in RUN goes to CLOCK_OFF with its steps at the head of the queue (R422). -/
def stopRunning (d : Nat) (s : State) : State :=
  if s.dom d = .run then onDom d (fun x => { x with thermal := true }) (beginDomain d .clockOff s) else s

/-- The thermal stop (R422, R424): the carriers with their domains, the pools, the octets in RUN. -/
def thermalStop (s : State) : State :=
  let s1 := (List.finRange 2).foldl (fun s c =>
    if (s.car c).enabled || (s.car c).enabling || (s.car c).fg.isSome then carrierStop c s else s) s
  let s2 := (List.range 16).foldl (fun s d => stopStarting d s) s1
  let s3 := [0, 1].foldl (fun s d => stopRunning d s) s2
  let s4 := ((List.range 8).map (· + 8)).foldl (fun s d =>
    if (s.domain d).st = .stopping then onDom d (fun x => { x with thermal := true }) s else stopRunning d s) s3
  let up := (List.range 6).filter fun o => s4.dom (2 + o) == .run
  onHouse (fun h => { h with stopOctets := up }) (up.foldl (fun s o => stopRunning (2 + o) (octetDown o s)) s4)

/-- Leaving STOP (R422): the octets return to RUN and their lanes start again. -/
def thermalRestore (s : State) : State :=
  s.house.stopOctets.foldl (fun s o => requestDomain (2 + o) .run s) (onHouse (fun h => { h with stopOctets := [] }) s)

/-- The shutdown (R423): the record, the pairs dark, and OFF with WAKE_N as its only source. -/
def thermalShutdown (n : Nat) (s : State) : State :=
  let s1 := onHouse (fun h => { h with
    therm := .shutdown, shutFresh := true, shutRecord := some (n, (h.sensor n).reading, recordSec s) }) s
  intoOff (driveAll s1)

/-- A sensor that meets the shutdown condition (R423). -/
def shutSensor (s : State) : Option Nat :=
  let h := s.house
  h.healthySensors.find? fun n =>
    2 ≤ (h.sensor n).shutRun &&
      ((h.healthyNear n).isEmpty || (h.healthyNear n).any fun k => thermLimit s 110 ≤ (h.sensor k).reading)

/-- A WARN or STOP event (R428): the sensor that meets the condition, by temperature when one does, else by rate. -/
def raiseTherm (ev state : Nat) (hot : Option Nat) (s : State) : State :=
  let h := s.house
  match hot with
  | some n => raise ev (objSensor n) (evtArg state 0 0 (codeOf 64 (h.sensor n).reading)) s
  | none => raise ev (objSensor (h.fastest.getD 0)) (evtArg state 0 1 (codeOf 64 (riseRate (h.rMax.getD 0)))) s

/-- The conditions under which WARN or STOP may be left (R421). -/
def mayRecover (s : State) : Bool :=
  let cool := match s.house.rMax with
    | some d => !riseAtLeast 2 d
    | none => false
  (s.house.therm == .warn && s.house.tMax ≤ thermLimit s 105 && cool) || (s.house.therm == .stop && s.house.tMax ≤ thermLimit s 100 && cool)

/-- The table of R421 after a reading. -/
def thermStep (s : State) : State :=
  let h := s.house
  let stopHot := h.healthySensors.find? fun n => 3 ≤ (h.sensor n).stopRun
  let warnHot := h.healthySensors.find? fun n => 3 ≤ (h.sensor n).warnRun
  let again := h.afterShut && h.readings ≤ 100 && thermLimit s 110 ≤ h.tMax
  match shutSensor s, again with
  | some n, _ => thermalShutdown n s
  | none, true => thermalShutdown (h.hottest.getD 0) s
  | none, false =>
    if (h.therm = .normal ∨ h.therm = .warn) ∧ (stopHot.isSome ∨ h.rateStop) then
      raiseTherm 329 1 stopHot (thermalStop (onHouse (fun h => { h with stops := bump h.stops }) (thermTo .stop s)))
    else if h.therm = .normal ∧ (warnHot.isSome ∨ h.rateWarn) then
      raiseTherm 328 1 warnHot (onHouse (fun h => { h with warns := bump h.warns }) (thermTo .warn s))
    else onHouse (fun h => { h with recovering := if mayRecover s then h.recovering + 1 else 0 }) s

/-- A sensor's run of equal readings, and whether a healthy neighbour has moved by 2 °C (32/16) since it began (R419); `h` holds the new
readings, `old` the sensor's last. -/
def stuckRun (h : House) (n : Nat) (old : Sensor) : Sensor :=
  let x := h.sensor n
  if old.hist.isEmpty ∨ x.reading ≠ old.reading then
    { x with same := 0, nearAt := (neighbours n).map fun k => (h.sensor k).reading, nearMoved := false }
  else
    { x with
      same := old.same + 1, nearAt := old.nearAt
      nearMoved := old.nearMoved || ((neighbours n).zip old.nearAt).any fun y => (h.sensor y.1).healthy && 32 ≤ ((h.sensor y.1).reading - y.2).natAbs }

/-- SENSOR_READING (R419 to R423): the readings of the 32 sensors of one millisecond, in 1/16 °C. -/
def sensorReading (rs : List Int) (s : State) : State :=
  if s.boot.resetLow ∨ s.pwr.st = .deepSleep ∨ s.pwr.st = .off then s
  else
    let s1 := onHouse (fun h => { h with
      readings := h.readings + 1
      sensors := Vector.ofFn fun n =>
        (h.sensors[n]).read (thermLimit s 110) (thermLimit s 120) (thermLimit s 125) (rs.getD n.val 0) }) s
    let s2 := onHouse House.judged (sensorChecks (onHouse (fun h => { h with
      sensors := Vector.ofFn fun n => stuckRun h n.val (s.house.sensor n.val) }) s1))
    thermStep (rateEvents s2)

def execSensorReading (rs : List Int) (s : State) : Out := .next (sensorReading rs s)

/-- SENSOR_STUCK (R419): the reading has not changed for 10 s (10,000 readings) while a healthy neighbour has moved by 2 °C. -/
def sensorStuck (n : Fin 32) (s : State) : State :=
  let x := s.house.sensor n
  if x.healthy && 10000 ≤ x.same && x.nearMoved then sensorFault n 3 s else s

def execSensorStuck (n : Fin 32) (s : State) : Out := .next (sensorStuck n s)

/-- THERMAL_RECOVERY_HOLD (R421, R422): the conditions have held for 1 s in WARN, 10 s in STOP: so many readings of 1 ms. -/
def thermalRecovery (s : State) : State :=
  if s.house.recovering < (if s.house.therm = .stop then 10000 else 1000) then s
  else match s.house.therm with
    | .warn => raiseTherm 328 0 s.house.hottest (thermTo .normal s)
    | .stop =>
      raiseTherm 329 0 s.house.hottest (thermalRestore (onHouse (fun h => { h with warns := bump h.warns }) (thermTo .warn s)))
    | _ => s

def execThermalRecoveryHold (s : State) : Out := .next (thermalRecovery s)

/-- Codes of the thermal state by R337 over R421. -/
def ThermState.code : ThermState → Nat
  | .normal => 0 | .warn => 1 | .stop => 2 | .shutdown => 3

/-- THERMAL.STATUS (R426): all items, or those of one sensor. The 16 bytes of the record are sensor, reading and seconds in 4, 4 and
8 bytes (log 46). -/
def thermalItems (q : Request) (s : State) : List StatItem :=
  let h := s.house.accounted s.dev.ticks
  let ms (t : Nat) : Nat := t / 625000
  let ns := if objKind q = 0 then List.range 32 else [objSub q]
  let rec_ : List Byte := match h.shutRecord with
    | some (n, r, t) => leBytes 4 n ++ leBytes 4 (codeOf 32 r) ++ leBytes 8 t
    | none => leBytes 16 0
  let per := (ns.map fun n => gau 2 0 (b2n !(h.sensor n).healthy) n) ++ ns.flatMap fun n =>
    [sgau 3 0 (h.sensor n).reading n, sgau 3 1 (riseRate ((h.sensor n).rise.getD 0)) n, sgau 3 2 (h.sensor n).peak n]
  if objKind q = 0 then
    [gau 1 0 h.therm.code] ++ per ++ [sgau 4 0 h.tMax, sgau 4 1 (riseRate (h.rMax.getD 0)), ctr 5 0 h.warns, ctr 5 1 h.stops
      , ctr 5 2 (ms h.warnTicks), ctr 5 3 (ms h.stopTicks), lst 6 0 rec_]
  else per

def execThermalStatus (q : Request) (s : State) : Out := .next (deskRun 0x0F10 (sCommand thermalItems) q s)

end Sys2Proof.Machine
end

