-- ==== Sys2Proof/Machine/Census.lean ====
section
/-! DEFINITION. The Census: instants, the islands' latches, the area's cells, its registers and commands (15_events_census.md R372
to R380, R385; 14_command_reference.md R338). -/

namespace Sys2Proof.Machine

/-- One millisecond in 2^-16 ns; the first whole millisecond at or after an instant. -/
def fracPerMs : Nat := 1000000 * 65536
def wholeMs (t : Nat) : Nat := ceilDiv t fracPerMs * fracPerMs

/-- CENSUS.STATUS (R385). The state is 1 while BUSY and 2 while PENDING (R380, added); no half held reads 0xFF. -/
def censusItems (s : State) : List StatItem :=
  let c := s.cen
  let st := stampOf c.lastT
  [gau 1 0 (b2n c.busy.isSome + 2 * b2n c.want.isSome), gau 1 1 (c.held.getD 0xFF), gau 1 2 c.lastHalf, gau 2 0 c.seq,
    lst 2 1 (leBytes 6 st.sec ++ leBytes 2 st.frac ++ leBytes 4 st.ns), gau 3 0 c.layoutGen, gau 3 1 c.dir.length, gau 3 2 c.pm.length,
    ctr 4 0 c.taken, ctr 4 1 c.delayed, ctr 4 2 c.skipped, ctr 5 0 s.evt.logged, ctr 5 1 s.evt.lost, gau 6 0 c.lastUs]

/-- The items of an S command (R337, R379). -/
def statusItems (op : Nat) (q : Request) (s : State) : List StatItem :=
  match op with
  | 0x0213 => convItems q s
  | 0x0304 => rxItems q s
  | 0x0404 => loadItems q s
  | 0x0412 => txItems q s
  | 0x0502 => decodeItems q s
  | 0x0605 => interloanItems (reqCarrier q) s
  | 0x0701 => folioItems q s
  | 0x0713 => folioItems q s
  | 0x0807 => framerItems q s
  | 0x0903 => mapItems q s
  | 0x0923 => protItems q s
  | 0x0A04 => stacksItems q s
  | 0x0B0C => timeItems s
  | 0x0C07 => laneItems q s
  | 0x0D12 => censusItems s
  | 0x0E04 => powerItems s
  | 0x0F04 => monStatusItems q s
  | 0x0F10 => thermalItems q s
  | 0x0F21 => pmbusItems s
  | 0x1013 => fwItems s
  | 0x1020 => catItems s
  | 0x1102 => safetyItems s
  | 0x1203 => mateItems s
  | _ => []

/-- Status blocks, in the directory's order: the S command, its object, the island that latches it (R372, R378, R379; log 53). -/
def statusBlocks (s : State) : List (Nat × Nat × Nat) :=
  let cs := if hasLine s then [0, 1] else []
  let gs := (List.range 16).filter (groupExists s)
  let perC (op base : Nat) := cs.map fun c => (op, objCarrier c, base + c)
  let perG (op base : Nat) := cs.flatMap fun c => gs.map fun g => (op, objGroup c g, base + c)
  (cs.flatMap fun c => (List.range 8).map fun k => (0x0213, objConv c k 0xFF, c))
    ++ perC 0x0304 0 ++ perG 0x0304 0 ++ perG 0x0404 0 ++ perC 0x0412 0 ++ (cs.map fun c => (0x0502, objCarrier c, 18))
    ++ ((List.range 8).map fun p => (0x0502, objPool p, 2 + p)) ++ perC 0x0605 10 ++ perG 0x0701 10 ++ perG 0x0713 10
    ++ ((List.range 48).map fun b => (0x0807, objBond b, 12 + b / 8)) ++ (cs.flatMap fun c => gs.map fun g => (0x0807, objOdum c g 0, 10 + c))
    ++ perG 0x0903 10 ++ ((List.range 48).map fun b => (0x0903, objBond b, 12 + b / 8)) ++ (((List.range 16).filter fun g => (getNat {} s.prot g).exists_).map fun g => (0x0923, objProt g, 10))
    ++ [(0x0A04, objStack 0xFF 0xFF 0xFF, 18), (0x0B0C, objTime, 23)] ++ ((List.range 48).map fun l => (0x0C07, objLane l, 12 + l / 8))
    ++ [(0x0D12, objDevice, 18), (0x0E04, objDevice, 24), (0x0F04, objDevice, 25), (0x0F10, objDevice, 25), (0x0F21, objDevice, 25),
        (0x1013, objDevice, 24), (0x1020, objDevice, 24), (0x1102, objDevice, 26), (0x1203, objMate, 24)]

/-- A request that names an object. -/
def requestFor (ob : Nat) : Request :=
  { ch := 0, tag := 0, ordered := false, holdMs := 0, slot := none, body := leBytes 4 ob, bulk := [] }

/-- The cells of an item (R379): a 4-byte value extended to 64 bits, a list packed little-endian, at least one cell. -/
def itemCells (i : StatItem) : List Nat :=
  if i.value.length = 4 then [if i.signed then codeOf 64 (signedOf 32 (leNat i.value)) else leNat i.value]
  else (List.range (max 1 (ceilDiv i.value.length 8))).map fun k => natAt i.value (8 * k) 8

/-- The island that holds a PM entity (R381, R12): a line group's is its FRAME island. -/
def pmIsland (x : PmEntity) : Nat := if x.ob % 256 = 5 then 12 + x.ob / 256 % 256 / 8 else 10 + x.ob / 256 % 256

/-- The blocks that an island latches now. -/
def islandBlocks (k : Nat) (s : State) : List CensusBlock :=
  ((statusBlocks s).filter fun b => b.2.2 == k).map (fun b =>
      { typ := 1, layer := 0, op := b.1, ob := b.2.1, cells := (statusItems b.1 (requestFor b.2.1) s).flatMap itemCells })
    ++ (s.cen.pm.filter fun x => pmIsland x == k).map fun x => { typ := 2, layer := x.layer, op := x.tpn, ob := x.ob, cells := x.cells }

/-- Update the snapshot in progress. -/
def onBusy (f : Snapshot → Snapshot) (s : State) : State := onCen (fun c => { c with busy := c.busy.map f }) s

/-- Gauges of the islands that hold a peak "since the last Census" start again from the present value (R372; R156's worst and
mean). -/
def restartPeaks (k : Nat) (s : State) : State :=
  if 2 ≤ k ∧ k < 10 then onDec (fun d => { d with pools := updNat d.pools (k - 2) fun p => { p with peak := p.queue.length } }) s
  else if k = 10 ∨ k = 11 then
    onIl (carrierOf (k - 10)) (fun i => { i with tones := i.tones.map fun (t : Tone) => { t with
      evm := t.evm.map fun e => (e.1, { e.2 with worst := e.2.last, sum := 0, count := 0 }) } }) s
  else if k = 18 then onDec (fun d => { d with peak := d.reserve.length }) (onStk (fun x => { x with tagPeak := x.tags }) s)
  else if k = 25 then onHouse (fun h => { h with sensors := h.sensors.map fun (x : Sensor) => { x with peak := x.reading } }) s
  else s

/-- A Chute at its producer's latch (R373): its count of writes and overruns, and the mark, unless the consumer is not in RUN: the
in-flight cell is then what was written less what was taken. -/
def latchProducer (c : Nat) (consSaved prodSaved : Bool) (s : State) : State :=
  let x := getNat {} s.chutes c
  let s1 := onBusy (fun b => { b with writtenCells := putKey c [x.overrun, x.written] b.writtenCells }) s
  if consSaved then { s1 with chutes := updNat s1.chutes c fun x => { x with inFlight := x.written - x.taken } }
  else if prodSaved then s1
  else { s1 with chutes := updNat s1.chutes c fun x => { x with items := x.items ++ [InChute.mark] } }

/-- A Chute at its consumer's latch (R373): its counts, unless a mark absorbed before fixed them; it counts from here to the mark,
which it takes as placed now when the producer is not in RUN. -/
def latchConsumer (c : Nat) (consSaved prodSaved : Bool) (s : State) : State :=
  let x := getNat {} s.chutes c
  let early := match s.cen.busy with
    | some b => b.takenCells.any fun y => y.1 == c
    | none => false
  let s1 := if early then s else onBusy (fun b => { b with takenCells := putKey c [x.corrected, x.uncorr, x.peak, x.taken] b.takenCells }) s
  { s1 with chutes := updNat s1.chutes c fun x => { x with
      peak := x.held, counting := if consSaved || early then none else some 0
      items := if prodSaved && !consSaved then x.items ++ [InChute.mark] else x.items } }

/-- An island latches all its cells (R372, R373). -/
def latchIsland (k : Nat) (s : State) : State :=
  match s.cen.busy with
  | none => s
  | some b =>
    if b.latched.contains k then s
    else
      let blocks := islandBlocks k s
      let cnt := s.evt.counts.toList
      let s1 := onBusy (fun b => { b with
        latched := k :: b.latched, blocks := b.blocks ++ blocks, counts := if k = 24 then cnt else b.counts }) s
      let s2 := chuteTable.zipIdx.foldl (fun s (x : ChuteId × Nat) =>
        let cs := b.saved.contains x.1.cons
        let ps := b.saved.contains x.1.prod
        let s3 := if x.1.prod = k then latchProducer x.2 cs ps s else s
        if x.1.cons = k then latchConsumer x.2 cs ps s3 else s3) s1
      restartPeaks k s2

/-- A snapshot becomes BUSY (R374, R376, R377, R380): its half is the other one of the last, or the one not held; islands not in RUN
supply saved values. -/
def censusStart (t : Nat) (byCmd : Bool) (s : State) : State :=
  let c := s.cen
  let half := match c.held with
    | some h => 1 - h
    | none => if c.seq = 0 then 0 else 1 - c.lastHalf
  let saved := (List.range 27).filter fun k => !islandRun s k
  let s1 := onCen (fun c => { c with busy := some { t := t, half := half, saved := saved, byCmd := byCmd } }) s
  saved.foldl (fun s k => latchIsland k s) s1

/-- A requested instant that has come starts its snapshot, unless one is BUSY (R376). -/
def censusDue (s : State) : State :=
  match s.cen.busy, s.cen.want with
  | none, some t =>
    if t ≤ s.tod16 then censusStart t s.cen.wantCmd (onCen (fun c => { c with want := none, wantCmd := false }) s) else s
  | _, _ => s

/-- Cells of the header (R378): STATE as given. -/
def headerCells (st : Nat) (seq written gen entries : Nat) (b : Snapshot) (s : State) : List Nat :=
  let x := stampOf b.t
  let began (day : Bool) : Nat :=
    match s.cen.bounds.find? fun y => y.1 == day && y.2 + 10 ≤ x.sec with
    | some y => y.2
    | none => (((x.sec : Int) - 10) - ((x.sec : Int) - 10 - s.time.binOffset) % (if day then 86400 else 900)).toNat
  [1 + 65536 * st + 2 ^ 24 * b.half, seq, x.sec, x.ns + 2 ^ 32 * x.frac, written, gen, (b.saved.map (2 ^ ·)).sum, entries, began false,
    began true] ++ List.replicate 6 0

/-- A Chute's eight cells (R378). -/
def chuteCells (c : Nat) (b : Snapshot) (s : State) : List Nat :=
  match chuteId c with
  | none => List.replicate 7 0 ++ [2 ^ 64 - 1]
  | some i =>
    let t := lookupD [] c b.takenCells
    let w := lookupD [] c b.writtenCells
    [t.getD 0 0, t.getD 1 0, w.getD 0 0, t.getD 2 0, w.getD 1 0, t.getD 3 0, (getNat {} s.chutes c).inFlight,
      i.prod + 256 * i.cons + 65536 * i.cls + 2 ^ 24 * i.inst]

/-- Order of the blocks in the directory: status blocks by opcode and object, then PM blocks (log 53). -/
def CensusBlock.rank (b : CensusBlock) : Nat := ((b.typ * 2 ^ 16 + b.op) * 2 ^ 8 + b.layer) * 2 ^ 32 + b.ob
def insertBlock (b : CensusBlock) : List CensusBlock → List CensusBlock
  | [] => [b]
  | x :: r => if b.rank ≤ x.rank then b :: x :: r else x :: insertBlock b r

/-- Place blocks from a cell on: each with its first cell. -/
def placeBlocks : Nat → List CensusBlock → List (CensusBlock × Nat)
  | _, [] => []
  | n, b :: r => (b, n) :: placeBlocks (n + b.cells.length) r

/-- The blocks of a snapshot with their first cells (R378): status blocks from cell 10,752, PM blocks from cell 131,072; the
directory holds 4,088. -/
def snapshotBlocks (b : Snapshot) : List (CensusBlock × Nat) :=
  let bs := b.blocks.foldr insertBlock []
  (placeBlocks 10752 (bs.filter fun x => x.typ == 1) ++ placeBlocks 131072 (bs.filter fun x => x.typ == 2)).take 4088

/-- A directory entry's identity (R378). -/
def dirEntry (x : CensusBlock × Nat) : Nat × Nat × Nat × Nat :=
  (x.1.typ + 256 * x.1.layer + 65536 * x.1.op, x.1.ob, x.2, x.1.cells.length)

/-- All cells of a snapshot from cell 16 on (R378): directory, occurrence counts, Chutes, blocks, with 0 between. -/
def bodyCells (b : Snapshot) (s : State) : List Nat :=
  let ps := snapshotBlocks b
  let ds := (ps.map dirEntry).flatMap fun d => [d.1 + 2 ^ 32 * d.2.1, d.2.2.1 + 2 ^ 32 * d.2.2.2]
  let counts := (List.range 512).map fun n => b.counts.getD n 0
  let status := (ps.filter fun x => x.1.typ == 1).flatMap fun x => x.1.cells
  let pm := (ps.filter fun x => x.1.typ == 2).flatMap fun x => x.1.cells
  ds ++ List.replicate (8176 - ds.length) 0 ++ counts ++ ((List.range 256).flatMap fun c => chuteCells c b s) ++ status
    ++ (if pm.isEmpty then [] else List.replicate (120320 - status.length) 0 ++ pm)

/-- Write a word of a half: 8 cells (R377), with the page taken from the area's list. -/
def writeCells (half i : Nat) (cells : List Nat) (s : State) : State :=
  match s.stk.region 0 with
  | none => s
  | some r =>
    match r.pages[20 * half + i / 32768]? with
    | none => s
    | some p => stkWrite (32768 * p + i % 32768) (cells.flatMap (leBytes 8)) 0 5 false false false s

/-- Write cells from word `i` on, eight a word. -/
def writeAll (half : Nat) : Nat → Nat → List Nat → State → State
  | 0, _, _, s => s
  | n + 1, i, l, s => if l.isEmpty then s else writeAll half n (i + 1) (l.drop 8) (writeCells half i (l.take 8) s)

/-- Retired pages of a half leave the area with the next snapshot written to it (R248, R380). -/
def replaceHalf (half : Nat) (s : State) : State :=
  onStk (fun k => { k with regions := k.regions.map fun r =>
    if r.r ≠ 0 then r
    else
      let mine := (r.pages.drop (20 * half)).take 20
      let go := r.leaving.filter fun x => mine.contains x.1
      { r with
        pages := r.pages.map fun p => ((go.find? fun x => x.1 == p).map (·.2)).getD p
        leaving := r.leaving.filter fun x => !mine.contains x.1 } }) s

/-- The layout of a snapshot: its directory, LAYOUT_GEN, the cells written (R378). -/
def snapshotLayout (b : Snapshot) (s : State) : List (Nat × Nat × Nat × Nat) × Nat × Nat :=
  let d := (snapshotBlocks b).map dirEntry
  (d, if d = s.cen.dir then s.cen.layoutGen else s.cen.layoutGen + 1, 16 + (bodyCells b s).length)

/-- The first step of R377, once every island has latched: cell 0 with STATE 1. -/
def censusBegin (s : State) : State :=
  match s.cen.busy with
  | none => s
  | some b =>
    if b.latched.length ≠ 27 then s
    else
      let s1 := replaceHalf b.half s
      let l := snapshotLayout b s1
      writeCells b.half 0 ((headerCells 1 (s.cen.seq + 1) l.2.2 l.2.1 l.1.length b s1).take 8) s1

/-- CENSUS_ISLAND_LATCH (R372 to R376): the first one at or after a requested instant starts its snapshot. -/
def islandLatch (k : Fin 27) (s : State) : State :=
  let s1 := censusDue s
  match s1.cen.busy with
  | none => s1
  | some b => if b.t ≤ s1.replica k.val ∧ !b.latched.contains k.val then censusBegin (latchIsland k.val s1) else s1

def execCensusIslandLatch (k : Fin 27) (s : State) : Out := .next (islandLatch k s)

/-- A mark stands in a Chute, so that an in-flight cell is not known yet (R373). -/
def marksOut (s : State) : Bool := s.chutes.toList.any fun c => c.items.any (· == .mark)

/-- The response of `CENSUS.TAKE` (R338). -/
def takeReply (b : Snapshot) (cells : Nat) : Resp :=
  let x := stampOf b.t
  { status := stOk, payload := leBytes 1 b.half ++ leBytes 3 0 ++ leBytes 6 x.sec ++ leBytes 2 0 ++ leBytes 4 x.ns ++ leBytes 4 cells }

/-- CENSUS_WRITE_COMPLETE (R376, R377, R380): the other cells are written, cell 0 gets STATE 2, CENSUS_DONE is raised, the command that
asked completes; a requested instant that fell into the BUSY time moves to the next whole millisecond. -/
def writeComplete (s : State) : State :=
  match s.cen.busy with
  | none => s
  | some b =>
    if b.latched.length ≠ 27 ∨ marksOut s then s
    else
      let l := snapshotLayout b s
      let seq := s.cen.seq + 1
      let all := headerCells 2 seq l.2.2 l.2.1 l.1.length b s ++ bodyCells b s
      let s1 := writeCells b.half 0 (all.take 8) (writeAll b.half all.length 1 (all.drop 8) s)
      let late := match s.cen.want with
        | some t => decide (t ≤ s.tod16)
        | none => false
      let s2 := onCen (fun c => { c with
        busy := none, seq := seq, lastHalf := b.half, lastT := b.t, lastUs := (s.tod16 - b.t) / 65536000, layoutGen := l.2.1, dir := l.1
        taken := bump c.taken, delayed := if late then bump c.delayed else c.delayed
        want := if late then some (wholeMs (s.tod16 + 1)) else c.want }) s1
      let s3 := raise 9 objDevice (evtArg 0 0 0 seq) s2
      if b.byCmd then endTransition .census (takeReply b l.2.2) s3 else s3

def execCensusWriteComplete (s : State) : Out := .next (writeComplete s)

/-- CENSUS_PERIODIC_INSTANT (R376): at a whole multiple of PERIOD_MS; skipped while BUSY with another instant; with a request for the
same instant one snapshot serves both. -/
def periodicInstant (s : State) : State :=
  let per := s.cen.periodMs * fracPerMs
  if per = 0 ∨ !s.stk.initialised then s
  else
    let t := s.tod16 / per * per
    let s1 := censusDue s
    match s1.cen.busy with
    | none => censusStart t false s1
    | some b =>
      if b.t = t then s1
      else raise 10 objDevice (evtArg 0 0 0 (s1.cen.seq + 1)) (onCen (fun c => { c with skipped := bump c.skipped, skippedBit := true }) s1)

def execCensusPeriodicInstant (s : State) : Out := .next (periodicInstant s)

/-- The instant of a request that gives none (R338): the first whole millisecond at least 1 ms ahead. -/
def nextInstant (s : State) : Nat := wholeMs (s.tod16 + fracPerMs)

/-- CENSUS.TAKE (R338, R376). -/
def censusTake (q : Request) (s : State) : State × Reply :=
  let at_ := stampVal { sec := u48 q 4, ns := u32 q 12, frac := 0 }
  let t := if u48 q 4 = 0 ∧ u32 q 12 = 0 then nextInstant s else at_
  if 999999999 < u32 q 12 then (s, badParam 12)
  else if t < s.tod16 ∨ s.tod16 + 86400 * fracPerSec < t then (s, badParam 4)
  else if !s.stk.initialised then (s, refuse stBadState)
  else if s.cen.want.isSome then (s, refuse stBusy)
  else (beginTransition .census 0x0D10 q (onCen (fun c => { c with want := some t, wantCmd := true }) s), .later)

def execCensusTake (q : Request) (s : State) : Out := .next (deskRun 0x0D10 censusTake q s)

/-- CENSUS.SET (R338, R376). -/
def censusSet (q : Request) (s : State) : State × Reply :=
  let p := u32 q 4
  if p ≠ 0 ∧ (p < 100 ∨ 3600000 < p) then (s, badParam 4) else (keepBody 0x0D11 q (onCen (fun c => { c with periodMs := p }) s), ok)

def execCensusSet (q : Request) (s : State) : Out := .next (deskRun 0x0D11 censusSet q s)

def execCensusStatus (q : Request) (s : State) : Out := .next (deskRun 0x0D12 (sCommand fun _ s => censusItems s) q s)

/-- TAKE in EVT_CENSUS_CTRL (R376, R380): ignored while a request is pending, and without an area to write to. -/
def takeRegister (s : State) : State :=
  if s.cen.want.isSome ∨ !s.stk.initialised then s else onCen (fun c => { c with want := some (nextInstant s), wantCmd := false }) s

def execCensusTakeRegister (p : Path) (s : State) : Out := .next (if evtLive s p then takeRegister s else s)

/-- HOLD in EVT_CENSUS_CTRL (R380): 1 holds the half of the last complete snapshot, 0 releases it; the bit itself reads as written
(R9). -/
def holdWrite (b : Bool) (s : State) : State :=
  onCen (fun c => { c with hold := b, held := if b then (if c.seq = 0 then c.held else some c.lastHalf) else none }) s

def execCensusHoldWrite (p : Path) (b : Bool) (s : State) : Out := .next (if evtLive s p then holdWrite b s else s)

/-- The Census registers as read (R380). -/
def censusCtrl (s : State) : Nat := 2 * b2n s.cen.hold
def censusStatus (s : State) : Nat :=
  let c := s.cen
  b2n c.busy.isSome + 2 * b2n c.want.isSome + 4 * c.lastHalf + 8 * c.held.getD 0 + 16 * b2n c.held.isSome + 32 * b2n c.skippedBit
    + 65536 * (c.seq % 65536)
def censusMap (s : State) : Nat :=
  65536 * s.cen.mapIndex + (((s.stk.region 0).bind fun r => r.pages[s.cen.mapIndex]?).getD 0)

end Sys2Proof.Machine
end

