-- ==== Sys2Proof/Machine/Sleep.lean ====
section
/-! DEFINITION. The device's power states: `POWER.DEVICE.SET`, entry, commit, wake and exit, and the end of a boot (16_power.md R386
to R401, R404; 18_boot_security.md R432, R450, R456; 22_reset_bringup.md R510 to R514). -/

namespace Sys2Proof.Machine

/-- The states from which a wake source wakes the device (R395); sources by mask bit. -/
def wakesFrom (t : DevPower) (b : Nat) : Bool :=
  match t with
  | .sleep => b < 6
  | .deepSleep => b == 0 || b == 1 || b == 3 || b == 4
  | .off => b == 0
  | .run => false
  | .idle => false

/-- A source that is enabled and can wake a state; a TIMER_SEC of 0 disables the timer (R395, R396). -/
def wakeEnabled (s : State) (t : DevPower) (b : Nat) : Bool :=
  wakesFrom t b && bit s.pwr.wakeMask b && (b != 3 || s.pwr.timerSec != 0)

/-- The device takes a state (R386, R403): the time in the state left is accounted. -/
def toState (t : DevPower) (s : State) : State :=
  { s with
    pwr := { s.pwr.accounted s.dev.ticks with st := t }
    safe := if s.pwr.st = .sleep then s.safe.expect s.dev.ticks else s.safe }

/-- POWER_STATE_DONE (288), on reaching RUN, IDLE or SLEEP (R404). -/
def stateDone (t : DevPower) (s : State) : State := raise 288 objDevice (evtArg 0 t.code 0 0) s

/-- What refuses a state below IDLE (R360): a carrier enabled, a bond provisioned, the mate link up. -/
def sleepRefused (s : State) : Bool := anyCarrier s || anyBond s || s.link.isUp

/-- POWER.DEVICE.SET (R360, R386, R387, R388): RUN and IDLE at once; a state below IDLE begins its entry, and the Curator accepts
no more requests. -/
def deviceSet (q : Request) (s : State) : State × Reply :=
  let low (t : DevPower) : State × Reply :=
    if sleepRefused s then (s, refuse stBadState)
    else if !(List.range 6).any (wakeEnabled s t) then (s, badParam 4)
    else
      ({ s with
        desk := { s.desk with ready := false }
        pwr := { s.pwr with entering := some t, drained := false, committed := false, latched := false, rested := [] } }, ok)
  let high (t : DevPower) : State × Reply :=
    if s.pwr.st = t then (s, ok) else (stateDone t (onPwr (fun p => { p with coresOff := false }) (toState t s)), ok)
  match u8 q 4 with
  | 0 => high .run
  | 1 => high .idle
  | 2 => low .sleep
  | 3 => low .deepSleep
  | 4 => low .off
  | _ => (s, badParam 4)

def execPowerDeviceSet (q : Request) (s : State) : Out := .next (deskRun 0x0E01 deviceSet q s)

/-- IDLE_CORE_WAKE (R386): the cores run again. -/
def execIdleCoreWake (s : State) : Out := .next (onPwr (fun p => { p with coresOff := false }) s)

/-- The save lists (R401): SAVE_HW from the registers, SAVE_FW from what is in force; of R285 all but the link row. -/
def saveHwOf (s : State) : SaveHw :=
  { en := s.evt.en, route := s.evt.route, irq0 := s.evt.irq0En, irq1 := s.evt.irq1En
    chIrq := s.desk.chans.map fun (c : Channel) => c.irqEn, apBase := s.ap.window, apEn := s.ap.en, apEpEn := s.ap.epEn }
def savedOps : List Nat := [0x0E03, 0x0F20, 0x0F30, 0x0F01, 0x0F02, 0x0D11, 0x0B04, 0x0B10]
def saveFwOf (s : State) : SaveFw :=
  { bodies := s.par.bodies.filter fun b => savedOps.contains b.op
    params := s.par.inForce.filter fun v => v.tab == .r285 && v.pid / 16 != 0xE
    prio := s.time.prio, force := s.time.force, manual := s.time.manual
    lockouts := (List.finRange 12).filterMap fun k => if (s.cand k).lockout then some k.val else none
    oscKind := s.time.oscKind, oscIdx := s.time.oscIdx, oscCoef := s.time.oscCoef }

/-- Every stack is where an entry needs it: none in transition, none in RUN. -/
def stacksResting (s : State) : Bool := [16, 17, 18, 19].all fun d => s.dom d == .selfRefresh || s.dom d == .off

/-- SLEEP_ENTRY_DRAINED (R388, R453): every request is complete and its response written, no Catalogue write or erase runs: the
stacks in RUN go to self-refresh; DEEP_SLEEP: the save lists. -/
def entryDrained (s : State) : State :=
  match s.pwr.entering with
  | none => s
  | some t =>
    if s.pwr.drained || deskBusy s || s.desk.restarting || s.cat.writing.isSome || s.cat.erasing.isSome then s
    else
      let up := [16, 17, 18, 19].filter fun d => s.dom d == .run || s.dom d == .starting
      let s1 := up.foldl (fun s d => requestDomain d .selfRefresh s) (onPwr (fun p => { p with drained := true, rested := up }) s)
      if t = .deepSleep then onPwr (fun p => { p with saveHw := some (saveHwOf s), saveFw := some (saveFwOf s) }) s1 else s1

def execSleepEntryDrained (s : State) : Out := .next (entryDrained s)

/-- The wake ends a boot that never was (R497): VCORE or a bank that the wake needs was removed, so the exit is a cold start, with
what VAON kept. -/
def coldWake (s : State) : State :=
  let t := powerOn s
  { t with
    pwr := { t.pwr with record := s.pwr.record, brownLatch := s.pwr.brownLatch }
    house := { t.house with shutRecord := s.house.shutRecord, shutFresh := s.house.shutFresh } }

/-- The exit from DEEP_SLEEP or OFF (R386, R497): the rails, and the boot of R432. RESET_N was ignored in OFF (R514). -/
def wakeBoot (deep : Bool) (s : State) : State :=
  if s.boot.coldNext then coldWake s
  else
    bootUp deep true { s with
      boot := { s.boot with cause := 0, resetLow := false }
      house := railsAtWake s.house
      pwr := { s.pwr with st := .run, domains := resetDomains, exiting := true, latched := true } }

/-- The exit begins from the state the device rests in (R389, R396). From SLEEP the core and the stacks are admitted. -/
def beginExit (s : State) : State :=
  match s.pwr.st with
  | .sleep =>
    s.pwr.rested.foldl (fun s d => requestDomain d .run s)
      (startStages 20 (onPwr (fun p => { p with exiting := true, latched := true }) s))
  | .deepSleep => wakeBoot true s
  | .off => wakeBoot false s
  | .run => s
  | .idle => s

/-- RAIL 0 goes to its floor with the core stopped (R386, R393); a rail in fixed mode keeps its voltage. -/
def coreFloor (s : State) : State := onRail 0 (fun x => { x with setMv := if x.configured && x.adaptive then railFloor 0 else x.setMv }) s

/-- Every domain that an entry stops is OFF and the core stage has begun. -/
def entryDown (t : DevPower) (s : State) : Bool :=
  ((List.range 20).all fun d => s.dom d == .off || (16 ≤ d && t == .sleep)) && !s.pwr.queue.any fun x => x.1 == 20

/-- The device rests in the state it entered (R386, R388), POWER_STATE_DONE for SLEEP; a source latched after the commit point
exits at once (R396). -/
def restNow (t : DevPower) (s : State) : State :=
  let latched := s.pwr.latched
  let s1 := match t with
    | .deepSleep => intoDeep s
    | .off => intoOff s
    | _ => stateDone .sleep (coreFloor (toState .sleep (onPwr (fun p => { p with entering := none, drained := false, committed := false }) s)))
  if latched then beginExit s1 else s1

/-- After a stage or a domain: is the entry complete? -/
def restCheck (s : State) : State :=
  match s.pwr.entering with
  | some t => if s.pwr.committed && entryDown t s then restNow t s else s
  | none => s

/-- SLEEP_COMMIT (R388, R397): the wake record of a new entry, and the domains and the core stop through the admission sequencer
(R392). Monitor conversions end with their clock. -/
def sleepCommit (s : State) : State :=
  match s.pwr.entering with
  | none => s
  | some t =>
    if !s.pwr.drained || s.pwr.committed || !stacksResting s then s
    else
      let s1 := onPwr (fun p => { p with
        committed := true
        record := { p.record with
          fromState := t.code, source := 0, aborted := false, brownout := false, archiveBad := false, elapsedValid := false, other := 0
          entrySec := recordSec s, elapsedMs := 0, exitUs := 0 } }) s
      let s2 := onHouse (fun h => { h with madc := h.madc.map fun (x : Madc) => { x with running := none, aborted := none } }) s1
      let s3 := safetyLeave 1 (safetyLeave 0 s2)
      let s4 := (List.range 6).foldl (fun s o => octetDown o s) s3
      let ds := (List.range 16) ++ (if t = .sleep then [] else [16, 17, 18, 19])
      restCheck (queueStages 20 (ds.foldl (fun s d => requestDomain d .off s) s4))

def execSleepCommit (s : State) : Out := .next (sleepCommit s)

/-- ADMISSION_STAGE_START (R392). -/
def execAdmissionStageStart (s : State) : Out := .next (restCheck (admissionStart s))

/-- POWER_GOOD_TIMEOUT (R391), VOUT_SETTLE_TIMEOUT (R393). -/
def execPowerGoodTimeout (d : Fin 20) (s : State) : Out := .next (restCheck (domainFail d s))
def execVoutSettleTimeout (r : Fin 16) (s : State) : Out := .next (restCheck (voutSettleTimeout r s))

/-- A further source goes to OTHER until the exit completes (R396, R397). -/
def noteOther (b : Nat) (s : State) : State :=
  onPwr (fun p => { p with record := { p.record with
    other := if p.record.source = b then p.record.other else Nat.lor p.record.other (2 ^ b) } }) s

/-- A source latched before the commit point (R396): the entry is undone, ABORTED. -/
def abandonEntry (t : DevPower) (b : Nat) (s : State) : State :=
  let back := s.pwr.rested
  let s1 := onPwr (fun p => { p with
    entering := none, drained := false, committed := false, latched := true, exiting := true, aborted := bump p.aborted
    record := { p.record with
      fromState := t.code, source := b, aborted := true, brownout := false, archiveBad := false, elapsedValid := false, other := 0
      entrySec := 0, elapsedMs := 0, exitUs := 0 } }) s
  back.foldl (fun s d => requestDomain d .run s) s1

/-- The first source of an entry past its commit point, or at rest (R395 to R397, R399): SOURCE, and the always-on time since the
commit point, which is never valid after OFF. After a brown-out the record stands. -/
def firstSource (t : DevPower) (b aonMs : Nat) (s : State) : State :=
  let valid := t != .off
  onPwr (fun p => { p with
    latched := true
    record := if p.brownLatch && t == .off then p.record
      else { p.record with
        fromState := t.code, source := b, elapsedValid := valid, elapsedMs := if valid then min aonMs (2 ^ 32 - 1) else 0 } }) s

/-- The state that an exit leaves, by FROM of the wake record. -/
def stateLeft (s : State) : DevPower := if s.pwr.record.fromState = 2 then .sleep else if s.pwr.record.fromState = 3 then .deepSleep else .off

/-- WAKE_SOURCE_LATCH (R395, R396): a source, and the always-on time since the commit point in ms. -/
def wakeLatch (src : Fin 6) (aonMs : Nat) (s : State) : State :=
  let b := src.val
  match s.pwr.entering with
  | some t =>
    if !wakeEnabled s t b then s
    else if s.pwr.latched then noteOther b s
    else if s.pwr.committed then firstSource t b aonMs s
    else abandonEntry t b s
  | none =>
    if s.pwr.exiting then (if wakeEnabled s (stateLeft s) b then noteOther b s else s)
    else if wakeEnabled s s.pwr.st b then beginExit (firstSource s.pwr.st b aonMs s) else s

def execWakeSourceLatch (src : Fin 6) (aonMs : Nat) (s : State) : Out := .next (wakeLatch src aonMs s)

/-- FLAGS of the wake record (R397). -/
def wakeFlags (w : WakeRecord) : Nat := b2n w.aborted + 2 * b2n w.brownout + 4 * b2n w.archiveBad + 8 * b2n w.elapsedValid

/-- The core is back: its stage has begun and the stacks that the entry rested are in RUN. -/
def coreBack (s : State) : Bool :=
  !(s.pwr.queue.any fun x => x.1 == 20) && !(s.pwr.raises.any fun x => x.dom == 20) && s.pwr.rested.all fun d => s.dom d == .run

/-- WAKE_EXIT_COMPLETE (R389, R397, R404): READY, the record with its EXIT_US, POWER_WAKE (292) and, on reaching RUN,
POWER_STATE_DONE. An exit through boot needs READY of YOZON_READY. -/
def exitComplete (us : Nat) (s : State) : State :=
  let booted := (s.pwr.record.fromState == 3 || s.pwr.record.fromState == 4) && !s.pwr.record.aborted
  if !s.pwr.exiting || !coreBack s || (booted && !s.desk.ready) then s
  else
    let w := { s.pwr.record with exitUs := min us (2 ^ 32 - 1), wakes := (s.pwr.record.wakes + 1) % 2 ^ 32 }
    let was := s.pwr.st
    let s1 := toState .run { s with desk := { s.desk with ready := !s.desk.restarting } }
    let s2 := onPwr (fun p => { p with exiting := false, latched := false, rested := [], coresOff := false, record := w }) s1
    let s3 := raise 292 objDevice (evtArg 0 w.source (wakeFlags w) w.exitUs) s2
    if w.aborted && was == .run then s3 else stateDone .run s3

def execWakeExitComplete (us : Nat) (s : State) : Out := .next (exitComplete us s)

/-- SAVE_HW restored by hardware (R401). -/
def restoreHw (h : SaveHw) (s : State) : State :=
  { s with
    evt := { s.evt with en := h.en, route := h.route, irq0En := h.irq0, irq1En := h.irq1 }
    desk := { s.desk with chans := Vector.ofFn fun c => { (s.desk.chans[c]) with irqEn := h.chIrq[c] } }
    ap := { s.ap with window := h.apBase, en := h.apEn, epEn := h.apEpEn } }

/-- A request that Yozon makes of itself with a saved body. -/
def savedRequest (b : BodyVal) : Request :=
  { ch := 0, tag := 0, ordered := false, holdMs := 0, slot := none, body := b.body, bulk := b.bulk }

/-- One saved body applied as its command would (R401). -/
def restoreBody (s : State) (b : BodyVal) : State :=
  let q := savedRequest b
  if b.op = 0x0F20 then (pmbusRailSet q s).1
  else if b.op = 0x0F30 then (gpioSet q s).1
  else if b.op = 0x0F01 then (monRefSet q s).1
  else if b.op = 0x0F02 then (monChannelSet q s).1
  else if b.op = 0x0D11 then (censusSet q s).1
  else if b.op = 0x0E03 then (wakeSet q s).1
  else keepBody b.op q s

/-- SAVE_FW applied by Yozon (R401, R432), oldest body first. -/
def restoreFw (f : SaveFw) (s : State) : State :=
  let s1 := f.bodies.reverse.foldl restoreBody { s with par := { s.par with inForce := f.params ++ s.par.inForce } }
  retarget 0 (onTime (fun t => { t with
    prio := f.prio, force := f.force, manual := f.manual, oscKind := f.oscKind, oscIdx := f.oscIdx, oscCoef := f.oscCoef
    cands := Vector.ofFn fun k => { (t.cands[k]) with lockout := f.lockouts.contains k.val } }) s1)

/-- The save lists after DEEP_SLEEP (R401): what does not hold leaves its fields at reset and sets ARCHIVE_BAD. The wake mask is
the one of SAVE_FW, else its reset value (R395). -/
def restoreSaves (s : State) : State :=
  let p := s.pwr
  let bad := p.saveHw.isNone || p.saveFw.isNone
  let s1 := onPwr (fun p => { p with
    wakeMask := 1, timerSec := 0, saveHw := none, saveFw := none, record := { p.record with archiveBad := p.record.archiveBad || bad } }) s
  let s2 := match p.saveHw with
    | some h => restoreHw h s1
    | none => s1
  match p.saveFw with
  | some f => restoreFw f s2
  | none => s2

/-- The oscillator coefficients of the Catalogue (R274, R451: 0 without the record; layout log 20). -/
def loadOsc (s : State) : State :=
  let p := recPayload (lookupD [] (catKey 0x10 0) s.cat.records)
  let c (k : Nat) : Int := signedOf 64 (natAt p (4 + 8 * k) 8)
  onTime (fun t => { t with oscKind := byteAt p 0, oscIdx := byteAt p 1, oscCoef := (c 0, c 1, c 2, c 3) }) s

/-- What Yozon reports once it runs (R399, R423, R432, R450, R456). -/
def bootReports (s : State) : State :=
  let s1 := match s.boot.fallbackCause with
    | some n => raise 352 objDevice (evtArg 0 (b2n s.dev.imageB) n 0) (onBoot (fun b => { b with fallbacks := bump b.fallbacks }) s)
    | none => s
  let s2 := s.boot.slotBad.foldl (fun s x => raise 356 objDevice (evtArg 0 x s.cat.recovered 0) s) s1
  let s3 := raiseIf s.pwr.brownLatch 291 objDevice (evtArg 0 s.pwr.record.fromState 0 0) s2
  let s4 := match s.house.shutRecord, s.house.shutFresh with
    | some (n, r, _), true => raise 330 (objSensor n) (evtArg 0 0 0 (codeOf 64 r)) s3
    | _, _ => s3
  { s4 with
    boot := { s4.boot with fallbackCause := none, slotBad := [] }
    pwr := { s4.pwr with brownLatch := false }
    house := { s4.house with shutFresh := false } }

/-- Yozon erases the slot that the next Catalogue write programs, when it is not erased (R450). -/
def eraseOther (s : State) : State :=
  let t := catTarget s.cat
  if erased (flashCat s.boot.flash t) then s
  else
    { s with
      cat := { s.cat with erasing := some t }, boot := { s.boot with flash := flashSetCat s.boot.flash t partSlot } }

/-- YOZON_READY (R432 steps 6 and 7): SAVE_HW and SAVE_FW after DEEP_SLEEP, the reports, and READY on the Desk and its channels. -/
def yozonReady (s : State) : State :=
  if !s.boot.booting then s
  else
    let deep := s.boot.fromDeep
    let s1 := loadOsc { s with boot := { s.boot with booting := false, fromDeep := false } }
    let s2 := if deep then restoreSaves s1 else onPwr (fun p => { p with wakeMask := 1, timerSec := 0 }) s1
    let s3 := eraseOther (bootReports s2)
    driveAll { s3 with desk := { s3.desk with
      ready := true, chans := s3.desk.chans.map fun (c : Channel) => { c with ready := true } } }

def execYozonReady (s : State) : Out := .next (yozonReady s)

end Sys2Proof.Machine
end

