-- ==== Sys2Proof/Machine/Device.lean ====
section
/-! DEFINITION. The device commands, the reading forms and the release of a hold (14_command_reference.md R336, R338 to R340;
13_curator_desk.md R322). -/

namespace Sys2Proof.Machine

/-- ASCII of the order code (R339, R434). -/
def orderCode : Nat := if Config.orderE then 0x45 else 0x43

/-- DEVICE.INFO (R339). -/
def deviceInfo (_ : Request) (s : State) : State × Reply :=
  let mode := match s.dev.mode with
    | some m => m.code
    | none => 0xFF
  (s, ok ([0x41, 0x45, 0x54, 0x2D, 0x36, 0x34, 0x34, 0x38] ++ leBytes 1 orderCode ++ [0x42, 0x31] ++ leBytes 1 0
    ++ leBytes 4 s.boot.fw ++ leBytes 8 Config.serial.toNat ++ leBytes 1 mode ++ leBytes 1 s.mate.role
    ++ leBytes 1 (b2n s.stk.initialised) ++ leBytes 1 (b2n s.dev.imageB) ++ leBytes 4 (s.dev.ticks / 625000000)))

def execDeviceInfo (q : Request) (s : State) : Out := .next (deskRun 0x0101 deviceInfo q s)

/-- Something of steps 1 to 3 of R340 is left, or the Stacks are not initialised. -/
def stillProvisioned (s : State) : Bool :=
  anyCarrier s || !s.map.tribs.isEmpty || !s.map.conns.isEmpty || s.prot.toList.any (·.exists_) || s.mate.role != 0 || anyBond s
    || anyLane s || !s.stk.initialised

/-- The regions of a mode at the size in force (R235, R340): number and pages. -/
def modeRegions (m : Mode) (s : State) : List (Nat × Nat) :=
  (if m = .framer then [] else [(1, reservePages s)]) ++ if m = .framer ∨ m = .regenerator then [] else [(2, 256)]

/-- In FRAMER mode the LINE, FRAME and POOL islands are powered down (R29): the carrier and pool domains go to OFF. -/
def framerDown (m : Mode) (s : State) : State :=
  if m = .framer then ([0, 1] ++ (List.range 8).map (8 + ·)).foldl (fun s d => requestDomain d .off s) s else s

/-- DEVICE.PROVISION (R3, R29, R338, R340): the Reserve, the transmit queue and the switch buffer are freed, and the regions of
the new mode allocated. -/
def deviceProvision (q : Request) (s : State) : State × Reply :=
  match modeOf (u8 q 4) with
  | none => (s, badParam 4)
  | some m =>
    if stillProvisioned s then (s, refuse stBadState)
    else
      let go (x : Except Nat State) (r : Nat × Nat) : Except Nat State :=
        match x with
        | .ok s => allocRegion r.1 r.2 s
        | .error e => .error e
      match (modeRegions m s).foldl go (.ok (freeRegion 3 (freeRegion 2 (freeRegion 1 s)))) with
      | .error e => (s, refuse e)
      | .ok s1 => (pmSync (framerDown m (keepBody 0x0102 q (assignSubs 1 (assignSubs 0 { s1 with dev := { s1.dev with mode := some m } })))), ok)

def execDeviceProvision (q : Request) (s : State) : Out := .next (deskRun 0x0102 deviceProvision q s)

/-- The body that the reading form of an R command returns for an object never provisioned, after OBJ (R336): the values that the
device starts with; the spec states few of them (log 54). -/
def defaultBody (op : Nat) (q : Request) (s : State) : List Byte :=
  let c := reqCarrier q
  let x := s.car c
  if op = 0x0102 then [0xFF, 0, 0, 0]
  else if op = 0x0201 then
    leBytes 4 x.symRate ++ leBytes 1 x.ldpcRate ++ leBytes 1 x.adcFs ++ leBytes 2 x.dacSwing ++ (x.groupMap.flatMap (leBytes 1))
      ++ (x.slices.flatMap (leBytes 1)) ++ ((List.range 16).flatMap fun g => leBytes 2 (targetOf s c g)) ++ leBytes 4 0
  else if op = 0x0403 then leBytes 4 0 ++ curve80.flatMap fun v => leBytes 2 (codeOf 16 v)
  else if op = 0x0602 then s.il[c].owner.flatMap (leBytes 1)
  else if op = 0x0B04 then bytesAt (oscPayload s.time) 0 36
  else if op = 0x0C01 then leBytes 4 0 ++ leBytes 4 2 ++ ((s.lane (objIndex q)).preset.flatMap fun t => leBytes 1 (codeOf 8 t)) ++ leBytes 3 0
  else if op = 0x0E03 then leBytes 4 s.pwr.wakeMask ++ leBytes 6 s.pwr.timerSec ++ leBytes 2 0
  else List.replicate (
    if op = 0x0402 ∨ op = 0x0711 then 32 else if op = 0x0801 then 16 else if op = 0x0804 then 104
    else if op = 0x0F02 ∨ op = 0x0F20 ∨ op = 0x1201 then 8 else if op = 0x0C04 ∨ op = 0x0F30 then 12 else if op = 0x0411 then 0 else 4) 0

/-- The body of an R command as in force now (R336, R363), where the device holds its values in state that may differ from the last
request: a value still pending is not returned, and a T of 0 in CARRIER.PROVISION is the default that it selects (R86, R343). -/
def liveBody (op : Nat) (q : Request) (b : List Byte) (s : State) : List Byte :=
  let c := reqCarrier q
  let l := byteAt b 4
  if op = 0x0201 then bytesAt b 0 4 ++ defaultBody op q s
  else if op = 0x0402 then
    match (s.txg c (reqGroup q)).manual with
    | some t => bytesAt b 0 4 ++ t.flatMap (leBytes 2)
    | none => b
  else if op = 0x0403 then bytesAt b 0 8 ++ (curveAt s c l).flatMap fun v => leBytes 2 (codeOf 16 v)
  else if op = 0x0602 then bytesAt b 0 4 ++ s.il[c].owner.flatMap (leBytes 1)
  else if op = 0x0804 then
    let y : LayerCfg := match s.framer (reqFramer q) with
      | some f => getNat {} f.cfg l
      | none => {}
    bytesAt b 0 6 ++ leBytes 1 y.timMode ++ leBytes 1 (b2n y.timAct) ++ leBytes 2 (y.expPt.getD 0xFFFF) ++ leBytes 1 y.tcmMode
      ++ leBytes 1 0 ++ padTo 32 y.expTti ++ padTo 64 y.txTti
  else if op = 0x0806 then
    let f := getNat {} s.bonds (objIndex q)
    bytesAt b 0 5 ++ (if l = 0 then leBytes 1 f.maint.1 ++ leBytes 1 (b2n f.fbdi.1) else leBytes 1 f.maint.2 ++ leBytes 1 (b2n f.fbdi.2))
      ++ leBytes 1 0
  else if op = 0x0C05 then bytesAt b 0 4 ++ leBytes 1 (s.lane (objIndex q)).loop ++ bytesAt b 5 3
  else b

/-- The reading form of a P command (R333, R336): OBJ, COUNT and the first 27 records; the rest in the bulk slot. -/
def readP (op : Nat) (q : Request) (s : State) : State × Reply :=
  let r := readingP op q s
  if 27 < r.1 ∧ q.slot.isNone then (s, refuse stBadEntry)
  else (s, okBulk (leBytes 4 (objOf q) ++ leBytes 2 r.1 ++ leBytes 2 0 ++ r.2.take 216) (r.2.drop 216))

/-- What the reading form of an R command returns in PAYLOAD (R336): OBJ and the command's own body, whole, as its layout has it. -/
def inForce (op : Nat) (q : Request) (b : List Byte) (s : State) : List Byte :=
  leBytes 4 (objOf q) ++ bytesAt (liveBody op q b s) 4 (defaultBody op q s).length

/-- The reading form of an R command (R336): the body in force, or the defaults. -/
def readR (op : Nat) (q : Request) (s : State) : State × Reply :=
  let tab := s.tx[reqCarrier q].predist.flatMap (leBytes 1)
  if op = 0x0411 ∧ q.slot.isNone then (s, refuse stBadEntry)
  else match bodyOf s op (objOf q) with
  | some b => (s, okBulk (inForce op q b.body s) (if op = 0x0411 then tab else b.bulk))
  | none => (s, okBulk (inForce op q (leBytes 4 0 ++ defaultBody op q s) s) (if op = 0x0411 then tab else []))

/-- READING_FORM (R336): the opcode has bit 7 set over a P or R command. -/
def readForm (op : Nat) (q : Request) (s : State) : State × Reply :=
  match readingOf op with
  | some c => if c.form = .p then readP c.op q s else readR c.op q s
  | none => (s, refuse stBadOpcode)

def execReadingForm (op : Nat) (q : Request) (s : State) : Out := .next (deskRun op (readForm op) q s)

/-- An opcode with what its row does with a request. -/
abbrev HeldRow : Type := Nat × (Request → HeldExtra → State → Out)

/-- Held commands of chapters 1 to 7: the row that each runs. -/
def heldLine : List HeldRow :=
  [ (0x0102, fun q _ s => execDeviceProvision q s),
    (0x0201, fun q _ s => execCarrierProvision q s),
    (0x0202, fun q _ s => execCarrierEnable q s),
    (0x0203, fun q _ s => execCarrierDisable q s),
    (0x0210, fun q _ s => execConvCalibrate q s),
    (0x0211, fun q _ s => execConvRotationSet q s),
    (0x0212, fun q _ s => execConvSliceRetire q s),
    (0x0301, fun q _ s => execRxdspSet q s),
    (0x0302, fun q _ s => execRxdspCdHint q s),
    (0x0303, fun q _ s => execRxdspReacquire q s),
    (0x0401, fun q _ s => execBitloadPolicySet q s),
    (0x0402, fun q _ s => execBitloadTableSet q s),
    (0x0403, fun q _ s => execBitloadCurveSet q s),
    (0x0410, fun q _ s => execTxdspSet q s),
    (0x0411, fun q _ s => execTxdspPredistSet q s),
    (0x0501, fun q _ s => execDecodeSet q s),
    (0x0503, fun q _ s => execDecodePoolRemove q s),
    (0x0504, fun q x s => execDecodePoolRestore q x.failedReaders s),
    (0x0505, fun q x s => execDecodeReaderEnable q x.readerFailed s),
    (0x0601, fun q _ s => execInterloanSet q s),
    (0x0602, fun q _ s => execInterloanScheduleSet q s),
    (0x0603, fun q _ s => execInterloanSend q s),
    (0x0604, fun q _ s => execInterloanRecv q s),
    (0x0710, fun q _ s => execCryptSet q s),
    (0x0711, fun q _ s => execCryptPeerSet q s),
    (0x0712, fun q _ s => execCryptRekey q s) ]

/-- Held commands of chapters 8 to 0xB. -/
def heldClient : List HeldRow :=
  [ (0x0801, fun q _ s => execFramerProvision q s),
    (0x0802, fun q _ s => execFramerDeprovision q s),
    (0x0803, fun q _ s => execFramerSet q s),
    (0x0804, fun q _ s => execFramerOhSet q s),
    (0x0806, fun q _ s => execFramerMaintSet q s),
    (0x0901, fun q _ s => execMapTribAdd q s),
    (0x0902, fun q _ s => execMapTribRemove q s),
    (0x0910, fun q _ s => execSwitchConnect q s),
    (0x0911, fun q _ s => execSwitchDisconnect q s),
    (0x0920, fun q _ s => execProtProvision q s),
    (0x0921, fun q _ s => execProtCommand q s),
    (0x0922, fun q _ s => execProtRealign q s),
    (0x0A01, fun q _ s => execStacksInit q s),
    (0x0A02, fun q _ s => execStacksSet q s),
    (0x0A03, fun q _ s => execStacksRetire q s),
    (0x0A06, fun q _ s => execStacksTrackerClear q s),
    (0x0A08, fun q _ s => execStacksWordRead q s),
    (0x0B01, fun q _ s => execTimeProvision q s),
    (0x0B02, fun q _ s => execTimeRefTableSet q s),
    (0x0B03, fun q _ s => execTimeRefCommand q s),
    (0x0B04, fun q _ s => execTimeLoCompSet q s),
    (0x0B05, fun q _ s => execTimeLoLearn q s),
    (0x0B06, fun q _ s => execTimeSourceSet q s),
    (0x0B07, fun q _ s => execTimeSet q s),
    (0x0B08, fun q _ s => execTimeAdjust q s),
    (0x0B09, fun q _ s => execTimeLinkSet q s),
    (0x0B0A, fun q _ s => execTimePpsSet q s),
    (0x0B0B, fun q x s => execTimeTest q x.fault s),
    (0x0B10, fun q _ s => execPtpTcSet q s) ]

/-- Held commands of chapters 0xC to 0x12. -/
def heldHouse : List HeldRow :=
  [ (0x0C01, fun q _ s => execLaneProvision q s),
    (0x0C02, fun q _ s => execLaneDeprovision q s),
    (0x0C03, fun q _ s => execLaneSet q s),
    (0x0C04, fun q x s => execLaneTestSet q x.seen s),
    (0x0C05, fun q _ s => execLaneLoopbackSet q s),
    (0x0C06, fun q _ s => execLaneMateRetrain q s),
    (0x0D10, fun q _ s => execCensusTake q s),
    (0x0D11, fun q _ s => execCensusSet q s),
    (0x0E01, fun q _ s => execPowerDeviceSet q s),
    (0x0E02, fun q _ s => execPowerDomainSet q s),
    (0x0E03, fun q _ s => execPowerWakeSet q s),
    (0x0F01, fun q _ s => execMonRefSet q s),
    (0x0F02, fun q _ s => execMonChannelSet q s),
    (0x0F03, fun q _ s => execMonRead q s),
    (0x0F20, fun q _ s => execPmbusRailSet q s),
    (0x0F30, fun q _ s => execGpioSet q s),
    (0x1002, fun q _ s => execSecAttest q s),
    (0x1010, fun q _ s => execFwLoad q s),
    (0x1011, fun q _ s => execFwActivate q s),
    (0x1012, fun q _ s => execFwCommit q s),
    (0x1022, fun q _ s => execCatalogueReset q s),
    (0x1201, fun q _ s => execMateProvision q s),
    (0x1202, fun q x s => execMateCommand q x.mateDenies s) ]

/-- HOLD_RELEASE (R322): a held request of a channel runs as its own row does, if what held it has ended; `x` holds the operands
that the row takes beside its request. -/
def holdRelease (ch : Fin 4) (tag : Word16) (x : HeldExtra) (s : State) : Out :=
  match (s.chan ch).find tag with
  | none => .next s
  | some o =>
    if o.phase = .held then
      match (heldLine ++ heldClient ++ heldHouse).find? fun r => r.1 == o.op with
      | some r => r.2 o.req x s
      | none => .next s
    else .next s

def execHoldRelease (ch : Fin 4) (tag : Word16) (x : HeldExtra) (s : State) : Out := holdRelease ch tag x s

end Sys2Proof.Machine
end

