-- ==== Sys2Proof/Machine/Pm.lean ====
section
/-! DEFINITION. Seconds and bins of performance monitoring (08_client_framers.md R201, 15_events_census.md R381 to R383). -/

namespace Sys2Proof.Machine

/-- The entity of a framer's layer and slice (R378): OBJ, layer, TPN. -/
def pmKey (i : FramerId) (l sl : Nat) : Nat × Nat × Nat :=
  match i with
  | .bond b => (objBond b.val, l, 0)
  | .odum c g => (objOdum c.val g.val (sl + 1), l, 0)
  | .trib k n g t => (if k = 0 then objGroup n g else objBond n, l, t)

/-- A closed second enters its entity's pipe, and behind it the seconds that a forward step passed over (R201, R257). -/
def pmSecond (key : Nat × Nat × Nat) (ne fe b : Nat) (ned fed : Bool) (s : State) : State :=
  onCen (fun c => { c with pm := c.pm.map fun x =>
    if (x.ob, x.layer, x.tpn) == key then
      { x with pipe := x.pipe ++ [.second ne fe b ned fed] ++ (if x.owed = 0 then [] else [.clean x.owed]), owed := 0 }
    else x }) s

/-- The results of every entity of a framer for the second that ends, with B blocks in it (R201, R381). -/
def pmResults (i : FramerId) (f : Framer) (b : Nat) (s : State) : State :=
  match i with
  | .bond n =>
    if isEth f then pmSecond (objBond n.val, 0xFF, 0) (f.rsUncorr - f.rsMark) 0 b f.neDefect f.feDefect s
    else (monitoredLayers true f).foldl (fun s l =>
      let r := f.second l
      pmSecond (pmKey i l 0) r.1 r.2.1 b r.2.2.1 r.2.2.2 s) s
  | .odum _ _ =>
    (List.range f.slices.length).foldl (fun s sl => (monitoredLayers false f).foldl (fun s l =>
      let r := Framer.second { f with slices := (f.slices.drop sl).take 1 } l
      pmSecond (pmKey i l sl) r.1 r.2.1 b r.2.2.1 r.2.2.2 s) s) s
  | .trib _ _ _ _ =>
    let r := f.second 1
    pmSecond (pmKey i 1 0) r.1 r.2.1 b r.2.2.1 r.2.2.2 s

/-- PM_SECOND_CLOSE (R201, R221, R227): a bond, a line ODUCm or a tributary hands over its second of `b` blocks and begins the
next; `rs` is what an Ethernet bond's RS decoder found in it. -/
def pmSecondClose (i : FramerId) (b : Nat) (rs : RsSeen) (s : State) : State :=
  match s.framer i with
  | none => s
  | some old =>
    let f := if isEth old then old.rsCount rs else old
    let s1 := onFramer i (fun _ => f.nextSecond) (pmResults i f b s)
    match i with
    | .odum c g => protSecond c g s1
    | _ => s1

def execPmSecondClose (fid : FramerId) (b : Nat) (rs : RsSeen) (s : State) : Out := .next (pmSecondClose fid b rs s)

/-- PM_SECOND_DECIDE (R382): the oldest second of each entity of a framer is decided. -/
def pmSecondDecide (i : FramerId) (s : State) : State :=
  let ob := (pmKey i 1 0).1 % 0x1000000
  let tpn := (pmKey i 1 0).2.2
  onCen (fun c => { c with pm := c.pm.map fun x => if x.ob % 0x1000000 = ob ∧ x.tpn = tpn then x.decide else x }) s

def execPmSecondDecide (fid : FramerId) (s : State) : Out := .next (pmSecondDecide fid s)

/-- PM_BIN_BOUNDARY (R383): at a second at which SEC less the offset is a multiple of 900, or of 86,400, the bins shift. -/
def pmBinBoundary (day : Bool) (s : State) : State :=
  if ((s.stamp.sec : Int) - s.time.binOffset) % (if day then 86400 else 900) = 0 then pmShift day s else s

def execPmBinBoundary (day : Bool) (s : State) : Out := .next (pmBinBoundary day s)

end Sys2Proof.Machine
end

