-- ==== Sys2Proof/Machine/Registers.lean ====
section
/-! DEFINITION. The register map of BAR0 and of the SPI target, register writes, SPI frames and the test access port (00_scope.md R8
to R10; 13_curator_desk.md R308, R328, R329; 15_events_census.md R368, R369, R380; 10_stacks.md R251; 18_boot_security.md R434;
21_pins_electrical.md R505, R507, R509; 22_reset_bringup.md R510, R511). -/

namespace Sys2Proof.Machine

/-- The Desk channel whose register block, or whose window, holds an offset (R308). -/
def blockChan (off : Nat) : Option (Fin 4) :=
  if h : 0x2100 ≤ off ∧ off < 0x2500 then some ⟨(off - 0x2100) / 0x100, by omega⟩ else none
def windowChan (off : Nat) : Option (Fin 4) :=
  if h : 0x40000 ≤ off ∧ off < 0xE0000 then some ⟨(off - 0x40000) / 0x28000, by omega⟩ else none

/-- Is an offset live through a path (R308)? The MATE channel's block and window are reached only through the mate link. -/
def regLive (s : State) (p : Path) (off : Nat) : Bool :=
  match blockChan off, windowChan off with
  | some c, _ => chanLive s p c
  | none, some c => chanLive s p c
  | none, none =>
    pathServed s p && p != .mate &&
      (off < 0x1C || off == 0x2000 || (0x3000 ≤ off && off < 0x3500) || (0x3800 ≤ off && off < 0x380C)
        || (p == .bar0 && ((0x5000 ≤ off && off < 0x5200) || off == 0x5800 || (0x6000 ≤ off && off < 0x6010))))

/-- The Reserved bits of a register (R10): of the tables of R328, R329, R369, R380, R251, R434 and R511. -/
def regReserved (off : Nat) : Nat :=
  match blockChan off with
  | some _ =>
    let r := off % 0x100
    if r = 0x10 then 0xFFFFFFFC else if r = 0x14 then 0xFFC0FFF0 else if r < 0x1C then 0xFFFF0000 else 0
  | none =>
    if off = 0x10 then 0x000F0000 else if off = 0x14 then 0xFFFFFF00 else if off = 0x2000 then 0x00FFFFF8
    else if off = 0x3000 ∨ off = 0x3004 then 0xFFFF0000 else if off = 0x3008 then 0xFFFFFFFC
    else if 0x3100 ≤ off ∧ off < 0x3500 ∧ off % 0x40 = 0x0C then 0xFFFFFFFF
    else if off = 0x3800 then 0xFFFFFFFC else if off = 0x3804 then 0x0000FFC0 else if off = 0x3808 then 0xFFC00000
    else if off = 0x6000 then 0xFFFFF800 else if off = 0x6004 then 0xFFFFFFFC else if off = 0x6008 then 0xFFFFFFF8
    else 0

/-- BOOT_STATUS and BOOT_RESET_CAUSE as read (R434, R511). -/
def bootStatus (s : State) : Nat :=
  let b := s.boot
  b.stage * 2 ^ 28 + b.errA * 2 ^ 24 + b.errB * 2 ^ 20 + b.counter * 2 ^ 8 + 128 * b2n (charterLocked s) + 64 * b2n b.fallback
    + 32 * b2n b.trial + 16 * b2n s.dev.imageB + 8 * b2n s.cat.slot.isSome + 4 * b2n b.catRecovered + 2 * b2n b.bcfgValid + b2n b.done

/-- The boot registers as read (R434, R511); BOOT_RESET is write-only. -/
def bootRead (s : State) (off : Nat) : Nat :=
  if off = 0x00 then 0x6448B100 + orderCode
  else if off = 0x04 then s.boot.fw
  else if off = 0x08 then Config.serial.toNat % 2 ^ 32
  else if off = 0x0C then Config.serial.toNat / 2 ^ 32
  else if off = 0x10 then bootStatus s
  else if off = 0x14 then s.boot.cause
  else 0

/-- The event registers as read (R369). -/
def evtRead (s : State) (off : Nat) : Nat :=
  let e := s.evt
  if off = 0x3000 then e.summary
  else if off = 0x3004 then e.logSeq.toNat
  else if off = 0x3008 then b2n e.irq0En + 2 * b2n e.irq1En
  else if 0x3100 ≤ off then
    let g := (off - 0x3100) / 0x40
    let r := off % 0x40
    if r = 0x00 then e.statusOf g else if r = 0x04 then e.enOf g
    else if 0x10 ≤ r ∧ r < 0x30 then e.readRoute g ((r - 0x10) / 4) else 0
  else 0

/-- The MSI-X table and pending bits as read (R368, in the formats of the PCIe 4.0 base specification). -/
def msixRead (s : State) (off : Nat) : Nat :=
  if off = 0x5800 then s.evt.pba.toNat
  else
    let m := getNat {} s.evt.msix ((off - 0x5000) / 16)
    let r := off % 16
    if r = 0 then m.addrLo.toNat else if r = 4 then m.addrHi.toNat else if r = 8 then m.data.toNat else b2n m.mask

/-- The aperture registers as read (R251). -/
def apRead (s : State) (off : Nat) : Nat :=
  let a := s.ap
  if off = 0x6000 then a.window
  else if off = 0x6004 then b2n a.en + 2 * b2n a.epEn
  else if off = 0x6008 then b2n a.denied + 2 * b2n a.retired + 4 * b2n a.poison
  else a.lastWord % 2 ^ 31 + 2 ^ 31 * b2n a.lastWrite

/-- A register as read through a path (R9, R308): 0 where it is not live. -/
def regRead (p : Path) (off : Nat) (s : State) : Nat :=
  if !regLive s p off then 0
  else
    match blockChan off, windowChan off with
    | some c, _ => chanRead (s.chan c) (off % 0x100)
    | none, some c => leNat (cellGetList (off - 0x40000 - 0x28000 * c.val) 4 (s.chan c).win)
    | none, none =>
      if off < 0x1C then bootRead s off
      else if off = 0x2000 then deskStatus s
      else if off < 0x3500 then evtRead s off
      else if off = 0x3800 then censusCtrl s
      else if off = 0x3804 then censusStatus s
      else if off = 0x3808 then censusMap s
      else if off < 0x6000 then msixRead s off
      else apRead s off

/-- A write into a channel's block (R329): the doorbells, the head, the control and status registers. -/
def blockWrite (p : Path) (c : Fin 4) (r : Nat) (v : Word32) (s : State) : Out :=
  if r = 0x00 then execDeskReqTailWrite p c v s
  else if r = 0x0C then execDeskRspHeadWrite p c v s
  else if r = 0x10 then execDeskChReset p c v s
  else if r = 0x14 then chStatusWrite c v s
  else .next s

/-- A write to an event register (R369). -/
def evtWrite (p : Path) (off : Nat) (v : Word32) (s : State) : Out :=
  if off = 0x3008 then .next { s with evt := { s.evt with irq0En := v.getLsbD 0, irq1En := v.getLsbD 1 } }
  else if h : 0x3100 ≤ off ∧ off < 0x3500 then
    let g : Fin 16 := ⟨(off - 0x3100) / 0x40, by omega⟩
    let r := off % 0x40
    if r = 0x00 then execEvtStatusWrite p g v [] s
    else if r = 0x04 then execEvtEnWrite p g v s
    else if r = 0x08 then execEvtForceWrite p g v s
    else if 0x10 ≤ r ∧ r < 0x30 then .next { s with evt := s.evt.writeRoute g.val ((r - 0x10) / 4) v }
    else .next s
  else .next s

/-- A write to a Census register (R380): HOLD and TAKE, SKIPPED, INDEX. -/
def censusWrite (off : Nat) (v : Word32) (s : State) : State :=
  if off = 0x3800 then
    let s1 := holdWrite (v.getLsbD 1) s
    if v.getLsbD 0 then takeRegister s1 else s1
  else if off = 0x3804 then onCen (fun c => { c with skippedBit := c.skippedBit && !v.getLsbD 5 }) s
  else onCen (fun c => { c with mapIndex := min (field v.toNat 16 6) 39 }) s

/-- A write into the MSI-X table (R368): a mask bit that clears acts as R368 gives; the pending bits are read-only. -/
def msixWrite (off : Nat) (v : Word32) (s : State) : State :=
  if off = 0x5800 then s
  else
    let r := off % 16
    let e := { s.evt with msix := updNat s.evt.msix ((off - 0x5000) / 16) fun m =>
      if r = 0 then { m with addrLo := v } else if r = 4 then { m with addrHi := v } else if r = 8 then { m with data := v }
      else { m with mask := v.getLsbD 0 } }
    { s with evt := s.evt.unmasked e }

/-- A write to an aperture register (R251). -/
def apWrite (off : Nat) (v : Word32) (s : State) : State :=
  let a := s.ap
  if off = 0x6000 then { s with ap := { a with window := v.toNat % 2048 } }
  else if off = 0x6004 then { s with ap := { a with en := v.getLsbD 0, epEn := v.getLsbD 1 } }
  else if off = 0x6008 then
    { s with ap := { a with
      denied := a.denied && !v.getLsbD 0, retired := a.retired && !v.getLsbD 1, poison := a.poison && !v.getLsbD 2 } }
  else s

/-- Put a word into a channel's window. -/
def windowWrite (c : Fin 4) (off : Nat) (v : Word32) (s : State) : State :=
  onChan c (fun x => { x with win := cellPutList (some 0) (off - 0x40000 - 0x28000 * c.val) (leBytes 4 v.toNat) x.win }) s

/-- A 32-bit write through a path (R9, R10, R308): nothing where the register is not live; a Reserved bit written 1 is undefined; a
register with behaviour of its own behaves as its own row gives. -/
def regWrite (p : Path) (off : Nat) (v : Word32) (s : State) : Out :=
  if !regLive s p off then .next s
  else if Nat.land v.toNat (regReserved off) ≠ 0 then .fault .reservedFieldWritten
  else
    match blockChan off, windowChan off with
    | some c, _ => blockWrite p c (off % 0x100) v s
    | none, some c => .next (windowWrite c off v s)
    | none, none =>
      if off = 0x18 then execBootResetWrite p v s
      else if off < 0x3000 then .next s
      else if off < 0x3500 then evtWrite p off v s
      else if off < 0x5000 then .next (censusWrite off v s)
      else if off < 0x6000 then .next (msixWrite off v s)
      else .next (apWrite off v s)

/-- REGISTER_WRITE (R9, R507): word `w` of the 1 MiB map, at byte offset 4w. -/
def execRegisterWrite (p : Path) (w : Fin 262144) (v : Word32) (s : State) : Out := regWrite p (4 * w.val) v s

/-- Address bits [1:0] and [23:20] of an SPI frame are 0 (R505). -/
def spiAddrOk (a : BitVec 24) : Bool := a.toNat % 4 == 0 && a.toNat < 2 ^ 20

/-- End an SPI frame: FRAME_ERR for the next STATUS frame, and what the target drove. -/
def spiEnd (err : Bool) (out : List Byte) (s : State) : State := { s with pins := { s.pins with frameErr := err, spiOut := out } }

/-- The whole words of a write frame, in the order of R8, the address advancing by 4 (R505). -/
def spiWords : Nat → Nat → List Byte → State → Out
  | 0, _, _, s => .next s
  | n + 1, off, bs, s =>
    match regWrite .spi off (BitVec.ofNat 32 (natAt bs 0 4)) s with
    | .next t => spiWords n (off + 4) (bs.drop 4) t
    | .fault f => .fault f
    | .refused r => .refused r

/-- A write frame with its data bytes (R505); a partial word at its end is discarded with FRAME_ERR. -/
def spiWrite (a : BitVec 24) (data : List Byte) (s : State) : Out :=
  if !coreUp s then .next s
  else if !spiAddrOk a then .next (spiEnd true [] s)
  else
    match spiWords (data.length / 4) a.toNat data s with
    | .next t => .next (spiEnd (data.length % 4 != 0) [] t)
    | .fault f => .fault f
    | .refused r => .refused r

/-- A read frame of `n` data bytes (R505): whole words of the map, cut where the frame ends. -/
def spiRead (a : BitVec 24) (n : Nat) (s : State) : State :=
  if !coreUp s then s
  else if !spiAddrOk a then spiEnd true [] s
  else spiEnd false (((List.range (ceilDiv n 4)).flatMap fun k => leBytes 4 (regRead .spi (a.toNat + 4 * k) s)).take n) s

/-- SPI_WRITE, SPI_QWRITE, SPI_READ, SPI_QREAD (R505, R507): the quad forms differ only in how bytes travel. -/
def execSpiWrite (a : BitVec 24) (data : List Byte) (s : State) : Out := spiWrite a data s
def execSpiQwrite (a : BitVec 24) (data : List Byte) (s : State) : Out := spiWrite a data s
def execSpiRead (a : BitVec 24) (n : Nat) (s : State) : Out := .next (spiRead a n s)
def execSpiQread (a : BitVec 24) (n : Nat) (s : State) : Out := .next (spiRead a n s)

/-- SPI_STATUS (R505): READY, RESTARTING and FRAME_ERR of the frame before; this frame is itself served without fault. -/
def execSpiStatus (s : State) : Out :=
  .next (if coreUp s then spiEnd false (leBytes 1 (b2n s.desk.ready + 2 * b2n s.desk.restarting + 4 * b2n s.pins.frameErr)) s else s)

/-- SPI_BAD_FRAME (R505): refused, or ended before command and address: nothing but FRAME_ERR. -/
def execSpiBadFrame (s : State) : Out := .next (if coreUp s then spiEnd true [] s else s)

/-- The next state of the test access port by TMS (IEEE 1149.1, R509). -/
def Tap.next : Tap → Bool → Tap
  | .tlr, t => if t then .tlr else .rti
  | .rti, t => if t then .selDr else .rti
  | .selDr, t => if t then .selIr else .capDr
  | .capDr, t => if t then .ex1Dr else .shDr
  | .shDr, t => if t then .ex1Dr else .shDr
  | .ex1Dr, t => if t then .updDr else .pauDr
  | .pauDr, t => if t then .ex2Dr else .pauDr
  | .ex2Dr, t => if t then .updDr else .shDr
  | .updDr, t => if t then .selDr else .rti
  | .selIr, t => if t then .tlr else .capIr
  | .capIr, t => if t then .ex1Ir else .shIr
  | .shIr, t => if t then .ex1Ir else .shIr
  | .ex1Ir, t => if t then .updIr else .pauIr
  | .pauIr, t => if t then .ex2Ir else .pauIr
  | .ex2Ir, t => if t then .updIr else .shIr
  | .updIr, t => if t then .selDr else .rti

/-- IDCODE (R509). -/
def idcode : Nat := 0x1644855B

/-- Does an instruction put the boundary register between TDI and TDO? -/
def boundarySel : TapIns → Bool
  | .sample => true | .extest => true | .extestPulse => true | .extestTrain => true
  | .bypass => false | .idcode => false | .highz => false | .clamp => false

/-- The bits of a number, lowest first. -/
def bitsOf (n v : Nat) : List Bool := (List.range n).map fun i => bit v i

/-- What Capture-DR loads: the identity, a 0 for the bypass register, or what the boundary cells see. -/
def tapCapture (s : State) : List Bool :=
  if s.pins.ins = .idcode then bitsOf 32 idcode
  else if boundarySel s.pins.ins then (List.range Config.boundaryCells).map (Config.boundarySample s.free)
  else [false]

/-- The instruction of a code: all ones is BYPASS (IEEE 1149.1); the others are open (log 55). -/
def tapDecode (l : List Bool) : TapIns := if l.all id then .bypass else Config.tapIns (l.foldr (fun b a => 2 * a + b2n b) 0)

/-- A rising edge of TCK: capture or shift in the state that it leaves, then the next state. -/
def tapRise (tms tdi : Bool) (s : State) : State :=
  let p := s.pins
  let t := p.tap.next tms
  let p1 : Pins :=
    match p.tap with
    | .capDr => { p with drShift := tapCapture s }
    | .shDr => { p with drShift := p.drShift.drop 1 ++ [tdi] }
    | .capIr => { p with irShift := (List.range Config.irLength).map fun i => if i = 0 then true else if i = 1 then false else Config.irCapture i }
    | .shIr => { p with irShift := p.irShift.drop 1 ++ [tdi] }
    | _ => p
  let s1 := if p.tap = .capDr then s.drawn else s
  { s1 with pins := { p1 with tap := t, ins := if t = .tlr then .idcode else p1.ins } }

/-- A falling edge of TCK: the updates, and TDO. -/
def tapFall (s : State) : State :=
  let p := s.pins
  { s with pins := { p with
    ins := if p.tap = .updIr then tapDecode p.irShift else p.ins
    boundary := if p.tap = .updDr && boundarySel p.ins then p.drShift else p.boundary
    tdo := if p.tap = .shDr then p.drShift.head? else if p.tap = .shIr then p.irShift.head? else none } }

/-- Does the port work (R509: in RUN and SLEEP)? RESET_N does not stop it. -/
def tapUp (s : State) : Bool := s.pwr.st != .deepSleep && s.pwr.st != .off

/-- TCK_EDGE (R509). -/
def execTckEdge (rising tms tdi : Bool) (s : State) : Out :=
  .next (if tapUp s then if rising then tapRise tms tdi s else tapFall s else s)

/-- TRST_N_ASSERT (R509, R510): the port alone returns to Test-Logic-Reset. -/
def execTrstNAssert (s : State) : Out :=
  .next { s with pins := { s.pins with tap := .tlr, ins := .idcode, tdo := none } }

end Sys2Proof.Machine
end

