-- ==== Sys2Proof/Machine/Dispatch.lean ====
section
/-! DEFINITION. One arm per command: a direct call of its meaning. -/

namespace Sys2Proof.Machine

/-- The effect of a command on everything but the queue. -/
def exec (i : Instr) (s : State) : Host.Outcome State Fault Refusal :=
  match i with
  | .deviceInfo q => Sys2Proof.Machine.execDeviceInfo q s
  | .deviceProvision q => Sys2Proof.Machine.execDeviceProvision q s
  | .eventLogGet q => Sys2Proof.Machine.execEventLogGet q s
  | .censusTake q => Sys2Proof.Machine.execCensusTake q s
  | .censusSet q => Sys2Proof.Machine.execCensusSet q s
  | .censusStatus q => Sys2Proof.Machine.execCensusStatus q s
  | .carrierProvision q => Sys2Proof.Machine.execCarrierProvision q s
  | .carrierEnable q => Sys2Proof.Machine.execCarrierEnable q s
  | .carrierDisable q => Sys2Proof.Machine.execCarrierDisable q s
  | .convCalibrate q => Sys2Proof.Machine.execConvCalibrate q s
  | .convRotationSet q => Sys2Proof.Machine.execConvRotationSet q s
  | .convSliceRetire q => Sys2Proof.Machine.execConvSliceRetire q s
  | .convStatus q => Sys2Proof.Machine.execConvStatus q s
  | .rxdspSet q => Sys2Proof.Machine.execRxdspSet q s
  | .rxdspCdHint q => Sys2Proof.Machine.execRxdspCdHint q s
  | .rxdspReacquire q => Sys2Proof.Machine.execRxdspReacquire q s
  | .rxdspStatus q => Sys2Proof.Machine.execRxdspStatus q s
  | .bitloadPolicySet q => Sys2Proof.Machine.execBitloadPolicySet q s
  | .bitloadTableSet q => Sys2Proof.Machine.execBitloadTableSet q s
  | .bitloadCurveSet q => Sys2Proof.Machine.execBitloadCurveSet q s
  | .bitloadStatus q => Sys2Proof.Machine.execBitloadStatus q s
  | .txdspSet q => Sys2Proof.Machine.execTxdspSet q s
  | .txdspPredistSet q => Sys2Proof.Machine.execTxdspPredistSet q s
  | .txdspStatus q => Sys2Proof.Machine.execTxdspStatus q s
  | .decodeSet q => Sys2Proof.Machine.execDecodeSet q s
  | .decodeStatus q => Sys2Proof.Machine.execDecodeStatus q s
  | .decodePoolRemove q => Sys2Proof.Machine.execDecodePoolRemove q s
  | .decodePoolRestore q failed => Sys2Proof.Machine.execDecodePoolRestore q failed s
  | .decodeReaderEnable q failed => Sys2Proof.Machine.execDecodeReaderEnable q failed s
  | .interloanSet q => Sys2Proof.Machine.execInterloanSet q s
  | .interloanScheduleSet q => Sys2Proof.Machine.execInterloanScheduleSet q s
  | .interloanSend q => Sys2Proof.Machine.execInterloanSend q s
  | .interloanRecv q => Sys2Proof.Machine.execInterloanRecv q s
  | .interloanStatus q => Sys2Proof.Machine.execInterloanStatus q s
  | .frameStatus q => Sys2Proof.Machine.execFrameStatus q s
  | .cryptSet q => Sys2Proof.Machine.execCryptSet q s
  | .cryptPeerSet q => Sys2Proof.Machine.execCryptPeerSet q s
  | .cryptRekey q => Sys2Proof.Machine.execCryptRekey q s
  | .cryptStatus q => Sys2Proof.Machine.execCryptStatus q s
  | .framerProvision q => Sys2Proof.Machine.execFramerProvision q s
  | .framerDeprovision q => Sys2Proof.Machine.execFramerDeprovision q s
  | .framerSet q => Sys2Proof.Machine.execFramerSet q s
  | .framerOhSet q => Sys2Proof.Machine.execFramerOhSet q s
  | .framerOhGet q => Sys2Proof.Machine.execFramerOhGet q s
  | .framerMaintSet q => Sys2Proof.Machine.execFramerMaintSet q s
  | .framerStatus q => Sys2Proof.Machine.execFramerStatus q s
  | .mapTribAdd q => Sys2Proof.Machine.execMapTribAdd q s
  | .mapTribRemove q => Sys2Proof.Machine.execMapTribRemove q s
  | .mapStatus q => Sys2Proof.Machine.execMapStatus q s
  | .switchConnect q => Sys2Proof.Machine.execSwitchConnect q s
  | .switchDisconnect q => Sys2Proof.Machine.execSwitchDisconnect q s
  | .protProvision q => Sys2Proof.Machine.execProtProvision q s
  | .protCommand q => Sys2Proof.Machine.execProtCommand q s
  | .protRealign q => Sys2Proof.Machine.execProtRealign q s
  | .protStatus q => Sys2Proof.Machine.execProtStatus q s
  | .stacksInit q => Sys2Proof.Machine.execStacksInit q s
  | .stacksSet q => Sys2Proof.Machine.execStacksSet q s
  | .stacksRetire q => Sys2Proof.Machine.execStacksRetire q s
  | .stacksStatus q => Sys2Proof.Machine.execStacksStatus q s
  | .stacksTrackerGet q => Sys2Proof.Machine.execStacksTrackerGet q s
  | .stacksTrackerClear q => Sys2Proof.Machine.execStacksTrackerClear q s
  | .stacksAccessionGet q => Sys2Proof.Machine.execStacksAccessionGet q s
  | .stacksWordRead q => Sys2Proof.Machine.execStacksWordRead q s
  | .timeProvision q => Sys2Proof.Machine.execTimeProvision q s
  | .timeRefTableSet q => Sys2Proof.Machine.execTimeRefTableSet q s
  | .timeRefCommand q => Sys2Proof.Machine.execTimeRefCommand q s
  | .timeLoCompSet q => Sys2Proof.Machine.execTimeLoCompSet q s
  | .timeLoLearn q => Sys2Proof.Machine.execTimeLoLearn q s
  | .timeSourceSet q => Sys2Proof.Machine.execTimeSourceSet q s
  | .timeSet q => Sys2Proof.Machine.execTimeSet q s
  | .timeAdjust q => Sys2Proof.Machine.execTimeAdjust q s
  | .timeLinkSet q => Sys2Proof.Machine.execTimeLinkSet q s
  | .timePpsSet q => Sys2Proof.Machine.execTimePpsSet q s
  | .timeTest q fault => Sys2Proof.Machine.execTimeTest q fault s
  | .timeStatus q => Sys2Proof.Machine.execTimeStatus q s
  | .ptpTcSet q => Sys2Proof.Machine.execPtpTcSet q s
  | .laneProvision q => Sys2Proof.Machine.execLaneProvision q s
  | .laneDeprovision q => Sys2Proof.Machine.execLaneDeprovision q s
  | .laneSet q => Sys2Proof.Machine.execLaneSet q s
  | .laneTestSet q seen => Sys2Proof.Machine.execLaneTestSet q seen s
  | .laneLoopbackSet q => Sys2Proof.Machine.execLaneLoopbackSet q s
  | .laneMateRetrain q => Sys2Proof.Machine.execLaneMateRetrain q s
  | .laneStatus q seen => Sys2Proof.Machine.execLaneStatus q seen s
  | .powerDeviceSet q => Sys2Proof.Machine.execPowerDeviceSet q s
  | .powerDomainSet q => Sys2Proof.Machine.execPowerDomainSet q s
  | .powerWakeSet q => Sys2Proof.Machine.execPowerWakeSet q s
  | .powerStatus q => Sys2Proof.Machine.execPowerStatus q s
  | .monRefSet q => Sys2Proof.Machine.execMonRefSet q s
  | .monChannelSet q => Sys2Proof.Machine.execMonChannelSet q s
  | .monRead q => Sys2Proof.Machine.execMonRead q s
  | .monStatus q => Sys2Proof.Machine.execMonStatus q s
  | .thermalStatus q => Sys2Proof.Machine.execThermalStatus q s
  | .pmbusRailSet q => Sys2Proof.Machine.execPmbusRailSet q s
  | .pmbusStatus q => Sys2Proof.Machine.execPmbusStatus q s
  | .gpioSet q => Sys2Proof.Machine.execGpioSet q s
  | .gpioGet q pins => Sys2Proof.Machine.execGpioGet q pins s
  | .secIdentityGet q => Sys2Proof.Machine.execSecIdentityGet q s
  | .secAttest q => Sys2Proof.Machine.execSecAttest q s
  | .secCharterGet q => Sys2Proof.Machine.execSecCharterGet q s
  | .fwLoad q => Sys2Proof.Machine.execFwLoad q s
  | .fwActivate q => Sys2Proof.Machine.execFwActivate q s
  | .fwCommit q => Sys2Proof.Machine.execFwCommit q s
  | .fwStatus q => Sys2Proof.Machine.execFwStatus q s
  | .catalogueStatus q => Sys2Proof.Machine.execCatalogueStatus q s
  | .catalogueRead q => Sys2Proof.Machine.execCatalogueRead q s
  | .catalogueReset q => Sys2Proof.Machine.execCatalogueReset q s
  | .safetyTxenSet q => Sys2Proof.Machine.execSafetyTxenSet q s
  | .safetyStatus q => Sys2Proof.Machine.execSafetyStatus q s
  | .safetyProofTest q failed => Sys2Proof.Machine.execSafetyProofTest q failed s
  | .mateProvision q => Sys2Proof.Machine.execMateProvision q s
  | .mateCommand q mateDenies => Sys2Proof.Machine.execMateCommand q mateDenies s
  | .mateStatus q => Sys2Proof.Machine.execMateStatus q s
  | .readingForm op q => Sys2Proof.Machine.execReadingForm op q s
  | .deskReqTailWrite p ch v => Sys2Proof.Machine.execDeskReqTailWrite p ch v s
  | .requestAccept ch => Sys2Proof.Machine.execRequestAccept ch s
  | .holdRelease ch tag x => Sys2Proof.Machine.execHoldRelease ch tag x s
  | .holdLimitExpiry ch tag => Sys2Proof.Machine.execHoldLimitExpiry ch tag s
  | .functionReplyTimeout ch tag => Sys2Proof.Machine.execFunctionReplyTimeout ch tag s
  | .responseWrite ch => Sys2Proof.Machine.execResponseWrite ch s
  | .deskRspHeadWrite p ch v => Sys2Proof.Machine.execDeskRspHeadWrite p ch v s
  | .deskChReset p ch v => Sys2Proof.Machine.execDeskChReset p ch v s
  | .channelResetComplete ch => Sys2Proof.Machine.execChannelResetComplete ch s
  | .firmwareRestartReady => Sys2Proof.Machine.execFirmwareRestartReady s
  | .watchdogRestart => Sys2Proof.Machine.execWatchdogRestart s
  | .trialEnd => Sys2Proof.Machine.execTrialEnd s
  | .trialFallback => Sys2Proof.Machine.execTrialFallback s
  | .registerWrite p w v => Sys2Proof.Machine.execRegisterWrite p w v s
  | .evtStatusWrite p g v occ => Sys2Proof.Machine.execEvtStatusWrite p g v occ s
  | .evtEnWrite p g v => Sys2Proof.Machine.execEvtEnWrite p g v s
  | .evtForceWrite p g v => Sys2Proof.Machine.execEvtForceWrite p g v s
  | .msixUnmask w => Sys2Proof.Machine.execMsixUnmask w s
  | .eventOccurrence n ob arg => Sys2Proof.Machine.execEventOccurrence n ob arg s
  | .logRecordTake => Sys2Proof.Machine.execLogRecordTake s
  | .censusTakeRegister p => Sys2Proof.Machine.execCensusTakeRegister p s
  | .censusHoldWrite p b => Sys2Proof.Machine.execCensusHoldWrite p b s
  | .censusPeriodicInstant => Sys2Proof.Machine.execCensusPeriodicInstant s
  | .censusIslandLatch k => Sys2Proof.Machine.execCensusIslandLatch k s
  | .chuteMarkAbsorb k => Sys2Proof.Machine.execChuteMarkAbsorb k s
  | .censusWriteComplete => Sys2Proof.Machine.execCensusWriteComplete s
  | .pmSecondClose fid b rs => Sys2Proof.Machine.execPmSecondClose fid b rs s
  | .pmSecondDecide fid => Sys2Proof.Machine.execPmSecondDecide fid s
  | .pmBinBoundary day => Sys2Proof.Machine.execPmBinBoundary day s
  | .chuteWrite k data errs endMark poison => Sys2Proof.Machine.execChuteWrite k data errs endMark poison s
  | .chuteItemRest k => Sys2Proof.Machine.execChuteItemRest k s
  | .chuteRead k => Sys2Proof.Machine.execChuteRead k s
  | .chuteStall k => Sys2Proof.Machine.execChuteStall k s
  | .convTempUpdate c => Sys2Proof.Machine.execConvTempUpdate c s
  | .measurementRunEnd c k sl r => Sys2Proof.Machine.execMeasurementRunEnd c k sl r s
  | .calibrationGroupEnd c => Sys2Proof.Machine.execCalibrationGroupEnd c s
  | .foregroundCalComplete c => Sys2Proof.Machine.execForegroundCalComplete c s
  | .shadowAgree c k sel => Sys2Proof.Machine.execShadowAgree c k sel s
  | .shadowTimeout c k => Sys2Proof.Machine.execShadowTimeout c k s
  | .sliceMeasurementEnd c k => Sys2Proof.Machine.execSliceMeasurementEnd c k s
  | .rotationGapEnd c k => Sys2Proof.Machine.execRotationGapEnd c k s
  | .faultWindowEnd c k ts => Sys2Proof.Machine.execFaultWindowEnd c k ts s
  | .emergencyAlignComplete c k pos sel => Sys2Proof.Machine.execEmergencyAlignComplete c k pos sel s
  | .folioArrival c g sub pilots ys => Sys2Proof.Machine.execFolioArrival c g sub pilots ys s
  | .losDeclare c => Sys2Proof.Machine.execLosDeclare c s
  | .losClear c => Sys2Proof.Machine.execLosClear c s
  | .frontEndDone c x y => Sys2Proof.Machine.execFrontEndDone c x y s
  | .cdSearchEnd c coarse fine => Sys2Proof.Machine.execCdSearchEnd c coarse fine s
  | .clockLock c g off => Sys2Proof.Machine.execClockLock c g off s
  | .clockLoss c g => Sys2Proof.Machine.execClockLoss c g s
  | .acquisitionTimeout c g => Sys2Proof.Machine.execAcquisitionTimeout c g s
  | .freqAcquired c g off => Sys2Proof.Machine.execFreqAcquired c g off s
  | .freqLoss c g off => Sys2Proof.Machine.execFreqLoss c g off s
  | .trainingFound c g => Sys2Proof.Machine.execTrainingFound c g s
  | .subcarrierLocked c k => Sys2Proof.Machine.execSubcarrierLocked c k s
  | .subcarrierAcqTimeout c k => Sys2Proof.Machine.execSubcarrierAcqTimeout c k s
  | .rxVolumeBoundary c g v => Sys2Proof.Machine.execRxVolumeBoundary c g v s
  | .qualityWindowEnd c g ms => Sys2Proof.Machine.execQualityWindowEnd c g ms s
  | .loadingFieldReceived c g bs => Sys2Proof.Machine.execLoadingFieldReceived c g bs s
  | .loadingCandidateReady c g => Sys2Proof.Machine.execLoadingCandidateReady c g s
  | .loadingIntervalEnd c g => Sys2Proof.Machine.execLoadingIntervalEnd c g s
  | .txFolioBoundary c g sub src => Sys2Proof.Machine.execTxFolioBoundary c g sub src s
  | .proposalTimeout c g => Sys2Proof.Machine.execProposalTimeout c g s
  | .txVolumeBoundary c g clips samples => Sys2Proof.Machine.execTxVolumeBoundary c g clips samples s
  | .parcelAssembled c g => Sys2Proof.Machine.execParcelAssembled c g s
  | .readerIdle p r => Sys2Proof.Machine.execReaderIdle p r s
  | .decodeIterationEnd p r fault => Sys2Proof.Machine.execDecodeIterationEnd p r fault s
  | .reserveFetchComplete p r => Sys2Proof.Machine.execReserveFetchComplete p r s
  | .reserveEntryExpiry c g seq => Sys2Proof.Machine.execReserveEntryExpiry c g seq s
  | .codewordDeadline c g seq => Sys2Proof.Machine.execCodewordDeadline c g seq s
  | .resultWrite => Sys2Proof.Machine.execResultWrite s
  | .folioRelease c g => Sys2Proof.Machine.execFolioRelease c g s
  | .poolDrained p => Sys2Proof.Machine.execPoolDrained p s
  | .slotBoundaryTx c x => Sys2Proof.Machine.execSlotBoundaryTx c x s
  | .joinWindowStart c => Sys2Proof.Machine.execJoinWindowStart c s
  | .toneDetection c t start ms later => Sys2Proof.Machine.execToneDetection c t start ms later s
  | .preambleEnd c t a1 a16 bad => Sys2Proof.Machine.execPreambleEnd c t a1 a16 bad s
  | .burstTrainingEnd c t h1x h1y h2x h2y bad => Sys2Proof.Machine.execBurstTrainingEnd c t h1x h1y h2x h2y bad s
  | .headerCrcReady c t bs bad stamp => Sys2Proof.Machine.execHeaderCrcReady c t bs bad stamp s
  | .payloadCrcReady c t bs bad evm => Sys2Proof.Machine.execPayloadCrcReady c t bs bad evm s
  | .leafTimeout c l => Sys2Proof.Machine.execLeafTimeout c l s
  | .noiseWindowEnd c t x y => Sys2Proof.Machine.execNoiseWindowEnd c t x y s
  | .folioHeaderReceived c g h => Sys2Proof.Machine.execFolioHeaderReceived c g h s
  | .keyFieldReceived c g kf => Sys2Proof.Machine.execKeyFieldReceived c g kf s
  | .kexMessageReceived c g => Sys2Proof.Machine.execKexMessageReceived c g s
  | .kexTimeout c g => Sys2Proof.Machine.execKexTimeout c g s
  | .kexRetry c g => Sys2Proof.Machine.execKexRetry c g s
  | .rekeyIntervalEnd c g => Sys2Proof.Machine.execRekeyIntervalEnd c g s
  | .alignmentPrediction b k rs => Sys2Proof.Machine.execAlignmentPrediction b k rs s
  | .alignmentMatch b k r => Sys2Proof.Machine.execAlignmentMatch b k r s
  | .defectPersistenceEnd fid d enter => Sys2Proof.Machine.execDefectPersistenceEnd fid d enter s
  | .otnFrameReceived fid sl o => Sys2Proof.Machine.execOtnFrameReceived fid sl o s
  | .multiframeBoundary kind cont group idles => Sys2Proof.Machine.execMultiframeBoundary kind cont group idles s
  | .switchFrameBoundary ukind bond tpn => Sys2Proof.Machine.execSwitchFrameBoundary ukind bond tpn s
  | .rateFollowSteer b target => Sys2Proof.Machine.execRateFollowSteer b target s
  | .rateHoldEnd b => Sys2Proof.Machine.execRateHoldEnd b s
  | .srFieldReceived c g bs => Sys2Proof.Machine.execSrFieldReceived c g bs s
  | .holdOffExpiry c g => Sys2Proof.Machine.execHoldOffExpiry c g s
  | .protectionAlign g => Sys2Proof.Machine.execProtectionAlign g s
  | .wtrExpiry g => Sys2Proof.Machine.execWtrExpiry g s
  | .fopTimeout g => Sys2Proof.Machine.execFopTimeout g s
  | .selectorSwitch g arrival => Sys2Proof.Machine.execSelectorSwitch g arrival s
  | .stacksRead w expect waiting => Sys2Proof.Machine.execStacksRead w expect waiting s
  | .stacksWholeWrite w data seq region unres endMark poison => Sys2Proof.Machine.execStacksWholeWrite w data seq region unres endMark poison s
  | .narrowWrite w off data => Sys2Proof.Machine.execNarrowWrite w off data s
  | .tagFreed c => Sys2Proof.Machine.execTagFreed c s
  | .scrubRead waiting => Sys2Proof.Machine.execScrubRead waiting s
  | .queueWrap c => Sys2Proof.Machine.execQueueWrap c s
  | .pageRetireComplete p => Sys2Proof.Machine.execPageRetireComplete p s
  | .stacksInitComplete => Sys2Proof.Machine.execStacksInitComplete s
  | .apertureRead off n => Sys2Proof.Machine.execApertureRead off n s
  | .apertureWrite off bs => Sys2Proof.Machine.execApertureWrite off bs s
  | .timeTick n => Sys2Proof.Machine.execTimeTick n s
  | .servoWindowEnd => Sys2Proof.Machine.execServoWindowEnd s
  | .slewComplete => Sys2Proof.Machine.execSlewComplete s
  | .ppsInEdge sub widthNs => Sys2Proof.Machine.execPpsInEdge sub widthNs s
  | .ppsInLos => Sys2Proof.Machine.execPpsInLos s
  | .todInMessage bs => Sys2Proof.Machine.execTodInMessage bs s
  | .ppsOutEdge => Sys2Proof.Machine.execPpsOutEdge s
  | .todOutSend => Sys2Proof.Machine.execTodOutSend s
  | .colophonRecordReceived c g bs => Sys2Proof.Machine.execColophonRecordReceived c g bs s
  | .colophonSample c g => Sys2Proof.Machine.execColophonSample c g s
  | .timeBurstSend c g => Sys2Proof.Machine.execTimeBurstSend c g s
  | .ptpIngress b sub m => Sys2Proof.Machine.execPtpIngress b sub m s
  | .ptpEgress b sub m => Sys2Proof.Machine.execPtpEgress b sub m s
  | .refMeasurement offs control => Sys2Proof.Machine.execRefMeasurement offs control s
  | .refActivityLoss k => Sys2Proof.Machine.execRefActivityLoss k s
  | .qualificationTimerEnd k restore => Sys2Proof.Machine.execQualificationTimerEnd k restore s
  | .dpllLock => Sys2Proof.Machine.execDpllLock s
  | .oscEstimateUpdate => Sys2Proof.Machine.execOscEstimateUpdate s
  | .loLearnEnd fitA fitB fit temps => Sys2Proof.Machine.execLoLearnEnd fitA fitB fit temps s
  | .laneLosDeclare l => Sys2Proof.Machine.execLaneLosDeclare l s
  | .laneLosClear l => Sys2Proof.Machine.execLaneLosClear l s
  | .laneLolDeclare l => Sys2Proof.Machine.execLaneLolDeclare l s
  | .anResolved l techs => Sys2Proof.Machine.execAnResolved l techs s
  | .anTimeout l => Sys2Proof.Machine.execAnTimeout l s
  | .laneTrained l => Sys2Proof.Machine.execLaneTrained l s
  | .trainingTimeout l => Sys2Proof.Machine.execTrainingTimeout l s
  | .mateTrainingFrame l fr => Sys2Proof.Machine.execMateTrainingFrame l fr s
  | .soakEnd ms => Sys2Proof.Machine.execSoakEnd ms s
  | .mateDecisionApply => Sys2Proof.Machine.execMateDecisionApply s
  | .mateQuietEnd => Sys2Proof.Machine.execMateQuietEnd s
  | .idleEntry l => Sys2Proof.Machine.execIdleEntry l s
  | .keepaliveDue l => Sys2Proof.Machine.execKeepaliveDue l s
  | .sleepDelayEnd l => Sys2Proof.Machine.execSleepDelayEnd l s
  | .laneDataToSend l => Sys2Proof.Machine.execLaneDataToSend l s
  | .exitBurstEnd l locked => Sys2Proof.Machine.execExitBurstEnd l locked s
  | .wakeTimeEnd l => Sys2Proof.Machine.execWakeTimeEnd l s
  | .loopbackRelock l => Sys2Proof.Machine.execLoopbackRelock l s
  | .admissionStageStart => Sys2Proof.Machine.execAdmissionStageStart s
  | .domainPowerGood d => Sys2Proof.Machine.execDomainPowerGood d s
  | .powerGoodTimeout d => Sys2Proof.Machine.execPowerGoodTimeout d s
  | .domainStopDrained d => Sys2Proof.Machine.execDomainStopDrained d s
  | .voutSettled r => Sys2Proof.Machine.execVoutSettled r s
  | .voutSettleTimeout r => Sys2Proof.Machine.execVoutSettleTimeout r s
  | .sleepEntryDrained => Sys2Proof.Machine.execSleepEntryDrained s
  | .sleepCommit => Sys2Proof.Machine.execSleepCommit s
  | .wakeSourceLatch src aonMs => Sys2Proof.Machine.execWakeSourceLatch src aonMs s
  | .wakeExitComplete us => Sys2Proof.Machine.execWakeExitComplete us s
  | .idleCoreWake => Sys2Proof.Machine.execIdleCoreWake s
  | .conversionDue k => Sys2Proof.Machine.execConversionDue k s
  | .conversionEnd m va vb => Sys2Proof.Machine.execConversionEnd m va vb s
  | .urgentRequest k => Sys2Proof.Machine.execUrgentRequest k s
  | .refBufferReady m => Sys2Proof.Machine.execRefBufferReady m s
  | .processMonitorPeriod fro => Sys2Proof.Machine.execProcessMonitorPeriod fro s
  | .pmbusPoll r rd => Sys2Proof.Machine.execPmbusPoll r rd s
  | .sensorReading rs => Sys2Proof.Machine.execSensorReading rs s
  | .thermalRecoveryHold => Sys2Proof.Machine.execThermalRecoveryHold s
  | .sensorStuck n => Sys2Proof.Machine.execSensorStuck n s
  | .catalogueWriteStart => Sys2Proof.Machine.execCatalogueWriteStart s
  | .catalogueWriteDone bad => Sys2Proof.Machine.execCatalogueWriteDone bad s
  | .catalogueEraseDone => Sys2Proof.Machine.execCatalogueEraseDone s
  | .fwProgrammingDone bad => Sys2Proof.Machine.execFwProgrammingDone bad s
  | .vaultVote ups => Sys2Proof.Machine.execVaultVote ups s
  | .safetyDiagTick x => Sys2Proof.Machine.execSafetyDiagTick x s
  | .safetyConditionChange c => Sys2Proof.Machine.execSafetyConditionChange c s
  | .alsPinChange c low => Sys2Proof.Machine.execAlsPinChange c low s
  | .alsPulseStart c => Sys2Proof.Machine.execAlsPulseStart c s
  | .alsPulseEnd c => Sys2Proof.Machine.execAlsPulseEnd c s
  | .mateBlockReceived b => Sys2Proof.Machine.execMateBlockReceived b s
  | .stateRecordSend => Sys2Proof.Machine.execStateRecordSend s
  | .mirrorItemApply c tpn w seq lost shadow shadowEnd => Sys2Proof.Machine.execMirrorItemApply c tpn w seq lost shadow shadowEnd s
  | .mateSyncMarker sub => Sys2Proof.Machine.execMateSyncMarker sub s
  | .mateSyncInactive => Sys2Proof.Machine.execMateSyncInactive s
  | .mateLost => Sys2Proof.Machine.execMateLost s
  | .checkingRecompare peer => Sys2Proof.Machine.execCheckingRecompare peer s
  | .mateWakePulse => Sys2Proof.Machine.execMateWakePulse s
  | .spiWrite a data => Sys2Proof.Machine.execSpiWrite a data s
  | .spiRead a n => Sys2Proof.Machine.execSpiRead a n s
  | .spiQwrite a data => Sys2Proof.Machine.execSpiQwrite a data s
  | .spiQread a n => Sys2Proof.Machine.execSpiQread a n s
  | .spiStatus => Sys2Proof.Machine.execSpiStatus s
  | .spiBadFrame => Sys2Proof.Machine.execSpiBadFrame s
  | .bootResetWrite p v => Sys2Proof.Machine.execBootResetWrite p v s
  | .resetNAssert => Sys2Proof.Machine.execResetNAssert s
  | .resetNRelease board => Sys2Proof.Machine.execResetNRelease board s
  | .yozonReady => Sys2Proof.Machine.execYozonReady s
  | .powerOn => Sys2Proof.Machine.execPowerOn s
  | .brownout => Sys2Proof.Machine.execBrownout s
  | .supplyFault n => Sys2Proof.Machine.execSupplyFault n s
  | .perstNAssert => Sys2Proof.Machine.execPerstNAssert s
  | .perstNRelease => Sys2Proof.Machine.execPerstNRelease s
  | .trstNAssert => Sys2Proof.Machine.execTrstNAssert s
  | .timeSourceTimer w => Sys2Proof.Machine.execTimeSourceTimer w s
  | .mateSyncMarkerMissing => Sys2Proof.Machine.execMateSyncMarkerMissing s
  | .laneRxIdleMarker l m => Sys2Proof.Machine.execLaneRxIdleMarker l m s
  | .laneWakeRelock l => Sys2Proof.Machine.execLaneWakeRelock l s
  | .switchReadDue ukind bond tpn w seq arrival => Sys2Proof.Machine.execSwitchReadDue ukind bond tpn w seq arrival s
  | .tckEdge rising tms tdi => Sys2Proof.Machine.execTckEdge rising tms tdi s

end Sys2Proof.Machine
end

