-- ==== Sys2Proof/Safety.lean ====
section
/-! DEFINITION. What a sound state is, in the terms that statements use: the bounds and canonical forms that the spec's own
rules give the block's memories, queues and counters. Every step keeps them. -/

namespace Sys2Proof.Machine

/-- A cell list in the canonical form of a memory whose unlisted bytes read 0: addresses strictly rise, no entry is 0. -/
def cellsOk (m : List Host.Cell) : Bool := m.Pairwise (fun a b => a.1 < b.1) && m.all fun x => x.2 != 0

/-- Items that a Chute's index holds at most (01_organisation.md R16); none for an index that is not used. -/
def chuteRoom (k : Nat) : Nat :=
  match chuteId k with
  | some i => chuteStages i.cls
  | none => 0

/-- End-marked items at rest in a Chute (R18). -/
def packetsAtRest (l : List InChute) : Nat :=
  (l.filter fun x => match x with
    | .item y rest => rest && vote3 y.endMark
    | .mark => false).length

/-- A Chute holds no more than its stages (R16), an incomplete write waits only while
it is full (R19) or since it has been closed (R25), and its packet counter
is the number of end-marked items at rest (R18). -/
def chuteSound (k : Nat) (c : Chute) : Bool :=
  decide (c.held ≤ chuteRoom k) && (c.pendingWrite.isNone || c.held == chuteRoom k || c.shut) && c.packets == packetsAtRest c.items

/-- Every Chute is sound. -/
def ChutesSound (v : Vector Chute 256) : Prop := ∀ k : Fin 256, chuteSound k.val v[k] = true

/-- The event queue holds at most 256 records (R371), the log at most 1,024 (R341). -/
def EventTree.sound (e : EventTree) : Bool := decide (e.queue.length ≤ 256) && decide (e.log.length ≤ 1024)

/-- A Desk channel has at most 32 outstanding requests (R318), and its window is in canonical form (R309). -/
def Channel.sound (c : Channel) : Bool := decide (c.outstanding ≤ 32) && cellsOk c.win

/-- Every channel of the Desk is sound. -/
def Desk.Sound (d : Desk) : Prop := ∀ ch : Fin 4, d.chans[ch].sound = true

/-- The Stacks' memory is in canonical form, and each channel has at most 768 transactions in flight (R230). -/
def Stacks.sound (k : Stacks) : Bool := k.wf && k.tags.all fun n => decide (n ≤ 768)

/-- A sound state. -/
structure Sound (s : State) : Prop where
  chutes : ChutesSound s.chutes
  stk : s.stk.sound = true
  evt : s.evt.sound = true
  desk : s.desk.Sound

/-- The request `q` of opcode `op` runs now: it is outstanding and not started, nothing holds it back (13_curator_desk.md R319,
R322), and its OBJ and Reserved fields are good (14_command_reference.md R331, R332). -/
def runs (op : Nat) (q : Request) (s : State) : Bool :=
  match (s.chan q.ch).find q.tag, cmdInfo op with
  | some o, some c =>
    o.op == op && decide (o.req = q) && o.phase != .started && decide (gate s q.ch c o = .go) && (precheck c q s).isNone
  | _, _ => false

/-- The request `q` of opcode `op` has its turn, whatever its OBJ and Reserved fields say (13_curator_desk.md R319, R322). -/
def hasTurn (op : Nat) (q : Request) (s : State) : Bool :=
  match (s.chan q.ch).find q.tag, cmdInfo op with
  | some o, some c => o.op == op && decide (o.req = q) && o.phase != .started && decide (gate s q.ch c o = .go)
  | _, _ => false

/-- A run of commands that neither faults nor is refused. -/
def SafeRun : Nat → State → Prop
  | 0, _ => True
  | n + 1, s => ∃ t, step s = .next t ∧ SafeRun n t

end Sys2Proof.Machine
end

