-- ==== Sys2Proof/Certificates/Slice0/Obligations.lean ====
section
/-! DEFINITION. The statements for the provers. Each formalises rules of the spec as its docstring says; a statement that
rests on a choice of the model names the log entry. -/

open Sys2Proof Sys2Proof.Machine

/-- A step runs the command at the front of the queue. With command c at the front of the queue, a step is exec of c on the
state with the queue's rest; with no command waiting the block idles in the same state (the model's choice, log 2). -/
def Obligations.StepRunsFront : Prop :=
  (∀ (c : Instr) (rest : List Instr) (s : State), step { s with pending := c :: rest } = exec c { s with pending := rest }) ∧
    ∀ s : State, s.pending = [] → step s = .next s

/-- The state after reset is sound. The state after reset is sound: every Chute holds no more than its stages and its packet
counter is the number of end-marked items at rest, each Desk channel has at most 32 outstanding requests and a window in
canonical form, the event queue at most 256 records and the log at most 1,024, the Stacks' memory is in canonical form
with at most 768 transactions in flight in each channel; and no command waits. -/
def Obligations.ResetSound : Prop :=
  Sound State.reset ∧ State.reset.pending = []

/-- Every step keeps a sound state and takes one command from the queue. From every sound state, whatever command is in
front, a step that answers a next state answers a sound one, and the queue is then the queue without its front command. -/
def Obligations.StepKeepsSound : Prop :=
  ∀ s t : State, Sound s → step s = .next t → Sound t ∧ t.pending = s.pending.tail

/-- What a write into a Chute does, and its stall event. A write into an index that is not used changes nothing; into a
closed Chute no item enters and no count moves. Into an open Chute with room the item enters behind every item that is
there, with the data bits of its class, and the peak follows; into a full one the write waits. An item that would make a
packet longer than the class's largest is not written. While a write waits in a full Chute, the next item of a producer
that can wait changes nothing; a producer of fixed rate discards the next item, poisons the waiting one, and the overrun
count and CHUTE_OVERRUN (event 0, with the Chute's identity) follow. A write that waited while the Chute was closed
enters before the next one once the Chute is open again (the model's choice, log 58). A Chute with an item whose
consumer has taken none for longer than the stall limit raises CHUTE_STALL (event 2) once per stall; an empty one does
not. Nothing else changes. Which index stands for which Chute is the model's choice (log 10). -/
def Obligations.ChuteWritten : Prop :=
  ∀ (k : Fin 256) (data errs : Nat) (endMark poison : BitVec 3) (s : State),
    (chuteId k.val = none → exec (.chuteWrite k data errs endMark poison) s = .next s ∧ exec (.chuteStall k) s = .next s) ∧
    ∀ i, chuteId k.val = some i →
      let c := s.chutes[k]
      let x : Item := { data := data % 2 ^ chuteDataBits i.cls, errs := errs, endMark := endMark, poison := poison }
      let fits := vote3 endMark = true ∨ c.open_ + 1 < chutePacket i.cls
      let n := if vote3 endMark then 0 else c.open_ + 1
      (chuteOpen s i = false → ∃ c', exec (.chuteWrite k data errs endMark poison) s = .next (onChute k (fun _ => c') s) ∧
        c'.items = c.items ∧ c'.pendingWrite = c.pendingWrite ∧ c'.packets = c.packets ∧ c'.overrun = c.overrun ∧ c'.written = c.written) ∧
      (chuteOpen s i = true → c.pendingWrite = none → fits → c.held < chuteStages i.cls → ∃ c', exec (.chuteWrite k data errs endMark poison) s =
        .next (onChute k (fun _ => c') s) ∧ c'.items = c.items ++ [.item x false] ∧ c'.held = c.held + 1 ∧ c'.peak = max c.peak (c.held + 1) ∧
        c'.packets = c.packets ∧ c'.pendingWrite = none ∧ c'.overrun = c.overrun ∧ c'.out = c.out ∧ c'.open_ = n) ∧
      (chuteOpen s i = true → c.pendingWrite = none → fits → chuteStages i.cls ≤ c.held →
        exec (.chuteWrite k data errs endMark poison) s = .next (onChute k (fun c => { c with pendingWrite := some x, open_ := n }) s)) ∧
      (chuteOpen s i = true → c.pendingWrite = none → ¬fits → exec (.chuteWrite k data errs endMark poison) s = .next s) ∧
      (∀ p, chuteOpen s i = true → c.pendingWrite = some p → chuteStages i.cls ≤ c.held →
        exec (.chuteWrite k data errs endMark poison) s = .next (if i.fixedRate then
          raise 0 objDevice (evtArg 0 i.cls (i.prod + 256 * i.cons) k.val) (onChute k (fun c => { c with
            pendingWrite := some { p with poison := 7 }, overrun := bump c.overrun }) s) else s)) ∧
      (∀ p, chuteOpen s i = true → c.pendingWrite = some p → c.held < chuteStages i.cls →
        exec (.chuteWrite k data errs endMark poison) s = exec (.chuteWrite k data errs endMark poison)
          (onChute k (fun c => { c.enter s.dev.ticks p with pendingWrite := none, shut := false }) s)) ∧
      (exec (.chuteStall k) s = .next (if c.held = 0 ∨ c.stalled = true ∨ (s.dev.ticks - c.since) * 16 ≤ s.dev.stallNs * 10 then s else
        raise 2 objDevice (evtArg 0 i.cls (i.prod + 256 * i.cons) k.val) (onChute k (fun c => { c with stalled := true }) s)))

/-- What comes to rest in a Chute, what a read takes, and the Census mark. The oldest item that still falls comes to rest,
and an end-marked one adds 1 to the packet counter. A read of an open or closed Chute whose oldest entry is an item at
rest delivers its word, its end mark by majority and its poison mark by majority, set as well for an uncorrectable word;
a single-bit error adds 1 to the corrected count, an uncorrectable one to the uncorrectable count with CHUTE_UNCORR
(event 1); an end-marked item takes 1 from the packet counter; a poisoned item that a LINE island takes from its FRAME
island is counted; the others keep their order, and a waiting write of an open Chute enters at once. A read of an open
Chute that finds no item at the output stage stalls, and takes the item as it comes to rest there; a closed Chute that
holds no item is not read. A Census mark at the output is absorbed at once and fixes the in-flight count at the
consumer's count of items since its own latch. -/
def Obligations.ChuteTaken : Prop :=
  (∀ (k : Fin 256) (i : ChuteId) (s : State), chuteId k.val = some i → s.chutes[k].pendingWrite = none →
    (∀ (pre : List InChute) (x : Item) (r : List InChute), s.chutes[k].items = pre ++ .item x false :: r → (∀ y ∈ pre, ∀ z, y ≠ .item z false) →
      let t := onChute k (fun c => { c with
        items := pre ++ .item x true :: r, packets := if vote3 x.endMark then c.packets + 1 else c.packets }) s
      (s.chutes[k].reading = false → exec (.chuteItemRest k) s = .next t) ∧
      (s.chutes[k].reading = true → pre = [] → exec (.chuteItemRest k) s = exec (.chuteRead k) t)) ∧
    (s.chutes[k].items = [] → exec (.chuteRead k) s = .next (if chuteOpen s i then onChute k (fun c => { c with reading := true }) s else s)) ∧
    (∀ (x : Item) (r : List InChute), s.chutes[k].items = .item x false :: r → exec (.chuteRead k) s = .next (onChute k (fun c => { c with reading := true }) s)) ∧
    (∀ (x : Item) (r : List InChute), s.chutes[k].items = .item x true :: r →
      let bad := vote3 x.poison || decide (2 ≤ x.errs)
      let t := countPoison i bad (onChute k (fun c => { c with
        items := r, taken := bump c.taken, counting := c.counting.map (· + 1), stalled := false, reading := false, since := s.dev.ticks,
        packets := if vote3 x.endMark then c.packets - 1 else c.packets,
        corrected := if x.errs = 1 then bump c.corrected else c.corrected,
        uncorr := if 2 ≤ x.errs then bump c.uncorr else c.uncorr,
        out := some (x.data, vote3 x.endMark, bad), fresh := c.fresh + 1,
        poisonAt := if bad then c.poisonAt ++ [c.fresh] else c.poisonAt }) s)
      exec (.chuteRead k) s = .next (if 2 ≤ x.errs then raise 1 objDevice (evtArg 0 i.cls (i.prod + 256 * i.cons) k.val) t else t))) ∧
  (∀ (k : Fin 256) (i : ChuteId) (s : State) (x w : Item) (r : List InChute), chuteId k.val = some i → chuteOpen s i = true →
    s.chutes[k].items = .item x true :: r → s.chutes[k].pendingWrite = some w → s.chutes[k].held = chuteStages i.cls →
    ∃ t, exec (.chuteRead k) s = .next t ∧ t.chutes[k].items = r ++ [.item w false] ∧ t.chutes[k].pendingWrite = none ∧
      t.chutes[k].held = s.chutes[k].held ∧ ∀ j : Fin 256, j ≠ k → t.chutes[j] = s.chutes[j]) ∧
  (∀ (k : Fin 256) (s : State) (r : List InChute) (n : Nat), s.chutes[k].items = .mark :: r → s.chutes[k].counting = some n →
    exec (.chuteMarkAbsorb k) s = .next (onChute k (fun c => { c with items := r, inFlight := n, counting := none }) s))

/-- What whole-word and narrow writes store. With a tag free in its channel, a whole-word write stores the new word with its
SEQ, REGION, UNRES, END and poison mark and a fresh CHECK, and takes a tag. A narrow write stores the word with the
written bytes replaced in the data that decoding gives, the word's SEQ, UNRES and END and the REGION of its page; the
poison mark stays when the data read carried it, and is set when the word could not be corrected, and then
STACKS_PARTIAL_POISON (event 214) is pending, with STACKS_UNCORRECTABLE (event 212) as well when it could not be
corrected and none was raised for the stack within the last second. Every other word is as it was. With no tag free the
transaction waits and only the waiting list changes. A freed tag goes to the oldest transaction that waits for the
channel, and is returned when none waits. -/
def Obligations.StacksWords : Prop :=
  (∀ (w : Fin 2147483648) (s : State), s.stk.wf = true → s.stk.tags.getD (chanKey w) 0 < 768 →
    (∀ data seq region unres endMark poison, ∃ t, exec (.stacksWholeWrite w data seq region unres endMark poison) s = .next t ∧
      t.stk.word w = mkWord data seq region unres endMark poison ∧ (∀ x, x ≠ w.val → t.stk.word x = s.stk.word x) ∧
      { t with stk := s.stk } = s ∧ t.stk.tags = s.stk.tags.modify (chanKey w) (· + 1)) ∧
    ∀ (off : Fin 64) (data : List Byte), ∃ t, exec (.narrowWrite w off data) s = .next t ∧
      (∀ x, x ≠ w.val → t.stk.word x = s.stk.word x) ∧ { t with stk := s.stk, evt := s.evt } = s ∧
      t.stk.tags = s.stk.tags.modify (chanKey w) (· + 1) ∧
      let v := s.stk.word w
      let stored (x : List Byte) (pz : Bool) : List Byte :=
        mkWord (overlay (wData x) off data) (wSeq x) (s.stk.codeAt (pageOf w)) (wUnres x) (wEnd x) pz
      (rsDecode v = .clean → t.stk.word w = stored v (wPoison v) ∧ (wPoison v = true → t.evt.status.getLsbD 214 = true) ∧
        (wPoison v = false → t.evt = s.evt)) ∧
      (∀ x l, rsDecode v = .corrected x l → t.stk.word w = stored x (wPoison x) ∧ (wPoison x = true → t.evt.status.getLsbD 214 = true)) ∧
      (rsDecode v = .uncorrectable → t.stk.word w = stored v true ∧ t.evt.status.getLsbD 214 = true ∧
        (s.evt.limitOk s.dev.ticks 212 (objWord w / 256 % 256) = true → t.evt.status.getLsbD 212 = true))) ∧
  (∀ (w : Fin 2147483648) (s : State), 768 ≤ s.stk.tags.getD (chanKey w) 0 →
    (∀ data seq region unres endMark poison, exec (.stacksWholeWrite w data seq region unres endMark poison) s =
      .next (onStk (fun k => { k with tagWait := k.tagWait ++ [(chanKey w, .write w data seq region unres endMark poison)] }) s)) ∧
    (∀ off data, exec (.narrowWrite w off data) s = .next (onStk (fun k => { k with tagWait :=
      k.tagWait ++ [(chanKey w, .narrow w off data (k.codeAt (pageOf w)))] }) s)) ∧
    (∀ expect waiting, exec (.stacksRead w expect waiting) s =
      .next (onStk (fun k => { k with tagWait := k.tagWait ++ [(chanKey w, .read w expect waiting)] }) s))) ∧
  ∀ (c : Fin 64) (s : State),
    ((∀ x ∈ s.stk.tagWait, x.1 ≠ c.val) →
      exec (.tagFreed c) s = .next (onStk (fun k => { k with tags := k.tags.modify c.val (· - 1) }) s)) ∧
    ∀ a r b, s.stk.tagWait = a ++ (c.val, r) :: b → (∀ x ∈ a, x.1 ≠ c.val) →
      exec (.tagFreed c) s = .next (runReq r (onStk (fun k => { k with tagWait := a ++ b }) s))

/-- What a read of the Stacks delivers and what it writes back. With a tag free in its channel, a read of a word delivers
its data with the outcome clean, or poisoned when the word carries the mark, and leaves memory alone; a corrected word
delivers the corrected data and counts in its bank, at most the corrected word is written back, and it is when two
symbols were corrected and no write to the word waits; a word that cannot be corrected delivers poisoned data, counts in
its bank and is written back with the poison mark unless a write waits. A queue reader's clean read whose REGION or SEQ
is not the one expected is delivered poisoned and counts as an address check. No other word changes. The scrubber does
nothing before initialisation or while it is switched off; otherwise it reads the next word of a page that is not
retired, and past the last word counts a pass and starts again. -/
def Obligations.StacksReads : Prop :=
  (∀ (w : Fin 2147483648) (waiting : Bool) (s : State), s.stk.wf = true → s.stk.tags.getD (chanKey w) 0 < 768 →
    let v := s.stk.word w
    let bank (t : State) : BankCtr := lookupD {} (bankKey w) t.stk.banks
    (rsDecode v = .clean → ∃ t, exec (.stacksRead w none waiting) s = .next t ∧ t.stk.mem = s.stk.mem ∧ t.evt = s.evt ∧
      { t with stk := s.stk } = s ∧ t.stk.out = some (wData v, if wPoison v then 3 else 0)) ∧
    (∀ x l, rsDecode v = .corrected x l → ∃ t, exec (.stacksRead w none waiting) s = .next t ∧
      { t with stk := s.stk, evt := s.evt } = s ∧ t.stk.out = some (wData x, if wPoison x then 3 else 1) ∧
      (bank t).corrected = bump (bank s).corrected ∧ (∀ y, y ≠ w.val → t.stk.word y = s.stk.word y) ∧
      (t.stk.word w = v ∨ t.stk.word w = x) ∧ (l.length = 2 → waiting = false → t.stk.word w = x) ∧
      (waiting = true → t.stk.mem = s.stk.mem)) ∧
    (rsDecode v = .uncorrectable → ∃ t, exec (.stacksRead w none waiting) s = .next t ∧
      { t with stk := s.stk, evt := s.evt } = s ∧ t.stk.out = some (wData v, 2) ∧ (bank t).uncorr = bump (bank s).uncorr ∧
      (∀ y, y ≠ w.val → t.stk.word y = s.stk.word y) ∧ t.stk.word w = (if waiting then v else poisonWord v)) ∧
    ∀ rg sq, rsDecode v = .clean → wPoison v = false → ∃ t, exec (.stacksRead w (some (rg, sq)) waiting) s = .next t ∧
      t.stk.mem = s.stk.mem ∧
      if wRegion v = rg ∧ wSeq v = sq then t.stk.out = some (wData v, 0) ∧ (bank t).addrCheck = (bank s).addrCheck
      else t.stk.out = some (wData v, 3) ∧ (bank t).addrCheck = bump (bank s).addrCheck) ∧
  ∀ (waiting : Bool) (s : State),
    ((s.stk.initialised = false ∨ getPar s .r252 objDevice 0x40 ≠ 1) → exec (.scrubRead waiting) s = .next s) ∧
    (s.stk.initialised = true → getPar s .r252 objDevice 0x40 = 1 →
      (∀ w, nextScrub s.stk 65537 s.stk.scrubPos = some w → ∃ t, exec (.scrubRead waiting) s = .next t ∧
        t.stk.scrubPos = w + 1 ∧ t.stk.mem = (stkRead w none waiting true s).2.stk.mem ∧ { t with stk := s.stk, evt := s.evt } = s) ∧
      (nextScrub s.stk 65537 s.stk.scrubPos = none → ∀ w, nextScrub s.stk 65537 0 = some w →
        exec (.scrubRead waiting) s = .next (onStk (fun k : Stacks => { k with scrubPos := w + 1 })
          (stkRead w none waiting true (onStk (fun k : Stacks => { k with scrubPos := 0, scrubPasses := bump k.scrubPasses }) s)).2)))

namespace Sys2Proof.Machine

/-- ST_OK with a payload and bulk bytes. -/
def okWith (payload : List Byte) (bulk : List Byte := []) : Resp := { status := stOk, payload := payload, bulk := bulk }

end Sys2Proof.Machine

/-- Initialisation, retirement and the reading commands of the Stacks. STACKS.INIT is refused with ST_BAD_STATE while a
region other than the Census area exists; otherwise it starts, with the Census area allocated at the first one. At its
end, with the stacks in RUN, every word of every page that is not retired reads 0, the Stacks are initialised and
STACKS_INIT_DONE (event 208) is pending. STACKS.RETIRE of a page that is in no region, waits to join none and is not
retired adds it to the Accession log at once, counts one page and makes STACKS_PAGE_RETIRED (event 209) pending; of a
page of the Reserve it starts, and the page waits for its release, after which it is retired and in no region and, being
the last, STACKS_PAGE_RETIRED is pending. STACKS.TRACKER.GET and STACKS.ACCESSION.GET return their entries from START
with the index of the next one or 0; STACKS.TRACKER.CLEAR frees the entries named and returns their count;
STACKS.WORD.READ returns the 72 symbols and the outcome and changes nothing else; it is refused before initialisation,
with DETAIL 4 beyond the last word, and for a word that no Charter window grants (with which status: log 63). A page of
the Reserve that an entry still holds, or a page of the Census area that no snapshot has replaced yet, is not yet
released. At a queue's wrap the pages added join its list, which every protection group hears. -/
def Obligations.StacksCommands : Prop :=
  (∀ (q : Request) (s : State),
    (runs 0x0A01 q s = true → (∃ r ∈ s.stk.regions, r.r ≠ 0) →
      exec (.stacksInit q) s = .next (complete q.ch q.tag { status := stBadState } s)) ∧
    (runs 0x0A01 q s = true → (∀ r ∈ s.stk.regions, r.r = 0) →
      (∀ r, s.stk.region 0 = some r → exec (.stacksInit q) s = .next (setPhase q.ch q.tag .started
        (beginTransition .stacks 0x0A01 q (stacksToRun { s with stk := { s.stk with initBusy := true } })))) ∧
      (∀ k, s.stk.region 0 = none → s.stk.allocRegion 0 40 = some k → exec (.stacksInit q) s = .next (setPhase q.ch q.tag .started
        (beginTransition .stacks 0x0A01 q (stacksToRun { s with stk := { k with initBusy := true } }))))) ∧
    (runs 0x0A03 q s = true → u8 q 4 = 0 → u8 q 5 = 0 → s.stk.retired (u16 q 6) = false →
      s.stk.retiring = [] → s.stk.log.length < 2048 →
      let e : AccEntry := { page := u16 q 6, cause := 0, stack := u8 q 8, chan := u8 q 9, bank := u8 q 10 }
      (s.stk.regionAt (u16 q 6) = none → s.stk.planned (u16 q 6) = false → ∃ u, exec (.stacksRetire q) s = .next (complete q.ch q.tag
          { status := stOk, payload := leBytes 2 1 ++ leBytes 2 (s.stk.log.length + 1) } u) ∧
        u.stk.log = s.stk.log ++ [e] ∧ u.stk.regions = s.stk.regions ∧ u.evt.status.getLsbD 209 = true ∧
        { u with stk := s.stk, evt := s.evt, cat := s.cat } = s) ∧
      (∀ r, s.stk.regionAt (u16 q 6) = some r → r.r = 1 → ∃ u, exec (.stacksRetire q) s = .next (setPhase q.ch q.tag .started u) ∧
        u.stk.retiring = [e] ∧ u.stk.log = s.stk.log ∧ u.stk.regions = s.stk.regions ∧ u.stk.mem = s.stk.mem ∧
        { u with stk := s.stk, desk := s.desk } = s)) ∧
    (runs 0x0A05 q s = true → u16 q 4 ≤ 255 →
      let l := (s.stk.tracker.drop (u16 q 4)).take 128
      exec (.stacksTrackerGet q) s = .next (complete q.ch q.tag (okWith (leBytes 2 l.length ++ leBytes 2 (if u16 q 4 + l.length < 256 then u16 q 4 + l.length else 0))
        (l.flatMap trackBytes)) s)) ∧
    (runs 0x0A06 q s = true → ∀ w, u32 q 4 = w → w = 0xFFFFFFFF ∨ w < 2147483648 →
      let hit (t : Track) : Bool := w == 0xFFFFFFFF || t.word == w
      exec (.stacksTrackerClear q) s = .next (complete q.ch q.tag (okWith (leBytes 2 (s.stk.tracker.filter fun e => match e with | some t => hit t | none => false).length))
        { s with stk := { s.stk with
            tracker := s.stk.tracker.map fun e => match e with | some t => if hit t then none else some t | none => none
            trackerFull := s.stk.trackerFull && !s.stk.tracker.any fun e => match e with | some t => hit t | none => false } })) ∧
    (runs 0x0A07 q s = true →
      let l := (s.stk.log.drop (u16 q 4)).take 512
      exec (.stacksAccessionGet q) s = .next (complete q.ch q.tag (okWith (leBytes 2 l.length ++ leBytes 2 (if u16 q 4 + l.length < s.stk.log.length then u16 q 4 + l.length else 0))
        (l.flatMap accBytes)) s)) ∧
    (runs 0x0A08 q s = true → (s.stk.initialised = false → exec (.stacksWordRead q) s =
        .next (complete q.ch q.tag { status := stBadState } s)) ∧
      (s.stk.initialised = true → 2147483648 ≤ u32 q 4 → exec (.stacksWordRead q) s = .next (complete q.ch q.tag { status := stBadParam, detail := 4 } s)) ∧
      (s.stk.initialised = true → u32 q 4 < 2147483648 → windowGrants s (pageOf (u32 q 4)) 0 = false →
        exec (.stacksWordRead q) s = .next (complete q.ch q.tag { status := stDenied } s)) ∧
      (s.stk.initialised = true → u32 q 4 < 2147483648 → windowGrants s (pageOf (u32 q 4)) 0 = true → exec (.stacksWordRead q) s = .next (complete q.ch q.tag (okWith (s.stk.word (u32 q 4) ++ leBytes 1 (match rsDecode (s.stk.word (u32 q 4)) with
          | .clean => 0 | .corrected _ _ => 1 | .uncorrectable => 2))) s)))) ∧
  (∀ s : State,
    ((s.stk.initBusy = false ∨ stacksRun s = false) → exec .stacksInitComplete s = .next s) ∧
    (s.stk.initBusy = true → stacksRun s = true → ∃ t, exec .stacksInitComplete s = .next t ∧ t.stk.initialised = true ∧
      t.stk.initBusy = false ∧ t.stk.log = s.stk.log ∧ t.evt.status.getLsbD 208 = true ∧
      (∀ w, s.stk.retired (pageOf w) = false → t.stk.word w = List.replicate 72 0) ∧
      { t with stk := s.stk, evt := s.evt, desk := s.desk } = s)) ∧
  (∀ (p : Fin 65536) (s : State),
    ((∀ e ∈ s.stk.retiring, e.page ≠ p.val) → exec (.pageRetireComplete p) s = .next s) ∧
    ((reserveHolds s p.val = true ∨ ∃ r ∈ s.stk.regions, ∃ x ∈ r.leaving, x.1 = p.val) → exec (.pageRetireComplete p) s = .next s) ∧
    (∀ e, s.stk.retiring = [e] → e.page = p.val → stillHeld s p.val = false → ∃ t, exec (.pageRetireComplete p) s = .next t ∧ t.stk.retiring = [] ∧
      t.stk.log = s.stk.log ++ [e] ∧ (∀ r ∈ t.stk.regions, (r.r ≠ 1 → p.val ∉ r.pages) ∧ p.val ∉ r.old) ∧ t.evt.status.getLsbD 209 = true ∧
      { t with stk := s.stk, evt := s.evt, desk := s.desk, cat := s.cat } = s)) ∧
  ∀ (c : Fin 2) (s : State), exec (.queueWrap c) s = .next (protAll { s with stk := { s.stk with regions := s.stk.regions.map (fun x =>
      if x.r = 4 + c.val then { x with pages := x.pages ++ x.adding, adding := [], wr := 0 } else x) } })

/-- Reads and writes through the aperture. In SLEEP, with the aperture disabled or its path not served, a read delivers
nothing and a write changes nothing. An access whose first word that is not served is denied by the Charter, or else
lies in a retired page, sets DENIED or RETIRED, names that word and the direction, leaves the Stacks alone and makes
STACKS_APERTURE (event 211) pending. A served read inside one clean word delivers its bytes and leaves memory alone,
with the poison bit clear; of a poisoned word it delivers the bytes with the EP bit as EP_EN says and sets POISON. A
served write of 64 aligned bytes is a whole-word write of its word, a shorter one inside a word a narrow write of it, in
the region of its page. -/
def Obligations.Aperture : Prop :=
  ∀ (off : Fin 67108864) (s : State),
    let a := s.ap.window * 67108864 + off.val
    let open_ : Prop := s.pwr.st ≠ .sleep ∧ s.ap.en = true ∧ pathServed s .bar0 = true
    (¬ open_ → ∀ n bs, exec (.apertureRead off n) s = .next { s with ap := { s.ap with out := none, outEp := false } } ∧
      exec (.apertureWrite off bs) s = .next s) ∧
    (open_ → ∀ (n : Fin 4097) w denied, apStop s 0 (apertureWords s off n) = some (w, denied) →
      ∃ t, exec (.apertureRead off n) s = .next t ∧ t.ap = { s.ap with
          denied := s.ap.denied || denied, retired := s.ap.retired || !denied, lastWord := w, lastWrite := false, out := none, outEp := false } ∧
        t.evt.status.getLsbD 211 = true ∧ { t with ap := s.ap, evt := s.evt } = s) ∧
    (open_ → ∀ bs w denied, apStop s 1 (apertureWords s off (bs.take 4096).length) = some (w, denied) →
      ∃ t, exec (.apertureWrite off bs) s = .next t ∧ t.ap = { s.ap with
          denied := s.ap.denied || denied, retired := s.ap.retired || !denied, lastWord := w, lastWrite := true } ∧
        t.evt.status.getLsbD 211 = true ∧ { t with ap := s.ap, evt := s.evt } = s) ∧
    (open_ → ∀ n : Fin 4097, 0 < n.val → a % 64 + n.val ≤ 64 → apStop s 0 [a / 64] = none → rsDecode (s.stk.word (a / 64)) = .clean →
      (wPoison (s.stk.word (a / 64)) = false → ∃ t, exec (.apertureRead off n) s = .next t ∧
        t.ap = { s.ap with out := some (bytesAt (wData (s.stk.word (a / 64))) (a % 64) n), outEp := false } ∧
        t.stk.mem = s.stk.mem ∧ { t with ap := s.ap, stk := s.stk } = s) ∧
      (wPoison (s.stk.word (a / 64)) = true → ∃ t, exec (.apertureRead off n) s = .next t ∧
        t.ap = { s.ap with out := some (bytesAt (wData (s.stk.word (a / 64))) (a % 64) n), outEp := s.ap.epEn, poison := true,
                           lastWord := a / 64, lastWrite := false } ∧
        t.stk.mem = s.stk.mem ∧ { t with ap := s.ap, stk := s.stk, evt := s.evt } = s)) ∧
    (open_ → ∀ bs : List Byte, 0 < bs.length → a % 64 + bs.length ≤ 64 → apStop s 1 [a / 64] = none →
      exec (.apertureWrite off bs) s = .next (if bs.length = 64
        then stkWrite (a / 64) bs 0 (s.stk.codeAt (pageOf (a / 64))) false false false s
        else stkNarrow (a / 64) (a % 64) bs (s.stk.codeAt (pageOf (a / 64))) s))

/-- Candidates, the target, the DPLL and the oscillator. REF_ACTIVITY_LOSS takes activity, tolerance and qualification at
once and marks a candidate that was qualified as lost. A second's measurement is of the candidates whose source is
there, the line clocks by what their receivers have recovered (log 75); it sets activity, offset, consensus and
tolerance of each, counts the run out of tolerance, takes qualification at 2, and enters the second's control value in
the 3,600 s history. The qualification time qualifies and the wait-to-restore restores only a candidate active and in
tolerance. The target is chosen by the first rule that applies, and choosing again moves the DPLL as the table of R280
says: acquire on another target, holdover or free run without one. The lock criterion moves ACQUIRE to LOCKED with its
event. TIME.REF.COMMAND, TIME.LO.COMP.SET, TIME.LO.LEARN and TIME.TEST refuse what they must and else act; the
oscillator estimate is the polynomial of R274; a learning ends with its fit kept or with TIME_LO_LEARN_FAIL. -/
def Obligations.FrequencyReferences : Prop :=
  (∀ (s : State),
    (∀ k, s.time.force = some k → (s.cand k).active = true → chooseTarget s = some k) ∧
    (s.time.force = none → (∀ k, s.time.manual = some k → (s.cand k).eligible = true → chooseTarget s = some k) ∧
      (s.time.manual = none → followsMate s = false →
        (∀ k, s.time.dpll = .locked → revertive s = false → s.time.selected = some k → (s.cand k).eligible = true → chooseTarget s = some k) ∧
        (s.time.dpll ≠ .locked ∨ revertive s = true → chooseTarget s = topEligible s)))) ∧
  (∀ (ago : Nat) (s : State), s.time.manual = none → let t := retarget ago s
    { t with time := s.time, evt := s.evt } = s ∧ t.time.target = chooseTarget s ∧ t.time.cands = s.time.cands ∧ t.time.history = s.time.history ∧
    (∀ k, chooseTarget s = some k → (s.time.selected = some k ∧ s.time.dpll ≠ .holdover ∧ s.time.dpll ≠ .freeRun → t.time.dpll = s.time.dpll ∧ t.evt = s.evt) ∧
      (¬(s.time.selected = some k ∧ s.time.dpll ≠ .holdover ∧ s.time.dpll ≠ .freeRun) → t.time.dpll = .acquire ∧ t.time.selected = some k ∧
        t.evt = (raise 225 objTime (evtArg 0 k.val 0 0) s).evt)) ∧
    (chooseTarget s = none → s.time.dpll = .holdover ∨ s.time.dpll = .freeRun → t.time.dpll = s.time.dpll) ∧
    (chooseTarget s = none → s.time.dpll ≠ .holdover → s.time.dpll ≠ .freeRun →
      let span := if historyQualified s.time.history then holdoverSpan (s.time.history.drop (30 + ago)) else none
      (∀ v, span = some v → t.time.dpll = .holdover ∧ t.time.selected = none ∧ t.time.control = v ∧ t.time.holdoverValue = v ∧ t.evt = (raise0 227 objTime s).evt) ∧
      (span = none → t.time.dpll = .freeRun ∧ t.time.selected = none ∧ t.time.control = 0 ∧ t.evt = (raise0 228 objTime s).evt))) ∧
  (∀ (k : Fin 12) (s : State), ∃ t, exec (.refActivityLoss k) s = .next t ∧ { t with time := s.time, evt := s.evt } = s ∧ (t.cand k).active = false ∧
    (t.cand k).inTol = false ∧ (t.cand k).qualified = false ∧ (t.cand k).lost = ((s.cand k).qualified || (s.cand k).lost) ∧ ∀ j, j ≠ k → t.cand j = s.cand j) ∧
  (∀ (meas : List (Fin 12 × Int)) (control : Int) (s : State), let offs := refOffsets s meas
    ∃ t, exec (.refMeasurement meas control) s = .next t ∧ { t with time := s.time, evt := s.evt } = s ∧ t.time.loFault = oscFaulty s offs ∧
      t.time.history.tail = (s.time.history.take 3599) ∧ (t.time.history.map (·.1)).head? = some control ∧
      (∀ k o, (k, o) ∈ offs → let x := s.cand k
        let y := t.cand k
        let dev := ((o - consensusFor s k offs).natAbs : Int)
        let good := (oscFaulty s offs || (o.natAbs : Int) ≤ getPar s .r285 objTime 0x20) && dev ≤ getPar s .r285 objTime 0x21
        y.active = true ∧ y.offset = o ∧ y.consensus = consensusFor s k offs ∧ y.inTol = good ∧ y.oot = (if good then 0 else x.oot + 1) ∧
        y.qualified = (x.qualified && y.oot < 2)) ∧
      ∀ k, k ∉ offs.map (·.1) → (s.cand k).oot < 2 → t.cand k = s.cand k) ∧
  (∀ (k : Fin 12) (restore : Bool) (s : State), let x := s.cand k
    (x.active = false ∨ x.inTol = false ∨ restore ≠ x.qualified → exec (.qualificationTimerEnd k restore) s = .next s) ∧
    (x.active = true → x.inTol = true → restore = x.qualified → ∃ t, exec (.qualificationTimerEnd k restore) s = .next t ∧
      { t with time := s.time, evt := s.evt } = s ∧ (t.cand k).qualified = true ∧ (t.cand k).lost = (x.lost && !restore) ∧ ∀ j, j ≠ k → t.cand j = s.cand j)) ∧
  (∀ (s : State), exec .dpllLock s = .next (if s.time.dpll = .acquire then retarget 0 (raise 226 objTime (evtArg 0 ((s.time.selected.map (·.val)).getD 0) 0 0)
      { s with time := { s.time with dpll := .locked } }) else s)) ∧
  (∀ (s : State), let d := oscTemp s - 3200
    let k := s.time.oscCoef
    exec .oscEstimateUpdate s = .next { s with time := { s.time with
      oscEst := k.1 + divRound (k.2.1 * d) 128 + divRound (k.2.2.1 * d * d) (128 ^ 2) + divRound (k.2.2.2 * d * d * d) (128 ^ 3) } }) ∧
  (∀ (fitA fitB fit : Int × Int × Int × Int) (temps : List Int) (s : State),
    (s.time.learning = false → exec (.loLearnEnd fitA fitB fit temps) s = .next s) ∧
    (s.time.learning = true → let fits := ∀ x ∈ temps, ((oscPoly fitA x - oscPoly fitB x).natAbs : Int) ≤ ppmRate 10
      ∃ t, exec (.loLearnEnd fitA fitB fit temps) s = .next t ∧ t.time.learning = false ∧ (fits → t.time.oscCoef = fit ∧ { t with time := s.time, cat := s.cat } = s) ∧
      (¬fits → t = raise0 237 objTime { s with time := { s.time with learning := false } }))) ∧
  (∀ (q : Request) (s : State), runs 0x0B03 q s = true →
    let put := fun (t : TimeState) => exec (.timeRefCommand q) s = .next (complete q.ch q.tag { status := stOk } (retarget 0 { s with time := t }))
    let bad := fun off => exec (.timeRefCommand q) s = .next (complete q.ch q.tag { status := stBadParam, detail := off } s)
    (12 ≤ u8 q 4 → bad 4) ∧ (u8 q 4 < 12 → 3 < u8 q 5 → bad 5) ∧
    ∀ k : Fin 12, u8 q 4 = k.val → (u8 q 5 = 0 → put { s.time with force := some k }) ∧
      (u8 q 5 = 1 → (s.cand k).eligible = true → put { s.time with manual := some k }) ∧
      (u8 q 5 = 1 → (s.cand k).eligible = false → exec (.timeRefCommand q) s = .next (complete q.ch q.tag { status := stBadState } s)) ∧
      (u8 q 5 = 2 → put { s.time with cands := upd s.time.cands k fun c => { c with lockout := true } }) ∧
      (u8 q 5 = 3 → put { s.time with force := none, manual := none, cands := s.time.cands.map fun c => { c with lockout := false } })) ∧
  (∀ (q : Request) (s : State), runs 0x0B04 q s = true → let n := if u8 q 4 = 0 then 32 else 64
    let bad := fun off => exec (.timeLoCompSet q) s = .next (complete q.ch q.tag { status := stBadParam, detail := off } s)
    (1 < u8 q 4 → bad 4) ∧ (u8 q 4 ≤ 1 → n ≤ u8 q 5 → bad 5) ∧
    (u8 q 4 ≤ 1 → u8 q 5 < n → ∃ u, exec (.timeLoCompSet q) s = .next (complete q.ch q.tag { status := stOk } u) ∧ { u with time := s.time, par := s.par, cat := s.cat } = s ∧
      u.time.oscKind = u8 q 4 ∧ u.time.oscIdx = u8 q 5 ∧ u.time.oscCoef = (s64 q 8, s64 q 16, s64 q 24, s64 q 32))) ∧
  (∀ (q : Request) (s : State), runs 0x0B05 q s = true → let bad := u32 q 4 < 3600000 ∨ 604800000 < u32 q 4
    (bad → exec (.timeLoLearn q) s = .next (complete q.ch q.tag { status := stBadParam, detail := 4 } s)) ∧
    (¬bad → s.time.dpll ≠ .locked → exec (.timeLoLearn q) s = .next (complete q.ch q.tag { status := stBadState } s)) ∧
    (¬bad → s.time.dpll = .locked → exec (.timeLoLearn q) s = .next (complete q.ch q.tag { status := stOk } { s with time := { s.time with learning := true } }))) ∧
  ∀ (q : Request) (fault : Word32) (s : State), runs 0x0B0B q s = true →
    (timeBusy s = true → exec (.timeTest q fault) s = .next (complete q.ch q.tag { status := stBadState } s)) ∧
    (timeBusy s = false → exec (.timeTest q fault) s = .next (complete q.ch q.tag
      (okWith (leBytes 1 (b2n (fault != 0)) ++ leBytes 3 0 ++ leBytes 4 fault.toNat))
      (raise0 228 objTime { s with time := { s.time with dpll := .freeRun, lockRun := false, selected := none, control := 0, history := [] } })))

/-- The time of day, its sources, the servo, TIME.SET and TIME.ADJUST, 1PPS_IN. Without a core clock a tick does nothing;
else n ticks advance the counter by n x 1.6 ns x (1 + rho), and a waiting step sets it, unless a snapshot latches.
SLEW_COMPLETE makes up what is left of an adjustment. Choosing the source again leaves all as it is when the same source
is right, and else opens a window with the new source and moves the servo as the table of R261 says. The source timers
withdraw what they time, then choose again. A window's end with samples steps the time by their mean in ACQUIRE and
above the step threshold, slews else, and raises TIME_STEP or, above the TE threshold, TIME_TE_HIGH; without a source it
does nothing else; at each window's end the parameters set in it take effect. TIME.SET and TIME.ADJUST refuse with
ST_BAD_STATE where another source rules, refuse a bad field, and else set the step or add the offset. An edge of less
than 100 ns does nothing; one without a message clears the run; one with a message that follows the last by 1 s adds to
the run and gives the sample of R260 while PPS is in use. Loss of 1PPS_IN raises TIME_PPS_IN_LOS once, and the candidate
without its source loses activity. -/
def Obligations.TimeOfDay : Prop :=
  (∀ (n : Nat) (s : State),
    (coreUp s = false → exec (.timeTick n) s = .next s) ∧
    (coreUp s = true → s.time.adjust = 0 → s.time.stepBy = none →
      (s.time.stepTo = none ∨ latching s = true → exec (.timeTick n) s = .next { s with dev := { s.dev with ticks := s.dev.ticks + n }, time := { s.time with tod := s.time.tod + ((n : Int) * 8 * (2 ^ 48 + s.time.rho)).toNat } }) ∧
      (∀ v, s.time.stepTo = some v → latching s = false → ∃ t, exec (.timeTick n) s = .next t ∧ t.time.tod = v * todUnit ∧ t.time.stepTo = none ∧
        t.dev = { s.dev with ticks := s.dev.ticks + n } ∧ { t with dev := s.dev, time := s.time, cen := s.cen } = s)) ∧
    (coreUp s = true → 0 ≤ s.time.adjust → s.time.stepTo = none → s.time.stepBy = none → ∃ t, exec (.timeTick n) s = .next t ∧
      t.time.adjust = s.time.adjust - min s.time.adjust (n * 8 * max 0 (slewLimit s)))) ∧
  (∀ (s : State), exec .slewComplete s = .next { s with time := { s.time with tod := Int.toNat ((s.time.tod : Int) + s.time.adjust), adjust := 0 } }) ∧
  (∀ (s : State), (s.time.primary10 = true → ∃ p, primary s = some p ∧ sourceValid s p = true) → let src := chooseSource s
    let t := reselect s
    (src = s.time.inUse → t = s) ∧
    (src ≠ s.time.inUse → { t with time := s.time, evt := s.evt, par := s.par } = s ∧ t.par = s.par.release .r285 objTime ∧ t.time.inUse = src ∧ t.time.winSum = 0 ∧ t.time.winCount = 0 ∧
      t.time.servo = (match src, s.time.servo with
        | none, .acquire => .holdover
        | none, .locked => .holdover
        | some _, .free => .acquire
        | some _, .holdover => .locked
        | _, x => x) ∧
      (src = none → s.time.servo = .acquire ∨ s.time.servo = .locked → t.time.traceable = false ∧
        t.evt = (raise0 231 objTime (raise0 230 objTime s)).evt) ∧
      (src.isSome → t.evt = (raise0 230 (sourceObj src) s).evt))) ∧
  (∀ (s : State),
    exec (.timeSourceTimer .ppsEdgeMissing) s = .next (reselect { s with time := { s.time with ppsRun := 0 } }) ∧
    exec (.timeSourceTimer .todMessageMissing) s = .next (reselect { s with time := { s.time with ppsRun := 0, todMsg := none } }) ∧
    (∀ c g, exec (.timeSourceTimer (.burstMissing c g)) s = .next (reselect (onLink c g (fun l => { l with burstFresh := false }) s))) ∧
    (primary s = none → exec (.timeSourceTimer .primaryTenSeconds) s = .next s) ∧
    (∀ p, primary s = some p → sourceValid s p = true → exec (.timeSourceTimer .primaryTenSeconds) s = .next (reselect { s with time := { s.time with primary10 := true } }))) ∧
  (∀ (s : State),
    (s.time.inUse = none ∨ (s.time.winCount = 0 ∧ s.time.inUse ≠ some .host) → exec .servoWindowEnd s = .next { s with par := s.par.release .r285 objTime }) ∧
    (∀ src, s.time.inUse = some src → s.time.winCount ≠ 0 →
      let rel := fun (x : State) => { x with par := x.par.release .r285 objTime }
      let th := divRound s.time.winSum s.time.winCount
      let u : State := { s with time := { s.time with thetaBar := th, winSum := 0, winCount := 0 } }
      let step := fun (x : State) => raise 232 objTime (evtArg 0 0 0 (codeOf 64 th)) { x with time := { x.time with stepBy := some th, todValid := true, steps := bump x.time.steps } }
      let far := divRound (getPar s .r285 objTime 0xB0 * 65536) 1 < (th.natAbs : Int)
      let high := getPar s .r285 objTime 0xC0 * 65536 < (th.natAbs : Int)
      (s.time.servo = .acquire → exec .servoWindowEnd s = .next (pmAlign s (rel (followSource (step { u with time := { u.time with servo := .locked } }))))) ∧
      (s.time.servo = .locked → far → exec .servoWindowEnd s = .next (pmAlign s (rel (followSource (step u))))) ∧
      (s.time.servo = .locked → ¬far → ¬high → exec .servoWindowEnd s = .next (pmAlign s (rel (followSource (slew th u))))) ∧
      (s.time.servo = .locked → ¬far → high → exec .servoWindowEnd s = .next (pmAlign s
        (rel (raise 233 objTime (evtArg 0 0 0 (codeOf 64 (divRound th 256))) (followSource (slew th u))))))) ∧
    ∀ (th : Int), (slew th s).time.rhoInt = s.time.rhoInt + divRound (th * windowMs s * 2 ^ 32) (getPar s .r285 objTime 0xD0 * getPar s .r285 objTime 0xD0 * 1000000).toNat ∧
      (slew th s).time.rho = clampAbs (slewLimit s) ((slew th s).time.rhoInt + divRound (th * 2 ^ 32) (getPar s .r285 objTime 0xD0 * 1000000).toNat)) ∧
  (∀ (q : Request) (s : State), runs 0x0B07 q s = true →
    let v := stampVal { sec := u48 q 4, ns := u32 q 12, frac := u16 q 10 }
    let u : State := { s with time := { s.time with stepTo := some v, todValid := true, hostSet := true, steps := bump s.time.steps } }
    (hostRules s = false → exec (.timeSet q) s = .next (complete q.ch q.tag { status := stBadState } s)) ∧
    (hostRules s = true → 999999999 < u32 q 12 → exec (.timeSet q) s = .next (complete q.ch q.tag { status := stBadParam, detail := 12 } s)) ∧
    (hostRules s = true → u32 q 12 ≤ 999999999 → exec (.timeSet q) s = .next (complete q.ch q.tag { status := stOk }
      (reselect (raise 232 objTime (evtArg 0 0 0 (codeOf 64 ((v : Int) - s.tod16))) u))))) ∧
  (∀ (q : Request) (s : State), runs 0x0B08 q s = true →
    (hostRules s = false → exec (.timeAdjust q) s = .next (complete q.ch q.tag { status := stBadState } s)) ∧
    (hostRules s = true → fracPerSec < (s64 q 8).natAbs → exec (.timeAdjust q) s = .next (complete q.ch q.tag { status := stBadParam, detail := 8 } s)) ∧
    (hostRules s = true → (s64 q 8).natAbs ≤ fracPerSec → exec (.timeAdjust q) s = .next (complete q.ch q.tag { status := stOk }
      { s with time := { s.time with adjust := s.time.adjust + s64 q 8 * todUnit } }))) ∧
  (∀ (sub : Fin 400) (width : Nat) (s : State), let st := s.tod16 + sub.val * 4 * 65536 / 1000
    (width < 100 → exec (.ppsInEdge sub width) s = .next s) ∧
    (100 ≤ width → s.time.ppsLos = false → s.time.todMsg = none → exec (.ppsInEdge sub width) s =
      .next (reselect { s with time := { s.time with ppsRun := 0, ppsLast := some st, ppsLastTick := s.dev.ticks } })) ∧
    (∀ m, 100 ≤ width → s.time.ppsLos = false → s.time.todMsg = some m →
      let u := reselect { s with time := { s.time with ppsRun := (if edgeSpacingOk s then s.time.ppsRun + 1 else 0), ppsLast := some st, ppsLastTick := s.dev.ticks, lastNamed := some m.sec, todMsg := none } }
      ∃ t, exec (.ppsInEdge sub width) s = .next t ∧ { t with time := u.time, cen := u.cen } = u ∧ (u.time.inUse ≠ some .pps → t.time = u.time) ∧
        (u.time.inUse = some .pps → t.time.winCount = u.time.winCount + 1 ∧ t.time.utcOffset = m.utcOffset ∧ t.time.utcValid = bit m.flags 3 ∧
          t.time.winSum = u.time.winSum + (((m.sec * fracPerSec : Nat) : Int) - ((st : Int) - divRound (getPar s .r285 objTime 0xF0 * 65536) 16000))))) ∧
  ∀ (s : State), (s.time.ppsLos = true → exec .ppsInLos s = .next (refLosses s)) ∧
    (s.time.ppsLos = false → exec .ppsInLos s = .next (refLosses (reselect (raise 234 objTime (evtArg 1 4 0 0) { s with time := { s.time with ppsLos := true, ppsRun := 0 } }))))

/-- Serial time, Colophon records and samples, TIME bursts and the transparent clock. A TOD_IN message that is good is kept
for its edge, another is discarded, counted and raises TIME_TODIN_ERR. 1PPS_OUT marks its second while it is driven and
none else; TOD_OUT then sends the message that names the next second. A Colophon record, descrambled, that comes
poisoned from its Chute or fails its CRC is counted and else kept by its KIND; a sample is formed from the latest pairs
within 16 volumes as R267 computes it, and enters the window of the link in use. One TIME burst of 40 bytes is queued
for a link whose role is not OFF. The transparent clock stamps ingress messages of the handled types and corrects egress
ones on a bond where it acts, counts what R271 and R272 count, raises PTP_TC_LIMIT above 268 ms, and passes other
messages unchanged; PTP.TC.SET refuses a value above 1 and a bond that is not Ethernet in TERMINATE. -/
def Obligations.TimeMessages : Prop :=
  (∀ (bs : List Byte) (s : State),
    (todInOk bs s = true → exec (.todInMessage bs) s = .next { s with time := { s.time with
      todMsg := some { sec := beAt bs 4 6, flags := byteAt bs 3, utcOffset := signedOf 16 (beAt bs 10 2) } } }) ∧
    (todInOk bs s = false → exec (.todInMessage bs) s = .next (raise 235 objTime (evtArg 0 0 0 0)
      { s with time := { s.time with todInErrs := bump s.time.todInErrs, lastNamed := none } })) ∧
    (todInOk bs s = true → bs.length = 16 ∧ beAt bs 14 2 = crc16 (bs.take 14) ∧ byteAt bs 0 = 0x5A ∧ byteAt bs 1 = 0xA5 ∧
      62500000 ≤ s.dev.ticks - s.time.ppsLastTick ∧ ∀ n, s.time.lastNamed = some n → beAt bs 4 6 = n + 1)) ∧
  (∀ (s : State), let on := if getPar s .r285 objTime 0x101 = 0 then s.time.servo = .locked ∨ s.time.servo = .holdover else s.time.todValid = true
    (¬on → exec .ppsOutEdge s = .next { s with time := { s.time with ppsOutSec := none, ppsOutWidth := 0 } } ∧ exec .todOutSend s = .next s) ∧
    (on → exec .ppsOutEdge s = .next { s with time := { s.time with
      ppsOutSec := some ((s.tod16 + (divRound (getPar s .r285 objTime 0xF1 * 65536) 16000).toNat) / fracPerSec), ppsOutWidth := getParN s .r285 objTime 0x100 } }) ∧
    (s.time.ppsOutSec = none → exec .todOutSend s = .next s) ∧
    (∀ n, on → s.time.ppsOutSec = some n → exec .todOutSend s = .next { s with time := { s.time with todOut := todOutMessage s.time (n + 1) :: s.time.todOut } })) ∧
  (∀ (c : Fin 2) (g : Fin 16) (raw : List Byte) (s : State), let p := chutePoison (10 + c.val) 23 s
    let u := p.2
    let bs := ohField 160 (padTo 16 raw)
    let bad := p.1 ≠ [] ∨ beAt bs 14 2 ≠ crc16 (bytesAt bs 0 14)
    let st := stampVal { sec := beAt bs 2 6, ns := beAt bs 8 4, frac := beAt bs 12 2 }
    let kind := byteAt bs 0 / 64
    (bad → exec (.colophonRecordReceived c g raw) s = .next (reselect { u with time := { u.time with crcFails := bump u.time.crcFails } })) ∧
    (¬bad → kind = 1 → exec (.colophonRecordReceived c g raw) s = .next (reselect (onLink c g (fun l => { l with farTx := some (byteAt bs 1, st), goodTx := true }) u))) ∧
    (¬bad → kind = 2 → exec (.colophonRecordReceived c g raw) s = .next (reselect (onLink c g (fun l => { l with farRx := some (byteAt bs 1, st), goodRx := true }) u))) ∧
    (¬bad → kind ≠ 1 → kind ≠ 2 → exec (.colophonRecordReceived c g raw) s = .next (reselect u))) ∧
  (∀ (c : Fin 2) (g : Fin 16) (s : State), let l := s.lnk c g
    (l.farRx = none ∨ l.farTx = none ∨ l.burst = none → exec (.colophonSample c g) s = .next (reselect (onLink c g (fun l => { l with goodTx := false, goodRx := false }) s))) ∧
    (∀ rx tx b t1 t4, l.farRx = some rx → l.farTx = some tx → l.burst = some b → stampFor (s.fol c g).txVolume l.tx rx.1 = some t1 → stampFor (s.fol c g).rxVolume l.rx tx.1 = some t4 →
      let dOut : Int := ((rx.2 : Int) * 125 - b.dlyRx * 512) - ((t1 : Int) * 125 + linkPar s c g 0xE2 * 512)
      let dIn : Int := ((t4 : Int) * 125 - linkPar s c g 0xE3 * 512) - ((tx.2 : Int) * 125 + b.dlyTx * 512)
      let a := asymmetry s c g b
      let th := divRound (dOut - dIn - a) 2
      let u := reselect (onLink c g (fun l => { l with theta := th, mpd := divRound (dOut + dIn) 2, asym := a }) s.drawn)
      let clear := onLink c g (fun l => { l with goodTx := false, goodRx := false })
      exec (.colophonSample c g) s = .next (if u.time.inUse = some (.colophon c g) then clear { u with time := { u.time with
        winSum := u.time.winSum + divRound th 125, winCount := u.time.winCount + 1 } } else clear u)) ∧
    ∀ b : TimeBurst, (linkPar s c g 0xE5 = 1 → asymmetry s c g b = linkPar s c g 0xE4 * 512) ∧
      (linkPar s c g 0xE5 ≠ 1 → linkPar s c g 0xE1 ≠ 0 → b.freq ≠ 0 → asymmetry s c g b =
        divRound ((b.cdTotal + (s.rxg c g).cdTotal) * 299792458000 * (b.freq - linkPar s c g 0xE1) * 8192) (32 * linkPar s c g 0xE1 * b.freq).toNat + linkPar s c g 0xE4 * 512)) ∧
  (∀ (c : Fin 2) (g : Fin 16) (s : State), (linkRole s c g = 0 → exec (.timeBurstSend c g) s = .next s) ∧
    (linkRole s c g ≠ 0 → exec (.timeBurstSend c g) s = .next (ilEnqueue c 2 (ilPeer s g) (timeBurstBytes s c g) s)) ∧ (timeBurstBytes s c g).length = 40) ∧
  (∀ (b : Fin 48) (sub : Fin 26) (m : PtpMsg) (s : State), let now := (s.tod16 / 4096 + sub.val) % 2 ^ 32
    let put := fun f : PtpBond → PtpBond => ({ s with time := { s.time with ptp := upd s.time.ptp b f } } : State)
    (tcOn s b = false ∨ m.handled = false → exec (.ptpIngress b sub m) s = .next (put fun p => { p with last := some m }) ∧ exec (.ptpEgress b sub m) s = .next (put fun p => { p with last := some m })) ∧
    (tcOn s b = true → m.handled = true → exec (.ptpIngress b sub m) s = .next (put fun p => { p with nonZero := (if m.field = 0 then p.nonZero else bump p.nonZero), last := some { m with field := now, carry := carryAfter m.carry m.field now } })) ∧
    (tcOn s b = true → m.handled = true → let d := (now + 2 ^ 32 - m.field % 2 ^ 32) % 2 ^ 32
      ∃ (t : State) (x : PtpMsg), exec (.ptpEgress b sub m) s = .next (if 268000000 * 16 < d then raise 236 (objBond b) (evtArg 0 0 0 0) t else t) ∧
        { t with time := s.time } = s ∧ x.field = 0 ∧ x.correction = (m.correction + d * 4096) % 2 ^ 64 ∧ x.tags = m.tags ∧ x.mtype = m.mtype ∧ t.time.ptp[b].last = some x ∧
        t.time.ptp[b].corrected = bump s.time.ptp[b].corrected ∧
        t.time.ptp[b].notLocked = (if s.time.servo = .locked then s.time.ptp[b].notLocked else bump s.time.ptp[b].notLocked) ∧
        t.time.ptp[b].overLimit = (if 268000000 * 16 < d then bump s.time.ptp[b].overLimit else s.time.ptp[b].overLimit) ∧
        (∀ j, j ≠ b → t.time.ptp[j] = s.time.ptp[j]) ∧ { t.time with ptp := s.time.ptp } = s.time)) ∧
  (∀ (s : State) (b : Fin 48) (v : BodyVal), bodyOf s 0x0B10 (objBond b) = some v → byteAt v.body 4 = 1 → ethTerminate s.bonds[b] = true → tcOn s b = true) ∧
  ∀ (q : Request) (s : State), runs 0x0B10 q s = true → let eth := ethTerminate (getNat {} s.bonds (objIndex q))
    (1 < u8 q 4 → exec (.ptpTcSet q) s = .next (complete q.ch q.tag { status := stBadParam, detail := 4 } s)) ∧
    (u8 q 4 ≤ 1 → eth = false → exec (.ptpTcSet q) s = .next (complete q.ch q.tag { status := stBadState } s)) ∧
    (u8 q 4 ≤ 1 → eth = true → exec (.ptpTcSet q) s = .next (complete q.ch q.tag { status := stOk } (keepBody 0x0B10 q s)))

/-- Lane provisioning, lane states, tests and loopbacks. LANE.PROVISION refuses a provisioned lane or a held octet, each bad
field and the want of a synthesiser, and else requests the octet's domain. LANE.DEPROVISION refuses a bonded lane and
else brings the lane to OFF. LOS takes any lane but OFF to WAIT, masked in SLEEP, and its clearing leads on from WAIT;
LOL takes an UP lane to TRAIN, or AN in AN_KR; a negotiation leads to TRAIN when the partner advertises the technology
of the lane's bond, and else raises LANE_AN_FAIL; training complete brings a lane UP with LANE_UP; the timeout of a lane
in TRAIN that has not trained (in a step of the mate link, at both ends) raises LANE_TRAIN_FAIL and leads to WAIT. In
any other state these events do nothing. LANE.TEST.SET and LANE.LOOPBACK.SET refuse bad fields and a lane in use without
force, and else set the generator, checker and loopback, which is in force at the relock. LANE.MATE.RETRAIN refuses a
lane out of the mate link and else restarts it. -/
def Obligations.LaneBringUp : Prop :=
  (∀ (l : Fin 48) (st : LaneState) (s : State), (∀ b : Fin 48, ¬(s.bonds[b].provisioned = true ∧ b.val ≤ l.val ∧ l.val < b.val + s.bonds[b].k)) →
    laneTo l st s = onLane l (fun x => { x.account s.dev.ticks with st := st, txDir := .active, rxDir := .active }) s) ∧
  (∀ (l : Fin 48) (q : Request) (s : State), objIndex q = l.val → runs 0x0C01 q s = true →
    let refuse := fun (r : Resp) => exec (.laneProvision q) s = .next (complete q.ch q.tag r s)
    let badTaps := (tapsOf q).getD 3 0 ≤ 0 ∨ 128 < ((tapsOf q).map Int.natAbs).sum
    let badMode := 3 < u8 q 8 ∨ (u8 q 8 = 3 ∧ l.val < 32)
    (s.lanes[l].provisioned = true ∨ stopHeld (2 + l.val / 8) s → refuse { status := stBadState }) ∧
    (s.lanes[l].provisioned = false → ¬stopHeld (2 + l.val / 8) s →
      ((∀ r ∈ laneRates, r.1 ≠ u32 q 4) → refuse { status := stBadParam, detail := 4 }) ∧
      ((∃ r ∈ laneRates, r.1 = u32 q 4) → (badMode → refuse { status := stBadParam, detail := 8 }) ∧
        (¬badMode → badTaps → refuse { status := stBadParam, detail := 12 }) ∧
        (¬badMode → ¬badTaps → (pickSynth s l.val (u32 q 4) = none → refuse { status := stNoCapacity }) ∧
          ∀ y, pickSynth s l.val (u32 q 4) = some y →
            let m : LaneMode := if u8 q 8 = 0 then .anKr else if u8 q 8 = 1 then .training else if u8 q 8 = 2 then .fixed else .stepped
            let u := requestDomain (2 + l.val / 8) .run (beginTransition (.lane l.val) 0x0C01 q (onLane l (fun x => { x with
              provisioned := true, rate := u32 q 4, mode := m, preset := tapsOf q, taps := tapsOf q, synth := y, los := true, lol := false
              excluded := false, stored := [] }) (keepBody 0x0C01 q s)))
            exec (.laneProvision q) s = .next (setPhase q.ch q.tag .started (if u.dom (2 + l.val / 8) = .run then octetUp (l.val / 8) u else u)))))) ∧
  (∀ (l : Fin 48) (q : Request) (s : State), objIndex q = l.val → runs 0x0C02 q s = true →
    ((bondOfLane s l.val).isSome = true → exec (.laneDeprovision q) s = .next (complete q.ch q.tag { status := stBadState } s)) ∧
    ((bondOfLane s l.val).isSome = false →
      let u := onLane l (fun x => { x with provisioned := false, loop := 0, loopNext := none, excluded := false, stored := [] })
        (dropBody 0x0C01 (objLane l.val) (laneTo l .off (terminate (.lane l.val) s)))
      exec (.laneDeprovision q) s = .next (complete q.ch q.tag { status := stOk } (if (linkLanes u).isEmpty then { u with link := {} } else u)))) ∧
  (∀ (l : Fin 48) (s : State), let x := s.lanes[l]
    let fail := isStepped x = true ∧ (s.link.phase = .training ∨ s.link.phase = .soak)
    (x.st = .off ∨ x.los = true ∨ x.rxDir = .sleep → exec (.laneLosDeclare l) s = .next s) ∧
    (x.st ≠ .off → x.los = false → x.rxDir ≠ .sleep → exec (.laneLosDeclare l) s = .next (linkTrained (laneTo l .wait (raiseLane 256 l 1
      (onLane l (fun x => { x with los := true, losCount := bump x.losCount, pass := (if fail then some false else x.pass), trained := x.trained && !decide fail }) s))))) ∧
    (x.st = .off ∨ x.los = false → exec (.laneLosClear l) s = .next s) ∧
    (x.st ≠ .off → x.los = true → let u := raiseLane 256 l 0 (onLane l (fun x => { x with los := false }) s)
      (x.st ≠ .wait → exec (.laneLosClear l) s = .next u) ∧
      (x.st = .wait → x.excluded = true → exec (.laneLosClear l) s = .next (laneTo l .wait u)) ∧
      (x.st = .wait → x.excluded = false → exec (.laneLosClear l) s = .next (if x.mode = .anKr then laneTo l .an u else laneTrain l u))) ∧
    (x.st ≠ .up → exec (.laneLolDeclare l) s = .next s) ∧
    (x.st = .up → let u := raiseLane 257 l 1 (onLane l (fun x => { x with lol := true, lolCount := bump x.lolCount, trained := false, pass := none, taps := if isStepped x then lookupD x.taps s.link.cls x.stored else x.taps }) s)
      exec (.laneLolDeclare l) s = .next (if x.mode = .anKr then laneTo l .an u else laneTrain l u))) ∧
  (∀ (l : Fin 48) (s : State), let x := s.lanes[l]
    let u := raiseLane 258 l 0 (onLane l (fun x => { x with anFails := bump x.anFails }) s)
    (x.st ≠ .an → (∀ techs, exec (.anResolved l techs) s = .next s) ∧ exec (.anTimeout l) s = .next s) ∧
    (x.st = .an → (∀ techs : List (Nat × Nat),
        let common := ∃ b, bondOfLane s l.val = some b ∧ (s.bonds[b].iface, s.bonds[b].k) ∈ techs
        (common → exec (.anResolved l techs) s = .next (laneTrain l s)) ∧ (¬common → exec (.anResolved l techs) s = .next u)) ∧
      exec (.anTimeout l) s = .next (laneWait l u))) ∧
  (∀ (l : Fin 48) (s : State), let x := s.lanes[l]
    (x.st ≠ .train → exec (.laneTrained l) s = .next s) ∧
    (x.st = .train → isStepped x = false ∨ s.link.phase = .up →
      let u := raiseLane 260 l 0 (laneTo l .up (onLane l (fun x => { x with lol := false, trained := isStepped x }) s))
      exec (.laneTrained l) s = .next (if x.lol then raiseLane 257 l 0 u else u)) ∧
    (x.st = .train → isStepped x = true → s.link.phase = .training → x.pass = none →
      exec (.laneTrained l) s = .next (linkTrained (onLane l (fun x => { x with trained := true }) s))) ∧
    let v := raiseLane 259 l 0 (onLane l (fun x => { x with trainFails := bump x.trainFails }) s)
    let done := if isStepped x = true ∧ s.link.phase ≠ .up then x.trained && x.farTrained else x.trained
    (isStepped x = false → x.st ≠ .train ∨ x.trained = true → exec (.trainingTimeout l) s = .next s) ∧
    (done = true → exec (.trainingTimeout l) s = .next s) ∧
    (x.st = .train → done = false → (isStepped x = false → exec (.trainingTimeout l) s = .next (laneWait l v)) ∧
      (isStepped x = true → s.link.phase = .up → exec (.trainingTimeout l) s = .next (raiseLink 263 (laneExclude l v))) ∧
      (isStepped x = true → s.link.phase ≠ .up → exec (.trainingTimeout l) s = .next (linkTrained (onLane l (fun x => { x with pass := some false }) v))))) ∧
  (∀ (q : Request) (seen : LaneSeen) (s : State), let u := laneSees (reqLane q) seen s
    runs 0x0C04 q u = true →
    let x := u.lane (objIndex q)
    let bad := fun off => exec (.laneTestSet q seen) s = .next (complete q.ch q.tag { status := stBadParam, detail := off } u)
    let pam := fun p => 7 ≤ p ∧ p ≤ 9 ∧ x.provisioned = true ∧ classOf x.rate = 0
    let good := u8 q 4 ≤ 11 ∧ ¬pam (u8 q 4) ∧ u8 q 5 ≤ 11 ∧ ¬pam (u8 q 5)
    (11 < u8 q 4 ∨ pam (u8 q 4) → bad 4) ∧ (u8 q 4 ≤ 11 → ¬pam (u8 q 4) → 11 < u8 q 5 ∨ pam (u8 q 5) → bad 5) ∧
    (good → u8 q 6 = 2 ∨ 12 < u8 q 6 → bad 6) ∧
    (good → u8 q 6 ≠ 2 → u8 q 6 ≤ 12 →
      (laneNeedsForce u (objIndex q) = true → bit (u8 q 7) 1 = false → exec (.laneTestSet q seen) s = .next (complete q.ch q.tag { status := stBadState } u)) ∧
      (laneNeedsForce u (objIndex q) = false ∨ bit (u8 q 7) 1 = true → exec (.laneTestSet q seen) s = .next (complete q.ch q.tag { status := stOk }
        (onLane (reqLane q) (fun x => { x with
          gen := u8 q 4, chk := u8 q 5, inject := u8 q 6, injectLive := bit (u8 q 7) 0, user := u64 q 8
          testBits := if bit (u8 q 7) 2 then 0 else x.testBits, testErrs := if bit (u8 q 7) 2 then 0 else x.testErrs
          testSyms := if bit (u8 q 7) 2 then 0 else x.testSyms }) (laneWoken (reqLane q) (keepBody 0x0C04 q u))))))) ∧
  (∀ (q : Request) (s : State), runs 0x0C05 q s = true →
    let bad := fun off => exec (.laneLoopbackSet q) s = .next (complete q.ch q.tag { status := stBadParam, detail := off } s)
    let y := freeSynth s (objIndex q)
    (3 < u8 q 4 → bad 4) ∧ (u8 q 4 ≤ 3 → 1 < u8 q 5 → bad 5) ∧
    (u8 q 4 ≤ 3 → u8 q 5 = 0 → laneNeedsForce s (objIndex q) = true → exec (.laneLoopbackSet q) s = .next (complete q.ch q.tag { status := stBadState } s)) ∧
    (u8 q 4 ≤ 3 → u8 q 5 ≤ 1 → laneNeedsForce s (objIndex q) = false ∨ u8 q 5 = 1 →
      (u8 q 4 = 3 → y = none → exec (.laneLoopbackSet q) s = .next (complete q.ch q.tag { status := stNoCapacity } s)) ∧
      (u8 q 4 ≠ 3 ∨ y.isSome = true → exec (.laneLoopbackSet q) s = .next (complete q.ch q.tag { status := stOk }
        (onLane (reqLane q) (fun x => { x with loopNext := some (u8 q 4), synth := if u8 q 4 = 3 then y.getD x.synth else x.synth })
          (laneWoken (reqLane q) (keepBody 0x0C05 q s))))))) ∧
  (∀ (l : Fin 48) (s : State), ∃ t, exec (.loopbackRelock l) s = .next t ∧ t.lanes[l].loopNext = none ∧
    t.lanes[l].loop = (s.lanes[l].loopNext.getD s.lanes[l].loop) ∧ { t with lanes := s.lanes } = s ∧ ∀ j, j ≠ l → t.lanes[j] = s.lanes[j]) ∧
  ∀ (q : Request) (s : State), runs 0x0C06 q s = true →
    exec (.laneMateRetrain q) s = .next (if isStepped (s.lane (objIndex q)) then complete q.ch q.tag { status := stOk } (linkRestart s)
      else complete q.ch q.tag { status := stBadState } s)

/-- Stepped bring-up of the mate link, and the low-power states of its lanes. A training frame on a lane that is not STEPPED
and in TRAIN has no effect; one with a bad CRC or MARKER is discarded; a good one gives the far end's CAPS, result and
training, fixes the master by SERIAL, works its coefficient request on the taps and, at the end that is not master,
gives the decision and its COUNT; with each the lane sends its own control field, which carries MARKER, lane, class,
result and CRC, and the frames of the lowest lane count the master's decision down to 1. The soak's end settles PASS or
FAIL of every lane of the step from the bits checked and their errors: a lane passes that trained at both ends, did not
fail and kept the step limit. The master's decision is the first rule of R296 that applies, and applying it moves the
link up a class with the failed lanes EXCLUDED, holds it, moves it down with the lanes that passed there, or restarts
it; frames follow the quiet time. Idle entry takes an UP lane with idle enabled from ACTIVE to EI, the sleep delay from
EI to SLEEP, data to ACTIVE; the receive direction follows the markers, a failed exit raises LANE_IDLE_EXIT_FAIL and
wakes as from SLEEP, and a wake that does not lock in time retrains the lane. All else does nothing. -/
def Obligations.MateLinkAndLowPower : Prop :=
  (∀ (l : Fin 48) (fr : List Byte) (s : State), let x := s.lanes[l]
    let good := beAt fr 0 4 = 0x3C5AA5C3 ∧ crc16 (bytesAt fr 0 20) = beAt fr 20 2
    let master := beAt fr 12 8 < Config.serial.toNat
    (isStepped x = false ∨ x.st ≠ .train → exec (.mateTrainingFrame l fr) s = .next s) ∧
    (isStepped x = true → x.st = .train → (¬good → exec (.mateTrainingFrame l fr) s = .next (sendMateFrame l s)) ∧
      (good → ∃ u, exec (.mateTrainingFrame l fr) s = .next (sendMateFrame l (linkTrained u)) ∧
        u.link = { s.link with
          farCaps := byteAt fr 6 % 16, master := decide master
          count := (if master then s.link.count else byteAt fr 11), decision := (if master then s.link.decision else decisionOf (byteAt fr 10) s.link.cls) } ∧
        u.lanes[l] = ({ x with farPass := field (byteAt fr 7) 6 2 == 1, farTrained := bit (byteAt fr 7) 5 } : Lane).coefficient (field (beAt fr 8 2) 12 4) (field (beAt fr 8 2) 10 2) ∧
        (∀ j, j ≠ l → u.lanes[j] = s.lanes[j]) ∧ { u with lanes := s.lanes, link := s.link } = s))) ∧
  (∀ (l : Fin 48) (s : State), let t := sendMateFrame l s
    let f := mateFrameOut s l
    let counts := s.link.master = true ∧ s.link.phase = .decision ∧ (stepLanes s).head? = some l
    t.lanes[l] = { s.lanes[l] with frame := f } ∧ (∀ j, j ≠ l → t.lanes[j] = s.lanes[j]) ∧
    t.link = (if counts then { s.link with count := max 1 (s.link.count - 1) } else s.link) ∧
    { t with lanes := s.lanes, link := s.link, free := s.free } = s ∧
    f.length = 22 ∧ beAt f 0 4 = 0x3C5AA5C3 ∧ byteAt f 4 = (l.val - 32) % 256 ∧ byteAt f 5 = s.link.cls % 256 ∧
    beAt f 20 2 = crc16 (bytesAt f 0 20) % 65536 ∧ ((s.lanes[l]).pass = some true → bit (byteAt f 7) 6 = true ∧ bit (byteAt f 7) 7 = false) ∧
    ((s.lanes[l]).pass = some false → bit (byteAt f 7) 6 = false ∧ bit (byteAt f 7) 7 = true) ∧
    ((s.lanes[l]).pass = none → bit (byteAt f 7) 6 = false ∧ bit (byteAt f 7) 7 = false) ∧ bit (byteAt f 7) 5 = (s.lanes[l]).trained) ∧
  (∀ (x : Lane) (tap op : Nat), let moved := x.taps.modify tap fun v => if op = 1 then v + 1 else if op = 2 then v - 1 else x.preset.getD tap v
    let fits := 0 < moved.getD 3 0 ∧ (moved.map Int.natAbs).sum ≤ 128
    (op = 0 ∨ 4 < tap → x.coefficient tap op = { x with coefStatus := 0 }) ∧
    (op ≠ 0 → tap ≤ 4 → fits → x.coefficient tap op = { x with taps := moved, coefStatus := 1 }) ∧
    (op ≠ 0 → tap ≤ 4 → ¬fits → x.coefficient tap op = { x with coefStatus := 2 })) ∧
  (∀ (ms : List (Nat × Nat)) (s : State), (s.link.phase ≠ .soak → exec (.soakEnd ms) s = .next s) ∧
    (s.link.phase = .soak → ∃ t, exec (.soakEnd ms) s = .next t ∧ t.link = { s.link with phase := .decision, count := (if s.link.master then 64 else s.link.count) } ∧ { t with lanes := s.lanes, link := s.link } = s ∧
      ∀ l : Fin 48, let x := s.lanes[l]
        let m := ms.getD (l.val - 32) (0, 1)
        let p := x.trained && x.farTrained && x.pass != some false && decide (m.2 ^ 100 * 10 ^ matePar s 0x41 ≤ m.1 ^ 100)
        (l ∈ stepLanes s → t.lanes[l] = { x with pass := some p, stored := (if p then putKey s.link.cls x.taps x.stored else x.stored) }) ∧
        (l ∉ stepLanes s → t.lanes[l] = x))) ∧
  (∀ (s : State), let n := ((stepLanes s).filter fun l => s.lanes[l].passed).length
    let enough := matePar s 0x31 ≤ n
    let higher := s.link.cls < 3 ∧ classRate (s.link.cls + 1) ≤ matePar s 0x30 ∧ bit s.link.farCaps (s.link.cls + 1) = true
    (enough → higher → linkDecision s = .up) ∧ (enough → ¬higher → linkDecision s = .hold) ∧ (¬enough → 0 < s.link.cls → linkDecision s = .down) ∧
    (¬enough → s.link.cls = 0 → linkDecision s = .restart)) ∧
  (∀ (s : State), let d := if s.link.master then linkDecision s else s.link.decision
    let done := fun (t : State) => exec .mateDecisionApply s = .next (mateTime (mateProgress t))
    let quiet := fun (s : State) => (stepLanes s).foldl (fun s l => laneTo l .wait s) { s with link := { s.link with phase := .quiet } }
    (s.link.phase ≠ .decision → done s) ∧
    (s.link.phase = .decision → (d = .none → done s) ∧
      (d = .up → let u := (stepLanes s).foldl (fun s l => if s.lanes[l].passed then s else laneExclude l s) s
        done (quiet { u with link := { u.link with cls := u.link.cls + 1, noSoak := false } })) ∧
      (d = .hold → done (linkHold Lane.passed s)) ∧
      (d = .down → let u := (linkLanes s).foldl (fun s' l => onLane l (fun x => { x with excluded := !(x.stored.any fun y => y.1 == s.link.cls - 1) }) s') s
        done (quiet { u with link := { u.link with cls := s.link.cls - 1, noSoak := true } })) ∧
      (d = .restart → done (quiet { s with link := { s.link with cls := 0, noSoak := false } }))) ∧
    exec .mateQuietEnd s = .next (if s.link.phase = .quiet then linkStep s.link.cls s.link.noSoak s else s)) ∧
  (∀ (l : Fin 48) (s : State), let x := s.lanes[l]
    let allowed := isStepped x = true ∧ x.st = .up ∧ lanePar s l.val 0x50 = 1
    (allowed → x.txDir = .active → exec (.idleEntry l) s = .next (onLane l (fun x => { x.account s.dev.ticks with txDir := .ei, eiEntries := bump x.eiEntries }) s)) ∧
    (¬allowed ∨ x.txDir ≠ .active → exec (.idleEntry l) s = .next s) ∧
    (x.txDir = .ei → exec (.keepaliveDue l) s = .next (onLane l (fun x => x.account s.dev.ticks) s)) ∧ (x.txDir ≠ .ei → exec (.keepaliveDue l) s = .next s) ∧
    (x.st = .up → x.txDir = .ei → exec (.sleepDelayEnd l) s = .next (onLane l (fun x => { x.account s.dev.ticks with txDir := .sleep, sleepEntries := bump x.sleepEntries }) s)) ∧
    (x.st ≠ .up ∨ x.txDir ≠ .ei → exec (.sleepDelayEnd l) s = .next s) ∧
    exec (.laneDataToSend l) s = .next (onLane l (fun x => { x.account s.dev.ticks with txDir := .active }) s)) ∧
  ∀ (l : Fin 48) (s : State), let x := s.lanes[l]
    (isStepped x = false ∨ x.st ≠ .up → ∀ m, exec (.laneRxIdleMarker l m) s = .next s) ∧
    (isStepped x = true → x.st = .up →
      exec (.laneRxIdleMarker l .idle) s = .next (onLane l (fun x => { x.account s.dev.ticks with rxDir := .ei }) s) ∧
      exec (.laneRxIdleMarker l .sleep) s = .next (onLane l (fun x => { x.account s.dev.ticks with rxDir := .sleep }) s) ∧
      exec (.laneRxIdleMarker l .keepAlive) s = .next (onLane l (fun x => x.account s.dev.ticks) s)) ∧
    (x.rxDir ≠ .ei → ∀ b, exec (.exitBurstEnd l b) s = .next s) ∧
    (x.rxDir = .ei → exec (.exitBurstEnd l true) s = .next (onLane l (fun x => { x.account s.dev.ticks with rxDir := .active }) s) ∧
      exec (.exitBurstEnd l false) s = .next (raiseLane 261 l 0 (onLane l (fun x => { x.account s.dev.ticks with rxDir := .sleep, exitFails := bump x.exitFails }) s))) ∧
    (x.rxDir = .sleep → exec (.laneWakeRelock l) s = .next (onLane l (fun x => { x.account s.dev.ticks with rxDir := .active }) s)) ∧
    (x.rxDir ≠ .sleep → exec (.laneWakeRelock l) s = .next s) ∧
    (x.st = .up → x.rxDir = .sleep → exec (.wakeTimeEnd l) s = .next (laneTrain l (onLane l (fun x => { x with trained := false, pass := none }) s))) ∧
    (x.st ≠ .up ∨ x.rxDir ≠ .sleep → exec (.wakeTimeEnd l) s = .next s)

namespace Sys2Proof.Machine

/-- Nothing but the Desk differs. -/
def deskOnly (s t : State) : Prop := { t with desk := s.desk } = s

/-- Every channel but `ch` is as it was. -/
def otherChannels (ch : Fin 4) (s t : State) : Prop := ∀ k : Fin 4, k ≠ ch → t.chan k = s.chan k

end Sys2Proof.Machine

/-- What a host write of DESK_REQ_TAIL and of DESK_RSP_HEAD does. A write of DESK_REQ_TAIL or DESK_RSP_HEAD through a path
that does not reach the channel changes nothing; one whose Reserved half is not 0 faults. Otherwise a doorbell value
that would leave the ring with 0 to 64 entries and does not move REQ_TAIL backwards becomes REQ_TAIL; any other is
ignored, sets DOORBELL_ERR and is recorded in DESK_CH_BADTAIL. A write of DESK_RSP_HEAD sets it and frees the bulk slots
of the responses that it passes. Nothing else of the machine changes. -/
def Obligations.DeskHostIndices : Prop :=
  ∀ (p : Path) (ch : Fin 4) (v : Word32) (s : State),
    (chanLive s p ch = false → exec (.deskReqTailWrite p ch v) s = .next s ∧ exec (.deskRspHeadWrite p ch v) s = .next s) ∧
    (chanLive s p ch = true → 65536 ≤ v.toNat →
      exec (.deskReqTailWrite p ch v) s = .fault .reservedFieldWritten ∧
      exec (.deskRspHeadWrite p ch v) s = .fault .reservedFieldWritten) ∧
    (chanLive s p ch = true → v.toNat < 65536 →
      let c := s.chan ch
      let x : Word16 := BitVec.ofNat 16 v.toNat
      (∃ t, exec (.deskReqTailWrite p ch v) s = .next t ∧ deskOnly s t ∧ otherChannels ch s t ∧
        t.chan ch = if (c.reqTail - c.reqHead).toNat ≤ (x - c.reqHead).toNat ∧ (x - c.reqHead).toNat ≤ 64
          then { c with reqTail := x } else { c with doorbellErr := true, badTail := x }) ∧
      ∃ t, exec (.deskRspHeadWrite p ch v) s = .next t ∧ deskOnly s t ∧ otherChannels ch s t ∧
        t.chan ch = { c with rspHead := x, slots := c.slots.filter fun u =>
          match u.unread with
          | some i => decide ((x - c.rspHead).toNat ≤ (i - c.rspHead).toNat)
          | none => true })

/-- A channel reset and its end. A write of DESK_CH_CTRL through a path that does not reach the channel changes nothing, one
with a Reserved bit set faults. Otherwise IRQ_EN takes bit 1; with RESET 1 the channel's READY clears, its requests not
yet started are dropped and the completed responses discarded, the started ones go on. The reset ends when none of them
is left: all four indices and the acceptance count are 0, nothing is outstanding, every bulk slot is free and READY is
set; with no reset in progress, or with a request still going on, nothing changes. No other channel and nothing outside
the Desk changes. -/
def Obligations.DeskChannelReset : Prop :=
  ∀ (p : Path) (ch : Fin 4) (v : Word32) (s : State),
    (chanLive s p ch = false → exec (.deskChReset p ch v) s = .next s) ∧
    (chanLive s p ch = true → 4 ≤ v.toNat → exec (.deskChReset p ch v) s = .fault .reservedFieldWritten) ∧
    (chanLive s p ch = true → v.toNat < 4 → ∃ t, exec (.deskChReset p ch v) s = .next t ∧ deskOnly s t ∧ otherChannels ch s t ∧
      (t.chan ch).irqEn = v.getLsbD 1 ∧
      if v.getLsbD 0 then
        (t.chan ch).ready = false ∧ (t.chan ch).resetting = true ∧ (t.chan ch).done = [] ∧
          (t.chan ch).outst = (s.chan ch).outst.filter (fun o => o.phase == .started)
      else t.chan ch = { s.chan ch with irqEn := v.getLsbD 1 }) ∧
    (((s.chan ch).resetting = false ∨ (s.chan ch).outst ≠ []) → exec (.channelResetComplete ch) s = .next s) ∧
    ((s.chan ch).resetting = true → (s.chan ch).outst = [] → ∃ t, exec (.channelResetComplete ch) s = .next t ∧ deskOnly s t ∧ otherChannels ch s t ∧
      (t.chan ch).reqTail = 0 ∧ (t.chan ch).reqHead = 0 ∧ (t.chan ch).rspTail = 0 ∧ (t.chan ch).rspHead = 0 ∧
      (t.chan ch).seq = 0 ∧ (t.chan ch).outstanding = 0 ∧ (t.chan ch).slots = [] ∧ (t.chan ch).ready = true ∧
      (t.chan ch).resetting = false ∧ (t.chan ch).win = (s.chan ch).win)

/-- What the acceptance of a request does to its channel. A request waits in a channel when Yozon serves it, fewer than 32
of its requests are outstanding, its ring is not empty and the test access port does not keep the opcode at REQ_HEAD in
the ring. The turn falls to the first channel after the one served last, in order of number and round to it again, in
which a request waits. In a channel that has the turn and is not in reset the entry at REQ_HEAD is accepted: REQ_HEAD
and the acceptance count advance by 1, exactly one more request is outstanding, and it carries the new count and the
entry's TAG. REQ_TAIL, the response ring and the window stay as they are, and so does everything but that channel. A
channel that does not have the turn is left as it is. -/
def Obligations.DeskAcceptance : Prop :=
  ∀ (ch : Fin 4) (s : State),
    let waits (k : Fin 4) := accepting s k = true ∧ (s.chan k).reqHead ≠ (s.chan k).reqTail ∧ tapHolds s (natAt (s.chan k).entry 0 2) = false
    (nextTurn s = some ch → waits ch) ∧
    (waits ch → ∃ k n, nextTurn s = some k ∧ waits k ∧ n < 4 ∧ k = s.desk.served + 1 + (BitVec.ofNat 2 n).toFin ∧
      ∀ m < n, ¬ waits (s.desk.served + 1 + (BitVec.ofNat 2 m).toFin)) ∧
    (nextTurn s ≠ some ch → exec (.requestAccept ch) s = .next s) ∧
    (nextTurn s = some ch → (s.chan ch).resetting = false →
      ∃ t, exec (.requestAccept ch) s = .next t ∧ deskOnly s t ∧ otherChannels ch s t ∧ t.desk.served = ch ∧
        (t.chan ch).reqHead = (s.chan ch).reqHead + 1 ∧ (t.chan ch).seq = (s.chan ch).seq + 1 ∧
        (t.chan ch).outstanding = (s.chan ch).outstanding + 1 ∧ (t.chan ch).reqTail = (s.chan ch).reqTail ∧
        (t.chan ch).rspTail = (s.chan ch).rspTail ∧ (t.chan ch).rspHead = (s.chan ch).rspHead ∧ (t.chan ch).win = (s.chan ch).win ∧
        ((∃ o, (t.chan ch).outst = (s.chan ch).outst ++ [o] ∧ (t.chan ch).done = (s.chan ch).done ∧ o.seq = (s.chan ch).seq + 1 ∧
            o.req.tag = BitVec.ofNat 16 (natAt (s.chan ch).entry 2 2) ∧ o.op = natAt (s.chan ch).entry 0 2) ∨
          ∃ d, (t.chan ch).done = (s.chan ch).done ++ [d] ∧ (t.chan ch).outst = (s.chan ch).outst ∧ d.seq = (s.chan ch).seq + 1 ∧
            d.tag = BitVec.ofNat 16 (natAt (s.chan ch).entry 2 2) ∧
            (d.status = stBadEntry ∨ d.status = stBadOpcode ∨ d.status = stDenied)))

/-- How a completed response is written. With a completed response waiting, fewer than 64 entries in the response ring and
no activation in progress, the oldest completed response leaves its queue: the 256 bytes of the ring slot at RSP_TAIL
read as its entry, the response bytes of its bulk slot stand in that slot, RSP_TAIL advances by 1, one request fewer is
outstanding, and with IRQ_EN set DESK_RSP_READY of the channel (event 4 + c) is pending in EVT_STATUS. Nothing changes
but that channel, the event tree and, in IDLE, the gating of the idle core's clocks. With no response waiting or a full
ring nothing is written. -/
def Obligations.DeskResponseWritten : Prop :=
  ∀ (ch : Fin 4) (s : State), s.desk.activating = false →
    ((s.chan ch).done = [] ∨ 64 ≤ ((s.chan ch).rspTail - (s.chan ch).rspHead).toNat →
      ∃ t, exec (.responseWrite ch) s = .next t ∧ t.desk = s.desk ∧ { t with pwr := s.pwr } = s) ∧
    ∀ (d : Done) (rest : List Done), (s.chan ch).done = d :: rest → ((s.chan ch).rspTail - (s.chan ch).rspHead).toNat < 64 →
      d.payload.length ≤ 224 → d.bulk.length ≤ 4096 → cellsOk (s.chan ch).win = true →
      ∃ t, exec (.responseWrite ch) s = .next t ∧ { t with desk := s.desk, evt := s.evt, pwr := s.pwr } = s ∧
        otherChannels ch s t ∧ (t.chan ch).rspTail = (s.chan ch).rspTail + 1 ∧ (t.chan ch).done = rest ∧
        (t.chan ch).outst = (s.chan ch).outst ∧ (t.chan ch).outstanding + 1 = (s.chan ch).outstanding ∧
        cellGetList (0x4000 + 256 * ((s.chan ch).rspTail.toNat % 64)) 256 (t.chan ch).win = responseEntry d ∧
        (∀ sl, d.slot = some sl → cellGetList (0x8000 + 0x1000 * sl.val) d.bulk.length (t.chan ch).win = d.bulk) ∧
        ((s.chan ch).irqEn = true → t.evt.status.getLsbD (4 + ch.val) = true) ∧
        ((s.chan ch).irqEn = false → t.evt = s.evt)

/-- A hold that passes its limit, a function that gives no reply, and a restart by the watchdog. A request still held when
its hold limit (HOLD_MS, 10,000 ms for 0) has passed since its acceptance leaves the outstanding list and returns
ST_IN_TRANSITION; one that is not held, or whose limit has not passed, goes on. A started request without a reply 1 s
past the completion time of its command returns ST_TIMEOUT, DESK_FUNC_TIMEOUT (event 3) is pending and its function
counts as in transition afterwards. After a restart by the watchdog (outside the trial of an image) no channel has an
accepted request left but for responses that wait, RESTARTS has advanced by 1, RESTARTING is set, READY is clear and
DESK_RESTART (event 8) is pending; READY is set again when the restart ends, unless an entry to SLEEP or its exit keeps
it clear. -/
def Obligations.DeskHoldsAndTimeouts : Prop :=
  (∀ (ch : Fin 4) (tag : Word16) (s : State) (o : Outst), (s.chan ch).find tag = some o → (s.chan ch).resetting = false →
    ((o.phase ≠ .held ∨ waitedUs s o < 1000 * (if o.req.holdMs = 0 then 10000 else o.req.holdMs.toNat)) → exec (.holdLimitExpiry ch tag) s = .next s) ∧
    (o.phase = .held → 1000 * (if o.req.holdMs = 0 then 10000 else o.req.holdMs.toNat) ≤ waitedUs s o → ∃ t, exec (.holdLimitExpiry ch tag) s = .next t ∧ deskOnly s t ∧ otherChannels ch s t ∧
      (t.chan ch).outst = (s.chan ch).outst.filter (fun x => x.req.tag != tag) ∧
      (t.chan ch).done = (s.chan ch).done ++ [doneOf s.dev.ticks o { status := stInTransition }]) ∧
    ((o.phase ≠ .started ∨ waitedUs s o < 1000 * (completionMs s o.op o.req + 1000)) → exec (.functionReplyTimeout ch tag) s = .next s) ∧
    (o.phase = .started → 1000 * (completionMs s o.op o.req + 1000) ≤ waitedUs s o → ∃ t, exec (.functionReplyTimeout ch tag) s = .next t ∧ { t with desk := s.desk, evt := s.evt } = s ∧
      otherChannels ch s t ∧ (t.chan ch).outst = (s.chan ch).outst.filter (fun x => x.req.tag != tag) ∧
      (t.chan ch).done = (s.chan ch).done ++ [doneOf s.dev.ticks o { status := stTimeout }] ∧ t.evt.status.getLsbD 3 = true ∧
      ∀ c, cmdInfo o.op = some c → inTransition (fnOfOp c o.req) t = true)) ∧
  ∀ s : State,
    (s.boot.trial = false → ∃ t, exec .watchdogRestart s = .next t ∧ { t with desk := s.desk, evt := s.evt } = s ∧
      (∀ ch, (t.chan ch).outst = []) ∧ t.desk.restarts = s.desk.restarts + 1 ∧ t.desk.restarting = true ∧ t.desk.ready = false ∧
      t.evt.status.getLsbD 8 = true) ∧
    (s.desk.restarting = true → ∃ t, exec .firmwareRestartReady s = .next t ∧ t.desk.restarting = false ∧
      t.desk.ready = (s.pwr.entering.isNone && !s.pwr.exiting && s.pwr.st != .sleep) ∧
      t.desk.restarts = (if s.desk.activating then s.desk.restarts + 1 else s.desk.restarts) ∧ t.desk.chans = s.desk.chans)

/-- What the records of a parameter command say and set. A parameter request whose first refused field or record lies at a
byte offset returns ST_BAD_PARAM with that DETAIL and changes no parameter, whichever of the parameter commands it is.
In a request that is accepted, record i names a parameter that the command takes, with its Reserved bytes 0, and a value
that the parameter's row allows, read from the record's four value bytes. Once put in force, each parameter named reads
as the last record with its PID says, for every object that the request names, and every other parameter reads as
before. -/
def Obligations.ParameterRecords : Prop :=
  (∀ (q : Request) (s : State) (off : Nat),
    let refused := complete q.ch q.tag { status := stBadParam, detail := off } s
    (parseRecords 0x0211 q = .error off → runs 0x0211 q s = true → exec (.convRotationSet q) s = .next refused) ∧
    (parseRecords 0x0301 q = .error off → runs 0x0301 q s = true → exec (.rxdspSet q) s = .next refused) ∧
    (parseRecords 0x0302 q = .error off → runs 0x0302 q s = true → exec (.rxdspCdHint q) s = .next refused) ∧
    (parseRecords 0x0401 q = .error off → runs 0x0401 q s = true → exec (.bitloadPolicySet q) s = .next refused) ∧
    (parseRecords 0x0410 q = .error off → runs 0x0410 q s = true → exec (.txdspSet q) s = .next refused) ∧
    (parseRecords 0x0501 q = .error off → runs 0x0501 q s = true → exec (.decodeSet q) s = .next refused) ∧
    (parseRecords 0x0601 q = .error off → runs 0x0601 q s = true → exec (.interloanSet q) s = .next refused) ∧
    (parseRecords 0x0710 q = .error off → runs 0x0710 q s = true → exec (.cryptSet q) s = .next refused) ∧
    (parseRecords 0x0803 q = .error off → runs 0x0803 q s = true → exec (.framerSet q) s = .next refused) ∧
    (parseRecords 0x0920 q = .error off → runs 0x0920 q s = true → exec (.protProvision q) s = .next refused) ∧
    (parseRecords 0x0A02 q = .error off → runs 0x0A02 q s = true → exec (.stacksSet q) s = .next refused) ∧
    (parseRecords 0x0B01 q = .error off → runs 0x0B01 q s = true → exec (.timeProvision q) s = .next refused) ∧
    (parseRecords 0x0B02 q = .error off → runs 0x0B02 q s = true → exec (.timeRefTableSet q) s = .next refused) ∧
    (parseRecords 0x0B06 q = .error off → runs 0x0B06 q s = true → exec (.timeSourceSet q) s = .next refused) ∧
    (parseRecords 0x0B09 q = .error off → runs 0x0B09 q s = true → exec (.timeLinkSet q) s = .next refused) ∧
    (parseRecords 0x0B0A q = .error off → runs 0x0B0A q s = true → exec (.timePpsSet q) s = .next refused) ∧
    (parseRecords 0x0C03 q = .error off → runs 0x0C03 q s = true → exec (.laneSet q) s = .next refused)) ∧
  ∀ (op : Nat) (q : Request) (rs : List ParRec), parseRecords op q = .ok rs →
    rs.length = u8 q 4 ∧
    (∀ (i : Nat) (r : ParRec), rs[i]? = some r → r.off = 8 + 8 * i ∧ r.row ∈ parTable (tabOf op) ∧ op ∈ r.row.ops ∧
      r.row.pid = u16 q r.off ∧ u8 q (r.off + 2) = 0 ∧ u8 q (r.off + 3) = 0 ∧ r.row.allows r.val = true ∧
      r.val = if r.row.signed then signedOf 32 (u32 q (r.off + 4)) else (u32 q (r.off + 4) : Int)) ∧
    ∀ s : State,
      (∀ a r b, rs = a ++ r :: b → (∀ x ∈ b, x.row.pid ≠ r.row.pid) → ∀ k ∈ scopeKeys r.row.scope q,
        (applyRecs op q rs s).par.get (tabOf op) k r.row.pid = r.val) ∧
      ∀ t k pid, (t ≠ tabOf op ∨ ∀ r ∈ rs, r.row.pid = pid → k ∉ scopeKeys r.row.scope q) →
        (applyRecs op q rs s).par.get t k pid = s.par.get t k pid

/-- When the parameters of a command take effect. Accepted parameter requests complete with ST_OK. Those of STACKS.SET and
TIME.PPS.SET take effect at once and change nothing else; those of INTERLOAN.SET wait while the modem is busy, those of
LANE.SET while the lane is UP (a record for the mate link on a lane that is not stepped is refused with its offset),
those of RXDSP.SET and RXDSP.CD.HINT for a group in TRACK until its next volume and for one that is acquiring until the
next entry to CD_SEARCH, those of TXDSP.SET while the transmitter runs (a bulk set of pre-emphasis is added to the DAC's
own response), those of BITLOAD.POLICY.SET while a proposal is ARMED, those of CRYPT.SET while a change is armed.
TIME.PROVISION is refused with ST_BAD_STATE while a carrier or lane is in use. TIME.SOURCE.SET, TIME.LINK.SET and
TIME.REF.TABLE.SET set their parameters (those of TIME.SOURCE.SET from 0xA0 wait for the next window while a source is
in use, and a switch of source lets what waits take effect) and let the time engine choose again; FRAMER.SET also gives
every unit in frame its new M. -/
def Obligations.ParameterCommands : Prop :=
  ∀ (q : Request) (s : State) (rs : List ParRec),
    let answer (u : State) : Host.Outcome State Fault Refusal := .next (complete q.ch q.tag { status := stOk } u)
    let timeOnly (u : State) : Prop := { u with par := s.par, time := s.time, evt := s.evt } = s
    (parseRecords 0x0A02 q = .ok rs → runs 0x0A02 q s = true → exec (.stacksSet q) s = answer (applyRecs 0x0A02 q rs s)) ∧
    (parseRecords 0x0B0A q = .ok rs → runs 0x0B0A q s = true → exec (.timePpsSet q) s = answer (applyRecs 0x0B0A q rs s)) ∧
    (parseRecords 0x0601 q = .ok rs → runs 0x0601 q s = true → exec (.interloanSet q) s =
      answer (if ilBusy s.il[reqCarrier q] then waitRecs 0x0601 q rs s else applyRecs 0x0601 q rs s)) ∧
    (parseRecords 0x0C03 q = .ok rs → runs 0x0C03 q s = true →
      ((∀ r ∈ rs, r.row.scope = .mateLink → isStepped (s.lane (objIndex q)) = true) → exec (.laneSet q) s =
        answer (if (s.lane (objIndex q)).st = .up then waitRecs 0x0C03 q rs s else applyRecs 0x0C03 q rs s)) ∧
      ∀ a r b, rs = a ++ r :: b → (∀ x ∈ a, x.row.scope ≠ .mateLink) → r.row.scope = .mateLink →
        isStepped (s.lane (objIndex q)) = false →
        exec (.laneSet q) s = .next (complete q.ch q.tag { status := stBadParam, detail := r.off } s)) ∧
    (∀ op, op = 0x0301 ∨ op = 0x0302 → parseRecords op q = .ok rs → runs op q s = true →
      ∃ u, (if op = 0x0301 then exec (.rxdspSet q) s else exec (.rxdspCdHint q) s) = answer u ∧ { u with par := s.par } = s ∧
        let named (v : ParamVal) (g : Fin 16) := v.obj = objCarrier (reqCarrier q) ∨ v.obj = objGroup (reqCarrier q) g
        let st (g : Fin 16) := (s.rxg (reqCarrier q) g).st
        ((∀ v ∈ recVals op q rs, ∀ g, named v g → st g = .off) → u = applyRecs op q rs s) ∧
        ((∀ v ∈ recVals op q rs, ∃ g, named v g ∧ st g = .track) → u = waitRecs op q rs s) ∧
        ((∀ v ∈ recVals op q rs, (∃ g, named v g ∧ st g ≠ .off) ∧ ∀ g, named v g → st g ≠ .track) →
          u = { s with par := (recVals op q rs).foldl Params.waitSearch s.par })) ∧
    (parseRecords 0x0401 q = .ok rs → runs 0x0401 q s = true →
      ((s.txg (reqCarrier q) (reqGroup q)).st = .armed → exec (.bitloadPolicySet q) s = answer (waitRecs 0x0401 q rs s)) ∧
      ((s.txg (reqCarrier q) (reqGroup q)).st ≠ .armed → (s.txg (reqCarrier q) (reqGroup q)).st ≠ .proposed →
        exec (.bitloadPolicySet q) s = answer (applyRecs 0x0401 q rs s))) ∧
    (parseRecords 0x0410 q = .ok rs → runs 0x0410 q s = true →
      (q.bulk = [] → exec (.txdspSet q) s =
        answer (if (s.txc (reqCarrier q)).txOn then waitRecs 0x0410 q rs s else applyRecs 0x0410 q rs s)) ∧
      (q.slot.isSome = true → q.bulk.length = 128 → (∀ i < 64, let v := signedOf 16 (natAt q.bulk (2 * i) 2); 0 ≤ v ∧ v ≤ 1200) →
        let pre := (List.range 64).map fun i => signedOf 16 (natAt q.bulk (2 * i) 2)
        let sum (s : State) (host : List Int) := (List.range 64).map fun i => clampInt 0 1200 ((dacResponse s).getD i 0 + host.getD i 0)
        exec (.txdspSet q) s = answer (if (s.txc (reqCarrier q)).txOn
          then onTx (reqCarrier q) (fun t => { t with preEmphNext := some pre, preEmph := sum s t.hostEmph }) (waitRecs 0x0410 q rs s)
          else onTx (reqCarrier q) (fun t => { t with hostEmph := pre, preEmph := sum s pre }) (applyRecs 0x0410 q rs s)))) ∧
    (parseRecords 0x0B01 q = .ok rs → runs 0x0B01 q s = true →
      (timeBusy s = true → exec (.timeProvision q) s = .next (complete q.ch q.tag { status := stBadState } s)) ∧
      (timeBusy s = false → ∃ u, exec (.timeProvision q) s = answer u ∧ u.par = (applyRecs 0x0B01 q rs s).par ∧ timeOnly u ∧
        (getPar u .r285 objTime 0x10 ≠ getPar s .r285 objTime 0x10 → u.time.history = []) ∧
        (getPar u .r285 objTime 0x10 = getPar s .r285 objTime 0x10 → u.time = s.time))) ∧
    (parseRecords 0x0B06 q = .ok rs → runs 0x0B06 q s = true →
      let now := applyRecs 0x0B06 q (rs.filter fun r => r.row.pid < 0xA0) s
      let later := rs.filter fun r => 0xA0 ≤ r.row.pid
      let set := if s.time.inUse.isSome then waitRecs 0x0B06 q later now else applyRecs 0x0B06 q later now
      ∃ u, exec (.timeSourceSet q) s = answer u ∧ timeOnly u ∧
        u.par = if u.time.inUse = s.time.inUse then set.par else set.par.release .r285 objTime) ∧
    (parseRecords 0x0B09 q = .ok rs → runs 0x0B09 q s = true →
      ∃ u, exec (.timeLinkSet q) s = answer u ∧ timeOnly u ∧
        u.par = if u.time.inUse = s.time.inUse then (applyRecs 0x0B09 q rs s).par else (applyRecs 0x0B09 q rs s).par.release .r285 objTime) ∧
    (parseRecords 0x0B02 q = .ok rs → runs 0x0B02 q s = true → q.slot = none →
      ∃ u, exec (.timeRefTableSet q) s = answer u ∧ u.par = (applyRecs 0x0B02 q rs s).par ∧ timeOnly u ∧ u.time.prio = s.time.prio) ∧
    (parseRecords 0x0B02 q = .ok rs → runs 0x0B02 q s = true → q.slot.isSome = true →
      (prioOk (q.bulk.map (·.toNat)) s = true → ∃ u, exec (.timeRefTableSet q) s = answer u ∧
        u.par = (applyRecs 0x0B02 q rs s).par ∧ timeOnly u ∧ u.time.prio = q.bulk.map (·.toNat)) ∧
      (prioOk (q.bulk.map (·.toNat)) s = false →
        exec (.timeRefTableSet q) s = .next (complete q.ch q.tag { status := stBadParam, detail := 0 } s))) ∧
    (parseRecords 0x0803 q = .ok rs → runs 0x0803 q s = true → ∃ u, exec (.framerSet q) s = answer u ∧
      u.par = (applyRecs 0x0803 q rs s).par ∧ { u with par := s.par, bonds := s.bonds, odum := s.odum, map := s.map } = s) ∧
    (parseRecords 0x0710 q = .ok rs → runs 0x0710 q s = true →
      (∀ off, keyRefused s (reqCarrier q) rs = some off →
        exec (.cryptSet q) s = .next (complete q.ch q.tag { status := stBadParam, detail := off } s)) ∧
      (keyRefused s (reqCarrier q) rs = none → changeArmed s (reqCarrier q) = true →
        exec (.cryptSet q) s = answer (waitRecs 0x0710 q rs s)) ∧
      (keyRefused s (reqCarrier q) rs = none → changeArmed s (reqCarrier q) = false →
        ∃ u, exec (.cryptSet q) s = answer u ∧ u.par = (applyRecs 0x0710 q rs s).par ∧
          { u with par := s.par, crypt := s.crypt, vault := s.vault, evt := s.evt } = s))

/-- What every S command answers. A status command that runs with a bulk slot and its Reserved field 0 returns ST_OK with
the page of its object's items that begins at START: NEXT is the index of the first item not returned or 0 at the end of
the list, COUNT the number of items in the slot, which together take at most 4,096 bytes. It changes nothing but its own
request's completion (a lane's status first takes in what the lane has measured since it was last read). -/
def Obligations.StatusCommands : Prop :=
  (∀ (l : List StatItem) (start : Nat), ∃ (n : Nat) (r : Resp), pageItems l start = .done r ∧ r.status = stOk ∧
    r.payload = leBytes 2 (if start + n < l.length then start + n else 0) ++ leBytes 2 n ++ leBytes 4 0 ∧
    r.bulk = ((l.drop start).take n).flatMap itemBytes ∧ r.bulk.length ≤ 4096 ∧ n ≤ l.length - start ∧
    (n < l.length - start → ∃ i, (l.drop start)[n]? = some i ∧ 4096 < r.bulk.length + (itemBytes i).length)) ∧
  ∀ (q : Request) (s : State), q.slot.isSome = true → u16 q 6 = 0 →
    ∀ answer : Nat → State → Resp, (∀ op u, pageItems (statusItems op q u) (u16 q 4) = .done (answer op u)) →
    (runs 0x0D12 q s = true → exec (.censusStatus q) s = .next (complete q.ch q.tag (answer 0x0D12 s) s)) ∧
    (runs 0x0213 q s = true → exec (.convStatus q) s = .next (complete q.ch q.tag (answer 0x0213 s) s)) ∧
    (runs 0x1013 q s = true → exec (.fwStatus q) s = .next (complete q.ch q.tag (answer 0x1013 s) s)) ∧
    (runs 0x1020 q s = true → exec (.catalogueStatus q) s = .next (complete q.ch q.tag (answer 0x1020 s) s)) ∧
    (runs 0x0701 q s = true → exec (.frameStatus q) s = .next (complete q.ch q.tag (answer 0x0701 s) s)) ∧
    (runs 0x0713 q s = true → exec (.cryptStatus q) s = .next (complete q.ch q.tag (answer 0x0713 s) s)) ∧
    (runs 0x0807 q s = true → exec (.framerStatus q) s = .next (complete q.ch q.tag (answer 0x0807 s) s)) ∧
    (runs 0x0F21 q s = true → exec (.pmbusStatus q) s = .next (complete q.ch q.tag (answer 0x0F21 s) s)) ∧
    (runs 0x0605 q s = true → exec (.interloanStatus q) s = .next (complete q.ch q.tag (answer 0x0605 s) s)) ∧
    (runs 0x0903 q s = true → exec (.mapStatus q) s = .next (complete q.ch q.tag (answer 0x0903 s) s)) ∧
    (runs 0x1203 q s = true → exec (.mateStatus q) s = .next (complete q.ch q.tag (answer 0x1203 s) s)) ∧
    (runs 0x0F04 q s = true → exec (.monStatus q) s = .next (complete q.ch q.tag (answer 0x0F04 s) s)) ∧
    (runs 0x0E04 q s = true → exec (.powerStatus q) s = .next (complete q.ch q.tag (answer 0x0E04 s) s)) ∧
    (runs 0x0923 q s = true → exec (.protStatus q) s = .next (complete q.ch q.tag (answer 0x0923 s) s)) ∧
    (runs 0x0502 q s = true → exec (.decodeStatus q) s = .next (complete q.ch q.tag (answer 0x0502 s) s)) ∧
    (runs 0x0A04 q s = true → exec (.stacksStatus q) s = .next (complete q.ch q.tag (answer 0x0A04 s) s)) ∧
    (runs 0x0304 q s = true → exec (.rxdspStatus q) s = .next (complete q.ch q.tag (answer 0x0304 s) s)) ∧
    (runs 0x1102 q s = true → exec (.safetyStatus q) s = .next (complete q.ch q.tag (answer 0x1102 s) s)) ∧
    (runs 0x0F10 q s = true → exec (.thermalStatus q) s = .next (complete q.ch q.tag (answer 0x0F10 s) s)) ∧
    (runs 0x0B0C q s = true → exec (.timeStatus q) s = .next (complete q.ch q.tag (answer 0x0B0C s) s)) ∧
    (runs 0x0404 q s = true → exec (.bitloadStatus q) s = .next (complete q.ch q.tag (answer 0x0404 s) s)) ∧
    (runs 0x0412 q s = true → exec (.txdspStatus q) s = .next (complete q.ch q.tag (answer 0x0412 s) s)) ∧
    (∀ seen, runs 0x0C07 q (laneSees (reqLane q) seen s) = true →
      exec (.laneStatus q seen) s = .next (complete q.ch q.tag (answer 0x0C07 (laneSees (reqLane q) seen s)) (laneSees (reqLane q) seen s)))

namespace Sys2Proof.Machine

/-- The row that a held request of an opcode runs as, with the operands that `HOLD_RELEASE` supplies. -/
abbrev HeldInstr : Type := Nat × (Request → HeldExtra → Instr)

def heldRows1 : List HeldInstr :=
  [
    (0x0102, fun q _ => .deviceProvision q),
    (0x0201, fun q _ => .carrierProvision q),
    (0x0202, fun q _ => .carrierEnable q),
    (0x0203, fun q _ => .carrierDisable q),
    (0x0210, fun q _ => .convCalibrate q),
    (0x0211, fun q _ => .convRotationSet q),
    (0x0212, fun q _ => .convSliceRetire q),
    (0x0301, fun q _ => .rxdspSet q),
    (0x0302, fun q _ => .rxdspCdHint q),
    (0x0303, fun q _ => .rxdspReacquire q),
    (0x0401, fun q _ => .bitloadPolicySet q),
    (0x0402, fun q _ => .bitloadTableSet q),
    (0x0403, fun q _ => .bitloadCurveSet q),
    (0x0410, fun q _ => .txdspSet q),
    (0x0411, fun q _ => .txdspPredistSet q),
    (0x0501, fun q _ => .decodeSet q),
    (0x0503, fun q _ => .decodePoolRemove q),
    (0x0504, fun q x => .decodePoolRestore q x.failedReaders),
    (0x0505, fun q x => .decodeReaderEnable q x.readerFailed),
    (0x0601, fun q _ => .interloanSet q),
    (0x0602, fun q _ => .interloanScheduleSet q),
    (0x0603, fun q _ => .interloanSend q),
    (0x0604, fun q _ => .interloanRecv q),
    (0x0710, fun q _ => .cryptSet q),
    (0x0711, fun q _ => .cryptPeerSet q),
    (0x0712, fun q _ => .cryptRekey q) ]

def heldRows2 : List HeldInstr :=
  [
    (0x0801, fun q _ => .framerProvision q),
    (0x0802, fun q _ => .framerDeprovision q),
    (0x0803, fun q _ => .framerSet q),
    (0x0804, fun q _ => .framerOhSet q),
    (0x0806, fun q _ => .framerMaintSet q),
    (0x0901, fun q _ => .mapTribAdd q),
    (0x0902, fun q _ => .mapTribRemove q),
    (0x0910, fun q _ => .switchConnect q),
    (0x0911, fun q _ => .switchDisconnect q),
    (0x0920, fun q _ => .protProvision q),
    (0x0921, fun q _ => .protCommand q),
    (0x0922, fun q _ => .protRealign q),
    (0x0A01, fun q _ => .stacksInit q),
    (0x0A02, fun q _ => .stacksSet q),
    (0x0A03, fun q _ => .stacksRetire q),
    (0x0A06, fun q _ => .stacksTrackerClear q),
    (0x0A08, fun q _ => .stacksWordRead q),
    (0x0B01, fun q _ => .timeProvision q),
    (0x0B02, fun q _ => .timeRefTableSet q),
    (0x0B03, fun q _ => .timeRefCommand q),
    (0x0B04, fun q _ => .timeLoCompSet q),
    (0x0B05, fun q _ => .timeLoLearn q),
    (0x0B06, fun q _ => .timeSourceSet q),
    (0x0B07, fun q _ => .timeSet q),
    (0x0B08, fun q _ => .timeAdjust q),
    (0x0B09, fun q _ => .timeLinkSet q),
    (0x0B0A, fun q _ => .timePpsSet q),
    (0x0B0B, fun q x => .timeTest q x.fault),
    (0x0B10, fun q _ => .ptpTcSet q) ]

def heldRows3 : List HeldInstr :=
  [
    (0x0C01, fun q _ => .laneProvision q),
    (0x0C02, fun q _ => .laneDeprovision q),
    (0x0C03, fun q _ => .laneSet q),
    (0x0C04, fun q x => .laneTestSet q x.seen),
    (0x0C05, fun q _ => .laneLoopbackSet q),
    (0x0C06, fun q _ => .laneMateRetrain q),
    (0x0D10, fun q _ => .censusTake q),
    (0x0D11, fun q _ => .censusSet q),
    (0x0E01, fun q _ => .powerDeviceSet q),
    (0x0E02, fun q _ => .powerDomainSet q),
    (0x0E03, fun q _ => .powerWakeSet q),
    (0x0F01, fun q _ => .monRefSet q),
    (0x0F02, fun q _ => .monChannelSet q),
    (0x0F03, fun q _ => .monRead q),
    (0x0F20, fun q _ => .pmbusRailSet q),
    (0x0F30, fun q _ => .gpioSet q),
    (0x1002, fun q _ => .secAttest q),
    (0x1010, fun q _ => .fwLoad q),
    (0x1011, fun q _ => .fwActivate q),
    (0x1012, fun q _ => .fwCommit q),
    (0x1022, fun q _ => .catalogueReset q),
    (0x1201, fun q _ => .mateProvision q),
    (0x1202, fun q x => .mateCommand q x.mateDenies) ]

end Sys2Proof.Machine

/-- DEVICE.INFO, DEVICE.PROVISION and the reading forms. DEVICE.INFO returns ST_OK with the name, the order code, the
hardware revision, the firmware, the serial number, the mode (0xFF when none), the mate role, whether the Stacks are
initialised, the image slot and the seconds since reset, and changes nothing else. DEVICE.PROVISION refuses a MODE above
5 with DETAIL 4, and returns ST_BAD_STATE while anything of the former mode is left or the Stacks are not initialised;
otherwise the mode becomes the one named and the Reserve, the switch buffer and the transmit queue are freed and
allocated anew as the mode needs, none of them for FRAMER, whose LINE, POOL and FRAME domains are then requested to go
to OFF. The reading form of an R command returns its OBJ and the body in force: the one last set, whole, zeros standing
for bytes that the request did not send, but for the fields whose values the device holds itself (for CARRIER.PROVISION
the carrier's own fields, a T of 0 given as the default that it selects); the reading form of a P command with at most
27 parameters returns its OBJ, their count and a record of each, in PID order. -/
def Obligations.DeviceCommands : Prop :=
  ∀ (q : Request) (s : State),
    let info : List Byte := ([0x41, 0x45, 0x54, 0x2D, 0x36, 0x34, 0x34, 0x38] : List Byte) ++ [BitVec.ofNat 8 orderCode] ++ ([0x42, 0x31, 0x00] : List Byte) ++
      leBytes 4 s.boot.fw ++ leBytes 8 Config.serial.toNat ++ leBytes 1 (match s.dev.mode with | some m => m.code | none => 0xFF) ++
      leBytes 1 s.mate.role ++ leBytes 1 (if s.stk.initialised then 1 else 0) ++ leBytes 1 (if s.dev.imageB then 1 else 0) ++
      leBytes 4 (s.dev.ticks / 625000000)
    (runs 0x0101 q s = true → exec (.deviceInfo q) s = .next (complete q.ch q.tag { status := stOk, payload := info } s)) ∧
    (runs 0x0102 q s = true → 5 < u8 q 4 →
      exec (.deviceProvision q) s = .next (complete q.ch q.tag { status := stBadParam, detail := 4 } s)) ∧
    (runs 0x0102 q s = true → u8 q 4 ≤ 5 → stillProvisioned s = true →
      exec (.deviceProvision q) s = .next (complete q.ch q.tag { status := stBadState } s)) ∧
    (runs 0x0102 q s = true → u8 q 4 ≤ 5 → stillProvisioned s = false →
      let k0 := ((s.stk.freeRegion 1).freeRegion 2).freeRegion 3
      let done (k : Stacks) : Prop := ∃ v, let u := if u8 q 4 = 5 then ([0, 1, 8, 9, 10, 11, 12, 13, 14, 15] : List Nat).foldl (fun s d => requestDomain d .off s) v else v
        exec (.deviceProvision q) s = .next (complete q.ch q.tag { status := stOk } (pmSync u)) ∧
        u.stk = k ∧ u.dev = { s.dev with mode := modeOf (u8 q 4) } ∧
        bodyOf u 0x0102 (objOf q) = some { op := 0x0102, obj := objOf q, body := q.body, bulk := q.bulk }
      (u8 q 4 = 5 → done k0) ∧
      (u8 q 4 = 2 → ∀ k1, k0.allocRegion 1 (reservePages s) = some k1 → done k1) ∧
      (u8 q 4 ≠ 2 → u8 q 4 ≠ 5 → ∀ k1 k2, k0.allocRegion 1 (reservePages s) = some k1 → k1.allocRegion 2 256 = some k2 → done k2)) ∧
    (∀ op b, op ∉ [0x0201, 0x0402, 0x0403, 0x0602, 0x0804, 0x0806, 0x0C05] → liveBody op q b s = b) ∧
    (∀ b, let x := s.car (reqCarrier q)
      liveBody 0x0201 q b s = bytesAt b 0 4 ++ (leBytes 4 x.symRate ++ leBytes 1 x.ldpcRate ++ leBytes 1 x.adcFs ++ leBytes 2 x.dacSwing ++
        x.groupMap.flatMap (leBytes 1) ++ x.slices.flatMap (leBytes 1) ++
        ((List.range 16).flatMap fun g => leBytes 2 (let t := x.targets.getD g 0
          if t = 0 then 1705 * (groupSubs s (reqCarrier q) g).length / 16 else t)) ++ leBytes 4 0)) ∧
    (∀ op c b, readingOf op = some c → c.form = .r → c.op ≠ 0x0411 → bodyOf s c.op (objOf q) = some b → runs op q s = true →
      exec (.readingForm op q) s =
        .next (complete q.ch q.tag { status := stOk, payload := leBytes 4 (objOf q) ++ bytesAt (liveBody c.op q b.body s) 4 (defaultBody c.op q s).length, bulk := b.bulk } s)) ∧
    ∀ op c, readingOf op = some c → c.form = .p → runs op q s = true →
      let rows := (parTable (tabOf c.op)).filter fun r => r.ops.contains c.op
      let records := rows.flatMap fun r => recordBytes r.pid (s.par.get (tabOf c.op) (readKey r.scope q) r.pid)
      rows.length ≤ 27 ∨ q.slot.isSome = true → exec (.readingForm op q) s = .next (complete q.ch q.tag
        { status := stOk, payload := leBytes 4 (objOf q) ++ leBytes 2 rows.length ++ leBytes 2 0 ++ records.take 216, bulk := records.drop 216 } s)

/-- A held request that is released runs as its own command. HOLD_RELEASE for a request that is held runs that request
exactly as its own command's row does, with the request as it was accepted, for each of the 78 commands that can be
held; for a tag that is not outstanding, or a request that is not held, it changes nothing. -/
def Obligations.HeldRelease : Prop :=
  ∀ (ch : Fin 4) (tag : Word16) (x : HeldExtra) (s : State),
    ((s.chan ch).find tag = none → exec (.holdRelease ch tag x) s = .next s) ∧
    (∀ o, (s.chan ch).find tag = some o → o.phase ≠ .held → exec (.holdRelease ch tag x) s = .next s) ∧
    ∀ o, (s.chan ch).find tag = some o → o.phase = .held → ∀ r ∈ heldRows1 ++ heldRows2 ++ heldRows3, o.op = r.1 →
      exec (.holdRelease ch tag x) s = exec (r.2 o.req x) s

/-- What an occurrence of an event does. An occurrence of a defined source that no rule limits sets its status bit and no
other, adds 1 to its occurrence count (saturating) and to no other, and, unless it is DESK_RSP_READY, appends one record
with OBJ, ARG and the present time stamp of the island that the source belongs to (log 59), which lies within that
island's clock period and 1 ns of the device time, to a queue that has room; whatever the status bit and the enables
hold. Reserved sources have no occurrence, and an occurrence of a limited event within a second of the last raise for
its scope changes nothing. Nothing but the event tree changes. -/
def Obligations.EventOccurrence : Prop :=
  ∀ (n : Fin 512) (ob : Word32) (a : EvtArg) (s : State),
    (∀ k, ((s.replica k : Int) - s.tod16).natAbs ≤ islandPeriod s k + 65536) ∧
    (eventDefined n.val = false → limitScope n.val ob.toNat a = none → exec (.eventOccurrence n ob a) s = .next s) ∧
    (∀ sc, limitScope n.val ob.toNat a = some sc → s.evt.limitOk s.dev.ticks n.val sc = false → exec (.eventOccurrence n ob a) s = .next s) ∧
    (eventDefined n.val = true → limitScope n.val ob.toNat a = none → s.evt.queue.length < 256 →
      ∃ t, exec (.eventOccurrence n ob a) s = .next t ∧ { t with evt := s.evt } = s ∧
        (∀ m : Nat, t.evt.status.getLsbD m = (s.evt.status.getLsbD m || decide (m = n.val))) ∧
        (∀ m : Fin 512, t.evt.counts[m] = if m = n then bump s.evt.counts[m] else s.evt.counts[m]) ∧
        t.evt.en = s.evt.en ∧ t.evt.lost = s.evt.lost ∧ t.evt.log = s.evt.log ∧
        t.evt.queue = if 4 ≤ n.val ∧ n.val ≤ 7 then s.evt.queue
          else s.evt.queue ++ [{ event := n.val, stamp := stampOf (s.replica (evtIsland n.val ob.toNat a)), obj := ob, arg := a }])

/-- Writes of EVT_STATUS, EVT_EN and EVT_FORCE. Through a path that reaches the event registers, a write of EVT_STATUS
clears exactly the status bits of the group that it writes 1, and a source that occurs in the same cycle stays set; a
write of EVT_EN replaces the enables of the group's defined sources, reserved ones keep their value, and no status bit
changes; a write of EVT_FORCE makes the defined sources written 1 occur, with their status bits set and no bit cleared.
Other groups' enables and statuses stay (but for EVT_LOG_LOST). Through the mate link, or while the path is not served,
the register write changes nothing. -/
def Obligations.EventRegisters : Prop :=
  ∀ (p : Path) (g : Fin 16) (v : Word32) (s : State),
    (evtLive s p = false → exec (.evtEnWrite p g v) s = .next s ∧ exec (.evtForceWrite p g v) s = .next s ∧
      exec (.evtStatusWrite p g v []) s = .next s) ∧
    (evtLive s p = true →
      (∃ t, exec (.evtStatusWrite p g v []) s = .next t ∧ { t with evt := s.evt } = s ∧
        t.evt = { s.evt with status := t.evt.status } ∧
        ∀ m : Nat, t.evt.status.getLsbD m = (s.evt.status.getLsbD m && !(decide (m / 32 = g.val) && v.getLsbD (m % 32)))) ∧
      (∀ (b : Fin 32) (ob : Word32) (a : EvtArg), eventDefined (32 * g.val + b.val) = true →
        limitScope (32 * g.val + b.val) ob.toNat a = none →
        ∃ t, exec (.evtStatusWrite p g v [(b, ob, a)]) s = .next t ∧ { t with evt := s.evt } = s ∧
          t.evt.status.getLsbD (32 * g.val + b.val) = true) ∧
      (∃ t, exec (.evtEnWrite p g v) s = .next t ∧ { t with evt := s.evt } = s ∧ t.evt.status = s.evt.status ∧
        t.evt.queue = s.evt.queue ∧ t.evt.counts = s.evt.counts ∧
        ∀ m : Nat, t.evt.en.getLsbD m = if m / 32 = g.val ∧ eventDefined m = true then v.getLsbD (m % 32) else s.evt.en.getLsbD m) ∧
      (∃ t, exec (.evtForceWrite p g v) s = .next t ∧ { t with evt := s.evt } = s ∧ t.evt.en = s.evt.en ∧
        ∀ m : Nat, m ≠ 11 → t.evt.status.getLsbD m =
          (s.evt.status.getLsbD m || (decide (m / 32 = g.val) && v.getLsbD (m % 32) && eventDefined m))))

/-- The event log and the vectors that cease to be masked. While the Curator takes records, the oldest queued record gets
the next SEQ (1 to 65,535, never 0) and joins the log, which keeps the last 1,024; with no record queued, or while it
takes none, nothing changes. EVENT.LOG.GET from START_SEQ 0 returns the oldest records kept, 128 at most, and changes
nothing else. When a vector ceases to be masked, its pending bit is clear, and one message is sent exactly when that bit
was set and a source routed to it is still pending; vectors whose masking does not change keep their pending bit and
send nothing. -/
def Obligations.EventLogAndVectors : Prop :=
  (∀ s : State, ((s.evt.queue = [] ∨ curatorUp s = false) → exec .logRecordTake s = .next s) ∧
    ∀ r rest, s.evt.queue = r :: rest → curatorUp s = true → ∃ t, exec .logRecordTake s = .next t ∧ { t with evt := s.evt } = s ∧
      t.evt.queue = rest ∧ t.evt.logSeq.toNat = s.evt.logSeq.toNat % 65535 + 1 ∧
      t.evt.log = (s.evt.log ++ [(t.evt.logSeq.toNat, r)]).drop (s.evt.log.length + 1 - 1024) ∧ t.evt.logged = bump s.evt.logged ∧
      t.evt.status = s.evt.status) ∧
  (∀ (q : Request) (s : State), runs 0x0D01 q s = true → u16 q 4 = 0 → ∃ p, exec (.eventLogGet q) s =
    .next (complete q.ch q.tag { status := stOk, payload := leBytes 2 (min 128 s.evt.log.length) ++ p, bulk := (s.evt.log.take 128).flatMap recBytes } s)) ∧
  ∀ (w : MsixBit) (s : State),
    (pathServed s .bar0 = false → exec (.msixUnmask w) s = .next s) ∧
    (pathServed s .bar0 = true → ∃ t, exec (.msixUnmask w) s = .next t ∧ { t with evt := s.evt } = s ∧
      t.evt.status = s.evt.status ∧ t.evt.en = s.evt.en ∧ t.evt.route = s.evt.route ∧
      ∀ v : Nat, v < 32 →
        let due := s.evt.masked v && !t.evt.masked v
        t.evt.pba.getLsbD v = (s.evt.pba.getLsbD v && !due) ∧
        t.evt.sent.count v = s.evt.sent.count v +
          (if due && s.evt.pba.getLsbD v && ((List.range 512).any fun n => s.evt.pend n && s.evt.routedTo n v) then 1 else 0))

/-- Census commands and the Census control register. A CENSUS.TAKE that runs with a good instant while the Stacks are
initialised and no request is pending makes its instant (the first whole millisecond at least 1 ms ahead when zero is
given) the one requested, and the Census is in transition for that request; with a request pending it returns ST_BUSY
and changes nothing else. CENSUS.SET with a PERIOD_MS of 0 or 100 to 3,600,000 puts it in force and returns ST_OK, any
other returns ST_BAD_PARAM with DETAIL 4. Writing TAKE requests the first whole millisecond at least 1 ms ahead, and is
ignored while a request is pending; writing HOLD 1 holds the half of the last complete snapshot (before the first one
the bit alone is set), HOLD 0 releases it. -/
def Obligations.CensusRequests : Prop :=
  (∀ (q : Request) (s : State), runs 0x0D10 q s = true → u32 q 12 ≤ 999999999 → s.stk.initialised = true →
    let zero := u48 q 4 = 0 ∧ u32 q 12 = 0
    let t := if zero then nextInstant s else stampVal { sec := u48 q 4, ns := u32 q 12, frac := 0 }
    (s.tod16 ≤ t → t ≤ s.tod16 + 86400 * fracPerSec → s.cen.want.isSome = true →
      exec (.censusTake q) s = .next (complete q.ch q.tag { status := stBusy } s)) ∧
    (s.tod16 ≤ t → t ≤ s.tod16 + 86400 * fracPerSec → s.cen.want = none → ∃ u, exec (.censusTake q) s = .next (setPhase q.ch q.tag .started u) ∧
      u.cen.want = some t ∧ u.desk.transitions = { fn := .census, op := 0x0D10, by_ := some (q.ch, q.tag) } :: s.desk.transitions ∧
      { u with desk := s.desk, cen := s.cen } = s ∧ u.cen.busy = s.cen.busy)) ∧
  (∀ s : State, nextInstant s % (1000000 * 65536) = 0 ∧ s.tod16 + 1000000 * 65536 ≤ nextInstant s ∧ nextInstant s < s.tod16 + 2 * (1000000 * 65536)) ∧
  (∀ (q : Request) (s : State), runs 0x0D11 q s = true →
    (u32 q 4 = 0 ∨ 100 ≤ u32 q 4 ∧ u32 q 4 ≤ 3600000 → ∃ u, exec (.censusSet q) s = .next (complete q.ch q.tag { status := stOk } u) ∧
      u.cen = { s.cen with periodMs := u32 q 4 } ∧ { u with cen := s.cen, par := s.par } = s ∧ (bodyOf u 0x0D11 (objOf q)).map (·.body) = some q.body) ∧
    (¬(u32 q 4 = 0 ∨ 100 ≤ u32 q 4 ∧ u32 q 4 ≤ 3600000) →
      exec (.censusSet q) s = .next (complete q.ch q.tag { status := stBadParam, detail := 4 } s))) ∧
  ∀ (p : Path) (b : Bool) (s : State),
    (evtLive s p = false → exec (.censusTakeRegister p) s = .next s ∧ exec (.censusHoldWrite p b) s = .next s) ∧
    (evtLive s p = true →
      (s.cen.want.isSome = true → exec (.censusTakeRegister p) s = .next s) ∧
      (s.cen.want = none → s.stk.initialised = true →
        exec (.censusTakeRegister p) s = .next { s with cen := { s.cen with want := some (nextInstant s), wantCmd := false } }) ∧
      exec (.censusHoldWrite p false) s = .next { s with cen := { s.cen with hold := false, held := none } } ∧
      (s.cen.seq = 0 → exec (.censusHoldWrite p true) s = .next { s with cen := { s.cen with hold := true } }) ∧
      (s.cen.seq ≠ 0 → exec (.censusHoldWrite p true) s = .next { s with cen := { s.cen with hold := true, held := some s.cen.lastHalf } }))

/-- How a snapshot begins, latches and completes. A periodic instant that finds another snapshot BUSY is skipped: the
skipped count and SKIPPED follow and CENSUS_SKIPPED (event 10) is pending, nothing else changes. One that finds none
BUSY and none requested for a time reached makes a snapshot BUSY at that instant in the half that is not held (else the
other half than the last one's), with the islands not in RUN as the ones that supply saved values. An island's latch
with no snapshot in progress or requested, or of an island that has latched, changes nothing; the first latch of an
island at or after the instant by its own replica of the time of day puts it among the latched ones. When every island
has latched and no mark stands in a Chute, the end of the writing ends BUSY: SEQ advances by 1, the snapshot's half is
the last one's, snapshots taken counts it and CENSUS_DONE (event 9) is pending; before that it changes nothing. -/
def Obligations.CensusSnapshots : Prop :=
  (∀ (s : State) (b : Snapshot), s.cen.periodMs ≠ 0 → s.stk.initialised = true → s.cen.busy = some b →
    b.t ≠ s.tod16 / (s.cen.periodMs * fracPerMs) * (s.cen.periodMs * fracPerMs) →
    ∃ t, exec .censusPeriodicInstant s = .next t ∧ { t with cen := s.cen, evt := s.evt } = s ∧
      t.cen = { s.cen with skipped := bump s.cen.skipped, skippedBit := true } ∧ t.evt.status.getLsbD 10 = true) ∧
  (∀ s : State, s.cen.periodMs ≠ 0 → s.stk.initialised = true → s.cen.busy = none → s.cen.want = none →
    ∃ t b, exec .censusPeriodicInstant s = .next t ∧ t.cen.busy = some b ∧
      b.t = s.tod16 / (s.cen.periodMs * fracPerMs) * (s.cen.periodMs * fracPerMs) ∧
      b.half = (match s.cen.held with | some h => 1 - h | none => if s.cen.seq = 0 then 0 else 1 - s.cen.lastHalf) ∧
      b.saved = (List.range 27).filter (fun k => !islandRun s k) ∧ t.cen.seq = s.cen.seq ∧ t.desk = s.desk ∧ t.evt = s.evt ∧ t.par = s.par) ∧
  (∀ (k : Fin 27) (s : State),
    (s.cen.busy = none → s.cen.want = none → exec (.censusIslandLatch k) s = .next s) ∧
    (∀ b, s.cen.busy = some b → b.latched.contains k.val = true → exec (.censusIslandLatch k) s = .next s) ∧
    (∀ b, s.cen.busy = some b → b.latched.contains k.val = false → b.t ≤ s.replica k.val →
      ∃ t b', exec (.censusIslandLatch k) s = .next t ∧ t.cen.busy = some b' ∧ b'.latched = k.val :: b.latched ∧
        b'.t = b.t ∧ b'.half = b.half ∧ t.cen.seq = s.cen.seq)) ∧
  ∀ (s : State) (b : Snapshot), s.cen.busy = some b →
    ((b.latched.length ≠ 27 ∨ marksOut s = true) → exec .censusWriteComplete s = .next s) ∧
    (b.latched.length = 27 → marksOut s = false → ∃ t, exec .censusWriteComplete s = .next t ∧ t.cen.busy = none ∧
      t.cen.seq = s.cen.seq + 1 ∧ t.cen.lastHalf = b.half ∧ t.cen.lastT = b.t ∧ t.cen.taken = bump s.cen.taken ∧
      t.evt.status.getLsbD 9 = true ∧ { t with cen := s.cen, stk := s.stk, evt := s.evt, desk := s.desk } = s)

/-- POWER.DOMAIN.SET and POWER.WAKE.SET. POWER.DOMAIN.SET refuses a STATE above 3, CLOCK_OFF for a stack and SELF_REFRESH
for any other domain with DETAIL 4; it returns ST_BAD_STATE for a stop while a function of the domain is in use and for
RUN while a thermal stop holds; it returns ST_OK at once for the state the domain is in; else its transition begins and
the request completes with it. A domain that leaves OFF begins STARTING with all its stages queued behind the others
when no rail must rise first; a domain that leaves RUN for OFF or CLOCK_OFF begins STOPPING with its stages not queued
before it has drained, and a carrier's request for light is cleared, its converters rest and a calibration of them is
abandoned. POWER.WAKE.SET puts the mask of six sources and the timer in force. -/
def Obligations.PowerDomainSet : Prop :=
  ∀ (q : Request) (s : State),
    (runs 0x0E02 q s = true → let d := objIndex q
      let v := u8 q 4
      (3 < v ∨ v = 1 ∧ 16 ≤ d ∨ v = 3 ∧ d < 16 →
        exec (.powerDomainSet q) s = .next (complete q.ch q.tag { status := stBadParam, detail := 4 } s)) ∧
      (v = 1 ∧ d < 16 ∨ v = 2 ∨ v = 3 ∧ 16 ≤ d → domainUsed d s = true →
        exec (.powerDomainSet q) s = .next (complete q.ch q.tag { status := stBadState } s)) ∧
      (v = 0 → stopHeld d s = true → exec (.powerDomainSet q) s = .next (complete q.ch q.tag { status := stBadState } s)) ∧
      ∀ t, (t = .run ∧ v = 0 ∧ stopHeld d s = false) ∨
          (domainUsed d s = false ∧ ((t = .clockOff ∧ v = 1 ∧ d < 16) ∨ (t = .off ∧ v = 2) ∨ (t = .selfRefresh ∧ v = 3 ∧ 16 ≤ d))) →
        (s.dom d = t → exec (.powerDomainSet q) s = .next (complete q.ch q.tag { status := stOk, payload := leBytes 1 v } s)) ∧
        (s.dom d ≠ t → exec (.powerDomainSet q) s =
          .next (setPhase q.ch q.tag .started (beginDomain d t (beginTransition (.domain d) 0x0E02 q s))))) ∧
    (runs 0x0E03 q s = true → ∃ u, exec (.powerWakeSet q) s = .next (complete q.ch q.tag { status := stOk } u) ∧
      u.pwr = { s.pwr with wakeMask := u32 q 4 % 64, timerSec := u48 q 8 } ∧ { u with pwr := s.pwr, par := s.par } = s ∧
      (bodyOf u 0x0E03 (objOf q)).map (·.body) = some q.body) ∧
    ∀ (d : Nat) (t : DomState), d < 20 → inTransition (.domain d) s = true →
      (s.dom d = .off → t = .run ∨ t = .clockOff → railsToRaise d s = [] → let u := beginDomain d t s
        u.dom d = .starting ∧ (u.domain d).target = t ∧ (u.domain d).stagesLeft = (stagesOf d).1 ∧
        u.pwr.queue = s.pwr.queue ++ List.replicate (stagesOf d).1 (d, (stagesOf d).2, false) ∧
        (∀ e, e ≠ d → u.domain e = s.domain e) ∧ { u with pwr := s.pwr } = s) ∧
      (s.dom d = .run → t = .off ∨ t = .clockOff → let u := beginDomain d t s
        u.dom d = .stopping ∧ (u.domain d).target = t ∧ (u.domain d).drained = false ∧ u.pwr.queue = s.pwr.queue ∧
        (∀ e, e ≠ d → u.domain e = s.domain e) ∧
        (∀ c : Fin 2, c.val = d → (u.sf c).req = false ∧ (u.sf c).als = .clear ∧ (u.car c).fg = none ∧
          ∀ k, (u.conv c k).rot = .off ∧ (u.conv c k).visitPos = none ∧ (u.conv c k).measured = none) ∧
        { u with pwr := s.pwr, cen := s.cen, safe := s.safe, evt := s.evt, desk := s.desk, cars := s.cars } = s ∧
        (2 ≤ d → u.desk = s.desk ∧ u.cars = s.cars))

/-- How a domain's transition goes on. A stage begins when its step and the steps begun in the window fit the budget: it
leaves the queue and its step counts from now; else every entry of the queue is marked as waiting, the wait count grows
by the entries newly marked, and POWER_ADMIT_WAIT is raised. A stopping domain whose Chutes are empty (but those towards
a consumer that has stopped) and whose stack channels have no transaction left drains: it saves its Census values and
queues its stages last; one that is not stopping, has drained, or has items or transactions left, is not changed. A
starting domain whose stages have all begun, whose rails are sound and waited for by none, settles in its target at
power-good, and what waited for it goes on; a starting domain whose power-good time runs out leaves the queue, settles
OFF as failed, and the commands that waited for it end with ST_TIMEOUT. A domain that settles with no leg left and no
request waiting is in the state named, with one transition more, one failure more when it failed, POWER_DOMAIN_DONE
raised, and its command completed; with a target other than RUN the adaptive rails that feed it are lowered to what the
domains running on them need (log 79), and no other rail changes. A rail that settles is waited for no more, and a
starting domain that waited for it alone queues its stages; a rail that does not settle in time fails the domains that
waited for it. -/
def Obligations.PowerDomainProgress : Prop :=
  (∀ s : State, s.pwr.queue = [] → s.pwr.entering = none → exec .admissionStageStart s = .next s) ∧
  (∀ (s : State) (d step : Nat) (w : Bool) (rest : List (Nat × Nat × Bool)), s.pwr.queue = (d, step, w) :: rest → s.pwr.entering = none →
    let sum := ((s.pwr.begun.filter fun b => s.dev.ticks < b.1 + s.pwr.windowUs * 625).map (·.2)).sum
    let fits := sum + step ≤ 100 * s.pwr.budgetA ∨ (100 * s.pwr.budgetA < step ∧ sum = 0)
    (fits → ((s.domain d).st = .starting ∨ 2 ≤ (s.domain d).stagesLeft) → ∃ t, exec .admissionStageStart s = .next t ∧ t.pwr.queue = rest ∧
      t.pwr.begun = (s.dev.ticks, step) :: (s.pwr.begun.filter fun b => s.dev.ticks < b.1 + s.pwr.windowUs * 625) ∧
      (d < 20 → t.domain d = { s.domain d with stagesLeft := (s.domain d).stagesLeft - 1 }) ∧
      (∀ x, x ≠ d → t.domain x = s.domain x) ∧ { t with pwr := s.pwr } = s) ∧
    (¬ fits → exec .admissionStageStart s = .next (raise 290 (objDomain d) (evtArg 0 0 0 s.pwr.queue.length) { s with pwr := { s.pwr with
      waits := satAdd s.pwr.waits (s.pwr.queue.filter fun x => !x.2.2).length
      queue := s.pwr.queue.map fun x => (x.1, x.2.1, true) } }))) ∧
  (∀ (d : Fin 20) (s : State),
    ((s.dom d ≠ .stopping ∨ (s.domain d).drained = true ∨ domainChutesEmpty d s = false ∨ domainTagsFree d s = false) → exec (.domainStopDrained d) s = .next s) ∧
    (s.dom d = .stopping → (s.domain d).drained = false → domainChutesEmpty d s = true → domainTagsFree d s = true → (s.domain d).thermal = false → ∃ t, exec (.domainStopDrained d) s = .next t ∧
      t.domain d = { s.domain d with drained := true, saved := true } ∧ (∀ x, x ≠ d.val → t.domain x = s.domain x) ∧
      t.pwr.queue = s.pwr.queue ++ List.replicate (stagesOf d).1 (d.val, (stagesOf d).2, false) ∧ { t with pwr := s.pwr } = s)) ∧
  (∀ (d : Fin 20) (s : State),
    let ready := s.dom d = .starting ∧ (s.domain d).stagesLeft = 0 ∧ railFault d s = false ∧ ∀ x ∈ s.pwr.raises, x.dom ≠ d.val
    (¬ ready → exec (.domainPowerGood d) s = .next s) ∧
    (ready → exec (.domainPowerGood d) s = .next (domainUp d (settleDomain d (s.domain d).target false s))) ∧
    (s.pwr.entering = none → s.dom d ≠ .starting → exec (.powerGoodTimeout d) s = .next s) ∧
    (s.dom d = .starting → exec (.powerGoodTimeout d) s = .next (restCheck (domainCommandsFail d stTimeout (settleDomain d .off true
      { s with pwr := { s.pwr with queue := s.pwr.queue.filter fun x => x.1 != d.val, raises := s.pwr.raises.filter fun x => x.dom != d.val } }))))) ∧
  (∀ (d : Nat) (st : DomState) (failed : Bool) (s : State), d < 20 → (s.domain d).leg = none → (s.domain d).next = [] →
    let u := settleDomain d st failed s
    u.dom d = st ∧ (u.domain d).transitions = bump (s.domain d).transitions ∧
    (u.domain d).failed = (if failed then bump (s.domain d).failed else (s.domain d).failed) ∧
    (∀ x, x ≠ d → u.domain x = s.domain x) ∧ u.evt.status.getLsbD 289 = true ∧
    u.pwr.queue = s.pwr.queue ∧ u.time = s.time ∧ u.safe = s.safe ∧ u.lanes = s.lanes ∧ u.cars = s.cars ∧ (st = .run → u.house = s.house) ∧
    (st ≠ .run → ∀ r, let x := s.rail r
      u.rail r = if r < 13 ∧ railFeeds r d = true ∧ x.configured = true ∧ x.adaptive = true ∧ x.settling = false
        then { x with setMv := min x.setMv (max (railFloor r) (railTarget r u)) } else x)) ∧
  (∀ (r : Fin 16) (s : State), (∀ x ∈ s.pwr.raises, x.rail ≠ r.val) → ∃ t, exec (.voutSettled r) s = .next t ∧ t.pwr = s.pwr ∧
    t = judgeRail r (onRail r (fun x => { x with settling := false, voutBad := false }) s)) ∧
  (∀ (r : Fin 16) (s : State) (d : Nat), s.pwr.raises = [{ rail := r, dom := d }] → d < 20 → s.dom d = .starting → (s.domain d).thermal = false →
    ∃ t, exec (.voutSettled r) s = .next t ∧ t.pwr.raises = [] ∧
      t.pwr.queue = s.pwr.queue ++ List.replicate (stagesOf d).1 (d, (stagesOf d).2, false) ∧ (t.rail r).settling = false) ∧
  ∀ (r : Fin 16) (s : State), s.pwr.entering = none →
    ((s.rail r).settling = false → exec (.voutSettleTimeout r) s = .next s) ∧
    ((s.rail r).settling = true → exec (.voutSettleTimeout r) s = .next (restCheck ((railWaiters r s).foldl (fun s d => domainFail d s)
      (judgeRail r (onRail r (fun x => { x with settling := false, voutBad := true }) s)))))

/-- Device power states. POWER.DEVICE.SET refuses a STATE above 4 with DETAIL 4; RUN and IDLE are taken at once with
POWER_STATE_DONE, and the state the device is in returns ST_OK alone; a state below IDLE returns ST_BAD_STATE while a
carrier is enabled, a bond provisioned or the mate link up, ST_BAD_PARAM with DETAIL 4 when no enabled source could wake
the device, and else begins the entry, with READY cleared. An entry drains once every request is complete and written
and no Catalogue work runs: the stacks in RUN rest, and for DEEP_SLEEP the save lists are taken. The commit waits for
the drain and the stacks, then writes the wake record of the new entry and stops the core and the domains. A source
enabled for the state entered or left that latches before the commit abandons the entry, after it ends the entry with
its record, and a further one is noted beside it; in RUN and IDLE no source does anything. An exit completes with READY,
RUN, the exit time and the wake count in the record and POWER_WAKE raised. A device that leaves SLEEP counts the safety
samples as fresh from then on. -/
def Obligations.PowerStates : Prop :=
  (∀ (q : Request) (s : State), runs 0x0E01 q s = true → let v := u8 q 4
    (4 < v → exec (.powerDeviceSet q) s = .next (complete q.ch q.tag { status := stBadParam, detail := 4 } s)) ∧
    (∀ t : DevPower, (v = 0 ∧ t = .run ∨ v = 1 ∧ t = .idle) →
      (s.pwr.st = t → exec (.powerDeviceSet q) s = .next (complete q.ch q.tag { status := stOk } s)) ∧
      (s.pwr.st ≠ t → ∃ u, exec (.powerDeviceSet q) s = .next (complete q.ch q.tag { status := stOk } u) ∧ u.pwr.st = t ∧
        u.pwr.coresOff = false ∧ u.evt.status.getLsbD 288 = true ∧ u.pwr.domains = s.pwr.domains ∧
        u.safe = (if s.pwr.st = .sleep then s.safe.expect s.dev.ticks else s.safe) ∧ { u with pwr := s.pwr, evt := s.evt, safe := s.safe } = s)) ∧
    (∀ t : DevPower, (v = 2 ∧ t = .sleep ∨ v = 3 ∧ t = .deepSleep ∨ v = 4 ∧ t = .off) →
      (anyCarrier s = true ∨ anyBond s = true ∨ s.link.isUp = true →
        exec (.powerDeviceSet q) s = .next (complete q.ch q.tag { status := stBadState } s)) ∧
      (anyCarrier s = false → anyBond s = false → s.link.isUp = false → (∀ b < 6, wakeEnabled s t b = false) →
        exec (.powerDeviceSet q) s = .next (complete q.ch q.tag { status := stBadParam, detail := 4 } s)) ∧
      (anyCarrier s = false → anyBond s = false → s.link.isUp = false → ∀ b < 6, wakeEnabled s t b = true →
        exec (.powerDeviceSet q) s = .next (complete q.ch q.tag { status := stOk } { s with
          desk := { s.desk with ready := false }
          pwr := { s.pwr with entering := some t, drained := false, committed := false, latched := false, rested := [] } })))) ∧
  (∀ s : State, exec .idleCoreWake s = .next { s with pwr := { s.pwr with coresOff := false } }) ∧
  (∀ s : State,
    (s.pwr.entering = none ∨ s.pwr.drained = true ∨ deskBusy s = true ∨ s.cat.writing.isSome = true ∨ s.cat.erasing.isSome = true →
      exec .sleepEntryDrained s = .next s) ∧
    (∀ t : DevPower, s.pwr.entering = some t → s.pwr.drained = false → deskBusy s = false → s.desk.restarting = false → s.cat.writing = none → s.cat.erasing = none →
      let up := [16, 17, 18, 19].filter fun d => s.dom d == .run || s.dom d == .starting
      let u := up.foldl (fun s d => requestDomain d .selfRefresh s) { s with pwr := { s.pwr with drained := true, rested := up } }
      (t = .sleep ∨ t = .off → exec .sleepEntryDrained s = .next u) ∧
      (t = .deepSleep → exec .sleepEntryDrained s = .next { u with pwr := { u.pwr with saveHw := some (saveHwOf s), saveFw := some (saveFwOf s) } })) ∧
    (s.pwr.entering = none ∨ s.pwr.drained = false ∨ s.pwr.committed = true ∨ stacksResting s = false → exec .sleepCommit s = .next s) ∧
    (∀ t : DevPower, s.pwr.entering = some t → s.pwr.drained = true → s.pwr.committed = false → stacksResting s = true →
      let s1 := { s with
        pwr := { s.pwr with committed := true, record := { s.pwr.record with
          fromState := t.code, source := 0, aborted := false, brownout := false, archiveBad := false, elapsedValid := false, other := 0
          entrySec := recordSec s, elapsedMs := 0, exitUs := 0 } }
        house := { s.house with madc := s.house.madc.map fun (x : Madc) => { x with running := none, aborted := none } } }
      let s2 := (List.range 6).foldl (fun s o => octetDown o s) (safetyLeave 1 (safetyLeave 0 s1))
      exec .sleepCommit s = .next (restCheck (queueStages 20
        (((List.range 16) ++ (if t = DevPower.sleep then [] else [16, 17, 18, 19])).foldl (fun s d => requestDomain d .off s) s2))))) ∧
  (∀ (b : Fin 6) (ms : Nat) (s : State),
    (s.pwr.entering = none → s.pwr.exiting = false → (s.pwr.st = .run ∨ s.pwr.st = .idle) → exec (.wakeSourceLatch b ms) s = .next s) ∧
    (∀ t : DevPower, s.pwr.entering = some t → wakeEnabled s t b = false → exec (.wakeSourceLatch b ms) s = .next s) ∧
    (∀ t : DevPower, s.pwr.entering = some t → wakeEnabled s t b = true →
      (s.pwr.latched = true → exec (.wakeSourceLatch b ms) s = .next { s with pwr := { s.pwr with record := { s.pwr.record with
        other := if s.pwr.record.source = b then s.pwr.record.other else Nat.lor s.pwr.record.other (2 ^ b.val) } } }) ∧
      (s.pwr.latched = false → s.pwr.committed = true → (t ≠ .off ∨ s.pwr.brownLatch = false) →
        exec (.wakeSourceLatch b ms) s = .next { s with pwr := { s.pwr with latched := true, record := { s.pwr.record with
          fromState := t.code, source := b, elapsedValid := t != .off, elapsedMs := if t = .off then 0 else min ms (2 ^ 32 - 1) } } }) ∧
      (s.pwr.latched = false → s.pwr.committed = false → s.pwr.rested = [] →
        exec (.wakeSourceLatch b ms) s = .next { s with pwr := { s.pwr with
          entering := none, drained := false, committed := false, latched := true, exiting := true, aborted := bump s.pwr.aborted
          record := { s.pwr.record with
            fromState := t.code, source := b, aborted := true, brownout := false, archiveBad := false, elapsedValid := false, other := 0
            entrySec := 0, elapsedMs := 0, exitUs := 0 } } })) ∧
    (s.pwr.entering = none → s.pwr.exiting = false → s.pwr.st = .sleep → wakeEnabled s .sleep b = true →
      exec (.wakeSourceLatch b ms) s = .next (beginExit { s with pwr := { s.pwr with latched := true, record := { s.pwr.record with
        fromState := 2, source := b, elapsedValid := true, elapsedMs := min ms (2 ^ 32 - 1) } } }))) ∧
  ∀ (us : Nat) (s : State),
    (s.pwr.exiting = false ∨ coreBack s = false → exec (.wakeExitComplete us) s = .next s) ∧
    (s.pwr.exiting = true → coreBack s = true → (s.pwr.record.fromState = 2 ∨ s.desk.ready = true) → ∃ t, exec (.wakeExitComplete us) s = .next t ∧
      t.desk = { s.desk with ready := !s.desk.restarting } ∧ t.pwr.st = .run ∧ t.pwr.exiting = false ∧ t.pwr.latched = false ∧
      t.pwr.rested = [] ∧ t.pwr.record = { s.pwr.record with exitUs := min us (2 ^ 32 - 1), wakes := (s.pwr.record.wakes + 1) % 2 ^ 32 } ∧
      t.evt.status.getLsbD 292 = true ∧ t.safe = (if s.pwr.st = .sleep then s.safe.expect s.dev.ticks else s.safe) ∧
      { t with pwr := s.pwr, desk := s.desk, evt := s.evt, safe := s.safe } = s)

/-- The end of a boot. When Yozon has initialised the functions after a boot that is not an exit from DEEP_SLEEP, READY is
set on the Desk and on every channel, the boot is over, the brown-out latch, the report of a fallback and those of bad
slots are spent (one more fallback counted when there was one), the wake mask and timer have their reset values, and the
oscillator coefficients are those of the Catalogue record. At any other time the command changes nothing. -/
def Obligations.BootEnd : Prop :=
  ∀ s : State, (s.boot.booting = false → exec .yozonReady s = .next s) ∧
    (s.boot.booting = true → s.boot.fromDeep = false → ∃ t, exec .yozonReady s = .next t ∧
      t.desk = { s.desk with ready := true, chans := s.desk.chans.map fun c => { c with ready := true } } ∧
      t.pwr = { s.pwr with wakeMask := 1, timerSec := 0, brownLatch := false } ∧
      t.boot.booting = false ∧ t.boot.fallbackCause = none ∧ t.boot.slotBad = [] ∧
      (s.boot.fallbackCause.isSome = true → t.boot.fallbacks = bump s.boot.fallbacks) ∧
      t.house = { s.house with shutFresh := false } ∧ t.cat.records = s.cat.records ∧ t.cat.slot = s.cat.slot ∧
      t.time = (loadOsc s).time ∧ t.cars = s.cars ∧ t.lanes = s.lanes ∧ t.stk = s.stk ∧ t.dev = s.dev ∧ t.vault = s.vault)

/-- Monitor channels, conversions and results. MON.CHANNEL.SET refuses CONV above 2, GAIN and FILTER above 3 with the DETAIL
of the field, an owned channel with ST_BAD_STATE and a setting that may not stand with DETAIL 8; else the channel has
the setting. MON.READ returns and removes the oldest samples asked for, 1 to 256. MON.REF.SET sets EN of each converter;
a buffer asked for from off warms up, one warming becomes ready, and ready is reached from warming alone. A due instant
of an unscheduled or owned channel, or with the converters stopped, does nothing; one still waiting merges and counts
late; on an idle converter with its buffer ready the conversion starts. An urgent request does nothing without a valid
configuration, an entry, or running converters; on an idle converter with its buffer ready it starts. A conversion's end
with nothing running does nothing; the result of a plain conversion enters the queue with the code of its source voltage
behind the channel's divider (1, 2 or 4), its converter and its time, and is the channel's latest. A process-monitor
period keeps the rates counted, and moves no rail that is not adaptive. -/
def Obligations.Monitors : Prop :=
  (∀ (q : Request) (s : State), runs 0x0F02 q s = true → let k := objSub q
    let x : MonChan := { s.chanOf k with conv := u8 q 4, gain := u8 q 5, filter := u8 q 6, periodUs := u32 q 8 }
    let bad := fun off => exec (.monChannelSet q) s = .next (complete q.ch q.tag { status := stBadParam, detail := off } s)
    (2 < u8 q 4 → bad 4) ∧ (u8 q 4 ≤ 2 → 3 < u8 q 5 → bad 5) ∧ (u8 q 4 ≤ 2 → u8 q 5 ≤ 3 → 3 < u8 q 6 → bad 6) ∧
    (u8 q 4 ≤ 2 → u8 q 5 ≤ 3 → u8 q 6 ≤ 3 →
      (owned s k = true → exec (.monChannelSet q) s = .next (complete q.ch q.tag { status := stBadState } s)) ∧
      (owned s k = false → settingOk s k x = false → bad 8) ∧
      (owned s k = false → settingOk s k x = true → ∃ u, exec (.monChannelSet q) s = .next (complete q.ch q.tag { status := stOk } u) ∧
        (k < 64 → u.chanOf k = x) ∧ (∀ j, j ≠ k → u.chanOf j = s.chanOf j) ∧
        u.house.due = (if u32 q 8 = 0 then s.house.due.filter fun d => d.2 != k else s.house.due) ∧ { u with house := s.house, par := s.par } = s))) ∧
  (∀ (q : Request) (s : State), runs 0x0F03 q s = true →
    (u16 q 4 = 0 ∨ 256 < u16 q 4 → exec (.monRead q) s = .next (complete q.ch q.tag { status := stBadParam, detail := 4 } s)) ∧
    (1 ≤ u16 q 4 → u16 q 4 ≤ 256 → exec (.monRead q) s = .next (complete q.ch q.tag
      (okWith (leBytes 2 (s.house.queue.take (u16 q 4)).length ++ leBytes 2 (s.house.queue.drop (u16 q 4)).length) ((s.house.queue.take (u16 q 4)).flatMap MonSample.bytes))
      { s with house := { s.house with queue := s.house.queue.drop (u16 q 4) } }))) ∧
  (∀ (q : Request) (s : State), runs 0x0F01 q s = true → ∃ u, exec (.monRefSet q) s = .next (complete q.ch q.tag { status := stOk } u) ∧
    { u with house := s.house, par := s.par } = s ∧ ∀ m : Fin 2, (u.madcOf m).en = bit (u8 q 4) m.val ∧
      let want := bit (u8 q 4) m.val || bufNeeded s m
      (u.madcOf m).buf = (if want = true ∧ (s.madcOf m).buf = .off then .warming else if want = false ∧ (s.madcOf m).running = none then .off else (s.madcOf m).buf)) ∧
  (∀ (m : Fin 2) (s : State), ((s.madcOf m).buf ≠ .warming → exec (.refBufferReady m) s = .next s) ∧
    ((s.madcOf m).buf = .warming → ∃ t, exec (.refBufferReady m) s = .next t ∧ (t.madcOf m).buf = .ready ∧
      { t.madcOf m with buf := .warming } = s.madcOf m ∧ { t with house := s.house } = s)) ∧
  (∀ (k : Fin 64) (s : State),
    ((s.chanOf k).periodUs = 0 ∨ owned s k = true ∨ monStopped s = true → exec (.conversionDue k) s = .next s) ∧
    ((s.chanOf k).periodUs ≠ 0 → owned s k = false → monStopped s = false → (s.chanOf k).streamed = false → (s.house.due.any fun d => d.2 == k.val) = true →
      exec (.conversionDue k) s = .next (onMon k (fun x => { x with late := bump x.late }) s)) ∧
    (∀ m : Fin 2, (s.chanOf k).periodUs ≠ 0 → owned s k = false → monStopped s = false → (s.chanOf k).streamed = false → (s.chanOf k).conv = m.val →
      s.house.due = [] → s.house.urgent = [] → (∀ j : Fin 2, (s.madcOf j).running = none ∧ (s.madcOf j).aborted = none) → (s.madcOf m).buf = .ready →
      exec (.conversionDue k) s = .next (onMadc m (fun x => { x with aborted := none, running := some { chan := k, gain := (s.chanOf k).gain, filter := (s.chanOf k).filter, shared := false, stream := none } }) s))) ∧
  (∀ (k : Fin 16) (s : State),
    (s.safe.valid = false ∨ monStopped s = true ∨ s.safe.checks[k.val]? = none → exec (.urgentRequest k) s = .next s) ∧
    (∀ (x : SafeCheck) (m : Fin 2), s.safe.valid = true → monStopped s = false → s.safe.checks[k.val]? = some x → x.conv = m.val → s.house.due = [] →
      s.house.urgent = [] → (∀ j : Fin 2, (s.madcOf j).running = none ∧ (s.madcOf j).aborted = none) → (s.madcOf m).buf = .ready →
      exec (.urgentRequest k) s = .next (onMadc m (fun y => { y with urgents := bump y.urgents, running := some { chan := x.chan, gain := x.gain, filter := x.filter, shared := false, check := some k.val } }) s))) ∧
  (∀ (m : Fin 2) (va vb : Int) (s : State), ((s.madcOf m).running = none ∨ monStopped s = true → exec (.conversionEnd m va vb) s = .next s) ∧
    (∀ c, (s.madcOf m).running = some c → c.shared = false → c.stream = none → c.check = none → monStopped s = false → s.house.queue.length < 1024 →
      s.house.due = [] → s.house.urgent = [] → (∀ j : Fin 2, (s.madcOf j).aborted = none) →
      let div : Nat := if c.chan < 32 ∨ c.chan = 53 ∨ c.chan = 54 ∨ c.chan = 63 then 1 else if 47 ≤ c.chan ∧ c.chan ≤ 51 then 4 else 2
      let code : Int := max (-32768) (min 32767 (divRound (32768 * (2 ^ c.gain : Nat) * (if m = 0 then va else vb)) (1200000000 * div)))
      ∃ t, exec (.conversionEnd m va vb) s = .next t ∧ (t.madcOf m).running = none ∧ { t with house := s.house } = s ∧
        (t.house.queue.drop s.house.queue.length).map (fun x => (x.chan, x.conv, x.code, x.ns, x.setting)) =
          [(c.chan, m.val, code, (s.stampAt 25).ns, c.gain + 4 * c.filter)] ∧ t.house.queue.take s.house.queue.length = s.house.queue ∧
        (c.chan < 64 → (t.chanOf c.chan).conversions = bump (s.chanOf c.chan).conversions ∧ (t.chanOf c.chan).sensor = code))) ∧
  ∀ (fro : List Nat) (s : State), (∀ r : Nat, r = 0 ∨ r = 6 → (s.rail r).configured = false ∨ (s.rail r).adaptive = false) →
    exec (.processMonitorPeriod fro) s = .next { s with house := { s.house with fro := (fro ++ List.replicate 27 0).take 27 } }

/-- Sensor readings, thermal states, rails and GPIO. Readings do nothing in reset, DEEP_SLEEP or OFF; else every sensor
keeps its reading, its last 288 readings, its peak, its runs at the three limits and its run of equal readings, no
faulted sensor becomes healthy, and the table of R421 is judged. In that table a sensor that meets the shutdown
condition shuts the device down with the record of it; else a STOP condition in NORMAL or WARN enters STOP and raises
THERM_STOP, a WARN condition in NORMAL enters WARN and raises THERM_WARN, and otherwise the state stays; so many
readings have then met the conditions for leaving WARN (105 °C) or STOP (100 °C, each 5 °C less without its record),
with the rate valid and below 2 °C/s, one after the other. A recovery hold does nothing before the conditions have held
for 1 s in WARN, 10 s in STOP, and leads from WARN to NORMAL and from STOP to WARN with its event. A healthy sensor
whose reading has not changed for 10,000 readings while a healthy neighbour moved raises THERM_SENSOR_FAULT with cause 3
and is faulted, once; any other is left. A poll of an unconfigured rail does nothing; else the values, the status word,
a missing acknowledge or a PEC failure is kept and the rail judged; PMBUS_FAULT is raised only on a change.
PMBUS.RAIL.SET and GPIO.SET refuse each bad field and else take effect; GPIO.GET shows driven and read levels. -/
def Obligations.ThermalAndRails : Prop :=
  (∀ (rs : List Int) (s : State),
    (s.boot.resetLow = true ∨ s.pwr.st = .deepSleep ∨ s.pwr.st = .off → exec (.sensorReading rs) s = .next s) ∧
    (s.boot.resetLow = false → s.pwr.st ≠ .deepSleep → s.pwr.st ≠ .off → ∃ u, exec (.sensorReading rs) s = .next (thermStep u) ∧
      u.house.therm = s.house.therm ∧ u.pwr = s.pwr ∧ u.house.readings = s.house.readings + 1 ∧
      ∀ n : Fin 32, let x := s.house.sensor n
        let y := u.house.sensor n
        let r := rs.getD n 0
        y.reading = r ∧ y.hist = (r :: x.hist).take 288 ∧ y.peak = max x.peak r ∧ (y.healthy = true → x.healthy = true) ∧
        y.warnRun = (if thermLimit s 110 ≤ r then x.warnRun + 1 else 0) ∧ y.stopRun = (if thermLimit s 120 ≤ r then x.stopRun + 1 else 0) ∧
        y.shutRun = (if thermLimit s 125 ≤ r then x.shutRun + 1 else 0) ∧ y.same = (if x.hist = [] ∨ r ≠ x.reading then 0 else x.same + 1))) ∧
  (∀ (u : State),
    let stopHot := u.house.healthySensors.find? fun n => 3 ≤ (u.house.sensor n).stopRun
    let warnHot := u.house.healthySensors.find? fun n => 3 ≤ (u.house.sensor n).warnRun
    let again := u.house.afterShut = true ∧ u.house.readings ≤ 100 ∧ thermLimit u 110 ≤ u.house.tMax
    let stop := (u.house.therm = .normal ∨ u.house.therm = .warn) ∧ (stopHot.isSome ∨ u.house.rateStop)
    let warn := u.house.therm = .normal ∧ (warnHot.isSome ∨ u.house.rateWarn)
    (∀ n, shutSensor u = some n → thermStep u = thermalShutdown n u) ∧
    (shutSensor u = none → again → thermStep u = thermalShutdown (u.house.hottest.getD 0) u) ∧
    (shutSensor u = none → ¬again → stop → thermStep u = raiseTherm 329 1 stopHot (thermalStop (onHouse (fun h => { h with stops := bump h.stops }) (thermTo .stop u)))) ∧
    (shutSensor u = none → ¬again → ¬stop → warn → thermStep u = raiseTherm 328 1 warnHot (onHouse (fun h => { h with warns := bump h.warns }) (thermTo .warn u))) ∧
    (mayRecover u = true ↔ ∃ d, u.house.rMax = some d ∧ d * 125 < 2 * 16384 ∧
      (u.house.therm = .warn ∧ u.house.tMax ≤ thermLimit u 105 ∨ u.house.therm = .stop ∧ u.house.tMax ≤ thermLimit u 100)) ∧
    (shutSensor u = none → ¬again → ¬stop → ¬warn → { thermStep u with house := u.house } = u ∧ (thermStep u).house.therm = u.house.therm ∧
      (thermStep u).house.recovering = if mayRecover u then u.house.recovering + 1 else 0)) ∧
  (∀ (s : State),
    (s.house.therm = .warn ∧ s.house.recovering < 1000 ∨ s.house.therm = .stop ∧ s.house.recovering < 10000 ∨ s.house.therm = .normal →
      exec .thermalRecoveryHold s = .next s) ∧
    (1000 ≤ s.house.recovering → s.house.therm = .warn → exec .thermalRecoveryHold s = .next (raiseTherm 328 0 s.house.hottest (thermTo .normal s))) ∧
    (10000 ≤ s.house.recovering → s.house.therm = .stop → exec .thermalRecoveryHold s = .next
      (raiseTherm 329 0 s.house.hottest (thermalRestore (onHouse (fun h => { h with warns := bump h.warns }) (thermTo .warn s)))))) ∧
  (∀ (n : Fin 32) (s : State), let x := s.house.sensor n
    (x.healthy = false ∨ x.same < 10000 ∨ x.nearMoved = false → exec (.sensorStuck n) s = .next s) ∧
    (x.healthy = true → 10000 ≤ x.same → x.nearMoved = true → ∃ t, exec (.sensorStuck n) s = .next t ∧ (t.house.sensor n).healthy = false ∧
      t = raise 333 (objSensor n) (evtArg 0 0 3 (codeOf 64 x.reading)) { s with house := t.house } ∧
      ∀ m : Nat, m ≠ n → t.house.sensor m = s.house.sensor m)) ∧
  (∀ (r : Fin 16) (rd : PmRead) (s : State),
    ((s.rail r).configured = false → exec (.pmbusPoll r rd) s = .next s) ∧
    ((s.rail r).configured = true → ∃ t, exec (.pmbusPoll r rd) s = .next t ∧ (∀ j : Nat, j ≠ r → t.rail j = s.rail j) ∧
      let x := s.rail r;
      let y := t.rail r;
      (match rd with
      | .values mv ma => y.vout = mv.toNat ∧ y.iout = ma.toNat ∧ y.status = x.status ∧ y.nackRun = 0 ∧ y.pecRun = 0 ∧ y.nacks = x.nacks ∧ y.pecs = x.pecs
      | .status w => y.status = w.toNat ∧ y.vout = x.vout ∧ y.iout = x.iout ∧ y.nackRun = 0 ∧ y.pecRun = 0 ∧ y.nacks = x.nacks ∧ y.pecs = x.pecs
      | .noAck => y.status = x.status ∧ y.vout = x.vout ∧ y.nackRun = x.nackRun + 1 ∧ y.nacks = bump x.nacks
      | .badPec => y.status = x.status ∧ y.vout = x.vout ∧ y.pecRun = x.pecRun + 1 ∧ y.pecs = bump x.pecs ∧ y.nackRun = 0) ∧
      y.cause = (if 3 ≤ y.nackRun then 1 else if 3 ≤ y.pecRun then 2 else if statusFault y.status then 3 else if x.voutBad then 4 else 0) ∧
      t = raiseIf ((x.cause == 0) != (y.cause == 0)) 323 objDevice (evtArg (b2n (y.cause != 0)) r (if y.cause = 0 then x.cause else y.cause) y.status) { s with house := t.house })) ∧
  (∀ (q : Request) (s : State), runs 0x0F20 q s = true → let r := u8 q 4
    let bad := fun off => exec (.pmbusRailSet q) s = .next (complete q.ch q.tag { status := stBadParam, detail := off } s)
    let held := (s.rail r).configured = true ∧ railInUse r s = true ∧ (s.rail r).adaptive ≠ decide (u8 q 6 = 1)
    (15 < r → bad 4) ∧ (r ≤ 15 → u8 q 5 ≤ 127 → 1 < u8 q 6 ∨ (u8 q 6 = 1 ∧ r ≠ 0 ∧ r ≠ 6) → bad 6) ∧
    (r ≤ 15 → u8 q 5 ≤ 127 → u8 q 6 ≤ 1 → (u8 q 6 = 1 → r = 0 ∨ r = 6) →
      (held → exec (.pmbusRailSet q) s = .next (complete q.ch q.tag { status := stBadState } s)) ∧
      (¬held → ∃ u, exec (.pmbusRailSet q) s = .next (complete q.ch q.tag { status := stOk } u) ∧ { u with house := s.house, par := s.par } = s ∧
        (u.rail r).configured = true ∧ (u.rail r).addr = u8 q 5 ∧ (u.rail r).adaptive = decide (u8 q 6 = 1) ∧ (u.rail r).setMv = u16 q 8 ∧
        ∀ j, j ≠ r → u.rail j = s.rail j))) ∧
  (∀ (q : Request) (s : State), runs 0x0F30 q s = true → let mask := u32 q 4
    let bad := 2 ^ 24 ≤ mask ∨ (s.mate.role ≠ 0 ∧ (bit mask 22 = true ∨ bit mask 23 = true))
    (bad → exec (.gpioSet q) s = .next (complete q.ch q.tag { status := stBadParam, detail := 4 } s)) ∧
    (¬bad → ∃ u, exec (.gpioSet q) s = .next (complete q.ch q.tag { status := stOk } u) ∧ { u with house := s.house, par := s.par } = s ∧
      u.house.gpioDir = pickBits 24 mask (u32 q 8) s.house.gpioDir ∧ u.house.gpioOut = pickBits 24 mask (u32 q 12) s.house.gpioOut ∧
      { u.house with gpioDir := s.house.gpioDir, gpioOut := s.house.gpioOut } = s.house)) ∧
  ∀ (q : Request) (pins : Word32) (s : State), runs 0x0F31 q s = true → s.mate.role = 0 →
    exec (.gpioGet q pins) s = .next (complete q.ch q.tag
      (okWith (leBytes 4 (pickBits 24 s.house.gpioDir s.house.gpioOut pins.toNat) ++ leBytes 4 s.house.gpioDir) []) s)

/-- Firmware load, activation, trial and commit. FW.LOAD FIRST takes the two highest free pages and begins a load of the
channel with its TOTAL at OFFSET 0, abandoning an earlier one (the inactive image is then invalid, log 80); it returns
ST_BAD_STATE before STACKS.INIT, with fewer than two free pages, or at another OFFSET. A later chunk is appended when
channel, TOTAL and OFFSET continue the load, and else returns ST_BAD_STATE. LAST of a valid image begins programming and
returns RESULT 0; else RESULT, the staging area freed, the failure counted and FW_LOAD_FAIL or FW_ROLLBACK_REFUSED
raised. Programming, which pauses below IDLE, leaves in flash the bytes as they read back; where these are no valid
image a failure is counted and FW_LOAD_FAIL raised. FW.ACTIVATE returns ST_BAD_STATE unless the inactive image is valid;
else a trial selector is written and no more requests are accepted. FW.COMMIT returns ST_BAD_STATE on trial or when the
counter is not below the SVN, 128 at most; else the counter is the SVN, 128 at most, and the revoke bits of the image
are set but for its signer's. A trial ends after 60 s of READY with a selector without TRIAL; a fallback goes back to
the previous image, counts it and raises BOOT_FALLBACK; outside a trial neither does anything, nor does a fallback once
READY is set. -/
def Obligations.FirmwareUpdate : Prop :=
  (∀ (q : Request) (s : State), runs 0x1010 q s = true →
    let s0 := freeStaging (if s.boot.staging.isSome ∨ s.boot.programming = true
      then { s with boot := { s.boot with flash := flashSetImg s.boot.flash (!s.dev.imageB) [0] } } else s)
    let pages := stagingPages s0.stk
    let add (s : State) : State := { s with boot := { s.boot with staged := s.boot.staged ++ q.bulk } }
    let last (x : State) : State × List Byte := if bit (u8 q 12) 1 then
        let r := loadResult (u32 q 8) x.boot.staged x.boot
        (if r = 0 then { x with boot := { x.boot with staging := none, programming := true, flash := flashSetImg x.boot.flash (!x.dev.imageB) [0] } }
          else if r = 2 then raise 354 objDevice (evtArg 0 0 x.boot.counter (svnOf x.boot.staged)) (freeStaging { x with boot := { x.boot with loadFails := bump x.boot.loadFails } })
          else raise 353 objDevice (evtArg 0 r 0 0) (freeStaging { x with boot := { x.boot with loadFails := bump x.boot.loadFails } }), leBytes 1 r)
      else (x, leBytes 1 0)
    (bit (u8 q 12) 0 = true → (s.stk.initialised = false ∨ pages.length < 2 ∨ u32 q 4 ≠ 0) →
      exec (.fwLoad q) s = .next (complete q.ch q.tag { status := stBadState } s)) ∧
    (bit (u8 q 12) 0 = true → s.stk.initialised = true → 2 ≤ pages.length → u32 q 4 = 0 →
      let x := last (add { s0 with stk := { s0.stk with staging := pages }, boot := { s0.boot with staging := some (q.ch, u32 q 8), loads := bump s0.boot.loads } })
      exec (.fwLoad q) s = .next (complete q.ch q.tag { status := stOk, payload := x.2 } x.1)) ∧
    (bit (u8 q 12) 0 = false → (s.boot.staging ≠ some (q.ch, u32 q 8) ∨ u32 q 4 ≠ s.boot.staged.length) →
      exec (.fwLoad q) s = .next (complete q.ch q.tag { status := stBadState } s)) ∧
    (bit (u8 q 12) 0 = false → s.boot.staging = some (q.ch, u32 q 8) → u32 q 4 = s.boot.staged.length →
      exec (.fwLoad q) s = .next (complete q.ch q.tag { status := stOk, payload := (last (add s)).2 } (last (add s)).1))) ∧
  (∀ (bad : List (Nat × Byte)) (s : State),
    let img := bad.foldl (fun l x => l.set x.1 x.2) s.boot.staged
    let done := freeStaging { s with boot := { s.boot with flash := flashSetImg s.boot.flash (!s.dev.imageB) img } }
    (s.boot.programming = false ∨ s.pwr.st ≠ .run ∧ s.pwr.st ≠ .idle → exec (.fwProgrammingDone bad) s = .next s) ∧
    (s.boot.programming = true → s.pwr.st = .run ∨ s.pwr.st = .idle → imageValid s.boot.counter s.boot.revoked img = true →
      exec (.fwProgrammingDone bad) s = .next done) ∧
    (s.boot.programming = true → s.pwr.st = .run ∨ s.pwr.st = .idle → imageValid s.boot.counter s.boot.revoked img = false →
      exec (.fwProgrammingDone bad) s = .next (raise 353 objDevice (evtArg 0 4 0 0) { done with boot := { done.boot with loadFails := bump s.boot.loadFails } }))) ∧
  (∀ (q : Request) (s : State), runs 0x1011 q s = true → s.desk.activating = false →
    (inactiveState s ≠ 3 → exec (.fwActivate q) s = .next (complete q.ch q.tag { status := stBadState } s)) ∧
    (inactiveState s = 3 → exec (.fwActivate q) s = .next (activateProgress (setPhase q.ch q.tag .started { s with
      desk := { s.desk with activating := true }
      boot := { s.boot with flash := writeSel s.boot.flash (!s.dev.imageB) true, activations := bump s.boot.activations } })))) ∧
  (∀ s : State, s.desk.activating = true → s.desk.restarting = false → deskBusy s = false → activateProgress s = { s with
      dev := { s.dev with imageB := !s.dev.imageB }
      desk := { s.desk with restarting := true, ready := false }
      boot := { s.boot with trial := true, fw := fwOf (flashImg s.boot.flash !s.dev.imageB) } }) ∧
  (∀ (q : Request) (s : State), runs 0x1012 q s = true →
    let img := flashImg s.boot.flash s.dev.imageB
    (s.boot.trial = true ∨ min (svnOf img) 128 ≤ s.boot.counter → exec (.fwCommit q) s = .next (complete q.ch q.tag { status := stBadState } s)) ∧
    (s.boot.trial = false → s.boot.counter < min (svnOf img) 128 → ∃ u, exec (.fwCommit q) s =
        .next (complete q.ch q.tag { status := stOk, payload := leBytes 4 (min (svnOf img) 128) } u) ∧
      { u with boot := s.boot } = s ∧ { u.boot with counter := s.boot.counter, revoked := s.boot.revoked, commits := s.boot.commits } = s.boot ∧
      u.boot.counter = min (svnOf img) 128 ∧ u.boot.commits = bump s.boot.commits ∧
      ∀ k < 4, bit u.boot.revoked k = (bit s.boot.revoked k || (bit (revokeOf img) k && signerOf s.boot.revoked img != some k)))) ∧
  ∀ s : State,
    (¬(s.boot.trial = true ∧ s.desk.ready = true ∧ s.boot.trialSince + 60 * 625000000 ≤ s.dev.ticks) → exec .trialEnd s = .next s) ∧
    (s.boot.trial = true → s.desk.ready = true → s.boot.trialSince + 60 * 625000000 ≤ s.dev.ticks →
      exec .trialEnd s = .next { s with boot := { s.boot with trial := false, flash := writeSel s.boot.flash s.dev.imageB false } }) ∧
    (s.boot.trial = false ∨ s.desk.ready = true → exec .trialFallback s = .next s) ∧
    (s.boot.trial = true → s.desk.ready = false → ∃ t, exec .trialFallback s = .next t ∧ t.dev = { s.dev with imageB := !s.dev.imageB } ∧ t.boot.trial = false ∧
      t.boot.fallbacks = bump s.boot.fallbacks ∧ t.boot.flash = writeSel s.boot.flash (!s.dev.imageB) false ∧
      t.boot.fw = fwOf (flashImg s.boot.flash !s.dev.imageB) ∧ t.evt.status.getLsbD 352 = true ∧ t.desk.restarting = true ∧ t.desk.ready = false ∧
      { t with dev := s.dev, boot := s.boot, desk := s.desk, evt := s.evt } = s)

/-- Identity, Charter and Catalogue. SEC.IDENTITY.GET, SEC.ATTEST and SEC.CHARTER.GET return the identity key with its hash,
the report over the nonce signed with a free random value (log 82), and the Charter in force, and change nothing else.
CATALOGUE.READ returns the record that the slot in force numbers so (with none in force, the device's own list) and
ST_BAD_PARAM with DETAIL 4 beyond the last. CATALOGUE.RESET returns ST_BAD_STATE while a carrier is enabled; one
Calibration record, or with 0xFFFF every one, those that wait or are being written with them, becomes a pending removal,
and a converter without its record has slice p at position p again with four spares; any other record is refused with
DETAIL 4. A write starts when a change is pending or a slot must be written, none runs, no stop holds and READY is set:
the changes are taken and the slot not in force is being programmed. A write whose slot reads back as a whole puts it in
force with the next SEQ, begins the erase of the one left and raises CATALOGUE_WRITTEN; a first bad read-back erases the
slot for one retry, a second ends the write, counts the failure, raises CATALOGUE_SLOT_BAD and the changes wait again.
An erase that ends leaves the slot erased. -/
def Obligations.IdentityAndCatalogue : Prop :=
  (∀ (q : Request) (s : State),
    let list := match s.cat.slot with | some b => slotRecords (flashCat s.boot.flash b) | none => s.cat.records
    (runs 0x1001 q s = true → exec (.secIdentityGet q) s =
      .next (complete q.ch q.tag { status := stOk, payload := ownHash, bulk := padTo 1312 ownPub } s)) ∧
    (runs 0x1002 q s = true → let b := attestBody (bytesAt q.body 4 32) s
      exec (.secAttest q) s = .next (complete q.ch q.tag
        { status := stOk, payload := leBytes 2 2628, bulk := b ++ padTo 2420 (signDigest (sha3 b) (s.freeVal 256)) } s.drawn)) ∧
    (runs 0x1003 q s = true → exec (.secCharterGet q) s =
      .next (complete q.ch q.tag { status := stOk, payload := leBytes 2 s.dev.charter.length, bulk := s.dev.charter } s)) ∧
    (runs 0x1021 q s = true → (list[u16 q 4]? = none →
        exec (.catalogueRead q) s = .next (complete q.ch q.tag { status := stBadParam, detail := 4 } s)) ∧
      ∀ x, list[u16 q 4]? = some x →
        exec (.catalogueRead q) s = .next (complete q.ch q.tag { status := stOk, payload := leBytes 2 x.2.length, bulk := x.2 } s)) ∧
    (runs 0x1022 q s = true →
      ((∃ c : Fin 2, (s.car c).enabled = true) → exec (.catalogueReset q) s = .next (complete q.ch q.tag { status := stBadState } s)) ∧
      ((∀ c : Fin 2, (s.car c).enabled = false) →
        let fresh (x : Conv) : Conv := { x with map := List.range 128, roles := List.replicate 128 .active ++ List.replicate 4 .spare, loaded := true }
        (u16 q 4 = 0xFFFF → let all := s.cat.records ++ s.cat.writing.getD [] ++ s.cat.pending
          ∃ u, exec (.catalogueReset q) s = .next (complete q.ch q.tag { status := stOk } u) ∧ { u with cat := s.cat, cars := s.cars } = s ∧
          { u.cat with pending := s.cat.pending } = s.cat ∧
          (∀ x ∈ all, isCalibration (x.1 / 65536) = true → lookupD [0] x.1 u.cat.pending = []) ∧
          (∀ k, (∀ x ∈ all, isCalibration (x.1 / 65536) = true → x.1 ≠ k) → lookupD [0] k u.cat.pending = lookupD [0] k s.cat.pending) ∧
          ∀ c, { u.car c with convs := (s.car c).convs } = s.car c ∧ ∀ k, u.conv c k = fresh (s.conv c k)) ∧
        (u16 q 4 ≠ 0xFFFF → ∀ x, list[u16 q 4]? = some x → isCalibration (x.1 / 65536) = true →
          ∃ u, exec (.catalogueReset q) s = .next (complete q.ch q.tag { status := stOk } u) ∧
            { u with cars := s.cars } = { s with cat := { s.cat with pending := putKey x.1 [] s.cat.pending } } ∧
            ∀ c, { u.car c with convs := (s.car c).convs } = s.car c ∧
              ∀ k, u.conv c k = if x.1 / 65536 = 1 ∧ x.1 % 65536 = 8 * c.val + k.val then fresh (s.conv c k) else s.conv c k) ∧
        (u16 q 4 ≠ 0xFFFF → (∀ x, list[u16 q 4]? = some x → isCalibration (x.1 / 65536) = false) →
          exec (.catalogueReset q) s = .next (complete q.ch q.tag { status := stBadParam, detail := 4 } s))))) ∧
  ∀ s : State, let t := match s.cat.slot with | some b => !b | none => false
    ((s.cat.pending = [] ∧ s.cat.mustWrite = false) ∨ s.cat.writing.isSome = true ∨ s.cat.erasing.isSome = true ∨ stopHolds s = true ∨ s.desk.ready = false →
      exec .catalogueWriteStart s = .next s) ∧
    ((s.cat.pending ≠ [] ∨ s.cat.mustWrite = true) → s.cat.writing = none → s.cat.erasing = none → stopHolds s = false → s.desk.ready = true →
      exec .catalogueWriteStart s = .next { s with
        cat := { s.cat with writing := some (nextRecords s), pending := [], mustWrite := false, retry := false }
        boot := { s.boot with flash := flashSetCat s.boot.flash t partSlot } }) ∧
    (∀ bad, s.cat.writing = none ∨ s.cat.erasing.isSome = true → exec (.catalogueWriteDone bad) s = .next s) ∧
    (∀ (bad : List (Nat × Byte)) recs, s.cat.writing = some recs → s.cat.erasing = none →
      let slot := bad.foldl (fun l x => l.set x.1 x.2) (catSlot ((s.cat.seq + 1) % 2 ^ 32) (recordSec s) recs)
      (slotState slot = 1 → ∃ u, exec (.catalogueWriteDone bad) s = .next u ∧
        u.cat = { s.cat with
          slot := some t, seq := (s.cat.seq + 1) % 2 ^ 32, records := recs, writing := none, retry := false, writes := bump s.cat.writes
          erasing := some !t } ∧
        flashCat u.boot.flash t = slot ∧ u.evt.status.getLsbD 355 = true ∧
        { u with cat := s.cat, evt := s.evt, vault := s.vault, boot := s.boot } = s) ∧
      (slotState slot ≠ 1 → s.cat.retry = false → exec (.catalogueWriteDone bad) s = .next { s with cat := { s.cat with erasing := some t, retry := true } }) ∧
      (slotState slot ≠ 1 → s.cat.retry = true → ∃ u, exec (.catalogueWriteDone bad) s = .next u ∧ u.cat.writing = none ∧ u.cat.retry = false ∧
        u.cat.erasing = some t ∧ u.cat.writeFails = bump s.cat.writeFails ∧ u.cat.records = s.cat.records ∧ u.cat.slot = s.cat.slot ∧
        u.evt.status.getLsbD 356 = true ∧ { u with cat := s.cat, evt := s.evt } = s)) ∧
    (s.cat.erasing = none → exec .catalogueEraseDone s = .next s) ∧
    ∀ b, s.cat.erasing = some b → exec .catalogueEraseDone s = .next { s with
      cat := { s.cat with erasing := none }
      boot := { s.boot with flash := flashSetCat s.boot.flash b (if s.cat.writing.isSome then partSlot else []) } }

/-- The vote of the Vault. A vote with the upsets since the last one does nothing in OFF. When every word has a majority
among its copies, every word reads afterwards as that majority with its three copies equal, and VAULT_MISMATCH and the
count of corrected words are all that changes beside. -/
def Obligations.VaultVoted : Prop :=
  ∀ (ups : List (Fin 3 × Fin 256 × Word32)) (s : State), (s.pwr.st = .off → exec (.vaultVote ups) s = .next s) ∧
    let v := ups.foldl vaultUpset s.vault
    (s.pwr.st ≠ .off → v.a.length = 256 → v.b.length = 256 → v.c.length = 256 → (∀ w < 256, (v.word w).isSome = true) →
      ∃ t, exec (.vaultVote ups) s = .next t ∧ { t with vault := s.vault, evt := s.evt } = s ∧ t.vault.noMajority = s.vault.noMajority ∧
        ∀ w < 256, v.word w = some (t.vault.a.getD w 0) ∧ t.vault.b.getD w 0 = t.vault.a.getD w 0 ∧ t.vault.c.getD w 0 = t.vault.a.getD w 0)

/-- Light follows its conditions. After a change of conditions, and after a request for light, a pair shows light exactly
when every condition of the rule of light holds (outside OFF, where both outputs float), its two pins always differ, no
condition is changed by driving it, and a change of light raises SAFETY_TXEN_CHANGE while the core runs. SAFETY.TXEN.SET
refuses a REQ above 1 with DETAIL 4 and else sets the request (not where a check trips in the same tick) and returns
whether light was granted. The proof test returns ST_BAD_STATE while REQ is set, and else the diagnostics that failed. A
change of the ALS request pin is taken up, raises SAFETY_ALS_PIN when it acts, and ends a restart pulse when it goes
low. A restart pulse begins only from a shutdown, which its end restores. -/
def Obligations.RuleOfLight : Prop :=
  (∀ (c : Fin 2) (s : State), s.pwr.st ≠ .off → ∃ t, exec (.safetyConditionChange c) s = .next t ∧
    (t.sf c).txen = some (lightAllowed s c) ∧ (t.sf c).txdis = some (!lightAllowed s c) ∧ lightAllowed t c = lightAllowed s c ∧
    (coreUp s = true → lightAllowed s c ≠ (s.sf c).light → t.evt.status.getLsbD 387 = true) ∧
    (t.sf c).req = (s.sf c).req ∧ (t.sf c).als = (s.sf c).als ∧ (t.sf c).diag = (s.sf c).diag ∧ (t.sf c).pinLow = (s.sf c).pinLow ∧
    (∀ d, d ≠ c → t.sf d = s.sf d) ∧ { t with safe := s.safe, evt := s.evt } = s) ∧
  (∀ (c : Fin 2) (s : State), s.pwr.st = .off → ∃ t, exec (.safetyConditionChange c) s = .next t ∧ (t.sf c).txen = none ∧ (t.sf c).txdis = none) ∧
  (∀ (q : Request) (s : State), runs 0x1101 q s = true → let c := reqCarrier q
    (1 < u8 q 4 → exec (.safetyTxenSet q) s = .next (complete q.ch q.tag { status := stBadParam, detail := 4 } s)) ∧
    (u8 q 4 ≤ 1 → s.pwr.st ≠ .off → ∃ u, exec (.safetyTxenSet q) s =
        .next (complete q.ch q.tag { status := stOk, payload := leBytes 1 (if lightAllowed u c then 1 else 0) } u) ∧
      ((u.sf c).req = true ↔ u8 q 4 = 1 ∧ (s.sf c).tripTick ≠ some s.dev.ticks) ∧ (u.sf c).txen = some (lightAllowed u c) ∧ (u.sf c).txdis = some (!lightAllowed u c) ∧
      (∀ d, d ≠ c → u.sf d = s.sf d) ∧ { u with safe := s.safe, evt := s.evt } = s)) ∧
  (∀ (q : Request) (failed : Word32) (s : State), runs 0x1103 q s = true →
    ((s.sf (reqCarrier q)).req = true → exec (.safetyProofTest q failed) s = .next (complete q.ch q.tag { status := stBadState } s)) ∧
    ((s.sf (reqCarrier q)).req = false → exec (.safetyProofTest q failed) s =
      .next (complete q.ch q.tag { status := stOk, payload := leBytes 4 (failed.toNat % 128) } s))) ∧
  ∀ (c : Fin 2) (s : State),
    (∀ low, ∃ t, exec (.alsPinChange c low) s = .next t ∧ (t.sf c).pinLow = low ∧ (t.sf c).req = (s.sf c).req ∧
      (t.sf c).als = (if (s.sf c).alsPin = true ∧ low = true ∧ (s.sf c).als = .pulse then .shutdown else (s.sf c).als) ∧
      ((s.sf c).alsPin = true → (s.sf c).pinLow ≠ low → coreUp s = true → t.evt.status.getLsbD 386 = true) ∧
      ((s.sf c).alsPin = false ∨ (s.sf c).pinLow = low → t.evt = s.evt) ∧ { t with safe := s.safe, evt := s.evt } = s) ∧
    ((s.sf c).als ≠ .shutdown → exec (.alsPulseStart c) s = .next s) ∧
    ((s.sf c).als = .shutdown → ∃ t, exec (.alsPulseStart c) s = .next t ∧ (t.sf c).als = .pulse ∧ (t.sf c).pulses = bump (s.sf c).pulses ∧
      (s.pwr.st ≠ .off → (t.sf c).txen = some (lightAllowed t c)) ∧ { t with safe := s.safe, evt := s.evt } = s) ∧
    ((s.sf c).als ≠ .pulse → exec (.alsPulseEnd c) s = .next s) ∧
    ((s.sf c).als = .pulse → ∃ t, exec (.alsPulseEnd c) s = .next t ∧ (t.sf c).als = .shutdown ∧ lightAllowed t c = false ∧
      (s.pwr.st ≠ .off → (t.sf c).txen = some false ∧ (t.sf c).txdis = some true) ∧ { t with safe := s.safe, evt := s.evt } = s)

/-- A diagnostic that finds a fault latches the safe state. A readback comparison counts a pair whose pins differ from the
levels driven and clears the count where they agree, and its fault is four in a row; so with the decisions of the two
channels. The clocks fail when a count is more than 25 % from its nominal 1,600 or 2,000, the configuration when the
voted copy is absent or its CRC wrong, the heartbeat of LOS after 10 µs without a toggle in RUN, the ALS input after 100
µs of disagreement; 0, 4 and 5 concern a carrier, the others both. Nothing happens in OFF, and only diagnostic 0 runs in
DEEP_SLEEP. A fault that is new on some carrier latches its bit for those carriers, raises SAFETY_DIAG_FAIL while the
core runs, and the rule of light then holds no light on them; where none is new only the counts change. -/
def Obligations.SafetyDiagnostics : Prop :=
  (∀ (a b : Bool × Bool) (c : Fin 2) (s : State), let v := if c = 0 then a else b
    (noteDiag (.readback a b) s).sf c = { s.sf c with
      backRun := if (s.sf c).txen = some v.1 ∧ (s.sf c).txdis = some v.2 then 0 else (s.sf c).backRun + 1 } ∧
    (noteDiag (.channels a b) s).sf c = { s.sf c with chanRun := if v.1 = v.2 then 0 else (s.sf c).chanRun + 1 } ∧
    { noteDiag (.readback a b) s with safe := s.safe } = s ∧ { noteDiag (.channels a b) s with safe := s.safe } = s ∧
    (bit (diagMask s (.readback a b)) c.val = true ↔ 4 ≤ (s.sf c).backRun) ∧
    (bit (diagMask s (.channels a b)) c.val = true ↔ 4 ≤ (s.sf 0).chanRun ∨ 4 ≤ (s.sf 1).chanRun)) ∧
  (∀ (s : State) (c : Fin 2) (x y : Nat),
    (bit (diagMask s (.clocks x y)) c.val = true ↔ 4 * x < 3 * 1600 ∨ 5 * 1600 < 4 * x ∨ 4 * y < 3 * 2000 ∨ 5 * 2000 < 4 * y) ∧
    (bit (diagMask s .config) c.val = true ↔ vaultBad s = true) ∧
    (bit (diagMask s (.heartbeat x y)) c.val = true ↔ 10 ≤ (if c = 0 then x else y) ∧ s.dom c = .run) ∧
    (bit (diagMask s (.alsInput x y)) c.val = true ↔ 100 ≤ x ∨ 100 ≤ y)) ∧
  ∀ (d : DiagSample) (s : State), let n := diagBit d
    let u := noteDiag d s
    let m := diagMask u d
    let fresh := fun c : Fin 2 => bit m c.val = true ∧ bit (s.sf c).diag n = false
    (s.pwr.st = .off ∨ (s.pwr.st = .deepSleep ∧ n ≠ 0) → exec (.safetyDiagTick d) s = .next s) ∧
    (s.pwr.st ≠ .off → (s.pwr.st = .deepSleep → n = 0) →
      (¬ fresh 0 ∧ ¬ fresh 1 → exec (.safetyDiagTick d) s = .next u) ∧
      (fresh 0 ∨ fresh 1 → ∃ t, exec (.safetyDiagTick d) s = .next t ∧
        (coreUp s = true → t.evt.status.getLsbD 385 = true) ∧ { t with safe := s.safe, evt := s.evt } = s ∧
        ∀ c : Fin 2, (fresh c → (t.sf c).diag = Nat.lor (s.sf c).diag (2 ^ n) ∧ lightAllowed t c = false ∧ (t.sf c).txen = some false) ∧
          (¬ fresh c → (t.sf c).diag = (s.sf c).diag)))

/-- The mated pair. A block with a bad CRC is counted; on a member a mirror item is kept, a state record read, Desk bytes
kept. A record brings LINKING or ALONE to CHECKING when the link is up, MATE active and the roles complementary, with
MATE_LINK_UP; equal digests lead on to ALIGNING with the donor's ownership, unequal ones report MISMATCH; ALIGNING ends
in PAIRED with MATE_ALIGNED under the conditions of R484. A lost mate takes a joined member to ALONE with both carriers
and raises MATE_LINK_DOWN with its cause. Markers in good time end MATE_SYNC_LOST after three, two missing ones raise
it, and without edges MATE loses activity. A wake pulse is sent after 1 s in LINKING alone. An item of a mirrored
tributary is sent to the mate by its owner; the other member writes the mate's item, or for a lost one its own where its
shadow is SYNCED and else a poisoned one, to the four words named, and judges its shadow: 64 equal frames in a row make
it SYNCED, four unequal ones end that. MATE.PROVISION and MATE.COMMAND refuse what they must, and else set the member's
role and act on both pair groups. -/
def Obligations.MatedPair : Prop :=
  (∀ (b : List Byte) (s : State), let bad := beAt b 260 4 ≠ crc32c (bytesAt b 0 260)
    (bad → exec (.mateBlockReceived b) s = .next { s with mate := { s.mate with badBlocks := bump s.mate.badBlocks } }) ∧
    (¬bad → s.mate.role = 0 ∨ (byteAt b 0 ≠ 1 ∧ byteAt b 0 ≠ 2 ∧ byteAt b 0 ≠ 3) → exec (.mateBlockReceived b) s = .next s) ∧
    (¬bad → s.mate.role ≠ 0 →
      (byteAt b 0 = 1 → exec (.mateBlockReceived b) s = .next { s with mate := { s.mate with mirror := s.mate.mirror ++
        [({ car := byteAt b 2 / 128, tpn := beAt b 2 2 % 1024, data := bytesAt b 4 256, poison := bit (byteAt b 1) 0, endMark := bit (byteAt b 1) 1 } : MirrorItem)] } }) ∧
      (byteAt b 0 = 2 → exec (.mateBlockReceived b) s = .next (mateRecord (bytesAt b 4 256) s)) ∧
      (byteAt b 0 = 3 → exec (.mateBlockReceived b) s = .next { s with mate := { s.mate with deskIn := bytesAt b 4 256 } }))) ∧
  (∀ (s : State) (p : PeerRecord), s.mate.peer = some p →
    let go := (s.mate.st = .linking ∨ s.mate.st = .alone) ∧ s.link.isUp = true ∧ mateSyncOn s = true ∧ p.role + s.mate.role = 3 ∧ p.role ≠ 0 ∧ bit p.flags 2 = false
    (¬go → mateProgress s = s) ∧
    (go → mateProgress s = pairConditions s.tod16 (raise 416 objMate (evtArg 0 s.link.cls (linkMask s) 0)
      { s with mate := { s.mate with st := .checking, donor := donorIsOwn s.mate p, mismatch := false } }))) ∧
  (∀ (p : PeerRecord) (s : State), s.mate.st = .aligning → p.volume = (s.fol 0 (leadGroup s 0)).txVolume →
    let go := s.mate.theta.natAbs < 65536 ∧ shadowsSynced s = true ∧ 16 ≤ s.mate.eqRun
    (go → mateAlign p s = raise 419 objMate (evtArg 1 0 0 p.volume) { s with mate := { s.mate with st := .paired, paired := bump s.mate.paired, neRun := 0 } }) ∧
    (¬go → mateAlign p s = s)) ∧
  (∀ (p : PeerRecord) (s : State), s.mate.st = .paired → mateAlign p s = if 3 ≤ s.mate.neRun then
    retarget 0 (raise 419 objMate (evtArg 0 0 0 0) { s with mate := { s.mate with st := .aligning, eqRun := 0, neRun := 0 } }) else s) ∧
  (∀ (peer : MateProv) (s : State), (s.mate.st ≠ .checking → exec (.checkingRecompare peer) s = .next s) ∧
    (s.mate.st = .checking → (peer ≠ mateProv s → exec (.checkingRecompare peer) s = .next { s with mate := { s.mate with mismatch := true } }) ∧
      (peer = mateProv s → exec (.checkingRecompare peer) s = .next (retarget 0 { s with mate := { s.mate with
        st := .aligning, mismatch := false, owns := Vector.replicate 2 (Vector.replicate 16 s.mate.donor), shadows := [], mirror := [], eqRun := 0, neRun := 0 } })))) ∧
  (∀ (s : State), exec .mateLost s = .next (mateTime (mateLost 1 s)) ∧
    exec .mateSyncInactive s = .next (mateTime (mateLost 2 (mateSyncLost true (refActivityLoss 11 { s with mate := { s.mate with markers := 0 } })))) ∧
    ∀ cause, (s.mate.st.joined = false → mateLost cause s = s) ∧
      (s.mate.st.joined = true → let t := mateLost cause s
        t.mate.st = .alone ∧ t.mate.donor = false ∧ t.mate.owns = Vector.replicate 2 (Vector.replicate 16 true) ∧
        t.mate.peer = s.mate.peer.map (fun p => { p with role := 0, flags := 0 }) ∧ t.mate.role = s.mate.role ∧ t.mate.shadows = s.mate.shadows ∧
        t.mate.mirror = s.mate.mirror ∧ { t with mate := s.mate, time := s.time, evt := s.evt } = s)) ∧
  (∀ (sub : Fin 400) (s : State), let d := s.dev.ticks - s.mate.lastTick
    let good := s.mate.lastMarker.isSome = true ∧ 625000000 ≤ d + 625 ∧ d ≤ 625000000 + 625
    let u : State := onCand 11 (fun c => { c with active := true }) { s with mate := { s.mate with
      markers := (if good then s.mate.markers + 1 else 0), missing := 0, lastMarker := some (s.tod16 + sub.val * 4 * 65536 / 1000), lastTick := s.dev.ticks } }
    exec (.mateSyncMarker sub) s = .next (mateProgress (mateTime (if 3 ≤ u.mate.markers then mateSyncLost false u else u)))) ∧
  (∀ (s : State), let u : State := { s with mate := { s.mate with markers := 0, missing := s.mate.missing + 1 } }
    exec .mateSyncMarkerMissing s = .next (mateTime (if 1 ≤ s.mate.missing then mateSyncLost true u else u)) ∧
    exec .mateWakePulse s = .next (if s.mate.st = .linking ∧ s.mate.since + 625000000 < s.dev.ticks then { s with mate := { s.mate with wakePulses := bump s.mate.wakePulses } } else s) ∧
    ∀ lost, mateSyncLost lost s = if s.mate.role = 0 ∨ s.mate.syncLost = lost then s
      else refLosses (raise 418 objMate (evtArg (b2n lost) 0 0 0) { s with mate := { s.mate with syncLost := lost } })) ∧
  (∀ (s : State), (s.mate.role = 0 → exec .stateRecordSend s = .next s) ∧ (stateRecord s).length = 256 ∧
    (s.mate.role ≠ 0 → ∃ u t, exec .stateRecordSend s = .next t ∧ t.mate.sent = blockBytes 2 0 0 (stateRecord u) ∧ u.mate.role = s.mate.role ∧ u.mate.st = s.mate.st) ∧
    ∀ typ flags stream pl, (blockBytes typ flags stream pl).length = 264 ∧ bytesAt (blockBytes typ flags stream pl) 4 256 = padTo 256 pl) ∧
  (∀ (c : Fin 2) (tpn : Fin 1024) (w : Fin 2147483645) (seq : Nat) (lost : Bool) (shadow : List Byte) (shadowEnd : Bool) (s : State),
    let inQueue := ∀ k : Nat, k < 4 → s.stk.codeAt (pageOf (w.val + k)) = 2
    let aligned := s.mate.st = .aligning ∨ s.mate.st = .paired
    let go := exec (.mirrorItemApply c tpn w seq lost shadow shadowEnd) s
    (s.mate.role = 0 ∨ ¬inQueue ∨ streamTrib s c.val tpn.val = none → go = .next s) ∧
    ∀ t, s.mate.role ≠ 0 → inQueue → streamTrib s c.val tpn.val = some t →
      (ownsTrib s t = true → (aligned → isMirrored s t = true → go = .next (mirrorSend c.val tpn.val w.val s)) ∧
        (¬aligned ∨ isMirrored s t = false → (s.mate.st = .alone → lost = false → go = .next (mirrorWrite c.val tpn.val w.val seq false shadow shadowEnd s)) ∧
          (s.mate.st ≠ .alone ∨ lost = true → go = .next s))) ∧
      (ownsTrib s t = false → (aligned → go = .next (mirrorWrite c.val tpn.val w.val seq lost shadow shadowEnd s)) ∧ (¬aligned → go = .next s))) ∧
  (∀ (c tpn w seq : Nat) (shadow : List Byte) (shadowEnd : Bool) (s : State), let ok_ := (s.mate.shadow c tpn).synced
    let isIt := fun (x : MirrorItem) => x.car == c && x.tpn == tpn
    let item := itemAt s w
    (mirrorSend c tpn w s).mate = { s.mate with mirrorOut := blockBytes 1 (b2n item.2.1 + 2 * b2n item.2.2) (32768 * c + tpn) item.1 } ∧
    mirrorWrite c tpn w seq true shadow shadowEnd s = shadowItem c tpn 2 shadowEnd (putItem w seq shadow (!ok_) shadowEnd { s with mate := { s.mate with
      lastSeq := seq, repaired := (if ok_ then bump s.mate.repaired else s.mate.repaired), poisoned := (if ok_ then s.mate.poisoned else bump s.mate.poisoned) } }) ∧
    (s.mate.mirror.find? isIt = none → mirrorWrite c tpn w seq false shadow shadowEnd s = s) ∧
    (∀ x, s.mate.mirror.find? isIt = some x → mirrorWrite c tpn w seq false shadow shadowEnd s =
      shadowItem c tpn (if x.poison then 2 else if x.data = shadow ∧ x.endMark = shadowEnd then 0 else 1) x.endMark (putItem w seq x.data x.poison x.endMark
        { s with mate := { s.mate with lastSeq := seq, mirror := s.mate.mirror.eraseP isIt, poisoned := (if x.poison then bump s.mate.poisoned else s.mate.poisoned) } }))) ∧
  (∀ (c tpn : Nat) (eq : Bool) (s : State), let x := s.mate.shadow c tpn
    let y := (shadowFrame c tpn eq s).mate.shadow c tpn
    (eq = true → y = { x with eqRun := x.eqRun + 1, neRun := 0, synced := x.synced || decide (64 ≤ x.eqRun + 1) }) ∧
    (eq = false → y = { x with eqRun := 0, neRun := x.neRun + 1, synced := x.synced && decide (x.neRun + 1 < 4) })) ∧
  (∀ (c tpn how : Nat) (last : Bool) (s : State), let x := s.mate.shadow c tpn
    let kept := { s with mate := s.mate.putShadow { x with frame := if last then 0 else max x.frame how } }
    shadowItem c tpn how last s = if last = true ∧ max x.frame how ≠ 2 then shadowFrame c tpn (max x.frame how == 0) kept else kept) ∧
  (∀ (q : Request) (s : State), runs 0x1201 q s = true → let role := u8 q 4
    let refuse := fun (r : Resp) => exec (.mateProvision q) s = .next (complete q.ch q.tag r s)
    let named := mateLinkLanes.filter fun l => bit (u16 q 6) (l.val - 32)
    let barred := s.dev.mode = some .framer ∨ (s.prot.toList.any (·.exists_)) = true ∨ (named.any fun l => (bondOfLane s l.val).isSome) = true
    let steps := ∀ l ∈ named, isStepped s.lanes[l] = true
    let badLimit := u32 q 8 < 1000000 ∨ 100000000 < u32 q 8
    (2 < role → refuse { status := stBadParam, detail := 4 }) ∧
    (role = 0 → exec (.mateProvision q) s = .next (complete q.ch q.tag { status := stOk } (mateRemove q s))) ∧
    (role ≠ 0 → role ≤ 2 → (barred → refuse { status := stBadState }) ∧ (¬barred → ¬steps → refuse { status := stBadParam, detail := 6 }) ∧
      (¬barred → steps → badLimit → refuse { status := stBadParam, detail := 8 }) ∧
      (¬barred → steps → ¬badLimit → let m : Mate := { s.mate with role := role, lanes := u16 q 6, limitNs := u32 q 8 }
        let u : State := { s with mate := (if s.mate.role ≠ role then { m with
          st := .linking, since := s.dev.ticks, donor := false, mismatch := false, peer := none, pair := Vector.replicate 2 {}, mirror := [], shadows := [], owns := Vector.replicate 2 (Vector.replicate 16 true) } else m) }
        (growQueues u = none → refuse { status := stNoCapacity }) ∧
        ∀ v, growQueues u = some v → exec (.mateProvision q) s = .next (complete q.ch q.tag { status := stOk } (pairConditions v.tod16 (keepBody 0x1201 q v)))))) ∧
  ∀ (q : Request) (denies : Bool) (s : State), runs 0x1202 q s = true → let cmd := u8 q 4
    let code := if cmd = 1 then 15 else if cmd = 2 then 13 else 7
    let below := code < (s.pairOf 0).top (pairRule s) ∨ code < (s.pairOf 1).top (pairRule s)
    let refuse := fun (r : Resp) => exec (.mateCommand q denies) s = .next (complete q.ch q.tag r s)
    let set := fun (p : Prot) => if cmd = 0 then { p with lo := false, fs := false, ms := false, st := (if !(pairRule s).rev && p.onProt then .dnr else .nr) }
      else if cmd = 1 then { p with lo := true } else if cmd = 2 then { p with fs := true } else { p with ms := true }
    (3 < cmd → refuse { status := stBadParam, detail := 4 }) ∧ (cmd ≤ 3 → s.mate.role = 0 ∨ (cmd ≠ 0 ∧ below) → refuse { status := stBadState }) ∧
    (cmd ≤ 3 → s.mate.role ≠ 0 → (cmd = 0 ∨ ¬below) →
      (denies = true → q.ch ≠ 2 → s.mate.st.joined = true → refuse { status := stDenied }) ∧
      (denies = false ∨ q.ch = 2 ∨ s.mate.st.joined = false → let u1 := pairDecide 0 s.tod16 (onPair 0 set s)
        let u := pairDecide 1 u1.tod16 (onPair 1 set u1)
        exec (.mateCommand q denies) s = .next (complete q.ch q.tag (okWith (leBytes 1 (u.pairOf 0).st.code) []) u)))

/-- What a 32-bit write to the register map does. Word w lies at byte offset 4w. A write to an offset that is not live
through its path changes nothing; one with a Reserved bit of the register set faults. Otherwise a write to a doorbell, a
response head, a channel control, an event status, enable or force register or BOOT_RESET is that register's own
command; to a Desk window it stores the word, which then reads back, and every other word of the windows and all else
stay as they were; to DESK_CH_STATUS it clears the error bits written 1; to EVT_CTRL it sets the two interrupt enables;
to the aperture's registers it sets the window, EN and EP_EN, or clears the status bits written 1. A write to a
read-only register changes nothing. -/
def Obligations.RegisterWrites : Prop :=
  ∀ (p : Path) (w : Fin 262144) (v : Word32) (s : State),
    let off := 4 * w.val
    let good : Prop := regLive s p off = true ∧ Nat.land v.toNat (regReserved off) = 0
    (regLive s p off = false → exec (.registerWrite p w v) s = .next s) ∧
    (regLive s p off = true → Nat.land v.toNat (regReserved off) ≠ 0 → exec (.registerWrite p w v) s = .fault .reservedFieldWritten) ∧
    (good → ∀ c, blockChan off = some c →
      (off % 256 = 0x00 → exec (.registerWrite p w v) s = exec (.deskReqTailWrite p c v) s) ∧
      (off % 256 = 0x0C → exec (.registerWrite p w v) s = exec (.deskRspHeadWrite p c v) s) ∧
      (off % 256 = 0x10 → exec (.registerWrite p w v) s = exec (.deskChReset p c v) s) ∧
      (off % 256 = 0x14 → exec (.registerWrite p w v) s = .next (onChan c (fun x => { x with
        denied := x.denied && !v.getLsbD 3, entryErr := x.entryErr && !v.getLsbD 2, doorbellErr := x.doorbellErr && !v.getLsbD 1 }) s)) ∧
      (off % 256 ≠ 0x00 → off % 256 ≠ 0x0C → off % 256 ≠ 0x10 → off % 256 ≠ 0x14 → exec (.registerWrite p w v) s = .next s)) ∧
    (good → s.desk.Sound → ∀ c, windowChan off = some c → ∃ t, exec (.registerWrite p w v) s = .next t ∧
      deskOnly s t ∧ otherChannels c s t ∧ { t.chan c with win := (s.chan c).win } = s.chan c ∧ regRead p off t = v.toNat ∧
      ∀ off2 c2, off2 % 4 = 0 → off2 ≠ off → windowChan off2 = some c2 → regRead p off2 t = regRead p off2 s) ∧
    (good → off = 0x18 → exec (.registerWrite p w v) s = exec (.bootResetWrite p v) s) ∧
    (good → (off < 0x18 ∨ off = 0x2000 ∨ off = 0x3000 ∨ off = 0x3004 ∨ off = 0x5800 ∨ off = 0x600C) → exec (.registerWrite p w v) s = .next s) ∧
    (good → off = 0x3008 → exec (.registerWrite p w v) s =
      .next { s with evt := { s.evt with irq0En := v.getLsbD 0, irq1En := v.getLsbD 1 } }) ∧
    (good → ∀ g : Fin 16,
      (off = 0x3100 + 0x40 * g.val → exec (.registerWrite p w v) s = exec (.evtStatusWrite p g v []) s) ∧
      (off = 0x3104 + 0x40 * g.val → exec (.registerWrite p w v) s = exec (.evtEnWrite p g v) s) ∧
      (off = 0x3108 + 0x40 * g.val → exec (.registerWrite p w v) s = exec (.evtForceWrite p g v) s)) ∧
    (good → off = 0x6000 → v.toNat < 2048 → exec (.registerWrite p w v) s = .next { s with ap := { s.ap with window := v.toNat } }) ∧
    (good → off = 0x6004 → exec (.registerWrite p w v) s =
      .next { s with ap := { s.ap with en := v.getLsbD 0, epEn := v.getLsbD 1 } }) ∧
    (good → off = 0x6008 → exec (.registerWrite p w v) s = .next { s with ap := { s.ap with
      denied := s.ap.denied && !v.getLsbD 0, retired := s.ap.retired && !v.getLsbD 1, poison := s.ap.poison && !v.getLsbD 2 } })

/-- SPI frames. While the core is down no frame has an effect. Otherwise a status frame drives READY, RESTARTING and the
frame error of the frame before, and clears it; a refused or cut-off frame sets the frame error alone; a frame whose
address is not a word of the map sets the frame error and reads or writes nothing. A write frame of whole words performs
the register writes of its words in order, the address advancing by 4; the bytes after the last whole word are discarded
with the frame error. A read frame drives the register's bytes, least significant first, and changes nothing else. The
quad frames do the same as the single ones. -/
def Obligations.SpiFrames : Prop :=
  (∀ (a : BitVec 24) (data : List Byte) (n : Nat) (s : State), coreUp s = false →
    exec (.spiWrite a data) s = .next s ∧ exec (.spiRead a n) s = .next s ∧ exec .spiStatus s = .next s ∧ exec .spiBadFrame s = .next s) ∧
  (∀ (a : BitVec 24) (data : List Byte) (n : Nat) (s : State),
    exec (.spiQwrite a data) s = exec (.spiWrite a data) s ∧ exec (.spiQread a n) s = exec (.spiRead a n) s) ∧
  (∀ s : State, coreUp s = true →
    exec .spiStatus s = .next { s with pins := { s.pins with
      frameErr := false
      spiOut := [BitVec.ofNat 8 ((if s.desk.ready then 1 else 0) + (if s.desk.restarting then 2 else 0) + (if s.pins.frameErr then 4 else 0))] } } ∧
    exec .spiBadFrame s = .next { s with pins := { s.pins with frameErr := true, spiOut := [] } }) ∧
  (∀ (a : BitVec 24) (data : List Byte) (n : Nat) (s : State), coreUp s = true → (a.toNat % 4 ≠ 0 ∨ 2 ^ 20 ≤ a.toNat) →
    exec (.spiWrite a data) s = .next { s with pins := { s.pins with frameErr := true, spiOut := [] } } ∧
    exec (.spiRead a n) s = .next { s with pins := { s.pins with frameErr := true, spiOut := [] } }) ∧
  ∀ (w : Fin 262144) (s : State), coreUp s = true →
    let a : BitVec 24 := BitVec.ofNat 24 (4 * w.val)
    (∀ data : List Byte, data.length < 4 → exec (.spiWrite a data) s =
      .next { s with pins := { s.pins with frameErr := decide (data ≠ []), spiOut := [] } }) ∧
    (∀ (v : Word32) (rest : List Byte) (t : State), rest.length < 4 → exec (.registerWrite .spi w v) s = .next t →
      exec (.spiWrite a (leBytes 4 v.toNat ++ rest)) s =
        .next { t with pins := { t.pins with frameErr := decide (rest ≠ []), spiOut := [] } }) ∧
    (∀ (v : Word32) (w2 : Fin 262144) (v2 : Word32) (t u : State), w2.val = w.val + 1 → exec (.registerWrite .spi w v) s = .next t →
      exec (.registerWrite .spi w2 v2) t = .next u →
      exec (.spiWrite a (leBytes 4 v.toNat ++ leBytes 4 v2.toNat)) s =
        .next { u with pins := { u.pins with frameErr := false, spiOut := [] } }) ∧
    (∀ (v : Word32) (rest : List Byte) f, exec (.registerWrite .spi w v) s = .fault f →
      exec (.spiWrite a (leBytes 4 v.toNat ++ rest)) s = .fault f) ∧
    (∀ n, n ≤ 4 → exec (.spiRead a n) s =
      .next { s with pins := { s.pins with frameErr := false, spiOut := (leBytes 4 (regRead .spi (4 * w.val) s)).take n } })

/-- The test access port. TRST_N asserted puts the port into Test-Logic-Reset with IDCODE selected, and changes nothing
else; so do, from any state of the port, five rising TCK edges with TMS high. In DEEP_SLEEP and OFF an edge changes
nothing. From Test-Logic-Reset, the edges that lead to Capture-DR load the identity 0x1644855B, which Shift-DR presents
at TDO from its lowest bit. Shift-DR moves its register one bit towards TDO and takes TDI at the other end. -/
def Obligations.TestAccessPort : Prop :=
  (∀ s : State, ∃ t, exec .trstNAssert s = .next t ∧ t.pins.tap = .tlr ∧ t.pins.ins = .idcode ∧ { t with pins := s.pins } = s) ∧
  (∀ (a b c : Bool) (s : State), tapUp s = false → exec (.tckEdge a b c) s = .next s) ∧
  (∀ (a b c d e : Bool) (s : State), tapUp s = true → ∃ t1 t2 t3 t4 t5,
    exec (.tckEdge true true a) s = .next t1 ∧ exec (.tckEdge true true b) t1 = .next t2 ∧ exec (.tckEdge true true c) t2 = .next t3 ∧
    exec (.tckEdge true true d) t3 = .next t4 ∧ exec (.tckEdge true true e) t4 = .next t5 ∧ t5.pins.tap = .tlr ∧ t5.pins.ins = .idcode) ∧
  (∀ (tdi : Bool) (s : State), tapUp s = true → s.pins.ins = .idcode →
    (s.pins.tap = .capDr → ∃ t, exec (.tckEdge true false tdi) s = .next t ∧ t.pins.tap = .shDr ∧
      t.pins.drShift = (List.range 32).map (fun i => Nat.testBit 0x1644855B i)) ∧
    (s.pins.tap = .shDr → ∃ t u, exec (.tckEdge false false tdi) s = .next t ∧ t.pins.tdo = s.pins.drShift.head? ∧
      t.pins.drShift = s.pins.drShift ∧ exec (.tckEdge true false tdi) t = .next u ∧
      u.pins.drShift = s.pins.drShift.drop 1 ++ [tdi] ∧ { u with pins := s.pins } = s))

/-- The state after reset. After reset RESET_N is still held low by the board and no image runs (the model's choice, log 6);
the mode is not set, nothing is provisioned, the Charter is empty, no carrier, lane or bond exists, the carrier and
octet domains are OFF, the pools are in CLOCK_OFF and the stacks in RUN, the budget is the one a missing board record
leaves, the event enables, status bits, queue and log are empty, the Desk rings stand at 0 with READY clear, no
transition runs, no parameter is set, the time of day is 0 and not valid, both images are untried, and no light is
driven. -/
def Obligations.ResetValues : Prop :=
  let s := State.reset
  s.boot.resetLow = true ∧ s.boot.cause = 1 ∧ s.boot.stage = 0 ∧ s.boot.errA = 0xF ∧ s.boot.errB = 0xF ∧ s.boot.fw = 0 ∧ s.boot.done = false ∧
    s.dev.mode = none ∧ s.dev.ticks = 0 ∧ s.dev.charter = [] ∧ s.pwr.st = .run ∧ s.pwr.budgetA = 20 ∧ s.pwr.windowUs = 200 ∧
    (∀ d : Fin 20, s.dom d = if d.val < 8 then .off else if d.val < 16 then .clockOff else .run) ∧
    (∀ c : Fin 2, (s.car c).enabled = false ∧ (s.car c).enabling = false ∧ (s.sf c).txen = some false ∧ (s.sf c).txdis = some true ∧ (s.sf c).req = false) ∧
    (∀ l : Fin 48, s.lanes[l].provisioned = false) ∧ s.evt.en = 0 ∧ s.evt.status = 0 ∧ s.evt.queue = [] ∧ s.evt.log = [] ∧
    (∀ ch : Fin 4, (s.chan ch).reqHead = 0 ∧ (s.chan ch).reqTail = 0 ∧ (s.chan ch).rspHead = 0 ∧ (s.chan ch).rspTail = 0 ∧ (s.chan ch).ready = false ∧
      (s.chan ch).outst = [] ∧ (s.chan ch).done = []) ∧
    s.desk.ready = false ∧ s.desk.transitions = [] ∧ s.par.inForce = [] ∧ s.tod16 = 0 ∧ s.time.todValid = false ∧ s.stk.initialised = false ∧
    s.mate.st = .off ∧ s.mate.role = 0

/-- What each reset source reaches. Power-on leaves the reset state but for the flash, the OTP bits, the levels the board
drives and the queue of commands. RESET_N low resets every domain but the always-on one, with cause RESET_PIN: the
Archive, Vault, wake record, latches and the configuration of the safety function stand with every pair dark, and the
Stacks keep their contents exactly when they were initialised with all four stacks in RUN or self-refresh; in OFF, or
while RESET_N is low already, nothing but the level changes. BOOT_RESET is ignored without KEY, without the grant of
MAINTENANCE to the path's channel, while RESET_N is low, and with FULL clear; else it resets as RESET_N does, with cause
SOFT, and boots. A brown-out ends in OFF with nothing powered, the outputs floating, the latch set and the wake record
of a brown-out. A lost supply of the stacks is noted, and at rest the loss of RAIL 0, VIO0 or VIO1 makes the next exit a
cold start. PERST_N resets the endpoint's MSI-X state alone. -/
def Obligations.Resets : Prop :=
  ∀ s : State,
    exec .powerOn s = .next { State.reset with
      pending := s.pending
      free := s.free
      boot := { State.reset.boot with flash := s.boot.flash, counter := s.boot.counter, revoked := s.boot.revoked }
      pins := { State.reset.pins with perstLow := s.pins.perstLow }
      safe := { State.reset.safe with cars := s.safe.cars.map fun x => { pinLow := x.pinLow } }
      stk := { State.reset.stk with losses := s.stk.losses.map (· + 1) } } ∧
    (s.boot.resetLow = true → exec .resetNAssert s = .next s) ∧
    (s.boot.resetLow = false → s.pwr.st = .off → exec .resetNAssert s = .next { s with boot := { s.boot with resetLow := true } }) ∧
    (s.boot.resetLow = false → s.pwr.st ≠ .off → ∃ t, exec .resetNAssert s = .next t ∧ t.boot.resetLow = true ∧ t.boot.cause = 2 ∧
      t.boot.flash = s.boot.flash ∧ t.boot.archiveOk = s.boot.archiveOk ∧ t.vault.a = s.vault.a ∧ t.vault.b = s.vault.b ∧ t.vault.c = s.vault.c ∧
      t.pwr.record = s.pwr.record ∧ t.pwr.brownLatch = s.pwr.brownLatch ∧ t.house.shutRecord = s.house.shutRecord ∧
      t.safe.valid = s.safe.valid ∧ t.safe.checks = s.safe.checks ∧
      (∀ c : Fin 2, (t.sf c).req = false ∧ (t.sf c).txen = some false ∧ (t.sf c).txdis = some true ∧ (t.sf c).used = (s.sf c).used) ∧
      t.stk.log = s.stk.log ∧
      (let kept : Prop := (s.stk.initialised = true ∧ ∀ d ∈ [16, 17, 18, 19], s.dom d = .run ∨ s.dom d = .selfRefresh);
        (kept → t.stk.initialised = true ∧ t.stk.mem = s.stk.mem) ∧ (¬ kept → t.stk.initialised = false ∧ t.stk.mem = [])) ∧
      t.desk = State.reset.desk ∧ t.evt = State.reset.evt ∧ t.time = State.reset.time ∧ t.cars = State.reset.cars ∧ t.lanes = State.reset.lanes ∧
      t.crypt = State.reset.crypt ∧ t.cen = State.reset.cen ∧ t.dev = State.reset.dev ∧ t.cat = State.reset.cat) ∧
    (∀ (p : Path) (v : Word32), let ch : Fin 4 := if p = .spi then 1 else 0
      (p = .mate ∨ pathServed s p = false ∨ v.toNat / 65536 ≠ 0xA5C3 ∨ granted s ch .maintenance = false ∨ s.boot.resetLow = true ∨ v.toNat % 65536 = 0 →
        exec (.bootResetWrite p v) s = .next s) ∧
      (p ≠ .mate → pathServed s p = true → v.toNat = 0xA5C30001 → granted s ch .maintenance = true → s.boot.resetLow = false →
        exec (.bootResetWrite p v) s = .next (bootUp false false (resetAll 4 s)))) ∧
    (∃ t, exec .brownout s = .next t ∧ t.pwr.st = .off ∧ t.pwr.brownLatch = true ∧ t.pwr.record.source = 0x80 ∧ t.pwr.record.brownout = true ∧
      t.pwr.record.fromState = 4 ∧ (∀ d : Fin 20, t.dom d = .off) ∧ (∀ c : Fin 2, (t.sf c).txen = none ∧ (t.sf c).txdis = none) ∧
      t.boot.flash = s.boot.flash ∧ t.stk.mem = [] ∧ t.stk.log = [] ∧ t.desk = State.reset.desk ∧ t.cars = State.reset.cars) ∧
    (∀ n : Fin 17, let rest := s.pwr.st = .deepSleep ∨ s.pwr.st = .off
      ∃ t, exec (.supplyFault n) s = .next t ∧ { t with boot := s.boot } = s ∧
        (t.boot.stackSupplyLost = true ↔ s.boot.stackSupplyLost = true ∨ 8 ≤ n.val ∧ n.val ≤ 12) ∧
        (t.boot.coldNext = true ↔ s.boot.coldNext = true ∨ rest ∧ (n.val = 0 ∨ n.val = 13 ∨ n.val = 14))) ∧
    exec .perstNAssert s = .next { s with
      pins := { s.pins with perstLow := true }
      evt := { s.evt with msix := Vector.replicate 32 {}, pba := 0, msixEnable := false, functionMask := false } } ∧
    exec .perstNRelease s = .next { s with pins := { s.pins with perstLow := false } }

/-- The boot that follows a reset. At the release of RESET_N (ignored while it is not low; only the level changes in OFF)
the boot runs from the flash the board supplies. When one of the two images is valid, the first tried by the selector
before the other, that image runs: its Charter is in force and locked, BOOT_STATUS shows Yozon with DONE, BOOT_FW its
release, FALLBACK exactly when the image tried first is not valid, and Yozon goes on to initialise the functions. When
neither is valid the device is in RECOVERY: nothing is booting, the Charter stands unlocked, and no light is allowed.
The causes found are in BOOT_RESET_CAUSE. -/
def Obligations.BootRuns : Prop :=
  ∀ (board : Option Flash) (s : State),
    (s.boot.resetLow = false → exec (.resetNRelease board) s = .next s) ∧
    (s.boot.resetLow = true → s.pwr.st = .off → exec (.resetNRelease board) s = .next { s with boot := { s.boot with resetLow := false } }) ∧
    (s.boot.resetLow = true → s.pwr.st ≠ .off → ∃ t, exec (.resetNRelease board) s = .next t ∧ t.boot.resetLow = false ∧
      let b := { s.boot with flash := board.getD s.boot.flash }
      let first := if (selectorOf b.flash).2.1 then !(selectorOf b.flash).1 else (selectorOf b.flash).1
      (∀ w, (b.err first = 0 ∧ w = first) ∨ (b.err first ≠ 0 ∧ b.err (!first) = 0 ∧ w = !first) →
        t.boot.stage = 2 ∧ t.boot.done = true ∧ t.boot.booting = true ∧ t.boot.archiveOk = true ∧ t.dev.imageB = w ∧
        t.dev.charter = secBytes (flashImg b.flash w) (charterSec (flashImg b.flash w)) ∧ t.boot.fw = fwOf (flashImg b.flash w) ∧
        (t.boot.fallback = true ↔ b.err first ≠ 0) ∧ t.boot.fromDeep = false ∧ (s.vault.a.length = 256 → s.vault.b.length = 256 → s.vault.c.length = 256 → charterLocked t = true)) ∧
      (b.err first ≠ 0 → b.err (!first) ≠ 0 → t.boot.stage = 0xF ∧ t.boot.done = false ∧ t.boot.booting = false ∧ t.boot.fallback = false ∧
        t.dev = s.dev ∧ ∀ c : Fin 2, lightAllowed t c = false) ∧
      t.boot.cause = s.boot.cause + 128 * (if s.boot.archiveOk then 1 else 0) +
        64 * (if s.stk.initialised && !s.boot.stackSupplyLost then 1 else 0) + 16 * (if s.pwr.brownLatch then 1 else 0) + 8 * (if s.house.shutRecord.isSome then 1 else 0))

/-- 1+1 line protection. The state table: a top request of MS rank or above is the state, selecting as its row of R222 says
at a change; one gone leads to WTR, DNR or NR, and a higher request removes an MS. The selection: working for LO and
SF_P, protection for FS, SF_W and MS, and for SD the carrier not in SD, or for an SD of the far end alone the signal it
requests. WTR_EXPIRY selects working in state WTR alone and raises PROT_SWITCH when protection was selected. The
selector moves once the frame's folio arrived at or after the onset, and the line's framer is judged on the carrier then
selected. FOP_TIMEOUT raises PROT_FOP on a bidirectional group whose far end's signal differs. An SR field, descrambled
at byte 154, with a bad CRC is counted and accepted by nothing; a good one passes the filter of P. A hold-off's end
makes the conditions still present requests. Alignment sets the later carrier's lead 0 and the earlier one's the
difference. PROT.PROVISION, PROT.COMMAND and PROT.REALIGN do so, or refuse by the cases their rules give; a group that
the mode in force cannot have is refused with DETAIL 0, and so is, by all but PROT.PROVISION, one that is not
provisioned (DEDUCED, log 12). -/
def Obligations.LineProtection : Prop :=
  (∀ (b : ProtRule) (p : Prot), let top := p.top b
    let t := p.decide b
    (7 ≤ top → t.st = reqState top ∧ (7 < top → t.ms = false) ∧ (p.st.req = top → top ≠ 9 → t.onProt = p.onProt) ∧ (p.st.req ≠ top ∨ top = 9 → t.onProt = p.select b top)) ∧
    (top < 7 → t.onProt = p.onProt ∧ t.ms = p.ms ∧ t.st = (match p.st with
      | .sfW => if b.rev then .wtr else .dnr
      | .sd => if b.rev then (if p.onProt then .wtr else .nr) else if p.onProt then .dnr else .nr
      | .lo => if !b.rev && p.onProt then .dnr else .nr
      | .fs => if !b.rev && p.onProt then .dnr else .nr
      | .ms => if !b.rev && p.onProt then .dnr else .nr
      | .sfP => .nr | .wtr => .wtr | .dnr => .dnr | .nr => .nr)) ∧
    t.lo = p.lo ∧ t.fs = p.fs ∧ t.sides = p.sides ∧ t.leadA = p.leadA ∧ t.leadB = p.leadB) ∧
  (∀ (b : ProtRule) (p : Prot), p.select b 15 = false ∧ p.select b 14 = false ∧ p.select b 13 = true ∧ p.select b 11 = true ∧ p.select b 7 = true ∧
    ((p.side 0).sd = true ∨ (p.side 1).sd = true → p.select b 9 = ((p.side b.work).sd && !(p.side (1 - b.work)).sd)) ∧
    ((p.side 0).sd = false → (p.side 1).sd = false → p.select b 9 = (p.farSr b).any srSig)) ∧
  (∀ (g : Fin 18) (s : State) (hg : g.val < 16), let h : Fin 16 := ⟨g.val, hg⟩
    let p := s.prot[h]
    (¬(p.exists_ = true ∧ p.st = .wtr) → exec (.wtrExpiry g) s = .next s) ∧
    (p.exists_ = true → p.st = .wtr → exec (.wtrExpiry g) s = .next (protRelease h (if p.onProt
      then raise 178 (objProt g.val) (evtArg 0 0 (protRule s g.val).work 0) (onProt h (fun p => { p with st := .nr, onProt := false, onset := none, switches := p.switches.modify 0 bump }) s)
      else onProt h (fun p => { p with st := .nr, onProt := false, onset := none }) s))) ∧
    ∀ arrival, (p.selector = p.onProt ∨ (∃ x, p.onset = some x ∧ arrival < x) → exec (.selectorSwitch g arrival) s = .next (evalWhole (.odum 0 h) s)) ∧
      (p.selector ≠ p.onProt → (∀ x, p.onset = some x → x ≤ arrival) → exec (.selectorSwitch g arrival) s =
        .next (evalWhole (.odum 0 h) (onProt h (fun p => { p with selector := p.onProt, onset := none }) s)))) ∧
  (∀ (g : Fin 18) (arrival : Nat) (s : State), 16 ≤ g.val →
    (s.mate.role = 0 ∨ (s.pairOf (g.val - 16)).st ≠ .wtr → exec (.wtrExpiry g) s = .next s) ∧
    exec (.selectorSwitch g arrival) s = .next (onPair (g.val - 16) (selectorAt arrival) s)) ∧
  (∀ (g : Fin 16) (s : State), let p := s.prot[g]
    let b := protRule s g.val
    let bad := p.exists_ = true ∧ b.bidir = true ∧ (p.farSr b).map srSig ≠ some p.onProt
    (bad → exec (.fopTimeout g) s = .next (raise 180 (objProt g.val) (protArg b p 0) (onProt g (fun p => { p with fop := true }) s))) ∧
    (¬bad → exec (.fopTimeout g) s = .next s)) ∧
  (∀ (c : Fin 2) (g : Fin 16) (raw : List Byte) (s : State), let p := s.prot[g]
    let bs := ohField 154 (padTo 6 raw)
    let b := protRule s g.val
    let good := crc16 (bytesAt bs 0 4) = beAt bs 4 2
    let bad := onProt g (fun p => { p with sides := upd p.sides c fun x => { x with srCrc := bump x.srCrc } }) (onFol c g (fun f => { f with srCrc := bump f.srCrc }) s)
    let u := onProt g (fun p => { p with sides := upd p.sides c fun x =>
      { x with sr := x.sr.see (getParN s .r226 (objProt g.val) 0x40) (beAt bs 0 4), exer := if srReq (beAt bs 0 4) = 4 then bump x.exer else x.exer } }) s
    let alters := fun (x : Option Nat) => ∃ v, x = some v ∧ srD v ≠ b.bidir
    (¬good → exec (.srFieldReceived c g raw) s = .next (if p.exists_ then protConditions g bad else bad)) ∧
    (good → (p.exists_ = false → exec (.srFieldReceived c g raw) s = .next u) ∧
      (p.exists_ = true → b.bidir = false → exec (.srFieldReceived c g raw) s = .next (protConditions g u)) ∧
      (p.exists_ = true → b.bidir = true → alters (u.prot[g].farSr b) → ¬alters (p.farSr b) → exec (.srFieldReceived c g raw) s =
        .next (raise 180 (objProt g.val) (protArg b u.prot[g] 0) (protConditions g u))))) ∧
  (∀ (c : Fin 2) (g : Fin 16) (s : State), (s.prot[g].exists_ = false → ∃ t, exec (.holdOffExpiry c g) s = .next t ∧ { t with prot := s.prot } = s) ∧
    (s.prot[g].exists_ = true → let s1 := protConditions g s
      exec (.holdOffExpiry c g) s = .next (protDecide g (s.tod16 - getParN s .r226 (objProt g.val) 0xA0 * 65536000000 - lookBack s g.val)
        (onProt g (fun p => { p with sides := upd p.sides c fun x => { x with sf := x.sfNow, sd := x.sdNow } }) s1)))) ∧
  (∀ (g : Fin 16) (s : State), let p := s.prot[g]
    let again := inTransition (.prot g.val) s = true
    let up := fun (c : Fin 2) => (s.rxg c g).st = .track
    (p.exists_ = false ∨ (p.aligned = true ∧ ¬again) ∨ (¬up 0 ∧ ¬up 1) → exec (.protectionAlign g) s = .next s) ∧
    (p.exists_ = true → p.aligned = false ∨ again → ∀ a d, up 0 → up 1 → p.common = some (a, d) →
      let q : Prot := { p with leadA := d - min a d, leadB := a - min a d, aligned := true, realigns := if again then bump p.realigns else p.realigns }
      exec (.protectionAlign g) s = .next (protConditions g (endTransition (.prot g.val) (okWith (leBytes 4 (codeOf 32 (leadSymbols s 0 q.leadA)) ++ leBytes 4 (codeOf 32 (leadSymbols s 1 q.leadB))) [])
        { s with prot := s.prot.set g q })))) ∧
  (∀ (q : Request) (s : State), runs 0x0920 q s = true → let g := groupOf (objIndex q)
    let p := s.prot[g]
    let done := fun (r : Resp) (t : State) => exec (.protProvision q) s = .next (complete q.ch q.tag r t)
    let unlike := hasLine s = false ∨ s.dev.mode = some .regenerator ∨ (s.car 0).symRate ≠ (s.car 1).symRate ∨
      groupRun s 0 g.val ≠ groupRun s 1 g.val ∨ groupSlices s 0 g.val ≠ groupSlices s 1 g.val
    (∀ off, parseRecords 0x0920 q = .error off → done { status := stBadParam, detail := off } s) ∧
    ∀ rs, parseRecords 0x0920 q = .ok rs →
      (bit (u8 q 5) 0 = true → p.exists_ = false → done { status := stBadState } s) ∧
      (bit (u8 q 5) 0 = true → p.exists_ = true → ∃ t, done { status := stOk } t ∧ t.prot[g] = {}) ∧
      (bit (u8 q 5) 0 = false → (unlike → done { status := stBadParam } s) ∧
        (¬unlike → (s.mate.role ≠ 0 → done { status := stBadState } s) ∧
          (s.mate.role = 0 → (p.exists_ = true → p.st ≠ .nr → done { status := stOk } (waitRecs 0x0920 q rs s)) ∧
            (p.exists_ = false ∨ p.st = .nr → let u := onProt g (fun p => { p with exists_ := true }) (applyRecs 0x0920 q rs s)
              (growQueues u = none → done { status := stNoCapacity } s) ∧ ∀ v, growQueues u = some v → done { status := stOk } (protConditions g v)))))) ∧
  (∀ (q : Request) (s : State), runs 0x0921 q s = true → let g := groupOf (objIndex q)
    let p := s.prot[g]
    let b := protRule s g.val
    let cmd := u8 q 4
    let code := if cmd = 1 then 15 else if cmd = 2 then 13 else 7
    let done := fun (r : Resp) (t : State) => exec (.protCommand q) s = .next (complete q.ch q.tag r t)
    let reply := fun (t : State) => done { status := stOk, payload := leBytes 1 t.prot[g].st.code } t
    (3 < cmd → done { status := stBadParam, detail := 4 } s) ∧ (cmd ≤ 3 →
      (cmd ≠ 0 → code < p.top b → done { status := stBadState } s) ∧
        (cmd = 1 → 15 ≥ p.top b → reply (protDecide g s.tod16 (onProt g (fun p => { p with lo := true }) s))) ∧
        (cmd = 2 → 13 ≥ p.top b → reply (protDecide g s.tod16 (onProt g (fun p => { p with fs := true }) s))) ∧
        (cmd = 3 → 7 ≥ p.top b → reply (protDecide g s.tod16 (onProt g (fun p => { p with ms := true }) s))) ∧
        (cmd = 0 → b.rev = false → p.onProt = true → reply (protDecide g (s.tod16 - lookBack s g.val) (onProt g (fun p => { p with lo := false, fs := false, ms := false, st := .dnr }) s))) ∧
        (cmd = 0 → b.rev = true ∨ p.onProt = false → let u := onProt g (fun p => { p with lo := false, fs := false, ms := false, st := .nr }) s
          reply (protDecide g (s.tod16 - lookBack s g.val) (if p.st ≠ .nr then protRelease g u else u))))) ∧
  (∀ (q : Request) (s : State), objKind q = 7 →
    let refused := complete q.ch q.tag { status := stBadParam } s
    (groupExists s (objIndex q) = false ∨ hasLine s = false → hasTurn 0x0920 q s = true → exec (.protProvision q) s = .next refused) ∧
    (s.prot[groupOf (objIndex q)].exists_ = false →
      (hasTurn 0x0921 q s = true → exec (.protCommand q) s = .next refused) ∧
      (hasTurn 0x0922 q s = true → exec (.protRealign q) s = .next refused) ∧
      (hasTurn 0x0923 q s = true → exec (.protStatus q) s = .next refused))) ∧
  ∀ (q : Request) (s : State), runs 0x0922 q s = true → let g := groupOf (objIndex q)
    let both := (s.rxg 0 g).st = .track ∧ (s.rxg 1 g).st = .track
    let u := beginTransition (.prot g.val) 0x0922 q s
    exec (.protRealign q) s = .next (setPhase q.ch q.tag .started (if both then protAlign g u else u))

/-- Performance monitoring. A second that closes enters the pipe of each of the framer's entities with its four results and
its block count, and the framer begins the next, an Ethernet bond with what its RS decoder found; on a line ODUCm the
protection groups judge SD. A second is an SES from 15 per cent of its blocks or with a defect, a far-end one only
without a near-end defect. A second is decided when the ten seconds that it needs are known: ten SES begin unavailable
time, ten seconds without SES end it; an unavailable second counts in UAS alone, an available one in ES, and in SES or
its errors in BBE; the running bins are valid from then on. A bin boundary shifts every block's bins at a whole multiple
of 900 or 86,400 seconds alone: the past bins move back by one, and the new bin has no second. -/
def Obligations.PerformanceMonitoring : Prop :=
  (∀ (i : FramerId) (b : Nat) (rs : RsSeen) (s : State), s.framer i = none → exec (.pmSecondClose i b rs) s = .next s) ∧
  (∀ (n : Fin 48) (b : Nat) (rs : RsSeen) (s : State), isEth s.bonds[n] = true → let f := s.bonds[n].rsCount rs
    exec (.pmSecondClose (.bond n) b rs) s = .next { s with bonds := s.bonds.set n f.nextSecond, cen := { s.cen with pm := s.cen.pm.map fun x => if (x.ob, x.layer, x.tpn) = (objBond n.val, 0xFF, 0) then { x with pipe := x.pipe ++ [PmStep.second (f.rsUncorr - f.rsMark) 0 b f.neDefect f.feDefect] ++ (if x.owed = 0 then [] else [PmStep.clean x.owed]), owed := 0 } else x } }) ∧
  (∀ (c : Fin 2) (g : Fin 16) (b : Nat) (rs : RsSeen) (s : State), let f := if isEth s.odum[c][g] then s.odum[c][g].rsCount rs else s.odum[c][g]
    exec (.pmSecondClose (.odum c g) b rs) s = .next (protSecond c g
    (let u := pmResults (.odum c g) f b s; { u with odum := upd u.odum c fun v => upd v g fun _ => f.nextSecond }))) ∧
  (∀ (k n g t b : Nat) (rs : RsSeen) (s : State) (x : Trib), s.map.tribs = [x] → x.isId k n g t = true →
    let f := if isEth x.oh then x.oh.rsCount rs else x.oh
    let r := f.second 1
    ∃ u, exec (.pmSecondClose (.trib k n g t) b rs) s = .next u ∧ u.map.tribs = [{ x with oh := f.nextSecond }] ∧
      u.cen.pm = (s.cen.pm.map fun y => if (y.ob, y.layer, y.tpn) = (if k = 0 then objGroup n g else objBond n, 1, t)
        then { y with pipe := y.pipe ++ [PmStep.second r.1 r.2.1 b r.2.2.1 r.2.2.2] ++ (if y.owed = 0 then [] else [PmStep.clean y.owed]), owed := 0 } else y) ∧
      { u with map := s.map, cen := s.cen } = s) ∧
  (∀ (n : Fin 48) (s : State), exec (.pmSecondDecide (.bond n)) s = .next { s with cen := { s.cen with pm := s.cen.pm.map fun x => if x.ob % 0x1000000 = objBond n.val % 0x1000000 ∧ x.tpn = 0 then x.decide else x } }) ∧
  (∀ (day : Bool) (s : State), let at_ := ((s.stamp.sec : Int) - (if s.time.utcValid then s.time.utcOffset else 0)) % (if day then 86400 else 900) = 0
    (¬at_ → exec (.pmBinBoundary day) s = .next s) ∧
    (at_ → exec (.pmBinBoundary day) s = .next { s with cen := { s.cen with pm := s.cen.pm.map fun x => { x with pipe := x.pipe ++ [PmStep.shift day] }, bounds := ((day, s.stamp.sec) :: s.cen.bounds).take 8 } })) ∧
  (∀ (ne fe b : Nat) (ned fed : Bool), 0 < b → (PmStep.second ne fe b ned fed).ses =
    [(decide (ned = true ∨ 15 * b ≤ 100 * ne), decide (ned = false ∧ (fed = true ∨ 15 * b ≤ 100 * fe)))]) ∧
  (∀ (now : Bool) (ten : List Bool), ten.length = 10 → (unavailNext now ten = true ↔ if now then true ∈ ten else ∀ x ∈ ten, x = true)) ∧
  (∀ x : PmEntity, (x.pipe.flatMap PmStep.ses).length < 10 → x.decide = x) ∧
  (∀ (x : PmEntity) (ne fe b : Nat) (ned fed : Bool) (rest : List PmStep), x.pipe = .second ne fe b ned fed :: rest → 10 ≤ (x.pipe.flatMap PmStep.ses).length →
    let ten := (x.pipe.flatMap PmStep.ses).take 10
    let t := x.decide
    t.pipe = rest ∧ t.neUnavail = unavailNext x.neUnavail (ten.map (·.1)) ∧ t.feUnavail = unavailNext x.feUnavail (ten.map (·.2)) ∧
    t.ob = x.ob ∧ t.layer = x.layer ∧ t.tpn = x.tpn ∧ t.owed = x.owed ∧ t.cells.length = x.cells.length) ∧
  (∀ (off : Nat) (es ses : Bool) (errs : Nat) (x : PmEntity), x.count off true es ses errs = x.add (off + 3) 1 ∧
    x.count off false true true errs = (x.add off 1).add (off + 1) 1 ∧ x.count off false true false errs = (x.add off 1).add (off + 2) errs ∧
    x.count off false false false errs = x.add (off + 2) errs) ∧
  (∀ (p n v w : Nat) (x : PmEntity), p < 8 → x.cells.length = 824 → x.cells[103 * p]? = some v → x.cells[103 * p + 97]? = some w → v < 2 ^ 62 → w < 2 ^ 62 →
    (x.add p n).cells[103 * p]? = some (min (v + n) (2 ^ 62 - 1)) ∧ (x.add p n).cells[103 * p + 97]? = some (min (w + n) (2 ^ 62 - 1)) ∧
    ∀ k, k ≠ 103 * p → k ≠ 103 * p + 97 → (x.add p n).cells[k]? = x.cells[k]?) ∧
  ∀ (p : Nat) (x : PmEntity), p < 8 → x.cells.length = 824 →
    (x.shift false).cells[103 * p]? = some (2 ^ 62) ∧ (∀ k < 96, (x.shift false).cells[103 * p + 1 + k]? = x.cells[103 * p + k]?) ∧
    (x.shift true).cells[103 * p + 97]? = some (2 ^ 62) ∧ ∀ k < 5, (x.shift true).cells[103 * p + 98 + k]? = x.cells[103 * p + 97 + k]?

/-- Carriers and their folios. CARRIER.PROVISION refuses an enabled carrier and a field out of its range, else holds the
values given; CARRIER.ENABLE refuses a carrier not provisioned, enabled or enabling, one whose provisioning does not fit
the mode in force (log 65), one in a thermal stop, and one whose receive queue has no pages, else begins the transition
and proceeds once the domains are in RUN, to the foreground calibration where one is needed; CARRIER.DISABLE stops the
carrier. A foreground calibration ends in ST_CAL_FAIL with more than 4 slices of a converter retired, else it writes the
Catalogue. A folio's arrival is stamped in EQ_ACQ and TRACK to 1/64 of a symbol, and in TRACK its data enter the stream;
LOS is declared and cleared once, of a receiver that runs. A folio that begins carries a 176-byte overhead block, whose
header has its CRC, and its number counts modulo 256; a volume's modulo 2^32. The area sent is that of the transmit
queue's words, what the other carrier released in REGENERATOR mode, the partner's own for a folio that it has sent, or
ODUC-AIS, scrambled; the payload scrambler undoes itself. Every 32nd period is a pilot, 1 to 31 training, then the
overhead periods, then data. The oldest folio is released once its arrival, the playout delay and the alignment offset
have passed, and a release reads every codeword slot as it stands. -/
def Obligations.CarriersAndFolios : Prop :=
  (∀ (q : Request) (s : State), runs 0x0201 q s = true → let c := reqCarrier q
    let done := fun (r : Resp) (t : State) => exec (.carrierProvision q) s = .next (pmSync (complete q.ch q.tag r t))
    let rs := u32 q 4
    ((s.car c).enabled = true → done { status := stBadState } s) ∧
    ((s.car c).enabled = false → (rs < 144000 ∨ 288000 < rs ∨ rs % 2250 ≠ 0 → done { status := stBadParam, detail := 4 } s) ∧
      (144000 ≤ rs → rs ≤ 288000 → rs % 2250 = 0 → (2 < u8 q 8 → done { status := stBadParam, detail := 8 } s) ∧
        (u8 q 8 ≤ 2 → (2 < u8 q 9 → done { status := stBadParam, detail := 9 } s) ∧
          (u8 q 9 ≤ 2 → u16 q 10 < 300 ∨ 600 < u16 q 10 ∨ u16 q 10 % 25 ≠ 0 → done { status := stBadParam, detail := 10 } s) ∧
          (u8 q 9 ≤ 2 → 300 ≤ u16 q 10 → u16 q 10 ≤ 600 → u16 q 10 % 25 = 0 → (mapOk s (provMap q) = false → done { status := stBadParam, detail := 12 } s) ∧
            (mapOk s (provMap q) = true → (∀ off, badSlices s rs (u8 q 8) (provMap q) (provSlices q) (provTargets q) = some off → done { status := stBadParam, detail := off } s) ∧
              (badSlices s rs (u8 q 8) (provMap q) (provSlices q) (provTargets q) = none → done { status := stOk } (keepBody 0x0201 q (assignSubs c (onCar c (fun x => { x with provisioned := true, symRate := rs, ldpcRate := u8 q 8, adcFs := u8 q 9, dacSwing := u16 q 10, groupMap := provMap q, slices := provSlices q, targets := provTargets q }) s)))))))))) ∧
  (∀ (q : Request) (s : State), runs 0x0202 q s = true → let c := reqCarrier q
    let x := s.car c
    let barred := x.provisioned = false ∨ provFits s c = false ∨ x.enabled = true ∨ x.enabling = true ∨ stopHolds s = true
    (barred → exec (.carrierEnable q) s = .next (complete q.ch q.tag { status := stBadState } s)) ∧
    (¬barred → (∀ st, allocRegion (4 + c.val) (rxQueuePages s c.val) s = .error st → exec (.carrierEnable q) s = .next (complete q.ch q.tag { status := st } s)) ∧
      ∀ u, allocRegion (4 + c.val) (rxQueuePages s c.val) s = .ok u → let v := requestDomain c .run (beginTransition (.carrier c) 0x0202 q (onCar c (fun x => { x with enabling := true }) u))
        exec (.carrierEnable q) s = .next (setPhase q.ch q.tag .started (carrierProceed c ((poolsIn v).foldl (fun s p => requestDomain (8 + p) .run s) v))))) ∧
  (∀ (c : Fin 2) (s : State), let go := (s.car c).enabling = true ∧ (s.car c).fg = none ∧ carrierDomains c s = true
    (¬go → carrierProceed c s = s) ∧ (go → (needsForeground s c = true → carrierProceed c s = fgStart c true false s) ∧
      (needsForeground s c = false → carrierProceed c s = carrierEnabled c s))) ∧
  (∀ (q : Request) (s : State), runs 0x0203 q s = true → exec (.carrierDisable q) s = .next (complete q.ch q.tag { status := stOk } (carrierStop (reqCarrier q) s))) ∧
  (∀ (c : Fin 2) (s : State), ((s.car c).fg = none → exec (.foregroundCalComplete c) s = .next s) ∧
    ∀ f, (s.car c).fg = some f → (s.dom c ≠ .run ∨ f.group < 17 + f.repeatGroups → exec (.foregroundCalComplete c) s = .next s) ∧
      (s.dom c = .run → 17 + f.repeatGroups ≤ f.group → let u := (List.finRange 8).foldl (fun t k => fgEvents c f (s.car c) k t) (onCar c (fun x => { x with convs := x.convs.map Conv.assign }) s)
        let lost := ∃ x ∈ (u.car c).convs.toList, 4 < x.retired
        (lost → f.byEnable = true → exec (.foregroundCalComplete c) s = .next (carrierFailed c stCalFail u)) ∧
        (¬lost → f.byEnable = true → exec (.foregroundCalComplete c) s = .next (carrierEnabled c ((List.finRange 8).foldl (fun t k => convWrite c k t) u))))) ∧
  (∀ (c : Fin 2) (g : Fin 16) (sub : Nat) (pilots : List PilotRun) (ys : List Int) (s : State),
    let go := exec (.folioArrival c g sub pilots ys) s
    let at_ := s.tod16 + sub * (s.car c).symRate / 16384000 * 16384000 / (s.car c).symRate
    let u := hearPilots c g pilots (onRxg c g (fun x => { x with arrival := at_ }) s)
    ((s.rxg c g).st ≠ .track → (s.rxg c g).st ≠ .eqAcq → go = .next s) ∧ ((s.rxg c g).st = .eqAcq → go = .next u) ∧
    ((s.rxg c g).st = .track → let v := rxLoadBoundary c g (reacquireSubs c g u)
      go = .next (onRxg c g (fun x => x.takeFolio at_ (demapFolio v c g ys)) v))) ∧
  (∀ (c : Fin 2) (s : State), ((s.rxc c).st = .off ∨ (s.rxc c).los = true → exec (.losDeclare c) s = .next s) ∧
    ((s.rxc c).st ≠ .off → (s.rxc c).los = false → exec (.losDeclare c) s = .next (carrierHeard c (safetyLos c (tonesOff c (rxLos c s))))) ∧
    ((s.rxc c).st = .off ∨ (s.rxc c).los = false → exec (.losClear c) s = .next s) ∧
    ((s.rxc c).st ≠ .off → (s.rxc c).los = true → exec (.losClear c) s = .next (safetyLosClear c (tonesIdle c (rxLosClear c s))))) ∧
  (∀ (c : Fin 2) (g : Fin 16) (v : RxVolume) (s : State),
    exec (.rxVolumeBoundary c g v) s = .next (reselect (protLeads g (evalWhole (.odum c g) (rxKeyBoundary c g (s.fol c g).rxVolume (rxVolumeBoundary c g v s)))))) ∧
  (∀ (c : Fin 2) (g : Fin 16) (sub : Nat) (src : Option (List (List Nat))) (s : State),
    ((s.fol c g).txOn = false → exec (.txFolioBoundary c g sub src) s = .next s) ∧
    ((s.fol c g).txOn = true → let a := txArea c g src s
      exec (.txFolioBoundary c g sub src) s = .next (sendFolio c g (symStamp s c sub) a.1 (loadBoundary c g (hubStep c g (poisonOutIf a.2.1 2 a.2.2)))))) ∧
  (∀ (c : Fin 2) (g : Fin 16) (src : Option (List (List Nat))) (s : State), let b := sliceBytes (s.car c).symRate
    let m := groupSlices s c g.val
    let p := s.fol (1 - c) g
    let shared := s.prot[g].exists_ = true ∧ p.txOn = true ∧ p.txStamp ≠ 0 ∧ p.sentNum = ((s.fol c g).txVolume, (s.fol c g).txFolio)
    (shared → txArea c g src s = (p.plain, false, s)) ∧
    (¬shared → (s.dev.mode = some .regenerator → txArea c g src s = (if p.released.isEmpty then none else some p.released, false, s)) ∧
      (s.dev.mode ≠ some .regenerator → src = none → txArea c g src s = (none, false, s)) ∧
      ∀ ws, s.dev.mode ≠ some .regenerator → src = some ws → (ws.length ≠ m ∨ ∃ l ∈ ws, ∃ w ∈ l, s.stk.codeAt (pageOf (w % 2 ^ 31)) ≠ 2) → txArea c g src s = (none, false, s))) ∧
  (∀ (c : Fin 2) (g : Fin 16) (stamp : Nat) (payload : Option (List Byte)) (s : State), let t := sendFolio c g stamp payload s
    let ais := payload = none ∨ (encMode s c ≠ 0 ∧ (s.cry c g).txEnc = false)
    ((t.fol c g).aisTx = true ↔ ais) ∧ (t.fol c g).txFolio = ((s.fol c g).txFolio + 1) % 256 ∧ (t.fol c g).txVolume = (s.fol c g).txVolume ∧
    (t.fol c g).oducPos = ((s.fol c g).oducPos + sliceBytes (s.car c).symRate) % (15296 * 256) ∧ (t.fol c g).txStamp = stamp ∧
    (t.fol c g).sentNum = ((s.fol c g).txVolume, (s.fol c g).txFolio) ∧
    (t.fol c g).cwPos = (s.fol c g).cwPos + folioBits s c g.val (s.txg c g).tableCur ∧
    (t.fol c g).sentOh = scramble (txHeader s c g (payload.isNone || (encMode s c != 0 && !(s.cry c g).txEnc)) ++ txLoadingField s c g ++ txKeyField (s.cry c g) ++ srSent s g ++ txColophon s c g) ∧
    ((s.cry c g).txEnc = false → (t.fol c g).sentPayload = folioScramble (s.fol c g).txFolio (folioCap s c g.val)
      (if payload.isNone || (encMode s c != 0 && !(s.cry c g).txEnc) then aisArea (groupSlices s c g.val) (sliceBytes (s.car c).symRate) (s.fol c g).oducPos
        else padTo (groupSlices s c g.val * sliceBytes (s.car c).symRate) (payload.getD []))) ∧
    { t with folio := s.folio, crypt := s.crypt, tx := s.tx, time := s.time } = s) ∧
  (∀ (c : Fin 2) (g : Fin 16) (ais : Bool) (s : State), let h := txHeader s c g ais
    h.length = 16 ∧ beAt h 14 2 = crc16 (bytesAt h 0 14) ∧ ((s.fol c g).txVolume < 2 ^ 32 → beAt h 0 4 = (s.fol c g).txVolume) ∧
    ((s.fol c g).txFolio < 256 → byteAt h 4 = (s.fol c g).txFolio) ∧ (srSent s g).length = 6 ∧ (txColophon s c g).length = 16 ∧ (txKeyField (s.cry c g)).length = 26) ∧
  (∀ (folio cap : Nat) (bs : List Byte), (folioScramble folio cap bs).length = bs.length ∧ folioScramble folio cap (folioScramble folio cap bs) = bs) ∧
  (∀ n i : Nat, (i % 32 = 0 → periodOf n i = .pilot (i / 32)) ∧ (0 < i → i < 32 → periodOf n i = .training) ∧
    (32 < i → i % 32 ≠ 0 → let r := i - 32 - i / 32
      (r < ohPeriods n → periodOf n i = .overhead r) ∧ (ohPeriods n ≤ r → periodOf n i = .data (r - ohPeriods n)))) ∧
  (∀ (c : Fin 2) (g : Fin 16) (clips : List Nat) (samples : Nat) (s : State),
    let u := if (s.fol c g).txOn then releaseCrypt c (txVolumeDsp c clips samples s) else s
    exec (.txVolumeBoundary c g clips samples) s = .next ((if s.dev.mode = some .hub then groupsOf s c else [g]).foldl (groupVolume c) u)) ∧
  (∀ (c : Fin 2) (g : Fin 16) (s : State), let begin_ := fun v => onFol c g (fun f => { f with
      txOn := true, joinPartner := false, txVolume := (v + 1) % 2 ^ 32, txFolio := 0, cwPos := 0, txTail := [], adopt := none }) s
    ((s.fol c g).txOn = false → s.dev.mode ≠ some .leaf → groupVolume c s g = s) ∧
    ((s.fol c g).txOn = true → (s.fol c g).adopt = none → groupVolume c s g = joinWith c g (txKeyVolume c g (begin_ (s.fol c g).txVolume))) ∧
    (∀ v, (s.fol c g).adopt = some v → ((s.fol c g).txOn = true → groupVolume c s g = joinWith c g (txKeyVolume c g (begin_ v))) ∧
      ((s.fol c g).txOn = false → s.dev.mode = some .leaf → (s.txc c).txOn = true → groupVolume c s g = txKeyVolume c g (begin_ v)))) ∧
  (∀ (c : Fin 2) (g : Fin 16) (s : State), ((s.rxg c g).due = [] → exec (.folioRelease c g) s = .next s) ∧
    ∀ d r, (s.rxg c g).due = d :: r → let due := d.arrival + playoutNs s c.val * 65536 + alignOffset s c.val
      (s.tod16 < due → exec (.folioRelease c g) s = .next s) ∧
      (due ≤ s.tod16 → exec (.folioRelease c g) s = .next (releaseFolio c g d (onRxg c g (fun x => { x with due := r }) s)))) ∧
  (∀ (c : Fin 2) (slot seq : Nat) (s : State) (x : QSlot), s.dec.slots.find? (fun y => y.slot == slot) = some x → let u : State := { s with dec := { s.dec with
      slots := { slot := slot, car := c, seq := seq, words := x.words, unres := x.unres || x.seq != seq || x.car != c, readBegun := true } :: s.dec.slots.filter fun y => y.slot != slot } }
    let r := readItem slot x.words (some (1, seq % 256)) u
    readSlot c slot seq s = (r.1, r.2.1, x.unres || x.seq != seq || x.car != c, r.2.2)) ∧
  sliceBytes 288000 = 2844 ∧ sliceBytes 252000 = 3248 ∧ sliceBytes 216000 = 3792 ∧ sliceBytes 180000 = 4548 ∧ sliceBytes 144000 = 5688 ∧
  targetMin 288000 1 16 8 = 427 ∧ targetMin 288000 1 16 32 = 1705 ∧ targetMin 252000 1 16 31 = 1886 ∧ targetMin 216000 1 16 27 = 1918 ∧ targetMin 180000 1 16 22 = 1874 ∧
  dataPeriods 1 = 3585 ∧ dataPeriods 16 = 3915

/-- Converters and their rotation. CONV.CALIBRATE refuses an enabled or unprovisioned carrier and one in a thermal stop, and
else begins the foreground calibration with its re-test flag. New rotation values wait during a visit and act at once in
any other state. CONV.SLICE.RETIRE refuses with 4 slices retired, refuses a slice already retired or in a substitution,
retires a spare, gives a disabled carrier's position to the lowest spare, and else begins the substitution. A run's data
are kept for a slice being measured, at most two. Agreement exchanges the slices: the spare takes the position and the
slice is measured, or the slice takes it back and the spare is SPARE again. No agreement counts one failure against the
spare, or retires the slice. A measurement is fit, unfit or failed by its two runs; a fit one installs the selection and
clears the count, a failed one counts, and the limit or an unfit result retires. The gap's end selects the next visit. A
substitution's end gives the position to the replacement and retires the faulty slice. The stale event comes once while
the difference exceeds the threshold. -/
def Obligations.ConvertersKeepCalibrated : Prop :=
  (∀ (q : Request) (s : State), runs 0x0210 q s = true → let c := reqCarrier q
    let barred := (s.car c).enabled = true ∨ (s.car c).provisioned = false ∨ stopHeld c s = true
    (barred → exec (.convCalibrate q) s = .next (complete q.ch q.tag { status := stBadState } s)) ∧
    (¬barred → let u := (List.finRange 8).foldl (fun t k => convReady c k t) (requestDomain c .run s)
      exec (.convCalibrate q) s = .next (setPhase q.ch q.tag .started (beginTransition (.conv c 0xFF) 0x0210 q (onCar c (fun x => { x with
        fg := some { byEnable := false, retest := bit (u8 q 4) 0, retired0 := retiredSlices (u.car c) }, convs := x.convs.map fun y => { y with rot := .foreground, visitPos := none, standIn := none, measured := none, runs := [] } }) u))))) ∧
  (∀ (q : Request) (rs : List ParRec) (s : State), runs 0x0211 q s = true → parseRecords 0x0211 q = .ok rs →
    exec (.convRotationSet q) s = .next (complete q.ch q.tag { status := stOk } ((List.finRange 8).foldl (rotationSet (reqCarrier q) (recVals 0x0211 q rs)) s))) ∧
  (∀ (c : Fin 2) (vs : List ParamVal) (s : State) (k : Fin 8), let mine := vs.filter fun v => v.obj == objConv c k 0xFF
    (mine = [] → rotationSet c vs s k = s) ∧ (mine ≠ [] → ((s.conv c k).inVisit = true → rotationSet c vs s k = { s with par := mine.foldl Params.wait s.par }) ∧
      ((s.conv c k).inVisit = false → (s.conv c k).rot ≠ .halted → rotationSet c vs s k = { s with par := mine.foldl Params.put s.par }))) ∧
  (∀ (q : Request) (s : State), runs 0x0212 q s = true → let c := reqCarrier q
    let k := convOf (objSub q)
    let sl := objSub2 q
    let u := convReady c k s
    let x := u.conv c k
    let pos := (x.posOf sl).getD 0xFF
    let done := fun (r : Resp) (t : State) => exec (.convSliceRetire q) s = .next (complete q.ch q.tag r t)
    let barred := (∃ u ∈ x.subst, u.faulty = sl ∨ u.repl = sl) ∨ (∃ w ∈ x.waitSpare, w.1 = sl) ∨ (x.rot = .shadowIn ∧ x.standIn = some sl)
    (4 ≤ x.retired → done { status := stNoSpare } u) ∧ (x.retired < 4 → (barred → done { status := stBadState } u) ∧
      (¬barred → (x.roles.getD sl .retired = .retired → done { status := stBadState } u) ∧
        (x.roles.getD sl .retired = .spare → done { status := stOk, payload := leBytes 1 0xFF } (countForced c k (retireSlice c k sl 0xFF u))) ∧
        (x.roles.getD sl .retired = .measuring → ∀ p, x.visitPos = some p → done { status := stOk, payload := leBytes 1 p } (measuredLost c k (countForced c k u))) ∧
        (x.roles.getD sl .retired = .measuring → x.visitPos = none → done { status := stOk, payload := leBytes 1 0xFF } (retireSlice c k sl 0xFF (onConv c k (fun x => { x with
          rot := .gap, visits := bump x.visits, forced := bump x.forced, visitPos := none, standIn := none, measured := none, runs := [] }) u))) ∧
        (x.roles.getD sl .retired = .active → x.standIn = some sl → x.rot = .measure ∨ x.rot = .shadowOut → done { status := stOk, payload := leBytes 1 pos } (standInLost c k (countForced c k u))) ∧
        (x.roles.getD sl .retired = .active → x.rot = .off → (x.spares = [] → done { status := stNoSpare } u) ∧
          ∀ r l, x.spares = r :: l → done { status := stOk, payload := leBytes 1 pos } (countForced c k (retireSlice c k sl pos (onConv c k (fun x => x.place pos r) u)))) ∧
        (x.roles.getD sl .retired = .active → x.standIn ≠ some sl → x.rot ≠ .off → (x.spares = [] → x.rot ≠ .measure → x.rot ≠ .shadowOut → done { status := stNoSpare } (raiseConv 35 c k sl pos u)) ∧
          (x.spares ≠ [] → exec (.convSliceRetire q) s = .next (setPhase q.ch q.tag .started (beginTransition (.conv c k) 0x0212 q (startSubst c k sl true u)))))))) ∧
  (∀ (c : Fin 2) (s : State), exec (.convTempUpdate c) s = .next ((List.finRange 8).foldl (fun t k => staleCheck c k (convTemp s c) t) s)) ∧
  (∀ (c : Fin 2) (k : Fin 8) (v : Int) (s : State), let x := s.conv c k
    let above := x.rot ≠ .off ∧ x.rot ≠ .foreground ∧ (convPar s c k 0x70).toNat < (v - x.passTemp).natAbs
    (above → x.staleRaised = false → staleCheck c k v s = raise 37 (objConv c k 0xFF) (evtArg 0 0xFF 0 0) (onConv c k (fun x => { x with temp := v, staleRaised := true, fsComp := fullScale s c k v }) s)) ∧
    (above → x.staleRaised = true → staleCheck c k v s = onConv c k (fun x => { x with temp := v, fsComp := fullScale s c k v }) s) ∧
    (¬above → staleCheck c k v s = onConv c k (fun x => { x with temp := v, staleRaised := false, fsComp := fullScale s c k v }) s)) ∧
  (∀ (c : Fin 2) (k : Fin 8) (sl : Fin 132) (r : MeasRun) (s : State), let x := s.conv c k
    let keep := (x.measured = some sl.val ∨ x.rot = .foreground) ∧ (x.runs.filter fun y => y.1 == sl.val).length < 2 ∧ (r.noSel || selOk k.val r.sel.toNat) = true
    (keep → exec (.measurementRunEnd c k sl r) s = .next (onConv c k (fun x => { x with runs := x.runs ++ [(sl.val, r)] }) s)) ∧
    (¬keep → exec (.measurementRunEnd c k sl r) s = .next s)) ∧
  (∀ (c : Fin 2) (s : State), ((s.car c).fg = none → exec (.calibrationGroupEnd c) s = .next s) ∧
    ∀ f, (s.car c).fg = some f → (s.dom c ≠ .run ∨ 17 + f.repeatGroups ≤ f.group → exec (.calibrationGroupEnd c) s = .next s) ∧
      (s.dom c = .run → f.group < 17 + f.repeatGroups → let r := (List.finRange 8).foldl (judgeConv s c f) (f, s.car c)
        exec (.calibrationGroupEnd c) s = .next { s with cars := s.cars.set c { r.2 with fg := some { r.1 with group := f.group + 1 } } })) ∧
  (∀ (s : State) (c : Fin 2) (f : Foreground) (k : Fin 8) (a : Foreground) (x : Conv) (sl : Nat),
    (∀ n, measOutcome s c k sl = some (.fit n) → judgeForeground s c f k (a, x) sl = (a, { x.setRole sl (if x.roles.getD sl .spare = .retired then .spare else x.roles.getD sl .spare) with selection := x.selection.set sl n, fails := x.fails.set sl 0 })) ∧
    (measOutcome s c k sl = some .unfit → judgeForeground s c f k (a, x) sl = (a, x.setRole sl .retired)) ∧
    (measOutcome s c k sl = some .failed → f.group < 17 → judgeForeground s c f k (a, x) sl = ({ a with repeats := a.repeats ++ [132 * k.val + sl] }, { x with measFails := bump x.measFails })) ∧
    (measOutcome s c k sl = some .failed → 17 ≤ f.group → judgeForeground s c f k (a, x) sl = (a, { x with measFails := bump x.measFails }.setRole sl .retired))) ∧
  (∀ (c : Fin 2) (k : Fin 8) (s : State) (p si m : Nat) (sel : BitVec 96), let x := s.conv c k
    let took := fun (sl : Nat) => if selOk k.val sel.toNat then x.selection.set sl sel.toNat else x.selection
    (x.rot = .shadowIn → x.visitPos = some p → x.standIn = some si → x.map.getD p 0 = m → exec (.shadowAgree c k sel) s = .next (onConv c k (fun x => { x with
      roles := (x.roles.set m .measuring).set si .active, map := x.map.set p si, selection := took si, rot := .measure, measured := some m, runs := [] }) s)) ∧
    (x.rot = .shadowOut → x.visitPos = some p → x.standIn = some si → x.measured = some m → exec (.shadowAgree c k sel) s = .next (serveWaiting c k (onConv c k (fun x => { x with
      roles := (x.roles.set m .active).set si .spare, map := x.map.set p m, selection := took m, rot := .gap, visits := bump x.visits, visitPos := none, standIn := none, measured := none, runs := [] }) s))) ∧
    (x.rot ≠ .shadowIn → x.rot ≠ .shadowOut → exec (.shadowAgree c k sel) s = .next s ∧ exec (.shadowTimeout c k) s = .next s) ∧
    (x.rot = .shadowIn → x.visitPos = some p → x.standIn = some si → exec (.shadowTimeout c k) s = .next (select c k (onConv c k (fun x => { x.putOff p with fails := x.fails.modify si (· + 1) }) s))) ∧
    (x.rot = .shadowOut → x.measured = some m → exec (.shadowTimeout c k) s = .next (select c k (serveWaiting c k (retireSlice c k m (x.visitPos.getD 0xFF) (onConv c k (fun x => { x with rot := .select, visitPos := none, standIn := none, measured := none, runs := [] }) s)))))) ∧
  (∀ (c : Fin 2) (k : Fin 8) (s : State), ((s.conv c k).measured = none → exec (.sliceMeasurementEnd c k) s = .next s) ∧
    ∀ m, (s.conv c k).measured = some m → (measOutcome s c k m = none → exec (.sliceMeasurementEnd c k) s = .next s) ∧
      (∀ n, measOutcome s c k m = some (.fit n) → (s.conv c k).rot = .measure → exec (.sliceMeasurementEnd c k) s = .next (onConv c k (fun x => { x with
        fails := x.fails.set m 0, selection := x.selection.set m n, rot := .shadowOut, runs := [] }) s)) ∧
      (measOutcome s c k m = some .unfit → (s.conv c k).rot = .measure → exec (.sliceMeasurementEnd c k) s = .next (measuredLost c k s)) ∧
      (measOutcome s c k m = some .failed → (s.conv c k).rot = .measure → let n := (s.conv c k).fails.getD m 0 + 1
        (n < convPar s c k 0x50 → exec (.sliceMeasurementEnd c k) s = .next (onConv c k (fun x => { x with measFails := bump x.measFails, fails := x.fails.set m n, rot := .shadowOut, runs := [] }) s)) ∧
        (convPar s c k 0x50 ≤ n → exec (.sliceMeasurementEnd c k) s = .next (measuredLost c k (onConv c k (fun x => { x with measFails := bump x.measFails, fails := x.fails.set m n }) s)))) ∧
      (∀ n, measOutcome s c k m = some (.fit n) → (s.conv c k).rot = .spareMeasure → exec (.sliceMeasurementEnd c k) s = .next (onConv c k (fun x => { x with
        roles := x.roles.set m .spare, fails := x.fails.set m 0, selection := x.selection.set m n, rot := .gap, visits := bump x.visits, visitPos := none, standIn := none, measured := none, runs := [] }) s))) ∧
  (∀ (s : State) (c : Fin 2) (k : Fin 8) (a b : MeasRun), let agree := (a.off - b.off).natAbs ≤ convPar s c k 0x40 ∧ (a.gain - b.gain).natAbs ≤ convPar s c k 0x41 ∧ (a.skew - b.skew).natAbs ≤ convPar s c k 0x42
    (¬agree → judgeRuns s c k a b = .failed) ∧ (agree → (a.noSel = true → b.noSel = true → judgeRuns s c k a b = .unfit) ∧
      (a.noSel = false ∨ b.noSel = false → (residualsOk k b = true → b.bw.natAbs ≤ 300 → judgeRuns s c k a b = .fit a.sel.toNat) ∧
        (residualsOk k b = false ∨ 300 < b.bw.natAbs → judgeRuns s c k a b = .failed)))) ∧
  (∀ (c : Fin 2) (k : Fin 8) (s : State), ((s.conv c k).rot ≠ .gap → exec (.rotationGapEnd c k) s = .next s) ∧ ((s.conv c k).rot = .gap → exec (.rotationGapEnd c k) s = .next (select c k s))) ∧
  (∀ (c : Fin 2) (k : Fin 8) (s : State), let u : State := { s with par := s.par.release .r48 (objConv c k 0xFF) }
    convPar u c k 0x20 = 0 ∨ (u.conv c k).spares = [] → select c k s = raiseConv 36 c k 0xFF 0xFF (onConv c k (fun x => { x with rot := .halted, visitPos := none, standIn := none, measured := none, runs := [] }) u)) ∧
  (∀ (c : Fin 2) (k : Fin 8) (ts : List SliceStat) (s : State), let x := s.conv c k
    let bad := (positions (· == Role.active) x.roles).filter fun sl => ts.any fun t => t.slice.val == sl && statFaulty s c k t
    (x.rot = .off ∨ x.rot = .foreground → exec (.faultWindowEnd c k ts) s = .next s) ∧
    (x.rot ≠ .off → x.rot ≠ .foreground → (∀ sl ∈ bad, sl ∉ x.faultRun) → exec (.faultWindowEnd c k ts) s = .next (onConv c k (fun x => { x with faultRun := bad, faulted := x.faulted.filter bad.contains }) s)) ∧
    (∀ sl, x.rot ≠ .off → x.rot ≠ .foreground → bad = [sl] → sl ∈ x.faultRun → sl ∉ x.faulted → (∀ u ∈ x.subst, u.faulty ≠ sl) →
      exec (.faultWindowEnd c k ts) s = .next (sliceFault c k sl (onConv c k (fun x => { x with faultRun := [sl], faulted := x.faulted.filter [sl].contains }) s)))) ∧
  ∀ (c : Fin 2) (k : Fin 8) (pos : Fin 128) (sel : BitVec 96) (s : State), ((∀ u ∈ (s.conv c k).subst, u.pos ≠ pos.val) → exec (.emergencyAlignComplete c k pos sel) s = .next s) ∧
    ∀ u, (s.conv c k).subst = [u] → u.pos = pos.val → let v := retireSlice c k u.faulty u.pos (onConv c k (fun x => { x with
        roles := x.roles.set u.repl .active, map := x.map.set u.pos u.repl, selection := if selOk k.val sel.toNat then x.selection.set u.repl sel.toNat else x.selection, subst := [], faulted := x.faulted.filter (· != u.faulty)
        emergencies := bump x.emergencies, forced := if u.forced then bump x.forced else x.forced }) s)
      exec (.emergencyAlignComplete c k pos sel) s = .next (if u.forced then endTransition (.conv c k) { status := stOk, payload := leBytes 1 u.pos } v else v)

/-- How receive groups acquire, fail and lose their signal. The end of FRONT_END sets the corrections and sends each group
to CD_SEARCH; the entry takes waiting values in force, makes the group's subcarriers WAIT, and either waits for the
search engine with the window of the held hint or of provisioning, or with a fixed setting goes on to CLOCK_ACQ. A found
candidate becomes the bulk setting; a failed search drops the hint and is a failure, which counts, raises RX_ACQ_FAIL at
the third and re-enters CD_SEARCH. Clock lock, frequency in range and training lead to FREQ_ACQ, TRAIN_SYNC and EQ_ACQ,
whose subcarriers are ACQ; all locked, or half at the 2 ms limit, give TRACK with RX_LOCK and a count of 0. Loss of
clock or frequency in TRACK raises RX_LOL, keeps the dispersion as the hint and re-enters CD_SEARCH. In any other state
each of them does nothing to the receiver; that the loss rows then judge the group's ODUCm, protection group and time
source at once is the model's choice (log 39). -/
def Obligations.ReceiveGroupsAcquire : Prop :=
  (∀ (c : Fin 2) (x y : FrontEnd) (s : State), ((s.rxc c).st ≠ .frontEnd → exec (.frontEndDone c x y) s = .next s) ∧
    ((s.rxc c).st = .frontEnd → exec (.frontEndDone c x y) s = .next (grantEngine c ((groupsOf s c).foldl (fun t g => prepSearch c g t) (onRx c (fun r => { r with st := .running, fe := (x.inRange, y.inRange) }) s))))) ∧
  (∀ (c : Fin 2) (g : Fin 16) (s : State), let u := setSubs c g.val (fun x => { x with st := .wait }) (freeEngine c g { s with par := (((s.par.release .r78 (objGroup c g)).release .r78 (objCarrier c)).releaseSearch .r78 (objGroup c g)).releaseSearch .r78 (objCarrier c) })
    enterSearch c g s = grantEngine c (prepSearch c g s) ∧
    (rxPar u c g 0x30 = 1 → prepSearch c g s = onRxg c g (fun x => { x with record := x.record.modify 2 fun b => b &&& 0xFE, st := .clockAcq, bulk := rxPar u c g 0x10, valid := false, clockLocked := false }) u) ∧
    (rxPar u c g 0x30 ≠ 1 → (u.rxg c g).hint = none → prepSearch c g s = onRxg c g (fun x => { x with record := x.record.modify 2 fun b => b &&& 0xFE, st := .cdSearch, engineWait := true, valid := false, clockLocked := false, centre := rxPar u c g 0x10, half := rxPar u c g 0x20 }) u) ∧
    (∀ h, rxPar u c g 0x30 ≠ 1 → (u.rxg c g).hint = some h → prepSearch c g s = onRxg c g (fun x => { x with record := x.record.modify 2 fun b => b &&& 0xFE, st := .cdSearch, engineWait := true, valid := false, clockLocked := false, centre := h, half := rxPar u c g 0x40 }) u)) ∧
  (∀ (c : Fin 2) (s : State), ∀ coarse fine : List Nat, ((s.rxc c).engine = none → exec (.cdSearchEnd c coarse fine) s = .next s) ∧
    ∀ g, (s.rxc c).engine = some g → (∀ b, cdFound (s.rxg c g) coarse fine = some b → exec (.cdSearchEnd c coarse fine) s = .next (grantEngine c (freeEngine c g (onRxg c g (fun x => { x with st := .clockAcq, bulk := max (-1600000) (min 1600000 b) }) s)))) ∧
      (cdFound (s.rxg c g) coarse fine = none → exec (.cdSearchEnd c coarse fine) s = .next (rxFailure c g (onRxg c g (fun x => { x with hint := none }) s)))) ∧
  (∀ (x : RxGroup) (coarse fine : List Nat) (a b : Int × Nat), bestOf (coarseCands x.centre x.half) coarse = some a → bestOf (fineCands a.1) fine = some b →
    (Config.cdThreshold ≤ b.2 → cdFound x coarse fine = some b.1) ∧ (b.2 < Config.cdThreshold → cdFound x coarse fine = none)) ∧
  (∀ (c : Fin 2) (g : Fin 16) (s : State), let x := s.rxg c g
    let f := fun r : Bool => onRxg c g (fun x => { x with fails := x.fails + 1, acqFails := bump x.acqFails, acqFailRaised := r }) s
    (x.fails + 1 = 3 → x.acqFailRaised = false → rxFailure c g s = enterSearch c g (raise 44 (objGroup c g) (evtArg 0 0xFF 0 0) (f true))) ∧
    (x.fails + 1 ≠ 3 → rxFailure c g s = enterSearch c g (f x.acqFailRaised))) ∧
  (∀ (c : Fin 2) (g : Fin 16) (off : Int) (s : State), let x := s.rxg c g
    let far := (freqRange s c g).toNat
    let out := fun u : State => Host.Outcome.next (groupHeard c g (enterSearch c g (folioLost c g (raise 42 (objGroup c g) (evtArg 0 0xFF 0 0)
      (onRxg c g (fun x => { x with closing := x.synced, segs := if x.synced then x.segs else [], volStart := false, hint := some (if x.totals = [] then x.bulk else x.cdTotal), losses := bump x.losses }) u)))))
    let far_ := fun u : State => onRxg c g (fun x => { x with freqOff := off, postShift := if s.dev.mode = some .hub then off else 0 }) (onRx c (fun r => { r with shift := if s.dev.mode = some .hub then 0 else off }) u)
    (x.st = .clockAcq → off.natAbs ≤ 102400 → exec (.clockLock c g off) s = .next (onRxg c g (fun x => { x with st := .freqAcq, clockOff := off, clockLocked := true }) s)) ∧
    (x.st ≠ .clockAcq ∨ 102400 < off.natAbs → exec (.clockLock c g off) s = .next s) ∧
    (x.st = .track → exec (.clockLoss c g) s = out s) ∧ (x.st ≠ .track → exec (.clockLoss c g) s = .next (groupHeard c g s)) ∧
    (x.st = .track → far + 500 < off.natAbs → exec (.freqLoss c g off) s = out (far_ s)) ∧
    (x.st ≠ .track ∨ off.natAbs ≤ far + 500 → exec (.freqLoss c g off) s = .next (groupHeard c g s)) ∧
    (x.st = .freqAcq → off.natAbs ≤ far → exec (.freqAcquired c g off) s = .next (far_ (onRxg c g (fun x => { x with st := .trainSync }) s))) ∧
    (x.st ≠ .freqAcq ∨ far < off.natAbs → exec (.freqAcquired c g off) s = .next s) ∧
    (s.dev.mode = some .hub → freqRange s c g = 100) ∧ (s.dev.mode ≠ some .hub → rxPar s c g 0x80 = 0 → freqRange s c g = 1000) ∧
    (s.dev.mode ≠ some .hub → rxPar s c g 0x80 = 1 → freqRange s c g = 2500) ∧ (s.dev.mode ≠ some .hub → rxPar s c g 0x80 ≠ 0 → rxPar s c g 0x80 ≠ 1 → freqRange s c g = 5000) ∧
    (x.st = .trainSync → exec (.trainingFound c g) s = .next (setSubs c g.val (fun x => { x with st := .acq, pilots := 0, mism := 0, quadX := 0, quadY := 0, tapShift := 0 }) (onRxg c g (fun x => { x with st := .eqAcq }) s))) ∧
    (x.st ≠ .trainSync → exec (.trainingFound c g) s = .next s) ∧
    (x.st = .clockAcq ∨ x.st = .freqAcq ∨ x.st = .trainSync → exec (.acquisitionTimeout c g) s = .next (rxFailure c g s)) ∧
    (x.st = .eqAcq → 2 * lockedSubs s c g < (groupSubs s c g).length → exec (.acquisitionTimeout c g) s = .next (rxFailure c g s)) ∧
    (x.st = .eqAcq → (groupSubs s c g).length ≤ 2 * lockedSubs s c g → exec (.acquisitionTimeout c g) s = .next (raise 41 (objGroup c g) (evtArg 0 0xFF 0 0) (onRxg c g (fun x => { x with
      st := .track, fails := 0, acqFailRaised := false, epoch := (x.epoch + 1) % 65536, acquisitions := bump x.acquisitions, reacq := decide (0 < x.acquisitions), totals := [], valid := false, halfOut := false, moved := false, segs := [], synced := false, volStart := false, closing := false }) s))) ∧
    (x.st = .off ∨ x.st = .cdSearch ∨ x.st = .track → exec (.acquisitionTimeout c g) s = .next s)) ∧
  ∀ (c : Fin 2) (k : Fin 16) (s : State), let x := (s.rxc c).subs[k]
    let u := halfCheck c (subGroup s c k.val) (onSub c k (fun x => { x with st := .locked }) s)
    (x.st ≠ .acq → exec (.subcarrierLocked c k) s = .next s ∧ exec (.subcarrierAcqTimeout c k) s = .next s) ∧
    (x.st = .acq → exec (.subcarrierAcqTimeout c k) s = .next (onSub c k (fun x => { x with st := .lost }) s)) ∧
    ∀ g : Fin 16, x.st = .acq → subGroup s c k.val = g.val → ((u.rxg c g).st = .eqAcq → lockedSubs u c g = (groupSubs u c g).length → exec (.subcarrierLocked c k) s = .next (enterTrack c g u)) ∧
      ((u.rxg c g).st ≠ .eqAcq ∨ lockedSubs u c g ≠ (groupSubs u c g).length → exec (.subcarrierLocked c k) s = .next u)

/-- RXDSP.REACQUIRE. RXDSP.REACQUIRE of a group in no state past FRONT_END completes with ST_BAD_STATE and the state is
otherwise the one it found. Of any other group it completes with ST_OK, the group has no hint, both failure counts are
as before, and the group has entered CD_SEARCH; with a fixed setting, which has no search, the entry leads on to
CLOCK_ACQ -/
def Obligations.ReacquireDropsTheHint : Prop :=
  ∀ (q : Request) (s : State), runs 0x0303 q s = true → let c := reqCarrier q
    let g := reqGroup q
    ((s.rxg c g).st = .off → exec (.rxdspReacquire q) s = .next (complete q.ch q.tag { status := stBadState } s)) ∧
    ((s.rxg c g).st ≠ .off → ∃ t, exec (.rxdspReacquire q) s = .next (complete q.ch q.tag { status := stOk } t) ∧
      (t.rxg c g).hint = none ∧ (t.rxg c g).fails = (s.rxg c g).fails ∧ (t.rxg c g).acqFails = (s.rxg c g).acqFails ∧
      (t.rxg c g).st = (if rxPar (releaseSearch c g s) c g 0x30 = 1 then RxGroupState.clockAcq else RxGroupState.cdSearch))

namespace Sys2Proof.Machine

/-- Received folio boundaries (none) and received loading fields, descrambled (some), of a group, in order. -/
def foliosReceived (c : Fin 2) (g : Fin 16) (s : State) : List (Option (List Byte)) → State
  | [] => s
  | none :: r => foliosReceived c g (rxLoadBoundary c g s) r
  | some bs :: r => foliosReceived c g (loadingField c g bs s) r

end Sys2Proof.Machine

/-- A loading field that fails its CRC. A received loading field whose CRC, after descrambling, does not match adds 1 to the
group's loading-field CRC failures and changes nothing else. After one good field with ARMED set, received in TRACK, any
number of fields that fail their CRC and as many folio boundaries as its COUNTDOWN, in any order, leave the demapper
under TABLE_NEXT and TID_NEXT of that one field -/
def Obligations.FailedLoadingFieldDiscarded : Prop :=
  (∀ (c : Fin 2) (g : Fin 16) (bs : List Byte) (s : State), let b := padTo 112 (ohField 16 (padTo 112 bs))
    crc16 (b.take 110) ≠ beAt b 110 2 → exec (.loadingFieldReceived c g bs) s = .next (onTxg c g (fun x => { x with lfCrc := bump x.lfCrc }) s)) ∧
  ∀ (c : Fin 2) (g : Fin 16) (bs : List Byte) (s : State) (l : List (Option (List Byte))), let b := padTo 112 (ohField 16 (padTo 112 bs))
    (s.rxg c g).st = .track → crc16 (b.take 110) = beAt b 110 2 → bit (byteAt b 0) 6 = true → 0 < byteAt b 3 →
    (∀ y, some y ∈ l → crc16 ((padTo 112 y).take 110) ≠ beAt (padTo 112 y) 110 2) → (l.filter Option.isNone).length = byteAt b 3 →
    ∃ t, exec (.loadingFieldReceived c g bs) s = .next t ∧ ((foliosReceived c g t l).txg c g).rxTable = fieldTable b 40 ∧
      ((foliosReceived c g t l).txg c g).rxTid = byteAt b 2

/-- The loading of a group, its exchange, and the tables the host gives. Each sixteenth of the allocation goes to the
subcarrier of the group below E 104 whose resulting margin is largest, the lowest-numbered on a tie. A good loading
field is taken by the receive side, its report used, and its acknowledgement arms a proposal of that TID with the
countdown length. The receive side takes TABLE_CUR and TID_CUR on entry to TRACK, on the second consecutive field of
another TID raises the event and from the next folio takes that field's table, schedules an announced table only in
TRACK, and acknowledges TID_NEXT. A report is used when valid, new and under the TID in force. A candidate is proposed
under AUTO when its margin exceeds the one in force; no table proposed already is proposed again; the interval's end
checks the margin and makes a candidate that exceeds it by the hysteresis. A proposal not acknowledged is withdrawn with
the event; entry to STEADY takes waiting values and proposes what waited, by the policy then in force. BITLOAD.TABLE.SET
needs MANUAL, accepted entries and the sum T, and answers the TID; BITLOAD.CURVE.SET and TXDSP.PREDIST.SET refuse a
decreasing table and else keep it, a curve until no group has a proposal outstanding, a pre-distortion table waiting for
the volume boundary while the transmitter runs. The end of a quality window advances the report -/
def Obligations.LoadingAndTransmitDsp : Prop :=
  (∀ (req eff : List Int) (e : List Nat) (ks : List Nat), (bestSub req eff e ks = none → ∀ k ∈ ks, e.getD k 0 = 104) ∧
    ∀ k m, bestSub req eff e ks = some (k, m) → k ∈ ks ∧ e.getD k 0 ≠ 104 ∧ m = eff.getD k 0 - req.getD (e.getD k 0 + 1) 0 ∧
      (∀ j ∈ ks, e.getD j 0 ≠ 104 → eff.getD j 0 - req.getD (e.getD j 0 + 1) 0 ≤ m) ∧
      (ks.Pairwise (· < ·) → ∀ j ∈ ks, j < k → e.getD j 0 ≠ 104 → eff.getD j 0 - req.getD (e.getD j 0 + 1) 0 < m)) ∧
  (∀ (req eff : List Int) (ks : List Nat) (n : Nat) (e : List Nat) (k : Nat) (m : Int), bestSub req eff e ks = some (k, m) → allocate req eff ks (n + 1) e = allocate req eff ks n (e.modify k (· + 1))) ∧
  (∀ (c : Fin 2) (g : Fin 16) (bs : List Byte) (s : State), let b := padTo 112 (ohField 16 (padTo 112 bs))
    let x := s.txg c g
    let y := (rxLoading c g b s).txg c g
    let ep := (s.rxg c g).epoch
    (crc16 (b.take 110) = beAt b 110 2 → exec (.loadingFieldReceived c g bs) s = .next (ackLoading c g (byteAt b 4) (useReport c g b (rxLoading c g b s)))) ∧
    ((s.rxg c g).st = .track → x.rxEpoch ≠ some ep → y.rxTid = byteAt b 1 ∧ y.rxTable = fieldTable b 8 ∧ y.rxEpoch = some ep ∧ y.mismatch = 0 ∧ y.rxPend = none) ∧
    ((s.rxg c g).st = .track → x.rxEpoch = some ep → y.rxTid = x.rxTid ∧ y.rxTable = x.rxTable) ∧
    ((s.rxg c g).st = .track → x.rxEpoch = some ep → byteAt b 1 = x.rxTid → y.rxPend = x.rxPend ∧ y.mismatch = 0 ∧ y.resyncs = x.resyncs) ∧
    ((s.rxg c g).st = .track → x.rxEpoch = some ep → byteAt b 1 ≠ x.rxTid →
      (x.mismatch = 0 → y.rxPend = x.rxPend ∧ y.mismatch = 1 ∧ y.resyncs = x.resyncs) ∧
      (0 < x.mismatch → y.rxPend = some (byteAt b 1, fieldTable b 8) ∧ y.mismatch = 0 ∧ y.resyncs = bump x.resyncs ∧ (rxLoading c g b s).evt.status.getLsbD 67 = true)) ∧
    ((s.rxg c g).st = .track → bit (byteAt b 0) 6 = true → y.rxNext = some (fieldTable b 40) ∧ y.rxNextTid = byteAt b 2 ∧ y.rxCount = byteAt b 3) ∧
    ((s.rxg c g).st ≠ .track → y.rxTid = x.rxTid ∧ y.rxTable = x.rxTable ∧ y.rxNext = x.rxNext ∧ y.rxCount = x.rxCount) ∧
    y.ackTid = (if byteAt b 2 = 0 then x.ackTid else byteAt b 2) ∧
    (∀ a, (x.st = .proposed → a = x.tidNext → ackLoading c g a s = onTxg c g (fun x => { x with st := .armed, countdown := (loadPar s c g 0x60).toNat }) s) ∧
      (x.st ≠ .proposed ∨ a ≠ x.tidNext → ackLoading c g a s = s)) ∧
    (bit (byteAt b 0) 5 = false ∨ byteAt b 7 ≠ x.tidCur ∨ x.rptSeq = some (byteAt b 6) ∨ x.st = .off → useReport c g b s = s) ∧
    (bit (byteAt b 0) 5 = true → byteAt b 7 = x.tidCur → x.rptSeq ≠ some (byteAt b 6) → x.st ≠ .off →
      let u := marginCheck c g (onTxg c g (fun x => x.accept (byteAt b 6) ((bytesAt b 72 32).map (·.toNat))) s)
      (loadPar u c g 0x20 = 0 → marginNow u c g < loadPar u c g 0x30 → useReport c g b s = onTxg c g (fun x => { x with candidate := some (effOf x.snr) }) u) ∧
      (loadPar u c g 0x20 ≠ 0 ∨ loadPar u c g 0x30 ≤ marginNow u c g → useReport c g b s = u)) ∧
    (∀ p, x.rxPend = some p → x.rxNext = none → ((rxLoadBoundary c g s).txg c g).rxTid = p.1 ∧ ((rxLoadBoundary c g s).txg c g).rxTable = p.2) ∧
    (∀ (rpt : List Nat) (i : Nat), i < 32 → (x.accept (byteAt b 6) rpt).snr[i]? = some (if rpt.getD i 0xFF ≤ 200 then 25 * (rpt.getD i 0 : Int) - 1000 else x.snr.getD i 0))) ∧
  (∀ (x : TxGroup) (tab : List Nat), (x.st = .steady ∨ x.st = .proposed → x.propose tab = { x with st := .proposed, tidNext := x.nextTid, lastTid := x.nextTid, tableNext := tab }) ∧
    (x.st = .armed ∨ x.st = .off → x.propose tab = x) ∧ (x.st = .armed → x.proposeAuto tab = { x with want := some tab }) ∧
    (x.st = .proposed → x.tableNext = tab → x.proposeAuto tab = x) ∧ (x.st ≠ .armed → (x.st ≠ .proposed ∨ x.tableNext ≠ tab) → x.proposeAuto tab = x.propose tab) ∧ (x.nextTid ≠ 0 → x.nextTid ≠ x.tidCur)) ∧
  (∀ (c : Fin 2) (g : Fin 16) (s : State), let x := s.txg c g
    (x.candidate = none → exec (.loadingCandidateReady c g) s = .next s) ∧
    (∀ eff, x.candidate = some eff → let tab := candidateTable s c g.val eff
      (loadPar s c g 0x20 = 0 → marginNow s c g < tableMargin s c g.val tab eff → exec (.loadingCandidateReady c g) s = .next (onTxg c g (fun x => { x with candidate := none }.proposeAuto tab) s)) ∧
      (loadPar s c g 0x20 ≠ 0 ∨ tableMargin s c g.val tab eff ≤ marginNow s c g → exec (.loadingCandidateReady c g) s = .next (onTxg c g (fun x => { x with candidate := none }) s))) ∧
    (let w := onTxg c g (fun x => { x with sums := List.replicate 32 0, reports := 0, neverOk := List.replicate 32 true, snr := if x.reports = 0 then x.snr else (List.range 32).map fun i => if x.neverOk.getD i true then -1000 else x.snr.getD i 0 }) s
      let u := marginCheck c g w
      let eff := effOf ((List.range 32).map fun i => if x.neverOk.getD i true then -1000 else divRound (x.sums.getD i 0) x.reports)
      let better := marginNow u c g + loadPar s c g 0x40 ≤ tableMargin s c g.val (candidateTable s c g.val eff) eff
      (x.reports = 0 ∨ x.st = .off → exec (.loadingIntervalEnd c g) s = .next w) ∧
      (0 < x.reports → x.st ≠ .off → (loadPar s c g 0x20 = 0 → better → exec (.loadingIntervalEnd c g) s = .next (onTxg c g (fun x => { x with candidate := some eff }) u)) ∧
        (loadPar s c g 0x20 ≠ 0 ∨ ¬better → exec (.loadingIntervalEnd c g) s = .next u))) ∧
    (x.st ≠ .proposed → exec (.proposalTimeout c g) s = .next s) ∧
    (x.st = .proposed → exec (.proposalTimeout c g) s = .next (enterSteady c g (raise 66 (objGroup c g) (evtArg 0 0 0 0) (onTxg c g (fun x => { x with withdrawn := bump x.withdrawn }) s)))) ∧
    (let u := releaseCurves c (onTxg c g (fun x => { x with st := .steady, tidNext := 0, tableNext := List.replicate 16 0, countdown := 0, want := none }) { s with par := s.par.release .r103 (objGroup c g) })
      let y := u.txg c g
      (∀ t, loadPar u c g 0x20 = 0 → x.want = some t → enterSteady c g s = onTxg c g (fun y => y.propose t) u) ∧
      (loadPar u c g 0x20 = 0 → x.want = none → enterSteady c g s = u) ∧
      (∀ m, loadPar u c g 0x20 = 1 → y.manual = some m → m ≠ y.tableCur → tableFits u c g.val m = true → enterSteady c g s = onTxg c g (fun y => y.propose m) u) ∧
      (loadPar u c g 0x20 = 1 → (∀ m, y.manual = some m → m = y.tableCur ∨ tableFits u c g.val m = false) → enterSteady c g s = u) ∧
      (loadPar u c g 0x20 ≠ 0 → loadPar u c g 0x20 ≠ 1 → enterSteady c g s = u))) ∧
  (∀ (c : Fin 2) (g : Fin 16) (ms : List (Fin 16 × SubQuality)) (s : State), let u := preFec c (ms.foldl (subQuality c g) s)
    exec (.qualityWindowEnd c g ms) s = .next (onTxg c g (fun x => { x with outSeq := (x.outSeq + 1) % 256, outTid := if x.outChanged then 0xFF else x.rxTid, outChanged := false, outEpoch := if (s.rxg c g).st = .track then some (s.rxg c g).epoch else none }) u)) ∧
  (∀ (q : Request) (s : State), let c := reqCarrier q
    let g := reqGroup q
    let tab := (List.range 16).map fun k => u16 q (4 + 2 * k)
    let cv := (List.range 105).map fun i => s16 q (8 + 2 * i)
    let pd := q.bulk.map (·.toNat)
    (runs 0x0402 q s = true → (loadPar s c g 0x20 ≠ 1 → exec (.bitloadTableSet q) s = .next (complete q.ch q.tag { status := stBadState } s)) ∧
      (loadPar s c g 0x20 = 1 → (∀ k, badEntry s c g.val tab = some k → exec (.bitloadTableSet q) s = .next (complete q.ch q.tag { status := stBadParam, detail := 4 + 2 * k } s)) ∧
        (badEntry s c g.val tab = none → ((groupSubs s c g.val).map fun k => 16 + entryE (tab.getD k 0)).sum ≠ targetOf s c g.val → exec (.bitloadTableSet q) s = .next (complete q.ch q.tag { status := stBadParam, detail := 4 } s)) ∧
        (badEntry s c g.val tab = none → ((groupSubs s c g.val).map fun k => 16 + entryE (tab.getD k 0)).sum = targetOf s c g.val →
          exec (.bitloadTableSet q) s = .next (complete q.ch q.tag { status := stOk, payload := leBytes 1 (s.txg c g).nextTid } (keepBody 0x0402 q (onTxg c g (fun x => { x.propose tab with manual := some tab }) s)))))) ∧
    (runs 0x0403 q s = true → (2 < u8 q 4 → exec (.bitloadCurveSet q) s = .next (complete q.ch q.tag { status := stBadParam, detail := 4 } s)) ∧
      (u8 q 4 ≤ 2 → (∀ i, i < 104 → cv.getD i 0 ≤ cv.getD (i + 1) 0) → exec (.bitloadCurveSet q) s = .next (complete q.ch q.tag { status := stOk }
        (keepBody 0x0403 q (releaseCurves c (onTx c (fun t => { t with curvesNext := putKey (u8 q 4) cv t.curvesNext }) s))))) ∧
      (u8 q 4 ≤ 2 → ∀ i, i < 104 → cv.getD (i + 1) 0 < cv.getD i 0 → ∃ d, exec (.bitloadCurveSet q) s = .next (complete q.ch q.tag { status := stBadParam, detail := d } s))) ∧
    (runs 0x0411 q s = true → let good := q.bulk.length = 1024 ∧ ∀ i, i < 1023 → pd.getD i 0 ≤ pd.getD (i + 1) 0
      (good → (s.txc c).txOn = true → exec (.txdspPredistSet q) s = .next (complete q.ch q.tag { status := stOk } (keepBody 0x0411 q (onTx c (fun t => { t with predistNext := some pd }) s)))) ∧
      (good → (s.txc c).txOn = false → exec (.txdspPredistSet q) s = .next (complete q.ch q.tag { status := stOk } (keepBody 0x0411 q (onTx c (fun t => { t with predist := pd }) s)))) ∧
      (¬good → exec (.txdspPredistSet q) s = .next (complete q.ch q.tag { status := stBadParam, detail := 0 } s))))

/-- The decoding commands, and the life of a codeword from its parcel to its deadline. DECODE.POOL.REMOVE refuses when too
few Readers would remain and else empties the pool, which then is OUT with DEC_POOL_OUT; DECODE.POOL.RESTORE starts for
a pool that is not IN and reports the Readers that fail; DECODE.READER.ENABLE needs a pool IN; DECODE.SET stores its
values but for what it refuses, and a new entry count reallocates the Reserve. A group in TRACK sends the next 20,480
bits of its stream as a parcel, a group that has left it the rest of its open codeword. A parcel is numbered, given its
deadline and queued by deadline in the pool that the rules select, without the items that came poisoned: a home pool in
service with room and the shortest queue, else any such pool; with none it is parked on arrival with DEC_QUEUE_FULL, or
on a fixed-latency carrier written unresolved. An idle Reader in service takes the head of its own queue, starts it with
the smallest of the cap and the iterations left, writes the hard decisions with fewer than 2 left, or begins to fetch a
Reserve entry. An iteration is one of layered min-sum; a Reader that has converged, or a faulty one that says so, passes
its bits to the syndrome check, which issues the result and counts it, or returns the parcel to the head of its queue
and takes the Reader out of service with DEC_READER_FAULT; at the limit a first pass is parked, or written unresolved on
a fixed-latency carrier or at the deadline limit, and a Reserve pass overwrites its placeholder only when better. A
fetch of poisoned data, past the deadline or with no iteration left abandons the pass; an entry that can no longer be
started expires; at its deadline a codeword leaves every queue; a result is written to its slot, or is late once the
read has begun. That what a Reader would write for a released codeword counts as late is the model's choice (log 56), as
are the choice of the slot and the places of the items (log 67) -/
def Obligations.CodewordsDecoded : Prop :=
  (∀ (q : Request) (s : State), let p := reqPool q
    let r := reqReader q
    (runs 0x0503 q s = true → (s.dec.pools[p].st = .out → exec (.decodePoolRemove q) s = .next (complete q.ch q.tag { status := stOk } s)) ∧
      (s.dec.pools[p].st ≠ .out → bit (u8 q 4) 0 = false → (readersLeft s p * 100000000000 < 125 * measuredRate s * 240 → exec (.decodePoolRemove q) s = .next (complete q.ch q.tag { status := stNoCapacity } s)) ∧
        (125 * measuredRate s * 240 ≤ readersLeft s p * 100000000000 → exec (.decodePoolRemove q) s = .next (setPhase q.ch q.tag .started (beginTransition (.pool p) 0x0503 q (onPool p (fun x => { x with st := .removing, restoring := none }) s))))) ∧
      (s.dec.pools[p].st ≠ .out → bit (u8 q 4) 0 = true → exec (.decodePoolRemove q) s = .next (setPhase q.ch q.tag .started (beginTransition (.pool p) 0x0503 q (onPool p (fun x => { x with st := .removing, restoring := none }) (terminate (.pool p) s)))))) ∧
    (runs 0x0504 q s = true → ∀ f : Word16, (s.dec.pools[p].st = .isIn ∨ stopHeld (8 + p.val) s = true → exec (.decodePoolRestore q f) s = .next (complete q.ch q.tag { status := stBadState } s)) ∧
      (s.dec.pools[p].st ≠ .isIn → stopHeld (8 + p.val) s = false → exec (.decodePoolRestore q f) s = .next (setPhase q.ch q.tag .started (poolRestored p (requestDomain (8 + p.val) .run
        (onPool p (fun x => { x with restoring := some (f.toNat % 4096) }) (beginTransition (.pool p) 0x0504 q s))))))) ∧
    (runs 0x0505 q s = true → (s.dec.pools[p].st ≠ .isIn → ∀ b, exec (.decodeReaderEnable q b) s = .next (complete q.ch q.tag { status := stBadState } s)) ∧
      (s.dec.pools[p].st = .isIn → exec (.decodeReaderEnable q true) s = .next (complete q.ch q.tag { status := stOk, payload := leBytes 1 1 } (raise0 85 (objReader p r) (onReader p r (fun x => { x with inService := false }) s))) ∧
        exec (.decodeReaderEnable q false) s = .next (complete q.ch q.tag { status := stOk, payload := leBytes 1 0 } (onReader p r (fun x => { x with inService := true }) s)))) ∧
    (runs 0x0501 q s = true → (∀ off, parseRecords 0x0501 q = .error off → exec (.decodeSet q) s = .next (complete q.ch q.tag { status := stBadParam, detail := off } s)) ∧
      ∀ rs, parseRecords 0x0501 q = .ok rs → (∀ d, decodeSetCheck q rs s = some (.done d) → exec (.decodeSet q) s = .next (complete q.ch q.tag d s)) ∧
      (decodeSetCheck q rs s = none → let u := applyRecs 0x0501 q rs s
        (hasRow rs 9 = false ∨ s.stk.region 1 = none → exec (.decodeSet q) s = .next (complete q.ch q.tag { status := stOk } u)) ∧
        (hasRow rs 9 = true → s.stk.region 1 ≠ none → (∀ v, allocRegion 1 (reservePages u) u = .ok v → exec (.decodeSet q) s = .next (complete q.ch q.tag { status := stOk } (onDec (fun d => { d with reserve := [], highArmed := true }) v))) ∧
          ∀ e, allocRegion 1 (reservePages u) u = .error e → exec (.decodeSet q) s = .next (complete q.ch q.tag { status := e } s))))) ∧
  (∀ (p : Fin 8) (s : State), let go := s.dec.pools[p].st = .removing ∧ s.dec.pools[p].drained = true
    (¬go → exec (.poolDrained p) s = .next s) ∧ (go → exec (.poolDrained p) s = .next (endTransition (.pool p) { status := stOk } (raise0 86 (objPool p) (onPool p (fun x => { x with st := .out }) s)))) ∧
    ∀ m, s.dec.pools[p].restoring = some m → s.dom (8 + p.val) = .run → let u := endTransition (.pool p) { status := stOk, payload := leBytes 2 (m % 4096) } (onPool p (fun x => { x with
        st := .isIn, restoring := none, readers := Vector.ofFn fun r => { x.readers[r] with inService := !bit m r.val } }) s)
      (anyCarrier s = true → poolRestored p s = u) ∧ (anyCarrier s = false → poolRestored p s = requestDomain (8 + p.val) .clockOff u)) ∧
  (∀ (s : State) (c : Fin 2) (p : Fin 8), choosePool s c = some p → let room := fun q : Fin 8 => s.dec.pools[q].st = .isIn ∧ s.dec.pools[q].queue.length < 48
    room p ∧ (homePool c p = true → ∀ q, homePool c q = true → room q → s.dec.pools[p].queue.length ≤ s.dec.pools[q].queue.length) ∧
      (homePool c p = false → (∀ q, homePool c q = true → ¬room q) ∧ ∀ q, room q → s.dec.pools[p].queue.length ≤ s.dec.pools[q].queue.length)) ∧
  (∀ (c : Fin 2) (g : Fin 16) (s : State), let x := s.rxg c g
    let l := openStream x.segs
    let n := segBits (sameVol l).1
    let a := (l.head?.map (·.arrival)).getD 0
    let ended := onRxg c g (fun x => { x with segs := [], synced := false, closing := false }) s
    (x.synced = false ∨ (x.st ≠ .track ∧ x.closing = false) → exec (.parcelAssembled c g) s = .next s) ∧
    (x.synced = true → x.st = .track ∨ x.closing = true → (20480 ≤ n → exec (.parcelAssembled c g) s = .next (sendParcel c g (takeSegs 20480 l).1 a (onRxg c g (fun x => { x with segs := (takeSegs 20480 l).2 }) s))) ∧
      (n < 20480 → x.closing = false → exec (.parcelAssembled c g) s = .next s) ∧
      (n = 0 → x.closing = true → exec (.parcelAssembled c g) s = .next ended) ∧
      (0 < n → n < 20480 → x.closing = true → exec (.parcelAssembled c g) s = .next (sendParcel c g (takeSegs n l).1 a ended)))) ∧
  (∀ (c : Fin 2) (g : Fin 16) (ds : List Dim) (arrival : Nat) (s0 : State), let s := countRate s0
    let i := 16 * c.val + g.val
    let seq := s.dec.nextSeq.getD i 0
    let k := (i + 1) * 2 ^ 32 + seq
    let dl := arrival + (playoutNs s c) * 65536 + alignOffset s c - 1000 * 65536
    let llr := ds.flatMap (·.llr)
    let up := packBits (ds.flatMap (·.up))
    let rate := (s.car c).ldpcRate
    let n := infoCols rate / 2 + ceilDiv up.length 64
    let word := fun (bad : List Nat) (slot : Nat) => ({ key := k, seq := seq, car := c, group := g, rate := rate, deadline := dl, slot := slot, bad := bad, llr := packLlr (eraseItems bad llr), upper := up
                                                        filled := min 20480 llr.length, level1 := leNat (packBits ((ds.flatMap fun d => (List.range d.llr.length).map (· == 1)).take 20480)), st := .queued } : Codeword)
    let put := fun (bad : List Nat) (slot : Nat) (u : State) => onRxg c g (fun x => { x with due := x.due.map fun d => if d.arrival = arrival then { d with slots := d.slots ++ [(slot, seq)] } else d })
      (onDec (fun d => { d with nextSeq := d.nextSeq.set i ((seq + 1) % 2 ^ 32), words := (d.words.filter fun x => x.key != k) ++ [word bad slot] }) u)
    (∀ p, choosePool s c = some p → let b := chutePoison c.val (2 + p.val) s
      let v := put b.1 (queueSlot c n b.2).1 (queueSlot c n b.2).2
      sendParcel c g ds arrival s0 = onPool p (fun x => { x with queue := enqueue v k dl x.queue, peak := max x.peak (enqueue v k dl x.queue).length }) v) ∧
    (choosePool s c = none → let slot := (queueSlot c n s).1
      let full := raise 82 (objCarrier c) (evtArg 0 0 0 0) (put [] slot (queueSlot c n s).2)
      (fixedLatency full c = true → sendParcel c g ds arrival s0 = unresolve k 0 0 (issue c.val (word [] slot) (hardBits (word [] slot).llr) true full)) ∧
      (fixedLatency full c = false → sendParcel c g ds arrival s0 = park c.val k (hardBits (word [] slot).llr) 0 true full))) ∧
  (∀ (isl k : Nat) (bits : List Byte) (n : Nat) (ar : Bool) (w0 : Codeword) (s : State), s.cw k = some w0 → let w : Codeword := { w0 with st := .parked, iter1 := n, unsat := unsatisfied w0.rate bits }
    let u := issue isl w bits true (onCw k (fun _ => w) (onDecCtr w.car (fun c => if ar then { c with parkedArrival := bump c.parkedArrival } else { c with parkedCap := bump c.parkedCap }) s))
    (freeEntry u = none → park isl k bits n ar s = raise 84 (objCarrier w.car) (evtArg 0 0 0 0) (unresolve k 2 n u)) ∧
    (∀ e a, freeEntry u = some e → reserveWord (onDec (fun d => { d with reserve := d.reserve ++ [(e, k)] }) u) e = some a →
      park isl k bits n ar s = reserveHigh w.car (writeItem a (reserveBytes w ar) w.seq 4 false [] (onDec (fun d => { d with reserve := d.reserve ++ [(e, k)] }) u)))) ∧
  (∀ (p : Fin 8) (r : Fin 12) (s : State), let x := s.dec.pools[p].readers[r]
    let idle := x.inService = true ∧ x.work = none ∧ s.dec.pools[p].st ≠ .out
    (¬idle → exec (.readerIdle p r) s = .next s) ∧
    (∀ k l, s.dec.pools[p].queue = k :: l → nextQueued s p = some (p, k)) ∧
    (∀ q k w, idle → nextQueued s p = some (q, k) → s.cw k = some w → exec (.readerIdle p r) s = .next (startCodeword p r q w s)) ∧
    (idle → nextQueued s p = none → s.dec.pools[p].st = .isIn → (nextReserve s = none → exec (.readerIdle p r) s = .next s) ∧
      ∀ w, nextReserve s = some w → exec (.readerIdle p r) s = .next (onReader p r (fun x => { x with work := some { key := w.key, rate := w.rate, reserve := true, fetching := true, from_ := p.val, iter := 0, limit := 0, byCap := false } }) (onCw w.key (fun w => { w with st := .redecoding }) s)))) ∧
  (∀ (p : Fin 8) (r : Fin 12) (w : Codeword) (s : State), let u := onPool p (fun x => { x with queue := x.queue.filter (· != w.key) }) s
    let cap := min (decPar s w.car 0x40) (if decPar s w.car 0x51 < s.dec.pools[p].queue.length then decPar s w.car 0x50 else decPar s w.car 0x40)
    let dl := deadlineIters (s.tod16 + iter16 * ringDist p p) w.deadline
    let d := minSumStart w.rate w.llr
    (min cap dl < 2 → startCodeword p r p w s = unresolve w.key 5 0 (issue (2 + p.val) w (hardBits w.llr) true (onDecCtr w.car (countErased w) u))) ∧
    (2 ≤ min cap dl → startCodeword p r p w s = onReader p r (fun x => { x with work := some { key := w.key, rate := w.rate, reserve := false, fetching := false, from_ := p.val, iter := 0, limit := min cap dl, byCap := cap ≤ dl, post := d.1, msgs := d.2 } }) (onCw w.key (fun w => { w with st := .decoding }) u))) ∧
  (∀ (p : Fin 8) (r : Fin 12) (fault : Option (List Byte)) (s : State), (s.dec.pools[p].readers[r].work = none → exec (.decodeIterationEnd p r fault) s = .next s) ∧
    ∀ k0, s.dec.pools[p].readers[r].work = some k0 → (k0.fetching = true → exec (.decodeIterationEnd p r fault) s = .next s) ∧
      (k0.fetching = false → let d := minSumIter k0.rate (normFactor s (carrierOf ((k0.key / 2 ^ 32 - 1) / 16)) k0.reserve) (k0.post, k0.msgs)
        let k := { k0 with iter := k0.iter + 1, post := d.1, msgs := d.2 }
        let b := (fault.map (padTo 2560)).getD (minSumBits d.1)
        let rep := fault.isSome || unsatisfied k.rate b == 0
        let u := onReader p r (fun x => { x with work := some k, busy := bump x.busy }) s
        (u.cw k.key = none → exec (.decodeIterationEnd p r fault) s = .next (readerDone p r (afterRelease p r k rep b u))) ∧
        ∀ w, u.cw k.key = some w → (rep = true → unsatisfied w.rate b = 0 → exec (.decodeIterationEnd p r fault) s = .next (readerDone p r (converged (2 + p.val) w k b u))) ∧
          (rep = true → unsatisfied w.rate b ≠ 0 → k.reserve = false → ∀ q : Fin 8, k.from_ = q.val → exec (.decodeIterationEnd p r fault) s = .next (readerDone p r (raise 85 (objReader p r) (evtArg 0 0 0 0)
            (onDecCtr w.car (fun c => { c with readerFaults := bump c.readerFaults }) (onReader p r (fun x => { x with inService := false, faults := bump x.faults })
              (onPool q (fun x => { x with queue := w.key :: x.queue }) (onCw w.key (fun w => { w with st := .queued }) u))))))) ∧
          (rep = true → unsatisfied w.rate b ≠ 0 → k.reserve = true → exec (.decodeIterationEnd p r fault) s = .next (readerDone p r (raise 85 (objReader p r) (evtArg 0 0 0 0)
            (onDecCtr w.car (fun c => { c with readerFaults := bump c.readerFaults }) (onReader p r (fun x => { x with inService := false, faults := bump x.faults })
              (if u.tod16 + reserveLead u w ≤ w.deadline then onCw w.key (fun w => { w with st := .parked }) u else freeReserve w.key (unresolve w.key 3 (w.iter1 + k.iter) u))))))) ∧
          (rep = false → k.iter < k.limit → exec (.decodeIterationEnd p r fault) s = .next u) ∧
          (rep = false → k.limit ≤ k.iter → exec (.decodeIterationEnd p r fault) s = .next (readerDone p r (exhausted (2 + p.val) w k b (onDecCtr w.car (fun c => if k.reserve && w.iter1 != 0 then c else countErased w c) u)))))) ∧
  (∀ (isl : Nat) (w : Codeword) (k : Work) (b : List Byte) (s : State), let n := w.iter1 + k.iter
    (k.reserve = true → unsatisfied w.rate b < w.unsat → exhausted isl w k b s = freeReserve w.key (unresolve w.key 1 n (issue isl w b true s))) ∧
    (k.reserve = true → w.unsat ≤ unsatisfied w.rate b → exhausted isl w k b s = freeReserve w.key (unresolve w.key 1 n s)) ∧
    (k.reserve = false → fixedLatency s w.car = true → exhausted isl w k b s = unresolve w.key 0 n (issue isl w b true s)) ∧
    (k.reserve = false → fixedLatency s w.car = false → k.byCap = true → exhausted isl w k b s = park isl w.key b k.iter false s) ∧
    (k.reserve = false → fixedLatency s w.car = false → k.byCap = false → exhausted isl w k b s = unresolve w.key 5 n (issue isl w b true s))) ∧
  (∀ (p : Fin 8) (r : Fin 12) (s : State), (s.dec.pools[p].readers[r].work = none → exec (.reserveFetchComplete p r) s = .next s) ∧
    ∀ k w e a, s.dec.pools[p].readers[r].work = some k → k.fetching = true → s.cw k.key = some w → s.dec.reserve.find? (fun x => x.2 == k.key) = some (e, k.key) → reserveWord s e = some a →
      let rd := readItem a 201 (some (4, w.seq % 256)) s
      let left := deadlineIters s.tod16 w.deadline
      let d := minSumStart w.rate (rd.1.drop 64)
      (rd.2.1 = true → exec (.reserveFetchComplete p r) s = .next (onReader p r (fun x => { x with work := none }) (freeReserve w.key (unresolve w.key 4 w.iter1 (poisonOut 7 rd.2.2))))) ∧
      (rd.2.1 = false → w.deadline ≤ s.tod16 → exec (.reserveFetchComplete p r) s = .next (onReader p r (fun x => { x with work := none }) (freeReserve w.key (unresolve w.key 3 w.iter1 rd.2.2)))) ∧
      (rd.2.1 = false → s.tod16 < w.deadline → left = 0 → exec (.reserveFetchComplete p r) s = .next (onReader p r (fun x => { x with work := none }) (freeReserve w.key (unresolve w.key 5 w.iter1 rd.2.2)))) ∧
      (rd.2.1 = false → s.tod16 < w.deadline → left ≠ 0 → exec (.reserveFetchComplete p r) s = .next (onReader p r (fun x => { x with work := some { k with fetching := false, iter := 0, limit := min (48 - w.iter1) left, post := d.1, msgs := d.2 } }) rd.2.2))) ∧
  (∀ (c : Fin 2) (g : Fin 16) (seq : Word32) (s : State), let k := (16 * c.val + g.val + 1) * 2 ^ 32 + seq.toNat
    let u := onDec (fun d => { d with words := d.words.filter fun x => x.key != k, pools := d.pools.map fun p => { p with queue := p.queue.filter (· != k) } }) (freeReserve k s)
    (s.cw k = none → exec (.reserveEntryExpiry c g seq) s = .next s ∧ exec (.codewordDeadline c g seq) s = .next s) ∧
    ∀ w, s.cw k = some w → (w.st = .parked → w.deadline < s.tod16 + (2000 * 65536 + iter16 * (decPar s w.car 0x80 + 1)) → exec (.reserveEntryExpiry c g seq) s = .next (freeReserve k (unresolve k 3 w.iter1 s))) ∧
      (w.st ≠ .parked ∨ s.tod16 + (2000 * 65536 + iter16 * (decPar s w.car 0x80 + 1)) ≤ w.deadline → exec (.reserveEntryExpiry c g seq) s = .next s) ∧
      (w.st = .done ∨ w.st = .unresolved → exec (.codewordDeadline c g seq) s = .next u) ∧
      (w.st ≠ .done → w.st ≠ .unresolved → exec (.codewordDeadline c g seq) s = .next (onDecCtr w.car (fun c => { c with causes := c.causes.modify 3 bump, hist := c.hist.modify (min 48 w.iter1) bump }) u))) ∧
  ∀ s : State, (s.dec.results = [] → exec .resultWrite s = .next s) ∧
    ∀ x l, s.dec.results = x :: l → let ch := chutePoison x.island 18 (onDec (fun d => { d with results := l }) s)
      let gone := ∃ q ∈ ch.2.dec.slots, q.slot = x.slot ∧ q.seq = x.seq ∧ q.car = x.car ∧ q.readBegun = true
      (gone → exec .resultWrite s = .next (raise 81 (objCarrier x.car) (evtArg 0 0 0 0) (onDecCtr x.car (fun c => { c with late := bump c.late }) ch.2))) ∧
      (¬gone → exec .resultWrite s = .next (onDec (fun d => { d with slots := { slot := x.slot, car := x.car, seq := x.seq, words := ceilDiv x.data.length 64, unres := x.unres, readBegun := false } :: d.slots.filter fun y => y.slot != x.slot })
        (writeItem x.slot x.data x.seq 1 x.unres (x.poison ++ ch.1.flatMap fun i => [2 * i, 2 * i + 1]) ch.2)))

/-- The Interloan: sending, the receiver of each tone, and its commands. The transmitter takes the head of the first
non-empty queue in the order SCHED, TIME, KEY, JOIN, MGMT and places it on the lowest tone that qualifies; with none it
waits. At a slot boundary of the sender's grid waiting values and a waiting grant table apply, tones whose bursts have
ended fall silent, the hub queues the SCHED of volume V plus the lead in slot 0, a leaf takes up the volume's SCHED and
sends its JOIN when due. An unranged leaf draws its JOIN slot, a value left free, once per window. A detection is the
greatest metric at the threshold with none greater after it; it starts an idle receiver, replaces a burst before PAYLOAD
only when stronger and one in PAYLOAD only by the capture margin, and else is held when it is the strongest; a given-up
burst hands over to a held detection within the 512-symbol history. Preamble, training and header lead to TRAIN, HEADER
and PAYLOAD with their failures and poisoned bursts counted. A granted ranged leaf not heard is marked unranged with the
event; a noise floor above its threshold raises the event once. INTERLOAN.SCHEDULE.SET, INTERLOAN.SEND and
INTERLOAN.RECV refuse, store, queue and return as their rules say -/
def Obligations.InterloanService : Prop :=
  (∀ i : Interloan, (nextBurst i = none → ∀ x ∈ i.queue, 5 ≤ x.typ) ∧ ∀ b, nextBurst i = some b → b ∈ i.queue ∧ ∀ x ∈ i.queue, [3, 2, 1, 4, 0].idxOf b.typ ≤ [3, 2, 1, 4, 0].idxOf x.typ) ∧
  (∀ (c : Fin 2) (n : Nat) (s : State), (nextBurst s.il[c] = none → placeBurst c n s = s) ∧
    ∀ b, nextBurst s.il[c] = some b → ((∀ t, toneQualifies s c n b.typ b.payload.length t = false) → placeBurst c n s = s) ∧
      ∀ t, toneQualifies s c n b.typ b.payload.length t = true → (∀ u, u < t → toneQualifies s c n b.typ b.payload.length u = false) →
        let v := onIl c (fun i => { i with queue := popBurst b.typ i.queue }) s
        let bs := airBytes v c (1024 * n % 2 ^ 32) b
        placeBurst c n s = onTone c t (fun x => { x with freeAt := (n + burstSlots v c b.payload.length) % 2 ^ 36, sent := x.sent.modify b.typ bump,
                                                          sending := some { pos := 1024 * n % 2 ^ 32, bytes := bs, syms := preamble ++ qpskSyms (sendBits bs), power := ilParI v c 0x10 } }) v) ∧
  (∀ (c : Fin 2) (x : Nat) (s : State), let n := gridSlot s c x
    let u := onIl c (fun i => { i with slot := n, owner := i.ownerNext.getD i.owner, ownerNext := none, tones := i.tones.map fun t => { t with sending := if t.freeIn n then none else t.sending } })
      { s with par := s.par.release .r158 (objCarrier c) }
    ((s.txc c).txOn = false → exec (.slotBoundaryTx c x) s = .next u) ∧
    ((s.txc c).txOn = true → (s.dev.mode = some .hub → n % 16 = 0 → exec (.slotBoundaryTx c x) s = .next (placeBurst c n (ilEnqueue c 3 0xFE (schedBytes u c ((slotVol n + ilPar u c 0x90) % 2 ^ 32))
        (onIl c (fun i => { i with queue := i.queue.filter fun b => b.typ != 3 }) u)))) ∧
      (s.dev.mode ≠ some .leaf → s.dev.mode ≠ some .hub ∨ n % 16 ≠ 0 → exec (.slotBoundaryTx c x) s = .next (placeBurst c n u)) ∧
      (s.dev.mode = some .leaf → n % 16 = 0 → exec (.slotBoundaryTx c x) s = .next (placeBurst c n (placeJoin c n (enterVolume c (slotVol n) u)))) ∧
      (s.dev.mode = some .leaf → n % 16 ≠ 0 → exec (.slotBoundaryTx c x) s = .next (placeBurst c n (placeJoin c n u))))) ∧
  (∀ (c : Fin 2) (n : Nat) (s : State), let u := onIl c (fun i => { i with joinDue := none }) s
    let fits := fun t : Fin 4 => toneInMask s c t.val && (s.tone c t).freeIn n && !isQuiet n
    (s.il[c].joinDue ≠ some n ∨ s.il[c].ranged = true → placeJoin c n s = s) ∧
    (s.il[c].joinDue = some n → s.il[c].ranged = false → ((∀ t, fits t = false) → placeJoin c n s = u) ∧
      ∀ t, fits t = true → (∀ k, k < t → fits k = false) → placeJoin c n s = sendBurst c t n { typ := 4, dst := 0x80, seq := s.il[c].nextSeq.getD 4 0, payload := joinBytes s c }
        (onIl c (fun i => { i with nextSeq := i.nextSeq.modify 4 fun k => (k + 1) % 65536 }) u))) ∧
  (∀ (c : Fin 2) (s : State), let v := (s.fol c ((groupsOf s c).headD 0)).rxVolume
    let first := joinVolume s.il[c] v = true ∧ joinVolume s.il[c] ((v + 2 ^ 32 - 1) % 2 ^ 32) = false
    (s.dev.mode = some .leaf → s.il[c].ranged = false → first → ∃ r : Fin 16, exec (.joinWindowStart c) s = .next (onIl c (fun i => { i with joinDue := some (16 * v + r.val) }) s.drawn)) ∧
    (s.dev.mode ≠ some .leaf ∨ s.il[c].ranged = true ∨ ¬first → exec (.joinWindowStart c) s = .next s)) ∧
  (∀ (c : Fin 2) (t : Fin 4) (start : Nat) (ms : List Nat) (later : Nat) (s : State), let b := bestHyp (ms.take 65)
    let m := min b.2 65536
    (65536 * ilPar s c 0x40 ≤ 10000 * m → later ≤ m → exec (.toneDetection c t start ms later) s = .next (onTone c t (Tone.detect (ilPar s c 0x50) m b.1 start) s)) ∧
    (10000 * m < 65536 * ilPar s c 0x40 ∨ m < later → exec (.toneDetection c t start ms later) s = .next s)) ∧
  (∀ (mg m h start now : Nat) (t0 : Tone), let t := { t0 with detections := bump t0.detections, clock := max t0.clock (start + 68) }
    let mid := t0.st = .preamble ∨ t0.st = .train ∨ t0.st = .header
    (t0.st = .off → Tone.detect mg m h start t0 = t) ∧ (t0.st = .idle → Tone.detect mg m h start t0 = takeDetection m h start (start + 68) t) ∧
    (mid → t0.det < m → Tone.detect mg m h start t0 = { takeDetection m h start (start + 68) t with abandoned := bump t0.abandoned }) ∧
    (mid → m ≤ t0.det → Tone.detect mg m h start t0 = t.hold m h start) ∧
    (t0.st = .payload → snrAbove mg t0.det m = true → Tone.detect mg m h start t0 = { takeDetection m h start (start + 68) t with captured := bump t0.captured }) ∧
    (t0.st = .payload → snrAbove mg t0.det m = false → Tone.detect mg m h start t0 = { t.hold m h start with collisions := bump t0.collisions }) ∧
    (t0.held = none → (t0.hold m h start).held = some (m, h, start) ∧ (t0.release now).st = .idle) ∧
    (t0.release now).poisonedCount = (if t0.poisoned = true then bump t0.poisonedCount else t0.poisonedCount) ∧
    (∀ a k b, t0.held = some (a, k, b) → (t0.hold m h start).held = (if a < m then some (m, h, start) else some (a, k, b)) ∧
      (max t0.clock now ≤ b + 512 → (t0.release now).st = .preamble ∧ (t0.release now).det = a ∧ (t0.release now).hyp = k ∧ (t0.release now).start = b ∧ (t0.release now).held = none) ∧
      (b + 512 < max t0.clock now → (t0.release now).st = .idle ∧ (t0.release now).held = none))) ∧
  (∀ (c : Fin 2) (t : Fin 4) (a1 a16 : Int) (h1x h1y h2x h2y : Int × Int) (bad : Bool) (s : State), let x := s.tone c t
    let j := jonesOf h1x h1y h2x h2y
    (x.st ≠ .preamble → exec (.preambleEnd c t a1 a16 bad) s = .next s) ∧
    (x.st = .preamble → exec (.preambleEnd c t a1 a16 bad) s = .next (onTone c t (fun x => { x with st := .train, clock := max x.clock (x.start + 128), freq := refined (s.car c).symRate x.hyp a1 a16, poisoned := x.poisoned || bad }) s)) ∧
    (x.st ≠ .train → exec (.burstTrainingEnd c t h1x h1y h2x h2y bad) s = .next s) ∧
    (x.st = .train → (wellConditioned j = true → exec (.burstTrainingEnd c t h1x h1y h2x h2y bad) s = .next (onTone c t (fun x => { x with jones := j, poisoned := x.poisoned || bad, st := .header, clock := max x.clock (x.start + 256) }) s)) ∧
      (wellConditioned j = false → exec (.burstTrainingEnd c t h1x h1y h2x h2y bad) s = .next (onTone c t (fun x => { ({ x with jones := j, poisoned := x.poisoned || bad } : Tone).release (x.start + 256) with trainFails := bump x.trainFails }) s))) ∧
    (∀ (bs : List Byte) (stamp : Nat), let h := scramble (padTo 32 bs)
      (x.st ≠ .header → exec (.headerCrcReady c t bs bad stamp) s = .next s) ∧
      (x.st = .header → headerGood h = false → exec (.headerCrcReady c t bs bad stamp) s = .next (onTone c t (fun x => { ({ x with poisoned := x.poisoned || bad } : Tone).release (x.start + 328) with headerErrs := bump x.headerErrs }) s)) ∧
      (x.st = .header → headerGood h = true → exec (.headerCrcReady c t bs bad stamp) s = .next (onTone c t (fun x => { x with
        poisoned := x.poisoned || bad, st := .payload, clock := max x.clock (x.start + 328), typ := byteAt h 0 % 16, src := byteAt h 1, dst := byteAt h 2, ranged := bit (byteAt h 3) 0, len := beAt h 4 2, seq := beAt h 6 2
        txPos := beAt h 8 4, stamp := toneStamp (s.car c).symRate stamp }) s)))) ∧
  (∀ (c : Fin 2) (l : Fin 16) (s : State), let go := s.dev.mode = some .hub ∧ inGrant s.il[c] l.val = true ∧ s.il[c].leaves[l].ranged = true
    (go → exec (.leafTimeout c l) s = .next (raise 99 (objCarrier c) (evtArg 0 0 l.val 0) (onIl c (fun i => { i with leaves := upd i.leaves l fun x => { x with ranged := false } }) s))) ∧
    (¬go → exec (.leafTimeout c l) s = .next s)) ∧
  (∀ (c : Fin 2) (t : Fin 4) (x y : Int) (s : State), let high := ilParI s c 0x71 * 256 < max x y * 100
    (high → (s.tone c t).noiseRaised = false → exec (.noiseWindowEnd c t x y) s = .next (raise 97 (objCarrier c) (evtArg 0 t.val 0 0) (onTone c t (fun n => { n with noiseX := x, noiseY := y, noiseRaised := true }) s))) ∧
    (high → (s.tone c t).noiseRaised = true → exec (.noiseWindowEnd c t x y) s = .next (onTone c t (fun n => { n with noiseX := x, noiseY := y }) s)) ∧
    (max x y * 100 ≤ (ilParI s c 0x71 - 100) * 256 → exec (.noiseWindowEnd c t x y) s = .next (onTone c t (fun n => { n with noiseX := x, noiseY := y, noiseRaised := false }) s)) ∧
    ((ilParI s c 0x71 - 100) * 256 < max x y * 100 → ¬high → exec (.noiseWindowEnd c t x y) s = .next (onTone c t (fun n => { n with noiseX := x, noiseY := y }) s))) ∧
  ∀ (q : Request) (s : State), let c := reqCarrier q
    (runs 0x0602 q s = true → (s.dev.mode ≠ some .hub → exec (.interloanScheduleSet q) s = .next (complete q.ch q.tag { status := stBadState } s)) ∧
      (s.dev.mode = some .hub → (∀ k, badOwner s c q = some k → exec (.interloanScheduleSet q) s = .next (complete q.ch q.tag { status := stBadParam, detail := 4 + k } s)) ∧
        (badOwner s c q = none → let o := (List.range 64).map fun k => u8 q (4 + k)
          (ilBusy s.il[c] = true → exec (.interloanScheduleSet q) s = .next (complete q.ch q.tag { status := stOk } (onIl c (fun i => { i with ownerNext := some o }) (keepBody 0x0602 q s)))) ∧
          (ilBusy s.il[c] = false → exec (.interloanScheduleSet q) s = .next (complete q.ch q.tag { status := stOk } (onIl c (fun i => { i with owner := o, ownerNext := none }) (keepBody 0x0602 q s))))))) ∧
    (runs 0x0603 q s = true → (dstOk (u8 q 4) = false → exec (.interloanSend q) s = .next (complete q.ch q.tag { status := stBadParam, detail := 4 } s)) ∧
      (dstOk (u8 q 4) = true → 2048 < u16 q 6 → exec (.interloanSend q) s = .next (complete q.ch q.tag { status := stBadParam, detail := 6 } s)) ∧
      (dstOk (u8 q 4) = true → u16 q 6 ≤ 2048 → 0 < u16 q 6 → q.slot = none → exec (.interloanSend q) s = .next (complete q.ch q.tag { status := stBadEntry } s)) ∧
      (dstOk (u8 q 4) = true → u16 q 6 ≤ 2048 → q.slot.isSome = true → q.bulk.length < u16 q 6 → exec (.interloanSend q) s = .next (complete q.ch q.tag { status := stBadParam, detail := 6 } s)) ∧
      (dstOk (u8 q 4) = true → u16 q 6 ≤ 2048 → u16 q 6 ≤ q.bulk.length → u16 q 6 = 0 ∨ q.slot.isSome = true → ((s.car c).enabled = false → exec (.interloanSend q) s = .next (complete q.ch q.tag { status := stBadState } s)) ∧
        ((s.car c).enabled = true → 32 ≤ ilQueued s.il[c] 0 → exec (.interloanSend q) s = .next (complete q.ch q.tag { status := stBusy } (onIl c (fun i => { i with sendRefused := bump i.sendRefused }) s))) ∧
        ((s.car c).enabled = true → ilQueued s.il[c] 0 < 32 → exec (.interloanSend q) s = .next (complete q.ch q.tag { status := stOk, payload := leBytes 2 (s.il[c].nextSeq.getD 0 0) } (ilEnqueue c 0 (u8 q 4) (q.bulk.take (u16 q 6)) s))))) ∧
    (runs 0x0604 q s = true → (s.il[c].store = [] → exec (.interloanRecv q) s = .next (complete q.ch q.tag { status := stOk, payload := List.replicate 24 0 } s)) ∧
      ∀ d l, s.il[c].store = d :: l → exec (.interloanRecv q) s = .next (complete q.ch q.tag (okWith (leBytes 1 1 ++ leBytes 1 d.src ++ leBytes 1 d.dst ++ leBytes 1 d.tone ++ leBytes 2 d.seq ++ leBytes 2 d.payload.length ++ leBytes 6 d.stamp.sec ++ leBytes 2 d.stamp.frac
        ++ leBytes 4 d.stamp.ns ++ leBytes 2 (codeOf 16 d.evm) ++ leBytes 2 l.length) d.payload) (onIl c (fun i => { i with store := l }) s)))

/-- Folio headers and their defects, KEY fields, tags, the key exchange and its commands, and the payloads of bursts. A
header counts as good by its CRC after descrambling. A bad header counts, lets the received number count on, and after 8
raises FOLIO_LOF; a good one in TRACK that follows another ends the loss and gives the numbering; the third good header
in a row that follows the one before but not the received count is adopted with FOLIO_NUM_JUMP; three SLICES values
unlike the provisioned m enter the slice mismatch and three like it leave it. A LEAF adopts the hub's numbering after 3
good headers that follow one another and disagree. A bad KEY field counts; a good one is taken up: out of schedule the
receiver takes SLOT, EPOCH_CUR and KEY_VOL from it, an armed one schedules the change COUNTDOWN volumes on, a valid tag
is kept for the volume before, and a field that names an unusable key shows the no-key defect. The scheduled change
takes effect at its volume. A tag equal to the one computed counts as verified; the third failure in a row raises
CRYPT_AUTH_FAIL. The exchange: M1 of an acceptable peer is answered with M2, M2 with a good hash, signature and
decapsulation loads the pair and is answered with M3, a good M3 loads the pair the other way round and arms the
responder; each check that fails ends the exchange with its cause, and so does the timeout while a message is awaited;
an initiator that has sent M3 still arms when it sees the epoch later. The initiator arms when it sees the epoch. A
retry or the end of the rekey interval starts an exchange where the start conditions hold. CRYPT.PEER.SET stores the
hash unless an exchange runs; CRYPT.REKEY starts one or refuses. A burst's payload is descrambled and delivered when its
CRC-32C is good and nothing came poisoned, else counted. That without a peer hash an end acts as the initiator until a
greater key shows is the model's choice (log 32) -/
def Obligations.FolioFrameAndEncryption : Prop :=
  (∀ (c : Fin 2) (g : Fin 16) (h : List Byte) (s : State), let b := ohField 0 (padTo 16 h)
    let follows := (s.fol c g).lastGood == some (hdrPos b)
    (beAt b 14 2 = crc16 (bytesAt b 0 14) → exec (.folioHeaderReceived c g h) s = .next (groupHeard c g (noteArrival c g (numberFolio c g true b (leafNumbers c g true follows b (goodHeader c g b s)))))) ∧
    (beAt b 14 2 ≠ crc16 (bytesAt b 0 14) → exec (.folioHeaderReceived c g h) s = .next (groupHeard c g (noteArrival c g (numberFolio c g false b (leafNumbers c g false follows b (badHeader c g s))))))) ∧
  (∀ (c : Fin 2) (g : Fin 16) (s : State), let f := s.fol c g
    let now := nextPos (256 * f.rxVolume + f.rxFolio)
    let u := onFol c g (fun f => { f with hcrc := bump f.hcrc, hcrcRun := f.hcrcRun + 1, goodRun := 0, jumpRun := 0, lastGood := none, rxVolume := now / 256, rxFolio := now % 256 }) s
    (f.hcrcRun + 1 = 8 → f.lof = false → badHeader c g s = raiseFol 128 c g 1 0 0 (onFol c g (fun f => { f with lof := true }) u)) ∧
    (f.hcrcRun + 1 ≠ 8 ∨ f.lof = true → badHeader c g s = u)) ∧
  (∀ (c : Fin 2) (g : Fin 16) (h : List Byte) (s : State), let f := s.fol c g
    let p := hdrPos h
    let counted := nextPos (256 * f.rxVolume + f.rxFolio)
    let bad := byteAt h 6 ≠ groupSlices s c g.val
    let leave := f.lof = true ∧ (s.rxg c g).st = .track ∧ f.lastGood = some p ∧ 1 ≤ f.goodRun
    let jump := ¬leave ∧ f.rxKnown = true ∧ p ≠ counted ∧ f.jumpLast = p ∧ f.jumpRun = 2
    let enter := f.sliceDef = false ∧ bad ∧ 2 ≤ f.sliceRun
    ∃ u : FolioGroup, goodHeader c g h s = raiseIf (decide enter) 130 (objGroup c g) (evtArg 0 0 0 0) (raiseIf (decide jump) 129 (objGroup c g) (evtArg 0 0 0 0) (raiseIf (decide leave) 128 (objGroup c g) (evtArg 0 0 0 0) (onFol c g (fun _ => u) s))) ∧
      u.rxKnown = true ∧ u.hcrcRun = 0 ∧ u.hcrc = f.hcrc ∧ u.lastGood = some (nextPos p) ∧ (leave → u.lof = false) ∧ (¬leave → u.lof = f.lof) ∧
      (leave ∨ jump ∨ f.rxKnown = false ∨ p = counted → u.rxVolume = p / 256 ∧ u.rxFolio = p % 256) ∧
      (¬leave → ¬jump → f.rxKnown = true → u.rxVolume = counted / 256 ∧ u.rxFolio = counted % 256) ∧
      (f.sliceDef = false → (u.sliceDef = true ↔ bad ∧ 2 ≤ f.sliceRun)) ∧ (f.sliceDef = true → (u.sliceDef = false ↔ ¬bad ∧ 2 ≤ f.sliceGood))) ∧
  (∀ (c : Fin 2) (g : Fin 16) (b w : Bool) (h : List Byte) (s : State), let f := s.fol c g
    (s.dev.mode ≠ some .leaf → leafNumbers c g b w h s = s) ∧
    (s.dev.mode = some .leaf → b = false → leafNumbers c g b w h s = onFol c g (fun f => { f with leafRun := 0 }) s) ∧
    (s.dev.mode = some .leaf → b = true → f.txOn = true → beAt h 0 4 ≠ f.txVolume → w = true → 2 ≤ f.leafRun → leafNumbers c g b w h s = onFol c g (fun f => { f with leafRun := f.leafRun + 1, adopt := some (beAt h 0 4) }) s) ∧
    (s.dev.mode = some .leaf → b = true → f.txOn = true → beAt h 0 4 ≠ f.txVolume → w = false → leafNumbers c g b w h s = onFol c g (fun f => { f with leafRun := 1 }) s) ∧
    (s.dev.mode = some .leaf → b = true → f.txOn = true → beAt h 0 4 = f.txVolume → leafNumbers c g b w h s = onFol c g (fun f => { f with leafRun := 0, adopt := none }) s)) ∧
  (∀ (c : Fin 2) (g : Fin 16) (kf : List Byte) (s : State), let b := ohField 128 (padTo 26 kf)
    let v := (s.fol c g).rxVolume
    (beAt b 24 2 ≠ crc16 (bytesAt b 0 24) → exec (.keyFieldReceived c g kf) s = .next (groupHeard c g (onFol c g (fun f => { f with kcrc := bump f.kcrc }) s))) ∧
    (beAt b 24 2 = crc16 (bytesAt b 0 24) → let enc := bit (byteAt b 0) 7
      let slot := byteAt b 0 / 32 % 2
      ∃ F : FolioGroup → FolioGroup, let u := onCry c g (Crypt.heard v b) (rxKeyVolume c g v s)
        let good := encMode u c ≠ 0 ∧ (getNat {} (u.cry c g).slots slot).loaded = true ∧ (getNat {} (u.cry c g).slots slot).epoch = byteAt b 1
        exec (.keyFieldReceived c g kf) s = .next (groupHeard c g (judgeTags c g (kexSeen c g (byteAt b 1) (byteAt b 2) (bit (byteAt b 0) 6)
          (raiseIf (enc && decide ¬good && !(u.fol c g).noKey) 142 (objGroup c g) (evtArg 0 0 (byteAt b 1) 0) (onFol c g F u))))) ∧
        (enc = true → ∀ f, F f = { f with noKey := decide ¬good, clearDef := false, clearRun := 0 }) ∧
        (enc = false → F (u.fol c g) = u.fol c g))) ∧
  (∀ (v : Nat) (b : List Byte) (k : Crypt), let enc := bit (byteAt b 0) 7
    let slot := byteAt b 0 / 32 % 2
    (k.heard v b).rxSync = true ∧ (k.heard v b).curGood = true ∧ (k.heard v b).curEnc = (k.curEnc || enc) ∧ (k.heard v b).slots = k.slots ∧
    (k.rxSync = false → (k.heard v b).rxSlot = slot ∧ (k.heard v b).rxEpoch = byteAt b 1 ∧ (k.heard v b).rxBase = (v + 2 ^ 32 - beAt b 4 4) % 2 ^ 32) ∧
    (k.rxSync = true → (k.heard v b).rxSlot = k.rxSlot ∧ (k.heard v b).rxEpoch = k.rxEpoch ∧ (k.heard v b).rxBase = k.rxBase) ∧
    (bit (byteAt b 0) 6 = true → (k.heard v b).rxArmed = some ((v + byteAt b 3) % 2 ^ 32, byteAt b 2)) ∧ (bit (byteAt b 0) 6 = false → (k.heard v b).rxArmed = k.rxArmed) ∧
    (k.heard v b).lastEnc = enc ∧ (k.heard v b).rxVols = ({ vol := v, slot := (k.heard v b).rxSlot, keyVol := (v + 2 ^ 32 - (k.heard v b).rxBase) % 2 ^ 32, epoch := (k.heard v b).rxEpoch, enc := enc } :: k.rxVols.filter fun x => x.vol != v).take 64 ∧
    (bit (byteAt b 0) 4 = false → (k.heard v b).gotTags = k.gotTags) ∧
    (bit (byteAt b 0) 4 = true → (∀ x ∈ k.gotTags, x.1 ≠ (v + 2 ^ 32 - 1) % 2 ^ 32) → (k.heard v b).gotTags = (((v + 2 ^ 32 - 1) % 2 ^ 32, some (beAt b 8 16)) :: k.gotTags).take 64)) ∧
  (∀ (c : Fin 2) (g : Fin 16) (v : Nat) (s : State), ((s.cry c g).rxArmed = none → rxKeyVolume c g v s = s) ∧
    ∀ va ep, (s.cry c g).rxArmed = some (va, ep) → ((v + 2 ^ 32 - va) % 2 ^ 32 < 2 ^ 31 → rxKeyVolume c g v s = rxKeySwitch c g v ep (1 - (s.cry c g).rxSlot) va s) ∧
      (2 ^ 31 ≤ (v + 2 ^ 32 - va) % 2 ^ 32 → rxKeyVolume c g v s = s)) ∧
  (∀ (c : Fin 2) (g : Fin 16) (v t r : Nat) (s : State), (s.cry c g).doneTags = [(v, t)] → ((s.cry c g).gotTags.find? fun x => x.1 == v) = some (v, some r) → let f := s.fol c g
    let u := onCry c g (fun k => { k with doneTags := k.doneTags.filter fun x => x.1 != v, gotTags := k.gotTags.filter fun x => x.1 != v }) s
    (r = t → judgeTags c g s = onFol c g (fun f => { f with verified := bump f.verified, tagFailRun := 0, tagGoodRun := f.tagGoodRun + 1, auth := f.auth && f.tagGoodRun + 1 < 3 }) u) ∧
    (r ≠ t → f.tagFailRun = 2 → f.auth = false → judgeTags c g s = raiseFol 139 c g 0 (u.cry c g).rxEpoch 0 (onFol c g (fun f => { f with tagFails := bump f.tagFails, tagGoodRun := 0, tagFailRun := f.tagFailRun + 1, auth := f.auth || 3 ≤ f.tagFailRun + 1 }) u)) ∧
    (r ≠ t → f.tagFailRun < 2 → judgeTags c g s = onFol c g (fun f => { f with tagFails := bump f.tagFails, tagGoodRun := 0, tagFailRun := f.tagFailRun + 1, auth := f.auth || 3 ≤ f.tagFailRun + 1 }) u)) ∧
  (∀ (c : Fin 2) (g : Fin 16) (cur nxt : Nat) (a : Bool) (x : Kex) (s : State), (s.cry c g).kex = some x → cur = x.epoch ∨ a = true ∧ nxt = x.epoch →
    (x.phase = .awaitFar → kexSeen c g cur nxt a s = kexDone c g x.epoch (onCry c g (fun k => { k with armNext := some x.epoch }) s)) ∧ (x.phase = .awaitNear → kexSeen c g cur nxt a s = kexDone c g x.epoch s)) ∧
  (∀ (c : Fin 2) (g : Fin 16) (cur nxt ep : Nat) (a : Bool) (s : State), (s.cry c g).kex = none → (s.cry c g).lateKex = some ep → cur = ep ∨ a = true ∧ nxt = ep →
    kexSeen c g cur nxt a s = kexDone c g ep (onCry c g (fun k => { k with armNext := some ep, lateKex := none, retryDue := false }) s)) ∧
  (∀ (c : Fin 2) (g : Fin 16) (s : State), let drop := onCry c g (fun k => { k with inbox := none }) s
    ((s.cry c g).inbox = none → exec (.kexMessageReceived c g) s = .next s) ∧
    ∀ b, (s.cry c g).inbox = some b → (b.whole = none → exec (.kexMessageReceived c g) s = .next s) ∧
      ∀ m, b.whole = some m → (b.msg = 1 → (∀ x, (s.cry c g).kex = some x → x.phase = .awaitM2) → (answersM1 s c g.val m = true → exec (.kexMessageReceived c g) s = .next (kexM1 c g m s)) ∧ (answersM1 s c g.val m = false → exec (.kexMessageReceived c g) s = .next drop)) ∧
        ∀ x, (s.cry c g).kex = some x → (b.msg = 2 → (x.phase = .awaitM2 → exec (.kexMessageReceived c g) s = .next (kexM2 c g x m s)) ∧ (x.phase ≠ .awaitM2 → exec (.kexMessageReceived c g) s = .next drop)) ∧
          (b.msg = 3 → (x.phase = .awaitM3 → exec (.kexMessageReceived c g) s = .next (kexM3 c g x m s)) ∧ (x.phase ≠ .awaitM3 → exec (.kexMessageReceived c g) s = .next drop))) ∧
  (∀ (c : Fin 2) (g : Fin 16) (x : Kex) (m : List Byte) (s : State), let pub := bytesAt m 1124 1312
    let sig := verifyDigest pub (sha3 (x.m1 ++ bytesAt m 0 2436)) (bytesAt m 2436 2420)
    let enc := kemEncaps (bytesAt m 36 1184) (beBytes 32 (s.freeVal 256).toNat)
    (peerOk s c g.val (bytesAt m 1220 1312) = false → kexM1 c g m s = failKex c g 2 s) ∧
    (peerOk s c g.val (bytesAt m 1220 1312) = true → enc = none → kexM1 c g m s = failKex c g 3 s) ∧
    (∀ ct sec, peerOk s c g.val (bytesAt m 1220 1312) = true → enc = some (ct, sec) → let part := kexHead 2 (byteAt m 1) g ++ beBytes 32 (s.drawn.freeVal 256).toNat ++ padTo 1088 ct ++ padTo 1312 ownPub
      let m2 := part ++ padTo 2420 (signDigest (sha3 (m ++ part)) (s.drawn.drawn.freeVal 256))
      kexM1 c g m s = sendFragments c g (byteAt m 1) 2 m2 (onCry c g (fun k => { k with inbox := none, kex := some { phase := .awaitM3, epoch := byteAt m 1, m1 := m, m2 := m2, dk := [], ss := BitVec.ofNat 256 (beNat sec) } }) s.drawn.drawn.drawn)) ∧
    (peerOk s c g.val pub = false → kexM2 c g x m s = failKex c g 2 s) ∧ (peerOk s c g.val pub = true → sig = false → kexM2 c g x m s = failKex c g 1 s) ∧
    (peerOk s c g.val pub = true → sig = true → kemDecaps x.dk (bytesAt m 36 1088) = none → kexM2 c g x m s = failKex c g 3 s) ∧
    (∀ sec, peerOk s c g.val pub = true → sig = true → kemDecaps x.dk (bytesAt m 36 1088) = some sec → let ss := BitVec.ofNat 256 (beNat sec)
      let m3 := kexHead 3 x.epoch g ++ padTo 2420 (signDigest (sha3 (x.m1 ++ m ++ kexHead 3 x.epoch g)) (s.freeVal 256))
      kexM2 c g x m s = sendFragments c g x.epoch 3 m3 (loadPair c g x.epoch (kexKeys x.m1 m ss).1 (kexKeys x.m1 m ss).2
      (onCry c g (fun k => { k with inbox := none, kex := some { x with phase := .awaitFar, m2 := m, ss := ss } }) s.drawn))) ∧
    let sig3 := verifyDigest (bytesAt x.m1 1220 1312) (sha3 (x.m1 ++ x.m2 ++ bytesAt m 0 4)) (bytesAt m 4 2420)
    (sig3 = false → kexM3 c g x m s = failKex c g 1 s) ∧
    (sig3 = true → kexM3 c g x m s = onCry c g (fun k => { k with inbox := none, armNext := some x.epoch, kex := some { x with phase := .awaitNear } }) (loadPair c g x.epoch (kexKeys x.m1 x.m2 x.ss).2 (kexKeys x.m1 x.m2 x.ss).1 s))) ∧
  (∀ (c : Fin 2) (g : Fin 16) (cause : Nat) (s : State), let ep := ((s.cry c g).kex.map (·.epoch)).getD (s.cry c g).epoch
    failKex c g cause s = raiseFol 137 c g 0 ep cause (onCry c g (fun k => { k with kex := none, inbox := none, failCause := cause, kexFails := bump k.kexFails, retryDue := true, attempts := if 3 ≤ k.attempts + 1 then 0 else k.attempts + 1 }) s)) ∧
  (∀ (c : Fin 2) (g : Fin 16) (s : State), let k := s.cry c g
    (∀ x, k.kex = some x → x.phase = .awaitM2 ∨ x.phase = .awaitM3 → exec (.kexTimeout c g) s = .next (failKex c g 4 s)) ∧
    (∀ x, k.kex = some x → x.phase = .awaitFar → exec (.kexTimeout c g) s = .next (onCry c g (fun k => { k with lateKex := some x.epoch }) (failKex c g 4 s))) ∧
    (∀ x, k.kex = some x → x.phase = .awaitNear → exec (.kexTimeout c g) s = .next s) ∧
    (k.kex = none → k.inbox = none → exec (.kexTimeout c g) s = .next s) ∧ (∀ b, k.kex = none → k.inbox = some b → exec (.kexTimeout c g) s = .next (failKex c g 4 s)) ∧
    (k.retryDue = true → (s.car c).enabled = true → exec (.kexRetry c g) s = .next (tryKex c g (onCry c g (fun k => { k with retryDue := false }) s))) ∧
    (k.retryDue = false ∨ (s.car c).enabled = false → exec (.kexRetry c g) s = .next s) ∧
    ((s.car c).enabled = true → encMode s c ≠ 0 → isInitiator s c g.val = true → peerAllowed s c g.val = true → k.canStart = true → exec (.rekeyIntervalEnd c g) s = .next (startKex c g s)) ∧
    ((s.car c).enabled = false ∨ encMode s c = 0 ∨ isInitiator s c g.val = false ∨ peerAllowed s c g.val = false ∨ k.canStart = false → exec (.rekeyIntervalEnd c g) s = .next s)) ∧
  (∀ (c : Fin 2) (g : Fin 16) (s : State), let ep := ((s.cry c g).epoch + 1) % 256
    let kk := kemKeys (beBytes 32 (s.freeVal 256).toNat) (beBytes 32 (s.drawn.freeVal 256).toNat)
    let m1 := kexHead 1 ep g ++ beBytes 32 (s.drawn.drawn.freeVal 256).toNat ++ padTo 1184 kk.1 ++ padTo 1312 ownPub
    startKex c g s = sendFragments c g ep 1 m1 (onCry c g (fun k => { k with epoch := ep, inbox := none, retryDue := false, lateKex := none, kex := some { phase := .awaitM2, epoch := ep, m1 := m1, m2 := [], dk := kk.2, ss := 0 } }) s.drawn.drawn.drawn)) ∧
  (∀ (q : Request) (s : State), let c := reqCarrier q
    let g := reqGroup q
    (runs 0x0711 q s = true → ((s.cry c g).kex.isSome = true → exec (.cryptPeerSet q) s = .next (complete q.ch q.tag { status := stBadState } s)) ∧ ((s.cry c g).kex = none → exec (.cryptPeerSet q) s = .next (complete q.ch q.tag { status := stOk } (keepBody 0x0711 q s)))) ∧
    (runs 0x0712 q s = true → let bad := encMode s c = 0 ∨ isInitiator s c g.val = false ∨ (s.car c).enabled = false ∨ peerAllowed s c g.val = false
      (bad → exec (.cryptRekey q) s = .next (complete q.ch q.tag { status := stBadState } s)) ∧ (¬bad → (s.cry c g).canStart = false → exec (.cryptRekey q) s = .next (complete q.ch q.tag { status := stBusy } s)) ∧
      (¬bad → (s.cry c g).canStart = true → exec (.cryptRekey q) s = .next (complete q.ch q.tag { status := stOk, payload := leBytes 1 (((s.cry c g).epoch + 1) % 256) } (startKex c g s))))) ∧
  ∀ (c : Fin 2) (t : Fin 4) (bs : List Byte) (po : Bool) (evm : Int) (s : State), let x := s.tone c t
    let d := (scramble (List.replicate 32 0 ++ padTo (x.len + 4) bs)).drop 32
    let p := d.take x.len
    let good := natAt d x.len 4 = crc32c p
    let s1 := recordEvm c t x.src evm (onTone c t (fun x => { x with poisoned := x.poisoned || po }) s)
    let done := fun s => onTone c t (fun x => x.release (x.start + burstSymbols x.len + 8)) s
    (x.st ≠ .payload → exec (.payloadCrcReady c t bs po evm) s = .next s) ∧ (x.st = .payload → (x.poisoned = true ∨ po = true → exec (.payloadCrcReady c t bs po evm) s = .next (done s1)) ∧
      (x.poisoned = false → po = false → ¬good → exec (.payloadCrcReady c t bs po evm) s = .next (done (onTone c t (fun x => { x with payloadErrs := bump x.payloadErrs }) s1))) ∧
      (x.poisoned = false → po = false → good → exec (.payloadCrcReady c t bs po evm) s = .next (done (deliver c t p evm
        (raiseIf (decide (ilParI s c 0x60 * 256 < evm * 100)) 96 (objCarrier c) (evtArg 0 t.val x.src 0) s1)))))

/-- Client framers: the search for alignment, the bond's frame, overhead persistence, defects and their masks, and the
framer commands. A searching unit opens a candidate at an exact match where it holds none; with 16 held the new one
replaces that of the fewest confirmations, the oldest among equals, counted. Tested candidates gain a confirmation where
the pattern matches with the identity that the standard predicts and are dropped otherwise; exactly one at N aligns the
unit, several go on for at most 8 periods, and none or too long ends in a new search, counted. A unit in frame counts
errored frames, arrivals outside the deskew window among them, and goes back to SEARCH with the M-th in a row. A bond is
in frame exactly when it is provisioned, every unit is IN_FRAME, every logical lane is there and no two units are more
than 256 ns apart; deskew is set at entry. Alignment results reach the bond and its defects at once. A multiframe is
entered after N good frames in a row and left after M bad ones; STAT is accepted after 3 frames, BDI after 5, a TTI
after 3 multiframes. A masked defect is cleared without an event and kept in the history, its timer not run; any other
is declared and cleared with its event, a timed one once its LOF time has run. Frames count only on a watched framer, on
a bond in frame. FRAMER.PROVISION, FRAMER.DEPROVISION, FRAMER.OH.SET, FRAMER.OH.GET and FRAMER.MAINT.SET refuse, store
and answer as their rules say. Unit counts of interfaces other than OTL4.4 and the APS level order are the model's
choices (logs 33, 34) -/
def Obligations.FramersAndDefects : Prop :=
  (∀ (b : Fin 48) (k : Nat) (r : AlignCheck) (rs : List AlignCheck) (s : State),
    let one := fun G : AlignUnit → AlignUnit => evalWhole (.bond b) (onBond b (fun f => ({ f with units := f.units.modify k G } : Framer).bondFrame) s)
    exec (.alignmentMatch b k r) s = .next (one fun u => u.open_ (framerPar s (.bond b) 0x40) (framerPar s (.bond b) 0x50) r) ∧
    ∃ G : AlignUnit → AlignUnit, exec (.alignmentPrediction b k rs) s = .next (one G) ∧ ∀ u : AlignUnit,
      (u.st = .off → G u = u) ∧ (u.st = .search → G u = u.predict s.bonds[b] rs) ∧ (u.st = .inFrame → (∀ x ∈ rs, x.pos ≠ u.pos) → G u = u) ∧
      (u.st = .inFrame → ∀ x l l', rs = l ++ x :: l' → (∀ y ∈ l, y.pos ≠ u.pos) → x.pos = u.pos → G u = u.check s.bonds[b] x)) ∧
  (∀ (u : AlignUnit) (n m : Nat) (r : AlignCheck), let c : AlignCand := { pos := r.pos, ident := r.ident, confirms := 1, n := n, m := m }
    (u.st ≠ .search ∨ (∃ x ∈ u.cands, x.pos = r.pos) → u.open_ n m r = u) ∧
    (u.st = .search → (∀ x ∈ u.cands, x.pos ≠ r.pos) → (n = 1 → (∀ x ∈ u.cands, x.confirms < x.n) → u.open_ n m r = u.align c r) ∧
      (2 ≤ n → u.cands.length < 16 → u.open_ n m r = { u with cands := u.cands ++ [c] }) ∧
      (2 ≤ n → 16 ≤ u.cands.length → (∀ x ∈ u.cands, x.confirms ≤ 255) → ∃ l x l', u.cands = l ++ x :: l' ∧ (∀ y ∈ l, x.confirms < y.confirms) ∧ (∀ y ∈ l', x.confirms ≤ y.confirms) ∧
        u.open_ n m r = { u with cands := l ++ l' ++ [c], evictions := bump u.evictions }))) ∧
  (∀ (f : Framer) (u : AlignUnit) (rs : List AlignCheck), let kept := u.cands.filterMap fun c => match rs.find? fun r => r.pos == c.pos with
      | none => some c
      | some r => if r.matched && r.ident == predictId f c.ident then some { c with confirms := c.confirms + 1, ident := r.ident } else none
    let up := kept.filter fun c => decide (c.n ≤ c.confirms)
    let anew : AlignUnit := { u with st := .search, cands := [], amb := 0, errored := 0, ambiguities := bump u.ambiguities }
    (up = [] → u.amb = 0 → u.predict f rs = { u with cands := kept }) ∧
    (∀ c, up = [c] → let v := u.predict f rs
      v.st = .inFrame ∧ v.cands = [] ∧ v.amb = 0 ∧ v.pos = c.pos ∧ v.ident = c.ident ∧ v.m = c.m ∧ v.errored = 0 ∧ v.entries = bump u.entries ∧ v.ambiguities = u.ambiguities) ∧
    (2 ≤ up.length → u.amb < 8 → u.predict f rs = { u with cands := kept, amb := u.amb + 1 }) ∧
    (up = [] ∧ u.amb ≠ 0 ∨ 2 ≤ up.length ∧ 8 ≤ u.amb → u.predict f rs = anew)) ∧
  (∀ (f : Framer) (u : AlignUnit) (r : AlignCheck), let want := predictId f u.ident
    let clean := r.matched = true ∧ r.ident = want ∧ ¬(f.inFrame = true ∧ f.deskew + 160 < r.skew)
    let v : AlignUnit := { u with ident := want, skew := r.skew }
    (clean → u.check f r = { v with errored := 0 }) ∧
    (¬clean → u.errored + 1 < u.m → u.check f r = { v with errored := u.errored + 1, erroredFrames := bump u.erroredFrames }) ∧
    (¬clean → u.m ≤ u.errored + 1 → u.check f r = { v with st := .search, cands := [], amb := 0, errored := 0, losses := bump u.losses, erroredFrames := bump u.erroredFrames })) ∧
  (∀ f : Framer, (f.bondFrame.inFrame = true ↔ f.provisioned = true ∧ f.units ≠ [] ∧ (∀ u ∈ f.units, u.st = .inFrame) ∧
      (∀ k, k < f.units.length → ∃ u ∈ f.units, laneOfId f u.ident = k) ∧ ∀ u ∈ f.units, ∀ v ∈ f.units, u.skew ≤ v.skew + 2560) ∧
    (f.inFrame = true ∨ f.bondFrame.inFrame = false → f.bondFrame.deskew = f.deskew) ∧
    (f.inFrame = false → f.bondFrame.inFrame = true → (∀ u ∈ f.units, u.skew ≤ f.bondFrame.deskew) ∧ ∃ u ∈ f.units, u.skew = f.bondFrame.deskew)) ∧
  (∀ (fid : FramerId) (enter : Bool) (s : State), let heard := fun g : Framer → Framer => framerHeard fid (evalWhole fid (onFramer fid g s))
    exec (.defectPersistenceEnd fid .hiSer enter) s = .next (heard fun f => { f with hiSer := enter }) ∧
    exec (.defectPersistenceEnd fid .localFault enter) s = .next (heard fun f => { f with localFault := enter }) ∧
    exec (.defectPersistenceEnd fid .remoteFault enter) s = .next (heard fun f => { f with remoteFault := enter }) ∧
    ∀ d n, (d, n) ∈ [(DefectTimer.lof, 161), (DefectTimer.loa, 162), (DefectTimer.lom, 163)] →
      ((∀ f, s.framer fid = some f → (n, enter) ∉ f.timing) → exec (.defectPersistenceEnd fid d enter) s = .next (framerHeard fid s)) ∧
      ∀ f, s.framer fid = some f → (n, enter) ∈ f.timing → let sl := max 1 (f.raw (isLine fid) (isTrib fid) none n 0)
        exec (.defectPersistenceEnd fid d enter) s = .next (framerHeard fid (evalWhole fid (raise n (framerObj (if isLine fid = true then sl else 0) fid).1 (evtArg (b2n enter) 0xFF (framerObj 0 fid).2 0)
          (onFramer fid (fun f => { f with timing := f.timing.filter fun t => t != (n, enter), declared := if enter = true then (n, 0xFF, sl) :: f.declared else f.declared.filter fun d => d.1 != n }) s))))) ∧
  (∀ s : State, (∀ b, framerHeard (.bond b) s = s) ∧ (∀ k n g t, framerHeard (.trib k n g t) s = s) ∧ ∀ c g, framerHeard (.odum c g) s = protConditions g s) ∧
  (∀ (outer line trib : Bool) (kind : Option Nat) (f : Framer) (es : List DefEvt) (n l : Nat), let r := f.raw line trib kind n (defLayer l)
    let gone := f.declared.filter fun y => !(y.1 == n && y.2.1 == l)
    let j := Framer.judge outer line trib kind (f, es) (n, l)
    (f.masked outer n l = true → j.2 = es ∧ j.1.declared = gone ∧ (∀ t ∈ j.1.timing, t.1 ≠ n) ∧ (f.has n l = true → (n, l) ∈ j.1.maskedHist)) ∧
    (f.masked outer n l = false → isTimed n = false → (r ≠ 0 → f.has n l = false → j.2 = es ++ [(n, l, r, 1)] ∧ j.1.declared = (n, l, r) :: f.declared) ∧
      (r = 0 → f.has n l = true → j.1.declared = gone ∧ ∃ sl, j.2 = es ++ [(n, l, sl, 0)]) ∧ (r ≠ 0 → f.has n l = true → j = (f, es)) ∧ (r = 0 → f.has n l = false → j = (f, es))) ∧
    (f.masked outer n l = false → isTimed n = true → j.2 = es ∧ j.1.declared = f.declared ∧ (f.has n l = false → ((n, true) ∈ j.1.timing ↔ r ≠ 0)) ∧
      (f.has n l = true → ((n, false) ∈ j.1.timing ↔ f.restored n = true)))) ∧
  (∀ (fid : FramerId) (sl : Fin 32) (o : OtnFrame) (s : State), let live := framerWatched s fid = true ∧ ∀ b, fid = .bond b → s.bonds[b].inFrame = true ∧ isEth s.bonds[b] = false
    (live → exec (.otnFrameReceived fid sl o) s = .next (framerHeard fid (evalWhole fid (frameIn fid sl { o with mfas := o.mfas % 256 } s)))) ∧
    (¬live → exec (.otnFrameReceived fid sl o) s = .next (framerHeard fid s))) ∧
  (∀ (f : Framer) (x : SliceOh) (n m : Nat) (line first : Bool) (o : OtnFrame), 1 ≤ n → 1 ≤ m → let y := x.frame f n m line first o
    let good := ∀ v, x.mfas = some v → o.mfas = (v + 1) % 256
    y.mfas = some o.mfas ∧ (x.mfIn = false → (y.mfIn = true ↔ good ∧ n ≤ x.mfRun + 1)) ∧ (x.mfIn = true → (y.mfIn = false ↔ ¬good ∧ m ≤ x.mfRun + 1)) ∧
    ((x.mfIn = true ↔ good) → y.mfRun = 0)) ∧
  (∀ (x : LayerRx) (mfas : Nat) (o : LayerOh) (tti : Bool), let y := x.frame mfas o tti
    let b := x.ttiBuf.set (mfas % 64) o.tti
    (o.stat = x.statCand ∧ 2 ≤ x.statRun → y.stat = o.stat) ∧ (¬(o.stat = x.statCand ∧ 2 ≤ x.statRun) → y.stat = x.stat) ∧
    (o.bdi = x.bdiLast ∧ 4 ≤ x.bdiRun → y.bdi = o.bdi) ∧ (¬(o.bdi = x.bdiLast ∧ 4 ≤ x.bdiRun) → y.bdi = x.bdi) ∧
    (tti = true ∧ mfas % 64 = 63 ∧ x.ttiLast = b ∧ 2 ≤ x.ttiRun → y.ttiAcc = some b) ∧ (¬(tti = true ∧ mfas % 64 = 63 ∧ x.ttiLast = b ∧ 2 ≤ x.ttiRun) → y.ttiAcc = x.ttiAcc) ∧
    y.neTotal = satAdd x.neTotal o.bip ∧ y.feTotal = satAdd x.feTotal o.blocks) ∧
  (∀ (q : Request) (s : State), runs 0x0801 q s = true → let b := objIndex q
    let k := u8 q 5
    let fec := u8 q 6
    let iface := u8 q 4
    let bad : Option Nat := if 9 < iface then some 4 else if k ∉ laneCounts iface ∨ b % k ≠ 0 then some 5
      else if 1 < fec ∨ (4 < iface ∧ fec ≠ 0) ∨ (iface < 4 ∧ fec = 1 ∧ s.dev.mode ≠ some .framer) then some 6
      else if isFlexo { iface := iface } = false ∧ u16 q 8 ≠ 0 then some 8
      else if s.dev.mode = some .regenerator ∨ (∃ l ∈ bondLanes b k, mateLane s l = true) then some 0 else none
    let taken := ∃ j : Fin 48, s.bonds[j].provisioned = true ∧ j.val < b + k ∧ b < j.val + s.bonds[j].k
    let follows := rateFollowing { provisioned := true, iface := iface, k := k, fec := fec } = true
    (∀ off, bad = some off → exec (.framerProvision q) s = .next (pmSync (complete q.ch q.tag { status := stBadParam, detail := off } s))) ∧
    (bad = none → taken → exec (.framerProvision q) s = .next (pmSync (complete q.ch q.tag { status := stBadState } s))) ∧
    (bad = none → ¬taken → follows → soleSynth s b k = none → exec (.framerProvision q) s = .next (pmSync (complete q.ch q.tag { status := stNoCapacity } s))) ∧
    ∀ h : b < 48, bad = none → ¬taken → (follows → soleSynth s b k ≠ none) → ∃ u : State, exec (.framerProvision q) s = .next (pmSync (complete q.ch q.tag { status := stOk } (bondFromLanes ⟨b, h⟩ u))) ∧
      (∀ x, u.bonds[(⟨b, h⟩ : Fin 48)] = x → x.provisioned = true ∧ x.iface = iface ∧ x.k = k ∧ x.fec = fec ∧ x.units = List.replicate (unitCount iface) {} ∧ x.inFrame = false ∧ x.declared = [] ∧
        (follows → x.synth = soleSynth s b k) ∧ (¬follows → x.synth = none)) ∧
      (∀ j : Fin 48, j.val ≠ b → u.bonds[j] = s.bonds[j]) ∧
      (∀ y, follows → soleSynth s b k = some y → ∀ l : Fin 48, u.lanes[l] = if b ≤ l.val ∧ l.val < b + k then { s.lanes[l] with synth := y } else s.lanes[l]) ∧ (¬follows → u.lanes = s.lanes)) ∧
  (∀ (q : Request) (s : State), runs 0x0802 q s = true → let b := objIndex q
    (bondInUse s b = true → exec (.framerDeprovision q) s = .next (pmSync (complete q.ch q.tag { status := stBadState } s))) ∧
    ∀ h : b < 48, bondInUse s b = false → exec (.framerDeprovision q) s = .next (pmSync (complete q.ch q.tag { status := stOk }
      (onBond ⟨b, h⟩ (fun old => { ({} : Framer) with cfg := old.cfg, maint := old.maint, fbdi := old.fbdi, poisonedEgress := old.poisonedEgress }) (dropBody 0x0801 (objBond b) (terminate (.bond b) s)))))) ∧
  (∀ (q : Request) (s : State), runs 0x0804 q s = true → let l := u8 q 4
    let mk := u8 q 5
    let i := reqFramer q
    let bad : Option Nat := if 7 < l ∨ (isLine i = true ∧ l = 0) then some 4 else if bit mk 0 = true ∧ 3 < u8 q 6 then some 6 else if bit mk 0 = true ∧ 1 < u8 q 7 then some 7
      else if bit mk 3 = true ∧ 0xFF < u16 q 8 ∧ u16 q 8 ≠ 0xFFFF then some 8 else if bit mk 4 = true ∧ (2 < u8 q 10 ∨ l < 2) then some 10 else none
    let put := fun c : LayerCfg => ({ timMode := if bit mk 0 = true then u8 q 6 else c.timMode, timAct := if bit mk 0 = true then u8 q 7 == 1 else c.timAct, expTti := if bit mk 1 = true then bytesAt q.body 12 32 else c.expTti, txTti := if bit mk 2 = true then bytesAt q.body 44 64 else c.txTti, expPt := if bit mk 3 = true then (if u16 q 8 = 0xFFFF then none else some (u16 q 8)) else c.expPt, tcmMode := if bit mk 4 = true then u8 q 10 else c.tcmMode } : LayerCfg)
    (∀ off, bad = some off → exec (.framerOhSet q) s = .next (pmSync (complete q.ch q.tag { status := stBadParam, detail := off } s))) ∧
    (bad = none → exec (.framerOhSet q) s = .next (pmSync (complete q.ch q.tag { status := stOk } (framerHeard i (evalWhole i (onFramer i (fun f => { f with cfg := updNat f.cfg l put }) (keepBody 0x0804 q s))))))) ) ∧
  (∀ (q : Request) (s : State), runs 0x0805 q s = true → let l := u8 q 4
    (7 < l ∨ objKind q = 6 ∧ l = 0 → exec (.framerOhGet q) s = .next (complete q.ch q.tag { status := stBadParam, detail := 4 } s)) ∧
    ∀ f, ¬(7 < l ∨ objKind q = 6 ∧ l = 0) → s.framer (reqFramer q) = some f → let y := f.slices.getD (if objKind q = 6 then objSub2 q - 1 else 0) {}
      let x := getNat {} y.layers l
      exec (.framerOhGet q) s = .next (complete q.ch q.tag { status := stOk, bulk := f.ftfl, payload := padTo 64 (x.ttiAcc.getD []) ++ leBytes 1 (y.pt.acc.getD 0) ++ leBytes 1 (x.stat % 8) ++ leBytes 2 0 ++ leBytes 4 ((f.aps.getD (if l = 0 then 7 else l - 1) {}).acc.getD 0) } s)) ∧
  ∀ (q : Request) (s : State), runs 0x0806 q s = true → let f := getNat {} s.bonds (objIndex q)
    let sg := u8 q 5
    let bad : Option Nat := if 1 < u8 q 4 then some 4 else if 3 < sg ∨ (f.provisioned = true ∧ isEth f = true ∧ 1 < sg) then some 5 else if 1 < u8 q 6 then some 6 else none
    let done := fun g : Framer → Framer => complete q.ch q.tag { status := stOk } (egressSync (reqFramer q) (onFramer (reqFramer q) g (keepBody 0x0806 q s)))
    (∀ off, bad = some off → exec (.framerMaintSet q) s = .next (complete q.ch q.tag { status := stBadParam, detail := off } s)) ∧
    (bad = none → u8 q 4 = 0 → exec (.framerMaintSet q) s = .next (done fun f => { f with maint := (sg, f.maint.2), fbdi := (u8 q 6 == 1, f.fbdi.2) })) ∧
    (bad = none → u8 q 4 = 1 → exec (.framerMaintSet q) s = .next (done fun f => { f with maint := (f.maint.1, sg), fbdi := (f.fbdi.1, u8 q 6 == 1) }))

/-- Tributaries, their slots and their multiframe boundary, the tributary switch and rate-following bonds. A tributary of
rate r takes the least number of slots that carries r with the margin of R207, which gives the table of R206.
MAP.TRIB.ADD refuses in REGENERATOR mode, wrong fields, no capacity and slots that are taken or of the wrong number;
else it holds the slots listed, or with AUTO the lowest-numbered free ones, and the tributary waits for the next
multiframe boundary of a transmitter that runs. MAP.TRIB.REMOVE refuses an unknown tributary and one that the switch
uses; one not yet sent goes at once, one being sent at the boundary. The boundary brings added tributaries into the
structure and takes removed ones out, changes no other tributary and no connection, and counts IMP idles. SWITCH.CONNECT
takes a source and a destination of the same kind and rate in FRAMER mode, at most 4 destinations to a source and one
delay for the device; the change waits for the destination's frame boundary, where SWITCH_CHANGED is raised and the
destination sends ODU-AIS until the first whole frame of the new source. SWITCH.DISCONNECT ends a connection likewise.
An item of the switch buffer is read no earlier than its arrival plus the switch delay, its poison counted and handed
on. A rate-following bond moves one step toward the rate of its source within 120 ppm; without a source it holds its
rate, and after the hold returns to exact. A change where the transmitter does not run is applied at once, and the slot
rate of a client OTUCn is the model's choice (logs 36, 37) -/
def Obligations.MappingAndSwitch : Prop :=
  (∀ r n : Nat, (lineSlots r ≤ n ↔ r * 10001 ≤ 49711160000 * n) ∧ (clientSlots r ≤ n ↔ r * 10001 ≤ 52408860000 * n)) ∧
  ([201624860, 403249720, 806499440, 1612998880, 104794445].map lineSlots = [41, 82, 163, 325, 22] ∧ [0, 1, 2, 3].map impRate = [201624860, 403249720, 806499440, 1612998880] ∧ odu4Rate = 104794445) ∧
  (∀ (kind cont group : Nat) (idles : List (Nat × Nat × Nat)) (s : State), let mine := fun t : Trib => t.ckind = kind ∧ t.cont = cont ∧ t.group = group
    let bare := fun t : Trib => { t with oh := {} }
    ∃ u : State, exec (.multiframeBoundary kind cont group idles) s = .next (pmSync u) ∧ u.map.conns = s.map.conns ∧ u.map.delay = s.map.delay ∧ u.map.follow = s.map.follow ∧
      u.map.tribs.map bare = (s.map.tribs.filter fun t => !(decide (mine t) && t.removing)).map fun t => bare (if mine t then
        (match idles.find? fun x => t.tpn == x.1 && t.kind == 0 with
          | some x => { t with active := true, idlesIn := satAdd t.idlesIn x.2.1, idlesOut := satAdd t.idlesOut x.2.2 }
          | none => { t with active := true }) else t)) ∧
  (∀ (q : Request) (s : State), runs 0x0901 q s = true → let ck := u8 q 4
    let f := getNat {} s.bonds (u8 q 10)
    let rate := tribRate (u8 q 7) f (u32 q 12)
    let n := if ck = 0 then lineSlots rate else clientSlots rate
    let order := slotOrder (containerSlices s ck (u8 q 5) (u8 q 6))
    let taken := s.map.taken ck (u8 q 5) (u8 q 6)
    let free := order.filter fun c => !taken.contains c
    let listed := slotCodes q 0 (u16 q 16)
    let nc := slotCodes q (u16 q 16) (u16 q 18)
    let full := 256 ≤ s.map.tribs.length ∨ 64 ≤ (s.map.inContainer ck (u8 q 5) (u8 q 6)).length ∨ free.length < n ∨ (u16 q 18 ≠ 0 ∧ 64 ≤ (s.map.tribs.filter fun t => t.bond == u8 q 10).length) ∨ mateOver s ck (u8 q 5) rate = true
    let badList := u16 q 16 ≠ 0 ∧ (u16 q 16 ≠ n ∨ slotsOk order taken listed = false)
    let badNc := slotsOk (slotOrder (otucN f.iface)) (s.map.clientTaken (u8 q 10)) nc = false
    let t : Trib := { ckind := ck, cont := u8 q 5, group := u8 q 6, tpn := u16 q 8, kind := u8 q 7, rate := rate, bond := u8 q 10, slots := if u16 q 16 = 0 then free.take n else listed, ncSlots := nc, active := false, removing := false }
    let u := beginTransition (.container ck (u8 q 5) (u8 q 6)) 0x0901 q (onMap (fun m => { m with tribs := m.tribs ++ [t] }) s)
    let regen := s.dev.mode = some .regenerator
    (regen → exec (.mapTribAdd q) s = .next (pmSync (complete q.ch q.tag { status := stBadState } s))) ∧
    (∀ off, ¬regen → tribFieldBad q s = some off → exec (.mapTribAdd q) s = .next (pmSync (complete q.ch q.tag { status := stBadParam, detail := off } s))) ∧
    (¬regen → tribFieldBad q s = none → full → exec (.mapTribAdd q) s = .next (pmSync (complete q.ch q.tag { status := stNoCapacity } s))) ∧
    (¬regen → tribFieldBad q s = none → ¬full → badList → exec (.mapTribAdd q) s = .next (pmSync (complete q.ch q.tag { status := stBadParam, detail := 16 } s))) ∧
    (¬regen → tribFieldBad q s = none → ¬full → ¬badList → badNc → exec (.mapTribAdd q) s = .next (pmSync (complete q.ch q.tag { status := stBadParam, detail := 18 } s))) ∧
    (¬regen → tribFieldBad q s = none → ¬full → ¬badList → ¬badNc → containerRuns s ck (u8 q 5) (u8 q 6) = true → exec (.mapTribAdd q) s = .next (pmSync (setPhase q.ch q.tag .started u))) ∧
    (¬regen → tribFieldBad q s = none → ¬full → ¬badList → ¬badNc → containerRuns s ck (u8 q 5) (u8 q 6) = false →
      exec (.mapTribAdd q) s = .next (pmSync (setPhase q.ch q.tag .started (applyContainer ck (u8 q 5) (u8 q 6) u))))) ∧
  (∀ (q : Request) (s : State), runs 0x0902 q s = true → let k := u8 q 4
    let isIt := fun t : Trib => t.isId k (u8 q 5) (u8 q 6) (u16 q 8)
    let unit : SwUnit := { kind := 1, bond := u8 q 5, tpn := u16 q 8 }
    let used := k = 1 ∧ ∃ c ∈ s.map.conns, c.dst = unit ∨ c.src = some unit
    let u := beginTransition (.container k (u8 q 5) (u8 q 6)) 0x0902 q (onMap (fun m => { m with tribs := m.tribs.map fun t => if isIt t = true then { t with removing := true } else t }) s)
    ((∀ t ∈ s.map.tribs, isIt t = false) → exec (.mapTribRemove q) s = .next (pmSync (complete q.ch q.tag { status := stBadParam, detail := 8 } s))) ∧
    ∀ t, s.map.tribs.find? isIt = some t → (used → exec (.mapTribRemove q) s = .next (pmSync (complete q.ch q.tag { status := stBadState } s))) ∧
      (¬used → t.active = false → exec (.mapTribRemove q) s = .next (pmSync (complete q.ch q.tag { status := stOk } (onMap (fun m => { m with tribs := m.tribs.filter fun t => !isIt t }) (terminate (.container k (u8 q 5) (u8 q 6)) s))))) ∧
      (¬used → t.active = true → containerRuns s k (u8 q 5) (u8 q 6) = true → exec (.mapTribRemove q) s = .next (pmSync (setPhase q.ch q.tag .started u))) ∧
      (¬used → t.active = true → containerRuns s k (u8 q 5) (u8 q 6) = false → exec (.mapTribRemove q) s = .next (pmSync (setPhase q.ch q.tag .started (applyContainer k (u8 q 5) (u8 q 6) u))))) ∧
  (∀ (q : Request) (s : State), runs 0x0910 q s = true → let src := unitAt q 4
    let dst := unitAt q 8
    let d := u32 q 12
    let same := ∃ a, src.carries s = some a ∧ dst.carries s = some a
    let badDelay := d ≠ 0 ∧ (d < 4000 ∨ 1000000 < d)
    let moves := d ≠ 0 ∧ d ≠ s.map.delay ∧ s.map.conns ≠ []
    let full := 4 ≤ (s.map.conns.filter fun c => c.dst != dst && c.source == some src).length
    let dl := if s.stk.region 3 = none ∧ d ≠ 0 then d else s.map.delay
    let go := fun v : State => setPhase q.ch q.tag .started (onMap (fun m => { m with delay := dl, conns := if (m.conns.any fun c => c.dst == dst) = true then m.conns.map fun c => if c.dst = dst then { c with next := some (some src) } else c
      else m.conns ++ [{ dst := dst, src := none, next := some (some src), ais := true }] }) (beginTransition (.dest dst.kind dst.bond dst.tpn) 0x0910 q v))
    let framer := s.dev.mode = some .framer
    (¬framer → exec (.switchConnect q) s = .next (complete q.ch q.tag { status := stBadState } s)) ∧
    (framer → src.carries s = none → exec (.switchConnect q) s = .next (complete q.ch q.tag { status := stBadParam, detail := 4 } s)) ∧
    (framer → src.carries s ≠ none → ¬same → exec (.switchConnect q) s = .next (complete q.ch q.tag { status := stBadParam, detail := 8 } s)) ∧
    (framer → same → badDelay → exec (.switchConnect q) s = .next (complete q.ch q.tag { status := stBadParam, detail := 12 } s)) ∧
    (framer → same → ¬badDelay → moves → exec (.switchConnect q) s = .next (complete q.ch q.tag { status := stBadState } s)) ∧
    (framer → same → ¬badDelay → ¬moves → full → exec (.switchConnect q) s = .next (complete q.ch q.tag { status := stNoCapacity } s)) ∧
    (framer → same → ¬badDelay → ¬moves → ¬full → s.stk.region 3 ≠ none → exec (.switchConnect q) s = .next (go s)) ∧
    (∀ v, framer → same → ¬badDelay → ¬moves → ¬full → s.stk.region 3 = none → allocRegion 3 (switchPages dl) s = .ok v → exec (.switchConnect q) s = .next (go v)) ∧
    (∀ st, framer → same → ¬badDelay → ¬moves → ¬full → s.stk.region 3 = none → allocRegion 3 (switchPages dl) s = .error st → exec (.switchConnect q) s = .next (complete q.ch q.tag { status := st } s))) ∧
  (∀ (q : Request) (s : State), runs 0x0911 q s = true → let dst := unitAt q 4
    let fn := Fn.dest dst.kind dst.bond dst.tpn
    ((∀ c ∈ s.map.conns, c.dst ≠ dst) → exec (.switchDisconnect q) s = .next (complete q.ch q.tag { status := stBadState } s)) ∧
    ∀ c, (s.map.conns.find? fun c => c.dst == dst) = some c →
      (c.src = none → exec (.switchDisconnect q) s = .next (complete q.ch q.tag { status := stOk } (onMap (fun m => { m with conns := m.conns.filter fun c => c.dst != dst }) (terminate fn s)))) ∧
      (c.src ≠ none → exec (.switchDisconnect q) s = .next (setPhase q.ch q.tag .started (onMap (fun m => { m with conns := m.conns.map fun c => if c.dst = dst then { c with next := some none } else c }) (beginTransition fn 0x0911 q (terminate fn s)))))) ∧
  (∀ (uk bond tpn : Nat) (s : State), let dst : SwUnit := { kind := uk, bond := bond, tpn := tpn }
    let out := fun v : State => egressSync (.bond ⟨bond % 48, Nat.mod_lt _ (by decide)⟩) v
    let told := fun v : State => out (endTransition (.dest uk bond tpn) { status := stOk } (raise 177 (objBond bond) (evtArg 0 0 tpn 0) v))
    ((∀ c ∈ s.map.conns, c.dst ≠ dst) → exec (.switchFrameBoundary uk bond tpn) s = .next (out s)) ∧
    ∀ c, (s.map.conns.find? fun c => c.dst == dst) = some c →
      (c.next = none → exec (.switchFrameBoundary uk bond tpn) s = .next (out (onMap (fun m => { m with conns := m.conns.map fun c => if c.dst = dst then { c with ais := false } else c }) s))) ∧
      (∀ src, c.next = some (some src) → exec (.switchFrameBoundary uk bond tpn) s = .next (told (onMap (fun m => { m with changes := bump m.changes, conns := m.conns.map fun c => if c.dst = dst then { c with src := some src, next := none, ais := true } else c }) s))) ∧
      (c.next = some none → exec (.switchFrameBoundary uk bond tpn) s = .next (told (onMap (fun m => { m with changes := bump m.changes, conns := m.conns.filter fun c => c.dst != dst,
                                                                                                              out := { dst := dst, data := none, poison := false } :: m.out.filter fun o => o.dst != dst }) s)))) ∧
  (∀ (uk bond tpn : Nat) (w : Fin 2147483648) (seq arrival : Nat) (s : State), let dst : SwUnit := { kind := uk, bond := bond, tpn := tpn }
    let early := s.tod16 < arrival + s.map.delay * 65536 ∨ s.stk.codeAt (pageOf w.val) ≠ 3
    let d := stkRead w.val (some (3, seq % 256)) false false s
    ((∀ c ∈ s.map.conns, c.dst ≠ dst) → exec (.switchReadDue uk bond tpn w seq arrival) s = .next s) ∧
    ∀ c, (s.map.conns.find? fun c => c.dst == dst) = some c → (c.src = none ∨ early → exec (.switchReadDue uk bond tpn w seq arrival) s = .next s) ∧
      let v := onMap (fun m => { m with out := { dst := dst, data := if c.ais = true then none else some d.1.data, poison := d.1.poison } :: m.out.filter fun o => o.dst != dst }) d.2
      (c.src ≠ none → ¬early → d.1.poison = false → exec (.switchReadDue uk bond tpn w seq arrival) s = .next v) ∧
      (c.src ≠ none → ¬early → d.1.poison = true → ∃ x : State, x.bonds = updNat v.bonds bond (fun f => { f with poisonedEgress := bump f.poisonedEgress }) ∧ x.map = v.map ∧
        exec (.switchReadDue uk bond tpn w seq arrival) s = .next (poisonOutIf true (egressRow (getNat {} s.bonds bond) dst) x))) ∧
  ∀ (b : Fin 48) (target : Int) (s : State), let r := s.map.follow[b]
    let goal := max (-120000000) (min 120000000 target)
    let to_ := fun r' : RateFollow => onMap (fun m => { m with follow := upd m.follow b fun _ => r' }) s
    let step1 := fun x t : Int => if x < t then x + 1 else if t < x then x - 1 else x
    (rateFollowing s.bonds[b] = false → exec (.rateFollowSteer b target) s = .next s) ∧
    (rateFollowing s.bonds[b] = true → followsSource s b = true → exec (.rateFollowSteer b target) s = .next (to_ { offset := step1 r.offset goal, holding := false, returning := false })) ∧
    (rateFollowing s.bonds[b] = true → followsSource s b = false → r.returning = true → exec (.rateFollowSteer b target) s = .next (to_ { r with offset := step1 r.offset 0 })) ∧
    (rateFollowing s.bonds[b] = true → followsSource s b = false → r.returning = false → exec (.rateFollowSteer b target) s = .next (to_ { r with holding := true })) ∧
    (r.holding = true → exec (.rateHoldEnd b) s = .next (to_ { r with holding := false, returning := true })) ∧ (r.holding = false → exec (.rateHoldEnd b) s = .next s)
end

