-- ==== Sys2Proof/Laws/Cells.lean ====
section
/-! SUPPORT. Cell lists: putting a byte keeps the canonical form, a read after a write to the same address gives what was
written, and every other address reads as before. -/

namespace Sys2Proof.Machine

/-- Strictly rising addresses. -/
def Rising (m : List Host.Cell) : Prop := m.Pairwise fun a b => a.1 < b.1

theorem cellPut_mem {d : Option Byte} {a : Nat} {v : Byte} {m : List Host.Cell} {x : Host.Cell} (h : x ∈ cellPut d a v m) :
    x ∈ m ∨ (x = (a, v) ∧ d ≠ some v) := by
  induction m with
  | nil =>
    unfold cellPut at h
    split at h
    · cases h
    · next e => exact .inr ⟨List.mem_singleton.1 h, e⟩
  | cons y r ih =>
    unfold cellPut at h
    split at h
    · split at h
      · exact .inl h
      · next e =>
        rcases List.mem_cons.1 h with h | h
        · exact .inr ⟨h, e⟩
        · exact .inl h
    · split at h
      · split at h
        · exact .inl (List.mem_cons_of_mem _ h)
        · next e =>
          rcases List.mem_cons.1 h with h | h
          · exact .inr ⟨h, e⟩
          · exact .inl (List.mem_cons_of_mem _ h)
      · rcases List.mem_cons.1 h with h | h
        · exact .inl (h ▸ List.mem_cons_self)
        · rcases ih h with h | h
          · exact .inl (List.mem_cons_of_mem _ h)
          · exact .inr h

theorem cellPut_rising {d : Option Byte} {a : Nat} {v : Byte} {m : List Host.Cell} (h : Rising m) : Rising (cellPut d a v m) := by
  induction m with
  | nil =>
    unfold cellPut
    split
    · exact h
    · exact List.pairwise_singleton _ _
  | cons y r ih =>
    have hr := (List.pairwise_cons.1 h)
    unfold cellPut
    split
    · next lt =>
      split
      · exact h
      · refine List.pairwise_cons.2 ⟨fun z hz => ?_, h⟩
        rcases List.mem_cons.1 hz with e | hz
        · subst e; exact lt
        · exact Nat.lt_trans lt (hr.1 z hz)
    · split
      · next e =>
        split
        · exact hr.2
        · refine List.pairwise_cons.2 ⟨fun z hz => ?_, hr.2⟩
          subst e
          exact hr.1 z hz
      · refine List.pairwise_cons.2 ⟨fun z hz => ?_, ih hr.2⟩
        rcases cellPut_mem hz with hz | ⟨e, _⟩
        · exact hr.1 z hz
        · subst e; simp only; omega

theorem cellPutList_mem {d : Option Byte} {vs : List Byte} {a : Nat} {m : List Host.Cell} {x : Host.Cell} (h : x ∈ cellPutList d a vs m) :
    x ∈ m ∨ (a ≤ x.1 ∧ x.1 < a + vs.length ∧ d ≠ some x.2) := by
  induction vs generalizing a m with
  | nil => exact .inl h
  | cons v r ih =>
    rcases ih h with h | ⟨h1, h2, h3⟩
    · rcases cellPut_mem h with h | ⟨e, hn⟩
      · exact .inl h
      · subst e; exact .inr ⟨Nat.le_refl _, by simp, hn⟩
    · exact .inr ⟨by omega, by simp; omega, h3⟩

theorem cellPutList_rising {d : Option Byte} {vs : List Byte} {a : Nat} {m : List Host.Cell} (h : Rising m) :
    Rising (cellPutList d a vs m) := by
  induction vs generalizing a m with
  | nil => exact h
  | cons v r ih => exact ih (cellPut_rising h)

/-- An address below every listed one is not listed. -/
theorem cellFind_low {a : Nat} {m : List Host.Cell} (h : ∀ x ∈ m, a < x.1) : cellFind a m = none := by
  cases m with
  | nil => rfl
  | cons y r =>
    have := h y List.mem_cons_self
    unfold cellFind
    rw [if_neg (by omega), if_pos this]

/-- Read after write at the same address. -/
theorem cellFind_put_same {d : Option Byte} {a : Nat} {v : Byte} {m : List Host.Cell} (h : Rising m) :
    cellFind a (cellPut d a v m) = if d = some v then none else some v := by
  induction m with
  | nil =>
    unfold cellPut
    split <;> simp [cellFind]
  | cons y r ih =>
    have hr := List.pairwise_cons.1 h
    unfold cellPut
    split
    · next lt =>
      split
      · unfold cellFind
        rw [if_neg (by omega), if_pos lt]
      · simp [cellFind]
    · split
      · next e =>
        split
        · exact cellFind_low fun x hx => by subst e; exact hr.1 x hx
        · simp [cellFind]
      · rw [cellFind, if_neg (by omega), if_neg (by omega)]
        exact ih hr.2

/-- A write leaves every other address as it was. -/
theorem cellFind_put_other {d : Option Byte} {a b : Nat} {v : Byte} {m : List Host.Cell} (h : Rising m) (ne : b ≠ a) :
    cellFind b (cellPut d a v m) = cellFind b m := by
  induction m with
  | nil =>
    unfold cellPut
    split
    · rfl
    · simp [cellFind]; omega
  | cons y r ih =>
    have hr := List.pairwise_cons.1 h
    unfold cellPut
    split
    · next lt =>
      split
      · rfl
      · rw [cellFind, if_neg (by omega)]
        split
        · next lb =>
          rw [cellFind, if_neg (by omega), if_pos (by omega)]
        · rfl
    · split
      · next e =>
        have key : cellFind b (y :: r) = cellFind b r := by
          rw [cellFind, if_neg (by omega)]
          split
          · next lb => exact (cellFind_low fun x hx => Nat.lt_trans lb (hr.1 x hx)).symm
          · rfl
        split
        · exact key.symm
        · rw [key, cellFind, if_neg (by omega)]
          split
          · next lb => exact (cellFind_low fun x hx => by have := hr.1 x hx; omega).symm
          · rfl
      · rw [cellFind, cellFind, ih hr.2]

/-- A write of several bytes leaves every address outside them as it was. -/
theorem cellFind_putList_other {d : Option Byte} {vs : List Byte} {a b : Nat} {m : List Host.Cell} (h : Rising m)
    (out : b < a ∨ a + vs.length ≤ b) : cellFind b (cellPutList d a vs m) = cellFind b m := by
  induction vs generalizing a m with
  | nil => rfl
  | cons v r ih =>
    simp only [List.length_cons] at out
    rw [cellPutList, ih (cellPut_rising h) (by omega), cellFind_put_other h (by omega)]

/-- Each byte written by a write of several bytes reads back. -/
theorem cellFind_putList_in {d : Option Byte} {vs : List Byte} {a i : Nat} {m : List Host.Cell} (h : Rising m) (lt : i < vs.length) :
    cellFind (a + i) (cellPutList d a vs m) = if d = some vs[i] then none else some vs[i] := by
  induction vs generalizing a m i with
  | nil => simp at lt
  | cons v r ih =>
    rw [cellPutList]
    cases i with
    | zero =>
      rw [cellFind_putList_other (cellPut_rising h) (by omega), Nat.add_zero, cellFind_put_same h]
      simp
    | succ j =>
      have := ih (a := a + 1) (i := j) (cellPut_rising (d := d) (a := a) (v := v) h) (by simpa using lt)
      rw [show a + (j + 1) = a + 1 + j by omega, this]
      simp

/-- Bytes put at consecutive addresses read back. -/
theorem getList_put_same {vs : List Byte} {a n : Nat} {m : List Host.Cell} (h : Rising m) (e : vs.length = n) :
    cellGetList a n (cellPutList (some 0) a vs m) = vs := by
  subst e
  unfold cellGetList
  apply List.ext_getElem
  · simp
  · intro i h1 h2
    simp only [List.getElem_map, List.getElem_range]
    rw [cellFind_putList_in h h2]
    split
    · next e => injection e
    · rfl

/-- Bytes put elsewhere leave a range as it reads. -/
theorem getList_put_other {vs : List Byte} {a b n : Nat} {m : List Host.Cell} (h : Rising m) (out : b + n ≤ a ∨ a + vs.length ≤ b) :
    cellGetList b n (cellPutList (some 0) a vs m) = cellGetList b n m := by
  unfold cellGetList
  apply List.map_congr_left
  intro i hi
  rw [cellFind_putList_other h]
  have := List.mem_range.1 hi
  omega

end Sys2Proof.Machine
end

