-- ==== Sys2Proof/Laws/Keep.lean ====
section
/-! SUPPORT. How soundness passes through the ways in which effects are put together: updates that touch none of its parts,
folds, conditionals, pairs. -/

namespace Sys2Proof.Machine

/-- A sound state whose queue is `pq`. -/
structure Good (pq : List Instr) (s : State) : Prop where
  queue : s.pending = pq
  sound : Sound s

theorem Good.lit {pq : List Instr} {s : State} {free dev par time cars rx tx dec il folio crypt bonds odum map prot ap cen lanes link pwr house boot cat vault safe mate pins} (h : Good pq s) :
    Good pq (State.mk s.pending free dev s.desk par s.evt s.chutes time cars rx tx dec il folio crypt bonds odum map prot s.stk ap cen lanes link pwr house boot cat vault safe mate pins) :=
  ⟨h.queue, ⟨h.sound.chutes, h.sound.stk, h.sound.evt, h.sound.desk⟩⟩

theorem fold_good {α β : Type} {p : α → Prop} {f : α → β → α} {l : List β} {x : α} (hf : ∀ x y, p x → p (f x y)) (h : p x) :
    p (l.foldl f x) := by
  induction l generalizing x with
  | nil => exact h
  | cons y r ih => exact ih (hf x y h)

theorem foldl_good {α : Type} {pq : List Instr} {f : State → α → State} {l : List α} {s : State}
    (hf : ∀ s x, Good pq s → Good pq (f s x)) (h : Good pq s) : Good pq (l.foldl f s) := by
  induction l generalizing s with
  | nil => exact h
  | cons x r ih => exact ih (hf s x h)

theorem ite_good {pq : List Instr} {c : Prop} [Decidable c] {a b : State} (ha : c → Good pq a) (hb : ¬c → Good pq b) : Good pq (if c then a else b) := by
  by_cases h : c
  · rw [if_pos h]; exact ha h
  · rw [if_neg h]; exact hb h

theorem ite_good_1 {α : Type} {pq : List Instr} {c : Prop} [Decidable c] {a b : State × α} (ha : c → Good pq a.1) (hb : ¬c → Good pq b.1) : Good pq (if c then a else b).1 := by
  by_cases h : c
  · rw [if_pos h]; exact ha h
  · rw [if_neg h]; exact hb h

theorem ite_good_2 {α : Type} {pq : List Instr} {c : Prop} [Decidable c] {a b : α × State} (ha : c → Good pq a.2) (hb : ¬c → Good pq b.2) : Good pq (if c then a else b).2 := by
  by_cases h : c
  · rw [if_pos h]; exact ha h
  · rw [if_neg h]; exact hb h

theorem ite_good_2_2 {α β : Type} {pq : List Instr} {c : Prop} [Decidable c] {a b : α × β × State} (ha : c → Good pq a.2.2) (hb : ¬c → Good pq b.2.2) : Good pq (if c then a else b).2.2 := by
  by_cases h : c
  · rw [if_pos h]; exact ha h
  · rw [if_neg h]; exact hb h

theorem Good.fst {α : Type} {pq : List Instr} {a : State} {b : α} (h : Good pq a) : Good pq (a, b).1 := h
theorem Good.snd {α : Type} {pq : List Instr} {a : State} {b : α} (h : Good pq a) : Good pq (b, a).2 := h

theorem onStk_good {pq : List Instr} {f : Stacks → Stacks} {s : State} (hf : ∀ k, k.sound = true → (f k).sound = true) (h : Good pq s) :
    Good pq (onStk f s) := ⟨h.queue, ⟨h.sound.chutes, hf _ h.sound.stk, h.sound.evt, h.sound.desk⟩⟩

theorem upd_get {α : Type} {n : Nat} (v : Vector α n) (i j : Fin n) (f : α → α) : (upd v i f)[j] = if i = j then f v[j] else v[j] := by
  unfold upd
  by_cases h : i = j
  · subst h; simp
  · have : i.val ≠ j.val := fun e => h (Fin.ext e)
    simp [h, this]

theorem upd_upd {α : Type} {n : Nat} {v : Vector α n} {i : Fin n} {f h : α → α} : upd (upd v i f) i h = upd v i fun x => h (f x) := by
  apply Vector.ext
  intro k hk
  have a := upd_get (upd v i f) i ⟨k, hk⟩ h
  have b := upd_get v i ⟨k, hk⟩ f
  have c := upd_get v i ⟨k, hk⟩ fun x => h (f x)
  refine a.trans (Eq.trans ?_ c.symm)
  rw [b]; split <;> rfl

theorem onChan_same {ch : Fin 4} {f : Channel → Channel} {s : State} : (onChan ch f s).chan ch = f (s.chan ch) := by
  show (upd s.desk.chans ch f)[ch] = _
  rw [upd_get, if_pos rfl]; rfl

theorem onChan_other {ch k : Fin 4} {f : Channel → Channel} {s : State} (h : k ≠ ch) : (onChan ch f s).chan k = s.chan k := by
  show (upd s.desk.chans ch f)[k] = _
  rw [upd_get, if_neg (Ne.symm h)]; rfl

theorem onChan_good {pq : List Instr} {ch : Fin 4} {f : Channel → Channel} {s : State} (hf : ∀ c, c.sound = true → (f c).sound = true)
    (h : Good pq s) : Good pq (onChan ch f s) := by
  refine ⟨h.queue, ⟨h.sound.chutes, h.sound.stk, h.sound.evt, fun c => ?_⟩⟩
  show (upd s.desk.chans ch f)[c].sound = true
  rw [upd_get]
  split
  · exact hf _ (h.sound.desk c)
  · exact h.sound.desk c

theorem onChute_good {pq : List Instr} {k : Fin 256} {f : Chute → Chute} {s : State}
    (hf : chuteSound k.val s.chutes[k] = true → chuteSound k.val (f s.chutes[k]) = true)
    (h : Good pq s) : Good pq (onChute k f s) := by
  refine ⟨h.queue, ⟨fun j => ?_, h.sound.stk, h.sound.evt, h.sound.desk⟩⟩
  show chuteSound j.val (upd s.chutes k f)[j] = true
  rw [upd_get]
  split
  · next e => subst e; exact hf (h.sound.chutes k)
  · exact h.sound.chutes j

theorem litEvt_good {pq : List Instr} {s : State} {e : EventTree} (he : e.sound = true) (h : Good pq s) : Good pq { s with evt := e } :=
  ⟨h.queue, ⟨h.sound.chutes, h.sound.stk, he, h.sound.desk⟩⟩

/-- An outcome whose next state, if it has one, is sound with the queue `pq`. -/
def GoodOut (pq : List Instr) (o : Out) : Prop := ∀ t, o = .next t → Good pq t

theorem next_goodOut {pq : List Instr} {s : State} (h : Good pq s) : GoodOut pq (.next s) := fun _ e => by injection e with e; exact e ▸ h

theorem fault_goodOut {pq : List Instr} {f : Fault} : GoodOut pq (.fault f) := fun _ e => nomatch e

theorem refused_goodOut {pq : List Instr} {r : Refusal} : GoodOut pq (.refused r) := fun _ e => nomatch e

theorem ite_goodOut {pq : List Instr} {c : Prop} [Decidable c] {a b : Out} (ha : c → GoodOut pq a) (hb : ¬c → GoodOut pq b) : GoodOut pq (if c then a else b) := by
  by_cases h : c
  · rw [if_pos h]; exact ha h
  · rw [if_neg h]; exact hb h

end Sys2Proof.Machine
end

