-- ==== Sys2Proof/Laws/Events.lean ====
section
/-! SUPPORT. The event tree's operations keep its bounds (15_events_census.md R371; R341), and an occurrence changes nothing but
the event tree. -/

namespace Sys2Proof.Machine

theorem vectorDue_sound {e : EventTree} {v : Nat} (h : e.sound = true) : (e.vectorDue v).sound = true := by
  unfold EventTree.vectorDue; split <;> exact h

theorem signal_sound {e : EventTree} {n : Nat} (h : e.sound = true) : (e.signal n).sound = true := by
  unfold EventTree.signal; split
  · exact vectorDue_sound h
  · exact h

theorem evtSound_iff {e : EventTree} : e.sound = true ↔ e.queue.length ≤ 256 ∧ e.log.length ≤ 1024 := by
  simp [EventTree.sound]

theorem occurCore_sound {e : EventTree} {st : Stamp} {n ob : Nat} {a : EvtArg} (h : e.sound = true) : (e.occurCore st n ob a).1.sound = true := by
  unfold EventTree.occurCore
  extract_lets fr e1 e2
  have h2 : e2.sound = true := by
    unfold e2
    split
    · exact signal_sound h
    · exact h
  clear_value e2
  split
  · exact h2
  · split
    · rw [evtSound_iff] at *
      exact ⟨by simp; omega, h2.2⟩
    · exact h2

theorem occur_sound {e : EventTree} {st : Stamp} {t n ob : Nat} {a : EvtArg} (h : e.sound = true) : (e.occur st t n ob a).sound = true := by
  unfold EventTree.occur
  split
  · extract_lets r
    have hr : r.1.sound = true := occurCore_sound h
    clear_value r
    split
    · exact occurCore_sound hr
    · exact hr
  · exact h

theorem raiseEvt_sound {e : EventTree} {st : Stamp} {t n ob : Nat} {a : EvtArg} (h : e.sound = true) : (e.raiseEvt st t n ob a).sound = true := by
  unfold EventTree.raiseEvt
  split
  · exact occur_sound h
  · split
    · exact occur_sound h
    · exact h

theorem raise_good {pq : List Instr} {n ob : Nat} {a : EvtArg} {s : State} (h : Good pq s) : Good pq (raise n ob a s) :=
  litEvt_good (raiseEvt_sound h.sound.evt) h

theorem raiseIf_good {pq : List Instr} {b : Bool} {n ob : Nat} {a : EvtArg} {s : State} (h : Good pq s) : Good pq (raiseIf b n ob a s) := by
  refine litEvt_good ?_ h
  split
  · exact raiseEvt_sound h.sound.evt
  · exact h.sound.evt

theorem foldl_sound {α : Type} {f : EventTree → α → EventTree} {l : List α} {e : EventTree} (hf : ∀ e x, e.sound = true → (f e x).sound = true)
    (h : e.sound = true) : (l.foldl f e).sound = true := by
  induction l generalizing e with
  | nil => exact h
  | cons x r ih => exact ih (hf e x h)

theorem evtStatusWrite_good {pq : List Instr} {g : Fin 16} {v : Word32} {occ : List (Fin 32 × Word32 × EvtArg)} {s : State} (h : Good pq s) :
    Good pq (evtStatusWrite g v occ s) := by
  refine foldl_good (fun _ _ hs => raise_good hs) ?_
  exact litEvt_good (show (s.evt.clearStatus g.val v).sound = true from h.sound.evt) h

theorem evtEnWrite_good {pq : List Instr} {g : Fin 16} {v : Word32} {s : State} (h : Good pq s) : Good pq (evtEnWrite g v s) := by
  refine litEvt_good (foldl_sound (fun e x he => ?_) h.sound.evt) h
  extract_lets n e1
  split
  · split
    · exact signal_sound he
    · exact he
  · exact he

theorem evtForceWrite_good {pq : List Instr} {g : Fin 16} {v : Word32} {s : State} (h : Good pq s) : Good pq (evtForceWrite g v s) := by
  refine litEvt_good (foldl_sound (fun e x he => ?_) h.sound.evt) h
  split
  · exact occur_sound he
  · exact he

theorem unmasked_sound {o e : EventTree} (h : e.sound = true) : (o.unmasked e).sound = true := by
  refine foldl_sound (fun e x he => ?_) h
  split
  · split <;> exact he
  · exact he

theorem msixUnmask_good {pq : List Instr} {w : MsixBit} {s : State} (h : Good pq s) : Good pq (msixUnmask w s) := by
  refine litEvt_good (unmasked_sound ?_) h
  cases w <;> exact h.sound.evt

theorem logTake_good {pq : List Instr} {s : State} (h : Good pq s) : Good pq (logTake s) := by
  unfold logTake
  split
  · exact h
  · next r rest e =>
    split
    · refine litEvt_good ?_ h
      have hs := evtSound_iff.1 h.sound.evt
      rw [e] at hs
      rw [evtSound_iff]
      simp at hs ⊢
      omega
    · exact h

/-! What an occurrence leaves in EVT_STATUS (R365). -/

theorem vectorDue_status {e : EventTree} {v : Nat} : (e.vectorDue v).status = e.status := by
  unfold EventTree.vectorDue; split <;> rfl

theorem signal_status {e : EventTree} {v : Nat} : (e.signal v).status = e.status := by
  unfold EventTree.signal
  split
  · exact vectorDue_status
  · rfl

theorem setBit_get {n m : Nat} {v : BitVec 512} (h : n < 512) : (setBit v n).getLsbD m = (v.getLsbD m || decide (m = n)) := by
  unfold setBit
  simp only [BitVec.getLsbD_or, BitVec.getLsbD_shiftLeft]
  by_cases e : m = n
  · subst e; simp [h]
  · simp [e]; omega

theorem occurCore_status {e : EventTree} {st : Stamp} {n ob : Nat} {a : EvtArg} : (e.occurCore st n ob a).1.status = setBit e.status n := by
  unfold EventTree.occurCore
  dsimp only
  split <;> split <;> (try split) <;> simp [signal_status]

theorem occur_status {e : EventTree} {st : Stamp} {t n ob : Nat} {a : EvtArg} (hd : eventDefined n = true) (hn : n < 512) :
    (e.occur st t n ob a).status.getLsbD n = true := by
  unfold EventTree.occur
  rw [if_pos hd]
  dsimp only
  split
  · rw [occurCore_status, setBit_get (by omega)]
    show ((e.occurCore st n ob a).1.status.getLsbD n || _) = true
    rw [occurCore_status, setBit_get hn]; simp
  · rw [occurCore_status, setBit_get hn]; simp

/-- An event that no rule limits is pending in EVT_STATUS once raised. -/
theorem raise_status {n ob : Nat} {a : EvtArg} {s : State} (hl : limitScope n ob a = none) (hd : eventDefined n = true) (hn : n < 512) :
    (raise n ob a s).evt.status.getLsbD n = true := by
  unfold raise
  dsimp only
  unfold EventTree.raiseEvt
  rw [hl]
  exact occur_status hd hn

end Sys2Proof.Machine
end

