-- ==== Sys2Proof/Laws/Chutes.lean ====
section
/-! SUPPORT. The Chutes' operations keep what R16, R18 and R19 say of a Chute. -/

namespace Sys2Proof.Machine

theorem chuteSound_iff {k : Nat} {c : Chute} : chuteSound k c = true ↔
    c.held ≤ chuteRoom k ∧ (c.pendingWrite = none ∨ c.held = chuteRoom k ∨ c.shut = true) ∧ c.packets = packetsAtRest c.items := by
  simp [chuteSound, and_assoc, or_assoc]

theorem held_cons_item {x : Item} {b : Bool} {r : List InChute} {c : Chute} (h : c.items = InChute.item x b :: r) :
    c.held = (r.filter fun y => y != .mark).length + 1 := by
  rw [Chute.held, h, List.filter_cons_of_pos (by simp)]
  rfl

theorem packets_append {l m : List InChute} : packetsAtRest (l ++ m) = packetsAtRest l + packetsAtRest m := by
  simp [packetsAtRest]

theorem enter_sound {k tick : Nat} {c : Chute} {x : Item} (h : chuteSound k c = true) (room : c.held < chuteRoom k) (np : c.pendingWrite = none) :
    chuteSound k (c.enter tick x) = true := by
  rw [chuteSound_iff] at *
  have e1 : (c.enter tick x).held = c.held + 1 := by
    simp only [Chute.enter, Chute.held, List.filter_append, List.length_append]
    rfl
  refine ⟨by omega, .inl np, ?_⟩
  show c.packets = packetsAtRest (c.items ++ [InChute.item x false])
  rw [packets_append, h.2.2]
  rfl

theorem restFirst_held {l : List InChute} :
    ((restFirst l).1.filter fun y => y != .mark).length = (l.filter fun y => y != .mark).length := by
  fun_induction restFirst l with
  | case1 => rfl
  | case2 x r => simp
  | case3 y r h ih => simp only [List.filter_cons]; split <;> simp [ih]

theorem restFirst_packets {l : List InChute} :
    packetsAtRest (restFirst l).1 = packetsAtRest l + b2n (restFirst l).2 := by
  fun_induction restFirst l with
  | case1 => rfl
  | case2 x r =>
    by_cases hv : vote3 x.endMark = true <;> simp [packetsAtRest, hv, b2n]
  | case3 y r h ih =>
    have e (m : List InChute) : packetsAtRest (y :: m) = packetsAtRest [y] + packetsAtRest m := packets_append (l := [y])
    rw [e (restFirst r).1, e r, ih, Nat.add_assoc]

theorem rest_sound {k : Nat} {c : Chute} (h : chuteSound k c = true) : chuteSound k c.rest = true := by
  rw [chuteSound_iff] at *
  have e : c.rest.held = c.held := restFirst_held
  refine ⟨e ▸ h.1, ?_, ?_⟩
  · rw [e]; exact h.2.1
  · show c.packets + b2n (restFirst c.items).2 = packetsAtRest (restFirst c.items).1
    rw [restFirst_packets, h.2.2]

theorem settle_sound {k n tick : Nat} {o : Bool} {c : Chute} (hn : n = chuteRoom k) (h1 : c.held ≤ chuteRoom k) (h3 : c.packets = packetsAtRest c.items)
    : chuteSound k (c.settle o n tick) = true := by
  unfold Chute.settle
  split
  · next x e =>
    split
    · next lt =>
      split
      · have h : chuteSound k { c with pendingWrite := none, shut := false } = true := chuteSound_iff.2 ⟨h1, .inl rfl, h3⟩
        exact enter_sound h (hn ▸ lt) rfl
      · exact chuteSound_iff.2 ⟨h1, .inr (.inr rfl), h3⟩
    · exact chuteSound_iff.2 ⟨h1, .inr (.inl (by omega)), h3⟩
  · next e => exact chuteSound_iff.2 ⟨h1, .inl e, h3⟩

theorem chute_settle_sound {k n tick : Nat} {o : Bool} {c : Chute} (hn : n = chuteRoom k) (h : chuteSound k c = true) :
    chuteSound k (c.settle o n tick) = true :=
  settle_sound hn (chuteSound_iff.1 h).1 (chuteSound_iff.1 h).2.2

theorem take_sound {k n tick : Nat} {o : Bool} {c : Chute} (hn : n = chuteRoom k) (h : chuteSound k c = true) : chuteSound k (c.take o n tick) = true := by
  unfold Chute.take
  split
  · next x rest r e =>
    rw [chuteSound_iff] at h
    have hh := held_cons_item e
    refine settle_sound hn ?_ ?_
    · show (r.filter fun y => y != .mark).length ≤ _
      omega
    · show (if _ then _ else _) = packetsAtRest r
      rw [h.2.2, e]
      simp only [packetsAtRest, List.filter_cons]
      split <;> simp_all
  · exact h

/-- The producer's count of the packet it sends touches no item. -/
theorem packetOf_sound {k : Nat} {c : Chute} {x : Item} (h : chuteSound k c = true) : chuteSound k (c.packetOf x) = true := h

/-- A mark added or taken changes neither the items held nor the packets at rest. -/
theorem mark_sound {k : Nat} {c d : Chute} (hi : c.items.filter (fun y => y != .mark) = d.items.filter (fun y => y != .mark))
    (hp : d.pendingWrite = c.pendingWrite) (hs : d.shut = c.shut) (hq : d.packets = c.packets) (hr : packetsAtRest d.items = packetsAtRest c.items)
    (h : chuteSound k c = true) : chuteSound k d = true := by
  rw [chuteSound_iff] at *
  have e : d.held = c.held := by rw [Chute.held, Chute.held, hi]
  refine ⟨e ▸ h.1, ?_, ?_⟩
  · rw [hp, e, hs]; exact h.2.1
  · rw [hq, hr]; exact h.2.2

theorem addMark_filter {l : List InChute} : (l ++ [InChute.mark]).filter (fun y => y != .mark) = l.filter fun y => y != .mark := by
  simp [List.filter_append]

theorem addMark_packets {l : List InChute} : packetsAtRest (l ++ [InChute.mark]) = packetsAtRest l := by
  rw [packets_append]
  rfl

/-- Update one Chute by its number. -/
theorem updChute_good {pq : List Instr} {s : State} {k : Nat} {f : Chute → Chute}
    (hf : ∀ j c, chuteSound j c = true → chuteSound j (f c) = true) (h : Good pq s) :
    Good pq { s with chutes := updNat s.chutes k f } := by
  refine ⟨h.queue, ⟨fun j => ?_, h.sound.stk, h.sound.evt, h.sound.desk⟩⟩
  show chuteSound j.val (updNat s.chutes k f)[j] = true
  unfold updNat
  split
  · next lt =>
    by_cases e : k = j.val
    · subst e
      simpa using hf _ _ (h.sound.chutes j)
    · simpa [Vector.getElem_set, e] using h.sound.chutes j
  · exact h.sound.chutes j

theorem absorb_chutes {k : Nat} {s : State} {c : Chute} : (absorbMarks k s c).2.chutes = s.chutes := by
  unfold absorbMarks
  split
  · dsimp only
    split <;> rfl
  · rfl

theorem absorb_sound {j k : Nat} {s : State} {c : Chute} (h : chuteSound j c = true) : chuteSound j (absorbMarks k s c).1 = true := by
  unfold absorbMarks
  split
  · next r e =>
    refine mark_sound (c := c) ?_ rfl rfl rfl ?_ h
    · rw [e]; rfl
    · show packetsAtRest r = _
      rw [e]; rfl
  · exact h

theorem chuteId_room {k : Nat} {i : ChuteId} (h : chuteId k = some i) : chuteStages i.cls = chuteRoom k := by
  rw [chuteRoom, h]

/-- Chutes after a reset: empty. -/
theorem reset_chutes : ChutesSound (Vector.replicate 256 {}) := by
  intro k
  simp only [Fin.getElem_fin, Vector.getElem_replicate]
  exact chuteSound_iff.2 ⟨Nat.zero_le _, .inl rfl, rfl⟩

end Sys2Proof.Machine
end

