-- ==== Sys2Proof/Laws/Desk.lean ====
section
/-! SUPPORT. The Desk's operations keep at most 32 outstanding requests in each channel (13_curator_desk.md R318) and each window
in canonical form. -/

namespace Sys2Proof.Machine

theorem cellsOk_iff {m : List Host.Cell} : cellsOk m = true ↔ Rising m ∧ ∀ x ∈ m, x.2 ≠ 0 := by
  simp [cellsOk, Rising]

theorem cellsOk_put {a : Nat} {vs : List Byte} {m : List Host.Cell} (h : cellsOk m = true) :
    cellsOk (cellPutList (some 0) a vs m) = true := by
  rw [cellsOk_iff] at *
  refine ⟨cellPutList_rising h.1, fun x hx => ?_⟩
  rcases cellPutList_mem hx with hx | ⟨_, _, hn⟩
  · exact h.2 x hx
  · exact fun e => hn (by rw [e])

theorem channel_iff {c : Channel} : c.sound = true ↔ c.outst.length + c.done.length ≤ 32 ∧ cellsOk c.win = true := by
  unfold Channel.sound
  rw [Bool.and_eq_true, decide_eq_true_iff]
  rfl

/-- A channel with no more requests outstanding and the same window is as sound. -/
theorem channel_le {c d : Channel} (hl : d.outst.length + d.done.length ≤ c.outst.length + c.done.length) (hw : d.win = c.win)
    (h : c.sound = true) : d.sound = true := by
  rw [channel_iff] at *
  exact ⟨Nat.le_trans hl h.1, hw ▸ h.2⟩

theorem push_length {c : Channel} {d : Done} : (c.push d).outst.length + (c.push d).done.length ≤ c.outst.length + c.done.length + 1 := by
  unfold Channel.push
  split
  · omega
  · show c.outst.length + (c.done ++ [d]).length ≤ _
    simp; omega

theorem push_win {c : Channel} {d : Done} : (c.push d).win = c.win := by
  unfold Channel.push
  split <;> rfl

theorem find_filter {l : List Outst} {tag : Word16} {o : Outst} (h : l.find? (fun o => o.req.tag == tag) = some o) :
    (l.filter fun x => x.req.tag != tag).length + 1 ≤ l.length := by
  induction l with
  | nil => simp at h
  | cons y r ih =>
    by_cases e : y.req.tag = tag
    · have := List.length_filter_le (fun x : Outst => x.req.tag != tag) r
      rw [List.filter_cons_of_neg (by simp [e]), List.length_cons]; omega
    · have := ih (by simpa [List.find?_cons, e] using h)
      rw [List.filter_cons_of_pos (by simp [e]), List.length_cons, List.length_cons]; omega

theorem complete_good {pq : List Instr} {ch : Fin 4} {tag : Word16} {r : Resp} {s : State} (h : Good pq s) :
    Good pq (complete ch tag r s) := by
  unfold complete
  split
  · exact h
  · next o e =>
    refine ⟨h.queue, ⟨h.sound.chutes, h.sound.stk, h.sound.evt, fun c => ?_⟩⟩
    show (upd s.desk.chans ch _)[c].sound = true
    rw [upd_get]
    split
    · next ec =>
      subst ec
      refine channel_le (c := s.desk.chans[ch]) ?_ (push_win.trans rfl) (h.sound.desk ch)
      refine Nat.le_trans push_length ?_
      have := find_filter e
      simp only [State.chan] at this
      dsimp only
      omega
    · exact h.sound.desk c

theorem setPhase_good {pq : List Instr} {ch : Fin 4} {tag : Word16} {p : Phase} {s : State} (h : Good pq s) :
    Good pq (setPhase ch tag p s) :=
  onChan_good (fun c hc => channel_le (c := c) (by simp) rfl hc) h

theorem doorbell_good {pq : List Instr} {ch : Fin 4} {v : Word16} {s : State} (h : Good pq s) : Good pq (doorbell ch v s) :=
  onChan_good (fun c hc => by split <;> exact hc) h

theorem channelReset_good {pq : List Instr} {ch : Fin 4} {s : State} (h : Good pq s) : Good pq (channelReset ch s) :=
  onChan_good (fun c hc => channel_le (c := c) (by
    have := List.length_filter_le (fun o : Outst => o.phase == .started) c.outst
    simp only [List.length_nil]; omega) rfl hc) h

theorem channelResetComplete_good {pq : List Instr} {ch : Fin 4} {s : State} (h : Good pq s) : Good pq (channelResetComplete ch s) := by
  unfold channelResetComplete
  split
  · refine onChan_good (fun c hc => channel_le (c := c) (by simp) rfl hc) ?_
    exact ⟨h.queue, ⟨h.sound.chutes, h.sound.stk, h.sound.evt, h.sound.desk⟩⟩
  · exact h

/-- Acceptance while the channel has fewer than 32 requests outstanding. -/
theorem acceptRequest_good {pq : List Instr} {op : Nat} {bad : Bool} {q : Request} {s : State} (room : (s.chan q.ch).outstanding < 32)
    (h : Good pq s) : Good pq (acceptRequest op bad q s) := by
  have one {f : Channel → Channel} (hf : (f (s.chan q.ch)).sound = true) : Good pq (onChan q.ch f s) := by
    refine ⟨h.queue, ⟨h.sound.chutes, h.sound.stk, h.sound.evt, fun c => ?_⟩⟩
    show (upd s.desk.chans q.ch f)[c].sound = true
    rw [upd_get]
    split
    · next e => exact e ▸ hf
    · exact h.sound.desk c
  have hc := channel_iff.1 (h.sound.desk q.ch)
  have hr : s.desk.chans[q.ch].outst.length + s.desk.chans[q.ch].done.length < 32 := room
  have desk {t : State} {n : Nat} (ht : Good pq t) : Good pq { t with desk := { t.desk with nextOrder := n } } :=
    ⟨ht.queue, ⟨ht.sound.chutes, ht.sound.stk, ht.sound.evt, ht.sound.desk⟩⟩
  unfold acceptRequest
  extract_lets c o isBad put own
  have hput (r : Resp) : Good pq (put r) := by
    refine desk (one ?_)
    rw [channel_iff]
    refine ⟨Nat.le_trans push_length ?_, by rw [push_win]; exact hc.2⟩
    show s.desk.chans[q.ch].outst.length + s.desk.chans[q.ch].done.length + 1 ≤ 32
    omega
  have hown (t : State) (ht : Good pq t) : Good pq (own t) := by
    show Good pq (match q.slot with | some sl => _ | none => t)
    split
    · exact onChan_good (fun c hk => hk) ht
    · exact ht
  split
  · exact hput _
  · split
    · exact hown _ (hput _)
    · split
      · exact hown _ (hput _)
      · split
        · exact hput _
        · refine hown _ (desk (one ?_))
          rw [channel_iff]
          refine ⟨?_, hc.2⟩
          show (s.desk.chans[q.ch].outst ++ _).length + s.desk.chans[q.ch].done.length ≤ 32
          simp only [List.length_append, List.length_cons, List.length_nil]
          omega

theorem accepting_room {s : State} {ch : Fin 4} (h : accepting s ch = true) : (s.chan ch).outstanding < 32 := by
  simp [accepting] at h
  exact h.2

theorem admit_good {pq : List Instr} {op : Nat} {q : Request} {s : State} (h : Good pq s) : Good pq (admitRequest op q s) := by
  unfold admitRequest
  split
  · split
    · exact h
    · split
      · next e => exact acceptRequest_good (accepting_room (by simp at e; exact e.1)) h
      · exact h
  · split
    · next e => exact acceptRequest_good (accepting_room (by simp at e; exact e.1)) h
    · exact h

theorem acceptNext_good {pq : List Instr} {ch : Fin 4} {s : State} (h : Good pq s) : Good pq (acceptNext ch s) := by
  unfold acceptNext
  split
  · next e =>
    extract_lets c en
    have e := List.find?_some e
    have hr := accepting_room (s := s) (ch := ch) (by simp [requestWaits] at e; exact e.1.1)
    have hd : Good pq { s with desk := { s.desk with served := ch } } :=
      ⟨h.queue, ⟨h.sound.chutes, h.sound.stk, h.sound.evt, h.sound.desk⟩⟩
    refine acceptRequest_good ?_ (onChan_good (fun _ hk => hk) hd)
    show (upd s.desk.chans ch _)[ch].outstanding < 32
    rw [upd_get, if_pos rfl]
    exact hr
  · exact h

theorem writeResponse_good {pq : List Instr} {ch : Fin 4} {s : State} (h : Good pq s) : Good pq (writeResponse ch s) := by
  unfold writeResponse
  extract_lets c
  split
  · exact h
  · next d rest e =>
    split
    · extract_lets w1 w2 s1
      have hs : Good pq s1 := by
        refine ⟨h.queue, ⟨h.sound.chutes, h.sound.stk, h.sound.evt, fun k => ?_⟩⟩
        show (upd s.desk.chans ch _)[k].sound = true
        rw [upd_get]
        split
        · next ek =>
          subst ek
          have hc := channel_iff.1 (h.sound.desk ch)
          have e' : s.desk.chans[ch].done = d :: rest := e
          rw [e'] at hc
          simp only [List.length_cons] at hc
          rw [channel_iff]
          refine ⟨by dsimp only; omega, ?_⟩
          have h1 : cellsOk w1 = true := cellsOk_put hc.2
          show cellsOk w2 = true
          unfold w2
          split
          · exact cellsOk_put h1
          · exact h1
        · exact h.sound.desk k
      clear_value s1
      split
      · exact raise_good hs
      · exact hs
    · exact h

/-- A Desk command whose request runs now: its own effect, then its answer. -/
theorem deskRun_runs {op : Nat} {f : Request → State → State × Reply} {q : Request} {s : State} (h : runs op q s = true) :
    deskRun op f q s = match (f q s).2 with
      | .done r => complete q.ch q.tag r (f q s).1
      | .later => setPhase q.ch q.tag .started (f q s).1 := by
  unfold runs at h
  split at h
  · next o c ho hc =>
    simp only [Bool.and_eq_true, beq_iff_eq, bne_iff_ne, ne_eq, decide_eq_true_iff, Option.isNone_iff_eq_none] at h
    obtain ⟨⟨⟨⟨h1, h2⟩, h3⟩, h4⟩, h5⟩ := h
    have ha : admitRequest op q s = s := by simp [admitRequest, ho, h1, h3]
    unfold deskRun
    simp only [ha, ho, hc, h1, h4]
    have h3 : (o.phase != .started) = true := by simp [h3]
    simp only [h3, decide_true, Bool.and_self, if_true, runNow, h2, h5]
    all_goals cases (f q s).2 <;> rfl
  · cases h

theorem deskRun_done {op : Nat} {f : Request → State → State × Reply} {q : Request} {s u : State} {r : Resp}
    (h : runs op q s = true) (e : f q s = (u, .done r)) : deskRun op f q s = complete q.ch q.tag r u := by
  rw [deskRun_runs h, e]

theorem deskRun_later {op : Nat} {f : Request → State → State × Reply} {q : Request} {s u : State}
    (h : runs op q s = true) (e : f q s = (u, .later)) : deskRun op f q s = setPhase q.ch q.tag .started u := by
  rw [deskRun_runs h, e]

/-- A Desk command whose request has its turn and names an object that the command does not take (R332). -/
theorem deskRun_noObject {op : Nat} {f : Request → State → State × Reply} {q : Request} {s : State} (h : hasTurn op q s = true)
    (e : ∀ c, cmdInfo op = some c → objOk s c q = false) :
    deskRun op f q s = complete q.ch q.tag { status := stBadParam } s := by
  unfold hasTurn at h
  split at h
  · next o c ho hc =>
    simp only [Bool.and_eq_true, beq_iff_eq, bne_iff_ne, ne_eq, decide_eq_true_iff] at h
    obtain ⟨⟨⟨h1, h2⟩, h3⟩, h4⟩ := h
    have ha : admitRequest op q s = s := by simp [admitRequest, ho, h1, h3]
    unfold deskRun
    simp only [ha, ho, hc, h1, h4]
    have h3 : (o.phase != .started) = true := by simp [h3]
    simp only [h3, decide_true, Bool.and_self, if_true, runNow, precheck, h2, e c hc, Bool.not_false]
    rfl
  · cases h

/-- The Desk after a reset: nothing outstanding, windows of zeros. -/
theorem reset_desk : Desk.Sound {} := by
  intro ch
  show ((Vector.replicate 4 ({} : Channel))[ch]).sound = true
  simp only [Fin.getElem_fin, Vector.getElem_replicate]
  rfl

end Sys2Proof.Machine
end

