-- ==== Sys2Proof/Laws/Frame.lean ====
section
/-! SUPPORT. A view of the state (a field, or the state with some fields forgotten) is as it was after the named operations that
do not touch it. A frame `(t with some fields of s) = s` follows from the view that forgets those fields. -/

namespace Sys2Proof.Machine

/-- The view `e` is the same in both states. -/
def Same {α : Type} (e : State → α) (s t : State) : Prop := e t = e s

theorem Same.refl {α : Type} {e : State → α} {s : State} : Same e s s := rfl

theorem Same.trans {α : Type} {e : State → α} {s t u : State} (h : Same e s t) (g : Same e t u) : Same e s u := Eq.trans g h

theorem Same.ite {α : Type} {e : State → α} {s t u : State} {c : Prop} [Decidable c] (ht : c → Same e s t) (hu : ¬c → Same e s u) :
    Same e s (if c then t else u) := by
  by_cases h : c
  · rw [if_pos h]; exact ht h
  · rw [if_neg h]; exact hu h

theorem Same.foldl {α β : Type} {e : State → α} {s t : State} {f : State → β → State} {l : List β} (hf : ∀ u x, Same e s u → Same e s (f u x))
    (h : Same e s t) : Same e s (l.foldl f t) := by
  induction l generalizing t with
  | nil => exact h
  | cons x r ih => exact ih (hf t x h)

theorem Same.onCar {α : Type} {e : State → α} {s t : State} {c : Fin 2} {f : Carrier → Carrier} (h : Same e s t)
    (he : ∀ x, e (Machine.onCar c f x) = e x := by intros; rfl) : Same e s (Machine.onCar c f t) := (he t).trans h

theorem Same.onConv {α : Type} {e : State → α} {s t : State} {c : Fin 2} {k : Fin 8} {f : Conv → Conv} (h : Same e s t)
    (he : ∀ x, e (Machine.onConv c k f x) = e x := by intros; rfl) : Same e s (Machine.onConv c k f t) := (he t).trans h

theorem Same.onRx {α : Type} {e : State → α} {s t : State} {c : Fin 2} {f : RxCarrier → RxCarrier} (h : Same e s t)
    (he : ∀ x, e (Machine.onRx c f x) = e x := by intros; rfl) : Same e s (Machine.onRx c f t) := (he t).trans h

theorem Same.onRxg {α : Type} {e : State → α} {s t : State} {c : Fin 2} {g : Fin 16} {f : RxGroup → RxGroup} (h : Same e s t)
    (he : ∀ x, e (Machine.onRxg c g f x) = e x := by intros; rfl) : Same e s (Machine.onRxg c g f t) := (he t).trans h

theorem Same.onSub {α : Type} {e : State → α} {s t : State} {c : Fin 2} {k : Fin 16} {f : RxSub → RxSub} (h : Same e s t)
    (he : ∀ x, e (Machine.onSub c k f x) = e x := by intros; rfl) : Same e s (Machine.onSub c k f t) := (he t).trans h

theorem Same.onTx {α : Type} {e : State → α} {s t : State} {c : Fin 2} {f : TxCarrier → TxCarrier} (h : Same e s t)
    (he : ∀ x, e (Machine.onTx c f x) = e x := by intros; rfl) : Same e s (Machine.onTx c f t) := (he t).trans h

theorem Same.onTxg {α : Type} {e : State → α} {s t : State} {c : Fin 2} {g : Fin 16} {f : TxGroup → TxGroup} (h : Same e s t)
    (he : ∀ x, e (Machine.onTxg c g f x) = e x := by intros; rfl) : Same e s (Machine.onTxg c g f t) := (he t).trans h

theorem Same.onIl {α : Type} {e : State → α} {s t : State} {c : Fin 2} {f : Interloan → Interloan} (h : Same e s t)
    (he : ∀ x, e (Machine.onIl c f x) = e x := by intros; rfl) : Same e s (Machine.onIl c f t) := (he t).trans h

theorem Same.onFol {α : Type} {e : State → α} {s t : State} {c : Fin 2} {g : Fin 16} {f : FolioGroup → FolioGroup} (h : Same e s t)
    (he : ∀ x, e (Machine.onFol c g f x) = e x := by intros; rfl) : Same e s (Machine.onFol c g f t) := (he t).trans h

theorem Same.onCry {α : Type} {e : State → α} {s t : State} {c : Fin 2} {g : Fin 16} {f : Crypt → Crypt} (h : Same e s t)
    (he : ∀ x, e (Machine.onCry c g f x) = e x := by intros; rfl) : Same e s (Machine.onCry c g f t) := (he t).trans h

theorem Same.onLink {α : Type} {e : State → α} {s t : State} {c : Fin 2} {g : Fin 16} {f : Link → Link} (h : Same e s t)
    (he : ∀ x, e (Machine.onLink c g f x) = e x := by intros; rfl) : Same e s (Machine.onLink c g f t) := (he t).trans h

theorem Same.onTime {α : Type} {e : State → α} {s t : State} {f : TimeState → TimeState} (h : Same e s t)
    (he : ∀ x, e (Machine.onTime f x) = e x := by intros; rfl) : Same e s (Machine.onTime f t) := (he t).trans h

theorem Same.onBond {α : Type} {e : State → α} {s t : State} {b : Fin 48} {f : Framer → Framer} (h : Same e s t)
    (he : ∀ x, e (Machine.onBond b f x) = e x := by intros; rfl) : Same e s (Machine.onBond b f t) := (he t).trans h

theorem Same.onOdum {α : Type} {e : State → α} {s t : State} {c : Fin 2} {g : Fin 16} {f : Framer → Framer} (h : Same e s t)
    (he : ∀ x, e (Machine.onOdum c g f x) = e x := by intros; rfl) : Same e s (Machine.onOdum c g f t) := (he t).trans h

theorem Same.onLane {α : Type} {e : State → α} {s t : State} {l : Fin 48} {f : Lane → Lane} (h : Same e s t)
    (he : ∀ x, e (Machine.onLane l f x) = e x := by intros; rfl) : Same e s (Machine.onLane l f t) := (he t).trans h

theorem Same.onProt {α : Type} {e : State → α} {s t : State} {g : Fin 16} {f : Prot → Prot} (h : Same e s t)
    (he : ∀ x, e (Machine.onProt g f x) = e x := by intros; rfl) : Same e s (Machine.onProt g f t) := (he t).trans h

theorem Same.onDec {α : Type} {e : State → α} {s t : State} {f : Decode → Decode} (h : Same e s t)
    (he : ∀ x, e (Machine.onDec f x) = e x := by intros; rfl) : Same e s (Machine.onDec f t) := (he t).trans h

theorem Same.onStk {α : Type} {e : State → α} {s t : State} {f : Stacks → Stacks} (h : Same e s t)
    (he : ∀ x, e (Machine.onStk f x) = e x := by intros; rfl) : Same e s (Machine.onStk f t) := (he t).trans h

theorem Same.onMap {α : Type} {e : State → α} {s t : State} {f : Mapping → Mapping} (h : Same e s t)
    (he : ∀ x, e (Machine.onMap f x) = e x := by intros; rfl) : Same e s (Machine.onMap f t) := (he t).trans h

theorem Same.onCen {α : Type} {e : State → α} {s t : State} {f : Census → Census} (h : Same e s t)
    (he : ∀ x, e (Machine.onCen f x) = e x := by intros; rfl) : Same e s (Machine.onCen f t) := (he t).trans h

theorem Same.onPwr {α : Type} {e : State → α} {s t : State} {f : Power → Power} (h : Same e s t)
    (he : ∀ x, e (Machine.onPwr f x) = e x := by intros; rfl) : Same e s (Machine.onPwr f t) := (he t).trans h

theorem Same.onHouse {α : Type} {e : State → α} {s t : State} {f : House → House} (h : Same e s t)
    (he : ∀ x, e (Machine.onHouse f x) = e x := by intros; rfl) : Same e s (Machine.onHouse f t) := (he t).trans h

theorem Same.onBoot {α : Type} {e : State → α} {s t : State} {f : Boot → Boot} (h : Same e s t)
    (he : ∀ x, e (Machine.onBoot f x) = e x := by intros; rfl) : Same e s (Machine.onBoot f t) := (he t).trans h

theorem Same.onCat {α : Type} {e : State → α} {s t : State} {f : Catalogue → Catalogue} (h : Same e s t)
    (he : ∀ x, e (Machine.onCat f x) = e x := by intros; rfl) : Same e s (Machine.onCat f t) := (he t).trans h

theorem Same.onSafe {α : Type} {e : State → α} {s t : State} {c : Fin 2} {f : SafeCarrier → SafeCarrier} (h : Same e s t)
    (he : ∀ x, e (Machine.onSafe c f x) = e x := by intros; rfl) : Same e s (Machine.onSafe c f t) := (he t).trans h

theorem Same.onMate {α : Type} {e : State → α} {s t : State} {f : Mate → Mate} (h : Same e s t)
    (he : ∀ x, e (Machine.onMate f x) = e x := by intros; rfl) : Same e s (Machine.onMate f t) := (he t).trans h

theorem Same.onChan {α : Type} {e : State → α} {s t : State} {c : Fin 4} {f : Channel → Channel} (h : Same e s t)
    (he : ∀ x, e (Machine.onChan c f x) = e x := by intros; rfl) : Same e s (Machine.onChan c f t) := (he t).trans h

theorem Same.onChute {α : Type} {e : State → α} {s t : State} {k : Fin 256} {f : Chute → Chute} (h : Same e s t)
    (he : ∀ x, e (Machine.onChute k f x) = e x := by intros; rfl) : Same e s (Machine.onChute k f t) := (he t).trans h

theorem Same.raise {α : Type} {e : State → α} {s t : State} {n ob : Nat} {a : EvtArg} (h : Same e s t)
    (he : ∀ x, e (Machine.raise n ob a x) = e x := by intros; rfl) : Same e s (Machine.raise n ob a t) := (he t).trans h

theorem Same.raiseIf {α : Type} {e : State → α} {s t : State} {b : Bool} {n ob : Nat} {a : EvtArg} (h : Same e s t)
    (he : ∀ x, e (Machine.raiseIf b n ob a x) = e x := by intros; rfl) : Same e s (Machine.raiseIf b n ob a t) := (he t).trans h

theorem Same.raiseAon {α : Type} {e : State → α} {s t : State} {n ob : Nat} {a : EvtArg} (h : Same e s t)
    (he : ∀ x, e (Machine.raiseAon n ob a x) = e x := by intros; rfl) : Same e s (Machine.raiseAon n ob a t) := (he t).trans h

theorem Same.raise0 {α : Type} {e : State → α} {s t : State} {n ob : Nat} (h : Same e s t)
    (he : ∀ x, e (Machine.raise0 n ob x) = e x := by intros; rfl) : Same e s (Machine.raise0 n ob t) := (he t).trans h

theorem Same.catChange {α : Type} {e : State → α} {s t : State} {typ idx : Nat} {r : List Byte} (h : Same e s t)
    (he : ∀ x, e (Machine.catChange typ idx r x) = e x := by intros; rfl) : Same e s (Machine.catChange typ idx r t) := (he t).trans h

theorem Same.beginTransition {α : Type} {e : State → α} {s t : State} {fn : Fn} {op : Nat} {q : Request} (h : Same e s t)
    (he : ∀ x, e (Machine.beginTransition fn op q x) = e x := by intros; rfl) : Same e s (Machine.beginTransition fn op q t) := (he t).trans h

theorem Same.beginInternal {α : Type} {e : State → α} {s t : State} {fn : Fn} (h : Same e s t)
    (he : ∀ x, e (Machine.beginInternal fn x) = e x := by intros; rfl) : Same e s (Machine.beginInternal fn t) := (he t).trans h

/-- A request's completion, its start and the end of a transition change the Desk alone. -/
theorem complete_changes_desk {ch : Fin 4} {tag : Word16} {r : Resp} {s : State} : ∃ d, complete ch tag r s = { s with desk := d } := by
  unfold complete
  split
  · exact ⟨s.desk, rfl⟩
  · exact ⟨_, rfl⟩

theorem endTransition_changes_desk {fn : Fn} {r : Resp} {s : State} : ∃ d, endTransition fn r s = { s with desk := d } := by
  unfold endTransition
  dsimp only
  generalize s.desk.transitions.filter (fun t => t.fn == fn) = l
  have : ∀ u : State, (∃ d, u = { s with desk := d }) →
      ∃ d, l.foldl (fun s t => match t.by_ with | some (ch, tag) => complete ch tag r s | none => s) u = { s with desk := d } := by
    induction l with
    | nil => exact fun u h => h
    | cons x r ih =>
      intro u ⟨d, h⟩
      refine ih _ ?_
      subst h
      dsimp only
      split
      · obtain ⟨e, he⟩ := complete_changes_desk (s := { s with desk := d })
        exact ⟨e, he⟩
      · exact ⟨d, rfl⟩
  exact this _ ⟨_, rfl⟩

theorem Same.complete {α : Type} {e : State → α} {s t : State} {ch : Fin 4} {tag : Word16} {r : Resp} (h : Same e s t)
    (he : ∀ (x : State) (d : Desk), e { x with desk := d } = e x := by intros; rfl) : Same e s (Machine.complete ch tag r t) := by
  obtain ⟨d, hd⟩ := complete_changes_desk (ch := ch) (tag := tag) (r := r) (s := t)
  rw [hd]
  exact (he t d).trans h

theorem Same.endTransition {α : Type} {e : State → α} {s t : State} {fn : Fn} {r : Resp} (h : Same e s t)
    (he : ∀ (x : State) (d : Desk), e { x with desk := d } = e x := by intros; rfl) : Same e s (Machine.endTransition fn r t) := by
  obtain ⟨d, hd⟩ := endTransition_changes_desk (fn := fn) (r := r) (s := t)
  rw [hd]
  exact (he t d).trans h

end Sys2Proof.Machine
end

