-- ==== Sys2Proof/Laws/PerInstr.lean ====
section
/-! SUPPORT. The family F of statements made per command, about the command as syntax: a well-formed Desk row carries a request
that an entry can spell (13_curator_desk.md R315, R317), and its opcode is one of chapter 14 (R338 to R362). -/

namespace Sys2Proof.Laws.F

/-- The request that a Desk row carries. -/
def request : Instr → Option Request
  | .deviceInfo q => some q
  | .deviceProvision q => some q
  | .eventLogGet q => some q
  | .censusTake q => some q
  | .censusSet q => some q
  | .censusStatus q => some q
  | .carrierProvision q => some q
  | .carrierEnable q => some q
  | .carrierDisable q => some q
  | .convCalibrate q => some q
  | .convRotationSet q => some q
  | .convSliceRetire q => some q
  | .convStatus q => some q
  | .rxdspSet q => some q
  | .rxdspCdHint q => some q
  | .rxdspReacquire q => some q
  | .rxdspStatus q => some q
  | .bitloadPolicySet q => some q
  | .bitloadTableSet q => some q
  | .bitloadCurveSet q => some q
  | .bitloadStatus q => some q
  | .txdspSet q => some q
  | .txdspPredistSet q => some q
  | .txdspStatus q => some q
  | .decodeSet q => some q
  | .decodeStatus q => some q
  | .decodePoolRemove q => some q
  | .decodePoolRestore q _ => some q
  | .decodeReaderEnable q _ => some q
  | .interloanSet q => some q
  | .interloanScheduleSet q => some q
  | .interloanSend q => some q
  | .interloanRecv q => some q
  | .interloanStatus q => some q
  | .frameStatus q => some q
  | .cryptSet q => some q
  | .cryptPeerSet q => some q
  | .cryptRekey q => some q
  | .cryptStatus q => some q
  | .framerProvision q => some q
  | .framerDeprovision q => some q
  | .framerSet q => some q
  | .framerOhSet q => some q
  | .framerOhGet q => some q
  | .framerMaintSet q => some q
  | .framerStatus q => some q
  | .mapTribAdd q => some q
  | .mapTribRemove q => some q
  | .mapStatus q => some q
  | .switchConnect q => some q
  | .switchDisconnect q => some q
  | .protProvision q => some q
  | .protCommand q => some q
  | .protRealign q => some q
  | .protStatus q => some q
  | .stacksInit q => some q
  | .stacksSet q => some q
  | .stacksRetire q => some q
  | .stacksStatus q => some q
  | .stacksTrackerGet q => some q
  | .stacksTrackerClear q => some q
  | .stacksAccessionGet q => some q
  | .stacksWordRead q => some q
  | .timeProvision q => some q
  | .timeRefTableSet q => some q
  | .timeRefCommand q => some q
  | .timeLoCompSet q => some q
  | .timeLoLearn q => some q
  | .timeSourceSet q => some q
  | .timeSet q => some q
  | .timeAdjust q => some q
  | .timeLinkSet q => some q
  | .timePpsSet q => some q
  | .timeTest q _ => some q
  | .timeStatus q => some q
  | .ptpTcSet q => some q
  | .laneProvision q => some q
  | .laneDeprovision q => some q
  | .laneSet q => some q
  | .laneTestSet q _ => some q
  | .laneLoopbackSet q => some q
  | .laneMateRetrain q => some q
  | .laneStatus q _ => some q
  | .powerDeviceSet q => some q
  | .powerDomainSet q => some q
  | .powerWakeSet q => some q
  | .powerStatus q => some q
  | .monRefSet q => some q
  | .monChannelSet q => some q
  | .monRead q => some q
  | .monStatus q => some q
  | .thermalStatus q => some q
  | .pmbusRailSet q => some q
  | .pmbusStatus q => some q
  | .gpioSet q => some q
  | .gpioGet q _ => some q
  | .secIdentityGet q => some q
  | .secAttest q => some q
  | .secCharterGet q => some q
  | .fwLoad q => some q
  | .fwActivate q => some q
  | .fwCommit q => some q
  | .fwStatus q => some q
  | .catalogueStatus q => some q
  | .catalogueRead q => some q
  | .catalogueReset q => some q
  | .safetyTxenSet q => some q
  | .safetyStatus q => some q
  | .safetyProofTest q _ => some q
  | .mateProvision q => some q
  | .mateCommand q _ => some q
  | .mateStatus q => some q
  | .readingForm _ q => some q
  | _ => none

/-- The opcode that a Desk row stands for; a reading form's is its operand. -/
def opcode : Instr → Option Nat
  | .deviceInfo _ => some 0x0101
  | .deviceProvision _ => some 0x0102
  | .eventLogGet _ => some 0x0D01
  | .censusTake _ => some 0x0D10
  | .censusSet _ => some 0x0D11
  | .censusStatus _ => some 0x0D12
  | .carrierProvision _ => some 0x0201
  | .carrierEnable _ => some 0x0202
  | .carrierDisable _ => some 0x0203
  | .convCalibrate _ => some 0x0210
  | .convRotationSet _ => some 0x0211
  | .convSliceRetire _ => some 0x0212
  | .convStatus _ => some 0x0213
  | .rxdspSet _ => some 0x0301
  | .rxdspCdHint _ => some 0x0302
  | .rxdspReacquire _ => some 0x0303
  | .rxdspStatus _ => some 0x0304
  | .bitloadPolicySet _ => some 0x0401
  | .bitloadTableSet _ => some 0x0402
  | .bitloadCurveSet _ => some 0x0403
  | .bitloadStatus _ => some 0x0404
  | .txdspSet _ => some 0x0410
  | .txdspPredistSet _ => some 0x0411
  | .txdspStatus _ => some 0x0412
  | .decodeSet _ => some 0x0501
  | .decodeStatus _ => some 0x0502
  | .decodePoolRemove _ => some 0x0503
  | .decodePoolRestore _ _ => some 0x0504
  | .decodeReaderEnable _ _ => some 0x0505
  | .interloanSet _ => some 0x0601
  | .interloanScheduleSet _ => some 0x0602
  | .interloanSend _ => some 0x0603
  | .interloanRecv _ => some 0x0604
  | .interloanStatus _ => some 0x0605
  | .frameStatus _ => some 0x0701
  | .cryptSet _ => some 0x0710
  | .cryptPeerSet _ => some 0x0711
  | .cryptRekey _ => some 0x0712
  | .cryptStatus _ => some 0x0713
  | .framerProvision _ => some 0x0801
  | .framerDeprovision _ => some 0x0802
  | .framerSet _ => some 0x0803
  | .framerOhSet _ => some 0x0804
  | .framerOhGet _ => some 0x0805
  | .framerMaintSet _ => some 0x0806
  | .framerStatus _ => some 0x0807
  | .mapTribAdd _ => some 0x0901
  | .mapTribRemove _ => some 0x0902
  | .mapStatus _ => some 0x0903
  | .switchConnect _ => some 0x0910
  | .switchDisconnect _ => some 0x0911
  | .protProvision _ => some 0x0920
  | .protCommand _ => some 0x0921
  | .protRealign _ => some 0x0922
  | .protStatus _ => some 0x0923
  | .stacksInit _ => some 0x0A01
  | .stacksSet _ => some 0x0A02
  | .stacksRetire _ => some 0x0A03
  | .stacksStatus _ => some 0x0A04
  | .stacksTrackerGet _ => some 0x0A05
  | .stacksTrackerClear _ => some 0x0A06
  | .stacksAccessionGet _ => some 0x0A07
  | .stacksWordRead _ => some 0x0A08
  | .timeProvision _ => some 0x0B01
  | .timeRefTableSet _ => some 0x0B02
  | .timeRefCommand _ => some 0x0B03
  | .timeLoCompSet _ => some 0x0B04
  | .timeLoLearn _ => some 0x0B05
  | .timeSourceSet _ => some 0x0B06
  | .timeSet _ => some 0x0B07
  | .timeAdjust _ => some 0x0B08
  | .timeLinkSet _ => some 0x0B09
  | .timePpsSet _ => some 0x0B0A
  | .timeTest _ _ => some 0x0B0B
  | .timeStatus _ => some 0x0B0C
  | .ptpTcSet _ => some 0x0B10
  | .laneProvision _ => some 0x0C01
  | .laneDeprovision _ => some 0x0C02
  | .laneSet _ => some 0x0C03
  | .laneTestSet _ _ => some 0x0C04
  | .laneLoopbackSet _ => some 0x0C05
  | .laneMateRetrain _ => some 0x0C06
  | .laneStatus _ _ => some 0x0C07
  | .powerDeviceSet _ => some 0x0E01
  | .powerDomainSet _ => some 0x0E02
  | .powerWakeSet _ => some 0x0E03
  | .powerStatus _ => some 0x0E04
  | .monRefSet _ => some 0x0F01
  | .monChannelSet _ => some 0x0F02
  | .monRead _ => some 0x0F03
  | .monStatus _ => some 0x0F04
  | .thermalStatus _ => some 0x0F10
  | .pmbusRailSet _ => some 0x0F20
  | .pmbusStatus _ => some 0x0F21
  | .gpioSet _ => some 0x0F30
  | .gpioGet _ _ => some 0x0F31
  | .secIdentityGet _ => some 0x1001
  | .secAttest _ => some 0x1002
  | .secCharterGet _ => some 0x1003
  | .fwLoad _ => some 0x1010
  | .fwActivate _ => some 0x1011
  | .fwCommit _ => some 0x1012
  | .fwStatus _ => some 0x1013
  | .catalogueStatus _ => some 0x1020
  | .catalogueRead _ => some 0x1021
  | .catalogueReset _ => some 0x1022
  | .safetyTxenSet _ => some 0x1101
  | .safetyStatus _ => some 0x1102
  | .safetyProofTest _ _ => some 0x1103
  | .mateProvision _ => some 0x1201
  | .mateCommand _ _ => some 0x1202
  | .mateStatus _ => some 0x1203
  | _ => none

/-- A request whose payload and bulk bytes fit the entry and the slot. -/
def Fits (q : Request) : Prop := q.body.length ≤ 224 ∧ q.bulk.length ≤ 4096 ∧ (q.slot = none → q.bulk = [])

/-- What holds of every command as syntax. -/
def Statement (i : Instr) : Prop :=
  i.wf = true → (∀ q, request i = some q → Fits q) ∧ ∀ op, opcode i = some op → (Machine.cmdInfo op).isSome = true

theorem fits_of_wf {q : Request} (h : q.wf = true) : Fits q := by
  simp only [Request.wf, Bool.and_eq_true, decide_eq_true_iff, Bool.or_eq_true] at h
  refine ⟨h.1.1, h.1.2, fun hs => ?_⟩
  rcases h.2 with e | e
  · rw [hs] at e; cases e
  · exact List.isEmpty_iff.1 e

/-- A Desk row whose operands include a well-formed request. -/
theorem of_desk {i : Instr} {q : Request} {op : Nat} (hq : request i = some q) (ho : opcode i = some op)
    (hc : (Machine.cmdInfo op).isSome = true) (hw : i.wf = true → q.wf = true) : Statement i := fun w =>
  ⟨fun r e => by rw [hq] at e; cases e; exact fits_of_wf (hw w), fun o e => by rw [ho] at e; cases e; exact hc⟩

/-- A row that carries no request. -/
theorem of_event {i : Instr} (hq : request i = none) (ho : opcode i = none) : Statement i := fun _ =>
  ⟨fun _ e => by (rw [hq] at e; cases e), fun _ e => by (rw [ho] at e; cases e)⟩

theorem deviceInfo (q : Request) : Statement (.deviceInfo q) := of_desk rfl rfl (by decide) fun w => w
theorem deviceProvision (q : Request) : Statement (.deviceProvision q) := of_desk rfl rfl (by decide) fun w => w
theorem eventLogGet (q : Request) : Statement (.eventLogGet q) := of_desk rfl rfl (by decide) fun w => w
theorem censusTake (q : Request) : Statement (.censusTake q) := of_desk rfl rfl (by decide) fun w => w
theorem censusSet (q : Request) : Statement (.censusSet q) := of_desk rfl rfl (by decide) fun w => w
theorem censusStatus (q : Request) : Statement (.censusStatus q) := of_desk rfl rfl (by decide) fun w => w
theorem carrierProvision (q : Request) : Statement (.carrierProvision q) := of_desk rfl rfl (by decide) fun w => w
theorem carrierEnable (q : Request) : Statement (.carrierEnable q) := of_desk rfl rfl (by decide) fun w => w
theorem carrierDisable (q : Request) : Statement (.carrierDisable q) := of_desk rfl rfl (by decide) fun w => w
theorem convCalibrate (q : Request) : Statement (.convCalibrate q) := of_desk rfl rfl (by decide) fun w => w
theorem convRotationSet (q : Request) : Statement (.convRotationSet q) := of_desk rfl rfl (by decide) fun w => w
theorem convSliceRetire (q : Request) : Statement (.convSliceRetire q) := of_desk rfl rfl (by decide) fun w => w
theorem convStatus (q : Request) : Statement (.convStatus q) := of_desk rfl rfl (by decide) fun w => w
theorem rxdspSet (q : Request) : Statement (.rxdspSet q) := of_desk rfl rfl (by decide) fun w => w
theorem rxdspCdHint (q : Request) : Statement (.rxdspCdHint q) := of_desk rfl rfl (by decide) fun w => w
theorem rxdspReacquire (q : Request) : Statement (.rxdspReacquire q) := of_desk rfl rfl (by decide) fun w => w
theorem rxdspStatus (q : Request) : Statement (.rxdspStatus q) := of_desk rfl rfl (by decide) fun w => w
theorem bitloadPolicySet (q : Request) : Statement (.bitloadPolicySet q) := of_desk rfl rfl (by decide) fun w => w
theorem bitloadTableSet (q : Request) : Statement (.bitloadTableSet q) := of_desk rfl rfl (by decide) fun w => w
theorem bitloadCurveSet (q : Request) : Statement (.bitloadCurveSet q) := of_desk rfl rfl (by decide) fun w => w
theorem bitloadStatus (q : Request) : Statement (.bitloadStatus q) := of_desk rfl rfl (by decide) fun w => w
theorem txdspSet (q : Request) : Statement (.txdspSet q) := of_desk rfl rfl (by decide) fun w => w
theorem txdspPredistSet (q : Request) : Statement (.txdspPredistSet q) := of_desk rfl rfl (by decide) fun w => w
theorem txdspStatus (q : Request) : Statement (.txdspStatus q) := of_desk rfl rfl (by decide) fun w => w
theorem decodeSet (q : Request) : Statement (.decodeSet q) := of_desk rfl rfl (by decide) fun w => w
theorem decodeStatus (q : Request) : Statement (.decodeStatus q) := of_desk rfl rfl (by decide) fun w => w
theorem decodePoolRemove (q : Request) : Statement (.decodePoolRemove q) := of_desk rfl rfl (by decide) fun w => w
theorem decodePoolRestore (q : Request) {failed} : Statement (.decodePoolRestore q failed) := of_desk rfl rfl (by decide) fun w => w
theorem decodeReaderEnable (q : Request) {failed} : Statement (.decodeReaderEnable q failed) := of_desk rfl rfl (by decide) fun w => w
theorem interloanSet (q : Request) : Statement (.interloanSet q) := of_desk rfl rfl (by decide) fun w => w
theorem interloanScheduleSet (q : Request) : Statement (.interloanScheduleSet q) := of_desk rfl rfl (by decide) fun w => w
theorem interloanSend (q : Request) : Statement (.interloanSend q) := of_desk rfl rfl (by decide) fun w => w
theorem interloanRecv (q : Request) : Statement (.interloanRecv q) := of_desk rfl rfl (by decide) fun w => w
theorem interloanStatus (q : Request) : Statement (.interloanStatus q) := of_desk rfl rfl (by decide) fun w => w
theorem frameStatus (q : Request) : Statement (.frameStatus q) := of_desk rfl rfl (by decide) fun w => w
theorem cryptSet (q : Request) : Statement (.cryptSet q) := of_desk rfl rfl (by decide) fun w => w
theorem cryptPeerSet (q : Request) : Statement (.cryptPeerSet q) := of_desk rfl rfl (by decide) fun w => w
theorem cryptRekey (q : Request) : Statement (.cryptRekey q) := of_desk rfl rfl (by decide) fun w => w
theorem cryptStatus (q : Request) : Statement (.cryptStatus q) := of_desk rfl rfl (by decide) fun w => w
theorem framerProvision (q : Request) : Statement (.framerProvision q) := of_desk rfl rfl (by decide) fun w => w
theorem framerDeprovision (q : Request) : Statement (.framerDeprovision q) := of_desk rfl rfl (by decide) fun w => w
theorem framerSet (q : Request) : Statement (.framerSet q) := of_desk rfl rfl (by decide) fun w => w
theorem framerOhSet (q : Request) : Statement (.framerOhSet q) := of_desk rfl rfl (by decide) fun w => w
theorem framerOhGet (q : Request) : Statement (.framerOhGet q) := of_desk rfl rfl (by decide) fun w => w
theorem framerMaintSet (q : Request) : Statement (.framerMaintSet q) := of_desk rfl rfl (by decide) fun w => w
theorem framerStatus (q : Request) : Statement (.framerStatus q) := of_desk rfl rfl (by decide) fun w => w
theorem mapTribAdd (q : Request) : Statement (.mapTribAdd q) := of_desk rfl rfl (by decide) fun w => w
theorem mapTribRemove (q : Request) : Statement (.mapTribRemove q) := of_desk rfl rfl (by decide) fun w => w
theorem mapStatus (q : Request) : Statement (.mapStatus q) := of_desk rfl rfl (by decide) fun w => w
theorem switchConnect (q : Request) : Statement (.switchConnect q) := of_desk rfl rfl (by decide) fun w => w
theorem switchDisconnect (q : Request) : Statement (.switchDisconnect q) := of_desk rfl rfl (by decide) fun w => w
theorem protProvision (q : Request) : Statement (.protProvision q) := of_desk rfl rfl (by decide) fun w => w
theorem protCommand (q : Request) : Statement (.protCommand q) := of_desk rfl rfl (by decide) fun w => w
theorem protRealign (q : Request) : Statement (.protRealign q) := of_desk rfl rfl (by decide) fun w => w
theorem protStatus (q : Request) : Statement (.protStatus q) := of_desk rfl rfl (by decide) fun w => w
theorem stacksInit (q : Request) : Statement (.stacksInit q) := of_desk rfl rfl (by decide) fun w => w
theorem stacksSet (q : Request) : Statement (.stacksSet q) := of_desk rfl rfl (by decide) fun w => w
theorem stacksRetire (q : Request) : Statement (.stacksRetire q) := of_desk rfl rfl (by decide) fun w => w
theorem stacksStatus (q : Request) : Statement (.stacksStatus q) := of_desk rfl rfl (by decide) fun w => w
theorem stacksTrackerGet (q : Request) : Statement (.stacksTrackerGet q) := of_desk rfl rfl (by decide) fun w => w
theorem stacksTrackerClear (q : Request) : Statement (.stacksTrackerClear q) := of_desk rfl rfl (by decide) fun w => w
theorem stacksAccessionGet (q : Request) : Statement (.stacksAccessionGet q) := of_desk rfl rfl (by decide) fun w => w
theorem stacksWordRead (q : Request) : Statement (.stacksWordRead q) := of_desk rfl rfl (by decide) fun w => w
theorem timeProvision (q : Request) : Statement (.timeProvision q) := of_desk rfl rfl (by decide) fun w => w
theorem timeRefTableSet (q : Request) : Statement (.timeRefTableSet q) := of_desk rfl rfl (by decide) fun w => w
theorem timeRefCommand (q : Request) : Statement (.timeRefCommand q) := of_desk rfl rfl (by decide) fun w => w
theorem timeLoCompSet (q : Request) : Statement (.timeLoCompSet q) := of_desk rfl rfl (by decide) fun w => w
theorem timeLoLearn (q : Request) : Statement (.timeLoLearn q) := of_desk rfl rfl (by decide) fun w => w
theorem timeSourceSet (q : Request) : Statement (.timeSourceSet q) := of_desk rfl rfl (by decide) fun w => w
theorem timeSet (q : Request) : Statement (.timeSet q) := of_desk rfl rfl (by decide) fun w => w
theorem timeAdjust (q : Request) : Statement (.timeAdjust q) := of_desk rfl rfl (by decide) fun w => w
theorem timeLinkSet (q : Request) : Statement (.timeLinkSet q) := of_desk rfl rfl (by decide) fun w => w
theorem timePpsSet (q : Request) : Statement (.timePpsSet q) := of_desk rfl rfl (by decide) fun w => w
theorem timeTest (q : Request) {fault} : Statement (.timeTest q fault) := of_desk rfl rfl (by decide) fun w => w
theorem timeStatus (q : Request) : Statement (.timeStatus q) := of_desk rfl rfl (by decide) fun w => w
theorem ptpTcSet (q : Request) : Statement (.ptpTcSet q) := of_desk rfl rfl (by decide) fun w => w
theorem laneProvision (q : Request) : Statement (.laneProvision q) := of_desk rfl rfl (by decide) fun w => w
theorem laneDeprovision (q : Request) : Statement (.laneDeprovision q) := of_desk rfl rfl (by decide) fun w => w
theorem laneSet (q : Request) : Statement (.laneSet q) := of_desk rfl rfl (by decide) fun w => w
theorem laneTestSet (q : Request) {seen} : Statement (.laneTestSet q seen) := of_desk rfl rfl (by decide) fun w => w
theorem laneLoopbackSet (q : Request) : Statement (.laneLoopbackSet q) := of_desk rfl rfl (by decide) fun w => w
theorem laneMateRetrain (q : Request) : Statement (.laneMateRetrain q) := of_desk rfl rfl (by decide) fun w => w
theorem laneStatus (q : Request) {seen} : Statement (.laneStatus q seen) := of_desk rfl rfl (by decide) fun w => w
theorem powerDeviceSet (q : Request) : Statement (.powerDeviceSet q) := of_desk rfl rfl (by decide) fun w => w
theorem powerDomainSet (q : Request) : Statement (.powerDomainSet q) := of_desk rfl rfl (by decide) fun w => w
theorem powerWakeSet (q : Request) : Statement (.powerWakeSet q) := of_desk rfl rfl (by decide) fun w => w
theorem powerStatus (q : Request) : Statement (.powerStatus q) := of_desk rfl rfl (by decide) fun w => w
theorem monRefSet (q : Request) : Statement (.monRefSet q) := of_desk rfl rfl (by decide) fun w => w
theorem monChannelSet (q : Request) : Statement (.monChannelSet q) := of_desk rfl rfl (by decide) fun w => w
theorem monRead (q : Request) : Statement (.monRead q) := of_desk rfl rfl (by decide) fun w => w
theorem monStatus (q : Request) : Statement (.monStatus q) := of_desk rfl rfl (by decide) fun w => w
theorem thermalStatus (q : Request) : Statement (.thermalStatus q) := of_desk rfl rfl (by decide) fun w => w
theorem pmbusRailSet (q : Request) : Statement (.pmbusRailSet q) := of_desk rfl rfl (by decide) fun w => w
theorem pmbusStatus (q : Request) : Statement (.pmbusStatus q) := of_desk rfl rfl (by decide) fun w => w
theorem gpioSet (q : Request) : Statement (.gpioSet q) := of_desk rfl rfl (by decide) fun w => w
theorem gpioGet (q : Request) {pins} : Statement (.gpioGet q pins) := of_desk rfl rfl (by decide) fun w => w
theorem secIdentityGet (q : Request) : Statement (.secIdentityGet q) := of_desk rfl rfl (by decide) fun w => w
theorem secAttest (q : Request) : Statement (.secAttest q) := of_desk rfl rfl (by decide) fun w => w
theorem secCharterGet (q : Request) : Statement (.secCharterGet q) := of_desk rfl rfl (by decide) fun w => w
theorem fwLoad (q : Request) : Statement (.fwLoad q) := of_desk rfl rfl (by decide) fun w => w
theorem fwActivate (q : Request) : Statement (.fwActivate q) := of_desk rfl rfl (by decide) fun w => w
theorem fwCommit (q : Request) : Statement (.fwCommit q) := of_desk rfl rfl (by decide) fun w => w
theorem fwStatus (q : Request) : Statement (.fwStatus q) := of_desk rfl rfl (by decide) fun w => w
theorem catalogueStatus (q : Request) : Statement (.catalogueStatus q) := of_desk rfl rfl (by decide) fun w => w
theorem catalogueRead (q : Request) : Statement (.catalogueRead q) := of_desk rfl rfl (by decide) fun w => w
theorem catalogueReset (q : Request) : Statement (.catalogueReset q) := of_desk rfl rfl (by decide) fun w => w
theorem safetyTxenSet (q : Request) : Statement (.safetyTxenSet q) := of_desk rfl rfl (by decide) fun w => w
theorem safetyStatus (q : Request) : Statement (.safetyStatus q) := of_desk rfl rfl (by decide) fun w => w
theorem safetyProofTest (q : Request) {failed} : Statement (.safetyProofTest q failed) := of_desk rfl rfl (by decide) fun w => w
theorem mateProvision (q : Request) : Statement (.mateProvision q) := of_desk rfl rfl (by decide) fun w => w
theorem mateCommand (q : Request) {mateDenies} : Statement (.mateCommand q mateDenies) := of_desk rfl rfl (by decide) fun w => w
theorem mateStatus (q : Request) : Statement (.mateStatus q) := of_desk rfl rfl (by decide) fun w => w
theorem readingForm (op : Nat) (q : Request) : Statement (.readingForm op q) := fun w =>
  ⟨fun r e => by cases e; exact fits_of_wf (by simp [Instr.wf] at w; exact w.2), fun o e => by cases e⟩
theorem deskReqTailWrite {p} {ch} {v} : Statement (.deskReqTailWrite p ch v) := of_event rfl rfl
theorem requestAccept {ch} : Statement (.requestAccept ch) := of_event rfl rfl
theorem holdRelease {ch} {tag} {x} : Statement (.holdRelease ch tag x) := of_event rfl rfl
theorem holdLimitExpiry {ch} {tag} : Statement (.holdLimitExpiry ch tag) := of_event rfl rfl
theorem functionReplyTimeout {ch} {tag} : Statement (.functionReplyTimeout ch tag) := of_event rfl rfl
theorem responseWrite {ch} : Statement (.responseWrite ch) := of_event rfl rfl
theorem deskRspHeadWrite {p} {ch} {v} : Statement (.deskRspHeadWrite p ch v) := of_event rfl rfl
theorem deskChReset {p} {ch} {v} : Statement (.deskChReset p ch v) := of_event rfl rfl
theorem channelResetComplete {ch} : Statement (.channelResetComplete ch) := of_event rfl rfl
theorem firmwareRestartReady : Statement (.firmwareRestartReady) := of_event rfl rfl
theorem watchdogRestart : Statement (.watchdogRestart) := of_event rfl rfl
theorem trialEnd : Statement (.trialEnd) := of_event rfl rfl
theorem trialFallback : Statement (.trialFallback) := of_event rfl rfl
theorem registerWrite {p} {w} {v} : Statement (.registerWrite p w v) := of_event rfl rfl
theorem evtStatusWrite {p} {g} {v} {occ} : Statement (.evtStatusWrite p g v occ) := of_event rfl rfl
theorem evtEnWrite {p} {g} {v} : Statement (.evtEnWrite p g v) := of_event rfl rfl
theorem evtForceWrite {p} {g} {v} : Statement (.evtForceWrite p g v) := of_event rfl rfl
theorem msixUnmask {w} : Statement (.msixUnmask w) := of_event rfl rfl
theorem eventOccurrence {n} {ob} {arg} : Statement (.eventOccurrence n ob arg) := of_event rfl rfl
theorem logRecordTake : Statement (.logRecordTake) := of_event rfl rfl
theorem censusTakeRegister {p} : Statement (.censusTakeRegister p) := of_event rfl rfl
theorem censusHoldWrite {p} {b} : Statement (.censusHoldWrite p b) := of_event rfl rfl
theorem censusPeriodicInstant : Statement (.censusPeriodicInstant) := of_event rfl rfl
theorem censusIslandLatch {k} : Statement (.censusIslandLatch k) := of_event rfl rfl
theorem chuteMarkAbsorb {k} : Statement (.chuteMarkAbsorb k) := of_event rfl rfl
theorem censusWriteComplete : Statement (.censusWriteComplete) := of_event rfl rfl
theorem pmSecondClose {fid} {b} {rs} : Statement (.pmSecondClose fid b rs) := of_event rfl rfl
theorem pmSecondDecide {fid} : Statement (.pmSecondDecide fid) := of_event rfl rfl
theorem pmBinBoundary {day} : Statement (.pmBinBoundary day) := of_event rfl rfl
theorem chuteWrite {k} {data} {errs} {endMark} {poison} : Statement (.chuteWrite k data errs endMark poison) := of_event rfl rfl
theorem chuteItemRest {k} : Statement (.chuteItemRest k) := of_event rfl rfl
theorem chuteRead {k} : Statement (.chuteRead k) := of_event rfl rfl
theorem chuteStall {k} : Statement (.chuteStall k) := of_event rfl rfl
theorem convTempUpdate {c} : Statement (.convTempUpdate c) := of_event rfl rfl
theorem measurementRunEnd {c} {k} {sl} {r} : Statement (.measurementRunEnd c k sl r) := of_event rfl rfl
theorem calibrationGroupEnd {c} : Statement (.calibrationGroupEnd c) := of_event rfl rfl
theorem foregroundCalComplete {c} : Statement (.foregroundCalComplete c) := of_event rfl rfl
theorem shadowAgree {c} {k} {sel} : Statement (.shadowAgree c k sel) := of_event rfl rfl
theorem shadowTimeout {c} {k} : Statement (.shadowTimeout c k) := of_event rfl rfl
theorem sliceMeasurementEnd {c} {k} : Statement (.sliceMeasurementEnd c k) := of_event rfl rfl
theorem rotationGapEnd {c} {k} : Statement (.rotationGapEnd c k) := of_event rfl rfl
theorem faultWindowEnd {c} {k} {ts} : Statement (.faultWindowEnd c k ts) := of_event rfl rfl
theorem emergencyAlignComplete {c} {k} {pos} {sel} : Statement (.emergencyAlignComplete c k pos sel) := of_event rfl rfl
theorem folioArrival {c} {g} {sub} {pilots} {ys} : Statement (.folioArrival c g sub pilots ys) := of_event rfl rfl
theorem losDeclare {c} : Statement (.losDeclare c) := of_event rfl rfl
theorem losClear {c} : Statement (.losClear c) := of_event rfl rfl
theorem frontEndDone {c} {x} {y} : Statement (.frontEndDone c x y) := of_event rfl rfl
theorem cdSearchEnd {c} {coarse} {fine} : Statement (.cdSearchEnd c coarse fine) := of_event rfl rfl
theorem clockLock {c} {g} {off} : Statement (.clockLock c g off) := of_event rfl rfl
theorem clockLoss {c} {g} : Statement (.clockLoss c g) := of_event rfl rfl
theorem acquisitionTimeout {c} {g} : Statement (.acquisitionTimeout c g) := of_event rfl rfl
theorem freqAcquired {c} {g} {off} : Statement (.freqAcquired c g off) := of_event rfl rfl
theorem freqLoss {c} {g} {off} : Statement (.freqLoss c g off) := of_event rfl rfl
theorem trainingFound {c} {g} : Statement (.trainingFound c g) := of_event rfl rfl
theorem subcarrierLocked {c} {k} : Statement (.subcarrierLocked c k) := of_event rfl rfl
theorem subcarrierAcqTimeout {c} {k} : Statement (.subcarrierAcqTimeout c k) := of_event rfl rfl
theorem rxVolumeBoundary {c} {g} {v} : Statement (.rxVolumeBoundary c g v) := of_event rfl rfl
theorem qualityWindowEnd {c} {g} {ms} : Statement (.qualityWindowEnd c g ms) := of_event rfl rfl
theorem loadingFieldReceived {c} {g} {bs} : Statement (.loadingFieldReceived c g bs) := of_event rfl rfl
theorem loadingCandidateReady {c} {g} : Statement (.loadingCandidateReady c g) := of_event rfl rfl
theorem loadingIntervalEnd {c} {g} : Statement (.loadingIntervalEnd c g) := of_event rfl rfl
theorem txFolioBoundary {c} {g} {sub} {src} : Statement (.txFolioBoundary c g sub src) := of_event rfl rfl
theorem proposalTimeout {c} {g} : Statement (.proposalTimeout c g) := of_event rfl rfl
theorem txVolumeBoundary {c} {g} {clips} {samples} : Statement (.txVolumeBoundary c g clips samples) := of_event rfl rfl
theorem parcelAssembled {c} {g} : Statement (.parcelAssembled c g) := of_event rfl rfl
theorem readerIdle {p} {r} : Statement (.readerIdle p r) := of_event rfl rfl
theorem decodeIterationEnd {p} {r} {fault} : Statement (.decodeIterationEnd p r fault) := of_event rfl rfl
theorem reserveFetchComplete {p} {r} : Statement (.reserveFetchComplete p r) := of_event rfl rfl
theorem reserveEntryExpiry {c} {g} {seq} : Statement (.reserveEntryExpiry c g seq) := of_event rfl rfl
theorem codewordDeadline {c} {g} {seq} : Statement (.codewordDeadline c g seq) := of_event rfl rfl
theorem resultWrite : Statement (.resultWrite) := of_event rfl rfl
theorem folioRelease {c} {g} : Statement (.folioRelease c g) := of_event rfl rfl
theorem poolDrained {p} : Statement (.poolDrained p) := of_event rfl rfl
theorem slotBoundaryTx {c} {x} : Statement (.slotBoundaryTx c x) := of_event rfl rfl
theorem joinWindowStart {c} : Statement (.joinWindowStart c) := of_event rfl rfl
theorem toneDetection {c} {t} {start} {ms} {later} : Statement (.toneDetection c t start ms later) := of_event rfl rfl
theorem preambleEnd {c} {t} {a1} {a16} {bad} : Statement (.preambleEnd c t a1 a16 bad) := of_event rfl rfl
theorem burstTrainingEnd {c} {t} {h1x} {h1y} {h2x} {h2y} {bad} : Statement (.burstTrainingEnd c t h1x h1y h2x h2y bad) := of_event rfl rfl
theorem headerCrcReady {c} {t} {bs} {bad} {stamp} : Statement (.headerCrcReady c t bs bad stamp) := of_event rfl rfl
theorem payloadCrcReady {c} {t} {bs} {bad} {evm} : Statement (.payloadCrcReady c t bs bad evm) := of_event rfl rfl
theorem leafTimeout {c} {l} : Statement (.leafTimeout c l) := of_event rfl rfl
theorem noiseWindowEnd {c} {t} {x} {y} : Statement (.noiseWindowEnd c t x y) := of_event rfl rfl
theorem folioHeaderReceived {c} {g} {h} : Statement (.folioHeaderReceived c g h) := of_event rfl rfl
theorem keyFieldReceived {c} {g} {kf} : Statement (.keyFieldReceived c g kf) := of_event rfl rfl
theorem kexMessageReceived {c} {g} : Statement (.kexMessageReceived c g) := of_event rfl rfl
theorem kexTimeout {c} {g} : Statement (.kexTimeout c g) := of_event rfl rfl
theorem kexRetry {c} {g} : Statement (.kexRetry c g) := of_event rfl rfl
theorem rekeyIntervalEnd {c} {g} : Statement (.rekeyIntervalEnd c g) := of_event rfl rfl
theorem alignmentPrediction {b} {k} {rs} : Statement (.alignmentPrediction b k rs) := of_event rfl rfl
theorem alignmentMatch {b} {k} {r} : Statement (.alignmentMatch b k r) := of_event rfl rfl
theorem defectPersistenceEnd {fid} {d} {enter} : Statement (.defectPersistenceEnd fid d enter) := of_event rfl rfl
theorem otnFrameReceived {fid} {sl} {o} : Statement (.otnFrameReceived fid sl o) := of_event rfl rfl
theorem multiframeBoundary {kind} {cont} {group} {idles} : Statement (.multiframeBoundary kind cont group idles) := of_event rfl rfl
theorem switchFrameBoundary {ukind} {bond} {tpn} : Statement (.switchFrameBoundary ukind bond tpn) := of_event rfl rfl
theorem rateFollowSteer {b} {target} : Statement (.rateFollowSteer b target) := of_event rfl rfl
theorem rateHoldEnd {b} : Statement (.rateHoldEnd b) := of_event rfl rfl
theorem srFieldReceived {c} {g} {bs} : Statement (.srFieldReceived c g bs) := of_event rfl rfl
theorem holdOffExpiry {c} {g} : Statement (.holdOffExpiry c g) := of_event rfl rfl
theorem protectionAlign {g} : Statement (.protectionAlign g) := of_event rfl rfl
theorem wtrExpiry {g} : Statement (.wtrExpiry g) := of_event rfl rfl
theorem fopTimeout {g} : Statement (.fopTimeout g) := of_event rfl rfl
theorem selectorSwitch {g} {arrival} : Statement (.selectorSwitch g arrival) := of_event rfl rfl
theorem stacksRead {w} {expect} {waiting} : Statement (.stacksRead w expect waiting) := of_event rfl rfl
theorem stacksWholeWrite {w} {data} {seq} {region} {unres} {endMark} {poison} : Statement (.stacksWholeWrite w data seq region unres endMark poison) := of_event rfl rfl
theorem narrowWrite {w} {off} {data} : Statement (.narrowWrite w off data) := of_event rfl rfl
theorem tagFreed {c} : Statement (.tagFreed c) := of_event rfl rfl
theorem scrubRead {waiting} : Statement (.scrubRead waiting) := of_event rfl rfl
theorem queueWrap {c} : Statement (.queueWrap c) := of_event rfl rfl
theorem pageRetireComplete {p} : Statement (.pageRetireComplete p) := of_event rfl rfl
theorem stacksInitComplete : Statement (.stacksInitComplete) := of_event rfl rfl
theorem apertureRead {off} {n} : Statement (.apertureRead off n) := of_event rfl rfl
theorem apertureWrite {off} {bs} : Statement (.apertureWrite off bs) := of_event rfl rfl
theorem timeTick {n} : Statement (.timeTick n) := of_event rfl rfl
theorem servoWindowEnd : Statement (.servoWindowEnd) := of_event rfl rfl
theorem slewComplete : Statement (.slewComplete) := of_event rfl rfl
theorem ppsInEdge {sub} {widthNs} : Statement (.ppsInEdge sub widthNs) := of_event rfl rfl
theorem ppsInLos : Statement (.ppsInLos) := of_event rfl rfl
theorem todInMessage {bs} : Statement (.todInMessage bs) := of_event rfl rfl
theorem ppsOutEdge : Statement (.ppsOutEdge) := of_event rfl rfl
theorem todOutSend : Statement (.todOutSend) := of_event rfl rfl
theorem colophonRecordReceived {c} {g} {bs} : Statement (.colophonRecordReceived c g bs) := of_event rfl rfl
theorem colophonSample {c} {g} : Statement (.colophonSample c g) := of_event rfl rfl
theorem timeBurstSend {c} {g} : Statement (.timeBurstSend c g) := of_event rfl rfl
theorem ptpIngress {b} {sub} {m} : Statement (.ptpIngress b sub m) := of_event rfl rfl
theorem ptpEgress {b} {sub} {m} : Statement (.ptpEgress b sub m) := of_event rfl rfl
theorem refMeasurement {offs} {control} : Statement (.refMeasurement offs control) := of_event rfl rfl
theorem refActivityLoss {k} : Statement (.refActivityLoss k) := of_event rfl rfl
theorem qualificationTimerEnd {k} {restore} : Statement (.qualificationTimerEnd k restore) := of_event rfl rfl
theorem dpllLock : Statement (.dpllLock) := of_event rfl rfl
theorem oscEstimateUpdate : Statement (.oscEstimateUpdate) := of_event rfl rfl
theorem loLearnEnd {fitA} {fitB} {fit} {temps} : Statement (.loLearnEnd fitA fitB fit temps) := of_event rfl rfl
theorem laneLosDeclare {l} : Statement (.laneLosDeclare l) := of_event rfl rfl
theorem laneLosClear {l} : Statement (.laneLosClear l) := of_event rfl rfl
theorem laneLolDeclare {l} : Statement (.laneLolDeclare l) := of_event rfl rfl
theorem anResolved {l} {techs} : Statement (.anResolved l techs) := of_event rfl rfl
theorem anTimeout {l} : Statement (.anTimeout l) := of_event rfl rfl
theorem laneTrained {l} : Statement (.laneTrained l) := of_event rfl rfl
theorem trainingTimeout {l} : Statement (.trainingTimeout l) := of_event rfl rfl
theorem mateTrainingFrame {l} {fr} : Statement (.mateTrainingFrame l fr) := of_event rfl rfl
theorem soakEnd {ms} : Statement (.soakEnd ms) := of_event rfl rfl
theorem mateDecisionApply : Statement (.mateDecisionApply) := of_event rfl rfl
theorem mateQuietEnd : Statement (.mateQuietEnd) := of_event rfl rfl
theorem idleEntry {l} : Statement (.idleEntry l) := of_event rfl rfl
theorem keepaliveDue {l} : Statement (.keepaliveDue l) := of_event rfl rfl
theorem sleepDelayEnd {l} : Statement (.sleepDelayEnd l) := of_event rfl rfl
theorem laneDataToSend {l} : Statement (.laneDataToSend l) := of_event rfl rfl
theorem exitBurstEnd {l} {locked} : Statement (.exitBurstEnd l locked) := of_event rfl rfl
theorem wakeTimeEnd {l} : Statement (.wakeTimeEnd l) := of_event rfl rfl
theorem loopbackRelock {l} : Statement (.loopbackRelock l) := of_event rfl rfl
theorem admissionStageStart : Statement (.admissionStageStart) := of_event rfl rfl
theorem domainPowerGood {d} : Statement (.domainPowerGood d) := of_event rfl rfl
theorem powerGoodTimeout {d} : Statement (.powerGoodTimeout d) := of_event rfl rfl
theorem domainStopDrained {d} : Statement (.domainStopDrained d) := of_event rfl rfl
theorem voutSettled {r} : Statement (.voutSettled r) := of_event rfl rfl
theorem voutSettleTimeout {r} : Statement (.voutSettleTimeout r) := of_event rfl rfl
theorem sleepEntryDrained : Statement (.sleepEntryDrained) := of_event rfl rfl
theorem sleepCommit : Statement (.sleepCommit) := of_event rfl rfl
theorem wakeSourceLatch {src} {aonMs} : Statement (.wakeSourceLatch src aonMs) := of_event rfl rfl
theorem wakeExitComplete {us} : Statement (.wakeExitComplete us) := of_event rfl rfl
theorem idleCoreWake : Statement (.idleCoreWake) := of_event rfl rfl
theorem conversionDue {k} : Statement (.conversionDue k) := of_event rfl rfl
theorem conversionEnd {m} {va} {vb} : Statement (.conversionEnd m va vb) := of_event rfl rfl
theorem urgentRequest {k} : Statement (.urgentRequest k) := of_event rfl rfl
theorem refBufferReady {m} : Statement (.refBufferReady m) := of_event rfl rfl
theorem processMonitorPeriod {fro} : Statement (.processMonitorPeriod fro) := of_event rfl rfl
theorem pmbusPoll {r} {rd} : Statement (.pmbusPoll r rd) := of_event rfl rfl
theorem sensorReading {rs} : Statement (.sensorReading rs) := of_event rfl rfl
theorem thermalRecoveryHold : Statement (.thermalRecoveryHold) := of_event rfl rfl
theorem sensorStuck {n} : Statement (.sensorStuck n) := of_event rfl rfl
theorem catalogueWriteStart : Statement (.catalogueWriteStart) := of_event rfl rfl
theorem catalogueWriteDone {bad} : Statement (.catalogueWriteDone bad) := of_event rfl rfl
theorem catalogueEraseDone : Statement (.catalogueEraseDone) := of_event rfl rfl
theorem fwProgrammingDone {bad} : Statement (.fwProgrammingDone bad) := of_event rfl rfl
theorem vaultVote {ups} : Statement (.vaultVote ups) := of_event rfl rfl
theorem safetyDiagTick {x} : Statement (.safetyDiagTick x) := of_event rfl rfl
theorem safetyConditionChange {c} : Statement (.safetyConditionChange c) := of_event rfl rfl
theorem alsPinChange {c} {low} : Statement (.alsPinChange c low) := of_event rfl rfl
theorem alsPulseStart {c} : Statement (.alsPulseStart c) := of_event rfl rfl
theorem alsPulseEnd {c} : Statement (.alsPulseEnd c) := of_event rfl rfl
theorem mateBlockReceived {b} : Statement (.mateBlockReceived b) := of_event rfl rfl
theorem stateRecordSend : Statement (.stateRecordSend) := of_event rfl rfl
theorem mirrorItemApply {c} {tpn} {w} {seq} {lost} {shadow} {shadowEnd} : Statement (.mirrorItemApply c tpn w seq lost shadow shadowEnd) := of_event rfl rfl
theorem mateSyncMarker {sub} : Statement (.mateSyncMarker sub) := of_event rfl rfl
theorem mateSyncInactive : Statement (.mateSyncInactive) := of_event rfl rfl
theorem mateLost : Statement (.mateLost) := of_event rfl rfl
theorem checkingRecompare {peer} : Statement (.checkingRecompare peer) := of_event rfl rfl
theorem mateWakePulse : Statement (.mateWakePulse) := of_event rfl rfl
theorem spiWrite {a} {data} : Statement (.spiWrite a data) := of_event rfl rfl
theorem spiRead {a} {n} : Statement (.spiRead a n) := of_event rfl rfl
theorem spiQwrite {a} {data} : Statement (.spiQwrite a data) := of_event rfl rfl
theorem spiQread {a} {n} : Statement (.spiQread a n) := of_event rfl rfl
theorem spiStatus : Statement (.spiStatus) := of_event rfl rfl
theorem spiBadFrame : Statement (.spiBadFrame) := of_event rfl rfl
theorem bootResetWrite {p} {v} : Statement (.bootResetWrite p v) := of_event rfl rfl
theorem resetNAssert : Statement (.resetNAssert) := of_event rfl rfl
theorem resetNRelease {board} : Statement (.resetNRelease board) := of_event rfl rfl
theorem yozonReady : Statement (.yozonReady) := of_event rfl rfl
theorem powerOn : Statement (.powerOn) := of_event rfl rfl
theorem brownout : Statement (.brownout) := of_event rfl rfl
theorem supplyFault {n} : Statement (.supplyFault n) := of_event rfl rfl
theorem perstNAssert : Statement (.perstNAssert) := of_event rfl rfl
theorem perstNRelease : Statement (.perstNRelease) := of_event rfl rfl
theorem trstNAssert : Statement (.trstNAssert) := of_event rfl rfl
theorem timeSourceTimer {w} : Statement (.timeSourceTimer w) := of_event rfl rfl
theorem mateSyncMarkerMissing : Statement (.mateSyncMarkerMissing) := of_event rfl rfl
theorem laneRxIdleMarker {l} {m} : Statement (.laneRxIdleMarker l m) := of_event rfl rfl
theorem laneWakeRelock {l} : Statement (.laneWakeRelock l) := of_event rfl rfl
theorem switchReadDue {ukind} {bond} {tpn} {w} {seq} {arrival} : Statement (.switchReadDue ukind bond tpn w seq arrival) := of_event rfl rfl
theorem tckEdge {rising} {tms} {tdi} : Statement (.tckEdge rising tms tdi) := of_event rfl rfl

end Sys2Proof.Laws.F
end

