-- ==== Sys2Proof/Laws/Power.lean ====
section
/-! SUPPORT. What the shared operations on the power domains and on the light of a carrier can change, and what they do. -/

namespace Sys2Proof.Machine

/-- A view that does not see the parts of the state that a request for a domain transition changes. -/
structure Calm {α : Type} (e : State → α) : Prop where
  pwr : ∀ f x, e (onPwr f x) = e x := by intros; rfl
  desk : ∀ (x : State) d, e { x with desk := d } = e x := by intros; rfl
  cen : ∀ f x, e (onCen f x) = e x := by intros; rfl
  safe : ∀ c f x, e (onSafe c f x) = e x := by intros; rfl
  house : ∀ f x, e (onHouse f x) = e x := by intros; rfl
  evt : ∀ (x : State) v, e { x with evt := v } = e x := by intros; rfl
  car : ∀ c f x, e (onCar c f x) = e x := by intros; rfl

/-- A view that does not see the parts of the state that the power domains' transitions change. -/
structure Blind {α : Type} (e : State → α) : Prop where
  pwr : ∀ f x, e (onPwr f x) = e x := by intros; rfl
  desk : ∀ (x : State) d, e { x with desk := d } = e x := by intros; rfl
  cen : ∀ f x, e (onCen f x) = e x := by intros; rfl
  safe : ∀ c f x, e (onSafe c f x) = e x := by intros; rfl
  house : ∀ f x, e (onHouse f x) = e x := by intros; rfl
  stk : ∀ f x, e (onStk f x) = e x := by intros; rfl
  evt : ∀ (x : State) v, e { x with evt := v } = e x := by intros; rfl
  car : ∀ c f x, e (onCar c f x) = e x := by intros; rfl

theorem Blind.calm {α : Type} {e : State → α} (b : Blind e) : Calm e := ⟨b.pwr, b.desk, b.cen, b.safe, b.house, b.evt, b.car⟩

variable {α : Type} {e : State → α} {s t : State}

/-- An event that the always-on domain causes changes the event tree alone. -/
theorem raiseAon_view {n ob : Nat} {a : EvtArg} (h : ∀ (x : State) v, e { x with evt := v } = e x) (x : State) :
    e (Machine.raiseAon n ob a x) = e x := by
  unfold Machine.raiseAon Machine.raiseIf
  split
  · exact h _ _
  · rfl

theorem Same.driveLight {b : Bool} {c : Fin 2} (h : Same e s t) (h1 : ∀ c f x, e (Machine.onSafe c f x) = e x := by intros; rfl)
    (h2 : ∀ (x : State) v, e { x with evt := v } = e x := by intros; rfl) : Same e s (Machine.driveLight b c t) := by
  unfold Machine.driveLight
  extract_lets on was s1 s2
  have a1 : Same e s s1 := h.onSafe (h1 _ _)
  have a2 : Same e s s2 := a1.raiseAon (raiseAon_view h2)
  clear_value s1 s2
  split
  · exact a1
  · split
    · split
      · exact a2
      · exact (a2.onSafe (h1 _ _)).raiseAon (raiseAon_view h2)
    · exact a2

theorem Same.driveAll (h : Same e s t) (h1 : ∀ c f x, e (Machine.onSafe c f x) = e x := by intros; rfl)
    (h2 : ∀ (x : State) v, e { x with evt := v } = e x := by intros; rfl) : Same e s (Machine.driveAll t) :=
  (h.driveLight h1 h2).driveLight h1 h2

theorem Same.safetyLeave {c : Fin 2} (h : Same e s t) (h1 : ∀ c f x, e (Machine.onSafe c f x) = e x := by intros; rfl)
    (h2 : ∀ (x : State) v, e { x with evt := v } = e x := by intros; rfl) : Same e s (Machine.safetyLeave c t) :=
  (h.onSafe (h1 _ _)).driveLight h1 h2

theorem Same.queueStages {d : Nat} (h : Same e s t) (h1 : ∀ f x, e (Machine.onPwr f x) = e x := by intros; rfl) :
    Same e s (Machine.queueStages d t) := by
  unfold Machine.queueStages
  exact h.onPwr (h1 _)

theorem Same.onDom {d : Nat} {f : Domain → Domain} (h : Same e s t) (h1 : ∀ f x, e (Machine.onPwr f x) = e x := by intros; rfl) :
    Same e s (Machine.onDom d f t) := h.onPwr (h1 _)

theorem Same.startStages {d : Nat} (h : Same e s t) (h1 : ∀ f x, e (Machine.onPwr f x) = e x := by intros; rfl)
    (h2 : ∀ f x, e (Machine.onHouse f x) = e x := by intros; rfl) : Same e s (Machine.startStages d t) := by
  unfold Machine.startStages
  split
  · exact h.queueStages h1
  · exact Same.foldl (fun u x (hu : Same e s u) => (hu.onHouse (h2 _)).onPwr (h1 _)) h

theorem Same.convLeave {c : Fin 2} (h : Same e s t) (h1 : ∀ (x : State) d, e { x with desk := d } = e x := by intros; rfl)
    (h2 : ∀ c f x, e (Machine.onCar c f x) = e x := by intros; rfl) : Same e s (Machine.convLeave c t) := by
  unfold Machine.convLeave Machine.convDisable
  exact Same.foldl (fun _ _ hu => hu.endTransition h1) (h.onCar (h2 _ _))

theorem Same.lowerRails {d : Nat} (h : Same e s t) (h1 : ∀ f x, e (Machine.onHouse f x) = e x := by intros; rfl) :
    Same e s (Machine.lowerRails d t) := by
  unfold Machine.lowerRails
  refine Same.foldl (fun u r hu => ?_) h
  dsimp only
  split
  · exact hu.onHouse (h1 _)
  · exact hu

theorem Same.beginDomain {d : Nat} {x : DomState} (h : Same e s t) (b : Calm e := by exact {}) : Same e s (Machine.beginDomain d x t) := by
  unfold Machine.beginDomain
  extract_lets st up s1 s2 s3
  have a1 : Same e s s1 := by
    unfold s1
    split
    · exact h
    · exact h.beginInternal (fun x => b.desk x _)
  split
  · exact (a1.onDom b.pwr).startStages b.pwr b.house
  · have a2 : Same e s s2 := a1.onPwr (b.pwr _)
    have a3 : Same e s s3 := by
      unfold s3
      split
      · exact a2.onCen (b.cen _)
      · exact a2
    split
    · exact (a3.safetyLeave b.safe b.evt).convLeave b.desk b.car
    · exact a3

theorem Same.requestDomain {d : Nat} {x : DomState} (h : Same e s t) (b : Calm e := by exact {}) : Same e s (Machine.requestDomain d x t) := by
  unfold Machine.requestDomain
  extract_lets y
  split
  · split
    · exact h
    · exact h.onDom b.pwr
  · split
    · exact h
    · exact h.beginDomain b

theorem Same.settleDomain {d : Nat} {x : DomState} {f : Bool} (h : Same e s t) (b : Blind e := by exact {}) : Same e s (Machine.settleDomain d x f t) := by
  unfold Machine.settleDomain
  extract_lets y s1 s2 s3 s4
  have a1 : Same e s s1 := h.onDom b.pwr
  have a2 : Same e s s2 := by
    unfold s2
    split
    · exact (a1.lowerRails b.house).onStk (b.stk _)
    · split
      · exact a1.onCen (b.cen _)
      · exact a1.lowerRails b.house
  have a3 : Same e s s3 := a2.raise (fun _ => b.evt _ _)
  split
  · exact a3.beginDomain b.calm
  · have a4 : Same e s s4 := (a3.onDom b.pwr).endTransition b.desk
    clear_value s4
    split
    · exact a4
    · split
      · exact a4
      · exact a4.beginDomain b.calm

theorem getNat_updNat_same {n : Nat} {x : α} {v : Vector α n} {i : Nat} {f : α → α} (h : i < n) :
    getNat x (updNat v i f) i = f (getNat x v i) := by
  unfold getNat updNat
  simp [h]

theorem getNat_updNat_other {n : Nat} {x : α} {v : Vector α n} {i j : Nat} {f : α → α} (h : j ≠ i) :
    getNat x (updNat v i f) j = getNat x v j := by
  unfold getNat updNat
  split
  · simp [List.getD, Ne.symm h]
  · rfl

theorem onDom_same {d : Nat} {f : Domain → Domain} (h : d < 20) : (onDom d f s).domain d = f (s.domain d) := getNat_updNat_same h

theorem onDom_other {d x : Nat} {f : Domain → Domain} (h : x ≠ d) : (onDom d f s).domain x = s.domain x := getNat_updNat_other h

theorem railsToRaise_onDom {d x : Nat} {f : Domain → Domain} : railsToRaise x (onDom d f s) = railsToRaise x s := rfl

theorem queueStages_domain {d x : Nat} : (queueStages d s).domain x = s.domain x := rfl

theorem queueStages_queue {d : Nat} (h : (s.domain d).thermal = false) :
    (queueStages d s).pwr.queue = s.pwr.queue ++ List.replicate (stagesOf d).1 (d, (stagesOf d).2, false) := by
  unfold queueStages
  simp [h, onPwr]

theorem carrierOf_val (c : Fin 2) : carrierOf c.val = c := by revert c; decide

theorem onSafe_sf {c : Fin 2} {f : SafeCarrier → SafeCarrier} : (onSafe c f s).sf c = f (s.sf c) := by
  show (upd s.safe.cars c f)[c] = _
  rw [upd_get, if_pos rfl]
  rfl

/-- Driving the light leaves the request and the shutdown of the carrier as they are. -/
theorem driveLight_sf {b : Bool} {c : Fin 2} : ((driveLight b c s).sf c).req = (s.sf c).req ∧ ((driveLight b c s).sf c).als = (s.sf c).als := by
  unfold driveLight
  extract_lets on was s1 s2
  have a1 : (s1.sf c).req = (s.sf c).req ∧ (s1.sf c).als = (s.sf c).als := by unfold s1; rw [onSafe_sf]; exact ⟨rfl, rfl⟩
  have a2 : s2.sf c = s1.sf c := rfl
  clear_value s1 s2
  split
  · exact a1
  · split
    · split
      · rw [a2]; exact a1
      · show ((onSafe c _ s2).sf c).req = _ ∧ ((onSafe c _ s2).sf c).als = _
        rw [onSafe_sf, a2]; exact a1
    · rw [a2]; exact a1

theorem safetyLeave_req (c : Fin 2) (s : State) : ((safetyLeave c s).sf c).req = false ∧ ((safetyLeave c s).sf c).als = .clear := by
  have := driveLight_sf (s := onSafe c (fun x => { x with req := false, als := .clear }) s) (b := false) (c := c)
  rw [onSafe_sf] at this
  exact this

end Sys2Proof.Machine
end

