-- ==== Sys2Proof/Laws/Stacks.lean ====
section
/-! SUPPORT. The Stacks' operations keep their memory in canonical form and at most 768 transactions in flight in each channel
(10_stacks.md R230, R246). -/

namespace Sys2Proof.Machine

theorem stacks_iff {k : Stacks} : k.sound = true ↔
    (Rising k.mem ∧ ∀ x ∈ k.mem, k.blank (pageOf (x.1 / 72)) ≠ some x.2) ∧ ∀ n ∈ k.tags, n ≤ 768 := by
  simp [Stacks.sound, Stacks.wf, Rising]

/-- A part of the memory under the same or weaker blanks is as sound. -/
theorem stacks_sub {k l : Stacks} (hm : l.mem.Sublist k.mem) (ht : l.tags = k.tags)
    (hb : ∀ x ∈ l.mem, l.blank (pageOf (x.1 / 72)) = k.blank (pageOf (x.1 / 72)) ∨ l.blank (pageOf (x.1 / 72)) = none)
    (h : k.sound = true) : l.sound = true := by
  rw [stacks_iff] at *
  refine ⟨⟨h.1.1.sublist hm, fun x hx => ?_⟩, ht ▸ h.2⟩
  rcases hb x hx with e | e
  · rw [e]; exact h.1.2 x (hm.subset hx)
  · rw [e]; simp

theorem word_symbol_page {w x n : Nat} (h1 : 72 * w ≤ x) (h2 : x < 72 * w + n) (hn : n ≤ 72) : x / 72 = w := by omega

/-- Storing a word keeps the form. -/
theorem store_sound {k : Stacks} {w : Nat} {v : List Byte} (hv : v.length ≤ 72) (h : k.sound = true) : (k.store w v).sound = true := by
  rw [stacks_iff] at *
  refine ⟨⟨cellPutList_rising h.1.1, fun x hx => ?_⟩, h.2⟩
  rcases cellPutList_mem hx with hx | ⟨h1, h2, hn⟩
  · exact h.1.2 x hx
  · show k.blank (pageOf (x.1 / 72)) ≠ some x.2
    rw [word_symbol_page h1 h2 hv]
    exact hn

/-- The words that writes store have 72 symbols. -/
theorem rsCheck_length {m : List Byte} : (rsCheck m).length = 6 := by
  unfold rsCheck
  extract_lets gen
  rw [List.length_map]
  suffices ∀ (r : List Nat), r.length = 6 → (List.foldl (fun r (s : Byte) =>
      let f := Nat.xor (r.getD 0 0) s.toNat
      (List.range 6).map fun i => Nat.xor (r.getD (i + 1) 0) (gfMul f (gen.getD i 0))) r m).length = 6 from this _ (by simp)
  induction m with
  | nil => exact fun r hr => hr
  | cons x l ih => exact fun r _ => ih _ (by simp)

theorem mkWord_length {data : List Byte} {seq region : Nat} {u e p : Bool} : (mkWord data seq region u e p).length = 72 := by
  unfold mkWord
  extract_lets m
  have hm : m.length = 66 := by
    unfold m
    simp [padTo, bytesAt]
    all_goals omega
  rw [List.length_append, rsCheck_length, hm]

theorem poisonWord_length {w : List Byte} : (poisonWord w).length ≤ 72 := by
  unfold poisonWord
  extract_lets m
  have hm : m.length ≤ 66 := by
    unfold m
    simp
    all_goals omega
  rw [List.length_append, rsCheck_length]
  omega

theorem flipSym_length {w : List Byte} {i v : Nat} : (flipSym w i v).length = w.length := by simp [flipSym]

theorem rsDecode_length {w x : List Byte} {l : List Nat} (h : rsDecode w = .corrected x l) : x.length = w.length := by
  revert h
  fun_cases rsDecode w with
  | case1 => exact fun h => nomatch h
  | case2 =>
    intro h
    injection h with h
    rw [← h, flipSym_length]
  | case3 => exact fun h => nomatch h
  | case4 =>
    intro h
    injection h with h
    exact h ▸ (flipSym_length.trans flipSym_length)
  | case5 => exact fun h => nomatch h
  | case6 => exact fun h => nomatch h

theorem word_length {k : Stacks} {w : Nat} : (k.word w).length = 72 := by simp [Stacks.word]

/-- A word written back, of 72 symbols at most. -/
theorem writeBack_good {pq : List Instr} {w : Nat} {v : List Byte} {s : State} (hv : v.length ≤ 72) (h : Good pq s) :
    Good pq (writeBack w v s) :=
  onStk_good (fun k hk => (show ((k.store w v).noteWrite w).sound = true from store_sound hv hk)) h

theorem stkWrite_good {pq : List Instr} {w : Nat} {data : List Byte} {seq region : Nat} {u e z : Bool} {s : State} (h : Good pq s) :
    Good pq (stkWrite w data seq region u e z s) :=
  onStk_good (fun k hk => (show ((k.store w (mkWord data seq region u e z)).noteWrite w).sound = true from
    store_sound (Nat.le_of_eq mkWord_length) hk)) h

theorem loseStack_good {pq : List Instr} {k : Nat} {s : State} (h : Good pq s) : Good pq (loseStack k s) := by
  refine onStk_good (fun x hx => stacks_sub (k := x) List.filter_sublist rfl (fun y hy => .inl ?_) hx) h
  have hy := (List.mem_filter.1 hy).2
  simp only [bne_iff_ne, ne_eq] at hy
  show Stacks.blank _ _ = Stacks.blank _ _
  unfold Stacks.blank
  cases hc : x.cleared
  · simp
  · simp [hy]

theorem stacksInitComplete_sound {k : Stacks} (h : k.sound = true) :
    Stacks.sound { k with mem := k.mem.filter fun c => k.retired (pageOf (c.1 / 72)), cleared := true,
                          unwritten := k.log.map (·.page), initialised := true, initBusy := false } = true := by
  refine stacks_sub (k := k) List.filter_sublist rfl (fun y hy => .inr ?_) h
  have hy := (List.mem_filter.1 hy).2
  simp only [Stacks.retired, List.any_eq_true, beq_iff_eq] at hy
  obtain ⟨e, he, hp⟩ := hy
  simp only [Stacks.blank, Bool.true_and, List.contains_eq_mem]
  rw [if_neg]
  simp
  exact ⟨e, he, hp⟩

theorem retire_sound {k : Stacks} {p : Nat} (h : k.sound = true) :
    Stacks.sound { k with mem := k.mem.filter fun c => pageOf (c.1 / 72) != p, unwritten := p :: k.unwritten } = true := by
  refine stacks_sub (k := k) List.filter_sublist rfl (fun y hy => .inl ?_) h
  have hy := (List.mem_filter.1 hy).2
  simp only [bne_iff_ne, ne_eq] at hy
  simp [Stacks.blank, hy]

/-- One more transaction in flight in a channel that has fewer than 768. -/
theorem tag_sound {k : Stacks} {c : Nat} {x : List Nat} (room : k.tags.getD c 0 < 768) (h : k.sound = true) :
    Stacks.sound { k with tags := k.tags.modify c (· + 1), tagPeak := x } = true := by
  rw [stacks_iff] at *
  refine ⟨h.1, fun n hn => ?_⟩
  rw [List.mem_iff_getElem] at hn
  obtain ⟨i, hi, e⟩ := hn
  rw [List.getElem_modify] at e
  have hi' : i < k.tags.length := by simpa using hi
  have hm := h.2 k.tags[i] (List.getElem_mem hi')
  split at e
  · next ec =>
    subst ec
    rw [List.getD_eq_getElem?_getD, List.getElem?_eq_getElem hi'] at room
    simp at room
    omega
  · omega

theorem untag_sound {k : Stacks} {c : Nat} (h : k.sound = true) : Stacks.sound { k with tags := k.tags.modify c (· - 1) } = true := by
  rw [stacks_iff] at *
  refine ⟨h.1, fun n hn => ?_⟩
  rw [List.mem_iff_getElem] at hn
  obtain ⟨i, hi, e⟩ := hn
  rw [List.getElem_modify] at e
  have hi' : i < k.tags.length := by simpa using hi
  have hm := h.2 k.tags[i] (List.getElem_mem hi')
  split at e <;> omega

theorem lost_sound {k : Stacks} : k.lost.sound = true := by
  rw [stacks_iff]
  refine ⟨⟨List.Pairwise.nil, fun x hx => nomatch hx⟩, fun n hn => ?_⟩
  have := List.eq_of_mem_replicate (show n ∈ List.replicate 64 0 from hn)
  omega

theorem kept_sound {k : Stacks} (h : k.sound = true) : k.kept.sound = true := by
  rw [stacks_iff] at *
  refine ⟨h.1, fun n hn => ?_⟩
  have := List.eq_of_mem_replicate (show n ∈ List.replicate 64 0 from hn)
  omega

/-- Replacing pages changes only which region they lie in. -/
theorem replacePages_sound {bad : Nat → Bool} {es : List AccEntry} {k l : Stacks} (e : replacePages bad es k = some l)
    (h : k.sound = true) : l.sound = true := by
  induction es generalizing k with
  | nil =>
    injection e with e
    exact e ▸ h
  | cons x r ih =>
    unfold replacePages at e
    split at e
    · split at e
      · split at e
        · cases e
        · exact ih e h
      · exact ih e h
    · split at e
      · exact ih e h
      · split at e
        · cases e
        · exact ih e h

end Sys2Proof.Machine
end

