-- ==== Sys2Proof/Laws/Sound1.lean ====
section
/-! SUPPORT. Each effect of Sys2Proof/Machine/ in the files named below leaves the queue of commands alone and keeps a state sound:
Flags, Ops, Operands, Shared, PmOps, SafetyFn, Stacks, PowerOps, Chutes, TimeServo. -/

namespace Sys2Proof.Machine

/-! ### Flags -/

theorem State.drawn_good {pq : List Instr} {x0 : State} (hx0 : Good pq x0) : Good pq (State.drawn x0) := by
  unfold State.drawn
  refine Good.lit ?_
  assumption

theorem raise0_good {pq : List Instr} {x0 : Nat} {x1 : Nat} {x2 : State} (hx2 : Good pq x2) : Good pq (raise0 x0 x1 x2) := by
  unfold raise0
  apply raise_good
  assumption

/-! ### Ops -/

theorem runNow_good {pq : List Instr} {x0 : CmdInfo} {x1 : Request → State → State × Reply} {x2 : Fin 4} {x3 : Request} {x4 : State} (hx1 : ∀ a0 a1, Good pq a1 → Good pq (x1 a0 a1).1) (hx4 : Good pq x4) : Good pq (runNow x0 x1 x2 x3 x4) := by
  unfold runNow
  extract_lets v0
  have hv0 : Good pq v0.1 := by
    unfold v0
    split
    · refine Good.fst ?_
      assumption
    · refine hx1 _ _ ?_
      · assumption
  clear_value v0
  split
  · apply complete_good
    assumption
  · apply setPhase_good
    assumption

theorem deskRun_good {pq : List Instr} {x0 : Nat} {x1 : Request → State → State × Reply} {x2 : Request} {x3 : State} (hx1 : ∀ a0 a1, Good pq a1 → Good pq (x1 a0 a1).1) (hx3 : Good pq x3) : Good pq (deskRun x0 x1 x2 x3) := by
  unfold deskRun
  extract_lets v0
  have hv0 : Good pq v0 := by
    unfold v0
    apply admit_good
    assumption
  clear_value v0
  split
  · refine ite_good (fun _ => ?_) (fun _ => ?_)
    · split
      · apply runNow_good
        · intro a1 a2 ha3
          try dsimp -zeta only
          refine hx1 _ _ ?_
          · assumption
        · assumption
      · apply setPhase_good
        assumption
      · assumption
    · assumption
  · assumption

theorem beginTransition_good {pq : List Instr} {x0 : Fn} {x1 : Nat} {x2 : Request} {x3 : State} (hx3 : Good pq x3) : Good pq (beginTransition x0 x1 x2 x3) := by
  unfold beginTransition
  extract_lets v0
  have hv0 : v0.Sound := hx3.sound.desk
  clear_value v0
  exact ⟨hx3.queue, ⟨hx3.sound.chutes, hx3.sound.stk, hx3.sound.evt, hv0⟩⟩

theorem beginInternal_good {pq : List Instr} {x0 : Fn} {x1 : State} (hx1 : Good pq x1) : Good pq (beginInternal x0 x1) := by
  unfold beginInternal
  extract_lets v0
  have hv0 : v0.Sound := hx1.sound.desk
  clear_value v0
  exact ⟨hx1.queue, ⟨hx1.sound.chutes, hx1.sound.stk, hx1.sound.evt, hv0⟩⟩

theorem endTransition_good {pq : List Instr} {x0 : Fn} {x1 : Resp} {x2 : State} (hx2 : Good pq x2) : Good pq (endTransition x0 x1 x2) := by
  unfold endTransition
  extract_lets v0 v1 v2
  clear_value v0
  have hv1 : v1.Sound := hx2.sound.desk
  clear_value v1
  have hv2 : Good pq v2 := by
    unfold v2
    exact ⟨hx2.queue, ⟨hx2.sound.chutes, hx2.sound.stk, hx2.sound.evt, hv1⟩⟩
  clear_value v2
  refine foldl_good (fun _ _ _ => ?_) ?_
  · try dsimp -zeta only
    split
    · apply complete_good
      assumption
    · assumption
  · assumption

theorem terminate_good {pq : List Instr} {x0 : Fn} {x1 : State} (hx1 : Good pq x1) : Good pq (terminate x0 x1) := by
  unfold terminate
  extract_lets v0 v1 v2
  clear_value v0
  have hv1 : Good pq v1 := by
    unfold v1
    refine foldl_good (fun _ _ _ => ?_) ?_
    · try dsimp -zeta only
      apply endTransition_good
      assumption
    · assumption
  clear_value v1 v2
  refine foldl_good (fun _ _ _ => ?_) ?_
  · try dsimp -zeta only
    apply complete_good
    assumption
  · assumption

/-! ### Operands -/

theorem applyRecs_good {pq : List Instr} {x0 : Nat} {x1 : Request} {x2 : List ParRec} {x3 : State} (hx3 : Good pq x3) : Good pq (applyRecs x0 x1 x2 x3) := by
  unfold applyRecs
  refine Good.lit ?_
  assumption

theorem waitRecs_good {pq : List Instr} {x0 : Nat} {x1 : Request} {x2 : List ParRec} {x3 : State} (hx3 : Good pq x3) : Good pq (waitRecs x0 x1 x2 x3) := by
  unfold waitRecs
  refine Good.lit ?_
  assumption

theorem pCommand_good {pq : List Instr} {x0 : Nat} {x1 : List ParRec → State → Option Reply} {x2 : List ParRec → State → State} {x3 : Request} {x4 : State} (hx2 : ∀ a0 a1, Good pq a1 → Good pq (x2 a0 a1)) (hx4 : Good pq x4) : Good pq (pCommand x0 x1 x2 x3 x4).1 := by
  unfold pCommand
  split
  · refine Good.fst ?_
    assumption
  · split
    · refine Good.fst ?_
      assumption
    · refine Good.fst ?_
      refine hx2 _ _ ?_
      · assumption

theorem keepBody_good {pq : List Instr} {x0 : Nat} {x1 : Request} {x2 : State} (hx2 : Good pq x2) : Good pq (keepBody x0 x1 x2) := by
  unfold keepBody
  extract_lets v0
  clear_value v0
  refine Good.lit ?_
  assumption

theorem dropBody_good {pq : List Instr} {x0 : Nat} {x1 : Nat} {x2 : State} (hx2 : Good pq x2) : Good pq (dropBody x0 x1 x2) := by
  unfold dropBody
  extract_lets v0
  clear_value v0
  refine Good.lit ?_
  assumption

theorem sCommand_good {pq : List Instr} {x0 : Request → State → List StatItem} {x1 : Request} {x2 : State} (hx2 : Good pq x2) : Good pq (sCommand x0 x1 x2).1 := by
  unfold sCommand
  refine ite_good_1 (fun _ => ?_) (fun _ => ?_)
  · refine Good.fst ?_
    assumption
  · refine ite_good_1 (fun _ => ?_) (fun _ => ?_)
    · refine Good.fst ?_
      assumption
    · refine Good.fst ?_
      assumption

/-! ### Shared -/

theorem onCry_good {pq : List Instr} {x0 : Fin 2} {x1 : Fin 16} {x2 : Crypt → Crypt} {x3 : State} (hx3 : Good pq x3) : Good pq (onCry x0 x1 x2 x3) := by
  unfold onCry
  extract_lets v0 v1
  clear_value v0 v1
  refine Good.lit ?_
  assumption

theorem onCar_good {pq : List Instr} {x0 : Fin 2} {x1 : Carrier → Carrier} {x2 : State} (hx2 : Good pq x2) : Good pq (onCar x0 x1 x2) := by
  unfold onCar
  refine Good.lit ?_
  assumption

theorem onConv_good {pq : List Instr} {x0 : Fin 2} {x1 : Fin 8} {x2 : Conv → Conv} {x3 : State} (hx3 : Good pq x3) : Good pq (onConv x0 x1 x2 x3) := by
  unfold onConv
  apply onCar_good
  assumption

theorem onRx_good {pq : List Instr} {x0 : Fin 2} {x1 : RxCarrier → RxCarrier} {x2 : State} (hx2 : Good pq x2) : Good pq (onRx x0 x1 x2) := by
  unfold onRx
  refine Good.lit ?_
  assumption

theorem onRxg_good {pq : List Instr} {x0 : Fin 2} {x1 : Fin 16} {x2 : RxGroup → RxGroup} {x3 : State} (hx3 : Good pq x3) : Good pq (onRxg x0 x1 x2 x3) := by
  unfold onRxg
  apply onRx_good
  assumption

theorem onSub_good {pq : List Instr} {x0 : Fin 2} {x1 : Fin 16} {x2 : RxSub → RxSub} {x3 : State} (hx3 : Good pq x3) : Good pq (onSub x0 x1 x2 x3) := by
  unfold onSub
  apply onRx_good
  assumption

theorem onTx_good {pq : List Instr} {x0 : Fin 2} {x1 : TxCarrier → TxCarrier} {x2 : State} (hx2 : Good pq x2) : Good pq (onTx x0 x1 x2) := by
  unfold onTx
  refine Good.lit ?_
  assumption

theorem onTxg_good {pq : List Instr} {x0 : Fin 2} {x1 : Fin 16} {x2 : TxGroup → TxGroup} {x3 : State} (hx3 : Good pq x3) : Good pq (onTxg x0 x1 x2 x3) := by
  unfold onTxg
  apply onTx_good
  assumption

theorem onIl_good {pq : List Instr} {x0 : Fin 2} {x1 : Interloan → Interloan} {x2 : State} (hx2 : Good pq x2) : Good pq (onIl x0 x1 x2) := by
  unfold onIl
  refine Good.lit ?_
  assumption

theorem onFol_good {pq : List Instr} {x0 : Fin 2} {x1 : Fin 16} {x2 : FolioGroup → FolioGroup} {x3 : State} (hx3 : Good pq x3) : Good pq (onFol x0 x1 x2 x3) := by
  unfold onFol
  refine Good.lit ?_
  assumption

theorem onLink_good {pq : List Instr} {x0 : Fin 2} {x1 : Fin 16} {x2 : Link → Link} {x3 : State} (hx3 : Good pq x3) : Good pq (onLink x0 x1 x2 x3) := by
  unfold onLink
  extract_lets v0
  clear_value v0
  refine Good.lit ?_
  assumption

theorem onTime_good {pq : List Instr} {x0 : TimeState → TimeState} {x1 : State} (hx1 : Good pq x1) : Good pq (onTime x0 x1) := by
  unfold onTime
  refine Good.lit ?_
  assumption

theorem onBond_good {pq : List Instr} {x0 : Fin 48} {x1 : Framer → Framer} {x2 : State} (hx2 : Good pq x2) : Good pq (onBond x0 x1 x2) := by
  unfold onBond
  refine Good.lit ?_
  assumption

theorem onOdum_good {pq : List Instr} {x0 : Fin 2} {x1 : Fin 16} {x2 : Framer → Framer} {x3 : State} (hx3 : Good pq x3) : Good pq (onOdum x0 x1 x2 x3) := by
  unfold onOdum
  refine Good.lit ?_
  assumption

theorem onLane_good {pq : List Instr} {x0 : Fin 48} {x1 : Lane → Lane} {x2 : State} (hx2 : Good pq x2) : Good pq (onLane x0 x1 x2) := by
  unfold onLane
  refine Good.lit ?_
  assumption

theorem onProt_good {pq : List Instr} {x0 : Fin 16} {x1 : Prot → Prot} {x2 : State} (hx2 : Good pq x2) : Good pq (onProt x0 x1 x2) := by
  unfold onProt
  refine Good.lit ?_
  assumption

theorem onDec_good {pq : List Instr} {x0 : Decode → Decode} {x1 : State} (hx1 : Good pq x1) : Good pq (onDec x0 x1) := by
  unfold onDec
  refine Good.lit ?_
  assumption

theorem onMap_good {pq : List Instr} {x0 : Mapping → Mapping} {x1 : State} (hx1 : Good pq x1) : Good pq (onMap x0 x1) := by
  unfold onMap
  refine Good.lit ?_
  assumption

theorem onCen_good {pq : List Instr} {x0 : Census → Census} {x1 : State} (hx1 : Good pq x1) : Good pq (onCen x0 x1) := by
  unfold onCen
  refine Good.lit ?_
  assumption

theorem onPwr_good {pq : List Instr} {x0 : Power → Power} {x1 : State} (hx1 : Good pq x1) : Good pq (onPwr x0 x1) := by
  unfold onPwr
  refine Good.lit ?_
  assumption

theorem onHouse_good {pq : List Instr} {x0 : House → House} {x1 : State} (hx1 : Good pq x1) : Good pq (onHouse x0 x1) := by
  unfold onHouse
  refine Good.lit ?_
  assumption

theorem onBoot_good {pq : List Instr} {x0 : Boot → Boot} {x1 : State} (hx1 : Good pq x1) : Good pq (onBoot x0 x1) := by
  unfold onBoot
  refine Good.lit ?_
  assumption

theorem onCat_good {pq : List Instr} {x0 : Catalogue → Catalogue} {x1 : State} (hx1 : Good pq x1) : Good pq (onCat x0 x1) := by
  unfold onCat
  refine Good.lit ?_
  assumption

theorem onSafe_good {pq : List Instr} {x0 : Fin 2} {x1 : SafeCarrier → SafeCarrier} {x2 : State} (hx2 : Good pq x2) : Good pq (onSafe x0 x1 x2) := by
  unfold onSafe
  extract_lets v0
  clear_value v0
  refine Good.lit ?_
  assumption

theorem onMate_good {pq : List Instr} {x0 : Mate → Mate} {x1 : State} (hx1 : Good pq x1) : Good pq (onMate x0 x1) := by
  unfold onMate
  refine Good.lit ?_
  assumption

theorem convDisable_good {pq : List Instr} {x0 : Fin 2} {x1 : State} (hx1 : Good pq x1) : Good pq (convDisable x0 x1) := by
  unfold convDisable
  apply onCar_good
  assumption

theorem convLeave_good {pq : List Instr} {x0 : Fin 2} {x1 : State} (hx1 : Good pq x1) : Good pq (convLeave x0 x1) := by
  unfold convLeave
  refine foldl_good (fun _ _ _ => ?_) ?_
  · try dsimp -zeta only
    apply endTransition_good
    assumption
  · apply convDisable_good
    assumption

theorem ilEnqueue_good {pq : List Instr} {x0 : Fin 2} {x1 : Nat} {x2 : Nat} {x3 : List Byte} {x4 : State} (hx4 : Good pq x4) : Good pq (ilEnqueue x0 x1 x2 x3 x4) := by
  unfold ilEnqueue
  apply onIl_good
  assumption

theorem raiseAon_good {pq : List Instr} {x0 : Nat} {x1 : Nat} {x2 : EvtArg} {x3 : State} (hx3 : Good pq x3) : Good pq (raiseAon x0 x1 x2 x3) := by
  unfold raiseAon
  apply raiseIf_good
  assumption

theorem catChange_good {pq : List Instr} {x0 : Nat} {x1 : Nat} {x2 : List Byte} {x3 : State} (hx3 : Good pq x3) : Good pq (catChange x0 x1 x2 x3) := by
  unfold catChange
  apply onCat_good
  assumption

/-! ### PmOps -/

theorem pmSync_good {pq : List Instr} {x0 : State} (hx0 : Good pq x0) : Good pq (pmSync x0) := by
  unfold pmSync
  extract_lets v0
  clear_value v0
  apply onCen_good
  assumption

theorem pmPut_good {pq : List Instr} {x0 : PmEntity → Bool} {x1 : PmStep} {x2 : State} (hx2 : Good pq x2) : Good pq (pmPut x0 x1 x2) := by
  unfold pmPut
  apply onCen_good
  assumption

theorem pmStep_good {pq : List Instr} {x0 : Nat} {x1 : Nat} {x2 : State} (hx2 : Good pq x2) : Good pq (pmStep x0 x1 x2) := by
  unfold pmStep
  extract_lets v0 v1
  clear_value v0
  have hv1 : Good pq v1 := by
    unfold v1
    apply pmPut_good
    assumption
  clear_value v1
  apply onCen_good
  assumption

theorem pmShift_good {pq : List Instr} {x0 : Bool} {x1 : State} (hx1 : Good pq x1) : Good pq (pmShift x0 x1) := by
  unfold pmShift
  apply onCen_good
  apply pmPut_good
  assumption

theorem pmAlign_good {pq : List Instr} {x0 : State} {x1 : State} (_ : Good pq x0) (hx1 : Good pq x1) : Good pq (pmAlign x0 x1) := by
  unfold pmAlign
  refine ite_good (fun _ => ?_) (fun _ => ?_)
  · assumption
  · apply pmPut_good
    apply pmShift_good
    apply pmShift_good
    apply pmPut_good
    assumption

/-! ### SafetyFn -/

theorem raiseTrip_good {pq : List Instr} {x0 : Fin 2} {x1 : Nat} {x2 : Nat} {x3 : State} (hx3 : Good pq x3) : Good pq (raiseTrip x0 x1 x2 x3) := by
  unfold raiseTrip
  apply raiseAon_good
  apply onSafe_good
  assumption

theorem driveLight_good {pq : List Instr} {x0 : Bool} {x1 : Fin 2} {x2 : State} (hx2 : Good pq x2) : Good pq (driveLight x0 x1 x2) := by
  unfold driveLight
  extract_lets v0 v1 v2 v3
  try clear_value v0 v1
  have hv2 : Good pq v2 := by
    unfold v2
    apply onSafe_good
    assumption
  try clear_value v2
  have hv3 : Good pq v3 := by
    unfold v3
    apply raiseAon_good
    assumption
  try clear_value v3
  refine ite_good (fun _ => ?_) (fun _ => ?_)
  · assumption
  · split
    · refine ite_good (fun _ => ?_) (fun _ => ?_)
      · assumption
      · apply raiseTrip_good
        assumption
    · assumption

theorem driveAll_good {pq : List Instr} {x0 : State} (hx0 : Good pq x0) : Good pq (driveAll x0) := by
  unfold driveAll
  apply driveLight_good
  apply driveLight_good
  assumption

theorem execSafetyConditionChange_good {pq : List Instr} {x0 : Fin 2} {x1 : State} (hx1 : Good pq x1) : GoodOut pq (execSafetyConditionChange x0 x1) :=
  next_goodOut (driveLight_good hx1)

theorem safetyLeave_good {pq : List Instr} {x0 : Fin 2} {x1 : State} (hx1 : Good pq x1) : Good pq (safetyLeave x0 x1) := by
  unfold safetyLeave
  apply driveLight_good
  apply onSafe_good
  assumption

theorem safetyLos_good {pq : List Instr} {x0 : Fin 2} {x1 : State} (hx1 : Good pq x1) : Good pq (safetyLos x0 x1) := by
  unfold safetyLos
  extract_lets v0
  clear_value v0
  refine ite_good (fun _ => ?_) (fun _ => ?_)
  · apply driveLight_good
    apply onSafe_good
    assumption
  · assumption

theorem safetyLosClear_good {pq : List Instr} {x0 : Fin 2} {x1 : State} (hx1 : Good pq x1) : Good pq (safetyLosClear x0 x1) := by
  unfold safetyLosClear
  apply driveLight_good
  apply onSafe_good
  assumption

theorem alsPin_good {pq : List Instr} {x0 : Fin 2} {x1 : Bool} {x2 : State} (hx2 : Good pq x2) : Good pq (alsPin x0 x1 x2) := by
  unfold alsPin
  extract_lets v0 v1
  try clear_value v0
  have hv1 : Good pq v1 := by
    unfold v1
    apply onSafe_good
    assumption
  try clear_value v1
  refine ite_good (fun _ => ?_) (fun _ => ?_)
  · apply driveLight_good
    apply raiseAon_good
    assumption
  · assumption

theorem execAlsPinChange_good {pq : List Instr} {x0 : Fin 2} {x1 : Bool} {x2 : State} (hx2 : Good pq x2) : GoodOut pq (execAlsPinChange x0 x1 x2) :=
  next_goodOut (alsPin_good hx2)

theorem alsPulseStart_good {pq : List Instr} {x0 : Fin 2} {x1 : State} (hx1 : Good pq x1) : Good pq (alsPulseStart x0 x1) := by
  unfold alsPulseStart
  refine ite_good (fun _ => ?_) (fun _ => ?_)
  · apply driveLight_good
    apply onSafe_good
    assumption
  · assumption

theorem execAlsPulseStart_good {pq : List Instr} {x0 : Fin 2} {x1 : State} (hx1 : Good pq x1) : GoodOut pq (execAlsPulseStart x0 x1) :=
  next_goodOut (alsPulseStart_good hx1)

theorem alsPulseEnd_good {pq : List Instr} {x0 : Fin 2} {x1 : State} (hx1 : Good pq x1) : Good pq (alsPulseEnd x0 x1) := by
  unfold alsPulseEnd
  refine ite_good (fun _ => ?_) (fun _ => ?_)
  · apply driveLight_good
    apply onSafe_good
    assumption
  · assumption

theorem execAlsPulseEnd_good {pq : List Instr} {x0 : Fin 2} {x1 : State} (hx1 : Good pq x1) : GoodOut pq (execAlsPulseEnd x0 x1) :=
  next_goodOut (alsPulseEnd_good hx1)

theorem latchDiag_good {pq : List Instr} {x0 : Nat} {x1 : Nat} {x2 : State} (hx2 : Good pq x2) : Good pq (latchDiag x0 x1 x2) := by
  unfold latchDiag
  extract_lets v0
  have hv0 : Good pq v0 := by
    unfold v0
    refine foldl_good (fun _ _ _ => ?_) ?_
    · try dsimp -zeta only
      refine ite_good (fun _ => ?_) (fun _ => ?_)
      · apply onSafe_good
        assumption
      · assumption
    · assumption
  try clear_value v0
  apply driveAll_good
  apply raiseAon_good
  assumption

theorem noteDiag_good {pq : List Instr} {x0 : DiagSample} {x1 : State} (hx1 : Good pq x1) : Good pq (noteDiag x0 x1) := by
  unfold noteDiag
  split
  · apply onSafe_good
    apply onSafe_good
    assumption
  · apply onSafe_good
    apply onSafe_good
    assumption
  · assumption

theorem diagTick_good {pq : List Instr} {x0 : DiagSample} {x1 : State} (hx1 : Good pq x1) : Good pq (diagTick x0 x1) := by
  unfold diagTick
  refine ite_good (fun _ => ?_) (fun _ => ?_)
  · assumption
  · extract_lets v0 v1 v2
    have hv0 : Good pq v0 := by
      unfold v0
      apply noteDiag_good
      assumption
    try clear_value v0 v1 v2
    refine ite_good (fun _ => ?_) (fun _ => ?_)
    · assumption
    · apply latchDiag_good
      assumption

theorem execSafetyDiagTick_good {pq : List Instr} {x0 : DiagSample} {x1 : State} (hx1 : Good pq x1) : GoodOut pq (execSafetyDiagTick x0 x1) := by
  unfold execSafetyDiagTick
  refine next_goodOut ?_
  apply diagTick_good
  assumption

theorem safetyResult_good {pq : List Instr} {x0 : Nat} {x1 : List Int} {x2 : Bool} {x3 : State} (hx3 : Good pq x3) : Good pq (safetyResult x0 x1 x2 x3) := by
  unfold safetyResult
  split
  · assumption
  · extract_lets v0 v1 v2 v3
    clear_value v0 v1 v2
    have hv3 : Good pq v3 := by
      unfold v3
      refine Good.lit ?_
      assumption
    clear_value v3
    apply driveAll_good
    refine foldl_good (fun _ _ _ => ?_) ?_
    · try dsimp -zeta only
      refine ite_good (fun _ => ?_) (fun _ => ?_)
      · apply raiseTrip_good
        apply onSafe_good
        assumption
      · assumption
    · assumption

theorem txenSet_good {pq : List Instr} {x0 : Request} {x1 : State} (hx1 : Good pq x1) : Good pq (txenSet x0 x1).1 := by
  unfold txenSet
  extract_lets v0 v1 v2 v3 v4 v5
  try clear_value v0
  try clear_value v1
  have hv2 : Good pq v2 := by
    unfold v2
    apply onSafe_good
    assumption
  try clear_value v2
  try clear_value v3
  have hv4 : Good pq v4 := by
    unfold v4
    refine ite_good (fun _ => ?_) (fun _ => ?_)
    · refine Good.lit ?_
      assumption
    · assumption
  try clear_value v4
  have hv5 : Good pq v5 := by
    unfold v5
    apply driveLight_good
    assumption
  try clear_value v5
  refine ite_good_1 (fun _ => ?_) (fun _ => ?_)
  · refine Good.fst ?_
    assumption
  · refine Good.fst ?_
    assumption

theorem execSafetyTxenSet_good {pq : List Instr} {x0 : Request} {x1 : State} (hx1 : Good pq x1) : GoodOut pq (execSafetyTxenSet x0 x1) := by
  unfold execSafetyTxenSet
  refine next_goodOut ?_
  apply deskRun_good
  · intro a0 a1 ha2
    try dsimp -zeta only
    apply txenSet_good
    assumption
  · assumption

theorem proofTest_good {pq : List Instr} {x0 : Word32} {x1 : Request} {x2 : State} (hx2 : Good pq x2) : Good pq (proofTest x0 x1 x2).1 := by
  unfold proofTest
  refine ite_good_1 (fun _ => ?_) (fun _ => ?_)
  · refine Good.fst ?_
    assumption
  · refine Good.fst ?_
    assumption

theorem execSafetyProofTest_good {pq : List Instr} {x0 : Request} {x1 : Word32} {x2 : State} (hx2 : Good pq x2) : GoodOut pq (execSafetyProofTest x0 x1 x2) := by
  unfold execSafetyProofTest
  refine next_goodOut ?_
  apply deskRun_good
  · intro a0 a1 ha2
    try dsimp -zeta only
    apply proofTest_good
    assumption
  · assumption

theorem execSafetyStatus_good {pq : List Instr} {x0 : Request} {x1 : State} (hx1 : Good pq x1) : GoodOut pq (execSafetyStatus x0 x1) := by
  unfold execSafetyStatus
  refine next_goodOut ?_
  apply deskRun_good
  · intro a0 a1 ha2
    try dsimp -zeta only
    apply sCommand_good
    assumption
  · assumption

/-! ### Stacks -/

theorem raiseWord_good {pq : List Instr} {x0 : Nat} {x1 : Nat} {x2 : State} (hx2 : Good pq x2) : Good pq (raiseWord x0 x1 x2) := by
  unfold raiseWord
  apply raise_good
  assumption

theorem countBank_good {pq : List Instr} {x0 : Nat} {x1 : BankCtr → BankCtr} {x2 : State} (hx2 : Good pq x2) : Good pq (countBank x0 x1 x2) := by
  unfold countBank
  refine onStk_good (fun _ hk => hk) ?_
  assumption

theorem trackCorrection_good {pq : List Instr} {x0 : Nat} {x1 : List Byte} {x2 : List Nat} {x3 : Bool} {x4 : State} (hv : x1.length ≤ 72) (hx4 : Good pq x4) : Good pq (trackCorrection x0 x1 x2 x3 x4) := by
  unfold trackCorrection
  extract_lets v0 v1 v2 v3 v4 v5 v6 v7
  clear_value v0 v1 v2 v3
  have hv4 : ∀ a8 a9, Good pq a9 → Good pq (v4 a8 a9) := by
    intro a8 a9 ha10
    unfold v4
    try dsimp -zeta only
    refine ite_good (fun _ => ?_) (fun _ => ?_)
    · assumption
    · refine onStk_good (fun _ hk => hk) ?_
      apply writeBack_good hv
      assumption
  clear_value v4
  have hv5 : Good pq v5 := by
    unfold v5
    apply raiseIf_good
    assumption
  clear_value v5
  have hv6 : Good pq v6 := by
    unfold v6
    refine onStk_good (fun _ hk => hk) ?_
    assumption
  clear_value v6 v7
  split
  · split
    · assumption
    · extract_lets v11 v12 v13 v14
      clear_value v11
      have hv12 : Good pq v12 := by
        unfold v12
        refine onStk_good (fun _ hk => hk) ?_
        assumption
      clear_value v12
      have hv13 : Good pq v13 := by
        unfold v13
        apply raiseIf_good
        assumption
      clear_value v13
      have hv14 : Good pq v14 := by
        unfold v14
        apply raiseIf_good
        assumption
      clear_value v14
      refine ite_good (fun _ => ?_) (fun _ => ?_)
      · refine hv4 _ _ ?_
        · assumption
      · assumption
  · split
    · refine ite_good (fun _ => ?_) (fun _ => ?_)
      · refine onStk_good (fun _ hk => hk) ?_
        apply writeBack_good hv
        assumption
      · assumption
    · extract_lets v15
      have hv15 : Good pq v15 := by
        unfold v15
        refine onStk_good (fun _ hk => hk) ?_
        assumption
      clear_value v15
      refine ite_good (fun _ => ?_) (fun _ => ?_)
      · refine hv4 _ _ ?_
        · assumption
      · assumption

theorem stkRead_good {pq : List Instr} {x0 : Nat} {x1 : Option (Nat × Nat)} {x2 : Bool} {x3 : Bool} {x4 : State} (hx4 : Good pq x4) : Good pq (stkRead x0 x1 x2 x3 x4).2 := by
  unfold stkRead
  extract_lets v0 v1 v2 v3 v4 v5 v6 v7 v8
  have hv0 : v0.length = 72 := word_length
  clear_value v0
  have hv1 : Good pq v1 := by
    unfold v1
    refine onStk_good (fun _ hk => hk) ?_
    assumption
  clear_value v1 v2
  have hv3 : ∀ a9 a10 a11, Good pq a11 → Good pq (v3 a9 a10 a11).2 := by
    intro a9 a10 a11 ha12
    unfold v3
    try dsimp -zeta only
    split
    · refine Good.snd ?_
      assumption
    · refine ite_good_2 (fun _ => ?_) (fun _ => ?_)
      · refine Good.snd ?_
        assumption
      · refine Good.snd ?_
        apply raiseWord_good
        apply countBank_good
        assumption
  clear_value v3
  have hv4 : Good pq v4 := by
    unfold v4
    refine onStk_good (fun _ hk => hk) ?_
    assumption
  clear_value v4
  have hv5 : Good pq v5 := by
    unfold v5
    apply countBank_good
    assumption
  clear_value v5
  have hv6 : Good pq v6 := by
    unfold v6
    apply countBank_good
    assumption
  clear_value v6
  have hv7 : Good pq v7 := by
    unfold v7
    apply raiseWord_good
    apply countBank_good
    assumption
  clear_value v7
  have hv8 : Good pq v8 := by
    unfold v8
    refine ite_good (fun _ => ?_) (fun _ => ?_)
    · assumption
    · refine onStk_good (fun _ hk => hk) ?_
      apply writeBack_good poisonWord_length
      assumption
  clear_value v8
  split
  · refine ite_good_2 (fun _ => ?_) (fun _ => ?_)
    · refine hv3 _ _ _ ?_
      · refine ite_good (fun _ => ?_) (fun _ => ?_)
        · refine onStk_good (fun _ hk => hk) ?_
          assumption
        · assumption
    · refine hv3 _ _ _ ?_
      · assumption
  · rename_i hd
    have hl := (rsDecode_length hd).trans hv0
    extract_lets v13 v14
    have hv13 : Good pq v13 := by
      unfold v13
      apply trackCorrection_good (Nat.le_of_eq hl)
      assumption
    clear_value v13
    have hv14 : Good pq v14 := by
      unfold v14
      refine ite_good (fun _ => ?_) (fun _ => ?_)
      · refine onStk_good (fun _ hk => hk) ?_
        apply writeBack_good (Nat.le_of_eq hl)
        assumption
      · assumption
    clear_value v14
    refine hv3 _ _ _ ?_
    · assumption
  · refine Good.snd ?_
    assumption

theorem stkNarrow_good {pq : List Instr} {x0 : Nat} {x1 : Nat} {x2 : List Byte} {x3 : Nat} {x4 : State} (hx4 : Good pq x4) : Good pq (stkNarrow x0 x1 x2 x3 x4) := by
  unfold stkNarrow
  extract_lets v0 v1 v2 v3
  have hv0 : v0.length = 72 := word_length
  clear_value v0
  have hv1 : ∀ y b, (v1 y b).length ≤ 72 := fun y b => Nat.le_of_eq mkWord_length
  clear_value v1
  have hv2 : ∀ a4 a5, a4.length ≤ 72 → Good pq a5 → Good pq (v2 a4 a5) := by
    intro a4 a5 hl ha6
    unfold v2
    try dsimp -zeta only
    exact onStk_good (fun k hk => (show ((k.store x0 a4).noteWrite x0).sound = true from store_sound hl hk)) ha6
  clear_value v2
  have hv3 : ∀ a7, Good pq a7 → Good pq (v3 a7) := by
    intro a7 ha8
    unfold v3
    try dsimp -zeta only
    apply raiseWord_good
    refine onStk_good (fun _ hk => hk) ?_
    assumption
  clear_value v3
  split
  · refine ite_good (fun _ => ?_) (fun _ => ?_)
    · refine hv3 _ ?_
      · refine hv2 _ _ (hv1 _ _) ?_
        · assumption
    · refine hv2 _ _ (hv1 _ _) ?_
      · assumption
  · rename_i hd
    have hl := (rsDecode_length hd).trans hv0
    extract_lets v9
    have hv9 : Good pq v9 := by
      unfold v9
      refine hv2 _ _ (hv1 _ _) ?_
      · apply trackCorrection_good (Nat.le_of_eq hl)
        apply countBank_good
        assumption
    clear_value v9
    refine ite_good (fun _ => ?_) (fun _ => ?_)
    · refine hv3 _ ?_
      · assumption
    · assumption
  · refine hv3 _ ?_
    · apply raiseWord_good
      refine hv2 _ _ (hv1 _ _) ?_
      · apply countBank_good
        assumption

theorem poisonOut_good {pq : List Instr} {x0 : Nat} {x1 : State} (hx1 : Good pq x1) : Good pq (poisonOut x0 x1) := by
  unfold poisonOut
  apply raise_good
  refine onStk_good (fun _ hk => hk) ?_
  assumption

theorem poisonOutIf_good {pq : List Instr} {x0 : Bool} {x1 : Nat} {x2 : State} (hx2 : Good pq x2) : Good pq (poisonOutIf x0 x1 x2) := by
  unfold poisonOutIf
  refine ite_good (fun _ => ?_) (fun _ => ?_)
  · apply poisonOut_good
    assumption
  · assumption

theorem runReq_good {pq : List Instr} {x0 : StkReq} {x1 : State} (hx1 : Good pq x1) : Good pq (runReq x0 x1) := by
  unfold runReq
  split
  · extract_lets v0
    have hv0 : Good pq v0.2 := by
      unfold v0
      apply stkRead_good
      assumption
    clear_value v0
    refine onStk_good (fun _ hk => hk) ?_
    assumption
  · apply stkWrite_good
    assumption
  · apply stkNarrow_good
    assumption

theorem submit_good {pq : List Instr} {x0 : StkReq} {x1 : State} (hx1 : Good pq x1) : Good pq (submit x0 x1) := by
  unfold submit
  extract_lets v0
  clear_value v0
  split
  · next room =>
    apply runReq_good
    exact ⟨hx1.queue, ⟨hx1.sound.chutes, tag_sound room hx1.sound.stk, hx1.sound.evt, hx1.sound.desk⟩⟩
  · refine onStk_good (fun _ hk => hk) ?_
    assumption

theorem execStacksRead_good {pq : List Instr} {x0 : Fin 2147483648} {x1 : Option (Nat × Nat)} {x2 : Bool} {x3 : State} (hx3 : Good pq x3) : GoodOut pq (execStacksRead x0 x1 x2 x3) :=
  next_goodOut (submit_good hx3)

theorem execStacksWholeWrite_good {pq : List Instr} {x0 : Fin 2147483648} {x1 : List Byte} {x2 : Nat} {x3 : Nat} {x4 : Bool} {x5 : Bool} {x6 : Bool} {x7 : State} (hx7 : Good pq x7) : GoodOut pq (execStacksWholeWrite x0 x1 x2 x3 x4 x5 x6 x7) :=
  next_goodOut (submit_good hx7)

theorem execNarrowWrite_good {pq : List Instr} {x0 : Fin 2147483648} {x1 : Fin 64} {x2 : List Byte} {x3 : State} (hx3 : Good pq x3) : GoodOut pq (execNarrowWrite x0 x1 x2 x3) :=
  next_goodOut (submit_good hx3)

theorem tagFreed_good {pq : List Instr} {x0 : Fin 64} {x1 : State} (hx1 : Good pq x1) : Good pq (tagFreed x0 x1) := by
  unfold tagFreed
  split
  · apply runReq_good
    refine onStk_good (fun _ hk => hk) ?_
    assumption
  · refine onStk_good (fun _ hk => untag_sound hk) ?_
    assumption

theorem execTagFreed_good {pq : List Instr} {x0 : Fin 64} {x1 : State} (hx1 : Good pq x1) : GoodOut pq (execTagFreed x0 x1) :=
  next_goodOut (tagFreed_good hx1)

theorem scrubRead_good {pq : List Instr} {x0 : Bool} {x1 : State} (hx1 : Good pq x1) : Good pq (scrubRead x0 x1) := by
  unfold scrubRead
  refine ite_good (fun _ => ?_) (fun _ => ?_)
  · split
    · refine onStk_good (fun _ hk => hk) ?_
      apply stkRead_good
      assumption
    · extract_lets v0
      have hv0 : Good pq v0 := by
        unfold v0
        refine onStk_good (fun _ hk => hk) ?_
        assumption
      clear_value v0
      split
      · refine onStk_good (fun _ hk => hk) ?_
        apply stkRead_good
        assumption
      · assumption
  · assumption

theorem execScrubRead_good {pq : List Instr} {x0 : Bool} {x1 : State} (hx1 : Good pq x1) : GoodOut pq (execScrubRead x0 x1) :=
  next_goodOut (scrubRead_good hx1)

/-! ### PowerOps -/

theorem onDom_good {pq : List Instr} {x0 : Nat} {x1 : Domain → Domain} {x2 : State} (hx2 : Good pq x2) : Good pq (onDom x0 x1 x2) := by
  unfold onDom
  apply onPwr_good
  assumption

theorem queueStages_good {pq : List Instr} {x0 : Nat} {x1 : State} (hx1 : Good pq x1) : Good pq (queueStages x0 x1) := by
  unfold queueStages
  extract_lets v0 v1
  clear_value v0 v1
  apply onPwr_good
  assumption

theorem onRail_good {pq : List Instr} {x0 : Nat} {x1 : Rail → Rail} {x2 : State} (hx2 : Good pq x2) : Good pq (onRail x0 x1 x2) := by
  unfold onRail
  apply onHouse_good
  assumption

theorem raiseRail_good {pq : List Instr} {x0 : Nat} {x1 : Nat} {x2 : State} (hx2 : Good pq x2) : Good pq (raiseRail x0 x1 x2) := by
  unfold raiseRail
  apply onPwr_good
  apply onRail_good
  assumption

theorem startStages_good {pq : List Instr} {x0 : Nat} {x1 : State} (hx1 : Good pq x1) : Good pq (startStages x0 x1) := by
  unfold startStages
  split
  · apply queueStages_good
    assumption
  · refine foldl_good (fun _ _ _ => ?_) ?_
    · try dsimp -zeta only
      apply raiseRail_good
      assumption
    · assumption

theorem beginDomain_good {pq : List Instr} {x0 : Nat} {x1 : DomState} {x2 : State} (hx2 : Good pq x2) : Good pq (beginDomain x0 x1 x2) := by
  unfold beginDomain
  extract_lets v0 v1 v2 v3 v4
  try clear_value v0 v1
  have hv2 : Good pq v2 := by
    unfold v2
    refine ite_good (fun _ => ?_) (fun _ => ?_)
    · assumption
    · apply beginInternal_good
      assumption
  try clear_value v2
  have hv3 : Good pq v3 := by
    unfold v3
    apply onDom_good
    assumption
  try clear_value v3
  have hv4 : Good pq v4 := by
    unfold v4
    refine ite_good (fun _ => ?_) (fun _ => ?_)
    · apply pmPut_good
      assumption
    · assumption
  try clear_value v4
  refine ite_good (fun _ => ?_) (fun _ => ?_)
  · apply startStages_good
    apply onDom_good
    assumption
  · refine ite_good (fun _ => ?_) (fun _ => ?_)
    · apply convLeave_good
      apply safetyLeave_good
      assumption
    · assumption

theorem requestDomain_good {pq : List Instr} {x0 : Nat} {x1 : DomState} {x2 : State} (hx2 : Good pq x2) : Good pq (requestDomain x0 x1 x2) := by
  unfold requestDomain
  extract_lets v0
  clear_value v0
  refine ite_good (fun _ => ?_) (fun _ => ?_)
  · refine ite_good (fun _ => ?_) (fun _ => ?_)
    · assumption
    · apply onDom_good
      assumption
  · refine ite_good (fun _ => ?_) (fun _ => ?_)
    · assumption
    · apply beginDomain_good
      assumption

theorem lowerRails_good {pq : List Instr} {x0 : Nat} {x1 : State} (hx1 : Good pq x1) : Good pq (lowerRails x0 x1) := by
  unfold lowerRails
  refine foldl_good (fun _ _ _ => ?_) ?_
  · try dsimp -zeta only
    extract_lets v0
    try clear_value v0
    refine ite_good (fun _ => ?_) (fun _ => ?_)
    · apply onRail_good
      assumption
    · assumption
  · assumption

theorem settleDomain_good {pq : List Instr} {x0 : Nat} {x1 : DomState} {x2 : Bool} {x3 : State} (hx3 : Good pq x3) : Good pq (settleDomain x0 x1 x2 x3) := by
  unfold settleDomain
  extract_lets v0 v1 v2 v3 v4
  try clear_value v0
  have hv1 : Good pq v1 := by
    unfold v1
    apply onDom_good
    assumption
  try clear_value v1
  have hv2 : Good pq v2 := by
    unfold v2
    refine ite_good (fun _ => ?_) (fun _ => ?_)
    · apply loseStack_good
      apply lowerRails_good
      assumption
    · refine ite_good (fun _ => ?_) (fun _ => ?_)
      · apply pmPut_good
        assumption
      · apply lowerRails_good
        assumption
  try clear_value v2
  have hv3 : Good pq v3 := by
    unfold v3
    apply raise_good
    assumption
  try clear_value v3
  have hv4 : Good pq v4 := by
    unfold v4
    apply endTransition_good
    apply onDom_good
    assumption
  try clear_value v4
  split
  · apply beginDomain_good
    assumption
  · split
    · assumption
    · refine ite_good (fun _ => ?_) (fun _ => ?_)
      · assumption
      · apply beginDomain_good
        assumption

theorem admissionStart_good {pq : List Instr} {x0 : State} (hx0 : Good pq x0) : Good pq (admissionStart x0) := by
  unfold admissionStart
  split
  · assumption
  · refine ite_good (fun _ => ?_) (fun _ => ?_)
    · extract_lets v0 v1 v2
      have hv0 : Good pq v0 := by
        unfold v0
        apply onPwr_good
        assumption
      clear_value v0
      have hv1 : Good pq v1 := by
        unfold v1
        apply onDom_good
        assumption
      clear_value v1 v2
      refine ite_good (fun _ => ?_) (fun _ => ?_)
      · apply settleDomain_good
        assumption
      · assumption
    · apply raise_good
      apply onPwr_good
      assumption

theorem stacksToRun_good {pq : List Instr} {x0 : State} (hx0 : Good pq x0) : Good pq (stacksToRun x0) := by
  unfold stacksToRun
  refine foldl_good (fun _ _ _ => ?_) ?_
  · try dsimp -zeta only
    apply requestDomain_good
    assumption
  · assumption

/-! ### Chutes -/

theorem raiseChute_good {pq : List Instr} {x0 : Nat} {x1 : Fin 256} {x2 : ChuteId} {x3 : State} (hx3 : Good pq x3) : Good pq (raiseChute x0 x1 x2 x3) := by
  unfold raiseChute
  apply raise_good
  assumption

theorem chuteSettle_good {pq : List Instr} {k : Fin 256} {i : ChuteId} {s : State} (e : chuteId k.val = some i) (h : Good pq s) :
    Good pq (chuteSettle k i s) :=
  onChute_good (fun hc => chute_settle_sound (chuteId_room e) hc) h

theorem chuteWrite_good {pq : List Instr} {k : Fin 256} {x : Item} {s : State} (h : Good pq s) : Good pq (chuteWrite k x s) := by
  unfold chuteWrite
  split
  · exact h
  · next i ei =>
    extract_lets t c
    have hr := chuteId_room ei
    have h : Good pq t := chuteSettle_good ei h
    clear_value t
    split
    · exact h
    · split
      · next p ep =>
        split
        · refine raiseChute_good (onChute_good (fun hc => ?_) h)
          rw [chuteSound_iff] at *
          refine ⟨hc.1, .inr ?_, hc.2.2⟩
          rcases hc.2.1 with e | e
          · rw [show t.chutes[k].pendingWrite = some p from ep] at e; cases e
          · exact e
        · exact h
      · next ep =>
        split
        · exact h
        · split
          · next lt => exact onChute_good (fun hc => packetOf_sound (enter_sound hc (hr ▸ lt) ep)) h
          · next ge =>
            refine onChute_good (fun hc => packetOf_sound ?_) h
            rw [chuteSound_iff] at *
            refine ⟨hc.1, .inr (.inl ?_), hc.2.2⟩
            have h1 : t.chutes[k].held ≤ chuteRoom k.val := hc.1
            have h2 : ¬ t.chutes[k].held < chuteRoom k.val := hr ▸ ge
            show t.chutes[k].held = _
            omega

theorem execChuteWrite_good {pq : List Instr} {x0 : Fin 256} {x1 : Nat} {x2 : Nat} {x3 : BitVec 3} {x4 : BitVec 3} {x5 : State} (hx5 : Good pq x5) : GoodOut pq (execChuteWrite x0 x1 x2 x3 x4 x5) := by
  unfold execChuteWrite
  extract_lets v0
  try clear_value v0
  refine next_goodOut ?_
  apply chuteWrite_good
  assumption

theorem absorbMarks_good {pq : List Instr} {x0 : Nat} {x1 : State} {x2 : Chute} (hx1 : Good pq x1) : Good pq (absorbMarks x0 x1 x2).2 := by
  unfold absorbMarks
  split
  · extract_lets v0 v1
    clear_value v0 v1
    refine Good.snd ?_
    refine ite_good (fun _ => ?_) (fun _ => ?_)
    · apply onCen_good
      assumption
    · assumption
  · refine Good.snd ?_
    assumption

theorem chuteAbsorb_good {pq : List Instr} {k : Fin 256} {s : State} (h : Good pq s) : Good pq (chuteAbsorb k s) := by
  unfold chuteAbsorb
  extract_lets r
  have hr : Good pq r.2 := by
    unfold r absorbMarks
    split
    · dsimp only
      split
      · exact onCen_good h
      · exact h
    · exact h
  refine onChute_good (fun _ => ?_) hr
  exact absorb_sound (h.sound.chutes k)

theorem execChuteMarkAbsorb_good {pq : List Instr} {x0 : Fin 256} {x1 : State} (hx1 : Good pq x1) : GoodOut pq (execChuteMarkAbsorb x0 x1) :=
  next_goodOut (chuteAbsorb_good hx1)

theorem countPoison_good {pq : List Instr} {x0 : ChuteId} {x1 : Bool} {x2 : State} (hx2 : Good pq x2) : Good pq (countPoison x0 x1 x2) := by
  unfold countPoison
  refine ite_good (fun _ => ?_) (fun _ => ?_)
  · refine Good.lit ?_
    assumption
  · assumption

theorem chuteTake_good {pq : List Instr} {k : Fin 256} {i : ChuteId} {s : State} (e : chuteId k.val = some i) (h : Good pq s) :
    Good pq (chuteTake k i s) := by
  unfold chuteTake
  extract_lets c s1
  have h1 : Good pq s1 := onChute_good (fun hc => take_sound (chuteId_room e) hc) h
  clear_value s1 c
  split
  · extract_lets s2
    have h2 : Good pq s2 := countPoison_good h1
    clear_value s2
    exact ite_good (fun _ => raiseChute_good h2) (fun _ => h2)
  · exact h1

theorem chuteRead_good {pq : List Instr} {k : Fin 256} {s : State} (h : Good pq s) : Good pq (chuteRead k s) := by
  unfold chuteRead
  split
  · exact h
  · next i ei =>
    extract_lets s1 c
    have h1 : Good pq s1 := chuteAbsorb_good (chuteSettle_good ei h)
    clear_value s1 c
    exact ite_good (fun _ => chuteTake_good ei h1) fun _ => ite_good (fun _ => h1) fun _ => onChute_good (fun hc => hc) h1

theorem execChuteRead_good {pq : List Instr} {x0 : Fin 256} {x1 : State} (hx1 : Good pq x1) : GoodOut pq (execChuteRead x0 x1) :=
  next_goodOut (chuteRead_good hx1)

theorem chuteRest_good {pq : List Instr} {k : Fin 256} {s : State} (h : Good pq s) : Good pq (chuteRest k s) := by
  unfold chuteRest
  split
  · exact h
  · next i ei =>
    extract_lets s1
    have h1 : Good pq s1 := onChute_good (fun hc => rest_sound hc) (chuteSettle_good ei h)
    clear_value s1
    exact ite_good (fun _ => chuteTake_good ei h1) fun _ => h1

theorem execChuteItemRest_good {pq : List Instr} {x0 : Fin 256} {x1 : State} (hx1 : Good pq x1) : GoodOut pq (execChuteItemRest x0 x1) := by
  unfold execChuteItemRest
  refine next_goodOut ?_
  apply chuteRest_good
  assumption

theorem chuteStall_good {pq : List Instr} {k : Fin 256} {s : State} (h : Good pq s) : Good pq (chuteStall k s) := by
  unfold chuteStall
  split
  · exact h
  · dsimp only
    split
    · exact h
    · exact raiseChute_good (onChute_good (fun hc => hc) h)

theorem execChuteStall_good {pq : List Instr} {x0 : Fin 256} {x1 : State} (hx1 : Good pq x1) : GoodOut pq (execChuteStall x0 x1) :=
  next_goodOut (chuteStall_good hx1)

theorem chutePoison_good {pq : List Instr} {x0 x1 : Nat} {x2 : State} (hx2 : Good pq x2) : Good pq (chutePoison x0 x1 x2).2 := by
  unfold chutePoison
  split
  · exact updChute_good (fun _ _ hc => hc) hx2
  · exact hx2

/-! ### TimeServo -/

theorem applyStep_good {pq : List Instr} {x0 : State} (hx0 : Good pq x0) : Good pq (applyStep x0) := by
  unfold applyStep
  refine ite_good (fun _ => ?_) (fun _ => ?_)
  · assumption
  · extract_lets v0
    have hv0 : ∀ a1, Good pq (v0 a1) := by
      intro a1
      unfold v0
      try dsimp -zeta only
      apply pmStep_good
      apply onTime_good
      assumption
    clear_value v0
    split
    · exact hv0 _
    · exact hv0 _
    · assumption

theorem timeTick_good {pq : List Instr} {x0 : Nat} {x1 : State} (hx1 : Good pq x1) : Good pq (timeTick x0 x1) := by
  unfold timeTick
  extract_lets v0 v1 v2 v3 v4 v5
  clear_value v0 v1 v2 v3 v4 v5
  apply applyStep_good
  refine Good.lit ?_
  assumption

theorem execTimeTick_good {pq : List Instr} {x0 : Nat} {x1 : State} (hx1 : Good pq x1) : GoodOut pq (execTimeTick x0 x1) := by
  unfold execTimeTick
  refine next_goodOut ?_
  refine ite_good (fun _ => ?_) (fun _ => ?_)
  · apply timeTick_good
    assumption
  · assumption

theorem reselect_good {pq : List Instr} {x0 : State} (hx0 : Good pq x0) : Good pq (reselect x0) := by
  unfold reselect
  extract_lets v0 v1 v2 v3
  try clear_value v0
  have hv1 : Good pq v1 := by
    unfold v1
    apply onTime_good
    assumption
  try clear_value v1 v2
  have hv3 : Good pq v3 := by
    unfold v3
    apply raise0_good
    apply onTime_good
    refine Good.lit ?_
    assumption
  try clear_value v3
  refine ite_good (fun _ => ?_) (fun _ => ?_)
  · assumption
  · split
    · apply raise0_good
      apply onTime_good
      assumption
    · apply raise0_good
      apply onTime_good
      assumption
    · apply onTime_good
      assumption
    · apply onTime_good
      assumption
    · assumption

theorem timeSourceTimer_good {pq : List Instr} {x0 : SourceTimer} {x1 : State} (hx1 : Good pq x1) : Good pq (timeSourceTimer x0 x1) := by
  unfold timeSourceTimer
  split
  · apply reselect_good
    apply onTime_good
    assumption
  · apply reselect_good
    apply onTime_good
    assumption
  · apply reselect_good
    apply onLink_good
    assumption
  · split
    · refine ite_good (fun _ => ?_) (fun _ => ?_)
      · apply reselect_good
        apply onTime_good
        assumption
      · apply reselect_good
        assumption
    · assumption

theorem execTimeSourceTimer_good {pq : List Instr} {x0 : SourceTimer} {x1 : State} (hx1 : Good pq x1) : GoodOut pq (execTimeSourceTimer x0 x1) :=
  next_goodOut (timeSourceTimer_good hx1)

theorem slew_good {pq : List Instr} {x0 : Int} {x1 : State} (hx1 : Good pq x1) : Good pq (slew x0 x1) := by
  unfold slew
  extract_lets v0 v1 v2 v3
  clear_value v0 v1 v2 v3
  apply onTime_good
  assumption

theorem stepBy_good {pq : List Instr} {x0 : Int} {x1 : State} (hx1 : Good pq x1) : Good pq (stepBy x0 x1) := by
  unfold stepBy
  apply raise_good
  apply onTime_good
  assumption

theorem followSource_good {pq : List Instr} {x0 : State} (hx0 : Good pq x0) : Good pq (followSource x0) := by
  unfold followSource
  split
  · split
    · apply onTime_good
      assumption
    · assumption
  · assumption

theorem servoWindow_good {pq : List Instr} {x0 : State} (hx0 : Good pq x0) : Good pq (servoWindow x0) := by
  unfold servoWindow
  extract_lets v0 v1 v2
  try clear_value v0 v1 v2
  split
  · extract_lets v3 v4
    have hv3 : Good pq v3 := by
      unfold v3
      apply onTime_good
      assumption
    try clear_value v3
    have hv4 : Good pq v4 := by
      unfold v4
      apply followSource_good
      apply slew_good
      assumption
    try clear_value v4
    split
    · apply followSource_good
      apply stepBy_good
      apply onTime_good
      assumption
    · refine ite_good (fun _ => ?_) (fun _ => ?_)
      · apply followSource_good
        apply stepBy_good
        assumption
      · refine ite_good (fun _ => ?_) (fun _ => ?_)
        · apply raise_good
          assumption
        · assumption
    · assumption
  · assumption

theorem servoWindowEnd_good {pq : List Instr} {x0 : State} (hx0 : Good pq x0) : Good pq (servoWindowEnd x0) := by
  unfold servoWindowEnd
  extract_lets v0
  have hv0 : Good pq v0 := by
    unfold v0
    apply servoWindow_good
    assumption
  try clear_value v0
  refine Good.lit ?_
  assumption

theorem execServoWindowEnd_good {pq : List Instr} {x0 : State} (hx0 : Good pq x0) : GoodOut pq (execServoWindowEnd x0) := by
  unfold execServoWindowEnd
  refine next_goodOut ?_
  apply pmAlign_good
  · assumption
  · apply servoWindowEnd_good
    assumption

theorem addSample_good {pq : List Instr} {x0 : Int} {x1 : State} (hx1 : Good pq x1) : Good pq (addSample x0 x1) := by
  unfold addSample
  apply onTime_good
  assumption

theorem timeSet_good {pq : List Instr} {x0 : Request} {x1 : State} (hx1 : Good pq x1) : Good pq (timeSet x0 x1).1 := by
  unfold timeSet
  refine ite_good_1 (fun _ => ?_) (fun _ => ?_)
  · refine Good.fst ?_
    assumption
  · refine ite_good_1 (fun _ => ?_) (fun _ => ?_)
    · refine Good.fst ?_
      assumption
    · extract_lets v0 v1 v2
      clear_value v0 v1
      have hv2 : Good pq v2 := by
        unfold v2
        apply onTime_good
        assumption
      clear_value v2
      refine Good.fst ?_
      apply reselect_good
      apply raise_good
      assumption

theorem execTimeSet_good {pq : List Instr} {x0 : Request} {x1 : State} (hx1 : Good pq x1) : GoodOut pq (execTimeSet x0 x1) := by
  unfold execTimeSet
  refine next_goodOut ?_
  apply deskRun_good
  · intro a0 a1 ha2
    try dsimp -zeta only
    apply timeSet_good
    assumption
  · assumption

theorem timeAdjust_good {pq : List Instr} {x0 : Request} {x1 : State} (hx1 : Good pq x1) : Good pq (timeAdjust x0 x1).1 := by
  unfold timeAdjust
  refine ite_good_1 (fun _ => ?_) (fun _ => ?_)
  · refine Good.fst ?_
    assumption
  · refine ite_good_1 (fun _ => ?_) (fun _ => ?_)
    · refine Good.fst ?_
      assumption
    · refine Good.fst ?_
      apply onTime_good
      assumption

theorem execTimeAdjust_good {pq : List Instr} {x0 : Request} {x1 : State} (hx1 : Good pq x1) : GoodOut pq (execTimeAdjust x0 x1) := by
  unfold execTimeAdjust
  refine next_goodOut ?_
  apply deskRun_good
  · intro a0 a1 ha2
    try dsimp -zeta only
    apply timeAdjust_good
    assumption
  · assumption

theorem slewComplete_good {pq : List Instr} {x0 : State} (hx0 : Good pq x0) : Good pq (slewComplete x0) := by
  unfold slewComplete
  apply onTime_good
  assumption

theorem execSlewComplete_good {pq : List Instr} {x0 : State} (hx0 : Good pq x0) : GoodOut pq (execSlewComplete x0) :=
  next_goodOut (slewComplete_good hx0)

theorem ppsInEdge_good {pq : List Instr} {x0 : Fin 400} {x1 : Nat} {x2 : State} (hx2 : Good pq x2) : Good pq (ppsInEdge x0 x1 x2) := by
  unfold ppsInEdge
  refine ite_good (fun _ => ?_) (fun _ => ?_)
  · assumption
  · extract_lets v0 v1 v2 v3 v4 v5 v6 v7
    try clear_value v0 v1 v2 v3
    have hv4 : Good pq v4 := by
      unfold v4
      apply onTime_good
      assumption
    try clear_value v4
    have hv5 : Good pq v5 := by
      unfold v5
      refine ite_good (fun _ => ?_) (fun _ => ?_)
      · apply raise_good
        apply onTime_good
        assumption
      · assumption
    try clear_value v5
    have hv6 : Good pq v6 := by
      unfold v6
      apply reselect_good
      assumption
    try clear_value v6 v7
    split
    · refine ite_good (fun _ => ?_) (fun _ => ?_)
      · extract_lets v8
        try clear_value v8
        apply addSample_good
        apply onTime_good
        assumption
      · assumption
    · assumption

theorem execPpsInEdge_good {pq : List Instr} {x0 : Fin 400} {x1 : Nat} {x2 : State} (hx2 : Good pq x2) : GoodOut pq (execPpsInEdge x0 x1 x2) := by
  unfold execPpsInEdge
  refine next_goodOut ?_
  apply pmAlign_good
  · assumption
  · apply ppsInEdge_good
    assumption

theorem todInMessage_good {pq : List Instr} {x0 : List Byte} {x1 : State} (hx1 : Good pq x1) : Good pq (todInMessage x0 x1) := by
  unfold todInMessage
  refine ite_good (fun _ => ?_) (fun _ => ?_)
  · apply onTime_good
    assumption
  · apply raise_good
    apply onTime_good
    assumption

theorem execTodInMessage_good {pq : List Instr} {x0 : List Byte} {x1 : State} (hx1 : Good pq x1) : GoodOut pq (execTodInMessage x0 x1) :=
  next_goodOut (todInMessage_good hx1)

theorem ppsOutEdge_good {pq : List Instr} {x0 : State} (hx0 : Good pq x0) : Good pq (ppsOutEdge x0) := by
  unfold ppsOutEdge
  extract_lets v0
  clear_value v0
  refine ite_good (fun _ => ?_) (fun _ => ?_)
  · apply onTime_good
    assumption
  · apply onTime_good
    assumption

theorem execPpsOutEdge_good {pq : List Instr} {x0 : State} (hx0 : Good pq x0) : GoodOut pq (execPpsOutEdge x0) :=
  next_goodOut (ppsOutEdge_good hx0)

theorem todOutSend_good {pq : List Instr} {x0 : State} (hx0 : Good pq x0) : Good pq (todOutSend x0) := by
  unfold todOutSend
  split
  · refine ite_good (fun _ => ?_) (fun _ => ?_)
    · apply onTime_good
      assumption
    · assumption
  · assumption

theorem execTodOutSend_good {pq : List Instr} {x0 : State} (hx0 : Good pq x0) : GoodOut pq (execTodOutSend x0) :=
  next_goodOut (todOutSend_good hx0)

theorem colophonRecord_good {pq : List Instr} {x0 : Fin 2} {x1 : Fin 16} {x2 : List Byte} {x3 : Bool} {x4 : State} (hx4 : Good pq x4) : Good pq (colophonRecord x0 x1 x2 x3 x4) := by
  unfold colophonRecord
  refine ite_good (fun _ => ?_) (fun _ => ?_)
  · apply onTime_good
    assumption
  · extract_lets v0 v1
    clear_value v0 v1
    refine ite_good (fun _ => ?_) (fun _ => ?_)
    · apply onLink_good
      assumption
    · refine ite_good (fun _ => ?_) (fun _ => ?_)
      · apply onLink_good
        assumption
      · assumption

theorem execColophonRecordReceived_good {pq : List Instr} {x0 : Fin 2} {x1 : Fin 16} {x2 : List Byte} {x3 : State} (hx3 : Good pq x3) : GoodOut pq (execColophonRecordReceived x0 x1 x2 x3) := by
  unfold execColophonRecordReceived
  extract_lets v0
  have hv0 : Good pq v0.2 := by
    unfold v0
    apply chutePoison_good
    assumption
  try clear_value v0
  refine next_goodOut ?_
  apply reselect_good
  apply colophonRecord_good
  assumption

theorem colophonSample_good {pq : List Instr} {x0 : Fin 2} {x1 : Fin 16} {x2 : State} (hx2 : Good pq x2) : Good pq (colophonSample x0 x1 x2) := by
  unfold colophonSample
  extract_lets v0
  clear_value v0
  split
  · split
    · extract_lets v1 v2 v3 v4 v5 v6 v7 v8 v9
      clear_value v1 v2 v3 v4 v5 v6
      have hv7 : Good pq v7 := by
        unfold v7
        apply onLink_good
        apply State.drawn_good
        assumption
      clear_value v7
      have hv8 : Good pq v8 := by
        unfold v8
        apply reselect_good
        assumption
      clear_value v8
      have hv9 : Good pq v9 := by
        unfold v9
        refine ite_good (fun _ => ?_) (fun _ => ?_)
        · apply addSample_good
          assumption
        · assumption
      clear_value v9
      apply onLink_good
      assumption
    · apply reselect_good
      apply onLink_good
      assumption
  · apply reselect_good
    apply onLink_good
    assumption

end Sys2Proof.Machine
end

