-- ==== Sys2Proof/Laws/Sound2.lean ====
section
/-! SUPPORT. Each effect of Sys2Proof/Machine/ in the files named below leaves the queue of commands alone and keeps a state sound:
TimeServo, TimeRefs, Regions, Conv, RxDsp. -/

namespace Sys2Proof.Machine

/-! ### TimeServo -/

theorem execColophonSample_good {pq : List Instr} {x0 : Fin 2} {x1 : Fin 16} {x2 : State} (hx2 : Good pq x2) : GoodOut pq (execColophonSample x0 x1 x2) :=
  next_goodOut (colophonSample_good hx2)

theorem timeBurstSend_good {pq : List Instr} {x0 : Fin 2} {x1 : Fin 16} {x2 : State} (hx2 : Good pq x2) : Good pq (timeBurstSend x0 x1 x2) := by
  unfold timeBurstSend
  refine ite_good (fun _ => ?_) (fun _ => ?_)
  · assumption
  · apply ilEnqueue_good
    assumption

theorem execTimeBurstSend_good {pq : List Instr} {x0 : Fin 2} {x1 : Fin 16} {x2 : State} (hx2 : Good pq x2) : GoodOut pq (execTimeBurstSend x0 x1 x2) :=
  next_goodOut (timeBurstSend_good hx2)

theorem timeBurstReceived_good {pq : List Instr} {x0 : Fin 2} {x1 : List Byte} {x2 : Nat} {x3 : State} (hx3 : Good pq x3) : Good pq (timeBurstReceived x0 x1 x2 x3) := by
  unfold timeBurstReceived
  extract_lets v0 v1
  try clear_value v0 v1
  refine ite_good (fun _ => ?_) (fun _ => ?_)
  · apply reselect_good
    apply onLink_good
    assumption
  · assumption

theorem onPtp_good {pq : List Instr} {x0 : Fin 48} {x1 : PtpBond → PtpBond} {x2 : State} (hx2 : Good pq x2) : Good pq (onPtp x0 x1 x2) := by
  unfold onPtp
  apply onTime_good
  assumption

theorem ptpIngress_good {pq : List Instr} {x0 : Fin 48} {x1 : Nat} {x2 : PtpMsg} {x3 : State} (hx3 : Good pq x3) : Good pq (ptpIngress x0 x1 x2 x3) := by
  unfold ptpIngress
  refine ite_good (fun _ => ?_) (fun _ => ?_)
  · extract_lets v0
    try clear_value v0
    apply onPtp_good
    assumption
  · apply onPtp_good
    assumption

theorem execPtpIngress_good {pq : List Instr} {x0 : Fin 48} {x1 : Fin 26} {x2 : PtpMsg} {x3 : State} (hx3 : Good pq x3) : GoodOut pq (execPtpIngress x0 x1 x2 x3) := by
  unfold execPtpIngress
  refine next_goodOut ?_
  apply ptpIngress_good
  assumption

theorem ptpEgress_good {pq : List Instr} {x0 : Fin 48} {x1 : Nat} {x2 : PtpMsg} {x3 : State} (hx3 : Good pq x3) : Good pq (ptpEgress x0 x1 x2 x3) := by
  unfold ptpEgress
  refine ite_good (fun _ => ?_) (fun _ => ?_)
  · extract_lets v0 v1 v2 v3 v4 v5
    try clear_value v0 v1 v2 v3 v4
    have hv5 : Good pq v5 := by
      unfold v5
      apply onPtp_good
      assumption
    try clear_value v5
    refine ite_good (fun _ => ?_) (fun _ => ?_)
    · apply raise_good
      assumption
    · assumption
  · apply onPtp_good
    assumption

theorem execPtpEgress_good {pq : List Instr} {x0 : Fin 48} {x1 : Fin 26} {x2 : PtpMsg} {x3 : State} (hx3 : Good pq x3) : GoodOut pq (execPtpEgress x0 x1 x2 x3) := by
  unfold execPtpEgress
  refine next_goodOut ?_
  apply ptpEgress_good
  assumption

theorem ptpTcSet_good {pq : List Instr} {x0 : Request} {x1 : State} (hx1 : Good pq x1) : Good pq (ptpTcSet x0 x1).1 := by
  unfold ptpTcSet
  refine ite_good_1 (fun _ => ?_) (fun _ => ?_)
  · refine Good.fst ?_
    assumption
  · refine ite_good_1 (fun _ => ?_) (fun _ => ?_)
    · refine Good.fst ?_
      assumption
    · refine Good.fst ?_
      apply keepBody_good
      assumption

theorem execPtpTcSet_good {pq : List Instr} {x0 : Request} {x1 : State} (hx1 : Good pq x1) : GoodOut pq (execPtpTcSet x0 x1) := by
  unfold execPtpTcSet
  refine next_goodOut ?_
  apply deskRun_good
  · intro a0 a1 ha2
    try dsimp -zeta only
    apply ptpTcSet_good
    assumption
  · assumption

theorem ppsInLos_good {pq : List Instr} {x0 : State} (hx0 : Good pq x0) : Good pq (ppsInLos x0) := by
  unfold ppsInLos
  refine ite_good (fun _ => ?_) (fun _ => ?_)
  · assumption
  · apply reselect_good
    apply raise_good
    apply onTime_good
    assumption

theorem timeSourceSet_good {pq : List Instr} {x0 : Request} {x1 : State} (hx1 : Good pq x1) : Good pq (timeSourceSet x0 x1).1 := by
  unfold timeSourceSet
  apply pCommand_good
  · intro a0 a1 ha2
    try dsimp -zeta only
    extract_lets v0 v1 v2
    have hv0 : Good pq v0 := by
      unfold v0
      apply applyRecs_good
      assumption
    try clear_value v0 v1
    have hv2 : Good pq v2 := by
      unfold v2
      refine ite_good (fun _ => ?_) (fun _ => ?_)
      · apply waitRecs_good
        assumption
      · apply applyRecs_good
        assumption
    try clear_value v2
    apply reselect_good
    refine ite_good (fun _ => ?_) (fun _ => ?_)
    · apply onTime_good
      assumption
    · assumption
  · assumption

theorem execTimeSourceSet_good {pq : List Instr} {x0 : Request} {x1 : State} (hx1 : Good pq x1) : GoodOut pq (execTimeSourceSet x0 x1) := by
  unfold execTimeSourceSet
  refine next_goodOut ?_
  apply deskRun_good
  · intro a0 a1 ha2
    try dsimp -zeta only
    apply timeSourceSet_good
    assumption
  · assumption

theorem timeLinkSet_good {pq : List Instr} {x0 : Request} {x1 : State} (hx1 : Good pq x1) : Good pq (timeLinkSet x0 x1).1 := by
  unfold timeLinkSet
  apply pCommand_good
  · intro a0 a1 ha2
    try dsimp -zeta only
    apply reselect_good
    apply applyRecs_good
    assumption
  · assumption

theorem execTimeLinkSet_good {pq : List Instr} {x0 : Request} {x1 : State} (hx1 : Good pq x1) : GoodOut pq (execTimeLinkSet x0 x1) := by
  unfold execTimeLinkSet
  refine next_goodOut ?_
  apply deskRun_good
  · intro a0 a1 ha2
    try dsimp -zeta only
    apply timeLinkSet_good
    assumption
  · assumption

theorem timePpsSet_good {pq : List Instr} {x0 : Request} {x1 : State} (hx1 : Good pq x1) : Good pq (timePpsSet x0 x1).1 := by
  unfold timePpsSet
  apply pCommand_good
  · intro a0 a1 ha2
    try dsimp -zeta only
    apply applyRecs_good
    assumption
  · assumption

theorem execTimePpsSet_good {pq : List Instr} {x0 : Request} {x1 : State} (hx1 : Good pq x1) : GoodOut pq (execTimePpsSet x0 x1) := by
  unfold execTimePpsSet
  refine next_goodOut ?_
  apply deskRun_good
  · intro a0 a1 ha2
    try dsimp -zeta only
    apply timePpsSet_good
    assumption
  · assumption

/-! ### TimeRefs -/

theorem onCand_good {pq : List Instr} {x0 : Fin 12} {x1 : Cand → Cand} {x2 : State} (hx2 : Good pq x2) : Good pq (onCand x0 x1 x2) := by
  unfold onCand
  apply onTime_good
  assumption

theorem retarget_good {pq : List Instr} {x0 : Nat} {x1 : State} (hx1 : Good pq x1) : Good pq (retarget x0 x1) := by
  unfold retarget
  extract_lets v0 v1 v2 v3
  have hv0 : Good pq v0 := by
    unfold v0
    apply onTime_good
    assumption
  clear_value v0 v1
  have hv2 : Good pq v2 := by
    unfold v2
    apply onTime_good
    assumption
  clear_value v2 v3
  split
  · refine ite_good (fun _ => ?_) (fun _ => ?_)
    · assumption
    · apply raise_good
      apply onTime_good
      assumption
  · refine ite_good (fun _ => ?_) (fun _ => ?_)
    · assumption
    · split
      · apply raise0_good
        apply onTime_good
        assumption
      · apply raise0_good
        apply onTime_good
        assumption

theorem loseQual_good {pq : List Instr} {x0 : Fin 12} {x1 : State} (hx1 : Good pq x1) : Good pq (loseQual x0 x1) := by
  unfold loseQual
  refine ite_good (fun _ => ?_) (fun _ => ?_)
  · apply raise_good
    apply onCand_good
    assumption
  · assumption

theorem refActivityLoss_good {pq : List Instr} {x0 : Fin 12} {x1 : State} (hx1 : Good pq x1) : Good pq (refActivityLoss x0 x1) := by
  unfold refActivityLoss
  apply retarget_good
  apply loseQual_good
  apply onCand_good
  assumption

theorem execRefActivityLoss_good {pq : List Instr} {x0 : Fin 12} {x1 : State} (hx1 : Good pq x1) : GoodOut pq (execRefActivityLoss x0 x1) :=
  next_goodOut (refActivityLoss_good hx1)

theorem refLosses_good {pq : List Instr} {x0 : State} (hx0 : Good pq x0) : Good pq (refLosses x0) := by
  unfold refLosses
  refine foldl_good (fun _ _ _ => ?_) ?_
  · try dsimp -zeta only
    refine ite_good (fun _ => ?_) (fun _ => ?_)
    · apply refActivityLoss_good
      assumption
    · assumption
  · assumption

theorem execPpsInLos_good {pq : List Instr} {x0 : State} (hx0 : Good pq x0) : GoodOut pq (execPpsInLos x0) := by
  unfold execPpsInLos
  refine next_goodOut ?_
  apply refLosses_good
  apply ppsInLos_good
  assumption

theorem testCand_good {pq : List Instr} {x0 : Bool} {x1 : List (Fin 12 × Int)} {x2 : State} {x3 : Fin 12 × Int} (hx2 : Good pq x2) : Good pq (testCand x0 x1 x2 x3) := by
  unfold testCand
  extract_lets v0 v1 v2 v3 v4
  clear_value v0 v1 v2 v3 v4
  apply onCand_good
  assumption

theorem refMeasurement_good {pq : List Instr} {x0 : List (Fin 12 × Int)} {x1 : Int} {x2 : State} (hx2 : Good pq x2) : Good pq (refMeasurement x0 x1 x2) := by
  unfold refMeasurement
  extract_lets v0 v1 v2 v3 v4 v5 v6 v7 v8
  try clear_value v0 v1
  have hv2 : Good pq v2 := by
    unfold v2
    apply raiseIf_good
    apply onTime_good
    assumption
  try clear_value v2
  have hv3 : Good pq v3 := by
    unfold v3
    refine foldl_good (fun _ _ _ => ?_) ?_
    · try dsimp -zeta only
      apply testCand_good
      assumption
    · assumption
  try clear_value v3 v4 v5
  have hv6 : Good pq v6 := by
    unfold v6
    apply onTime_good
    assumption
  try clear_value v6 v7 v8
  apply retarget_good
  refine foldl_good (fun _ _ _ => ?_) ?_
  · try dsimp -zeta only
    apply loseQual_good
    assumption
  · assumption

theorem execRefMeasurement_good {pq : List Instr} {x0 : List (Fin 12 × Int)} {x1 : Int} {x2 : State} (hx2 : Good pq x2) : GoodOut pq (execRefMeasurement x0 x1 x2) := by
  unfold execRefMeasurement
  refine next_goodOut ?_
  apply refMeasurement_good
  assumption

theorem qualificationTimerEnd_good {pq : List Instr} {x0 : Fin 12} {x1 : Bool} {x2 : State} (hx2 : Good pq x2) : Good pq (qualificationTimerEnd x0 x1 x2) := by
  unfold qualificationTimerEnd
  extract_lets v0
  clear_value v0
  refine ite_good (fun _ => ?_) (fun _ => ?_)
  · refine ite_good (fun _ => ?_) (fun _ => ?_)
    · refine ite_good (fun _ => ?_) (fun _ => ?_)
      · apply retarget_good
        apply onCand_good
        assumption
      · assumption
    · refine ite_good (fun _ => ?_) (fun _ => ?_)
      · assumption
      · apply retarget_good
        apply raise_good
        apply onCand_good
        assumption
  · assumption

theorem execQualificationTimerEnd_good {pq : List Instr} {x0 : Fin 12} {x1 : Bool} {x2 : State} (hx2 : Good pq x2) : GoodOut pq (execQualificationTimerEnd x0 x1 x2) :=
  next_goodOut (qualificationTimerEnd_good hx2)

theorem dpllLock_good {pq : List Instr} {x0 : State} (hx0 : Good pq x0) : Good pq (dpllLock x0) := by
  unfold dpllLock
  refine ite_good (fun _ => ?_) (fun _ => ?_)
  · apply retarget_good
    apply raise_good
    apply onTime_good
    assumption
  · assumption

theorem execDpllLock_good {pq : List Instr} {x0 : State} (hx0 : Good pq x0) : GoodOut pq (execDpllLock x0) :=
  next_goodOut (dpllLock_good hx0)

theorem oscEstimateUpdate_good {pq : List Instr} {x0 : State} (hx0 : Good pq x0) : Good pq (oscEstimateUpdate x0) := by
  unfold oscEstimateUpdate
  apply onTime_good
  assumption

theorem execOscEstimateUpdate_good {pq : List Instr} {x0 : State} (hx0 : Good pq x0) : GoodOut pq (execOscEstimateUpdate x0) :=
  next_goodOut (oscEstimateUpdate_good hx0)

theorem keepOsc_good {pq : List Instr} {x0 : State} (hx0 : Good pq x0) : Good pq (keepOsc x0) := by
  unfold keepOsc
  apply catChange_good
  assumption

theorem loLearnEnd_good {pq : List Instr} {x0 : Int × Int × Int × Int} {x1 : Int × Int × Int × Int} {x2 : Int × Int × Int × Int} {x3 : List Int} {x4 : State} (hx4 : Good pq x4) : Good pq (loLearnEnd x0 x1 x2 x3 x4) := by
  unfold loLearnEnd
  refine ite_good (fun _ => ?_) (fun _ => ?_)
  · extract_lets v0 v1
    have hv0 : Good pq v0 := by
      unfold v0
      apply onTime_good
      assumption
    clear_value v0 v1
    refine ite_good (fun _ => ?_) (fun _ => ?_)
    · apply keepOsc_good
      apply onTime_good
      assumption
    · apply raise0_good
      assumption
  · assumption

theorem execLoLearnEnd_good {pq : List Instr} {x0 : Int × Int × Int × Int} {x1 : Int × Int × Int × Int} {x2 : Int × Int × Int × Int} {x3 : List Int} {x4 : State} (hx4 : Good pq x4) : GoodOut pq (execLoLearnEnd x0 x1 x2 x3 x4) :=
  next_goodOut (loLearnEnd_good hx4)

theorem timeProvision_good {pq : List Instr} {x0 : Request} {x1 : State} (hx1 : Good pq x1) : Good pq (timeProvision x0 x1).1 := by
  unfold timeProvision
  apply pCommand_good
  · intro a0 a1 ha2
    try dsimp -zeta only
    extract_lets v3
    have hv3 : Good pq v3 := by
      unfold v3
      apply applyRecs_good
      assumption
    clear_value v3
    refine ite_good (fun _ => ?_) (fun _ => ?_)
    · assumption
    · apply onTime_good
      assumption
  · assumption

theorem execTimeProvision_good {pq : List Instr} {x0 : Request} {x1 : State} (hx1 : Good pq x1) : GoodOut pq (execTimeProvision x0 x1) := by
  unfold execTimeProvision
  refine next_goodOut ?_
  apply deskRun_good
  · intro a0 a1 ha2
    try dsimp -zeta only
    apply timeProvision_good
    assumption
  · assumption

theorem timeRefTableSet_good {pq : List Instr} {x0 : Request} {x1 : State} (hx1 : Good pq x1) : Good pq (timeRefTableSet x0 x1).1 := by
  unfold timeRefTableSet
  extract_lets v0
  try clear_value v0
  apply pCommand_good
  · intro a0 a1 ha2
    try dsimp -zeta only
    extract_lets v1
    have hv1 : Good pq v1 := by
      unfold v1
      apply applyRecs_good
      assumption
    try clear_value v1
    apply refLosses_good
    apply retarget_good
    refine ite_good (fun _ => ?_) (fun _ => ?_)
    · apply onTime_good
      assumption
    · assumption
  · assumption

theorem execTimeRefTableSet_good {pq : List Instr} {x0 : Request} {x1 : State} (hx1 : Good pq x1) : GoodOut pq (execTimeRefTableSet x0 x1) := by
  unfold execTimeRefTableSet
  refine next_goodOut ?_
  apply deskRun_good
  · intro a0 a1 ha2
    try dsimp -zeta only
    apply timeRefTableSet_good
    assumption
  · assumption

theorem timeRefCommand_good {pq : List Instr} {x0 : Request} {x1 : State} (hx1 : Good pq x1) : Good pq (timeRefCommand x0 x1).1 := by
  unfold timeRefCommand
  split
  · extract_lets v0
    clear_value v0
    split
    · refine Good.fst ?_
      apply retarget_good
      apply onTime_good
      assumption
    · refine ite_good_1 (fun _ => ?_) (fun _ => ?_)
      · refine Good.fst ?_
        apply retarget_good
        apply onTime_good
        assumption
      · refine Good.fst ?_
        assumption
    · refine Good.fst ?_
      apply retarget_good
      apply onCand_good
      assumption
    · refine Good.fst ?_
      apply retarget_good
      apply onTime_good
      assumption
    · refine Good.fst ?_
      assumption
  · refine Good.fst ?_
    assumption

theorem execTimeRefCommand_good {pq : List Instr} {x0 : Request} {x1 : State} (hx1 : Good pq x1) : GoodOut pq (execTimeRefCommand x0 x1) := by
  unfold execTimeRefCommand
  refine next_goodOut ?_
  apply deskRun_good
  · intro a0 a1 ha2
    try dsimp -zeta only
    apply timeRefCommand_good
    assumption
  · assumption

theorem timeLoCompSet_good {pq : List Instr} {x0 : Request} {x1 : State} (hx1 : Good pq x1) : Good pq (timeLoCompSet x0 x1).1 := by
  unfold timeLoCompSet
  refine ite_good_1 (fun _ => ?_) (fun _ => ?_)
  · refine Good.fst ?_
    assumption
  · refine ite_good_1 (fun _ => ?_) (fun _ => ?_)
    · refine Good.fst ?_
      assumption
    · refine Good.fst ?_
      apply keepOsc_good
      apply keepBody_good
      apply onTime_good
      assumption

theorem execTimeLoCompSet_good {pq : List Instr} {x0 : Request} {x1 : State} (hx1 : Good pq x1) : GoodOut pq (execTimeLoCompSet x0 x1) := by
  unfold execTimeLoCompSet
  refine next_goodOut ?_
  apply deskRun_good
  · intro a0 a1 ha2
    try dsimp -zeta only
    apply timeLoCompSet_good
    assumption
  · assumption

theorem timeLoLearn_good {pq : List Instr} {x0 : Request} {x1 : State} (hx1 : Good pq x1) : Good pq (timeLoLearn x0 x1).1 := by
  unfold timeLoLearn
  refine ite_good_1 (fun _ => ?_) (fun _ => ?_)
  · refine Good.fst ?_
    assumption
  · refine ite_good_1 (fun _ => ?_) (fun _ => ?_)
    · refine Good.fst ?_
      assumption
    · refine Good.fst ?_
      apply onTime_good
      assumption

theorem execTimeLoLearn_good {pq : List Instr} {x0 : Request} {x1 : State} (hx1 : Good pq x1) : GoodOut pq (execTimeLoLearn x0 x1) := by
  unfold execTimeLoLearn
  refine next_goodOut ?_
  apply deskRun_good
  · intro a0 a1 ha2
    try dsimp -zeta only
    apply timeLoLearn_good
    assumption
  · assumption

theorem timeTest_good {pq : List Instr} {x0 : Word32} {x1 : Request} {x2 : State} (hx2 : Good pq x2) : Good pq (timeTest x0 x1 x2).1 := by
  unfold timeTest
  refine ite_good_1 (fun _ => ?_) (fun _ => ?_)
  · refine Good.fst ?_
    assumption
  · refine Good.fst ?_
    apply raise0_good
    apply onTime_good
    assumption

theorem execTimeTest_good {pq : List Instr} {x0 : Request} {x1 : Word32} {x2 : State} (hx2 : Good pq x2) : GoodOut pq (execTimeTest x0 x1 x2) := by
  unfold execTimeTest
  refine next_goodOut ?_
  apply deskRun_good
  · intro a0 a1 ha2
    try dsimp -zeta only
    apply timeTest_good
    assumption
  · assumption

theorem execTimeStatus_good {pq : List Instr} {x0 : Request} {x1 : State} (hx1 : Good pq x1) : GoodOut pq (execTimeStatus x0 x1) := by
  unfold execTimeStatus
  refine next_goodOut ?_
  apply deskRun_good
  · intro a0 a1 ha2
    try dsimp -zeta only
    apply sCommand_good
    assumption
  · assumption

/-! ### Regions -/

theorem freeRegion_good {pq : List Instr} {x0 : Nat} {x1 : State} (hx1 : Good pq x1) : Good pq (freeRegion x0 x1) := by
  unfold freeRegion
  refine onStk_good (fun _ hk => hk) ?_
  assumption

theorem allocRegion_good {pq : List Instr} {x0 : Nat} {x1 : Nat} {x2 : State} {t : State} (e : allocRegion x0 x1 x2 = .ok t) (hx2 : Good pq x2) : Good pq t := by
  unfold allocRegion at e
  split at e
  · cases e
  · split at e
    · cases e
    · next k hk =>
      injection e with e
      subst e
      apply stacksToRun_good
      have hs : k.sound = true := by
        unfold Stacks.allocRegion at hk
        simp only [Option.map_eq_some_iff] at hk
        obtain ⟨ps, _, hk⟩ := hk
        subst hk
        exact hx2.sound.stk
      exact ⟨hx2.queue, ⟨hx2.sound.chutes, hs, hx2.sound.evt, hx2.sound.desk⟩⟩

theorem growQueue_good {pq : List Instr} {x0 : Nat} {x1 : State} {t : State} (e : growQueue x0 x1 = some t) (hx1 : Good pq x1) : Good pq t := by
  unfold growQueue at e
  split at e
  · injection e with e
    exact e ▸ hx1
  · extract_lets v0 v1 at e
    split at e
    · injection e with e
      exact e ▸ hx1
    · simp only [Option.map_eq_some_iff] at e
      obtain ⟨ps, _, e⟩ := e
      subst e
      exact onStk_good (fun _ hk => hk) hx1

theorem queueWrap_good {pq : List Instr} {x0 : Fin 2} {x1 : State} (hx1 : Good pq x1) : Good pq (queueWrap x0 x1) := by
  unfold queueWrap
  refine onStk_good (fun _ hk => hk) ?_
  assumption

theorem retirePage_good {pq : List Instr} {x0 : AccEntry} {x1 : State} (hx1 : Good pq x1) : Good pq (retirePage x0 x1) := by
  unfold retirePage
  extract_lets v0 v1 v2
  have hv0 : Good pq v0 := by
    unfold v0
    refine onStk_good (fun k hk => (show Stacks.sound { k with mem := k.mem.filter fun c => pageOf (c.1 / 72) != x0.page, unwritten := x0.page :: k.unwritten } = true from retire_sound hk)) ?_
    assumption
  clear_value v0 v1
  have hv2 : Good pq v2 := by
    unfold v2
    apply raiseIf_good
    assumption
  clear_value v2
  apply catChange_good
  assumption

theorem stacksRetire_good {pq : List Instr} {x0 : Request} {x1 : State} (hx1 : Good pq x1) : Good pq (stacksRetire x0 x1).1 := by
  unfold stacksRetire
  refine ite_good_1 (fun _ => ?_) (fun _ => ?_)
  · refine Good.fst ?_
    assumption
  · refine ite_good_1 (fun _ => ?_) (fun _ => ?_)
    · refine Good.fst ?_
      assumption
    · refine ite_good_1 (fun _ => ?_) (fun _ => ?_)
      · refine Good.fst ?_
        assumption
      · refine ite_good_1 (fun _ => ?_) (fun _ => ?_)
        · refine Good.fst ?_
          assumption
        · refine ite_good_1 (fun _ => ?_) (fun _ => ?_)
          · refine Good.fst ?_
            assumption
          · extract_lets v0 v1 v2 v3
            clear_value v0 v1 v2 v3
            refine ite_good_1 (fun _ => ?_) (fun _ => ?_)
            · refine Good.fst ?_
              assumption
            · split
              · refine Good.fst ?_
                assumption
              · next k e =>
                have hk : k.sound = true := replacePages_sound e hx1.sound.stk
                extract_lets v4
                have hv4 : Good pq v4 := by
                  unfold v4
                  refine foldl_good (fun _ _ _ => ?_) ?_
                  · try dsimp -zeta only
                    apply retirePage_good
                    assumption
                  · exact ⟨hx1.queue, ⟨hx1.sound.chutes, hk, hx1.sound.evt, hx1.sound.desk⟩⟩
                clear_value v4
                refine ite_good_1 (fun _ => ?_) (fun _ => ?_)
                · refine Good.fst ?_
                  apply beginTransition_good
                  assumption
                · refine Good.fst ?_
                  apply raiseIf_good
                  assumption

theorem pageRetireComplete_good {pq : List Instr} {x0 : Nat} {x1 : State} (hx1 : Good pq x1) : Good pq (pageRetireComplete x0 x1) := by
  unfold pageRetireComplete
  split
  · assumption
  · refine ite_good (fun _ => ?_) (fun _ => ?_)
    · assumption
    · extract_lets v0 v1
      have hv0 : Good pq v0 := by
        unfold v0
        refine onStk_good (fun _ hk => hk) ?_
        assumption
      try clear_value v0
      have hv1 : Good pq v1 := by
        unfold v1
        apply retirePage_good
        assumption
      try clear_value v1
      refine ite_good (fun _ => ?_) (fun _ => ?_)
      · apply endTransition_good
        apply raise_good
        assumption
      · assumption

theorem execPageRetireComplete_good {pq : List Instr} {x0 : Fin 65536} {x1 : State} (hx1 : Good pq x1) : GoodOut pq (execPageRetireComplete x0 x1) :=
  next_goodOut (pageRetireComplete_good hx1)

theorem stacksInit_good {pq : List Instr} {x0 : Request} {x1 : State} (hx1 : Good pq x1) : Good pq (stacksInit x0 x1).1 := by
  unfold stacksInit
  refine ite_good_1 (fun _ => ?_) (fun _ => ?_)
  · refine Good.fst ?_
    assumption
  · extract_lets v0
    have hv0 : ∀ a1, a1.sound = true → Good pq (v0 a1).1 := by
      intro a1 ha1
      show Good pq (beginTransition _ _ _ _)
      apply beginTransition_good
      apply stacksToRun_good
      exact ⟨hx1.queue, ⟨hx1.sound.chutes, ha1, hx1.sound.evt, hx1.sound.desk⟩⟩
    clear_value v0
    split
    · exact hv0 _ hx1.sound.stk
    · split
      · refine Good.fst ?_
        assumption
      · next k hk =>
        refine hv0 _ ?_
        unfold Stacks.allocRegion at hk
        simp only [Option.map_eq_some_iff] at hk
        obtain ⟨ps, _, hk⟩ := hk
        subst hk
        exact hx1.sound.stk

theorem stacksInitComplete_good {pq : List Instr} {x0 : State} (hx0 : Good pq x0) : Good pq (stacksInitComplete x0) := by
  unfold stacksInitComplete
  refine ite_good (fun _ => ?_) (fun _ => ?_)
  · extract_lets v0
    have hv0 : Good pq v0 := by
      unfold v0
      refine onStk_good (fun _ hk => stacksInitComplete_sound hk) ?_
      assumption
    clear_value v0
    apply endTransition_good
    apply raise0_good
    assumption
  · assumption

theorem execStacksInitComplete_good {pq : List Instr} {x0 : State} (hx0 : Good pq x0) : GoodOut pq (execStacksInitComplete x0) :=
  next_goodOut (stacksInitComplete_good hx0)

theorem execStacksInit_good {pq : List Instr} {x0 : Request} {x1 : State} (hx1 : Good pq x1) : GoodOut pq (execStacksInit x0 x1) := by
  unfold execStacksInit
  refine next_goodOut ?_
  apply deskRun_good
  · intro a0 a1 ha2
    try dsimp -zeta only
    apply stacksInit_good
    assumption
  · assumption

theorem execStacksSet_good {pq : List Instr} {x0 : Request} {x1 : State} (hx1 : Good pq x1) : GoodOut pq (execStacksSet x0 x1) := by
  unfold execStacksSet
  refine next_goodOut ?_
  apply deskRun_good
  · intro a0 a1 ha2
    try dsimp -zeta only
    apply pCommand_good
    · intro a3 a4 ha5
      try dsimp -zeta only
      apply applyRecs_good
      assumption
    · assumption
  · assumption

theorem execStacksRetire_good {pq : List Instr} {x0 : Request} {x1 : State} (hx1 : Good pq x1) : GoodOut pq (execStacksRetire x0 x1) := by
  unfold execStacksRetire
  refine next_goodOut ?_
  apply deskRun_good
  · intro a0 a1 ha2
    try dsimp -zeta only
    apply stacksRetire_good
    assumption
  · assumption

theorem execStacksStatus_good {pq : List Instr} {x0 : Request} {x1 : State} (hx1 : Good pq x1) : GoodOut pq (execStacksStatus x0 x1) := by
  unfold execStacksStatus
  refine next_goodOut ?_
  apply deskRun_good
  · intro a0 a1 ha2
    try dsimp -zeta only
    apply sCommand_good
    assumption
  · assumption

theorem stacksTrackerGet_good {pq : List Instr} {x0 : Request} {x1 : State} (hx1 : Good pq x1) : Good pq (stacksTrackerGet x0 x1).1 := by
  unfold stacksTrackerGet
  refine ite_good_1 (fun _ => ?_) (fun _ => ?_)
  · refine Good.fst ?_
    assumption
  · extract_lets v0 v1
    clear_value v0 v1
    refine Good.fst ?_
    assumption

theorem execStacksTrackerGet_good {pq : List Instr} {x0 : Request} {x1 : State} (hx1 : Good pq x1) : GoodOut pq (execStacksTrackerGet x0 x1) := by
  unfold execStacksTrackerGet
  refine next_goodOut ?_
  apply deskRun_good
  · intro a0 a1 ha2
    try dsimp -zeta only
    apply stacksTrackerGet_good
    assumption
  · assumption

theorem stacksTrackerClear_good {pq : List Instr} {x0 : Request} {x1 : State} (hx1 : Good pq x1) : Good pq (stacksTrackerClear x0 x1).1 := by
  unfold stacksTrackerClear
  extract_lets v0 v1 v2
  clear_value v0 v1 v2
  refine ite_good_1 (fun _ => ?_) (fun _ => ?_)
  · refine Good.fst ?_
    assumption
  · refine Good.fst ?_
    refine onStk_good (fun _ hk => hk) ?_
    assumption

theorem execStacksTrackerClear_good {pq : List Instr} {x0 : Request} {x1 : State} (hx1 : Good pq x1) : GoodOut pq (execStacksTrackerClear x0 x1) := by
  unfold execStacksTrackerClear
  refine next_goodOut ?_
  apply deskRun_good
  · intro a0 a1 ha2
    try dsimp -zeta only
    apply stacksTrackerClear_good
    assumption
  · assumption

theorem stacksAccessionGet_good {pq : List Instr} {x0 : Request} {x1 : State} (hx1 : Good pq x1) : Good pq (stacksAccessionGet x0 x1).1 := by
  unfold stacksAccessionGet
  extract_lets v0 v1
  clear_value v0 v1
  refine Good.fst ?_
  assumption

theorem execStacksAccessionGet_good {pq : List Instr} {x0 : Request} {x1 : State} (hx1 : Good pq x1) : GoodOut pq (execStacksAccessionGet x0 x1) := by
  unfold execStacksAccessionGet
  refine next_goodOut ?_
  apply deskRun_good
  · intro a0 a1 ha2
    try dsimp -zeta only
    apply stacksAccessionGet_good
    assumption
  · assumption

theorem stacksWordRead_good {pq : List Instr} {x0 : Request} {x1 : State} (hx1 : Good pq x1) : Good pq (stacksWordRead x0 x1).1 := by
  unfold stacksWordRead
  refine ite_good_1 (fun _ => ?_) (fun _ => ?_)
  · refine Good.fst ?_
    assumption
  · refine ite_good_1 (fun _ => ?_) (fun _ => ?_)
    · refine Good.fst ?_
      assumption
    · refine ite_good_1 (fun _ => ?_) (fun _ => ?_)
      · refine Good.fst ?_
        assumption
      · extract_lets v0 v1
        try clear_value v0 v1
        refine Good.fst ?_
        assumption

theorem execStacksWordRead_good {pq : List Instr} {x0 : Request} {x1 : State} (hx1 : Good pq x1) : GoodOut pq (execStacksWordRead x0 x1) := by
  unfold execStacksWordRead
  refine next_goodOut ?_
  apply deskRun_good
  · intro a0 a1 ha2
    try dsimp -zeta only
    apply stacksWordRead_good
    assumption
  · assumption

theorem apNote_good {pq : List Instr} {x0 : Nat} {x1 : Bool} {x2 : Aperture → Aperture} {x3 : State} (hx3 : Good pq x3) : Good pq (apNote x0 x1 x2 x3) := by
  unfold apNote
  refine Good.lit ?_
  assumption

theorem apRefuse_good {pq : List Instr} {x0 : Nat} {x1 : Bool} {x2 : Bool} {x3 : State} (hx3 : Good pq x3) : Good pq (apRefuse x0 x1 x2 x3) := by
  unfold apRefuse
  apply raiseWord_good
  apply apNote_good
  assumption

theorem apertureRead_good {pq : List Instr} {x0 : Nat} {x1 : Nat} {x2 : State} (hx2 : Good pq x2) : Good pq (apertureRead x0 x1 x2) := by
  unfold apertureRead
  extract_lets v0 v1 v2 v3 v4 v5 v6
  have hv0 : ∀ a7, Good pq a7 → Good pq (v0 a7) := by
    intro a7 ha8
    unfold v0
    try dsimp -zeta only
    extract_lets v9
    clear_value v9
    refine Good.lit ?_
    assumption
  clear_value v0 v1
  have hv2 : Good pq v2.2.2 := by
    unfold v2
    suffices ∀ (l : List Nat) (x : List Byte × Option Nat × State), Good pq x.2.2 → Good pq (l.foldl (fun (x : List Byte × Option Nat × State) w =>
        let d := stkRead w none false false x.2.2
        (x.1 ++ d.1.data, if d.1.poison then some w else x.2.1, d.2)) x).2.2 from this _ _ hx2
    intro l
    induction l with
    | nil => exact fun x hx => hx
    | cons i r ih => exact fun x hx => ih _ (stkRead_good hx)
  clear_value v2 v3 v4
  have hv5 : Good pq v5 := by
    unfold v5
    assumption
  clear_value v5 v6
  refine ite_good (fun _ => ?_) (fun _ => ?_)
  · refine hv0 _ ?_
    · assumption
  · split
    · refine hv0 _ ?_
      · apply apRefuse_good
        assumption
    · split
      · refine Good.lit ?_
        assumption
      · apply poisonOut_good
        apply apNote_good
        assumption

theorem execApertureRead_good {pq : List Instr} {x0 : Fin 67108864} {x1 : Fin 4097} {x2 : State} (hx2 : Good pq x2) : GoodOut pq (execApertureRead x0 x1 x2) :=
  next_goodOut (apertureRead_good hx2)

theorem apertureWrite_good {pq : List Instr} {x0 : Nat} {x1 : List Byte} {x2 : State} (hx2 : Good pq x2) : Good pq (apertureWrite x0 x1 x2) := by
  unfold apertureWrite
  refine ite_good (fun _ => ?_) (fun _ => ?_)
  · assumption
  · extract_lets v0
    clear_value v0
    split
    · apply apRefuse_good
      assumption
    · refine foldl_good (fun _ _ _ => ?_) ?_
      · try dsimp -zeta only
        extract_lets v1 v2
        clear_value v1 v2
        refine ite_good (fun _ => ?_) (fun _ => ?_)
        · apply stkWrite_good
          assumption
        · apply stkNarrow_good
          assumption
      · assumption

theorem execApertureWrite_good {pq : List Instr} {x0 : Fin 67108864} {x1 : List Byte} {x2 : State} (hx2 : Good pq x2) : GoodOut pq (execApertureWrite x0 x1 x2) :=
  next_goodOut (apertureWrite_good hx2)

/-! ### Conv -/

theorem raiseConv_good {pq : List Instr} {x0 : Nat} {x1 : Fin 2} {x2 : Fin 8} {x3 : Nat} {x4 : Nat} {x5 : State} (hx5 : Good pq x5) : Good pq (raiseConv x0 x1 x2 x3 x4 x5) := by
  unfold raiseConv
  apply raise_good
  assumption

theorem convWrite_good {pq : List Instr} {x0 : Fin 2} {x1 : Fin 8} {x2 : State} (hx2 : Good pq x2) : Good pq (convWrite x0 x1 x2) := by
  unfold convWrite
  extract_lets v0
  clear_value v0
  apply catChange_good
  assumption

theorem retireSlice_good {pq : List Instr} {x0 : Fin 2} {x1 : Fin 8} {x2 : Nat} {x3 : Nat} {x4 : State} (hx4 : Good pq x4) : Good pq (retireSlice x0 x1 x2 x3 x4) := by
  unfold retireSlice
  extract_lets v0
  have hv0 : Good pq v0 := by
    unfold v0
    apply convWrite_good
    apply onConv_good
    assumption
  clear_value v0
  apply raiseIf_good
  apply raiseConv_good
  assumption

theorem select_good {pq : List Instr} {x0 : Fin 2} {x1 : Fin 8} {x2 : State} (hx2 : Good pq x2) : Good pq (select x0 x1 x2) := by
  unfold select
  extract_lets v0 v1
  have hv0 : Good pq v0 := by
    unfold v0
    refine Good.lit ?_
    assumption
  try clear_value v0
  try clear_value v1
  refine ite_good (fun _ => ?_) (fun _ => ?_)
  · apply raiseConv_good
    apply onConv_good
    assumption
  · apply onConv_good
    assumption

theorem startSubst_good {pq : List Instr} {x0 : Fin 2} {x1 : Fin 8} {x2 : Nat} {x3 : Bool} {x4 : State} (hx4 : Good pq x4) : Good pq (startSubst x0 x1 x2 x3 x4) := by
  unfold startSubst
  extract_lets v0 v1 v2 v3
  clear_value v0 v1 v2
  have hv3 : Good pq v3 := by
    unfold v3
    apply raiseConv_good
    assumption
  clear_value v3
  split
  · extract_lets v4
    have hv4 : Good pq v4 := by
      unfold v4
      apply onConv_good
      assumption
    clear_value v4
    refine ite_good (fun _ => ?_) (fun _ => ?_)
    · apply select_good
      apply onConv_good
      assumption
    · assumption
  · refine ite_good (fun _ => ?_) (fun _ => ?_)
    · apply onConv_good
      assumption
    · refine ite_good (fun _ => ?_) (fun _ => ?_)
      · apply onConv_good
        assumption
      · refine ite_good (fun _ => ?_) (fun _ => ?_)
        · apply endTransition_good
          assumption
        · assumption

theorem serveWaiting_good {pq : List Instr} {x0 : Fin 2} {x1 : Fin 8} {x2 : State} (hx2 : Good pq x2) : Good pq (serveWaiting x0 x1 x2) := by
  unfold serveWaiting
  refine foldl_good (fun _ _ _ => ?_) ?_
  · try dsimp -zeta only
    apply startSubst_good
    assumption
  · apply onConv_good
    assumption

theorem standInLost_good {pq : List Instr} {x0 : Fin 2} {x1 : Fin 8} {x2 : State} (hx2 : Good pq x2) : Good pq (standInLost x0 x1 x2) := by
  unfold standInLost
  extract_lets v0
  clear_value v0
  split
  · extract_lets v1
    have hv1 : Good pq v1 := by
      unfold v1
      apply onConv_good
      assumption
    clear_value v1
    apply select_good
    apply serveWaiting_good
    apply retireSlice_good
    assumption
  · assumption

theorem measuredLost_good {pq : List Instr} {x0 : Fin 2} {x1 : Fin 8} {x2 : State} (hx2 : Good pq x2) : Good pq (measuredLost x0 x1 x2) := by
  unfold measuredLost
  extract_lets v0 v1
  try clear_value v0
  have hv1 : Good pq v1 := by
    unfold v1
    apply onConv_good
    assumption
  try clear_value v1
  split
  · apply select_good
    apply serveWaiting_good
    apply retireSlice_good
    assumption
  · assumption

theorem sliceFault_good {pq : List Instr} {x0 : Fin 2} {x1 : Fin 8} {x2 : Nat} {x3 : State} (hx3 : Good pq x3) : Good pq (sliceFault x0 x1 x2 x3) := by
  unfold sliceFault
  extract_lets v0 v1 v2
  clear_value v0 v1
  have hv2 : Good pq v2 := by
    unfold v2
    apply raiseConv_good
    apply onConv_good
    assumption
  clear_value v2
  refine ite_good (fun _ => ?_) (fun _ => ?_)
  · apply standInLost_good
    assumption
  · refine ite_good (fun _ => ?_) (fun _ => ?_)
    · apply select_good
      apply startSubst_good
      apply onConv_good
      assumption
    · apply startSubst_good
      assumption

theorem faultWindow_good {pq : List Instr} {x0 : Fin 2} {x1 : Fin 8} {x2 : List SliceStat} {x3 : State} (hx3 : Good pq x3) : Good pq (faultWindow x0 x1 x2 x3) := by
  unfold faultWindow
  extract_lets v0 v1 v2
  clear_value v0 v1 v2
  refine ite_good (fun _ => ?_) (fun _ => ?_)
  · assumption
  · refine foldl_good (fun _ _ _ => ?_) ?_
    · try dsimp -zeta only
      apply sliceFault_good
      assumption
    · apply onConv_good
      assumption

theorem execFaultWindowEnd_good {pq : List Instr} {x0 : Fin 2} {x1 : Fin 8} {x2 : List SliceStat} {x3 : State} (hx3 : Good pq x3) : GoodOut pq (execFaultWindowEnd x0 x1 x2 x3) :=
  next_goodOut (faultWindow_good hx3)

theorem emergencyDone_good {pq : List Instr} {x0 : Fin 2} {x1 : Fin 8} {x2 : Nat} {x3 : Nat} {x4 : State} (hx4 : Good pq x4) : Good pq (emergencyDone x0 x1 x2 x3 x4) := by
  unfold emergencyDone
  split
  · assumption
  · extract_lets v0 v1
    have hv0 : Good pq v0 := by
      unfold v0
      apply onConv_good
      assumption
    try clear_value v0
    have hv1 : Good pq v1 := by
      unfold v1
      apply retireSlice_good
      assumption
    try clear_value v1
    refine ite_good (fun _ => ?_) (fun _ => ?_)
    · apply endTransition_good
      assumption
    · assumption

theorem execEmergencyAlignComplete_good {pq : List Instr} {x0 : Fin 2} {x1 : Fin 8} {x2 : Fin 128} {x3 : BitVec 96} {x4 : State} (hx4 : Good pq x4) : GoodOut pq (execEmergencyAlignComplete x0 x1 x2 x3 x4) := by
  unfold execEmergencyAlignComplete
  refine next_goodOut ?_
  apply emergencyDone_good
  assumption

theorem shadowAgree_good {pq : List Instr} {x0 : Fin 2} {x1 : Fin 8} {x2 : Nat} {x3 : State} (hx3 : Good pq x3) : Good pq (shadowAgree x0 x1 x2 x3) := by
  unfold shadowAgree
  extract_lets v0
  try clear_value v0
  split
  · extract_lets v1
    try clear_value v1
    apply onConv_good
    assumption
  · extract_lets v1
    have hv1 : Good pq v1 := by
      unfold v1
      apply onConv_good
      assumption
    try clear_value v1
    apply serveWaiting_good
    assumption
  · assumption

theorem execShadowAgree_good {pq : List Instr} {x0 : Fin 2} {x1 : Fin 8} {x2 : BitVec 96} {x3 : State} (hx3 : Good pq x3) : GoodOut pq (execShadowAgree x0 x1 x2 x3) := by
  unfold execShadowAgree
  refine next_goodOut ?_
  apply shadowAgree_good
  assumption

theorem shadowTimeout_good {pq : List Instr} {x0 : Fin 2} {x1 : Fin 8} {x2 : State} (hx2 : Good pq x2) : Good pq (shadowTimeout x0 x1 x2) := by
  unfold shadowTimeout
  extract_lets v0
  clear_value v0
  split
  · apply select_good
    apply onConv_good
    assumption
  · apply measuredLost_good
    assumption
  · assumption

theorem execShadowTimeout_good {pq : List Instr} {x0 : Fin 2} {x1 : Fin 8} {x2 : State} (hx2 : Good pq x2) : GoodOut pq (execShadowTimeout x0 x1 x2) :=
  next_goodOut (shadowTimeout_good hx2)

theorem runEnd_good {pq : List Instr} {x0 : Fin 2} {x1 : Fin 8} {x2 : Nat} {x3 : MeasRun} {x4 : State} (hx4 : Good pq x4) : Good pq (runEnd x0 x1 x2 x3 x4) := by
  unfold runEnd
  apply onConv_good
  assumption

theorem execMeasurementRunEnd_good {pq : List Instr} {x0 : Fin 2} {x1 : Fin 8} {x2 : Fin 132} {x3 : MeasRun} {x4 : State} (hx4 : Good pq x4) : GoodOut pq (execMeasurementRunEnd x0 x1 x2 x3 x4) :=
  next_goodOut (runEnd_good hx4)

theorem measurementEnd_good {pq : List Instr} {x0 : Fin 2} {x1 : Fin 8} {x2 : State} (hx2 : Good pq x2) : Good pq (measurementEnd x0 x1 x2) := by
  unfold measurementEnd
  extract_lets v0
  try clear_value v0
  split
  · assumption
  · split
    · assumption
    · extract_lets v1 v2 v3 v4 v5
      try clear_value v1
      try clear_value v2
      try clear_value v3
      have hv4 : Good pq v4 := by
        unfold v4
        apply onConv_good
        assumption
      try clear_value v4
      have hv5 : Good pq v5 := by
        unfold v5
        apply onConv_good
        assumption
      try clear_value v5
      split
      · refine ite_good (fun _ => ?_) (fun _ => ?_)
        · apply measuredLost_good
          assumption
        · apply onConv_good
          assumption
      · refine ite_good (fun _ => ?_) (fun _ => ?_)
        · apply retireSlice_good
          assumption
        · assumption
      · assumption

theorem execSliceMeasurementEnd_good {pq : List Instr} {x0 : Fin 2} {x1 : Fin 8} {x2 : State} (hx2 : Good pq x2) : GoodOut pq (execSliceMeasurementEnd x0 x1 x2) :=
  next_goodOut (measurementEnd_good hx2)

theorem gapEnd_good {pq : List Instr} {x0 : Fin 2} {x1 : Fin 8} {x2 : State} (hx2 : Good pq x2) : Good pq (gapEnd x0 x1 x2) := by
  unfold gapEnd
  refine ite_good (fun _ => ?_) (fun _ => ?_)
  · apply select_good
    assumption
  · assumption

theorem execRotationGapEnd_good {pq : List Instr} {x0 : Fin 2} {x1 : Fin 8} {x2 : State} (hx2 : Good pq x2) : GoodOut pq (execRotationGapEnd x0 x1 x2) :=
  next_goodOut (gapEnd_good hx2)

theorem staleCheck_good {pq : List Instr} {x0 : Fin 2} {x1 : Fin 8} {x2 : Int} {x3 : State} (hx3 : Good pq x3) : Good pq (staleCheck x0 x1 x2 x3) := by
  unfold staleCheck
  extract_lets v0 v1 v2
  try clear_value v0
  try clear_value v1
  try clear_value v2
  apply raiseIf_good
  apply onConv_good
  assumption

theorem tempUpdate_good {pq : List Instr} {x0 : Fin 2} {x1 : State} (hx1 : Good pq x1) : Good pq (tempUpdate x0 x1) := by
  unfold tempUpdate
  refine foldl_good (fun _ _ _ => ?_) ?_
  · try dsimp -zeta only
    apply staleCheck_good
    assumption
  · assumption

theorem execConvTempUpdate_good {pq : List Instr} {x0 : Fin 2} {x1 : State} (hx1 : Good pq x1) : GoodOut pq (execConvTempUpdate x0 x1) :=
  next_goodOut (tempUpdate_good hx1)

theorem convReady_good {pq : List Instr} {x0 : Fin 2} {x1 : Fin 8} {x2 : State} (hx2 : Good pq x2) : Good pq (convReady x0 x1 x2) := by
  unfold convReady
  refine ite_good (fun _ => ?_) (fun _ => ?_)
  · assumption
  · apply onConv_good
    assumption

theorem convStart_good {pq : List Instr} {x0 : Fin 2} {x1 : State} (hx1 : Good pq x1) : Good pq (convStart x0 x1) := by
  unfold convStart
  refine foldl_good (fun _ _ _ => ?_) ?_
  · try dsimp -zeta only
    apply select_good
    apply onConv_good
    assumption
  · assumption

theorem convDefaults_good {pq : List Instr} {x0 : List Nat} {x1 : State} (hx1 : Good pq x1) : Good pq (convDefaults x0 x1) := by
  unfold convDefaults
  refine foldl_good (fun _ _ _ => ?_) ?_
  · try dsimp -zeta only
    refine ite_good (fun _ => ?_) (fun _ => ?_)
    · apply onConv_good
      assumption
    · assumption
  · assumption

theorem fgStart_good {pq : List Instr} {x0 : Fin 2} {x1 : Bool} {x2 : Bool} {x3 : State} (hx3 : Good pq x3) : Good pq (fgStart x0 x1 x2 x3) := by
  unfold fgStart
  extract_lets v0
  have hv0 : Good pq v0 := by
    unfold v0
    refine foldl_good (fun _ _ _ => ?_) ?_
    · try dsimp -zeta only
      apply convReady_good
      assumption
    · assumption
  try clear_value v0
  apply onCar_good
  assumption

theorem convCalibrate_good {pq : List Instr} {x0 : Request} {x1 : State} (hx1 : Good pq x1) : Good pq (convCalibrate x0 x1).1 := by
  unfold convCalibrate
  extract_lets v0
  clear_value v0
  refine ite_good_1 (fun _ => ?_) (fun _ => ?_)
  · refine Good.fst ?_
    assumption
  · refine Good.fst ?_
    apply beginTransition_good
    apply fgStart_good
    apply requestDomain_good
    assumption

theorem execConvCalibrate_good {pq : List Instr} {x0 : Request} {x1 : State} (hx1 : Good pq x1) : GoodOut pq (execConvCalibrate x0 x1) := by
  unfold execConvCalibrate
  refine next_goodOut ?_
  apply deskRun_good
  · intro a0 a1 ha2
    try dsimp -zeta only
    apply convCalibrate_good
    assumption
  · assumption

theorem groupEnd_good {pq : List Instr} {x0 : Fin 2} {x1 : State} (hx1 : Good pq x1) : Good pq (groupEnd x0 x1) := by
  unfold groupEnd
  split
  · assumption
  · refine ite_good (fun _ => ?_) (fun _ => ?_)
    · assumption
    · extract_lets v0 v1 v2
      clear_value v0 v1 v2
      apply onCar_good
      assumption

theorem execCalibrationGroupEnd_good {pq : List Instr} {x0 : Fin 2} {x1 : State} (hx1 : Good pq x1) : GoodOut pq (execCalibrationGroupEnd x0 x1) :=
  next_goodOut (groupEnd_good hx1)

theorem fgEvents_good {pq : List Instr} {x0 : Fin 2} {x1 : Foreground} {x2 : Carrier} {x3 : Fin 8} {x4 : State} (hx4 : Good pq x4) : Good pq (fgEvents x0 x1 x2 x3 x4) := by
  unfold fgEvents
  extract_lets v0 v1 v2 v3
  try clear_value v0 v1 v2
  have hv3 : Good pq v3 := by
    unfold v3
    refine foldl_good (fun _ _ _ => ?_) ?_
    · try dsimp -zeta only
      apply raiseConv_good
      assumption
    · assumption
  try clear_value v3
  apply raiseIf_good
  assumption

theorem rotationSet_good {pq : List Instr} {x0 : Fin 2} {x1 : List ParamVal} {x2 : State} {x3 : Fin 8} (hx2 : Good pq x2) : Good pq (rotationSet x0 x1 x2 x3) := by
  unfold rotationSet
  extract_lets v0 v1
  clear_value v0
  have hv1 : Good pq v1 := by
    unfold v1
    refine Good.lit ?_
    assumption
  clear_value v1
  refine ite_good (fun _ => ?_) (fun _ => ?_)
  · assumption
  · refine ite_good (fun _ => ?_) (fun _ => ?_)
    · refine Good.lit ?_
      assumption
    · refine ite_good (fun _ => ?_) (fun _ => ?_)
      · apply select_good
        assumption
      · assumption

theorem convRotationSet_good {pq : List Instr} {x0 : Request} {x1 : List ParRec} {x2 : State} (hx2 : Good pq x2) : Good pq (convRotationSet x0 x1 x2) := by
  unfold convRotationSet
  refine foldl_good (fun _ _ _ => ?_) ?_
  · try dsimp -zeta only
    apply rotationSet_good
    assumption
  · assumption

theorem execConvRotationSet_good {pq : List Instr} {x0 : Request} {x1 : State} (hx1 : Good pq x1) : GoodOut pq (execConvRotationSet x0 x1) := by
  unfold execConvRotationSet
  refine next_goodOut ?_
  apply deskRun_good
  · intro a0 a1 ha2
    try dsimp -zeta only
    apply pCommand_good
    · intro a3 a4 ha5
      try dsimp -zeta only
      apply convRotationSet_good
      assumption
    · assumption
  · assumption

theorem countForced_good {pq : List Instr} {x0 : Fin 2} {x1 : Fin 8} {x2 : State} (hx2 : Good pq x2) : Good pq (countForced x0 x1 x2) := by
  unfold countForced
  apply onConv_good
  assumption

theorem convSliceRetire_good {pq : List Instr} {x0 : Request} {x1 : State} (hx1 : Good pq x1) : Good pq (convSliceRetire x0 x1).1 := by
  unfold convSliceRetire
  extract_lets v0 v1 v2 v3 v4 v5 v6
  try clear_value v0 v1 v2
  have hv3 : Good pq v3 := by
    unfold v3
    apply convReady_good
    assumption
  try clear_value v3 v4 v5 v6
  refine ite_good_1 (fun _ => ?_) (fun _ => ?_)
  · refine Good.fst ?_
    assumption
  · refine ite_good_1 (fun _ => ?_) (fun _ => ?_)
    · refine Good.fst ?_
      assumption
    · split
      · refine Good.fst ?_
        assumption
      · refine Good.fst ?_
        apply countForced_good
        apply retireSlice_good
        assumption
      · split
        · refine Good.fst ?_
          apply measuredLost_good
          apply countForced_good
          assumption
        · refine Good.fst ?_
          apply retireSlice_good
          apply onConv_good
          assumption
      · refine ite_good_1 (fun _ => ?_) (fun _ => ?_)
        · refine Good.fst ?_
          apply standInLost_good
          apply countForced_good
          assumption
        · refine ite_good_1 (fun _ => ?_) (fun _ => ?_)
          · split
            · refine Good.fst ?_
              apply countForced_good
              apply retireSlice_good
              apply onConv_good
              assumption
            · refine Good.fst ?_
              assumption
          · refine ite_good_1 (fun _ => ?_) (fun _ => ?_)
            · refine Good.fst ?_
              apply raiseConv_good
              assumption
            · refine Good.fst ?_
              apply beginTransition_good
              apply startSubst_good
              assumption

theorem execConvSliceRetire_good {pq : List Instr} {x0 : Request} {x1 : State} (hx1 : Good pq x1) : GoodOut pq (execConvSliceRetire x0 x1) := by
  unfold execConvSliceRetire
  refine next_goodOut ?_
  apply deskRun_good
  · intro a0 a1 ha2
    try dsimp -zeta only
    apply convSliceRetire_good
    assumption
  · assumption

theorem execConvStatus_good {pq : List Instr} {x0 : Request} {x1 : State} (hx1 : Good pq x1) : GoodOut pq (execConvStatus x0 x1) := by
  unfold execConvStatus
  refine next_goodOut ?_
  apply deskRun_good
  · intro a0 a1 ha2
    try dsimp -zeta only
    apply sCommand_good
    assumption
  · assumption

/-! ### RxDsp -/

theorem raiseRx_good {pq : List Instr} {x0 : Nat} {x1 : Fin 2} {x2 : Nat} {x3 : Nat} {x4 : Nat} {x5 : State} (hx5 : Good pq x5) : Good pq (raiseRx x0 x1 x2 x3 x4 x5) := by
  unfold raiseRx
  apply raise_good
  assumption

theorem setSubs_good {pq : List Instr} {x0 : Fin 2} {x1 : Nat} {x2 : RxSub → RxSub} {x3 : State} (hx3 : Good pq x3) : Good pq (setSubs x0 x1 x2 x3) := by
  unfold setSubs
  refine foldl_good (fun _ _ _ => ?_) ?_
  · try dsimp -zeta only
    refine ite_good (fun _ => ?_) (fun _ => ?_)
    · apply onSub_good
      assumption
    · assumption
  · assumption

theorem releaseRx_good {pq : List Instr} {x0 : Fin 2} {x1 : Fin 16} {x2 : State} (hx2 : Good pq x2) : Good pq (releaseRx x0 x1 x2) := by
  unfold releaseRx
  refine Good.lit ?_
  assumption

theorem releaseSearch_good {pq : List Instr} {x0 : Fin 2} {x1 : Fin 16} {x2 : State} (hx2 : Good pq x2) : Good pq (releaseSearch x0 x1 x2) := by
  unfold releaseSearch
  extract_lets v0
  have hv0 : Good pq v0 := by
    unfold v0
    apply releaseRx_good
    assumption
  try clear_value v0
  refine Good.lit ?_
  assumption

theorem assignSubs_good {pq : List Instr} {x0 : Fin 2} {x1 : State} (hx1 : Good pq x1) : Good pq (assignSubs x0 x1) := by
  unfold assignSubs
  refine foldl_good (fun _ _ _ => ?_) ?_
  · try dsimp -zeta only
    apply onSub_good
    assumption
  · assumption

theorem grantEngine_good {pq : List Instr} {x0 : Fin 2} {x1 : State} (hx1 : Good pq x1) : Good pq (grantEngine x0 x1) := by
  unfold grantEngine
  refine ite_good (fun _ => ?_) (fun _ => ?_)
  · assumption
  · split
    · assumption
    · apply onRxg_good
      apply onRx_good
      assumption

theorem freeEngine_good {pq : List Instr} {x0 : Fin 2} {x1 : Fin 16} {x2 : State} (hx2 : Good pq x2) : Good pq (freeEngine x0 x1 x2) := by
  unfold freeEngine
  apply onRxg_good
  apply onRx_good
  assumption

theorem prepSearch_good {pq : List Instr} {x0 : Fin 2} {x1 : Fin 16} {x2 : State} (hx2 : Good pq x2) : Good pq (prepSearch x0 x1 x2) := by
  unfold prepSearch
  extract_lets v0 v1
  have hv0 : Good pq v0 := by
    unfold v0
    apply freeEngine_good
    apply releaseSearch_good
    assumption
  try clear_value v0
  have hv1 : Good pq v1 := by
    unfold v1
    apply setSubs_good
    assumption
  try clear_value v1
  refine ite_good (fun _ => ?_) (fun _ => ?_)
  · apply onRxg_good
    assumption
  · apply onRxg_good
    assumption

theorem enterSearch_good {pq : List Instr} {x0 : Fin 2} {x1 : Fin 16} {x2 : State} (hx2 : Good pq x2) : Good pq (enterSearch x0 x1 x2) := by
  unfold enterSearch
  apply grantEngine_good
  apply prepSearch_good
  assumption

theorem rxFailure_good {pq : List Instr} {x0 : Fin 2} {x1 : Fin 16} {x2 : State} (hx2 : Good pq x2) : Good pq (rxFailure x0 x1 x2) := by
  unfold rxFailure
  extract_lets v0 v1 v2
  try clear_value v0
  try clear_value v1
  have hv2 : Good pq v2 := by
    unfold v2
    apply onRxg_good
    assumption
  try clear_value v2
  apply enterSearch_good
  apply raiseIf_good
  assumption

theorem enterTrack_good {pq : List Instr} {x0 : Fin 2} {x1 : Fin 16} {x2 : State} (hx2 : Good pq x2) : Good pq (enterTrack x0 x1 x2) := by
  unfold enterTrack
  apply raiseRx_good
  apply onRxg_good
  assumption

end Sys2Proof.Machine
end

