-- ==== Sys2Proof/Laws/Sound3.lean ====
section
/-! SUPPORT. Each effect of Sys2Proof/Machine/ in the files named below leaves the queue of commands alone and keeps a state sound:
RxDsp, Interloan, Folio, Framers. -/

namespace Sys2Proof.Machine

/-! ### RxDsp -/

theorem folioLost_good {pq : List Instr} {x0 : Fin 2} {x1 : Fin 16} {x2 : State} (hx2 : Good pq x2) : Good pq (folioLost x0 x1 x2) := by
  unfold folioLost
  extract_lets v0 v1
  clear_value v0
  have hv1 : Good pq v1 := by
    unfold v1
    apply onCry_good
    apply onFol_good
    assumption
  clear_value v1
  apply raiseIf_good
  assumption

theorem loseTrack_good {pq : List Instr} {x0 : Fin 2} {x1 : Fin 16} {x2 : State} (hx2 : Good pq x2) : Good pq (loseTrack x0 x1 x2) := by
  unfold loseTrack
  apply enterSearch_good
  apply folioLost_good
  apply raiseRx_good
  apply onRxg_good
  assumption

theorem rxOff_good {pq : List Instr} {x0 : Fin 2} {x1 : State} (hx1 : Good pq x1) : Good pq (rxOff x0 x1) := by
  unfold rxOff
  refine foldl_good (fun _ _ _ => ?_) ?_
  · try dsimp -zeta only
    apply onFol_good
    assumption
  · apply assignSubs_good
    apply onRx_good
    assumption

theorem rxStart_good {pq : List Instr} {x0 : Fin 2} {x1 : State} (hx1 : Good pq x1) : Good pq (rxStart x0 x1) := by
  unfold rxStart
  refine foldl_good (fun _ _ _ => ?_) ?_
  · try dsimp -zeta only
    apply folioLost_good
    assumption
  · apply assignSubs_good
    apply onRx_good
    assumption

theorem rxLos_good {pq : List Instr} {x0 : Fin 2} {x1 : State} (hx1 : Good pq x1) : Good pq (rxLos x0 x1) := by
  unfold rxLos
  extract_lets v0 v1 v2
  try clear_value v0
  have hv1 : Good pq v1 := by
    unfold v1
    apply onRx_good
    assumption
  try clear_value v1
  have hv2 : Good pq v2 := by
    unfold v2
    apply raiseRx_good
    assumption
  try clear_value v2
  refine ite_good (fun _ => ?_) (fun _ => ?_)
  · refine foldl_good (fun _ _ _ => ?_) ?_
    · try dsimp -zeta only
      apply folioLost_good
      apply setSubs_good
      apply onRxg_good
      first | assumption | exact allocRegion_good (by assumption) (by assumption) | exact growQueue_good (by assumption) (by assumption) | exact growQueues_good (by assumption) (by assumption) | exact startUrgent_good (by assumption) (by assumption) | exact startAborted_good (by assumption) (by assumption) | exact startDue_good (by assumption) (by assumption)
    · apply onRx_good
      assumption
  · assumption

theorem rxLosClear_good {pq : List Instr} {x0 : Fin 2} {x1 : State} (hx1 : Good pq x1) : Good pq (rxLosClear x0 x1) := by
  unfold rxLosClear
  apply raiseRx_good
  apply onRx_good
  assumption

theorem frontEndDone_good {pq : List Instr} {x0 : Fin 2} {x1 : FrontEnd} {x2 : FrontEnd} {x3 : State} (hx3 : Good pq x3) : Good pq (frontEndDone x0 x1 x2 x3) := by
  unfold frontEndDone
  refine ite_good (fun _ => ?_) (fun _ => ?_)
  · apply grantEngine_good
    refine foldl_good (fun _ _ _ => ?_) ?_
    · try dsimp -zeta only
      apply prepSearch_good
      assumption
    · apply onRx_good
      assumption
  · assumption

theorem execFrontEndDone_good {pq : List Instr} {x0 : Fin 2} {x1 : FrontEnd} {x2 : FrontEnd} {x3 : State} (hx3 : Good pq x3) : GoodOut pq (execFrontEndDone x0 x1 x2 x3) :=
  next_goodOut (frontEndDone_good hx3)

theorem cdSearchEnd_good {pq : List Instr} {x0 : Fin 2} {x1 : List Nat} {x2 : List Nat} {x3 : State} (hx3 : Good pq x3) : Good pq (cdSearchEnd x0 x1 x2 x3) := by
  unfold cdSearchEnd
  split
  · assumption
  · split
    · apply grantEngine_good
      apply freeEngine_good
      apply onRxg_good
      assumption
    · apply rxFailure_good
      apply onRxg_good
      assumption

theorem execCdSearchEnd_good {pq : List Instr} {x0 : Fin 2} {x1 : List Nat} {x2 : List Nat} {x3 : State} (hx3 : Good pq x3) : GoodOut pq (execCdSearchEnd x0 x1 x2 x3) := by
  unfold execCdSearchEnd
  refine next_goodOut ?_
  apply cdSearchEnd_good
  assumption

theorem execClockLock_good {pq : List Instr} {x0 : Fin 2} {x1 : Fin 16} {x2 : Int} {x3 : State} (hx3 : Good pq x3) : GoodOut pq (execClockLock x0 x1 x2 x3) :=
  next_goodOut (onRxg_good hx3)

theorem clockLoss_good {pq : List Instr} {x0 : Fin 2} {x1 : Fin 16} {x2 : State} (hx2 : Good pq x2) : Good pq (clockLoss x0 x1 x2) := by
  unfold clockLoss
  refine ite_good (fun _ => ?_) (fun _ => ?_)
  · apply loseTrack_good
    assumption
  · assumption

theorem setFreq_good {pq : List Instr} {x0 : Fin 2} {x1 : Fin 16} {x2 : Int} {x3 : State} (hx3 : Good pq x3) : Good pq (setFreq x0 x1 x2 x3) := by
  unfold setFreq
  extract_lets v0
  try clear_value v0
  apply onRxg_good
  apply onRx_good
  assumption

theorem freqAcquired_good {pq : List Instr} {x0 : Fin 2} {x1 : Fin 16} {x2 : Int} {x3 : State} (hx3 : Good pq x3) : Good pq (freqAcquired x0 x1 x2 x3) := by
  unfold freqAcquired
  refine ite_good (fun _ => ?_) (fun _ => ?_)
  · apply setFreq_good
    apply onRxg_good
    assumption
  · assumption

theorem execFreqAcquired_good {pq : List Instr} {x0 : Fin 2} {x1 : Fin 16} {x2 : Int} {x3 : State} (hx3 : Good pq x3) : GoodOut pq (execFreqAcquired x0 x1 x2 x3) :=
  next_goodOut (freqAcquired_good hx3)

theorem freqLoss_good {pq : List Instr} {x0 : Fin 2} {x1 : Fin 16} {x2 : Int} {x3 : State} (hx3 : Good pq x3) : Good pq (freqLoss x0 x1 x2 x3) := by
  unfold freqLoss
  refine ite_good (fun _ => ?_) (fun _ => ?_)
  · apply loseTrack_good
    apply setFreq_good
    assumption
  · assumption

theorem trainingFound_good {pq : List Instr} {x0 : Fin 2} {x1 : Fin 16} {x2 : State} (hx2 : Good pq x2) : Good pq (trainingFound x0 x1 x2) := by
  unfold trainingFound
  refine ite_good (fun _ => ?_) (fun _ => ?_)
  · apply setSubs_good
    apply onRxg_good
    assumption
  · assumption

theorem execTrainingFound_good {pq : List Instr} {x0 : Fin 2} {x1 : Fin 16} {x2 : State} (hx2 : Good pq x2) : GoodOut pq (execTrainingFound x0 x1 x2) :=
  next_goodOut (trainingFound_good hx2)

theorem eqDone_good {pq : List Instr} {x0 : Fin 2} {x1 : Nat} {x2 : State} (hx2 : Good pq x2) : Good pq (eqDone x0 x1 x2) := by
  unfold eqDone
  split
  · refine ite_good (fun _ => ?_) (fun _ => ?_)
    · apply enterTrack_good
      assumption
    · assumption
  · assumption

theorem halfCheck_good {pq : List Instr} {x0 : Fin 2} {x1 : Nat} {x2 : State} (hx2 : Good pq x2) : Good pq (halfCheck x0 x1 x2) := by
  unfold halfCheck
  refine ite_good (fun _ => ?_) (fun _ => ?_)
  · assumption
  · apply onRx_good
    assumption

theorem subLocked_good {pq : List Instr} {x0 : Fin 2} {x1 : Fin 16} {x2 : State} (hx2 : Good pq x2) : Good pq (subLocked x0 x1 x2) := by
  unfold subLocked
  refine ite_good (fun _ => ?_) (fun _ => ?_)
  · apply eqDone_good
    apply halfCheck_good
    apply onSub_good
    assumption
  · assumption

theorem execSubcarrierLocked_good {pq : List Instr} {x0 : Fin 2} {x1 : Fin 16} {x2 : State} (hx2 : Good pq x2) : GoodOut pq (execSubcarrierLocked x0 x1 x2) :=
  next_goodOut (subLocked_good hx2)

theorem execSubcarrierAcqTimeout_good {pq : List Instr} {x0 : Fin 2} {x1 : Fin 16} {x2 : State} (hx2 : Good pq x2) : GoodOut pq (execSubcarrierAcqTimeout x0 x1 x2) :=
  next_goodOut (onSub_good hx2)

theorem acqTimeout_good {pq : List Instr} {x0 : Fin 2} {x1 : Fin 16} {x2 : State} (hx2 : Good pq x2) : Good pq (acqTimeout x0 x1 x2) := by
  unfold acqTimeout
  split
  · apply rxFailure_good
    assumption
  · apply rxFailure_good
    assumption
  · apply rxFailure_good
    assumption
  · refine ite_good (fun _ => ?_) (fun _ => ?_)
    · apply enterTrack_good
      assumption
    · apply rxFailure_good
      assumption
  · assumption

theorem execAcquisitionTimeout_good {pq : List Instr} {x0 : Fin 2} {x1 : Fin 16} {x2 : State} (hx2 : Good pq x2) : GoodOut pq (execAcquisitionTimeout x0 x1 x2) :=
  next_goodOut (acqTimeout_good hx2)

theorem reacquireSubs_good {pq : List Instr} {x0 : Fin 2} {x1 : Fin 16} {x2 : State} (hx2 : Good pq x2) : Good pq (reacquireSubs x0 x1 x2) := by
  unfold reacquireSubs
  refine ite_good (fun _ => ?_) (fun _ => ?_)
  · apply setSubs_good
    assumption
  · assumption

theorem hearPilots_good {pq : List Instr} {x0 : Fin 2} {x1 : Fin 16} {x2 : List PilotRun} {x3 : State} (hx3 : Good pq x3) : Good pq (hearPilots x0 x1 x2 x3) := by
  unfold hearPilots
  refine foldl_good (fun _ _ _ => ?_) ?_
  · try dsimp -zeta only
    refine ite_good (fun _ => ?_) (fun _ => ?_)
    · apply onSub_good
      assumption
    · assumption
  · assumption

theorem subVolume_good {pq : List Instr} {x0 : Fin 2} {x1 : Fin 16} {x2 : State} {x3 : Fin 16} (hx2 : Good pq x2) : Good pq (subVolume x0 x1 x2 x3) := by
  unfold subVolume
  refine ite_good (fun _ => ?_) (fun _ => ?_)
  · assumption
  · extract_lets v0 v1
    try clear_value v0
    have hv1 : Good pq v1 := by
      unfold v1
      apply onSub_good
      assumption
    try clear_value v1
    split
    · refine ite_good (fun _ => ?_) (fun _ => ?_)
      · apply raiseRx_good
        apply onSub_good
        assumption
      · assumption
    · refine ite_good (fun _ => ?_) (fun _ => ?_)
      · apply onSub_good
        assumption
      · assumption
    · assumption

theorem dispersion_good {pq : List Instr} {x0 : Fin 2} {x1 : Fin 16} {x2 : RxVolume} {x3 : State} (hx3 : Good pq x3) : Good pq (dispersion x0 x1 x2 x3) := by
  unfold dispersion
  extract_lets v0 v1
  try clear_value v0 v1
  apply setSubs_good
  apply onRxg_good
  assumption

theorem trackFar_good {pq : List Instr} {x0 : Fin 2} {x1 : Fin 16} {x2 : RxVolume} {x3 : State} (hx3 : Good pq x3) : Good pq (trackFar x0 x1 x2 x3) := by
  unfold trackFar
  extract_lets v0
  have hv0 : Good pq v0 := by
    unfold v0
    refine ite_good (fun _ => ?_) (fun _ => ?_)
    · apply setFreq_good
      assumption
    · assumption
  try clear_value v0
  apply onRxg_good
  assumption

theorem clipCheck_good {pq : List Instr} {x0 : Fin 2} {x1 : Nat} {x2 : Nat} {x3 : State} (hx3 : Good pq x3) : Good pq (clipCheck x0 x1 x2 x3) := by
  unfold clipCheck
  extract_lets v0
  try clear_value v0
  apply raiseIf_good
  apply onRx_good
  assumption

theorem rxVolumeBoundary_good {pq : List Instr} {x0 : Fin 2} {x1 : Fin 16} {x2 : RxVolume} {x3 : State} (hx3 : Good pq x3) : Good pq (rxVolumeBoundary x0 x1 x2 x3) := by
  unfold rxVolumeBoundary
  extract_lets v0 v1 v2
  have hv0 : Good pq v0 := by
    unfold v0
    apply clipCheck_good
    apply onRx_good
    assumption
  try clear_value v0
  have hv1 : Good pq v1 := by
    unfold v1
    refine foldl_good (fun _ _ _ => ?_) ?_
    · try dsimp -zeta only
      apply subVolume_good
      assumption
    · assumption
  try clear_value v1 v2
  split
  · apply eqDone_good
    assumption
  · refine ite_good (fun _ => ?_) (fun _ => ?_)
    · apply loseTrack_good
      assumption
    · apply dispersion_good
      apply trackFar_good
      apply onRxg_good
      apply releaseRx_good
      assumption
  · assumption

theorem subQuality_good {pq : List Instr} {x0 : Fin 2} {x1 : Fin 16} {x2 : State} {x3 : Fin 16 × SubQuality} (hx2 : Good pq x2) : Good pq (subQuality x0 x1 x2 x3) := by
  unfold subQuality
  refine ite_good (fun _ => ?_) (fun _ => ?_)
  · assumption
  · extract_lets v0 v1 v2 v3
    clear_value v0 v1 v2 v3
    apply raiseIf_good
    apply onSub_good
    assumption

theorem preFec_good {pq : List Instr} {x0 : Fin 2} {x1 : State} (hx1 : Good pq x1) : Good pq (preFec x0 x1) := by
  unfold preFec
  apply onRx_good
  assumption

theorem rxdspSet_good {pq : List Instr} {x0 : Nat} {x1 : Request} {x2 : List ParRec} {x3 : State} (hx3 : Good pq x3) : Good pq (rxdspSet x0 x1 x2 x3) := by
  unfold rxdspSet
  extract_lets v0
  try clear_value v0
  refine Good.lit ?_
  assumption

theorem execRxdspSet_good {pq : List Instr} {x0 : Request} {x1 : State} (hx1 : Good pq x1) : GoodOut pq (execRxdspSet x0 x1) := by
  unfold execRxdspSet
  refine next_goodOut ?_
  apply deskRun_good
  · intro a0 a1 ha2
    try dsimp -zeta only
    apply pCommand_good
    · intro a3 a4 ha5
      try dsimp -zeta only
      apply rxdspSet_good
      assumption
    · assumption
  · assumption

theorem execRxdspCdHint_good {pq : List Instr} {x0 : Request} {x1 : State} (hx1 : Good pq x1) : GoodOut pq (execRxdspCdHint x0 x1) := by
  unfold execRxdspCdHint
  refine next_goodOut ?_
  apply deskRun_good
  · intro a0 a1 ha2
    try dsimp -zeta only
    apply pCommand_good
    · intro a3 a4 ha5
      try dsimp -zeta only
      apply rxdspSet_good
      assumption
    · assumption
  · assumption

theorem execRxdspStatus_good {pq : List Instr} {x0 : Request} {x1 : State} (hx1 : Good pq x1) : GoodOut pq (execRxdspStatus x0 x1) := by
  unfold execRxdspStatus
  refine next_goodOut ?_
  apply deskRun_good
  · intro a0 a1 ha2
    try dsimp -zeta only
    apply sCommand_good
    assumption
  · assumption

/-! ### Interloan -/

theorem onTone_good {pq : List Instr} {x0 : Fin 2} {x1 : Fin 4} {x2 : Tone → Tone} {x3 : State} (hx3 : Good pq x3) : Good pq (onTone x0 x1 x2 x3) := by
  unfold onTone
  apply onIl_good
  assumption

theorem sendBurst_good {pq : List Instr} {x0 : Fin 2} {x1 : Fin 4} {x2 : Nat} {x3 : Burst} {x4 : State} (hx4 : Good pq x4) : Good pq (sendBurst x0 x1 x2 x3 x4) := by
  unfold sendBurst
  extract_lets v0 v1
  try clear_value v0 v1
  apply onTone_good
  assumption

theorem placeBurst_good {pq : List Instr} {x0 : Fin 2} {x1 : Nat} {x2 : State} (hx2 : Good pq x2) : Good pq (placeBurst x0 x1 x2) := by
  unfold placeBurst
  split
  · assumption
  · split
    · assumption
    · apply sendBurst_good
      apply onIl_good
      assumption

theorem enterVolume_good {pq : List Instr} {x0 : Fin 2} {x1 : Nat} {x2 : State} (hx2 : Good pq x2) : Good pq (enterVolume x0 x1 x2) := by
  unfold enterVolume
  apply onIl_good
  assumption

theorem placeJoin_good {pq : List Instr} {x0 : Fin 2} {x1 : Nat} {x2 : State} (hx2 : Good pq x2) : Good pq (placeJoin x0 x1 x2) := by
  unfold placeJoin
  extract_lets v0 v1
  try clear_value v0
  have hv1 : Good pq v1 := by
    unfold v1
    apply onIl_good
    assumption
  try clear_value v1
  refine ite_good (fun _ => ?_) (fun _ => ?_)
  · assumption
  · split
    · assumption
    · apply sendBurst_good
      apply onIl_good
      assumption

theorem slotBoundary_good {pq : List Instr} {x0 : Fin 2} {x1 : Nat} {x2 : State} (hx2 : Good pq x2) : Good pq (slotBoundary x0 x1 x2) := by
  unfold slotBoundary
  extract_lets v0 v1 v2 v3
  try clear_value v0
  have hv1 : Good pq v1 := by
    unfold v1
    refine Good.lit ?_
    assumption
  try clear_value v1
  have hv2 : Good pq v2 := by
    unfold v2
    apply onIl_good
    assumption
  try clear_value v2
  have hv3 : Good pq v3 := by
    unfold v3
    refine ite_good (fun _ => ?_) (fun _ => ?_)
    · apply ilEnqueue_good
      apply onIl_good
      assumption
    · refine ite_good (fun _ => ?_) (fun _ => ?_)
      · apply placeJoin_good
        refine ite_good (fun _ => ?_) (fun _ => ?_)
        · apply enterVolume_good
          assumption
        · assumption
      · assumption
  try clear_value v3
  refine ite_good (fun _ => ?_) (fun _ => ?_)
  · assumption
  · apply placeBurst_good
    assumption

theorem execSlotBoundaryTx_good {pq : List Instr} {x0 : Fin 2} {x1 : Nat} {x2 : State} (hx2 : Good pq x2) : GoodOut pq (execSlotBoundaryTx x0 x1 x2) := by
  unfold execSlotBoundaryTx
  refine next_goodOut ?_
  apply slotBoundary_good
  assumption

theorem joinWindow_good {pq : List Instr} {x0 : Fin 2} {x1 : State} (hx1 : Good pq x1) : Good pq (joinWindow x0 x1) := by
  unfold joinWindow
  extract_lets v0
  try clear_value v0
  refine ite_good (fun _ => ?_) (fun _ => ?_)
  · apply onIl_good
    apply State.drawn_good
    assumption
  · assumption

theorem execJoinWindowStart_good {pq : List Instr} {x0 : Fin 2} {x1 : State} (hx1 : Good pq x1) : GoodOut pq (execJoinWindowStart x0 x1) := by
  unfold execJoinWindowStart
  refine next_goodOut ?_
  apply joinWindow_good
  assumption

theorem toneDetection_good {pq : List Instr} {x0 : Fin 2} {x1 : Fin 4} {x2 : Nat} {x3 : List Nat} {x4 : Nat} {x5 : State} (hx5 : Good pq x5) : Good pq (toneDetection x0 x1 x2 x3 x4 x5) := by
  unfold toneDetection
  extract_lets v0 v1
  try clear_value v0 v1
  refine ite_good (fun _ => ?_) (fun _ => ?_)
  · assumption
  · apply onTone_good
    assumption

theorem execToneDetection_good {pq : List Instr} {x0 : Fin 2} {x1 : Fin 4} {x2 : Nat} {x3 : List Nat} {x4 : Nat} {x5 : State} (hx5 : Good pq x5) : GoodOut pq (execToneDetection x0 x1 x2 x3 x4 x5) := by
  unfold execToneDetection
  refine next_goodOut ?_
  apply toneDetection_good
  assumption

theorem execPreambleEnd_good {pq : List Instr} {x0 : Fin 2} {x1 : Fin 4} {x2 : Int} {x3 : Int} {x4 : Bool} {x5 : State} (hx5 : Good pq x5) : GoodOut pq (execPreambleEnd x0 x1 x2 x3 x4 x5) := by
  unfold execPreambleEnd
  refine next_goodOut ?_
  apply onTone_good
  assumption

theorem execBurstTrainingEnd_good {pq : List Instr} {x0 : Fin 2} {x1 : Fin 4} {x2 : Int × Int} {x3 : Int × Int} {x4 : Int × Int} {x5 : Int × Int} {x6 : Bool} {x7 : State} (hx7 : Good pq x7) : GoodOut pq (execBurstTrainingEnd x0 x1 x2 x3 x4 x5 x6 x7) := by
  unfold execBurstTrainingEnd
  refine next_goodOut ?_
  apply onTone_good
  assumption

theorem execHeaderCrcReady_good {pq : List Instr} {x0 : Fin 2} {x1 : Fin 4} {x2 : List Byte} {x3 : Bool} {x4 : Nat} {x5 : State} (hx5 : Good pq x5) : GoodOut pq (execHeaderCrcReady x0 x1 x2 x3 x4 x5) := by
  unfold execHeaderCrcReady
  refine next_goodOut ?_
  apply onTone_good
  assumption

theorem recordEvm_good {pq : List Instr} {x0 : Fin 2} {x1 : Fin 4} {x2 : Nat} {x3 : Int} {x4 : State} (hx4 : Good pq x4) : Good pq (recordEvm x0 x1 x2 x3 x4) := by
  unfold recordEvm
  apply onIl_good
  apply onTone_good
  assumption

theorem rangeMeasure_good {pq : List Instr} {x0 : Fin 2} {x1 : Fin 4} {x2 : Fin 16} {x3 : Int} {x4 : State} (hx4 : Good pq x4) : Good pq (rangeMeasure x0 x1 x2 x3 x4) := by
  unfold rangeMeasure
  apply raiseIf_good
  apply onIl_good
  assumption

theorem joinReceived_good {pq : List Instr} {x0 : Fin 2} {x1 : Nat} {x2 : Int} {x3 : State} (hx3 : Good pq x3) : Good pq (joinReceived x0 x1 x2 x3) := by
  unfold joinReceived
  apply onIl_good
  assumption

theorem schedReceived_good {pq : List Instr} {x0 : Fin 2} {x1 : List Byte} {x2 : State} (hx2 : Good pq x2) : Good pq (schedReceived x0 x1 x2) := by
  unfold schedReceived
  extract_lets v0 v1 v2
  clear_value v0 v1 v2
  apply onIl_good
  assumption

theorem mgmtReceived_good {pq : List Instr} {x0 : Fin 2} {x1 : Fin 4} {x2 : Datagram} {x3 : State} (hx3 : Good pq x3) : Good pq (mgmtReceived x0 x1 x2 x3) := by
  unfold mgmtReceived
  refine ite_good (fun _ => ?_) (fun _ => ?_)
  · apply raise_good
    apply onIl_good
    assumption
  · apply raise_good
    apply onIl_good
    assumption

theorem tonesOff_good {pq : List Instr} {x0 : Fin 2} {x1 : State} (hx1 : Good pq x1) : Good pq (tonesOff x0 x1) := by
  unfold tonesOff
  apply onIl_good
  assumption

theorem tonesIdle_good {pq : List Instr} {x0 : Fin 2} {x1 : State} (hx1 : Good pq x1) : Good pq (tonesIdle x0 x1) := by
  unfold tonesIdle
  apply onIl_good
  assumption

theorem tonesStop_good {pq : List Instr} {x0 : Fin 2} {x1 : State} (hx1 : Good pq x1) : Good pq (tonesStop x0 x1) := by
  unfold tonesStop
  apply onIl_good
  apply tonesOff_good
  assumption

theorem leafTimeout_good {pq : List Instr} {x0 : Fin 2} {x1 : Fin 16} {x2 : State} (hx2 : Good pq x2) : Good pq (leafTimeout x0 x1 x2) := by
  unfold leafTimeout
  refine ite_good (fun _ => ?_) (fun _ => ?_)
  · apply raise_good
    apply onIl_good
    assumption
  · assumption

theorem execLeafTimeout_good {pq : List Instr} {x0 : Fin 2} {x1 : Fin 16} {x2 : State} (hx2 : Good pq x2) : GoodOut pq (execLeafTimeout x0 x1 x2) :=
  next_goodOut (leafTimeout_good hx2)

theorem noiseWindow_good {pq : List Instr} {x0 : Fin 2} {x1 : Fin 4} {x2 : Int} {x3 : Int} {x4 : State} (hx4 : Good pq x4) : Good pq (noiseWindow x0 x1 x2 x3 x4) := by
  unfold noiseWindow
  extract_lets v0 v1 v2 v3
  clear_value v0 v1 v2 v3
  apply raiseIf_good
  apply onTone_good
  assumption

theorem execNoiseWindowEnd_good {pq : List Instr} {x0 : Fin 2} {x1 : Fin 4} {x2 : Int} {x3 : Int} {x4 : State} (hx4 : Good pq x4) : GoodOut pq (execNoiseWindowEnd x0 x1 x2 x3 x4) :=
  next_goodOut (noiseWindow_good hx4)

theorem execInterloanSet_good {pq : List Instr} {x0 : Request} {x1 : State} (hx1 : Good pq x1) : GoodOut pq (execInterloanSet x0 x1) := by
  unfold execInterloanSet
  refine next_goodOut ?_
  apply deskRun_good
  · intro a0 a1 ha2
    try dsimp -zeta only
    apply pCommand_good
    · intro a3 a4 ha5
      try dsimp -zeta only
      refine ite_good (fun _ => ?_) (fun _ => ?_)
      · apply waitRecs_good
        assumption
      · apply applyRecs_good
        assumption
    · assumption
  · assumption

theorem scheduleSet_good {pq : List Instr} {x0 : Request} {x1 : State} (hx1 : Good pq x1) : Good pq (scheduleSet x0 x1).1 := by
  unfold scheduleSet
  extract_lets v0 v1
  clear_value v0 v1
  refine ite_good_1 (fun _ => ?_) (fun _ => ?_)
  · refine Good.fst ?_
    assumption
  · split
    · refine Good.fst ?_
      assumption
    · refine Good.fst ?_
      apply onIl_good
      apply keepBody_good
      assumption

theorem execInterloanScheduleSet_good {pq : List Instr} {x0 : Request} {x1 : State} (hx1 : Good pq x1) : GoodOut pq (execInterloanScheduleSet x0 x1) := by
  unfold execInterloanScheduleSet
  refine next_goodOut ?_
  apply deskRun_good
  · intro a0 a1 ha2
    try dsimp -zeta only
    apply scheduleSet_good
    assumption
  · assumption

theorem interloanSend_good {pq : List Instr} {x0 : Request} {x1 : State} (hx1 : Good pq x1) : Good pq (interloanSend x0 x1).1 := by
  unfold interloanSend
  extract_lets v0 v1
  try clear_value v0
  try clear_value v1
  refine ite_good_1 (fun _ => ?_) (fun _ => ?_)
  · refine Good.fst ?_
    assumption
  · refine ite_good_1 (fun _ => ?_) (fun _ => ?_)
    · refine Good.fst ?_
      assumption
    · refine ite_good_1 (fun _ => ?_) (fun _ => ?_)
      · refine Good.fst ?_
        assumption
      · refine ite_good_1 (fun _ => ?_) (fun _ => ?_)
        · refine Good.fst ?_
          assumption
        · refine ite_good_1 (fun _ => ?_) (fun _ => ?_)
          · refine Good.fst ?_
            assumption
          · refine ite_good_1 (fun _ => ?_) (fun _ => ?_)
            · refine Good.fst ?_
              apply onIl_good
              assumption
            · refine Good.fst ?_
              apply ilEnqueue_good
              assumption

theorem execInterloanSend_good {pq : List Instr} {x0 : Request} {x1 : State} (hx1 : Good pq x1) : GoodOut pq (execInterloanSend x0 x1) := by
  unfold execInterloanSend
  refine next_goodOut ?_
  apply deskRun_good
  · intro a0 a1 ha2
    try dsimp -zeta only
    apply interloanSend_good
    assumption
  · assumption

theorem interloanRecv_good {pq : List Instr} {x0 : Request} {x1 : State} (hx1 : Good pq x1) : Good pq (interloanRecv x0 x1).1 := by
  unfold interloanRecv
  extract_lets v0
  try clear_value v0
  split
  · refine Good.fst ?_
    assumption
  · refine Good.fst ?_
    apply onIl_good
    assumption

theorem execInterloanRecv_good {pq : List Instr} {x0 : Request} {x1 : State} (hx1 : Good pq x1) : GoodOut pq (execInterloanRecv x0 x1) := by
  unfold execInterloanRecv
  refine next_goodOut ?_
  apply deskRun_good
  · intro a0 a1 ha2
    try dsimp -zeta only
    apply interloanRecv_good
    assumption
  · assumption

theorem execInterloanStatus_good {pq : List Instr} {x0 : Request} {x1 : State} (hx1 : Good pq x1) : GoodOut pq (execInterloanStatus x0 x1) := by
  unfold execInterloanStatus
  refine next_goodOut ?_
  apply deskRun_good
  · intro a0 a1 ha2
    try dsimp -zeta only
    apply sCommand_good
    assumption
  · assumption

/-! ### Folio -/

theorem raiseFol_good {pq : List Instr} {x0 : Nat} {x1 : Fin 2} {x2 : Fin 16} {x3 : Nat} {x4 : Nat} {x5 : Nat} {x6 : State} (hx6 : Good pq x6) : Good pq (raiseFol x0 x1 x2 x3 x4 x5 x6) := by
  unfold raiseFol
  apply raise_good
  assumption

theorem goodHeader_good {pq : List Instr} {x0 : Fin 2} {x1 : Fin 16} {x2 : List Byte} {x3 : State} (hx3 : Good pq x3) : Good pq (goodHeader x0 x1 x2 x3) := by
  unfold goodHeader
  extract_lets v0 v1 v2 v3 v4 v5 v6 v7 v8 v9 v10 v11 v12 v13 v14 v15 v16 v17
  try clear_value v0
  try clear_value v1
  try clear_value v2
  try clear_value v3
  try clear_value v4
  try clear_value v5
  try clear_value v6
  try clear_value v7
  try clear_value v8
  try clear_value v9
  try clear_value v10
  try clear_value v11
  try clear_value v12
  try clear_value v13
  try clear_value v14
  have hv15 : Good pq v15 := by
    unfold v15
    apply onFol_good
    assumption
  try clear_value v15
  have hv16 : Good pq v16 := by
    unfold v16
    refine ite_good (fun _ => ?_) (fun _ => ?_)
    · apply raiseFol_good
      assumption
    · assumption
  try clear_value v16
  have hv17 : Good pq v17 := by
    unfold v17
    refine ite_good (fun _ => ?_) (fun _ => ?_)
    · apply raiseFol_good
      assumption
    · assumption
  try clear_value v17
  refine ite_good (fun _ => ?_) (fun _ => ?_)
  · apply raiseFol_good
    assumption
  · assumption

theorem badHeader_good {pq : List Instr} {x0 : Fin 2} {x1 : Fin 16} {x2 : State} (hx2 : Good pq x2) : Good pq (badHeader x0 x1 x2) := by
  unfold badHeader
  extract_lets v0 v1 v2 v3
  try clear_value v0
  try clear_value v1
  try clear_value v2
  have hv3 : Good pq v3 := by
    unfold v3
    apply onFol_good
    assumption
  try clear_value v3
  refine ite_good (fun _ => ?_) (fun _ => ?_)
  · apply raiseFol_good
    assumption
  · assumption

theorem leafNumbers_good {pq : List Instr} {x0 : Fin 2} {x1 : Fin 16} {x2 : Bool} {x3 : Bool} {x4 : List Byte} {x5 : State} (hx5 : Good pq x5) : Good pq (leafNumbers x0 x1 x2 x3 x4 x5) := by
  unfold leafNumbers
  refine ite_good (fun _ => ?_) (fun _ => ?_)
  · assumption
  · apply onFol_good
    assumption

theorem noteArrival_good {pq : List Instr} {x0 : Fin 2} {x1 : Fin 16} {x2 : State} (hx2 : Good pq x2) : Good pq (noteArrival x0 x1 x2) := by
  unfold noteArrival
  extract_lets v0 v1
  clear_value v0 v1
  refine ite_good (fun _ => ?_) (fun _ => ?_)
  · apply onLink_good
    apply onProt_good
    assumption
  · assumption

theorem numberFolio_good {pq : List Instr} {x0 : Fin 2} {x1 : Fin 16} {x2 : Bool} {x3 : List Byte} {x4 : State} (hx4 : Good pq x4) : Good pq (numberFolio x0 x1 x2 x3 x4) := by
  unfold numberFolio
  extract_lets v0
  try clear_value v0
  apply onRxg_good
  assumption

theorem headerReceived_good {pq : List Instr} {x0 : Fin 2} {x1 : Fin 16} {x2 : List Byte} {x3 : State} (hx3 : Good pq x3) : Good pq (headerReceived x0 x1 x2 x3) := by
  unfold headerReceived
  extract_lets v0 v1
  try clear_value v0 v1
  apply noteArrival_good
  apply numberFolio_good
  apply leafNumbers_good
  refine ite_good (fun _ => ?_) (fun _ => ?_)
  · apply goodHeader_good
    assumption
  · apply badHeader_good
    assumption

theorem noKeyCheck_good {pq : List Instr} {x0 : Fin 2} {x1 : Fin 16} {x2 : State} (hx2 : Good pq x2) : Good pq (noKeyCheck x0 x1 x2) := by
  unfold noKeyCheck
  extract_lets v0 v1 v2
  clear_value v0 v1
  have hv2 : Good pq v2 := by
    unfold v2
    apply onCry_good
    assumption
  clear_value v2
  refine ite_good (fun _ => ?_) (fun _ => ?_)
  · apply raiseFol_good
    assumption
  · assumption

theorem txKeySwitch_good {pq : List Instr} {x0 : Fin 2} {x1 : Fin 16} {x2 : Nat} {x3 : State} (hx3 : Good pq x3) : Good pq (txKeySwitch x0 x1 x2 x3) := by
  unfold txKeySwitch
  apply raiseFol_good
  apply onCry_good
  assumption

theorem txKeyVolume_good {pq : List Instr} {x0 : Fin 2} {x1 : Fin 16} {x2 : State} (hx2 : Good pq x2) : Good pq (txKeyVolume x0 x1 x2) := by
  unfold txKeyVolume
  extract_lets v0 v1 v2 v3 v4
  have hv0 : Good pq v0 := by
    unfold v0
    apply onCry_good
    assumption
  try clear_value v0
  try clear_value v1
  have hv2 : Good pq v2 := by
    unfold v2
    split
    · refine ite_good (fun _ => ?_) (fun _ => ?_)
      · apply txKeySwitch_good
        assumption
      · apply onCry_good
        assumption
    · apply onCry_good
      assumption
    · apply onCry_good
      assumption
  try clear_value v2
  try clear_value v3
  have hv4 : Good pq v4 := by
    unfold v4
    refine ite_good (fun _ => ?_) (fun _ => ?_)
    · apply raiseFol_good
      assumption
    · assumption
  try clear_value v4
  apply noKeyCheck_good
  apply onCry_good
  assumption

theorem rxKeySwitch_good {pq : List Instr} {x0 : Fin 2} {x1 : Fin 16} {x2 : Nat} {x3 : Nat} {x4 : Nat} {x5 : Nat} {x6 : State} (hx6 : Good pq x6) : Good pq (rxKeySwitch x0 x1 x2 x3 x4 x5 x6) := by
  unfold rxKeySwitch
  apply raiseFol_good
  apply onCry_good
  assumption

theorem rxKeyVolume_good {pq : List Instr} {x0 : Fin 2} {x1 : Fin 16} {x2 : Nat} {x3 : State} (hx3 : Good pq x3) : Good pq (rxKeyVolume x0 x1 x2 x3) := by
  unfold rxKeyVolume
  extract_lets v0
  try clear_value v0
  split
  · refine ite_good (fun _ => ?_) (fun _ => ?_)
    · apply rxKeySwitch_good
      assumption
    · assumption
  · assumption

theorem judgeTags_good {pq : List Instr} {x0 : Fin 2} {x1 : Fin 16} {x2 : State} (hx2 : Good pq x2) : Good pq (judgeTags x0 x1 x2) := by
  unfold judgeTags
  refine foldl_good (fun _ _ _ => ?_) ?_
  · try dsimp -zeta only
    split
    · assumption
    · extract_lets v0 v1 v2
      have hv0 : Good pq v0 := by
        unfold v0
        apply onCry_good
        assumption
      clear_value v0 v1
      have hv2 : Good pq v2 := by
        unfold v2
        apply onFol_good
        assumption
      clear_value v2
      split
      · apply onFol_good
        assumption
      · refine ite_good (fun _ => ?_) (fun _ => ?_)
        · apply onFol_good
          assumption
        · refine ite_good (fun _ => ?_) (fun _ => ?_)
          · apply raiseFol_good
            assumption
          · assumption
  · assumption

theorem kexDone_good {pq : List Instr} {x0 : Fin 2} {x1 : Fin 16} {x2 : Nat} {x3 : State} (hx3 : Good pq x3) : Good pq (kexDone x0 x1 x2 x3) := by
  unfold kexDone
  apply raiseFol_good
  apply onCry_good
  assumption

theorem kexSeen_good {pq : List Instr} {x0 : Fin 2} {x1 : Fin 16} {x2 : Nat} {x3 : Nat} {x4 : Bool} {x5 : State} (hx5 : Good pq x5) : Good pq (kexSeen x0 x1 x2 x3 x4 x5) := by
  unfold kexSeen
  extract_lets v0
  try clear_value v0
  split
  · split
    · refine ite_good (fun _ => ?_) (fun _ => ?_)
      · apply kexDone_good
        apply onCry_good
        assumption
      · assumption
    · assumption
  · refine ite_good (fun _ => ?_) (fun _ => ?_)
    · assumption
    · split
      · apply kexDone_good
        apply onCry_good
        assumption
      · apply kexDone_good
        assumption
      · assumption
      · assumption

theorem goodKeyField_good {pq : List Instr} {x0 : Fin 2} {x1 : Fin 16} {x2 : Nat} {x3 : List Byte} {x4 : State} (hx4 : Good pq x4) : Good pq (goodKeyField x0 x1 x2 x3 x4) := by
  unfold goodKeyField
  extract_lets v0 v1 v2 v3 v4 v5 v6 v7 v8 v9 v10
  clear_value v0 v1 v2 v3
  have hv4 : Good pq v4 := by
    unfold v4
    apply onCry_good
    apply rxKeyVolume_good
    assumption
  clear_value v4 v5 v6 v7 v8
  have hv9 : Good pq v9 := by
    unfold v9
    apply onFol_good
    assumption
  clear_value v9
  have hv10 : Good pq v10 := by
    unfold v10
    refine ite_good (fun _ => ?_) (fun _ => ?_)
    · apply raiseFol_good
      assumption
    · assumption
  clear_value v10
  apply judgeTags_good
  apply kexSeen_good
  assumption

theorem keyField_good {pq : List Instr} {x0 : Fin 2} {x1 : Fin 16} {x2 : Nat} {x3 : List Byte} {x4 : State} (hx4 : Good pq x4) : Good pq (keyField x0 x1 x2 x3 x4) := by
  unfold keyField
  refine ite_good (fun _ => ?_) (fun _ => ?_)
  · apply goodKeyField_good
    assumption
  · apply onFol_good
    assumption

theorem rxKeyBoundary_good {pq : List Instr} {x0 : Fin 2} {x1 : Fin 16} {x2 : Nat} {x3 : State} (hx3 : Good pq x3) : Good pq (rxKeyBoundary x0 x1 x2 x3) := by
  unfold rxKeyBoundary
  extract_lets v0 v1 v2 v3 v4 v5 v6 v7 v8
  have hv0 : Good pq v0 := by
    unfold v0
    apply onCry_good
    assumption
  try clear_value v0 v1 v2 v3
  have hv4 : Good pq v4 := by
    unfold v4
    apply onFol_good
    assumption
  try clear_value v4
  have hv5 : Good pq v5 := by
    unfold v5
    refine ite_good (fun _ => ?_) (fun _ => ?_)
    · apply raiseFol_good
      assumption
    · assumption
  try clear_value v5
  have hv6 : Good pq v6 := by
    unfold v6
    refine ite_good (fun _ => ?_) (fun _ => ?_)
    · apply onCry_good
      assumption
    · assumption
  try clear_value v6
  have hv7 : Good pq v7 := by
    unfold v7
    apply onCry_good
    assumption
  try clear_value v7 v8
  apply judgeTags_good
  apply onCry_good
  apply rxKeyVolume_good
  assumption

theorem decryptFolio_good {pq : List Instr} {x0 : Fin 2} {x1 : Fin 16} {x2 : Nat} {x3 : Nat} {x4 : List Byte} {x5 : State} (hx5 : Good pq x5) : Good pq (decryptFolio x0 x1 x2 x3 x4 x5).2 := by
  unfold decryptFolio
  extract_lets v0
  try clear_value v0
  split
  · refine Good.snd ?_
    assumption
  · refine ite_good_2 (fun _ => ?_) (fun _ => ?_)
    · refine Good.snd ?_
      refine ite_good (fun _ => ?_) (fun _ => ?_)
      · apply onCry_good
        assumption
      · assumption
    · extract_lets v1 v2 v3 v4
      try clear_value v1 v2 v3
      have hv4 : Good pq v4 := by
        unfold v4
        apply onCry_good
        assumption
      try clear_value v4
      refine ite_good_2 (fun _ => ?_) (fun _ => ?_)
      · refine Good.snd ?_
        apply judgeTags_good
        apply onCry_good
        assumption
      · refine Good.snd ?_
        assumption

theorem sendFragments_good {pq : List Instr} {x0 : Fin 2} {x1 : Fin 16} {x2 : Nat} {x3 : Nat} {x4 : List Byte} {x5 : State} (hx5 : Good pq x5) : Good pq (sendFragments x0 x1 x2 x3 x4 x5) := by
  unfold sendFragments
  extract_lets v0
  clear_value v0
  refine foldl_good (fun _ _ _ => ?_) ?_
  · try dsimp -zeta only
    apply ilEnqueue_good
    assumption
  · assumption

theorem startKex_good {pq : List Instr} {x0 : Fin 2} {x1 : Fin 16} {x2 : State} (hx2 : Good pq x2) : Good pq (startKex x0 x1 x2) := by
  unfold startKex
  extract_lets v0 v1 v2 v3
  try clear_value v0 v1 v2 v3
  apply sendFragments_good
  apply onCry_good
  apply State.drawn_good
  apply State.drawn_good
  apply State.drawn_good
  assumption

theorem tryKex_good {pq : List Instr} {x0 : Fin 2} {x1 : Fin 16} {x2 : State} (hx2 : Good pq x2) : Good pq (tryKex x0 x1 x2) := by
  unfold tryKex
  refine ite_good (fun _ => ?_) (fun _ => ?_)
  · apply startKex_good
    assumption
  · assumption

theorem failKex_good {pq : List Instr} {x0 : Fin 2} {x1 : Fin 16} {x2 : Nat} {x3 : State} (hx3 : Good pq x3) : Good pq (failKex x0 x1 x2 x3) := by
  unfold failKex
  extract_lets v0
  clear_value v0
  apply raiseFol_good
  apply onCry_good
  assumption

theorem loadPair_good {pq : List Instr} {x0 : Fin 2} {x1 : Fin 16} {x2 : Nat} {x3 : BitVec 256} {x4 : BitVec 256} {x5 : State} (hx5 : Good pq x5) : Good pq (loadPair x0 x1 x2 x3 x4 x5) := by
  unfold loadPair
  apply onCry_good
  assumption

theorem kexM1_good {pq : List Instr} {x0 : Fin 2} {x1 : Fin 16} {x2 : List Byte} {x3 : State} (hx3 : Good pq x3) : Good pq (kexM1 x0 x1 x2 x3) := by
  unfold kexM1
  extract_lets v0 v1
  try clear_value v0 v1
  refine ite_good (fun _ => ?_) (fun _ => ?_)
  · apply failKex_good
    assumption
  · split
    · apply failKex_good
      assumption
    · extract_lets v2 v3
      try clear_value v2 v3
      apply sendFragments_good
      apply onCry_good
      apply State.drawn_good
      apply State.drawn_good
      apply State.drawn_good
      assumption

theorem kexM2_good {pq : List Instr} {x0 : Fin 2} {x1 : Fin 16} {x2 : Kex} {x3 : List Byte} {x4 : State} (hx4 : Good pq x4) : Good pq (kexM2 x0 x1 x2 x3 x4) := by
  unfold kexM2
  extract_lets v0 v1 v2
  try clear_value v0 v1 v2
  refine ite_good (fun _ => ?_) (fun _ => ?_)
  · apply failKex_good
    assumption
  · refine ite_good (fun _ => ?_) (fun _ => ?_)
    · apply failKex_good
      assumption
    · split
      · apply failKex_good
        assumption
      · extract_lets v3 v4
        try clear_value v3 v4
        apply sendFragments_good
        apply loadPair_good
        apply onCry_good
        apply State.drawn_good
        assumption

theorem kexM3_good {pq : List Instr} {x0 : Fin 2} {x1 : Fin 16} {x2 : Kex} {x3 : List Byte} {x4 : State} (hx4 : Good pq x4) : Good pq (kexM3 x0 x1 x2 x3 x4) := by
  unfold kexM3
  extract_lets v0 v1
  clear_value v0 v1
  refine ite_good (fun _ => ?_) (fun _ => ?_)
  · apply failKex_good
    assumption
  · apply onCry_good
    apply loadPair_good
    assumption

theorem kexMessage_good {pq : List Instr} {x0 : Fin 2} {x1 : Fin 16} {x2 : State} (hx2 : Good pq x2) : Good pq (kexMessage x0 x1 x2) := by
  unfold kexMessage
  split
  · assumption
  · split
    · assumption
    · extract_lets v0
      have hv0 : ∀ a1, Good pq a1 → Good pq (v0 a1) := by
        intro a1 ha2
        unfold v0
        try dsimp -zeta only
        apply onCry_good
        assumption
      clear_value v0
      split
      · extract_lets v3
        clear_value v3
        refine ite_good (fun _ => ?_) (fun _ => ?_)
        · apply kexM1_good
          assumption
        · refine hv0 _ ?_
          · assumption
      · refine ite_good (fun _ => ?_) (fun _ => ?_)
        · apply kexM2_good
          assumption
        · refine hv0 _ ?_
          · assumption
      · refine ite_good (fun _ => ?_) (fun _ => ?_)
        · apply kexM3_good
          assumption
        · refine hv0 _ ?_
          · assumption
      · refine hv0 _ ?_
        · assumption

theorem execKexMessageReceived_good {pq : List Instr} {x0 : Fin 2} {x1 : Fin 16} {x2 : State} (hx2 : Good pq x2) : GoodOut pq (execKexMessageReceived x0 x1 x2) :=
  next_goodOut (kexMessage_good hx2)

theorem kexFragment_good {pq : List Instr} {x0 : Fin 2} {x1 : Fin 16} {x2 : List Byte} {x3 : State} (hx3 : Good pq x3) : Good pq (kexFragment x0 x1 x2 x3) := by
  unfold kexFragment
  extract_lets v0 v1 v2 v3 v4 v5 v6
  clear_value v0 v1 v2 v3 v4 v5
  have hv6 : ∀ a7, Good pq (v6 a7) := by
    intro a7
    unfold v6
    try dsimp -zeta only
    apply onCry_good
    assumption
  clear_value v6
  refine ite_good (fun _ => ?_) (fun _ => ?_)
  · assumption
  · split
    · refine ite_good (fun _ => ?_) (fun _ => ?_)
      · exact hv6 _
      · refine ite_good (fun _ => ?_) (fun _ => ?_)
        · exact hv6 _
        · assumption
    · exact hv6 _

theorem kexTimeout_good {pq : List Instr} {x0 : Fin 2} {x1 : Fin 16} {x2 : State} (hx2 : Good pq x2) : Good pq (kexTimeout x0 x1 x2) := by
  unfold kexTimeout
  split
  · split
    · apply failKex_good
      assumption
    · apply failKex_good
      assumption
    · apply onCry_good
      apply failKex_good
      assumption
    · assumption
  · refine ite_good (fun _ => ?_) (fun _ => ?_)
    · apply failKex_good
      assumption
    · assumption

theorem execKexTimeout_good {pq : List Instr} {x0 : Fin 2} {x1 : Fin 16} {x2 : State} (hx2 : Good pq x2) : GoodOut pq (execKexTimeout x0 x1 x2) :=
  next_goodOut (kexTimeout_good hx2)

theorem kexRetry_good {pq : List Instr} {x0 : Fin 2} {x1 : Fin 16} {x2 : State} (hx2 : Good pq x2) : Good pq (kexRetry x0 x1 x2) := by
  unfold kexRetry
  refine ite_good (fun _ => ?_) (fun _ => ?_)
  · apply tryKex_good
    apply onCry_good
    assumption
  · assumption

theorem execKexRetry_good {pq : List Instr} {x0 : Fin 2} {x1 : Fin 16} {x2 : State} (hx2 : Good pq x2) : GoodOut pq (execKexRetry x0 x1 x2) :=
  next_goodOut (kexRetry_good hx2)

theorem execRekeyIntervalEnd_good {pq : List Instr} {x0 : Fin 2} {x1 : Fin 16} {x2 : State} (hx2 : Good pq x2) : GoodOut pq (execRekeyIntervalEnd x0 x1 x2) := by
  unfold execRekeyIntervalEnd
  refine next_goodOut ?_
  refine ite_good (fun _ => ?_) (fun _ => ?_)
  · apply tryKex_good
    assumption
  · assumption

theorem eraseKeys_good {pq : List Instr} {x0 : Fin 2} {x1 : Fin 16} {x2 : State} (hx2 : Good pq x2) : Good pq (eraseKeys x0 x1 x2) := by
  unfold eraseKeys
  apply onCry_good
  assumption

theorem execCryptSet_good {pq : List Instr} {x0 : Request} {x1 : State} (hx1 : Good pq x1) : GoodOut pq (execCryptSet x0 x1) := by
  unfold execCryptSet
  refine next_goodOut ?_
  apply deskRun_good
  · intro a0 a1 ha2
    try dsimp -zeta only
    apply pCommand_good
    · intro a3 a4 ha5
      try dsimp -zeta only
      refine ite_good (fun _ => ?_) (fun _ => ?_)
      · apply waitRecs_good
        assumption
      · refine foldl_good (fun _ _ _ => ?_) ?_
        · try dsimp -zeta only
          apply noKeyCheck_good
          first | assumption | exact allocRegion_good (by assumption) (by assumption) | exact growQueue_good (by assumption) (by assumption) | exact growQueues_good (by assumption) (by assumption) | exact startUrgent_good (by assumption) (by assumption) | exact startAborted_good (by assumption) (by assumption) | exact startDue_good (by assumption) (by assumption)
        · apply applyRecs_good
          assumption
    · assumption
  · assumption

theorem cryptPeerSet_good {pq : List Instr} {x0 : Request} {x1 : State} (hx1 : Good pq x1) : Good pq (cryptPeerSet x0 x1).1 := by
  unfold cryptPeerSet
  refine ite_good_1 (fun _ => ?_) (fun _ => ?_)
  · refine Good.fst ?_
    assumption
  · refine Good.fst ?_
    apply keepBody_good
    assumption

theorem execCryptPeerSet_good {pq : List Instr} {x0 : Request} {x1 : State} (hx1 : Good pq x1) : GoodOut pq (execCryptPeerSet x0 x1) := by
  unfold execCryptPeerSet
  refine next_goodOut ?_
  apply deskRun_good
  · intro a0 a1 ha2
    try dsimp -zeta only
    apply cryptPeerSet_good
    assumption
  · assumption

theorem cryptRekey_good {pq : List Instr} {x0 : Request} {x1 : State} (hx1 : Good pq x1) : Good pq (cryptRekey x0 x1).1 := by
  unfold cryptRekey
  extract_lets v0 v1
  clear_value v0 v1
  refine ite_good_1 (fun _ => ?_) (fun _ => ?_)
  · refine Good.fst ?_
    assumption
  · refine ite_good_1 (fun _ => ?_) (fun _ => ?_)
    · refine Good.fst ?_
      assumption
    · refine Good.fst ?_
      apply startKex_good
      assumption

theorem execCryptRekey_good {pq : List Instr} {x0 : Request} {x1 : State} (hx1 : Good pq x1) : GoodOut pq (execCryptRekey x0 x1) := by
  unfold execCryptRekey
  refine next_goodOut ?_
  apply deskRun_good
  · intro a0 a1 ha2
    try dsimp -zeta only
    apply cryptRekey_good
    assumption
  · assumption

theorem execFrameStatus_good {pq : List Instr} {x0 : Request} {x1 : State} (hx1 : Good pq x1) : GoodOut pq (execFrameStatus x0 x1) := by
  unfold execFrameStatus
  refine next_goodOut ?_
  apply deskRun_good
  · intro a0 a1 ha2
    try dsimp -zeta only
    apply sCommand_good
    assumption
  · assumption

theorem execCryptStatus_good {pq : List Instr} {x0 : Request} {x1 : State} (hx1 : Good pq x1) : GoodOut pq (execCryptStatus x0 x1) := by
  unfold execCryptStatus
  refine next_goodOut ?_
  apply deskRun_good
  · intro a0 a1 ha2
    try dsimp -zeta only
    apply sCommand_good
    assumption
  · assumption

theorem deliver_good {pq : List Instr} {x0 : Fin 2} {x1 : Fin 4} {x2 : List Byte} {x3 : Int} {x4 : State} (hx4 : Good pq x4) : Good pq (deliver x0 x1 x2 x3 x4) := by
  unfold deliver
  extract_lets v0 v1 v2 v3 v4
  try clear_value v0 v1
  have hv2 : Good pq v2 := by
    unfold v2
    apply onTone_good
    assumption
  try clear_value v2 v3
  have hv4 : Good pq v4 := by
    unfold v4
    split
    · apply rangeMeasure_good
      assumption
    · assumption
  try clear_value v4
  refine ite_good (fun _ => ?_) (fun _ => ?_)
  · apply mgmtReceived_good
    assumption
  · refine ite_good (fun _ => ?_) (fun _ => ?_)
    · split
      · refine ite_good (fun _ => ?_) (fun _ => ?_)
        · apply kexFragment_good
          assumption
        · assumption
      · assumption
    · refine ite_good (fun _ => ?_) (fun _ => ?_)
      · apply timeBurstReceived_good
        assumption
      · refine ite_good (fun _ => ?_) (fun _ => ?_)
        · refine ite_good (fun _ => ?_) (fun _ => ?_)
          · apply schedReceived_good
            assumption
          · assumption
        · refine ite_good (fun _ => ?_) (fun _ => ?_)
          · apply joinReceived_good
            assumption
          · assumption

theorem payloadReady_good {pq : List Instr} {x0 : Fin 2} {x1 : Fin 4} {x2 : List Byte} {x3 : Bool} {x4 : Int} {x5 : State} (hx5 : Good pq x5) : Good pq (payloadReady x0 x1 x2 x3 x4 x5) := by
  unfold payloadReady
  extract_lets v0 v1 v2 v3 v4 v5 v6
  try clear_value v0 v1 v2 v3
  have hv4 : ∀ a0, Good pq a0 → Good pq (v4 a0) := by
    intro a0 ha1
    unfold v4
    try dsimp -zeta only
    apply onTone_good
    assumption
  try clear_value v4
  have hv5 : Good pq v5 := by
    unfold v5
    apply recordEvm_good
    apply onTone_good
    assumption
  try clear_value v5
  have hv6 : Good pq v6 := by
    unfold v6
    apply raiseIf_good
    assumption
  try clear_value v6
  refine ite_good (fun _ => ?_) (fun _ => ?_)
  · assumption
  · refine ite_good (fun _ => ?_) (fun _ => ?_)
    · refine hv4 _ ?_
      assumption
    · refine ite_good (fun _ => ?_) (fun _ => ?_)
      · refine hv4 _ ?_
        apply onTone_good
        assumption
      · refine hv4 _ ?_
        apply deliver_good
        assumption

theorem execPayloadCrcReady_good {pq : List Instr} {x0 : Fin 2} {x1 : Fin 4} {x2 : List Byte} {x3 : Bool} {x4 : Int} {x5 : State} (hx5 : Good pq x5) : GoodOut pq (execPayloadCrcReady x0 x1 x2 x3 x4 x5) := by
  unfold execPayloadCrcReady
  refine next_goodOut ?_
  apply payloadReady_good
  assumption

/-! ### Framers -/

theorem onFramer_good {pq : List Instr} {x0 : FramerId} {x1 : Framer → Framer} {x2 : State} (hx2 : Good pq x2) : Good pq (onFramer x0 x1 x2) := by
  unfold onFramer
  split
  · apply onBond_good
    assumption
  · apply onOdum_good
    assumption
  · apply onMap_good
    assumption

theorem raiseDefects_good {pq : List Instr} {x0 : FramerId} {x1 : List DefEvt} {x2 : State} (hx2 : Good pq x2) : Good pq (raiseDefects x0 x1 x2) := by
  unfold raiseDefects
  refine foldl_good (fun _ _ _ => ?_) ?_
  · try dsimp -zeta only
    apply raise_good
    assumption
  · assumption

theorem evalFramer_good {pq : List Instr} {x0 : FramerId} {x1 : State} (hx1 : Good pq x1) : Good pq (evalFramer x0 x1) := by
  unfold evalFramer
  split
  · assumption
  · refine ite_good (fun _ => ?_) (fun _ => ?_)
    · assumption
    · extract_lets v0
      clear_value v0
      apply raiseDefects_good
      apply onFramer_good
      assumption

theorem evalMsim_good {pq : List Instr} {x0 : Nat} {x1 : Nat} {x2 : Nat} {x3 : State} (hx3 : Good pq x3) : Good pq (evalMsim x0 x1 x2 x3) := by
  unfold evalMsim
  extract_lets v0
  clear_value v0
  split
  · assumption
  · refine foldl_good (fun _ _ _ => ?_) ?_
    · try dsimp -zeta only
      extract_lets v1 v2 v3
      clear_value v1 v2
      have hv3 : Good pq v3 := by
        unfold v3
        apply onFramer_good
        assumption
      clear_value v3
      apply raiseIf_good
      assumption
    · assumption

theorem evalTribs_good {pq : List Instr} {x0 : Nat} {x1 : Nat} {x2 : Nat} {x3 : State} (hx3 : Good pq x3) : Good pq (evalTribs x0 x1 x2 x3) := by
  unfold evalTribs
  refine foldl_good (fun _ _ _ => ?_) ?_
  · try dsimp -zeta only
    apply evalFramer_good
    assumption
  · apply evalMsim_good
    assumption

theorem egressSync_good {pq : List Instr} {x0 : FramerId} {x1 : State} (hx1 : Good pq x1) : Good pq (egressSync x0 x1) := by
  unfold egressSync
  refine foldl_good (fun _ _ _ => ?_) ?_
  · try dsimp -zeta only
    apply onFramer_good
    assumption
  · assumption

theorem evalWhole_good {pq : List Instr} {x0 : FramerId} {x1 : State} (hx1 : Good pq x1) : Good pq (evalWhole x0 x1) := by
  unfold evalWhole
  apply egressSync_good
  split
  · apply evalTribs_good
    apply evalFramer_good
    assumption
  · extract_lets v0
    have hv0 : Good pq v0 := by
      unfold v0
      apply evalTribs_good
      apply evalFramer_good
      assumption
    try clear_value v0
    refine ite_good (fun _ => ?_) (fun _ => ?_)
    · apply evalTribs_good
      assumption
    · assumption
  · apply evalFramer_good
    assumption

theorem onUnit_good {pq : List Instr} {x0 : Fin 48} {x1 : Nat} {x2 : AlignUnit → AlignUnit} {x3 : State} (hx3 : Good pq x3) : Good pq (onUnit x0 x1 x2 x3) := by
  unfold onUnit
  apply evalWhole_good
  apply onBond_good
  assumption

theorem execAlignmentMatch_good {pq : List Instr} {x0 : Fin 48} {x1 : Nat} {x2 : AlignCheck} {x3 : State} (hx3 : Good pq x3) : GoodOut pq (execAlignmentMatch x0 x1 x2 x3) :=
  next_goodOut (onUnit_good hx3)

theorem execAlignmentPrediction_good {pq : List Instr} {x0 : Fin 48} {x1 : Nat} {x2 : List AlignCheck} {x3 : State} (hx3 : Good pq x3) : GoodOut pq (execAlignmentPrediction x0 x1 x2 x3) :=
  next_goodOut (onUnit_good hx3)

theorem bondFromLanes_good {pq : List Instr} {x0 : Fin 48} {x1 : State} (hx1 : Good pq x1) : Good pq (bondFromLanes x0 x1) := by
  unfold bondFromLanes
  extract_lets v0 v1
  clear_value v0 v1
  refine ite_good (fun _ => ?_) (fun _ => ?_)
  · assumption
  · apply evalWhole_good
    apply onBond_good
    assumption

theorem laneChanged_good {pq : List Instr} {x0 : Nat} {x1 : State} (hx1 : Good pq x1) : Good pq (laneChanged x0 x1) := by
  unfold laneChanged
  split
  · apply refLosses_good
    apply bondFromLanes_good
    assumption
  · assumption

theorem lofEnd_good {pq : List Instr} {x0 : FramerId} {x1 : Nat} {x2 : Bool} {x3 : State} (hx3 : Good pq x3) : Good pq (lofEnd x0 x1 x2 x3) := by
  unfold lofEnd
  split
  · assumption
  · refine ite_good (fun _ => ?_) (fun _ => ?_)
    · extract_lets v0 v1
      try clear_value v0
      have hv1 : Good pq v1 := by
        unfold v1
        apply onFramer_good
        assumption
      try clear_value v1
      apply evalWhole_good
      apply raiseDefects_good
      assumption
    · assumption

theorem defectPersistence_good {pq : List Instr} {x0 : FramerId} {x1 : DefectTimer} {x2 : Bool} {x3 : State} (hx3 : Good pq x3) : Good pq (defectPersistence x0 x1 x2 x3) := by
  unfold defectPersistence
  split
  · apply lofEnd_good
    assumption
  · apply lofEnd_good
    assumption
  · apply lofEnd_good
    assumption
  · apply evalWhole_good
    apply onFramer_good
    assumption
  · apply evalWhole_good
    apply onFramer_good
    assumption
  · apply evalWhole_good
    apply onFramer_good
    assumption

end Sys2Proof.Machine
end

