-- ==== Sys2Proof/Laws/Sound4.lean ====
section
/-! SUPPORT. Each effect of Sys2Proof/Machine/ in the files named below leaves the queue of commands alone and keeps a state sound:
Framers, Mapping, Protect, Lanes. -/

namespace Sys2Proof.Machine

/-! ### Framers -/

theorem frameIn_good {pq : List Instr} {x0 : FramerId} {x1 : Fin 32} {x2 : OtnFrame} {x3 : State} (hx3 : Good pq x3) : Good pq (frameIn x0 x1 x2 x3) := by
  unfold frameIn
  apply onFramer_good
  assumption

theorem otnFrame_good {pq : List Instr} {x0 : FramerId} {x1 : Fin 32} {x2 : OtnFrame} {x3 : State} (hx3 : Good pq x3) : Good pq (otnFrame x0 x1 x2 x3) := by
  unfold otnFrame
  extract_lets v0
  clear_value v0
  refine ite_good (fun _ => ?_) (fun _ => ?_)
  · apply evalWhole_good
    apply frameIn_good
    assumption
  · assumption

theorem framerProvision_good {pq : List Instr} {x0 : Request} {x1 : State} (hx1 : Good pq x1) : Good pq (framerProvision x0 x1).1 := by
  unfold framerProvision
  extract_lets v0 v1 v2 v3 v4 v5 v6
  clear_value v0 v1 v2 v3 v4 v5 v6
  refine ite_good_1 (fun _ => ?_) (fun _ => ?_)
  · refine Good.fst ?_
    assumption
  · refine ite_good_1 (fun _ => ?_) (fun _ => ?_)
    · refine Good.fst ?_
      assumption
    · refine ite_good_1 (fun _ => ?_) (fun _ => ?_)
      · refine Good.fst ?_
        assumption
      · refine ite_good_1 (fun _ => ?_) (fun _ => ?_)
        · refine Good.fst ?_
          assumption
        · refine ite_good_1 (fun _ => ?_) (fun _ => ?_)
          · refine Good.fst ?_
            assumption
          · refine ite_good_1 (fun _ => ?_) (fun _ => ?_)
            · refine Good.fst ?_
              assumption
            · refine ite_good_1 (fun _ => ?_) (fun _ => ?_)
              · refine Good.fst ?_
                assumption
              · split
                · extract_lets v7 v8
                  have hv7 : Good pq v7 := by
                    unfold v7
                    apply onBond_good
                    apply keepBody_good
                    assumption
                  clear_value v7
                  have hv8 : Good pq v8 := by
                    unfold v8
                    split
                    · refine Good.lit ?_
                      assumption
                    · assumption
                  clear_value v8
                  refine Good.fst ?_
                  apply bondFromLanes_good
                  assumption
                · refine Good.fst ?_
                  assumption

theorem execFramerProvision_good {pq : List Instr} {x0 : Request} {x1 : State} (hx1 : Good pq x1) : GoodOut pq (execFramerProvision x0 x1) := by
  unfold execFramerProvision
  refine next_goodOut ?_
  apply pmSync_good
  apply deskRun_good
  · intro a3 a4 ha5
    try dsimp -zeta only
    apply framerProvision_good
    assumption
  · assumption

theorem framerDeprovision_good {pq : List Instr} {x0 : Request} {x1 : State} (hx1 : Good pq x1) : Good pq (framerDeprovision x0 x1).1 := by
  unfold framerDeprovision
  extract_lets v0 v1
  clear_value v0 v1
  refine ite_good_1 (fun _ => ?_) (fun _ => ?_)
  · refine Good.fst ?_
    assumption
  · split
    · refine Good.fst ?_
      apply onBond_good
      apply dropBody_good
      apply terminate_good
      assumption
    · refine Good.fst ?_
      assumption

theorem execFramerDeprovision_good {pq : List Instr} {x0 : Request} {x1 : State} (hx1 : Good pq x1) : GoodOut pq (execFramerDeprovision x0 x1) := by
  unfold execFramerDeprovision
  refine next_goodOut ?_
  apply pmSync_good
  apply deskRun_good
  · intro a3 a4 ha5
    try dsimp -zeta only
    apply framerDeprovision_good
    assumption
  · assumption

theorem execFramerSet_good {pq : List Instr} {x0 : Request} {x1 : State} (hx1 : Good pq x1) : GoodOut pq (execFramerSet x0 x1) := by
  unfold execFramerSet
  refine next_goodOut ?_
  apply deskRun_good
  · intro a0 a1 ha2
    try dsimp -zeta only
    apply pCommand_good
    · intro a3 a4 ha5
      try dsimp -zeta only
      extract_lets v6
      have hv6 : Good pq v6 := by
        unfold v6
        apply applyRecs_good
        assumption
      try clear_value v6
      apply onFramer_good
      assumption
    · assumption
  · assumption

theorem framerOhSet_good {pq : List Instr} {x0 : Request} {x1 : State} (hx1 : Good pq x1) : Good pq (framerOhSet x0 x1).1 := by
  unfold framerOhSet
  extract_lets v0 v1 v2 v3
  clear_value v0 v1 v2
  have hv3 : Good pq v3 := by
    unfold v3
    apply onFramer_good
    apply keepBody_good
    assumption
  clear_value v3
  refine ite_good_1 (fun _ => ?_) (fun _ => ?_)
  · refine Good.fst ?_
    assumption
  · refine ite_good_1 (fun _ => ?_) (fun _ => ?_)
    · refine Good.fst ?_
      assumption
    · refine ite_good_1 (fun _ => ?_) (fun _ => ?_)
      · refine Good.fst ?_
        assumption
      · refine ite_good_1 (fun _ => ?_) (fun _ => ?_)
        · refine Good.fst ?_
          assumption
        · refine ite_good_1 (fun _ => ?_) (fun _ => ?_)
          · refine Good.fst ?_
            assumption
          · refine Good.fst ?_
            apply evalWhole_good
            assumption

theorem framerOhGet_good {pq : List Instr} {x0 : Request} {x1 : State} (hx1 : Good pq x1) : Good pq (framerOhGet x0 x1).1 := by
  unfold framerOhGet
  extract_lets v0
  clear_value v0
  refine ite_good_1 (fun _ => ?_) (fun _ => ?_)
  · refine Good.fst ?_
    assumption
  · split
    · refine Good.fst ?_
      assumption
    · extract_lets v1
      clear_value v1
      refine Good.fst ?_
      assumption

theorem execFramerOhGet_good {pq : List Instr} {x0 : Request} {x1 : State} (hx1 : Good pq x1) : GoodOut pq (execFramerOhGet x0 x1) := by
  unfold execFramerOhGet
  refine next_goodOut ?_
  apply deskRun_good
  · intro a0 a1 ha2
    try dsimp -zeta only
    apply framerOhGet_good
    assumption
  · assumption

theorem framerMaintSet_good {pq : List Instr} {x0 : Request} {x1 : State} (hx1 : Good pq x1) : Good pq (framerMaintSet x0 x1).1 := by
  unfold framerMaintSet
  extract_lets v0 v1 v2
  try clear_value v0 v1 v2
  refine ite_good_1 (fun _ => ?_) (fun _ => ?_)
  · refine Good.fst ?_
    assumption
  · refine ite_good_1 (fun _ => ?_) (fun _ => ?_)
    · refine Good.fst ?_
      assumption
    · refine ite_good_1 (fun _ => ?_) (fun _ => ?_)
      · refine Good.fst ?_
        assumption
      · refine Good.fst ?_
        apply egressSync_good
        apply onFramer_good
        apply keepBody_good
        assumption

theorem execFramerMaintSet_good {pq : List Instr} {x0 : Request} {x1 : State} (hx1 : Good pq x1) : GoodOut pq (execFramerMaintSet x0 x1) := by
  unfold execFramerMaintSet
  refine next_goodOut ?_
  apply deskRun_good
  · intro a0 a1 ha2
    try dsimp -zeta only
    apply framerMaintSet_good
    assumption
  · assumption

theorem execFramerStatus_good {pq : List Instr} {x0 : Request} {x1 : State} (hx1 : Good pq x1) : GoodOut pq (execFramerStatus x0 x1) := by
  unfold execFramerStatus
  refine next_goodOut ?_
  apply deskRun_good
  · intro a0 a1 ha2
    try dsimp -zeta only
    apply sCommand_good
    assumption
  · assumption

/-! ### Mapping -/

theorem applyContainer_good {pq : List Instr} {x0 : Nat} {x1 : Nat} {x2 : Nat} {x3 : State} (hx3 : Good pq x3) : Good pq (applyContainer x0 x1 x2 x3) := by
  unfold applyContainer
  extract_lets v0 v1 v2 v3 v4 v5 i
  clear_value v0
  have hv1 : Good pq v1 := by
    unfold v1
    apply onMap_good
    assumption
  clear_value v1 v2 v3
  have hv4 : v4.Sound := hv1.sound.desk
  clear_value v4
  have hv5 : Good pq v5 := by
    unfold v5
    exact ⟨hv1.queue, ⟨hv1.sound.chutes, hv1.sound.stk, hv1.sound.evt, hv4⟩⟩
  clear_value v5
  apply egressSync_good
  apply evalMsim_good
  refine foldl_good (fun _ _ _ => ?_) ?_
  · try dsimp -zeta only
    split
    · split
      · apply complete_good
        assumption
      · assumption
    · assumption
  · assumption

theorem waitMultiframe_good {pq : List Instr} {x0 : Nat} {x1 : Request} {x2 : State} (hx2 : Good pq x2) : Good pq (waitMultiframe x0 x1 x2).1 := by
  unfold waitMultiframe
  extract_lets v0 v1
  clear_value v0
  have hv1 : Good pq v1 := by
    unfold v1
    apply beginTransition_good
    assumption
  clear_value v1
  refine ite_good_1 (fun _ => ?_) (fun _ => ?_)
  · refine Good.fst ?_
    assumption
  · refine Good.fst ?_
    apply applyContainer_good
    assumption

theorem mapTribAdd_good {pq : List Instr} {x0 : Request} {x1 : State} (hx1 : Good pq x1) : Good pq (mapTribAdd x0 x1).1 := by
  unfold mapTribAdd
  extract_lets v0 v1 v2 v3 v4 v5 v6 v7 v8 v9
  clear_value v0 v1 v2 v3 v4 v5 v6 v7 v8 v9
  refine ite_good_1 (fun _ => ?_) (fun _ => ?_)
  · refine Good.fst ?_
    assumption
  · split
    · refine Good.fst ?_
      assumption
    · refine ite_good_1 (fun _ => ?_) (fun _ => ?_)
      · refine Good.fst ?_
        assumption
      · refine ite_good_1 (fun _ => ?_) (fun _ => ?_)
        · refine Good.fst ?_
          assumption
        · refine ite_good_1 (fun _ => ?_) (fun _ => ?_)
          · refine Good.fst ?_
            assumption
          · apply waitMultiframe_good
            apply onMap_good
            assumption

theorem execMapTribAdd_good {pq : List Instr} {x0 : Request} {x1 : State} (hx1 : Good pq x1) : GoodOut pq (execMapTribAdd x0 x1) := by
  unfold execMapTribAdd
  refine next_goodOut ?_
  apply pmSync_good
  apply deskRun_good
  · intro a3 a4 ha5
    try dsimp -zeta only
    apply mapTribAdd_good
    assumption
  · assumption

theorem mapTribRemove_good {pq : List Instr} {x0 : Request} {x1 : State} (hx1 : Good pq x1) : Good pq (mapTribRemove x0 x1).1 := by
  unfold mapTribRemove
  extract_lets v0 v1
  clear_value v0 v1
  split
  · refine Good.fst ?_
    assumption
  · refine ite_good_1 (fun _ => ?_) (fun _ => ?_)
    · refine Good.fst ?_
      assumption
    · refine ite_good_1 (fun _ => ?_) (fun _ => ?_)
      · refine Good.fst ?_
        apply onMap_good
        apply terminate_good
        assumption
      · apply waitMultiframe_good
        apply onMap_good
        assumption

theorem execMapTribRemove_good {pq : List Instr} {x0 : Request} {x1 : State} (hx1 : Good pq x1) : GoodOut pq (execMapTribRemove x0 x1) := by
  unfold execMapTribRemove
  refine next_goodOut ?_
  apply pmSync_good
  apply deskRun_good
  · intro a3 a4 ha5
    try dsimp -zeta only
    apply mapTribRemove_good
    assumption
  · assumption

theorem mateHandover_good {pq : List Instr} {x0 : Nat} {x1 : Nat} {x2 : Nat} {x3 : State} (hx3 : Good pq x3) : Good pq (mateHandover x0 x1 x2 x3) := by
  unfold mateHandover
  refine ite_good (fun _ => ?_) (fun _ => ?_)
  · apply onMate_good
    assumption
  · assumption

theorem execMultiframeBoundary_good {pq : List Instr} {x0 : Nat} {x1 : Nat} {x2 : Nat} {x3 : List (Nat × Nat × Nat)} {x4 : State} (hx4 : Good pq x4) : GoodOut pq (execMultiframeBoundary x0 x1 x2 x3 x4) := by
  unfold execMultiframeBoundary
  extract_lets v0
  try clear_value v0
  refine next_goodOut ?_
  apply pmSync_good
  apply mateHandover_good
  apply applyContainer_good
  apply onMap_good
  assumption

theorem switchConnect_good {pq : List Instr} {x0 : Request} {x1 : State} (hx1 : Good pq x1) : Good pq (switchConnect x0 x1).1 := by
  unfold switchConnect
  extract_lets v0 v1 v2 v3 v4
  clear_value v0 v1 v2 v3 v4
  refine ite_good_1 (fun _ => ?_) (fun _ => ?_)
  · refine Good.fst ?_
    assumption
  · split
    · refine Good.fst ?_
      assumption
    · refine Good.fst ?_
      assumption
    · refine ite_good_1 (fun _ => ?_) (fun _ => ?_)
      · refine Good.fst ?_
        assumption
      · refine ite_good_1 (fun _ => ?_) (fun _ => ?_)
        · refine Good.fst ?_
          assumption
        · refine ite_good_1 (fun _ => ?_) (fun _ => ?_)
          · refine Good.fst ?_
            assumption
          · refine ite_good_1 (fun _ => ?_) (fun _ => ?_)
            · refine Good.fst ?_
              assumption
            · split
              · refine Good.fst ?_
                assumption
              · refine Good.fst ?_
                apply onMap_good
                apply beginTransition_good
                rename_i e
                split at e
                · exact allocRegion_good e hx1
                · injection e with e
                  exact e ▸ hx1

theorem execSwitchConnect_good {pq : List Instr} {x0 : Request} {x1 : State} (hx1 : Good pq x1) : GoodOut pq (execSwitchConnect x0 x1) := by
  unfold execSwitchConnect
  refine next_goodOut ?_
  apply deskRun_good
  · intro a0 a1 ha2
    try dsimp -zeta only
    apply switchConnect_good
    assumption
  · assumption

theorem switchDisconnect_good {pq : List Instr} {x0 : Request} {x1 : State} (hx1 : Good pq x1) : Good pq (switchDisconnect x0 x1).1 := by
  unfold switchDisconnect
  extract_lets v0 v1 v2
  clear_value v0 v1
  have hv2 : Good pq v2 := by
    unfold v2
    apply terminate_good
    assumption
  clear_value v2
  split
  · refine Good.fst ?_
    assumption
  · refine ite_good_1 (fun _ => ?_) (fun _ => ?_)
    · refine Good.fst ?_
      apply onMap_good
      assumption
    · refine Good.fst ?_
      apply onMap_good
      apply beginTransition_good
      assumption

theorem execSwitchDisconnect_good {pq : List Instr} {x0 : Request} {x1 : State} (hx1 : Good pq x1) : GoodOut pq (execSwitchDisconnect x0 x1) := by
  unfold execSwitchDisconnect
  refine next_goodOut ?_
  apply deskRun_good
  · intro a0 a1 ha2
    try dsimp -zeta only
    apply switchDisconnect_good
    assumption
  · assumption

theorem switchBoundary_good {pq : List Instr} {x0 : SwUnit} {x1 : State} (hx1 : Good pq x1) : Good pq (switchBoundary x0 x1) := by
  unfold switchBoundary
  split
  · assumption
  · split
    · apply onMap_good
      assumption
    · extract_lets v0
      have hv0 : Good pq v0 := by
        unfold v0
        apply onMap_good
        assumption
      clear_value v0
      apply endTransition_good
      apply raise_good
      assumption

theorem execSwitchFrameBoundary_good {pq : List Instr} {x0 : Nat} {x1 : Nat} {x2 : Nat} {x3 : State} (hx3 : Good pq x3) : GoodOut pq (execSwitchFrameBoundary x0 x1 x2 x3) := by
  unfold execSwitchFrameBoundary
  refine next_goodOut ?_
  apply egressSync_good
  apply switchBoundary_good
  assumption

theorem switchRead_good {pq : List Instr} {x0 : SwUnit} {x1 : Nat} {x2 : Nat} {x3 : Nat} {x4 : State} (hx4 : Good pq x4) : Good pq (switchRead x0 x1 x2 x3 x4) := by
  unfold switchRead
  split
  · assumption
  · refine ite_good (fun _ => ?_) (fun _ => ?_)
    · assumption
    · extract_lets v0 v1 v2
      have hv0 : Good pq v0.2 := by
        unfold v0
        apply stkRead_good
        assumption
      clear_value v0
      have hv1 : Good pq v1 := by
        unfold v1
        apply onMap_good
        assumption
      clear_value v1
      have hv2 : Good pq v2 := by
        unfold v2
        refine ite_good (fun _ => ?_) (fun _ => ?_)
        · refine Good.lit ?_
          assumption
        · assumption
      clear_value v2
      apply poisonOutIf_good
      assumption

theorem execSwitchReadDue_good {pq : List Instr} {x0 : Nat} {x1 : Nat} {x2 : Nat} {x3 : Fin 2147483648} {x4 : Nat} {x5 : Nat} {x6 : State} (hx6 : Good pq x6) : GoodOut pq (execSwitchReadDue x0 x1 x2 x3 x4 x5 x6) :=
  next_goodOut (switchRead_good hx6)

theorem rateSteer_good {pq : List Instr} {x0 : Fin 48} {x1 : Int} {x2 : State} (hx2 : Good pq x2) : Good pq (rateSteer x0 x1 x2) := by
  unfold rateSteer
  refine ite_good (fun _ => ?_) (fun _ => ?_)
  · assumption
  · extract_lets v0 v1
    clear_value v0 v1
    apply onMap_good
    assumption

theorem execRateFollowSteer_good {pq : List Instr} {x0 : Fin 48} {x1 : Int} {x2 : State} (hx2 : Good pq x2) : GoodOut pq (execRateFollowSteer x0 x1 x2) :=
  next_goodOut (rateSteer_good hx2)

theorem rateHoldEnd_good {pq : List Instr} {x0 : Fin 48} {x1 : State} (hx1 : Good pq x1) : Good pq (rateHoldEnd x0 x1) := by
  unfold rateHoldEnd
  apply onMap_good
  assumption

theorem execRateHoldEnd_good {pq : List Instr} {x0 : Fin 48} {x1 : State} (hx1 : Good pq x1) : GoodOut pq (execRateHoldEnd x0 x1) :=
  next_goodOut (rateHoldEnd_good hx1)

theorem execMapStatus_good {pq : List Instr} {x0 : Request} {x1 : State} (hx1 : Good pq x1) : GoodOut pq (execMapStatus x0 x1) := by
  unfold execMapStatus
  refine next_goodOut ?_
  apply deskRun_good
  · intro a0 a1 ha2
    try dsimp -zeta only
    apply sCommand_good
    assumption
  · assumption

/-! ### Protect -/

theorem growQueues_good {pq : List Instr} {x0 : State} {t : State} (e : growQueues x0 = some t) (hx0 : Good pq x0) : Good pq t := by
  unfold growQueues at e
  have one {s u : State} {c : Nat} (h : (if (s.car (carrierOf c)).enabled then growQueue c s else some s) = some u) (hs : Good pq s) : Good pq u := by
    split at h
    · exact growQueue_good h hs
    · injection h with h
      exact h ▸ hs
  simp only [List.foldl_cons, List.foldl_nil, Option.bind_some, Option.bind_eq_some_iff] at e
  obtain ⟨s, h1, h2⟩ := e
  exact one h2 (one h1 hx0)

theorem protRelease_good {pq : List Instr} {x0 : Fin 16} {x1 : State} (hx1 : Good pq x1) : Good pq (protRelease x0 x1) := by
  unfold protRelease
  extract_lets v0
  have hv0 : Good pq v0 := by
    unfold v0
    refine Good.lit ?_
    assumption
  clear_value v0
  cases e : growQueues v0 with
  | none => exact hv0
  | some u => exact growQueues_good e hv0

theorem protDecide_good {pq : List Instr} {x0 : Fin 16} {x1 : Nat} {x2 : State} (hx2 : Good pq x2) : Good pq (protDecide x0 x1 x2) := by
  unfold protDecide
  extract_lets v0 v1 v2 v3 v4 v5
  clear_value v0 v1 v2 v3
  have hv4 : Good pq v4 := by
    unfold v4
    apply onProt_good
    assumption
  clear_value v4
  have hv5 : Good pq v5 := by
    unfold v5
    apply raiseIf_good
    assumption
  clear_value v5
  refine ite_good (fun _ => ?_) (fun _ => ?_)
  · assumption
  · refine ite_good (fun _ => ?_) (fun _ => ?_)
    · apply protRelease_good
      assumption
    · assumption

theorem protConditions_good {pq : List Instr} {x0 : Fin 16} {x1 : State} (hx1 : Good pq x1) : Good pq (protConditions x0 x1) := by
  unfold protConditions
  extract_lets v0 v1 v2 v3 v4 v5 v6 v7
  clear_value v0 v1 v2 v3 v4 v5 v6
  have hv7 : Good pq v7 := by
    unfold v7
    refine foldl_good (fun _ _ _ => ?_) ?_
    · try dsimp -zeta only
      apply raiseIf_good
      assumption
    · apply onProt_good
      assumption
  clear_value v7
  refine ite_good (fun _ => ?_) (fun _ => ?_)
  · assumption
  · apply protDecide_good
    assumption

theorem protAll_good {pq : List Instr} {x0 : State} (hx0 : Good pq x0) : Good pq (protAll x0) := by
  unfold protAll
  refine foldl_good (fun _ _ _ => ?_) ?_
  · try dsimp -zeta only
    apply protConditions_good
    assumption
  · assumption

theorem execQueueWrap_good {pq : List Instr} {x0 : Fin 2} {x1 : State} (hx1 : Good pq x1) : GoodOut pq (execQueueWrap x0 x1) := by
  unfold execQueueWrap
  refine next_goodOut ?_
  apply protAll_good
  apply queueWrap_good
  assumption

theorem groupHeard_good {pq : List Instr} {x0 : Fin 2} {x1 : Fin 16} {x2 : State} (hx2 : Good pq x2) : Good pq (groupHeard x0 x1 x2) := by
  unfold groupHeard
  apply refLosses_good
  apply reselect_good
  apply protConditions_good
  apply evalWhole_good
  assumption

theorem carrierHeard_good {pq : List Instr} {x0 : Fin 2} {x1 : State} (hx1 : Good pq x1) : Good pq (carrierHeard x0 x1) := by
  unfold carrierHeard
  apply refLosses_good
  apply reselect_good
  apply protAll_good
  refine foldl_good (fun _ _ _ => ?_) ?_
  · try dsimp -zeta only
    apply evalWhole_good
    assumption
  · assumption

theorem framerHeard_good {pq : List Instr} {i : FramerId} {s : State} (h : Good pq s) : Good pq (framerHeard i s) := by
  unfold framerHeard
  split
  · exact protConditions_good h
  · exact h
  · exact h

theorem execClockLoss_good {pq : List Instr} {x0 : Fin 2} {x1 : Fin 16} {x2 : State} (hx2 : Good pq x2) : GoodOut pq (execClockLoss x0 x1 x2) :=
  next_goodOut (groupHeard_good (clockLoss_good hx2))

theorem execFreqLoss_good {pq : List Instr} {x0 : Fin 2} {x1 : Fin 16} {x2 : Int} {x3 : State} (hx3 : Good pq x3) : GoodOut pq (execFreqLoss x0 x1 x2 x3) :=
  next_goodOut (groupHeard_good (freqLoss_good hx3))

theorem rxdspReacquire_good {pq : List Instr} {x0 : Request} {x1 : State} (hx1 : Good pq x1) : Good pq (rxdspReacquire x0 x1).1 := by
  unfold rxdspReacquire
  extract_lets v0 v1 v2
  clear_value v0 v1
  have hv2 : Good pq v2 := by
    unfold v2
    refine ite_good (fun _ => ?_) (fun _ => ?_)
    · apply folioLost_good
      apply raiseRx_good
      apply onRxg_good
      assumption
    · assumption
  clear_value v2
  refine ite_good_1 (fun _ => ?_) (fun _ => ?_)
  · refine Good.fst ?_
    assumption
  · refine Good.fst ?_
    apply groupHeard_good
    apply enterSearch_good
    apply onRxg_good
    assumption

theorem execRxdspReacquire_good {pq : List Instr} {x0 : Request} {x1 : State} (hx1 : Good pq x1) : GoodOut pq (execRxdspReacquire x0 x1) := by
  unfold execRxdspReacquire
  refine next_goodOut ?_
  apply deskRun_good
  · intro a0 a1 ha2
    try dsimp -zeta only
    apply rxdspReacquire_good
    assumption
  · assumption

theorem execFolioHeaderReceived_good {pq : List Instr} {x0 : Fin 2} {x1 : Fin 16} {x2 : List Byte} {x3 : State} (hx3 : Good pq x3) : GoodOut pq (execFolioHeaderReceived x0 x1 x2 x3) :=
  next_goodOut (groupHeard_good (headerReceived_good hx3))

theorem execKeyFieldReceived_good {pq : List Instr} {x0 : Fin 2} {x1 : Fin 16} {x2 : List Byte} {x3 : State} (hx3 : Good pq x3) : GoodOut pq (execKeyFieldReceived x0 x1 x2 x3) := by
  unfold execKeyFieldReceived
  refine next_goodOut ?_
  apply groupHeard_good
  apply keyField_good
  assumption

theorem execDefectPersistenceEnd_good {pq : List Instr} {x0 : FramerId} {x1 : DefectTimer} {x2 : Bool} {x3 : State} (hx3 : Good pq x3) : GoodOut pq (execDefectPersistenceEnd x0 x1 x2 x3) := by
  unfold execDefectPersistenceEnd
  refine next_goodOut ?_
  apply framerHeard_good
  apply defectPersistence_good
  assumption

theorem execOtnFrameReceived_good {pq : List Instr} {x0 : FramerId} {x1 : Fin 32} {x2 : OtnFrame} {x3 : State} (hx3 : Good pq x3) : GoodOut pq (execOtnFrameReceived x0 x1 x2 x3) :=
  next_goodOut (framerHeard_good (otnFrame_good hx3))

theorem framerOhSetHeard_good {pq : List Instr} {q : Request} {s : State} (h : Good pq s) : Good pq (framerOhSetHeard q s).1 := by
  show Good pq (if (framerOhSet q s).2 = ok then framerHeard (reqFramer q) (framerOhSet q s).1 else (framerOhSet q s).1)
  split
  · exact framerHeard_good (framerOhSet_good h)
  · exact framerOhSet_good h

theorem execFramerOhSet_good {pq : List Instr} {x0 : Request} {x1 : State} (hx1 : Good pq x1) : GoodOut pq (execFramerOhSet x0 x1) := by
  unfold execFramerOhSet
  refine next_goodOut ?_
  apply pmSync_good
  apply deskRun_good
  · intro a3 a4 ha5
    try dsimp -zeta only
    apply framerOhSetHeard_good
    assumption
  · assumption

theorem holdOff_good {pq : List Instr} {x0 : Fin 2} {x1 : Fin 16} {x2 : State} (hx2 : Good pq x2) : Good pq (holdOff x0 x1 x2) := by
  unfold holdOff
  extract_lets v0 v1
  have hv0 : Good pq v0 := by
    unfold v0
    apply protConditions_good
    assumption
  clear_value v0 v1
  apply protDecide_good
  apply onProt_good
  assumption

theorem execHoldOffExpiry_good {pq : List Instr} {x0 : Fin 2} {x1 : Fin 16} {x2 : State} (hx2 : Good pq x2) : GoodOut pq (execHoldOffExpiry x0 x1 x2) :=
  next_goodOut (holdOff_good hx2)

theorem wtrExpiry_good {pq : List Instr} {x0 : Fin 16} {x1 : State} (hx1 : Good pq x1) : Good pq (wtrExpiry x0 x1) := by
  unfold wtrExpiry
  extract_lets v0 v1
  clear_value v0
  have hv1 : Good pq v1 := by
    unfold v1
    apply onProt_good
    assumption
  clear_value v1
  refine ite_good (fun _ => ?_) (fun _ => ?_)
  · apply protRelease_good
    apply raiseIf_good
    assumption
  · assumption

theorem onPair_good {pq : List Instr} {x0 : Nat} {x1 : Prot → Prot} {x2 : State} (hx2 : Good pq x2) : Good pq (onPair x0 x1 x2) := by
  unfold onPair
  apply onMate_good
  assumption

theorem raisePair_good {pq : List Instr} {x0 : Nat} {x1 : Nat} {x2 : Bool} {x3 : State} (hx3 : Good pq x3) : Good pq (raisePair x0 x1 x2 x3) := by
  unfold raisePair
  apply raiseIf_good
  assumption

theorem pairDecide_good {pq : List Instr} {x0 : Nat} {x1 : Nat} {x2 : State} (hx2 : Good pq x2) : Good pq (pairDecide x0 x1 x2) := by
  unfold pairDecide
  extract_lets v0 v1 v2 v3
  clear_value v0 v1 v2 v3
  apply raisePair_good
  apply onPair_good
  assumption

theorem pairWtr_good {pq : List Instr} {x0 : Nat} {x1 : State} (hx1 : Good pq x1) : Good pq (pairWtr x0 x1) := by
  unfold pairWtr
  extract_lets v0
  clear_value v0
  refine ite_good (fun _ => ?_) (fun _ => ?_)
  · apply raisePair_good
    apply onPair_good
    assumption
  · assumption

theorem execWtrExpiry_good {pq : List Instr} {x0 : Fin 18} {x1 : State} (hx1 : Good pq x1) : GoodOut pq (execWtrExpiry x0 x1) := by
  unfold execWtrExpiry
  refine next_goodOut ?_
  split
  · apply wtrExpiry_good
    assumption
  · apply pairWtr_good
    assumption

theorem execSelectorSwitch_good {pq : List Instr} {x0 : Fin 18} {x1 : Nat} {x2 : State} (hx2 : Good pq x2) : GoodOut pq (execSelectorSwitch x0 x1 x2) := by
  unfold execSelectorSwitch
  refine next_goodOut ?_
  split
  · apply evalWhole_good
    apply onProt_good
    assumption
  · apply onPair_good
    assumption

theorem fopTimeout_good {pq : List Instr} {x0 : Fin 16} {x1 : State} (hx1 : Good pq x1) : Good pq (fopTimeout x0 x1) := by
  unfold fopTimeout
  extract_lets v0 v1 v2
  clear_value v0 v1 v2
  apply raiseIf_good
  apply onProt_good
  assumption

theorem execFopTimeout_good {pq : List Instr} {x0 : Fin 16} {x1 : State} (hx1 : Good pq x1) : GoodOut pq (execFopTimeout x0 x1) :=
  next_goodOut (fopTimeout_good hx1)

theorem srReceived_good {pq : List Instr} {x0 : Fin 2} {x1 : Fin 16} {x2 : List Byte} {x3 : State} (hx3 : Good pq x3) : Good pq (srReceived x0 x1 x2 x3) := by
  unfold srReceived
  extract_lets v0 v1 v2 v3 v4 v5 v6 v7
  clear_value v0 v1 v2 v3
  have hv4 : Good pq v4 := by
    unfold v4
    apply onProt_good
    apply onFol_good
    assumption
  clear_value v4 v5 v6
  have hv7 : Good pq v7 := by
    unfold v7
    refine ite_good (fun _ => ?_) (fun _ => ?_)
    · apply protConditions_good
      assumption
    · assumption
  clear_value v7
  apply raiseIf_good
  assumption

theorem execSrFieldReceived_good {pq : List Instr} {x0 : Fin 2} {x1 : Fin 16} {x2 : List Byte} {x3 : State} (hx3 : Good pq x3) : GoodOut pq (execSrFieldReceived x0 x1 x2 x3) :=
  next_goodOut (srReceived_good hx3)

theorem protLeads_good {pq : List Instr} {x0 : Fin 16} {x1 : State} (hx1 : Good pq x1) : Good pq (protLeads x0 x1) := by
  unfold protLeads
  apply protConditions_good
  apply onProt_good
  assumption

theorem protAlign_good {pq : List Instr} {x0 : Fin 16} {x1 : State} (hx1 : Good pq x1) : Good pq (protAlign x0 x1) := by
  unfold protAlign
  extract_lets v0 v1 v2 v3 v4
  clear_value v0 v1 v2
  have hv3 : Good pq v3 := by
    unfold v3
    apply onProt_good
    assumption
  clear_value v3 v4
  refine ite_good (fun _ => ?_) (fun _ => ?_)
  · apply protConditions_good
    apply endTransition_good
    assumption
  · assumption

theorem execProtectionAlign_good {pq : List Instr} {x0 : Fin 16} {x1 : State} (hx1 : Good pq x1) : GoodOut pq (execProtectionAlign x0 x1) :=
  next_goodOut (protAlign_good hx1)

theorem protSecond_good {pq : List Instr} {x0 : Fin 2} {x1 : Fin 16} {x2 : State} (hx2 : Good pq x2) : Good pq (protSecond x0 x1 x2) := by
  unfold protSecond
  apply protAll_good
  apply onProt_good
  assumption

theorem protDisable_good {pq : List Instr} {x0 : Fin 2} {x1 : State} (hx1 : Good pq x1) : Good pq (protDisable x0 x1) := by
  unfold protDisable
  refine foldl_good (fun _ _ _ => ?_) ?_
  · try dsimp -zeta only
    extract_lets v0 v1
    clear_value v0 v1
    refine ite_good (fun _ => ?_) (fun _ => ?_)
    · apply onProt_good
      apply protDecide_good
      apply onProt_good
      assumption
    · assumption
  · assumption

theorem protProvision_good {pq : List Instr} {x0 : Request} {x1 : State} (hx1 : Good pq x1) : Good pq (protProvision x0 x1).1 := by
  unfold protProvision
  extract_lets v0 v1 v2 v3 v4
  clear_value v0 v1
  have hv2 : Good pq v2 := by
    unfold v2
    apply terminate_good
    assumption
  clear_value v2
  have hv3 : Good pq v3 := by
    unfold v3
    apply onProt_good
    assumption
  clear_value v3 v4
  split
  · refine Good.fst ?_
    assumption
  · refine ite_good_1 (fun _ => ?_) (fun _ => ?_)
    · refine ite_good_1 (fun _ => ?_) (fun _ => ?_)
      · refine Good.fst ?_
        assumption
      · refine Good.fst ?_
        refine Good.lit ?_
        assumption
    · refine ite_good_1 (fun _ => ?_) (fun _ => ?_)
      · refine Good.fst ?_
        assumption
      · refine ite_good_1 (fun _ => ?_) (fun _ => ?_)
        · refine Good.fst ?_
          assumption
        · refine ite_good_1 (fun _ => ?_) (fun _ => ?_)
          · refine Good.fst ?_
            apply waitRecs_good
            assumption
          · split
            · refine Good.fst ?_
              assumption
            · refine Good.fst ?_
              apply protConditions_good
              exact growQueues_good (by assumption) (onProt_good (applyRecs_good hx1))

theorem execProtProvision_good {pq : List Instr} {x0 : Request} {x1 : State} (hx1 : Good pq x1) : GoodOut pq (execProtProvision x0 x1) := by
  unfold execProtProvision
  refine next_goodOut ?_
  apply deskRun_good
  · intro a0 a1 ha2
    try dsimp -zeta only
    apply protProvision_good
    assumption
  · assumption

theorem protCommand_good {pq : List Instr} {x0 : Request} {x1 : State} (hx1 : Good pq x1) : Good pq (protCommand x0 x1).1 := by
  unfold protCommand
  extract_lets v0 v1 v2 v3 v4 v5 v6
  try clear_value v0
  try clear_value v1
  try clear_value v2
  try clear_value v3
  try clear_value v4
  have hv5 : ∀ a7, Good pq a7 → Good pq (v5 a7).1 := by
    exact fun a7 ha8 => ha8
  try clear_value v5
  have hv6 : Good pq v6 := by
    unfold v6
    apply onProt_good
    assumption
  try clear_value v6
  refine ite_good_1 (fun _ => ?_) (fun _ => ?_)
  · refine Good.fst ?_
    assumption
  · refine ite_good_1 (fun _ => ?_) (fun _ => ?_)
    · refine hv5 _ ?_
      · apply protDecide_good
        refine ite_good (fun _ => ?_) (fun _ => ?_)
        · apply protRelease_good
          assumption
        · assumption
    · refine ite_good_1 (fun _ => ?_) (fun _ => ?_)
      · refine Good.fst ?_
        assumption
      · refine hv5 _ ?_
        · apply protDecide_good
          apply onProt_good
          assumption

theorem execProtCommand_good {pq : List Instr} {x0 : Request} {x1 : State} (hx1 : Good pq x1) : GoodOut pq (execProtCommand x0 x1) := by
  unfold execProtCommand
  refine next_goodOut ?_
  apply deskRun_good
  · intro a0 a1 ha2
    try dsimp -zeta only
    apply protCommand_good
    assumption
  · assumption

theorem protRealign_good {pq : List Instr} {x0 : Request} {x1 : State} (hx1 : Good pq x1) : Good pq (protRealign x0 x1).1 := by
  unfold protRealign
  extract_lets v0 v1
  try clear_value v0
  have hv1 : Good pq v1 := by
    unfold v1
    apply beginTransition_good
    assumption
  try clear_value v1
  refine Good.fst ?_
  refine ite_good (fun _ => ?_) (fun _ => ?_)
  · apply protAlign_good
    assumption
  · assumption

theorem execProtRealign_good {pq : List Instr} {x0 : Request} {x1 : State} (hx1 : Good pq x1) : GoodOut pq (execProtRealign x0 x1) := by
  unfold execProtRealign
  refine next_goodOut ?_
  apply deskRun_good
  · intro a0 a1 ha2
    try dsimp -zeta only
    apply protRealign_good
    assumption
  · assumption

theorem execProtStatus_good {pq : List Instr} {x0 : Request} {x1 : State} (hx1 : Good pq x1) : GoodOut pq (execProtStatus x0 x1) := by
  unfold execProtStatus
  refine next_goodOut ?_
  apply deskRun_good
  · intro a0 a1 ha2
    try dsimp -zeta only
    apply sCommand_good
    assumption
  · assumption

/-! ### Lanes -/

theorem raiseLane_good {pq : List Instr} {x0 : Nat} {x1 : Fin 48} {x2 : Nat} {x3 : State} (hx3 : Good pq x3) : Good pq (raiseLane x0 x1 x2 x3) := by
  unfold raiseLane
  apply raise_good
  assumption

theorem raiseLink_good {pq : List Instr} {x0 : Nat} {x1 : State} (hx1 : Good pq x1) : Good pq (raiseLink x0 x1) := by
  unfold raiseLink
  apply raise_good
  assumption

theorem laneTo_good {pq : List Instr} {x0 : Fin 48} {x1 : LaneState} {x2 : State} (hx2 : Good pq x2) : Good pq (laneTo x0 x1 x2) := by
  unfold laneTo
  apply laneChanged_good
  apply onLane_good
  assumption

theorem laneTrain_good {pq : List Instr} {x0 : Fin 48} {x1 : State} (hx1 : Good pq x1) : Good pq (laneTrain x0 x1) := by
  unfold laneTrain
  extract_lets v0
  clear_value v0
  apply laneTo_good
  refine Good.lit ?_
  assumption

theorem laneWait_good {pq : List Instr} {x0 : Fin 48} {x1 : State} (hx1 : Good pq x1) : Good pq (laneWait x0 x1) := by
  unfold laneWait
  extract_lets v0
  clear_value v0
  refine ite_good (fun _ => ?_) (fun _ => ?_)
  · apply laneTo_good
    assumption
  · refine ite_good (fun _ => ?_) (fun _ => ?_)
    · apply laneTo_good
      assumption
    · apply laneTrain_good
      assumption

theorem laneStart_good {pq : List Instr} {x0 : Fin 48} {x1 : State} (hx1 : Good pq x1) : Good pq (laneStart x0 x1) := by
  unfold laneStart
  extract_lets v0 v1
  clear_value v0
  have hv1 : Good pq v1 := by
    unfold v1
    refine ite_good (fun _ => ?_) (fun _ => ?_)
    · refine Good.lit ?_
      assumption
    · assumption
  clear_value v1
  apply laneWait_good
  apply onLane_good
  assumption

theorem octetUp_good {pq : List Instr} {x0 : Nat} {x1 : State} (hx1 : Good pq x1) : Good pq (octetUp x0 x1) := by
  unfold octetUp
  refine foldl_good (fun _ _ _ => ?_) ?_
  · try dsimp -zeta only
    refine ite_good (fun _ => ?_) (fun _ => ?_)
    · apply endTransition_good
      apply laneStart_good
      assumption
    · assumption
  · assumption

theorem octetDown_good {pq : List Instr} {x0 : Nat} {x1 : State} (hx1 : Good pq x1) : Good pq (octetDown x0 x1) := by
  unfold octetDown
  refine foldl_good (fun _ _ _ => ?_) ?_
  · try dsimp -zeta only
    refine ite_good (fun _ => ?_) (fun _ => ?_)
    · apply laneTo_good
      assumption
    · assumption
  · assumption

theorem laneProvision_good {pq : List Instr} {x0 : Request} {x1 : State} (hx1 : Good pq x1) : Good pq (laneProvision x0 x1).1 := by
  unfold laneProvision
  extract_lets v0 v1 v2
  clear_value v0 v1 v2
  refine ite_good_1 (fun _ => ?_) (fun _ => ?_)
  · refine Good.fst ?_
    assumption
  · refine ite_good_1 (fun _ => ?_) (fun _ => ?_)
    · refine Good.fst ?_
      assumption
    · refine ite_good_1 (fun _ => ?_) (fun _ => ?_)
      · refine Good.fst ?_
        assumption
      · refine ite_good_1 (fun _ => ?_) (fun _ => ?_)
        · refine Good.fst ?_
          assumption
        · split
          · refine Good.fst ?_
            assumption
          · split
            · extract_lets v3 v4
              have hv3 : Good pq v3 := by
                unfold v3
                apply onLane_good
                apply keepBody_good
                assumption
              clear_value v3
              have hv4 : Good pq v4 := by
                unfold v4
                apply requestDomain_good
                apply beginTransition_good
                assumption
              clear_value v4
              refine Good.fst ?_
              refine ite_good (fun _ => ?_) (fun _ => ?_)
              · apply octetUp_good
                assumption
              · assumption
            · refine Good.fst ?_
              assumption

theorem execLaneProvision_good {pq : List Instr} {x0 : Request} {x1 : State} (hx1 : Good pq x1) : GoodOut pq (execLaneProvision x0 x1) := by
  unfold execLaneProvision
  refine next_goodOut ?_
  apply deskRun_good
  · intro a0 a1 ha2
    try dsimp -zeta only
    apply laneProvision_good
    assumption
  · assumption

theorem laneDeprovision_good {pq : List Instr} {x0 : Request} {x1 : State} (hx1 : Good pq x1) : Good pq (laneDeprovision x0 x1).1 := by
  unfold laneDeprovision
  extract_lets v0
  clear_value v0
  refine ite_good_1 (fun _ => ?_) (fun _ => ?_)
  · refine Good.fst ?_
    assumption
  · split
    · extract_lets v1 v2
      have hv1 : Good pq v1 := by
        unfold v1
        apply laneTo_good
        apply terminate_good
        assumption
      clear_value v1
      have hv2 : Good pq v2 := by
        unfold v2
        apply onLane_good
        apply dropBody_good
        assumption
      clear_value v2
      refine Good.fst ?_
      refine ite_good (fun _ => ?_) (fun _ => ?_)
      · refine Good.lit ?_
        assumption
      · assumption
    · refine Good.fst ?_
      assumption

theorem execLaneDeprovision_good {pq : List Instr} {x0 : Request} {x1 : State} (hx1 : Good pq x1) : GoodOut pq (execLaneDeprovision x0 x1) := by
  unfold execLaneDeprovision
  refine next_goodOut ?_
  apply deskRun_good
  · intro a0 a1 ha2
    try dsimp -zeta only
    apply laneDeprovision_good
    assumption
  · assumption

theorem laneSet_good {pq : List Instr} {x0 : Request} {x1 : State} (hx1 : Good pq x1) : Good pq (laneSet x0 x1).1 := by
  unfold laneSet
  extract_lets v0
  clear_value v0
  apply pCommand_good
  · intro a1 a2 ha3
    try dsimp -zeta only
    refine ite_good (fun _ => ?_) (fun _ => ?_)
    · apply waitRecs_good
      assumption
    · apply applyRecs_good
      assumption
  · assumption

theorem execLaneSet_good {pq : List Instr} {x0 : Request} {x1 : State} (hx1 : Good pq x1) : GoodOut pq (execLaneSet x0 x1) := by
  unfold execLaneSet
  refine next_goodOut ?_
  apply deskRun_good
  · intro a0 a1 ha2
    try dsimp -zeta only
    apply laneSet_good
    assumption
  · assumption

theorem laneSees_good {pq : List Instr} {x0 : Fin 48} {x1 : LaneSeen} {x2 : State} (hx2 : Good pq x2) : Good pq (laneSees x0 x1 x2) := by
  unfold laneSees
  extract_lets v0 v1
  clear_value v0 v1
  apply raiseIf_good
  apply onLane_good
  assumption

theorem laneWoken_good {pq : List Instr} {x0 : Fin 48} {x1 : State} (hx1 : Good pq x1) : Good pq (laneWoken x0 x1) := by
  unfold laneWoken
  apply onLane_good
  assumption

theorem laneTestSet_good {pq : List Instr} {x0 : Request} {x1 : State} (hx1 : Good pq x1) : Good pq (laneTestSet x0 x1).1 := by
  unfold laneTestSet
  extract_lets v0 v1 v2 v3
  clear_value v0 v1 v2 v3
  refine ite_good_1 (fun _ => ?_) (fun _ => ?_)
  · refine Good.fst ?_
    assumption
  · refine ite_good_1 (fun _ => ?_) (fun _ => ?_)
    · refine Good.fst ?_
      assumption
    · refine ite_good_1 (fun _ => ?_) (fun _ => ?_)
      · refine Good.fst ?_
        assumption
      · refine ite_good_1 (fun _ => ?_) (fun _ => ?_)
        · refine Good.fst ?_
          assumption
        · refine Good.fst ?_
          apply onLane_good
          apply laneWoken_good
          apply keepBody_good
          assumption

theorem execLaneTestSet_good {pq : List Instr} {x0 : Request} {x1 : LaneSeen} {x2 : State} (hx2 : Good pq x2) : GoodOut pq (execLaneTestSet x0 x1 x2) := by
  unfold execLaneTestSet
  refine next_goodOut ?_
  apply deskRun_good
  · intro a0 a1 ha2
    try dsimp -zeta only
    apply laneTestSet_good
    assumption
  · apply laneSees_good
    assumption

theorem laneLoopbackSet_good {pq : List Instr} {x0 : Request} {x1 : State} (hx1 : Good pq x1) : Good pq (laneLoopbackSet x0 x1).1 := by
  unfold laneLoopbackSet
  extract_lets v0 v1
  clear_value v0 v1
  refine ite_good_1 (fun _ => ?_) (fun _ => ?_)
  · refine Good.fst ?_
    assumption
  · refine ite_good_1 (fun _ => ?_) (fun _ => ?_)
    · refine Good.fst ?_
      assumption
    · refine ite_good_1 (fun _ => ?_) (fun _ => ?_)
      · refine Good.fst ?_
        assumption
      · refine ite_good_1 (fun _ => ?_) (fun _ => ?_)
        · refine Good.fst ?_
          assumption
        · refine Good.fst ?_
          apply onLane_good
          apply laneWoken_good
          apply keepBody_good
          assumption

theorem execLaneLoopbackSet_good {pq : List Instr} {x0 : Request} {x1 : State} (hx1 : Good pq x1) : GoodOut pq (execLaneLoopbackSet x0 x1) := by
  unfold execLaneLoopbackSet
  refine next_goodOut ?_
  apply deskRun_good
  · intro a0 a1 ha2
    try dsimp -zeta only
    apply laneLoopbackSet_good
    assumption
  · assumption

theorem execLoopbackRelock_good {pq : List Instr} {x0 : Fin 48} {x1 : State} (hx1 : Good pq x1) : GoodOut pq (execLoopbackRelock x0 x1) :=
  next_goodOut (onLane_good hx1)

theorem linkStep_good {pq : List Instr} {x0 : Nat} {x1 : Bool} {x2 : State} (hx2 : Good pq x2) : Good pq (linkStep x0 x1 x2) := by
  unfold linkStep
  extract_lets v0 v1
  clear_value v0
  have hv1 : Good pq v1 := by
    unfold v1
    refine Good.lit ?_
    assumption
  clear_value v1
  refine foldl_good (fun _ _ _ => ?_) ?_
  · try dsimp -zeta only
    extract_lets v2
    have hv2 : Good pq v2 := by
      unfold v2
      apply onLane_good
      assumption
    clear_value v2
    refine ite_good (fun _ => ?_) (fun _ => ?_)
    · assumption
    · apply laneWait_good
      assumption
  · assumption

theorem linkRestart_good {pq : List Instr} {x0 : State} (hx0 : Good pq x0) : Good pq (linkRestart x0) := by
  unfold linkRestart
  apply linkStep_good
  refine foldl_good (fun _ _ _ => ?_) ?_
  · try dsimp -zeta only
    apply onLane_good
    assumption
  · extract_lets v1
    clear_value v1
    refine Good.lit ?_
    assumption

theorem laneMateRetrain_good {pq : List Instr} {x0 : Request} {x1 : State} (hx1 : Good pq x1) : Good pq (laneMateRetrain x0 x1).1 := by
  unfold laneMateRetrain
  refine ite_good_1 (fun _ => ?_) (fun _ => ?_)
  · refine Good.fst ?_
    assumption
  · refine Good.fst ?_
    apply linkRestart_good
    assumption

theorem execLaneMateRetrain_good {pq : List Instr} {x0 : Request} {x1 : State} (hx1 : Good pq x1) : GoodOut pq (execLaneMateRetrain x0 x1) := by
  unfold execLaneMateRetrain
  refine next_goodOut ?_
  apply deskRun_good
  · intro a0 a1 ha2
    try dsimp -zeta only
    apply laneMateRetrain_good
    assumption
  · assumption

theorem laneExclude_good {pq : List Instr} {x0 : Fin 48} {x1 : State} (hx1 : Good pq x1) : Good pq (laneExclude x0 x1) := by
  unfold laneExclude
  apply laneTo_good
  apply onLane_good
  assumption

theorem linkHold_good {pq : List Instr} {x0 : Lane → Bool} {x1 : State} (hx1 : Good pq x1) : Good pq (linkHold x0 x1) := by
  unfold linkHold
  extract_lets v0 v1 v2
  have hv0 : Good pq v0 := by
    unfold v0
    refine foldl_good (fun _ _ _ => ?_) ?_
    · try dsimp -zeta only
      refine ite_good (fun _ => ?_) (fun _ => ?_)
      · apply raiseLane_good
        apply laneTo_good
        apply onLane_good
        assumption
      · apply laneExclude_good
        assumption
    · assumption
  clear_value v0 v1
  have hv2 : Good pq v2 := by
    unfold v2
    apply raiseLink_good
    refine Good.lit ?_
    assumption
  clear_value v2
  refine ite_good (fun _ => ?_) (fun _ => ?_)
  · assumption
  · apply raiseLink_good
    assumption

theorem linkTrained_good {pq : List Instr} {x0 : State} (hx0 : Good pq x0) : Good pq (linkTrained x0) := by
  unfold linkTrained
  refine ite_good (fun _ => ?_) (fun _ => ?_)
  · refine ite_good (fun _ => ?_) (fun _ => ?_)
    · apply linkHold_good
      assumption
    · extract_lets v0
      clear_value v0
      refine Good.lit ?_
      assumption
  · assumption

theorem laneLos_good {pq : List Instr} {x0 : Fin 48} {x1 : State} (hx1 : Good pq x1) : Good pq (laneLos x0 x1) := by
  unfold laneLos
  extract_lets v0 v1 v2
  try clear_value v0
  try clear_value v1
  have hv2 : Good pq v2 := by
    unfold v2
    apply onLane_good
    assumption
  try clear_value v2
  refine ite_good (fun _ => ?_) (fun _ => ?_)
  · assumption
  · apply linkTrained_good
    apply laneTo_good
    apply raiseLane_good
    assumption

theorem execLaneLosDeclare_good {pq : List Instr} {x0 : Fin 48} {x1 : State} (hx1 : Good pq x1) : GoodOut pq (execLaneLosDeclare x0 x1) :=
  next_goodOut (laneLos_good hx1)

theorem laneLosClear_good {pq : List Instr} {x0 : Fin 48} {x1 : State} (hx1 : Good pq x1) : Good pq (laneLosClear x0 x1) := by
  unfold laneLosClear
  extract_lets v0 v1
  clear_value v0
  have hv1 : Good pq v1 := by
    unfold v1
    apply raiseLane_good
    apply onLane_good
    assumption
  clear_value v1
  refine ite_good (fun _ => ?_) (fun _ => ?_)
  · assumption
  · refine ite_good (fun _ => ?_) (fun _ => ?_)
    · apply laneWait_good
      assumption
    · assumption

theorem execLaneLosClear_good {pq : List Instr} {x0 : Fin 48} {x1 : State} (hx1 : Good pq x1) : GoodOut pq (execLaneLosClear x0 x1) :=
  next_goodOut (laneLosClear_good hx1)

theorem laneLol_good {pq : List Instr} {x0 : Fin 48} {x1 : State} (hx1 : Good pq x1) : Good pq (laneLol x0 x1) := by
  unfold laneLol
  extract_lets v0 v1
  clear_value v0
  have hv1 : Good pq v1 := by
    unfold v1
    apply raiseLane_good
    apply onLane_good
    assumption
  clear_value v1
  refine ite_good (fun _ => ?_) (fun _ => ?_)
  · assumption
  · refine ite_good (fun _ => ?_) (fun _ => ?_)
    · apply laneTo_good
      assumption
    · apply laneTrain_good
      assumption

theorem execLaneLolDeclare_good {pq : List Instr} {x0 : Fin 48} {x1 : State} (hx1 : Good pq x1) : GoodOut pq (execLaneLolDeclare x0 x1) :=
  next_goodOut (laneLol_good hx1)

theorem anResolved_good {pq : List Instr} {x0 : Fin 48} {x1 : List (Nat × Nat)} {x2 : State} (hx2 : Good pq x2) : Good pq (anResolved x0 x1 x2) := by
  unfold anResolved
  extract_lets v0
  try clear_value v0
  refine ite_good (fun _ => ?_) (fun _ => ?_)
  · assumption
  · refine ite_good (fun _ => ?_) (fun _ => ?_)
    · apply laneTrain_good
      assumption
    · apply raiseLane_good
      apply onLane_good
      assumption

theorem execAnResolved_good {pq : List Instr} {x0 : Fin 48} {x1 : List (Nat × Nat)} {x2 : State} (hx2 : Good pq x2) : GoodOut pq (execAnResolved x0 x1 x2) := by
  unfold execAnResolved
  refine next_goodOut ?_
  apply anResolved_good
  assumption

theorem anTimeout_good {pq : List Instr} {x0 : Fin 48} {x1 : State} (hx1 : Good pq x1) : Good pq (anTimeout x0 x1) := by
  unfold anTimeout
  refine ite_good (fun _ => ?_) (fun _ => ?_)
  · assumption
  · apply laneWait_good
    apply raiseLane_good
    apply onLane_good
    assumption

theorem execAnTimeout_good {pq : List Instr} {x0 : Fin 48} {x1 : State} (hx1 : Good pq x1) : GoodOut pq (execAnTimeout x0 x1) :=
  next_goodOut (anTimeout_good hx1)

theorem laneTrained_good {pq : List Instr} {x0 : Fin 48} {x1 : State} (hx1 : Good pq x1) : Good pq (laneTrained x0 x1) := by
  unfold laneTrained
  extract_lets v0 v1
  clear_value v0
  have hv1 : Good pq v1 := by
    unfold v1
    apply raiseLane_good
    apply laneTo_good
    apply onLane_good
    assumption
  clear_value v1
  refine ite_good (fun _ => ?_) (fun _ => ?_)
  · assumption
  · refine ite_good (fun _ => ?_) (fun _ => ?_)
    · refine ite_good (fun _ => ?_) (fun _ => ?_)
      · apply linkTrained_good
        apply onLane_good
        assumption
      · assumption
    · refine ite_good (fun _ => ?_) (fun _ => ?_)
      · apply raiseLane_good
        assumption
      · assumption

theorem execLaneTrained_good {pq : List Instr} {x0 : Fin 48} {x1 : State} (hx1 : Good pq x1) : GoodOut pq (execLaneTrained x0 x1) :=
  next_goodOut (laneTrained_good hx1)

theorem trainingTimeout_good {pq : List Instr} {x0 : Fin 48} {x1 : State} (hx1 : Good pq x1) : Good pq (trainingTimeout x0 x1) := by
  unfold trainingTimeout
  extract_lets v0 v1 v2
  clear_value v0 v1
  have hv2 : Good pq v2 := by
    unfold v2
    apply raiseLane_good
    apply onLane_good
    assumption
  clear_value v2
  refine ite_good (fun _ => ?_) (fun _ => ?_)
  · assumption
  · refine ite_good (fun _ => ?_) (fun _ => ?_)
    · apply laneWait_good
      assumption
    · refine ite_good (fun _ => ?_) (fun _ => ?_)
      · apply raiseLink_good
        apply laneExclude_good
        assumption
      · apply linkTrained_good
        apply onLane_good
        assumption

theorem execTrainingTimeout_good {pq : List Instr} {x0 : Fin 48} {x1 : State} (hx1 : Good pq x1) : GoodOut pq (execTrainingTimeout x0 x1) :=
  next_goodOut (trainingTimeout_good hx1)

theorem sendMateFrame_good {pq : List Instr} {x0 : Fin 48} {x1 : State} (hx1 : Good pq x1) : Good pq (sendMateFrame x0 x1) := by
  unfold sendMateFrame
  extract_lets v0 v1
  have hv0 : Good pq v0 := by
    unfold v0
    apply onLane_good
    apply State.drawn_good
    assumption
  try clear_value v0 v1
  refine ite_good (fun _ => ?_) (fun _ => ?_)
  · refine Good.lit ?_
    assumption
  · assumption

theorem mateFrame_good {pq : List Instr} {x0 : Fin 48} {x1 : List Byte} {x2 : State} (hx2 : Good pq x2) : Good pq (mateFrame x0 x1 x2) := by
  unfold mateFrame
  extract_lets v0 v1 v2 v3 v4
  try clear_value v0 v1 v2
  have hv3 : Good pq v3 := by
    unfold v3
    apply onLane_good
    assumption
  try clear_value v3 v4
  refine ite_good (fun _ => ?_) (fun _ => ?_)
  · assumption
  · refine ite_good (fun _ => ?_) (fun _ => ?_)
    · apply sendMateFrame_good
      assumption
    · apply sendMateFrame_good
      apply linkTrained_good
      refine Good.lit ?_
      assumption

theorem execMateTrainingFrame_good {pq : List Instr} {x0 : Fin 48} {x1 : List Byte} {x2 : State} (hx2 : Good pq x2) : GoodOut pq (execMateTrainingFrame x0 x1 x2) :=
  next_goodOut (mateFrame_good hx2)

theorem soakEnd_good {pq : List Instr} {x0 : List (Nat × Nat)} {x1 : State} (hx1 : Good pq x1) : Good pq (soakEnd x0 x1) := by
  unfold soakEnd
  refine ite_good (fun _ => ?_) (fun _ => ?_)
  · assumption
  · extract_lets v0 v1
    try clear_value v0 v1
    refine foldl_good (fun _ _ _ => ?_) ?_
    · try dsimp -zeta only
      extract_lets v2 v3
      try clear_value v2 v3
      apply onLane_good
      assumption
    · refine Good.lit ?_
      assumption

theorem execSoakEnd_good {pq : List Instr} {x0 : List (Nat × Nat)} {x1 : State} (hx1 : Good pq x1) : GoodOut pq (execSoakEnd x0 x1) := by
  unfold execSoakEnd
  refine next_goodOut ?_
  apply soakEnd_good
  assumption

end Sys2Proof.Machine
end

