-- ==== Sys2Proof/Laws/Sound5.lean ====
section
/-! SUPPORT. Each effect of Sys2Proof/Machine/ in the files named below leaves the queue of commands alone and keeps a state sound:
Lanes, TxLoad, Readers, Carrier. -/

namespace Sys2Proof.Machine

/-! ### Lanes -/

theorem mateDecision_good {pq : List Instr} {x0 : State} (hx0 : Good pq x0) : Good pq (mateDecision x0) := by
  unfold mateDecision
  refine ite_good (fun _ => ?_) (fun _ => ?_)
  · assumption
  · extract_lets v0 v1 v2 v3 v4 v5 v6
    have hv0 : ∀ a7, Good pq a7 → Good pq (v0 a7) := by
      intro a7 ha8
      unfold v0
      try dsimp -zeta only
      refine foldl_good (fun _ _ _ => ?_) ?_
      · try dsimp -zeta only
        apply laneTo_good
        assumption
      · extract_lets v9
        clear_value v9
        refine Good.lit ?_
        assumption
    clear_value v0
    have hv1 : Good pq v1 := by
      unfold v1
      refine foldl_good (fun _ _ _ => ?_) ?_
      · try dsimp -zeta only
        refine ite_good (fun _ => ?_) (fun _ => ?_)
        · assumption
        · apply laneExclude_good
          assumption
      · assumption
    clear_value v1 v2 v3
    have hv4 : Good pq v4 := by
      unfold v4
      refine foldl_good (fun _ _ _ => ?_) ?_
      · try dsimp -zeta only
        apply onLane_good
        assumption
      · assumption
    clear_value v4 v5 v6
    split
    · assumption
    · refine hv0 _ ?_
      · refine Good.lit ?_
        assumption
    · apply linkHold_good
      assumption
    · refine hv0 _ ?_
      · refine Good.lit ?_
        assumption
    · refine hv0 _ ?_
      · refine Good.lit ?_
        assumption

theorem mateQuietEnd_good {pq : List Instr} {x0 : State} (hx0 : Good pq x0) : Good pq (mateQuietEnd x0) := by
  unfold mateQuietEnd
  refine ite_good (fun _ => ?_) (fun _ => ?_)
  · apply linkStep_good
    assumption
  · assumption

theorem execMateQuietEnd_good {pq : List Instr} {x0 : State} (hx0 : Good pq x0) : GoodOut pq (execMateQuietEnd x0) :=
  next_goodOut (mateQuietEnd_good hx0)

theorem onDir_good {pq : List Instr} {x0 : Fin 48} {x1 : Lane → Lane} {x2 : State} (hx2 : Good pq x2) : Good pq (onDir x0 x1 x2) := by
  unfold onDir
  apply onLane_good
  assumption

theorem execIdleEntry_good {pq : List Instr} {x0 : Fin 48} {x1 : State} (hx1 : Good pq x1) : GoodOut pq (execIdleEntry x0 x1) := by
  unfold execIdleEntry
  refine next_goodOut ?_
  refine ite_good (fun _ => ?_) (fun _ => ?_)
  · apply onDir_good
    assumption
  · assumption

theorem execKeepaliveDue_good {pq : List Instr} {x0 : Fin 48} {x1 : State} (hx1 : Good pq x1) : GoodOut pq (execKeepaliveDue x0 x1) := by
  unfold execKeepaliveDue
  refine next_goodOut ?_
  refine ite_good (fun _ => ?_) (fun _ => ?_)
  · apply onDir_good
    assumption
  · assumption

theorem execSleepDelayEnd_good {pq : List Instr} {x0 : Fin 48} {x1 : State} (hx1 : Good pq x1) : GoodOut pq (execSleepDelayEnd x0 x1) := by
  unfold execSleepDelayEnd
  refine next_goodOut ?_
  refine ite_good (fun _ => ?_) (fun _ => ?_)
  · apply onDir_good
    assumption
  · assumption

theorem execLaneDataToSend_good {pq : List Instr} {x0 : Fin 48} {x1 : State} (hx1 : Good pq x1) : GoodOut pq (execLaneDataToSend x0 x1) :=
  next_goodOut (onDir_good hx1)

theorem execLaneRxIdleMarker_good {pq : List Instr} {x0 : Fin 48} {x1 : IdleMark} {x2 : State} (hx2 : Good pq x2) : GoodOut pq (execLaneRxIdleMarker x0 x1 x2) := by
  unfold execLaneRxIdleMarker
  refine next_goodOut ?_
  refine ite_good (fun _ => ?_) (fun _ => ?_)
  · apply onDir_good
    assumption
  · assumption

theorem exitBurst_good {pq : List Instr} {x0 : Fin 48} {x1 : Bool} {x2 : State} (hx2 : Good pq x2) : Good pq (exitBurst x0 x1 x2) := by
  unfold exitBurst
  refine ite_good (fun _ => ?_) (fun _ => ?_)
  · assumption
  · refine ite_good (fun _ => ?_) (fun _ => ?_)
    · apply onDir_good
      assumption
    · apply raiseLane_good
      apply onDir_good
      assumption

theorem execExitBurstEnd_good {pq : List Instr} {x0 : Fin 48} {x1 : Bool} {x2 : State} (hx2 : Good pq x2) : GoodOut pq (execExitBurstEnd x0 x1 x2) :=
  next_goodOut (exitBurst_good hx2)

theorem execLaneWakeRelock_good {pq : List Instr} {x0 : Fin 48} {x1 : State} (hx1 : Good pq x1) : GoodOut pq (execLaneWakeRelock x0 x1) := by
  unfold execLaneWakeRelock
  refine next_goodOut ?_
  refine ite_good (fun _ => ?_) (fun _ => ?_)
  · apply onDir_good
    assumption
  · assumption

theorem execWakeTimeEnd_good {pq : List Instr} {x0 : Fin 48} {x1 : State} (hx1 : Good pq x1) : GoodOut pq (execWakeTimeEnd x0 x1) := by
  unfold execWakeTimeEnd
  refine next_goodOut ?_
  refine ite_good (fun _ => ?_) (fun _ => ?_)
  · apply laneTrain_good
    apply onLane_good
    assumption
  · assumption

theorem execLaneStatus_good {pq : List Instr} {x0 : Request} {x1 : LaneSeen} {x2 : State} (hx2 : Good pq x2) : GoodOut pq (execLaneStatus x0 x1 x2) := by
  unfold execLaneStatus
  refine next_goodOut ?_
  apply deskRun_good
  · intro a0 a1 ha2
    try dsimp -zeta only
    apply sCommand_good
    assumption
  · apply laneSees_good
    assumption

/-! ### TxLoad -/

theorem raiseLoad_good {pq : List Instr} {x0 : Nat} {x1 : Fin 2} {x2 : Fin 16} {x3 : Nat} {x4 : State} (hx4 : Good pq x4) : Good pq (raiseLoad x0 x1 x2 x3 x4) := by
  unfold raiseLoad
  apply raise_good
  assumption

theorem marginCheck_good {pq : List Instr} {x0 : Fin 2} {x1 : Fin 16} {x2 : State} (hx2 : Good pq x2) : Good pq (marginCheck x0 x1 x2) := by
  unfold marginCheck
  extract_lets v0 v1
  clear_value v0 v1
  apply raiseIf_good
  apply onTxg_good
  assumption

theorem releaseCurves_good {pq : List Instr} {x0 : Fin 2} {x1 : State} (hx1 : Good pq x1) : Good pq (releaseCurves x0 x1) := by
  unfold releaseCurves
  apply onTx_good
  assumption

theorem enterSteady_good {pq : List Instr} {x0 : Fin 2} {x1 : Fin 16} {x2 : State} (hx2 : Good pq x2) : Good pq (enterSteady x0 x1 x2) := by
  unfold enterSteady
  extract_lets v0 v1 v2 v3
  try clear_value v0
  have hv1 : Good pq v1 := by
    unfold v1
    apply releaseCurves_good
    apply onTxg_good
    refine Good.lit ?_
    assumption
  try clear_value v1 v2 v3
  split
  · apply onTxg_good
    assumption
  · assumption

theorem loadStart_good {pq : List Instr} {x0 : Fin 2} {x1 : State} (hx1 : Good pq x1) : Good pq (loadStart x0 x1) := by
  unfold loadStart
  refine foldl_good (fun _ _ _ => ?_) ?_
  · try dsimp -zeta only
    apply enterSteady_good
    apply onTxg_good
    assumption
  · assumption

theorem loadStop_good {pq : List Instr} {x0 : Fin 2} {x1 : State} (hx1 : Good pq x1) : Good pq (loadStop x0 x1) := by
  unfold loadStop
  apply releaseCurves_good
  apply onTx_good
  assumption

theorem useReport_good {pq : List Instr} {x0 : Fin 2} {x1 : Fin 16} {x2 : List Byte} {x3 : State} (hx3 : Good pq x3) : Good pq (useReport x0 x1 x2 x3) := by
  unfold useReport
  extract_lets v0 v1 v2
  clear_value v0 v1
  have hv2 : Good pq v2 := by
    unfold v2
    apply marginCheck_good
    apply onTxg_good
    assumption
  clear_value v2
  refine ite_good (fun _ => ?_) (fun _ => ?_)
  · refine ite_good (fun _ => ?_) (fun _ => ?_)
    · apply onTxg_good
      assumption
    · assumption
  · assumption

theorem rxLoading_good {pq : List Instr} {x0 : Fin 2} {x1 : Fin 16} {x2 : List Byte} {x3 : State} (hx3 : Good pq x3) : Good pq (rxLoading x0 x1 x2 x3) := by
  unfold rxLoading
  extract_lets v0 v1 v2 v3 v4 v5
  try clear_value v0
  try clear_value v1
  try clear_value v2
  try clear_value v3
  try clear_value v4
  try clear_value v5
  apply raiseIf_good
  apply onTxg_good
  assumption

theorem ackLoading_good {pq : List Instr} {x0 : Fin 2} {x1 : Fin 16} {x2 : Nat} {x3 : State} (hx3 : Good pq x3) : Good pq (ackLoading x0 x1 x2 x3) := by
  unfold ackLoading
  apply onTxg_good
  assumption

theorem loadingField_good {pq : List Instr} {x0 : Fin 2} {x1 : Fin 16} {x2 : List Byte} {x3 : State} (hx3 : Good pq x3) : Good pq (loadingField x0 x1 x2 x3) := by
  unfold loadingField
  extract_lets v0
  clear_value v0
  refine ite_good (fun _ => ?_) (fun _ => ?_)
  · apply onTxg_good
    assumption
  · apply ackLoading_good
    apply useReport_good
    apply rxLoading_good
    assumption

theorem execLoadingFieldReceived_good {pq : List Instr} {x0 : Fin 2} {x1 : Fin 16} {x2 : List Byte} {x3 : State} (hx3 : Good pq x3) : GoodOut pq (execLoadingFieldReceived x0 x1 x2 x3) :=
  next_goodOut (loadingField_good hx3)

theorem candidateReady_good {pq : List Instr} {x0 : Fin 2} {x1 : Fin 16} {x2 : State} (hx2 : Good pq x2) : Good pq (candidateReady x0 x1 x2) := by
  unfold candidateReady
  split
  · assumption
  · extract_lets v0 v1
    try clear_value v0
    try clear_value v1
    apply onTxg_good
    assumption

theorem execLoadingCandidateReady_good {pq : List Instr} {x0 : Fin 2} {x1 : Fin 16} {x2 : State} (hx2 : Good pq x2) : GoodOut pq (execLoadingCandidateReady x0 x1 x2) :=
  next_goodOut (candidateReady_good hx2)

theorem loadingIntervalEnd_good {pq : List Instr} {x0 : Fin 2} {x1 : Fin 16} {x2 : State} (hx2 : Good pq x2) : Good pq (loadingIntervalEnd x0 x1 x2) := by
  unfold loadingIntervalEnd
  extract_lets v0 v1 v2 v3 v4 v5
  try clear_value v0 v1 v2
  have hv3 : Good pq v3 := by
    unfold v3
    apply onTxg_good
    assumption
  try clear_value v3
  have hv4 : Good pq v4 := by
    unfold v4
    apply marginCheck_good
    assumption
  try clear_value v4 v5
  refine ite_good (fun _ => ?_) (fun _ => ?_)
  · assumption
  · refine ite_good (fun _ => ?_) (fun _ => ?_)
    · apply onTxg_good
      assumption
    · assumption

theorem execLoadingIntervalEnd_good {pq : List Instr} {x0 : Fin 2} {x1 : Fin 16} {x2 : State} (hx2 : Good pq x2) : GoodOut pq (execLoadingIntervalEnd x0 x1 x2) :=
  next_goodOut (loadingIntervalEnd_good hx2)

theorem proposalTimeout_good {pq : List Instr} {x0 : Fin 2} {x1 : Fin 16} {x2 : State} (hx2 : Good pq x2) : Good pq (proposalTimeout x0 x1 x2) := by
  unfold proposalTimeout
  refine ite_good (fun _ => ?_) (fun _ => ?_)
  · apply enterSteady_good
    apply raiseLoad_good
    apply onTxg_good
    assumption
  · assumption

theorem execProposalTimeout_good {pq : List Instr} {x0 : Fin 2} {x1 : Fin 16} {x2 : State} (hx2 : Good pq x2) : GoodOut pq (execProposalTimeout x0 x1 x2) :=
  next_goodOut (proposalTimeout_good hx2)

theorem loadBoundary_good {pq : List Instr} {x0 : Fin 2} {x1 : Fin 16} {x2 : State} (hx2 : Good pq x2) : Good pq (loadBoundary x0 x1 x2) := by
  unfold loadBoundary
  extract_lets v0 v1
  clear_value v0
  have hv1 : Good pq v1 := by
    unfold v1
    apply raiseLoad_good
    apply onTxg_good
    assumption
  clear_value v1
  refine ite_good (fun _ => ?_) (fun _ => ?_)
  · refine ite_good (fun _ => ?_) (fun _ => ?_)
    · apply marginCheck_good
      apply enterSteady_good
      assumption
    · apply onTxg_good
      assumption
  · assumption

theorem rxLoadBoundary_good {pq : List Instr} {x0 : Fin 2} {x1 : Fin 16} {x2 : State} (hx2 : Good pq x2) : Good pq (rxLoadBoundary x0 x1 x2) := by
  unfold rxLoadBoundary
  apply onTxg_good
  assumption

theorem qualityWindowEnd_good {pq : List Instr} {x0 : Fin 2} {x1 : Fin 16} {x2 : List (Fin 16 × SubQuality)} {x3 : State} (hx3 : Good pq x3) : Good pq (qualityWindowEnd x0 x1 x2 x3) := by
  unfold qualityWindowEnd
  apply onTxg_good
  apply preFec_good
  refine foldl_good (fun _ _ _ => ?_) ?_
  · try dsimp -zeta only
    apply subQuality_good
    assumption
  · assumption

theorem execQualityWindowEnd_good {pq : List Instr} {x0 : Fin 2} {x1 : Fin 16} {x2 : List (Fin 16 × SubQuality)} {x3 : State} (hx3 : Good pq x3) : GoodOut pq (execQualityWindowEnd x0 x1 x2 x3) := by
  unfold execQualityWindowEnd
  refine next_goodOut ?_
  apply qualityWindowEnd_good
  assumption

theorem policySet_good {pq : List Instr} {x0 : Request} {x1 : List ParRec} {x2 : State} (hx2 : Good pq x2) : Good pq (policySet x0 x1 x2) := by
  unfold policySet
  extract_lets v0 v1 v2 v3 v4
  clear_value v0 v1 v2 v3
  have hv4 : Good pq v4 := by
    unfold v4
    refine Good.lit ?_
    assumption
  clear_value v4
  refine ite_good (fun _ => ?_) (fun _ => ?_)
  · apply enterSteady_good
    apply onTxg_good
    assumption
  · assumption

theorem execBitloadPolicySet_good {pq : List Instr} {x0 : Request} {x1 : State} (hx1 : Good pq x1) : GoodOut pq (execBitloadPolicySet x0 x1) := by
  unfold execBitloadPolicySet
  refine next_goodOut ?_
  apply deskRun_good
  · intro a0 a1 ha2
    try dsimp -zeta only
    apply pCommand_good
    · intro a3 a4 ha5
      try dsimp -zeta only
      apply policySet_good
      assumption
    · assumption
  · assumption

theorem tableSet_good {pq : List Instr} {x0 : Request} {x1 : State} (hx1 : Good pq x1) : Good pq (tableSet x0 x1).1 := by
  unfold tableSet
  extract_lets v0 v1 v2 v3
  clear_value v0 v1 v2
  have hv3 : Good pq v3 := by
    unfold v3
    apply onTxg_good
    assumption
  clear_value v3
  refine ite_good_1 (fun _ => ?_) (fun _ => ?_)
  · refine Good.fst ?_
    assumption
  · split
    · refine Good.fst ?_
      assumption
    · refine ite_good_1 (fun _ => ?_) (fun _ => ?_)
      · refine Good.fst ?_
        assumption
      · refine Good.fst ?_
        apply keepBody_good
        assumption

theorem execBitloadTableSet_good {pq : List Instr} {x0 : Request} {x1 : State} (hx1 : Good pq x1) : GoodOut pq (execBitloadTableSet x0 x1) := by
  unfold execBitloadTableSet
  refine next_goodOut ?_
  apply deskRun_good
  · intro a0 a1 ha2
    try dsimp -zeta only
    apply tableSet_good
    assumption
  · assumption

theorem curveSet_good {pq : List Instr} {x0 : Request} {x1 : State} (hx1 : Good pq x1) : Good pq (curveSet x0 x1).1 := by
  unfold curveSet
  extract_lets v0 v1
  try clear_value v0 v1
  refine ite_good_1 (fun _ => ?_) (fun _ => ?_)
  · refine Good.fst ?_
    assumption
  · split
    · refine Good.fst ?_
      assumption
    · refine Good.fst ?_
      apply keepBody_good
      apply releaseCurves_good
      apply onTx_good
      assumption

theorem execBitloadCurveSet_good {pq : List Instr} {x0 : Request} {x1 : State} (hx1 : Good pq x1) : GoodOut pq (execBitloadCurveSet x0 x1) := by
  unfold execBitloadCurveSet
  refine next_goodOut ?_
  apply deskRun_good
  · intro a0 a1 ha2
    try dsimp -zeta only
    apply curveSet_good
    assumption
  · assumption

theorem execBitloadStatus_good {pq : List Instr} {x0 : Request} {x1 : State} (hx1 : Good pq x1) : GoodOut pq (execBitloadStatus x0 x1) := by
  unfold execBitloadStatus
  refine next_goodOut ?_
  apply deskRun_good
  · intro a0 a1 ha2
    try dsimp -zeta only
    apply sCommand_good
    assumption
  · assumption

theorem applyEmph_good {pq : List Instr} {x0 : Fin 2} {x1 : State} (hx1 : Good pq x1) : Good pq (applyEmph x0 x1) := by
  unfold applyEmph
  apply onTx_good
  assumption

theorem txdspSet_good {pq : List Instr} {x0 : Request} {x1 : List ParRec} {x2 : State} (hx2 : Good pq x2) : Good pq (txdspSet x0 x1 x2) := by
  unfold txdspSet
  extract_lets v0 v1 v2
  try clear_value v0 v1
  have hv2 : Good pq v2 := by
    unfold v2
    refine ite_good (fun _ => ?_) (fun _ => ?_)
    · apply waitRecs_good
      assumption
    · apply applyRecs_good
      assumption
  try clear_value v2
  refine ite_good (fun _ => ?_) (fun _ => ?_)
  · assumption
  · apply applyEmph_good
    apply onTx_good
    assumption

theorem execTxdspSet_good {pq : List Instr} {x0 : Request} {x1 : State} (hx1 : Good pq x1) : GoodOut pq (execTxdspSet x0 x1) := by
  unfold execTxdspSet
  refine next_goodOut ?_
  apply deskRun_good
  · intro a0 a1 ha2
    try dsimp -zeta only
    apply pCommand_good
    · intro a3 a4 ha5
      try dsimp -zeta only
      apply txdspSet_good
      assumption
    · assumption
  · assumption

theorem predistSet_good {pq : List Instr} {x0 : Request} {x1 : State} (hx1 : Good pq x1) : Good pq (predistSet x0 x1).1 := by
  unfold predistSet
  extract_lets v0 v1
  clear_value v0 v1
  refine ite_good_1 (fun _ => ?_) (fun _ => ?_)
  · refine Good.fst ?_
    assumption
  · refine Good.fst ?_
    apply keepBody_good
    apply onTx_good
    assumption

theorem execTxdspPredistSet_good {pq : List Instr} {x0 : Request} {x1 : State} (hx1 : Good pq x1) : GoodOut pq (execTxdspPredistSet x0 x1) := by
  unfold execTxdspPredistSet
  refine next_goodOut ?_
  apply deskRun_good
  · intro a0 a1 ha2
    try dsimp -zeta only
    apply predistSet_good
    assumption
  · assumption

theorem txVolumeDsp_good {pq : List Instr} {x0 : Fin 2} {x1 : List Nat} {x2 : Nat} {x3 : State} (hx3 : Good pq x3) : Good pq (txVolumeDsp x0 x1 x2 x3) := by
  unfold txVolumeDsp
  extract_lets v0 v1
  have hv0 : Good pq v0 := by
    unfold v0
    refine Good.lit ?_
    assumption
  try clear_value v0
  have hv1 : Good pq v1 := by
    unfold v1
    apply applyEmph_good
    apply onTx_good
    assumption
  try clear_value v1
  refine foldl_good (fun _ _ _ => ?_) ?_
  · try dsimp -zeta only
    extract_lets v2 v3
    try clear_value v2 v3
    apply raiseIf_good
    apply onTx_good
    assumption
  · assumption

theorem execTxdspStatus_good {pq : List Instr} {x0 : Request} {x1 : State} (hx1 : Good pq x1) : GoodOut pq (execTxdspStatus x0 x1) := by
  unfold execTxdspStatus
  refine next_goodOut ?_
  apply deskRun_good
  · intro a0 a1 ha2
    try dsimp -zeta only
    apply sCommand_good
    assumption
  · assumption

/-! ### Readers -/

theorem onPool_good {pq : List Instr} {x0 : Fin 8} {x1 : Pool → Pool} {x2 : State} (hx2 : Good pq x2) : Good pq (onPool x0 x1 x2) := by
  unfold onPool
  apply onDec_good
  assumption

theorem onReader_good {pq : List Instr} {x0 : Fin 8} {x1 : Fin 12} {x2 : Reader → Reader} {x3 : State} (hx3 : Good pq x3) : Good pq (onReader x0 x1 x2 x3) := by
  unfold onReader
  apply onPool_good
  assumption

theorem onDecCtr_good {pq : List Instr} {x0 : Fin 2} {x1 : DecCtr → DecCtr} {x2 : State} (hx2 : Good pq x2) : Good pq (onDecCtr x0 x1 x2) := by
  unfold onDecCtr
  apply onDec_good
  assumption

theorem onCw_good {pq : List Instr} {x0 : Nat} {x1 : Codeword → Codeword} {x2 : State} (hx2 : Good pq x2) : Good pq (onCw x0 x1 x2) := by
  unfold onCw
  apply onDec_good
  assumption

theorem issue_good {pq : List Instr} {x0 : Nat} {x1 : Codeword} {x2 : List Byte} {x3 : Bool} {x4 : State} (hx4 : Good pq x4) : Good pq (issue x0 x1 x2 x3 x4) := by
  unfold issue
  extract_lets v0
  try clear_value v0
  apply onDec_good
  assumption

theorem unresolve_good {pq : List Instr} {x0 : Nat} {x1 : Nat} {x2 : Nat} {x3 : State} (hx3 : Good pq x3) : Good pq (unresolve x0 x1 x2 x3) := by
  unfold unresolve
  split
  · assumption
  · apply onDecCtr_good
    apply onCw_good
    assumption

theorem writeItem_good {pq : List Instr} {x0 : Nat} {x1 : List Byte} {x2 : Nat} {x3 : Nat} {x4 : Bool} {x5 : List Nat} {x6 : State} (hx6 : Good pq x6) : Good pq (writeItem x0 x1 x2 x3 x4 x5 x6) := by
  unfold writeItem
  extract_lets v0
  try clear_value v0
  refine foldl_good (fun _ _ _ => ?_) ?_
  · try dsimp -zeta only
    apply stkWrite_good
    assumption
  · assumption

theorem reserveHigh_good {pq : List Instr} {x0 : Fin 2} {x1 : State} (hx1 : Good pq x1) : Good pq (reserveHigh x0 x1) := by
  unfold reserveHigh
  extract_lets v0
  clear_value v0
  apply raiseIf_good
  apply onDec_good
  assumption

theorem park_good {pq : List Instr} {x0 : Nat} {x1 : Nat} {x2 : List Byte} {x3 : Nat} {x4 : Bool} {x5 : State} (hx5 : Good pq x5) : Good pq (park x0 x1 x2 x3 x4 x5) := by
  unfold park
  split
  · assumption
  · extract_lets v0 v1
    try clear_value v0
    have hv1 : Good pq v1 := by
      unfold v1
      apply issue_good
      apply onCw_good
      apply onDecCtr_good
      assumption
    try clear_value v1
    split
    · apply raise_good
      apply unresolve_good
      assumption
    · extract_lets v2
      have hv2 : Good pq v2 := by
        unfold v2
        apply onDec_good
        assumption
      try clear_value v2
      apply reserveHigh_good
      split
      · apply writeItem_good
        assumption
      · assumption

theorem freeReserve_good {pq : List Instr} {x0 : Nat} {x1 : State} (hx1 : Good pq x1) : Good pq (freeReserve x0 x1) := by
  unfold freeReserve
  apply onDec_good
  assumption

theorem countRate_good {pq : List Instr} {x0 : State} (hx0 : Good pq x0) : Good pq (countRate x0) := by
  unfold countRate
  extract_lets v0
  clear_value v0
  apply onDec_good
  assumption

theorem queueSlot_good {pq : List Instr} {x0 : Fin 2} {x1 : Nat} {x2 : State} (hx2 : Good pq x2) : Good pq (queueSlot x0 x1 x2).2 := by
  unfold queueSlot
  split
  · refine Good.snd ?_
    assumption
  · extract_lets v0 v1
    try clear_value v0
    have hv1 : ∀ a0 a1 a2, Good pq a2 → Good pq (v1 a0 a1 a2).2 := by
      intro a0 a1 a2 ha3
      unfold v1
      try dsimp -zeta only
      refine onStk_good (fun _ hk => hk) ?_
      assumption
    try clear_value v1
    refine ite_good_2 (fun _ => ?_) (fun _ => ?_)
    · refine hv1 _ _ _ ?_
      assumption
    · refine hv1 _ _ _ ?_
      apply queueWrap_good
      assumption

theorem sendParcel_good {pq : List Instr} {x0 : Fin 2} {x1 : Fin 16} {x2 : List Dim} {x3 : Nat} {x4 : State} (hx4 : Good pq x4) : Good pq (sendParcel x0 x1 x2 x3 x4) := by
  unfold sendParcel
  extract_lets v0 v1 v2 v3 v4 v5 v6 v7 v8 v9 v10 v11 v12 v13 v14
  have hv0 : Good pq v0 := by
    unfold v0
    apply countRate_good
    assumption
  try clear_value v0 v1 v2 v3 v4
  have hv5 : Good pq v5.2 := by
    unfold v5
    split
    · apply chutePoison_good
      assumption
    · refine Good.snd ?_
      assumption
  try clear_value v5 v6 v7 v8 v9
  have hv10 : Good pq v10.2 := by
    unfold v10
    apply queueSlot_good
    assumption
  try clear_value v10 v11 v12
  have hv13 : Good pq v13 := by
    unfold v13
    apply onRxg_good
    apply onDec_good
    assumption
  try clear_value v13
  have hv14 : Good pq v14 := by
    unfold v14
    apply raise_good
    assumption
  try clear_value v14
  split
  · apply onPool_good
    assumption
  · refine ite_good (fun _ => ?_) (fun _ => ?_)
    · apply unresolve_good
      apply issue_good
      assumption
    · apply park_good
      assumption

theorem parcelAssembled_good {pq : List Instr} {x0 : Fin 2} {x1 : Fin 16} {x2 : State} (hx2 : Good pq x2) : Good pq (parcelAssembled x0 x1 x2) := by
  unfold parcelAssembled
  extract_lets v0 v1 v2 v3 v4 v5
  try clear_value v0 v1 v2 v3 v4
  have hv5 : Good pq v5 := by
    unfold v5
    apply onRxg_good
    assumption
  try clear_value v5
  refine ite_good (fun _ => ?_) (fun _ => ?_)
  · assumption
  · refine ite_good (fun _ => ?_) (fun _ => ?_)
    · apply sendParcel_good
      apply onRxg_good
      assumption
    · refine ite_good (fun _ => ?_) (fun _ => ?_)
      · refine ite_good (fun _ => ?_) (fun _ => ?_)
        · assumption
        · apply sendParcel_good
          assumption
      · assumption

theorem execParcelAssembled_good {pq : List Instr} {x0 : Fin 2} {x1 : Fin 16} {x2 : State} (hx2 : Good pq x2) : GoodOut pq (execParcelAssembled x0 x1 x2) := by
  unfold execParcelAssembled
  refine next_goodOut ?_
  apply parcelAssembled_good
  assumption

theorem startCodeword_good {pq : List Instr} {x0 : Fin 8} {x1 : Fin 12} {x2 : Fin 8} {x3 : Codeword} {x4 : State} (hx4 : Good pq x4) : Good pq (startCodeword x0 x1 x2 x3 x4) := by
  unfold startCodeword
  extract_lets v0 v1 v2 v3 v4
  have hv0 : Good pq v0 := by
    unfold v0
    apply onPool_good
    assumption
  clear_value v0
  have hv1 : Good pq v1 := by
    unfold v1
    refine ite_good (fun _ => ?_) (fun _ => ?_)
    · assumption
    · apply onPool_good
      apply onPool_good
      assumption
  clear_value v1 v2 v3 v4
  refine ite_good (fun _ => ?_) (fun _ => ?_)
  · apply unresolve_good
    apply issue_good
    apply onDecCtr_good
    assumption
  · apply onReader_good
    apply onCw_good
    assumption

theorem readerIdle_good {pq : List Instr} {x0 : Fin 8} {x1 : Fin 12} {x2 : State} (hx2 : Good pq x2) : Good pq (readerIdle x0 x1 x2) := by
  unfold readerIdle
  extract_lets v0
  try clear_value v0
  refine ite_good (fun _ => ?_) (fun _ => ?_)
  · assumption
  · split
    · split
      · apply startCodeword_good
        assumption
      · apply onPool_good
        assumption
    · refine ite_good (fun _ => ?_) (fun _ => ?_)
      · assumption
      · split
        · assumption
        · apply onReader_good
          apply onCw_good
          assumption

theorem execReaderIdle_good {pq : List Instr} {x0 : Fin 8} {x1 : Fin 12} {x2 : State} (hx2 : Good pq x2) : GoodOut pq (execReaderIdle x0 x1 x2) :=
  next_goodOut (readerIdle_good hx2)

theorem readerDone_good {pq : List Instr} {x0 : Fin 8} {x1 : Fin 12} {x2 : State} (hx2 : Good pq x2) : Good pq (readerDone x0 x1 x2) := by
  unfold readerDone
  apply onReader_good
  assumption

theorem addPreFec_good {pq : List Instr} {x0 : Fin 2} {x1 : Nat} {x2 : List Nat × List Nat} {x3 : State} (hx3 : Good pq x3) : Good pq (addPreFec x0 x1 x2 x3) := by
  unfold addPreFec
  extract_lets v0
  try clear_value v0
  apply onRx_good
  assumption

theorem converged_good {pq : List Instr} {x0 : Nat} {x1 : Codeword} {x2 : Work} {x3 : List Byte} {x4 : State} (hx4 : Good pq x4) : Good pq (converged x0 x1 x2 x3 x4) := by
  unfold converged
  extract_lets v0 v1 v2 v3
  have hv0 : Good pq v0 := by
    unfold v0
    apply addPreFec_good
    assumption
  try clear_value v0 v1
  have hv2 : Good pq v2 := by
    unfold v2
    apply onDecCtr_good
    apply onDecCtr_good
    assumption
  try clear_value v2
  have hv3 : Good pq v3 := by
    unfold v3
    apply issue_good
    apply onCw_good
    assumption
  try clear_value v3
  refine ite_good (fun _ => ?_) (fun _ => ?_)
  · apply freeReserve_good
    assumption
  · assumption

theorem readerFault_good {pq : List Instr} {x0 : Fin 8} {x1 : Fin 12} {x2 : Codeword} {x3 : Work} {x4 : State} (hx4 : Good pq x4) : Good pq (readerFault x0 x1 x2 x3 x4) := by
  unfold readerFault
  extract_lets v0 v1 v2
  try clear_value v0
  have hv1 : Good pq v1 := by
    unfold v1
    refine ite_good (fun _ => ?_) (fun _ => ?_)
    · refine ite_good (fun _ => ?_) (fun _ => ?_)
      · apply onCw_good
        assumption
      · apply freeReserve_good
        apply unresolve_good
        assumption
    · apply onPool_good
      apply onCw_good
      assumption
  try clear_value v1
  have hv2 : Good pq v2 := by
    unfold v2
    apply onDecCtr_good
    apply onReader_good
    assumption
  try clear_value v2
  apply raise0_good
  assumption

theorem exhausted_good {pq : List Instr} {x0 : Nat} {x1 : Codeword} {x2 : Work} {x3 : List Byte} {x4 : State} (hx4 : Good pq x4) : Good pq (exhausted x0 x1 x2 x3 x4) := by
  unfold exhausted
  extract_lets v0 v1 v2
  try clear_value v0 v1
  have hv2 : Good pq v2 := by
    unfold v2
    refine ite_good (fun _ => ?_) (fun _ => ?_)
    · apply issue_good
      assumption
    · assumption
  try clear_value v2
  refine ite_good (fun _ => ?_) (fun _ => ?_)
  · apply freeReserve_good
    apply unresolve_good
    assumption
  · refine ite_good (fun _ => ?_) (fun _ => ?_)
    · apply unresolve_good
      apply issue_good
      assumption
    · refine ite_good (fun _ => ?_) (fun _ => ?_)
      · apply park_good
        assumption
      · apply unresolve_good
        apply issue_good
        assumption

theorem lateResult_good {pq : List Instr} {x0 : Fin 2} {x1 : State} (hx1 : Good pq x1) : Good pq (lateResult x0 x1) := by
  unfold lateResult
  apply raise_good
  apply onDecCtr_good
  assumption

theorem afterRelease_good {pq : List Instr} {x0 : Fin 8} {x1 : Fin 12} {x2 : Work} {x3 : Bool} {x4 : List Byte} {x5 : State} (hx5 : Good pq x5) :
    Good pq (afterRelease x0 x1 x2 x3 x4 x5) := by
  unfold afterRelease
  extract_lets v0
  clear_value v0
  refine ite_good (fun _ => ?_) (fun _ => ite_good (fun _ => hx5) (fun _ => lateResult_good hx5))
  apply raise0_good
  apply onDecCtr_good
  apply onReader_good
  assumption

theorem iterationEnd_good {pq : List Instr} {x0 : Fin 8} {x1 : Fin 12} {x2 : Option (List Byte)} {x3 : State} (hx3 : Good pq x3) : Good pq (iterationEnd x0 x1 x2 x3) := by
  unfold iterationEnd
  split
  · assumption
  · refine ite_good (fun _ => ?_) (fun _ => ?_)
    · assumption
    · extract_lets v0 v1 v2 v3 v4 v5
      try clear_value v0 v1 v2 v3 v4
      have hv5 : Good pq v5 := by
        unfold v5
        apply onReader_good
        assumption
      try clear_value v5
      split
      · apply readerDone_good
        apply afterRelease_good
        assumption
      · refine ite_good (fun _ => ?_) (fun _ => ?_)
        · refine ite_good (fun _ => ?_) (fun _ => ?_)
          · apply readerDone_good
            apply converged_good
            assumption
          · apply readerDone_good
            apply readerFault_good
            assumption
        · refine ite_good (fun _ => ?_) (fun _ => ?_)
          · apply readerDone_good
            apply exhausted_good
            apply onDecCtr_good
            assumption
          · assumption

theorem execDecodeIterationEnd_good {pq : List Instr} {x0 : Fin 8} {x1 : Fin 12} {x2 : Option (List Byte)} {x3 : State} (hx3 : Good pq x3) : GoodOut pq (execDecodeIterationEnd x0 x1 x2 x3) := by
  unfold execDecodeIterationEnd
  refine next_goodOut ?_
  apply iterationEnd_good
  assumption

theorem readItem_good {pq : List Instr} {x0 : Nat} {x1 : Nat} {x2 : Option (Nat × Nat)} {x3 : State} (hx3 : Good pq x3) : Good pq (readItem x0 x1 x2 x3).2.2 := by
  unfold readItem
  suffices ∀ (l : List Nat) (x : List Byte × Bool × State), Good pq x.2.2 → Good pq (l.foldl (fun (x : List Byte × Bool × State) i =>
      let d := stkRead (x0 + i) x2 false false x.2.2
      (x.1 ++ d.1.data, x.2.1 || d.1.poison, d.2)) x).2.2 from this _ _ hx3
  intro l
  induction l with
  | nil => exact fun x hx => hx
  | cons i r ih => exact fun x hx => ih _ (stkRead_good hx)

theorem reserveFetch_good {pq : List Instr} {x0 : Fin 8} {x1 : Fin 12} {x2 : State} (hx2 : Good pq x2) : Good pq (reserveFetch x0 x1 x2) := by
  unfold reserveFetch
  split
  · assumption
  · refine ite_good (fun _ => ?_) (fun _ => ?_)
    · assumption
    · extract_lets v0
      have hv0 : ∀ a0, Good pq a0 → Good pq (v0 a0) := by
        intro a0 ha1
        unfold v0
        try dsimp -zeta only
        apply onReader_good
        assumption
      try clear_value v0
      split
      · extract_lets v1 v2 v3
        have hv1 : Good pq v1.2.2 := by
          unfold v1
          split
          · apply readItem_good
            assumption
          · refine Good.snd ?_
            assumption
        try clear_value v1 v2 v3
        refine ite_good (fun _ => ?_) (fun _ => ?_)
        · refine hv0 _ ?_
          apply freeReserve_good
          apply unresolve_good
          apply poisonOut_good
          assumption
        · refine ite_good (fun _ => ?_) (fun _ => ?_)
          · refine hv0 _ ?_
            apply freeReserve_good
            apply unresolve_good
            assumption
          · refine ite_good (fun _ => ?_) (fun _ => ?_)
            · refine hv0 _ ?_
              apply freeReserve_good
              apply unresolve_good
              assumption
            · apply onReader_good
              assumption
      · refine hv0 _ ?_
        assumption

theorem execReserveFetchComplete_good {pq : List Instr} {x0 : Fin 8} {x1 : Fin 12} {x2 : State} (hx2 : Good pq x2) : GoodOut pq (execReserveFetchComplete x0 x1 x2) :=
  next_goodOut (reserveFetch_good hx2)

theorem reserveExpiry_good {pq : List Instr} {x0 : Fin 2} {x1 : Fin 16} {x2 : Word32} {x3 : State} (hx3 : Good pq x3) : Good pq (reserveExpiry x0 x1 x2 x3) := by
  unfold reserveExpiry
  extract_lets v0
  clear_value v0
  split
  · assumption
  · refine ite_good (fun _ => ?_) (fun _ => ?_)
    · apply freeReserve_good
      apply unresolve_good
      assumption
    · assumption

theorem execReserveEntryExpiry_good {pq : List Instr} {x0 : Fin 2} {x1 : Fin 16} {x2 : Word32} {x3 : State} (hx3 : Good pq x3) : GoodOut pq (execReserveEntryExpiry x0 x1 x2 x3) :=
  next_goodOut (reserveExpiry_good hx3)

theorem countUnresolved_good {pq : List Instr} {x0 : Fin 2} {x1 : Nat} {x2 : State} (hx2 : Good pq x2) : Good pq (countUnresolved x0 x1 x2) := by
  unfold countUnresolved
  extract_lets v0 v1
  try clear_value v0
  have hv1 : Good pq v1 := by
    unfold v1
    apply onDecCtr_good
    assumption
  try clear_value v1
  refine ite_good (fun _ => ?_) (fun _ => ?_)
  · apply raise_good
    apply onDecCtr_good
    assumption
  · assumption

theorem codewordDeadline_good {pq : List Instr} {x0 : Fin 2} {x1 : Fin 16} {x2 : Word32} {x3 : State} (hx3 : Good pq x3) : Good pq (codewordDeadline x0 x1 x2 x3) := by
  unfold codewordDeadline
  extract_lets v0 v1
  try clear_value v0
  have hv1 : Good pq v1 := by
    unfold v1
    apply onDec_good
    apply freeReserve_good
    assumption
  try clear_value v1
  split
  · assumption
  · refine ite_good (fun _ => ?_) (fun _ => ?_)
    · assumption
    · apply onDecCtr_good
      assumption

theorem execCodewordDeadline_good {pq : List Instr} {x0 : Fin 2} {x1 : Fin 16} {x2 : Word32} {x3 : State} (hx3 : Good pq x3) : GoodOut pq (execCodewordDeadline x0 x1 x2 x3) :=
  next_goodOut (codewordDeadline_good hx3)

theorem resultWrite_good {pq : List Instr} {x0 : State} (hx0 : Good pq x0) : Good pq (resultWrite x0) := by
  unfold resultWrite
  split
  · assumption
  · extract_lets v0 v1
    have hv0 : Good pq v0.2 := by
      unfold v0
      apply chutePoison_good
      apply onDec_good
      assumption
    try clear_value v0 v1
    refine ite_good (fun _ => ?_) (fun _ => ?_)
    · apply lateResult_good
      assumption
    · apply onDec_good
      apply writeItem_good
      assumption

theorem execResultWrite_good {pq : List Instr} {x0 : State} (hx0 : Good pq x0) : GoodOut pq (execResultWrite x0) :=
  next_goodOut (resultWrite_good hx0)

theorem poolRemove_good {pq : List Instr} {x0 : Request} {x1 : State} (hx1 : Good pq x1) : Good pq (poolRemove x0 x1).1 := by
  unfold poolRemove
  extract_lets v0 v1 v2
  try clear_value v0
  try clear_value v1
  have hv2 : Good pq v2 := by
    unfold v2
    refine ite_good (fun _ => ?_) (fun _ => ?_)
    · apply terminate_good
      assumption
    · assumption
  try clear_value v2
  refine ite_good_1 (fun _ => ?_) (fun _ => ?_)
  · refine Good.fst ?_
    assumption
  · refine ite_good_1 (fun _ => ?_) (fun _ => ?_)
    · refine Good.fst ?_
      assumption
    · refine Good.fst ?_
      apply beginTransition_good
      apply onPool_good
      assumption

theorem execDecodePoolRemove_good {pq : List Instr} {x0 : Request} {x1 : State} (hx1 : Good pq x1) : GoodOut pq (execDecodePoolRemove x0 x1) := by
  unfold execDecodePoolRemove
  refine next_goodOut ?_
  apply deskRun_good
  · intro a0 a1 ha2
    try dsimp -zeta only
    apply poolRemove_good
    assumption
  · assumption

theorem poolDrained_good {pq : List Instr} {x0 : Fin 8} {x1 : State} (hx1 : Good pq x1) : Good pq (poolDrained x0 x1) := by
  unfold poolDrained
  refine ite_good (fun _ => ?_) (fun _ => ?_)
  · apply endTransition_good
    apply raise0_good
    apply onPool_good
    assumption
  · assumption

theorem execPoolDrained_good {pq : List Instr} {x0 : Fin 8} {x1 : State} (hx1 : Good pq x1) : GoodOut pq (execPoolDrained x0 x1) :=
  next_goodOut (poolDrained_good hx1)

theorem poolRestored_good {pq : List Instr} {x0 : Fin 8} {x1 : State} (hx1 : Good pq x1) : Good pq (poolRestored x0 x1) := by
  unfold poolRestored
  split
  · assumption
  · refine ite_good (fun _ => ?_) (fun _ => ?_)
    · assumption
    · extract_lets v0 v1
      have hv0 : Good pq v0 := by
        unfold v0
        apply onPool_good
        assumption
      clear_value v0
      have hv1 : Good pq v1 := by
        unfold v1
        apply endTransition_good
        assumption
      clear_value v1
      refine ite_good (fun _ => ?_) (fun _ => ?_)
      · assumption
      · apply requestDomain_good
        assumption

theorem poolRestore_good {pq : List Instr} {x0 : Word16} {x1 : Request} {x2 : State} (hx2 : Good pq x2) : Good pq (poolRestore x0 x1 x2).1 := by
  unfold poolRestore
  extract_lets v0
  try clear_value v0
  refine ite_good_1 (fun _ => ?_) (fun _ => ?_)
  · refine Good.fst ?_
    assumption
  · refine Good.fst ?_
    apply poolRestored_good
    apply requestDomain_good
    apply onPool_good
    apply beginTransition_good
    assumption

theorem execDecodePoolRestore_good {pq : List Instr} {x0 : Request} {x1 : Word16} {x2 : State} (hx2 : Good pq x2) : GoodOut pq (execDecodePoolRestore x0 x1 x2) := by
  unfold execDecodePoolRestore
  refine next_goodOut ?_
  apply deskRun_good
  · intro a0 a1 ha2
    try dsimp -zeta only
    apply poolRestore_good
    assumption
  · assumption

theorem readerEnable_good {pq : List Instr} {x0 : Bool} {x1 : Request} {x2 : State} (hx2 : Good pq x2) : Good pq (readerEnable x0 x1 x2).1 := by
  unfold readerEnable
  extract_lets v0 v1
  try clear_value v0
  try clear_value v1
  refine ite_good_1 (fun _ => ?_) (fun _ => ?_)
  · refine Good.fst ?_
    assumption
  · refine ite_good_1 (fun _ => ?_) (fun _ => ?_)
    · refine Good.fst ?_
      apply raise0_good
      apply onReader_good
      assumption
    · refine Good.fst ?_
      apply onReader_good
      assumption

theorem execDecodeReaderEnable_good {pq : List Instr} {x0 : Request} {x1 : Bool} {x2 : State} (hx2 : Good pq x2) : GoodOut pq (execDecodeReaderEnable x0 x1 x2) := by
  unfold execDecodeReaderEnable
  refine next_goodOut ?_
  apply deskRun_good
  · intro a0 a1 ha2
    try dsimp -zeta only
    apply readerEnable_good
    assumption
  · assumption

theorem decodeSet_good {pq : List Instr} {x0 : Request} {x1 : State} (hx1 : Good pq x1) : Good pq (decodeSet x0 x1).1 := by
  unfold decodeSet
  split
  · refine Good.fst ?_
    assumption
  · split
    · refine Good.fst ?_
      assumption
    · extract_lets v0
      have hv0 : Good pq v0 := by
        unfold v0
        apply applyRecs_good
        assumption
      try clear_value v0
      refine ite_good_1 (fun _ => ?_) (fun _ => ?_)
      · split
        · refine Good.fst ?_
          apply onDec_good
          first | assumption | exact allocRegion_good (by assumption) (by assumption) | exact growQueue_good (by assumption) (by assumption) | exact growQueues_good (by assumption) (by assumption) | exact startUrgent_good (by assumption) (by assumption) | exact startAborted_good (by assumption) (by assumption) | exact startDue_good (by assumption) (by assumption)
        · refine Good.fst ?_
          assumption
      · refine Good.fst ?_
        assumption

theorem execDecodeSet_good {pq : List Instr} {x0 : Request} {x1 : State} (hx1 : Good pq x1) : GoodOut pq (execDecodeSet x0 x1) := by
  unfold execDecodeSet
  refine next_goodOut ?_
  apply deskRun_good
  · intro a0 a1 ha2
    try dsimp -zeta only
    apply decodeSet_good
    assumption
  · assumption

theorem execDecodeStatus_good {pq : List Instr} {x0 : Request} {x1 : State} (hx1 : Good pq x1) : GoodOut pq (execDecodeStatus x0 x1) := by
  unfold execDecodeStatus
  refine next_goodOut ?_
  apply deskRun_good
  · intro a0 a1 ha2
    try dsimp -zeta only
    apply sCommand_good
    assumption
  · assumption

/-! ### Carrier -/

theorem carrierProvision_good {pq : List Instr} {x0 : Request} {x1 : State} (hx1 : Good pq x1) : Good pq (carrierProvision x0 x1).1 := by
  unfold carrierProvision
  extract_lets v0
  try clear_value v0
  refine ite_good_1 (fun _ => ?_) (fun _ => ?_)
  · refine Good.fst ?_
    assumption
  · split
    · refine Good.fst ?_
      assumption
    · refine Good.fst ?_
      apply keepBody_good
      apply assignSubs_good
      apply onCar_good
      assumption

theorem execCarrierProvision_good {pq : List Instr} {x0 : Request} {x1 : State} (hx1 : Good pq x1) : GoodOut pq (execCarrierProvision x0 x1) := by
  unfold execCarrierProvision
  refine next_goodOut ?_
  apply pmSync_good
  apply deskRun_good
  · intro a3 a4 ha5
    try dsimp -zeta only
    apply carrierProvision_good
    assumption
  · assumption

theorem txStart_good {pq : List Instr} {x0 : Fin 2} {x1 : State} {x2 : Fin 16} (hx1 : Good pq x1) : Good pq (txStart x0 x1 x2) := by
  unfold txStart
  extract_lets v0 v1 v2 v3 v4
  try clear_value v0
  try clear_value v1
  have hv2 : Good pq v2 := by
    unfold v2
    apply onFol_good
    apply State.drawn_good
    assumption
  try clear_value v2
  have hv3 : Good pq v3 := by
    unfold v3
    apply onLink_good
    assumption
  try clear_value v3
  have hv4 : Good pq v4 := by
    unfold v4
    apply onOdum_good
    assumption
  try clear_value v4
  apply tryKex_good
  apply noKeyCheck_good
  assumption

theorem carrierEnabled_good {pq : List Instr} {x0 : Fin 2} {x1 : State} (hx1 : Good pq x1) : Good pq (carrierEnabled x0 x1) := by
  unfold carrierEnabled
  extract_lets v0 v1 v2
  have hv0 : Good pq v0 := by
    unfold v0
    apply onTx_good
    apply onCar_good
    assumption
  try clear_value v0
  have hv1 : Good pq v1 := by
    unfold v1
    apply loadStart_good
    apply rxStart_good
    apply convStart_good
    apply applyEmph_good
    assumption
  try clear_value v1
  have hv2 : Good pq v2 := by
    unfold v2
    refine foldl_good (fun _ _ _ => ?_) ?_
    · try dsimp -zeta only
      apply txStart_good
      assumption
    · assumption
  try clear_value v2
  apply carrierHeard_good
  apply endTransition_good
  apply driveLight_good
  apply safetyLos_good
  assumption

theorem carrierProceed_good {pq : List Instr} {x0 : Fin 2} {x1 : State} (hx1 : Good pq x1) : Good pq (carrierProceed x0 x1) := by
  unfold carrierProceed
  refine ite_good (fun _ => ?_) (fun _ => ?_)
  · refine ite_good (fun _ => ?_) (fun _ => ?_)
    · apply fgStart_good
      assumption
    · apply carrierEnabled_good
      assumption
  · assumption

theorem carrierEnable_good {pq : List Instr} {x0 : Request} {x1 : State} (hx1 : Good pq x1) : Good pq (carrierEnable x0 x1).1 := by
  unfold carrierEnable
  extract_lets v0 v1
  try clear_value v0
  try clear_value v1
  refine ite_good_1 (fun _ => ?_) (fun _ => ?_)
  · refine Good.fst ?_
    assumption
  · split
    · refine Good.fst ?_
      assumption
    · extract_lets v2
      have hv2 : Good pq v2 := by
        unfold v2
        apply requestDomain_good
        apply beginTransition_good
        apply onCar_good
        first | assumption | exact allocRegion_good (by assumption) (by assumption) | exact growQueue_good (by assumption) (by assumption) | exact growQueues_good (by assumption) (by assumption) | exact startUrgent_good (by assumption) (by assumption) | exact startAborted_good (by assumption) (by assumption) | exact startDue_good (by assumption) (by assumption)
      try clear_value v2
      refine Good.fst ?_
      apply carrierProceed_good
      refine foldl_good (fun _ _ _ => ?_) ?_
      · try dsimp -zeta only
        apply requestDomain_good
        first | assumption | exact allocRegion_good (by assumption) (by assumption) | exact growQueue_good (by assumption) (by assumption) | exact growQueues_good (by assumption) (by assumption) | exact startUrgent_good (by assumption) (by assumption) | exact startAborted_good (by assumption) (by assumption) | exact startDue_good (by assumption) (by assumption)
      · assumption

theorem execCarrierEnable_good {pq : List Instr} {x0 : Request} {x1 : State} (hx1 : Good pq x1) : GoodOut pq (execCarrierEnable x0 x1) := by
  unfold execCarrierEnable
  refine next_goodOut ?_
  apply deskRun_good
  · intro a0 a1 ha2
    try dsimp -zeta only
    apply carrierEnable_good
    assumption
  · assumption

theorem restPools_good {pq : List Instr} {x0 : State} (hx0 : Good pq x0) : Good pq (restPools x0) := by
  unfold restPools
  refine ite_good (fun _ => ?_) (fun _ => ?_)
  · assumption
  · refine foldl_good (fun _ _ _ => ?_) ?_
    · try dsimp -zeta only
      apply requestDomain_good
      assumption
    · assumption

theorem carrierFailed_good {pq : List Instr} {x0 : Fin 2} {x1 : Nat} {x2 : State} (hx2 : Good pq x2) : Good pq (carrierFailed x0 x1 x2) := by
  unfold carrierFailed
  extract_lets v0
  have hv0 : Good pq v0 := by
    unfold v0
    apply onCar_good
    assumption
  clear_value v0
  apply restPools_good
  apply endTransition_good
  apply safetyLeave_good
  apply freeRegion_good
  assumption

theorem dropCodewords_good {pq : List Instr} {x0 : Fin 2} {x1 : State} (hx1 : Good pq x1) : Good pq (dropCodewords x0 x1) := by
  unfold dropCodewords
  extract_lets v0
  clear_value v0
  apply onDec_good
  assumption

theorem txStop_good {pq : List Instr} {x0 : Fin 2} {x1 : State} {x2 : Fin 16} (hx1 : Good pq x1) : Good pq (txStop x0 x1 x2) := by
  unfold txStop
  apply eraseKeys_good
  apply onFol_good
  assumption

theorem carrierStop_good {pq : List Instr} {x0 : Fin 2} {x1 : State} (hx1 : Good pq x1) : Good pq (carrierStop x0 x1) := by
  unfold carrierStop
  extract_lets v0 v1 v2 v3 v4 v5
  have hv0 : Good pq v0 := by
    unfold v0
    refine ite_good (fun _ => ?_) (fun _ => ?_)
    · apply protDisable_good
      apply terminate_good
      assumption
    · apply terminate_good
      assumption
  try clear_value v0
  have hv1 : Good pq v1 := by
    unfold v1
    apply onTx_good
    apply onCar_good
    assumption
  try clear_value v1
  have hv2 : Good pq v2 := by
    unfold v2
    apply loadStop_good
    apply tonesStop_good
    apply rxOff_good
    apply convDisable_good
    assumption
  try clear_value v2
  have hv3 : Good pq v3 := by
    unfold v3
    apply dropCodewords_good
    refine foldl_good (fun _ _ _ => ?_) ?_
    · try dsimp -zeta only
      apply onOdum_good
      apply txStop_good
      assumption
    · assumption
  try clear_value v3
  have hv4 : Good pq v4 := by
    unfold v4
    refine Good.lit ?_
    assumption
  try clear_value v4
  have hv5 : Good pq v5 := by
    unfold v5
    apply protAll_good
    apply reselect_good
    apply safetyLeave_good
    apply freeRegion_good
    assumption
  clear_value v5
  refine ite_good (fun _ => ?_) (fun _ => ?_)
  · apply restPools_good
    assumption
  · assumption

theorem carrierDisable_good {pq : List Instr} {x0 : Request} {x1 : State} (hx1 : Good pq x1) : Good pq (carrierDisable x0 x1).1 := by
  unfold carrierDisable
  refine Good.fst ?_
  apply carrierStop_good
  assumption

theorem execCarrierDisable_good {pq : List Instr} {x0 : Request} {x1 : State} (hx1 : Good pq x1) : GoodOut pq (execCarrierDisable x0 x1) := by
  unfold execCarrierDisable
  refine next_goodOut ?_
  apply deskRun_good
  · intro a0 a1 ha2
    try dsimp -zeta only
    apply carrierDisable_good
    assumption
  · assumption

theorem foregroundDone_good {pq : List Instr} {x0 : Fin 2} {x1 : State} (hx1 : Good pq x1) : Good pq (foregroundDone x0 x1) := by
  unfold foregroundDone
  split
  · assumption
  · refine ite_good (fun _ => ?_) (fun _ => ?_)
    · assumption
    · extract_lets v0 v1 v2 v3 v4
      clear_value v0
      have hv1 : Good pq v1 := by
        unfold v1
        apply onCar_good
        assumption
      clear_value v1
      have hv2 : ∀ a5, Good pq a5 → Good pq (v2 a5) := by
        intro a5 ha6
        unfold v2
        try dsimp -zeta only
        apply onCar_good
        assumption
      clear_value v2
      have hv3 : Good pq v3 := by
        unfold v3
        refine foldl_good (fun _ _ _ => ?_) ?_
        · try dsimp -zeta only
          apply fgEvents_good
          assumption
        · assumption
      clear_value v3
      have hv4 : Good pq v4 := by
        unfold v4
        refine foldl_good (fun _ _ _ => ?_) ?_
        · try dsimp -zeta only
          apply convWrite_good
          assumption
        · assumption
      clear_value v4
      refine ite_good (fun _ => ?_) (fun _ => ?_)
      · refine ite_good (fun _ => ?_) (fun _ => ?_)
        · apply carrierFailed_good
          assumption
        · apply endTransition_good
          refine hv2 _ ?_
          · assumption
      · refine ite_good (fun _ => ?_) (fun _ => ?_)
        · apply carrierEnabled_good
          assumption
        · apply endTransition_good
          refine hv2 _ ?_
          · assumption

theorem execForegroundCalComplete_good {pq : List Instr} {x0 : Fin 2} {x1 : State} (hx1 : Good pq x1) : GoodOut pq (execForegroundCalComplete x0 x1) :=
  next_goodOut (foregroundDone_good hx1)

theorem folioArrival_good {pq : List Instr} {x0 : Fin 2} {x1 : Fin 16} {x2 : Nat} {x3 : List PilotRun} {x4 : List Int} {x5 : State} (hx5 : Good pq x5) : Good pq (folioArrival x0 x1 x2 x3 x4 x5) := by
  unfold folioArrival
  extract_lets v0 v1 v2 v3
  try clear_value v0 v1
  have hv2 : Good pq v2 := by
    unfold v2
    apply hearPilots_good
    apply onRxg_good
    assumption
  try clear_value v2
  have hv3 : Good pq v3 := by
    unfold v3
    apply rxLoadBoundary_good
    apply reacquireSubs_good
    assumption
  try clear_value v3
  refine ite_good (fun _ => ?_) (fun _ => ?_)
  · refine ite_good (fun _ => ?_) (fun _ => ?_)
    · apply onRxg_good
      assumption
    · assumption
  · assumption

theorem execFolioArrival_good {pq : List Instr} {x0 : Fin 2} {x1 : Fin 16} {x2 : Nat} {x3 : List PilotRun} {x4 : List Int} {x5 : State} (hx5 : Good pq x5) : GoodOut pq (execFolioArrival x0 x1 x2 x3 x4 x5) := by
  unfold execFolioArrival
  refine next_goodOut ?_
  apply folioArrival_good
  assumption

theorem losDeclare_good {pq : List Instr} {x0 : Fin 2} {x1 : State} (hx1 : Good pq x1) : Good pq (losDeclare x0 x1) := by
  unfold losDeclare
  refine ite_good (fun _ => ?_) (fun _ => ?_)
  · assumption
  · apply carrierHeard_good
    apply safetyLos_good
    apply tonesOff_good
    apply rxLos_good
    assumption

theorem execLosDeclare_good {pq : List Instr} {x0 : Fin 2} {x1 : State} (hx1 : Good pq x1) : GoodOut pq (execLosDeclare x0 x1) :=
  next_goodOut (losDeclare_good hx1)

theorem losClear_good {pq : List Instr} {x0 : Fin 2} {x1 : State} (hx1 : Good pq x1) : Good pq (losClear x0 x1) := by
  unfold losClear
  refine ite_good (fun _ => ?_) (fun _ => ?_)
  · assumption
  · apply safetyLosClear_good
    apply tonesIdle_good
    apply rxLosClear_good
    assumption

theorem execLosClear_good {pq : List Instr} {x0 : Fin 2} {x1 : State} (hx1 : Good pq x1) : GoodOut pq (execLosClear x0 x1) :=
  next_goodOut (losClear_good hx1)

theorem execRxVolumeBoundary_good {pq : List Instr} {x0 : Fin 2} {x1 : Fin 16} {x2 : RxVolume} {x3 : State} (hx3 : Good pq x3) : GoodOut pq (execRxVolumeBoundary x0 x1 x2 x3) := by
  unfold execRxVolumeBoundary
  refine next_goodOut ?_
  apply reselect_good
  apply protLeads_good
  apply evalWhole_good
  apply rxKeyBoundary_good
  apply rxVolumeBoundary_good
  assumption

end Sys2Proof.Machine
end

