-- ==== Sys2Proof/Laws/Sound6.lean ====
section
/-! SUPPORT. Each effect of Sys2Proof/Machine/ in the files named below leaves the queue of commands alone and keeps a state sound:
Carrier, DeskRows, EvtRows, Mate, Power, Monitors. -/

namespace Sys2Proof.Machine

/-! ### Carrier -/

theorem encryptFolio_good {pq : List Instr} {x0 : Fin 2} {x1 : Fin 16} {x2 : List Byte} {x3 : State} (hx3 : Good pq x3) : Good pq (encryptFolio x0 x1 x2 x3).2 := by
  unfold encryptFolio
  extract_lets v0 v1 v2 v3 v4
  clear_value v0 v1 v2 v3 v4
  refine ite_good_2 (fun _ => ?_) (fun _ => ?_)
  · refine Good.snd ?_
    assumption
  · refine Good.snd ?_
    apply onCry_good
    assumption

theorem sendFolio_good {pq : List Instr} {x0 : Fin 2} {x1 : Fin 16} {x2 : Nat} {x3 : Option (List Byte)} {x4 : State} (hx4 : Good pq x4) : Good pq (sendFolio x0 x1 x2 x3 x4) := by
  unfold sendFolio
  extract_lets v0 v1 v2 v3 v4 v5 v6 v7 v8 v9 v10 v11 v12
  try clear_value v0 v1 v2 v3 v4 v5
  have hv6 : Good pq v6.2 := by
    unfold v6
    apply encryptFolio_good
    assumption
  try clear_value v6 v7 v8 v9 v10 v11
  have hv12 : Good pq v12 := by
    unfold v12
    refine ite_good (fun _ => ?_) (fun _ => ?_)
    · apply onLink_good
      assumption
    · assumption
  try clear_value v12
  apply onTxg_good
  apply onFol_good
  assumption

theorem readWords_good {pq : List Instr} {ws : List Nat} {s : State} (h : Good pq s) : Good pq (readWords ws s).2.2 := by
  unfold readWords
  refine fold_good (p := fun (x : List Byte × Bool × State) => Good pq x.2.2) (fun x w hx => stkRead_good hx) ?_
  exact h

theorem txArea_good {pq : List Instr} {c : Fin 2} {g : Fin 16} {src : Option (List (List Nat))} {s : State} (h : Good pq s) :
    Good pq (txArea c g src s).2.2 := by
  unfold txArea
  extract_lets b m p
  refine ite_good_2_2 (fun _ => h) fun _ => ite_good_2_2 (fun _ => h) fun _ => ?_
  split
  · exact h
  · refine ite_good_2_2 (fun _ => h) fun _ => ?_
    exact chutePoison_good (fold_good (p := fun (x : List (List Byte) × Bool × State) => Good pq x.2.2) (x := ([], false, s)) (fun x l hx => readWords_good hx) h)

theorem hubStep_good {pq : List Instr} {x0 : Fin 2} {x1 : Fin 16} {x2 : State} (hx2 : Good pq x2) : Good pq (hubStep x0 x1 x2) := by
  unfold hubStep
  extract_lets v0
  try clear_value v0
  refine ite_good (fun _ => ?_) (fun _ => ?_)
  · apply onFol_good
    assumption
  · assumption

theorem txFolioBoundary_good {pq : List Instr} {x0 : Fin 2} {x1 : Fin 16} {x2 : Nat} {x3 : Option (List (List Nat))} {x4 : State} (hx4 : Good pq x4) : Good pq (txFolioBoundary x0 x1 x2 x3 x4) := by
  unfold txFolioBoundary
  refine ite_good (fun _ => ?_) (fun _ => ?_)
  · assumption
  · extract_lets v0
    have hv0 : Good pq v0.2.2 := by
      unfold v0
      apply txArea_good
      assumption
    try clear_value v0
    apply sendFolio_good
    apply loadBoundary_good
    apply hubStep_good
    apply poisonOutIf_good
    assumption

theorem execTxFolioBoundary_good {pq : List Instr} {x0 : Fin 2} {x1 : Fin 16} {x2 : Nat} {x3 : Option (List (List Nat))} {x4 : State} (hx4 : Good pq x4) : GoodOut pq (execTxFolioBoundary x0 x1 x2 x3 x4) := by
  unfold execTxFolioBoundary
  refine next_goodOut ?_
  apply txFolioBoundary_good
  assumption

theorem beginVolume_good {pq : List Instr} {x0 : Fin 2} {x1 : Fin 16} {x2 : Nat} {x3 : State} (hx3 : Good pq x3) : Good pq (beginVolume x0 x1 x2 x3) := by
  unfold beginVolume
  apply onFol_good
  assumption

theorem joinWith_good {pq : List Instr} {x0 : Fin 2} {x1 : Fin 16} {x2 : State} (hx2 : Good pq x2) : Good pq (joinWith x0 x1 x2) := by
  unfold joinWith
  refine ite_good (fun _ => ?_) (fun _ => ?_)
  · apply beginVolume_good
    assumption
  · assumption

theorem releaseCrypt_good {pq : List Instr} {x0 : Fin 2} {x1 : State} (hx1 : Good pq x1) : Good pq (releaseCrypt x0 x1) := by
  unfold releaseCrypt
  refine ite_good (fun _ => ?_) (fun _ => ?_)
  · assumption
  · refine Good.lit ?_
    assumption

theorem groupVolume_good {pq : List Instr} {x0 : Fin 2} {x1 : State} {x2 : Fin 16} (hx1 : Good pq x1) : Good pq (groupVolume x0 x1 x2) := by
  unfold groupVolume
  extract_lets v0 v1
  try clear_value v0 v1
  refine ite_good (fun _ => ?_) (fun _ => ?_)
  · apply joinWith_good
    apply txKeyVolume_good
    apply beginVolume_good
    assumption
  · refine ite_good (fun _ => ?_) (fun _ => ?_)
    · apply txKeyVolume_good
      apply beginVolume_good
      assumption
    · assumption

theorem txVolumeBoundary_good {pq : List Instr} {x0 : Fin 2} {x1 : Fin 16} {x2 : List Nat} {x3 : Nat} {x4 : State} (hx4 : Good pq x4) : Good pq (txVolumeBoundary x0 x1 x2 x3 x4) := by
  unfold txVolumeBoundary
  extract_lets v0
  have hv0 : Good pq v0 := by
    unfold v0
    refine ite_good (fun _ => ?_) (fun _ => ?_)
    · apply releaseCrypt_good
      apply txVolumeDsp_good
      assumption
    · assumption
  try clear_value v0
  refine foldl_good (fun _ _ _ => ?_) ?_
  · try dsimp -zeta only
    apply groupVolume_good
    assumption
  · assumption

theorem execTxVolumeBoundary_good {pq : List Instr} {x0 : Fin 2} {x1 : Fin 16} {x2 : List Nat} {x3 : Nat} {x4 : State} (hx4 : Good pq x4) : GoodOut pq (execTxVolumeBoundary x0 x1 x2 x3 x4) :=
  next_goodOut (txVolumeBoundary_good hx4)

theorem mateDigest_good {pq : List Instr} {x0 : Fin 2} {x1 : Fin 16} {x2 : Nat} {x3 : List Byte} {x4 : Bool} {x5 : State} (hx5 : Good pq x5) : Good pq (mateDigest x0 x1 x2 x3 x4 x5) := by
  unfold mateDigest
  refine ite_good (fun _ => ?_) (fun _ => ?_)
  · assumption
  · apply onMate_good
    assumption

theorem poisonEgress_good {pq : List Instr} {x0 : Fin 2} {x1 : Fin 16} {x2 : State} (hx2 : Good pq x2) : Good pq (poisonEgress x0 x1 x2) := by
  unfold poisonEgress
  refine foldl_good (fun _ _ _ => ?_) ?_
  · try dsimp -zeta only
    refine Good.lit ?_
    assumption
  · assumption

theorem readSlot_good {pq : List Instr} {c : Fin 2} {slot seq : Nat} {s : State} (h : Good pq s) : Good pq (readSlot c slot seq s).2.2.2 := by
  unfold readSlot
  extract_lets q words unres s1 r
  exact readItem_good (onDec_good h)

theorem readSlots_good {pq : List Instr} {c : Fin 2} {l : List (Nat × Nat)} {s : State} (h : Good pq s) : Good pq (readSlots c l s).2.2.2 := by
  unfold readSlots
  refine fold_good (p := fun (x : List Byte × Bool × Nat × State) => Good pq x.2.2.2) (fun x y hx => readSlot_good hx) ?_
  exact h

theorem releaseFolio_good {pq : List Instr} {c : Fin 2} {g : Fin 16} {d : DueFolio} {s : State} (h : Good pq s) : Good pq (releaseFolio c g d s) := by
  unfold releaseFolio
  extract_lets v folio rd ch bad o s1 s2 b m x area s3
  have h1 : Good pq s1 := addPreFec_good (onRxg_good (onDecCtr_good (chutePoison_good (countUnresolved_good (readSlots_good h)))))
  have h2 : Good pq s2 := raiseIf_good h1
  have h3 : Good pq s3 := mateDigest_good (onFol_good (decryptFolio_good h2))
  exact groupHeard_good (poisonOutIf_good (poisonOutIf_good (ite_good (fun _ => poisonEgress_good h3) fun _ => h3)))

theorem folioRelease_good {pq : List Instr} {x0 : Fin 2} {x1 : Fin 16} {x2 : State} (hx2 : Good pq x2) : Good pq (folioRelease x0 x1 x2) := by
  unfold folioRelease
  split
  · assumption
  · refine ite_good (fun _ => ?_) (fun _ => ?_)
    · assumption
    · apply releaseFolio_good
      apply onRxg_good
      assumption

theorem execFolioRelease_good {pq : List Instr} {x0 : Fin 2} {x1 : Fin 16} {x2 : State} (hx2 : Good pq x2) : GoodOut pq (execFolioRelease x0 x1 x2) := by
  unfold execFolioRelease
  refine next_goodOut ?_
  apply folioRelease_good
  assumption

/-! ### DeskRows -/

theorem word16Write_good {pq : List Instr} {x0 : Word32} {x1 : Word16 → State → State} {x2 : State} (hx1 : ∀ a0 a1, Good pq a1 → Good pq (x1 a0 a1)) (hx2 : Good pq x2) : GoodOut pq (word16Write x0 x1 x2) := by
  unfold word16Write
  refine ite_goodOut (fun _ => ?_) (fun _ => ?_)
  · refine next_goodOut ?_
    refine hx1 _ _ ?_
    · assumption
  · exact fault_goodOut

theorem execDeskReqTailWrite_good {pq : List Instr} {x0 : Path} {x1 : Fin 4} {x2 : Word32} {x3 : State} (hx3 : Good pq x3) : GoodOut pq (execDeskReqTailWrite x0 x1 x2 x3) := by
  unfold execDeskReqTailWrite
  refine ite_goodOut (fun _ => ?_) (fun _ => ?_)
  · apply word16Write_good
    · intro a0 a1 ha2
      try dsimp -zeta only
      apply doorbell_good
      assumption
    · assumption
  · refine next_goodOut ?_
    assumption

theorem execRequestAccept_good {pq : List Instr} {x0 : Fin 4} {x1 : State} (hx1 : Good pq x1) : GoodOut pq (execRequestAccept x0 x1) :=
  next_goodOut (acceptNext_good hx1)

theorem rspHead_good {pq : List Instr} {x0 : Fin 4} {x1 : Word16} {x2 : State} (hx2 : Good pq x2) : Good pq (rspHead x0 x1 x2) := by
  unfold rspHead
  refine onChan_good (fun _ hk => hk) ?_
  assumption

theorem execDeskRspHeadWrite_good {pq : List Instr} {x0 : Path} {x1 : Fin 4} {x2 : Word32} {x3 : State} (hx3 : Good pq x3) : GoodOut pq (execDeskRspHeadWrite x0 x1 x2 x3) := by
  unfold execDeskRspHeadWrite
  refine ite_goodOut (fun _ => ?_) (fun _ => ?_)
  · apply word16Write_good
    · intro a0 a1 ha2
      try dsimp -zeta only
      apply rspHead_good
      assumption
    · assumption
  · refine next_goodOut ?_
    assumption

theorem holdLimit_good {pq : List Instr} {x0 : Fin 4} {x1 : Word16} {x2 : State} (hx2 : Good pq x2) : Good pq (holdLimit x0 x1 x2) := by
  unfold holdLimit
  split
  · refine ite_good (fun _ => ?_) (fun _ => ?_)
    · apply complete_good
      assumption
    · assumption
  · assumption

theorem execHoldLimitExpiry_good {pq : List Instr} {x0 : Fin 4} {x1 : Word16} {x2 : State} (hx2 : Good pq x2) : GoodOut pq (execHoldLimitExpiry x0 x1 x2) :=
  next_goodOut (holdLimit_good hx2)

theorem replyTimeout_good {pq : List Instr} {x0 : Fin 4} {x1 : Word16} {x2 : State} (hx2 : Good pq x2) : Good pq (replyTimeout x0 x1 x2) := by
  unfold replyTimeout
  split
  · refine ite_good (fun _ => ?_) (fun _ => ?_)
    · extract_lets v0 v1 v2 v3 v4
      clear_value v0 v1 v2
      have hv3 : v3.Sound := hx2.sound.desk
      clear_value v3
      have hv4 : Good pq v4 := by
        unfold v4
        exact ⟨hx2.queue, ⟨hx2.sound.chutes, hx2.sound.stk, hx2.sound.evt, hv3⟩⟩
      clear_value v4
      apply raise_good
      apply complete_good
      assumption
    · assumption
  · assumption

theorem execFunctionReplyTimeout_good {pq : List Instr} {x0 : Fin 4} {x1 : Word16} {x2 : State} (hx2 : Good pq x2) : GoodOut pq (execFunctionReplyTimeout x0 x1 x2) :=
  next_goodOut (replyTimeout_good hx2)

theorem chCtrl_good {pq : List Instr} {x0 : Fin 4} {x1 : Word32} {x2 : State} (hx2 : Good pq x2) : Good pq (chCtrl x0 x1 x2) := by
  unfold chCtrl
  extract_lets v0
  have hv0 : Good pq v0 := by
    unfold v0
    refine onChan_good (fun _ hk => hk) ?_
    assumption
  clear_value v0
  refine ite_good (fun _ => ?_) (fun _ => ?_)
  · apply channelReset_good
    assumption
  · assumption

theorem execDeskChReset_good {pq : List Instr} {x0 : Path} {x1 : Fin 4} {x2 : Word32} {x3 : State} (hx3 : Good pq x3) : GoodOut pq (execDeskChReset x0 x1 x2 x3) := by
  unfold execDeskChReset
  refine ite_goodOut (fun _ => ?_) (fun _ => ?_)
  · refine ite_goodOut (fun _ => ?_) (fun _ => ?_)
    · refine next_goodOut ?_
      apply chCtrl_good
      assumption
    · exact fault_goodOut
  · refine next_goodOut ?_
    assumption

theorem execChannelResetComplete_good {pq : List Instr} {x0 : Fin 4} {x1 : State} (hx1 : Good pq x1) : GoodOut pq (execChannelResetComplete x0 x1) :=
  next_goodOut (channelResetComplete_good hx1)

theorem restartReady_good {pq : List Instr} {x0 : State} (hx0 : Good pq x0) : Good pq (restartReady x0) := by
  unfold restartReady
  refine ite_good (fun _ => ?_) (fun _ => ?_)
  · extract_lets v0
    have hv0 : v0.Sound := hx0.sound.desk
    clear_value v0
    exact ⟨hx0.queue, ⟨hx0.sound.chutes, hx0.sound.stk, hx0.sound.evt, hv0⟩⟩
  · assumption

theorem failAll_good {pq : List Instr} {x0 : Nat} {x1 : State} (hx1 : Good pq x1) : Good pq (failAll x0 x1) := by
  unfold failAll
  refine foldl_good (fun _ _ _ => ?_) ?_
  · try dsimp -zeta only
    refine foldl_good (fun _ _ _ => ?_) ?_
    · try dsimp -zeta only
      apply complete_good
      assumption
    · assumption
  · assumption

theorem watchdogRestart_good {pq : List Instr} {x0 : State} (hx0 : Good pq x0) : Good pq (watchdogRestart x0) := by
  unfold watchdogRestart
  extract_lets v0 v1 v2
  have hv0 : Good pq v0 := by
    unfold v0
    apply failAll_good
    assumption
  clear_value v0
  have hv1 : v1.Sound := hv0.sound.desk
  clear_value v1
  have hv2 : Good pq v2 := by
    unfold v2
    exact ⟨hv0.queue, ⟨hv0.sound.chutes, hv0.sound.stk, hv0.sound.evt, hv1⟩⟩
  clear_value v2
  apply raise_good
  assumption

theorem chStatusWrite_good {pq : List Instr} {x0 : Fin 4} {x1 : Word32} {x2 : State} (hx2 : Good pq x2) : GoodOut pq (chStatusWrite x0 x1 x2) := by
  unfold chStatusWrite
  refine ite_goodOut (fun _ => ?_) (fun _ => ?_)
  · exact fault_goodOut
  · refine next_goodOut ?_
    refine onChan_good (fun _ hk => hk) ?_
    assumption

/-! ### EvtRows -/

theorem execEventOccurrence_good {pq : List Instr} {x0 : Fin 512} {x1 : Word32} {x2 : EvtArg} {x3 : State} (hx3 : Good pq x3) : GoodOut pq (execEventOccurrence x0 x1 x2 x3) :=
  next_goodOut (raise_good hx3)

theorem execEvtStatusWrite_good {pq : List Instr} {x0 : Path} {x1 : Fin 16} {x2 : Word32} {x3 : List (Fin 32 × Word32 × EvtArg)} {x4 : State} (hx4 : Good pq x4) : GoodOut pq (execEvtStatusWrite x0 x1 x2 x3 x4) := by
  unfold execEvtStatusWrite
  refine next_goodOut ?_
  refine ite_good (fun _ => ?_) (fun _ => ?_)
  · apply evtStatusWrite_good
    assumption
  · apply evtStatusWrite_good
    assumption

theorem execEvtEnWrite_good {pq : List Instr} {x0 : Path} {x1 : Fin 16} {x2 : Word32} {x3 : State} (hx3 : Good pq x3) : GoodOut pq (execEvtEnWrite x0 x1 x2 x3) := by
  unfold execEvtEnWrite
  refine next_goodOut ?_
  refine ite_good (fun _ => ?_) (fun _ => ?_)
  · apply evtEnWrite_good
    assumption
  · assumption

theorem execEvtForceWrite_good {pq : List Instr} {x0 : Path} {x1 : Fin 16} {x2 : Word32} {x3 : State} (hx3 : Good pq x3) : GoodOut pq (execEvtForceWrite x0 x1 x2 x3) := by
  unfold execEvtForceWrite
  refine next_goodOut ?_
  refine ite_good (fun _ => ?_) (fun _ => ?_)
  · apply evtForceWrite_good
    assumption
  · assumption

theorem execMsixUnmask_good {pq : List Instr} {x0 : MsixBit} {x1 : State} (hx1 : Good pq x1) : GoodOut pq (execMsixUnmask x0 x1) := by
  unfold execMsixUnmask
  refine next_goodOut ?_
  refine ite_good (fun _ => ?_) (fun _ => ?_)
  · apply msixUnmask_good
    assumption
  · assumption

theorem execLogRecordTake_good {pq : List Instr} {x0 : State} (hx0 : Good pq x0) : GoodOut pq (execLogRecordTake x0) :=
  next_goodOut (logTake_good hx0)

theorem eventLogGet_good {pq : List Instr} {x0 : Request} {x1 : State} (hx1 : Good pq x1) : Good pq (eventLogGet x0 x1).1 := by
  unfold eventLogGet
  extract_lets v0 v1
  clear_value v0 v1
  refine Good.fst ?_
  assumption

theorem execEventLogGet_good {pq : List Instr} {x0 : Request} {x1 : State} (hx1 : Good pq x1) : GoodOut pq (execEventLogGet x0 x1) := by
  unfold execEventLogGet
  refine next_goodOut ?_
  apply deskRun_good
  · intro a0 a1 ha2
    try dsimp -zeta only
    apply eventLogGet_good
    assumption
  · assumption

/-! ### Mate -/

theorem mateTime_good {pq : List Instr} {x0 : State} (hx0 : Good pq x0) : Good pq (mateTime x0) := by
  unfold mateTime
  extract_lets v0
  clear_value v0
  apply reselect_good
  apply onTime_good
  assumption

theorem mateSyncLost_good {pq : List Instr} {x0 : Bool} {x1 : State} (hx1 : Good pq x1) : Good pq (mateSyncLost x0 x1) := by
  unfold mateSyncLost
  refine ite_good (fun _ => ?_) (fun _ => ?_)
  · assumption
  · apply refLosses_good
    apply raise_good
    apply onMate_good
    assumption

theorem pairConditions_good {pq : List Instr} {x0 : Nat} {x1 : State} (hx1 : Good pq x1) : Good pq (pairConditions x0 x1) := by
  unfold pairConditions
  refine ite_good (fun _ => ?_) (fun _ => ?_)
  · assumption
  · refine foldl_good (fun _ _ _ => ?_) ?_
    · try dsimp -zeta only
      extract_lets v0 v1 v2 v3
      clear_value v0 v1 v2
      have hv3 : Good pq v3 := by
        unfold v3
        refine foldl_good (fun _ _ _ => ?_) ?_
        · try dsimp -zeta only
          apply raiseIf_good
          assumption
        · apply onPair_good
          assumption
      clear_value v3
      apply pairDecide_good
      assumption
    · assumption

theorem leavePaired_good {pq : List Instr} {x0 : State} (hx0 : Good pq x0) : Good pq (leavePaired x0) := by
  unfold leavePaired
  refine ite_good (fun _ => ?_) (fun _ => ?_)
  · apply retarget_good
    apply raise_good
    apply onMate_good
    assumption
  · assumption

theorem mateLost_good {pq : List Instr} {x0 : Nat} {x1 : State} (hx1 : Good pq x1) : Good pq (mateLost x0 x1) := by
  unfold mateLost
  refine ite_good (fun _ => ?_) (fun _ => ?_)
  · assumption
  · extract_lets v0 v1
    clear_value v0
    have hv1 : Good pq v1 := by
      unfold v1
      apply onMate_good
      assumption
    clear_value v1
    apply pairConditions_good
    apply retarget_good
    apply raise_good
    assumption

theorem execMateLost_good {pq : List Instr} {x0 : State} (hx0 : Good pq x0) : GoodOut pq (execMateLost x0) := by
  unfold execMateLost
  refine next_goodOut ?_
  apply mateTime_good
  apply mateLost_good
  assumption

theorem mateProgress_good {pq : List Instr} {x0 : State} (hx0 : Good pq x0) : Good pq (mateProgress x0) := by
  unfold mateProgress
  extract_lets v0
  clear_value v0
  split
  · assumption
  · refine ite_good (fun _ => ?_) (fun _ => ?_)
    · apply pairConditions_good
      apply raise_good
      apply onMate_good
      assumption
    · assumption

theorem recompare_good {pq : List Instr} {x0 : MateProv} {x1 : State} (hx1 : Good pq x1) : Good pq (recompare x0 x1) := by
  unfold recompare
  refine ite_good (fun _ => ?_) (fun _ => ?_)
  · assumption
  · refine ite_good (fun _ => ?_) (fun _ => ?_)
    · apply retarget_good
      apply onMate_good
      assumption
    · apply onMate_good
      assumption

theorem execCheckingRecompare_good {pq : List Instr} {x0 : MateProv} {x1 : State} (hx1 : Good pq x1) : GoodOut pq (execCheckingRecompare x0 x1) := by
  unfold execCheckingRecompare
  refine next_goodOut ?_
  apply recompare_good
  assumption

theorem pairArrival_good {pq : List Instr} {x0 : Nat} {x1 : Nat} {x2 : Nat × Nat} {x3 : State} (hx3 : Good pq x3) : Good pq (pairArrival x0 x1 x2 x3) := by
  unfold pairArrival
  apply onPair_good
  assumption

theorem recordSend_good {pq : List Instr} {x0 : State} (hx0 : Good pq x0) : Good pq (recordSend x0) := by
  unfold recordSend
  refine ite_good (fun _ => ?_) (fun _ => ?_)
  · assumption
  · extract_lets v0 v1
    have hv0 : Good pq v0 := by
      unfold v0
      refine foldl_good (fun _ _ _ => ?_) ?_
      · try dsimp -zeta only
        apply pairArrival_good
        assumption
      · apply pairConditions_good
        assumption
    clear_value v0
    have hv1 : Good pq v1 := by
      unfold v1
      refine foldl_good (fun _ _ _ => ?_) ?_
      · try dsimp -zeta only
        apply poisonOutIf_good
        assumption
      · assumption
    clear_value v1
    apply onMate_good
    assumption

theorem execStateRecordSend_good {pq : List Instr} {x0 : State} (hx0 : Good pq x0) : GoodOut pq (execStateRecordSend x0) :=
  next_goodOut (recordSend_good hx0)

theorem mateSample_good {pq : List Instr} {x0 : Nat} {x1 : State} (hx1 : Good pq x1) : Good pq (mateSample x0 x1) := by
  unfold mateSample
  split
  · assumption
  · refine ite_good (fun _ => ?_) (fun _ => ?_)
    · assumption
    · extract_lets v0 v1
      clear_value v0
      have hv1 : Good pq v1 := by
        unfold v1
        apply onMate_good
        assumption
      clear_value v1
      refine ite_good (fun _ => ?_) (fun _ => ?_)
      · apply addSample_good
        assumption
      · assumption

theorem compareDigests_good {pq : List Instr} {x0 : PeerRecord} {x1 : State} (hx1 : Good pq x1) : Good pq (compareDigests x0 x1) := by
  unfold compareDigests
  extract_lets v0 v1
  clear_value v0 v1
  refine ite_good (fun _ => ?_) (fun _ => ?_)
  · assumption
  · refine ite_good (fun _ => ?_) (fun _ => ?_)
    · apply onMate_good
      assumption
    · apply onMate_good
      assumption

theorem mateAlign_good {pq : List Instr} {x0 : PeerRecord} {x1 : State} (hx1 : Good pq x1) : Good pq (mateAlign x0 x1) := by
  unfold mateAlign
  extract_lets v0
  clear_value v0
  refine ite_good (fun _ => ?_) (fun _ => ?_)
  · refine ite_good (fun _ => ?_) (fun _ => ?_)
    · refine ite_good (fun _ => ?_) (fun _ => ?_)
      · assumption
      · refine foldl_good (fun _ _ _ => ?_) ?_
        · try dsimp -zeta only
          refine foldl_good (fun _ _ _ => ?_) ?_
          · try dsimp -zeta only
            apply onFol_good
            assumption
          · assumption
        · assumption
    · refine ite_good (fun _ => ?_) (fun _ => ?_)
      · apply raise_good
        apply onMate_good
        assumption
      · assumption
  · refine ite_good (fun _ => ?_) (fun _ => ?_)
    · apply leavePaired_good
      assumption
    · assumption

theorem followRecord_good {pq : List Instr} {x0 : PeerRecord} {x1 : State} (hx1 : Good pq x1) : Good pq (followRecord x0 x1) := by
  unfold followRecord
  refine ite_good (fun _ => ?_) (fun _ => ?_)
  · assumption
  · refine foldl_good (fun _ _ _ => ?_) ?_
    · try dsimp -zeta only
      extract_lets v0 v1
      clear_value v0 v1
      apply raisePair_good
      apply onPair_good
      assumption
    · assumption

theorem mateRecord_good {pq : List Instr} {x0 : List Byte} {x1 : State} (hx1 : Good pq x1) : Good pq (mateRecord x0 x1) := by
  unfold mateRecord
  extract_lets v0 v1 v2 v3 v4 v5 v6
  clear_value v0 v1
  have hv2 : Good pq v2 := by
    unfold v2
    apply raiseIf_good
    assumption
  clear_value v2
  have hv3 : Good pq v3 := by
    unfold v3
    apply onMate_good
    assumption
  clear_value v3
  have hv4 : Good pq v4 := by
    unfold v4
    apply pairArrival_good
    apply pairArrival_good
    assumption
  clear_value v4
  have hv5 : Good pq v5 := by
    unfold v5
    apply mateProgress_good
    refine ite_good (fun _ => ?_) (fun _ => ?_)
    · apply mateLost_good
      assumption
    · assumption
  clear_value v5
  have hv6 : Good pq v6 := by
    unfold v6
    apply mateAlign_good
    apply compareDigests_good
    apply followRecord_good
    apply pairConditions_good
    apply mateSample_good
    assumption
  clear_value v6
  apply mateTime_good
  assumption

theorem mateBlock_good {pq : List Instr} {x0 : List Byte} {x1 : State} (hx1 : Good pq x1) : Good pq (mateBlock x0 x1) := by
  unfold mateBlock
  extract_lets v0
  clear_value v0
  refine ite_good (fun _ => ?_) (fun _ => ?_)
  · apply onMate_good
    assumption
  · refine ite_good (fun _ => ?_) (fun _ => ?_)
    · assumption
    · refine ite_good (fun _ => ?_) (fun _ => ?_)
      · apply onMate_good
        assumption
      · refine ite_good (fun _ => ?_) (fun _ => ?_)
        · apply mateRecord_good
          assumption
        · refine ite_good (fun _ => ?_) (fun _ => ?_)
          · apply onMate_good
            assumption
          · assumption

theorem execMateBlockReceived_good {pq : List Instr} {x0 : List Byte} {x1 : State} (hx1 : Good pq x1) : GoodOut pq (execMateBlockReceived x0 x1) :=
  next_goodOut (mateBlock_good hx1)

theorem putItem_good {pq : List Instr} {x0 : Nat} {x1 : Nat} {x2 : List Byte} {x3 : Bool} {x4 : Bool} {x5 : State} (hx5 : Good pq x5) : Good pq (putItem x0 x1 x2 x3 x4 x5) := by
  unfold putItem
  refine foldl_good (fun _ _ _ => ?_) ?_
  · try dsimp -zeta only
    apply stkWrite_good
    assumption
  · assumption

theorem shadowFrame_good {pq : List Instr} {x0 : Nat} {x1 : Nat} {x2 : Bool} {x3 : State} (hx3 : Good pq x3) : Good pq (shadowFrame x0 x1 x2 x3) := by
  unfold shadowFrame
  extract_lets v0 v1 v2
  clear_value v0 v1
  have hv2 : Good pq v2 := by
    unfold v2
    apply onMate_good
    assumption
  clear_value v2
  refine ite_good (fun _ => ?_) (fun _ => ?_)
  · apply leavePaired_good
    assumption
  · assumption

theorem shadowItem_good {pq : List Instr} {x0 : Nat} {x1 : Nat} {x2 : Nat} {x3 : Bool} {x4 : State} (hx4 : Good pq x4) : Good pq (shadowItem x0 x1 x2 x3 x4) := by
  unfold shadowItem
  extract_lets v0 v1 v2
  try clear_value v0 v1
  have hv2 : Good pq v2 := by
    unfold v2
    apply onMate_good
    assumption
  try clear_value v2
  refine ite_good (fun _ => ?_) (fun _ => ?_)
  · apply shadowFrame_good
    assumption
  · assumption

theorem mirrorSend_good {pq : List Instr} {x0 : Nat} {x1 : Nat} {x2 : Nat} {x3 : State} (hx3 : Good pq x3) : Good pq (mirrorSend x0 x1 x2 x3) := by
  unfold mirrorSend
  extract_lets v0
  try clear_value v0
  apply poisonOutIf_good
  apply onMate_good
  assumption

theorem mirrorWrite_good {pq : List Instr} {x0 : Nat} {x1 : Nat} {x2 : Nat} {x3 : Nat} {x4 : Bool} {x5 : List Byte} {x6 : Bool} {x7 : State} (hx7 : Good pq x7) : Good pq (mirrorWrite x0 x1 x2 x3 x4 x5 x6 x7) := by
  unfold mirrorWrite
  extract_lets v0 v1
  try clear_value v0 v1
  refine ite_good (fun _ => ?_) (fun _ => ?_)
  · apply shadowItem_good
    apply putItem_good
    apply onMate_good
    assumption
  · split
    · assumption
    · extract_lets v2
      try clear_value v2
      apply shadowItem_good
      apply putItem_good
      apply onMate_good
      assumption

theorem mirrorApply_good {pq : List Instr} {x0 : Fin 2} {x1 : Nat} {x2 : Nat} {x3 : Nat} {x4 : Bool} {x5 : List Byte} {x6 : Bool} {x7 : State} (hx7 : Good pq x7) : Good pq (mirrorApply x0 x1 x2 x3 x4 x5 x6 x7) := by
  unfold mirrorApply
  extract_lets v0 v1
  try clear_value v0 v1
  split
  · assumption
  · refine ite_good (fun _ => ?_) (fun _ => ?_)
    · assumption
    · refine ite_good (fun _ => ?_) (fun _ => ?_)
      · refine ite_good (fun _ => ?_) (fun _ => ?_)
        · apply mirrorSend_good
          assumption
        · refine ite_good (fun _ => ?_) (fun _ => ?_)
          · apply mirrorWrite_good
            assumption
          · assumption
      · refine ite_good (fun _ => ?_) (fun _ => ?_)
        · apply mirrorWrite_good
          assumption
        · assumption

theorem execMirrorItemApply_good {pq : List Instr} {x0 : Fin 2} {x1 : Fin 1024} {x2 : Fin 2147483645} {x3 : Nat} {x4 : Bool} {x5 : List Byte} {x6 : Bool} {x7 : State} (hx7 : Good pq x7) : GoodOut pq (execMirrorItemApply x0 x1 x2 x3 x4 x5 x6 x7) := by
  unfold execMirrorItemApply
  refine next_goodOut ?_
  apply mirrorApply_good
  assumption

theorem syncMarker_good {pq : List Instr} {x0 : Fin 400} {x1 : State} (hx1 : Good pq x1) : Good pq (syncMarker x0 x1) := by
  unfold syncMarker
  extract_lets v0 v1 v2 v3
  clear_value v0 v1 v2
  have hv3 : Good pq v3 := by
    unfold v3
    apply onCand_good
    apply onMate_good
    assumption
  clear_value v3
  apply mateProgress_good
  apply mateTime_good
  refine ite_good (fun _ => ?_) (fun _ => ?_)
  · apply mateSyncLost_good
    assumption
  · assumption

theorem execMateSyncMarker_good {pq : List Instr} {x0 : Fin 400} {x1 : State} (hx1 : Good pq x1) : GoodOut pq (execMateSyncMarker x0 x1) :=
  next_goodOut (syncMarker_good hx1)

theorem markerMissing_good {pq : List Instr} {x0 : State} (hx0 : Good pq x0) : Good pq (markerMissing x0) := by
  unfold markerMissing
  extract_lets v0
  have hv0 : Good pq v0 := by
    unfold v0
    apply onMate_good
    assumption
  clear_value v0
  apply mateTime_good
  refine ite_good (fun _ => ?_) (fun _ => ?_)
  · apply mateSyncLost_good
    assumption
  · assumption

theorem execMateSyncMarkerMissing_good {pq : List Instr} {x0 : State} (hx0 : Good pq x0) : GoodOut pq (execMateSyncMarkerMissing x0) :=
  next_goodOut (markerMissing_good hx0)

theorem syncInactive_good {pq : List Instr} {x0 : State} (hx0 : Good pq x0) : Good pq (syncInactive x0) := by
  unfold syncInactive
  apply mateTime_good
  apply mateLost_good
  apply mateSyncLost_good
  apply refActivityLoss_good
  apply onMate_good
  assumption

theorem execMateSyncInactive_good {pq : List Instr} {x0 : State} (hx0 : Good pq x0) : GoodOut pq (execMateSyncInactive x0) :=
  next_goodOut (syncInactive_good hx0)

theorem execMateWakePulse_good {pq : List Instr} {x0 : State} (hx0 : Good pq x0) : GoodOut pq (execMateWakePulse x0) := by
  unfold execMateWakePulse
  refine next_goodOut ?_
  refine ite_good (fun _ => ?_) (fun _ => ?_)
  · apply onMate_good
    assumption
  · assumption

theorem execMateDecisionApply_good {pq : List Instr} {x0 : State} (hx0 : Good pq x0) : GoodOut pq (execMateDecisionApply x0) := by
  unfold execMateDecisionApply
  refine next_goodOut ?_
  apply mateTime_good
  apply mateProgress_good
  apply mateDecision_good
  assumption

theorem mateRemove_good {pq : List Instr} {x0 : Request} {x1 : State} (hx1 : Good pq x1) : Good pq (mateRemove x0 x1) := by
  unfold mateRemove
  apply mateTime_good
  apply retarget_good
  apply onMate_good
  apply keepBody_good
  apply terminate_good
  assumption

theorem mateProvision_good {pq : List Instr} {x0 : Request} {x1 : State} (hx1 : Good pq x1) : Good pq (mateProvision x0 x1).1 := by
  unfold mateProvision
  extract_lets v0 v1 v2 v3 v4 v5
  try clear_value v0
  try clear_value v1
  try clear_value v2
  try clear_value v3
  have hv4 : Good pq v4 := by
    unfold v4
    apply onMate_good
    assumption
  try clear_value v4
  have hv5 : Good pq v5 := by
    unfold v5
    refine ite_good (fun _ => ?_) (fun _ => ?_)
    · apply onMate_good
      assumption
    · assumption
  try clear_value v5
  refine ite_good_1 (fun _ => ?_) (fun _ => ?_)
  · refine Good.fst ?_
    assumption
  · refine ite_good_1 (fun _ => ?_) (fun _ => ?_)
    · refine Good.fst ?_
      apply mateRemove_good
      assumption
    · refine ite_good_1 (fun _ => ?_) (fun _ => ?_)
      · refine Good.fst ?_
        assumption
      · refine ite_good_1 (fun _ => ?_) (fun _ => ?_)
        · refine Good.fst ?_
          assumption
        · refine ite_good_1 (fun _ => ?_) (fun _ => ?_)
          · refine Good.fst ?_
            assumption
          · split
            · refine Good.fst ?_
              assumption
            · refine Good.fst ?_
              apply pairConditions_good
              apply keepBody_good
              first | assumption | exact allocRegion_good (by assumption) (by assumption) | exact growQueue_good (by assumption) (by assumption) | exact growQueues_good (by assumption) (by assumption) | exact startUrgent_good (by assumption) (by assumption) | exact startAborted_good (by assumption) (by assumption) | exact startDue_good (by assumption) (by assumption)

theorem execMateProvision_good {pq : List Instr} {x0 : Request} {x1 : State} (hx1 : Good pq x1) : GoodOut pq (execMateProvision x0 x1) := by
  unfold execMateProvision
  refine next_goodOut ?_
  apply deskRun_good
  · intro a0 a1 ha2
    try dsimp -zeta only
    apply mateProvision_good
    assumption
  · assumption

theorem mateCommand_good {pq : List Instr} {x0 : Bool} {x1 : Request} {x2 : State} (hx2 : Good pq x2) : Good pq (mateCommand x0 x1 x2).1 := by
  unfold mateCommand
  extract_lets v0 v1 v2 v3 v4 v5
  clear_value v0 v1 v2 v3 v4
  have hv5 : Good pq v5 := by
    unfold v5
    refine foldl_good (fun _ _ _ => ?_) ?_
    · try dsimp -zeta only
      apply pairDecide_good
      apply onPair_good
      assumption
    · assumption
  clear_value v5
  refine ite_good_1 (fun _ => ?_) (fun _ => ?_)
  · refine Good.fst ?_
    assumption
  · refine ite_good_1 (fun _ => ?_) (fun _ => ?_)
    · refine Good.fst ?_
      assumption
    · refine ite_good_1 (fun _ => ?_) (fun _ => ?_)
      · refine Good.fst ?_
        assumption
      · refine Good.fst ?_
        assumption

theorem execMateCommand_good {pq : List Instr} {x0 : Request} {x1 : Bool} {x2 : State} (hx2 : Good pq x2) : GoodOut pq (execMateCommand x0 x1 x2) := by
  unfold execMateCommand
  refine next_goodOut ?_
  apply deskRun_good
  · intro a0 a1 ha2
    try dsimp -zeta only
    apply mateCommand_good
    assumption
  · assumption

theorem execMateStatus_good {pq : List Instr} {x0 : Request} {x1 : State} (hx1 : Good pq x1) : GoodOut pq (execMateStatus x0 x1) := by
  unfold execMateStatus
  refine next_goodOut ?_
  apply deskRun_good
  · intro a0 a1 ha2
    try dsimp -zeta only
    apply sCommand_good
    assumption
  · assumption

/-! ### Power -/

theorem domainUp_good {pq : List Instr} {x0 : Nat} {x1 : State} (hx1 : Good pq x1) : Good pq (domainUp x0 x1) := by
  unfold domainUp
  extract_lets v0 v1
  have hv0 : Good pq v0 := by
    unfold v0
    apply carrierProceed_good
    apply carrierProceed_good
    assumption
  clear_value v0
  have hv1 : Good pq v1 := by
    unfold v1
    refine ite_good (fun _ => ?_) (fun _ => ?_)
    · apply octetUp_good
      assumption
    · assumption
  clear_value v1
  split
  · apply poolRestored_good
    assumption
  · assumption

theorem domainPowerGood_good {pq : List Instr} {x0 : Fin 20} {x1 : State} (hx1 : Good pq x1) : Good pq (domainPowerGood x0 x1) := by
  unfold domainPowerGood
  extract_lets v0
  clear_value v0
  refine ite_good (fun _ => ?_) (fun _ => ?_)
  · apply domainUp_good
    apply settleDomain_good
    assumption
  · assumption

theorem execDomainPowerGood_good {pq : List Instr} {x0 : Fin 20} {x1 : State} (hx1 : Good pq x1) : GoodOut pq (execDomainPowerGood x0 x1) :=
  next_goodOut (domainPowerGood_good hx1)

theorem domainCommandsFail_good {pq : List Instr} {x0 : Nat} {x1 : Nat} {x2 : State} (hx2 : Good pq x2) : Good pq (domainCommandsFail x0 x1 x2) := by
  unfold domainCommandsFail
  extract_lets v0 v1 v2
  have hv0 : Good pq v0 := by
    unfold v0
    refine foldl_good (fun _ _ _ => ?_) ?_
    · try dsimp -zeta only
      refine ite_good (fun _ => ?_) (fun _ => ?_)
      · apply carrierFailed_good
        assumption
      · refine ite_good (fun _ => ?_) (fun _ => ?_)
        · apply endTransition_good
          apply onCar_good
          assumption
        · assumption
    · assumption
  clear_value v0
  have hv1 : Good pq v1 := by
    unfold v1
    refine foldl_good (fun _ _ _ => ?_) ?_
    · try dsimp -zeta only
      refine ite_good (fun _ => ?_) (fun _ => ?_)
      · apply endTransition_good
        assumption
      · assumption
    · assumption
  clear_value v1
  have hv2 : Good pq v2 := by
    unfold v2
    split
    · refine ite_good (fun _ => ?_) (fun _ => ?_)
      · apply endTransition_good
        apply onPool_good
        assumption
      · assumption
    · assumption
  clear_value v2
  refine ite_good (fun _ => ?_) (fun _ => ?_)
  · apply endTransition_good
    refine onStk_good (fun _ hk => hk) ?_
    assumption
  · assumption

theorem domainFail_good {pq : List Instr} {x0 : Nat} {x1 : State} (hx1 : Good pq x1) : Good pq (domainFail x0 x1) := by
  unfold domainFail
  refine ite_good (fun _ => ?_) (fun _ => ?_)
  · extract_lets v0
    have hv0 : Good pq v0 := by
      unfold v0
      apply onPwr_good
      assumption
    clear_value v0
    apply domainCommandsFail_good
    apply settleDomain_good
    assumption
  · assumption

theorem domainStopDrained_good {pq : List Instr} {x0 : Fin 20} {x1 : State} (hx1 : Good pq x1) : Good pq (domainStopDrained x0 x1) := by
  unfold domainStopDrained
  extract_lets v0
  clear_value v0
  refine ite_good (fun _ => ?_) (fun _ => ?_)
  · apply queueStages_good
    apply onDom_good
    assumption
  · assumption

theorem execDomainStopDrained_good {pq : List Instr} {x0 : Fin 20} {x1 : State} (hx1 : Good pq x1) : GoodOut pq (execDomainStopDrained x0 x1) :=
  next_goodOut (domainStopDrained_good hx1)

theorem judgeRail_good {pq : List Instr} {x0 : Nat} {x1 : State} (hx1 : Good pq x1) : Good pq (judgeRail x0 x1) := by
  unfold judgeRail
  extract_lets v0 v1 v2
  clear_value v0 v1
  have hv2 : Good pq v2 := by
    unfold v2
    apply onRail_good
    assumption
  clear_value v2
  refine ite_good (fun _ => ?_) (fun _ => ?_)
  · assumption
  · apply raise_good
    assumption

theorem voutSettled_good {pq : List Instr} {x0 : Fin 16} {x1 : State} (hx1 : Good pq x1) : Good pq (voutSettled x0 x1) := by
  unfold voutSettled
  extract_lets v0 v1
  clear_value v0
  have hv1 : Good pq v1 := by
    unfold v1
    apply onPwr_good
    apply judgeRail_good
    apply onRail_good
    assumption
  clear_value v1
  refine foldl_good (fun _ _ _ => ?_) ?_
  · try dsimp -zeta only
    refine ite_good (fun _ => ?_) (fun _ => ?_)
    · assumption
    · refine ite_good (fun _ => ?_) (fun _ => ?_)
      · apply queueStages_good
        assumption
      · refine ite_good (fun _ => ?_) (fun _ => ?_)
        · apply queueStages_good
          assumption
        · assumption
  · assumption

theorem execVoutSettled_good {pq : List Instr} {x0 : Fin 16} {x1 : State} (hx1 : Good pq x1) : GoodOut pq (execVoutSettled x0 x1) :=
  next_goodOut (voutSettled_good hx1)

theorem voutSettleTimeout_good {pq : List Instr} {x0 : Fin 16} {x1 : State} (hx1 : Good pq x1) : Good pq (voutSettleTimeout x0 x1) := by
  unfold voutSettleTimeout
  refine ite_good (fun _ => ?_) (fun _ => ?_)
  · refine foldl_good (fun _ _ _ => ?_) ?_
    · try dsimp -zeta only
      apply domainFail_good
      assumption
    · apply judgeRail_good
      apply onRail_good
      assumption
  · assumption

theorem domainSet_good {pq : List Instr} {x0 : Request} {x1 : State} (hx1 : Good pq x1) : Good pq (domainSet x0 x1).1 := by
  unfold domainSet
  extract_lets v0
  clear_value v0
  split
  · refine Good.fst ?_
    assumption
  · refine ite_good_1 (fun _ => ?_) (fun _ => ?_)
    · refine Good.fst ?_
      assumption
    · refine ite_good_1 (fun _ => ?_) (fun _ => ?_)
      · refine Good.fst ?_
        assumption
      · refine ite_good_1 (fun _ => ?_) (fun _ => ?_)
        · refine Good.fst ?_
          assumption
        · refine Good.fst ?_
          apply beginDomain_good
          apply beginTransition_good
          assumption

theorem execPowerDomainSet_good {pq : List Instr} {x0 : Request} {x1 : State} (hx1 : Good pq x1) : GoodOut pq (execPowerDomainSet x0 x1) := by
  unfold execPowerDomainSet
  refine next_goodOut ?_
  apply deskRun_good
  · intro a0 a1 ha2
    try dsimp -zeta only
    apply domainSet_good
    assumption
  · assumption

theorem wakeSet_good {pq : List Instr} {x0 : Request} {x1 : State} (hx1 : Good pq x1) : Good pq (wakeSet x0 x1).1 := by
  unfold wakeSet
  refine Good.fst ?_
  apply onPwr_good
  apply keepBody_good
  assumption

theorem execPowerWakeSet_good {pq : List Instr} {x0 : Request} {x1 : State} (hx1 : Good pq x1) : GoodOut pq (execPowerWakeSet x0 x1) := by
  unfold execPowerWakeSet
  refine next_goodOut ?_
  apply deskRun_good
  · intro a0 a1 ha2
    try dsimp -zeta only
    apply wakeSet_good
    assumption
  · assumption

theorem execPowerStatus_good {pq : List Instr} {x0 : Request} {x1 : State} (hx1 : Good pq x1) : GoodOut pq (execPowerStatus x0 x1) := by
  unfold execPowerStatus
  refine next_goodOut ?_
  apply deskRun_good
  · intro a0 a1 ha2
    try dsimp -zeta only
    apply sCommand_good
    assumption
  · assumption

/-! ### Monitors -/

theorem onMon_good {pq : List Instr} {x0 : Nat} {x1 : MonChan → MonChan} {x2 : State} (hx2 : Good pq x2) : Good pq (onMon x0 x1 x2) := by
  unfold onMon
  apply onHouse_good
  assumption

theorem onMadc_good {pq : List Instr} {x0 : Fin 2} {x1 : Madc → Madc} {x2 : State} (hx2 : Good pq x2) : Good pq (onMadc x0 x1 x2) := by
  unfold onMadc
  apply onHouse_good
  assumption

theorem bufRest_good {pq : List Instr} {x0 : State} (hx0 : Good pq x0) : Good pq (bufRest x0) := by
  unfold bufRest
  refine foldl_good (fun _ _ _ => ?_) ?_
  · try dsimp -zeta only
    apply onMadc_good
    assumption
  · assumption

theorem skipOn_good {pq : List Instr} {x0 : Fin 2} {x1 : State} (hx1 : Good pq x1) : Good pq (skipOn x0 x1) := by
  unfold skipOn
  extract_lets v0
  clear_value v0
  apply raise_good
  apply onMadc_good
  assumption

theorem convStartOn_good {pq : List Instr} {x0 : List (Fin 2)} {x1 : Conversion} {x2 : State} (hx2 : Good pq x2) : Good pq (convStartOn x0 x1 x2) := by
  unfold convStartOn
  refine foldl_good (fun _ _ _ => ?_) ?_
  · try dsimp -zeta only
    apply onMadc_good
    assumption
  · assumption

theorem startUrgent_good {pq : List Instr} {s t : State} (e : startUrgent s = some t) (h : Good pq s) : Good pq t := by
  unfold startUrgent at e
  simp only [Option.map_eq_some_iff] at e
  obtain ⟨k, _, e⟩ := e
  subst e
  exact foldl_good (fun _ _ hs => onMadc_good hs) (onHouse_good h)

theorem startAborted_good {pq : List Instr} {s t : State} (e : startAborted s = some t) (h : Good pq s) : Good pq t := by
  unfold startAborted at e
  simp only [Option.map_eq_some_iff] at e
  obtain ⟨k, _, e⟩ := e
  subst e
  exact convStartOn_good h

theorem startDue_good {pq : List Instr} {s t : State} (e : startDue s = some t) (h : Good pq s) : Good pq t := by
  unfold startDue at e
  simp only [Option.map_eq_some_iff] at e
  obtain ⟨k, _, e⟩ := e
  subst e
  split
  · exact convStartOn_good (onHouse_good h)
  · exact foldl_good (fun _ _ hs => skipOn_good hs) (onHouse_good h)

theorem dispatchMon_good {pq : List Instr} {n : Nat} {s : State} (h : Good pq s) : Good pq (dispatchMon n s) := by
  induction n generalizing s with
  | zero => exact h
  | succ n ih =>
    unfold dispatchMon
    split
    · next u e =>
      refine ih ?_
      cases e1 : startUrgent s with
      | some v => rw [e1] at e; cases e; exact startUrgent_good e1 h
      | none =>
        rw [e1] at e
        cases e2 : startAborted s with
        | some v => rw [e2] at e; cases e; exact startAborted_good e2 h
        | none => rw [e2] at e; exact startDue_good e h
    · exact h

theorem conversionDue_good {pq : List Instr} {x0 : Fin 64} {x1 : State} (hx1 : Good pq x1) : Good pq (conversionDue x0 x1) := by
  unfold conversionDue
  extract_lets v0
  clear_value v0
  refine ite_good (fun _ => ?_) (fun _ => ?_)
  · assumption
  · refine ite_good (fun _ => ?_) (fun _ => ?_)
    · assumption
    · refine ite_good (fun _ => ?_) (fun _ => ?_)
      · apply onMon_good
        assumption
      · apply dispatchMon_good
        apply onHouse_good
        assumption

theorem execConversionDue_good {pq : List Instr} {x0 : Fin 64} {x1 : State} (hx1 : Good pq x1) : GoodOut pq (execConversionDue x0 x1) :=
  next_goodOut (conversionDue_good hx1)

theorem preempt_good {pq : List Instr} {x0 : Fin 2} {x1 : State} (hx1 : Good pq x1) : Good pq (preempt x0 x1) := by
  unfold preempt
  split
  · refine ite_good (fun _ => ?_) (fun _ => ?_)
    · assumption
    · refine foldl_good (fun _ _ _ => ?_) ?_
      · try dsimp -zeta only
        apply onMadc_good
        assumption
      · assumption
  · assumption

theorem urgentRequest_good {pq : List Instr} {x0 : Fin 16} {x1 : State} (hx1 : Good pq x1) : Good pq (urgentRequest x0 x1) := by
  unfold urgentRequest
  split
  · assumption
  · extract_lets v0
    clear_value v0
    split
    · refine ite_good (fun _ => ?_) (fun _ => ?_)
      · assumption
      · apply dispatchMon_good
        apply onHouse_good
        refine foldl_good (fun _ _ _ => ?_) ?_
        · try dsimp -zeta only
          apply preempt_good
          assumption
        · assumption
    · refine foldl_good (fun _ _ _ => ?_) ?_
      · try dsimp -zeta only
        apply skipOn_good
        assumption
      · assumption

theorem execUrgentRequest_good {pq : List Instr} {x0 : Fin 16} {x1 : State} (hx1 : Good pq x1) : GoodOut pq (execUrgentRequest x0 x1) :=
  next_goodOut (urgentRequest_good hx1)

theorem enqueueSample_good {pq : List Instr} {x0 : Conversion} {x1 : Fin 2} {x2 : Int} {x3 : Bool} {x4 : Bool} {x5 : State} (hx5 : Good pq x5) : Good pq (enqueueSample x0 x1 x2 x3 x4 x5) := by
  unfold enqueueSample
  extract_lets v0 v1
  clear_value v0 v1
  refine ite_good (fun _ => ?_) (fun _ => ?_)
  · apply onHouse_good
    assumption
  · apply raise_good
    apply onHouse_good
    assumption

theorem deliverResult_good {pq : List Instr} {x0 : Conversion} {x1 : Fin 2} {x2 : Int} {x3 : Bool} {x4 : Bool} {x5 : State} (hx5 : Good pq x5) : Good pq (deliverResult x0 x1 x2 x3 x4 x5) := by
  unfold deliverResult
  apply enqueueSample_good
  apply onMon_good
  assumption

theorem crossCheck_good {pq : List Instr} {x0 : Nat} {x1 : Int} {x2 : Int} {x3 : State} (hx3 : Good pq x3) : Good pq (crossCheck x0 x1 x2 x3) := by
  unfold crossCheck
  extract_lets v0 v1 v2 v3 v4 v5 v6
  clear_value v0 v1 v2 v3 v4 v5
  have hv6 : Good pq v6 := by
    unfold v6
    apply onMon_good
    assumption
  clear_value v6
  refine ite_good (fun _ => ?_) (fun _ => ?_)
  · assumption
  · apply raise_good
    assumption

theorem finishConv_good {pq : List Instr} {x0 : Fin 2} {x1 : Conversion} {x2 : Int} {x3 : Int} {x4 : State} (hx4 : Good pq x4) : Good pq (finishConv x0 x1 x2 x3 x4) := by
  unfold finishConv
  extract_lets v0 v1 v2 v3 v4 v5 v6
  have hv0 : ∀ a7 a9, Good pq a7 → Good pq (v0 a7 a9) := by
    intro a7 a9 ha8
    unfold v0
    try dsimp -zeta only
    apply onMadc_good
    assumption
  clear_value v0 v1 v2 v3
  have hv4 : Good pq v4 := by
    unfold v4
    apply crossCheck_good
    apply deliverResult_good
    apply deliverResult_good
    refine hv0 _ _ ?_
    · refine hv0 _ _ ?_
      · assumption
  clear_value v4 v5
  have hv6 : Good pq v6 := by
    unfold v6
    apply deliverResult_good
    refine hv0 _ _ ?_
    · assumption
  clear_value v6
  refine ite_good (fun _ => ?_) (fun _ => ?_)
  · split
    · apply safetyResult_good
      assumption
    · assumption
  · split
    · extract_lets v10
      clear_value v10
      apply deliverResult_good
      apply onMadc_good
      assumption
    · split
      · apply safetyResult_good
        assumption
      · assumption

theorem conversionEnd_good {pq : List Instr} {x0 : Fin 2} {x1 : Int} {x2 : Int} {x3 : State} (hx3 : Good pq x3) : Good pq (conversionEnd x0 x1 x2 x3) := by
  unfold conversionEnd
  split
  · assumption
  · refine ite_good (fun _ => ?_) (fun _ => ?_)
    · assumption
    · apply dispatchMon_good
      apply bufRest_good
      apply finishConv_good
      assumption

theorem execConversionEnd_good {pq : List Instr} {x0 : Fin 2} {x1 : Int} {x2 : Int} {x3 : State} (hx3 : Good pq x3) : GoodOut pq (execConversionEnd x0 x1 x2 x3) :=
  next_goodOut (conversionEnd_good hx3)

theorem refBufferReady_good {pq : List Instr} {x0 : Fin 2} {x1 : State} (hx1 : Good pq x1) : Good pq (refBufferReady x0 x1) := by
  unfold refBufferReady
  refine ite_good (fun _ => ?_) (fun _ => ?_)
  · apply onMadc_good
    assumption
  · assumption

theorem execRefBufferReady_good {pq : List Instr} {x0 : Fin 2} {x1 : State} (hx1 : Good pq x1) : GoodOut pq (execRefBufferReady x0 x1) :=
  next_goodOut (refBufferReady_good hx1)

theorem monRefSet_good {pq : List Instr} {x0 : Request} {x1 : State} (hx1 : Good pq x1) : Good pq (monRefSet x0 x1).1 := by
  unfold monRefSet
  extract_lets v0
  have hv0 : Good pq v0 := by
    unfold v0
    refine foldl_good (fun _ _ _ => ?_) ?_
    · try dsimp -zeta only
      apply onMadc_good
      assumption
    · apply keepBody_good
      assumption
  clear_value v0
  refine Good.fst ?_
  apply bufRest_good
  assumption

theorem execMonRefSet_good {pq : List Instr} {x0 : Request} {x1 : State} (hx1 : Good pq x1) : GoodOut pq (execMonRefSet x0 x1) := by
  unfold execMonRefSet
  refine next_goodOut ?_
  apply deskRun_good
  · intro a0 a1 ha2
    try dsimp -zeta only
    apply monRefSet_good
    assumption
  · assumption

theorem monChannelSet_good {pq : List Instr} {x0 : Request} {x1 : State} (hx1 : Good pq x1) : Good pq (monChannelSet x0 x1).1 := by
  unfold monChannelSet
  extract_lets v0 v1 v2 v3
  clear_value v0 v1 v2
  have hv3 : Good pq v3 := by
    unfold v3
    apply onMon_good
    apply keepBody_good
    assumption
  clear_value v3
  refine ite_good_1 (fun _ => ?_) (fun _ => ?_)
  · refine Good.fst ?_
    assumption
  · refine ite_good_1 (fun _ => ?_) (fun _ => ?_)
    · refine Good.fst ?_
      assumption
    · refine ite_good_1 (fun _ => ?_) (fun _ => ?_)
      · refine Good.fst ?_
        assumption
      · refine ite_good_1 (fun _ => ?_) (fun _ => ?_)
        · refine Good.fst ?_
          assumption
        · refine ite_good_1 (fun _ => ?_) (fun _ => ?_)
          · refine Good.fst ?_
            assumption
          · refine Good.fst ?_
            apply onHouse_good
            assumption

theorem execMonChannelSet_good {pq : List Instr} {x0 : Request} {x1 : State} (hx1 : Good pq x1) : GoodOut pq (execMonChannelSet x0 x1) := by
  unfold execMonChannelSet
  refine next_goodOut ?_
  apply deskRun_good
  · intro a0 a1 ha2
    try dsimp -zeta only
    apply monChannelSet_good
    assumption
  · assumption

theorem monRead_good {pq : List Instr} {x0 : Request} {x1 : State} (hx1 : Good pq x1) : Good pq (monRead x0 x1).1 := by
  unfold monRead
  extract_lets v0 v1 v2
  clear_value v0 v1 v2
  refine ite_good_1 (fun _ => ?_) (fun _ => ?_)
  · refine Good.fst ?_
    assumption
  · refine Good.fst ?_
    apply onHouse_good
    assumption

theorem execMonRead_good {pq : List Instr} {x0 : Request} {x1 : State} (hx1 : Good pq x1) : GoodOut pq (execMonRead x0 x1) := by
  unfold execMonRead
  refine next_goodOut ?_
  apply deskRun_good
  · intro a0 a1 ha2
    try dsimp -zeta only
    apply monRead_good
    assumption
  · assumption

theorem adaptRail_good {pq : List Instr} {x0 : Nat} {x1 : State} (hx1 : Good pq x1) : Good pq (adaptRail x0 x1) := by
  unfold adaptRail
  extract_lets v0 v1
  clear_value v0 v1
  refine ite_good (fun _ => ?_) (fun _ => ?_)
  · assumption
  · split
    · apply onRail_good
      assumption
    · extract_lets v2 v3 v4
      clear_value v2 v3 v4
      refine ite_good (fun _ => ?_) (fun _ => ?_)
      · apply onRail_good
        assumption
      · refine ite_good (fun _ => ?_) (fun _ => ?_)
        · refine ite_good (fun _ => ?_) (fun _ => ?_)
          · apply onRail_good
            assumption
          · apply onRail_good
            assumption
        · apply onRail_good
          assumption

theorem processMonitor_good {pq : List Instr} {x0 : List Nat} {x1 : State} (hx1 : Good pq x1) : Good pq (processMonitor x0 x1) := by
  unfold processMonitor
  apply adaptRail_good
  apply adaptRail_good
  apply onHouse_good
  assumption

end Sys2Proof.Machine
end

