-- ==== Sys2Proof/Laws/Sound7.lean ====
section
/-! SUPPORT. Each effect of Sys2Proof/Machine/ in the files named below leaves the queue of commands alone and keeps a state sound:
Monitors, Boot, Firmware, Reset, Thermal, Housekeeping, Census, Sleep. -/

namespace Sys2Proof.Machine

/-! ### Monitors -/

theorem execProcessMonitorPeriod_good {pq : List Instr} {x0 : List Nat} {x1 : State} (hx1 : Good pq x1) : GoodOut pq (execProcessMonitorPeriod x0 x1) :=
  next_goodOut (processMonitor_good hx1)

theorem execMonStatus_good {pq : List Instr} {x0 : Request} {x1 : State} (hx1 : Good pq x1) : GoodOut pq (execMonStatus x0 x1) := by
  unfold execMonStatus
  refine next_goodOut ?_
  apply deskRun_good
  · intro a0 a1 ha2
    try dsimp -zeta only
    apply sCommand_good
    assumption
  · assumption

/-! ### Boot -/

theorem loadCatalogue_good {pq : List Instr} {x0 : Bool} {x1 : Bool} {x2 : State} (hx2 : Good pq x2) : Good pq (loadCatalogue x0 x1 x2) := by
  unfold loadCatalogue
  extract_lets v0 v1 v2 v3 v4 v5 v6 v7 v8 v9 v10 v11 v12
  clear_value v0 v1 v2 v3 v4 v5 v6 v7 v8 v9
  have hv10 : v10.sound = true := hx2.sound.stk
  clear_value v10 v11 v12
  exact ⟨hx2.queue, ⟨hx2.sound.chutes, hv10, hx2.sound.evt, hx2.sound.desk⟩⟩

theorem romBoard_good {pq : List Instr} {x0 : State} (hx0 : Good pq x0) : Good pq (romBoard x0) := by
  unfold romBoard
  extract_lets v0 v1 v2 v3 v4 v5 v6 v7
  clear_value v0 v1 v2 v3
  have hv4 : Good pq v4 := by
    unfold v4
    refine Good.lit ?_
    assumption
  clear_value v4 v5
  have hv6 : Good pq v6 := by
    unfold v6
    refine ite_good (fun _ => ?_) (fun _ => ?_)
    · refine Good.lit ?_
      assumption
    · refine Good.lit ?_
      assumption
  clear_value v6 v7
  refine ite_good (fun _ => ?_) (fun _ => ?_)
  · apply bufRest_good
    assumption
  · refine Good.lit ?_
    assumption

theorem encRequired_good {pq : List Instr} {x0 : State} (hx0 : Good pq x0) : Good pq (encRequired x0) := by
  unfold encRequired
  refine ite_good (fun _ => ?_) (fun _ => ?_)
  · extract_lets v0
    clear_value v0
    refine foldl_good (fun _ _ _ => ?_) ?_
    · try dsimp -zeta only
      refine ite_good (fun _ => ?_) (fun _ => ?_)
      · refine Good.lit ?_
        assumption
      · assumption
    · assumption
  · assumption

theorem bootRun_good {pq : List Instr} {x0 : Bool} {x1 : Bool} {x2 : State} (hx2 : Good pq x2) : Good pq (bootRun x0 x1 x2) := by
  unfold bootRun
  extract_lets v0 v1 v2 v3 v4
  clear_value v0 v1
  have hv2 : Good pq v2 := by
    unfold v2
    refine Good.lit ?_
    assumption
  clear_value v2 v3 v4
  split
  · apply driveAll_good
    refine Good.lit ?_
    assumption
  · extract_lets v5 v6 v7 v8 v9 v10
    clear_value v5
    have hv6 : Good pq v6 := by
      unfold v6
      apply encRequired_good
      apply romBoard_good
      refine Good.lit ?_
      assumption
    clear_value v6 v7
    have hv8 : Good pq v8 := by
      unfold v8
      refine Good.lit ?_
      assumption
    clear_value v8
    have hv9 : Good pq v9 := by
      unfold v9
      apply loadCatalogue_good
      assumption
    clear_value v9 v10
    apply driveAll_good
    refine Good.lit ?_
    assumption

/-! ### Firmware -/

theorem secIdentity_good {pq : List Instr} {x0 : Request} {x1 : State} (hx1 : Good pq x1) : Good pq (secIdentity x0 x1).1 := by
  unfold secIdentity
  refine Good.fst ?_
  assumption

theorem execSecIdentityGet_good {pq : List Instr} {x0 : Request} {x1 : State} (hx1 : Good pq x1) : GoodOut pq (execSecIdentityGet x0 x1) := by
  unfold execSecIdentityGet
  refine next_goodOut ?_
  apply deskRun_good
  · intro a0 a1 ha2
    try dsimp -zeta only
    apply secIdentity_good
    assumption
  · assumption

theorem secAttest_good {pq : List Instr} {x0 : Request} {x1 : State} (hx1 : Good pq x1) : Good pq (secAttest x0 x1).1 := by
  unfold secAttest
  extract_lets v0
  try clear_value v0
  refine Good.fst ?_
  apply State.drawn_good
  assumption

theorem execSecAttest_good {pq : List Instr} {x0 : Request} {x1 : State} (hx1 : Good pq x1) : GoodOut pq (execSecAttest x0 x1) := by
  unfold execSecAttest
  refine next_goodOut ?_
  apply deskRun_good
  · intro a0 a1 ha2
    try dsimp -zeta only
    apply secAttest_good
    assumption
  · assumption

theorem secCharter_good {pq : List Instr} {x0 : Request} {x1 : State} (hx1 : Good pq x1) : Good pq (secCharter x0 x1).1 := by
  unfold secCharter
  refine Good.fst ?_
  assumption

theorem execSecCharterGet_good {pq : List Instr} {x0 : Request} {x1 : State} (hx1 : Good pq x1) : GoodOut pq (execSecCharterGet x0 x1) := by
  unfold execSecCharterGet
  refine next_goodOut ?_
  apply deskRun_good
  · intro a0 a1 ha2
    try dsimp -zeta only
    apply secCharter_good
    assumption
  · assumption

theorem freeStaging_good {pq : List Instr} {x0 : State} (hx0 : Good pq x0) : Good pq (freeStaging x0) := by
  unfold freeStaging
  refine onStk_good (fun _ hk => hk) ?_
  apply onBoot_good
  assumption

theorem spoilInactive_good {pq : List Instr} {x0 : State} (hx0 : Good pq x0) : Good pq (spoilInactive x0) := by
  unfold spoilInactive
  apply onBoot_good
  assumption

theorem fwLast_good {pq : List Instr} {x0 : Nat} {x1 : State} (hx1 : Good pq x1) : Good pq (fwLast x0 x1).1 := by
  unfold fwLast
  extract_lets v0 v1 v2
  try clear_value v0 v1
  have hv2 : Good pq v2 := by
    unfold v2
    apply freeStaging_good
    apply onBoot_good
    assumption
  try clear_value v2
  refine ite_good_1 (fun _ => ?_) (fun _ => ?_)
  · refine Good.fst ?_
    apply spoilInactive_good
    apply onBoot_good
    assumption
  · refine Good.fst ?_
    refine ite_good (fun _ => ?_) (fun _ => ?_)
    · apply raise_good
      assumption
    · apply raise_good
      assumption

theorem staging_sound {k : Stacks} {l : List Nat} (h : k.sound = true) : Stacks.sound { k with staging := l } = true := h

theorem fwLoad_good {pq : List Instr} {x0 : Request} {x1 : State} (hx1 : Good pq x1) : Good pq (fwLoad x0 x1).1 := by
  unfold fwLoad
  extract_lets v0 v1 v2 v3 v4 v5
  clear_value v0 v1 v2
  have hv3 : ∀ a6, Good pq a6 → Good pq (v3 a6) := by
    intro a6 ha7
    unfold v3
    try dsimp -zeta only
    apply onBoot_good
    assumption
  clear_value v3
  have hv4 : ∀ a8, Good pq a8 → Good pq (v4 a8).1 := by
    intro a8 ha9
    unfold v4
    try dsimp -zeta only
    refine ite_good_1 (fun _ => ?_) (fun _ => ?_)
    · apply fwLast_good
      refine hv3 _ ?_
      · assumption
    · refine Good.fst ?_
      refine hv3 _ ?_
      · assumption
  clear_value v4
  have hv5 : Good pq v5 := by
    unfold v5
    apply freeStaging_good
    exact ite_good (fun _ => spoilInactive_good hx1) fun _ => hx1
  clear_value v5
  refine ite_good_1 (fun _ => ?_) (fun _ => ?_)
  · refine ite_good_1 (fun _ => ?_) (fun _ => ?_)
    · refine Good.fst ?_
      assumption
    · exact hv4 _ (onStk_good (fun _ hk => staging_sound hk) (onBoot_good hv5))
  · split
    · refine Good.fst ?_
      assumption
    · refine ite_good_1 (fun _ => ?_) (fun _ => ?_)
      · refine Good.fst ?_
        assumption
      · refine hv4 _ ?_
        · assumption

theorem execFwLoad_good {pq : List Instr} {x0 : Request} {x1 : State} (hx1 : Good pq x1) : GoodOut pq (execFwLoad x0 x1) := by
  unfold execFwLoad
  refine next_goodOut ?_
  apply deskRun_good
  · intro a0 a1 ha2
    try dsimp -zeta only
    apply fwLoad_good
    assumption
  · assumption

theorem programmingDone_good {pq : List Instr} {x0 : List (Nat × Byte)} {x1 : State} (hx1 : Good pq x1) : Good pq (programmingDone x0 x1) := by
  unfold programmingDone
  refine ite_good (fun _ => ?_) (fun _ => ?_)
  · extract_lets v0 v1
    try clear_value v0
    have hv1 : Good pq v1 := by
      unfold v1
      apply freeStaging_good
      apply onBoot_good
      assumption
    try clear_value v1
    refine ite_good (fun _ => ?_) (fun _ => ?_)
    · assumption
    · apply raise_good
      apply onBoot_good
      assumption
  · assumption

theorem execFwProgrammingDone_good {pq : List Instr} {x0 : List (Nat × Byte)} {x1 : State} (hx1 : Good pq x1) : GoodOut pq (execFwProgrammingDone x0 x1) := by
  unfold execFwProgrammingDone
  refine next_goodOut ?_
  apply programmingDone_good
  assumption

theorem switchImage_good {pq : List Instr} {x0 : State} (hx0 : Good pq x0) : Good pq (switchImage x0) := by
  unfold switchImage
  extract_lets v0 v1 v2
  clear_value v0
  have hv1 : v1.Sound := hx0.sound.desk
  clear_value v1 v2
  exact ⟨hx0.queue, ⟨hx0.sound.chutes, hx0.sound.stk, hx0.sound.evt, hv1⟩⟩

theorem activateProgress_good {pq : List Instr} {x0 : State} (hx0 : Good pq x0) : Good pq (activateProgress x0) := by
  unfold activateProgress
  refine ite_good (fun _ => ?_) (fun _ => ?_)
  · refine ite_good (fun _ => ?_) (fun _ => ?_)
    · split
      · refine ite_good (fun _ => ?_) (fun _ => ?_)
        · apply complete_good
          assumption
        · assumption
      · assumption
    · apply switchImage_good
      assumption
  · assumption

theorem fwActivate_good {pq : List Instr} {x0 : Request} {x1 : State} (hx1 : Good pq x1) : Good pq (fwActivate x0 x1).1 := by
  unfold fwActivate
  refine ite_good_1 (fun _ => ?_) (fun _ => ?_)
  · refine Good.fst ?_
    assumption
  · refine Good.fst ?_
    extract_lets v0 v1
    have hv0 : v0.Sound := hx1.sound.desk
    clear_value v0 v1
    exact ⟨hx1.queue, ⟨hx1.sound.chutes, hx1.sound.stk, hx1.sound.evt, hv0⟩⟩

theorem execFwActivate_good {pq : List Instr} {x0 : Request} {x1 : State} (hx1 : Good pq x1) : GoodOut pq (execFwActivate x0 x1) := by
  unfold execFwActivate
  refine next_goodOut ?_
  apply activateProgress_good
  apply deskRun_good
  · intro a3 a4 ha5
    try dsimp -zeta only
    apply fwActivate_good
    assumption
  · assumption

theorem idleRest_good {pq : List Instr} {x0 : State} (hx0 : Good pq x0) : Good pq (idleRest x0) := by
  unfold idleRest
  refine ite_good (fun _ => ?_) (fun _ => ?_)
  · apply onPwr_good
    assumption
  · assumption

theorem execResponseWrite_good {pq : List Instr} {x0 : Fin 4} {x1 : State} (hx1 : Good pq x1) : GoodOut pq (execResponseWrite x0 x1) := by
  unfold execResponseWrite
  refine next_goodOut ?_
  apply idleRest_good
  apply activateProgress_good
  apply writeResponse_good
  assumption

theorem trialBack_good {pq : List Instr} {x0 : State} (hx0 : Good pq x0) : Good pq (trialBack x0) := by
  unfold trialBack
  extract_lets v0 v1 v2
  clear_value v0 v1 v2
  apply raise_good
  refine Good.lit ?_
  assumption

theorem execWatchdogRestart_good {pq : List Instr} {x0 : State} (hx0 : Good pq x0) : GoodOut pq (execWatchdogRestart x0) := by
  unfold execWatchdogRestart
  refine next_goodOut ?_
  refine ite_good (fun _ => ?_) (fun _ => ?_)
  · apply trialBack_good
    apply watchdogRestart_good
    assumption
  · apply watchdogRestart_good
    assumption

theorem execTrialFallback_good {pq : List Instr} {x0 : State} (hx0 : Good pq x0) : GoodOut pq (execTrialFallback x0) := by
  unfold execTrialFallback
  refine next_goodOut ?_
  refine ite_good (fun _ => ?_) (fun _ => ?_)
  · apply trialBack_good
    apply watchdogRestart_good
    assumption
  · assumption

theorem trialEnd_good {pq : List Instr} {x0 : State} (hx0 : Good pq x0) : Good pq (trialEnd x0) := by
  unfold trialEnd
  refine ite_good (fun _ => ?_) (fun _ => ?_)
  · apply onBoot_good
    assumption
  · assumption

theorem execTrialEnd_good {pq : List Instr} {x0 : State} (hx0 : Good pq x0) : GoodOut pq (execTrialEnd x0) :=
  next_goodOut (trialEnd_good hx0)

theorem execFirmwareRestartReady_good {pq : List Instr} {x0 : State} (hx0 : Good pq x0) : GoodOut pq (execFirmwareRestartReady x0) := by
  unfold execFirmwareRestartReady
  refine next_goodOut ?_
  apply onBoot_good
  apply restartReady_good
  assumption

theorem fwCommit_good {pq : List Instr} {x0 : Request} {x1 : State} (hx1 : Good pq x1) : Good pq (fwCommit x0 x1).1 := by
  unfold fwCommit
  extract_lets v0 v1 v2 v3
  clear_value v0 v1 v2 v3
  refine ite_good_1 (fun _ => ?_) (fun _ => ?_)
  · refine Good.fst ?_
    assumption
  · refine Good.fst ?_
    apply onBoot_good
    assumption

theorem execFwCommit_good {pq : List Instr} {x0 : Request} {x1 : State} (hx1 : Good pq x1) : GoodOut pq (execFwCommit x0 x1) := by
  unfold execFwCommit
  refine next_goodOut ?_
  apply deskRun_good
  · intro a0 a1 ha2
    try dsimp -zeta only
    apply fwCommit_good
    assumption
  · assumption

theorem execFwStatus_good {pq : List Instr} {x0 : Request} {x1 : State} (hx1 : Good pq x1) : GoodOut pq (execFwStatus x0 x1) := by
  unfold execFwStatus
  refine next_goodOut ?_
  apply deskRun_good
  · intro a0 a1 ha2
    try dsimp -zeta only
    apply sCommand_good
    assumption
  · assumption

theorem catWriteStart_good {pq : List Instr} {x0 : State} (hx0 : Good pq x0) : Good pq (catWriteStart x0) := by
  unfold catWriteStart
  extract_lets v0 v1
  clear_value v0 v1
  refine ite_good (fun _ => ?_) (fun _ => ?_)
  · assumption
  · refine Good.lit ?_
    assumption

theorem execCatalogueWriteStart_good {pq : List Instr} {x0 : State} (hx0 : Good pq x0) : GoodOut pq (execCatalogueWriteStart x0) :=
  next_goodOut (catWriteStart_good hx0)

theorem catWritten_good {pq : List Instr} {x0 : List Byte} {x1 : List (Nat × List Byte)} {x2 : State} (hx2 : Good pq x2) : Good pq (catWritten x0 x1 x2) := by
  unfold catWritten
  extract_lets v0 v1 v2 v3 v4
  try clear_value v0 v1 v2 v3 v4
  apply raise_good
  refine Good.lit ?_
  assumption

theorem catWriteDone_good {pq : List Instr} {x0 : List (Nat × Byte)} {x1 : State} (hx1 : Good pq x1) : Good pq (catWriteDone x0 x1) := by
  unfold catWriteDone
  split
  · assumption
  · refine ite_good (fun _ => ?_) (fun _ => ?_)
    · assumption
    · refine ite_good (fun _ => ?_) (fun _ => ?_)
      · apply catWritten_good
        assumption
      · extract_lets v0 v1 v2 v3 v4
        try clear_value v0
        have hv1 : Good pq v1 := by
          unfold v1
          apply onCat_good
          assumption
        try clear_value v1 v2 v3 v4
        refine ite_good (fun _ => ?_) (fun _ => ?_)
        · apply raise_good
          apply onCat_good
          assumption
        · assumption

theorem execCatalogueWriteDone_good {pq : List Instr} {x0 : List (Nat × Byte)} {x1 : State} (hx1 : Good pq x1) : GoodOut pq (execCatalogueWriteDone x0 x1) := by
  unfold execCatalogueWriteDone
  refine next_goodOut ?_
  apply catWriteDone_good
  assumption

theorem catEraseDone_good {pq : List Instr} {x0 : State} (hx0 : Good pq x0) : Good pq (catEraseDone x0) := by
  unfold catEraseDone
  split
  · assumption
  · extract_lets v0 v1
    clear_value v0 v1
    refine Good.lit ?_
    assumption

theorem execCatalogueEraseDone_good {pq : List Instr} {x0 : State} (hx0 : Good pq x0) : GoodOut pq (execCatalogueEraseDone x0) :=
  next_goodOut (catEraseDone_good hx0)

theorem catRead_good {pq : List Instr} {x0 : Request} {x1 : State} (hx1 : Good pq x1) : Good pq (catRead x0 x1).1 := by
  unfold catRead
  split
  · refine Good.fst ?_
    assumption
  · refine Good.fst ?_
    assumption

theorem execCatalogueRead_good {pq : List Instr} {x0 : Request} {x1 : State} (hx1 : Good pq x1) : GoodOut pq (execCatalogueRead x0 x1) := by
  unfold execCatalogueRead
  refine next_goodOut ?_
  apply deskRun_good
  · intro a0 a1 ha2
    try dsimp -zeta only
    apply catRead_good
    assumption
  · assumption

theorem catReset_good {pq : List Instr} {x0 : Request} {x1 : State} (hx1 : Good pq x1) : Good pq (catReset x0 x1).1 := by
  unfold catReset
  extract_lets v0 v1
  have hv0 : ∀ a0 a1, Good pq a1 → Good pq (v0 a0 a1) := by
    intro a0 a1 ha2
    unfold v0
    try dsimp -zeta only
    apply convDefaults_good
    refine foldl_good (fun _ _ _ => ?_) ?_
    · try dsimp -zeta only
      apply catChange_good
      assumption
    · assumption
  try clear_value v0 v1
  refine ite_good_1 (fun _ => ?_) (fun _ => ?_)
  · refine Good.fst ?_
    assumption
  · refine ite_good_1 (fun _ => ?_) (fun _ => ?_)
    · refine Good.fst ?_
      apply convDefaults_good
      refine hv0 _ _ ?_
      assumption
    · split
      · refine Good.fst ?_
        assumption
      · refine ite_good_1 (fun _ => ?_) (fun _ => ?_)
        · refine Good.fst ?_
          refine hv0 _ _ ?_
          assumption
        · refine Good.fst ?_
          assumption

theorem execCatalogueReset_good {pq : List Instr} {x0 : Request} {x1 : State} (hx1 : Good pq x1) : GoodOut pq (execCatalogueReset x0 x1) := by
  unfold execCatalogueReset
  refine next_goodOut ?_
  apply deskRun_good
  · intro a0 a1 ha2
    try dsimp -zeta only
    apply catReset_good
    assumption
  · assumption

theorem execCatalogueStatus_good {pq : List Instr} {x0 : Request} {x1 : State} (hx1 : Good pq x1) : GoodOut pq (execCatalogueStatus x0 x1) := by
  unfold execCatalogueStatus
  refine next_goodOut ?_
  apply deskRun_good
  · intro a0 a1 ha2
    try dsimp -zeta only
    apply sCommand_good
    assumption
  · assumption

theorem loseKeys_good {pq : List Instr} {x0 : Fin 2} {x1 : State} (hx1 : Good pq x1) : Good pq (loseKeys x0 x1) := by
  unfold loseKeys
  refine foldl_good (fun _ _ _ => ?_) ?_
  · try dsimp -zeta only
    refine ite_good (fun _ => ?_) (fun _ => ?_)
    · apply tryKex_good
      apply noKeyCheck_good
      apply onCry_good
      assumption
    · assumption
  · assumption

theorem voteWord_good {pq : List Instr} {x0 : State} {x1 : Nat} (hx0 : Good pq x0) : Good pq (voteWord x0 x1) := by
  unfold voteWord
  extract_lets v0 v1
  try clear_value v0
  have hv1 : Good pq v1 := by
    unfold v1
    apply raiseAon_good
    refine Good.lit ?_
    assumption
  try clear_value v1
  refine ite_good (fun _ => ?_) (fun _ => ?_)
  · assumption
  · split
    · apply raiseAon_good
      refine Good.lit ?_
      assumption
    · refine ite_good (fun _ => ?_) (fun _ => ?_)
      · apply loseKeys_good
        assumption
      · refine ite_good (fun _ => ?_) (fun _ => ?_)
        · apply loseKeys_good
          assumption
        · refine ite_good (fun _ => ?_) (fun _ => ?_)
          · apply latchDiag_good
            assumption
          · assumption

theorem vaultVote_good {pq : List Instr} {x0 : List (Fin 3 × Fin 256 × Word32)} {x1 : State} (hx1 : Good pq x1) : Good pq (vaultVote x0 x1) := by
  unfold vaultVote
  refine ite_good (fun _ => ?_) (fun _ => ?_)
  · assumption
  · refine foldl_good (fun _ _ _ => ?_) ?_
    · try dsimp -zeta only
      apply voteWord_good
      assumption
    · refine Good.lit ?_
      assumption

theorem execVaultVote_good {pq : List Instr} {x0 : List (Fin 3 × Fin 256 × Word32)} {x1 : State} (hx1 : Good pq x1) : GoodOut pq (execVaultVote x0 x1) :=
  next_goodOut (vaultVote_good hx1)

/-! ### Reset -/

theorem survives_good {pq : List Instr} {s : State} (h : Good pq s) : Good pq (survives s) :=
  ⟨h.queue, ⟨reset_chutes, lost_sound (k := {}), rfl, reset_desk⟩⟩

theorem keepAon_good {pq : List Instr} {x0 : State} {x1 : State} (_ : Good pq x0) (hx1 : Good pq x1) : Good pq (keepAon x0 x1) := by
  unfold keepAon
  extract_lets v0 v1 v2 v3 v4
  have hv0 : v0.sound = true := hx1.sound.stk
  clear_value v0 v1 v2 v3 v4
  exact ⟨hx1.queue, ⟨hx1.sound.chutes, hv0, hx1.sound.evt, hx1.sound.desk⟩⟩

theorem resetAll_good {pq : List Instr} {x0 : Nat} {x1 : State} (hx1 : Good pq x1) : Good pq (resetAll x0 x1) := by
  unfold resetAll
  extract_lets v0 v1 v2
  have hv0 : Good pq v0 := by
    unfold v0
    apply keepAon_good
    · assumption
    · apply survives_good
      assumption
  clear_value v0 v1 v2
  refine ⟨hv0.queue, ⟨hv0.sound.chutes, ?_, hv0.sound.evt, hv0.sound.desk⟩⟩
  show (stacksOver x1).sound = true
  unfold stacksOver
  split
  · exact kept_sound hx1.sound.stk
  · exact lost_sound

theorem intoDeep_good {pq : List Instr} {x0 : State} (hx0 : Good pq x0) : Good pq (intoDeep x0) := by
  unfold intoDeep
  extract_lets v0 v1
  have hv0 : Good pq v0 := by
    unfold v0
    apply keepAon_good
    · assumption
    · apply survives_good
      assumption
  clear_value v0 v1
  refine Good.lit ?_
  assumption

theorem intoOff_good {pq : List Instr} {x0 : State} (hx0 : Good pq x0) : Good pq (intoOff x0) := by
  unfold intoOff
  extract_lets v0 v1 v2 v3 v4
  have hv0 : Good pq v0 := by
    unfold v0
    apply survives_good
    assumption
  clear_value v0 v1 v2 v3 v4
  refine Good.lit ?_
  assumption

theorem bootUp_good {pq : List Instr} {x0 : Bool} {x1 : Bool} {x2 : State} (hx2 : Good pq x2) : Good pq (bootUp x0 x1 x2) := by
  unfold bootUp
  extract_lets v0 v1 v2 v3 v4 v5
  have hv0 : Good pq v0 := by
    unfold v0
    refine ite_good (fun _ => ?_) (fun _ => ?_)
    · exact ⟨hx2.queue, ⟨hx2.sound.chutes, lost_sound, hx2.sound.evt, hx2.sound.desk⟩⟩
    · assumption
  clear_value v0 v1 v2
  have hv3 : Good pq v3 := by
    unfold v3
    apply bootRun_good
    refine Good.lit ?_
    assumption
  clear_value v3 v4 v5
  refine Good.lit ?_
  assumption

theorem resetAssert_good {pq : List Instr} {x0 : State} (hx0 : Good pq x0) : Good pq (resetAssert x0) := by
  unfold resetAssert
  refine ite_good (fun _ => ?_) (fun _ => ?_)
  · assumption
  · refine ite_good (fun _ => ?_) (fun _ => ?_)
    · extract_lets v0
      clear_value v0
      refine Good.lit ?_
      assumption
    · extract_lets v1 v2
      have hv1 : Good pq v1 := by
        unfold v1
        apply resetAll_good
        assumption
      clear_value v1 v2
      refine Good.lit ?_
      assumption

theorem execResetNAssert_good {pq : List Instr} {x0 : State} (hx0 : Good pq x0) : GoodOut pq (execResetNAssert x0) :=
  next_goodOut (resetAssert_good hx0)

theorem resetRelease_good {pq : List Instr} {x0 : Option Flash} {x1 : State} (hx1 : Good pq x1) : Good pq (resetRelease x0 x1) := by
  unfold resetRelease
  refine ite_good (fun _ => ?_) (fun _ => ?_)
  · assumption
  · extract_lets v0 v1 v2
    clear_value v0
    have hv1 : Good pq v1 := by
      unfold v1
      refine Good.lit ?_
      assumption
    clear_value v1 v2
    refine ite_good (fun _ => ?_) (fun _ => ?_)
    · assumption
    · apply bootUp_good
      refine Good.lit ?_
      assumption

theorem execResetNRelease_good {pq : List Instr} {x0 : Option Flash} {x1 : State} (hx1 : Good pq x1) : GoodOut pq (execResetNRelease x0 x1) :=
  next_goodOut (resetRelease_good hx1)

theorem execBootResetWrite_good {pq : List Instr} {x0 : Path} {x1 : Word32} {x2 : State} (hx2 : Good pq x2) : GoodOut pq (execBootResetWrite x0 x1 x2) := by
  unfold execBootResetWrite
  extract_lets v0
  try clear_value v0
  refine ite_goodOut (fun _ => ?_) (fun _ => ?_)
  · refine next_goodOut ?_
    assumption
  · refine ite_goodOut (fun _ => ?_) (fun _ => ?_)
    · exact fault_goodOut
    · refine ite_goodOut (fun _ => ?_) (fun _ => ?_)
      · refine next_goodOut ?_
        apply bootUp_good
        apply resetAll_good
        assumption
      · refine next_goodOut ?_
        assumption

theorem powerOn_good {pq : List Instr} {x0 : State} (hx0 : Good pq x0) : Good pq (powerOn x0) := by
  unfold powerOn
  extract_lets v0 v1
  have hv0 : Good pq v0 := by
    unfold v0
    apply survives_good
    assumption
  clear_value v0 v1
  refine Good.lit ?_
  assumption

theorem execPowerOn_good {pq : List Instr} {x0 : State} (hx0 : Good pq x0) : GoodOut pq (execPowerOn x0) :=
  next_goodOut (powerOn_good hx0)

theorem brownout_good {pq : List Instr} {x0 : State} (hx0 : Good pq x0) : Good pq (brownout x0) := by
  unfold brownout
  apply intoOff_good
  extract_lets v2 v3
  clear_value v2 v3
  refine Good.lit ?_
  assumption

theorem execBrownout_good {pq : List Instr} {x0 : State} (hx0 : Good pq x0) : GoodOut pq (execBrownout x0) :=
  next_goodOut (brownout_good hx0)

theorem supplyFault_good {pq : List Instr} {x0 : Fin 17} {x1 : State} (hx1 : Good pq x1) : Good pq (supplyFault x0 x1) := by
  unfold supplyFault
  extract_lets v0
  clear_value v0
  apply onBoot_good
  assumption

theorem execSupplyFault_good {pq : List Instr} {x0 : Fin 17} {x1 : State} (hx1 : Good pq x1) : GoodOut pq (execSupplyFault x0 x1) :=
  next_goodOut (supplyFault_good hx1)

theorem perstAssert_good {pq : List Instr} {x0 : State} (hx0 : Good pq x0) : Good pq (perstAssert x0) := by
  unfold perstAssert
  extract_lets v0 v1
  have hv0 : v0.sound = true := hx0.sound.evt
  clear_value v0 v1
  exact ⟨hx0.queue, ⟨hx0.sound.chutes, hx0.sound.stk, hv0, hx0.sound.desk⟩⟩

theorem execPerstNAssert_good {pq : List Instr} {x0 : State} (hx0 : Good pq x0) : GoodOut pq (execPerstNAssert x0) :=
  next_goodOut (perstAssert_good hx0)

theorem execPerstNRelease_good {pq : List Instr} {x0 : State} (hx0 : Good pq x0) : GoodOut pq (execPerstNRelease x0) := by
  unfold execPerstNRelease
  refine next_goodOut ?_
  extract_lets v0
  try clear_value v0
  refine Good.lit ?_
  assumption

/-! ### Thermal -/

theorem onSensor_good {pq : List Instr} {x0 : Nat} {x1 : Sensor → Sensor} {x2 : State} (hx2 : Good pq x2) : Good pq (onSensor x0 x1 x2) := by
  unfold onSensor
  apply onHouse_good
  assumption

theorem sensorFault_good {pq : List Instr} {x0 : Nat} {x1 : Nat} {x2 : State} (hx2 : Good pq x2) : Good pq (sensorFault x0 x1 x2) := by
  unfold sensorFault
  apply raise_good
  apply onSensor_good
  assumption

theorem sensorChecks_good {pq : List Instr} {x0 : State} (hx0 : Good pq x0) : Good pq (sensorChecks x0) := by
  unfold sensorChecks
  extract_lets v0
  clear_value v0
  refine foldl_good (fun _ _ _ => ?_) ?_
  · try dsimp -zeta only
    refine ite_good (fun _ => ?_) (fun _ => ?_)
    · extract_lets v1
      have hv1 : Good pq v1 := by
        unfold v1
        apply onSensor_good
        assumption
      clear_value v1
      refine ite_good (fun _ => ?_) (fun _ => ?_)
      · apply sensorFault_good
        assumption
      · refine ite_good (fun _ => ?_) (fun _ => ?_)
        · apply sensorFault_good
          assumption
        · assumption
    · assumption
  · assumption

theorem rateEvents_good {pq : List Instr} {x0 : State} (hx0 : Good pq x0) : Good pq (rateEvents x0) := by
  unfold rateEvents
  extract_lets v0 v1 v2 v3 v4
  try clear_value v0
  try clear_value v1
  have hv2 : ∀ a5 a6 a7 a8, Good pq a8 → Good pq (v2 a5 a6 a7 a8) := by
    intro a5 a6 a7 a8 ha9
    try unfold v2
    try dsimp -zeta only
    apply raiseIf_good
    assumption
  try clear_value v2
  try clear_value v3
  try clear_value v4
  apply onHouse_good
  refine hv2 _ _ _ _ ?_
  · refine hv2 _ _ _ _ ?_
    · assumption

theorem thermTo_good {pq : List Instr} {x0 : ThermState} {x1 : State} (hx1 : Good pq x1) : Good pq (thermTo x0 x1) := by
  unfold thermTo
  apply onHouse_good
  assumption

theorem stopStarting_good {pq : List Instr} {x0 : Nat} {x1 : State} (hx1 : Good pq x1) : Good pq (stopStarting x0 x1) := by
  unfold stopStarting
  refine ite_good (fun _ => ?_) (fun _ => ?_)
  · extract_lets v0 v1
    have hv0 : Good pq v0 := by
      unfold v0
      apply onPwr_good
      assumption
    clear_value v0
    have hv1 : Good pq v1 := by
      unfold v1
      apply endTransition_good
      apply domainCommandsFail_good
      assumption
    clear_value v1
    apply onDom_good
    apply beginInternal_good
    assumption
  · assumption

theorem stopRunning_good {pq : List Instr} {x0 : Nat} {x1 : State} (hx1 : Good pq x1) : Good pq (stopRunning x0 x1) := by
  unfold stopRunning
  refine ite_good (fun _ => ?_) (fun _ => ?_)
  · apply onDom_good
    apply beginDomain_good
    assumption
  · assumption

theorem thermalStop_good {pq : List Instr} {x0 : State} (hx0 : Good pq x0) : Good pq (thermalStop x0) := by
  unfold thermalStop
  extract_lets v0 v1 v2 v3 v4
  have hv0 : Good pq v0 := by
    unfold v0
    refine foldl_good (fun _ _ _ => ?_) ?_
    · try dsimp -zeta only
      refine ite_good (fun _ => ?_) (fun _ => ?_)
      · apply carrierStop_good
        assumption
      · assumption
    · assumption
  clear_value v0
  have hv1 : Good pq v1 := by
    unfold v1
    refine foldl_good (fun _ _ _ => ?_) ?_
    · try dsimp -zeta only
      apply stopStarting_good
      assumption
    · assumption
  clear_value v1
  have hv2 : Good pq v2 := by
    unfold v2
    refine foldl_good (fun _ _ _ => ?_) ?_
    · try dsimp -zeta only
      apply stopRunning_good
      assumption
    · assumption
  clear_value v2
  have hv3 : Good pq v3 := by
    unfold v3
    refine foldl_good (fun _ _ _ => ?_) ?_
    · try dsimp -zeta only
      refine ite_good (fun _ => ?_) (fun _ => ?_)
      · apply onDom_good
        assumption
      · apply stopRunning_good
        assumption
    · assumption
  clear_value v3 v4
  apply onHouse_good
  refine foldl_good (fun _ _ _ => ?_) ?_
  · try dsimp -zeta only
    apply stopRunning_good
    apply octetDown_good
    assumption
  · assumption

theorem thermalRestore_good {pq : List Instr} {x0 : State} (hx0 : Good pq x0) : Good pq (thermalRestore x0) := by
  unfold thermalRestore
  refine foldl_good (fun _ _ _ => ?_) ?_
  · try dsimp -zeta only
    apply requestDomain_good
    assumption
  · apply onHouse_good
    assumption

theorem thermalShutdown_good {pq : List Instr} {x0 : Nat} {x1 : State} (hx1 : Good pq x1) : Good pq (thermalShutdown x0 x1) := by
  unfold thermalShutdown
  extract_lets v0
  have hv0 : Good pq v0 := by
    unfold v0
    apply onHouse_good
    assumption
  clear_value v0
  apply intoOff_good
  apply driveAll_good
  assumption

theorem raiseTherm_good {pq : List Instr} {x0 : Nat} {x1 : Nat} {x2 : Option Nat} {x3 : State} (hx3 : Good pq x3) : Good pq (raiseTherm x0 x1 x2 x3) := by
  unfold raiseTherm
  extract_lets v0
  clear_value v0
  split
  · apply raise_good
    assumption
  · apply raise_good
    assumption

theorem thermStep_good {pq : List Instr} {x0 : State} (hx0 : Good pq x0) : Good pq (thermStep x0) := by
  unfold thermStep
  extract_lets v0 v1 v2 v3
  clear_value v0 v1 v2 v3
  split
  · apply thermalShutdown_good
    assumption
  · apply thermalShutdown_good
    assumption
  · refine ite_good (fun _ => ?_) (fun _ => ?_)
    · apply raiseTherm_good
      apply thermalStop_good
      apply onHouse_good
      apply thermTo_good
      assumption
    · refine ite_good (fun _ => ?_) (fun _ => ?_)
      · apply raiseTherm_good
        apply onHouse_good
        apply thermTo_good
        assumption
      · apply onHouse_good
        assumption

theorem sensorReading_good {pq : List Instr} {x0 : List Int} {x1 : State} (hx1 : Good pq x1) : Good pq (sensorReading x0 x1) := by
  unfold sensorReading
  refine ite_good (fun _ => ?_) (fun _ => ?_)
  · assumption
  · extract_lets v0 v1
    have hv0 : Good pq v0 := by
      unfold v0
      apply onHouse_good
      assumption
    try clear_value v0
    have hv1 : Good pq v1 := by
      unfold v1
      apply onHouse_good
      apply sensorChecks_good
      apply onHouse_good
      assumption
    try clear_value v1
    apply thermStep_good
    apply rateEvents_good
    assumption

theorem execSensorReading_good {pq : List Instr} {x0 : List Int} {x1 : State} (hx1 : Good pq x1) : GoodOut pq (execSensorReading x0 x1) :=
  next_goodOut (sensorReading_good hx1)

theorem sensorStuck_good {pq : List Instr} {x0 : Fin 32} {x1 : State} (hx1 : Good pq x1) : Good pq (sensorStuck x0 x1) := by
  unfold sensorStuck
  refine ite_good (fun _ => ?_) (fun _ => ?_)
  · apply sensorFault_good
    assumption
  · assumption

theorem execSensorStuck_good {pq : List Instr} {x0 : Fin 32} {x1 : State} (hx1 : Good pq x1) : GoodOut pq (execSensorStuck x0 x1) :=
  next_goodOut (sensorStuck_good hx1)

theorem thermalRecovery_good {pq : List Instr} {x0 : State} (hx0 : Good pq x0) : Good pq (thermalRecovery x0) := by
  unfold thermalRecovery
  refine ite_good (fun _ => ?_) (fun _ => ?_)
  · assumption
  · split
    · apply raiseTherm_good
      apply thermTo_good
      assumption
    · apply raiseTherm_good
      apply thermalRestore_good
      apply onHouse_good
      apply thermTo_good
      assumption
    · assumption

theorem execThermalRecoveryHold_good {pq : List Instr} {x0 : State} (hx0 : Good pq x0) : GoodOut pq (execThermalRecoveryHold x0) :=
  next_goodOut (thermalRecovery_good hx0)

theorem execThermalStatus_good {pq : List Instr} {x0 : Request} {x1 : State} (hx1 : Good pq x1) : GoodOut pq (execThermalStatus x0 x1) := by
  unfold execThermalStatus
  refine next_goodOut ?_
  apply deskRun_good
  · intro a0 a1 ha2
    try dsimp -zeta only
    apply sCommand_good
    assumption
  · assumption

/-! ### Housekeeping -/

theorem pmbusPoll_good {pq : List Instr} {x0 : Fin 16} {x1 : PmRead} {x2 : State} (hx2 : Good pq x2) : Good pq (pmbusPoll x0 x1 x2) := by
  unfold pmbusPoll
  refine ite_good (fun _ => ?_) (fun _ => ?_)
  · apply judgeRail_good
    apply onRail_good
    assumption
  · assumption

theorem execPmbusPoll_good {pq : List Instr} {x0 : Fin 16} {x1 : PmRead} {x2 : State} (hx2 : Good pq x2) : GoodOut pq (execPmbusPoll x0 x1 x2) :=
  next_goodOut (pmbusPoll_good hx2)

theorem pmbusRailSet_good {pq : List Instr} {x0 : Request} {x1 : State} (hx1 : Good pq x1) : Good pq (pmbusRailSet x0 x1).1 := by
  unfold pmbusRailSet
  extract_lets v0 v1 v2 v3 v4 v5
  try clear_value v0
  try clear_value v1
  try clear_value v2
  try clear_value v3
  have hv4 : Good pq v4 := by
    unfold v4
    refine Good.lit ?_
    assumption
  try clear_value v4
  have hv5 : Good pq v5 := by
    unfold v5
    apply keepBody_good
    assumption
  try clear_value v5
  refine ite_good_1 (fun _ => ?_) (fun _ => ?_)
  · refine Good.fst ?_
    assumption
  · refine ite_good_1 (fun _ => ?_) (fun _ => ?_)
    · refine Good.fst ?_
      assumption
    · refine ite_good_1 (fun _ => ?_) (fun _ => ?_)
      · refine Good.fst ?_
        assumption
      · refine ite_good_1 (fun _ => ?_) (fun _ => ?_)
        · refine Good.fst ?_
          assumption
        · refine Good.fst ?_
          apply onRail_good
          assumption

theorem execPmbusRailSet_good {pq : List Instr} {x0 : Request} {x1 : State} (hx1 : Good pq x1) : GoodOut pq (execPmbusRailSet x0 x1) := by
  unfold execPmbusRailSet
  refine next_goodOut ?_
  apply deskRun_good
  · intro a0 a1 ha2
    try dsimp -zeta only
    apply pmbusRailSet_good
    assumption
  · assumption

theorem execPmbusStatus_good {pq : List Instr} {x0 : Request} {x1 : State} (hx1 : Good pq x1) : GoodOut pq (execPmbusStatus x0 x1) := by
  unfold execPmbusStatus
  refine next_goodOut ?_
  apply deskRun_good
  · intro a0 a1 ha2
    try dsimp -zeta only
    apply sCommand_good
    assumption
  · assumption

theorem gpioSet_good {pq : List Instr} {x0 : Request} {x1 : State} (hx1 : Good pq x1) : Good pq (gpioSet x0 x1).1 := by
  unfold gpioSet
  extract_lets v0 v1 v2 v3 v4 v5
  clear_value v0 v1 v2 v3 v4 v5
  refine ite_good_1 (fun _ => ?_) (fun _ => ?_)
  · refine Good.fst ?_
    assumption
  · refine ite_good_1 (fun _ => ?_) (fun _ => ?_)
    · refine Good.fst ?_
      assumption
    · refine Good.fst ?_
      apply onHouse_good
      apply keepBody_good
      assumption

theorem execGpioSet_good {pq : List Instr} {x0 : Request} {x1 : State} (hx1 : Good pq x1) : GoodOut pq (execGpioSet x0 x1) := by
  unfold execGpioSet
  refine next_goodOut ?_
  apply deskRun_good
  · intro a0 a1 ha2
    try dsimp -zeta only
    apply gpioSet_good
    assumption
  · assumption

theorem gpioGet_good {pq : List Instr} {x0 : Word32} {x1 : Request} {x2 : State} (hx2 : Good pq x2) : Good pq (gpioGet x0 x1 x2).1 := by
  unfold gpioGet
  extract_lets v0
  clear_value v0
  refine Good.fst ?_
  assumption

theorem execGpioGet_good {pq : List Instr} {x0 : Request} {x1 : Word32} {x2 : State} (hx2 : Good pq x2) : GoodOut pq (execGpioGet x0 x1 x2) := by
  unfold execGpioGet
  refine next_goodOut ?_
  apply deskRun_good
  · intro a0 a1 ha2
    try dsimp -zeta only
    apply gpioGet_good
    assumption
  · assumption

/-! ### Census -/

theorem onBusy_good {pq : List Instr} {x0 : Snapshot → Snapshot} {x1 : State} (hx1 : Good pq x1) : Good pq (onBusy x0 x1) := by
  unfold onBusy
  apply onCen_good
  assumption

theorem restartPeaks_good {pq : List Instr} {x0 : Nat} {x1 : State} (hx1 : Good pq x1) : Good pq (restartPeaks x0 x1) := by
  unfold restartPeaks
  refine ite_good (fun _ => ?_) (fun _ => ?_)
  · apply onDec_good
    assumption
  · refine ite_good (fun _ => ?_) (fun _ => ?_)
    · apply onIl_good
      assumption
    · refine ite_good (fun _ => ?_) (fun _ => ?_)
      · apply onDec_good
        refine onStk_good (fun _ hk => hk) ?_
        assumption
      · refine ite_good (fun _ => ?_) (fun _ => ?_)
        · apply onHouse_good
          assumption
        · assumption

theorem latchProducer_good {pq : List Instr} {x0 : Nat} {x1 : Bool} {x2 : Bool} {x3 : State} (hx3 : Good pq x3) : Good pq (latchProducer x0 x1 x2 x3) := by
  unfold latchProducer
  extract_lets v0 v1
  clear_value v0
  have hv1 : Good pq v1 := by
    unfold v1
    apply onBusy_good
    assumption
  clear_value v1
  refine ite_good (fun _ => ?_) (fun _ => ?_)
  · exact updChute_good (fun j c hc => hc) hv1
  · refine ite_good (fun _ => ?_) (fun _ => ?_)
    · assumption
    · exact updChute_good (fun j c hc => mark_sound (c := c) addMark_filter.symm rfl rfl rfl addMark_packets hc) hv1

theorem latchConsumer_good {pq : List Instr} {x0 : Nat} {x1 : Bool} {x2 : Bool} {x3 : State} (hx3 : Good pq x3) : Good pq (latchConsumer x0 x1 x2 x3) := by
  unfold latchConsumer
  extract_lets v0 v1 v2
  clear_value v0 v1
  have hv2 : Good pq v2 := by
    unfold v2
    refine ite_good (fun _ => ?_) (fun _ => ?_)
    · assumption
    · apply onBusy_good
      assumption
  clear_value v2
  refine updChute_good (fun j c hc => ?_) hv2
  refine mark_sound (c := c) ?_ rfl rfl rfl ?_ hc
  · dsimp only
    split
    · exact addMark_filter.symm
    · rfl
  · dsimp only
    split
    · exact addMark_packets
    · rfl

theorem latchIsland_good {pq : List Instr} {x0 : Nat} {x1 : State} (hx1 : Good pq x1) : Good pq (latchIsland x0 x1) := by
  unfold latchIsland
  split
  · assumption
  · refine ite_good (fun _ => ?_) (fun _ => ?_)
    · assumption
    · extract_lets v0 v1 v2 v3
      clear_value v0 v1
      have hv2 : Good pq v2 := by
        unfold v2
        apply onBusy_good
        assumption
      clear_value v2
      have hv3 : Good pq v3 := by
        unfold v3
        refine foldl_good (fun _ _ _ => ?_) ?_
        · try dsimp -zeta only
          extract_lets v4 v5 v6
          clear_value v4 v5
          have hv6 : Good pq v6 := by
            unfold v6
            refine ite_good (fun _ => ?_) (fun _ => ?_)
            · apply latchProducer_good
              assumption
            · assumption
          clear_value v6
          refine ite_good (fun _ => ?_) (fun _ => ?_)
          · apply latchConsumer_good
            assumption
          · assumption
        · assumption
      clear_value v3
      apply restartPeaks_good
      assumption

theorem censusStart_good {pq : List Instr} {x0 : Nat} {x1 : Bool} {x2 : State} (hx2 : Good pq x2) : Good pq (censusStart x0 x1 x2) := by
  unfold censusStart
  extract_lets v0 v1 v2 v3
  clear_value v0 v1 v2
  have hv3 : Good pq v3 := by
    unfold v3
    apply onCen_good
    assumption
  clear_value v3
  refine foldl_good (fun _ _ _ => ?_) ?_
  · try dsimp -zeta only
    apply latchIsland_good
    assumption
  · assumption

theorem censusDue_good {pq : List Instr} {x0 : State} (hx0 : Good pq x0) : Good pq (censusDue x0) := by
  unfold censusDue
  split
  · refine ite_good (fun _ => ?_) (fun _ => ?_)
    · apply censusStart_good
      apply onCen_good
      assumption
    · assumption
  · assumption

theorem writeCells_good {pq : List Instr} {x0 : Nat} {x1 : Nat} {x2 : List Nat} {x3 : State} (hx3 : Good pq x3) : Good pq (writeCells x0 x1 x2 x3) := by
  unfold writeCells
  split
  · assumption
  · split
    · assumption
    · apply stkWrite_good
      assumption

theorem writeAll_good {pq : List Instr} {half n i : Nat} {l : List Nat} {s : State} (h : Good pq s) : Good pq (writeAll half n i l s) := by
  induction n generalizing i l s with
  | zero => exact h
  | succ n ih =>
    unfold writeAll
    split
    · exact h
    · exact ih (writeCells_good h)

theorem replaceHalf_good {pq : List Instr} {x0 : Nat} {x1 : State} (hx1 : Good pq x1) : Good pq (replaceHalf x0 x1) := by
  unfold replaceHalf
  refine onStk_good (fun _ hk => hk) ?_
  assumption

theorem censusBegin_good {pq : List Instr} {x0 : State} (hx0 : Good pq x0) : Good pq (censusBegin x0) := by
  unfold censusBegin
  split
  · assumption
  · refine ite_good (fun _ => ?_) (fun _ => ?_)
    · assumption
    · extract_lets v0 v1
      have hv0 : Good pq v0 := by
        unfold v0
        apply replaceHalf_good
        assumption
      clear_value v0 v1
      apply writeCells_good
      assumption

theorem islandLatch_good {pq : List Instr} {x0 : Fin 27} {x1 : State} (hx1 : Good pq x1) : Good pq (islandLatch x0 x1) := by
  unfold islandLatch
  extract_lets v0
  have hv0 : Good pq v0 := by
    unfold v0
    apply censusDue_good
    assumption
  clear_value v0
  split
  · assumption
  · refine ite_good (fun _ => ?_) (fun _ => ?_)
    · apply censusBegin_good
      apply latchIsland_good
      assumption
    · assumption

theorem execCensusIslandLatch_good {pq : List Instr} {x0 : Fin 27} {x1 : State} (hx1 : Good pq x1) : GoodOut pq (execCensusIslandLatch x0 x1) :=
  next_goodOut (islandLatch_good hx1)

theorem writeComplete_good {pq : List Instr} {x0 : State} (hx0 : Good pq x0) : Good pq (writeComplete x0) := by
  unfold writeComplete
  split
  · assumption
  · refine ite_good (fun _ => ?_) (fun _ => ?_)
    · assumption
    · extract_lets v0 v1 v2 v3 v4 v5 v6
      clear_value v0 v1 v2
      have hv3 : Good pq v3 := by
        unfold v3
        apply writeCells_good
        apply writeAll_good
        assumption
      clear_value v3 v4
      have hv5 : Good pq v5 := by
        unfold v5
        apply onCen_good
        assumption
      clear_value v5
      have hv6 : Good pq v6 := by
        unfold v6
        apply raise_good
        assumption
      clear_value v6
      refine ite_good (fun _ => ?_) (fun _ => ?_)
      · apply endTransition_good
        assumption
      · assumption

theorem execCensusWriteComplete_good {pq : List Instr} {x0 : State} (hx0 : Good pq x0) : GoodOut pq (execCensusWriteComplete x0) :=
  next_goodOut (writeComplete_good hx0)

theorem periodicInstant_good {pq : List Instr} {x0 : State} (hx0 : Good pq x0) : Good pq (periodicInstant x0) := by
  unfold periodicInstant
  extract_lets v0 v1 v2
  clear_value v0 v1
  have hv2 : Good pq v2 := by
    unfold v2
    apply censusDue_good
    assumption
  clear_value v2
  refine ite_good (fun _ => ?_) (fun _ => ?_)
  · assumption
  · split
    · apply censusStart_good
      assumption
    · refine ite_good (fun _ => ?_) (fun _ => ?_)
      · assumption
      · apply raise_good
        apply onCen_good
        assumption

theorem execCensusPeriodicInstant_good {pq : List Instr} {x0 : State} (hx0 : Good pq x0) : GoodOut pq (execCensusPeriodicInstant x0) :=
  next_goodOut (periodicInstant_good hx0)

theorem censusTake_good {pq : List Instr} {x0 : Request} {x1 : State} (hx1 : Good pq x1) : Good pq (censusTake x0 x1).1 := by
  unfold censusTake
  extract_lets v0 v1
  clear_value v0 v1
  refine ite_good_1 (fun _ => ?_) (fun _ => ?_)
  · refine Good.fst ?_
    assumption
  · refine ite_good_1 (fun _ => ?_) (fun _ => ?_)
    · refine Good.fst ?_
      assumption
    · refine ite_good_1 (fun _ => ?_) (fun _ => ?_)
      · refine Good.fst ?_
        assumption
      · refine ite_good_1 (fun _ => ?_) (fun _ => ?_)
        · refine Good.fst ?_
          assumption
        · refine Good.fst ?_
          apply beginTransition_good
          apply onCen_good
          assumption

theorem execCensusTake_good {pq : List Instr} {x0 : Request} {x1 : State} (hx1 : Good pq x1) : GoodOut pq (execCensusTake x0 x1) := by
  unfold execCensusTake
  refine next_goodOut ?_
  apply deskRun_good
  · intro a0 a1 ha2
    try dsimp -zeta only
    apply censusTake_good
    assumption
  · assumption

theorem censusSet_good {pq : List Instr} {x0 : Request} {x1 : State} (hx1 : Good pq x1) : Good pq (censusSet x0 x1).1 := by
  unfold censusSet
  extract_lets v0
  clear_value v0
  refine ite_good_1 (fun _ => ?_) (fun _ => ?_)
  · refine Good.fst ?_
    assumption
  · refine Good.fst ?_
    apply keepBody_good
    apply onCen_good
    assumption

theorem execCensusSet_good {pq : List Instr} {x0 : Request} {x1 : State} (hx1 : Good pq x1) : GoodOut pq (execCensusSet x0 x1) := by
  unfold execCensusSet
  refine next_goodOut ?_
  apply deskRun_good
  · intro a0 a1 ha2
    try dsimp -zeta only
    apply censusSet_good
    assumption
  · assumption

theorem execCensusStatus_good {pq : List Instr} {x0 : Request} {x1 : State} (hx1 : Good pq x1) : GoodOut pq (execCensusStatus x0 x1) := by
  unfold execCensusStatus
  refine next_goodOut ?_
  apply deskRun_good
  · intro a0 a1 ha2
    try dsimp -zeta only
    apply sCommand_good
    assumption
  · assumption

theorem takeRegister_good {pq : List Instr} {x0 : State} (hx0 : Good pq x0) : Good pq (takeRegister x0) := by
  unfold takeRegister
  refine ite_good (fun _ => ?_) (fun _ => ?_)
  · assumption
  · apply onCen_good
    assumption

theorem execCensusTakeRegister_good {pq : List Instr} {x0 : Path} {x1 : State} (hx1 : Good pq x1) : GoodOut pq (execCensusTakeRegister x0 x1) := by
  unfold execCensusTakeRegister
  refine next_goodOut ?_
  refine ite_good (fun _ => ?_) (fun _ => ?_)
  · apply takeRegister_good
    assumption
  · assumption

theorem holdWrite_good {pq : List Instr} {x0 : Bool} {x1 : State} (hx1 : Good pq x1) : Good pq (holdWrite x0 x1) := by
  unfold holdWrite
  apply onCen_good
  assumption

theorem execCensusHoldWrite_good {pq : List Instr} {x0 : Path} {x1 : Bool} {x2 : State} (hx2 : Good pq x2) : GoodOut pq (execCensusHoldWrite x0 x1 x2) := by
  unfold execCensusHoldWrite
  refine next_goodOut ?_
  refine ite_good (fun _ => ?_) (fun _ => ?_)
  · apply holdWrite_good
    assumption
  · assumption

/-! ### Sleep -/

theorem toState_good {pq : List Instr} {x0 : DevPower} {x1 : State} (hx1 : Good pq x1) : Good pq (toState x0 x1) := by
  unfold toState
  refine Good.lit ?_
  assumption

theorem stateDone_good {pq : List Instr} {x0 : DevPower} {x1 : State} (hx1 : Good pq x1) : Good pq (stateDone x0 x1) := by
  unfold stateDone
  apply raise_good
  assumption

theorem deviceSet_good {pq : List Instr} {x0 : Request} {x1 : State} (hx1 : Good pq x1) : Good pq (deviceSet x0 x1).1 := by
  unfold deviceSet
  extract_lets v0 v1 v2 v3
  have hv0 : v0.Sound := hx1.sound.desk
  clear_value v0 v1
  have hv2 : ∀ a4, Good pq (v2 a4).1 := by
    intro a4
    unfold v2
    try dsimp -zeta only
    refine ite_good_1 (fun _ => ?_) (fun _ => ?_)
    · refine Good.fst ?_
      assumption
    · refine ite_good_1 (fun _ => ?_) (fun _ => ?_)
      · refine Good.fst ?_
        assumption
      · refine Good.fst ?_
        exact ⟨hx1.queue, ⟨hx1.sound.chutes, hx1.sound.stk, hx1.sound.evt, hv0⟩⟩
  clear_value v2
  have hv3 : ∀ a5, Good pq (v3 a5).1 := by
    intro a5
    unfold v3
    try dsimp -zeta only
    refine ite_good_1 (fun _ => ?_) (fun _ => ?_)
    · refine Good.fst ?_
      assumption
    · refine Good.fst ?_
      apply stateDone_good
      apply onPwr_good
      apply toState_good
      assumption
  clear_value v3
  split
  · exact hv3 _
  · exact hv3 _
  · exact hv2 _
  · exact hv2 _
  · exact hv2 _
  · refine Good.fst ?_
    assumption

theorem execPowerDeviceSet_good {pq : List Instr} {x0 : Request} {x1 : State} (hx1 : Good pq x1) : GoodOut pq (execPowerDeviceSet x0 x1) := by
  unfold execPowerDeviceSet
  refine next_goodOut ?_
  apply deskRun_good
  · intro a0 a1 ha2
    try dsimp -zeta only
    apply deviceSet_good
    assumption
  · assumption

theorem execIdleCoreWake_good {pq : List Instr} {x0 : State} (hx0 : Good pq x0) : GoodOut pq (execIdleCoreWake x0) :=
  next_goodOut (onPwr_good hx0)

theorem entryDrained_good {pq : List Instr} {x0 : State} (hx0 : Good pq x0) : Good pq (entryDrained x0) := by
  unfold entryDrained
  split
  · assumption
  · refine ite_good (fun _ => ?_) (fun _ => ?_)
    · assumption
    · extract_lets v0 v1
      clear_value v0
      have hv1 : Good pq v1 := by
        unfold v1
        refine foldl_good (fun _ _ _ => ?_) ?_
        · try dsimp -zeta only
          apply requestDomain_good
          assumption
        · apply onPwr_good
          assumption
      clear_value v1
      refine ite_good (fun _ => ?_) (fun _ => ?_)
      · apply onPwr_good
        assumption
      · assumption

theorem execSleepEntryDrained_good {pq : List Instr} {x0 : State} (hx0 : Good pq x0) : GoodOut pq (execSleepEntryDrained x0) :=
  next_goodOut (entryDrained_good hx0)

theorem coldWake_good {pq : List Instr} {x0 : State} (hx0 : Good pq x0) : Good pq (coldWake x0) := by
  unfold coldWake
  extract_lets v0 v1 v2
  have hv0 : Good pq v0 := by
    unfold v0
    apply powerOn_good
    assumption
  clear_value v0 v1 v2
  refine Good.lit ?_
  assumption

theorem wakeBoot_good {pq : List Instr} {x0 : Bool} {x1 : State} (hx1 : Good pq x1) : Good pq (wakeBoot x0 x1) := by
  unfold wakeBoot
  refine ite_good (fun _ => ?_) (fun _ => ?_)
  · apply coldWake_good
    assumption
  · apply bootUp_good
    extract_lets v2 v3
    clear_value v2 v3
    refine Good.lit ?_
    assumption

theorem beginExit_good {pq : List Instr} {x0 : State} (hx0 : Good pq x0) : Good pq (beginExit x0) := by
  unfold beginExit
  split
  · refine foldl_good (fun _ _ _ => ?_) ?_
    · try dsimp -zeta only
      apply requestDomain_good
      assumption
    · apply startStages_good
      apply onPwr_good
      assumption
  · apply wakeBoot_good
    assumption
  · apply wakeBoot_good
    assumption
  · assumption
  · assumption

theorem coreFloor_good {pq : List Instr} {x0 : State} (hx0 : Good pq x0) : Good pq (coreFloor x0) := by
  unfold coreFloor
  apply onRail_good
  assumption

theorem restNow_good {pq : List Instr} {x0 : DevPower} {x1 : State} (hx1 : Good pq x1) : Good pq (restNow x0 x1) := by
  unfold restNow
  extract_lets v0 v1
  clear_value v0
  have hv1 : Good pq v1 := by
    unfold v1
    split
    · apply intoDeep_good
      assumption
    · apply intoOff_good
      assumption
    · apply stateDone_good
      apply coreFloor_good
      apply toState_good
      apply onPwr_good
      assumption
  clear_value v1
  refine ite_good (fun _ => ?_) (fun _ => ?_)
  · apply beginExit_good
    assumption
  · assumption

end Sys2Proof.Machine
end

