-- ==== Sys2Proof/Laws/Rows.lean ====
section
/-! SUPPORT. Each effect of Sys2Proof/Machine/ in the files named below leaves the queue of commands alone and keeps a state sound:
Sleep, Device, Pm, Registers, Dispatch, Step. -/

namespace Sys2Proof.Machine

/-! ### Sleep -/

theorem restCheck_good {pq : List Instr} {x0 : State} (hx0 : Good pq x0) : Good pq (restCheck x0) := by
  unfold restCheck
  split
  · refine ite_good (fun _ => ?_) (fun _ => ?_)
    · apply restNow_good
      assumption
    · assumption
  · assumption

theorem sleepCommit_good {pq : List Instr} {x0 : State} (hx0 : Good pq x0) : Good pq (sleepCommit x0) := by
  unfold sleepCommit
  split
  · assumption
  · refine ite_good (fun _ => ?_) (fun _ => ?_)
    · assumption
    · extract_lets v0 v1 v2 v3 v4
      have hv0 : Good pq v0 := by
        unfold v0
        apply onPwr_good
        assumption
      clear_value v0
      have hv1 : Good pq v1 := by
        unfold v1
        apply onHouse_good
        assumption
      clear_value v1
      have hv2 : Good pq v2 := by
        unfold v2
        apply safetyLeave_good
        apply safetyLeave_good
        assumption
      clear_value v2
      have hv3 : Good pq v3 := by
        unfold v3
        refine foldl_good (fun _ _ _ => ?_) ?_
        · try dsimp -zeta only
          apply octetDown_good
          assumption
        · assumption
      clear_value v3 v4
      apply restCheck_good
      apply queueStages_good
      refine foldl_good (fun _ _ _ => ?_) ?_
      · try dsimp -zeta only
        apply requestDomain_good
        assumption
      · assumption

theorem execSleepCommit_good {pq : List Instr} {x0 : State} (hx0 : Good pq x0) : GoodOut pq (execSleepCommit x0) :=
  next_goodOut (sleepCommit_good hx0)

theorem execAdmissionStageStart_good {pq : List Instr} {x0 : State} (hx0 : Good pq x0) : GoodOut pq (execAdmissionStageStart x0) := by
  unfold execAdmissionStageStart
  refine next_goodOut ?_
  apply restCheck_good
  apply admissionStart_good
  assumption

theorem execPowerGoodTimeout_good {pq : List Instr} {x0 : Fin 20} {x1 : State} (hx1 : Good pq x1) : GoodOut pq (execPowerGoodTimeout x0 x1) := by
  unfold execPowerGoodTimeout
  refine next_goodOut ?_
  apply restCheck_good
  apply domainFail_good
  assumption

theorem execVoutSettleTimeout_good {pq : List Instr} {x0 : Fin 16} {x1 : State} (hx1 : Good pq x1) : GoodOut pq (execVoutSettleTimeout x0 x1) := by
  unfold execVoutSettleTimeout
  refine next_goodOut ?_
  apply restCheck_good
  apply voutSettleTimeout_good
  assumption

theorem noteOther_good {pq : List Instr} {x0 : Nat} {x1 : State} (hx1 : Good pq x1) : Good pq (noteOther x0 x1) := by
  unfold noteOther
  apply onPwr_good
  assumption

theorem abandonEntry_good {pq : List Instr} {x0 : DevPower} {x1 : Nat} {x2 : State} (hx2 : Good pq x2) : Good pq (abandonEntry x0 x1 x2) := by
  unfold abandonEntry
  extract_lets v0 v1
  clear_value v0
  have hv1 : Good pq v1 := by
    unfold v1
    apply onPwr_good
    assumption
  clear_value v1
  refine foldl_good (fun _ _ _ => ?_) ?_
  · try dsimp -zeta only
    apply requestDomain_good
    assumption
  · assumption

theorem firstSource_good {pq : List Instr} {x0 : DevPower} {x1 : Nat} {x2 : Nat} {x3 : State} (hx3 : Good pq x3) : Good pq (firstSource x0 x1 x2 x3) := by
  unfold firstSource
  extract_lets v0
  clear_value v0
  apply onPwr_good
  assumption

theorem wakeLatch_good {pq : List Instr} {x0 : Fin 6} {x1 : Nat} {x2 : State} (hx2 : Good pq x2) : Good pq (wakeLatch x0 x1 x2) := by
  unfold wakeLatch
  extract_lets v0
  clear_value v0
  split
  · refine ite_good (fun _ => ?_) (fun _ => ?_)
    · assumption
    · refine ite_good (fun _ => ?_) (fun _ => ?_)
      · apply noteOther_good
        assumption
      · refine ite_good (fun _ => ?_) (fun _ => ?_)
        · apply firstSource_good
          assumption
        · apply abandonEntry_good
          assumption
  · refine ite_good (fun _ => ?_) (fun _ => ?_)
    · refine ite_good (fun _ => ?_) (fun _ => ?_)
      · apply noteOther_good
        assumption
      · assumption
    · refine ite_good (fun _ => ?_) (fun _ => ?_)
      · apply beginExit_good
        apply firstSource_good
        assumption
      · assumption

theorem execWakeSourceLatch_good {pq : List Instr} {x0 : Fin 6} {x1 : Nat} {x2 : State} (hx2 : Good pq x2) : GoodOut pq (execWakeSourceLatch x0 x1 x2) :=
  next_goodOut (wakeLatch_good hx2)

theorem exitComplete_good {pq : List Instr} {x0 : Nat} {x1 : State} (hx1 : Good pq x1) : Good pq (exitComplete x0 x1) := by
  unfold exitComplete
  extract_lets v0 v1 v2 v3 v4 v5 v6 v7
  clear_value v0 v1 v2 v3
  have hv4 : v4.Sound := hx1.sound.desk
  clear_value v4
  have hv5 : Good pq v5 := by
    unfold v5
    apply toState_good
    exact ⟨hx1.queue, ⟨hx1.sound.chutes, hx1.sound.stk, hx1.sound.evt, hv4⟩⟩
  clear_value v5
  have hv6 : Good pq v6 := by
    unfold v6
    apply onPwr_good
    assumption
  clear_value v6
  have hv7 : Good pq v7 := by
    unfold v7
    apply raise_good
    assumption
  clear_value v7
  refine ite_good (fun _ => ?_) (fun _ => ?_)
  · assumption
  · refine ite_good (fun _ => ?_) (fun _ => ?_)
    · assumption
    · apply stateDone_good
      assumption

theorem execWakeExitComplete_good {pq : List Instr} {x0 : Nat} {x1 : State} (hx1 : Good pq x1) : GoodOut pq (execWakeExitComplete x0 x1) :=
  next_goodOut (exitComplete_good hx1)

theorem restoreHw_good {pq : List Instr} {x0 : SaveHw} {x1 : State} (hx1 : Good pq x1) : Good pq (restoreHw x0 x1) := by
  unfold restoreHw
  extract_lets v0 v1 v2
  have hv0 : v0.Sound := hx1.sound.desk
  clear_value v0
  have hv1 : v1.sound = true := hx1.sound.evt
  clear_value v1 v2
  refine ⟨hx1.queue, ⟨hx1.sound.chutes, hx1.sound.stk, hv1, fun ch => ?_⟩⟩
  have e : ∀ f : Fin 4 → Channel, (Vector.ofFn f)[ch] = f ch := fun f => by simp
  exact (congrArg Channel.sound (e _)).trans (hx1.sound.desk ch)

theorem restoreBody_good {pq : List Instr} {x0 : State} {x1 : BodyVal} (hx0 : Good pq x0) : Good pq (restoreBody x0 x1) := by
  unfold restoreBody
  extract_lets v0
  clear_value v0
  refine ite_good (fun _ => ?_) (fun _ => ?_)
  · apply pmbusRailSet_good
    assumption
  · refine ite_good (fun _ => ?_) (fun _ => ?_)
    · apply gpioSet_good
      assumption
    · refine ite_good (fun _ => ?_) (fun _ => ?_)
      · apply monRefSet_good
        assumption
      · refine ite_good (fun _ => ?_) (fun _ => ?_)
        · apply monChannelSet_good
          assumption
        · refine ite_good (fun _ => ?_) (fun _ => ?_)
          · apply censusSet_good
            assumption
          · refine ite_good (fun _ => ?_) (fun _ => ?_)
            · apply wakeSet_good
              assumption
            · apply keepBody_good
              assumption

theorem restoreFw_good {pq : List Instr} {x0 : SaveFw} {x1 : State} (hx1 : Good pq x1) : Good pq (restoreFw x0 x1) := by
  unfold restoreFw
  extract_lets v0 v1
  clear_value v0
  have hv1 : Good pq v1 := by
    unfold v1
    refine foldl_good (fun _ _ _ => ?_) ?_
    · try dsimp -zeta only
      apply restoreBody_good
      assumption
    · refine Good.lit ?_
      assumption
  clear_value v1
  apply retarget_good
  apply onTime_good
  assumption

theorem restoreSaves_good {pq : List Instr} {x0 : State} (hx0 : Good pq x0) : Good pq (restoreSaves x0) := by
  unfold restoreSaves
  extract_lets v0 v1 v2 v3
  clear_value v0 v1
  have hv2 : Good pq v2 := by
    unfold v2
    apply onPwr_good
    assumption
  clear_value v2
  have hv3 : Good pq v3 := by
    unfold v3
    split
    · apply restoreHw_good
      assumption
    · assumption
  clear_value v3
  split
  · apply restoreFw_good
    assumption
  · assumption

theorem loadOsc_good {pq : List Instr} {x0 : State} (hx0 : Good pq x0) : Good pq (loadOsc x0) := by
  unfold loadOsc
  extract_lets v0 v1
  clear_value v0 v1
  apply onTime_good
  assumption

theorem bootReports_good {pq : List Instr} {x0 : State} (hx0 : Good pq x0) : Good pq (bootReports x0) := by
  unfold bootReports
  extract_lets v0 v1 v2 v3 v4 v5 v6
  have hv0 : Good pq v0 := by
    unfold v0
    split
    · apply raise_good
      apply onBoot_good
      assumption
    · assumption
  clear_value v0
  have hv1 : Good pq v1 := by
    unfold v1
    refine foldl_good (fun _ _ _ => ?_) ?_
    · try dsimp -zeta only
      apply raise_good
      assumption
    · assumption
  clear_value v1
  have hv2 : Good pq v2 := by
    unfold v2
    apply raiseIf_good
    assumption
  clear_value v2
  have hv3 : Good pq v3 := by
    unfold v3
    split
    · apply raise_good
      assumption
    · assumption
  clear_value v3 v4 v5 v6
  refine Good.lit ?_
  assumption

theorem eraseOther_good {pq : List Instr} {x0 : State} (hx0 : Good pq x0) : Good pq (eraseOther x0) := by
  unfold eraseOther
  extract_lets v0 v1 v2
  clear_value v0 v1 v2
  refine ite_good (fun _ => ?_) (fun _ => ?_)
  · assumption
  · refine Good.lit ?_
    assumption

theorem map_chans_sound {v : Vector Channel 4} {f : Channel → Channel} (hf : ∀ c, c.sound = true → (f c).sound = true)
    (h : ∀ ch : Fin 4, v[ch].sound = true) (ch : Fin 4) : (v.map f)[ch].sound = true := by
  rw [show (v.map f)[ch] = f v[ch] by simp]
  exact hf _ (h ch)

theorem yozonReady_good {pq : List Instr} {x0 : State} (hx0 : Good pq x0) : Good pq (yozonReady x0) := by
  unfold yozonReady
  refine ite_good (fun _ => ?_) (fun _ => ?_)
  · assumption
  · extract_lets v0 v1 v2 v3 v4 v5
    clear_value v0 v1
    have hv2 : Good pq v2 := by
      unfold v2
      apply loadOsc_good
      refine Good.lit ?_
      assumption
    clear_value v2
    have hv3 : Good pq v3 := by
      unfold v3
      refine ite_good (fun _ => ?_) (fun _ => ?_)
      · apply restoreSaves_good
        assumption
      · apply onPwr_good
        assumption
    clear_value v3
    have hv4 : Good pq v4 := by
      unfold v4
      apply eraseOther_good
      apply bootReports_good
      assumption
    clear_value v4
    have hv5 : v5.Sound := hv4.sound.desk
    clear_value v5
    apply driveAll_good
    refine ⟨hv4.queue, ⟨hv4.sound.chutes, hv4.sound.stk, hv4.sound.evt, fun ch => ?_⟩⟩
    exact map_chans_sound (f := fun c => { c with ready := true }) (fun c hc => hc) hv4.sound.desk ch

theorem execYozonReady_good {pq : List Instr} {x0 : State} (hx0 : Good pq x0) : GoodOut pq (execYozonReady x0) :=
  next_goodOut (yozonReady_good hx0)

/-! ### Device -/

theorem deviceInfo_good {pq : List Instr} {x0 : Request} {x1 : State} (hx1 : Good pq x1) : Good pq (deviceInfo x0 x1).1 := by
  unfold deviceInfo
  extract_lets v0
  clear_value v0
  refine Good.fst ?_
  assumption

theorem execDeviceInfo_good {pq : List Instr} {x0 : Request} {x1 : State} (hx1 : Good pq x1) : GoodOut pq (execDeviceInfo x0 x1) := by
  unfold execDeviceInfo
  refine next_goodOut ?_
  apply deskRun_good
  · intro a0 a1 ha2
    try dsimp -zeta only
    apply deviceInfo_good
    assumption
  · assumption

theorem framerDown_good {pq : List Instr} {x0 : Mode} {x1 : State} (hx1 : Good pq x1) : Good pq (framerDown x0 x1) := by
  unfold framerDown
  refine ite_good (fun _ => ?_) (fun _ => ?_)
  · refine foldl_good (fun _ _ _ => ?_) ?_
    · try dsimp -zeta only
      apply requestDomain_good
      assumption
    · assumption
  · assumption

theorem deviceProvision_good {pq : List Instr} {x0 : Request} {x1 : State} (hx1 : Good pq x1) : Good pq (deviceProvision x0 x1).1 := by
  unfold deviceProvision
  split
  · refine Good.fst ?_
    assumption
  · refine ite_good_1 (fun _ => ?_) (fun _ => ?_)
    · refine Good.fst ?_
      assumption
    · extract_lets v0
      have hv0 (l : List (Nat × Nat)) : ∀ (x : Except Nat State) (u : State), (∀ w, x = .ok w → Good pq w) → l.foldl v0 x = .ok u → Good pq u := by
        induction l with
        | nil => exact fun x u hx e => hx u e
        | cons y r ih =>
          intro x u hx e
          refine ih (v0 x y) u (fun w hw => ?_) e
          unfold v0 at hw
          split at hw
          · next z => exact allocRegion_good hw (hx z rfl)
          · cases hw
      split
      · exact hx1
      · next e =>
        refine Good.fst ?_
        apply pmSync_good
        apply framerDown_good
        apply keepBody_good
        apply assignSubs_good
        apply assignSubs_good
        refine Good.lit ?_
        refine hv0 _ _ _ (fun w hw => ?_) e
        injection hw with hw
        subst hw
        exact freeRegion_good (freeRegion_good (freeRegion_good hx1))

theorem execDeviceProvision_good {pq : List Instr} {x0 : Request} {x1 : State} (hx1 : Good pq x1) : GoodOut pq (execDeviceProvision x0 x1) := by
  unfold execDeviceProvision
  refine next_goodOut ?_
  apply deskRun_good
  · intro a0 a1 ha2
    try dsimp -zeta only
    apply deviceProvision_good
    assumption
  · assumption

theorem readP_good {pq : List Instr} {x0 : Nat} {x1 : Request} {x2 : State} (hx2 : Good pq x2) : Good pq (readP x0 x1 x2).1 := by
  unfold readP
  extract_lets v0
  clear_value v0
  refine ite_good_1 (fun _ => ?_) (fun _ => ?_)
  · refine Good.fst ?_
    assumption
  · refine Good.fst ?_
    assumption

theorem readR_good {pq : List Instr} {x0 : Nat} {x1 : Request} {x2 : State} (hx2 : Good pq x2) : Good pq (readR x0 x1 x2).1 := by
  unfold readR
  extract_lets v0
  clear_value v0
  refine ite_good_1 (fun _ => ?_) (fun _ => ?_)
  · refine Good.fst ?_
    assumption
  · split
    · refine Good.fst ?_
      assumption
    · refine Good.fst ?_
      assumption

theorem readForm_good {pq : List Instr} {x0 : Nat} {x1 : Request} {x2 : State} (hx2 : Good pq x2) : Good pq (readForm x0 x1 x2).1 := by
  unfold readForm
  split
  · refine ite_good_1 (fun _ => ?_) (fun _ => ?_)
    · apply readP_good
      assumption
    · apply readR_good
      assumption
  · refine Good.fst ?_
    assumption

theorem execReadingForm_good {pq : List Instr} {x0 : Nat} {x1 : Request} {x2 : State} (hx2 : Good pq x2) : GoodOut pq (execReadingForm x0 x1 x2) := by
  unfold execReadingForm
  refine next_goodOut ?_
  apply deskRun_good
  · intro a0 a1 ha2
    try dsimp -zeta only
    apply readForm_good
    assumption
  · assumption

/-- Every row of heldLine keeps a sound state. -/
theorem heldLine_good {r : HeldRow} (hr : r ∈ heldLine) {pq : List Instr} {q : Request} {x : HeldExtra} {s : State} (h : Good pq s) :
    GoodOut pq (r.2 q x s) := by
  unfold heldLine at hr
  simp only [List.mem_cons, List.not_mem_nil, or_false] at hr
  rcases hr with rfl | rfl | rfl | rfl | rfl | rfl | rfl | rfl | rfl | rfl | rfl | rfl | rfl | rfl | rfl | rfl | rfl | rfl | rfl | rfl | rfl | rfl | rfl | rfl | rfl | rfl
  · exact execDeviceProvision_good h
  · exact execCarrierProvision_good h
  · exact execCarrierEnable_good h
  · exact execCarrierDisable_good h
  · exact execConvCalibrate_good h
  · exact execConvRotationSet_good h
  · exact execConvSliceRetire_good h
  · exact execRxdspSet_good h
  · exact execRxdspCdHint_good h
  · exact execRxdspReacquire_good h
  · exact execBitloadPolicySet_good h
  · exact execBitloadTableSet_good h
  · exact execBitloadCurveSet_good h
  · exact execTxdspSet_good h
  · exact execTxdspPredistSet_good h
  · exact execDecodeSet_good h
  · exact execDecodePoolRemove_good h
  · exact execDecodePoolRestore_good h
  · exact execDecodeReaderEnable_good h
  · exact execInterloanSet_good h
  · exact execInterloanScheduleSet_good h
  · exact execInterloanSend_good h
  · exact execInterloanRecv_good h
  · exact execCryptSet_good h
  · exact execCryptPeerSet_good h
  · exact execCryptRekey_good h

/-- Every row of heldClient keeps a sound state. -/
theorem heldClient_good {r : HeldRow} (hr : r ∈ heldClient) {pq : List Instr} {q : Request} {x : HeldExtra} {s : State} (h : Good pq s) :
    GoodOut pq (r.2 q x s) := by
  unfold heldClient at hr
  simp only [List.mem_cons, List.not_mem_nil, or_false] at hr
  rcases hr with rfl | rfl | rfl | rfl | rfl | rfl | rfl | rfl | rfl | rfl | rfl | rfl | rfl | rfl | rfl | rfl | rfl | rfl | rfl | rfl | rfl | rfl | rfl | rfl | rfl | rfl | rfl | rfl | rfl
  · exact execFramerProvision_good h
  · exact execFramerDeprovision_good h
  · exact execFramerSet_good h
  · exact execFramerOhSet_good h
  · exact execFramerMaintSet_good h
  · exact execMapTribAdd_good h
  · exact execMapTribRemove_good h
  · exact execSwitchConnect_good h
  · exact execSwitchDisconnect_good h
  · exact execProtProvision_good h
  · exact execProtCommand_good h
  · exact execProtRealign_good h
  · exact execStacksInit_good h
  · exact execStacksSet_good h
  · exact execStacksRetire_good h
  · exact execStacksTrackerClear_good h
  · exact execStacksWordRead_good h
  · exact execTimeProvision_good h
  · exact execTimeRefTableSet_good h
  · exact execTimeRefCommand_good h
  · exact execTimeLoCompSet_good h
  · exact execTimeLoLearn_good h
  · exact execTimeSourceSet_good h
  · exact execTimeSet_good h
  · exact execTimeAdjust_good h
  · exact execTimeLinkSet_good h
  · exact execTimePpsSet_good h
  · exact execTimeTest_good h
  · exact execPtpTcSet_good h

/-- Every row of heldHouse keeps a sound state. -/
theorem heldHouse_good {r : HeldRow} (hr : r ∈ heldHouse) {pq : List Instr} {q : Request} {x : HeldExtra} {s : State} (h : Good pq s) :
    GoodOut pq (r.2 q x s) := by
  unfold heldHouse at hr
  simp only [List.mem_cons, List.not_mem_nil, or_false] at hr
  rcases hr with rfl | rfl | rfl | rfl | rfl | rfl | rfl | rfl | rfl | rfl | rfl | rfl | rfl | rfl | rfl | rfl | rfl | rfl | rfl | rfl | rfl | rfl | rfl
  · exact execLaneProvision_good h
  · exact execLaneDeprovision_good h
  · exact execLaneSet_good h
  · exact execLaneTestSet_good h
  · exact execLaneLoopbackSet_good h
  · exact execLaneMateRetrain_good h
  · exact execCensusTake_good h
  · exact execCensusSet_good h
  · exact execPowerDeviceSet_good h
  · exact execPowerDomainSet_good h
  · exact execPowerWakeSet_good h
  · exact execMonRefSet_good h
  · exact execMonChannelSet_good h
  · exact execMonRead_good h
  · exact execPmbusRailSet_good h
  · exact execGpioSet_good h
  · exact execSecAttest_good h
  · exact execFwLoad_good h
  · exact execFwActivate_good h
  · exact execFwCommit_good h
  · exact execCatalogueReset_good h
  · exact execMateProvision_good h
  · exact execMateCommand_good h

theorem holdRelease_good {pq : List Instr} {ch : Fin 4} {tag : Word16} {x : HeldExtra} {s : State} (h : Good pq s) :
    GoodOut pq (holdRelease ch tag x s) := by
  unfold holdRelease
  split
  · exact next_goodOut h
  · refine ite_goodOut (fun _ => ?_) (fun _ => next_goodOut h)
    split
    · next r e =>
      have hr := List.mem_of_find?_eq_some e
      simp only [List.mem_append] at hr
      rcases hr with (hr | hr) | hr
      · exact heldLine_good hr h
      · exact heldClient_good hr h
      · exact heldHouse_good hr h
    · exact next_goodOut h

theorem execHoldRelease_good {pq : List Instr} {x0 : Fin 4} {x1 : Word16} {x2 : HeldExtra} {s : State} (h : Good pq s) :
    GoodOut pq (execHoldRelease x0 x1 x2 s) := holdRelease_good h

/-! ### Pm -/

theorem pmSecond_good {pq : List Instr} {x0 : Nat × Nat × Nat} {x1 : Nat} {x2 : Nat} {x3 : Nat} {x4 : Bool} {x5 : Bool} {x6 : State} (hx6 : Good pq x6) : Good pq (pmSecond x0 x1 x2 x3 x4 x5 x6) := by
  unfold pmSecond
  apply onCen_good
  assumption

theorem pmResults_good {pq : List Instr} {x0 : FramerId} {x1 : Framer} {x2 : Nat} {x3 : State} (hx3 : Good pq x3) : Good pq (pmResults x0 x1 x2 x3) := by
  unfold pmResults
  split
  · refine ite_good (fun _ => ?_) (fun _ => ?_)
    · apply pmSecond_good
      assumption
    · refine foldl_good (fun _ _ _ => ?_) ?_
      · try dsimp -zeta only
        extract_lets v0
        clear_value v0
        apply pmSecond_good
        assumption
      · assumption
  · refine foldl_good (fun _ _ _ => ?_) ?_
    · try dsimp -zeta only
      refine foldl_good (fun _ _ _ => ?_) ?_
      · try dsimp -zeta only
        extract_lets v1
        clear_value v1
        apply pmSecond_good
        assumption
      · assumption
    · assumption
  · extract_lets v2
    clear_value v2
    apply pmSecond_good
    assumption

theorem pmSecondClose_good {pq : List Instr} {x0 : FramerId} {x1 : Nat} {x2 : RsSeen} {x3 : State} (hx3 : Good pq x3) : Good pq (pmSecondClose x0 x1 x2 x3) := by
  unfold pmSecondClose
  split
  · assumption
  · extract_lets v0 v1
    try clear_value v0
    have hv1 : Good pq v1 := by
      unfold v1
      apply onFramer_good
      apply pmResults_good
      assumption
    try clear_value v1
    split
    · apply protSecond_good
      assumption
    · assumption

theorem execPmSecondClose_good {pq : List Instr} {x0 : FramerId} {x1 : Nat} {x2 : RsSeen} {x3 : State} (hx3 : Good pq x3) : GoodOut pq (execPmSecondClose x0 x1 x2 x3) := by
  unfold execPmSecondClose
  refine next_goodOut ?_
  apply pmSecondClose_good
  assumption

theorem pmSecondDecide_good {pq : List Instr} {x0 : FramerId} {x1 : State} (hx1 : Good pq x1) : Good pq (pmSecondDecide x0 x1) := by
  unfold pmSecondDecide
  extract_lets v0 v1
  clear_value v0 v1
  apply onCen_good
  assumption

theorem execPmSecondDecide_good {pq : List Instr} {x0 : FramerId} {x1 : State} (hx1 : Good pq x1) : GoodOut pq (execPmSecondDecide x0 x1) :=
  next_goodOut (pmSecondDecide_good hx1)

theorem pmBinBoundary_good {pq : List Instr} {x0 : Bool} {x1 : State} (hx1 : Good pq x1) : Good pq (pmBinBoundary x0 x1) := by
  unfold pmBinBoundary
  refine ite_good (fun _ => ?_) (fun _ => ?_)
  · apply pmShift_good
    assumption
  · assumption

theorem execPmBinBoundary_good {pq : List Instr} {x0 : Bool} {x1 : State} (hx1 : Good pq x1) : GoodOut pq (execPmBinBoundary x0 x1) :=
  next_goodOut (pmBinBoundary_good hx1)

/-! ### Registers -/

theorem blockWrite_good {pq : List Instr} {x0 : Path} {x1 : Fin 4} {x2 : Nat} {x3 : Word32} {x4 : State} (hx4 : Good pq x4) : GoodOut pq (blockWrite x0 x1 x2 x3 x4) := by
  unfold blockWrite
  refine ite_goodOut (fun _ => ?_) (fun _ => ?_)
  · apply execDeskReqTailWrite_good
    assumption
  · refine ite_goodOut (fun _ => ?_) (fun _ => ?_)
    · apply execDeskRspHeadWrite_good
      assumption
    · refine ite_goodOut (fun _ => ?_) (fun _ => ?_)
      · apply execDeskChReset_good
        assumption
      · refine ite_goodOut (fun _ => ?_) (fun _ => ?_)
        · apply chStatusWrite_good
          assumption
        · refine next_goodOut ?_
          assumption

theorem writeRoute_sound {e : EventTree} {g r : Nat} {v : Word32} (h : e.sound = true) : (e.writeRoute g r v).sound = true := h

theorem evtWrite_good {pq : List Instr} {x0 : Path} {x1 : Nat} {x2 : Word32} {x3 : State} (hx3 : Good pq x3) : GoodOut pq (evtWrite x0 x1 x2 x3) := by
  unfold evtWrite
  refine ite_goodOut (fun _ => ?_) (fun _ => ?_)
  · refine next_goodOut ?_
    extract_lets v0
    have hv0 : v0.sound = true := hx3.sound.evt
    try clear_value v0
    exact ⟨hx3.queue, ⟨hx3.sound.chutes, hx3.sound.stk, hv0, hx3.sound.desk⟩⟩
  · split
    · extract_lets v1 v2
      try clear_value v1
      try clear_value v2
      refine ite_goodOut (fun _ => ?_) (fun _ => ?_)
      · apply execEvtStatusWrite_good
        assumption
      · refine ite_goodOut (fun _ => ?_) (fun _ => ?_)
        · apply execEvtEnWrite_good
          assumption
        · refine ite_goodOut (fun _ => ?_) (fun _ => ?_)
          · apply execEvtForceWrite_good
            assumption
          · refine ite_goodOut (fun _ => ?_) (fun _ => ?_)
            · refine next_goodOut ?_
              exact litEvt_good (writeRoute_sound hx3.sound.evt) hx3
            · refine next_goodOut ?_
              assumption
    · refine next_goodOut ?_
      assumption

theorem censusWrite_good {pq : List Instr} {x0 : Nat} {x1 : Word32} {x2 : State} (hx2 : Good pq x2) : Good pq (censusWrite x0 x1 x2) := by
  unfold censusWrite
  refine ite_good (fun _ => ?_) (fun _ => ?_)
  · extract_lets v0
    have hv0 : Good pq v0 := by
      unfold v0
      apply holdWrite_good
      assumption
    clear_value v0
    refine ite_good (fun _ => ?_) (fun _ => ?_)
    · apply takeRegister_good
      assumption
    · assumption
  · refine ite_good (fun _ => ?_) (fun _ => ?_)
    · apply onCen_good
      assumption
    · apply onCen_good
      assumption

theorem msix_sound {e : EventTree} {m : Vector MsixEntry 32} (h : e.sound = true) : EventTree.sound { e with msix := m } = true := h

theorem msixWrite_good {pq : List Instr} {off : Nat} {v : Word32} {s : State} (h : Good pq s) : Good pq (msixWrite off v s) := by
  unfold msixWrite
  split
  · exact h
  · exact litEvt_good (unmasked_sound (msix_sound h.sound.evt)) h

theorem apWrite_good {pq : List Instr} {x0 : Nat} {x1 : Word32} {x2 : State} (hx2 : Good pq x2) : Good pq (apWrite x0 x1 x2) := by
  unfold apWrite
  extract_lets v0
  clear_value v0
  refine ite_good (fun _ => ?_) (fun _ => ?_)
  · refine Good.lit ?_
    assumption
  · refine ite_good (fun _ => ?_) (fun _ => ?_)
    · refine Good.lit ?_
      assumption
    · refine ite_good (fun _ => ?_) (fun _ => ?_)
      · refine Good.lit ?_
        assumption
      · assumption

theorem windowWrite_good {pq : List Instr} {c : Fin 4} {off : Nat} {v : Word32} {s : State} (h : Good pq s) : Good pq (windowWrite c off v s) :=
  onChan_good (fun _ hx => channel_iff.2 ⟨(channel_iff.1 hx).1, cellsOk_put (channel_iff.1 hx).2⟩) h

theorem regWrite_good {pq : List Instr} {x0 : Path} {x1 : Nat} {x2 : Word32} {x3 : State} (hx3 : Good pq x3) : GoodOut pq (regWrite x0 x1 x2 x3) := by
  unfold regWrite
  refine ite_goodOut (fun _ => ?_) (fun _ => ?_)
  · refine next_goodOut ?_
    assumption
  · refine ite_goodOut (fun _ => ?_) (fun _ => ?_)
    · exact fault_goodOut
    · split
      · apply blockWrite_good
        assumption
      · refine next_goodOut ?_
        apply windowWrite_good
        assumption
      · refine ite_goodOut (fun _ => ?_) (fun _ => ?_)
        · apply execBootResetWrite_good
          assumption
        · refine ite_goodOut (fun _ => ?_) (fun _ => ?_)
          · refine next_goodOut ?_
            assumption
          · refine ite_goodOut (fun _ => ?_) (fun _ => ?_)
            · apply evtWrite_good
              assumption
            · refine ite_goodOut (fun _ => ?_) (fun _ => ?_)
              · refine next_goodOut ?_
                apply censusWrite_good
                assumption
              · refine ite_goodOut (fun _ => ?_) (fun _ => ?_)
                · refine next_goodOut ?_
                  apply msixWrite_good
                  assumption
                · refine next_goodOut ?_
                  apply apWrite_good
                  assumption

theorem execRegisterWrite_good {pq : List Instr} {x0 : Path} {x1 : Fin 262144} {x2 : Word32} {x3 : State} (hx3 : Good pq x3) : GoodOut pq (execRegisterWrite x0 x1 x2 x3) := by
  unfold execRegisterWrite
  apply regWrite_good
  assumption

theorem spiEnd_good {pq : List Instr} {x0 : Bool} {x1 : List Byte} {x2 : State} (hx2 : Good pq x2) : Good pq (spiEnd x0 x1 x2) := by
  unfold spiEnd
  extract_lets v0
  clear_value v0
  refine Good.lit ?_
  assumption

theorem spiWords_good {pq : List Instr} {n off : Nat} {bs : List Byte} {s : State} (h : Good pq s) : GoodOut pq (spiWords n off bs s) := by
  induction n generalizing off bs s with
  | zero => exact next_goodOut h
  | succ n ih =>
    unfold spiWords
    split
    · next e => exact ih (regWrite_good h _ e)
    · exact fault_goodOut
    · exact refused_goodOut

theorem spiWrite_good {pq : List Instr} {a : BitVec 24} {data : List Byte} {s : State} (h : Good pq s) : GoodOut pq (spiWrite a data s) := by
  unfold spiWrite
  refine ite_goodOut (fun _ => next_goodOut h) (fun _ => ite_goodOut (fun _ => next_goodOut (spiEnd_good h)) (fun _ => ?_))
  split
  · next e => exact next_goodOut (spiEnd_good (spiWords_good h _ e))
  · exact fault_goodOut
  · exact refused_goodOut

theorem spiRead_good {pq : List Instr} {x0 : BitVec 24} {x1 : Nat} {x2 : State} (hx2 : Good pq x2) : Good pq (spiRead x0 x1 x2) := by
  unfold spiRead
  refine ite_good (fun _ => ?_) (fun _ => ?_)
  · assumption
  · refine ite_good (fun _ => ?_) (fun _ => ?_)
    · apply spiEnd_good
      assumption
    · apply spiEnd_good
      assumption

theorem execSpiWrite_good {pq : List Instr} {x0 : BitVec 24} {x1 : List Byte} {x2 : State} (hx2 : Good pq x2) : GoodOut pq (execSpiWrite x0 x1 x2) := by
  unfold execSpiWrite
  apply spiWrite_good
  assumption

theorem execSpiQwrite_good {pq : List Instr} {x0 : BitVec 24} {x1 : List Byte} {x2 : State} (hx2 : Good pq x2) : GoodOut pq (execSpiQwrite x0 x1 x2) := by
  unfold execSpiQwrite
  apply spiWrite_good
  assumption

theorem execSpiRead_good {pq : List Instr} {x0 : BitVec 24} {x1 : Nat} {x2 : State} (hx2 : Good pq x2) : GoodOut pq (execSpiRead x0 x1 x2) :=
  next_goodOut (spiRead_good hx2)

theorem execSpiQread_good {pq : List Instr} {x0 : BitVec 24} {x1 : Nat} {x2 : State} (hx2 : Good pq x2) : GoodOut pq (execSpiQread x0 x1 x2) :=
  next_goodOut (spiRead_good hx2)

theorem execSpiStatus_good {pq : List Instr} {x0 : State} (hx0 : Good pq x0) : GoodOut pq (execSpiStatus x0) := by
  unfold execSpiStatus
  refine next_goodOut ?_
  refine ite_good (fun _ => ?_) (fun _ => ?_)
  · apply spiEnd_good
    assumption
  · assumption

theorem execSpiBadFrame_good {pq : List Instr} {x0 : State} (hx0 : Good pq x0) : GoodOut pq (execSpiBadFrame x0) := by
  unfold execSpiBadFrame
  refine next_goodOut ?_
  refine ite_good (fun _ => ?_) (fun _ => ?_)
  · apply spiEnd_good
    assumption
  · assumption

theorem tapRise_good {pq : List Instr} {x0 : Bool} {x1 : Bool} {x2 : State} (hx2 : Good pq x2) : Good pq (tapRise x0 x1 x2) := by
  unfold tapRise
  extract_lets v0 v1 v2 v3
  clear_value v0 v1 v2
  have hv3 : Good pq v3 := by
    unfold v3
    refine ite_good (fun _ => ?_) (fun _ => ?_)
    · apply State.drawn_good
      assumption
    · assumption
  clear_value v3
  refine Good.lit ?_
  assumption

theorem tapFall_good {pq : List Instr} {x0 : State} (hx0 : Good pq x0) : Good pq (tapFall x0) := by
  unfold tapFall
  extract_lets v0
  clear_value v0
  refine Good.lit ?_
  assumption

theorem execTckEdge_good {pq : List Instr} {x0 : Bool} {x1 : Bool} {x2 : Bool} {x3 : State} (hx3 : Good pq x3) : GoodOut pq (execTckEdge x0 x1 x2 x3) := by
  unfold execTckEdge
  refine next_goodOut ?_
  refine ite_good (fun _ => ?_) (fun _ => ?_)
  · refine ite_good (fun _ => ?_) (fun _ => ?_)
    · apply tapRise_good
      assumption
    · apply tapFall_good
      assumption
  · assumption

theorem execTrstNAssert_good {pq : List Instr} {x0 : State} (hx0 : Good pq x0) : GoodOut pq (execTrstNAssert x0) := by
  unfold execTrstNAssert
  refine next_goodOut ?_
  extract_lets v0
  try clear_value v0
  refine Good.lit ?_
  assumption

/-! ### Dispatch -/

theorem exec_good {pq : List Instr} {x0 : Instr} {x1 : State} (hx1 : Good pq x1) : GoodOut pq (exec x0 x1) := by
  unfold exec
  split
  · apply execDeviceInfo_good
    assumption
  · apply execDeviceProvision_good
    assumption
  · apply execEventLogGet_good
    assumption
  · apply execCensusTake_good
    assumption
  · apply execCensusSet_good
    assumption
  · apply execCensusStatus_good
    assumption
  · apply execCarrierProvision_good
    assumption
  · apply execCarrierEnable_good
    assumption
  · apply execCarrierDisable_good
    assumption
  · apply execConvCalibrate_good
    assumption
  · apply execConvRotationSet_good
    assumption
  · apply execConvSliceRetire_good
    assumption
  · apply execConvStatus_good
    assumption
  · apply execRxdspSet_good
    assumption
  · apply execRxdspCdHint_good
    assumption
  · apply execRxdspReacquire_good
    assumption
  · apply execRxdspStatus_good
    assumption
  · apply execBitloadPolicySet_good
    assumption
  · apply execBitloadTableSet_good
    assumption
  · apply execBitloadCurveSet_good
    assumption
  · apply execBitloadStatus_good
    assumption
  · apply execTxdspSet_good
    assumption
  · apply execTxdspPredistSet_good
    assumption
  · apply execTxdspStatus_good
    assumption
  · apply execDecodeSet_good
    assumption
  · apply execDecodeStatus_good
    assumption
  · apply execDecodePoolRemove_good
    assumption
  · apply execDecodePoolRestore_good
    assumption
  · apply execDecodeReaderEnable_good
    assumption
  · apply execInterloanSet_good
    assumption
  · apply execInterloanScheduleSet_good
    assumption
  · apply execInterloanSend_good
    assumption
  · apply execInterloanRecv_good
    assumption
  · apply execInterloanStatus_good
    assumption
  · apply execFrameStatus_good
    assumption
  · apply execCryptSet_good
    assumption
  · apply execCryptPeerSet_good
    assumption
  · apply execCryptRekey_good
    assumption
  · apply execCryptStatus_good
    assumption
  · apply execFramerProvision_good
    assumption
  · apply execFramerDeprovision_good
    assumption
  · apply execFramerSet_good
    assumption
  · apply execFramerOhSet_good
    assumption
  · apply execFramerOhGet_good
    assumption
  · apply execFramerMaintSet_good
    assumption
  · apply execFramerStatus_good
    assumption
  · apply execMapTribAdd_good
    assumption
  · apply execMapTribRemove_good
    assumption
  · apply execMapStatus_good
    assumption
  · apply execSwitchConnect_good
    assumption
  · apply execSwitchDisconnect_good
    assumption
  · apply execProtProvision_good
    assumption
  · apply execProtCommand_good
    assumption
  · apply execProtRealign_good
    assumption
  · apply execProtStatus_good
    assumption
  · apply execStacksInit_good
    assumption
  · apply execStacksSet_good
    assumption
  · apply execStacksRetire_good
    assumption
  · apply execStacksStatus_good
    assumption
  · apply execStacksTrackerGet_good
    assumption
  · apply execStacksTrackerClear_good
    assumption
  · apply execStacksAccessionGet_good
    assumption
  · apply execStacksWordRead_good
    assumption
  · apply execTimeProvision_good
    assumption
  · apply execTimeRefTableSet_good
    assumption
  · apply execTimeRefCommand_good
    assumption
  · apply execTimeLoCompSet_good
    assumption
  · apply execTimeLoLearn_good
    assumption
  · apply execTimeSourceSet_good
    assumption
  · apply execTimeSet_good
    assumption
  · apply execTimeAdjust_good
    assumption
  · apply execTimeLinkSet_good
    assumption
  · apply execTimePpsSet_good
    assumption
  · apply execTimeTest_good
    assumption
  · apply execTimeStatus_good
    assumption
  · apply execPtpTcSet_good
    assumption
  · apply execLaneProvision_good
    assumption
  · apply execLaneDeprovision_good
    assumption
  · apply execLaneSet_good
    assumption
  · apply execLaneTestSet_good
    assumption
  · apply execLaneLoopbackSet_good
    assumption
  · apply execLaneMateRetrain_good
    assumption
  · apply execLaneStatus_good
    assumption
  · apply execPowerDeviceSet_good
    assumption
  · apply execPowerDomainSet_good
    assumption
  · apply execPowerWakeSet_good
    assumption
  · apply execPowerStatus_good
    assumption
  · apply execMonRefSet_good
    assumption
  · apply execMonChannelSet_good
    assumption
  · apply execMonRead_good
    assumption
  · apply execMonStatus_good
    assumption
  · apply execThermalStatus_good
    assumption
  · apply execPmbusRailSet_good
    assumption
  · apply execPmbusStatus_good
    assumption
  · apply execGpioSet_good
    assumption
  · apply execGpioGet_good
    assumption
  · apply execSecIdentityGet_good
    assumption
  · apply execSecAttest_good
    assumption
  · apply execSecCharterGet_good
    assumption
  · apply execFwLoad_good
    assumption
  · apply execFwActivate_good
    assumption
  · apply execFwCommit_good
    assumption
  · apply execFwStatus_good
    assumption
  · apply execCatalogueStatus_good
    assumption
  · apply execCatalogueRead_good
    assumption
  · apply execCatalogueReset_good
    assumption
  · apply execSafetyTxenSet_good
    assumption
  · apply execSafetyStatus_good
    assumption
  · apply execSafetyProofTest_good
    assumption
  · apply execMateProvision_good
    assumption
  · apply execMateCommand_good
    assumption
  · apply execMateStatus_good
    assumption
  · apply execReadingForm_good
    assumption
  · apply execDeskReqTailWrite_good
    assumption
  · apply execRequestAccept_good
    assumption
  · apply execHoldRelease_good
    assumption
  · apply execHoldLimitExpiry_good
    assumption
  · apply execFunctionReplyTimeout_good
    assumption
  · apply execResponseWrite_good
    assumption
  · apply execDeskRspHeadWrite_good
    assumption
  · apply execDeskChReset_good
    assumption
  · apply execChannelResetComplete_good
    assumption
  · apply execFirmwareRestartReady_good
    assumption
  · apply execWatchdogRestart_good
    assumption
  · apply execTrialEnd_good
    assumption
  · apply execTrialFallback_good
    assumption
  · apply execRegisterWrite_good
    assumption
  · apply execEvtStatusWrite_good
    assumption
  · apply execEvtEnWrite_good
    assumption
  · apply execEvtForceWrite_good
    assumption
  · apply execMsixUnmask_good
    assumption
  · apply execEventOccurrence_good
    assumption
  · apply execLogRecordTake_good
    assumption
  · apply execCensusTakeRegister_good
    assumption
  · apply execCensusHoldWrite_good
    assumption
  · apply execCensusPeriodicInstant_good
    assumption
  · apply execCensusIslandLatch_good
    assumption
  · apply execChuteMarkAbsorb_good
    assumption
  · apply execCensusWriteComplete_good
    assumption
  · apply execPmSecondClose_good
    assumption
  · apply execPmSecondDecide_good
    assumption
  · apply execPmBinBoundary_good
    assumption
  · apply execChuteWrite_good
    assumption
  · apply execChuteItemRest_good
    assumption
  · apply execChuteRead_good
    assumption
  · apply execChuteStall_good
    assumption
  · apply execConvTempUpdate_good
    assumption
  · apply execMeasurementRunEnd_good
    assumption
  · apply execCalibrationGroupEnd_good
    assumption
  · apply execForegroundCalComplete_good
    assumption
  · apply execShadowAgree_good
    assumption
  · apply execShadowTimeout_good
    assumption
  · apply execSliceMeasurementEnd_good
    assumption
  · apply execRotationGapEnd_good
    assumption
  · apply execFaultWindowEnd_good
    assumption
  · apply execEmergencyAlignComplete_good
    assumption
  · apply execFolioArrival_good
    assumption
  · apply execLosDeclare_good
    assumption
  · apply execLosClear_good
    assumption
  · apply execFrontEndDone_good
    assumption
  · apply execCdSearchEnd_good
    assumption
  · apply execClockLock_good
    assumption
  · apply execClockLoss_good
    assumption
  · apply execAcquisitionTimeout_good
    assumption
  · apply execFreqAcquired_good
    assumption
  · apply execFreqLoss_good
    assumption
  · apply execTrainingFound_good
    assumption
  · apply execSubcarrierLocked_good
    assumption
  · apply execSubcarrierAcqTimeout_good
    assumption
  · apply execRxVolumeBoundary_good
    assumption
  · apply execQualityWindowEnd_good
    assumption
  · apply execLoadingFieldReceived_good
    assumption
  · apply execLoadingCandidateReady_good
    assumption
  · apply execLoadingIntervalEnd_good
    assumption
  · apply execTxFolioBoundary_good
    assumption
  · apply execProposalTimeout_good
    assumption
  · apply execTxVolumeBoundary_good
    assumption
  · apply execParcelAssembled_good
    assumption
  · apply execReaderIdle_good
    assumption
  · apply execDecodeIterationEnd_good
    assumption
  · apply execReserveFetchComplete_good
    assumption
  · apply execReserveEntryExpiry_good
    assumption
  · apply execCodewordDeadline_good
    assumption
  · apply execResultWrite_good
    assumption
  · apply execFolioRelease_good
    assumption
  · apply execPoolDrained_good
    assumption
  · apply execSlotBoundaryTx_good
    assumption
  · apply execJoinWindowStart_good
    assumption
  · apply execToneDetection_good
    assumption
  · apply execPreambleEnd_good
    assumption
  · apply execBurstTrainingEnd_good
    assumption
  · apply execHeaderCrcReady_good
    assumption
  · apply execPayloadCrcReady_good
    assumption
  · apply execLeafTimeout_good
    assumption
  · apply execNoiseWindowEnd_good
    assumption
  · apply execFolioHeaderReceived_good
    assumption
  · apply execKeyFieldReceived_good
    assumption
  · apply execKexMessageReceived_good
    assumption
  · apply execKexTimeout_good
    assumption
  · apply execKexRetry_good
    assumption
  · apply execRekeyIntervalEnd_good
    assumption
  · apply execAlignmentPrediction_good
    assumption
  · apply execAlignmentMatch_good
    assumption
  · apply execDefectPersistenceEnd_good
    assumption
  · apply execOtnFrameReceived_good
    assumption
  · apply execMultiframeBoundary_good
    assumption
  · apply execSwitchFrameBoundary_good
    assumption
  · apply execRateFollowSteer_good
    assumption
  · apply execRateHoldEnd_good
    assumption
  · apply execSrFieldReceived_good
    assumption
  · apply execHoldOffExpiry_good
    assumption
  · apply execProtectionAlign_good
    assumption
  · apply execWtrExpiry_good
    assumption
  · apply execFopTimeout_good
    assumption
  · apply execSelectorSwitch_good
    assumption
  · apply execStacksRead_good
    assumption
  · apply execStacksWholeWrite_good
    assumption
  · apply execNarrowWrite_good
    assumption
  · apply execTagFreed_good
    assumption
  · apply execScrubRead_good
    assumption
  · apply execQueueWrap_good
    assumption
  · apply execPageRetireComplete_good
    assumption
  · apply execStacksInitComplete_good
    assumption
  · apply execApertureRead_good
    assumption
  · apply execApertureWrite_good
    assumption
  · apply execTimeTick_good
    assumption
  · apply execServoWindowEnd_good
    assumption
  · apply execSlewComplete_good
    assumption
  · apply execPpsInEdge_good
    assumption
  · apply execPpsInLos_good
    assumption
  · apply execTodInMessage_good
    assumption
  · apply execPpsOutEdge_good
    assumption
  · apply execTodOutSend_good
    assumption
  · apply execColophonRecordReceived_good
    assumption
  · apply execColophonSample_good
    assumption
  · apply execTimeBurstSend_good
    assumption
  · apply execPtpIngress_good
    assumption
  · apply execPtpEgress_good
    assumption
  · apply execRefMeasurement_good
    assumption
  · apply execRefActivityLoss_good
    assumption
  · apply execQualificationTimerEnd_good
    assumption
  · apply execDpllLock_good
    assumption
  · apply execOscEstimateUpdate_good
    assumption
  · apply execLoLearnEnd_good
    assumption
  · apply execLaneLosDeclare_good
    assumption
  · apply execLaneLosClear_good
    assumption
  · apply execLaneLolDeclare_good
    assumption
  · apply execAnResolved_good
    assumption
  · apply execAnTimeout_good
    assumption
  · apply execLaneTrained_good
    assumption
  · apply execTrainingTimeout_good
    assumption
  · apply execMateTrainingFrame_good
    assumption
  · apply execSoakEnd_good
    assumption
  · apply execMateDecisionApply_good
    assumption
  · apply execMateQuietEnd_good
    assumption
  · apply execIdleEntry_good
    assumption
  · apply execKeepaliveDue_good
    assumption
  · apply execSleepDelayEnd_good
    assumption
  · apply execLaneDataToSend_good
    assumption
  · apply execExitBurstEnd_good
    assumption
  · apply execWakeTimeEnd_good
    assumption
  · apply execLoopbackRelock_good
    assumption
  · apply execAdmissionStageStart_good
    assumption
  · apply execDomainPowerGood_good
    assumption
  · apply execPowerGoodTimeout_good
    assumption
  · apply execDomainStopDrained_good
    assumption
  · apply execVoutSettled_good
    assumption
  · apply execVoutSettleTimeout_good
    assumption
  · apply execSleepEntryDrained_good
    assumption
  · apply execSleepCommit_good
    assumption
  · apply execWakeSourceLatch_good
    assumption
  · apply execWakeExitComplete_good
    assumption
  · apply execIdleCoreWake_good
    assumption
  · apply execConversionDue_good
    assumption
  · apply execConversionEnd_good
    assumption
  · apply execUrgentRequest_good
    assumption
  · apply execRefBufferReady_good
    assumption
  · apply execProcessMonitorPeriod_good
    assumption
  · apply execPmbusPoll_good
    assumption
  · apply execSensorReading_good
    assumption
  · apply execThermalRecoveryHold_good
    assumption
  · apply execSensorStuck_good
    assumption
  · apply execCatalogueWriteStart_good
    assumption
  · apply execCatalogueWriteDone_good
    assumption
  · apply execCatalogueEraseDone_good
    assumption
  · apply execFwProgrammingDone_good
    assumption
  · apply execVaultVote_good
    assumption
  · apply execSafetyDiagTick_good
    assumption
  · apply execSafetyConditionChange_good
    assumption
  · apply execAlsPinChange_good
    assumption
  · apply execAlsPulseStart_good
    assumption
  · apply execAlsPulseEnd_good
    assumption
  · apply execMateBlockReceived_good
    assumption
  · apply execStateRecordSend_good
    assumption
  · apply execMirrorItemApply_good
    assumption
  · apply execMateSyncMarker_good
    assumption
  · apply execMateSyncInactive_good
    assumption
  · apply execMateLost_good
    assumption
  · apply execCheckingRecompare_good
    assumption
  · apply execMateWakePulse_good
    assumption
  · apply execSpiWrite_good
    assumption
  · apply execSpiRead_good
    assumption
  · apply execSpiQwrite_good
    assumption
  · apply execSpiQread_good
    assumption
  · apply execSpiStatus_good
    assumption
  · apply execSpiBadFrame_good
    assumption
  · apply execBootResetWrite_good
    assumption
  · apply execResetNAssert_good
    assumption
  · apply execResetNRelease_good
    assumption
  · apply execYozonReady_good
    assumption
  · apply execPowerOn_good
    assumption
  · apply execBrownout_good
    assumption
  · apply execSupplyFault_good
    assumption
  · apply execPerstNAssert_good
    assumption
  · apply execPerstNRelease_good
    assumption
  · apply execTrstNAssert_good
    assumption
  · apply execTimeSourceTimer_good
    assumption
  · apply execMateSyncMarkerMissing_good
    assumption
  · apply execLaneRxIdleMarker_good
    assumption
  · apply execLaneWakeRelock_good
    assumption
  · apply execSwitchReadDue_good
    assumption
  · apply execTckEdge_good
    assumption

/-! ### Step -/

theorem State.withFetchWord_good {pq : List Instr} {x0 : State} {x1 : Nat} {x2 : Nat} (hx0 : Good pq x0) : Good pq (State.withFetchWord x0 x1 x2) := by
  unfold State.withFetchWord
  assumption

end Sys2Proof.Machine
end

