-- ==== Sys2Proof/Laws/State.lean ====
section
/-! SUPPORT. What each update of an addressed part does to every field of the state: one lemma per field and update, so that no
later proof unfolds a record update. -/

namespace Sys2Proof.Machine

/-! `onCar` changes `cars` alone. -/

section

variable (c : Fin 2) (f : Carrier → Carrier) (s : State)

@[simp] theorem onCar_pending : (onCar c f s).pending = s.pending := rfl
@[simp] theorem onCar_free : (onCar c f s).free = s.free := rfl
@[simp] theorem onCar_dev : (onCar c f s).dev = s.dev := rfl
@[simp] theorem onCar_desk : (onCar c f s).desk = s.desk := rfl
@[simp] theorem onCar_par : (onCar c f s).par = s.par := rfl
@[simp] theorem onCar_evt : (onCar c f s).evt = s.evt := rfl
@[simp] theorem onCar_chutes : (onCar c f s).chutes = s.chutes := rfl
@[simp] theorem onCar_time : (onCar c f s).time = s.time := rfl
@[simp] theorem onCar_cars : (onCar c f s).cars = upd s.cars c f := rfl
@[simp] theorem onCar_rx : (onCar c f s).rx = s.rx := rfl
@[simp] theorem onCar_tx : (onCar c f s).tx = s.tx := rfl
@[simp] theorem onCar_dec : (onCar c f s).dec = s.dec := rfl
@[simp] theorem onCar_il : (onCar c f s).il = s.il := rfl
@[simp] theorem onCar_folio : (onCar c f s).folio = s.folio := rfl
@[simp] theorem onCar_crypt : (onCar c f s).crypt = s.crypt := rfl
@[simp] theorem onCar_bonds : (onCar c f s).bonds = s.bonds := rfl
@[simp] theorem onCar_odum : (onCar c f s).odum = s.odum := rfl
@[simp] theorem onCar_map : (onCar c f s).map = s.map := rfl
@[simp] theorem onCar_prot : (onCar c f s).prot = s.prot := rfl
@[simp] theorem onCar_stk : (onCar c f s).stk = s.stk := rfl
@[simp] theorem onCar_ap : (onCar c f s).ap = s.ap := rfl
@[simp] theorem onCar_cen : (onCar c f s).cen = s.cen := rfl
@[simp] theorem onCar_lanes : (onCar c f s).lanes = s.lanes := rfl
@[simp] theorem onCar_link : (onCar c f s).link = s.link := rfl
@[simp] theorem onCar_pwr : (onCar c f s).pwr = s.pwr := rfl
@[simp] theorem onCar_house : (onCar c f s).house = s.house := rfl
@[simp] theorem onCar_boot : (onCar c f s).boot = s.boot := rfl
@[simp] theorem onCar_cat : (onCar c f s).cat = s.cat := rfl
@[simp] theorem onCar_vault : (onCar c f s).vault = s.vault := rfl
@[simp] theorem onCar_safe : (onCar c f s).safe = s.safe := rfl
@[simp] theorem onCar_mate : (onCar c f s).mate = s.mate := rfl
@[simp] theorem onCar_pins : (onCar c f s).pins = s.pins := rfl

end

/-! `onRx` changes `rx` alone. -/

section

variable (c : Fin 2) (f : RxCarrier → RxCarrier) (s : State)

@[simp] theorem onRx_pending : (onRx c f s).pending = s.pending := rfl
@[simp] theorem onRx_free : (onRx c f s).free = s.free := rfl
@[simp] theorem onRx_dev : (onRx c f s).dev = s.dev := rfl
@[simp] theorem onRx_desk : (onRx c f s).desk = s.desk := rfl
@[simp] theorem onRx_par : (onRx c f s).par = s.par := rfl
@[simp] theorem onRx_evt : (onRx c f s).evt = s.evt := rfl
@[simp] theorem onRx_chutes : (onRx c f s).chutes = s.chutes := rfl
@[simp] theorem onRx_time : (onRx c f s).time = s.time := rfl
@[simp] theorem onRx_cars : (onRx c f s).cars = s.cars := rfl
@[simp] theorem onRx_rx : (onRx c f s).rx = upd s.rx c f := rfl
@[simp] theorem onRx_tx : (onRx c f s).tx = s.tx := rfl
@[simp] theorem onRx_dec : (onRx c f s).dec = s.dec := rfl
@[simp] theorem onRx_il : (onRx c f s).il = s.il := rfl
@[simp] theorem onRx_folio : (onRx c f s).folio = s.folio := rfl
@[simp] theorem onRx_crypt : (onRx c f s).crypt = s.crypt := rfl
@[simp] theorem onRx_bonds : (onRx c f s).bonds = s.bonds := rfl
@[simp] theorem onRx_odum : (onRx c f s).odum = s.odum := rfl
@[simp] theorem onRx_map : (onRx c f s).map = s.map := rfl
@[simp] theorem onRx_prot : (onRx c f s).prot = s.prot := rfl
@[simp] theorem onRx_stk : (onRx c f s).stk = s.stk := rfl
@[simp] theorem onRx_ap : (onRx c f s).ap = s.ap := rfl
@[simp] theorem onRx_cen : (onRx c f s).cen = s.cen := rfl
@[simp] theorem onRx_lanes : (onRx c f s).lanes = s.lanes := rfl
@[simp] theorem onRx_link : (onRx c f s).link = s.link := rfl
@[simp] theorem onRx_pwr : (onRx c f s).pwr = s.pwr := rfl
@[simp] theorem onRx_house : (onRx c f s).house = s.house := rfl
@[simp] theorem onRx_boot : (onRx c f s).boot = s.boot := rfl
@[simp] theorem onRx_cat : (onRx c f s).cat = s.cat := rfl
@[simp] theorem onRx_vault : (onRx c f s).vault = s.vault := rfl
@[simp] theorem onRx_safe : (onRx c f s).safe = s.safe := rfl
@[simp] theorem onRx_mate : (onRx c f s).mate = s.mate := rfl
@[simp] theorem onRx_pins : (onRx c f s).pins = s.pins := rfl

end

/-! `onTx` changes `tx` alone. -/

section

variable (c : Fin 2) (f : TxCarrier → TxCarrier) (s : State)

@[simp] theorem onTx_pending : (onTx c f s).pending = s.pending := rfl
@[simp] theorem onTx_free : (onTx c f s).free = s.free := rfl
@[simp] theorem onTx_dev : (onTx c f s).dev = s.dev := rfl
@[simp] theorem onTx_desk : (onTx c f s).desk = s.desk := rfl
@[simp] theorem onTx_par : (onTx c f s).par = s.par := rfl
@[simp] theorem onTx_evt : (onTx c f s).evt = s.evt := rfl
@[simp] theorem onTx_chutes : (onTx c f s).chutes = s.chutes := rfl
@[simp] theorem onTx_time : (onTx c f s).time = s.time := rfl
@[simp] theorem onTx_cars : (onTx c f s).cars = s.cars := rfl
@[simp] theorem onTx_rx : (onTx c f s).rx = s.rx := rfl
@[simp] theorem onTx_tx : (onTx c f s).tx = upd s.tx c f := rfl
@[simp] theorem onTx_dec : (onTx c f s).dec = s.dec := rfl
@[simp] theorem onTx_il : (onTx c f s).il = s.il := rfl
@[simp] theorem onTx_folio : (onTx c f s).folio = s.folio := rfl
@[simp] theorem onTx_crypt : (onTx c f s).crypt = s.crypt := rfl
@[simp] theorem onTx_bonds : (onTx c f s).bonds = s.bonds := rfl
@[simp] theorem onTx_odum : (onTx c f s).odum = s.odum := rfl
@[simp] theorem onTx_map : (onTx c f s).map = s.map := rfl
@[simp] theorem onTx_prot : (onTx c f s).prot = s.prot := rfl
@[simp] theorem onTx_stk : (onTx c f s).stk = s.stk := rfl
@[simp] theorem onTx_ap : (onTx c f s).ap = s.ap := rfl
@[simp] theorem onTx_cen : (onTx c f s).cen = s.cen := rfl
@[simp] theorem onTx_lanes : (onTx c f s).lanes = s.lanes := rfl
@[simp] theorem onTx_link : (onTx c f s).link = s.link := rfl
@[simp] theorem onTx_pwr : (onTx c f s).pwr = s.pwr := rfl
@[simp] theorem onTx_house : (onTx c f s).house = s.house := rfl
@[simp] theorem onTx_boot : (onTx c f s).boot = s.boot := rfl
@[simp] theorem onTx_cat : (onTx c f s).cat = s.cat := rfl
@[simp] theorem onTx_vault : (onTx c f s).vault = s.vault := rfl
@[simp] theorem onTx_safe : (onTx c f s).safe = s.safe := rfl
@[simp] theorem onTx_mate : (onTx c f s).mate = s.mate := rfl
@[simp] theorem onTx_pins : (onTx c f s).pins = s.pins := rfl

end

/-! `onIl` changes `il` alone. -/

section

variable (c : Fin 2) (f : Interloan → Interloan) (s : State)

@[simp] theorem onIl_pending : (onIl c f s).pending = s.pending := rfl
@[simp] theorem onIl_free : (onIl c f s).free = s.free := rfl
@[simp] theorem onIl_dev : (onIl c f s).dev = s.dev := rfl
@[simp] theorem onIl_desk : (onIl c f s).desk = s.desk := rfl
@[simp] theorem onIl_par : (onIl c f s).par = s.par := rfl
@[simp] theorem onIl_evt : (onIl c f s).evt = s.evt := rfl
@[simp] theorem onIl_chutes : (onIl c f s).chutes = s.chutes := rfl
@[simp] theorem onIl_time : (onIl c f s).time = s.time := rfl
@[simp] theorem onIl_cars : (onIl c f s).cars = s.cars := rfl
@[simp] theorem onIl_rx : (onIl c f s).rx = s.rx := rfl
@[simp] theorem onIl_tx : (onIl c f s).tx = s.tx := rfl
@[simp] theorem onIl_dec : (onIl c f s).dec = s.dec := rfl
@[simp] theorem onIl_il : (onIl c f s).il = upd s.il c f := rfl
@[simp] theorem onIl_folio : (onIl c f s).folio = s.folio := rfl
@[simp] theorem onIl_crypt : (onIl c f s).crypt = s.crypt := rfl
@[simp] theorem onIl_bonds : (onIl c f s).bonds = s.bonds := rfl
@[simp] theorem onIl_odum : (onIl c f s).odum = s.odum := rfl
@[simp] theorem onIl_map : (onIl c f s).map = s.map := rfl
@[simp] theorem onIl_prot : (onIl c f s).prot = s.prot := rfl
@[simp] theorem onIl_stk : (onIl c f s).stk = s.stk := rfl
@[simp] theorem onIl_ap : (onIl c f s).ap = s.ap := rfl
@[simp] theorem onIl_cen : (onIl c f s).cen = s.cen := rfl
@[simp] theorem onIl_lanes : (onIl c f s).lanes = s.lanes := rfl
@[simp] theorem onIl_link : (onIl c f s).link = s.link := rfl
@[simp] theorem onIl_pwr : (onIl c f s).pwr = s.pwr := rfl
@[simp] theorem onIl_house : (onIl c f s).house = s.house := rfl
@[simp] theorem onIl_boot : (onIl c f s).boot = s.boot := rfl
@[simp] theorem onIl_cat : (onIl c f s).cat = s.cat := rfl
@[simp] theorem onIl_vault : (onIl c f s).vault = s.vault := rfl
@[simp] theorem onIl_safe : (onIl c f s).safe = s.safe := rfl
@[simp] theorem onIl_mate : (onIl c f s).mate = s.mate := rfl
@[simp] theorem onIl_pins : (onIl c f s).pins = s.pins := rfl

end

/-! `onFol` changes `folio` alone. -/

section

variable (c : Fin 2) (g : Fin 16) (f : FolioGroup → FolioGroup) (s : State)

@[simp] theorem onFol_pending : (onFol c g f s).pending = s.pending := rfl
@[simp] theorem onFol_free : (onFol c g f s).free = s.free := rfl
@[simp] theorem onFol_dev : (onFol c g f s).dev = s.dev := rfl
@[simp] theorem onFol_desk : (onFol c g f s).desk = s.desk := rfl
@[simp] theorem onFol_par : (onFol c g f s).par = s.par := rfl
@[simp] theorem onFol_evt : (onFol c g f s).evt = s.evt := rfl
@[simp] theorem onFol_chutes : (onFol c g f s).chutes = s.chutes := rfl
@[simp] theorem onFol_time : (onFol c g f s).time = s.time := rfl
@[simp] theorem onFol_cars : (onFol c g f s).cars = s.cars := rfl
@[simp] theorem onFol_rx : (onFol c g f s).rx = s.rx := rfl
@[simp] theorem onFol_tx : (onFol c g f s).tx = s.tx := rfl
@[simp] theorem onFol_dec : (onFol c g f s).dec = s.dec := rfl
@[simp] theorem onFol_il : (onFol c g f s).il = s.il := rfl
@[simp] theorem onFol_folio : (onFol c g f s).folio = upd s.folio c fun v => upd v g f := rfl
@[simp] theorem onFol_crypt : (onFol c g f s).crypt = s.crypt := rfl
@[simp] theorem onFol_bonds : (onFol c g f s).bonds = s.bonds := rfl
@[simp] theorem onFol_odum : (onFol c g f s).odum = s.odum := rfl
@[simp] theorem onFol_map : (onFol c g f s).map = s.map := rfl
@[simp] theorem onFol_prot : (onFol c g f s).prot = s.prot := rfl
@[simp] theorem onFol_stk : (onFol c g f s).stk = s.stk := rfl
@[simp] theorem onFol_ap : (onFol c g f s).ap = s.ap := rfl
@[simp] theorem onFol_cen : (onFol c g f s).cen = s.cen := rfl
@[simp] theorem onFol_lanes : (onFol c g f s).lanes = s.lanes := rfl
@[simp] theorem onFol_link : (onFol c g f s).link = s.link := rfl
@[simp] theorem onFol_pwr : (onFol c g f s).pwr = s.pwr := rfl
@[simp] theorem onFol_house : (onFol c g f s).house = s.house := rfl
@[simp] theorem onFol_boot : (onFol c g f s).boot = s.boot := rfl
@[simp] theorem onFol_cat : (onFol c g f s).cat = s.cat := rfl
@[simp] theorem onFol_vault : (onFol c g f s).vault = s.vault := rfl
@[simp] theorem onFol_safe : (onFol c g f s).safe = s.safe := rfl
@[simp] theorem onFol_mate : (onFol c g f s).mate = s.mate := rfl
@[simp] theorem onFol_pins : (onFol c g f s).pins = s.pins := rfl

end

/-! `onLink` changes `time` alone. -/

section

variable (c : Fin 2) (g : Fin 16) (f : Link → Link) (s : State)

@[simp] theorem onLink_pending : (onLink c g f s).pending = s.pending := rfl
@[simp] theorem onLink_free : (onLink c g f s).free = s.free := rfl
@[simp] theorem onLink_dev : (onLink c g f s).dev = s.dev := rfl
@[simp] theorem onLink_desk : (onLink c g f s).desk = s.desk := rfl
@[simp] theorem onLink_par : (onLink c g f s).par = s.par := rfl
@[simp] theorem onLink_evt : (onLink c g f s).evt = s.evt := rfl
@[simp] theorem onLink_chutes : (onLink c g f s).chutes = s.chutes := rfl
@[simp] theorem onLink_time : (onLink c g f s).time = { s.time with links := upd s.time.links c fun v => upd v g f } := rfl
@[simp] theorem onLink_cars : (onLink c g f s).cars = s.cars := rfl
@[simp] theorem onLink_rx : (onLink c g f s).rx = s.rx := rfl
@[simp] theorem onLink_tx : (onLink c g f s).tx = s.tx := rfl
@[simp] theorem onLink_dec : (onLink c g f s).dec = s.dec := rfl
@[simp] theorem onLink_il : (onLink c g f s).il = s.il := rfl
@[simp] theorem onLink_folio : (onLink c g f s).folio = s.folio := rfl
@[simp] theorem onLink_crypt : (onLink c g f s).crypt = s.crypt := rfl
@[simp] theorem onLink_bonds : (onLink c g f s).bonds = s.bonds := rfl
@[simp] theorem onLink_odum : (onLink c g f s).odum = s.odum := rfl
@[simp] theorem onLink_map : (onLink c g f s).map = s.map := rfl
@[simp] theorem onLink_prot : (onLink c g f s).prot = s.prot := rfl
@[simp] theorem onLink_stk : (onLink c g f s).stk = s.stk := rfl
@[simp] theorem onLink_ap : (onLink c g f s).ap = s.ap := rfl
@[simp] theorem onLink_cen : (onLink c g f s).cen = s.cen := rfl
@[simp] theorem onLink_lanes : (onLink c g f s).lanes = s.lanes := rfl
@[simp] theorem onLink_link : (onLink c g f s).link = s.link := rfl
@[simp] theorem onLink_pwr : (onLink c g f s).pwr = s.pwr := rfl
@[simp] theorem onLink_house : (onLink c g f s).house = s.house := rfl
@[simp] theorem onLink_boot : (onLink c g f s).boot = s.boot := rfl
@[simp] theorem onLink_cat : (onLink c g f s).cat = s.cat := rfl
@[simp] theorem onLink_vault : (onLink c g f s).vault = s.vault := rfl
@[simp] theorem onLink_safe : (onLink c g f s).safe = s.safe := rfl
@[simp] theorem onLink_mate : (onLink c g f s).mate = s.mate := rfl
@[simp] theorem onLink_pins : (onLink c g f s).pins = s.pins := rfl

end

/-! `onTime` changes `time` alone. -/

section

variable (f : TimeState → TimeState) (s : State)

@[simp] theorem onTime_pending : (onTime f s).pending = s.pending := rfl
@[simp] theorem onTime_free : (onTime f s).free = s.free := rfl
@[simp] theorem onTime_dev : (onTime f s).dev = s.dev := rfl
@[simp] theorem onTime_desk : (onTime f s).desk = s.desk := rfl
@[simp] theorem onTime_par : (onTime f s).par = s.par := rfl
@[simp] theorem onTime_evt : (onTime f s).evt = s.evt := rfl
@[simp] theorem onTime_chutes : (onTime f s).chutes = s.chutes := rfl
@[simp] theorem onTime_time : (onTime f s).time = f s.time := rfl
@[simp] theorem onTime_cars : (onTime f s).cars = s.cars := rfl
@[simp] theorem onTime_rx : (onTime f s).rx = s.rx := rfl
@[simp] theorem onTime_tx : (onTime f s).tx = s.tx := rfl
@[simp] theorem onTime_dec : (onTime f s).dec = s.dec := rfl
@[simp] theorem onTime_il : (onTime f s).il = s.il := rfl
@[simp] theorem onTime_folio : (onTime f s).folio = s.folio := rfl
@[simp] theorem onTime_crypt : (onTime f s).crypt = s.crypt := rfl
@[simp] theorem onTime_bonds : (onTime f s).bonds = s.bonds := rfl
@[simp] theorem onTime_odum : (onTime f s).odum = s.odum := rfl
@[simp] theorem onTime_map : (onTime f s).map = s.map := rfl
@[simp] theorem onTime_prot : (onTime f s).prot = s.prot := rfl
@[simp] theorem onTime_stk : (onTime f s).stk = s.stk := rfl
@[simp] theorem onTime_ap : (onTime f s).ap = s.ap := rfl
@[simp] theorem onTime_cen : (onTime f s).cen = s.cen := rfl
@[simp] theorem onTime_lanes : (onTime f s).lanes = s.lanes := rfl
@[simp] theorem onTime_link : (onTime f s).link = s.link := rfl
@[simp] theorem onTime_pwr : (onTime f s).pwr = s.pwr := rfl
@[simp] theorem onTime_house : (onTime f s).house = s.house := rfl
@[simp] theorem onTime_boot : (onTime f s).boot = s.boot := rfl
@[simp] theorem onTime_cat : (onTime f s).cat = s.cat := rfl
@[simp] theorem onTime_vault : (onTime f s).vault = s.vault := rfl
@[simp] theorem onTime_safe : (onTime f s).safe = s.safe := rfl
@[simp] theorem onTime_mate : (onTime f s).mate = s.mate := rfl
@[simp] theorem onTime_pins : (onTime f s).pins = s.pins := rfl

end

/-! `onBond` changes `bonds` alone. -/

section

variable (b : Fin 48) (f : Framer → Framer) (s : State)

@[simp] theorem onBond_pending : (onBond b f s).pending = s.pending := rfl
@[simp] theorem onBond_free : (onBond b f s).free = s.free := rfl
@[simp] theorem onBond_dev : (onBond b f s).dev = s.dev := rfl
@[simp] theorem onBond_desk : (onBond b f s).desk = s.desk := rfl
@[simp] theorem onBond_par : (onBond b f s).par = s.par := rfl
@[simp] theorem onBond_evt : (onBond b f s).evt = s.evt := rfl
@[simp] theorem onBond_chutes : (onBond b f s).chutes = s.chutes := rfl
@[simp] theorem onBond_time : (onBond b f s).time = s.time := rfl
@[simp] theorem onBond_cars : (onBond b f s).cars = s.cars := rfl
@[simp] theorem onBond_rx : (onBond b f s).rx = s.rx := rfl
@[simp] theorem onBond_tx : (onBond b f s).tx = s.tx := rfl
@[simp] theorem onBond_dec : (onBond b f s).dec = s.dec := rfl
@[simp] theorem onBond_il : (onBond b f s).il = s.il := rfl
@[simp] theorem onBond_folio : (onBond b f s).folio = s.folio := rfl
@[simp] theorem onBond_crypt : (onBond b f s).crypt = s.crypt := rfl
@[simp] theorem onBond_bonds : (onBond b f s).bonds = upd s.bonds b f := rfl
@[simp] theorem onBond_odum : (onBond b f s).odum = s.odum := rfl
@[simp] theorem onBond_map : (onBond b f s).map = s.map := rfl
@[simp] theorem onBond_prot : (onBond b f s).prot = s.prot := rfl
@[simp] theorem onBond_stk : (onBond b f s).stk = s.stk := rfl
@[simp] theorem onBond_ap : (onBond b f s).ap = s.ap := rfl
@[simp] theorem onBond_cen : (onBond b f s).cen = s.cen := rfl
@[simp] theorem onBond_lanes : (onBond b f s).lanes = s.lanes := rfl
@[simp] theorem onBond_link : (onBond b f s).link = s.link := rfl
@[simp] theorem onBond_pwr : (onBond b f s).pwr = s.pwr := rfl
@[simp] theorem onBond_house : (onBond b f s).house = s.house := rfl
@[simp] theorem onBond_boot : (onBond b f s).boot = s.boot := rfl
@[simp] theorem onBond_cat : (onBond b f s).cat = s.cat := rfl
@[simp] theorem onBond_vault : (onBond b f s).vault = s.vault := rfl
@[simp] theorem onBond_safe : (onBond b f s).safe = s.safe := rfl
@[simp] theorem onBond_mate : (onBond b f s).mate = s.mate := rfl
@[simp] theorem onBond_pins : (onBond b f s).pins = s.pins := rfl

end

/-! `onOdum` changes `odum` alone. -/

section

variable (c : Fin 2) (g : Fin 16) (f : Framer → Framer) (s : State)

@[simp] theorem onOdum_pending : (onOdum c g f s).pending = s.pending := rfl
@[simp] theorem onOdum_free : (onOdum c g f s).free = s.free := rfl
@[simp] theorem onOdum_dev : (onOdum c g f s).dev = s.dev := rfl
@[simp] theorem onOdum_desk : (onOdum c g f s).desk = s.desk := rfl
@[simp] theorem onOdum_par : (onOdum c g f s).par = s.par := rfl
@[simp] theorem onOdum_evt : (onOdum c g f s).evt = s.evt := rfl
@[simp] theorem onOdum_chutes : (onOdum c g f s).chutes = s.chutes := rfl
@[simp] theorem onOdum_time : (onOdum c g f s).time = s.time := rfl
@[simp] theorem onOdum_cars : (onOdum c g f s).cars = s.cars := rfl
@[simp] theorem onOdum_rx : (onOdum c g f s).rx = s.rx := rfl
@[simp] theorem onOdum_tx : (onOdum c g f s).tx = s.tx := rfl
@[simp] theorem onOdum_dec : (onOdum c g f s).dec = s.dec := rfl
@[simp] theorem onOdum_il : (onOdum c g f s).il = s.il := rfl
@[simp] theorem onOdum_folio : (onOdum c g f s).folio = s.folio := rfl
@[simp] theorem onOdum_crypt : (onOdum c g f s).crypt = s.crypt := rfl
@[simp] theorem onOdum_bonds : (onOdum c g f s).bonds = s.bonds := rfl
@[simp] theorem onOdum_odum : (onOdum c g f s).odum = upd s.odum c fun v => upd v g f := rfl
@[simp] theorem onOdum_map : (onOdum c g f s).map = s.map := rfl
@[simp] theorem onOdum_prot : (onOdum c g f s).prot = s.prot := rfl
@[simp] theorem onOdum_stk : (onOdum c g f s).stk = s.stk := rfl
@[simp] theorem onOdum_ap : (onOdum c g f s).ap = s.ap := rfl
@[simp] theorem onOdum_cen : (onOdum c g f s).cen = s.cen := rfl
@[simp] theorem onOdum_lanes : (onOdum c g f s).lanes = s.lanes := rfl
@[simp] theorem onOdum_link : (onOdum c g f s).link = s.link := rfl
@[simp] theorem onOdum_pwr : (onOdum c g f s).pwr = s.pwr := rfl
@[simp] theorem onOdum_house : (onOdum c g f s).house = s.house := rfl
@[simp] theorem onOdum_boot : (onOdum c g f s).boot = s.boot := rfl
@[simp] theorem onOdum_cat : (onOdum c g f s).cat = s.cat := rfl
@[simp] theorem onOdum_vault : (onOdum c g f s).vault = s.vault := rfl
@[simp] theorem onOdum_safe : (onOdum c g f s).safe = s.safe := rfl
@[simp] theorem onOdum_mate : (onOdum c g f s).mate = s.mate := rfl
@[simp] theorem onOdum_pins : (onOdum c g f s).pins = s.pins := rfl

end

/-! `onLane` changes `lanes` alone. -/

section

variable (l : Fin 48) (f : Lane → Lane) (s : State)

@[simp] theorem onLane_pending : (onLane l f s).pending = s.pending := rfl
@[simp] theorem onLane_free : (onLane l f s).free = s.free := rfl
@[simp] theorem onLane_dev : (onLane l f s).dev = s.dev := rfl
@[simp] theorem onLane_desk : (onLane l f s).desk = s.desk := rfl
@[simp] theorem onLane_par : (onLane l f s).par = s.par := rfl
@[simp] theorem onLane_evt : (onLane l f s).evt = s.evt := rfl
@[simp] theorem onLane_chutes : (onLane l f s).chutes = s.chutes := rfl
@[simp] theorem onLane_time : (onLane l f s).time = s.time := rfl
@[simp] theorem onLane_cars : (onLane l f s).cars = s.cars := rfl
@[simp] theorem onLane_rx : (onLane l f s).rx = s.rx := rfl
@[simp] theorem onLane_tx : (onLane l f s).tx = s.tx := rfl
@[simp] theorem onLane_dec : (onLane l f s).dec = s.dec := rfl
@[simp] theorem onLane_il : (onLane l f s).il = s.il := rfl
@[simp] theorem onLane_folio : (onLane l f s).folio = s.folio := rfl
@[simp] theorem onLane_crypt : (onLane l f s).crypt = s.crypt := rfl
@[simp] theorem onLane_bonds : (onLane l f s).bonds = s.bonds := rfl
@[simp] theorem onLane_odum : (onLane l f s).odum = s.odum := rfl
@[simp] theorem onLane_map : (onLane l f s).map = s.map := rfl
@[simp] theorem onLane_prot : (onLane l f s).prot = s.prot := rfl
@[simp] theorem onLane_stk : (onLane l f s).stk = s.stk := rfl
@[simp] theorem onLane_ap : (onLane l f s).ap = s.ap := rfl
@[simp] theorem onLane_cen : (onLane l f s).cen = s.cen := rfl
@[simp] theorem onLane_lanes : (onLane l f s).lanes = upd s.lanes l f := rfl
@[simp] theorem onLane_link : (onLane l f s).link = s.link := rfl
@[simp] theorem onLane_pwr : (onLane l f s).pwr = s.pwr := rfl
@[simp] theorem onLane_house : (onLane l f s).house = s.house := rfl
@[simp] theorem onLane_boot : (onLane l f s).boot = s.boot := rfl
@[simp] theorem onLane_cat : (onLane l f s).cat = s.cat := rfl
@[simp] theorem onLane_vault : (onLane l f s).vault = s.vault := rfl
@[simp] theorem onLane_safe : (onLane l f s).safe = s.safe := rfl
@[simp] theorem onLane_mate : (onLane l f s).mate = s.mate := rfl
@[simp] theorem onLane_pins : (onLane l f s).pins = s.pins := rfl

end

/-! `onProt` changes `prot` alone. -/

section

variable (g : Fin 16) (f : Prot → Prot) (s : State)

@[simp] theorem onProt_pending : (onProt g f s).pending = s.pending := rfl
@[simp] theorem onProt_free : (onProt g f s).free = s.free := rfl
@[simp] theorem onProt_dev : (onProt g f s).dev = s.dev := rfl
@[simp] theorem onProt_desk : (onProt g f s).desk = s.desk := rfl
@[simp] theorem onProt_par : (onProt g f s).par = s.par := rfl
@[simp] theorem onProt_evt : (onProt g f s).evt = s.evt := rfl
@[simp] theorem onProt_chutes : (onProt g f s).chutes = s.chutes := rfl
@[simp] theorem onProt_time : (onProt g f s).time = s.time := rfl
@[simp] theorem onProt_cars : (onProt g f s).cars = s.cars := rfl
@[simp] theorem onProt_rx : (onProt g f s).rx = s.rx := rfl
@[simp] theorem onProt_tx : (onProt g f s).tx = s.tx := rfl
@[simp] theorem onProt_dec : (onProt g f s).dec = s.dec := rfl
@[simp] theorem onProt_il : (onProt g f s).il = s.il := rfl
@[simp] theorem onProt_folio : (onProt g f s).folio = s.folio := rfl
@[simp] theorem onProt_crypt : (onProt g f s).crypt = s.crypt := rfl
@[simp] theorem onProt_bonds : (onProt g f s).bonds = s.bonds := rfl
@[simp] theorem onProt_odum : (onProt g f s).odum = s.odum := rfl
@[simp] theorem onProt_map : (onProt g f s).map = s.map := rfl
@[simp] theorem onProt_prot : (onProt g f s).prot = upd s.prot g f := rfl
@[simp] theorem onProt_stk : (onProt g f s).stk = s.stk := rfl
@[simp] theorem onProt_ap : (onProt g f s).ap = s.ap := rfl
@[simp] theorem onProt_cen : (onProt g f s).cen = s.cen := rfl
@[simp] theorem onProt_lanes : (onProt g f s).lanes = s.lanes := rfl
@[simp] theorem onProt_link : (onProt g f s).link = s.link := rfl
@[simp] theorem onProt_pwr : (onProt g f s).pwr = s.pwr := rfl
@[simp] theorem onProt_house : (onProt g f s).house = s.house := rfl
@[simp] theorem onProt_boot : (onProt g f s).boot = s.boot := rfl
@[simp] theorem onProt_cat : (onProt g f s).cat = s.cat := rfl
@[simp] theorem onProt_vault : (onProt g f s).vault = s.vault := rfl
@[simp] theorem onProt_safe : (onProt g f s).safe = s.safe := rfl
@[simp] theorem onProt_mate : (onProt g f s).mate = s.mate := rfl
@[simp] theorem onProt_pins : (onProt g f s).pins = s.pins := rfl

end

/-! `onDec` changes `dec` alone. -/

section

variable (f : Decode → Decode) (s : State)

@[simp] theorem onDec_pending : (onDec f s).pending = s.pending := rfl
@[simp] theorem onDec_free : (onDec f s).free = s.free := rfl
@[simp] theorem onDec_dev : (onDec f s).dev = s.dev := rfl
@[simp] theorem onDec_desk : (onDec f s).desk = s.desk := rfl
@[simp] theorem onDec_par : (onDec f s).par = s.par := rfl
@[simp] theorem onDec_evt : (onDec f s).evt = s.evt := rfl
@[simp] theorem onDec_chutes : (onDec f s).chutes = s.chutes := rfl
@[simp] theorem onDec_time : (onDec f s).time = s.time := rfl
@[simp] theorem onDec_cars : (onDec f s).cars = s.cars := rfl
@[simp] theorem onDec_rx : (onDec f s).rx = s.rx := rfl
@[simp] theorem onDec_tx : (onDec f s).tx = s.tx := rfl
@[simp] theorem onDec_dec : (onDec f s).dec = f s.dec := rfl
@[simp] theorem onDec_il : (onDec f s).il = s.il := rfl
@[simp] theorem onDec_folio : (onDec f s).folio = s.folio := rfl
@[simp] theorem onDec_crypt : (onDec f s).crypt = s.crypt := rfl
@[simp] theorem onDec_bonds : (onDec f s).bonds = s.bonds := rfl
@[simp] theorem onDec_odum : (onDec f s).odum = s.odum := rfl
@[simp] theorem onDec_map : (onDec f s).map = s.map := rfl
@[simp] theorem onDec_prot : (onDec f s).prot = s.prot := rfl
@[simp] theorem onDec_stk : (onDec f s).stk = s.stk := rfl
@[simp] theorem onDec_ap : (onDec f s).ap = s.ap := rfl
@[simp] theorem onDec_cen : (onDec f s).cen = s.cen := rfl
@[simp] theorem onDec_lanes : (onDec f s).lanes = s.lanes := rfl
@[simp] theorem onDec_link : (onDec f s).link = s.link := rfl
@[simp] theorem onDec_pwr : (onDec f s).pwr = s.pwr := rfl
@[simp] theorem onDec_house : (onDec f s).house = s.house := rfl
@[simp] theorem onDec_boot : (onDec f s).boot = s.boot := rfl
@[simp] theorem onDec_cat : (onDec f s).cat = s.cat := rfl
@[simp] theorem onDec_vault : (onDec f s).vault = s.vault := rfl
@[simp] theorem onDec_safe : (onDec f s).safe = s.safe := rfl
@[simp] theorem onDec_mate : (onDec f s).mate = s.mate := rfl
@[simp] theorem onDec_pins : (onDec f s).pins = s.pins := rfl

end

/-! `onStk` changes `stk` alone. -/

section

variable (f : Stacks → Stacks) (s : State)

@[simp] theorem onStk_pending : (onStk f s).pending = s.pending := rfl
@[simp] theorem onStk_free : (onStk f s).free = s.free := rfl
@[simp] theorem onStk_dev : (onStk f s).dev = s.dev := rfl
@[simp] theorem onStk_desk : (onStk f s).desk = s.desk := rfl
@[simp] theorem onStk_par : (onStk f s).par = s.par := rfl
@[simp] theorem onStk_evt : (onStk f s).evt = s.evt := rfl
@[simp] theorem onStk_chutes : (onStk f s).chutes = s.chutes := rfl
@[simp] theorem onStk_time : (onStk f s).time = s.time := rfl
@[simp] theorem onStk_cars : (onStk f s).cars = s.cars := rfl
@[simp] theorem onStk_rx : (onStk f s).rx = s.rx := rfl
@[simp] theorem onStk_tx : (onStk f s).tx = s.tx := rfl
@[simp] theorem onStk_dec : (onStk f s).dec = s.dec := rfl
@[simp] theorem onStk_il : (onStk f s).il = s.il := rfl
@[simp] theorem onStk_folio : (onStk f s).folio = s.folio := rfl
@[simp] theorem onStk_crypt : (onStk f s).crypt = s.crypt := rfl
@[simp] theorem onStk_bonds : (onStk f s).bonds = s.bonds := rfl
@[simp] theorem onStk_odum : (onStk f s).odum = s.odum := rfl
@[simp] theorem onStk_map : (onStk f s).map = s.map := rfl
@[simp] theorem onStk_prot : (onStk f s).prot = s.prot := rfl
@[simp] theorem onStk_stk : (onStk f s).stk = f s.stk := rfl
@[simp] theorem onStk_ap : (onStk f s).ap = s.ap := rfl
@[simp] theorem onStk_cen : (onStk f s).cen = s.cen := rfl
@[simp] theorem onStk_lanes : (onStk f s).lanes = s.lanes := rfl
@[simp] theorem onStk_link : (onStk f s).link = s.link := rfl
@[simp] theorem onStk_pwr : (onStk f s).pwr = s.pwr := rfl
@[simp] theorem onStk_house : (onStk f s).house = s.house := rfl
@[simp] theorem onStk_boot : (onStk f s).boot = s.boot := rfl
@[simp] theorem onStk_cat : (onStk f s).cat = s.cat := rfl
@[simp] theorem onStk_vault : (onStk f s).vault = s.vault := rfl
@[simp] theorem onStk_safe : (onStk f s).safe = s.safe := rfl
@[simp] theorem onStk_mate : (onStk f s).mate = s.mate := rfl
@[simp] theorem onStk_pins : (onStk f s).pins = s.pins := rfl

end

/-! `onMap` changes `map` alone. -/

section

variable (f : Mapping → Mapping) (s : State)

@[simp] theorem onMap_pending : (onMap f s).pending = s.pending := rfl
@[simp] theorem onMap_free : (onMap f s).free = s.free := rfl
@[simp] theorem onMap_dev : (onMap f s).dev = s.dev := rfl
@[simp] theorem onMap_desk : (onMap f s).desk = s.desk := rfl
@[simp] theorem onMap_par : (onMap f s).par = s.par := rfl
@[simp] theorem onMap_evt : (onMap f s).evt = s.evt := rfl
@[simp] theorem onMap_chutes : (onMap f s).chutes = s.chutes := rfl
@[simp] theorem onMap_time : (onMap f s).time = s.time := rfl
@[simp] theorem onMap_cars : (onMap f s).cars = s.cars := rfl
@[simp] theorem onMap_rx : (onMap f s).rx = s.rx := rfl
@[simp] theorem onMap_tx : (onMap f s).tx = s.tx := rfl
@[simp] theorem onMap_dec : (onMap f s).dec = s.dec := rfl
@[simp] theorem onMap_il : (onMap f s).il = s.il := rfl
@[simp] theorem onMap_folio : (onMap f s).folio = s.folio := rfl
@[simp] theorem onMap_crypt : (onMap f s).crypt = s.crypt := rfl
@[simp] theorem onMap_bonds : (onMap f s).bonds = s.bonds := rfl
@[simp] theorem onMap_odum : (onMap f s).odum = s.odum := rfl
@[simp] theorem onMap_map : (onMap f s).map = f s.map := rfl
@[simp] theorem onMap_prot : (onMap f s).prot = s.prot := rfl
@[simp] theorem onMap_stk : (onMap f s).stk = s.stk := rfl
@[simp] theorem onMap_ap : (onMap f s).ap = s.ap := rfl
@[simp] theorem onMap_cen : (onMap f s).cen = s.cen := rfl
@[simp] theorem onMap_lanes : (onMap f s).lanes = s.lanes := rfl
@[simp] theorem onMap_link : (onMap f s).link = s.link := rfl
@[simp] theorem onMap_pwr : (onMap f s).pwr = s.pwr := rfl
@[simp] theorem onMap_house : (onMap f s).house = s.house := rfl
@[simp] theorem onMap_boot : (onMap f s).boot = s.boot := rfl
@[simp] theorem onMap_cat : (onMap f s).cat = s.cat := rfl
@[simp] theorem onMap_vault : (onMap f s).vault = s.vault := rfl
@[simp] theorem onMap_safe : (onMap f s).safe = s.safe := rfl
@[simp] theorem onMap_mate : (onMap f s).mate = s.mate := rfl
@[simp] theorem onMap_pins : (onMap f s).pins = s.pins := rfl

end

/-! `onCen` changes `cen` alone. -/

section

variable (f : Census → Census) (s : State)

@[simp] theorem onCen_pending : (onCen f s).pending = s.pending := rfl
@[simp] theorem onCen_free : (onCen f s).free = s.free := rfl
@[simp] theorem onCen_dev : (onCen f s).dev = s.dev := rfl
@[simp] theorem onCen_desk : (onCen f s).desk = s.desk := rfl
@[simp] theorem onCen_par : (onCen f s).par = s.par := rfl
@[simp] theorem onCen_evt : (onCen f s).evt = s.evt := rfl
@[simp] theorem onCen_chutes : (onCen f s).chutes = s.chutes := rfl
@[simp] theorem onCen_time : (onCen f s).time = s.time := rfl
@[simp] theorem onCen_cars : (onCen f s).cars = s.cars := rfl
@[simp] theorem onCen_rx : (onCen f s).rx = s.rx := rfl
@[simp] theorem onCen_tx : (onCen f s).tx = s.tx := rfl
@[simp] theorem onCen_dec : (onCen f s).dec = s.dec := rfl
@[simp] theorem onCen_il : (onCen f s).il = s.il := rfl
@[simp] theorem onCen_folio : (onCen f s).folio = s.folio := rfl
@[simp] theorem onCen_crypt : (onCen f s).crypt = s.crypt := rfl
@[simp] theorem onCen_bonds : (onCen f s).bonds = s.bonds := rfl
@[simp] theorem onCen_odum : (onCen f s).odum = s.odum := rfl
@[simp] theorem onCen_map : (onCen f s).map = s.map := rfl
@[simp] theorem onCen_prot : (onCen f s).prot = s.prot := rfl
@[simp] theorem onCen_stk : (onCen f s).stk = s.stk := rfl
@[simp] theorem onCen_ap : (onCen f s).ap = s.ap := rfl
@[simp] theorem onCen_cen : (onCen f s).cen = f s.cen := rfl
@[simp] theorem onCen_lanes : (onCen f s).lanes = s.lanes := rfl
@[simp] theorem onCen_link : (onCen f s).link = s.link := rfl
@[simp] theorem onCen_pwr : (onCen f s).pwr = s.pwr := rfl
@[simp] theorem onCen_house : (onCen f s).house = s.house := rfl
@[simp] theorem onCen_boot : (onCen f s).boot = s.boot := rfl
@[simp] theorem onCen_cat : (onCen f s).cat = s.cat := rfl
@[simp] theorem onCen_vault : (onCen f s).vault = s.vault := rfl
@[simp] theorem onCen_safe : (onCen f s).safe = s.safe := rfl
@[simp] theorem onCen_mate : (onCen f s).mate = s.mate := rfl
@[simp] theorem onCen_pins : (onCen f s).pins = s.pins := rfl

end

/-! `onPwr` changes `pwr` alone. -/

section

variable (f : Power → Power) (s : State)

@[simp] theorem onPwr_pending : (onPwr f s).pending = s.pending := rfl
@[simp] theorem onPwr_free : (onPwr f s).free = s.free := rfl
@[simp] theorem onPwr_dev : (onPwr f s).dev = s.dev := rfl
@[simp] theorem onPwr_desk : (onPwr f s).desk = s.desk := rfl
@[simp] theorem onPwr_par : (onPwr f s).par = s.par := rfl
@[simp] theorem onPwr_evt : (onPwr f s).evt = s.evt := rfl
@[simp] theorem onPwr_chutes : (onPwr f s).chutes = s.chutes := rfl
@[simp] theorem onPwr_time : (onPwr f s).time = s.time := rfl
@[simp] theorem onPwr_cars : (onPwr f s).cars = s.cars := rfl
@[simp] theorem onPwr_rx : (onPwr f s).rx = s.rx := rfl
@[simp] theorem onPwr_tx : (onPwr f s).tx = s.tx := rfl
@[simp] theorem onPwr_dec : (onPwr f s).dec = s.dec := rfl
@[simp] theorem onPwr_il : (onPwr f s).il = s.il := rfl
@[simp] theorem onPwr_folio : (onPwr f s).folio = s.folio := rfl
@[simp] theorem onPwr_crypt : (onPwr f s).crypt = s.crypt := rfl
@[simp] theorem onPwr_bonds : (onPwr f s).bonds = s.bonds := rfl
@[simp] theorem onPwr_odum : (onPwr f s).odum = s.odum := rfl
@[simp] theorem onPwr_map : (onPwr f s).map = s.map := rfl
@[simp] theorem onPwr_prot : (onPwr f s).prot = s.prot := rfl
@[simp] theorem onPwr_stk : (onPwr f s).stk = s.stk := rfl
@[simp] theorem onPwr_ap : (onPwr f s).ap = s.ap := rfl
@[simp] theorem onPwr_cen : (onPwr f s).cen = s.cen := rfl
@[simp] theorem onPwr_lanes : (onPwr f s).lanes = s.lanes := rfl
@[simp] theorem onPwr_link : (onPwr f s).link = s.link := rfl
@[simp] theorem onPwr_pwr : (onPwr f s).pwr = f s.pwr := rfl
@[simp] theorem onPwr_house : (onPwr f s).house = s.house := rfl
@[simp] theorem onPwr_boot : (onPwr f s).boot = s.boot := rfl
@[simp] theorem onPwr_cat : (onPwr f s).cat = s.cat := rfl
@[simp] theorem onPwr_vault : (onPwr f s).vault = s.vault := rfl
@[simp] theorem onPwr_safe : (onPwr f s).safe = s.safe := rfl
@[simp] theorem onPwr_mate : (onPwr f s).mate = s.mate := rfl
@[simp] theorem onPwr_pins : (onPwr f s).pins = s.pins := rfl

end

/-! `onHouse` changes `house` alone. -/

section

variable (f : House → House) (s : State)

@[simp] theorem onHouse_pending : (onHouse f s).pending = s.pending := rfl
@[simp] theorem onHouse_free : (onHouse f s).free = s.free := rfl
@[simp] theorem onHouse_dev : (onHouse f s).dev = s.dev := rfl
@[simp] theorem onHouse_desk : (onHouse f s).desk = s.desk := rfl
@[simp] theorem onHouse_par : (onHouse f s).par = s.par := rfl
@[simp] theorem onHouse_evt : (onHouse f s).evt = s.evt := rfl
@[simp] theorem onHouse_chutes : (onHouse f s).chutes = s.chutes := rfl
@[simp] theorem onHouse_time : (onHouse f s).time = s.time := rfl
@[simp] theorem onHouse_cars : (onHouse f s).cars = s.cars := rfl
@[simp] theorem onHouse_rx : (onHouse f s).rx = s.rx := rfl
@[simp] theorem onHouse_tx : (onHouse f s).tx = s.tx := rfl
@[simp] theorem onHouse_dec : (onHouse f s).dec = s.dec := rfl
@[simp] theorem onHouse_il : (onHouse f s).il = s.il := rfl
@[simp] theorem onHouse_folio : (onHouse f s).folio = s.folio := rfl
@[simp] theorem onHouse_crypt : (onHouse f s).crypt = s.crypt := rfl
@[simp] theorem onHouse_bonds : (onHouse f s).bonds = s.bonds := rfl
@[simp] theorem onHouse_odum : (onHouse f s).odum = s.odum := rfl
@[simp] theorem onHouse_map : (onHouse f s).map = s.map := rfl
@[simp] theorem onHouse_prot : (onHouse f s).prot = s.prot := rfl
@[simp] theorem onHouse_stk : (onHouse f s).stk = s.stk := rfl
@[simp] theorem onHouse_ap : (onHouse f s).ap = s.ap := rfl
@[simp] theorem onHouse_cen : (onHouse f s).cen = s.cen := rfl
@[simp] theorem onHouse_lanes : (onHouse f s).lanes = s.lanes := rfl
@[simp] theorem onHouse_link : (onHouse f s).link = s.link := rfl
@[simp] theorem onHouse_pwr : (onHouse f s).pwr = s.pwr := rfl
@[simp] theorem onHouse_house : (onHouse f s).house = f s.house := rfl
@[simp] theorem onHouse_boot : (onHouse f s).boot = s.boot := rfl
@[simp] theorem onHouse_cat : (onHouse f s).cat = s.cat := rfl
@[simp] theorem onHouse_vault : (onHouse f s).vault = s.vault := rfl
@[simp] theorem onHouse_safe : (onHouse f s).safe = s.safe := rfl
@[simp] theorem onHouse_mate : (onHouse f s).mate = s.mate := rfl
@[simp] theorem onHouse_pins : (onHouse f s).pins = s.pins := rfl

end

/-! `onBoot` changes `boot` alone. -/

section

variable (f : Boot → Boot) (s : State)

@[simp] theorem onBoot_pending : (onBoot f s).pending = s.pending := rfl
@[simp] theorem onBoot_free : (onBoot f s).free = s.free := rfl
@[simp] theorem onBoot_dev : (onBoot f s).dev = s.dev := rfl
@[simp] theorem onBoot_desk : (onBoot f s).desk = s.desk := rfl
@[simp] theorem onBoot_par : (onBoot f s).par = s.par := rfl
@[simp] theorem onBoot_evt : (onBoot f s).evt = s.evt := rfl
@[simp] theorem onBoot_chutes : (onBoot f s).chutes = s.chutes := rfl
@[simp] theorem onBoot_time : (onBoot f s).time = s.time := rfl
@[simp] theorem onBoot_cars : (onBoot f s).cars = s.cars := rfl
@[simp] theorem onBoot_rx : (onBoot f s).rx = s.rx := rfl
@[simp] theorem onBoot_tx : (onBoot f s).tx = s.tx := rfl
@[simp] theorem onBoot_dec : (onBoot f s).dec = s.dec := rfl
@[simp] theorem onBoot_il : (onBoot f s).il = s.il := rfl
@[simp] theorem onBoot_folio : (onBoot f s).folio = s.folio := rfl
@[simp] theorem onBoot_crypt : (onBoot f s).crypt = s.crypt := rfl
@[simp] theorem onBoot_bonds : (onBoot f s).bonds = s.bonds := rfl
@[simp] theorem onBoot_odum : (onBoot f s).odum = s.odum := rfl
@[simp] theorem onBoot_map : (onBoot f s).map = s.map := rfl
@[simp] theorem onBoot_prot : (onBoot f s).prot = s.prot := rfl
@[simp] theorem onBoot_stk : (onBoot f s).stk = s.stk := rfl
@[simp] theorem onBoot_ap : (onBoot f s).ap = s.ap := rfl
@[simp] theorem onBoot_cen : (onBoot f s).cen = s.cen := rfl
@[simp] theorem onBoot_lanes : (onBoot f s).lanes = s.lanes := rfl
@[simp] theorem onBoot_link : (onBoot f s).link = s.link := rfl
@[simp] theorem onBoot_pwr : (onBoot f s).pwr = s.pwr := rfl
@[simp] theorem onBoot_house : (onBoot f s).house = s.house := rfl
@[simp] theorem onBoot_boot : (onBoot f s).boot = f s.boot := rfl
@[simp] theorem onBoot_cat : (onBoot f s).cat = s.cat := rfl
@[simp] theorem onBoot_vault : (onBoot f s).vault = s.vault := rfl
@[simp] theorem onBoot_safe : (onBoot f s).safe = s.safe := rfl
@[simp] theorem onBoot_mate : (onBoot f s).mate = s.mate := rfl
@[simp] theorem onBoot_pins : (onBoot f s).pins = s.pins := rfl

end

/-! `onCat` changes `cat` alone. -/

section

variable (f : Catalogue → Catalogue) (s : State)

@[simp] theorem onCat_pending : (onCat f s).pending = s.pending := rfl
@[simp] theorem onCat_free : (onCat f s).free = s.free := rfl
@[simp] theorem onCat_dev : (onCat f s).dev = s.dev := rfl
@[simp] theorem onCat_desk : (onCat f s).desk = s.desk := rfl
@[simp] theorem onCat_par : (onCat f s).par = s.par := rfl
@[simp] theorem onCat_evt : (onCat f s).evt = s.evt := rfl
@[simp] theorem onCat_chutes : (onCat f s).chutes = s.chutes := rfl
@[simp] theorem onCat_time : (onCat f s).time = s.time := rfl
@[simp] theorem onCat_cars : (onCat f s).cars = s.cars := rfl
@[simp] theorem onCat_rx : (onCat f s).rx = s.rx := rfl
@[simp] theorem onCat_tx : (onCat f s).tx = s.tx := rfl
@[simp] theorem onCat_dec : (onCat f s).dec = s.dec := rfl
@[simp] theorem onCat_il : (onCat f s).il = s.il := rfl
@[simp] theorem onCat_folio : (onCat f s).folio = s.folio := rfl
@[simp] theorem onCat_crypt : (onCat f s).crypt = s.crypt := rfl
@[simp] theorem onCat_bonds : (onCat f s).bonds = s.bonds := rfl
@[simp] theorem onCat_odum : (onCat f s).odum = s.odum := rfl
@[simp] theorem onCat_map : (onCat f s).map = s.map := rfl
@[simp] theorem onCat_prot : (onCat f s).prot = s.prot := rfl
@[simp] theorem onCat_stk : (onCat f s).stk = s.stk := rfl
@[simp] theorem onCat_ap : (onCat f s).ap = s.ap := rfl
@[simp] theorem onCat_cen : (onCat f s).cen = s.cen := rfl
@[simp] theorem onCat_lanes : (onCat f s).lanes = s.lanes := rfl
@[simp] theorem onCat_link : (onCat f s).link = s.link := rfl
@[simp] theorem onCat_pwr : (onCat f s).pwr = s.pwr := rfl
@[simp] theorem onCat_house : (onCat f s).house = s.house := rfl
@[simp] theorem onCat_boot : (onCat f s).boot = s.boot := rfl
@[simp] theorem onCat_cat : (onCat f s).cat = f s.cat := rfl
@[simp] theorem onCat_vault : (onCat f s).vault = s.vault := rfl
@[simp] theorem onCat_safe : (onCat f s).safe = s.safe := rfl
@[simp] theorem onCat_mate : (onCat f s).mate = s.mate := rfl
@[simp] theorem onCat_pins : (onCat f s).pins = s.pins := rfl

end

/-! `onSafe` changes `safe` alone. -/

section

variable (c : Fin 2) (f : SafeCarrier → SafeCarrier) (s : State)

@[simp] theorem onSafe_pending : (onSafe c f s).pending = s.pending := rfl
@[simp] theorem onSafe_free : (onSafe c f s).free = s.free := rfl
@[simp] theorem onSafe_dev : (onSafe c f s).dev = s.dev := rfl
@[simp] theorem onSafe_desk : (onSafe c f s).desk = s.desk := rfl
@[simp] theorem onSafe_par : (onSafe c f s).par = s.par := rfl
@[simp] theorem onSafe_evt : (onSafe c f s).evt = s.evt := rfl
@[simp] theorem onSafe_chutes : (onSafe c f s).chutes = s.chutes := rfl
@[simp] theorem onSafe_time : (onSafe c f s).time = s.time := rfl
@[simp] theorem onSafe_cars : (onSafe c f s).cars = s.cars := rfl
@[simp] theorem onSafe_rx : (onSafe c f s).rx = s.rx := rfl
@[simp] theorem onSafe_tx : (onSafe c f s).tx = s.tx := rfl
@[simp] theorem onSafe_dec : (onSafe c f s).dec = s.dec := rfl
@[simp] theorem onSafe_il : (onSafe c f s).il = s.il := rfl
@[simp] theorem onSafe_folio : (onSafe c f s).folio = s.folio := rfl
@[simp] theorem onSafe_crypt : (onSafe c f s).crypt = s.crypt := rfl
@[simp] theorem onSafe_bonds : (onSafe c f s).bonds = s.bonds := rfl
@[simp] theorem onSafe_odum : (onSafe c f s).odum = s.odum := rfl
@[simp] theorem onSafe_map : (onSafe c f s).map = s.map := rfl
@[simp] theorem onSafe_prot : (onSafe c f s).prot = s.prot := rfl
@[simp] theorem onSafe_stk : (onSafe c f s).stk = s.stk := rfl
@[simp] theorem onSafe_ap : (onSafe c f s).ap = s.ap := rfl
@[simp] theorem onSafe_cen : (onSafe c f s).cen = s.cen := rfl
@[simp] theorem onSafe_lanes : (onSafe c f s).lanes = s.lanes := rfl
@[simp] theorem onSafe_link : (onSafe c f s).link = s.link := rfl
@[simp] theorem onSafe_pwr : (onSafe c f s).pwr = s.pwr := rfl
@[simp] theorem onSafe_house : (onSafe c f s).house = s.house := rfl
@[simp] theorem onSafe_boot : (onSafe c f s).boot = s.boot := rfl
@[simp] theorem onSafe_cat : (onSafe c f s).cat = s.cat := rfl
@[simp] theorem onSafe_vault : (onSafe c f s).vault = s.vault := rfl
@[simp] theorem onSafe_safe : (onSafe c f s).safe = { s.safe with cars := upd s.safe.cars c f } := rfl
@[simp] theorem onSafe_mate : (onSafe c f s).mate = s.mate := rfl
@[simp] theorem onSafe_pins : (onSafe c f s).pins = s.pins := rfl

end

/-! `onMate` changes `mate` alone. -/

section

variable (f : Mate → Mate) (s : State)

@[simp] theorem onMate_pending : (onMate f s).pending = s.pending := rfl
@[simp] theorem onMate_free : (onMate f s).free = s.free := rfl
@[simp] theorem onMate_dev : (onMate f s).dev = s.dev := rfl
@[simp] theorem onMate_desk : (onMate f s).desk = s.desk := rfl
@[simp] theorem onMate_par : (onMate f s).par = s.par := rfl
@[simp] theorem onMate_evt : (onMate f s).evt = s.evt := rfl
@[simp] theorem onMate_chutes : (onMate f s).chutes = s.chutes := rfl
@[simp] theorem onMate_time : (onMate f s).time = s.time := rfl
@[simp] theorem onMate_cars : (onMate f s).cars = s.cars := rfl
@[simp] theorem onMate_rx : (onMate f s).rx = s.rx := rfl
@[simp] theorem onMate_tx : (onMate f s).tx = s.tx := rfl
@[simp] theorem onMate_dec : (onMate f s).dec = s.dec := rfl
@[simp] theorem onMate_il : (onMate f s).il = s.il := rfl
@[simp] theorem onMate_folio : (onMate f s).folio = s.folio := rfl
@[simp] theorem onMate_crypt : (onMate f s).crypt = s.crypt := rfl
@[simp] theorem onMate_bonds : (onMate f s).bonds = s.bonds := rfl
@[simp] theorem onMate_odum : (onMate f s).odum = s.odum := rfl
@[simp] theorem onMate_map : (onMate f s).map = s.map := rfl
@[simp] theorem onMate_prot : (onMate f s).prot = s.prot := rfl
@[simp] theorem onMate_stk : (onMate f s).stk = s.stk := rfl
@[simp] theorem onMate_ap : (onMate f s).ap = s.ap := rfl
@[simp] theorem onMate_cen : (onMate f s).cen = s.cen := rfl
@[simp] theorem onMate_lanes : (onMate f s).lanes = s.lanes := rfl
@[simp] theorem onMate_link : (onMate f s).link = s.link := rfl
@[simp] theorem onMate_pwr : (onMate f s).pwr = s.pwr := rfl
@[simp] theorem onMate_house : (onMate f s).house = s.house := rfl
@[simp] theorem onMate_boot : (onMate f s).boot = s.boot := rfl
@[simp] theorem onMate_cat : (onMate f s).cat = s.cat := rfl
@[simp] theorem onMate_vault : (onMate f s).vault = s.vault := rfl
@[simp] theorem onMate_safe : (onMate f s).safe = s.safe := rfl
@[simp] theorem onMate_mate : (onMate f s).mate = f s.mate := rfl
@[simp] theorem onMate_pins : (onMate f s).pins = s.pins := rfl

end

/-! `onChute` changes `chutes` alone. -/

section

variable (k : Fin 256) (f : Chute → Chute) (s : State)

@[simp] theorem onChute_pending : (onChute k f s).pending = s.pending := rfl
@[simp] theorem onChute_free : (onChute k f s).free = s.free := rfl
@[simp] theorem onChute_dev : (onChute k f s).dev = s.dev := rfl
@[simp] theorem onChute_desk : (onChute k f s).desk = s.desk := rfl
@[simp] theorem onChute_par : (onChute k f s).par = s.par := rfl
@[simp] theorem onChute_evt : (onChute k f s).evt = s.evt := rfl
@[simp] theorem onChute_chutes : (onChute k f s).chutes = upd s.chutes k f := rfl
@[simp] theorem onChute_time : (onChute k f s).time = s.time := rfl
@[simp] theorem onChute_cars : (onChute k f s).cars = s.cars := rfl
@[simp] theorem onChute_rx : (onChute k f s).rx = s.rx := rfl
@[simp] theorem onChute_tx : (onChute k f s).tx = s.tx := rfl
@[simp] theorem onChute_dec : (onChute k f s).dec = s.dec := rfl
@[simp] theorem onChute_il : (onChute k f s).il = s.il := rfl
@[simp] theorem onChute_folio : (onChute k f s).folio = s.folio := rfl
@[simp] theorem onChute_crypt : (onChute k f s).crypt = s.crypt := rfl
@[simp] theorem onChute_bonds : (onChute k f s).bonds = s.bonds := rfl
@[simp] theorem onChute_odum : (onChute k f s).odum = s.odum := rfl
@[simp] theorem onChute_map : (onChute k f s).map = s.map := rfl
@[simp] theorem onChute_prot : (onChute k f s).prot = s.prot := rfl
@[simp] theorem onChute_stk : (onChute k f s).stk = s.stk := rfl
@[simp] theorem onChute_ap : (onChute k f s).ap = s.ap := rfl
@[simp] theorem onChute_cen : (onChute k f s).cen = s.cen := rfl
@[simp] theorem onChute_lanes : (onChute k f s).lanes = s.lanes := rfl
@[simp] theorem onChute_link : (onChute k f s).link = s.link := rfl
@[simp] theorem onChute_pwr : (onChute k f s).pwr = s.pwr := rfl
@[simp] theorem onChute_house : (onChute k f s).house = s.house := rfl
@[simp] theorem onChute_boot : (onChute k f s).boot = s.boot := rfl
@[simp] theorem onChute_cat : (onChute k f s).cat = s.cat := rfl
@[simp] theorem onChute_vault : (onChute k f s).vault = s.vault := rfl
@[simp] theorem onChute_safe : (onChute k f s).safe = s.safe := rfl
@[simp] theorem onChute_mate : (onChute k f s).mate = s.mate := rfl
@[simp] theorem onChute_pins : (onChute k f s).pins = s.pins := rfl

end

/-! `onChan` changes `desk` alone. -/

section

variable (ch : Fin 4) (f : Channel → Channel) (s : State)

@[simp] theorem onChan_pending : (onChan ch f s).pending = s.pending := rfl
@[simp] theorem onChan_free : (onChan ch f s).free = s.free := rfl
@[simp] theorem onChan_dev : (onChan ch f s).dev = s.dev := rfl
@[simp] theorem onChan_desk : (onChan ch f s).desk = { s.desk with chans := upd s.desk.chans ch f } := rfl
@[simp] theorem onChan_par : (onChan ch f s).par = s.par := rfl
@[simp] theorem onChan_evt : (onChan ch f s).evt = s.evt := rfl
@[simp] theorem onChan_chutes : (onChan ch f s).chutes = s.chutes := rfl
@[simp] theorem onChan_time : (onChan ch f s).time = s.time := rfl
@[simp] theorem onChan_cars : (onChan ch f s).cars = s.cars := rfl
@[simp] theorem onChan_rx : (onChan ch f s).rx = s.rx := rfl
@[simp] theorem onChan_tx : (onChan ch f s).tx = s.tx := rfl
@[simp] theorem onChan_dec : (onChan ch f s).dec = s.dec := rfl
@[simp] theorem onChan_il : (onChan ch f s).il = s.il := rfl
@[simp] theorem onChan_folio : (onChan ch f s).folio = s.folio := rfl
@[simp] theorem onChan_crypt : (onChan ch f s).crypt = s.crypt := rfl
@[simp] theorem onChan_bonds : (onChan ch f s).bonds = s.bonds := rfl
@[simp] theorem onChan_odum : (onChan ch f s).odum = s.odum := rfl
@[simp] theorem onChan_map : (onChan ch f s).map = s.map := rfl
@[simp] theorem onChan_prot : (onChan ch f s).prot = s.prot := rfl
@[simp] theorem onChan_stk : (onChan ch f s).stk = s.stk := rfl
@[simp] theorem onChan_ap : (onChan ch f s).ap = s.ap := rfl
@[simp] theorem onChan_cen : (onChan ch f s).cen = s.cen := rfl
@[simp] theorem onChan_lanes : (onChan ch f s).lanes = s.lanes := rfl
@[simp] theorem onChan_link : (onChan ch f s).link = s.link := rfl
@[simp] theorem onChan_pwr : (onChan ch f s).pwr = s.pwr := rfl
@[simp] theorem onChan_house : (onChan ch f s).house = s.house := rfl
@[simp] theorem onChan_boot : (onChan ch f s).boot = s.boot := rfl
@[simp] theorem onChan_cat : (onChan ch f s).cat = s.cat := rfl
@[simp] theorem onChan_vault : (onChan ch f s).vault = s.vault := rfl
@[simp] theorem onChan_safe : (onChan ch f s).safe = s.safe := rfl
@[simp] theorem onChan_mate : (onChan ch f s).mate = s.mate := rfl
@[simp] theorem onChan_pins : (onChan ch f s).pins = s.pins := rfl

end

/-! `raise` changes `evt` alone. -/

section

variable (n ob : Nat) (a : EvtArg) (s : State)

@[simp] theorem raise_pending : (raise n ob a s).pending = s.pending := rfl
@[simp] theorem raise_free : (raise n ob a s).free = s.free := rfl
@[simp] theorem raise_dev : (raise n ob a s).dev = s.dev := rfl
@[simp] theorem raise_desk : (raise n ob a s).desk = s.desk := rfl
@[simp] theorem raise_par : (raise n ob a s).par = s.par := rfl
@[simp] theorem raise_evt : (raise n ob a s).evt = s.evt.raiseEvt (s.stampAt (evtIsland n ob a)) s.dev.ticks n ob a := rfl
@[simp] theorem raise_chutes : (raise n ob a s).chutes = s.chutes := rfl
@[simp] theorem raise_time : (raise n ob a s).time = s.time := rfl
@[simp] theorem raise_cars : (raise n ob a s).cars = s.cars := rfl
@[simp] theorem raise_rx : (raise n ob a s).rx = s.rx := rfl
@[simp] theorem raise_tx : (raise n ob a s).tx = s.tx := rfl
@[simp] theorem raise_dec : (raise n ob a s).dec = s.dec := rfl
@[simp] theorem raise_il : (raise n ob a s).il = s.il := rfl
@[simp] theorem raise_folio : (raise n ob a s).folio = s.folio := rfl
@[simp] theorem raise_crypt : (raise n ob a s).crypt = s.crypt := rfl
@[simp] theorem raise_bonds : (raise n ob a s).bonds = s.bonds := rfl
@[simp] theorem raise_odum : (raise n ob a s).odum = s.odum := rfl
@[simp] theorem raise_map : (raise n ob a s).map = s.map := rfl
@[simp] theorem raise_prot : (raise n ob a s).prot = s.prot := rfl
@[simp] theorem raise_stk : (raise n ob a s).stk = s.stk := rfl
@[simp] theorem raise_ap : (raise n ob a s).ap = s.ap := rfl
@[simp] theorem raise_cen : (raise n ob a s).cen = s.cen := rfl
@[simp] theorem raise_lanes : (raise n ob a s).lanes = s.lanes := rfl
@[simp] theorem raise_link : (raise n ob a s).link = s.link := rfl
@[simp] theorem raise_pwr : (raise n ob a s).pwr = s.pwr := rfl
@[simp] theorem raise_house : (raise n ob a s).house = s.house := rfl
@[simp] theorem raise_boot : (raise n ob a s).boot = s.boot := rfl
@[simp] theorem raise_cat : (raise n ob a s).cat = s.cat := rfl
@[simp] theorem raise_vault : (raise n ob a s).vault = s.vault := rfl
@[simp] theorem raise_safe : (raise n ob a s).safe = s.safe := rfl
@[simp] theorem raise_mate : (raise n ob a s).mate = s.mate := rfl
@[simp] theorem raise_pins : (raise n ob a s).pins = s.pins := rfl

end

/-! `beginTransition` changes `desk` alone. -/

section

variable (fn : Fn) (op : Nat) (q : Request) (s : State)

@[simp] theorem beginTransition_pending : (beginTransition fn op q s).pending = s.pending := rfl
@[simp] theorem beginTransition_free : (beginTransition fn op q s).free = s.free := rfl
@[simp] theorem beginTransition_dev : (beginTransition fn op q s).dev = s.dev := rfl
@[simp] theorem beginTransition_desk : (beginTransition fn op q s).desk = { s.desk with transitions := { fn := fn, op := op, by_ := some (q.ch, q.tag) } :: s.desk.transitions } := rfl
@[simp] theorem beginTransition_par : (beginTransition fn op q s).par = s.par := rfl
@[simp] theorem beginTransition_evt : (beginTransition fn op q s).evt = s.evt := rfl
@[simp] theorem beginTransition_chutes : (beginTransition fn op q s).chutes = s.chutes := rfl
@[simp] theorem beginTransition_time : (beginTransition fn op q s).time = s.time := rfl
@[simp] theorem beginTransition_cars : (beginTransition fn op q s).cars = s.cars := rfl
@[simp] theorem beginTransition_rx : (beginTransition fn op q s).rx = s.rx := rfl
@[simp] theorem beginTransition_tx : (beginTransition fn op q s).tx = s.tx := rfl
@[simp] theorem beginTransition_dec : (beginTransition fn op q s).dec = s.dec := rfl
@[simp] theorem beginTransition_il : (beginTransition fn op q s).il = s.il := rfl
@[simp] theorem beginTransition_folio : (beginTransition fn op q s).folio = s.folio := rfl
@[simp] theorem beginTransition_crypt : (beginTransition fn op q s).crypt = s.crypt := rfl
@[simp] theorem beginTransition_bonds : (beginTransition fn op q s).bonds = s.bonds := rfl
@[simp] theorem beginTransition_odum : (beginTransition fn op q s).odum = s.odum := rfl
@[simp] theorem beginTransition_map : (beginTransition fn op q s).map = s.map := rfl
@[simp] theorem beginTransition_prot : (beginTransition fn op q s).prot = s.prot := rfl
@[simp] theorem beginTransition_stk : (beginTransition fn op q s).stk = s.stk := rfl
@[simp] theorem beginTransition_ap : (beginTransition fn op q s).ap = s.ap := rfl
@[simp] theorem beginTransition_cen : (beginTransition fn op q s).cen = s.cen := rfl
@[simp] theorem beginTransition_lanes : (beginTransition fn op q s).lanes = s.lanes := rfl
@[simp] theorem beginTransition_link : (beginTransition fn op q s).link = s.link := rfl
@[simp] theorem beginTransition_pwr : (beginTransition fn op q s).pwr = s.pwr := rfl
@[simp] theorem beginTransition_house : (beginTransition fn op q s).house = s.house := rfl
@[simp] theorem beginTransition_boot : (beginTransition fn op q s).boot = s.boot := rfl
@[simp] theorem beginTransition_cat : (beginTransition fn op q s).cat = s.cat := rfl
@[simp] theorem beginTransition_vault : (beginTransition fn op q s).vault = s.vault := rfl
@[simp] theorem beginTransition_safe : (beginTransition fn op q s).safe = s.safe := rfl
@[simp] theorem beginTransition_mate : (beginTransition fn op q s).mate = s.mate := rfl
@[simp] theorem beginTransition_pins : (beginTransition fn op q s).pins = s.pins := rfl

end

/-! Completing a request changes the Desk alone; so does a new phase. -/

section

variable (ch : Fin 4) (tag : Word16) (r : Resp) (p : Phase) (s : State)

@[simp] theorem complete_pending : (complete ch tag r s).pending = s.pending := by unfold complete; split <;> rfl
@[simp] theorem setPhase_pending : (setPhase ch tag p s).pending = s.pending := rfl
@[simp] theorem complete_free : (complete ch tag r s).free = s.free := by unfold complete; split <;> rfl
@[simp] theorem setPhase_free : (setPhase ch tag p s).free = s.free := rfl
@[simp] theorem complete_dev : (complete ch tag r s).dev = s.dev := by unfold complete; split <;> rfl
@[simp] theorem setPhase_dev : (setPhase ch tag p s).dev = s.dev := rfl
@[simp] theorem complete_par : (complete ch tag r s).par = s.par := by unfold complete; split <;> rfl
@[simp] theorem setPhase_par : (setPhase ch tag p s).par = s.par := rfl
@[simp] theorem complete_evt : (complete ch tag r s).evt = s.evt := by unfold complete; split <;> rfl
@[simp] theorem setPhase_evt : (setPhase ch tag p s).evt = s.evt := rfl
@[simp] theorem complete_chutes : (complete ch tag r s).chutes = s.chutes := by unfold complete; split <;> rfl
@[simp] theorem setPhase_chutes : (setPhase ch tag p s).chutes = s.chutes := rfl
@[simp] theorem complete_time : (complete ch tag r s).time = s.time := by unfold complete; split <;> rfl
@[simp] theorem setPhase_time : (setPhase ch tag p s).time = s.time := rfl
@[simp] theorem complete_cars : (complete ch tag r s).cars = s.cars := by unfold complete; split <;> rfl
@[simp] theorem setPhase_cars : (setPhase ch tag p s).cars = s.cars := rfl
@[simp] theorem complete_rx : (complete ch tag r s).rx = s.rx := by unfold complete; split <;> rfl
@[simp] theorem setPhase_rx : (setPhase ch tag p s).rx = s.rx := rfl
@[simp] theorem complete_tx : (complete ch tag r s).tx = s.tx := by unfold complete; split <;> rfl
@[simp] theorem setPhase_tx : (setPhase ch tag p s).tx = s.tx := rfl
@[simp] theorem complete_dec : (complete ch tag r s).dec = s.dec := by unfold complete; split <;> rfl
@[simp] theorem setPhase_dec : (setPhase ch tag p s).dec = s.dec := rfl
@[simp] theorem complete_il : (complete ch tag r s).il = s.il := by unfold complete; split <;> rfl
@[simp] theorem setPhase_il : (setPhase ch tag p s).il = s.il := rfl
@[simp] theorem complete_folio : (complete ch tag r s).folio = s.folio := by unfold complete; split <;> rfl
@[simp] theorem setPhase_folio : (setPhase ch tag p s).folio = s.folio := rfl
@[simp] theorem complete_crypt : (complete ch tag r s).crypt = s.crypt := by unfold complete; split <;> rfl
@[simp] theorem setPhase_crypt : (setPhase ch tag p s).crypt = s.crypt := rfl
@[simp] theorem complete_bonds : (complete ch tag r s).bonds = s.bonds := by unfold complete; split <;> rfl
@[simp] theorem setPhase_bonds : (setPhase ch tag p s).bonds = s.bonds := rfl
@[simp] theorem complete_odum : (complete ch tag r s).odum = s.odum := by unfold complete; split <;> rfl
@[simp] theorem setPhase_odum : (setPhase ch tag p s).odum = s.odum := rfl
@[simp] theorem complete_map : (complete ch tag r s).map = s.map := by unfold complete; split <;> rfl
@[simp] theorem setPhase_map : (setPhase ch tag p s).map = s.map := rfl
@[simp] theorem complete_prot : (complete ch tag r s).prot = s.prot := by unfold complete; split <;> rfl
@[simp] theorem setPhase_prot : (setPhase ch tag p s).prot = s.prot := rfl
@[simp] theorem complete_stk : (complete ch tag r s).stk = s.stk := by unfold complete; split <;> rfl
@[simp] theorem setPhase_stk : (setPhase ch tag p s).stk = s.stk := rfl
@[simp] theorem complete_ap : (complete ch tag r s).ap = s.ap := by unfold complete; split <;> rfl
@[simp] theorem setPhase_ap : (setPhase ch tag p s).ap = s.ap := rfl
@[simp] theorem complete_cen : (complete ch tag r s).cen = s.cen := by unfold complete; split <;> rfl
@[simp] theorem setPhase_cen : (setPhase ch tag p s).cen = s.cen := rfl
@[simp] theorem complete_lanes : (complete ch tag r s).lanes = s.lanes := by unfold complete; split <;> rfl
@[simp] theorem setPhase_lanes : (setPhase ch tag p s).lanes = s.lanes := rfl
@[simp] theorem complete_link : (complete ch tag r s).link = s.link := by unfold complete; split <;> rfl
@[simp] theorem setPhase_link : (setPhase ch tag p s).link = s.link := rfl
@[simp] theorem complete_pwr : (complete ch tag r s).pwr = s.pwr := by unfold complete; split <;> rfl
@[simp] theorem setPhase_pwr : (setPhase ch tag p s).pwr = s.pwr := rfl
@[simp] theorem complete_house : (complete ch tag r s).house = s.house := by unfold complete; split <;> rfl
@[simp] theorem setPhase_house : (setPhase ch tag p s).house = s.house := rfl
@[simp] theorem complete_boot : (complete ch tag r s).boot = s.boot := by unfold complete; split <;> rfl
@[simp] theorem setPhase_boot : (setPhase ch tag p s).boot = s.boot := rfl
@[simp] theorem complete_cat : (complete ch tag r s).cat = s.cat := by unfold complete; split <;> rfl
@[simp] theorem setPhase_cat : (setPhase ch tag p s).cat = s.cat := rfl
@[simp] theorem complete_vault : (complete ch tag r s).vault = s.vault := by unfold complete; split <;> rfl
@[simp] theorem setPhase_vault : (setPhase ch tag p s).vault = s.vault := rfl
@[simp] theorem complete_safe : (complete ch tag r s).safe = s.safe := by unfold complete; split <;> rfl
@[simp] theorem setPhase_safe : (setPhase ch tag p s).safe = s.safe := rfl
@[simp] theorem complete_mate : (complete ch tag r s).mate = s.mate := by unfold complete; split <;> rfl
@[simp] theorem setPhase_mate : (setPhase ch tag p s).mate = s.mate := rfl
@[simp] theorem complete_pins : (complete ch tag r s).pins = s.pins := by unfold complete; split <;> rfl
@[simp] theorem setPhase_pins : (setPhase ch tag p s).pins = s.pins := rfl

end

end Sys2Proof.Machine
end

