-- ==== Sys2Proof/Tests/Slice0.lean ====
section
/-! SUPPORT. The model's own tests: what ill-formed commands the check refuses, small states that meet the hypotheses of the
statements, and single steps. -/

namespace Sys2Proof.Tests

set_option Elab.async false
open Sys2Proof.Machine

/-- A request on channel 1 with a bulk slot. -/
def req (body : List Byte) (bulk : List Byte := []) : Request :=
  { ch := 1, tag := 7, ordered := false, holdMs := 0, slot := some 0, body := body, bulk := bulk }

/-- A request that has been accepted and has not started. -/
def waits (op : Nat) (q : Request) (s : State) : State :=
  onChan q.ch (fun c => { c with outst := [{ op := op, req := q, seq := 1, order := 0, at_ := 0, phase := .waiting }] }) s

/-- A HUB that runs: RESET_N is high, every domain is in RUN, the Curator answers, the Stacks are initialised. -/
def up : State :=
  let z := State.reset
  { z with
    dev := { z.dev with mode := some .hub }
    boot := { z.boot with resetLow := false }
    desk := { z.desk with ready := true, chans := Vector.replicate 4 { ready := true } }
    pwr := { z.pwr with domains := Vector.replicate 20 { st := .run } }
    stk := { z.stk with initialised := true, cleared := true } }

/-- Does a request run from `s` once it has been accepted? -/
def startsAt (s : State) (op : Nat) (body : List Byte) (bulk : List Byte := []) : Bool :=
  runs op (req body bulk) (waits op (req body bulk) s)

/-- Does a request have its turn at `s` once it has been accepted? -/
def turnAt (s : State) (op : Nat) (body : List Byte) (bulk : List Byte := []) : Bool :=
  hasTurn op (req body bulk) (waits op (req body bulk) s)

/-- Protection group 0 exists, with the protection carrier 1. -/
def guarded (f : Prot → Prot := id) (s : State := up) : State := onProt 0 (fun p => f { p with exists_ := true }) s

/-- A state with one parameter set. -/
def withPar (t : PTab) (ob pid : Nat) (v : Int) (s : State) : State := { s with par := s.par.put { tab := t, obj := ob, pid := pid, val := v } }

/-- An item at rest or falling. -/
def anItem : Item := { data := 1, errs := 0, endMark := 7, poison := 0 }

/-- Chute 100, Wide, of a pool and STORE, holding `n` items at rest and a write that waits. -/
def chuteUp (n : Nat) (w : Option Item) : State :=
  onChute 100 (fun c => { c with items := List.replicate n (.item anItem true), pendingWrite := w }) up

/-- The cases of a write: no such Chute, closed, room (up to the last stage), full, a write waiting; a packet at its
last item. -/
theorem meets_ChuteWritten :
    (chuteId 176 = none ∧ (chuteId 175).isSome = true) ∧
    ((chuteId 100).all (fun i => !chuteOpen State.reset i && chuteOpen (chuteUp 0 none) i) = true) ∧
    ((chuteUp 15 none).chutes[100].held < chuteStages 0 ∧ chuteStages 0 ≤ (chuteUp 16 none).chutes[100].held) ∧
    (vote3 3 = true ∧ vote3 1 = false ∧ 14 + 1 < chutePacket 0 ∧ ¬15 + 1 < chutePacket 0) ∧
    ((chuteUp 16 (some anItem)).chutes[100].pendingWrite = some anItem ∧ (chuteUp 15 (some anItem)).chutes[100].pendingWrite = some anItem) ∧
    ((chuteId 100).all (fun i => !i.fixedRate) = true ∧ (chuteId 78).all ChuteId.fixedRate = true) :=
  ⟨by decide +kernel, by decide +kernel, by decide +kernel, by decide +kernel, by decide +kernel, by decide +kernel⟩

/-- A Chute with an item, at rest or not, read or not. -/
def chuteItem (rest reading : Bool) : State :=
  onChute 100 (fun c => { c with items := [.item anItem rest], reading := reading }) up

/-- An item comes to rest while a read waits and while none does; an empty Chute; an item not at rest; one at rest; a
full Chute with a write waiting; the mark at the head. -/
theorem meets_ChuteTaken :
    ((chuteItem false true).chutes[100].items = [] ++ .item anItem false :: [] ∧ (chuteItem false true).chutes[100].pendingWrite = none) ∧
    ((chuteItem false true).chutes[100].reading = true ∧ (chuteItem false false).chutes[100].reading = false) ∧
    ((chuteUp 0 none).chutes[100].items = [] ∧ (chuteItem true false).chutes[100].items = [.item anItem true]) ∧
    ((chuteUp 16 (some anItem)).chutes[100].held = chuteStages 0 ∧ (chuteUp 16 (some anItem)).chutes[100].items = .item anItem true :: List.replicate 15 (.item anItem true)) ∧
    ((onChute 100 (fun c => { c with items := [.mark], counting := some 3 }) up).chutes[100].counting = some 3) :=
  ⟨by decide +kernel, by decide +kernel, by decide +kernel, by decide +kernel, by decide +kernel⟩

/-- A read stalls while the item falls: it is kept and takes the item as it comes to rest (R19). -/
theorem test_chute_read_stalls : (match exec (.chuteRead 100) (chuteItem false false) with
    | .next s => s.chutes[100].reading && s.chutes[100].out.isNone
    | _ => false) = true ∧
    (match exec (.chuteItemRest 100) (chuteItem false true) with
    | .next s => decide (s.chutes[100].items = [] ∧ s.chutes[100].out = some (1, true, false))
    | _ => false) = true :=
  ⟨by decide +kernel, by decide +kernel⟩

/-- Two errors in an item are delivered as poison (R21). -/
theorem test_chute_uncorrectable : (match exec (.chuteRead 100)
    (onChute 100 (fun c => { c with items := [.item { anItem with errs := 2 } true] }) up) with
    | .next s => decide (s.chutes[100].out = some (1, true, true) ∧ s.evt.status.getLsbD 1 = true)
    | _ => false) = true := by
  decide +kernel

/-- The Stacks of `up` with word 5 stored as given. -/
def stored (v : List Byte) : State := onStk (fun k => k.store 5 v) up

/-- A word of 64 bytes, clean; with one symbol wrong; with five. -/
def goodWord : List Byte := mkWord ((List.range 64).map (BitVec.ofNat 8)) 3 1 false false false
def oneBad : List Byte := goodWord.take 3 ++ [0xA5] ++ goodWord.drop 4
def fiveBad : List Byte := [0xFF, 0xFF, 0xFF, 0xFF, 0xFF] ++ goodWord.drop 5

/-- Channel 1 of stack 0, which word 5 uses, with `n` transactions in flight and a narrow write waiting. -/
def tagged (n : Nat) : State := onStk (fun k => { k with tags := k.tags.set 1 n, tagWait := [(1, .narrow 5 0 [1] 1)] }) up

/-- Word 5 holds a clean word, a correctable one, one that cannot be corrected, a poisoned one; its channel has room for
one more, or none. -/
theorem meets_StacksWords :
    ((stored goodWord).stk.wf = true ∧ (tagged 767).stk.tags.getD (chanKey 5) 0 < 768 ∧ 768 ≤ (tagged 768).stk.tags.getD (chanKey 5) 0) ∧
    (rsDecode ((stored goodWord).stk.word 5) = .clean ∧ wPoison goodWord = false ∧ wPoison (poisonWord goodWord) = true ∧ rsDecode (poisonWord goodWord) = .clean) ∧
    (rsDecode ((stored oneBad).stk.word 5) = .corrected goodWord [3]) ∧
    (rsDecode ((stored fiveBad).stk.word 5) = .uncorrectable) ∧
    ((∀ x ∈ up.stk.tagWait, x.1 ≠ 1) ∧ (tagged 768).stk.tagWait = [] ++ (1, .narrow 5 0 [1] 1) :: []) :=
  ⟨by decide +kernel, by decide +kernel, by decide +kernel, by decide +kernel, by decide +kernel⟩

/-- REGION and SEQ as expected and not; the scrubber off by parameter, and on with a word before it and with none left
in the pass. -/
theorem meets_StacksReads :
    (wRegion goodWord = 1 ∧ wSeq goodWord = 3 ∧ ¬(wRegion goodWord = 1 ∧ wSeq goodWord = 4)) ∧
    (getPar up .r252 objDevice 0x40 = 1 ∧ nextScrub up.stk 65537 up.stk.scrubPos = some 0) ∧
    (getPar (withPar .r252 objDevice 0x40 0 up) .r252 objDevice 0x40 ≠ 1 ∧ State.reset.stk.initialised = false) ∧
    (nextScrub up.stk 65537 2147483648 = none ∧ nextScrub up.stk 65537 0 = some 0) :=
  ⟨by decide +kernel, by decide +kernel, by decide +kernel, by decide +kernel⟩

/-- The Stacks with regions 0 (page 7) and 1 (page 9), and a Charter of one window that grants page 0 for reading. -/
def withRegions : State :=
  onStk (fun k => { k with regions := [{ r := 0, pages := [7] }, { r := 1, pages := [9] }] })
    { up with dev := { up.dev with charter := List.replicate 13 0 ++ [1] ++ List.replicate 34 0 ++ [0, 1, 0, 0, 0, 0, 0, 0] ++ List.replicate 8 0 } }

/-- Page 9 waits for its release. -/
def retiringPage : State := onStk (fun k => { k with retiring := [{ page := 9, cause := 0, stack := 1, chan := 0, bank := 2 }] }) withRegions

/-- Page 7 of the Census area waits for the next snapshot. -/
def leavingPage : State :=
  onStk (fun k => { k with regions := [{ r := 0, pages := [7], leaving := [(7, 11)] }], retiring := [{ page := 7, cause := 0, stack := 3, chan := 0, bank := 1 }] }) up

/-- STACKS.INIT with and without a region in use, and with region 0 given; STACKS.RETIRE of a free page and of a page of
region 1; the last tracker entry; a word to clear, the last one, and all; a word that a Charter window grants and one
that it does not; initialisation ending; a page's release. -/
theorem meets_StacksCommands :
    (startsAt withRegions 0x0A01 [8, 0, 0, 0] = true ∧ (∃ r ∈ withRegions.stk.regions, r.r ≠ 0) ∧ (∀ r ∈ up.stk.regions, r.r = 0)) ∧
    (up.stk.region 0 = none ∧ (up.stk.allocRegion 0 40).isSome = true) ∧
    ((onStk (fun k => { k with regions := [{ r := 0, pages := [7] }] }) up).stk.region 0 = some { r := 0, pages := [7] } ∧ startsAt up 0x0A01 [8, 0, 0, 0] = true) ∧
    (startsAt withRegions 0x0A03 [8, 0, 0, 0, 0, 0, 9, 0, 1, 0, 2, 0] = true ∧ withRegions.stk.retiring = [] ∧ withRegions.stk.log.length < 2048) ∧
    (withRegions.stk.regionAt 9 = some { r := 1, pages := [9] } ∧ withRegions.stk.regionAt 8 = none ∧ withRegions.stk.retired 9 = false) ∧
    (startsAt up 0x0A05 [8, 0, 0, 0, 0xFF, 0, 0, 0] = true ∧ startsAt up 0x0A06 [8, 0, 0, 0, 0xFF, 0xFF, 0xFF, 0x7F] = true ∧ startsAt up 0x0A06 [8, 0, 0, 0, 0xFF, 0xFF, 0xFF, 0xFF] = true) ∧
    (startsAt up 0x0A07 [8, 0, 0, 0] = true ∧ startsAt withRegions 0x0A08 [8, 0, 0, 0, 0, 0, 0, 0] = true ∧ startsAt up 0x0A08 [8, 0, 0, 0, 0, 0, 0, 0x80] = true) ∧
    (windowGrants withRegions 0 0 = true ∧ windowGrants withRegions 1 0 = false) ∧
    ((onStk (fun k => { k with initBusy := true }) up).stk.initBusy = true ∧ stacksRun up = true ∧ stacksRun State.reset = true ∧ up.stk.log = []) ∧
    ((∀ e ∈ up.stk.retiring, e.page ≠ 9) ∧ withRegions.stk.planned 8 = false ∧ (∃ r ∈ leavingPage.stk.regions, ∃ x ∈ r.leaving, x.1 = 7) ∧ stillHeld leavingPage 7 = true ∧ stillHeld retiringPage 9 = false ∧ retiringPage.stk.retiring = [{ page := 9, cause := 0, stack := 1, chan := 0, bank := 2 }]) :=
  ⟨by decide +kernel, by decide +kernel, by decide +kernel, by decide +kernel, by decide +kernel, by decide +kernel, by decide +kernel, by decide +kernel, by decide +kernel, by decide +kernel⟩

/-- The aperture enabled over a Charter window that grants page 0, with word 5 stored as given. -/
def aperture (v : List Byte) : State :=
  { onStk (fun k => k.store 5 v) withRegions with ap := { up.ap with en := true }, pins := { up.pins with perstLow := false } }

/-- The aperture closed at reset and open; a read and a write that no window grants; one word, whole and in part, clean
and poisoned. -/
theorem meets_Aperture :
    (¬(State.reset.pwr.st ≠ .sleep ∧ State.reset.ap.en = true ∧ pathServed State.reset .bar0 = true)) ∧
    ((aperture goodWord).pwr.st ≠ .sleep ∧ (aperture goodWord).ap.en = true ∧ pathServed (aperture goodWord) .bar0 = true) ∧
    ((apStop (aperture goodWord) 0 (apertureWords (aperture goodWord) 0x200000 64)).isSome = true ∧ (apStop (aperture goodWord) 1 (apertureWords (aperture goodWord) 0 4)).isSome = true) ∧
    (apStop (aperture goodWord) 0 [5] = none ∧ rsDecode ((aperture goodWord).stk.word 5) = .clean ∧ wPoison ((aperture goodWord).stk.word 5) = false) ∧
    (rsDecode ((aperture (poisonWord goodWord)).stk.word 5) = .clean ∧ wPoison ((aperture (poisonWord goodWord)).stk.word 5) = true) :=
  ⟨by decide +kernel, by decide +kernel, by decide +kernel, by decide +kernel, by decide +kernel⟩

/-- The worked address of R249 and R250: byte address 0x0F_0D26_9A80 is word 0x3C34_9A6A, page 30,825 on stack 1, channel 10,
bank 26. -/
theorem test_worked_address : 0x0F0D269A80 / 64 = 0x3C349A6A ∧ pageOf 0x3C349A6A = 30825 ∧ stackOfPage 30825 = 1 ∧ chanOfWord 0x3C349A6A = 10
    ∧ bankOfPage 30825 = 26 := by
  decide +kernel

/-- A state whose time engine is changed. -/
def timed (f : TimeState → TimeState) (s : State := up) : State := { s with time := f s.time }

/-- Candidate 3 is eligible, second in a priority table whose first entry, 2, is active alone. -/
def withCands (f : TimeState → TimeState := id) : State :=
  timed fun t => f { t with cands := upd (upd t.cands 3 fun c => { c with active := true, inTol := true, qualified := true }) 2 fun c => { c with active := true },
                            prio := [2, 3] ++ List.replicate 10 0xFF }

/-- A good history of an hour at control value 5. -/
def goodHour : List (Int × Bool) := List.replicate 3600 (5, true)

/-- Force, manual, the locked reference and the priority table; retargeting from and to each; a second out of tolerance;
a bad oscillator; the commands. -/
theorem meets_FrequencyReferences :
    ((withCands fun t => { t with force := some 2 }).time.force = some 2 ∧ ((withCands).cand 2).active = true) ∧
    ((withCands fun t => { t with manual := some 3 }).time.manual = some 3 ∧ ((withCands).cand 3).eligible = true ∧ ((withCands).cand 2).eligible = false) ∧
    ((withCands).time.force = none ∧ (withCands).time.manual = none ∧ followsMate withCands = false ∧ revertive (withPar .r285 objTime 0x51 0 withCands) = false ∧ revertive (withPar .r285 objTime 0x51 1 withCands) = true) ∧
    ((withCands).time.dpll ≠ .locked ∧ chooseTarget withCands = some 3 ∧ (withCands fun t => { t with dpll := .locked, selected := some 3 }).time.selected = some 3) ∧
    (chooseTarget up = none ∧ up.time.dpll = .freeRun ∧ (timed fun t => { t with dpll := .locked }).time.dpll ≠ .holdover) ∧
    (historyQualified goodHour = true ∧ holdoverSpan (goodHour.drop 31) = some 5 ∧ historyQualified [] = false) ∧
    (refOffsets (withPar .r285 objTime 0x63 1 withCands) [(3, 7)] = [(3, 7)] ∧ ((withCands).cand 5).oot < 2) ∧
    (((withCands).cand 2).inTol = false ∧ ((withCands).cand 3).active = true ∧ ((withCands).cand 3).inTol = true ∧ ((withCands).cand 3).qualified = true) ∧
    ((timed fun t => { t with learning := true }).time.learning = true ∧ up.time.learning = false ∧ ((oscPoly (0, 0, 0, 0) 3200 - oscPoly (0, 0, 0, 0) 3200).natAbs : Int) ≤ ppmRate 10) ∧
    (startsAt up 0x0B03 [9, 0, 0, 0, 11, 3] = true ∧ startsAt up 0x0B03 [9, 0, 0, 0, 12, 0] = true ∧ startsAt up 0x0B03 [9, 0, 0, 0, 11, 4] = true ∧ startsAt withCands 0x0B03 [9, 0, 0, 0, 3, 1] = true) ∧
    (startsAt up 0x0B04 [9, 0, 0, 0, 0, 31] = true ∧ startsAt up 0x0B04 [9, 0, 0, 0, 0, 32] = true ∧ startsAt up 0x0B04 [9, 0, 0, 0, 1, 63] = true ∧ startsAt up 0x0B04 [9, 0, 0, 0, 2, 0] = true) ∧
    (startsAt up 0x0B05 ([9, 0, 0, 0] ++ leBytes 4 3600000) = true ∧ startsAt up 0x0B05 ([9, 0, 0, 0] ++ leBytes 4 3599999) = true ∧ startsAt up 0x0B05 ([9, 0, 0, 0] ++ leBytes 4 604800000) = true) ∧
    (startsAt up 0x0B0B [9, 0, 0, 0] = true ∧ timeBusy up = false ∧ timeBusy { up with cars := Vector.replicate 2 { enabled := true } } = true) :=
  ⟨by decide +kernel, by decide +kernel, by decide +kernel, by decide +kernel, by decide +kernel, by decide +kernel, by decide +kernel, by decide +kernel, by decide +kernel, by decide +kernel, by decide +kernel, by decide +kernel, by decide +kernel⟩

/-- The host is the source in use, with one sample of θ in the window. -/
def hostTime (servo : Servo) (th : Int) : State :=
  timed (fun t => { t with inUse := some .host, servo := servo, winSum := th, winCount := 1, hostSet := true, primary10 := true }) (withPar .r285 objTime 0x90 2 up)

/-- The core stopped and running, with a step, a value and an adjustment waiting; sources gained, lost and kept; windows
that lock, step, slew and warn; the commands and the edges of 1PPS_IN. -/
theorem meets_TimeOfDay :
    (coreUp State.reset = false ∧ coreUp up = true ∧ up.time.adjust = 0 ∧ up.time.stepBy = none ∧ up.time.stepTo = none ∧ latching up = false) ∧
    ((timed fun t => { t with stepTo := some 9 }).time.stepTo = some 9 ∧ 0 ≤ (timed fun t => { t with adjust := 9 }).time.adjust) ∧
    (up.time.primary10 = false ∧ chooseSource up = up.time.inUse ∧ chooseSource (hostTime .locked 0) = some .host ∧ (hostTime .locked 0).time.inUse = some .host) ∧
    (chooseSource (timed fun t => { t with inUse := some .host, servo := .locked }) = none) ∧
    ((∃ p, primary (hostTime .locked 0) = some p ∧ sourceValid (hostTime .locked 0) p = true) ∧ primary (withPar .r285 objTime 0x90 0xFF up) = none) ∧
    (up.time.inUse = none ∧ (hostTime .acquire 1).time.winCount ≠ 0 ∧ (hostTime .acquire 1).time.servo = .acquire) ∧
    (divRound (getPar up .r285 objTime 0xB0 * 65536) 1 < ((2000000000000 : Int).natAbs : Int)) ∧
    (¬divRound (getPar up .r285 objTime 0xB0 * 65536) 1 < ((getPar up .r285 objTime 0xC0 * 65536 + 1).natAbs : Int) ∧ getPar up .r285 objTime 0xC0 * 65536 < ((getPar up .r285 objTime 0xC0 * 65536 + 1).natAbs : Int)) ∧
    (¬getPar up .r285 objTime 0xC0 * 65536 < ((1 : Int).natAbs : Int)) ∧
    (startsAt up 0x0B07 ([9, 0, 0, 0] ++ List.replicate 8 0 ++ leBytes 4 999999999) = true ∧ startsAt up 0x0B07 ([9, 0, 0, 0] ++ List.replicate 8 0 ++ leBytes 4 1000000000) = true) ∧
    (hostRules (hostTime .locked 0) = true ∧ hostRules (timed fun t => { t with inUse := some .pps }) = false) ∧
    (startsAt up 0x0B08 ([9, 0, 0, 0, 0, 0, 0, 0] ++ leBytes 8 fracPerSec) = true ∧ startsAt up 0x0B08 ([9, 0, 0, 0, 0, 0, 0, 0] ++ leBytes 8 (fracPerSec + 1)) = true) ∧
    (up.time.ppsLos = false ∧ up.time.todMsg = none ∧ (timed fun t => { t with todMsg := some { sec := 7, flags := 0, utcOffset := 37 } }).time.todMsg = some { sec := 7, flags := 0, utcOffset := 37 } ∧ (timed fun t => { t with ppsLos := true }).time.ppsLos = true) :=
  ⟨by decide +kernel, by decide +kernel, by decide +kernel, by decide +kernel, by decide +kernel, by decide +kernel, by decide +kernel, by decide +kernel, by decide +kernel, by decide +kernel, by decide +kernel, by decide +kernel, by decide +kernel⟩

/-- A TOD_IN message for second 7 with its CRC, a quarter of a second after an edge. -/
def todBytes : List Byte := todOutMessage { up.time with utcOffset := 37, utcValid := true } 7
def afterEdge (f : TimeState → TimeState := id) : State :=
  timed (fun t => f { t with ppsLast := some 0 }) { up with dev := { up.dev with ticks := 156250000 } }

/-- Group 0 of carrier 0 is a sink with everything that a sample needs. -/
def sink : State :=
  onLink 0 0 (fun l => { l with farRx := some (0, 5000), farTx := some (0, 4000), tx := [(0, 1000)], rx := [(0, 9000)],
                                burst := some { role := 0, freq := 193100000, cdTotal := 32000, cdSigma := 0, flags := 3, steps := 0, dlyTx := 0, dlyRx := 0, utcOffset := 0 } })
    (withPar .r285 (objLink 0 0) 0xE1 193000000 up)

/-- Bond 5 ends 25 Gb/s Ethernet, with its transparent clock on; an event message. -/
def tcUp : State :=
  { up with
    bonds := upd up.bonds 5 fun b => { b with provisioned := true, iface := 0, fec := 0 }
    par := { up.par with bodies := [{ op := 0x0B10, obj := objBond 5, body := [5, 5, 0, 0, 1, 0, 0, 0], bulk := [] }] } }
def syncMsg : PtpMsg := { carry := .ether 0x88F7, mtype := 0, correction := 0, field := 0, tags := [], major := 2 }

/-- A good message and bad ones; 1PPS_OUT on and squelched; a Colophon record of each kind and a bad one; a sample that
has all it needs and one that has not; a link of either mode; a message that is handled and one that is not. -/
theorem meets_TimeMessages :
    (todInOk todBytes afterEdge = true ∧ todInOk (todBytes.drop 1) afterEdge = false ∧ todInOk todBytes up = false ∧ todInOk todBytes (afterEdge fun t => { t with lastNamed := some 7 }) = false) ∧
    (getPar up .r285 objTime 0x101 = 0 ∧ up.time.servo ≠ .locked ∧ up.time.servo ≠ .holdover ∧ (hostTime .locked 0).time.servo = .locked) ∧
    (up.time.ppsOutSec = none ∧ (timed fun t => { t with ppsOutSec := some 4 }).time.ppsOutSec = some 4) ∧
    ((chutePoison 10 23 up).1 = [] ∧ byteAt (ohField 160 (ohField 160 (padTo 16 [0x40]))) 0 / 64 = 1 ∧ byteAt (ohField 160 (ohField 160 (padTo 16 [0x80]))) 0 / 64 = 2) ∧
    ((up.lnk 0 0).burst = none ∧ (sink.lnk 0 0).burst.isSome = true ∧ stampFor (sink.fol 0 0).txVolume (sink.lnk 0 0).tx 0 = some 1000 ∧ stampFor (sink.fol 0 0).rxVolume (sink.lnk 0 0).rx 0 = some 9000) ∧
    (linkPar sink 0 0 0xE5 ≠ 1 ∧ linkPar sink 0 0 0xE1 ≠ 0 ∧ linkPar (withPar .r285 (objLink 0 0) 0xE5 1 sink) 0 0 0xE5 = 1) ∧
    (linkRole sink 0 0 = 0 ∧ linkRole (withPar .r285 (objLink 0 0) 0xE0 2 sink) 0 0 = 2) ∧
    (tcOn up 5 = false ∧ tcOn tcUp 5 = true ∧ syncMsg.handled = true ∧ { syncMsg with mtype := 12 }.handled = false) ∧
    (startsAt tcUp 0x0B10 [5, 5, 0, 0, 1] = true ∧ startsAt tcUp 0x0B10 [5, 5, 0, 0, 2] = true ∧ ethTerminate up.bonds[4] = false ∧ (bodyOf tcUp 0x0B10 (objBond 5)).isSome = true) :=
  ⟨by decide +kernel, by decide +kernel, by decide +kernel, by decide +kernel, by decide +kernel, by decide +kernel, by decide +kernel, by decide +kernel, by decide +kernel⟩

/-- The message of TOD_OUT is 16 bytes that TOD_IN accepts (R264). -/
theorem test_tod_message : todBytes.length = 16 ∧ beAt todBytes 4 6 = 7 ∧ byteAt todBytes 3 = 8 ∧ crc16 ("123456789".toUTF8.toList.map (·.toBitVec)) = 0x29B1 := by
  decide +kernel

/-- Lane `l` is changed. -/
def laned (l : Fin 48) (f : Lane → Lane) : State := onLane l f up

/-- A provisioned lane of class 0, up. -/
def laneUp (x : Lane) : Lane := { x with provisioned := true, rate := 26562500, st := .up, los := false, mode := .training }

/-- Bond 8 of one lane, provisioned. -/
def bonded : State := { laned 8 laneUp with bonds := upd up.bonds 8 fun b => { b with provisioned := true, k := 1, iface := 0 } }

/-- A lane of the mate link in training. -/
def mateLane (ph : MatePhase) (f : Lane → Lane := id) : State :=
  let s := laned 32 (fun x => f { x with provisioned := true, rate := 26562500, st := .train, los := false, mode := .stepped })
  { s with link := { s.link with phase := ph } }

/-- A lane in no bond and one in a bond; every refusal of LANE.PROVISION and a lane it takes; loss of signal at a
stepped lane that trains and at others; each kind of training; the commands of test and loopback. -/
theorem meets_LaneBringUp :
    ((∀ b : Fin 48, ¬(up.bonds[b].provisioned = true ∧ b.val ≤ 8 ∧ 8 < b.val + up.bonds[b].k)) ∧ bondOfLane bonded 8 = some 8) ∧
    (startsAt up 0x0C01 ([4, 8, 0, 0] ++ leBytes 4 26562500 ++ [1, 0, 0, 0, 0, 0, 0, 128, 0]) = true ∧ up.lanes[8].provisioned = false ∧ ¬stopHeld 3 up) ∧
    ((tapsOf (req ([4, 8, 0, 0] ++ leBytes 4 26562500 ++ [1, 0, 0, 0, 0, 0, 0, 127, 1]))).getD 3 0 = 127 ∧ ((tapsOf (req ([4, 8, 0, 0] ++ leBytes 4 26562500 ++ [1, 0, 0, 0, 0, 0, 0, 127, 1]))).map Int.natAbs).sum = 128) ∧
    ((∃ r ∈ laneRates, r.1 = 26562500) ∧ (∀ r ∈ laneRates, r.1 ≠ 26562501) ∧ pickSynth up 8 26562500 = some 0 ∧ (laned 8 laneUp).lanes[8].provisioned = true) ∧
    (pickSynth (onLane 9 (fun x => { laneUp x with synth := 0 }) (onLane 10 (fun x => { laneUp x with rate := 53125000, synth := 1 }) up)) 8 106250000 = none) ∧
    (startsAt (laned 8 laneUp) 0x0C02 [4, 8, 0, 0] = true ∧ (bondOfLane bonded 8).isSome = true ∧ (bondOfLane (laned 8 laneUp) 8).isSome = false) ∧
    ((laned 8 laneUp).lanes[8].st ≠ .off ∧ (laned 8 laneUp).lanes[8].los = false ∧ (laned 8 laneUp).lanes[8].rxDir ≠ .sleep ∧ up.lanes[8].st = .off) ∧
    (isStepped (mateLane .training).lanes[32] = true ∧ (mateLane .training).link.phase = .training ∧ (mateLane .training).lanes[32].pass = none ∧ isStepped (laned 8 laneUp).lanes[8] = false) ∧
    ((laned 8 fun x => { laneUp x with st := .wait, los := true }).lanes[8].excluded = false ∧ (laned 8 fun x => { laneUp x with st := .wait, los := true, excluded := true }).lanes[8].st = .wait) ∧
    ((laned 8 fun x => { laneUp x with st := .an }).lanes[8].st = .an ∧ bondOfLane bonded 8 = some 8 ∧ (bonded.bonds[8].iface, bonded.bonds[8].k) ∈ [(0, 1)]) ∧
    ((laned 8 fun x => { laneUp x with st := .train }).lanes[8].trained = false ∧ (mateLane .up).link.phase = .up) ∧
    (startsAt (laned 8 laneUp) 0x0C04 [4, 8, 0, 0, 11, 11, 12, 0] = true ∧ classOf (laned 8 laneUp).lanes[8].rate = 0 ∧ laneNeedsForce bonded 8 = true ∧ laneNeedsForce (laned 8 laneUp) 8 = false) ∧
    (startsAt (laned 8 laneUp) 0x0C04 [4, 8, 0, 0, 12, 0, 0, 0] = true ∧ startsAt (laned 8 laneUp) 0x0C04 [4, 8, 0, 0, 0, 12, 0, 0] = true ∧ startsAt (laned 8 laneUp) 0x0C04 [4, 8, 0, 0, 0, 0, 2, 0] = true) ∧
    (startsAt (laned 8 laneUp) 0x0C05 [4, 8, 0, 0, 3, 1] = true ∧ startsAt (laned 8 laneUp) 0x0C05 [4, 8, 0, 0, 4, 0] = true ∧ startsAt (laned 8 laneUp) 0x0C05 [4, 8, 0, 0, 3, 2] = true ∧ (freeSynth up 8).isSome = true) ∧
    (freeSynth (onLane 9 (fun x => { laneUp x with synth := 0 }) (onLane 10 (fun x => { laneUp x with rate := 53125000, synth := 1 }) up)) 8 = none) ∧
    (startsAt (mateLane .up) 0x0C06 [4, 32, 0, 0] = true ∧ startsAt up 0x0C06 [4, 47, 0, 0] = true) :=
  ⟨by decide +kernel, by decide +kernel, by decide +kernel, by decide +kernel, by decide +kernel, by decide +kernel, by decide +kernel, by decide +kernel, by decide +kernel, by decide +kernel, by decide +kernel, by decide +kernel, by decide +kernel, by decide +kernel, by decide +kernel, by decide +kernel⟩

/-- A good frame of the mate link: caps 15, PASS, no request. -/
def mateFrame : List Byte :=
  let b := [0x3C, 0x5A, 0xA5, 0xC3, 0, 0, 15, 0x40, 0, 0, 0, 9] ++ List.replicate 8 0
  b ++ beBytes 2 (crc16 b)

/-- Good and bad frames; a coefficient moved and one at its limit; the soak, every decision and what it needs; the
low-power states of a lane. -/
theorem meets_MateLinkAndLowPower :
    (beAt mateFrame 0 4 = 0x3C5AA5C3 ∧ crc16 (bytesAt mateFrame 0 20) = beAt mateFrame 20 2 ∧ ¬crc16 (bytesAt (0 :: mateFrame) 0 20) = beAt (0 :: mateFrame) 20 2) ∧
    (isStepped (mateLane .training).lanes[32] = true ∧ (mateLane .training).lanes[32].st = .train ∧ (mateLane .up (fun x => { x with st := .up })).lanes[32].st ≠ .train) ∧
    ((mateLane .training (fun x => { x with pass := some true })).lanes[32].pass = some true ∧ (mateLane .training (fun x => { x with pass := some false })).lanes[32].pass = some false) ∧
    ((let x : Lane := {}; let moved := x.taps.modify 2 (· + 1); 0 < moved.getD 3 0 ∧ ¬(moved.map Int.natAbs).sum ≤ 128)) ∧
    ((let x : Lane := {}; let moved := x.taps.modify 3 (· - 1); 0 < moved.getD 3 0 ∧ (moved.map Int.natAbs).sum ≤ 128)) ∧
    ((mateLane .soak).link.phase = .soak ∧ 32 ∈ stepLanes (mateLane .soak) ∧ 33 ∉ stepLanes (mateLane .soak) ∧ (mateLane .decision).link.phase = .decision ∧ (mateLane .quiet).link.phase = .quiet) ∧
    (linkDecision (mateLane .decision) = .restart ∧ linkDecision { mateLane .decision with link := { (mateLane .decision).link with cls := 1 } } = .down) ∧
    (linkDecision (withPar .r305 objMate 0x31 1 (mateLane .decision fun x => { x with pass := some true, farPass := true })) = .hold) ∧
    (linkDecision (withPar .r305 objMate 0x31 1 { (mateLane .decision fun x => { x with pass := some true, farPass := true }) with link := { (mateLane .decision).link with farCaps := 15 } }) = .up) ∧
    (isStepped (laned 32 fun x => { laneUp x with mode := .stepped }).lanes[32] = true ∧ lanePar (withPar .r305 (objLane 32) 0x50 1 up) 32 0x50 = 1 ∧ (laned 32 laneUp).lanes[32].txDir = .active) ∧
    ((laned 8 fun x => { laneUp x with txDir := .ei, rxDir := .ei }).lanes[8].rxDir = .ei ∧ (laned 8 fun x => { laneUp x with rxDir := .sleep }).lanes[8].rxDir = .sleep) :=
  ⟨by decide +kernel, by decide +kernel, by decide +kernel, by decide +kernel, by decide +kernel, by decide +kernel, by decide +kernel, by decide +kernel, by decide +kernel, by decide +kernel, by decide +kernel⟩

/-- Channel 1 of `up` changed. -/
def chan1 (f : Channel → Channel) (s : State := up) : State := onChan 1 f s

/-- One request of channel 1 outstanding in a phase, accepted at tick 0, the system clock at `us` microseconds. -/
def outstanding (op : Nat) (ph : Phase) (us : Nat) : State :=
  { chan1 (fun c => { c with outst := [{ op := op, req := req [], seq := 1, order := 0, at_ := 0, phase := ph }] }) with dev := { up.dev with ticks := us * 625 } }

/-- A response that waits to be written. -/
def doneItem : Done := { op := 0x0101, tag := 7, slot := some 31, status := 0, detail := 0, seq := 1, elapsedUs := 0, payload := [1], bulk := [2, 3] }

/-- The channel served on its path and not on another; a value that fits, the largest, and one that does not; a doorbell
that is taken, at 64 entries, and one that is refused. -/
theorem meets_DeskHostIndices :
    (chanLive up .spi 1 = true ∧ chanLive up .bar0 1 = false ∧ (0xFFFF#32).toNat < 65536 ∧ 65536 ≤ (0x10000#32).toNat) ∧
    ((let c := up.chan 1; (c.reqTail - c.reqHead).toNat ≤ ((64 : Word16) - c.reqHead).toNat ∧ ((64 : Word16) - c.reqHead).toNat ≤ 64 ∧ ¬((65 : Word16) - c.reqHead).toNat ≤ 64)) :=
  ⟨by decide +kernel, by decide +kernel⟩

/-- Reserved bits set, and not; a reset that can complete and one that cannot. -/
theorem meets_DeskChannelReset :
    (4 ≤ (4#32).toNat ∧ (3#32).toNat < 4 ∧ (3#32).getLsbD 0 = true ∧ (2#32).getLsbD 0 = false ∧ (up.chan 1).resetting = false) ∧
    (((chan1 fun c => { c with resetting := true }).chan 1).resetting = true ∧ ((chan1 fun c => { c with resetting := true }).chan 1).outst = []) ∧
    (((outstanding 0x0101 .started 0).chan 1).outst ≠ []) :=
  ⟨by decide +kernel, by decide +kernel, by decide +kernel⟩

/-- Channels 1 and 2 with a request in their rings: channel 1 was served last, so it is channel 2's turn. -/
theorem meets_DeskAcceptance :
    (accepting up 1 = true ∧ nextTurn up = none ∧ tapHolds up (natAt (up.chan 1).entry 0 2) = false) ∧
    ((let s := { onChan 2 (fun c => { c with reqTail := 1 }) (chan1 fun c => { c with reqTail := 1 }) with desk := { (onChan 2 (fun c => { c with reqTail := 1 }) (chan1 fun c => { c with reqTail := 1 })).desk with served := 1 } }; nextTurn s = some 2 ∧ (s.chan 2).resetting = false)) :=
  ⟨by decide +kernel, by decide +kernel⟩

/-- A response with bulk bytes, a ring with room for one more and a full one. -/
theorem meets_DeskResponseWritten :
    (up.desk.activating = false ∧ (up.chan 1).done = [] ∧ ((chan1 fun c => { c with done := [doneItem] }).chan 1).done = doneItem :: []) ∧
    ((((63 : Word16)) - (up.chan 1).rspHead).toNat < 64 ∧ 64 ≤ ((64 : Word16) - (up.chan 1).rspHead).toNat ∧ doneItem.payload.length ≤ 224 ∧ doneItem.bulk.length ≤ 4096 ∧ cellsOk (up.chan 1).win = true) :=
  ⟨by decide +kernel, by decide +kernel⟩

/-- A held request at its limit and before it; a started request past its time and before it; a restart. -/
theorem meets_DeskHoldsAndTimeouts :
    ((waitedUs (outstanding 0x0202 .held 10000000) { op := 0x0202, req := req [], seq := 1, order := 0, at_ := 0, phase := .held } = 1000 * 10000) ∧ ((outstanding 0x0202 .held 10000000).chan 1).find 7 = some { op := 0x0202, req := req [], seq := 1, order := 0, at_ := 0, phase := .held }) ∧
    (waitedUs (outstanding 0x0202 .held 9999999) { op := 0x0202, req := req [], seq := 1, order := 0, at_ := 0, phase := .held } < 1000 * 10000) ∧
    ((let s := outstanding 0x0203 .started 100000000; 1000 * (completionMs s 0x0203 (req []) + 1000) ≤ waitedUs s { op := 0x0203, req := req [], seq := 1, order := 0, at_ := 0, phase := .started })) ∧
    ((let s := outstanding 0x0203 .started 1000; waitedUs s { op := 0x0203, req := req [], seq := 1, order := 0, at_ := 0, phase := .started } < 1000 * (completionMs s 0x0203 (req []) + 1000))) ∧
    (up.boot.trial = false ∧ { up.desk with restarting := true }.restarting = true) :=
  ⟨by decide +kernel, by decide +kernel, by decide +kernel, by decide +kernel, by decide +kernel⟩

/-- Does a request of one parameter record parse? -/
def onePar (op : Nat) (ob : List Byte) (pid v : Nat) : Bool :=
  startsAt up op (ob ++ leBytes 2 1 ++ leBytes 2 0 ++ leBytes 2 pid ++ leBytes 2 0 ++ leBytes 4 v) &&
    match parseRecords op (req (ob ++ leBytes 2 1 ++ leBytes 2 0 ++ leBytes 2 pid ++ leBytes 2 0 ++ leBytes 4 v)) with
    | .ok rs => rs.length == 1
    | .error _ => false

/-- Is it refused at an offset? -/
def badPar (op : Nat) (ob : List Byte) (pid v off : Nat) : Bool :=
  startsAt up op (ob ++ leBytes 2 1 ++ leBytes 2 0 ++ leBytes 2 pid ++ leBytes 2 0 ++ leBytes 4 v) &&
    match parseRecords op (req (ob ++ leBytes 2 1 ++ leBytes 2 0 ++ leBytes 2 pid ++ leBytes 2 0 ++ leBytes 4 v)) with
    | .ok _ => false
    | .error e => e == off

/-- An object of the right shape and a row of each command of 14_command_reference.md that takes parameter records. -/
def parCommands : List (Nat × List Byte) :=
  [(0x0211, [2, 0, 0xFF, 0xFF]), (0x0301, [1, 0, 0, 0]), (0x0302, [1, 0, 0, 0]), (0x0401, [1, 0, 0, 0]), (0x0410, [1, 0, 0xFF, 0]), (0x0501, [0, 0, 0, 0]),
   (0x0601, [1, 0, 0xFF, 0]), (0x0710, [1, 0, 0xFF, 0]), (0x0803, [5, 5, 0, 0]), (0x0920, [7, 0, 0, 0]), (0x0A02, [8, 0, 0, 0]), (0x0B01, [9, 0, 0, 0]),
   (0x0B02, [9, 0, 0, 0]), (0x0B06, [9, 0, 0, 0]), (0x0B09, [10, 0, 0, 0]), (0x0B0A, [9, 0, 0, 0]), (0x0C03, [4, 8, 0, 0])]

/-- The first row of a command's table, at its default value. -/
def firstRow (op : Nat) : Option ParRow := (parTable (tabOf op)).find? fun r => r.ops.contains op

/-- Each command that takes records: one that parses, and an unknown PID. -/
theorem meets_ParameterRecords :
    ((parCommands.all fun x => (firstRow x.1).any fun r => onePar x.1 x.2 r.pid (BitVec.ofInt 32 r.dflt).toNat) = true) ∧
    ((parCommands.all fun x => badPar x.1 x.2 0xFFFF 0 8) = true) :=
  ⟨by decide +kernel, by decide +kernel⟩

/-- A group of carrier 0 in a state. -/
def rxIn (st : RxGroupState) : State := onRxg 0 0 (fun g => { g with st := st }) up

/-- Each command's records parse (above); a lane up and a lane of the mate link; a group off, in acquisition and in
TRACK; a carrier that sends; the time engine busy; a table of priorities; a change armed. -/
theorem meets_ParameterCommands :
    (onePar 0x0C03 [4, 32, 0, 0] 0x50 1 = true ∧ isStepped (up.lane 32) = false ∧ isStepped ((mateLane .up).lane 32) = true ∧ ((laned 8 laneUp).lane 8).st = .up) ∧
    (ilBusy up.il[0] = false ∧ (rxIn .off).rxg 0 0 = up.rxg 0 0 ∧ ((rxIn .track).rxg 0 0).st = .track ∧ ((rxIn .cdSearch).rxg 0 0).st ≠ .track) ∧
    ((up.txg 0 0).st ≠ .armed ∧ (up.txg 0 0).st ≠ .proposed ∧ (up.txc 0).txOn = false) ∧
    (((List.range 64).all fun i => let v := signedOf 16 (natAt (List.replicate 128 (4 : Byte)) (2 * i) 2); decide (0 ≤ v ∧ v ≤ 1200)) = true) ∧
    (timeBusy up = false ∧ timeBusy (laned 8 laneUp) = true ∧ up.time.inUse = none ∧ (hostTime .locked 0).time.inUse.isSome = true) ∧
    (prioOk ([0, 1, 2, 3] ++ List.replicate 8 0xFF) up = true ∧ prioOk (List.replicate 12 0) up = false) ∧
    (changeArmed up 0 = false ∧ keyRefused up 0 [] = none) :=
  ⟨by decide +kernel, by decide +kernel, by decide +kernel, by decide +kernel, by decide +kernel, by decide +kernel, by decide +kernel⟩

/-- The status commands of the tables with an object of each. -/
def statusCommands : List (Nat × List Byte) :=
  [(0x0D12, [0, 0, 0, 0]), (0x0213, [2, 0, 0, 0xFF]), (0x1013, [0, 0, 0, 0]), (0x1020, [0, 0, 0, 0]), (0x0701, [1, 0, 0, 0]), (0x0713, [1, 0, 0, 0]),
   (0x0807, [5, 5, 0, 0]), (0x0F21, [0, 0, 0, 0]), (0x0605, [1, 0, 0xFF, 0]), (0x0903, [5, 5, 0, 0]), (0x1203, [0xD, 0, 0, 0]), (0x0F04, [0, 0, 0, 0]),
   (0x0E04, [0, 0, 0, 0]), (0x0923, [7, 0, 0, 0]), (0x0502, [3, 0, 0xFF, 0]), (0x0A04, [8, 0, 0, 0]), (0x0304, [1, 0, 0, 0]), (0x1102, [0, 0, 0, 0]),
   (0x0F10, [0, 0, 0, 0]), (0x0B0C, [9, 0, 0, 0]), (0x0404, [1, 0, 0, 0]), (0x0412, [1, 0, 0xFF, 0]), (0x0C07, [4, 8, 0, 0])]

/-- Each status command of the tables runs. -/
theorem meets_StatusCommands : (statusCommands.all fun x => startsAt (guarded) x.1 (x.2 ++ [0, 0, 0, 0])) = true := by
  decide +kernel

/-- Bond 5 is provisioned as DEVICE.PROVISION must not find it. -/
def busyDevice : State := { up with bonds := upd up.bonds 5 fun b => { b with provisioned := true } }

/-- The device provisioned in each kind of mode, refused, and out of range; a reading form of a body in force and one of
parameters. -/
theorem meets_DeviceCommands :
    (startsAt up 0x0101 [] = true ∧ startsAt up 0x0102 [0, 0, 0, 0, 5] = true ∧ startsAt up 0x0102 [0, 0, 0, 0, 6] = true ∧ startsAt busyDevice 0x0102 [] = true) ∧
    (stillProvisioned up = false ∧ stillProvisioned busyDevice = true) ∧
    (((((up.stk.freeRegion 1).freeRegion 2).freeRegion 3).allocRegion 1 (reservePages up)).isSome = true) ∧
    ((((((up.stk.freeRegion 1).freeRegion 2).freeRegion 3).allocRegion 1 (reservePages up)).bind fun k => k.allocRegion 2 256).isSome = true) ∧
    ((readingOf 0x0B90).map (·.form) = some .r ∧ startsAt tcUp 0x0B90 [5, 5, 0, 0] = true ∧ (bodyOf tcUp 0x0B10 (objBond 5)).isSome = true) ∧
    ((readingOf 0x0A82).map (·.form) = some .p ∧ startsAt up 0x0A82 [8, 0, 0, 0] = true) :=
  ⟨by decide +kernel, by decide +kernel, by decide +kernel, by decide +kernel, by decide +kernel, by decide +kernel⟩

/-- A request held, one that waits, and none; every row of the table is an opcode of the command tables. -/
theorem meets_HeldRelease :
    ((up.chan 1).find 7 = none ∧ ((outstanding 0x0202 .held 0).chan 1).find 7 = some { op := 0x0202, req := req [], seq := 1, order := 0, at_ := 0, phase := .held }) ∧
    (((outstanding 0x0202 .waiting 0).chan 1).find 7 = some { op := 0x0202, req := req [], seq := 1, order := 0, at_ := 0, phase := .waiting }) ∧
    (((heldRows1 ++ heldRows2 ++ heldRows3).all fun r => (findCmd r.1).isSome) = true) :=
  ⟨by decide +kernel, by decide +kernel, by decide +kernel⟩

/-- A source that is undefined, one that is limited and was raised within the second, one that is neither. -/
theorem meets_EventOccurrence :
    (eventDefined 511 = false ∧ limitScope 511 0 (evtArg 0 0 0 0) = none ∧ eventDefined 208 = true ∧ limitScope 208 0 (evtArg 0 0 0 0) = none) ∧
    (limitScope 215 0 (evtArg 0 0 0 0) = some 0 ∧ { up.evt with lastRaise := [((215, 0), 0)] }.limitOk 624999999 215 0 = false ∧ { up.evt with lastRaise := [((215, 0), 0)] }.limitOk 625000000 215 0 = true) ∧
    (up.evt.queue.length < 256) :=
  ⟨by decide +kernel, by decide +kernel, by decide +kernel⟩

/-- The registers served on a path, and not. -/
theorem meets_EventRegisters : evtLive up .spi = true ∧ evtLive up .mate = false ∧ evtLive State.reset .spi = false ∧ eventDefined (32 * 6 + 16) = true := by
  decide +kernel

/-- A record in the queue with the Curator up and without it; BAR0 served and not. -/
theorem meets_EventLogAndVectors :
    (up.evt.queue = [] ∧ curatorUp up = true ∧ curatorUp State.reset = false ∧ (raise 208 objDevice (evtArg 0 0 0 0) up).evt.queue.length = 1) ∧
    (startsAt up 0x0D01 [] = true ∧ pathServed { up with pins := { up.pins with perstLow := false } } .bar0 = true ∧ pathServed State.reset .bar0 = false) :=
  ⟨by decide +kernel, by decide +kernel⟩

/-- A snapshot in progress of the islands `l`. -/
def snap (l : List Nat) (t : Nat) : Snapshot := { t := t, half := 0, latched := l, byCmd := false }
def snapping (l : List Nat) : State := { up with cen := { up.cen with busy := some (snap l 0), periodMs := 100 }, dev := { up.dev with ticks := 0 } }

/-- An instant of its own and the next one, one asked for already, the periods at their bounds, the registers. -/
theorem meets_CensusRequests :
    (startsAt up 0x0D10 [] = true ∧ up.stk.initialised = true ∧ up.cen.want = none ∧ up.tod16 ≤ nextInstant up ∧ nextInstant up ≤ up.tod16 + 86400 * fracPerSec) ∧
    (startsAt up 0x0D11 ([0, 0, 0, 0] ++ leBytes 4 100) = true ∧ startsAt up 0x0D11 ([0, 0, 0, 0] ++ leBytes 4 99) = true ∧ startsAt up 0x0D11 ([0, 0, 0, 0] ++ leBytes 4 3600000) = true) ∧
    (evtLive up .spi = true ∧ up.cen.seq = 0 ∧ { up.cen with want := some 5 }.want.isSome = true) :=
  ⟨by decide +kernel, by decide +kernel, by decide +kernel⟩

/-- A period that finds the engine busy and one that does not; an island that has latched, one whose instant has come; a
snapshot complete and one that is not. -/
theorem meets_CensusSnapshots :
    ((snapping []).cen.periodMs ≠ 0 ∧ (snapping []).cen.busy = some (snap [] 0) ∧ (snap [] 7).t ≠ up.tod16 / (100 * fracPerMs) * (100 * fracPerMs)) ∧
    (up.cen.busy = none ∧ up.cen.want = none ∧ { up.cen with periodMs := 100 }.periodMs ≠ 0) ∧
    ((snap [5] 0).latched.contains 5 = true ∧ (snap [5] 0).latched.contains 6 = false ∧ (snap [5] 0).t ≤ up.replica 6) ∧
    ((snap (List.range 27) 0).latched.length = 27 ∧ marksOut up = false ∧ (snap [5] 0).latched.length ≠ 27) :=
  ⟨by decide +kernel, by decide +kernel, by decide +kernel, by decide +kernel⟩

/-- One domain changed. -/
def domained (d : Nat) (f : Domain → Domain) (s : State := up) : State := onDom d f s

/-- Each refusal at its bound, a domain in use, one in the state asked for and one that is not; the two directions of a
transition. -/
theorem meets_PowerDomainSet :
    (startsAt up 0x0E02 [0xC, 16, 0, 0, 1] = true ∧ startsAt up 0x0E02 [0xC, 15, 0, 0, 3] = true ∧ startsAt up 0x0E02 [0xC, 19, 0, 0, 4] = true) ∧
    (domainUsed 16 withRegions = true ∧ domainUsed 16 up = false ∧ domainUsed 3 (laned 8 laneUp) = true ∧ stopHeld 3 up = false ∧ up.dom 3 = .run) ∧
    (stopHeld 3 { domained 3 (fun x => { x with st := .off }) with house := { up.house with therm := .stop } } = true) ∧
    (startsAt up 0x0E03 [] = true ∧ inTransition (.domain 3) (beginTransition (.domain 3) 0x0E02 (req []) up) = true ∧ railsToRaise 3 State.reset = [] ∧ State.reset.dom 3 = .off) :=
  ⟨by decide +kernel, by decide +kernel, by decide +kernel, by decide +kernel⟩

/-- Domain 3 starts, its stages in the queue. -/
def starting (n : Nat) : State :=
  { domained 3 (fun x => { x with st := .starting, target := .run, stagesLeft := n }) with pwr := { (domained 3 (fun x => { x with st := .starting, target := .run, stagesLeft := n })).pwr with
    queue := List.replicate n (3, 400, false) } }

/-- A stage that fits and one that does not, alone and after others; a domain drained, powered, timed out; a rail that
settles. -/
theorem meets_PowerDomainProgress :
    (up.pwr.queue = [] ∧ up.pwr.entering = none ∧ (starting 2).pwr.queue = (3, 400, false) :: [(3, 400, false)] ∧ ((starting 2).domain 3).st = .starting) ∧
    (0 + 400 ≤ 100 * up.pwr.budgetA ∧ ¬1601 + 400 ≤ 100 * up.pwr.budgetA ∧ 1600 + 400 ≤ 100 * up.pwr.budgetA) ∧
    ((domained 3 fun x => { x with st := .stopping }).dom 3 = .stopping ∧ domainChutesEmpty 3 up = true ∧ domainTagsFree 16 up = true ∧ domainTagsFree 16 (tagged 1) = false) ∧
    ((starting 0).dom 3 = .starting ∧ ((starting 0).domain 3).stagesLeft = 0 ∧ railFault 3 (starting 0) = false ∧ (starting 0).pwr.raises = []) ∧
    (((starting 0).domain 3).leg = none ∧ ((starting 0).domain 3).next = [] ∧ ((starting 0).domain 3).thermal = false) ∧
    ((onRail 1 (fun x => { x with settling := true }) up |>.rail 1).settling = true ∧ (up.rail 1).settling = false) :=
  ⟨by decide +kernel, by decide +kernel, by decide +kernel, by decide +kernel, by decide +kernel, by decide +kernel⟩

/-- An entry to a state, drained and committed or not. -/
def entering (t : DevPower) (drained committed latched : Bool) : State :=
  { up with pwr := { up.pwr with entering := some t, drained := drained, committed := committed, latched := latched } }

/-- Each state asked for, in use and not, with a wake source enabled and with none; an entry that drains, commits and is
woken before and after its commit point; an exit that completes. -/
theorem meets_PowerStates :
    (startsAt up 0x0E01 [0, 0, 0, 0, 4] = true ∧ startsAt up 0x0E01 [0, 0, 0, 0, 5] = true ∧ up.pwr.st = .run ∧ { up.pwr with st := .sleep }.st ≠ .run) ∧
    (anyCarrier up = false ∧ anyBond up = false ∧ up.link.isUp = false ∧ anyBond busyDevice = true) ∧
    (((List.range 6).all fun b => !wakeEnabled { up with pwr := { up.pwr with wakeMask := 0 } } .sleep b) = true ∧ wakeEnabled up .sleep 0 = true) ∧
    ((entering .sleep false false false).pwr.entering = some .sleep ∧ deskBusy (entering .sleep false false false) = false ∧ up.cat.writing = none ∧ up.cat.erasing = none) ∧
    (stacksResting (entering .sleep true false false) = false ∧ stacksResting { entering .sleep true false false with pwr := { (entering .sleep true false false).pwr with domains := Vector.replicate 20 { st := .selfRefresh } } } = true) ∧
    (wakeEnabled (entering .sleep true true false) .sleep 0 = true ∧ wakeEnabled (entering .sleep true true false) .sleep 5 = false) ∧
    ((entering .deepSleep true true true).pwr.latched = true ∧ (entering .deepSleep true false false).pwr.rested = []) ∧
    (coreBack up = true ∧ { up.pwr with exiting := true }.exiting = true ∧ up.desk.ready = true) :=
  ⟨by decide +kernel, by decide +kernel, by decide +kernel, by decide +kernel, by decide +kernel, by decide +kernel, by decide +kernel, by decide +kernel⟩

/-- An image that initialises after a reset. -/
theorem meets_BootEnd : { up.boot with booting := true }.booting = true ∧ up.boot.booting = false ∧ up.boot.fromDeep = false := by
  decide +kernel

/-- A state whose monitors and sensors are changed. -/
def housed (f : House → House) : State := onHouse f up

/-- Channel 5 converts on MADC0 every millisecond; both converters are ready; check 0 of the safety configuration uses channel 9. -/
def monitored (valid : Bool) : State :=
  { housed fun h => { h with chans := updNat h.chans 5 fun x => { x with periodUs := 1000 }, madc := Vector.replicate 2 { buf := .ready } } with
    safe := { up.safe with valid := valid, checks := [{ chan := 9, conv := 0, gain := 0, filter := 0, intervalUs := 1000, carriers := 1, persist := 1, lo := 0, hi := 1 }] } }

/-- Each refusal of MON.CHANNEL.SET at its bound, an owned channel, a rate that fits; a reference buffer that warms; a
conversion due, late, urgent and at its end. -/
theorem meets_Monitors :
    (startsAt up 0x0F02 [11, 0, 5, 0, 2, 3, 3, 0] = true ∧ startsAt up 0x0F02 [11, 0, 5, 0, 3, 0, 0] = true ∧ startsAt up 0x0F02 [11, 0, 5, 0, 0, 4, 0] = true ∧ startsAt up 0x0F02 [11, 0, 5, 0, 0, 0, 4] = true) ∧
    (owned (monitored true) 9 = true ∧ owned (monitored true) 5 = false ∧ settingOk up 5 { periodUs := 2 } = false ∧ settingOk up 5 { periodUs := 1000 } = true) ∧
    (startsAt up 0x0F03 [0, 0, 0, 0, 0, 1] = true ∧ startsAt up 0x0F03 [0, 0, 0, 0, 1, 1] = true ∧ startsAt up 0x0F03 [0, 0, 0, 0, 0, 0] = true ∧ startsAt up 0x0F01 [0, 0, 0, 0, 3] = true) ∧
    ((up.madcOf 0).buf ≠ .warming ∧ ((housed fun h => { h with madc := Vector.replicate 2 { buf := .warming } }).madcOf 0).buf = .warming) ∧
    (((monitored true).chanOf 5).periodUs ≠ 0 ∧ monStopped (monitored true) = false ∧ ((monitored true).chanOf 5).streamed = false ∧ (monitored true).house.due = [] ∧ (∀ j : Fin 2, ((monitored true).madcOf j).running = none ∧ ((monitored true).madcOf j).aborted = none)) ∧
    (((monitored true).safe.checks[0]?).isSome = true ∧ (monitored true).safe.checks[1]? = none ∧ (monitored false).safe.valid = false ∧ ((monitored true).madcOf 0).buf = .ready) ∧
    (((housed fun h => { h with madc := Vector.replicate 2 { running := some { chan := 5, gain := 0, filter := 0, shared := false, stream := none } } }).madcOf 0).running = some { chan := 5, gain := 0, filter := 0, shared := false, stream := none }) ∧
    ((∀ r : Fin 16, r.val = 0 ∨ r.val = 6 → (up.rail r.val).configured = false ∨ (up.rail r.val).adaptive = false)) :=
  ⟨by decide +kernel, by decide +kernel, by decide +kernel, by decide +kernel, by decide +kernel, by decide +kernel, by decide +kernel, by decide +kernel⟩

/-- Sensor 4 as given, and the table's inputs. -/
def heated (x : Sensor) (f : House → House := id) : State := housed fun h => f { h with sensors := updNat h.sensors 4 fun _ => x }

/-- Shutdown, shutdown again, STOP and WARN by temperature and by rate, none of them; recovery held and not; a sensor
stuck; a rail read; the commands. -/
theorem meets_ThermalAndRails :
    (up.boot.resetLow = false ∧ up.pwr.st ≠ .deepSleep ∧ State.reset.boot.resetLow = true ∧ shutSensor up = none) ∧
    (shutSensor (housed fun h => { h with sensors := Vector.replicate 32 { shutRun := 2, reading := 2000 } }) = some 0) ∧
    ((heated {} fun h => { h with afterShut := true, tMax := 1760 }).house.readings ≤ 100 ∧ thermLimit up 110 ≤ (heated {} fun h => { h with afterShut := true, tMax := 1760 }).house.tMax) ∧
    (((heated { stopRun := 3 }).house.healthySensors.find? fun n => 3 ≤ ((heated { stopRun := 3 }).house.sensor n).stopRun) = some 4 ∧ up.house.afterShut = false) ∧
    ((heated {} fun h => { h with rateWarn := true }).house.rateWarn = true ∧ shutSensor (heated {} fun h => { h with rateWarn := true }) = none) ∧
    (mayRecover (heated {} fun h => { h with therm := .warn, tMax := 1600, rMax := some 0 }) = true ∧ mayRecover (heated {} fun h => { h with therm := .warn, tMax := 1601, rMax := some 0 }) = false ∧ mayRecover (heated {} fun h => { h with therm := .stop, tMax := 1520, rMax := some 262 }) = true ∧ mayRecover (heated {} fun h => { h with therm := .stop, tMax := 1520, rMax := some 263 }) = false) ∧
    (1000 ≤ (heated {} fun h => { h with therm := .warn, recovering := 1000 }).house.recovering ∧ (heated {} fun h => { h with therm := .stop, recovering := 9999 }).house.recovering < 10000) ∧
    (((heated { same := 10000, nearMoved := true }).house.sensor 4).healthy = true ∧ ((heated { same := 9999 }).house.sensor 4).same < 10000) ∧
    ((up.rail 3).configured = false ∧ ((housed fun h => { h with rails := updNat h.rails 3 fun x => { x with configured := true } }).rail 3).configured = true) ∧
    (startsAt up 0x0F20 [0, 0, 0, 0, 15, 127, 0, 0] = true ∧ startsAt up 0x0F20 [0, 0, 0, 0, 16] = true ∧ startsAt up 0x0F20 [0, 0, 0, 0, 3, 0, 1] = true ∧ startsAt up 0x0F20 [0, 0, 0, 0, 6, 0, 1] = true) ∧
    ((let s := housed fun h => { h with rails := updNat h.rails 0 fun x => { x with configured := true } }; railInUse 0 s = true ∧ (s.rail 0).adaptive ≠ decide (1 = 1))) ∧
    (startsAt up 0x0F30 ([0, 0, 0, 0] ++ leBytes 4 0xFFFFFF) = true ∧ startsAt up 0x0F30 ([0, 0, 0, 0] ++ leBytes 4 0x1000000) = true ∧ startsAt up 0x0F31 [] = true ∧ up.mate.role = 0) :=
  ⟨by decide +kernel, by decide +kernel, by decide +kernel, by decide +kernel, by decide +kernel, by decide +kernel, by decide +kernel, by decide +kernel, by decide +kernel, by decide +kernel, by decide +kernel, by decide +kernel⟩

/-- A state whose boot and flash are changed. -/
def booted (f : Boot → Boot) : State := onBoot f up

/-- FW.LOAD from its first piece, where it may begin and where not, of a piece that follows and one that does not; an
image that is programmed; an activation; a trial at its end and before it. (An image that the signature holds, INACTIVE
3 of R444, rests on the signers' hashes, which are free constants of Config.) -/
theorem meets_FirmwareUpdate :
    (startsAt up 0x1010 ([0, 0, 0, 0] ++ leBytes 4 0 ++ leBytes 4 8192 ++ [1, 0, 0, 0]) = true ∧ up.boot.staging = none ∧ State.reset.stk.initialised = false) ∧
    (up.stk.pageUsed 65535 = false ∧ up.stk.pageUsed 65534 = false) ∧
    (startsAt up 0x1010 ([0, 0, 0, 0] ++ leBytes 4 16 ++ leBytes 4 8192 ++ [2, 0, 0, 0]) = true) ∧
    ((booted fun b => { b with staging := some (1, 8192), staged := List.replicate 16 0 }).boot.staging = some (1, 8192) ∧ (booted fun b => { b with staging := some (1, 8192), staged := List.replicate 16 0 }).boot.staged.length = 16) ∧
    ((booted fun b => { b with programming := true }).boot.programming = true ∧ up.boot.programming = false ∧ imageValid 0 0 [] = false) ∧
    (startsAt up 0x1011 [] = true ∧ up.desk.activating = false ∧ inactiveState up ≠ 3 ∧ { up.desk with activating := true }.activating = true ∧ deskBusy up = false) ∧
    (startsAt up 0x1012 [] = true ∧ (booted fun b => { b with trial := true }).boot.trial = true ∧ (booted fun b => { b with flash := { b.flash with imgA := List.replicate 12 0 ++ leBytes 4 5 } }).boot.counter < min (svnOf (flashImg (booted fun b => { b with flash := { b.flash with imgA := List.replicate 12 0 ++ leBytes 4 5 } }).boot.flash false)) 128) ∧
    ((booted fun b => { b with trial := true }).desk.ready = true ∧ 0 + 60 * 625000000 ≤ ({ up.dev with ticks := 37500000000 } : Dev).ticks ∧ ¬0 + 60 * 625000000 ≤ ({ up.dev with ticks := 37499999999 } : Dev).ticks) :=
  ⟨by decide +kernel, by decide +kernel, by decide +kernel, by decide +kernel, by decide +kernel, by decide +kernel, by decide +kernel, by decide +kernel⟩

/-- A Catalogue of one converter record and one other. -/
def catalogued (f : Catalogue → Catalogue := id) : State :=
  onCat (fun c => f { c with records := [(catKey 1 9, [1, 0, 0, 0]), (catKey 0x20 0, [2])] }) up

/-- The commands; a record listed and one past the list; a reset of one calibration record, of one that is none, of all;
a write that starts, ends and is erased. (That a written slot reads back as valid rests on the serial number, a free
constant of Config.) -/
theorem meets_IdentityAndCatalogue :
    (startsAt up 0x1001 [] = true ∧ startsAt up 0x1002 [] = true ∧ startsAt up 0x1003 [] = true ∧ startsAt up 0x1021 [0, 0, 0, 0, 1, 0] = true ∧ startsAt up 0x1022 [0, 0, 0, 0, 0xFF, 0xFF] = true) ∧
    (catalogued.cat.slot = none ∧ catalogued.cat.records[1]? = some (catKey 0x20 0, [2]) ∧ catalogued.cat.records[2]? = none) ∧
    (isCalibration (catKey 1 9 / 65536) = true ∧ isCalibration (catKey 0x20 0 / 65536) = false ∧ (∀ c : Fin 2, (up.car c).enabled = false)) ∧
    (({ up.cars[0] with enabled := true } : Carrier).enabled = true ∧ (catalogued fun c => { c with pending := [(catKey 1 9, [])] }).cat.pending ≠ [] ∧ up.cat.pending = [] ∧ up.cat.mustWrite = false) ∧
    (stopHolds up = false ∧ up.desk.ready = true ∧ (catalogued fun c => { c with writing := some [] }).cat.writing = some [] ∧ up.cat.erasing = none ∧ (catalogued fun c => { c with erasing := some true }).cat.erasing = some true) :=
  ⟨by decide +kernel, by decide +kernel, by decide +kernel, by decide +kernel, by decide +kernel⟩

/-- The three copies agree at reset, and a word changed in one copy still has a majority. -/
theorem meets_VaultVoted :
    (up.pwr.st ≠ .off ∧ up.vault.a.length = 256 ∧ up.vault.b.length = 256 ∧ up.vault.c.length = 256) ∧
    (((List.range 256).all fun w => ([(1, 255, 7#32)].foldl vaultUpset up.vault).word w |>.isSome) = true) :=
  ⟨by decide +kernel, by decide +kernel⟩

/-- Carrier 0 lights: a valid configuration uses it, REQ is 1, it is enabled in a domain in RUN. -/
def lit (f : SafeCarrier → SafeCarrier := id) : State :=
  onSafe 0 (fun x => f { x with used := true, req := true }) { onCar 0 (fun x => { x with enabled := true }) up with safe := { up.safe with valid := true } }

/-- Light allowed, and refused by each part of the rule; OFF; the commands; the pin and the pulses of automatic
shutdown. -/
theorem meets_RuleOfLight :
    (lightAllowed lit 0 = true ∧ lightAllowed (lit fun x => { x with req := false }) 0 = false ∧ lightAllowed (lit fun x => { x with alsPin := true, pinLow := true }) 0 = false ∧ lightAllowed (lit fun x => { x with diag := 1 }) 0 = false) ∧
    (lit.pwr.st ≠ .off ∧ coreUp lit = true ∧ ({ up.pwr with st := .off } : Power).st = .off ∧ lightAllowed lit 0 ≠ (lit.sf 0).light) ∧
    (startsAt up 0x1101 [1, 0, 0xFF, 0, 1] = true ∧ startsAt up 0x1101 [1, 0, 0xFF, 0, 2] = true ∧ startsAt up 0x1103 [1, 0, 0xFF, 0] = true ∧ (lit.sf 0).req = true ∧ (up.sf 0).req = false) ∧
    (((lit fun x => { x with als := .shutdown }).sf 0).als = .shutdown ∧ ((lit fun x => { x with als := .pulse, alsPin := true }).sf 0).als = .pulse ∧ (lit.sf 0).als ≠ .shutdown) :=
  ⟨by decide +kernel, by decide +kernel, by decide +kernel, by decide +kernel⟩

/-- A diagnostic that fails for the first time, one that is latched already, and where none is compared. -/
theorem meets_SafetyDiagnostics :
    (bit (diagMask up (.clocks 1199 2000)) 0 = true ∧ bit (diagMask up (.clocks 1200 2500)) 0 = false ∧ bit (diagMask up (.clocks 1600 2501)) 1 = true) ∧
    (bit (diagMask up (.heartbeat 10 9)) 0 = true ∧ bit (diagMask up (.heartbeat 10 9)) 1 = false ∧ bit (diagMask up (.alsInput 100 0)) 1 = true ∧ bit (diagMask up (.alsInput 99 99)) 1 = false) ∧
    (bit (up.sf 0).diag (diagBit (.clocks 1199 2000)) = false ∧ up.pwr.st ≠ .off ∧ vaultBad up = false ∧ diagBit (.readback (false, false) (false, false)) = 0) :=
  ⟨by decide +kernel, by decide +kernel, by decide +kernel⟩

/-- A PRIMARY whose link is up, in a pair state. -/
def mated (st : PairState) (f : Mate → Mate := id) : State :=
  { onCand 11 (fun c => { c with active := true }) (mateLane .up fun x => { x with st := .up }) with mate := f { up.mate with role := 1, st := st }, link := { up.link with isUp := true } }

/-- The mate's record: SECONDARY, not in STOP. -/
def peerRec : PeerRecord := { role := 2, st := 1, flags := 0, volume := 0, reqA := 0, reqB := 0, digA := 0, digB := 0, uptime := 0 }

/-- A tributary of carrier 0, mapped by IMP. -/
def aTrib : Trib := { ckind := 0, cont := 0, group := 0, tpn := 5, kind := 0, rate := 0, bond := 5, slots := [1], ncSlots := [], active := true, removing := false }

/-- Its pages are the transmit queue; this member owns it or not. -/
def mirroring (st : PairState) (own : Bool) : State :=
  onMap (fun m => { m with tribs := [aTrib] })
    { mated st (fun m => { m with owns := Vector.replicate 2 (Vector.replicate 16 own) }) with stk := { up.stk with regions := [{ r := 2, pages := [0] }] } }

/-- A block of each kind and a bad one; the way to CHECKING and into PAIRED; what is lost; a marker good and not; an
item that is owned, shadowed or neither; MATE.PROVISION and MATE.COMMAND with each refusal. -/
theorem meets_MatedPair :
    (byteAt (blockBytes 2 0 0 []) 0 = 2 ∧ byteAt (blockBytes 1 3 0x8005 []) 0 = 1 ∧ bytesAt (blockBytes 1 3 0x8005 []) 1 3 = [3, 0x80, 5]) ∧
    ((let s := mated .linking fun m => { m with peer := some peerRec }; s.link.isUp = true ∧ mateSyncOn s = true ∧ peerRec.role + s.mate.role = 3 ∧ bit peerRec.flags 2 = false ∧ s.mate.peer = some peerRec)) ∧
    ((let s := mated .aligning fun m => { m with eqRun := 16 }; s.mate.st = .aligning ∧ peerRec.volume = (s.fol 0 (leadGroup s 0)).txVolume ∧ s.mate.theta.natAbs < 65536 ∧ shadowsSynced s = true)) ∧
    ((mated .paired fun m => { m with neRun := 3 }).mate.st.joined = true ∧ (mated .checking).mate.st = .checking ∧ (mated .alone).mate.st.joined = false ∧ up.mate.role = 0) ∧
    ((mated .linking fun m => { m with lastMarker := some 0 }).mate.lastMarker.isSome = true ∧ (625000000 : Nat) ≤ 624999375 + 625) ∧
    ((let s := mirroring .aligning true; (∀ k : Fin 4, s.stk.codeAt (pageOf (7 + k.val)) = 2) ∧ streamTrib s 0 5 = some aTrib ∧ ownsTrib s aTrib = true)) ∧
    (ownsTrib (mirroring .paired false) aTrib = false ∧ streamTrib up 0 5 = none ∧ isMirrored (onMap (fun m => { m with tribs := [{ aTrib with rate := 100000000 }] }) up) { aTrib with rate := 100000000 } = false) ∧
    (isMirrored (mirroring .aligning true) aTrib = true) ∧
    ((let x : MirrorItem := { car := 0, tpn := 5, data := [], poison := false, endMark := true }; [x].find? (fun x => x.car == 0 && x.tpn == 5) = some x)) ∧
    (startsAt up 0x1201 [13, 0, 0, 0, 3] = true ∧ startsAt (mateLane .up) 0x1201 ([13, 0, 0, 0, 2, 0, 1, 0] ++ leBytes 4 1000000) = true ∧ startsAt (mateLane .up) 0x1201 ([13, 0, 0, 0, 2, 0, 1, 0] ++ leBytes 4 100000001) = true) ∧
    ((mateLinkLanes.filter fun l => bit 1 (l.val - 32)) = [32] ∧ isStepped (mateLane .up).lanes[32] = true ∧ isStepped up.lanes[32] = false ∧ (growQueues (mated .linking)).isSome = true) ∧
    (startsAt (mated .alone) 0x1202 [13, 0, 0, 0, 3] = true ∧ startsAt up 0x1202 [13, 0, 0, 0, 4] = true ∧ ¬7 < ((mated .alone).pairOf 0).top (pairRule (mated .alone)) ∧ 7 < ((mated .alone fun m => { m with pair := Vector.replicate 2 { lo := true } }).pairOf 0).top (pairRule (mated .alone))) :=
  ⟨by decide +kernel, by decide +kernel, by decide +kernel, by decide +kernel, by decide +kernel, by decide +kernel, by decide +kernel, by decide +kernel, by decide +kernel, by decide +kernel, by decide +kernel, by decide +kernel⟩

/-- Registers of each kind served on the SPI path; Reserved bits written; the windows of the channel. -/
theorem meets_RegisterWrites :
    (regLive up .spi 0x2200 = true ∧ blockChan 0x2200 = some 1 ∧ regLive up .spi 0x2100 = false ∧ regLive State.reset .spi 0x2200 = false ∧ blockChan 0x2214 = some 1) ∧
    (Nat.land 0x00010000 (regReserved 0x2200) ≠ 0 ∧ Nat.land 0xFFFF (regReserved 0x2200) = 0 ∧ Nat.land 4 (regReserved 0x2210) ≠ 0 ∧ Nat.land 3 (regReserved 0x2210) = 0) ∧
    (windowChan 0x68000 = some 1 ∧ windowChan 0x8FFFC = some 1 ∧ windowChan 0x90000 = some 2 ∧ regLive up .spi 0x68000 = true) ∧
    (regLive up .spi 0x18 = true ∧ regLive up .spi 0x3008 = true ∧ regLive up .spi (0x3104 + 0x40 * 15) = true ∧ regLive { up with pins := { up.pins with perstLow := false } } .bar0 0x6000 = true ∧ regLive { up with pins := { up.pins with perstLow := false } } .bar0 0x5800 = true) :=
  ⟨by decide +kernel, by decide +kernel, by decide +kernel, by decide +kernel⟩

/-- The core running and not; an address within the space, at its end and past it; a write that Reserved bits refuse. -/
theorem meets_SpiFrames :
    (coreUp State.reset = false ∧ coreUp up = true ∧ (0xFFFFC#24).toNat % 4 = 0 ∧ (0xFFFFC#24).toNat < 2 ^ 20 ∧ (0x100000#24).toNat = 2 ^ 20 ∧ (2#24).toNat % 4 ≠ 0) ∧
    ((match exec (.registerWrite .spi ⟨0x2200 / 4, by decide⟩ 0x10000) up with | .fault _ => true | _ => false) = true) ∧
    ((match exec (.registerWrite .spi ⟨0x2200 / 4, by decide⟩ 1) up with | .next t => decide ((t.chan 1).reqTail = 1) | _ => false) = true) :=
  ⟨by decide +kernel, by decide +kernel, by decide +kernel⟩

/-- The port up and not, in each state the statement names. -/
theorem meets_TestAccessPort :
    (tapUp up = true ∧ tapUp { up with pwr := { up.pwr with st := .off } } = false ∧ up.pins.ins = .idcode ∧ up.pins.tap = .tlr) ∧
    (({ up.pins with tap := .capDr } : Pins).tap = .capDr ∧ ({ up.pins with tap := .shDr } : Pins).tap = .shDr) :=
  ⟨by decide +kernel, by decide +kernel⟩

/-- RESET_N low and high, in OFF and not; the write of BOOT_RESET that the Charter grants; stacks that keep their
contents and that do not. -/
theorem meets_Resets :
    (State.reset.boot.resetLow = true ∧ up.boot.resetLow = false ∧ up.pwr.st ≠ .off ∧ ({ up.pwr with st := .off } : Power).st = .off) ∧
    (granted up 1 .maintenance = false ∧ (List.range 256).any (fun b => granted { up with dev := { up.dev with charter := List.replicate 64 (BitVec.ofNat 8 b) } } 1 .maintenance) = true) ∧
    ((0xA5C30001#32).toNat / 65536 = 0xA5C3 ∧ (0xA5C30001#32).toNat % 65536 ≠ 0 ∧ pathServed up .spi = true) ∧
    (up.stk.initialised = true ∧ up.dom 16 = .run ∧ up.dom 17 = .run ∧ up.dom 18 = .run ∧ up.dom 19 = .run ∧ (domained 16 fun x => { x with st := .off }).dom 16 = .off) :=
  ⟨by decide +kernel, by decide +kernel, by decide +kernel, by decide +kernel⟩

/-- RESET_N rising after a reset with no valid image. (An image that the signature holds rests on the signers' hashes,
which are free constants of Config.) -/
theorem meets_BootRuns :
    (State.reset.boot.resetLow = true ∧ State.reset.pwr.st ≠ .off ∧ up.boot.resetLow = false) ∧
    (State.reset.boot.err false ≠ 0 ∧ State.reset.boot.err true ≠ 0 ∧ State.reset.vault.a.length = 256) :=
  ⟨by decide +kernel, by decide +kernel⟩

/-- Every group of both carriers is in a state. -/
def lined (st : RxGroupState) (s : State := up) : State := onRxg 1 0 (fun g => { g with st := st }) (onRxg 0 0 (fun g => { g with st := st }) s)

/-- A selection rule: working carrier 0. -/
def aRule (bidir rev : Bool) : ProtRule := { work := 0, bidir := bidir, rev := rev }

/-- A field of 6 bytes as the far end sends it. -/
def srRaw (v : Nat) : List Byte := ohField 154 (beBytes 4 v ++ beBytes 2 (crc16 (beBytes 4 v)))

/-- Requests of 7 and more and below; wait to restore running; a selector that waits; a far end that differs; SR fields
good and bad; two carriers with a common volume; each command with each refusal. -/
theorem meets_LineProtection :
    (({ lo := true } : Prot).top (aRule false false) = 15 ∧ ({ ms := true } : Prot).top (aRule false false) = 7 ∧ ({} : Prot).top (aRule false false) = 0 ∧ ({ sides := Vector.replicate 2 { sd := true } } : Prot).top (aRule false true) = 9) ∧
    ((guarded fun p => { p with st := .wtr, onProt := true }).prot[0].st = .wtr ∧ (guarded fun p => { p with st := .wtr }).prot[0].exists_ = true ∧ up.prot[0].exists_ = false) ∧
    ((guarded fun p => { p with onProt := true, onset := some 5 }).prot[0].selector ≠ (guarded fun p => { p with onProt := true, onset := some 5 }).prot[0].onProt ∧ (4 : Nat) < 5 ∧ (5 : Nat) ≤ 5) ∧
    ((let s := withPar .r226 (objProt 0) 0x60 1 (guarded); (protRule s 0).bidir = true ∧ (s.prot[0].farSr (protRule s 0)).map srSig ≠ some s.prot[0].onProt)) ∧
    ((mated .alone fun m => { m with pair := Vector.replicate 2 { st := .wtr } }).mate.role ≠ 0 ∧ ((mated .alone fun m => { m with pair := Vector.replicate 2 { st := .wtr } }).pairOf 0).st = .wtr) ∧
    ((let b := ohField 154 (padTo 6 (srRaw 0x10020000)); crc16 (bytesAt b 0 4) = beAt b 4 2 ∧ beAt b 0 4 = 0x10020000) ∧ (let b := ohField 154 (padTo 6 (srRaw 0x10020000).reverse); crc16 (bytesAt b 0 4) ≠ beAt b 4 2)) ∧
    ((let p : Prot := { sides := Vector.replicate 2 { arrivals := [(7, 100)] } }; p.common = some (100, 100) ∧ p.aligned = false) ∧ ((lined .track).rxg 0 0).st = .track ∧ ((lined .track).rxg 1 0).st = .track ∧ (up.rxg 0 0).st ≠ .track ∧ (up.rxg 1 0).st ≠ .track) ∧
    (inTransition (.prot 0) (beginTransition (.prot 0) 0x0922 (req []) up) = true ∧ inTransition (.prot 0) up = false) ∧
    (startsAt up 0x0920 [7, 0, 0, 0, 0, 0, 0, 0] = true ∧ startsAt up 0x0920 [7, 0, 0, 0, 0, 1, 0, 0] = true ∧ startsAt (guarded) 0x0920 [7, 0, 0, 0, 0, 1, 0, 0] = true) ∧
    (hasLine up = true ∧ groupRun up 0 0 = groupRun up 1 0 ∧ (growQueues (guarded)).isSome = true ∧ (guarded).prot[0].st = .nr ∧ (guarded fun p => { p with st := .ms }).prot[0].st ≠ .nr) ∧
    (([0, 1, 2, 3, 4].all fun k => startsAt (guarded) 0x0921 [7, 0, 0, 0, k]) = true ∧ (guarded).prot[0].top (protRule (guarded) 0) = 0) ∧
    (startsAt (guarded) 0x0922 [7, 0, 0, 0] = true ∧ ([0x0921, 0x0922, 0x0923].all fun op => turnAt up op [7, 0, 0, 0]) = true ∧ (let s := { up with dev := { up.dev with mode := some .transponder } }; turnAt s 0x0920 [7, 1, 0, 0] = true ∧ groupExists s 1 = false)) :=
  ⟨by decide +kernel, by decide +kernel, by decide +kernel, by decide +kernel, by decide +kernel, by decide +kernel, by decide +kernel, by decide +kernel, by decide +kernel, by decide +kernel, by decide +kernel, by decide +kernel⟩

/-- Bond 5 carries an Ethernet interface; bond 6 an OTN one. -/
def framed : State := { up with bonds := upd (upd up.bonds 5 fun b => { b with provisioned := true, iface := 0, k := 1 }) 6 fun b => { b with provisioned := true, iface := 4, k := 4 } }

/-- A performance entity with `n` seconds in its pipe. -/
def anEntity (n : Nat) : PmEntity := { ob := objBond 5, layer := 0xFF, tpn := 0, cells := List.replicate 824 0, pipe := List.replicate n (.second 0 0 1 false false) }

/-- Framers of each kind; a tributary by its id; a bin boundary and a second that is none; ten seconds in the pipe and
nine; cells within their bounds. -/
theorem meets_PerformanceMonitoring :
    (isEth framed.bonds[5] = true ∧ isEth framed.bonds[6] = false ∧ (up.framer (.trib 0 0 0 1)).isNone = true) ∧
    (aTrib.isId 0 0 0 5 = true ∧ (mirroring .aligning true).map.tribs = [aTrib]) ∧
    (((up.stamp.sec : Int) - 0) % 900 = 0 ∧ (List.range 4).all (fun n => decide (((n + 1 : Int) - 0) % 900 ≠ 0)) = true) ∧
    (((anEntity 9).pipe.flatMap PmStep.ses).length = 9 ∧ (((anEntity 10).pipe.flatMap PmStep.ses).length = 10)) ∧
    ((anEntity 10).pipe = PmStep.second 0 0 1 false false :: List.replicate 9 (.second 0 0 1 false false) ∧ (0 : Nat) < 1) ∧
    ((anEntity 0).cells.length = 824 ∧ (anEntity 0).cells[0]? = some 0 ∧ (anEntity 0).cells[97]? = some 0 ∧ (anEntity 0).cells[103 * 7]? = some 0 ∧ (anEntity 0).cells[103 * 7 + 97]? = some 0) :=
  ⟨by decide +kernel, by decide +kernel, by decide +kernel, by decide +kernel, by decide +kernel, by decide +kernel⟩

/-- Carrier 0 is changed. -/
def carried (f : Carrier → Carrier) (s : State := up) : State := onCar 0 f s

/-- A body of CARRIER.PROVISION: symbol rate, code, sampling, swing, map, slices of group 0, T of group 0. -/
def provBody (rs ldpc fs sw : Nat) (m : List Nat) (sl t : Nat) : List Byte :=
  ([1, 0, 0xFF, 0] ++ leBytes 4 rs ++ leBytes 1 ldpc ++ leBytes 1 fs ++ leBytes 2 sw ++ m.map (BitVec.ofNat 8) ++ leBytes 1 sl ++ List.replicate 15 0
    ++ leBytes 2 t ++ List.replicate 30 0)

/-- Such a body starts, and the first field that is refused (none: provisioned). -/
def provAt (rs ldpc fs sw : Nat) (m : List Nat) (sl t : Nat) (bad : Option Nat) : Bool :=
  let b := provBody rs ldpc fs sw m sl t
  startsAt up 0x0201 b && provBad up (req b) == bad

/-- Group 0 of carrier 0 sends, or has a folio due at a stamp. -/
def sends (f : FolioGroup → FolioGroup := id) (s : State := up) : State := onFol 0 0 (fun x => f { x with txOn := true }) s
def dueAt (n : Nat) (s : State := up) : State := onRxg 0 0 (fun x => { x with due := [{ arrival := n }] }) s

/-- The receiver of carrier 0 runs, with its line present or not. -/
def receives (los : Bool) : State := onRx 0 (fun r => { r with st := .running, los := los }) up

/-- CARRIER.PROVISION at the bounds of each field; an enable barred and not; a calibration at its end; folios in each
state of the group; LOS; a group that sends from each source; a header; releases before and after their instant. -/
theorem meets_CarriersAndFolios :
    (provAt 288000 1 1 500 (List.replicate 16 0) 32 0 none = true ∧ provAt 144000 0 0 300 (List.replicate 16 0) 8 0 none = true ∧ provAt 144000 2 2 600 (List.replicate 16 0) 1 0 none = true) ∧
    (provAt 290250 1 1 500 (List.replicate 16 0) 32 0 (some 4) = true ∧ provAt 288001 1 1 500 (List.replicate 16 0) 32 0 (some 4) = true ∧ provAt 141750 1 1 500 (List.replicate 16 0) 32 0 (some 4) = true) ∧
    (provAt 288000 3 1 500 (List.replicate 16 0) 32 0 (some 8) = true ∧ provAt 288000 1 3 500 (List.replicate 16 0) 32 0 (some 9) = true ∧ provAt 288000 1 1 299 (List.replicate 16 0) 32 0 (some 10) = true ∧ provAt 288000 1 1 625 (List.replicate 16 0) 32 0 (some 10) = true) ∧
    (provAt 288000 1 1 500 (List.replicate 16 16) 32 0 (some 12) = true ∧ provAt 288000 1 1 500 (List.replicate 16 0) 0 0 (some 28) = true ∧ provAt 288000 1 1 500 (List.replicate 16 0) 33 0 (some 28) = true ∧ provAt 288000 1 1 500 (List.replicate 16 0) 32 1704 (some 44) = true ∧ provAt 288000 1 1 500 (List.replicate 16 0) 32 1705 none = true) ∧
    ((let s := carried fun x => { x with provisioned := true }; startsAt s 0x0202 [1, 0, 0xFF, 0] = true ∧ provFits s 0 = true ∧ stopHolds s = false ∧ (s.car 0).enabled = false ∧ (s.car 0).enabling = false)) ∧
    ((match allocRegion 4 (rxQueuePages up 0) up with | .ok _ => true | .error _ => false) = true ∧ (up.car 0).provisioned = false ∧ startsAt up 0x0202 [1, 0, 0xFF, 0] = true ∧ startsAt up 0x0203 [1, 0, 0xFF, 0] = true) ∧
    (((carried fun x => { x with enabling := true }).car 0).fg = none) ∧
    (carrierDomains 0 up = true ∧ needsForeground up 0 = true ∧ carrierDomains 0 State.reset = false) ∧
    ((let f : Foreground := { group := 17, byEnable := true }; 17 + f.repeatGroups ≤ f.group ∧ up.dom 0 = .run) ∧ (let f : Foreground := { group := 16 }; f.group < 17 + f.repeatGroups) ∧ (let f : Foreground := { group := 17, repeats := [5] }; f.group < 17 + f.repeatGroups)) ∧
    (((up.car 0).convs.toList.any fun x => decide (4 < x.retired)) = false ∧ (((carried fun x => { x with convs := x.convs.set 0 { roles := List.replicate 132 .retired } }).car 0).convs.toList.any fun x => decide (4 < x.retired)) = true) ∧
    (((rxIn .track).rxg 0 0).st = .track) ∧
    (((rxIn .eqAcq).rxg 0 0).st = .eqAcq ∧ ((rxIn .off).rxg 0 0).st ≠ .track ∧ (up.rxc 0).st = .off ∧ ((receives false).rxc 0).st ≠ .off ∧ ((receives false).rxc 0).los = false ∧ ((receives true).rxc 0).los = true) ∧
    (((sends).fol 0 0).txOn = true ∧ (up.fol 0 0).txOn = false ∧ ((sends fun x => { x with adopt := some 9 }).fol 0 0).adopt = some 9 ∧ up.dev.mode ≠ some .regenerator ∧ up.dev.mode ≠ some .leaf) ∧
    ((let s := onFol 1 0 (fun x => { x with txOn := true, txStamp := 1 }) (guarded id (sends)); s.prot[0].exists_ = true ∧ (s.fol 1 0).txOn = true ∧ (s.fol 1 0).txStamp ≠ 0 ∧ (s.fol 1 0).sentNum = ((s.fol 0 0).txVolume, (s.fol 0 0).txFolio))) ∧
    (groupSlices up 0 0 = 32 ∧ ([] : List (List Nat)).length ≠ 32 ∧ encMode up 0 = 0 ∧ ((up.cry 0 0).txEnc) = false) ∧
    ((up.fol 0 0).txVolume < 2 ^ 32 ∧ (up.fol 0 0).txFolio < 256) ∧
    (((dueAt 0).rxg 0 0).due = [{ arrival := 0 }] ∧ (dueAt 0).tod16 < 0 + playoutNs (dueAt 0) 0 * 65536 + alignOffset (dueAt 0) 0) ∧
    ((let s : State := { up with time := { up.time with tod := 100000000000 * todUnit } }; 0 + playoutNs s 0 * 65536 + alignOffset s 0 ≤ s.tod16)) ∧
    ((let x : QSlot := { slot := 3, car := 0, seq := 1, words := 2, unres := false, readBegun := false }; ({ up with dec := { up.dec with slots := [x] } } : State).dec.slots.find? (fun y => y.slot == 3) = some x)) :=
  ⟨by decide +kernel, by decide +kernel, by decide +kernel, by decide +kernel, by decide +kernel, by decide +kernel, by decide +kernel, by decide +kernel, by decide +kernel, by decide +kernel, by decide +kernel, by decide +kernel, by decide +kernel, by decide +kernel, by decide +kernel, by decide +kernel, by decide +kernel, by decide +kernel, by decide +kernel⟩

/-- Worked values of R169 and R86: the bytes of a slice and the lowest T. -/
theorem test_interfaceRates :
    (sliceBytes 288000 = 2844 ∧ sliceBytes 144000 = 5688 ∧ targetMin 288000 1 16 32 = 1705) ∧
    (dataPeriods 16 = 3915 ∧ dataPeriods 1 = 3585) :=
  ⟨by decide +kernel, by decide +kernel⟩

/-- ADC 0 of carrier 0, whose domain is in RUN, is changed. -/
def cnv (f : Conv → Conv) (s : State := up) : State := onConv 0 4 f s

/-- A good run with the first candidates, and one without a selection. -/
def aRun : MeasRun := { off := 0, gain := 0, skew := 0, sel := 0, r1 := 0, r2 := 0, r3 := 0, r4 := 0, bw := 0, noSel := false }
def noRun : MeasRun := { aRun with noSel := true }

/-- Position 7 is visited: slice 128 stands in or shadows, slice 7 is measured with two runs. -/
def visiting (rot : Rot) (a b : MeasRun) : State :=
  cnv fun x => { x with rot := rot, visitPos := some 7, standIn := some 128, measured := some 7, runs := [(7, a), (7, b)] }

/-- A rotation parameter of ADC 0 set to 1 waits or acts. -/
def rotVal : ParamVal := { tab := .r48, obj := objConv 0 4 0xFF, pid := 0x20, val := 1 }

/-- The commands with each refusal; a converter in each state of the rotation; each outcome of two runs at its bounds; a
calibration between groups; faults in consecutive windows; a substitution that ends. -/
theorem meets_ConvertersKeepCalibrated :
    ((let s := carried fun x => { x with provisioned := true }; startsAt s 0x0210 [2, 0, 0xFF, 0xFF, 1] = true ∧ (s.car 0).enabled = false ∧ stopHeld 0 s = false ∧ (up.car 0).provisioned = false)) ∧
    (onePar 0x0211 [2, 0, 4, 0xFF] 0x20 0 = true ∧ ([rotVal].filter fun v => v.obj == objConv 0 4 0xFF) ≠ [] ∧ ([rotVal].filter fun v => v.obj == objConv 0 5 0xFF) = []) ∧
    (((visiting .measure aRun aRun).conv 0 4).inVisit = true ∧ (up.conv 0 4).inVisit = false ∧ (up.conv 0 4).rot ≠ .halted) ∧
    (startsAt up 0x0212 [2, 0, 4, 7] = true ∧ startsAt up 0x0212 [2, 0, 4, 131] = true ∧ startsAt up 0x0212 [2, 0, 4, 132] = false) ∧
    (((convReady 0 4 up).conv 0 4).retired < 4 ∧ ((convReady 0 4 up).conv 0 4).roles.getD 128 .retired = .spare ∧ ((convReady 0 4 up).conv 0 4).roles.getD 7 .retired = .active ∧ ((convReady 0 4 up).conv 0 4).spares ≠ []) ∧
    ((let s := cnv (fun x => { x with loaded := true, roles := List.replicate 132 .retired }); 4 ≤ ((convReady 0 4 s).conv 0 4).retired)) ∧
    ((let s := cnv (fun x => { x with loaded := true, rot := .gap, waitSpare := [(7, true)] }); ((convReady 0 4 s).conv 0 4).waitSpare = [(7, true)] ∧ ((convReady 0 4 s).conv 0 4).rot = .gap)) ∧
    ((let s := cnv (fun x => { x with loaded := true, rot := .measure, roles := x.roles.set 7 .measuring, visitPos := some 7, standIn := some 128 }); ((convReady 0 4 s).conv 0 4).roles.getD 7 .retired = .measuring ∧ ((convReady 0 4 s).conv 0 4).visitPos = some 7)) ∧
    ((let x : Conv := { rot := .gap, temp := 0, passTemp := 0 }; x.rot ≠ .off ∧ x.rot ≠ .foreground ∧ (convPar up 0 4 0x70).toNat < (10000 - x.passTemp).natAbs ∧ ¬(convPar up 0 4 0x70).toNat < (0 - x.passTemp).natAbs)) ∧
    ((let x := (cnv fun x => { x with measured := some 7 }).conv 0 4; x.measured = some 7 ∧ (x.runs.filter fun y => y.1 == 7).length < 2 ∧ selOk 4 aRun.sel.toNat = true) ∧ selOk 4 3 = false ∧ selOk 0 (2 ^ 63 - 1) = true ∧ selOk 0 (2 ^ 64 - 1) = false) ∧
    ((let f : Foreground := { group := 16 }; up.dom 0 = .run ∧ f.group < 17 + f.repeatGroups) ∧ (let f : Foreground := { group := 17 }; 17 + f.repeatGroups ≤ f.group)) ∧
    (measOutcome (visiting .measure aRun aRun) 0 4 7 = some (.fit 0) ∧ measOutcome (visiting .measure noRun noRun) 0 4 7 = some .unfit ∧ measOutcome (visiting .measure aRun { aRun with bw := 301 }) 0 4 7 = some .failed) ∧
    (measOutcome (visiting .measure aRun { aRun with bw := -300 }) 0 4 7 = some (.fit 0) ∧ measOutcome up 0 4 7 = none ∧ measOutcome (visiting .measure aRun noRun) 0 4 7 = some (.fit 0)) ∧
    (judgeRuns up 0 4 aRun { aRun with r1 := 31 } = .failed ∧ judgeRuns up 0 4 aRun { aRun with r1 := 30, r2 := 15, r3 := 10, r4 := 30 } = .fit 0 ∧ judgeRuns up 0 4 { aRun with off := 10000 } aRun = .failed) ∧
    ((let x := (visiting .shadowIn aRun aRun).conv 0 4; x.rot = .shadowIn ∧ x.visitPos = some 7 ∧ x.standIn = some 128 ∧ x.map.getD 7 0 = 7) ∧ ((visiting .shadowOut aRun aRun).conv 0 4).measured = some 7) ∧
    (((visiting .spareMeasure aRun aRun).conv 0 4).rot = .spareMeasure ∧ (0 : Int) + 1 < 1 + convPar up 0 4 0x50 ∧ (up.conv 0 4).measured = none ∧ (up.conv 0 4).rot ≠ .gap) ∧
    ((let s := withPar .r48 (objConv 0 4 0xFF) 0x20 0 up; convPar { s with par := s.par.release .r48 (objConv 0 4 0xFF) } 0 4 0x20 = 0)) ∧
    ((let x := (cnv fun x => { x with rot := .gap, faultRun := [7] }).conv 0 4; ((positions (· == Role.active) x.roles).filter fun sl => [({ slice := 7, mean := 10000, level := 0 } : SliceStat)].any fun t => t.slice.val == sl && statFaulty up 0 4 t) = [7] ∧ 7 ∈ x.faultRun ∧ 7 ∉ x.faulted ∧ x.subst = [])) ∧
    ((let x := (cnv fun x => { x with subst := [{ pos := 7, faulty := 7, repl := 128, forced := true }] }).conv 0 4; x.subst = [{ pos := 7, faulty := 7, repl := 128, forced := true }]) ∧ (up.conv 0 4).subst = []) :=
  ⟨by decide +kernel, by decide +kernel, by decide +kernel, by decide +kernel, by decide +kernel, by decide +kernel, by decide +kernel, by decide +kernel, by decide +kernel, by decide +kernel, by decide +kernel, by decide +kernel, by decide +kernel, by decide +kernel, by decide +kernel, by decide +kernel, by decide +kernel, by decide +kernel, by decide +kernel⟩

/-- Group 0 of carrier 0 is changed. -/
def grp (f : RxGroup → RxGroup) (s : State := up) : State := onRxg 0 0 f s

/-- Metrics of the coarse candidates of the whole range, and of the fine ones, with one peak. -/
def coarsePeak : List Nat := (List.range 401).map fun i => if i == 200 then 9 else 1
def finePeak : List Nat := (List.range 41).map fun i => if i == 21 then 9 else 1

/-- The front end measured; the search from a stored hint, from CD_KNOWN and from the range; the candidates' peaks;
three failures; each state of the acquisition at the bounds of its offsets; subcarriers in each state. -/
theorem meets_ReceiveGroupsAcquire :
    (((onRx 0 (fun r => { r with st := .frontEnd }) up).rxc 0).st = .frontEnd ∧ (up.rxc 0).st ≠ .frontEnd) ∧
    (rxPar (withPar .r78 (objGroup 0 0) 0x30 1 up) 0 0 0x30 = 1 ∧ rxPar up 0 0 0x30 ≠ 1 ∧ (up.rxg 0 0).hint = none ∧ ((grp fun x => { x with hint := some 800 }).rxg 0 0).hint = some 800) ∧
    (((onRx 0 (fun r => { r with engine := some 0 }) up).rxc 0).engine = some 0 ∧ (up.rxc 0).engine = none) ∧
    (bestOf (coarseCands 0 1600000) coarsePeak = some (0, 9) ∧ bestOf (fineCands 0) finePeak = some (400, 9) ∧ (coarseCands 0 1600000).length = 401 ∧ (coarseCands 8000 0) = [8000]) ∧
    (((grp fun x => { x with fails := 2 }).rxg 0 0).fails + 1 = 3 ∧ ((grp fun x => { x with fails := 2 }).rxg 0 0).acqFailRaised = false ∧ (up.rxg 0 0).fails + 1 ≠ 3) ∧
    ((102400 : Int).natAbs ≤ 102400 ∧ 102400 < (102401 : Int).natAbs ∧ 102400 < (-102401 : Int).natAbs ∧ ((rxIn .clockAcq).rxg 0 0).st = .clockAcq ∧ ((rxIn .freqAcq).rxg 0 0).st = .freqAcq ∧ ((rxIn .trainSync).rxg 0 0).st = .trainSync) ∧
    (up.dev.mode = some .hub ∧ freqRange up 0 0 = 100 ∧ (601 : Int).natAbs > (freqRange up 0 0).toNat + 500 ∧ (600 : Int).natAbs ≤ (freqRange up 0 0).toNat + 500) ∧
    ((let s : State := { up with dev := { up.dev with mode := some .transponder } }; s.dev.mode ≠ some .hub ∧ rxPar (withPar .r78 (objGroup 0 0) 0x80 0 s) 0 0 0x80 = 0 ∧ rxPar (withPar .r78 (objGroup 0 0) 0x80 1 s) 0 0 0x80 = 1 ∧ rxPar (withPar .r78 (objGroup 0 0) 0x80 2 s) 0 0 0x80 = 2)) ∧
    (2 * lockedSubs (rxIn .eqAcq) 0 0 < (groupSubs (rxIn .eqAcq) 0 0).length ∧ (let s := setSubs 0 0 (fun x => { x with st := .locked }) (rxIn .eqAcq); (groupSubs s 0 0).length ≤ 2 * lockedSubs s 0 0)) ∧
    ((let s := onSub 0 3 (fun x => { x with st := .acq }) (setSubs 0 0 (fun x => { x with st := .locked }) (rxIn .eqAcq)); ((s.rxc 0).subs[3]).st = .acq ∧ subGroup s 0 3 = 0 ∧ (let u := halfCheck 0 0 (onSub 0 3 (fun x => { x with st := .locked }) s); (u.rxg 0 0).st = .eqAcq ∧ lockedSubs u 0 0 = (groupSubs u 0 0).length))) :=
  ⟨by decide +kernel, by decide +kernel, by decide +kernel, by decide +kernel, by decide +kernel, by decide +kernel, by decide +kernel, by decide +kernel, by decide +kernel, by decide +kernel⟩

/-- A group in OFF and one in acquisition. -/
theorem meets_ReacquireDropsTheHint : startsAt up 0x0303 [1, 0, 0, 0] = true ∧ (up.rxg 0 0).st = .off ∧ startsAt (rxIn .clockAcq) 0x0303 [1, 0, 0, 0] = true ∧ ((rxIn .clockAcq).rxg 0 0).st ≠ .off := by
  decide +kernel

/-- Group 0 of carrier 0 of the transmitter is changed. -/
def txGrp (f : TxGroup → TxGroup) (s : State := up) : State := onTxg 0 0 f s

/-- A loading field that announces a table two folios ahead; it is good where its last byte is 0x2F. -/
def announce (last : Byte) : List Byte := [0x40, 1, 2, 1] ++ List.replicate 106 0 ++ [0x40, last]

/-- The field of the wire. -/
def wireField (b : List Byte) : List Byte := ohField 16 b

theorem crcBytes_split {w p i : Nat} (a b : List Byte) : crcBytes w p i (a ++ b) = crcBytes w p (crcBytes w p i a) b := List.foldl_append

theorem announce_crc (last : Byte) : crc16 ((padTo 112 (announce last)).take 110) = 0x402F := by
  have h : (padTo 112 (announce last)).take 110 = ([0x40, 1, 2, 1] ++ List.replicate 46 0) ++ List.replicate 60 0 := rfl
  have h1 : crcBytes 16 0x1021 0xFFFF ([0x40, 1, 2, 1] ++ List.replicate 46 (0 : Byte)) = 16236 := by decide +kernel
  rw [h, crc16, crcBytes_split, h1]
  decide +kernel

theorem announce_wire : ∀ last ∈ [(0x2F : Byte), 0x2E], padTo 112 (ohField 16 (padTo 112 (wireField (announce last)))) = padTo 112 (announce last) := by
  decide +kernel

/-- A manual policy, and a table of sixteen entries that meets the target. -/
def manualUp : State := withPar .r103 (objGroup 0 0) 0x20 1 up

/-- A field that fails its CRC, and a good one that announces a table one folio ahead, with one bad field and one folio without a
field after it. -/
theorem meets_FailedLoadingFieldDiscarded :
    (let b := padTo 112 (ohField 16 (padTo 112 (wireField (announce 0x2E)))); crc16 (b.take 110) ≠ beAt b 110 2) ∧
    (let b := padTo 112 (ohField 16 (padTo 112 (wireField (announce 0x2F))))
     ((rxIn .track).rxg 0 0).st = .track ∧ crc16 (b.take 110) = beAt b 110 2 ∧ bit (byteAt b 0) 6 = true ∧ 0 < byteAt b 3 ∧
      ((some (announce 0x2E) :: [none]).filter Option.isNone).length = byteAt b 3) ∧
    crc16 ((padTo 112 (announce 0x2E)).take 110) ≠ beAt (padTo 112 (announce 0x2E)) 110 2 := by
  simp only [announce_wire 0x2E (by decide), announce_wire 0x2F (by decide), announce_crc]
  exact ⟨by decide +kernel, ⟨by decide +kernel, by decide +kernel, by decide +kernel, by decide +kernel, by decide +kernel⟩, by decide +kernel⟩

/-- The best of two subcarriers; a field in each state of the receive side; reports used and not; a proposal in each
state; candidates and intervals; the commands with each refusal. -/
theorem meets_LoadingAndTransmitDsp :
    (bestSub (List.replicate 105 0) [100, 200] [0, 0] [0, 1] = some (1, 200) ∧ bestSub (List.replicate 105 0) [100, 200] [0, 104] [0, 1] = some (0, 100) ∧ bestSub (List.replicate 105 0) [100] [104] [0] = none) ∧
    (((rxIn .track).txg 0 0).rxEpoch ≠ some (((rxIn .track).rxg 0 0).epoch) ∧ (let s := txGrp (fun x => { x with rxEpoch := some 0, mismatch := 1, rxTid := 1 }) (rxIn .track); (s.txg 0 0).rxEpoch = some (s.rxg 0 0).epoch ∧ byteAt ([0, 2] ++ List.replicate 110 (0 : Byte)) 1 ≠ (s.txg 0 0).rxTid ∧ 0 < (s.txg 0 0).mismatch)) ∧
    ((let x := (txGrp fun x => { x with st := .proposed, tidNext := 3 }).txg 0 0; x.st = .proposed ∧ 3 = x.tidNext) ∧ bit 0x20 5 = true ∧ ((txGrp fun x => { x with st := .steady }).txg 0 0).rptSeq ≠ some 0) ∧
    (((txGrp fun x => { x with rxPend := some (3, []) }).txg 0 0).rxPend = some (3, []) ∧ (up.txg 0 0).rxNext = none ∧ (up.txg 0 0).nextTid ≠ 0) ∧
    ((up.txg 0 0).candidate = none ∧ ((txGrp fun x => { x with candidate := some (List.replicate 16 0) }).txg 0 0).candidate = some (List.replicate 16 0) ∧ loadPar up 0 0 0x20 = 0) ∧
    ((let x := (txGrp fun x => { x with st := .steady, reports := 1 }).txg 0 0; 0 < x.reports ∧ x.st ≠ .off) ∧ ((txGrp fun x => { x with st := .steady, want := some [] }).txg 0 0).want = some []) ∧
    (loadPar manualUp 0 0 0x20 = 1 ∧ startsAt manualUp 0x0402 ([1, 0, 0, 0] ++ (List.replicate 16 (leBytes 2 0)).flatten) = true ∧ startsAt up 0x0402 ([1, 0, 0, 0] ++ (List.replicate 16 (leBytes 2 0)).flatten) = true) ∧
    (startsAt up 0x0403 ([1, 0, 0xFF, 0, 2, 0, 0, 0] ++ (List.replicate 105 (leBytes 2 0)).flatten) = true ∧ startsAt up 0x0403 ([1, 0, 0xFF, 0, 3, 0, 0, 0] ++ (List.replicate 105 (leBytes 2 0)).flatten) = true) ∧
    (startsAt up 0x0403 ([1, 0, 0xFF, 0, 1, 0, 0, 0] ++ ((List.range 105).flatMap fun i => leBytes 2 (200 - i))) = true) ∧
    (startsAt up 0x0411 [1, 0, 0xFF, 0] ((List.range 1024).map (BitVec.ofNat 8)) = true ∧ startsAt up 0x0411 [1, 0, 0xFF, 0] (List.replicate 1024 7) = true ∧ ((onTx 0 (fun t => { t with txOn := true }) up).txc 0).txOn = true) :=
  ⟨by decide +kernel, by decide +kernel, by decide +kernel, by decide +kernel, by decide +kernel, by decide +kernel, by decide +kernel, by decide +kernel, by decide +kernel, by decide +kernel⟩

/-- Pool 0 is changed; a codeword of carrier 0, group 0, with sequence number 0. -/
def pooled (f : Pool → Pool) (s : State := up) : State := onPool 0 f s
def aWord (st : CwState) (dl : Nat) : Codeword :=
  { key := 2 ^ 32, seq := 0, car := 0, group := 0, rate := 1, deadline := dl, slot := 3, bad := [], llr := [], upper := [], filled := 0, level1 := 0, st := st }
def worded (w : Codeword) (s : State := up) : State := onDec (fun d => { d with words := [w] }) s

/-- A Reader's work. -/
def aWork (reserve fetching : Bool) : Work := { key := 2 ^ 32, rate := 1, reserve := reserve, fetching := fetching, from_ := 0, iter := 0, limit := 16, byCap := true }

/-- Reader 0 of pool 0 works. -/
def works (k : Work) (s : State := up) : State := onReader 0 0 (fun x => { x with work := some k }) s

/-- A group of one folio of `n` soft bits, in TRACK, with codeword boundaries known. -/
def streams (n : Nat) (closing : Bool) (st : RxGroupState) : State :=
  grp (fun x => { x with st := st, synced := true, closing := closing, segs := [{ arrival := 5, newVol := true, dims := [{ llr := List.replicate n 1, up := [] }] }] })

/-- A result whose receive-queue slot has been read already, or not. -/
def resulting (read : Bool) : State :=
  onDec (fun d => { d with results := [{ island := 2, car := 0, seq := 0, slot := 3, data := [1], unres := false, poison := [] }],
                           slots := [{ slot := 3, car := 0, seq := 0, words := 1, unres := false, readBegun := read }] }) up

/-- The pool commands in each state of the pool; DECODE.SET with each refusal; a stream with a codeword, with a part of
one and empty; a Reader idle, busy and fetching; a codeword in each state, before and at its limits; a result for a slot
read and not. -/
theorem meets_CodewordsDecoded :
    (startsAt up 0x0503 [3, 0, 0xFF, 0, 0] = true ∧ startsAt up 0x0503 [3, 0, 0xFF, 0, 1] = true ∧ 125 * measuredRate up * 240 ≤ readersLeft up 0 * 100000000000 ∧ readersLeft up 0 = 84) ∧
    ((let s := onDec (fun d => { d with rateSec := 0, rateLast := 10 ^ 12 }) up; readersLeft s 0 * 100000000000 < 125 * measuredRate s * 240)) ∧
    (startsAt (pooled fun x => { x with st := .out }) 0x0504 [3, 0, 0xFF, 0] = true ∧ (pooled fun x => { x with st := .out }).dec.pools[0].st = .out ∧ stopHeld 8 up = false ∧ up.dec.pools[0].st = .isIn) ∧
    (startsAt up 0x0505 [3, 0, 5, 0, 1] = true ∧ startsAt up 0x0505 [3, 0, 5, 0, 0] = true ∧ startsAt up 0x0505 [3, 0, 12, 0, 0] = false) ∧
    (onePar 0x0501 [1, 0, 0xFF, 0] 0x40 16 = true ∧ badPar 0x0501 [1, 0, 0xFF, 0] 0x40 49 8 = true ∧ anyCarrier up = false) ∧
    ((pooled fun x => { x with st := .removing }).dec.pools[0].drained = true ∧ ((pooled fun x => { x with restoring := some 0xF00 }).dec.pools[0]).restoring = some 0xF00 ∧ up.dom 8 = .run) ∧
    ((choosePool up 0).isSome = true ∧ (choosePool { up with dec := { up.dec with pools := Vector.replicate 8 { st := .out } } } 0).isNone = true) ∧
    ((let x := (streams 2 false .track).rxg 0 0; x.synced = true ∧ x.st = .track ∧ segBits (sameVol (openStream x.segs)).1 = 2) ∧ ((streams 2 true .cdSearch).rxg 0 0).closing = true ∧ segBits (sameVol (openStream ((streams 0 true .off).rxg 0 0).segs)).1 = 0 ∧ (up.rxg 0 0).synced = false) ∧
    ((worded (aWord .queued 9)).cw (2 ^ 32) = some (aWord .queued 9) ∧ up.cw (2 ^ 32) = none ∧ (freeEntry { up with stk := { up.stk with regions := [] } }).isNone = true) ∧
    ((let r := up.dec.pools[0].readers[0]; r.inService = true ∧ r.work = none) ∧ nextQueued (pooled fun x => { x with queue := [2 ^ 32] }) 0 = some (0, 2 ^ 32) ∧ nextQueued up 0 = none ∧ nextReserve up = none) ∧
    ((let s := onDec (fun d => { d with reserve := [(0, 2 ^ 32)] }) (worded (aWord .parked (10 ^ 12))); (nextReserve s).isSome = true)) ∧
    (deadlineIters 0 0 = 0 ∧ 2 ≤ min 16 (deadlineIters 0 (10 ^ 12)) ∧ min 16 (deadlineIters 0 0) < 2) ∧
    ((works (aWork false false)).dec.pools[0].readers[0].work = some (aWork false false) ∧ (aWork false false).fetching = false ∧ (aWork true true).fetching = true ∧ (aWork true true).reserve = true ∧ unsatisfied 1 (List.replicate 2560 0) = 0 ∧ unsatisfied 1 (1 :: List.replicate 2559 0) ≠ 0) ∧
    (fixedLatency up 0 = false ∧ fixedLatency (withPar .r130 (objCarrier 0) 0x20 1 up) 0 = true) ∧
    ((aWord .parked 9).st = .parked ∧ (aWord .parked 9).deadline < up.tod16 + (2000 * 65536 + iter16 * (decPar up 0 0x80 + 1)) ∧ up.tod16 + (2000 * 65536 + iter16 * (decPar up 0 0x80 + 1)) ≤ (aWord .parked (10 ^ 12)).deadline) ∧
    ((aWord .done 0).st = .done ∧ (aWord .unresolved 0).st = .unresolved ∧ (aWord .decoding 0).st ≠ .done) ∧
    ((resulting true).dec.results ≠ [] ∧ ((resulting true).dec.slots.any fun q => q.slot == 3 && q.seq == 0 && q.readBegun) = true ∧ ((resulting false).dec.slots.any fun q => q.readBegun) = false ∧ up.dec.results = []) :=
  ⟨by decide +kernel, by decide +kernel, by decide +kernel, by decide +kernel, by decide +kernel, by decide +kernel, by decide +kernel, by decide +kernel, by decide +kernel, by decide +kernel, by decide +kernel, by decide +kernel, by decide +kernel, by decide +kernel, by decide +kernel, by decide +kernel, by decide +kernel⟩

/-- A burst that waits; a tone of carrier 0 in a state; a leaf. -/
def aBurst (typ : Nat) : Burst := { typ := typ, dst := 1, seq := 0, payload := [1, 2] }
def toned (f : Tone → Tone) (s : State := up) : State := onTone 0 0 f s
def leafUp (f : Interloan → Interloan := id) : State := onIl 0 f { up with dev := { up.dev with mode := some .leaf } }

/-- Carrier 0 is enabled. -/
def enabledUp : State := carried fun x => { x with enabled := true }

/-- Bursts in their order; tones that qualify; a slot boundary of each mode; a JOIN due; a join window at its first
volume; detections at their bounds; each state of a tone; a header good and bad; noise within and past its limits; the
commands with each refusal. -/
theorem meets_InterloanService :
    (nextBurst { queue := [aBurst 0, aBurst 3] } = some (aBurst 3) ∧ nextBurst { queue := [aBurst 4, aBurst 1, aBurst 0] } = some (aBurst 1) ∧ nextBurst {} = none) ∧
    (((List.finRange 4).any fun t => toneQualifies up 0 1 0 2 t) = true ∧ ((List.finRange 4).any fun t => toneQualifies (leafUp) 0 1 0 2 t) = false ∧ toneQualifies up 0 0 3 66 0 = true) ∧
    (((onTx 0 (fun t => { t with txOn := true }) up).txc 0).txOn = true ∧ up.dev.mode = some .hub ∧ (leafUp).dev.mode = some .leaf ∧ gridSlot up 0 0 % 16 = 0) ∧
    ((leafUp fun i => { i with joinDue := some 5 }).il[0].joinDue = some 5 ∧ (leafUp).il[0].ranged = false ∧ ((List.finRange 4).any fun t => toneInMask (leafUp) 0 t.val && ((leafUp).tone 0 t).freeIn 5 && !isQuiet 5) = true) ∧
    ((let s := leafUp fun i => { i with scheds := [{ vol := 0, owner := [], join := true, adv := none }] }; joinVolume s.il[0] 0 = true ∧ joinVolume s.il[0] (2 ^ 32 - 1) = false)) ∧
    (65536 * ilPar up 0 0x40 ≤ 10000 * 65536 ∧ 10000 * 0 < 65536 * ilPar up 0 0x40 ∧ (bestHyp (List.replicate 65 65536)).2 = 65536) ∧
    (({ st := .payload, det := 100 } : Tone).st = .payload ∧ snrAbove 0 100 65536 = true ∧ snrAbove 60 100 100 = false ∧ ({ st := .train, det := 5 } : Tone).det < 6) ∧
    ((({ st := .payload, held := some (9, 0, 100) } : Tone).release 612).st = .preamble ∧ (({ st := .payload, held := some (9, 0, 100) } : Tone).release 613).st = .idle) ∧
    (wellConditioned (jonesOf (1, 0) (0, 0) (0, 0) (0, 1)) = true ∧ wellConditioned (jonesOf (1, 0) (0, 0) (1, 0) (0, 0)) = false) ∧
    ((let b := [0x10, 1, 2, 0, 0, 0] ++ List.replicate 24 (0 : Byte); headerGood (b ++ beBytes 2 (crc16 b)) = true ∧ headerGood (b ++ [0, 0]) = false)) ∧
    ((let s := onIl 0 (fun i => { i with owner := [3], leaves := upd i.leaves 3 fun x => { x with ranged := true } }) up; inGrant s.il[0] 3 = true ∧ s.il[0].leaves[3].ranged = true ∧ s.dev.mode = some .hub) ∧ inGrant up.il[0] 3 = false) ∧
    (ilParI up 0 0x71 * 256 < max 100000 0 * 100 ∧ max (-100000) (-100000) * 100 ≤ (ilParI up 0 0x71 - 100) * 256 ∧ (toned fun t => { t with noiseRaised := true }).il[0].tones[0].noiseRaised = true) ∧
    (startsAt up 0x0602 ([1, 0, 0xFF, 0] ++ List.replicate 64 0xFF) = true ∧ badOwner up 0 (req ([1, 0, 0xFF, 0] ++ List.replicate 64 0xFF)) = none ∧ badOwner up 0 (req ([1, 0, 0xFF, 0] ++ List.replicate 64 16)) = some 0 ∧ startsAt (leafUp) 0x0602 ([1, 0, 0xFF, 0] ++ List.replicate 64 0xFF) = true) ∧
    ((badOwner up 0 (req ([1, 0, 0xFF, 0] ++ List.replicate 15 15 ++ [0] ++ List.replicate 48 15))).isSome = true ∧ ilBusy (onIl 0 (fun i => { i with queue := [aBurst 0] }) up).il[0] = false) ∧
    (startsAt enabledUp 0x0603 ([1, 0, 0xFF, 0, 15, 0] ++ leBytes 2 2) [1, 2] = true ∧ dstOk 15 = true ∧ dstOk 16 = false ∧ startsAt enabledUp 0x0603 ([1, 0, 0xFF, 0, 16, 0] ++ leBytes 2 2) [1, 2] = true ∧ startsAt enabledUp 0x0603 ([1, 0, 0xFF, 0, 1, 0] ++ leBytes 2 2049) [1] = true ∧ startsAt up 0x0603 ([1, 0, 0xFF, 0, 1, 0] ++ leBytes 2 2) [1, 2] = true) ∧
    ((enabledUp.car 0).enabled = true ∧ ilQueued (onIl 0 (fun i => { i with queue := List.replicate 32 (aBurst 0) }) enabledUp).il[0] 0 = 32 ∧ startsAt up 0x0604 [1, 0, 0xFF, 0] = true ∧ up.il[0].store = []) :=
  ⟨by decide +kernel, by decide +kernel, by decide +kernel, by decide +kernel, by decide +kernel, by decide +kernel, by decide +kernel, by decide +kernel, by decide +kernel, by decide +kernel, by decide +kernel, by decide +kernel, by decide +kernel, by decide +kernel, by decide +kernel, by decide +kernel⟩

/-- An exchange in a phase; a message being collected. -/
def aKex (ph : KexPhase) : Kex := { phase := ph, epoch := 1, m1 := [], m2 := [], dk := [], ss := 0 }
def anInbox (msg : Nat) : KexInbox := { epoch := 1, msg := msg, nfrag := 1, len := 2, frags := [(0, [7, 7])] }
def keyed (f : Crypt → Crypt) (s : State := up) : State := onCry 0 0 f s

/-- Encryption is on for carrier 0. -/
def encUp : State := withPar .r183 (objCarrier 0) 0x20 1 (carried fun x => { x with enabled := true })

/-- A folio header of VOLUME 9, FOLIO 4, m 32, with its CRC, and a KEY field with ENC. -/
def aHeader : List Byte :=
  let b := beBytes 4 9 ++ [4, 0, 32] ++ List.replicate 7 (0 : Byte)
  b ++ beBytes 2 (crc16 b)
def aKeyField : List Byte :=
  let b := [0x80, 1, 2, 3] ++ List.replicate 20 (0 : Byte)
  b ++ beBytes 2 (crc16 b)

/-- Headers good and bad in each state of a group; KEY fields; tags that agree and do not; an exchange in each phase,
its messages and its timer; the commands with each refusal; bursts good, bad and poisoned. (A peer's hash and a
signature that holds rest on this device's identity, which is a free constant of Config.) -/
theorem meets_FolioFrameAndEncryption :
    ((let b := ohField 0 (padTo 16 (ohField 0 aHeader)); beAt b 14 2 = crc16 (bytesAt b 0 14)) ∧ (let b := ohField 0 (padTo 16 (ohField 0 aHeader.reverse)); beAt b 14 2 ≠ crc16 (bytesAt b 0 14)) ∧ hdrPos aHeader = 256 * 9 + 4 ∧ byteAt aHeader 6 = groupSlices up 0 0) ∧
    ((let f := (sends fun x => { x with hcrcRun := 7 }).fol 0 0; f.hcrcRun + 1 = 8 ∧ f.lof = false) ∧ (let s := onFol 0 0 (fun f => { f with lof := true, lastGood := some (256 * 9 + 4), goodRun := 1 }) (rxIn .track); (s.fol 0 0).lof = true ∧ (s.rxg 0 0).st = .track ∧ (s.fol 0 0).lastGood = some (hdrPos aHeader))) ∧
    ((let f := (sends fun x => { x with rxKnown := true, jumpLast := 256 * 9 + 4, jumpRun := 2, sliceRun := 2 }).fol 0 0; f.rxKnown = true ∧ hdrPos aHeader ≠ nextPos (256 * f.rxVolume + f.rxFolio) ∧ f.jumpLast = hdrPos aHeader ∧ f.jumpRun = 2 ∧ f.sliceDef = false ∧ 31 ≠ groupSlices up 0 0)) ∧
    ((let s := sends (fun x => { x with leafRun := 2 }) (leafUp); s.dev.mode = some .leaf ∧ (s.fol 0 0).txOn = true ∧ beAt aHeader 0 4 ≠ (s.fol 0 0).txVolume ∧ 2 ≤ (s.fol 0 0).leafRun) ∧ ((sends fun x => { x with txVolume := 9 }).fol 0 0).txVolume = beAt aHeader 0 4) ∧
    ((let b := ohField 128 (padTo 26 (ohField 128 aKeyField)); beAt b 24 2 = crc16 (bytesAt b 0 24) ∧ bit (byteAt b 0) 7 = true) ∧ (let b := ohField 128 (padTo 26 (ohField 128 aKeyField.reverse)); beAt b 24 2 ≠ crc16 (bytesAt b 0 24))) ∧
    ((up.cry 0 0).rxSync = false ∧ ((keyed fun k => { k with rxArmed := some (5, 2) }).cry 0 0).rxArmed = some (5, 2) ∧ (5 + 2 ^ 32 - 5) % 2 ^ 32 < 2 ^ 31 ∧ 2 ^ 31 ≤ (4 + 2 ^ 32 - 5) % 2 ^ 32) ∧
    ((let k := (keyed fun k => { k with doneTags := [(5, 7)], gotTags := [(5, some 7)] }).cry 0 0; k.doneTags = [(5, 7)] ∧ (k.gotTags.find? fun x => x.1 == 5) = some (5, some 7)) ∧ ((sends fun x => { x with tagFailRun := 2 }).fol 0 0).tagFailRun = 2) ∧
    (((keyed fun k => { k with kex := some (aKex .awaitFar) }).cry 0 0).kex = some (aKex .awaitFar) ∧ (aKex .awaitNear).phase = .awaitNear ∧ (aKex .awaitFar).epoch = 1 ∧ ((keyed fun k => { k with lateKex := some 1 }).cry 0 0).kex = none) ∧
    ((anInbox 1).whole = some [7, 7] ∧ (anInbox 2).msg = 2 ∧ (anInbox 3).msg = 3 ∧ ({ anInbox 1 with nfrag := 2 } : KexInbox).whole = none ∧ answersM1 encUp 0 0 [] = false ∧ encMode encUp 0 ≠ 0) ∧
    (isInitiator encUp 0 0 = true ∧ isInitiator (leafUp) 0 0 = false ∧ peerAllowed encUp 0 0 = true ∧ (encUp.cry 0 0).canStart = true ∧ ((keyed fun k => { k with kex := some (aKex .awaitM2) }).cry 0 0).canStart = false) ∧
    (((keyed (fun k => { k with retryDue := true }) encUp).cry 0 0).retryDue = true ∧ (encUp.car 0).enabled = true ∧ (up.car 0).enabled = false) ∧
    (startsAt up 0x0711 ([1, 0, 0, 0] ++ List.replicate 36 0) = true ∧ startsAt encUp 0x0712 [1, 0, 0, 0] = true ∧ startsAt up 0x0712 [1, 0, 0, 0] = true) ∧
    ((let d := [1, 2] ++ leBytes 4 (crc32c [1, 2]); let b := (scramble (List.replicate 32 0 ++ padTo 6 ((scramble (List.replicate 32 0 ++ d)).drop 32))).drop 32; natAt b 2 4 = crc32c (b.take 2) ∧ natAt ((scramble (List.replicate 32 0 ++ padTo 6 [])).drop 32) 2 4 ≠ crc32c (((scramble (List.replicate 32 0 ++ padTo 6 [])).drop 32).take 2))) ∧
    (((toned fun t => { t with st := .payload, len := 2 }).tone 0 0).st = .payload ∧ ((toned fun t => { t with st := .payload, poisoned := true }).tone 0 0).poisoned = true ∧ (up.tone 0 0).st ≠ .payload) :=
  ⟨by decide +kernel, by decide +kernel, by decide +kernel, by decide +kernel, by decide +kernel, by decide +kernel, by decide +kernel, by decide +kernel, by decide +kernel, by decide +kernel, by decide +kernel, by decide +kernel, by decide +kernel, by decide +kernel⟩

/-- A check of a candidate position; an alignment unit in a state with candidates. -/
def aCheck (pos : Nat) : AlignCheck := { pos := pos, matched := true, ident := 0, lane := 0, skew := 0 }
def aUnit (st : AlignState) (cs : List (Nat × Nat)) : AlignUnit := { st := st, cands := cs.map fun c => { pos := c.1, ident := 0, confirms := c.2, n := 2, m := 5 } }

/-- A body of FRAMER.PROVISION at bond `b`: interface, lanes, FEC, and a FlexO group. -/
def bondBody (b iface k fec g : Nat) : List Byte := [5] ++ leBytes 1 b ++ [0, 0] ++ leBytes 1 iface ++ leBytes 1 k ++ leBytes 1 fec ++ [0] ++ leBytes 2 g ++ [0, 0]

/-- Alignment units in each state with none, one, two and sixteen candidates; a check clean and not; a bond in frame;
defects that persist, masked and not; frames of each framer; overhead accepted and not yet; the commands with each
refusal. -/
theorem meets_FramersAndDefects :
    ((aUnit .search []).st = .search ∧ (aUnit .search [(3, 1)]).cands.length < 16 ∧ (aUnit .search (List.replicate 16 (3, 255))).cands.length = 16 ∧ ((aUnit .search (List.replicate 16 (3, 255))).cands.all fun x => decide (x.confirms ≤ 255)) = true ∧ ((aUnit .search [(3, 1)]).cands.all fun x => decide (x.confirms < x.n)) = true) ∧
    (((aUnit .search [(3, 2)]).cands.filter fun c => decide (c.n ≤ c.confirms)).length = 1 ∧ ((aUnit .search [(3, 2), (4, 2)]).cands.filter fun c => decide (c.n ≤ c.confirms)).length = 2 ∧ (aUnit .search []).amb = 0) ∧
    (((aUnit .search [(3, 1)]).predict {} [aCheck 3]).cands.length ≤ 1 ∧ (aCheck 3).matched = true ∧ predictId {} 0 = (aCheck 3).ident ∨ predictId {} 0 ≠ 0) ∧
    ((let f : Framer := { provisioned := true, iface := 4, k := 1, units := [{ st := .inFrame }] }; f.provisioned = true ∧ f.units ≠ [] ∧ (f.units.all fun u => u.st == .inFrame) = true ∧ f.inFrame = false)) ∧
    (((let s : State := { framed with bonds := upd framed.bonds 6 fun f => { f with timing := [(161, true)] } }; (s.framer (.bond 6)).any fun f => f.timing.contains (161, true)) = true) ∧ ((framed.framer (.bond 6)).any fun f => f.timing == []) = true) ∧
    (({ declared := [(160, 0xFF, 1)] } : Framer).masked false 161 0 = true ∧ ({} : Framer).masked false 161 0 = false ∧ ({} : Framer).masked true 160 0 = true ∧ isTimed 161 = true ∧ isTimed 160 = false ∧ ({} : Framer).has 160 0 = false) ∧
    (framerWatched framed (.bond 6) = true ∧ framerWatched up (.bond 6) = false ∧ framerWatched (rxIn .track) (.odum 0 0) = true ∧ isEth framed.bonds[6] = false) ∧
    ((let x : SliceOh := { mfas := some 255, mfRun := 1 }; (255 + 1) % 256 = 0 ∧ x.mfIn = false ∧ 2 ≤ x.mfRun + 1) ∧ (let x : LayerRx := { statCand := 3, statRun := 2 }; x.statCand = 3 ∧ 2 ≤ x.statRun)) ∧
    (([(8, 0, 4, 0), (8, 1, 8, 1), (8, 3, 8, 0), (8, 4, 4, 0), (8, 6, 2, 0)].all fun x => startsAt up 0x0801 (bondBody x.1 x.2.1 x.2.2.1 x.2.2.2 0)) = true ∧ 4 ∈ laneCounts 0 ∧ 3 ∉ laneCounts 0 ∧ 8 % 4 = 0 ∧ 9 % 4 ≠ 0) ∧
    (startsAt up 0x0801 (bondBody 8 10 4 0 0) = true ∧ startsAt up 0x0801 (bondBody 8 4 4 1 0) = true ∧ startsAt up 0x0801 (bondBody 8 0 4 0 7) = true ∧ soleSynth up 8 4 = some 0 ∧ (framed.bonds[5].provisioned = true ∧ 5 < 4 + 4 ∧ 4 < 5 + framed.bonds[5].k)) ∧
    (startsAt framed 0x0802 [5, 5, 0, 0] = true ∧ bondInUse framed 5 = false ∧ bondInUse (mirroring .paired true) 5 = true) ∧
    (startsAt framed 0x0804 ([5, 6, 0, 0, 1, 0] ++ List.replicate 102 0) = true ∧ startsAt framed 0x0804 ([5, 6, 0, 0, 8, 0] ++ List.replicate 102 0) = true) ∧
    (startsAt framed 0x0805 [5, 6, 0, 0, 7] = true ∧ startsAt framed 0x0805 [5, 6, 0, 0, 8] = true ∧ (framed.framer (.bond 6)).isSome = true) ∧
    (startsAt framed 0x0806 [5, 6, 0, 0, 1, 3, 1] = true ∧ startsAt framed 0x0806 [5, 6, 0, 0, 0, 3, 0] = true ∧ startsAt framed 0x0806 [5, 6, 0, 0, 2, 0, 0] = true) :=
  ⟨by decide +kernel, by decide +kernel, by decide +kernel, by decide +kernel, by decide +kernel, by decide +kernel, by decide +kernel, by decide +kernel, by decide +kernel, by decide +kernel, by decide +kernel, by decide +kernel, by decide +kernel, by decide +kernel⟩

/-- A body of MAP.TRIB.ADD on group 0 of carrier 0: kind, TPN, bond, rate. -/
def addBody (kind tpn bond rate nsl : Nat) : List Byte :=
  [0, 0, 0, 0, 0, 0, 0] ++ leBytes 1 kind ++ leBytes 2 tpn ++ leBytes 1 bond ++ [0] ++ leBytes 4 rate ++ leBytes 2 nsl ++ [0, 0]

/-- A FRAMER device with bonds 8 and 12 of 400G Ethernet passed through, bond 8 the source of bond 12. -/
def switched (cs : List Conn) : State :=
  onMap (fun m => { m with conns := cs })
    { up with dev := { up.dev with mode := some .framer },
              bonds := upd (upd up.bonds 8 fun b => { b with provisioned := true, iface := 0, k := 4, fec := 1 }) 12 fun b => { b with provisioned := true, iface := 0, k := 4, fec := 1 } }
def port (b : Nat) : SwUnit := { kind := 0, bond := b, tpn := 0 }
def aConn (src : Option SwUnit) (next : Option (Option SwUnit)) : Conn := { dst := port 12, src := src, next := next, ais := false }

/-- Bodies of SWITCH.CONNECT and SWITCH.DISCONNECT. -/
def connBody (a b d : Nat) : List Byte := [0, 0, 0, 0, 0] ++ leBytes 1 a ++ [0, 0, 0] ++ leBytes 1 b ++ [0, 0] ++ leBytes 4 d

/-- A tributary added at the bounds of its fields and removed in each state; a connection made, changed and removed; a
frame boundary and a read due; a rate that follows, holds and returns. -/
theorem meets_MappingAndSwitch :
    (startsAt framed 0x0901 (addBody 0 1 5 0 0) (List.replicate 4 0) = true ∧ startsAt framed 0x0901 (addBody 0 641 5 0 0) (List.replicate 4 0) = true ∧ tribFieldBad (req (addBody 0 641 5 0 0) (List.replicate 4 0)) framed = some 8 ∧ tribFieldBad (req (addBody 0 640 5 0 0) (List.replicate 4 0)) framed = none ∧ tribFieldBad (req (addBody 2 1 6 4999999 0) (List.replicate 4 0)) framed ≠ none) ∧
    (containerRuns up 0 0 0 = false ∧ containerRuns (sends) 0 0 0 = true ∧ clientSlots 201624860 = 39 ∧ tribRate 0 framed.bonds[5] 0 = 201624860) ∧
    (startsAt (mirroring .paired true) 0x0902 [0, 0, 0, 0, 0, 0, 0, 0, 5, 0] = true ∧ ((mirroring .paired true).map.tribs.find? fun t => t.isId 0 0 0 5).isSome = true ∧ startsAt up 0x0902 [0, 0, 0, 0, 0, 0, 0, 0, 5, 0] = true) ∧
    (startsAt (switched []) 0x0910 (connBody 8 12 0) = true ∧ startsAt (switched []) 0x0910 (connBody 9 12 0) = true ∧ startsAt (switched []) 0x0910 (connBody 8 12 3999) = true ∧ (switched []).dev.mode = some .framer) ∧
    ((port 8).carries (switched []) = (port 12).carries (switched []) ∧ ((port 8).carries (switched [])).isSome = true ∧ (port 9).carries (switched []) = none) ∧
    (startsAt (switched [aConn (some (port 8)) none]) 0x0911 [0, 0, 0, 0, 0, 12, 0, 0] = true ∧ ((switched [aConn (some (port 8)) none]).map.conns.find? fun c => c.dst == port 12) = some (aConn (some (port 8)) none) ∧ startsAt (switched []) 0x0911 [0, 0, 0, 0, 0, 12, 0, 0] = true) ∧
    ((aConn none (some (some (port 8)))).next = some (some (port 8)) ∧ (aConn none (some none)).next = some none ∧ (aConn none none).src = none) ∧
    ((let s := onStk (fun k => { k with regions := [{ r := 3, pages := [0] }] }) (timed (fun t => { t with tod := 100000000000 * todUnit }) (switched [aConn (some (port 8)) none])); s.stk.codeAt (pageOf 0) = 3 ∧ ¬s.tod16 < 0 + s.map.delay * 65536) ∧ up.stk.codeAt (pageOf 0) ≠ 3) ∧
    (rateFollowing framed.bonds[6] = true ∧ rateFollowing framed.bonds[5] = false ∧ followsSource (switched [aConn (some (port 8)) none]) 12 = true ∧ followsSource (switched []) 12 = false ∧ max (-120000000) (min 120000000 200000000) = (120000000 : Int)) :=
  ⟨by decide +kernel, by decide +kernel, by decide +kernel, by decide +kernel, by decide +kernel, by decide +kernel, by decide +kernel, by decide +kernel, by decide +kernel⟩

/-- The slots of R207's table. -/
theorem test_lineSlots : [201624860, 403249720, 806499440, 1612998880, 104794445].map lineSlots = [41, 82, 163, 325, 22] := by
  decide +kernel

/-- Bytes of zero. -/
def z (n : Nat) : List Byte := List.replicate n 0

/-- The check takes the largest request and refuses a longer payload, longer bulk data, and bulk data without a slot. -/
theorem test_wf_requests :
    (Instr.wf (.deviceInfo (req (z 224) (z 4096))) = true ∧ Instr.wf (.deviceInfo (req (z 225))) = false ∧ Instr.wf (.deviceInfo (req [] (z 4097))) = false ∧ Instr.wf (.deviceInfo { req [] [1] with slot := none }) = false ∧ Instr.wf (.deviceInfo { req [] with slot := none }) = true) ∧
    (Instr.wf (.readingForm 0x0B90 (req [])) = true ∧ Instr.wf (.readingForm 0x0B10 (req [])) = false ∧ Instr.wf (.readingForm 0x10080 (req [])) = false) :=
  ⟨by decide +kernel, by decide +kernel⟩

/-- Containers, switch units and frames that do not exist, and lists that name an object twice. -/
theorem test_wf_identities :
    (Instr.wf (.multiframeBoundary 0 1 15 []) = true ∧ Instr.wf (.multiframeBoundary 0 2 0 []) = false ∧ Instr.wf (.multiframeBoundary 0 0 16 []) = false ∧ Instr.wf (.multiframeBoundary 1 47 0 []) = true ∧ Instr.wf (.multiframeBoundary 1 48 0 []) = false ∧ Instr.wf (.multiframeBoundary 1 0 1 []) = false ∧ Instr.wf (.multiframeBoundary 2 0 0 []) = false ∧ Instr.wf (.multiframeBoundary 0 0 0 [(1, 0, 0), (1, 2, 2)]) = false) ∧
    (Instr.wf (.switchFrameBoundary 1 47 640) = true ∧ Instr.wf (.switchFrameBoundary 1 47 641) = false ∧ Instr.wf (.switchFrameBoundary 1 47 0) = false ∧ Instr.wf (.switchFrameBoundary 0 48 0) = false ∧ Instr.wf (.switchFrameBoundary 0 0 1) = false ∧ Instr.wf (.switchReadDue 2 0 0 0 0 0) = false) ∧
    (Instr.wf (.pmSecondDecide (.trib 0 0 0 640)) = true ∧ Instr.wf (.pmSecondDecide (.trib 0 0 0 641)) = false ∧ Instr.wf (.pmSecondClose (.trib 0 2 0 1) 0 {}) = false ∧ Instr.wf (.defectPersistenceEnd (.trib 0 0 0 0) .lof true) = false) ∧
    (Instr.wf (.otnFrameReceived (.bond 0) 0 { mfas := 255 }) = true ∧ Instr.wf (.otnFrameReceived (.bond 0) 0 { mfas := 256 }) = false ∧ Instr.wf (.otnFrameReceived (.bond 0) 0 { layers := List.replicate 9 {} }) = false) ∧
    (Instr.wf (.evtStatusWrite .spi 0 0 [(1, 0, evtArg 0 0 0 0), (1, 0, evtArg 0 0 0 0)]) = false ∧ Instr.wf (.faultWindowEnd 0 0 [{ slice := 1, mean := 0, level := 0 }, { slice := 1, mean := 0, level := 0 }]) = false ∧ Instr.wf (.refMeasurement [(1, 0), (1, 0)] 0) = false ∧ Instr.wf (.alignmentPrediction 0 0 [aCheck 3, aCheck 3]) = false) ∧
    (Instr.wf (.rxVolumeBoundary 0 0 { delays := [(1, 0, 0), (1, 0, 0)] }) = false ∧ Instr.wf (.rxVolumeBoundary 0 0 { clipped := 2, samples := 1 }) = false ∧ (let q : SubQuality := { snrX := 0, snrY := 0, gmi := 0, dgd := 0, pdl := 0, rot := 0 }; Instr.wf (.qualityWindowEnd 0 0 [(1, q), (1, q)]) = false)) :=
  ⟨by decide +kernel, by decide +kernel, by decide +kernel, by decide +kernel, by decide +kernel, by decide +kernel⟩

/-- Fields that are longer or shorter than their format, and values out of it. -/
theorem test_wf_lengths :
    (Instr.wf (.loadingFieldReceived 0 0 (z 112)) = true ∧ Instr.wf (.loadingFieldReceived 0 0 (z 111)) = false ∧ Instr.wf (.folioHeaderReceived 0 0 (z 15)) = false ∧ Instr.wf (.keyFieldReceived 0 0 (z 27)) = false ∧ Instr.wf (.srFieldReceived 0 0 (z 5)) = false ∧ Instr.wf (.colophonRecordReceived 0 0 (z 17)) = false) ∧
    (Instr.wf (.headerCrcReady 0 0 (z 31) false 0) = false ∧ Instr.wf (.payloadCrcReady 0 0 (z 3) false 0) = false ∧ Instr.wf (.payloadCrcReady 0 0 (z 2053) false 0) = false ∧ Instr.wf (.mateTrainingFrame 32 (z 21)) = false ∧ Instr.wf (.mateBlockReceived (z 263)) = false ∧ Instr.wf (.mirrorItemApply 0 0 0 256 false (z 256) false) = false ∧ Instr.wf (.mirrorItemApply 0 0 0 0 false (z 255) false) = false) ∧
    (Instr.wf (.chuteWrite 0 (2 ^ 1024) 0 0 0) = false ∧ Instr.wf (.chuteWrite 0 0 3 0 0) = false ∧ Instr.wf (.stacksWholeWrite 0 (z 63) 0 0 false false false) = false ∧ Instr.wf (.stacksWholeWrite 0 (z 64) 256 0 false false false) = false ∧ Instr.wf (.stacksWholeWrite 0 (z 64) 0 8 false false false) = false) ∧
    (Instr.wf (.narrowWrite 0 0 []) = false ∧ Instr.wf (.narrowWrite 0 63 (z 2)) = false ∧ Instr.wf (.narrowWrite 0 63 (z 1)) = true ∧ Instr.wf (.apertureRead 67108863 2) = false ∧ Instr.wf (.apertureRead 67108863 1) = true ∧ Instr.wf (.apertureWrite 0 (z 4097)) = false ∧ Instr.wf (.spiWrite 0 (z 3)) = false ∧ Instr.wf (.spiQwrite 0 (z 5)) = false) ∧
    (Instr.wf (.folioArrival 0 0 104858 [] []) = false ∧ Instr.wf (.txFolioBoundary 0 0 104858 none) = false ∧ Instr.wf (.txFolioBoundary 0 0 0 (some [[2 ^ 31]])) = false ∧ Instr.wf (.txVolumeBoundary 0 0 [0, 0, 0] 1) = false ∧ Instr.wf (.txVolumeBoundary 0 0 [2, 0, 0, 0] 1) = false ∧ Instr.wf (.slotBoundaryTx 0 (2 ^ 18)) = false) ∧
    (Instr.wf (.toneDetection 0 0 0 [] 0) = false ∧ Instr.wf (.toneDetection 0 0 0 (List.replicate 65 65537) 0) = false ∧ Instr.wf (.preambleEnd 0 0 32769 0 false) = false ∧ Instr.wf (.clockLock 0 0 102401) = false ∧ Instr.wf (.clockLock 0 0 (-102400)) = true ∧ Instr.wf (.cdSearchEnd 0 (List.replicate 402 0) []) = false ∧ Instr.wf (.decodeIterationEnd 0 0 (some [])) = false) ∧
    (Instr.wf (.ptpIngress 5 0 syncMsg) = true ∧ Instr.wf (.ptpIngress 5 0 { syncMsg with mtype := 16 }) = false ∧ Instr.wf (.ptpEgress 5 0 { syncMsg with correction := 2 ^ 64 }) = false ∧ Instr.wf (.ptpEgress 5 0 { syncMsg with carry := .ether 65536 }) = false ∧ Instr.wf (.soakEnd []) = false ∧ Instr.wf (.processMonitorPeriod []) = false ∧ Instr.wf (.sensorReading []) = false) ∧
    (Instr.wf (.measurementRunEnd 0 4 0 { aRun with sel := 3 }) = false ∧ Instr.wf (.shadowAgree 0 4 3) = false ∧ Instr.wf (.emergencyAlignComplete 0 4 0 3) = false ∧ Instr.wf (.frontEndDone 0 { skew := 10 ^ 9 } {}) = false) :=
  ⟨by decide +kernel, by decide +kernel, by decide +kernel, by decide +kernel, by decide +kernel, by decide +kernel, by decide +kernel, by decide +kernel⟩

/-- A boot flash with a range longer than its place in the map is refused. -/
theorem test_wf_flash : Instr.wf (.resetNRelease (some {})) = true ∧ Instr.wf (.resetNRelease none) = true ∧
    (∀ f : Flash, 0x10000 < f.sel0.length → Instr.wf (.resetNRelease (some f)) = false) ∧
    (∀ f : Flash, 0x400000 < f.imgB.length → Instr.wf (.resetNRelease (some f)) = false) := by
  refine ⟨by decide +kernel, by decide +kernel, fun f h => ?_, fun f h => ?_⟩ <;> simp [Instr.wf, Flash.wf, Nat.not_le.mpr h]

/-- An object of a shape (R332). -/
def objOf : Shape → List Byte
  | .device => [0, 0, 0, 0]
  | .carrier => [1, 0, 0xFF, 0]
  | .group => [1, 0, 0, 0]
  | .convAll => [2, 0, 0xFF, 0xFF]
  | .conv => [2, 0, 0, 0xFF]
  | .slice => [2, 0, 0, 0]
  | .pool => [3, 0, 0xFF, 0]
  | .reader => [3, 0, 0, 0]
  | .lane => [4, 8, 0, 0]
  | .mateLane => [4, 32, 0, 0]
  | .bond => [5, 5, 0, 0]
  | .odum => [6, 0, 0, 1]
  | .prot => [7, 0, 0, 0]
  | .protIn => [7, 0, 0, 0]
  | .stacks => [8, 0, 0, 0]
  | .time => [9, 0, 0, 0]
  | .link => [10, 0, 0, 0]
  | .monitor => [11, 0, 5, 0]
  | .sensor => [11, 1, 0, 0]
  | .domain => [12, 0, 0, 0]
  | .mate => [13, 0, 0, 0]

/-- Every command of the tables of 14_command_reference.md runs on an object of each of its shapes. -/
theorem test_every_command_starts : (cmdTable.all fun c => c.shapes.all fun h => startsAt (guarded) c.op (objOf h ++ z 8) (z 4)) = true := by
  decide +kernel

/-- Worked example of R85 and the start table of R91: entries at E = 91 and E = 90, and the loading of a flat SNR. -/
theorem test_loading_words :
    (entryOf (autoFormat 91) 91 = 0xED80 ∧ entryOf (autoFormat 90) 90 = 0xED00 ∧ entryE 0xED80 = 91) ∧
    (candidateTable up 0 0 (List.replicate 16 2000) = List.replicate 9 0xED80 ++ List.replicate 7 0xED00) :=
  ⟨by decide +kernel, by decide +kernel⟩

/-- Worked figures of 06_interloan.md: a burst of 2,048 bytes, and the slots of bursts of 316, 1,852 and 2,048 bytes. -/
theorem test_burst_lengths : burstSymbols 2048 = 4424 ∧ burstSlots up 0 316 = 1 ∧ burstSlots up 0 317 = 2 ∧ burstSlots up 0 1852 = 4 ∧ burstSlots up 0 2048 = 5 := by
  decide +kernel

end Sys2Proof.Tests
end

section
/-! What the host's writes of a Desk channel's own registers do (13_curator_desk.md R308, R312, R317, R325, R329). -/

namespace Sys2Proof.Machine

variable {p : Path} {ch : Fin 4} {v : Word32} {s : State}

theorem exec_deskReqTailWrite : exec (.deskReqTailWrite p ch v) s = execDeskReqTailWrite p ch v s := rfl

theorem exec_deskRspHeadWrite : exec (.deskRspHeadWrite p ch v) s = execDeskRspHeadWrite p ch v s := rfl

theorem exec_deskChReset : exec (.deskChReset p ch v) s = execDeskChReset p ch v s := rfl

theorem exec_channelResetComplete : exec (.channelResetComplete ch) s = .next (channelResetComplete ch s) := rfl

/-- An update of one channel is confined to that channel of the Desk. -/
theorem onChan_deskOnly {f : Channel → Channel} : deskOnly s (onChan ch f s) := rfl

theorem onChan_otherChannels {f : Channel → Channel} : otherChannels ch s (onChan ch f s) := fun _ => onChan_other

theorem word16Write_small {f : Word16 → State → State} (h : v.toNat < 65536) :
    word16Write v f s = .next (f (BitVec.ofNat 16 v.toNat) s) := if_pos h

theorem word16Write_large {f : Word16 → State → State} (h : 65536 ≤ v.toNat) :
    word16Write v f s = .fault .reservedFieldWritten := if_neg (Nat.not_lt.2 h)

theorem doorbell_chan {x : Word16} : (doorbell ch x s).chan ch =
    if (((s.chan ch).reqTail - (s.chan ch).reqHead).toNat ≤ (x - (s.chan ch).reqHead).toNat ∧ (x - (s.chan ch).reqHead).toNat ≤ 64)
    then { s.chan ch with reqTail := x } else { s.chan ch with doorbellErr := true, badTail := x } := by
  simp [doorbell, onChan_same, doorbellOk]

/-- A slot stays in use unless its response lies before the new head: "not before" is "at or after". -/
theorem rspHead_chan {x : Word16} : (rspHead ch x s).chan ch =
    { s.chan ch with rspHead := x, slots := (s.chan ch).slots.filter fun u =>
      match u.unread with
      | some i => decide ((x - (s.chan ch).rspHead).toNat ≤ (i - (s.chan ch).rspHead).toNat)
      | none => true } := by
  rw [rspHead, onChan_same]
  congr 1
  refine List.filter_congr fun u _ => ?_
  cases u.unread with
  | none => rfl
  | some i => simp only [← decide_not, Nat.not_lt]

/-- Settles O15: both registers are one update of the channel, behind the same two checks. That a write whose Reserved half is
not 0 ends in a fault is the model's choice (log 94; R10 leaves the behaviour undefined). -/
theorem deskHostIndices : Obligations.DeskHostIndices := by
  intro p ch v s
  rw [exec_deskReqTailWrite, exec_deskRspHeadWrite]
  refine ⟨fun dead => ?_, fun live large => ?_, fun live small => ?_⟩
  · simp [execDeskReqTailWrite, execDeskRspHeadWrite, dead]
  · simp [execDeskReqTailWrite, execDeskRspHeadWrite, live, word16Write_large large]
  · simp only [execDeskReqTailWrite, execDeskRspHeadWrite, live, if_true, word16Write_small small]
    exact ⟨⟨_, rfl, onChan_deskOnly, onChan_otherChannels, doorbell_chan⟩,
      ⟨_, rfl, onChan_deskOnly, onChan_otherChannels, rspHead_chan⟩⟩

/-- A write of DESK_CH_CTRL is one update of its channel: the enable, and with RESET the beginning of the reset. -/
theorem chCtrl_eq : chCtrl ch v s = onChan ch (fun c => if v.getLsbD 0 then
      { c with irqEn := v.getLsbD 1, ready := false, resetting := true, outst := c.outst.filter fun o => o.phase == .started, done := [] }
    else { c with irqEn := v.getLsbD 1 }) s := by
  unfold chCtrl channelReset
  split
  · simp [onChan, upd_upd]
  · rfl

theorem channelResetComplete_idle (h : (s.chan ch).resetting = false ∨ (s.chan ch).outst ≠ []) :
    channelResetComplete ch s = s := by
  refine if_neg fun e => ?_
  simp only [Bool.and_eq_true, List.isEmpty_iff] at e
  rcases h with h | h
  · simp [h] at e
  · exact h e.2

theorem channelResetComplete_ends (hr : (s.chan ch).resetting = true) (ho : (s.chan ch).outst = []) :
    channelResetComplete ch s = onChan ch (fun c => { c with
      reqTail := 0, reqHead := 0, rspTail := 0, rspHead := 0, seq := 0, done := [], slots := [], resetting := false, ready := true }) s :=
  if_pos (by simp [hr, ho])

/-- Settles O16: the write and the end of the reset are each one update of the channel. That a Reserved bit written 1 ends in a
fault (log 94) and that the reset discards responses completed and not yet written (log 93) are the model's choices. -/
theorem deskChannelReset : Obligations.DeskChannelReset := by
  intro p ch v s
  rw [exec_deskChReset, exec_channelResetComplete]
  refine ⟨fun dead => ?_, fun live large => ?_, fun live small => ?_, fun idle => ?_, fun resetting empty => ?_⟩
  · simp [execDeskChReset, dead]
  · simp [execDeskChReset, live, Nat.not_lt.2 large]
  · simp only [execDeskChReset, live, small, if_true, chCtrl_eq]
    refine ⟨_, rfl, onChan_deskOnly, onChan_otherChannels, ?_⟩
    rw [onChan_same]
    cases v.getLsbD 0 <;> simp
  · rw [channelResetComplete_idle idle]
  · rw [channelResetComplete_ends resetting empty]
    refine ⟨_, rfl, onChan_deskOnly, onChan_otherChannels, ?_⟩
    simp [onChan_same, Channel.outstanding, empty]

end Sys2Proof.Machine
end

section
/-! The registers (00_scope.md R8 to R10, R308; 21_pins_electrical.md R505): little-endian words, the parts of the map, and what a
write of each part does. -/

namespace Sys2Proof.Machine

/-! ### Little-endian words -/

theorem leBytes_length (k n : Nat) : (leBytes k n).length = k := by
  induction k generalizing n with
  | zero => rfl
  | succ k ih => simp [leBytes, ih]

theorem leNat_leBytes (k n : Nat) : leNat (leBytes k n) = n % 256 ^ k := by
  induction k generalizing n with
  | zero => simp [leBytes, leNat, Nat.mod_one]
  | succ k ih => simp [leBytes, leNat, ih, Nat.pow_succ', Nat.mod_mul]

theorem leNat_leBytes_word (v : Word32) : leNat (leBytes 4 v.toNat) = v.toNat := by
  rw [leNat_leBytes]
  exact Nat.mod_eq_of_lt (by have := v.isLt; omega)

/-- The first word of a byte string that begins with one. -/
theorem natAt_leBytes_append (v : Word32) (l : List Byte) : natAt (leBytes 4 v.toNat ++ l) 0 4 = v.toNat := by
  have len := leBytes_length 4 v.toNat
  have first : bytesAt (leBytes 4 v.toNat ++ l) 0 4 = leBytes 4 v.toNat := by
    simp [bytesAt, len]
  rw [natAt, first, leNat_leBytes_word]

theorem drop_leBytes_append (n : Nat) (l : List Byte) : (leBytes 4 n ++ l).drop 4 = l :=
  List.drop_left' (leBytes_length 4 n)

/-! ### The parts of the map -/

variable {p : Path} {off : Nat} {v : Word32} {s : State} {c : Fin 4}

theorem exec_registerWrite (w : Fin 262144) : exec (.registerWrite p w v) s = regWrite p (4 * w.val) v s := rfl

theorem blockChan_none (h : off < 0x2100 ∨ 0x2500 ≤ off) : blockChan off = none := dif_neg (by omega)

theorem windowChan_none (h : off < 0x40000 ∨ 0xE0000 ≤ off) : windowChan off = none := dif_neg (by omega)

/-- The window of channel `c` is the `c`-th of the four stretches of 0x28000 bytes from 0x40000 (R308). -/
theorem windowChan_some (h : windowChan off = some c) : 0x40000 + 0x28000 * c.val ≤ off ∧ off < 0x40000 + 0x28000 * (c.val + 1) := by
  unfold windowChan at h
  split at h
  · simp only [Option.some.injEq] at h
    have := congrArg Fin.val h
    simp only at this
    omega
  · cases h

/-- Windows lie above every channel's block. -/
theorem blockChan_none_of_window (h : windowChan off = some c) : blockChan off = none :=
  blockChan_none (.inr (by have := windowChan_some h; omega))

theorem regWrite_dead (h : regLive s p off = false) : regWrite p off v s = .next s := by
  simp [regWrite, h]

theorem regWrite_reserved (live : regLive s p off = true) (h : Nat.land v.toNat (regReserved off) ≠ 0) :
    regWrite p off v s = .fault .reservedFieldWritten := by
  rw [regWrite, live, if_neg (by simp), if_pos h]

section

variable (live : regLive s p off = true) (clean : Nat.land v.toNat (regReserved off) = 0)
include live clean

theorem regWrite_block (h : blockChan off = some c) : regWrite p off v s = blockWrite p c (off % 0x100) v s := by
  rw [regWrite, live, clean]
  simp [h]

theorem regWrite_window (h : windowChan off = some c) : regWrite p off v s = .next (windowWrite c off v s) := by
  rw [regWrite, live, clean]
  simp [h, blockChan_none_of_window h]

/-- A register outside the channels' blocks and windows, by the part of the map that it lies in. -/
theorem regWrite_device (h : off < 0x2100 ∨ 0x2500 ≤ off ∧ off < 0x40000) : regWrite p off v s =
    if off = 0x18 then execBootResetWrite p v s
    else if off < 0x3000 then .next s
    else if off < 0x3500 then evtWrite p off v s
    else if off < 0x5000 then .next (censusWrite off v s)
    else if off < 0x6000 then .next (msixWrite off v s)
    else .next (apWrite off v s) := by
  rw [regWrite, live, clean]
  simp [blockChan_none (show off < 0x2100 ∨ 0x2500 ≤ off by omega),
    windowChan_none (show off < 0x40000 ∨ 0xE0000 ≤ off by omega)]

theorem regWrite_event (lo : 0x3000 ≤ off) (hi : off < 0x3500) : regWrite p off v s = evtWrite p off v s := by
  rw [regWrite_device live clean (by omega), if_neg (by omega), if_neg (by omega), if_pos hi]

theorem regWrite_aperture (lo : 0x6000 ≤ off) (hi : off < 0x40000) : regWrite p off v s = .next (apWrite off v s) := by
  rw [regWrite_device live clean (by omega), if_neg (by omega), if_neg (by omega), if_neg (by omega), if_neg (by omega), if_neg (by omega)]

theorem regWrite_bootReset (h : off = 0x18) : regWrite p off v s = execBootResetWrite p v s := by
  rw [regWrite_device live clean (by omega), if_pos h]

/-- A write to a read-only register of the device changes nothing (R9). -/
theorem regWrite_readOnly (h : off < 0x18 ∨ off = 0x2000 ∨ off = 0x3000 ∨ off = 0x3004 ∨ off = 0x5800 ∨ off = 0x600C) :
    regWrite p off v s = .next s := by
  rcases h with low | rfl | rfl | rfl | rfl | rfl
  · rw [regWrite_device live clean (by omega), if_neg (by omega), if_pos (by omega)]
  · exact (regWrite_device live clean (by omega)).trans rfl
  · exact (regWrite_event live clean (by omega) (by omega)).trans rfl
  · exact (regWrite_event live clean (by omega) (by omega)).trans rfl
  · exact (regWrite_device live clean (by omega)).trans rfl
  · exact (regWrite_aperture live clean (by omega) (by omega)).trans rfl

end

/-! ### A channel's block -/

theorem chStatusWrite_clean (h : Nat.land v.toNat 0xFFC0FFF0 = 0) : chStatusWrite c v s = .next (onChan c (fun x => { x with
    denied := x.denied && !v.getLsbD 3, entryErr := x.entryErr && !v.getLsbD 2, doorbellErr := x.doorbellErr && !v.getLsbD 1 }) s) :=
  if_neg (not_not_intro h)

/-- The Reserved bits of DESK_CH_STATUS (R329). -/
theorem regReserved_chStatus (h : blockChan off = some c) (hr : off % 256 = 0x14) : regReserved off = 0xFFC0FFF0 := by
  simp [regReserved, h, hr]

theorem blockWrite_readOnly {r : Nat} (h0 : r ≠ 0x00) (hC : r ≠ 0x0C) (h10 : r ≠ 0x10) (h14 : r ≠ 0x14) :
    blockWrite p c r v s = .next s := by
  simp [blockWrite, h0, hC, h10, h14]

/-! ### A channel's window -/

theorem windowWrite_chan : (windowWrite c off v s).chan c =
    { s.chan c with win := cellPutList (some 0) (off - 0x40000 - 0x28000 * c.val) (leBytes 4 v.toNat) (s.chan c).win } := onChan_same

/-- A write into a window opens and closes no register. -/
theorem windowWrite_regLive {off2 : Nat} : regLive (windowWrite c off v s) p off2 = regLive s p off2 := rfl

theorem regRead_window (h : windowChan off = some c) : regRead p off s =
    if regLive s p off then leNat (cellGetList (off - 0x40000 - 0x28000 * c.val) 4 (s.chan c).win) else 0 := by
  cases e : regLive s p off <;> simp [regRead, e, h, blockChan_none_of_window h]

theorem sound_window_rising (h : s.desk.Sound) (c : Fin 4) : Rising (s.chan c).win :=
  (cellsOk_iff.1 (channel_iff.1 (h c)).2).1

theorem regRead_windowWrite_same (live : regLive s p off = true) (sound : s.desk.Sound) (h : windowChan off = some c) :
    regRead p off (windowWrite c off v s) = v.toNat := by
  rw [regRead_window h, windowWrite_regLive, live, windowWrite_chan, if_pos rfl,
    getList_put_same (sound_window_rising sound c) (leBytes_length 4 _), leNat_leBytes_word]

/-- Another word of the windows keeps its value: it lies in another channel, or at another address of the same one. -/
theorem regRead_windowWrite_other {off2 : Nat} {c2 : Fin 4} (sound : s.desk.Sound) (h : windowChan off = some c) (a : off % 4 = 0)
    (h2 : windowChan off2 = some c2) (a2 : off2 % 4 = 0) (ne : off2 ≠ off) :
    regRead p off2 (windowWrite c off v s) = regRead p off2 s := by
  rw [regRead_window h2, regRead_window h2, windowWrite_regLive]
  by_cases e : c2 = c
  · subst e
    have in1 := windowChan_some h
    have in2 := windowChan_some h2
    rw [windowWrite_chan, getList_put_other (sound_window_rising sound c2) (by rw [leBytes_length]; omega)]
  · rw [show (windowWrite c off v s).chan c2 = s.chan c2 from onChan_other e]

/-! ### The event registers -/

theorem evtWrite_ctrl : evtWrite p 0x3008 v s = .next { s with evt := { s.evt with irq0En := v.getLsbD 0, irq1En := v.getLsbD 1 } } := rfl

/-- The registers of event group `g` stand 0x40 bytes apart from 0x3100 on; `r` is the register's place in its group. -/
theorem evtWrite_group (g : Fin 16) {r : Nat} (hr : r < 0x40) : evtWrite p (0x3100 + 0x40 * g.val + r) v s =
    if r = 0x00 then execEvtStatusWrite p g v [] s
    else if r = 0x04 then execEvtEnWrite p g v s
    else if r = 0x08 then execEvtForceWrite p g v s
    else if 0x10 ≤ r ∧ r < 0x30 then .next { s with evt := s.evt.writeRoute g.val ((r - 0x10) / 4) v }
    else .next s := by
  have hg : (0x3100 + 0x40 * g.val + r - 0x3100) / 0x40 = g.val := by omega
  have hm : (0x3100 + 0x40 * g.val + r) % 0x40 = r := by omega
  rw [evtWrite, if_neg (by omega), dif_pos (by omega)]
  simp only [hg, hm, Fin.eta]

/-- Settles O42: the write goes to the part of the map that holds its offset. That a Reserved bit written 1 ends in a fault is
the model's choice (log 94; R10 leaves the behaviour undefined). -/
theorem registerWrites : Obligations.RegisterWrites := by
  intro p w v s off good
  rw [exec_registerWrite]
  refine ⟨regWrite_dead, regWrite_reserved, ?_, ?_, ?_, ?_, ?_, ?_, ?_, ?_, ?_⟩
  · rintro ⟨live, clean⟩ c hc
    rw [regWrite_block live clean hc]
    refine ⟨fun e => ?_, fun e => ?_, fun e => ?_, fun e => ?_, blockWrite_readOnly⟩
    · rw [e]; rfl
    · rw [e]; rfl
    · rw [e]; rfl
    · rw [regReserved_chStatus hc e] at clean
      rw [e]
      exact chStatusWrite_clean clean
  · rintro ⟨live, clean⟩ sound c hc
    refine ⟨_, regWrite_window live clean hc, onChan_deskOnly, onChan_otherChannels, ?_, regRead_windowWrite_same live sound hc, ?_⟩
    · rw [windowWrite_chan]
    · exact fun off2 c2 a2 ne h2 => regRead_windowWrite_other sound hc (by omega) h2 a2 ne
  · rintro ⟨live, clean⟩ e
    exact regWrite_bootReset live clean e
  · rintro ⟨live, clean⟩ e
    exact regWrite_readOnly live clean e
  · rintro ⟨live, clean⟩ e
    rw [regWrite_event live clean (by omega) (by omega)]
    exact e ▸ evtWrite_ctrl
  · rintro ⟨live, clean⟩ g
    refine ⟨fun e => ?_, fun e => ?_, fun e => ?_⟩
    · rw [regWrite_event live clean (by omega) (by omega)]
      exact e ▸ evtWrite_group g (r := 0x00) (by decide)
    · rw [regWrite_event live clean (by omega) (by omega), e, show 0x3104 + 0x40 * g.val = 0x3100 + 0x40 * g.val + 0x04 by omega]
      exact evtWrite_group g (by decide)
    · rw [regWrite_event live clean (by omega) (by omega), e, show 0x3108 + 0x40 * g.val = 0x3100 + 0x40 * g.val + 0x08 by omega]
      exact evtWrite_group g (by decide)
  · rintro ⟨live, clean⟩ e small
    rw [regWrite_aperture live clean (by omega) (by omega)]
    simp [apWrite, e, Nat.mod_eq_of_lt small]
  · rintro ⟨live, clean⟩ e
    rw [regWrite_aperture live clean (by omega) (by omega)]
    simp [apWrite, e]
  · rintro ⟨live, clean⟩ e
    rw [regWrite_aperture live clean (by omega) (by omega)]
    simp [apWrite, e]

end Sys2Proof.Machine
end

section
/-! SPI frames (21_pins_electrical.md R505, R507). -/

namespace Sys2Proof.Machine

variable {a : BitVec 24} {data : List Byte} {n : Nat} {s : State}

theorem exec_spiWrite : exec (.spiWrite a data) s = spiWrite a data s := rfl

theorem exec_spiQwrite : exec (.spiQwrite a data) s = exec (.spiWrite a data) s := rfl

theorem exec_spiRead : exec (.spiRead a n) s = .next (spiRead a n s) := rfl

theorem exec_spiQread : exec (.spiQread a n) s = exec (.spiRead a n) s := rfl

theorem exec_spiStatus : exec .spiStatus s = .next (if coreUp s then
    spiEnd false (leBytes 1 (b2n s.desk.ready + 2 * b2n s.desk.restarting + 4 * b2n s.pins.frameErr)) s else s) := rfl

theorem exec_spiBadFrame : exec .spiBadFrame s = .next (if coreUp s then spiEnd true [] s else s) := rfl

theorem mul_b2n (k : Nat) (b : Bool) : k * b2n b = if b then k else 0 := by cases b <;> simp [b2n]

theorem spiWrite_down (h : coreUp s = false) : spiWrite a data s = .next s := by simp [spiWrite, h]

theorem spiRead_down (h : coreUp s = false) : spiRead a n s = s := by simp [spiRead, h]

theorem spiAddrOk_false (h : a.toNat % 4 ≠ 0 ∨ 2 ^ 20 ≤ a.toNat) : spiAddrOk a = false := by
  simp only [spiAddrOk, Bool.and_eq_false_iff, beq_eq_false_iff_ne, decide_eq_false_iff_not]
  omega

theorem spiWrite_badAddress (up : coreUp s = true) (h : spiAddrOk a = false) : spiWrite a data s = .next (spiEnd true [] s) := by
  simp [spiWrite, up, h]

theorem spiRead_badAddress (up : coreUp s = true) (h : spiAddrOk a = false) : spiRead a n s = spiEnd true [] s := by
  simp [spiRead, up, h]

/-! Frames at the address of word `w` of the map. -/

theorem wordAddress_toNat (w : Fin 262144) : (BitVec.ofNat 24 (4 * w.val)).toNat = 4 * w.val := by
  rw [BitVec.toNat_ofNat]
  exact Nat.mod_eq_of_lt (by omega)

theorem spiAddrOk_word (w : Fin 262144) : spiAddrOk (BitVec.ofNat 24 (4 * w.val)) = true := by
  simp only [spiAddrOk, wordAddress_toNat, Bool.and_eq_true, beq_iff_eq, decide_eq_true_eq]
  omega

/-- A first word is written; the words after it go on from the state that it leaves. -/
theorem spiWords_next {k off : Nat} {v : Word32} {l : List Byte} {t : State} (h : regWrite .spi off v s = .next t) :
    spiWords (k + 1) off (leBytes 4 v.toNat ++ l) s = spiWords k (off + 4) l t := by
  rw [spiWords, natAt_leBytes_append, BitVec.ofNat_toNat, BitVec.setWidth_eq, h, drop_leBytes_append]

theorem spiWords_fault {k off : Nat} {v : Word32} {l : List Byte} {f : Fault} (h : regWrite .spi off v s = .fault f) :
    spiWords (k + 1) off (leBytes 4 v.toNat ++ l) s = .fault f := by
  rw [spiWords, natAt_leBytes_append, BitVec.ofNat_toNat, BitVec.setWidth_eq, h]

section

variable {w : Fin 262144} (up : coreUp s = true)
include up

/-- A frame that performs its whole words ends with what is left of its last word discarded. -/
theorem spiWrite_next {t : State} (h : spiWords (data.length / 4) (4 * w.val) data s = .next t) :
    spiWrite (BitVec.ofNat 24 (4 * w.val)) data s = .next (spiEnd (data.length % 4 != 0) [] t) := by
  rw [spiWrite, up, spiAddrOk_word, wordAddress_toNat, h]
  rfl

theorem spiWrite_fault {f : Fault} (h : spiWords (data.length / 4) (4 * w.val) data s = .fault f) :
    spiWrite (BitVec.ofNat 24 (4 * w.val)) data s = .fault f := by
  rw [spiWrite, up, spiAddrOk_word, wordAddress_toNat, h]
  rfl

/-- A frame of at most one word reads one register, cut where the frame ends. -/
theorem spiRead_word (h : n ≤ 4) : spiRead (BitVec.ofNat 24 (4 * w.val)) n s =
    spiEnd false ((leBytes 4 (regRead .spi (4 * w.val) s)).take n) s := by
  simp only [spiRead, up, spiAddrOk_word, wordAddress_toNat, Bool.not_true, Bool.false_eq_true, if_false]
  rcases Nat.eq_zero_or_pos n with rfl | pos
  · simp
  · have one : ceilDiv n 4 = 1 := by unfold ceilDiv; omega
    simp [one, List.range_one]

end

/-- The bytes that do not make a word are those of a frame that is not empty past its last word. -/
theorem leftover_bytes {rest : List Byte} (h : rest.length < 4) : (rest.length % 4 != 0) = decide (rest ≠ []) := by
  rw [Nat.mod_eq_of_lt h]
  cases rest <;> rfl

/-- Settles O43, by the number of whole words that a write frame carries. -/
theorem spiFrames : Obligations.SpiFrames := by
  refine ⟨fun a data n s down => ?_, fun a data n s => ⟨exec_spiQwrite, exec_spiQread⟩, fun s up => ?_, fun a data n s up bad => ?_,
    fun w s up => ?_⟩
  · simp [exec_spiWrite, exec_spiRead, exec_spiStatus, exec_spiBadFrame, spiWrite_down down, spiRead_down down, down]
  · rw [exec_spiStatus, exec_spiBadFrame, if_pos up, if_pos up]
    refine ⟨?_, rfl⟩
    simp only [spiEnd, leBytes, mul_b2n]
    rfl
  · rw [exec_spiWrite, exec_spiRead, spiWrite_badAddress up (spiAddrOk_false bad), spiRead_badAddress up (spiAddrOk_false bad)]
    exact ⟨rfl, rfl⟩
  · simp only [exec_spiWrite, exec_spiRead, exec_registerWrite]
    refine ⟨fun data short => ?_, fun v rest t short first => ?_, fun v w2 v2 t u next first second => ?_, fun v rest f first => ?_,
      fun n short => ?_⟩
    · rw [spiWrite_next up (t := s) (by rw [Nat.div_eq_of_lt short]; rfl), leftover_bytes short]
      rfl
    · have len : (leBytes 4 v.toNat ++ rest).length = 4 + rest.length := by rw [List.length_append, leBytes_length]
      have words : (leBytes 4 v.toNat ++ rest).length / 4 = 0 + 1 := by omega
      have left : (leBytes 4 v.toNat ++ rest).length % 4 = rest.length % 4 := by omega
      rw [spiWrite_next up (by rw [words, spiWords_next first]; rfl), left, leftover_bytes short]
      rfl
    · have len : (leBytes 4 v.toNat ++ leBytes 4 v2.toNat).length = 4 + 4 := by rw [List.length_append, leBytes_length, leBytes_length]
      have last := spiWords_next (k := 0) (l := []) second
      rw [List.append_nil, next, Nat.mul_add] at last
      rw [spiWrite_next up (by rw [len, spiWords_next first]; exact last), len]
      rfl
    · have words : (leBytes 4 v.toNat ++ rest).length / 4 = rest.length / 4 + 1 := by
        rw [List.length_append, leBytes_length]; omega
      exact spiWrite_fault up (by rw [words, spiWords_fault first])
    · rw [spiRead_word up short]
      rfl

end Sys2Proof.Machine
end

section
/-! The device commands and the reading forms (14_command_reference.md R336, R338 to R340). -/

namespace Sys2Proof.Machine

variable {q : Request} {s t : State} {m : Mode}

theorem exec_deviceInfo : exec (.deviceInfo q) s = .next (deskRun 0x0101 deviceInfo q s) := rfl

theorem exec_deviceProvision : exec (.deviceProvision q) s = .next (deskRun 0x0102 deviceProvision q s) := rfl

theorem exec_readingForm {op : Nat} : exec (.readingForm op q) s = .next (deskRun op (readForm op) q s) := rfl

/-! ### DEVICE.INFO -/

/-- The payload of DEVICE.INFO (R339), field by field. -/
def infoPayload (s : State) : List Byte :=
  ([0x41, 0x45, 0x54, 0x2D, 0x36, 0x34, 0x34, 0x38] : List Byte) ++ [BitVec.ofNat 8 orderCode] ++ ([0x42, 0x31, 0x00] : List Byte) ++
    leBytes 4 s.boot.fw ++ leBytes 8 Config.serial.toNat ++ leBytes 1 (match s.dev.mode with | some m => m.code | none => 0xFF) ++
    leBytes 1 s.mate.role ++ leBytes 1 (if s.stk.initialised then 1 else 0) ++ leBytes 1 (if s.dev.imageB then 1 else 0) ++
    leBytes 4 (s.dev.ticks / 625000000)

theorem deviceInfo_eq : deviceInfo q s = (s, ok (infoPayload s)) := by
  cases mode : s.dev.mode <;> simp [deviceInfo, infoPayload, mode, leBytes, b2n]

/-! ### DEVICE.PROVISION -/

/-- Every number up to 5 is the code of a mode (R338), and no other is. -/
theorem modeOf_code {n : Nat} (h : n ≤ 5) : ∃ m, modeOf n = some m ∧ m.code = n := by
  match n with
  | 0 | 1 | 2 | 3 | 4 | 5 => exact ⟨_, rfl, rfl⟩
  | n + 6 => omega

theorem modeOf_none {n : Nat} (h : 5 < n) : modeOf n = none := List.getElem?_eq_none h

theorem code_framer : m.code = 5 ↔ m = .framer := by cases m <;> decide

theorem code_regenerator : m.code = 2 ↔ m = .regenerator := by cases m <;> decide

theorem deviceProvision_badMode (h : modeOf (u8 q 4) = none) : deviceProvision q s = (s, badParam 4) := by
  simp [deviceProvision, h]

theorem deviceProvision_badState (hm : modeOf (u8 q 4) = some m) (h : stillProvisioned s = true) :
    deviceProvision q s = (s, refuse stBadState) := by
  simp [deviceProvision, hm, h]

/-- One region of a mode after those allocated before it. -/
def allocNext (x : Except Nat State) (r : Nat × Nat) : Except Nat State :=
  match x with
  | .ok s => allocRegion r.1 r.2 s
  | .error e => .error e

/-- The regions of the former mode freed (R340). -/
def regionsFreed (s : State) : State := freeRegion 3 (freeRegion 2 (freeRegion 1 s))

/-- The mode put in force over the regions of the new mode, with the body that asked for it. -/
def modeSet (m : Mode) (q : Request) (s : State) : State :=
  keepBody 0x0102 q (assignSubs 1 (assignSubs 0 { s with dev := { s.dev with mode := some m } }))

theorem deviceProvision_allocated (hm : modeOf (u8 q 4) = some m) (hs : stillProvisioned s = false)
    (ha : (modeRegions m s).foldl allocNext (.ok (regionsFreed s)) = .ok t) :
    deviceProvision q s = (pmSync (framerDown m (modeSet m q t)), ok) := by
  have unfolded : deviceProvision q s = match (modeRegions m s).foldl allocNext (.ok (regionsFreed s)) with
      | .error e => (s, refuse e)
      | .ok s1 => (pmSync (framerDown m (modeSet m q s1)), ok) := by
    simp only [deviceProvision, hm, hs]
    rfl
  rw [unfolded, ha]

/-! What the parts of the command leave unchanged: a request for a domain's state touches neither the Stacks' regions, nor the
device, nor the bodies kept. -/

theorem Same.stacksToRun {α : Type} {e : State → α} (h : Same e s t) (b : Calm e := by exact {}) : Same e s (Machine.stacksToRun t) :=
  Same.foldl (fun _ _ hu => hu.requestDomain b) h

theorem Same.framerDown {α : Type} {e : State → α} (h : Same e s t) (b : Calm e := by exact {}) : Same e s (Machine.framerDown m t) := by
  unfold Machine.framerDown
  split
  · exact Same.foldl (fun _ _ hu => hu.requestDomain b) h
  · exact h

theorem Same.assignSubs {α : Type} {e : State → α} {c : Fin 2} (h : Same e s t)
    (he : ∀ c k f x, e (Machine.onSub c k f x) = e x := by intros; rfl) : Same e s (Machine.assignSubs c t) :=
  Same.foldl (fun _ _ hu => hu.onSub (he _ _ _)) h

@[simp] theorem stacksToRun_stk : (stacksToRun s).stk = s.stk := Same.stacksToRun (e := State.stk) .refl

@[simp] theorem stacksToRun_dev : (stacksToRun s).dev = s.dev := Same.stacksToRun (e := State.dev) .refl

@[simp] theorem framerDown_stk : (framerDown m s).stk = s.stk := Same.framerDown (e := State.stk) .refl

@[simp] theorem framerDown_dev : (framerDown m s).dev = s.dev := Same.framerDown (e := State.dev) .refl

@[simp] theorem framerDown_par : (framerDown m s).par = s.par := Same.framerDown (e := State.par) .refl

@[simp] theorem assignSubs_stk {c : Fin 2} : (assignSubs c s).stk = s.stk := Same.assignSubs (e := State.stk) .refl

@[simp] theorem assignSubs_dev {c : Fin 2} : (assignSubs c s).dev = s.dev := Same.assignSubs (e := State.dev) .refl

@[simp] theorem keepBody_stk {op : Nat} : (keepBody op q s).stk = s.stk := rfl

@[simp] theorem keepBody_dev {op : Nat} : (keepBody op q s).dev = s.dev := rfl

/-- A body kept is the one found for its command and object. -/
theorem bodyOf_keepBody {op : Nat} : bodyOf (keepBody op q s) op (objOf q) =
    some { op := op, obj := objOf q, body := q.body, bulk := q.bulk } := by
  simp [bodyOf, keepBody]

theorem bodyOf_framerDown {op ob : Nat} : bodyOf (framerDown m s) op ob = bodyOf s op ob := by
  rw [bodyOf, framerDown_par, bodyOf]

theorem modeSet_stk : (modeSet m q s).stk = s.stk := by
  rw [modeSet, keepBody_stk, assignSubs_stk, assignSubs_stk]

theorem modeSet_dev : (modeSet m q s).dev = { s.dev with mode := some m } := by
  rw [modeSet, keepBody_dev, assignSubs_dev, assignSubs_dev]

/-! The regions of each mode (R235, R340). -/

theorem modeRegions_switching (hf : m ≠ .framer) (hr : m ≠ .regenerator) : modeRegions m s = [(1, reservePages s), (2, 256)] := by
  simp [modeRegions, hf, hr]

theorem initialised_of_not_stillProvisioned (h : stillProvisioned s = false) : s.stk.initialised = true := by
  simp only [stillProvisioned, Bool.or_eq_false_iff, Bool.not_eq_false'] at h
  exact h.2

theorem allocRegion_initialised {k l : Stacks} {r n : Nat} (h : k.allocRegion r n = some l) : l.initialised = k.initialised := by
  simp only [Stacks.allocRegion, Option.map_eq_some_iff] at h
  obtain ⟨ps, -, rfl⟩ := h
  rfl

/-- A region allocated after the others leaves the device as it was. -/
theorem allocNext_ok {r n : Nat} {k : Stacks} (hi : s.stk.initialised = true) (hk : s.stk.allocRegion r n = some k) :
    ∃ t, allocNext (.ok s) (r, n) = .ok t ∧ t.stk = k ∧ t.dev = s.dev := by
  refine ⟨stacksToRun { s with stk := k }, ?_, stacksToRun_stk, stacksToRun_dev⟩
  simp [allocNext, allocRegion, hi, hk]

/-- FRAMER alone powers its carrier and pool domains down (R29). -/
theorem framerDown_eq (hm : m.code = u8 q 4) : framerDown m s =
    if u8 q 4 = 5 then ([0, 1, 8, 9, 10, 11, 12, 13, 14, 15] : List Nat).foldl (fun s d => requestDomain d .off s) s else s := by
  simp only [framerDown, ← hm, code_framer]
  rfl

/-- Once the regions of the new mode are allocated, the command completes with the mode in force and its body kept. -/
theorem exec_deviceProvision_allocated {k : Stacks} (run : runs 0x0102 q s = true) (hm : modeOf (u8 q 4) = some m) (code : m.code = u8 q 4)
    (free : stillProvisioned s = false) (ha : (modeRegions m s).foldl allocNext (.ok (regionsFreed s)) = .ok t)
    (stk : t.stk = k) (dev : t.dev = s.dev) :
    ∃ v, let u := if u8 q 4 = 5 then ([0, 1, 8, 9, 10, 11, 12, 13, 14, 15] : List Nat).foldl (fun s d => requestDomain d .off s) v else v
      exec (.deviceProvision q) s = .next (complete q.ch q.tag { status := stOk } (pmSync u)) ∧
      u.stk = k ∧ u.dev = { s.dev with mode := modeOf (u8 q 4) } ∧
      bodyOf u 0x0102 (objOf q) = some { op := 0x0102, obj := objOf q, body := q.body, bulk := q.bulk } := by
  refine ⟨modeSet m q t, ?_⟩
  rw [← framerDown_eq code]
  refine ⟨?_, ?_, ?_, ?_⟩
  · rw [exec_deviceProvision, deskRun_done run (deviceProvision_allocated hm free ha)]
  · rw [framerDown_stk, modeSet_stk, stk]
  · rw [framerDown_dev, modeSet_dev, hm, dev]
  · rw [bodyOf_framerDown]
    exact bodyOf_keepBody

/-! ### The reading forms -/

/-- The device holds the values of the commands listed in state of its own; the body of every other is the one kept. -/
theorem liveBody_kept {op : Nat} {b : List Byte} (h : op ∉ [0x0201, 0x0402, 0x0403, 0x0602, 0x0804, 0x0806, 0x0C05]) :
    liveBody op q b s = b := by
  simp only [List.mem_cons, List.not_mem_nil, or_false, not_or] at h
  obtain ⟨h1, h2, h3, h4, h5, h6, h7⟩ := h
  simp only [liveBody, h1, h2, h3, h4, h5, h6, h7, if_false]

theorem readForm_p {op : Nat} {c : CmdInfo} (h : readingOf op = some c) (form : c.form = .p) : readForm op q s = readP c.op q s := by
  simp [readForm, h, form]

theorem readForm_r {op : Nat} {c : CmdInfo} (h : readingOf op = some c) (form : c.form = .r) : readForm op q s = readR c.op q s := by
  simp [readForm, h, form]

/-- The reading form of an R command other than the one that reads a table from the bulk slot. -/
theorem readR_kept {op : Nat} {b : BodyVal} (h : op ≠ 0x0411) (kept : bodyOf s op (objOf q) = some b) :
    readR op q s = (s, okBulk (inForce op q b.body s) b.bulk) := by
  simp [readR, h, kept]

theorem readP_fits {op : Nat} (h : (readingP op q s).1 ≤ 27 ∨ q.slot.isSome = true) : readP op q s =
    (s, okBulk (leBytes 4 (objOf q) ++ leBytes 2 (readingP op q s).1 ++ leBytes 2 0 ++ (readingP op q s).2.take 216)
      ((readingP op q s).2.drop 216)) := by
  refine if_neg fun e => ?_
  rcases h with few | slot
  · omega
  · rw [Option.isNone_iff_eq_none.1 e.2] at slot
    cases slot

/-- Settles O23: each command runs as its own row, by the mode that it names and by the kind of the command that it reads. -/
theorem deviceCommands : Obligations.DeviceCommands := by
  intro q s info
  refine ⟨fun run => ?_, fun run high => ?_, fun run low used => ?_, fun run low free => ?_, fun op b => liveBody_kept, fun b => rfl,
    fun op c b h form plain kept run => ?_, fun op c h form run => ?_⟩
  · rw [exec_deviceInfo, deskRun_done run deviceInfo_eq]
    rfl
  · rw [exec_deviceProvision, deskRun_done run (deviceProvision_badMode (modeOf_none high))]
  · obtain ⟨m, hm, -⟩ := modeOf_code low
    rw [exec_deviceProvision, deskRun_done run (deviceProvision_badState hm used)]
  · obtain ⟨m, hm, code⟩ := modeOf_code low
    have init : (regionsFreed s).stk.initialised = true := initialised_of_not_stillProvisioned free
    intro k0 done
    refine ⟨fun framer => ?_, fun regenerator k1 first => ?_, fun other notFramer k1 k2 first second => ?_⟩
    · obtain rfl : m = .framer := code_framer.1 (code.trans framer)
      exact exec_deviceProvision_allocated run hm code free rfl rfl rfl
    · obtain rfl : m = .regenerator := code_regenerator.1 (code.trans regenerator)
      obtain ⟨t, ht, stk, dev⟩ := allocNext_ok init first
      exact exec_deviceProvision_allocated run hm code free ht stk dev
    · obtain ⟨t1, ht1, stk1, dev1⟩ := allocNext_ok init first
      rw [← stk1] at second
      obtain ⟨t2, ht2, stk2, dev2⟩ := allocNext_ok ((stk1 ▸ allocRegion_initialised first).trans init) second
      refine exec_deviceProvision_allocated run hm code free ?_ stk2 (dev2.trans dev1)
      rw [modeRegions_switching (fun e => notFramer (code ▸ code_framer.2 e)) (fun e => other (code ▸ code_regenerator.2 e)),
        List.foldl_cons, List.foldl_cons, List.foldl_nil, ht1, ht2]
  · rw [exec_readingForm, deskRun_done run ((readForm_r h form).trans (readR_kept plain kept))]
    rfl
  · intro rows records room
    rw [exec_readingForm, deskRun_done run ((readForm_p h form).trans (readP_fits room))]
    rfl

end Sys2Proof.Machine
end

section
/-! Sound states (Sys2Proof/Safety.lean): the state after reset is one, and every step keeps them. -/

namespace Sys2Proof.Machine

variable {s : State}

theorem step_idle (h : s.pending = []) : step s = .next s := by
  rw [step, h]

theorem step_runs_front {c : Instr} {rest : List Instr} (h : s.pending = c :: rest) : step s = exec c { s with pending := rest } := by
  rw [step, h]

/-- A sound state stays sound whatever commands wait. -/
theorem Sound.good {pq : List Instr} (h : Sound s) : Good pq { s with pending := pq } :=
  ⟨rfl, ⟨h.chutes, h.stk, h.evt, h.desk⟩⟩

/-- The Stacks at reset: no word is listed and no transaction is in flight. -/
theorem reset_stacks : Stacks.sound {} = true := by
  decide

/-- Settles O2: after reset every Chute and channel is empty, and so are the event queue, the log and the Stacks' memory. -/
theorem resetSound : Obligations.ResetSound :=
  ⟨⟨reset_chutes, reset_stacks, rfl, reset_desk⟩, rfl⟩

/-- Settles O3: with a command in front the meaning of that command, as each meaning keeps soundness and the queue's rest
(`exec_good`); with none the block idles. -/
theorem stepKeepsSound : Obligations.StepKeepsSound := by
  intro s t sound run
  cases queue : s.pending with
  | nil =>
    obtain rfl : s = t := by simpa [step_idle queue] using run
    exact ⟨sound, queue⟩
  | cons c rest =>
    rw [step_runs_front queue] at run
    have kept : Good rest t := exec_good sound.good t run
    exact ⟨kept.sound, kept.queue⟩

end Sys2Proof.Machine
end

section
/-! What a write into a Chute, its stall event, an item that comes to rest, a read and a mark do (01_organisation.md R15 to R25). -/

namespace Sys2Proof.Machine

variable {k : Fin 256} {i : ChuteId} {s : State} {c : Chute} {x p : Item} {r : List InChute}

theorem exec_chuteStall : exec (.chuteStall k) s = .next (chuteStall k s) := rfl

theorem exec_chuteItemRest : exec (.chuteItemRest k) s = .next (chuteRest k s) := rfl

theorem exec_chuteRead : exec (.chuteRead k) s = .next (chuteRead k s) := rfl

theorem exec_chuteMarkAbsorb : exec (.chuteMarkAbsorb k) s = .next (chuteAbsorb k s) := rfl

/-- The item written holds the data bits of the Chute's class (R16). -/
theorem exec_chuteWrite {data errs : Nat} {endMark poison : BitVec 3} (h : chuteId k.val = some i) :
    exec (.chuteWrite k data errs endMark poison) s =
      .next (chuteWrite k { data := data % 2 ^ chuteDataBits i.cls, errs := errs, endMark := endMark, poison := poison } s) := by
  show execChuteWrite k data errs endMark poison s = _
  simp only [execChuteWrite, h]

/-! ### One Chute of the state -/

theorem onChute_same {f : Chute → Chute} : (onChute k f s).chutes[k] = f s.chutes[k] := by
  rw [onChute_chutes, upd_get, if_pos rfl]

theorem onChute_other {f : Chute → Chute} {j : Fin 256} (h : j ≠ k) : (onChute k f s).chutes[j] = s.chutes[j] := by
  rw [onChute_chutes, upd_get, if_neg (Ne.symm h)]

/-- An update is what it makes of the Chute as it stands. -/
theorem onChute_congr {f g : Chute → Chute} (h : f s.chutes[k] = g s.chutes[k]) : onChute k f s = onChute k g s := by
  simp only [onChute, upd, h]

theorem onChute_id {f : Chute → Chute} (h : f s.chutes[k] = s.chutes[k]) : onChute k f s = s := by
  have kept : upd s.chutes k f = s.chutes := by
    rw [upd, h]
    exact Vector.set_getElem_self k.isLt
  rw [onChute, kept]

/-! ### The items of a Chute -/

theorem held_append_item {b : Bool} (h : c.items = r ++ [.item x b]) : c.held = (r.filter fun y => y != .mark).length + 1 := by
  simp [Chute.held, h]

theorem enter_held {tick : Nat} : (c.enter tick x).held = c.held + 1 :=
  held_append_item rfl

theorem enter_peak {tick : Nat} : (c.enter tick x).peak = max c.peak (c.held + 1) :=
  congrArg (max c.peak) (enter_held (tick := tick))

theorem settle_idle {o : Bool} {n tick : Nat} (h : c.pendingWrite = none) : c.settle o n tick = c := by
  simp [Chute.settle, h]

theorem settle_full {o : Bool} {n tick : Nat} (h : n ≤ c.held) : c.settle o n tick = c := by
  unfold Chute.settle
  split
  · exact if_neg (Nat.not_lt.2 h)
  · rfl

theorem settle_enters {n tick : Nat} (waits : c.pendingWrite = some p) (room : c.held < n) :
    c.settle true n tick = { c.enter tick p with pendingWrite := none, shut := false } := by
  simp [Chute.settle, waits, room]

/-- A write that waits in a closed Chute notes at most that it has found it closed. -/
theorem settle_closed {n tick : Nat} : c.settle false n tick = c ∨ c.settle false n tick = { c with shut := true } := by
  unfold Chute.settle
  split
  · split
    · exact .inr rfl
    · exact .inl rfl
  · exact .inl rfl

theorem restFirst_falling {pre : List InChute} (h : ∀ y ∈ pre, ∀ z, y ≠ .item z false) :
    restFirst (pre ++ .item x false :: r) = (pre ++ .item x true :: r, vote3 x.endMark) := by
  induction pre with
  | nil => rfl
  | cons y pre ih =>
    have hy := h y List.mem_cons_self
    have rest := ih fun z hz => h z (List.mem_cons_of_mem _ hz)
    cases y with
    | mark => simp [restFirst, rest]
    | item z b =>
      cases b with
      | false => exact absurd rfl (hy z)
      | true => simp [restFirst, rest]

/-! ### Writes -/

theorem chuteSettle_idle (h : s.chutes[k].pendingWrite = none) : chuteSettle k i s = s := onChute_id (settle_idle h)

theorem chuteSettle_full (h : chuteStages i.cls ≤ s.chutes[k].held) : chuteSettle k i s = s := onChute_id (settle_full h)

theorem chuteSettle_enters (live : chuteOpen s i = true) (waits : s.chutes[k].pendingWrite = some p) (room : s.chutes[k].held < chuteStages i.cls) :
    chuteSettle k i s = onChute k (fun c => { c.enter s.dev.ticks p with pendingWrite := none, shut := false }) s :=
  onChute_congr (by rw [live]; exact settle_enters waits room)

theorem chuteWrite_closed (h : chuteId k.val = some i) (shut : chuteOpen s i = false) : chuteWrite k x s = chuteSettle k i s := by
  have : chuteOpen (chuteSettle k i s) i = false := shut
  simp [chuteWrite, h, this]

theorem chuteWrite_waiting (h : chuteId k.val = some i) (live : chuteOpen s i = true) (waits : s.chutes[k].pendingWrite = some p)
    (full : chuteStages i.cls ≤ s.chutes[k].held) :
    chuteWrite k x s = if i.fixedRate then raiseChute 0 k i (onChute k (fun c => { c with
      pendingWrite := some { p with poison := 7 }, overrun := bump c.overrun }) s) else s := by
  simp only [chuteWrite, h, chuteSettle_full full, live, waits, Bool.not_true, Bool.false_eq_true, if_false]

theorem chuteWrite_tooLong (h : chuteId k.val = some i) (live : chuteOpen s i = true) (free : s.chutes[k].pendingWrite = none)
    (long : ¬(vote3 x.endMark = true ∨ s.chutes[k].open_ + 1 < chutePacket i.cls)) : chuteWrite k x s = s := by
  obtain ⟨unmarked, long⟩ := not_or.1 long
  have overlong : chutePacket i.cls ≤ s.chutes[k].open_ + 1 ∧ !vote3 x.endMark := ⟨Nat.not_lt.1 long, by simpa using unmarked⟩
  simp only [chuteWrite, h, chuteSettle_idle free, live, free, Bool.not_true, Bool.false_eq_true, if_false, if_pos overlong]

/-- An item that its packet has room for enters, or its write waits, as the Chute has room. -/
theorem chuteWrite_fits (h : chuteId k.val = some i) (live : chuteOpen s i = true) (free : s.chutes[k].pendingWrite = none)
    (fits : vote3 x.endMark = true ∨ s.chutes[k].open_ + 1 < chutePacket i.cls) :
    chuteWrite k x s = if s.chutes[k].held < chuteStages i.cls then onChute k (fun c => (c.enter s.dev.ticks x).packetOf x) s
      else onChute k (fun c => { c with pendingWrite := some x }.packetOf x) s := by
  have short : ¬(chutePacket i.cls ≤ s.chutes[k].open_ + 1 ∧ !vote3 x.endMark) := by
    rintro ⟨long, unmarked⟩
    rcases fits with marked | short
    · simp [marked] at unmarked
    · omega
  simp only [chuteWrite, h, chuteSettle_idle free, live, free, Bool.not_true, Bool.false_eq_true, if_false, if_neg short]

/-- A write that waited enters before the next one (log 58). -/
theorem chuteWrite_settles (h : chuteId k.val = some i) (live : chuteOpen s i = true) (waits : s.chutes[k].pendingWrite = some p)
    (room : s.chutes[k].held < chuteStages i.cls) :
    chuteWrite k x s = chuteWrite k x (onChute k (fun c => { c.enter s.dev.ticks p with pendingWrite := none, shut := false }) s) := by
  have idle : chuteSettle k i (chuteSettle k i s) = chuteSettle k i s := by
    rw [chuteSettle_enters live waits room]
    exact chuteSettle_idle (by rw [onChute_same])
  rw [← chuteSettle_enters live waits room]
  simp only [chuteWrite, h, idle]

/-- Settles O4: the cases of a write, by whether the Chute is open, a write waits there, its packet has room and it has room
itself. That a write that waited while the Chute was closed enters first (log 58) and which index stands for which Chute
(log 10) are the model's choices. -/
theorem chuteWritten : Obligations.ChuteWritten := by
  intro k data errs endMark poison s
  refine ⟨fun unused => ?_, fun i used => ?_⟩
  · have absent : ∀ x, chuteWrite k x s = s := fun x => by simp [chuteWrite, unused]
    exact ⟨congrArg _ (absent _), by simp [exec_chuteStall, chuteStall, unused]⟩
  · intro c x fits n
    rw [exec_chuteWrite used]
    refine ⟨fun shut => ?_, fun live free fit room => ?_, fun live free fit full => ?_, fun live free long => ?_, fun p live waits full => ?_,
      fun p live waits room => ?_, ?_⟩
    · rw [chuteWrite_closed used shut, chuteSettle, shut]
      refine ⟨_, rfl, ?_⟩
      rcases settle_closed (c := c) (n := chuteStages i.cls) (tick := s.dev.ticks) with e | e <;>
      · rw [show s.chutes[k] = c from rfl, e]
        exact ⟨rfl, rfl, rfl, rfl, rfl⟩
    · rw [chuteWrite_fits (x := x) used live free fit, if_pos room]
      exact ⟨_, rfl, rfl, enter_held (tick := s.dev.ticks), enter_peak (tick := s.dev.ticks), rfl, free, rfl, rfl, rfl⟩
    · rw [chuteWrite_fits (x := x) used live free fit, if_neg (Nat.not_lt.2 full)]
      rfl
    · rw [chuteWrite_tooLong (x := x) used live free long]
    · rw [chuteWrite_waiting used live waits full]
      rfl
    · rw [chuteWrite_settles used live waits room, exec_chuteWrite used]
    · simp only [exec_chuteStall, chuteStall, used]
      rfl

/-! ### Rest, reads and marks -/

/-- A mark at the output stage is the one entry that is absorbed there (R373). -/
theorem chuteAbsorb_item {b : Bool} (h : s.chutes[k].items = .item x b :: r) : chuteAbsorb k s = s := by
  simp only [chuteAbsorb, absorbMarks, h]
  exact onChute_id rfl

theorem chuteAbsorb_empty (h : s.chutes[k].items = []) : chuteAbsorb k s = s := by
  simp only [chuteAbsorb, absorbMarks, h]
  exact onChute_id rfl

theorem chuteAbsorb_counted {n : Nat} (h : s.chutes[k].items = .mark :: r) (counts : s.chutes[k].counting = some n) :
    chuteAbsorb k s = onChute k (fun c => { c with items := r, inFlight := n, counting := none }) s := by
  simp only [chuteAbsorb, absorbMarks, h, counts]
  rfl

theorem chuteRead_ready (h : chuteId k.val = some i) (settled : chuteSettle k i s = s) (front : s.chutes[k].items = .item x true :: r) :
    chuteRead k s = chuteTake k i s := by
  have ready : s.chutes[k].ready = true := by simp only [Chute.ready, front]
  simp only [chuteRead, h, settled, chuteAbsorb_item front, ready, if_true]

/-- A read that finds the oldest item still falling stalls until it comes to rest. -/
theorem chuteRead_falling (h : chuteId k.val = some i) (settled : chuteSettle k i s = s) (front : s.chutes[k].items = .item x false :: r) :
    chuteRead k s = onChute k (fun c => { c with reading := true }) s := by
  have ready : s.chutes[k].ready = false := by simp only [Chute.ready, front]
  have held : ¬(s.chutes[k].held = 0 ∧ !chuteOpen s i) := fun e => by
    have := held_cons_item front
    omega
  simp only [chuteRead, h, settled, chuteAbsorb_item front, ready, Bool.false_eq_true, if_false, if_neg held]

theorem chuteRead_empty (h : chuteId k.val = some i) (settled : chuteSettle k i s = s) (empty : s.chutes[k].items = []) :
    chuteRead k s = if chuteOpen s i then onChute k (fun c => { c with reading := true }) s else s := by
  have ready : s.chutes[k].ready = false := by simp only [Chute.ready, empty]
  have held : s.chutes[k].held = 0 := by simp only [Chute.held, empty, List.filter_nil, List.length_nil]
  simp only [chuteRead, h, settled, chuteAbsorb_empty empty, ready, held]
  cases chuteOpen s i <;> rfl

/-- The Chute once the item `x` at rest at its output stage has been taken, `r` the entries behind it (R17, R21, R23). -/
def Chute.afterTake (tick : Nat) (x : Item) (r : List InChute) (c : Chute) : Chute :=
  let bad := vote3 x.poison || decide (2 ≤ x.errs)
  { c with
    items := r, taken := bump c.taken, counting := c.counting.map (· + 1), stalled := false, reading := false, since := tick
    packets := if vote3 x.endMark then c.packets - 1 else c.packets
    corrected := if x.errs = 1 then bump c.corrected else c.corrected
    uncorr := if 2 ≤ x.errs then bump c.uncorr else c.uncorr
    out := some (x.data, vote3 x.endMark, bad), fresh := c.fresh + 1
    poisonAt := if bad then c.poisonAt ++ [c.fresh] else c.poisonAt }

theorem take_front {o : Bool} {n tick : Nat} (front : c.items = .item x true :: r) :
    c.take o n tick = (c.afterTake tick x r).settle o n tick := by
  simp only [Chute.take, front, Bool.true_and]
  rfl

/-- A poisoned item counts in the transmit DSP alone (R102). -/
theorem countPoison_chutes {bad : Bool} : (countPoison i bad s).chutes = s.chutes := by
  unfold countPoison
  split <;> rfl

/-- What taking an item does: the Chute's own update, the poison count and, for an uncorrectable one, CHUTE_UNCORR (R21). -/
theorem chuteTake_front (front : s.chutes[k].items = .item x true :: r) :
    chuteTake k i s =
      let t := countPoison i (vote3 x.poison || decide (2 ≤ x.errs))
        (onChute k (fun c => (c.afterTake s.dev.ticks x r).settle (chuteOpen s i) (chuteStages i.cls) s.dev.ticks) s)
      if 2 ≤ x.errs then raiseChute 1 k i t else t := by
  have taken : onChute k (fun c => c.take (chuteOpen s i) (chuteStages i.cls) s.dev.ticks) s =
      onChute k (fun c => (c.afterTake s.dev.ticks x r).settle (chuteOpen s i) (chuteStages i.cls) s.dev.ticks) s :=
    onChute_congr (take_front front)
  simp only [chuteTake, front, taken]

theorem chuteTake_chutes (front : s.chutes[k].items = .item x true :: r) :
    (chuteTake k i s).chutes =
      (onChute k (fun c => (c.afterTake s.dev.ticks x r).settle (chuteOpen s i) (chuteStages i.cls) s.dev.ticks) s).chutes := by
  rw [chuteTake_front front]
  dsimp only
  split
  · exact countPoison_chutes
  · exact countPoison_chutes

/-- The Chute once its oldest falling item has come to rest. -/
theorem rest_falling {pre : List InChute} (items : c.items = pre ++ .item x false :: r) (first : ∀ y ∈ pre, ∀ z, y ≠ .item z false) :
    c.rest = { c with items := pre ++ .item x true :: r, packets := if vote3 x.endMark then c.packets + 1 else c.packets } := by
  simp only [Chute.rest, items, restFirst_falling first]
  cases vote3 x.endMark <;> rfl

theorem chuteRest_quiet (h : chuteId k.val = some i) (settled : chuteSettle k i s = s) (quiet : s.chutes[k].reading = false) :
    chuteRest k s = onChute k Chute.rest s := by
  have reading : (onChute k Chute.rest s).chutes[k].reading = false := by rw [onChute_same]; exact quiet
  simp only [chuteRest, h, settled, reading, Bool.false_and, Bool.false_eq_true, if_false]

theorem chuteRest_stalled (h : chuteId k.val = some i) (settled : chuteSettle k i s = s) (stalled : s.chutes[k].reading = true)
    (front : (onChute k Chute.rest s).chutes[k].items = .item x true :: r) :
    chuteRest k s = chuteTake k i (onChute k Chute.rest s) := by
  have reading : (onChute k Chute.rest s).chutes[k].reading = true := by rw [onChute_same]; exact stalled
  have ready : (onChute k Chute.rest s).chutes[k].ready = true := by simp only [Chute.ready, front]
  simp only [chuteRest, h, settled, reading, ready, Bool.true_and, if_true]

/-- With no write waiting, the item that is taken leaves its place empty. -/
theorem chuteRead_takes (h : chuteId k.val = some i) (free : s.chutes[k].pendingWrite = none) (front : s.chutes[k].items = .item x true :: r) :
    chuteRead k s =
      let t := countPoison i (vote3 x.poison || decide (2 ≤ x.errs)) (onChute k (Chute.afterTake s.dev.ticks x r) s)
      if 2 ≤ x.errs then raiseChute 1 k i t else t := by
  have left : onChute k (fun c => (c.afterTake s.dev.ticks x r).settle (chuteOpen s i) (chuteStages i.cls) s.dev.ticks) s =
      onChute k (Chute.afterTake s.dev.ticks x r) s := onChute_congr (settle_idle free)
  rw [chuteRead_ready h (chuteSettle_idle free) front, chuteTake_front front, left]

/-- A write that waits for the place of the item that is taken enters at once. -/
theorem chuteRead_refills (h : chuteId k.val = some i) (live : chuteOpen s i = true) (front : s.chutes[k].items = .item x true :: r)
    (waits : s.chutes[k].pendingWrite = some p) (full : s.chutes[k].held = chuteStages i.cls) :
    (chuteRead k s).chutes = (onChute k (fun c =>
      { (c.afterTake s.dev.ticks x r).enter s.dev.ticks p with pendingWrite := none, shut := false }) s).chutes := by
  have room : (s.chutes[k].afterTake s.dev.ticks x r).held < chuteStages i.cls := by
    have : s.chutes[k].held = (s.chutes[k].afterTake s.dev.ticks x r).held + 1 := held_cons_item front
    omega
  rw [chuteRead_ready h (chuteSettle_full (Nat.le_of_eq full.symm)) front, chuteTake_chutes front]
  exact congrArg _ (onChute_congr (by rw [live]; exact settle_enters waits room))

/-- Settles O5: with no write waiting a Chute stands as it is, so that each case is what the item that comes to rest, the entry
at the output stage or the absorbed mark makes of it; a write that waits enters a full Chute as soon as an item leaves it. -/
theorem chuteTaken : Obligations.ChuteTaken := by
  refine ⟨fun k i s used free => ?_, fun k i s x w r used live front waits full => ?_, fun k s r n front counts => ?_⟩
  · have settled : chuteSettle k i s = s := chuteSettle_idle free
    refine ⟨fun pre x r items first => ?_, fun empty => ?_, fun x r front => ?_, fun x r front => ?_⟩
    · intro t
      have rested : onChute k Chute.rest s = t := onChute_congr (rest_falling items first)
      rw [exec_chuteItemRest, exec_chuteRead]
      refine ⟨fun quiet => ?_, fun stalled atFront => ?_⟩
      · rw [chuteRest_quiet used settled quiet, rested]
      · have front : t.chutes[k].items = .item x true :: r := by rw [onChute_same, atFront]; rfl
        have settled' : chuteSettle k i t = t := chuteSettle_idle (by rw [onChute_same]; exact free)
        rw [chuteRest_stalled used settled stalled (rested ▸ front), rested, chuteRead_ready used settled' front]
    · rw [exec_chuteRead, chuteRead_empty used settled empty]
    · rw [exec_chuteRead, chuteRead_falling used settled front]
    · rw [exec_chuteRead, chuteRead_takes used free front]
      rfl
  · have chutes := chuteRead_refills used live front waits full
    refine ⟨_, exec_chuteRead, ?_⟩
    rw [chutes, onChute_same]
    refine ⟨rfl, rfl, ?_, fun j => onChute_other⟩
    rw [held_cons_item front]
    exact held_append_item rfl
  · rw [exec_chuteMarkAbsorb, chuteAbsorb_counted front counts]

end Sys2Proof.Machine
end

section
/-! What one occurrence of an event does (15_events_census.md R364, R365, R371, R516), and how far an island's replica of the time
of day lies from TIME's (01_organisation.md R14). -/

namespace Sys2Proof.Machine

variable {e : EventTree} {st : Stamp} {t n ob : Nat} {a : EvtArg} {s : State}

theorem exec_eventOccurrence {n : Fin 512} {ob : Word32} : exec (.eventOccurrence n ob a) s = .next (raise n.val ob.toNat a s) := rfl

/-- The replica lies within one period of its island's clock and 1 ns of TIME's time of day (R14; its place there is free, log 59). -/
theorem replica_near (s : State) (k : Nat) : ((s.replica k : Int) - s.tod16).natAbs ≤ islandPeriod s k + 65536 := by
  unfold State.replica
  dsimp only
  split
  · simp
  · have low := Int.emod_nonneg (Config.replica k s.dev.ticks) (b := ((2 * (islandPeriod s k + 65536) + 1 : Nat) : Int)) (by omega)
    have high := Int.emod_lt_of_pos (Config.replica k s.dev.ticks) (b := ((2 * (islandPeriod s k + 65536) + 1 : Nat) : Int)) (by omega)
    omega

theorem updNat_get {α : Type} {m : Nat} {v : Vector α m} {i : Nat} {j : Fin m} {f : α → α} :
    (updNat v i f)[j] = if j.val = i then f v[j] else v[j] := by
  unfold updNat
  split
  · by_cases h : i = j.val
    · subst h; simp
    · simp [h, Ne.symm h]
  · rw [if_neg (by omega)]

/-- Signalling touches the vectors' pending bits and the messages sent alone (R368). -/
theorem signal_eq (e : EventTree) (n : Nat) : ∃ pba sent, e.signal n = { e with pba := pba, sent := sent } := by
  unfold EventTree.signal EventTree.vectorDue
  split
  · split
    · exact ⟨_, e.sent, rfl⟩
    · exact ⟨e.pba, _, rfl⟩
  · exact ⟨e.pba, e.sent, rfl⟩

/-- An occurrence while the queue has room (R365): status bit, count, record and, where it is signalled, a vector. -/
theorem occurCore_room (room : e.queue.length < 256) : ∃ pba sent, e.occurCore st n ob a =
    ({ e with
      status := setBit e.status n, counts := updNat e.counts n bump, pba := pba, sent := sent
      queue := if isRspReady n then e.queue else e.queue ++ [{ event := n, stamp := st, obj := BitVec.ofNat 32 ob, arg := a }] }, false) := by
  unfold EventTree.occurCore
  extract_lets fresh e1 e2
  have signalled : ∃ pba sent, e2 = { e1 with pba := pba, sent := sent } := by
    unfold e2
    split
    · exact signal_eq e1 n
    · exact ⟨e.pba, e.sent, rfl⟩
  obtain ⟨pba, sent, h⟩ := signalled
  refine ⟨pba, sent, ?_⟩
  have room : e1.queue.length < 256 := room
  simp only [h, room, if_true]
  cases isRspReady n <;> rfl

theorem occur_reserved (h : eventDefined n = false) : e.occur st t n ob a = e := by
  simp [EventTree.occur, h]

/-- A defined source whose record finds room loses none, so that EVT_LOG_LOST does not occur. -/
theorem occur_room (h : eventDefined n = true) (room : e.queue.length < 256) : ∃ pba sent, e.occur st t n ob a =
    { e with
      status := setBit e.status n, counts := updNat e.counts n bump, pba := pba, sent := sent
      queue := if isRspReady n then e.queue else e.queue ++ [{ event := n, stamp := st, obj := BitVec.ofNat 32 ob, arg := a }] } := by
  obtain ⟨pba, sent, core⟩ := occurCore_room (st := st) (n := n) (ob := ob) (a := a) room
  refine ⟨pba, sent, ?_⟩
  simp only [EventTree.occur, h, core, if_true, Bool.false_and, Bool.false_eq_true, if_false]

theorem raise_unlimited (h : limitScope n ob a = none) :
    raise n ob a s = { s with evt := s.evt.occur (s.stampAt (evtIsland n ob a)) s.dev.ticks n ob a } := by
  simp only [raise, EventTree.raiseEvt, h]

theorem raise_withheld {sc : Nat} (h : limitScope n ob a = some sc) (early : s.evt.limitOk s.dev.ticks n sc = false) : raise n ob a s = s := by
  simp only [raise, EventTree.raiseEvt, h, early, Bool.false_eq_true, if_false]

/-- Settles O25: an occurrence is one update of the event tree, stamped by the replica of the island that the source belongs to
(the model's choice, log 59). -/
theorem eventOccurrence : Obligations.EventOccurrence := by
  intro n ob a s
  rw [exec_eventOccurrence]
  refine ⟨replica_near s, fun reserved unlimited => ?_, fun sc limited early => ?_, fun defined unlimited room => ?_⟩
  · rw [raise_unlimited unlimited, occur_reserved reserved]
  · rw [raise_withheld limited early]
  · obtain ⟨pba, sent, occurs⟩ := occur_room (st := s.stampAt (evtIsland n.val ob.toNat a)) (t := s.dev.ticks) (ob := ob.toNat) (a := a)
      defined room
    rw [raise_unlimited unlimited, occurs]
    refine ⟨_, rfl, rfl, fun m => setBit_get n.isLt, fun m => ?_, rfl, rfl, rfl, ?_⟩
    · simp only [updNat_get, Fin.ext_iff]
    · simp only [isRspReady, Bool.and_eq_true, decide_eq_true_eq, BitVec.ofNat_toNat, BitVec.setWidth_eq]
      rfl

end Sys2Proof.Machine
end

section
/-! How a snapshot of the Census begins, latches and completes (15_events_census.md R372 to R377, R380). -/

namespace Sys2Proof.Machine

variable {s : State} {b : Snapshot} {t k : Nat}

theorem exec_censusPeriodicInstant : exec .censusPeriodicInstant s = .next (periodicInstant s) := rfl

theorem exec_censusIslandLatch {k : Fin 27} : exec (.censusIslandLatch k) s = .next (islandLatch k s) := rfl

theorem exec_censusWriteComplete : exec .censusWriteComplete s = .next (writeComplete s) := rfl

/-! ### What a latch leaves of the snapshot in progress -/

/-- What the snapshot in progress is and which islands have latched, and what else of the state no latch touches. -/
def latchedView (s : State) : Option (Nat × Nat × List Nat × List Nat) × Nat × Desk × EventTree × Params :=
  (s.cen.busy.map fun b => (b.t, b.half, b.saved, b.latched), s.cen.seq, s.desk, s.evt, s.par)

/-- The same without the islands that have latched. -/
def snapshotView (s : State) : Option (Nat × Nat × List Nat) × Nat × Desk × EventTree × Params :=
  (s.cen.busy.map fun b => (b.t, b.half, b.saved), s.cen.seq, s.desk, s.evt, s.par)

theorem snapshotView_eq : snapshotView s = ((latchedView s).1.map fun x => (x.1, x.2.1, x.2.2.1), (latchedView s).2) := by
  simp only [snapshotView, latchedView, Option.map_map]
  rfl

theorem onBusy_latchedView {f : Snapshot → Snapshot} (h : ∀ b, ((f b).t, (f b).half, (f b).saved, (f b).latched) = (b.t, b.half, b.saved, b.latched)) :
    Same latchedView s (onBusy f s) := by
  simp only [Same, latchedView, onBusy, onCen, Option.map_map, Function.comp_def, h]

theorem latchProducer_latchedView {c : Nat} {x y : Bool} : Same latchedView s (latchProducer c x y s) := by
  unfold latchProducer
  extract_lets ch s1
  have h : Same latchedView s s1 := onBusy_latchedView fun _ => rfl
  exact .ite (fun _ => h) fun _ => .ite (fun _ => h) fun _ => h

theorem latchConsumer_latchedView {c : Nat} {x y : Bool} : Same latchedView s (latchConsumer c x y s) := by
  unfold latchConsumer
  extract_lets ch early s1
  have h : Same latchedView s s1 := .ite (fun _ => .refl) fun _ => onBusy_latchedView fun _ => rfl
  exact h

theorem restartPeaks_latchedView : Same latchedView s (restartPeaks k s) := by
  unfold restartPeaks
  exact .ite (fun _ => rfl) fun _ => .ite (fun _ => rfl) fun _ => .ite (fun _ => rfl) fun _ => .ite (fun _ => rfl) fun _ => rfl

/-- One Chute at the latch of island `k`, with `saved` the islands that supply saved values (R373). -/
def latchChute (k : Nat) (saved : List Nat) (s : State) (x : ChuteId × Nat) : State :=
  let s1 := if x.1.prod = k then latchProducer x.2 (saved.contains x.1.cons) (saved.contains x.1.prod) s else s
  if x.1.cons = k then latchConsumer x.2 (saved.contains x.1.cons) (saved.contains x.1.prod) s1 else s1

theorem latchChute_latchedView {saved : List Nat} {x : ChuteId × Nat} : Same latchedView s (latchChute k saved s x) := by
  unfold latchChute
  extract_lets s1
  have h : Same latchedView s s1 := .ite (fun _ => latchProducer_latchedView) fun _ => .refl
  exact .ite (fun _ => h.trans latchConsumer_latchedView) fun _ => h

theorem latchIsland_none (h : s.cen.busy = none) : latchIsland k s = s := by
  simp only [latchIsland, h]

theorem latchIsland_again (h : s.cen.busy = some b) (latched : b.latched.contains k = true) : latchIsland k s = s := by
  simp only [latchIsland, h, latched, if_true]

/-- An island's first latch: its blocks, then its Chutes, then its peaks. -/
theorem latchIsland_first (busy : s.cen.busy = some b) (first : b.latched.contains k = false) :
    latchIsland k s = restartPeaks k (chuteTable.zipIdx.foldl (latchChute k b.saved) (onBusy (fun b => { b with
      latched := k :: b.latched, blocks := b.blocks ++ islandBlocks k s, counts := if k = 24 then s.evt.counts.toList else b.counts }) s)) := by
  simp only [latchIsland, busy, first, Bool.false_eq_true, if_false]
  rfl

/-- An island's latch notes the island and keeps all else of the view. -/
theorem latchIsland_latchedView (busy : s.cen.busy = some b) (first : b.latched.contains k = false) :
    latchedView (latchIsland k s) = (some (b.t, b.half, b.saved, k :: b.latched), s.cen.seq, s.desk, s.evt, s.par) := by
  rw [latchIsland_first busy first]
  generalize islandBlocks k s = blocks
  have chutes : ∀ u, Same latchedView u (chuteTable.zipIdx.foldl (latchChute k b.saved) u) :=
    fun u => Same.foldl (fun _ _ h => h.trans latchChute_latchedView) .refl
  refine Eq.trans restartPeaks_latchedView (Eq.trans (chutes _) ?_)
  simp only [latchedView, onBusy, onCen, busy, Option.map_some]

theorem latchIsland_snapshotView : Same snapshotView s (latchIsland k s) := by
  cases busy : s.cen.busy with
  | none => rw [latchIsland_none busy]; exact .refl
  | some b =>
    cases first : b.latched.contains k with
    | true => rw [latchIsland_again busy first]; exact .refl
    | false =>
      rw [Same, snapshotView_eq, latchIsland_latchedView busy first]
      simp only [snapshotView, busy, Option.map_some]

/-! ### The beginning of a snapshot -/

/-- The half that the next snapshot is written to: not the one held, else the other one of the last (R376, R380). -/
def nextHalf (s : State) : Nat :=
  match s.cen.held with
  | some h => 1 - h
  | none => if s.cen.seq = 0 then 0 else 1 - s.cen.lastHalf

theorem censusStart_snapshotView {byCmd : Bool} :
    snapshotView (censusStart t byCmd s) =
      (some (t, nextHalf s, (List.range 27).filter fun k => !islandRun s k), s.cen.seq, s.desk, s.evt, s.par) := by
  unfold censusStart
  exact Same.foldl (fun _ _ h => h.trans latchIsland_snapshotView) .refl

theorem snapshot_of_view {u : State} {half seq : Nat} {saved : List Nat} {d : Desk} {e : EventTree} {p : Params}
    (h : snapshotView u = (some (t, half, saved), seq, d, e, p)) :
    ∃ b, u.cen.busy = some b ∧ b.t = t ∧ b.half = half ∧ b.saved = saved ∧ u.cen.seq = seq ∧ u.desk = d ∧ u.evt = e ∧ u.par = p := by
  simp only [snapshotView, Prod.mk.injEq, Option.map_eq_some_iff] at h
  obtain ⟨⟨b, busy, ht, hh, hs⟩, rest⟩ := h
  exact ⟨b, busy, ht, hh, hs, rest⟩

theorem censusDue_busy (h : s.cen.busy = some b) : censusDue s = s := by
  simp only [censusDue, h]

theorem censusDue_unrequested (h : s.cen.want = none) : censusDue s = s := by
  unfold censusDue
  rw [h]
  cases s.cen.busy <;> rfl

/-- The instant of a periodic snapshot: the last whole multiple of PERIOD_MS (R376). -/
def periodicT (s : State) : Nat := s.tod16 / (s.cen.periodMs * fracPerMs) * (s.cen.periodMs * fracPerMs)

theorem period_ne_zero (h : s.cen.periodMs ≠ 0) : s.cen.periodMs * fracPerMs ≠ 0 :=
  Nat.mul_ne_zero h (by decide)

theorem periodicInstant_starts (period : s.cen.periodMs ≠ 0) (area : s.stk.initialised = true) (idle : s.cen.busy = none)
    (unrequested : s.cen.want = none) : periodicInstant s = censusStart (periodicT s) false s := by
  simp only [periodicInstant, period_ne_zero period, area, censusDue_unrequested unrequested, idle, Bool.not_true, Bool.false_eq_true,
    or_self, if_false]
  rfl

theorem periodicInstant_skipped (period : s.cen.periodMs ≠ 0) (area : s.stk.initialised = true) (busy : s.cen.busy = some b)
    (other : b.t ≠ periodicT s) :
    periodicInstant s = raise 10 objDevice (evtArg 0 0 0 (s.cen.seq + 1)) (onCen (fun c => { c with skipped := bump c.skipped, skippedBit := true }) s) := by
  have other : ¬b.t = s.tod16 / (s.cen.periodMs * fracPerMs) * (s.cen.periodMs * fracPerMs) := other
  simp only [periodicInstant, period_ne_zero period, area, censusDue_busy busy, busy, other, Bool.not_true, Bool.false_eq_true,
    or_self, if_false]

/-! ### The islands' latches -/

theorem writeCells_latchedView {half i : Nat} {cells : List Nat} : Same latchedView s (writeCells half i cells s) := by
  unfold writeCells
  split
  · exact .refl
  · split
    · exact .refl
    · exact .onStk .refl

theorem censusBegin_latchedView : Same latchedView s (censusBegin s) := by
  unfold censusBegin
  split
  · exact .refl
  · exact .ite (fun _ => .refl) fun _ => (Same.onStk (s := s) .refl).trans writeCells_latchedView

theorem latched_of_view {u : State} {half seq : Nat} {saved latched : List Nat} {rest : Desk × EventTree × Params}
    (h : latchedView u = (some (t, half, saved, latched), seq, rest)) :
    ∃ b, u.cen.busy = some b ∧ b.latched = latched ∧ b.t = t ∧ b.half = half ∧ u.cen.seq = seq := by
  simp only [latchedView, Prod.mk.injEq, Option.map_eq_some_iff] at h
  obtain ⟨⟨b, busy, ht, hh, -, hl⟩, hseq, -⟩ := h
  exact ⟨b, busy, hl, ht, hh, hseq⟩

theorem islandLatch_idle {k : Fin 27} (idle : s.cen.busy = none) (unrequested : s.cen.want = none) : islandLatch k s = s := by
  simp only [islandLatch, censusDue_unrequested unrequested, idle]

theorem islandLatch_again {k : Fin 27} (busy : s.cen.busy = some b) (latched : b.latched.contains k.val = true) : islandLatch k s = s := by
  simp only [islandLatch, censusDue_busy busy, busy, latched, Bool.not_true, Bool.false_eq_true, and_false, if_false]

theorem islandLatch_first {k : Fin 27} (busy : s.cen.busy = some b) (first : b.latched.contains k.val = false) (due : b.t ≤ s.replica k.val) :
    islandLatch k s = censusBegin (latchIsland k.val s) := by
  simp only [islandLatch, censusDue_busy busy, busy, first, due, Bool.not_false, and_self, if_true]

/-! ### The end of a snapshot -/

/-- The state with the Stacks as they were before: what the writing of cells leaves unchanged. -/
def withoutStk (s : State) : State := { s with stk := {} }

theorem writeCells_withoutStk {half i : Nat} {cells : List Nat} : Same withoutStk s (writeCells half i cells s) := by
  unfold writeCells
  split
  · exact .refl
  · split
    · exact .refl
    · exact .onStk .refl

theorem writeAll_withoutStk {half n i : Nat} {cells : List Nat} : Same withoutStk s (writeAll half n i cells s) := by
  induction n generalizing i cells s with
  | zero => exact .refl
  | succ n ih =>
    unfold writeAll
    exact .ite (fun _ => .refl) fun _ => writeCells_withoutStk.trans ih

theorem changes_stk_of_withoutStk {u : State} (h : Same withoutStk s u) : ∃ k, u = { s with stk := k } := by
  have same : withoutStk u = withoutStk s := h
  refine ⟨u.stk, ?_⟩
  calc u = { withoutStk u with stk := u.stk } := rfl
    _ = { withoutStk s with stk := u.stk } := by rw [same]
    _ = { s with stk := u.stk } := rfl

theorem writeComplete_waits (busy : s.cen.busy = some b) (h : b.latched.length ≠ 27 ∨ marksOut s = true) : writeComplete s = s := by
  simp only [writeComplete, busy, if_pos h]

/-- The end of the writing: the cells lie in the Stacks, the snapshot is the last one, CENSUS_DONE is raised, and the command
that asked for it completes (R376, R377, R380). -/
theorem writeComplete_ends (busy : s.cen.busy = some b) (latched : b.latched.length = 27) (absorbed : marksOut s = false) :
    ∃ (k : Stacks) (c : Census) (d : Desk), writeComplete s =
        { s with stk := k, cen := c, desk := d, evt := (raise 9 objDevice (evtArg 0 0 0 (s.cen.seq + 1)) s).evt } ∧
      c.busy = none ∧ c.seq = s.cen.seq + 1 ∧ c.lastHalf = b.half ∧ c.lastT = b.t ∧ c.taken = bump s.cen.taken := by
  have ready : ¬(b.latched.length ≠ 27 ∨ marksOut s = true) := by simp [latched, absorbed]
  simp -zeta only [writeComplete, busy, if_neg ready]
  extract_lets l seq all s1 late s2 s3
  obtain ⟨k, written⟩ : ∃ k, s1 = { s with stk := k } := changes_stk_of_withoutStk (writeAll_withoutStk.trans writeCells_withoutStk)
  clear_value l all s1 late
  subst written
  have replied : ∃ d, (if b.byCmd then endTransition .census (takeReply b l.2.2) s3 else s3) = { s3 with desk := d } := by
    split
    · exact endTransition_changes_desk
    · exact ⟨s3.desk, rfl⟩
  obtain ⟨d, done⟩ := replied
  exact ⟨k, s2.cen, d, done, rfl, rfl, rfl, rfl, rfl⟩

/-- Settles O29: a snapshot stands in the Census as its `Snapshot`, of which the islands' latches touch only the latched islands,
the cells and the blocks, and which the end of the writing makes the last one. -/
theorem censusSnapshots : Obligations.CensusSnapshots := by
  refine ⟨fun s b period area busy other => ?_, fun s period area idle unrequested => ?_,
    fun k s => ⟨fun idle unrequested => ?_, fun b busy latched => ?_, fun b busy first due => ?_⟩,
    fun s b busy => ⟨fun waits => ?_, fun latched absorbed => ?_⟩⟩
  · rw [exec_censusPeriodicInstant, periodicInstant_skipped period area busy other]
    exact ⟨_, rfl, rfl, rfl, raise_status rfl rfl (by decide)⟩
  · rw [exec_censusPeriodicInstant, periodicInstant_starts period area idle unrequested]
    obtain ⟨b, busy, ht, hh, hs, hseq, hd, he, hp⟩ := snapshot_of_view (censusStart_snapshotView (t := periodicT s) (byCmd := false) (s := s))
    exact ⟨_, b, rfl, busy, ht, hh, hs, hseq, hd, he, hp⟩
  · rw [exec_censusIslandLatch, islandLatch_idle idle unrequested]
  · rw [exec_censusIslandLatch, islandLatch_again busy latched]
  · rw [exec_censusIslandLatch, islandLatch_first busy first due]
    obtain ⟨b', busy', hl, ht, hh, hseq⟩ := latched_of_view (Eq.trans censusBegin_latchedView (latchIsland_latchedView busy first))
    exact ⟨_, b', rfl, busy', hl, ht, hh, hseq⟩
  · rw [exec_censusWriteComplete, writeComplete_waits busy waits]
  · obtain ⟨k, c, d, ends, hb, hseq, hh, ht, hn⟩ := writeComplete_ends busy latched absorbed
    rw [exec_censusWriteComplete, ends]
    exact ⟨_, rfl, hb, hseq, hh, ht, hn, raise_status rfl rfl (by decide), rfl⟩

end Sys2Proof.Machine
end

section
/-! Power domains that a command sets, and what the beginning of a domain's transition leaves (14_command_reference.md R360;
16_power.md R390 to R395, R422). -/

namespace Sys2Proof.Machine

variable {q : Request} {s : State} {d v : Nat} {t : DomState}

theorem exec_powerDomainSet : exec (.powerDomainSet q) s = .next (deskRun 0x0E02 domainSet q s) := rfl

theorem exec_powerWakeSet : exec (.powerWakeSet q) s = .next (deskRun 0x0E03 wakeSet q s) := rfl

/-! ### POWER.DOMAIN.SET -/

/-- The codes that a domain does not take (R360). -/
theorem askedState_none (h : 3 < v ∨ v = 1 ∧ 16 ≤ d ∨ v = 3 ∧ d < 16) : askedState d v = none := by
  rcases h with above | ⟨rfl, high⟩ | ⟨rfl, low⟩
  · have e : v ≠ 0 ∧ v ≠ 1 ∧ v ≠ 2 ∧ v ≠ 3 := by omega
    simp only [askedState, e, if_false]
  · simp [askedState, high]
  · simp [askedState, low]

/-- The codes of a stop that a domain takes. -/
theorem askedState_stop (h : v = 1 ∧ d < 16 ∨ v = 2 ∨ v = 3 ∧ 16 ≤ d) : ∃ t, askedState d v = some t ∧ t ≠ .run := by
  rcases h with ⟨rfl, low⟩ | rfl | ⟨rfl, high⟩
  · exact ⟨.clockOff, by simp [askedState, low], by decide⟩
  · exact ⟨.off, rfl, by decide⟩
  · exact ⟨.selfRefresh, by simp [askedState, Nat.not_lt.2 high], by decide⟩

/-- A state and its code, for a domain that takes it. -/
theorem askedState_some (h : t = .run ∧ v = 0 ∨ (t = .clockOff ∧ v = 1 ∧ d < 16) ∨ (t = .off ∧ v = 2) ∨ (t = .selfRefresh ∧ v = 3 ∧ 16 ≤ d)) :
    askedState d v = some t ∧ t.reqCode = v := by
  rcases h with ⟨rfl, rfl⟩ | ⟨rfl, rfl, low⟩ | ⟨rfl, rfl⟩ | ⟨rfl, rfl, high⟩
  · exact ⟨rfl, rfl⟩
  · exact ⟨by simp [askedState, low], rfl⟩
  · exact ⟨rfl, rfl⟩
  · exact ⟨by simp [askedState, Nat.not_lt.2 high], rfl⟩

theorem domainSet_unknown (h : askedState (objIndex q) (u8 q 4) = none) : domainSet q s = (s, badParam 4) := by
  simp only [domainSet, h]

theorem domainSet_used (h : askedState (objIndex q) (u8 q 4) = some t) (stop : t ≠ .run) (used : domainUsed (objIndex q) s = true) :
    domainSet q s = (s, refuse stBadState) := by
  simp only [domainSet, h, stop, used, ne_eq, not_false_eq_true, and_self, if_true]

theorem domainSet_held (h : askedState (objIndex q) (u8 q 4) = some .run) (held : stopHeld (objIndex q) s = true) :
    domainSet q s = (s, refuse stBadState) := by
  simp only [domainSet, h, held, ne_eq, not_true_eq_false, false_and, if_false, and_self, if_true]

/-- A request that nothing refuses is answered at once in the state asked for, else begins the transition. -/
theorem domainSet_asked (h : askedState (objIndex q) (u8 q 4) = some t) (unused : t = .run ∨ domainUsed (objIndex q) s = false)
    (free : t ≠ .run ∨ stopHeld (objIndex q) s = false) : domainSet q s =
      if s.dom (objIndex q) = t then (s, ok (leBytes 1 t.reqCode))
      else (beginDomain (objIndex q) t (beginTransition (.domain (objIndex q)) 0x0E02 q s), .later) := by
  have h1 : ¬(t ≠ .run ∧ domainUsed (objIndex q) s = true) := fun ⟨stop, used⟩ => by simp [stop, used] at unused
  have h2 : ¬(t = .run ∧ stopHeld (objIndex q) s = true) := fun ⟨run, held⟩ => by simp [run, held] at free
  simp only [domainSet, h, if_neg h1, if_neg h2]

/-! ### The beginning of a transition -/

/-- A domain that leaves OFF with no rail to raise: STARTING, its stages last in the queue (R391, R392). -/
theorem beginDomain_start (moving : inTransition (.domain d) s = true) (off : s.dom d = .off) (target : t ≠ .selfRefresh)
    (rails : railsToRaise d s = []) : beginDomain d t s =
      queueStages d (onDom d (fun x => { x with
        st := .starting, target := t, stagesLeft := (stagesOf d).1, drained := false, leg := none, thermal := false
        since := s.dev.ticks }) s) := by
  simp only [beginDomain, moving, off, target, if_true, if_false, true_or, startStages, railsToRaise_onDom, rails]

/-- The domain as a stop begins: STOPPING, with its stages not queued before it has drained (R391). -/
def stopBegun (d : Nat) (t : DomState) (s : State) : State :=
  pmPut (fun x => objInDomain x.ob d) .suspect (onDom d (fun x => { x with
    st := .stopping, target := t, stagesLeft := (stagesOf d).1, drained := false, thermal := false, since := s.dev.ticks }) s)

theorem beginDomain_stop (moving : inTransition (.domain d) s = true) (run : s.dom d = .run) : beginDomain d t s =
    if d < 2 then convLeave (carrierOf d) (safetyLeave (carrierOf d) (stopBegun d t s)) else stopBegun d t s := by
  have down : ¬(DomState.run = .off ∨ (t = .run ∧ (DomState.run = .clockOff ∨ DomState.run = .selfRefresh))) := by simp
  simp only [beginDomain, moving, run, if_neg down, if_true, stopBegun]

theorem dom_eq (s : State) (d : Nat) : s.dom d = (s.domain d).st := rfl

/-- The rest of the stop of a carrier's domain is not seen by a view of neither its light, nor its converters, nor the Desk. -/
theorem beginDomain_stop_view {α : Type} {e : State → α} (moving : inTransition (.domain d) s = true) (run : s.dom d = .run)
    (h1 : ∀ c f x, e (onSafe c f x) = e x := by intros; rfl) (h2 : ∀ (x : State) v, e { x with evt := v } = e x := by intros; rfl)
    (h3 : ∀ (x : State) k, e { x with desk := k } = e x := by intros; rfl) (h4 : ∀ c f x, e (onCar c f x) = e x := by intros; rfl) :
    e (beginDomain d t s) = e (stopBegun d t s) := by
  rw [beginDomain_stop moving run]
  exact Same.ite (fun _ => (Same.refl.safetyLeave h1 h2).convLeave h3 h4) fun _ => .refl

/-- The end of the commands that wait on a carrier's converters changes the Desk alone, so each view of the rest is that of the
converters put to rest. -/
theorem convLeave_view {α : Type} {e : State → α} {c : Fin 2} (h : ∀ (x : State) d, e { x with desk := d } = e x := by intros; rfl) :
    e (convLeave c s) = e (convDisable c s) := by
  unfold convLeave
  exact Same.foldl (fun _ _ hu => hu.endTransition h) .refl

theorem onCar_car {c : Fin 2} {f : Carrier → Carrier} : (onCar c f s).car c = f (s.car c) := by
  show (upd s.cars c f)[c] = _
  rw [upd_get, if_pos rfl]
  rfl

theorem conv_eq (s : State) (c : Fin 2) (k : Fin 8) : s.conv c k = (s.car c).convs[k] := rfl

theorem conv_rest {x : Conv} : x.rest.rot = .off ∧ x.rest.visitPos = none ∧ x.rest.measured = none :=
  ⟨rfl, rfl, rfl⟩

/-- A carrier whose domain leaves RUN: no calibration, and its converters rest (R44, row "Any"). -/
theorem convLeave_rests {c : Fin 2} : ((convLeave c s).car c).fg = none ∧
    ∀ k, ((convLeave c s).conv c k).rot = .off ∧ ((convLeave c s).conv c k).visitPos = none ∧ ((convLeave c s).conv c k).measured = none := by
  have rested : (convLeave c s).car c = { s.car c with fg := none, convs := (s.car c).convs.map Conv.rest } := by
    rw [convLeave_view (e := fun x => x.car c), convDisable, onCar_car]
  refine ⟨by rw [rested], fun k => ?_⟩
  have : (convLeave c s).conv c k = ((s.car c).convs[k]).rest := by
    rw [conv_eq, rested]
    exact Vector.getElem_map ..
  rw [this]
  exact conv_rest

/-- Settles O30: the command by the state that it asks for, and the beginning of a transition by whether the domain starts or stops.
That the response carries the code of the request, that the domain settles after its last down-stage and that an enabling or a
calibrating carrier counts as enabled are the model's choices (log 89). -/
theorem powerDomainSet : Obligations.PowerDomainSet := by
  intro q s
  refine ⟨fun run => ⟨fun unknown => ?_, fun code used => ?_, fun code held => ?_, fun t asked => ?_⟩, fun run => ?_,
    fun d t low moving => ⟨fun off target rails => ?_, fun run target => ?_⟩⟩
  · rw [exec_powerDomainSet, deskRun_done run (domainSet_unknown (askedState_none unknown))]
  · obtain ⟨t, ht, stop⟩ := askedState_stop code
    rw [exec_powerDomainSet, deskRun_done run (domainSet_used ht stop used)]
  · rw [exec_powerDomainSet, deskRun_done run (domainSet_held (askedState_some (.inl ⟨rfl, code⟩)).1 held)]
  · have ht : askedState (objIndex q) (u8 q 4) = some t ∧ t.reqCode = u8 q 4 :=
      askedState_some (asked.imp (fun h => ⟨h.1, h.2.1⟩) fun h => h.2)
    have e := domainSet_asked (s := s) ht.1 (asked.imp (·.1) (·.1)) (by
      rcases asked with h | ⟨-, ⟨rfl, -⟩ | ⟨rfl, -⟩ | ⟨rfl, -⟩⟩
      · exact .inr h.2.2
      all_goals exact .inl (by decide))
    refine ⟨fun there => ?_, fun other => ?_⟩
    · rw [if_pos there, ht.2] at e
      rw [exec_powerDomainSet, deskRun_done run e]
    · rw [if_neg other] at e
      rw [exec_powerDomainSet, deskRun_later run e]
  · rw [exec_powerWakeSet, deskRun_done run rfl]
    exact ⟨_, rfl, rfl, rfl, congrArg _ bodyOf_keepBody⟩
  · rw [beginDomain_start moving off (by rcases target with rfl | rfl <;> decide) rails]
    refine ⟨?_, ?_, ?_, ?_, fun e other => ?_, rfl⟩
    · rw [dom_eq, queueStages_domain, onDom_same low]
    · rw [queueStages_domain, onDom_same low]
    · rw [queueStages_domain, onDom_same low]
    · rw [queueStages_queue (by rw [onDom_same low])]
      rfl
    · rw [queueStages_domain, onDom_other other]
  · have begun : (beginDomain d t s).pwr = (stopBegun d t s).pwr := beginDomain_stop_view (e := State.pwr) moving run
    have other (e : Nat) : (beginDomain d t s).domain e = (stopBegun d t s).domain e := by
      rw [State.domain, begun]
      rfl
    have self : (beginDomain d t s).domain d = _ := (other d).trans (onDom_same low)
    refine ⟨congrArg _ self, congrArg _ self, congrArg _ self, (congrArg Power.queue begun).trans rfl, fun e ne => (other e).trans (onDom_other ne), ?_, ?_, ?_⟩
    · rintro c rfl
      rw [beginDomain_stop moving run, if_pos c.isLt, carrierOf_val]
      have light := safetyLeave_req c (stopBegun c.val t s)
      have kept : (convLeave c (safetyLeave c (stopBegun c.val t s))).sf c = (safetyLeave c (stopBegun c.val t s)).sf c :=
        convLeave_view (e := fun x => x.sf c)
      rw [kept]
      exact ⟨light.1, light.2, convLeave_rests⟩
    · exact beginDomain_stop_view (e := fun u => { u with pwr := s.pwr, cen := s.cen, safe := s.safe, evt := s.evt, desk := s.desk, cars := s.cars })
        moving run
    · intro high
      rw [beginDomain_stop moving run, if_neg (Nat.not_lt.2 high)]
      exact ⟨rfl, rfl⟩

end Sys2Proof.Machine
end

section
/-! What an update of one converter does. -/

namespace Sys2Proof.Machine

variable {c : Fin 2} {k : Fin 8} {f g : Conv → Conv} {s : State}

theorem upd_congr {α : Type} {n : Nat} {v : Vector α n} {i : Fin n} {f g : α → α} (h : f v[i] = g v[i]) : upd v i f = upd v i g := by
  rw [upd, upd, h]

theorem upd_id {α : Type} {n : Nat} {v : Vector α n} {i : Fin n} {f : α → α} (h : f v[i] = v[i]) : upd v i f = v := by
  rw [upd, h]
  exact Vector.set_getElem_self i.isLt

theorem onCar_congr {f g : Carrier → Carrier} (h : f (s.car c) = g (s.car c)) : onCar c f s = onCar c g s := by
  rw [onCar, onCar, upd_congr h]

theorem onCar_id {f : Carrier → Carrier} (h : f (s.car c) = s.car c) : onCar c f s = s := by
  rw [onCar, upd_id h]

/-- An update is what it makes of the converter as it stands. -/
theorem onConv_congr (h : f (s.conv c k) = g (s.conv c k)) : onConv c k f s = onConv c k g s :=
  onCar_congr (congrArg (fun v => { s.car c with convs := v }) (upd_congr h))

theorem onConv_id (h : f (s.conv c k) = s.conv c k) : onConv c k f s = s :=
  onCar_id (congrArg (fun v => { s.car c with convs := v }) (upd_id h))

theorem onConv_onConv : onConv c k g (onConv c k f s) = onConv c k (fun x => g (f x)) s := by
  simp only [onConv, onCar, upd_upd]

theorem raiseIf_true {n ob : Nat} {a : EvtArg} : raiseIf true n ob a s = raise n ob a s := rfl

theorem raiseIf_false {n ob : Nat} {a : EvtArg} : raiseIf false n ob a s = s := rfl

end Sys2Proof.Machine
end

section
/-! Foreground calibration (02_converters.md R40, R41; 14_command_reference.md R342). -/

namespace Sys2Proof.Machine

variable {c : Fin 2} {k : Fin 8} {s : State} {q : Request} {f a : Foreground} {x : Conv} {sl n : Nat}

theorem exec_convCalibrate : exec (.convCalibrate q) s = .next (deskRun 0x0210 convCalibrate q s) := rfl

theorem exec_calibrationGroupEnd : exec (.calibrationGroupEnd c) s = .next (groupEnd c s) := rfl

theorem convCalibrate_barred (h : (s.car (reqCarrier q)).enabled = true ∨ (s.car (reqCarrier q)).provisioned = false ∨ stopHeld (reqCarrier q) s = true) :
    convCalibrate q s = (s, refuse stBadState) :=
  if_pos (by simpa using h)

theorem convCalibrate_begins (h : ¬((s.car (reqCarrier q)).enabled = true ∨ (s.car (reqCarrier q)).provisioned = false ∨ stopHeld (reqCarrier q) s = true)) :
    convCalibrate q s = (beginTransition (.conv (reqCarrier q) 0xFF) 0x0210 q
      (fgStart (reqCarrier q) false (bit (u8 q 4) 0) (requestDomain (reqCarrier q) .run s)), .later) :=
  if_neg (by simpa using h)

theorem groupEnd_idle (h : (s.car c).fg = none) : groupEnd c s = s := by
  simp only [groupEnd, h]

theorem groupEnd_waits (h : (s.car c).fg = some f) (hold : s.dom c ≠ .run ∨ 17 + f.repeatGroups ≤ f.group) : groupEnd c s = s := by
  simp only [groupEnd, h, if_pos hold]

theorem groupEnd_judges (h : (s.car c).fg = some f) (run : s.dom c = .run) (more : f.group < 17 + f.repeatGroups) :
    groupEnd c s = onCar c (fun _ => { ((List.finRange 8).foldl (judgeConv s c f) (f, s.car c)).2 with
      fg := some { ((List.finRange 8).foldl (judgeConv s c f) (f, s.car c)).1 with group := f.group + 1 } }) s := by
  have go : ¬(s.dom c ≠ .run ∨ 17 + f.repeatGroups ≤ f.group) := by simp [run, more]
  simp only [groupEnd, h, if_neg go]

/-! One slice of a group is judged by the outcome of its two runs (R41). -/

theorem judgeForeground_fit (h : measOutcome s c k sl = some (.fit n)) : judgeForeground s c f k (a, x) sl =
    (a, { x.setRole sl (if x.roles.getD sl .spare = .retired then .spare else x.roles.getD sl .spare) with
      selection := x.selection.set sl n, fails := x.fails.set sl 0 }) := by
  simp only [judgeForeground, h]

theorem judgeForeground_unfit (h : measOutcome s c k sl = some .unfit) : judgeForeground s c f k (a, x) sl = (a, x.setRole sl .retired) := by
  simp only [judgeForeground, h]

theorem judgeForeground_failed (h : measOutcome s c k sl = some .failed) : judgeForeground s c f k (a, x) sl =
    if f.group < 17 then ({ a with repeats := a.repeats ++ [132 * k.val + sl] }, { x with measFails := bump x.measFails })
    else (a, { x with measFails := bump x.measFails }.setRole sl .retired) := by
  simp only [judgeForeground, h]

end Sys2Proof.Machine
end

section
/-! The rotation's parameters, the compensation of temperature and the measurement runs (02_converters.md R38, R39, R47, R48;
14_command_reference.md R342). -/

namespace Sys2Proof.Machine

variable {c : Fin 2} {k : Fin 8} {s : State} {q : Request} {vs : List ParamVal}

theorem exec_convRotationSet : exec (.convRotationSet q) s =
    .next (deskRun 0x0211 (pCommand 0x0211 (fun _ _ => none) (convRotationSet q)) q s) := rfl

theorem exec_convTempUpdate : exec (.convTempUpdate c) s = .next (tempUpdate c s) := rfl

theorem exec_measurementRunEnd {sl : Fin 132} {r : MeasRun} : exec (.measurementRunEnd c k sl r) s = .next (runEnd c k sl.val r s) := rfl

/-- A P command whose records no rule refuses. -/
theorem pCommand_accepted {op : Nat} {act : List ParRec → State → State} {rs : List ParRec} (h : parseRecords op q = .ok rs) :
    pCommand op (fun _ _ => none) act q s = (act rs s, ok) := by
  simp only [pCommand, h]

theorem rotationSet_other (h : (vs.filter fun v => v.obj == objConv c k 0xFF) = []) : rotationSet c vs s k = s := by
  simp only [rotationSet, h, List.isEmpty_nil, if_true]

section

variable (h : (vs.filter fun v => v.obj == objConv c k 0xFF) ≠ [])
include h

theorem rotationSet_waits (visit : (s.conv c k).inVisit = true) :
    rotationSet c vs s k = { s with par := (vs.filter fun v => v.obj == objConv c k 0xFF).foldl Params.wait s.par } := by
  simp only [rotationSet, List.isEmpty_iff, h, if_false, visit, if_true]

theorem rotationSet_acts (visit : (s.conv c k).inVisit = false) (live : (s.conv c k).rot ≠ .halted) :
    rotationSet c vs s k = { s with par := (vs.filter fun v => v.obj == objConv c k 0xFF).foldl Params.put s.par } := by
  simp only [rotationSet, List.isEmpty_iff, h, if_false, visit, Bool.false_eq_true, live, false_and]

end

/-- The difference of R47 exceeds the threshold on a converter that rotates. -/
def staleAbove (s : State) (c : Fin 2) (k : Fin 8) (v : Int) : Prop :=
  (s.conv c k).rot ≠ .off ∧ (s.conv c k).rot ≠ .foreground ∧ (convPar s c k 0x70).toNat < (v - (s.conv c k).passTemp).natAbs

theorem staleAbove_iff {v : Int} : staleAbove s c k v ↔ (((s.conv c k).rot != .off && (s.conv c k).rot != .foreground) &&
    decide ((convPar s c k 0x70).toNat < (v - (s.conv c k).passTemp).natAbs)) = true := by
  simp [staleAbove, and_assoc]

theorem staleCheck_above {v : Int} (h : staleAbove s c k v) : staleCheck c k v s =
    raiseIf (!(s.conv c k).staleRaised) 37 (objConv c k 0xFF) (evtArg 0 0xFF 0 0)
      (onConv c k (fun x => { x with temp := v, staleRaised := true, fsComp := fullScale s c k v }) s) := by
  simp only [staleCheck, staleAbove_iff.1 h, Bool.true_and]

theorem staleCheck_below {v : Int} (h : ¬staleAbove s c k v) : staleCheck c k v s =
    onConv c k (fun x => { x with temp := v, staleRaised := false, fsComp := fullScale s c k v }) s := by
  simp only [staleCheck, Bool.eq_false_iff.2 (mt staleAbove_iff.2 h), Bool.false_and, raiseIf_false]

/-- A run's data are kept for a slice being measured, of which fewer than two have ended (R39). -/
def runKept (s : State) (c : Fin 2) (k : Fin 8) (sl : Nat) (r : MeasRun) : Prop :=
  ((s.conv c k).measured = some sl ∨ (s.conv c k).rot = .foreground) ∧ ((s.conv c k).runs.filter fun y => y.1 == sl).length < 2 ∧
    (r.noSel || selOk k.val r.sel.toNat) = true

theorem runEnd_kept {sl : Nat} {r : MeasRun} (h : runKept s c k sl r) :
    runEnd c k sl r s = onConv c k (fun x => { x with runs := x.runs ++ [(sl, r)] }) s :=
  onConv_congr (if_pos h)

theorem runEnd_dropped {sl : Nat} {r : MeasRun} (h : ¬runKept s c k sl r) : runEnd c k sl r s = s :=
  onConv_id (if_neg h)

/-- Two runs agree (R39). -/
def runsAgree (s : State) (c : Fin 2) (k : Fin 8) (a b : MeasRun) : Prop :=
  (a.off - b.off).natAbs ≤ convPar s c k 0x40 ∧ (a.gain - b.gain).natAbs ≤ convPar s c k 0x41 ∧ (a.skew - b.skew).natAbs ≤ convPar s c k 0x42

section

variable {a b : MeasRun}

theorem judgeRuns_disagree (h : ¬runsAgree s c k a b) : judgeRuns s c k a b = .failed := by
  refine if_pos ?_
  unfold runsAgree at h
  omega

section

variable (h : runsAgree s c k a b)
include h

/-- Runs that agree are judged by whether either found a selection, then by the second run's residuals and bandwidth (log 61). -/
theorem judgeRuns_agree : judgeRuns s c k a b =
    if a.noSel = true ∧ b.noSel = true then .unfit else if residualsOk k b = true ∧ b.bw.natAbs ≤ 300 then .fit a.sel.toNat else .failed := by
  refine if_neg ?_
  unfold runsAgree at h
  omega

theorem judgeRuns_unfit (ha : a.noSel = true) (hb : b.noSel = true) : judgeRuns s c k a b = .unfit := by
  rw [judgeRuns_agree h, if_pos ⟨ha, hb⟩]

variable (found : a.noSel = false ∨ b.noSel = false)
include found

theorem judgeRuns_found : judgeRuns s c k a b =
    if residualsOk k b = true ∧ b.bw.natAbs ≤ 300 then .fit a.sel.toNat else .failed := by
  rw [judgeRuns_agree h, if_neg fun ⟨ha, hb⟩ => by simp [ha, hb] at found]

theorem judgeRuns_fit (res : residualsOk k b = true) (bw : b.bw.natAbs ≤ 300) : judgeRuns s c k a b = .fit a.sel.toNat := by
  rw [judgeRuns_found h found, if_pos ⟨res, bw⟩]

theorem judgeRuns_misfit (bad : residualsOk k b = false ∨ 300 < b.bw.natAbs) : judgeRuns s c k a b = .failed := by
  have out : ¬(residualsOk k b = true ∧ b.bw.natAbs ≤ 300) := by
    rcases bad with bad | bad
    · simp [bad]
    · omega
  rw [judgeRuns_found h found, if_neg out]

end

end

end Sys2Proof.Machine
end

section
/-! The rows of the rotation (02_converters.md R42, R44, R45). -/

namespace Sys2Proof.Machine

variable {c : Fin 2} {k : Fin 8} {s : State} {p si m n sel : Nat}

theorem exec_shadowAgree {w : BitVec 96} : exec (.shadowAgree c k w) s = .next (shadowAgree c k w.toNat s) := rfl

theorem exec_shadowTimeout : exec (.shadowTimeout c k) s = .next (shadowTimeout c k s) := rfl

theorem exec_sliceMeasurementEnd : exec (.sliceMeasurementEnd c k) s = .next (measurementEnd c k s) := rfl

theorem exec_rotationGapEnd : exec (.rotationGapEnd c k) s = .next (gapEnd c k s) := rfl

theorem exec_faultWindowEnd {ts : List SliceStat} : exec (.faultWindowEnd c k ts) s = .next (faultWindow c k ts s) := rfl

theorem exec_emergencyAlignComplete {pos : Fin 128} {w : BitVec 96} :
    exec (.emergencyAlignComplete c k pos w) s = .next (emergencyDone c k pos.val w.toNat s) := rfl

/-- A slice takes a selection that R36 allows, and keeps its own otherwise. -/
theorem install_eq {x : Conv} {sl : Nat} : x.install k sl sel =
    { x with selection := if selOk k.val sel then x.selection.set sl sel else x.selection } := by
  unfold Conv.install
  split <;> rfl

/-! ### The exchange of slices -/

theorem shadowAgree_in (rot : (s.conv c k).rot = .shadowIn) (pos : (s.conv c k).visitPos = some p) (by_ : (s.conv c k).standIn = some si) :
    shadowAgree c k sel s = onConv c k (fun x => { ((x.setRole ((s.conv c k).map.getD p 0) .measuring).place p si).install k si sel with
      rot := .measure, measured := some ((s.conv c k).map.getD p 0), runs := [] }) s := by
  simp only [shadowAgree, rot, pos, by_]

theorem shadowAgree_out (rot : (s.conv c k).rot = .shadowOut) (pos : (s.conv c k).visitPos = some p) (by_ : (s.conv c k).standIn = some si)
    (of : (s.conv c k).measured = some m) : shadowAgree c k sel s = serveWaiting c k (onConv c k (fun x =>
      { (((x.place p m).setRole si .spare).install k m sel).clearVisit with rot := .gap, visits := bump x.visits }) s) := by
  simp only [shadowAgree, rot, pos, by_, of]

theorem shadow_idle (h1 : (s.conv c k).rot ≠ .shadowIn) (h2 : (s.conv c k).rot ≠ .shadowOut) :
    shadowAgree c k sel s = s ∧ shadowTimeout c k s = s := by
  unfold shadowAgree shadowTimeout
  cases rot : (s.conv c k).rot <;> simp_all

theorem shadowTimeout_in (rot : (s.conv c k).rot = .shadowIn) (pos : (s.conv c k).visitPos = some p) (by_ : (s.conv c k).standIn = some si) :
    shadowTimeout c k s = select c k (onConv c k (fun x => { x.putOff p with fails := x.fails.modify si (· + 1) }) s) := by
  simp only [shadowTimeout, rot, pos, by_]

theorem shadowTimeout_out (rot : (s.conv c k).rot = .shadowOut) : shadowTimeout c k s = measuredLost c k s := by
  simp only [shadowTimeout, rot]

theorem measuredLost_eq (of : (s.conv c k).measured = some m) : measuredLost c k s =
    select c k (serveWaiting c k (retireSlice c k m ((s.conv c k).visitPos.getD 0xFF) (onConv c k (fun x => { x.clearVisit with rot := .select }) s))) := by
  simp only [measuredLost, of]

/-! ### The end of a measurement -/

theorem measurementEnd_idle (h : (s.conv c k).measured = none) : measurementEnd c k s = s := by
  simp only [measurementEnd, h]

section

variable (of : (s.conv c k).measured = some m)
include of

theorem measurementEnd_waits (h : measOutcome s c k m = none) : measurementEnd c k s = s := by
  simp only [measurementEnd, of, h]

theorem measurementEnd_fit (h : measOutcome s c k m = some (.fit n)) (rot : (s.conv c k).rot = .measure) : measurementEnd c k s =
    onConv c k (fun x => { x with fails := x.fails.set m 0, selection := x.selection.set m n, rot := .shadowOut, runs := [] }) s := by
  simp [measurementEnd, of, h, rot, onConv_onConv]

theorem measurementEnd_fit_spare (h : measOutcome s c k m = some (.fit n)) (rot : (s.conv c k).rot = .spareMeasure) : measurementEnd c k s =
    onConv c k (fun x => { (x.setRole m .spare).clearVisit with
      fails := x.fails.set m 0, selection := x.selection.set m n, rot := .gap, visits := bump x.visits }) s := by
  simp [measurementEnd, of, h, rot, onConv_onConv, Conv.setRole, Conv.clearVisit]

theorem measurementEnd_unfit (h : measOutcome s c k m = some .unfit) (rot : (s.conv c k).rot = .measure) :
    measurementEnd c k s = measuredLost c k s := by
  have same : onConv c k (fun x => { x with measFails := x.measFails, fails := x.fails, selection := x.selection }) s = s := onConv_id rfl
  simp [measurementEnd, of, h, rot, same]

theorem measurementEnd_failed (h : measOutcome s c k m = some .failed) (rot : (s.conv c k).rot = .measure) : measurementEnd c k s =
    let n := (s.conv c k).fails.getD m 0 + 1
    let counted := onConv c k (fun x => { x with measFails := bump x.measFails, fails := x.fails.set m n }) s
    if convPar s c k 0x50 ≤ n then measuredLost c k counted else onConv c k (fun x => { x with rot := .shadowOut, runs := [] }) counted := by
  simp [measurementEnd, of, h, rot]

end

/-! ### SELECT, and the faults -/

theorem gapEnd_eq : gapEnd c k s = if (s.conv c k).rot = .gap then select c k s else s := rfl

/-- SELECT with the waiting parameters in force: rotation off, or no slice SPARE, halts it (R44). -/
theorem select_halts (h : let u : State := { s with par := s.par.release .r48 (objConv c k 0xFF) }
    convPar u c k 0x20 = 0 ∨ (u.conv c k).spares = []) : select c k s = raiseConv 36 c k 0xFF 0xFF
      (onConv c k (fun x => { x.clearVisit with rot := .halted }) { s with par := s.par.release .r48 (objConv c k 0xFF) }) :=
  if_pos (h.imp_right List.isEmpty_iff.2)

/-- The active slices whose window is faulty (R45). -/
def faultySlices (s : State) (c : Fin 2) (k : Fin 8) (ts : List SliceStat) : List Nat :=
  (positions (· == Role.active) (s.conv c k).roles).filter fun sl => ts.any fun t => t.slice.val == sl && statFaulty s c k t

section

variable {ts : List SliceStat}

theorem faultWindow_idle (h : (s.conv c k).rot = .off ∨ (s.conv c k).rot = .foreground) : faultWindow c k ts s = s := if_pos h

variable (h1 : (s.conv c k).rot ≠ .off) (h2 : (s.conv c k).rot ≠ .foreground)
include h1 h2

theorem faultWindow_live : faultWindow c k ts s =
    ((faultySlices s c k ts).filter fun sl => (s.conv c k).faultRun.contains sl && !(s.conv c k).faulted.contains sl
      && !(s.conv c k).subst.any fun u => u.faulty == sl).foldl (fun s sl => sliceFault c k sl s)
        (onConv c k (fun x => { x with faultRun := faultySlices s c k ts, faulted := x.faulted.filter (faultySlices s c k ts).contains }) s) :=
  if_neg (not_or.2 ⟨h1, h2⟩)

/-- A slice that was not faulty in the window before is not yet in fault. -/
theorem faultWindow_first (new : ∀ sl ∈ faultySlices s c k ts, sl ∉ (s.conv c k).faultRun) : faultWindow c k ts s =
    onConv c k (fun x => { x with faultRun := faultySlices s c k ts, faulted := x.faulted.filter (faultySlices s c k ts).contains }) s := by
  have none_ : ((faultySlices s c k ts).filter fun sl => (s.conv c k).faultRun.contains sl && !(s.conv c k).faulted.contains sl
      && !(s.conv c k).subst.any fun u => u.faulty == sl) = [] :=
    List.filter_eq_nil_iff.2 fun sl hsl => by simp [new sl hsl]
  rw [faultWindow_live h1 h2, none_, List.foldl_nil]

/-- A slice faulty in a second window, not reported and not being substituted, is in fault. -/
theorem faultWindow_fault {sl : Nat} (one : faultySlices s c k ts = [sl]) (again : sl ∈ (s.conv c k).faultRun) (fresh : sl ∉ (s.conv c k).faulted)
    (free : ∀ u ∈ (s.conv c k).subst, u.faulty ≠ sl) : faultWindow c k ts s =
      sliceFault c k sl (onConv c k (fun x => { x with faultRun := [sl], faulted := x.faulted.filter [sl].contains }) s) := by
  have out : ((s.conv c k).subst.any fun u => u.faulty == sl) = false := by simpa using free
  rw [faultWindow_live h1 h2, one, List.filter_cons_of_pos (by simp [again, fresh, out]), List.filter_nil, List.foldl_cons, List.foldl_nil]

end

theorem emergencyDone_none (h : ∀ u ∈ (s.conv c k).subst, u.pos ≠ p) : emergencyDone c k p sel s = s := by
  have none_ : ((s.conv c k).subst.find? fun u => u.pos == p) = none := List.find?_eq_none.2 fun u hu => by simpa using h u hu
  simp only [emergencyDone, none_]

/-- The only substitution under way ends: its replacement takes the position and the faulty slice is retired (R45, R49). -/
theorem emergencyDone_ends {u : Subst} (one : (s.conv c k).subst = [u]) : emergencyDone c k u.pos sel s =
    let v := retireSlice c k u.faulty u.pos (onConv c k (fun x => { x with
      roles := x.roles.set u.repl .active, map := x.map.set u.pos u.repl
      selection := if selOk k.val sel then x.selection.set u.repl sel else x.selection
      subst := [], faulted := x.faulted.filter (· != u.faulty)
      emergencies := bump x.emergencies, forced := if u.forced then bump x.forced else x.forced }) s)
    if u.forced then endTransition (.conv c k) { status := stOk, payload := leBytes 1 u.pos } v else v := by
  have found : ((s.conv c k).subst.find? fun v => v.pos == u.pos) = some u := by simp [one]
  simp only [emergencyDone, found]
  refine congrArg (fun w => let v := retireSlice c k u.faulty u.pos w
    if u.forced then endTransition (.conv c k) { status := stOk, payload := leBytes 1 u.pos } v else v) (onConv_congr ?_)
  simp [one, install_eq, Conv.place, Conv.setRole]

end Sys2Proof.Machine
end

section
/-! CONV.SLICE.RETIRE (14_command_reference.md R342; 02_converters.md R49), by the role of the slice. -/

namespace Sys2Proof.Machine

variable {q : Request} {s : State}

theorem exec_convSliceRetire : exec (.convSliceRetire q) s = .next (deskRun 0x0212 convSliceRetire q s) := rfl

/-- The state in which the command finds the converter that it names (R37). -/
def retireState (q : Request) (s : State) : State := convReady (reqCarrier q) (convOf (objSub q)) s

/-- The converter that the command names. -/
def retireConv (q : Request) (s : State) : Conv := (retireState q s).conv (reqCarrier q) (convOf (objSub q))

theorem retireState_eq : convReady (reqCarrier q) (convOf (objSub q)) s = retireState q s := rfl

theorem retireConv_eq : (retireState q s).conv (reqCarrier q) (convOf (objSub q)) = retireConv q s := rfl

/-- The slice is in a substitution already, waits for one, or shadows in a visit. -/
def retireBarred (q : Request) (x : Conv) : Prop :=
  (∃ u ∈ x.subst, u.faulty = objSub2 q ∨ u.repl = objSub2 q) ∨ (∃ w ∈ x.waitSpare, w.1 = objSub2 q) ∨
    (x.rot = .shadowIn ∧ x.standIn = some (objSub2 q))

theorem retireBarred_iff {x : Conv} : retireBarred q x ↔
    (x.subst.any fun u => u.faulty == objSub2 q || u.repl == objSub2 q) = true ∨ (x.waitSpare.any fun w => w.1 == objSub2 q) = true ∨
      (x.rot = .shadowIn ∧ x.standIn = some (objSub2 q)) := by
  simp [retireBarred]

theorem convSliceRetire_full (h : 4 ≤ (retireConv q s).retired) : convSliceRetire q s = (retireState q s, refuse stNoSpare) := if_pos h

section

variable (few : (retireConv q s).retired < 4)
include few

theorem convSliceRetire_barred (h : retireBarred q (retireConv q s)) : convSliceRetire q s = (retireState q s, refuse stBadState) :=
  (if_neg (Nat.not_le.2 few)).trans (if_pos (retireBarred_iff.1 h))

variable (free : ¬retireBarred q (retireConv q s))
include free

theorem convSliceRetire_retired (role : (retireConv q s).roles.getD (objSub2 q) .retired = .retired) :
    convSliceRetire q s = (retireState q s, refuse stBadState) := by
  simp only [convSliceRetire, retireState_eq, retireConv_eq, Nat.not_le.2 few, mt retireBarred_iff.2 free, if_false, role]

theorem convSliceRetire_spare (role : (retireConv q s).roles.getD (objSub2 q) .retired = .spare) : convSliceRetire q s =
    (countForced (reqCarrier q) (convOf (objSub q)) (retireSlice (reqCarrier q) (convOf (objSub q)) (objSub2 q) 0xFF (retireState q s)),
      ok (leBytes 1 0xFF)) := by
  simp only [convSliceRetire, retireState_eq, retireConv_eq, Nat.not_le.2 few, mt retireBarred_iff.2 free, if_false, role]

theorem convSliceRetire_measured {p : Nat} (role : (retireConv q s).roles.getD (objSub2 q) .retired = .measuring)
    (pos : (retireConv q s).visitPos = some p) : convSliceRetire q s =
      (measuredLost (reqCarrier q) (convOf (objSub q)) (countForced (reqCarrier q) (convOf (objSub q)) (retireState q s)), ok (leBytes 1 p)) := by
  simp only [convSliceRetire, retireState_eq, retireConv_eq, Nat.not_le.2 few, mt retireBarred_iff.2 free, if_false, role, pos]

theorem convSliceRetire_measuredSpare (role : (retireConv q s).roles.getD (objSub2 q) .retired = .measuring)
    (pos : (retireConv q s).visitPos = none) : convSliceRetire q s =
      (retireSlice (reqCarrier q) (convOf (objSub q)) (objSub2 q) 0xFF (onConv (reqCarrier q) (convOf (objSub q)) (fun x =>
        { x.clearVisit with rot := .gap, visits := bump x.visits, forced := bump x.forced }) (retireState q s)), ok (leBytes 1 0xFF)) := by
  simp only [convSliceRetire, retireState_eq, retireConv_eq, Nat.not_le.2 few, mt retireBarred_iff.2 free, if_false, role, pos]

/-- The position that the slice holds. -/
def retirePos (q : Request) (s : State) : Nat := ((retireConv q s).posOf (objSub2 q)).getD 0xFF

variable (role : (retireConv q s).roles.getD (objSub2 q) .retired = .active)
include role

theorem convSliceRetire_standIn (by_ : (retireConv q s).standIn = some (objSub2 q))
    (rot : (retireConv q s).rot = .measure ∨ (retireConv q s).rot = .shadowOut) : convSliceRetire q s =
      (standInLost (reqCarrier q) (convOf (objSub q)) (countForced (reqCarrier q) (convOf (objSub q)) (retireState q s)),
        ok (leBytes 1 (retirePos q s))) := by
  simp only [convSliceRetire, retireState_eq, retireConv_eq, Nat.not_le.2 few, mt retireBarred_iff.2 free, if_false, role]
  simp only [by_, rot, true_and, if_true, retirePos]

theorem convSliceRetire_off_none (rot : (retireConv q s).rot = .off) (none_ : (retireConv q s).spares = []) :
    convSliceRetire q s = (retireState q s, refuse stNoSpare) := by
  simp only [convSliceRetire, retireState_eq, retireConv_eq, Nat.not_le.2 few, mt retireBarred_iff.2 free, if_false, role]
  simp only [rot, none_, reduceCtorEq, or_self, and_false, if_false, if_true]

/-- On a disabled carrier the lowest spare takes the position at once. -/
theorem convSliceRetire_off {r : Nat} {l : List Nat} (rot : (retireConv q s).rot = .off) (spares : (retireConv q s).spares = r :: l) :
    convSliceRetire q s = (countForced (reqCarrier q) (convOf (objSub q)) (retireSlice (reqCarrier q) (convOf (objSub q)) (objSub2 q) (retirePos q s)
      (onConv (reqCarrier q) (convOf (objSub q)) (fun x => x.place (retirePos q s) r) (retireState q s))), ok (leBytes 1 (retirePos q s))) := by
  simp only [convSliceRetire, retireState_eq, retireConv_eq, Nat.not_le.2 few, mt retireBarred_iff.2 free, if_false, role]
  simp only [rot, spares, reduceCtorEq, or_self, and_false, if_false, if_true, retirePos]

variable (other : (retireConv q s).standIn ≠ some (objSub2 q)) (on : (retireConv q s).rot ≠ .off)
include other on

theorem convSliceRetire_none (none_ : (retireConv q s).spares = []) (h1 : (retireConv q s).rot ≠ .measure) (h2 : (retireConv q s).rot ≠ .shadowOut) :
    convSliceRetire q s = (raiseConv 35 (reqCarrier q) (convOf (objSub q)) (objSub2 q) (retirePos q s) (retireState q s), refuse stNoSpare) := by
  simp only [convSliceRetire, retireState_eq, retireConv_eq, Nat.not_le.2 few, mt retireBarred_iff.2 free, if_false, role]
  simp only [other, on, none_, h1, h2, false_and, if_false, List.isEmpty_nil, ne_eq, not_false_eq_true, and_self, if_true, retirePos]

theorem convSliceRetire_begins (some_ : (retireConv q s).spares ≠ []) : convSliceRetire q s =
    (beginTransition (.conv (reqCarrier q) (convOf (objSub q))) 0x0212 q
      (startSubst (reqCarrier q) (convOf (objSub q)) (objSub2 q) true (retireState q s)), .later) := by
  simp only [convSliceRetire, retireState_eq, retireConv_eq, Nat.not_le.2 few, mt retireBarred_iff.2 free, if_false, role]
  simp only [other, on, List.isEmpty_iff, some_, false_and, if_false]

end

end Sys2Proof.Machine
end

section
/-! The statement on the converters, assembled. -/

namespace Sys2Proof.Machine

/-- A retirement that completes at once. -/
theorem exec_convSliceRetire_done {q : Request} {s u : State} {r : Resp} (run : runs 0x0212 q s = true) (e : convSliceRetire q s = (u, .done r)) :
    exec (.convSliceRetire q) s = .next (complete q.ch q.tag r u) := by
  rw [exec_convSliceRetire, deskRun_done run e]

/-- Settles O51: each clause is the rule of one function, in the order of the statement. That the first run's word and the second
run's residuals decide and a slice is unfit only when neither run selects (log 61), that a forced retirement for which no spare can
be freed is refused and a spare's retirement counts as a visit (log 62), and that a forced substitution counts among the
substitutions (log 102) are the model's choices. -/
theorem convertersKeepCalibrated : Obligations.ConvertersKeepCalibrated := by
  refine ⟨fun q s run => ⟨fun barred => ?_, fun free => ?_⟩, fun q rs s run parsed => ?_,
    fun c vs s k => ⟨rotationSet_other, fun mine => ⟨rotationSet_waits mine, rotationSet_acts mine⟩⟩, fun q s run => ?_,
    fun c s => rfl, fun c k v s => ⟨fun above quiet => ?_, fun above raised => ?_, staleCheck_below⟩,
    fun c k sl r s => ⟨fun keep => ?_, fun drop => ?_⟩, fun c s => ⟨fun idle => ?_, fun f fg => ⟨fun hold => ?_, fun on more => ?_⟩⟩,
    fun s c f k a x sl => ⟨fun n => judgeForeground_fit, judgeForeground_unfit, fun failed first => ?_, fun failed again => ?_⟩,
    fun c k s p si m sel => ⟨fun rot pos by_ of => ?_, fun rot pos by_ of => ?_, fun h1 h2 => ?_, fun rot pos by_ => ?_, fun rot of => ?_⟩,
    fun c k s => ⟨fun idle => ?_, fun m of => ⟨fun out => ?_, fun n out rot => ?_, fun out rot => ?_, fun out rot => ⟨fun few => ?_, fun limit => ?_⟩,
      fun n out rot => ?_⟩⟩,
    fun s c k a b => ⟨judgeRuns_disagree, fun agree => ⟨judgeRuns_unfit agree, fun found => ⟨judgeRuns_fit agree found, judgeRuns_misfit agree found⟩⟩⟩,
    fun c k s => ⟨fun other => ?_, fun gap => ?_⟩, fun c k s => select_halts,
    fun c k ts s => ⟨fun idle => ?_, fun h1 h2 first => ?_, fun sl h1 h2 one again fresh free => ?_⟩,
    fun c k pos sel s => ⟨fun none_ => ?_, fun u one at_ => ?_⟩⟩
  · rw [exec_convCalibrate, deskRun_done run (convCalibrate_barred barred)]
  · rw [exec_convCalibrate, deskRun_later run (convCalibrate_begins free)]
    rfl
  · rw [exec_convRotationSet, deskRun_done run (pCommand_accepted parsed)]
    rfl
  · refine ⟨fun full => ?_, fun few => ⟨fun barred => ?_, fun free => ⟨fun role => ?_, fun role => ?_, fun role p pos => ?_,
      fun role pos => ?_, fun role by_ rot => ?_, fun role off => ⟨fun none_ => ?_, fun r l spares => ?_⟩,
      fun role other on => ⟨fun none_ h1 h2 => ?_, fun some_ => ?_⟩⟩⟩⟩
    · exact exec_convSliceRetire_done run (convSliceRetire_full full)
    · exact exec_convSliceRetire_done run (convSliceRetire_barred few barred)
    · exact exec_convSliceRetire_done run (convSliceRetire_retired few free role)
    · exact exec_convSliceRetire_done run (convSliceRetire_spare few free role)
    · exact exec_convSliceRetire_done run (convSliceRetire_measured few free role pos)
    · exact exec_convSliceRetire_done run (convSliceRetire_measuredSpare few free role pos)
    · exact exec_convSliceRetire_done run (convSliceRetire_standIn few free role by_ rot)
    · exact exec_convSliceRetire_done run (convSliceRetire_off_none few free role off none_)
    · exact exec_convSliceRetire_done run (convSliceRetire_off few free role off spares)
    · exact exec_convSliceRetire_done run (convSliceRetire_none few free role other on none_ h1 h2)
    · rw [exec_convSliceRetire, deskRun_later run (convSliceRetire_begins few free role other on some_)]
      rfl
  · rw [staleCheck_above above, quiet, Bool.not_false, raiseIf_true]
  · rw [staleCheck_above above, raised, Bool.not_true, raiseIf_false]
    exact onConv_congr (by simp [raised])
  · rw [exec_measurementRunEnd, runEnd_kept keep]
  · rw [exec_measurementRunEnd, runEnd_dropped drop]
  · rw [exec_calibrationGroupEnd, groupEnd_idle idle]
  · rw [exec_calibrationGroupEnd, groupEnd_waits fg hold]
  · rw [exec_calibrationGroupEnd, groupEnd_judges fg on more]
    rfl
  · rw [judgeForeground_failed failed, if_pos first]
  · rw [judgeForeground_failed failed, if_neg (Nat.not_lt.2 again)]
  · rw [exec_shadowAgree, shadowAgree_in rot pos by_, of]
    exact congrArg _ (onConv_congr (by simp [install_eq, Conv.place, Conv.setRole]))
  · rw [exec_shadowAgree, shadowAgree_out rot pos by_ of]
    exact congrArg (fun u => Host.Outcome.next (serveWaiting c k u)) (onConv_congr (by simp [install_eq, Conv.place, Conv.setRole, Conv.clearVisit]))
  · rw [exec_shadowAgree, exec_shadowTimeout, (shadow_idle h1 h2).1, (shadow_idle (sel := 0) h1 h2).2]
    exact ⟨rfl, rfl⟩
  · rw [exec_shadowTimeout, shadowTimeout_in rot pos by_]
  · rw [exec_shadowTimeout, shadowTimeout_out rot, measuredLost_eq of]
    rfl
  · rw [exec_sliceMeasurementEnd, measurementEnd_idle idle]
  · rw [exec_sliceMeasurementEnd, measurementEnd_waits of out]
  · rw [exec_sliceMeasurementEnd, measurementEnd_fit of out rot]
  · rw [exec_sliceMeasurementEnd, measurementEnd_unfit of out rot]
  · rw [exec_sliceMeasurementEnd, measurementEnd_failed of out rot]
    simp only [if_neg (Int.not_le.2 few), onConv_onConv]
  · rw [exec_sliceMeasurementEnd, measurementEnd_failed of out rot]
    simp only [if_pos limit]
  · rw [exec_sliceMeasurementEnd, measurementEnd_fit_spare of out rot]
    rfl
  · rw [exec_rotationGapEnd, gapEnd_eq, if_neg other]
  · rw [exec_rotationGapEnd, gapEnd_eq, if_pos gap]
  · rw [exec_faultWindowEnd, faultWindow_idle idle]
  · rw [exec_faultWindowEnd, faultWindow_first h1 h2 first]
    rfl
  · rw [exec_faultWindowEnd, faultWindow_fault h1 h2 one again fresh free]
  · rw [exec_emergencyAlignComplete, emergencyDone_none none_]
  · rw [exec_emergencyAlignComplete, ← at_, emergencyDone_ends one]

end Sys2Proof.Machine
end

section
/-! Byte strings of the line's overhead: most-significant-first fields, the CRC of a header and the additive scramblers
(07_folio_encryption.md R163 to R166; 00_scope.md R8). -/

namespace Sys2Proof.Machine

/-! ### Most-significant-first fields -/

theorem beBytes_length (k n : Nat) : (beBytes k n).length = k := by
  rw [beBytes, List.length_reverse, leBytes_length]

theorem beNat_beBytes (k n : Nat) : beNat (beBytes k n) = n % 256 ^ k := by
  rw [beNat, beBytes, List.reverse_reverse, leNat_leBytes]

/-- The bytes that stand after `l` in a string. -/
theorem bytesAt_append {l m r : List Byte} {off n : Nat} (hl : l.length = off) (hm : m.length = n) : bytesAt (l ++ (m ++ r)) off n = m := by
  subst hl hm
  simp [bytesAt]

/-- A field reads as it was written. -/
theorem beAt_beBytes {l r : List Byte} {off k n : Nat} (hl : l.length = off) : beAt (l ++ (beBytes k n ++ r)) off k = n % 256 ^ k := by
  rw [beAt, bytesAt_append hl (beBytes_length k n), beNat_beBytes]

theorem byteAt_beBytes {l r : List Byte} {off n : Nat} (hl : l.length = off) : byteAt (l ++ (beBytes 1 n ++ r)) off = n % 256 := by
  subst hl
  simp [byteAt, beBytes, leBytes]

/-! ### The CRC -/

theorem crcBit_lt {w poly crc : Nat} {b : Bool} (h : poly < 2 ^ w) : crcBit w poly crc b < 2 ^ w := by
  have shifted : crc * 2 % 2 ^ w < 2 ^ w := Nat.mod_lt _ (Nat.two_pow_pos w)
  unfold crcBit
  dsimp only
  split
  · exact Nat.xor_lt_two_pow shifted h
  · exact shifted

theorem crcBytes_lt {w poly init : Nat} {l : List Byte} (hp : poly < 2 ^ w) (hi : init < 2 ^ w) : crcBytes w poly init l < 2 ^ w :=
  fold_good (p := (· < 2 ^ w)) (fun _ _ hc => fold_good (p := (· < 2 ^ w)) (fun _ _ _ => crcBit_lt hp) hc) hi

theorem crc16_lt (l : List Byte) : crc16 l < 65536 := crcBytes_lt (w := 16) (by decide) (by decide)

/-- A block that ends with the CRC-16 of what stands before it. -/
theorem beAt_crc16 {b : List Byte} {n : Nat} (h : b.length = n) :
    beAt (b ++ beBytes 2 (crc16 b)) n 2 = crc16 (bytesAt (b ++ beBytes 2 (crc16 b)) 0 n) := by
  have body := bytesAt_append (l := []) (off := 0) (m := b) (r := beBytes 2 (crc16 b)) rfl h
  have sum := beAt_beBytes (l := b) (r := []) (k := 2) (n := crc16 b) h
  rw [List.nil_append] at body
  rw [List.append_nil] at sum
  rw [body, sum]
  exact Nat.mod_eq_of_lt (crc16_lt b)

/-! ### The scramblers -/

theorem prbsXor_length {n t r : Nat} {bs : List Byte} : (prbsXor n t r bs).length = bs.length := by
  induction bs generalizing r with
  | nil => rfl
  | cons b bs ih => simp only [prbsXor, List.length_cons, ih]

/-- An additive scrambler undoes itself from the same register. -/
theorem prbsXor_prbsXor {n t r : Nat} {bs : List Byte} : prbsXor n t r (prbsXor n t r bs) = bs := by
  induction bs generalizing r with
  | nil => rfl
  | cons b bs ih => simp only [prbsXor, ih, BitVec.xor_assoc, BitVec.xor_self, BitVec.xor_zero]

end Sys2Proof.Machine
end

section
/-! The folio header and the other fields of the overhead block that is sent, and the use of a folio's periods
(07_folio_encryption.md R161, R163, R164, R173; 09_mapping_protection.md R216; 11_time_references.md R265). -/

namespace Sys2Proof.Machine

variable {c : Fin 2} {g : Fin 16} {s : State} {ais : Bool}

/-- The 14 bytes of the header before its CRC (R164). -/
def headerBody (s : State) (c : Fin 2) (g : Fin 16) (ais : Bool) : List Byte :=
  beBytes 4 (s.fol c g).txVolume ++ beBytes 1 (s.fol c g).txFolio ++ beBytes 1 ((if multiGroup s then 16 * g.val else 0) + b2n ais)
    ++ beBytes 1 (groupSlices s c g.val) ++ beBytes 2 (cwField s c g).1 ++ beBytes 3 (cwField s c g).2 ++ beBytes 2 (oducPtr s c g)

theorem txHeader_eq : txHeader s c g ais = headerBody s c g ais ++ beBytes 2 (crc16 (headerBody s c g ais)) := rfl

theorem headerBody_length : (headerBody s c g ais).length = 14 := by
  simp only [headerBody, List.length_append, beBytes_length]

theorem txHeader_length : (txHeader s c g ais).length = 16 := by
  rw [txHeader_eq, List.length_append, headerBody_length, beBytes_length]

theorem txHeader_volume (h : (s.fol c g).txVolume < 2 ^ 32) : beAt (txHeader s c g ais) 0 4 = (s.fol c g).txVolume := by
  simp only [txHeader_eq, headerBody, List.append_assoc]
  exact (beAt_beBytes (l := []) rfl).trans (Nat.mod_eq_of_lt h)

theorem txHeader_folio (h : (s.fol c g).txFolio < 256) : byteAt (txHeader s c g ais) 4 = (s.fol c g).txFolio := by
  simp only [txHeader_eq, headerBody, List.append_assoc]
  exact (byteAt_beBytes (beBytes_length 4 _)).trans (Nat.mod_eq_of_lt h)

theorem srSent_length : (srSent s g).length = 6 := by
  unfold srSent
  dsimp only
  split <;> simp only [List.length_append, leBytes_length, beBytes_length]

theorem txColophon_length : (txColophon s c g).length = 16 := by
  unfold txColophon
  extract_lets f l x tv b
  have body : b.length = 14 := by
    unfold b
    clear_value x
    cases x <;> simp only [List.length_append, beBytes_length, List.length_replicate]
  rw [List.length_append, body, beBytes_length]

theorem txKeyField_length {k : Crypt} : (txKeyField k).length = 26 := by
  simp only [txKeyField, List.length_append, beBytes_length]

/-- Periods 1 to 31 are training; from 33 on, those that are no pilots are overhead first, then data (R161). -/
theorem periodOf_training {n i : Nat} (h0 : 0 < i) (h : i < 32) : periodOf n i = .training := by
  rw [periodOf, if_neg (by omega), if_pos h]

theorem periodOf_pilot {n i : Nat} (h : i % 32 = 0) : periodOf n i = .pilot (i / 32) := if_pos h

theorem periodOf_body {n i : Nat} (h : 32 < i) (h0 : i % 32 ≠ 0) : periodOf n i =
    if i - 32 - i / 32 < ohPeriods n then .overhead (i - 32 - i / 32) else .data (i - 32 - i / 32 - ohPeriods n) := by
  rw [periodOf, if_neg h0, if_neg (by omega)]

end Sys2Proof.Machine
end

section
/-! A carrier's commands and its foreground calibration (14_command_reference.md R342, R343; 02_converters.md R40, R41;
16_power.md R390). -/

namespace Sys2Proof.Machine

variable {q : Request} {s : State} {c : Fin 2}

theorem exec_carrierProvision : exec (.carrierProvision q) s = .next (pmSync (deskRun 0x0201 carrierProvision q s)) := rfl

theorem exec_carrierEnable : exec (.carrierEnable q) s = .next (deskRun 0x0202 carrierEnable q s) := rfl

theorem exec_carrierDisable : exec (.carrierDisable q) s = .next (deskRun 0x0203 carrierDisable q s) := rfl

theorem exec_foregroundCalComplete : exec (.foregroundCalComplete c) s = .next (foregroundDone c s) := rfl

/-! ### CARRIER.PROVISION -/

theorem exec_carrierProvision_done {u : State} {r : Resp} (run : runs 0x0201 q s = true) (e : carrierProvision q s = (u, .done r)) :
    exec (.carrierProvision q) s = .next (pmSync (complete q.ch q.tag r u)) := by
  rw [exec_carrierProvision, deskRun_done run e]

theorem carrierProvision_enabled (h : (s.car (reqCarrier q)).enabled = true) : carrierProvision q s = (s, refuse stBadState) := if_pos h

theorem carrierProvision_bad {off : Nat} (h : (s.car (reqCarrier q)).enabled = false) (bad : provBad s q = some off) :
    carrierProvision q s = (s, badParam off) := by
  simp [carrierProvision, h, bad]

theorem carrierProvision_accepted (h : (s.car (reqCarrier q)).enabled = false) (good : provBad s q = none) : carrierProvision q s =
    (keepBody 0x0201 q (assignSubs (reqCarrier q) (onCar (reqCarrier q) (fun x => { x with
      provisioned := true, symRate := u32 q 4, ldpcRate := u8 q 8, adcFs := u8 q 9, dacSwing := u16 q 10
      groupMap := provMap q, slices := provSlices q, targets := provTargets q }) s)), ok) := by
  simp [carrierProvision, h, good]

/-! The fields are judged in the order of the body (R343). -/

theorem provBad_rate (h : u32 q 4 < 144000 ∨ 288000 < u32 q 4 ∨ u32 q 4 % 2250 ≠ 0) : provBad s q = some 4 := if_pos h

section

variable (lo : 144000 ≤ u32 q 4) (hi : u32 q 4 ≤ 288000) (step : u32 q 4 % 2250 = 0)
include lo hi step

theorem symRate_allowed : ¬(u32 q 4 < 144000 ∨ 288000 < u32 q 4 ∨ u32 q 4 % 2250 ≠ 0) := by omega

theorem provBad_ldpc (h : 2 < u8 q 8) : provBad s q = some 8 := by
  simp only [provBad, if_neg (symRate_allowed lo hi step), if_pos h]

variable (ldpc : u8 q 8 ≤ 2)
include ldpc

theorem provBad_fs (h : 2 < u8 q 9) : provBad s q = some 9 := by
  simp only [provBad, if_neg (symRate_allowed lo hi step), if_neg (Nat.not_lt.2 ldpc), if_pos h]

variable (fs : u8 q 9 ≤ 2)
include fs

theorem provBad_swing (h : u16 q 10 < 300 ∨ 600 < u16 q 10 ∨ u16 q 10 % 25 ≠ 0) : provBad s q = some 10 := by
  simp only [provBad, if_neg (symRate_allowed lo hi step), if_neg (Nat.not_lt.2 ldpc), if_neg (Nat.not_lt.2 fs), if_pos h]

variable (low : 300 ≤ u16 q 10) (high : u16 q 10 ≤ 600) (swing : u16 q 10 % 25 = 0)
include low high swing

/-- With every scalar in range the map and then the slices and targets are judged (R170). -/
theorem provBad_scalars : provBad s q =
    if mapOk s (provMap q) = true then badSlices s (u32 q 4) (u8 q 8) (provMap q) (provSlices q) (provTargets q) else some 12 := by
  have dac : ¬(u16 q 10 < 300 ∨ 600 < u16 q 10 ∨ u16 q 10 % 25 ≠ 0) := by omega
  simp only [provBad, if_neg (symRate_allowed lo hi step), if_neg (Nat.not_lt.2 ldpc), if_neg (Nat.not_lt.2 fs), if_neg dac]
  cases mapOk s (provMap q) <;> rfl

end

/-! ### CARRIER.ENABLE -/

/-- What bars the enable of a carrier (R342, R422; a provisioning that does not fit the mode: log 65). -/
def enableBarred (s : State) (c : Fin 2) : Prop :=
  (s.car c).provisioned = false ∨ provFits s c = false ∨ (s.car c).enabled = true ∨ (s.car c).enabling = true ∨ stopHolds s = true

theorem carrierEnable_barred (h : enableBarred s (reqCarrier q)) : carrierEnable q s = (s, refuse stBadState) :=
  if_pos (by simpa [enableBarred] using h)

theorem carrierEnable_noPages {st : Nat} (h : ¬enableBarred s (reqCarrier q))
    (full : allocRegion (4 + (reqCarrier q).val) (rxQueuePages s (reqCarrier q).val) s = .error st) : carrierEnable q s = (s, refuse st) := by
  refine (if_neg (by simpa [enableBarred] using h)).trans ?_
  rw [full]

/-- The enable of a carrier whose receive queue has its pages: its domain and the pools' are brought to RUN (R390). -/
theorem carrierEnable_begins {u : State} (h : ¬enableBarred s (reqCarrier q))
    (pages : allocRegion (4 + (reqCarrier q).val) (rxQueuePages s (reqCarrier q).val) s = .ok u) : carrierEnable q s =
      let v := requestDomain (reqCarrier q) .run (beginTransition (.carrier (reqCarrier q)) 0x0202 q
        (onCar (reqCarrier q) (fun x => { x with enabling := true }) u))
      (carrierProceed (reqCarrier q) ((poolsIn v).foldl (fun s p => requestDomain (8 + p) .run s) v), .later) := by
  refine (if_neg (by simpa [enableBarred] using h)).trans ?_
  rw [pages]

/-- An enable goes on: nothing is being calibrated and its domains are in RUN. -/
def enableGoes (s : State) (c : Fin 2) : Prop := (s.car c).enabling = true ∧ (s.car c).fg = none ∧ carrierDomains c s = true

theorem carrierProceed_waits (h : ¬enableGoes s c) : carrierProceed c s = s := if_neg h

theorem carrierProceed_goes (h : enableGoes s c) :
    carrierProceed c s = if needsForeground s c = true then fgStart c true false s else carrierEnabled c s := if_pos h

/-! ### The end of a foreground calibration -/

variable {f : Foreground}

theorem foregroundDone_idle (h : (s.car c).fg = none) : foregroundDone c s = s := by
  simp only [foregroundDone, h]

theorem foregroundDone_waits (h : (s.car c).fg = some f) (hold : s.dom c ≠ .run ∨ f.group < 17 + f.repeatGroups) : foregroundDone c s = s := by
  simp only [foregroundDone, h, if_pos hold]

/-- The carrier with its positions assigned and its calibration's events raised (R41, R46). -/
def fgAssigned (s : State) (c : Fin 2) (f : Foreground) : State :=
  (List.finRange 8).foldl (fun t k => fgEvents c f (s.car c) k t) (onCar c (fun x => { x with convs := x.convs.map Conv.assign }) s)

/-- More than 4 slices of a converter are RETIRED. -/
def slicesLost (s : State) (c : Fin 2) : Prop := ∃ x ∈ (s.car c).convs.toList, 4 < x.retired

theorem slicesLost_iff : slicesLost s c ↔ ((s.car c).convs.toList.any fun x => decide (4 < x.retired)) = true := by
  simp only [slicesLost, List.any_eq_true, decide_eq_true_eq]

/-- A calibration that an enable began fails, or writes the Catalogue and ends the enable. -/
theorem foregroundDone_enable (h : (s.car c).fg = some f) (run : s.dom c = .run) (all : 17 + f.repeatGroups ≤ f.group) (byEnable : f.byEnable = true) :
    (slicesLost (fgAssigned s c f) c → foregroundDone c s = carrierFailed c stCalFail (fgAssigned s c f)) ∧
    (¬slicesLost (fgAssigned s c f) c → foregroundDone c s =
      carrierEnabled c ((List.finRange 8).foldl (fun t k => convWrite c k t) (fgAssigned s c f))) := by
  have go : ¬(s.dom c ≠ .run ∨ f.group < 17 + f.repeatGroups) := by simp [run, all]
  have assigned : (List.finRange 8).foldl (fun t k => fgEvents c f (s.car c) k t)
      (onCar c (fun x => { x with convs := x.convs.map Conv.assign }) s) = fgAssigned s c f := rfl
  refine ⟨fun lost => ?_, fun kept => ?_⟩
  · simp only [foregroundDone, h, if_neg go, assigned, if_pos (slicesLost_iff.1 lost), byEnable, if_true]
  · simp only [foregroundDone, h, if_neg go, assigned, if_neg (mt slicesLost_iff.2 kept), byEnable, if_true]

end Sys2Proof.Machine
end

section
/-! Received folios and the loss of signal (03_receive_dsp.md R70, R71; 05_readers_decoding.md R124). -/

namespace Sys2Proof.Machine

variable {c : Fin 2} {g : Fin 16} {s : State}

theorem exec_losDeclare : exec (.losDeclare c) s = .next (losDeclare c s) := rfl

theorem exec_losClear : exec (.losClear c) s = .next (losClear c s) := rfl

theorem exec_folioRelease : exec (.folioRelease c g) s = .next (folioRelease c g s) := rfl

section

variable {sub : Nat} {pilots : List PilotRun} {ys : List Int}

theorem exec_folioArrival : exec (.folioArrival c g sub pilots ys) s = .next (folioArrival c g sub pilots ys s) := rfl

/-- A folio that arrives: its first symbol is stamped to 1/64 of a symbol, and its pilots are heard (R67, R70). -/
def arrivalHeard (c : Fin 2) (g : Fin 16) (sub : Nat) (pilots : List PilotRun) (s : State) : State :=
  hearPilots c g pilots (onRxg c g (fun x => { x with arrival := symStamp s c sub }) s)

theorem folioArrival_idle (h1 : (s.rxg c g).st ≠ .track) (h2 : (s.rxg c g).st ≠ .eqAcq) : folioArrival c g sub pilots ys s = s :=
  if_neg (not_or.2 ⟨h1, h2⟩)

theorem folioArrival_eqAcq (h : (s.rxg c g).st = .eqAcq) : folioArrival c g sub pilots ys s = arrivalHeard c g sub pilots s := by
  simp only [folioArrival, h, or_true, if_true, reduceCtorEq, if_false]
  rfl

theorem folioArrival_track (h : (s.rxg c g).st = .track) : folioArrival c g sub pilots ys s =
    let v := rxLoadBoundary c g (reacquireSubs c g (arrivalHeard c g sub pilots s))
    onRxg c g (fun x => x.takeFolio (symStamp s c sub) (demapFolio v c g ys)) v := by
  simp only [folioArrival, h, true_or, if_true]
  rfl

end

theorem losDeclare_idle (h : (s.rxc c).st = .off ∨ (s.rxc c).los = true) : losDeclare c s = s := if_pos h

theorem losDeclare_new (on : (s.rxc c).st ≠ .off) (h : (s.rxc c).los = false) :
    losDeclare c s = carrierHeard c (safetyLos c (tonesOff c (rxLos c s))) := if_neg (by simp [on, h])

theorem losClear_idle (h : (s.rxc c).st = .off ∨ (s.rxc c).los = false) : losClear c s = s := if_pos (by simpa using h)

theorem losClear_new (on : (s.rxc c).st ≠ .off) (h : (s.rxc c).los = true) :
    losClear c s = safetyLosClear c (tonesIdle c (rxLosClear c s)) := if_neg (by simp [on, h])

theorem folioRelease_empty (h : (s.rxg c g).due = []) : folioRelease c g s = s := by
  simp only [folioRelease, h]

/-- The oldest folio waits for its release time (R30). -/
theorem folioRelease_oldest {d : DueFolio} {r : List DueFolio} (h : (s.rxg c g).due = d :: r) : folioRelease c g s =
    if s.tod16 < releaseTime s c d then s else releaseFolio c g d (onRxg c g (fun x => { x with due := r }) s) := by
  simp only [folioRelease, h]

end Sys2Proof.Machine
end

section
/-! Transmitted folios and volumes (07_folio_encryption.md R163 to R174; 01_organisation.md R28, R29; 09_mapping_protection.md
R218, R219). -/

namespace Sys2Proof.Machine

variable {c : Fin 2} {g : Fin 16} {s : State}

section

variable {sub : Nat} {src : Option (List (List Nat))}

theorem exec_txFolioBoundary : exec (.txFolioBoundary c g sub src) s = .next (txFolioBoundary c g sub src s) := rfl

theorem txFolioBoundary_off (h : (s.fol c g).txOn = false) : txFolioBoundary c g sub src s = s := if_pos (by rw [h]; rfl)

theorem txFolioBoundary_on (h : (s.fol c g).txOn = true) : txFolioBoundary c g sub src s =
    sendFolio c g (symStamp s c sub) (txArea c g src s).1
      (loadBoundary c g (hubStep c g (poisonOutIf (txArea c g src s).2.1 2 (txArea c g src s).2.2))) :=
  if_neg (by simp [h])

/-- The partner of a protection group has sent the folio of this number already (R218). -/
def areaShared (s : State) (c : Fin 2) (g : Fin 16) : Prop :=
  s.prot[g].exists_ = true ∧ (s.fol (1 - c) g).txOn = true ∧ (s.fol (1 - c) g).txStamp ≠ 0 ∧
    (s.fol (1 - c) g).sentNum = ((s.fol c g).txVolume, (s.fol c g).txFolio)

theorem txArea_shared (h : areaShared s c g) : txArea c g src s = ((s.fol (1 - c) g).plain, false, s) := if_pos h

variable (own : ¬areaShared s c g)
include own

theorem txArea_regenerator (mode : s.dev.mode = some .regenerator) : txArea c g src s =
    (if (s.fol (1 - c) g).released.isEmpty then none else some (s.fol (1 - c) g).released, false, s) :=
  (if_neg own).trans (if_pos mode)

variable (mode : s.dev.mode ≠ some .regenerator)
include mode

theorem txArea_none : txArea c g none s = (none, false, s) := (if_neg own).trans (if_neg mode)

/-- Without a list for each slice, or with a word outside the transmit queue's region, there is no area. -/
theorem txArea_bad {ws : List (List Nat)} (bad : ws.length ≠ groupSlices s c g.val ∨ ∃ l ∈ ws, ∃ w ∈ l, s.stk.codeAt (pageOf (w % 2 ^ 31)) ≠ 2) :
    txArea c g (some ws) s = (none, false, s) :=
  ((if_neg own).trans (if_neg mode)).trans (if_pos (by simpa using bad))

end

/-! ### Volumes -/

/-- A group's volume begins as the next one after number `v` (R165). -/
theorem beginVolume_eq {v : Nat} : beginVolume c g (v + 1) s = onFol c g (fun f => { f with
    txOn := true, joinPartner := false, txVolume := (v + 1) % 2 ^ 32, txFolio := 0, cwPos := 0, txTail := [], adopt := none }) s := rfl

theorem groupVolume_off (h : (s.fol c g).txOn = false) (mode : s.dev.mode ≠ some .leaf) : groupVolume c s g = s := by
  simp only [groupVolume, h, mode, false_and, if_false, Bool.false_eq_true]

theorem groupVolume_next (h : (s.fol c g).txOn = true) (own : (s.fol c g).adopt = none) :
    groupVolume c s g = joinWith c g (txKeyVolume c g (beginVolume c g ((s.fol c g).txVolume + 1) s)) := by
  simp only [groupVolume, h, own, if_true]

theorem groupVolume_adopts {v : Nat} (h : (s.fol c g).txOn = true) (hub : (s.fol c g).adopt = some v) :
    groupVolume c s g = joinWith c g (txKeyVolume c g (beginVolume c g (v + 1) s)) := by
  simp only [groupVolume, h, hub, if_true]

theorem groupVolume_leaf {v : Nat} (h : (s.fol c g).txOn = false) (hub : (s.fol c g).adopt = some v) (mode : s.dev.mode = some .leaf)
    (on : (s.txc c).txOn = true) : groupVolume c s g = txKeyVolume c g (beginVolume c g (v + 1) s) := by
  simp only [groupVolume, h, hub, mode, on, Option.isSome_some, and_self, if_true, if_false, Bool.false_eq_true]

/-! ### The folio that begins -/

theorem onFol_fol {f : FolioGroup → FolioGroup} : (onFol c g f s).fol c g = f (s.fol c g) := by
  show (upd s.folio c fun v => upd v g f)[c][g] = _
  rw [upd_get, if_pos rfl, upd_get, if_pos rfl]
  rfl

/-- The KEYSLOT word holds the slots alone (R452). -/
theorem keySlotWord_upd {v : Vector Crypt 16} {f : Crypt → Crypt} (tx : ∀ k, (f k).txSlot = k.txSlot) (rx : ∀ k, (f k).rxSlot = k.rxSlot) :
    keySlotWord (upd v g f) = keySlotWord v := by
  unfold keySlotWord
  congr 1
  refine List.map_congr_left fun j _ => ?_
  rw [upd_get]
  split
  · rw [tx, rx]
  · rfl

/-- An update that keeps the slots writes no Vault word. -/
theorem onCry_sameSlots {f : Crypt → Crypt} (tx : ∀ k, (f k).txSlot = k.txSlot) (rx : ∀ k, (f k).rxSlot = k.rxSlot) :
    onCry c g f s = { s with crypt := s.crypt.set c (upd s.crypt[c] g f) } := by
  simp only [onCry, keySlotWord_upd tx rx, if_true]

theorem encryptFolio_changes_crypt {bs : List Byte} : ∃ v, (encryptFolio c g bs s).2 = { s with crypt := v } := by
  unfold encryptFolio
  extract_lets k f sl acc e
  split
  · exact ⟨s.crypt, rfl⟩
  · exact ⟨_, onCry_sameSlots (fun _ => rfl) fun _ => rfl⟩

theorem encryptFolio_clear {bs : List Byte} (h : (s.cry c g).txEnc = false) : (encryptFolio c g bs s).1 = bs := by
  simp [encryptFolio, h]

end Sys2Proof.Machine
end

section
/-! The folio that begins, and the statement on carriers and folios assembled. -/

namespace Sys2Proof.Machine

variable {c : Fin 2} {g : Fin 16} {s : State}

/-- ODUC-AIS is sent without a payload, and while encryption is on without a key (R176). -/
def sendsAis (s : State) (c : Fin 2) (g : Fin 16) (payload : Option (List Byte)) : Bool :=
  payload.isNone || (encMode s c != 0 && !(s.cry c g).txEnc)

theorem sendsAis_iff {payload : Option (List Byte)} :
    sendsAis s c g payload = true ↔ payload = none ∨ (encMode s c ≠ 0 ∧ (s.cry c g).txEnc = false) := by
  simp [sendsAis]

/-- The payload area before encryption and scrambling. -/
def sentArea (s : State) (c : Fin 2) (g : Fin 16) (payload : Option (List Byte)) : List Byte :=
  if sendsAis s c g payload then aisArea (groupSlices s c g.val) (sliceBytes (s.car c).symRate) (s.fol c g).oducPos
  else padTo (groupSlices s c g.val * sliceBytes (s.car c).symRate) (payload.getD [])

/-- The overhead block of a folio (R163). -/
def sentBlock (s : State) (c : Fin 2) (g : Fin 16) (payload : Option (List Byte)) : List Byte :=
  scramble (txHeader s c g (sendsAis s c g payload) ++ txLoadingField s c g ++ txKeyField (s.cry c g) ++ srSent s g ++ txColophon s c g)

/-- The state before the group takes the folio that begins: its area is encrypted, and a volume's first stamp is kept (R171, R265). -/
def folioReady (c : Fin 2) (g : Fin 16) (stamp : Nat) (area : List Byte) (s : State) : State :=
  if (s.fol c g).txFolio = 0 then
    onLink c g (fun l => { l with tx := (((s.fol c g).txVolume, stamp) :: l.tx).take 256 }) (encryptFolio c g area s).2
  else (encryptFolio c g area s).2

theorem folioReady_changes_crypt_time {stamp : Nat} {area : List Byte} :
    ∃ v t, folioReady c g stamp area s = { s with crypt := v, time := t } := by
  obtain ⟨v, hv⟩ := encryptFolio_changes_crypt (c := c) (g := g) (bs := area) (s := s)
  unfold folioReady
  rw [hv]
  split
  · exact ⟨v, _, rfl⟩
  · exact ⟨v, s.time, rfl⟩

/-- What a folio that begins leaves in its group (R163 to R168). -/
theorem sendFolio_group {stamp : Nat} {payload : Option (List Byte)} :
    ∃ (past tail : _) (syms : _) (sent : List Byte), ((s.cry c g).txEnc = false →
        sent = folioScramble (s.fol c g).txFolio (folioCap s c g.val) (sentArea s c g payload)) ∧
      (sendFolio c g stamp payload s).fol c g = { s.fol c g with
        sentNum := ((s.fol c g).txVolume, (s.fol c g).txFolio), plain := payload, aisTx := sendsAis s c g payload, txStamp := stamp
        sentOh := sentBlock s c g payload, sentPayload := sent, sentPast := past, txTail := tail, sentSyms := syms
        cwPos := (s.fol c g).cwPos + folioBits s c g.val (s.txg c g).tableCur
        oducPos := ((s.fol c g).oducPos + sliceBytes (s.car c).symRate) % (15296 * 256), txFolio := ((s.fol c g).txFolio + 1) % 256 } := by
  unfold sendFolio
  extract_lets f k b m ais area e sent oh coded st syms s1
  obtain ⟨v, t, ready⟩ : ∃ v t, s1 = { s with crypt := v, time := t } := folioReady_changes_crypt_time
  have kept : s1.fol c g = s.fol c g := by
    rw [ready]
    rfl
  refine ⟨(sent :: f.sentPast).take 4, st.2, syms, sent, fun clear => ?_, ?_⟩
  · show folioScramble f.txFolio (folioCap s c g.val) (encryptFolio c g area s).1 = _
    rw [encryptFolio_clear clear]
    rfl
  · refine (onFol_fol (s := s1)).trans ?_
    rw [kept]
    rfl

theorem sendFolio_frame {stamp : Nat} {payload : Option (List Byte)} :
    { sendFolio c g stamp payload s with folio := s.folio, crypt := s.crypt, tx := s.tx, time := s.time } = s := by
  unfold sendFolio
  extract_lets f k b m ais area e sent oh coded st syms s1
  obtain ⟨v, t, ready⟩ : ∃ v t, s1 = { s with crypt := v, time := t } := folioReady_changes_crypt_time
  clear_value s1 sent oh syms st ais
  subst ready
  rfl

/-- The read of a codeword's slot that the queue holds. -/
theorem readSlot_held {slot seq : Nat} {x : QSlot} (h : s.dec.slots.find? (fun y => y.slot == slot) = some x) : readSlot c slot seq s =
    let r := readItem slot x.words (some (1, seq % 256)) { s with dec := { s.dec with
      slots := { slot := slot, car := c, seq := seq, words := x.words, unres := x.unres || x.seq != seq || x.car != c, readBegun := true } ::
        s.dec.slots.filter fun y => y.slot != slot } }
    (r.1, r.2.1, x.unres || x.seq != seq || x.car != c, r.2.2) := by
  simp only [readSlot, h]
  rfl

end Sys2Proof.Machine
end

section
/-! The statement on carriers and folios, assembled. -/

namespace Sys2Proof.Machine

/-- Settles O50: each clause is the rule of one function, in the order of the statement. That a provisioning which does not fit the
mode in force counts as none (log 65), that a refused GROUP_MAP gives DETAIL 12 (log 84) and that a LOST subcarrier starts again at
the next folio arrival of its group (log 88) are the model's choices. -/
theorem carriersAndFolios : Obligations.CarriersAndFolios := by
  refine ⟨fun q s run => ⟨fun enabled => ?_, fun off => ⟨fun rate => ?_, fun lo hi step => ⟨fun ldpc => ?_, fun ldpc => ⟨fun fs => ?_,
      fun fs swing => ?_, fun fs low high swing => ⟨fun map => ?_, fun map => ⟨fun o bad => ?_, fun fits => ?_⟩⟩⟩⟩⟩⟩,
    fun q s run => ⟨fun barred => ?_, fun free => ⟨fun st full => ?_, fun u pages => ?_⟩⟩,
    fun c s => ⟨carrierProceed_waits, fun go => ⟨fun need => ?_, fun ready => ?_⟩⟩, fun q s run => ?_,
    fun c s => ⟨fun idle => ?_, fun f fg => ⟨fun hold => ?_, fun on all => ⟨fun lost byEnable => ?_, fun kept byEnable => ?_⟩⟩⟩,
    fun c g sub pilots ys s => ⟨fun h1 h2 => ?_, fun acq => ?_, fun track => ?_⟩,
    fun c s => ⟨fun idle => ?_, fun on clear => ?_, fun idle => ?_, fun on los => ?_⟩, fun c g v s => rfl,
    fun c g sub src s => ⟨fun off => ?_, fun on => ?_⟩,
    fun c g src s => ⟨txArea_shared, fun own => ⟨txArea_regenerator own, fun mode none_ => ?_, fun ws mode some_ bad => ?_⟩⟩,
    fun c g stamp payload s => ?_, fun c g ais s => ?_, fun folio cap bs => ⟨prbsXor_length, prbsXor_prbsXor⟩,
    fun n i => ⟨periodOf_pilot, periodOf_training, fun h h0 => ⟨fun first => ?_, fun past => ?_⟩⟩, fun c g clips samples s => rfl,
    fun c g s => ⟨groupVolume_off, groupVolume_next, fun v hub => ⟨fun on => groupVolume_adopts on hub, fun off => groupVolume_leaf off hub⟩⟩,
    fun c g s => ⟨fun empty => ?_, fun d r oldest => ⟨fun early => ?_, fun due => ?_⟩⟩, fun c slot seq s x => readSlot_held, ?_⟩
  · exact exec_carrierProvision_done run (carrierProvision_enabled enabled)
  · exact exec_carrierProvision_done run (carrierProvision_bad off (provBad_rate rate))
  · exact exec_carrierProvision_done run (carrierProvision_bad off (provBad_ldpc lo hi step ldpc))
  · exact exec_carrierProvision_done run (carrierProvision_bad off (provBad_fs lo hi step ldpc fs))
  · exact exec_carrierProvision_done run (carrierProvision_bad off (provBad_swing lo hi step ldpc fs swing))
  · have bad : provBad s q = some 12 := by rw [provBad_scalars lo hi step ldpc fs low high swing, map, if_neg (by decide)]
    exact exec_carrierProvision_done run (carrierProvision_bad off bad)
  · have bad : provBad s q = some o := by rw [provBad_scalars lo hi step ldpc fs low high swing, if_pos map, bad]
    exact exec_carrierProvision_done run (carrierProvision_bad off bad)
  · have good : provBad s q = none := by rw [provBad_scalars lo hi step ldpc fs low high swing, if_pos map, fits]
    exact exec_carrierProvision_done run (carrierProvision_accepted off good)
  · rw [exec_carrierEnable, deskRun_done run (carrierEnable_barred barred)]
  · rw [exec_carrierEnable, deskRun_done run (carrierEnable_noPages free full)]
  · rw [exec_carrierEnable, deskRun_later run (carrierEnable_begins free pages)]
  · rw [carrierProceed_goes go, if_pos need]
  · rw [carrierProceed_goes go, if_neg (by simp [ready])]
  · rw [exec_carrierDisable, deskRun_done run rfl]
  · rw [exec_foregroundCalComplete, foregroundDone_idle idle]
  · rw [exec_foregroundCalComplete, foregroundDone_waits fg hold]
  · rw [exec_foregroundCalComplete, (foregroundDone_enable fg on all byEnable).1 lost]
    rfl
  · rw [exec_foregroundCalComplete, (foregroundDone_enable fg on all byEnable).2 kept]
    rfl
  · rw [exec_folioArrival, folioArrival_idle h1 h2]
  · rw [exec_folioArrival, folioArrival_eqAcq acq]
    rfl
  · rw [exec_folioArrival, folioArrival_track track]
    rfl
  · rw [exec_losDeclare, losDeclare_idle idle]
  · rw [exec_losDeclare, losDeclare_new on clear]
  · rw [exec_losClear, losClear_idle idle]
  · rw [exec_losClear, losClear_new on los]
  · rw [exec_txFolioBoundary, txFolioBoundary_off off]
  · rw [exec_txFolioBoundary, txFolioBoundary_on on]
  · rw [none_, txArea_none own mode]
  · rw [some_, txArea_bad own mode bad]
  · obtain ⟨past, tail, syms, sent, clear, group⟩ := sendFolio_group (c := c) (g := g) (s := s) (stamp := stamp) (payload := payload)
    dsimp only
    rw [group]
    exact ⟨sendsAis_iff, rfl, rfl, rfl, rfl, rfl, rfl, rfl, clear, sendFolio_frame⟩
  · exact ⟨txHeader_length, beAt_crc16 headerBody_length, txHeader_volume, txHeader_folio, srSent_length, txColophon_length, txKeyField_length⟩
  · rw [periodOf_body h h0, if_pos first]
  · rw [periodOf_body h h0, if_neg (Nat.not_lt.2 past)]
  · rw [exec_folioRelease, folioRelease_empty empty]
  · rw [exec_folioRelease, folioRelease_oldest oldest, releaseTime, if_pos early]
  · rw [exec_folioRelease, folioRelease_oldest oldest, releaseTime, if_neg (Nat.not_lt.2 due)]
  · decide

end Sys2Proof.Machine
end

section
/-! Who hears of a change in the receivers, the client framers or the parameters: the time source, the references, a group's ODUCm and
its protection group (11_time_references.md R259, R273; 08_client_framers.md R200; 09_mapping_protection.md R221). -/

namespace Sys2Proof.Machine

variable {s : State} {i : FramerId} {kind cont group : Nat}

/-! ### The choice of the time source and of the reference -/

section

variable {α : Type} {e : State → α} {t : State}

/-- A view that the choice of the time source does not touch. -/
structure SourceBlind (e : State → α) : Prop where
  time : ∀ f x, e (onTime f x) = e x := by intros; rfl
  evt : ∀ n ob a x, e (raise n ob a x) = e x := by intros; rfl
  par : ∀ (x : State) p, e { x with par := p } = e x := by intros; rfl

/-- A view that the choice of a reference does not touch: of the time engine it sees the priority table at most. -/
structure RefBlind (e : State → α) : Prop where
  time : ∀ f x, (∀ y, (f y).prio = y.prio) → e (onTime f x) = e x := by intros; rfl
  evt : ∀ n ob a x, e (raise n ob a x) = e x := by intros; rfl

theorem Same.reselect (h : Same e s t) (b : SourceBlind e := by exact {}) : Same e s (Machine.reselect t) := by
  unfold Machine.reselect
  extract_lets p10 s0 src s1
  have kept : Same e s s0 := h.onTime (b.time _)
  have switched : Same e s s1 := ((kept.trans (b.par s0 _)).onTime (b.time _)).raise0 (b.evt _ _ _)
  clear_value s0 s1
  refine .ite (fun _ => kept) fun _ => ?_
  split
  · exact (switched.onTime (b.time _)).raise0 (b.evt _ _ _)
  · exact (switched.onTime (b.time _)).raise0 (b.evt _ _ _)
  · exact switched.onTime (b.time _)
  · exact switched.onTime (b.time _)
  · exact switched

/-- An update of the time engine that keeps the priority table. -/
theorem Same.onTimeKept {f : TimeState → TimeState} (h : Same e s t) (b : RefBlind e) (kept : ∀ y, (f y).prio = y.prio := by intros; rfl) :
    Same e s (Machine.onTime f t) := h.onTime fun x => b.time f x kept

theorem Same.retarget {ago : Nat} (h : Same e s t) (b : RefBlind e := by exact {}) : Same e s (Machine.retarget ago t) := by
  unfold Machine.retarget
  extract_lets s0 tg s1 y
  have aimed : Same e s s1 := (h.onTimeKept b).onTimeKept b
  clear_value y s1 tg
  split
  · exact .ite (fun _ => aimed) fun _ => (aimed.onTimeKept b).raise (b.evt _ _ _)
  · refine .ite (fun _ => aimed) fun _ => ?_
    split
    · exact (aimed.onTimeKept b).raise0 (b.evt _ _ _)
    · exact (aimed.onTimeKept b).raise0 (b.evt _ _ _)

theorem Same.onCand {k : Fin 12} {f : Cand → Cand} (h : Same e s t) (b : RefBlind e := by exact {}) : Same e s (Machine.onCand k f t) :=
  h.onTimeKept b

theorem Same.loseQual {k : Fin 12} (h : Same e s t) (b : RefBlind e := by exact {}) : Same e s (Machine.loseQual k t) :=
  .ite (fun _ => (h.onCand b).raise (b.evt _ _ _)) fun _ => h

theorem Same.refLosses (h : Same e s t) (b : RefBlind e := by exact {}) : Same e s (Machine.refLosses t) :=
  .foldl (fun _ _ k => .ite (fun _ => (Same.loseQual (k.onCand b) b).retarget b) fun _ => k) h

end

/-- With another source in use the values that waited for it take effect (R285). -/
theorem reselect_par :
    (reselect s).par = if (reselect s).time.inUse = s.time.inUse then s.par else s.par.release .r285 objTime := by
  unfold reselect
  extract_lets p10 s0 src s1
  by_cases same : src = s0.time.inUse
  · rw [if_pos same]
    exact (if_pos rfl).symm
  · rw [if_neg same]
    have par : s1.par = s.par.release .r285 objTime := rfl
    have inUse : s1.time.inUse ≠ s.time.inUse := same
    clear_value s1
    split <;> simp [raise0, onTime, inUse, par]

/-! ### The receivers are not touched -/

theorem reselect_rx : (reselect s).rx = s.rx := Same.reselect (e := State.rx) .refl

theorem refLosses_rx : (refLosses s).rx = s.rx := Same.refLosses (e := State.rx) .refl

theorem onFramer_rx {f : Framer → Framer} : (onFramer i f s).rx = s.rx := by
  cases i <;> rfl

theorem evalFramer_rx : (evalFramer i s).rx = s.rx := by
  unfold evalFramer
  split
  · rfl
  · split
    · rfl
    · exact Same.foldl (e := State.rx) (fun _ _ h => h.raise) onFramer_rx

theorem evalMsim_rx : (evalMsim kind cont group s).rx = s.rx := by
  unfold evalMsim
  extract_lets j
  split
  · rfl
  · exact Same.foldl (e := State.rx) (fun _ _ h => Same.raiseIf (h.trans onFramer_rx)) .refl

theorem evalTribs_rx : (evalTribs kind cont group s).rx = s.rx :=
  Same.foldl (e := State.rx) (fun _ _ h => h.trans evalFramer_rx) evalMsim_rx

theorem egressSync_rx : (egressSync i s).rx = s.rx :=
  Same.foldl (e := State.rx) (fun _ _ h => h.trans onFramer_rx) .refl

theorem evalWhole_rx : (evalWhole i s).rx = s.rx := by
  refine egressSync_rx.trans ?_
  cases i with
  | bond b => exact evalTribs_rx.trans evalFramer_rx
  | odum c g =>
    have own : (evalTribs 0 c.val g.val (evalFramer (.odum c g) s)).rx = s.rx := evalTribs_rx.trans evalFramer_rx
    exact Same.ite (e := State.rx) (fun _ => evalTribs_rx.trans own) fun _ => own
  | trib k n g t => exact evalFramer_rx

theorem growQueue_rx {n : Nat} {u : State} (h : growQueue n s = some u) : u.rx = s.rx := by
  unfold growQueue at h
  split at h
  · cases h; rfl
  · dsimp only at h
    split at h
    · cases h; rfl
    · obtain ⟨_, _, rfl⟩ := Option.map_eq_some_iff.1 h
      rfl

/-- A queue that grows when its carrier is enabled. -/
theorem growEnabled_rx {n : Nat} {u : State} (h : (if (s.car (carrierOf n)).enabled then growQueue n s else some s) = some u) : u.rx = s.rx := by
  split at h
  · exact growQueue_rx h
  · cases h; rfl

theorem growQueues_rx {u : State} (h : growQueues s = some u) : u.rx = s.rx := by
  obtain ⟨v, hv, hu⟩ := Option.bind_eq_some_iff.1 (show (((some s).bind _).bind _) = some u from h)
  obtain ⟨w, hw, hv⟩ := Option.bind_eq_some_iff.1 hv
  cases hw
  exact (growEnabled_rx hu).trans (growEnabled_rx hv)

theorem protRelease_rx {g : Fin 16} : (protRelease g s).rx = s.rx := by
  unfold protRelease
  extract_lets s1
  have released : s1.rx = s.rx := rfl
  clear_value s1
  cases h : growQueues s1 with
  | none => exact released
  | some u => exact (growQueues_rx h).trans released

theorem protDecide_rx {g : Fin 16} {onset : Nat} : (protDecide g onset s).rx = s.rx := by
  unfold protDecide
  extract_lets p b p1 code s1 s2
  split
  · rfl
  · exact Same.ite (e := State.rx) (fun _ => protRelease_rx) fun _ => rfl

theorem protConditions_rx {g : Fin 16} : (protConditions g s).rx = s.rx := by
  unfold protConditions
  extract_lets p b lim th wait p1 p2 s1
  split
  · rfl
  · have raised : Same State.rx s s1 := Same.foldl (fun _ _ h => h.raiseIf) rfl
    exact protDecide_rx.trans raised

theorem groupHeard_rx {c : Fin 2} {g : Fin 16} : (groupHeard c g s).rx = s.rx :=
  refLosses_rx.trans (reselect_rx.trans (protConditions_rx.trans evalWhole_rx))

end Sys2Proof.Machine
end

section
/-! How receive groups acquire and how they lose their signal (03_receive_dsp.md R57 to R66, R72, R73, R78, R79). -/

namespace Sys2Proof.Machine

variable {c : Fin 2} {g : Fin 16} {s : State}

/-! ### One group of the receiver -/

theorem onRx_congr {f h : RxCarrier → RxCarrier} (e : f (s.rxc c) = h (s.rxc c)) : onRx c f s = onRx c h s := by
  rw [onRx, onRx, upd_congr e]

theorem onRx_id {f : RxCarrier → RxCarrier} (e : f (s.rxc c) = s.rxc c) : onRx c f s = s := by
  rw [onRx, upd_id e]

/-- An update is what it makes of the group as it stands. -/
theorem onRxg_congr {f h : RxGroup → RxGroup} (e : f (s.rxg c g) = h (s.rxg c g)) : onRxg c g f s = onRxg c g h s :=
  onRx_congr (congrArg (fun v => { s.rxc c with groups := v }) (upd_congr e))

theorem onRxg_id {f : RxGroup → RxGroup} (e : f (s.rxg c g) = s.rxg c g) : onRxg c g f s = s :=
  onRx_id (congrArg (fun v => { s.rxc c with groups := v }) (upd_id e))

theorem onSub_congr {k : Fin 16} {f h : RxSub → RxSub} (e : f (s.rxc c).subs[k] = h (s.rxc c).subs[k]) : onSub c k f s = onSub c k h s :=
  onRx_congr (congrArg (fun v => { s.rxc c with subs := v }) (upd_congr e))

theorem onSub_id {k : Fin 16} {f : RxSub → RxSub} (e : f (s.rxc c).subs[k] = (s.rxc c).subs[k]) : onSub c k f s = s :=
  onRx_id (congrArg (fun v => { s.rxc c with subs := v }) (upd_id e))

theorem onRx_rxc {f : RxCarrier → RxCarrier} : (onRx c f s).rxc c = f (s.rxc c) :=
  (upd_get s.rx c c f).trans (if_pos rfl)

/-- An update of the carrier that leaves its groups. -/
theorem onRx_rxg {f : RxCarrier → RxCarrier} (h : (f (s.rxc c)).groups = (s.rxc c).groups) : (onRx c f s).rxg c g = s.rxg c g :=
  (congrArg (fun r : RxCarrier => r.groups[g]) onRx_rxc).trans (congrArg (·[g]) h)

theorem onRxg_rxg {k : Fin 16} {f : RxGroup → RxGroup} : (onRxg c k f s).rxg c g = if k = g then f (s.rxg c g) else s.rxg c g :=
  (congrArg (fun r : RxCarrier => r.groups[g]) onRx_rxc).trans (upd_get (s.rxc c).groups k g f)

@[simp] theorem onRxg_rxg_same {f : RxGroup → RxGroup} : (onRxg c g f s).rxg c g = f (s.rxg c g) := onRxg_rxg.trans (if_pos rfl)

theorem setSubs_rxg {n : Nat} {f : RxSub → RxSub} : (setSubs c n f s).rxg c g = s.rxg c g :=
  Same.foldl (e := fun u => u.rxg c g) (fun _ _ h => .ite (fun _ => (onRx_rxg rfl).trans h) fun _ => h) .refl

theorem setSubs_par {n : Nat} {f : RxSub → RxSub} : (setSubs c n f s).par = s.par :=
  Same.foldl (e := State.par) (fun _ _ h => .ite (fun _ => h.onSub) fun _ => h) .refl

/-! ### Entry to CD_SEARCH -/

/-- The group at its entry to CD_SEARCH: waiting values are in force, its subcarriers WAIT and it holds no engine (R60, R73, R78). -/
def searchReady (c : Fin 2) (g : Fin 16) (s : State) : State :=
  setSubs c g.val (fun x => { x with st := .wait }) (freeEngine c g (releaseSearch c g s))

theorem searchReady_rxg : (searchReady c g s).rxg c g = { s.rxg c g with engineWait := false } := by
  refine setSubs_rxg.trans (onRxg_rxg_same.trans ?_)
  rw [onRx_rxg rfl]
  rfl

theorem rxPar_searchReady {pid : Nat} : rxPar (searchReady c g s) c g pid = rxPar (releaseSearch c g s) c g pid := by
  rw [rxPar, rxPar, getPar, getPar, searchReady, setSubs_par]
  rfl

theorem prepSearch_eq : prepSearch c g s =
    if rxPar (searchReady c g s) c g 0x30 = 1 then
      onRxg c g (fun x => { x.invalid with st := .clockAcq, bulk := rxPar (searchReady c g s) c g 0x10, clockLocked := false })
        (searchReady c g s)
    else onRxg c g (fun x => { x.invalid with
      st := .cdSearch, engineWait := true, clockLocked := false
      centre := x.hint.getD (rxPar (searchReady c g s) c g 0x10)
      half := if x.hint.isSome then rxPar (searchReady c g s) c g 0x40 else rxPar (searchReady c g s) c g 0x20 })
      (searchReady c g s) := rfl

/-- With a fixed setting the group goes on to CLOCK_ACQ (R60). -/
theorem prepSearch_fixed (h : rxPar (searchReady c g s) c g 0x30 = 1) : prepSearch c g s =
    onRxg c g (fun x => { x.invalid with st := .clockAcq, bulk := rxPar (searchReady c g s) c g 0x10, clockLocked := false })
      (searchReady c g s) := by
  rw [prepSearch_eq, if_pos h]

/-! Otherwise it waits for the engine, with the window of the hint it holds or else of provisioning (R60). -/

theorem prepSearch_unhinted (h : rxPar (searchReady c g s) c g 0x30 ≠ 1) (none_ : ((searchReady c g s).rxg c g).hint = none) :
    prepSearch c g s = onRxg c g (fun x => { x.invalid with
      st := .cdSearch, engineWait := true, clockLocked := false
      centre := rxPar (searchReady c g s) c g 0x10, half := rxPar (searchReady c g s) c g 0x20 }) (searchReady c g s) := by
  rw [prepSearch_eq, if_neg h]
  exact onRxg_congr (by simp only [none_, Option.getD_none, Option.isSome_none, Bool.false_eq_true, if_false])

theorem prepSearch_hinted {v : Int} (h : rxPar (searchReady c g s) c g 0x30 ≠ 1) (some_ : ((searchReady c g s).rxg c g).hint = some v) :
    prepSearch c g s = onRxg c g (fun x => { x.invalid with
      st := .cdSearch, engineWait := true, clockLocked := false, centre := v, half := rxPar (searchReady c g s) c g 0x40 })
      (searchReady c g s) := by
  rw [prepSearch_eq, if_neg h]
  exact onRxg_congr (by simp only [some_, Option.getD_some, Option.isSome_some, if_true])

/-- What the engine's schedule leaves of a group: where it stands, its hint and its counts of failures. -/
def searchView (x : RxGroup) : RxGroupState × Option Int × Nat × Nat := (x.st, x.hint, x.fails, x.acqFails)

theorem grantEngine_searchView : searchView ((grantEngine c s).rxg c g) = searchView (s.rxg c g) := by
  unfold grantEngine
  split
  · rfl
  · split
    · rfl
    · rw [onRxg_rxg, onRx_rxg rfl]
      split <;> rfl

/-- After the entry the group stands in CLOCK_ACQ or CD_SEARCH with the hint and the counts that it had. -/
theorem enterSearch_searchView : searchView ((enterSearch c g s).rxg c g) =
    (if rxPar (releaseSearch c g s) c g 0x30 = 1 then .clockAcq else .cdSearch, (s.rxg c g).hint, (s.rxg c g).fails, (s.rxg c g).acqFails) := by
  refine grantEngine_searchView.trans ?_
  rw [← rxPar_searchReady, prepSearch_eq]
  split
  · rw [onRxg_rxg_same, searchReady_rxg]
    rfl
  · rw [onRxg_rxg_same, searchReady_rxg]
    rfl

/-! ### RXDSP.REACQUIRE -/

variable {q : Request}

theorem exec_rxdspReacquire : exec (.rxdspReacquire q) s = .next (deskRun 0x0303 rxdspReacquire q s) := rfl

theorem rxdspReacquire_off (h : (s.rxg (reqCarrier q) (reqGroup q)).st = .off) : rxdspReacquire q s = (s, refuse stBadState) := if_pos h

/-- The state whose hint is dropped: a group that leaves TRACK loses its lock and its folio alignment first (R72, R181). -/
def reacquireLeft (c : Fin 2) (g : Fin 16) (s : State) : State :=
  if (s.rxg c g).st = .track then
    folioLost c g (raiseRx 42 c g 0 0xFF (onRxg c g (fun x => { x.leave with losses := bump x.losses }) s))
  else s

theorem reacquireLeft_par : (reacquireLeft c g s).par = s.par :=
  Same.ite (e := State.par) (fun _ => rfl) fun _ => rfl

theorem reacquireLeft_fails : ((reacquireLeft c g s).rxg c g).fails = (s.rxg c g).fails ∧
    ((reacquireLeft c g s).rxg c g).acqFails = (s.rxg c g).acqFails := by
  unfold reacquireLeft
  split
  · have left : (folioLost c g (raiseRx 42 c g 0 0xFF (onRxg c g (fun x => { x.leave with losses := bump x.losses }) s))).rxg c g =
        { (s.rxg c g).leave with losses := bump (s.rxg c g).losses } := onRxg_rxg_same (s := s)
    rw [left]
    exact ⟨rfl, rfl⟩
  · exact ⟨rfl, rfl⟩

/-- The state after the group, without a hint, has entered CD_SEARCH. -/
def reacquired (c : Fin 2) (g : Fin 16) (s : State) : State :=
  groupHeard c g (enterSearch c g (onRxg c g (fun x => { x with hint := none }) (reacquireLeft c g s)))

theorem rxdspReacquire_past (h : (s.rxg (reqCarrier q) (reqGroup q)).st ≠ .off) :
    rxdspReacquire q s = (reacquired (reqCarrier q) (reqGroup q) s, ok) := if_neg h

theorem reacquired_searchView : searchView ((reacquired c g s).rxg c g) =
      (if rxPar (releaseSearch c g s) c g 0x30 = 1 then .clockAcq else .cdSearch, none, (s.rxg c g).fails, (s.rxg c g).acqFails) := by
  obtain ⟨fails, acqFails⟩ := reacquireLeft_fails (c := c) (g := g) (s := s)
  have par : rxPar (releaseSearch c g (onRxg c g (fun x => { x with hint := none }) (reacquireLeft c g s))) c g 0x30 =
      rxPar (releaseSearch c g s) c g 0x30 :=
    congrArg (fun p : Params => rxPar (releaseSearch c g { s with par := p }) c g 0x30) reacquireLeft_par
  rw [reacquired, State.rxg, groupHeard_rx, ← State.rxg, enterSearch_searchView, par, onRxg_rxg_same, ← fails, ← acqFails]

/-- Settles O53: in no state past FRONT_END the request is refused; else the group enters CD_SEARCH after its hint is dropped, and
those who hear of it leave the receiver as it is. -/
theorem reacquireDropsTheHint : Obligations.ReacquireDropsTheHint := by
  intro q s run
  dsimp only
  refine ⟨fun off => ?_, fun past => ⟨reacquired (reqCarrier q) (reqGroup q) s, ?_, ?_⟩⟩
  · rw [exec_rxdspReacquire, deskRun_done run (rxdspReacquire_off off)]
  · rw [exec_rxdspReacquire, deskRun_done run (rxdspReacquire_past past)]
  · obtain ⟨st, hint, fails, acqFails⟩ := by
      simpa only [searchView, Prod.mk.injEq] using reacquired_searchView (c := reqCarrier q) (g := reqGroup q) (s := s)
    exact ⟨hint, fails, acqFails, st⟩

end Sys2Proof.Machine
end

section
/-! The rows of acquisition, and the statement on receive groups assembled (03_receive_dsp.md R58 to R66, R72, R73). -/

namespace Sys2Proof.Machine

variable {c : Fin 2} {g k : Fin 16} {s : State} {x y : FrontEnd} {coarse fine : List Nat} {off : Int}

theorem exec_frontEndDone : exec (.frontEndDone c x y) s = .next (frontEndDone c x y s) := rfl

theorem exec_cdSearchEnd : exec (.cdSearchEnd c coarse fine) s = .next (cdSearchEnd c coarse fine s) := rfl

theorem exec_clockLoss : exec (.clockLoss c g) s = .next (groupHeard c g (clockLoss c g s)) := rfl

theorem exec_freqLoss : exec (.freqLoss c g off) s = .next (groupHeard c g (freqLoss c g off s)) := rfl

theorem exec_freqAcquired : exec (.freqAcquired c g off) s = .next (freqAcquired c g off s) := rfl

theorem exec_trainingFound : exec (.trainingFound c g) s = .next (trainingFound c g s) := rfl

theorem exec_acquisitionTimeout : exec (.acquisitionTimeout c g) s = .next (acqTimeout c g s) := rfl

theorem exec_subcarrierLocked : exec (.subcarrierLocked c k) s = .next (subLocked c k s) := rfl

/-! ### The search -/

theorem cdSearchEnd_idle (h : (s.rxc c).engine = none) : cdSearchEnd c coarse fine s = s := by
  simp only [cdSearchEnd, h]

theorem cdSearchEnd_found {b : Int} (h : (s.rxc c).engine = some g) (found : cdFound (s.rxg c g) coarse fine = some b) :
    cdSearchEnd c coarse fine s =
      grantEngine c (freeEngine c g (onRxg c g (fun x => { x with st := .clockAcq, bulk := bulkRange b }) s)) := by
  simp only [cdSearchEnd, h, found]

theorem cdSearchEnd_failed (h : (s.rxc c).engine = some g) (none_ : cdFound (s.rxg c g) coarse fine = none) :
    cdSearchEnd c coarse fine s = rxFailure c g (onRxg c g (fun x => { x with hint := none }) s) := by
  simp only [cdSearchEnd, h, none_]

/-- A search finds the best fine candidate about the best coarse one, unless its metric is below the threshold (R60). -/
theorem cdFound_of_best {x : RxGroup} {a b : Int × Nat} (best : bestOf (coarseCands x.centre x.half) coarse = some a)
    (near : bestOf (fineCands a.1) fine = some b) : cdFound x coarse fine = if b.2 < Config.cdThreshold then none else some b.1 := by
  simp only [cdFound, best, near]

/-! ### Failures and losses -/

/-- The third failure in a row raises RX_ACQ_FAIL (R72). -/
theorem rxFailure_third (third : (s.rxg c g).fails + 1 = 3) (quiet : (s.rxg c g).acqFailRaised = false) : rxFailure c g s =
    enterSearch c g (raise 44 (objGroup c g) (evtArg 0 0xFF 0 0)
      (onRxg c g (fun x => { x with fails := x.fails + 1, acqFails := bump x.acqFails, acqFailRaised := true }) s)) := by
  simp only [rxFailure, third, quiet, Bool.not_false, and_self, decide_true, raiseIf_true]
  congr 2
  exact onRxg_congr (by simp only [third, quiet]; rfl)

theorem rxFailure_other (other : (s.rxg c g).fails + 1 ≠ 3) : rxFailure c g s =
    enterSearch c g (onRxg c g (fun x => { x with
      fails := x.fails + 1, acqFails := bump x.acqFails, acqFailRaised := (s.rxg c g).acqFailRaised }) s) := by
  simp only [rxFailure, other, false_and, decide_false, raiseIf_false]
  congr 1
  exact onRxg_congr (by simp only [beq_false_of_ne other, Bool.or_false])

/-- A group that leaves TRACK keeps its last total dispersion as the hint (R60, R72). -/
theorem loseTrack_eq : loseTrack c g s = enterSearch c g (folioLost c g (raise 42 (objGroup c g) (evtArg 0 0xFF 0 0)
    (onRxg c g (fun x => { x with
      closing := x.synced, segs := if x.synced then x.segs else [], volStart := false
      hint := some (if x.totals = [] then x.bulk else x.cdTotal), losses := bump x.losses }) s))) := by
  simp only [loseTrack, List.isEmpty_iff]
  rfl

theorem clockLoss_track (h : (s.rxg c g).st = .track) : clockLoss c g s = loseTrack c g s := if_pos h

theorem clockLoss_idle (h : (s.rxg c g).st ≠ .track) : clockLoss c g s = s := if_neg h

theorem freqLoss_track (h : (s.rxg c g).st = .track) (far : (freqRange s c g).toNat + 500 < off.natAbs) :
    freqLoss c g off s = loseTrack c g (setFreq c g off s) := if_pos ⟨h, far⟩

theorem freqLoss_idle (h : (s.rxg c g).st ≠ .track ∨ off.natAbs ≤ (freqRange s c g).toNat + 500) : freqLoss c g off s = s :=
  if_neg fun ⟨track, far⟩ => h.elim (· track) (Nat.not_le.2 far)

/-! ### Clock, frequency, training and the equalisers -/

theorem exec_clockLock_in (h : (s.rxg c g).st = .clockAcq) (near : off.natAbs ≤ 102400) :
    exec (.clockLock c g off) s = .next (onRxg c g (fun x => { x with st := .freqAcq, clockOff := off, clockLocked := true }) s) :=
  congrArg Host.Outcome.next (onRxg_congr (if_pos ⟨h, near⟩))

theorem exec_clockLock_out (h : (s.rxg c g).st ≠ .clockAcq ∨ 102400 < off.natAbs) : exec (.clockLock c g off) s = .next s :=
  congrArg Host.Outcome.next (onRxg_id (if_neg fun ⟨acq, near⟩ => h.elim (· acq) (Nat.not_lt.2 near)))

theorem freqAcquired_in (h : (s.rxg c g).st = .freqAcq) (near : off.natAbs ≤ (freqRange s c g).toNat) :
    freqAcquired c g off s = setFreq c g off (onRxg c g (fun x => { x with st := .trainSync }) s) := if_pos ⟨h, near⟩

theorem freqAcquired_out (h : (s.rxg c g).st ≠ .freqAcq ∨ (freqRange s c g).toNat < off.natAbs) : freqAcquired c g off s = s :=
  if_neg fun ⟨acq, near⟩ => h.elim (· acq) (Nat.not_lt.2 near)

theorem freqRange_hub (h : s.dev.mode = some .hub) : freqRange s c g = 100 := if_pos h

theorem freqRange_provisioned (h : s.dev.mode ≠ some .hub) :
    freqRange s c g = if rxPar s c g 0x80 = 0 then 1000 else if rxPar s c g 0x80 = 1 then 2500 else 5000 := if_neg h

theorem trainingFound_in (h : (s.rxg c g).st = .trainSync) :
    trainingFound c g s = setSubs c g.val RxSub.train (onRxg c g (fun x => { x with st := .eqAcq }) s) := if_pos h

theorem trainingFound_out (h : (s.rxg c g).st ≠ .trainSync) : trainingFound c g s = s := if_neg h

theorem acqTimeout_before (h : (s.rxg c g).st = .clockAcq ∨ (s.rxg c g).st = .freqAcq ∨ (s.rxg c g).st = .trainSync) :
    acqTimeout c g s = rxFailure c g s := by
  obtain h | h | h := h <;> simp only [acqTimeout, h]

/-- At the limit of EQ_ACQ half of the subcarriers are enough (R72). -/
theorem acqTimeout_eqAcq (h : (s.rxg c g).st = .eqAcq) : acqTimeout c g s =
    if (groupSubs s c g).length ≤ 2 * lockedSubs s c g then enterTrack c g s else rxFailure c g s := by
  simp only [acqTimeout, h]

theorem acqTimeout_other (h : (s.rxg c g).st = .off ∨ (s.rxg c g).st = .cdSearch ∨ (s.rxg c g).st = .track) : acqTimeout c g s = s := by
  obtain h | h | h := h <;> simp only [acqTimeout, h]

/-! ### One subcarrier -/

theorem subLocked_out (h : (s.rxc c).subs[k].st ≠ .acq) : subLocked c k s = s := if_neg h

theorem subLocked_in (h : (s.rxc c).subs[k].st = .acq) : subLocked c k s =
    eqDone c (subGroup s c k.val) (halfCheck c (subGroup s c k.val) (onSub c k (fun x => { x with st := .locked }) s)) := if_pos h

theorem eqDone_all (h : (s.rxg c g).st = .eqAcq) (all : lockedSubs s c g = (groupSubs s c g).length) :
    eqDone c g.val s = enterTrack c g s :=
  (dif_pos g.isLt).trans (if_pos ⟨h, all⟩)

theorem eqDone_other (h : (s.rxg c g).st ≠ .eqAcq ∨ lockedSubs s c g ≠ (groupSubs s c g).length) : eqDone c g.val s = s :=
  (dif_pos g.isLt).trans (if_neg fun ⟨acq, all⟩ => h.elim (· acq) (· all))

theorem exec_subcarrierAcqTimeout_out (h : (s.rxc c).subs[k].st ≠ .acq) : exec (.subcarrierAcqTimeout c k) s = .next s :=
  congrArg Host.Outcome.next (onSub_id (if_neg h))

theorem exec_subcarrierAcqTimeout_in (h : (s.rxc c).subs[k].st = .acq) :
    exec (.subcarrierAcqTimeout c k) s = .next (onSub c k (fun x => { x with st := .lost }) s) :=
  congrArg Host.Outcome.next (onSub_congr (if_pos h))

/-- Settles O52: each clause is the rule of one function, in the order of the statement. The threshold that a candidate's metric is
held against (log 101), the first of equal metrics and the bulk setting as the hint of a group without a measure (log 27) are the
model's choices, and so is that the loss rows let the ODUCm, the protection group and the time source hear of a loss at once. -/
theorem receiveGroupsAcquire : Obligations.ReceiveGroupsAcquire := by
  refine ⟨fun c x y s => ⟨fun out => ?_, fun fe => ?_⟩,
    fun c g s => ⟨rfl, prepSearch_fixed, prepSearch_unhinted, fun h => prepSearch_hinted⟩,
    fun c s coarse fine => ⟨fun idle => ?_, fun g busy => ⟨fun b found => ?_, fun none_ => ?_⟩⟩,
    fun x coarse fine a b best near => ⟨fun high => ?_, fun low => ?_⟩,
    fun c g s => ⟨rxFailure_third, rxFailure_other⟩,
    fun c g off s => ⟨exec_clockLock_in, exec_clockLock_out, fun track => ?_, fun out => ?_, fun track far => ?_, fun out => ?_,
      fun acq near => ?_, fun out => ?_, freqRange_hub, fun mode narrow => ?_, fun mode half => ?_, fun mode h0 h1 => ?_, fun sync => ?_,
      fun out => ?_, fun early => ?_, fun acq few => ?_, fun acq enough => ?_, fun other => ?_⟩,
    fun c k s => ⟨fun out => ⟨?_, exec_subcarrierAcqTimeout_out out⟩, exec_subcarrierAcqTimeout_in,
      fun g acq own => ⟨fun eq all => ?_, fun other => ?_⟩⟩⟩
  · rw [exec_frontEndDone, frontEndDone, if_neg out]
  · rw [exec_frontEndDone, frontEndDone, if_pos fe]
  · rw [exec_cdSearchEnd, cdSearchEnd_idle idle]
  · rw [exec_cdSearchEnd, cdSearchEnd_found busy found]
    rfl
  · rw [exec_cdSearchEnd, cdSearchEnd_failed busy none_]
  · rw [cdFound_of_best best near, if_neg (Nat.not_lt.2 high)]
  · rw [cdFound_of_best best near, if_pos low]
  · rw [exec_clockLoss, clockLoss_track track, loseTrack_eq]
  · rw [exec_clockLoss, clockLoss_idle out]
  · rw [exec_freqLoss, freqLoss_track track far, loseTrack_eq]
    rfl
  · rw [exec_freqLoss, freqLoss_idle out]
  · rw [exec_freqAcquired, freqAcquired_in acq near]
    rfl
  · rw [exec_freqAcquired, freqAcquired_out out]
  · rw [freqRange_provisioned mode, if_pos narrow]
  · rw [freqRange_provisioned mode, if_neg (by omega), if_pos half]
  · rw [freqRange_provisioned mode, if_neg h0, if_neg h1]
  · rw [exec_trainingFound, trainingFound_in sync]
    rfl
  · rw [exec_trainingFound, trainingFound_out out]
  · rw [exec_acquisitionTimeout, acqTimeout_before early]
  · rw [exec_acquisitionTimeout, acqTimeout_eqAcq acq, if_neg (Nat.not_le.2 few)]
  · rw [exec_acquisitionTimeout, acqTimeout_eqAcq acq, if_pos enough]
    rfl
  · rw [exec_acquisitionTimeout, acqTimeout_other other]
  · rw [exec_subcarrierLocked, subLocked_out out]
  · rw [exec_subcarrierLocked, subLocked_in acq, own, eqDone_all (own ▸ eq) (own ▸ all)]
  · rw [exec_subcarrierLocked, subLocked_in acq, own, eqDone_other (own ▸ other)]

end Sys2Proof.Machine
end

section
/-! The parameter commands: what a request with accepted records does (14_command_reference.md R333, and each chapter's own rules). -/

namespace Sys2Proof.Machine

variable {q : Request} {s : State} {rs : List ParRec} {op : Nat}
variable {chk : List ParRec → State → Option Reply} {act : List ParRec → State → State}

/-! ### Any of them -/

/-- A P command whose records its own rule lets pass. -/
theorem pCommand_passed (h : parseRecords op q = .ok rs) (pass : chk rs s = none) : pCommand op chk act q s = (act rs s, ok) := by
  simp only [pCommand, h, pass]

theorem pCommand_refused {r : Reply} (h : parseRecords op q = .ok rs) (bad : chk rs s = some r) : pCommand op chk act q s = (s, r) := by
  simp only [pCommand, h, bad]

theorem exec_stacksSet : exec (.stacksSet q) s =
    .next (deskRun 0x0A02 (pCommand 0x0A02 (fun _ _ => none) fun rs => applyRecs 0x0A02 q rs) q s) := rfl

theorem exec_timePpsSet : exec (.timePpsSet q) s = .next (deskRun 0x0B0A timePpsSet q s) := rfl

theorem exec_interloanSet : exec (.interloanSet q) s = .next (deskRun 0x0601 (pCommand 0x0601 (fun _ _ => none) fun rs s =>
    if ilBusy s.il[reqCarrier q] then waitRecs 0x0601 q rs s else applyRecs 0x0601 q rs s) q s) := rfl

theorem exec_laneSet : exec (.laneSet q) s = .next (deskRun 0x0C03 laneSet q s) := rfl

theorem exec_rxdspSet : exec (.rxdspSet q) s =
    .next (deskRun 0x0301 (pCommand 0x0301 (fun _ _ => none) (rxdspSet 0x0301 q)) q s) := rfl

theorem exec_rxdspCdHint : exec (.rxdspCdHint q) s =
    .next (deskRun 0x0302 (pCommand 0x0302 (fun _ _ => none) (rxdspSet 0x0302 q)) q s) := rfl

theorem exec_bitloadPolicySet : exec (.bitloadPolicySet q) s =
    .next (deskRun 0x0401 (pCommand 0x0401 (fun _ _ => none) (policySet q)) q s) := rfl

theorem exec_txdspSet : exec (.txdspSet q) s = .next (deskRun 0x0410
    (fun q => pCommand 0x0410 (fun _ _ => if txdspBulkOk q then none else some (badParam 0)) (txdspSet q) q) q s) := rfl

theorem exec_timeProvision : exec (.timeProvision q) s = .next (deskRun 0x0B01 timeProvision q s) := rfl

theorem exec_timeSourceSet : exec (.timeSourceSet q) s = .next (deskRun 0x0B06 timeSourceSet q s) := rfl

theorem exec_timeLinkSet : exec (.timeLinkSet q) s = .next (deskRun 0x0B09 timeLinkSet q s) := rfl

theorem exec_timeRefTableSet : exec (.timeRefTableSet q) s = .next (deskRun 0x0B02 timeRefTableSet q s) := rfl

theorem timePpsSet_accepted (h : parseRecords 0x0B0A q = .ok rs) : timePpsSet q s = (applyRecs 0x0B0A q rs s, ok) := pCommand_accepted h

/-! ### LANE.SET -/

theorem laneSet_eq : laneSet q s = pCommand 0x0C03
    (fun rs s => (rs.find? fun r => r.row.scope == .mateLink && !isStepped (s.lane (objIndex q))).map fun r => badParam r.off)
    (fun rs s => if (s.lane (objIndex q)).st = .up then waitRecs 0x0C03 q rs s else applyRecs 0x0C03 q rs s) q s := rfl

section

variable (h : parseRecords 0x0C03 q = .ok rs)
include h

theorem laneSet_accepted (fit : ∀ r ∈ rs, r.row.scope = .mateLink → isStepped (s.lane (objIndex q)) = true) : laneSet q s =
    (if (s.lane (objIndex q)).st = .up then waitRecs 0x0C03 q rs s else applyRecs 0x0C03 q rs s, ok) := by
  rw [laneSet_eq]
  refine pCommand_passed h (Option.map_eq_none_iff.2 (List.find?_eq_none.2 fun r hr bad => ?_))
  rw [Bool.and_eq_true, beq_iff_eq] at bad
  obtain ⟨mate, plain⟩ := bad
  simp [fit r hr mate] at plain

/-- The first record for the mate link, on a lane that is not stepped (R305). -/
theorem laneSet_refused {a b : List ParRec} {r : ParRec} (parts : rs = a ++ r :: b) (first : ∀ x ∈ a, x.row.scope ≠ .mateLink)
    (mate : r.row.scope = .mateLink) (plain : isStepped (s.lane (objIndex q)) = false) : laneSet q s = (s, badParam r.off) := by
  rw [laneSet_eq]
  refine pCommand_refused h (Option.map_eq_some_iff.2 ⟨r, ?_, rfl⟩)
  have none_ : a.find? (fun r => r.row.scope == .mateLink && !isStepped (s.lane (objIndex q))) = none :=
    List.find?_eq_none.2 fun x hx => by simp [first x hx]
  rw [parts, List.find?_append, none_, Option.none_or]
  exact List.find?_cons_of_pos (by simp [mate, plain])

end

/-! ### RXDSP.SET and RXDSP.CD.HINT -/

section

variable {c : Fin 2} {ob : Nat} {p : RxGroupState → Bool}

theorem rxAny_eq_true : rxAny s c ob p = true ↔ ∃ g : Fin 16, (ob = objCarrier c ∨ ob = objGroup c g) ∧ p (s.rxg c g).st = true := by
  simp [rxAny]

theorem rxAny_eq_false : rxAny s c ob p = false ↔ ∀ g : Fin 16, ob = objCarrier c ∨ ob = objGroup c g → p (s.rxg c g).st = false := by
  rw [← Bool.not_eq_true, rxAny_eq_true]
  simp only [not_exists, not_and, Bool.not_eq_true]

/-- Two folds whose steps agree on every member of the list. -/
theorem foldl_congr_mem {α β : Type} {f g : α → β → α} {l : List β} {a : α} (h : ∀ x, ∀ y ∈ l, f x y = g x y) : l.foldl f a = l.foldl g a := by
  induction l generalizing a with
  | nil => rfl
  | cons y r ih =>
    rw [List.foldl_cons, List.foldl_cons, h a y List.mem_cons_self]
    exact ih fun x z hz => h x z (List.mem_cons_of_mem y hz)

/-- An object of the receive parameters names a group. -/
def rxNames (c : Fin 2) (v : ParamVal) (g : Fin 16) : Prop := v.obj = objCarrier c ∨ v.obj = objGroup c g

/-- With every group named OFF the values take effect at once. -/
theorem rxdspSet_off (h : ∀ v ∈ recVals op q rs, ∀ g, rxNames (reqCarrier q) v g → (s.rxg (reqCarrier q) g).st = .off) :
    rxdspSet op q rs s = applyRecs op q rs s := by
  refine congrArg (fun p => { s with par := p }) (foldl_congr_mem fun p v hv => ?_)
  rw [rxAny_eq_false.2 fun g named => by simp [h v hv g named], rxAny_eq_false.2 fun g named => by simp [h v hv g named]]
  rfl

theorem rxdspSet_track (h : ∀ v ∈ recVals op q rs, ∃ g, rxNames (reqCarrier q) v g ∧ (s.rxg (reqCarrier q) g).st = .track) :
    rxdspSet op q rs s = waitRecs op q rs s := by
  refine congrArg (fun p => { s with par := p }) (foldl_congr_mem fun p v hv => ?_)
  obtain ⟨g, named, track⟩ := h v hv
  rw [rxAny_eq_true.2 ⟨g, named, by rw [track]; rfl⟩]
  rfl

theorem rxdspSet_acquiring (h : ∀ v ∈ recVals op q rs, (∃ g, rxNames (reqCarrier q) v g ∧ (s.rxg (reqCarrier q) g).st ≠ .off) ∧
      ∀ g, rxNames (reqCarrier q) v g → (s.rxg (reqCarrier q) g).st ≠ .track) :
    rxdspSet op q rs s = { s with par := (recVals op q rs).foldl Params.waitSearch s.par } := by
  refine congrArg (fun p => { s with par := p }) (foldl_congr_mem fun p v hv => ?_)
  obtain ⟨⟨g, named, on⟩, out⟩ := h v hv
  rw [rxAny_eq_false.2 fun g named => by simpa using out g named, rxAny_eq_true.2 ⟨g, named, by simpa using on⟩]
  rfl

end

/-! ### BITLOAD.POLICY.SET -/

theorem policySet_armed (h : (s.txg (reqCarrier q) (reqGroup q)).st = .armed) : policySet q rs s = waitRecs 0x0401 q rs s := by
  simp [policySet, h, waitRecs]

theorem policySet_idle (armed : (s.txg (reqCarrier q) (reqGroup q)).st ≠ .armed) (proposed : (s.txg (reqCarrier q) (reqGroup q)).st ≠ .proposed) :
    policySet q rs s = applyRecs 0x0401 q rs s := by
  simp [policySet, armed, proposed, applyRecs]

/-! ### TXDSP.SET -/

section

variable {c : Fin 2} {f g : TxCarrier → TxCarrier}

theorem onTx_congr (e : f (s.txc c) = g (s.txc c)) : onTx c f s = onTx c g s := by
  rw [onTx, onTx, upd_congr e]

theorem onTx_onTx : onTx c g (onTx c f s) = onTx c (fun x => g (f x)) s := by
  simp only [onTx, upd_upd]

/-- The records of TXDSP.SET: they wait while the transmitter runs. -/
def txRecs (q : Request) (rs : List ParRec) (s : State) : State :=
  if (s.txc (reqCarrier q)).txOn then waitRecs 0x0410 q rs s else applyRecs 0x0410 q rs s

theorem txdspSet_plain (h : q.bulk = []) : txdspSet q rs s = txRecs q rs s := if_pos (.inr (by rw [h]; rfl))

/-- The pre-emphasis that a request carries. -/
def bulkEmph (q : Request) : List Int := (List.range 64).map fun i => signedOf 16 (natAt q.bulk (2 * i) 2)

/-- The DAC's own response with what the host adds, within 12 dB (R98). -/
def sumEmph (s : State) (host : List Int) : List Int :=
  (List.range 64).map fun i => clampInt 0 1200 ((dacResponse s).getD i 0 + host.getD i 0)

/-- With bulk data the pre-emphasis in force is summed again. -/
theorem txdspSet_bulk (slot : q.slot.isSome = true) (some_ : q.bulk ≠ []) : txdspSet q rs s = applyEmph (reqCarrier q)
    (onTx (reqCarrier q) (fun t => if t.txOn then { t with preEmphNext := some (bulkEmph q) } else { t with hostEmph := bulkEmph q })
      (txRecs q rs s)) :=
  if_neg (by simp [some_, Option.isSome_iff_ne_none.1 slot])

theorem txRecs_txc : (txRecs q rs s).txc c = s.txc c := by
  unfold txRecs
  split <;> rfl

theorem applyEmph_txRecs : applyEmph c (onTx c f (txRecs q rs s)) =
    onTx c (fun t => { f t with preEmph := sumEmph s (f t).hostEmph }) (txRecs q rs s) := by
  have boot : dacResponse (onTx c f (txRecs q rs s)) = dacResponse s := by
    unfold txRecs
    split <;> rfl
  rw [applyEmph, boot, onTx_onTx]
  rfl

theorem txdspSet_running (slot : q.slot.isSome = true) (some_ : q.bulk ≠ []) (on : (s.txc (reqCarrier q)).txOn = true) : txdspSet q rs s =
    onTx (reqCarrier q) (fun t => { t with preEmphNext := some (bulkEmph q), preEmph := sumEmph s t.hostEmph }) (waitRecs 0x0410 q rs s) := by
  rw [txdspSet_bulk slot some_, applyEmph_txRecs, ← show txRecs q rs s = waitRecs 0x0410 q rs s from if_pos on]
  exact onTx_congr (by simp only [txRecs_txc, on, if_true])

theorem txdspSet_stopped (slot : q.slot.isSome = true) (some_ : q.bulk ≠ []) (off : (s.txc (reqCarrier q)).txOn = false) : txdspSet q rs s =
    onTx (reqCarrier q) (fun t => { t with hostEmph := bulkEmph q, preEmph := sumEmph s (bulkEmph q) }) (applyRecs 0x0410 q rs s) := by
  rw [txdspSet_bulk slot some_, applyEmph_txRecs, ← show txRecs q rs s = applyRecs 0x0410 q rs s from if_neg (by simp [off])]
  exact onTx_congr (by simp only [txRecs_txc, off, Bool.false_eq_true, if_false])

theorem txdspBulkOk_plain (h : q.bulk = []) : txdspBulkOk q = true := by
  simp [txdspBulkOk, h]

/-- 64 values of 0 to 12 dB are allowed (R98, R345). -/
theorem txdspBulkOk_range (len : q.bulk.length = 128) (range : ∀ i < 64, let v := signedOf 16 (natAt q.bulk (2 * i) 2); 0 ≤ v ∧ v ≤ 1200) :
    txdspBulkOk q = true := by
  have all : ((List.range 64).all fun i =>
      decide (0 ≤ signedOf 16 (natAt q.bulk (2 * i) 2) ∧ signedOf 16 (natAt q.bulk (2 * i) 2) ≤ 1200)) = true :=
    List.all_eq_true.2 fun i hi => decide_eq_true (range i (List.mem_range.1 hi))
  exact Bool.or_eq_true_iff.2 (.inr (Bool.and_eq_true_iff.2 ⟨beq_iff_eq.2 len, all⟩))

theorem txdspSet_done (run : runs 0x0410 q s = true) (h : parseRecords 0x0410 q = .ok rs) (fit : txdspBulkOk q = true) :
    exec (.txdspSet q) s = .next (complete q.ch q.tag { status := stOk } (txdspSet q rs s)) := by
  rw [exec_txdspSet]
  exact congrArg Host.Outcome.next (deskRun_done run (pCommand_passed h (if_pos fit)))

end

end Sys2Proof.Machine
end

section
/-! The parameter commands of the time engine, of the framers and of encryption, and the statement on all of them assembled. -/

namespace Sys2Proof.Machine

variable {q : Request} {s t u : State} {rs : List ParRec}

/-! ### TIME.PROVISION -/

section

variable (h : parseRecords 0x0B01 q = .ok rs)
include h

theorem timeProvision_busy (busy : timeBusy s = true) : timeProvision q s = (s, refuse stBadState) :=
  pCommand_refused h (if_pos busy)

/-- A change of bandwidth clears the history (R281). -/
theorem timeProvision_idle (idle : timeBusy s = false) : timeProvision q s =
    (if getPar (applyRecs 0x0B01 q rs s) .r285 objTime 0x10 = getPar s .r285 objTime 0x10 then applyRecs 0x0B01 q rs s
      else onTime (fun t => { t with history := [] }) (applyRecs 0x0B01 q rs s), ok) :=
  pCommand_passed h (if_neg (by simp [idle]))

end

/-! ### TIME.SOURCE.SET, TIME.LINK.SET and TIME.REF.TABLE.SET -/

/-- `u` with the parameters, the time engine and the event tree of `s`. -/
def timeRestored (s u : State) : State := { u with par := s.par, time := s.time, evt := s.evt }

theorem timeRestored_sourceBlind : SourceBlind (timeRestored s) := {}

theorem timeRestored_refBlind : RefBlind (timeRestored s) := {}

/-- The values of TIME.SOURCE.SET from 0xA0 wait while a source is in use (R285). -/
def sourceRecs (q : Request) (rs : List ParRec) (s : State) : State :=
  let now := applyRecs 0x0B06 q (rs.filter fun r => r.row.pid < 0xA0) s
  let later := rs.filter fun r => 0xA0 ≤ r.row.pid
  if s.time.inUse.isSome then waitRecs 0x0B06 q later now else applyRecs 0x0B06 q later now

/-- The state in which the source is chosen again; a record of row 9 makes the primary wait its 10 s again (R259). -/
def sourceAsked (q : Request) (rs : List ParRec) (s : State) : State :=
  if hasRow rs 9 then onTime (fun t => { t with primary10 := false }) (sourceRecs q rs s) else sourceRecs q rs s

theorem sourceAsked_restored : Same (timeRestored s) s (sourceAsked q rs s) := by
  have set_ : Same (timeRestored s) s (sourceRecs q rs s) := .ite (fun _ => rfl) fun _ => rfl
  exact .ite (fun _ => set_.onTime) fun _ => set_

theorem sourceAsked_par : (sourceAsked q rs s).par = (sourceRecs q rs s).par :=
  Same.ite (e := State.par) (fun _ => rfl) fun _ => rfl

theorem sourceAsked_inUse : (sourceAsked q rs s).time.inUse = s.time.inUse := by
  have set_ : Same (fun u => u.time.inUse) s (sourceRecs q rs s) := .ite (fun _ => rfl) fun _ => rfl
  exact Same.ite (e := fun u => u.time.inUse) (fun _ => set_.onTime) fun _ => set_

theorem timeSourceSet_accepted (h : parseRecords 0x0B06 q = .ok rs) : timeSourceSet q s = (reselect (sourceAsked q rs s), ok) :=
  pCommand_accepted h

theorem timeLinkSet_accepted (h : parseRecords 0x0B09 q = .ok rs) : timeLinkSet q s = (reselect (applyRecs 0x0B09 q rs s), ok) :=
  pCommand_accepted h

/-- The table of priorities that a request with bulk data carries joins the records. -/
def refTableRecs (q : Request) (rs : List ParRec) (s : State) : State :=
  if q.slot.isSome then onTime (fun t => { t with prio := q.bulk.map (·.toNat) }) (applyRecs 0x0B02 q rs s) else applyRecs 0x0B02 q rs s

/-- The state after the reference is chosen again. -/
def refTableSet (q : Request) (rs : List ParRec) (s : State) : State := refLosses (retarget 0 (refTableRecs q rs s))

theorem timeRefTableSet_eq : timeRefTableSet q s = pCommand 0x0B02
    (fun _ s => if q.slot.isSome && !prioOk (q.bulk.map (·.toNat)) s then some (badParam 0) else none) (refTableSet q) q s := rfl

section

variable (h : parseRecords 0x0B02 q = .ok rs)
include h

theorem timeRefTableSet_accepted (fit : q.slot = none ∨ prioOk (q.bulk.map (·.toNat)) s = true) :
    timeRefTableSet q s = (refTableSet q rs s, ok) := by
  rw [timeRefTableSet_eq]
  refine pCommand_passed h (if_neg ?_)
  obtain none_ | good := fit
  · simp [none_]
  · simp [good]

theorem timeRefTableSet_refused (slot : q.slot.isSome = true) (bad : prioOk (q.bulk.map (·.toNat)) s = false) :
    timeRefTableSet q s = (s, badParam 0) := by
  rw [timeRefTableSet_eq]
  exact pCommand_refused h (if_pos (by simp [slot, bad]))

end

theorem refTableSet_par : (refTableSet q rs s).par = (applyRecs 0x0B02 q rs s).par :=
  Same.refLosses (e := State.par) (.retarget (.ite (fun _ => rfl) fun _ => rfl))

theorem refTableSet_restored : Same (timeRestored s) s (refTableSet q rs s) :=
  .refLosses (.retarget (.ite (fun _ => rfl) fun _ => rfl) timeRestored_refBlind) timeRestored_refBlind

/-- The table is the one that the choice found. -/
theorem refTableSet_prio : (refTableSet q rs s).time.prio = (refTableRecs q rs s).time.prio := by
  have blind : RefBlind (fun u : State => u.time.prio) := { time := fun _ x kept => kept x.time }
  have kept : Same (fun u : State => u.time.prio) (refTableRecs q rs s) (refTableSet q rs s) := .refLosses (.retarget .refl blind) blind
  exact kept

/-! ### FRAMER.SET -/

theorem exec_framerSet : exec (.framerSet q) s = .next (deskRun 0x0803 (pCommand 0x0803 (fun _ _ => none) fun rs s =>
    onFramer (reqFramer q) (fun f => { f with units := f.units.map fun u =>
      if u.st = .inFrame then { u with m := framerPar (applyRecs 0x0803 q rs s) (reqFramer q) 0x50 } else u })
      (applyRecs 0x0803 q rs s)) q s) := rfl

theorem onFramer_changes_framers {i : FramerId} {f : Framer → Framer} :
    ∃ b o m, onFramer i f s = { s with bonds := b, odum := o, map := m } := by
  cases i with
  | bond b => exact ⟨_, s.odum, s.map, rfl⟩
  | odum c g => exact ⟨s.bonds, _, s.map, rfl⟩
  | trib k n g t => exact ⟨s.bonds, s.odum, _, rfl⟩

/-! ### CRYPT.SET -/

/-- The state after a set of CRYPT.SET that does not wait: groups that now lack a key are found (R176). -/
def cryptSet (q : Request) (rs : List ParRec) (s : State) : State :=
  (groupsOf s (reqCarrier q)).foldl (fun s g => noKeyCheck (reqCarrier q) g s) (applyRecs 0x0710 q rs s)

theorem exec_cryptSet : exec (.cryptSet q) s = .next (deskRun 0x0710 (pCommand 0x0710
    (fun rs s => (keyRefused s (reqCarrier q) rs).map badParam)
    (fun rs s => if changeArmed s (reqCarrier q) then waitRecs 0x0710 q rs s else cryptSet q rs s)) q s) := rfl

theorem Same.noKeyCheck {α : Type} {e : State → α} {c : Fin 2} {g : Fin 16} (h : Same e s t)
    (cry : ∀ f x, e (Machine.onCry c g f x) = e x := by intros; rfl)
    (evt : ∀ n ob a x, e (Machine.raise n ob a x) = e x := by intros; rfl) : Same e s (Machine.noKeyCheck c g t) :=
  .ite (fun _ => (h.onCry (cry _)).raise (evt _ _ _)) fun _ => h.onCry (cry _)

theorem cryptSet_par : (cryptSet q rs s).par = (applyRecs 0x0710 q rs s).par :=
  Same.foldl (e := State.par) (fun _ _ h => h.noKeyCheck) .refl

/-- `u` with the parameters, the key schedules, the Vault and the event tree of `s`. -/
def keysRestored (s u : State) : State := { u with par := s.par, crypt := s.crypt, vault := s.vault, evt := s.evt }

theorem cryptSet_restored : Same (keysRestored s) s (cryptSet q rs s) :=
  .foldl (fun _ _ h => h.noKeyCheck) rfl

/-! ### The statement -/

/-- Settles O21: each command completes with what its rule makes of the accepted records. That a table of priorities refused gives
DETAIL 0 (log 84) is the model's choice. -/
theorem parameterCommands : Obligations.ParameterCommands := by
  intro q s rs
  refine ⟨fun h run => ?_, fun h run => ?_, fun h run => ?_, fun h run => ⟨fun fit => ?_, fun a r b parts first mate plain => ?_⟩,
    fun op cmd h run => ⟨rxdspSet op q rs s, ?_, rfl, rxdspSet_off, rxdspSet_track, rxdspSet_acquiring⟩,
    fun h run => ⟨fun armed => ?_, fun armed proposed => ?_⟩, fun h run => ⟨fun plain => ?_, fun slot len range => ?_⟩,
    fun h run => ⟨fun busy => ?_, fun idle => ?_⟩, fun h run => ?_, fun h run => ?_, fun h run none_ => ?_,
    fun h run slot => ⟨fun good => ?_, fun bad => ?_⟩, fun h run => ?_,
    fun h run => ⟨fun off bad => ?_, fun good armed => ?_, fun good free => ?_⟩⟩
  · rw [exec_stacksSet, deskRun_done run (pCommand_accepted h)]
  · rw [exec_timePpsSet, deskRun_done run (timePpsSet_accepted h)]
  · rw [exec_interloanSet, deskRun_done run (pCommand_accepted h)]
  · rw [exec_laneSet, deskRun_done run (laneSet_accepted h fit)]
  · rw [exec_laneSet, deskRun_done run (laneSet_refused h parts first mate plain)]
  · obtain rfl | rfl := cmd
    · rw [if_pos rfl, exec_rxdspSet, deskRun_done run (pCommand_accepted h)]
    · rw [if_neg (by decide), exec_rxdspCdHint, deskRun_done run (pCommand_accepted h)]
  · rw [exec_bitloadPolicySet, deskRun_done run (pCommand_accepted h), policySet_armed armed]
  · rw [exec_bitloadPolicySet, deskRun_done run (pCommand_accepted h), policySet_idle armed proposed]
  · rw [txdspSet_done run h (txdspBulkOk_plain plain), txdspSet_plain plain]
    rfl
  · have some_ : q.bulk ≠ [] := List.ne_nil_of_length_pos (by omega)
    rw [txdspSet_done run h (txdspBulkOk_range len range)]
    cases on : (s.txc (reqCarrier q)).txOn with
    | true => rw [txdspSet_running slot some_ on]; rfl
    | false => rw [txdspSet_stopped slot some_ on]; rfl
  · rw [exec_timeProvision, deskRun_done run (timeProvision_busy h busy)]
  · refine ⟨_, by rw [exec_timeProvision, deskRun_done run (timeProvision_idle h idle)], ?_⟩
    by_cases same : getPar (applyRecs 0x0B01 q rs s) .r285 objTime 0x10 = getPar s .r285 objTime 0x10
    · rw [if_pos same]
      exact ⟨rfl, rfl, fun other => absurd same other, fun _ => rfl⟩
    · rw [if_neg same]
      exact ⟨rfl, rfl, fun _ => rfl, fun other => absurd other same⟩
  · refine ⟨_, by rw [exec_timeSourceSet, deskRun_done run (timeSourceSet_accepted h)],
      sourceAsked_restored.reselect timeRestored_sourceBlind, ?_⟩
    rw [reselect_par, sourceAsked_par, sourceAsked_inUse]
    rfl
  · refine ⟨_, by rw [exec_timeLinkSet, deskRun_done run (timeLinkSet_accepted h)], ?_, reselect_par⟩
    exact Same.reselect (e := timeRestored s) rfl timeRestored_sourceBlind
  · refine ⟨_, by rw [exec_timeRefTableSet, deskRun_done run (timeRefTableSet_accepted h (.inl none_))], refTableSet_par,
      refTableSet_restored, ?_⟩
    rw [refTableSet_prio, refTableRecs, none_]
    rfl
  · refine ⟨_, by rw [exec_timeRefTableSet, deskRun_done run (timeRefTableSet_accepted h (.inr good))], refTableSet_par,
      refTableSet_restored, ?_⟩
    rw [refTableSet_prio, refTableRecs, if_pos slot]
    rfl
  · rw [exec_timeRefTableSet, deskRun_done run (timeRefTableSet_refused h slot bad)]
  · refine ⟨_, by rw [exec_framerSet, deskRun_done run (pCommand_accepted h)], ?_⟩
    obtain ⟨b, o, m, e⟩ := onFramer_changes_framers (s := applyRecs 0x0803 q rs s) (i := reqFramer q) (f := fun f => { f with
      units := f.units.map fun u => if u.st = .inFrame then { u with m := framerPar (applyRecs 0x0803 q rs s) (reqFramer q) 0x50 } else u })
    rw [e]
    exact ⟨rfl, rfl⟩
  · rw [exec_cryptSet, deskRun_done run (pCommand_refused h (by rw [bad]; rfl))]
  · rw [exec_cryptSet, deskRun_done run (pCommand_passed h (by rw [good]; rfl)), if_pos armed]
  · refine ⟨_, by rw [exec_cryptSet, deskRun_done run (pCommand_passed h (by rw [good]; rfl)), if_neg (by simp [free])],
      cryptSet_par, cryptSet_restored⟩

end Sys2Proof.Machine
end

section
/-! What a received loading field does to its group: the receive side, the report and the acknowledgement
(04_transmit_bitloading.md R88, R93 to R95). -/

namespace Sys2Proof.Machine

variable {c : Fin 2} {g : Fin 16} {s : State} {b bs : List Byte}

/-! ### One group of the transmitter -/

theorem onTx_txc {f : TxCarrier → TxCarrier} : (onTx c f s).txc c = f (s.txc c) :=
  (upd_get s.tx c c f).trans (if_pos rfl)

@[simp] theorem onTxg_txg {f : TxGroup → TxGroup} : (onTxg c g f s).txg c g = f (s.txg c g) :=
  (congrArg (fun t : TxCarrier => t.groups[g]) onTx_txc).trans ((upd_get (s.txc c).groups g g f).trans (if_pos rfl))

/-- An update is what it makes of the group as it stands. -/
theorem onTxg_congr {f h : TxGroup → TxGroup} (e : f (s.txg c g) = h (s.txg c g)) : onTxg c g f s = onTxg c g h s :=
  onTx_congr (congrArg (fun v => { s.txc c with groups := v }) (upd_congr e))

theorem onTxg_id {f : TxGroup → TxGroup} (e : f (s.txg c g) = s.txg c g) : onTxg c g f s = s := by
  rw [onTxg, onTx, upd_id (congrArg (fun v => { s.txc c with groups := v }) (upd_id e))]

@[simp] theorem raiseIf_txg {d : Bool} {n ob : Nat} {a : EvtArg} : (raiseIf d n ob a s).txg c g = s.txg c g := rfl

/-! ### The field -/

theorem exec_loadingFieldReceived :
    exec (.loadingFieldReceived c g bs) s = .next (loadingField c g (ohField 16 (padTo 112 bs)) s) := rfl

theorem loadingField_bad (bad : crc16 ((padTo 112 bs).take 110) ≠ beAt (padTo 112 bs) 110 2) :
    loadingField c g bs s = onTxg c g (fun x => { x with lfCrc := bump x.lfCrc }) s := if_pos bad

theorem loadingField_taken (good : crc16 ((padTo 112 bs).take 110) = beAt (padTo 112 bs) 110 2) :
    loadingField c g bs s = ackLoading c g (byteAt (padTo 112 bs) 4)
      (useReport c g (padTo 112 bs) (rxLoading c g (padTo 112 bs) s)) := if_neg (fun bad => bad good)

/-! ### The receive side -/

/-- What every good field leaves with its group: the TID to acknowledge, and in TRACK with ARMED set the table announced (R95). -/
def TxGroup.hear (track : Bool) (b : List Byte) (x : TxGroup) : TxGroup :=
  { x with
    rxNext := if track && bit (byteAt b 0) 6 then some (fieldTable b 40) else x.rxNext
    rxNextTid := if track && bit (byteAt b 0) 6 then byteAt b 2 else x.rxNextTid
    rxCount := if track && bit (byteAt b 0) 6 then byteAt b 3 else x.rxCount
    ackTid := if byteAt b 2 = 0 then x.ackTid else byteAt b 2 }

/-- Outside TRACK only the TID to acknowledge is taken. -/
theorem rxLoading_away (away : (s.rxg c g).st ≠ .track) :
    (rxLoading c g b s).txg c g = { (s.txg c g).hear false b with mismatch := 0 } := by
  simp [rxLoading, TxGroup.hear, away]

/-- The first field of a stay in TRACK gives the table in force (R95). -/
theorem rxLoading_fresh (track : (s.rxg c g).st = .track) (fresh : (s.txg c g).rxEpoch ≠ some (s.rxg c g).epoch) :
    (rxLoading c g b s).txg c g = TxGroup.hear true b { s.txg c g with
      rxTid := byteAt b 1, rxTable := fieldTable b 8, rxPend := none, rxEpoch := some (s.rxg c g).epoch, outChanged := true
      mismatch := 0, rxNext := none } := by
  simp [rxLoading, TxGroup.hear, track, fresh]

section

variable (track : (s.rxg c g).st = .track) (known : (s.txg c g).rxEpoch = some (s.rxg c g).epoch)
include track known

/-- A later field of the TID in force confirms it. -/
theorem rxLoading_agrees (same : byteAt b 1 = (s.txg c g).rxTid) :
    (rxLoading c g b s).txg c g = { (s.txg c g).hear true b with mismatch := 0 } := by
  simp [rxLoading, TxGroup.hear, track, known, same]

/-- The first field of another TID is counted alone. -/
theorem rxLoading_differs (other : byteAt b 1 ≠ (s.txg c g).rxTid) (first : (s.txg c g).mismatch = 0) :
    (rxLoading c g b s).txg c g = { (s.txg c g).hear true b with mismatch := 1 } := by
  simp [rxLoading, TxGroup.hear, track, known, other, first]

/-- The second in a row resynchronises the group: its table waits for the next folio (R95). -/
theorem rxLoading_resyncs (other : byteAt b 1 ≠ (s.txg c g).rxTid) (second : 0 < (s.txg c g).mismatch) :
    (rxLoading c g b s).txg c g = TxGroup.hear true b { s.txg c g with
      rxPend := some (byteAt b 1, fieldTable b 8), mismatch := 0, resyncs := bump (s.txg c g).resyncs, rxNext := none } := by
  have again : 1 ≤ (s.txg c g).mismatch := second
  simp [rxLoading, TxGroup.hear, track, known, other, again]

theorem rxLoading_resync_status (other : byteAt b 1 ≠ (s.txg c g).rxTid) (second : 0 < (s.txg c g).mismatch) :
    (rxLoading c g b s).evt.status.getLsbD 67 = true := by
  have again : 1 ≤ (s.txg c g).mismatch := second
  have raised : (rxLoading c g b s).evt = (raise 67 (objGroup c g) (evtArg 0 0 0 0) s).evt := by
    simp [rxLoading, raiseIf, raise, track, known, other, again]
    rfl
  rw [raised]
  exact raise_status rfl rfl (by decide)

end

/-- In TRACK a field leaves what it hears, whatever else it changes. -/
theorem rxLoading_armed (track : (s.rxg c g).st = .track) (armed : bit (byteAt b 0) 6 = true) :
    ((rxLoading c g b s).txg c g).rxNext = some (fieldTable b 40) ∧ ((rxLoading c g b s).txg c g).rxNextTid = byteAt b 2 ∧
      ((rxLoading c g b s).txg c g).rxCount = byteAt b 3 := by
  simp [rxLoading, track, armed]

theorem rxLoading_ackTid : ((rxLoading c g b s).txg c g).ackTid = if byteAt b 2 = 0 then (s.txg c g).ackTid else byteAt b 2 := by
  simp [rxLoading]

/-! ### The acknowledgement and the report -/

/-- An acknowledgement of the TID proposed arms the proposal (R94). -/
theorem ackLoading_arms {a : Nat} (proposed : (s.txg c g).st = .proposed) (same : a = (s.txg c g).tidNext) :
    ackLoading c g a s = onTxg c g (fun x => { x with st := .armed, countdown := (loadPar s c g 0x60).toNat }) s :=
  onTxg_congr (if_pos ⟨proposed, same⟩)

theorem ackLoading_ignored {a : Nat} (other : (s.txg c g).st ≠ .proposed ∨ a ≠ (s.txg c g).tidNext) : ackLoading c g a s = s :=
  onTxg_id (if_neg fun ⟨proposed, same⟩ => other.elim (· proposed) (· same))

/-- The report of a field, accepted, and the margin checked with it. -/
def reportTaken (c : Fin 2) (g : Fin 16) (b : List Byte) (s : State) : State :=
  marginCheck c g (onTxg c g (fun x => x.accept (byteAt b 6) ((bytesAt b 72 32).map (·.toNat))) s)

theorem useReport_skips (h : bit (byteAt b 0) 5 = false ∨ byteAt b 7 ≠ (s.txg c g).tidCur ∨ (s.txg c g).rptSeq = some (byteAt b 6) ∨
    (s.txg c g).st = .off) : useReport c g b s = s := by
  refine if_neg ?_
  simp only [Bool.and_eq_true, beq_iff_eq, bne_iff_ne]
  rintro ⟨⟨⟨valid, tid⟩, new⟩, on⟩
  obtain invalid | other | old | off := h
  · exact Bool.false_ne_true (invalid.symm.trans valid)
  · exact other tid
  · exact new old
  · exact on off

section

variable (valid : bit (byteAt b 0) 5 = true) (tid : byteAt b 7 = (s.txg c g).tidCur) (new : (s.txg c g).rptSeq ≠ some (byteAt b 6))
  (on : (s.txg c g).st ≠ .off)
include valid tid new on

theorem useReport_takes : useReport c g b s =
    if loadPar (reportTaken c g b s) c g 0x20 = 0 ∧ marginNow (reportTaken c g b s) c g < loadPar (reportTaken c g b s) c g 0x30 then
      onTxg c g (fun x => { x with candidate := some (effOf x.snr) }) (reportTaken c g b s)
    else reportTaken c g b s :=
  if_pos (by simp [valid, tid, new, on])

end

/-- Entries up to 200 replace the SNR used, others keep it (R88, R92). -/
theorem accept_snr {x : TxGroup} {seq i : Nat} {rpt : List Nat} (h : i < 32) :
    (x.accept seq rpt).snr[i]? = some (if rpt.getD i 0xFF ≤ 200 then 25 * (rpt.getD i 0 : Int) - 1000 else x.snr.getD i 0) := by
  simp [TxGroup.accept, rptSnr, h]

end Sys2Proof.Machine
end

section
/-! Loading fields that fail their CRC, and the folios of a countdown (04_transmit_bitloading.md R93, R95). -/

namespace Sys2Proof.Machine

variable {c : Fin 2} {g : Fin 16} {s : State} {b : List Byte} {tab : List Nat} {tid n : Nat} {l : List (Option (List Byte))}

/-- What the demapper of a group has in force and what is scheduled for it. -/
def TxGroup.demapView (x : TxGroup) : Nat × List Nat × Option (List Nat) × Nat × Nat :=
  (x.rxTid, x.rxTable, x.rxNext, x.rxNextTid, x.rxCount)

/-- A table is scheduled for the `n`-th folio from here. -/
def TxGroup.scheduled (x : TxGroup) (tab : List Nat) (tid n : Nat) : Prop :=
  x.rxNext = some tab ∧ x.rxNextTid = tid ∧ x.rxCount = n

theorem scheduled_of_view {x y : TxGroup} (h : y.demapView = x.demapView) (hx : x.scheduled tab tid n) : y.scheduled tab tid n := by
  simp only [TxGroup.demapView, Prod.mk.injEq] at h
  obtain ⟨-, -, next, nextTid, count⟩ := h
  obtain ⟨tab_, tid_, n_⟩ := hx
  exact ⟨next.trans tab_, nextTid.trans tid_, count.trans n_⟩

/-! ### The transmit side and a failed field leave the demapper alone -/

theorem onTxg_demapView {f : TxGroup → TxGroup} (kept : ∀ x, (f x).demapView = x.demapView) :
    ((onTxg c g f s).txg c g).demapView = (s.txg c g).demapView := by
  rw [onTxg_txg, kept]

theorem ackLoading_demapView {a : Nat} : ((ackLoading c g a s).txg c g).demapView = (s.txg c g).demapView :=
  onTxg_demapView fun x => by split <;> rfl

theorem marginCheck_demapView : ((marginCheck c g s).txg c g).demapView = (s.txg c g).demapView :=
  onTxg_demapView fun _ => rfl

theorem reportTaken_demapView : ((reportTaken c g b s).txg c g).demapView = (s.txg c g).demapView :=
  marginCheck_demapView.trans (onTxg_demapView fun _ => rfl)

theorem useReport_demapView : ((useReport c g b s).txg c g).demapView = (s.txg c g).demapView := by
  by_cases skip : bit (byteAt b 0) 5 = false ∨ byteAt b 7 ≠ (s.txg c g).tidCur ∨ (s.txg c g).rptSeq = some (byteAt b 6) ∨
      (s.txg c g).st = .off
  · rw [useReport_skips skip]
  · obtain ⟨valid, other⟩ := not_or.1 skip
    obtain ⟨tid, other⟩ := not_or.1 other
    obtain ⟨new, on⟩ := not_or.1 other
    rw [useReport_takes (Bool.of_not_eq_false valid) (Decidable.of_not_not tid) new on]
    split
    · refine (onTxg_demapView ?_).trans reportTaken_demapView
      exact fun _ => rfl
    · exact reportTaken_demapView

theorem loadingField_bad_demapView (bad : crc16 ((padTo 112 b).take 110) ≠ beAt (padTo 112 b) 110 2) :
    ((loadingField c g b s).txg c g).demapView = (s.txg c g).demapView := by
  rw [loadingField_bad bad]
  exact onTxg_demapView fun _ => rfl

/-- A good field with ARMED set, received in TRACK, schedules the table that it announces. -/
theorem loadingField_schedules (track : (s.rxg c g).st = .track)
    (good : crc16 ((padTo 112 b).take 110) = beAt (padTo 112 b) 110 2) (armed : bit (byteAt (padTo 112 b) 0) 6 = true) :
    ((loadingField c g b s).txg c g).scheduled (fieldTable (padTo 112 b) 40) (byteAt (padTo 112 b) 2) (byteAt (padTo 112 b) 3) := by
  rw [loadingField_taken good]
  exact scheduled_of_view (ackLoading_demapView.trans useReport_demapView) (rxLoading_armed track armed)

/-! ### A folio boundary -/

theorem rxLoadBoundary_counts (h : (s.txg c g).scheduled tab tid (n + 2)) :
    ((rxLoadBoundary c g s).txg c g).scheduled tab tid (n + 1) := by
  obtain ⟨next, nextTid, count⟩ := h
  rw [rxLoadBoundary, onTxg_txg]
  cases pend : (s.txg c g).rxPend with
  | none => simp [TxGroup.scheduled, next, nextTid, count]
  | some p => simp [TxGroup.scheduled, TxGroup.demap, next, nextTid, count]

theorem rxLoadBoundary_takes (h : (s.txg c g).scheduled tab tid 1) :
    ((rxLoadBoundary c g s).txg c g).rxTable = tab ∧ ((rxLoadBoundary c g s).txg c g).rxTid = tid := by
  obtain ⟨next, nextTid, count⟩ := h
  rw [rxLoadBoundary, onTxg_txg]
  cases pend : (s.txg c g).rxPend with
  | none => simp [TxGroup.demap, next, nextTid, count]
  | some p => simp [TxGroup.demap, next, nextTid, count]

/-- A resynchronisation takes its table from the next folio (R95). -/
theorem rxLoadBoundary_resynced {p : Nat × List Nat} (pend : (s.txg c g).rxPend = some p) (free : (s.txg c g).rxNext = none) :
    ((rxLoadBoundary c g s).txg c g).rxTid = p.1 ∧ ((rxLoadBoundary c g s).txg c g).rxTable = p.2 := by
  rw [rxLoadBoundary, onTxg_txg]
  simp [TxGroup.demap, pend, free]

/-! ### Failed fields and folio boundaries in any order -/

/-- Fields that fail their CRC leave the demapper alone. -/
theorem foliosReceived_bad (bad : ∀ y, some y ∈ l → crc16 ((padTo 112 y).take 110) ≠ beAt (padTo 112 y) 110 2)
    (none_ : (l.filter Option.isNone).length = 0) : ((foliosReceived c g s l).txg c g).demapView = (s.txg c g).demapView := by
  induction l generalizing s with
  | nil => rfl
  | cons y r ih =>
    cases y with
    | none => simp at none_
    | some y => exact (ih (fun z hz => bad z (.tail _ hz)) none_).trans (loadingField_bad_demapView (bad y (.head r)))

theorem foliosReceived_takes (bad : ∀ y, some y ∈ l → crc16 ((padTo 112 y).take 110) ≠ beAt (padTo 112 y) 110 2)
    (count : (l.filter Option.isNone).length = n + 1) (h : (s.txg c g).scheduled tab tid (n + 1)) :
    ((foliosReceived c g s l).txg c g).rxTable = tab ∧ ((foliosReceived c g s l).txg c g).rxTid = tid := by
  induction l generalizing s n with
  | nil => simp at count
  | cons y r ih =>
    have later : ∀ z, some z ∈ r → crc16 ((padTo 112 z).take 110) ≠ beAt (padTo 112 z) 110 2 := fun z hz => bad z (.tail _ hz)
    cases y with
    | some y => exact ih later count (scheduled_of_view (loadingField_bad_demapView (bad y (.head r))) h)
    | none =>
      have left : (r.filter Option.isNone).length = n := Nat.succ.inj count
      cases n with
      | succ n => exact ih later left (rxLoadBoundary_counts h)
      | zero =>
        obtain ⟨table, tid_⟩ := rxLoadBoundary_takes h
        have kept := foliosReceived_bad (c := c) (g := g) (s := rxLoadBoundary c g s) later left
        simp only [TxGroup.demapView, Prod.mk.injEq] at kept
        obtain ⟨keptTid, keptTable, -⟩ := kept
        exact ⟨keptTable.trans table, keptTid.trans tid_⟩

/-- Settles O54: a field that fails its CRC leaves the demapper as it is, and each folio boundary counts down what one good field
scheduled. -/
theorem failedLoadingFieldDiscarded : Obligations.FailedLoadingFieldDiscarded := by
  refine ⟨fun c g bs s bad => ?_, fun c g bs s l track good armed ahead bad count => ⟨_, exec_loadingFieldReceived, ?_⟩⟩
  · rw [exec_loadingFieldReceived, loadingField_bad bad]
  · obtain ⟨n, hn⟩ := Nat.exists_eq_add_one.2 ahead
    exact foliosReceived_takes bad (count.trans hn) (hn ▸ loadingField_schedules track good armed)

end Sys2Proof.Machine
end

section
/-! The allocation, the proposals of a group and its report interval (04_transmit_bitloading.md R88 to R90, R94, R103). -/

namespace Sys2Proof.Machine

variable {c : Fin 2} {g : Fin 16} {s : State}

/-! ### One step of the allocation -/

section

variable {req eff : List Int} {e ks : List Nat} {k n : Nat} {m : Int}

/-- The margin that the next sixteenth leaves to a subcarrier (R89). -/
def nextMargin (req eff : List Int) (e : List Nat) (k : Nat) : Int := eff.getD k 0 - req.getD (e.getD k 0 + 1) 0

/-- What the choice of a subcarrier among `ks` means: none below E 104, or the one with the largest margin, the lowest-numbered on
a tie (R89). -/
def IsBest (req eff : List Int) (e ks : List Nat) : Option (Nat × Int) → Prop
  | none => ∀ k ∈ ks, e.getD k 0 = 104
  | some (k, m) => k ∈ ks ∧ e.getD k 0 ≠ 104 ∧ m = nextMargin req eff e k ∧
      (∀ j ∈ ks, e.getD j 0 ≠ 104 → nextMargin req eff e j ≤ m) ∧
      (ks.Pairwise (· < ·) → ∀ j ∈ ks, j < k → e.getD j 0 ≠ 104 → nextMargin req eff e j < m)

theorem bestSub_concat : bestSub req eff e (ks ++ [k]) =
    if e.getD k 0 = 104 then bestSub req eff e ks
    else match bestSub req eff e ks with
      | none => some (k, nextMargin req eff e k)
      | some (j, m) => if m < nextMargin req eff e k then some (k, nextMargin req eff e k) else some (j, m) := by
  rw [bestSub, List.foldl_append, ← bestSub]
  cases bestSub req eff e ks <;> rfl

/-- A subcarrier after the others that is full, or no better, leaves the choice. -/
theorem IsBest.keep {best : Option (Nat × Int)} (h : IsBest req eff e ks best)
    (worse : e.getD k 0 = 104 ∨ ∃ p, best = some p ∧ nextMargin req eff e k ≤ p.2) : IsBest req eff e (ks ++ [k]) best := by
  match best, h with
  | none, full =>
    obtain full_k | ⟨p, absurd_, -⟩ := worse
    · intro j hj
      obtain hj | hj := List.mem_append.1 hj
      · exact full j hj
      · exact List.mem_singleton.1 hj ▸ full_k
    · cases absurd_
  | some (i, m), ⟨mem, open_, margin, most, lowest⟩ =>
    refine ⟨List.mem_append_left _ mem, open_, margin, fun j hj below => ?_, fun sorted j hj lt below => ?_⟩
    · obtain hj | hj := List.mem_append.1 hj
      · exact most j hj below
      · obtain rfl := List.mem_singleton.1 hj
        obtain full | ⟨p, same, le⟩ := worse
        · exact absurd full below
        · cases same
          exact le
    · obtain ⟨before, -, last⟩ := List.pairwise_append.1 sorted
      obtain hj | hj := List.mem_append.1 hj
      · exact lowest before j hj lt below
      · obtain rfl := List.mem_singleton.1 hj
        exact absurd lt (Nat.lt_asymm (last i mem j (.head _)))

/-- A subcarrier after the others that is better than all of them is the choice. -/
theorem IsBest.replace (open_ : e.getD k 0 ≠ 104) (better : ∀ j ∈ ks, e.getD j 0 ≠ 104 → nextMargin req eff e j < nextMargin req eff e k) :
    IsBest req eff e (ks ++ [k]) (some (k, nextMargin req eff e k)) := by
  refine ⟨List.mem_append_right _ (.head _), open_, rfl, fun j hj below => ?_, fun _ j hj lt below => ?_⟩
  · obtain hj | hj := List.mem_append.1 hj
    · exact Int.le_of_lt (better j hj below)
    · exact List.mem_singleton.1 hj ▸ Int.le_refl _
  · obtain hj | hj := List.mem_append.1 hj
    · exact better j hj below
    · exact absurd (List.mem_singleton.1 hj) (Nat.ne_of_lt lt)

theorem bestSub_isBest_concat (ih : IsBest req eff e ks (bestSub req eff e ks)) :
    IsBest req eff e (ks ++ [k]) (bestSub req eff e (ks ++ [k])) := by
  rw [bestSub_concat]
  by_cases full : e.getD k 0 = 104
  · rw [if_pos full]
    exact ih.keep (.inl full)
  · rw [if_neg full]
    cases best : bestSub req eff e ks with
    | none =>
      rw [best] at ih
      exact .replace full fun j hj below => absurd (ih j hj) below
    | some p =>
      rw [best] at ih
      by_cases better : p.2 < nextMargin req eff e k
      · obtain ⟨-, -, -, most, -⟩ := ih
        simp only [if_pos better]
        exact .replace full fun j hj below => Int.lt_of_le_of_lt (most j hj below) better
      · simp only [if_neg better]
        exact ih.keep (.inr ⟨p, rfl, Int.not_lt.1 better⟩)

/-- By induction on the subcarriers from the last one back, as the choice goes through them from the first. -/
theorem bestSub_isBest : IsBest req eff e ks (bestSub req eff e ks) := by
  rw [← List.reverse_reverse ks]
  induction ks.reverse with
  | nil => exact fun _ h => nomatch h
  | cons k rs ih =>
    rw [List.reverse_cons]
    exact bestSub_isBest_concat ih

theorem allocate_step (h : bestSub req eff e ks = some (k, m)) :
    allocate req eff ks (n + 1) e = allocate req eff ks n (e.modify k (· + 1)) := by
  rw [allocate, h]

end

/-! ### Proposals -/

section

variable {x : TxGroup} {tab : List Nat}

theorem propose_free (h : x.st = .steady ∨ x.st = .proposed) :
    x.propose tab = { x with st := .proposed, tidNext := x.nextTid, lastTid := x.nextTid, tableNext := tab } := by
  obtain h | h := h <;> rw [TxGroup.propose, h]

theorem propose_barred (h : x.st = .armed ∨ x.st = .off) : x.propose tab = x := by
  obtain h | h := h <;> rw [TxGroup.propose, h]

/-- During ARMED a table of AUTO waits for STEADY (R94). -/
theorem proposeAuto_armed (h : x.st = .armed) : x.proposeAuto tab = { x with want := some tab } := by
  rw [TxGroup.proposeAuto, if_neg (by simp [h]), if_pos h]

theorem proposeAuto_again (h : x.st = .proposed) (same : x.tableNext = tab) : x.proposeAuto tab = x := if_pos ⟨h, same⟩

theorem proposeAuto_new (free : x.st ≠ .armed) (new : x.st ≠ .proposed ∨ x.tableNext ≠ tab) : x.proposeAuto tab = x.propose tab := by
  rw [TxGroup.proposeAuto, if_neg (fun ⟨proposed, same⟩ => new.elim (· proposed) (· same)), if_neg free]

/-- The next TID skips the one in force (R94). -/
theorem nextTid_new : x.nextTid ≠ x.tidCur := by
  unfold TxGroup.nextTid
  extract_lets n
  by_cases same : n = x.tidCur
  · rw [if_pos same]
    split <;> omega
  · rwa [if_neg same]

end

/-! ### Candidates -/

theorem exec_loadingCandidateReady : exec (.loadingCandidateReady c g) s = .next (candidateReady c g s) := rfl

theorem candidateReady_none (h : (s.txg c g).candidate = none) : candidateReady c g s = s := by
  rw [candidateReady, h]

section

variable {eff : List Int} (h : (s.txg c g).candidate = some eff)
include h

/-- Under AUTO a candidate with a margin above the one in force is proposed (R90). -/
theorem candidateReady_proposes (auto : loadPar s c g 0x20 = 0)
    (better : marginNow s c g < tableMargin s c g.val (candidateTable s c g.val eff) eff) :
    candidateReady c g s = onTxg c g (fun x => { x with candidate := none }.proposeAuto (candidateTable s c g.val eff)) s := by
  rw [candidateReady, h]
  exact onTxg_congr (if_pos ⟨auto, better⟩)

theorem candidateReady_drops
    (other : loadPar s c g 0x20 ≠ 0 ∨ tableMargin s c g.val (candidateTable s c g.val eff) eff ≤ marginNow s c g) :
    candidateReady c g s = onTxg c g (fun x => { x with candidate := none }) s := by
  rw [candidateReady, h]
  exact onTxg_congr (if_neg fun ⟨auto, better⟩ => other.elim (· auto) (Int.not_le.2 better))

end

/-! ### The end of an interval -/

theorem exec_loadingIntervalEnd : exec (.loadingIntervalEnd c g) s = .next (loadingIntervalEnd c g s) := rfl

/-- The SNR used at an interval's end: an entry never valid in the interval counts as −10 dB (R88). -/
def intervalSnr (x : TxGroup) : List Int :=
  if x.reports = 0 then x.snr else (List.range 32).map fun i => if x.neverOk.getD i true then -1000 else x.snr.getD i 0

/-- The effective SNR from the means over the interval (R88, R90). -/
def meanEff (x : TxGroup) : List Int :=
  effOf ((List.range 32).map fun i => if x.neverOk.getD i true then -1000 else divRound (x.sums.getD i 0) x.reports)

/-- The state in which the next interval begins. -/
def intervalBegun (c : Fin 2) (g : Fin 16) (s : State) : State :=
  onTxg c g (fun x => { x with
    sums := List.replicate 32 0, reports := 0, neverOk := List.replicate 32 true, snr := intervalSnr x }) s

/-- Does the candidate of the interval exceed the margin in force by the hysteresis (R90)? -/
def intervalBetter (c : Fin 2) (g : Fin 16) (s : State) : Prop :=
  marginNow (marginCheck c g (intervalBegun c g s)) c g + loadPar s c g 0x40 ≤
    tableMargin s c g.val (candidateTable s c g.val (meanEff (s.txg c g))) (meanEff (s.txg c g))

theorem intervalEnd_begun : onTxg c g (fun x => { x with
    sums := List.replicate 32 0, reports := 0, neverOk := List.replicate 32 true
    snr := if x.reports = 0 then x.snr else (List.range 32).map fun i => if (s.txg c g).neverOk.getD i true then -1000 else x.snr.getD i 0 }) s =
    intervalBegun c g s := onTxg_congr rfl

theorem loadingIntervalEnd_idle (h : (s.txg c g).reports = 0 ∨ (s.txg c g).st = .off) :
    loadingIntervalEnd c g s = intervalBegun c g s :=
  (if_pos h).trans intervalEnd_begun

section

variable (some_ : 0 < (s.txg c g).reports) (on : (s.txg c g).st ≠ .off)
include some_ on

theorem loadingIntervalEnd_candidate (auto : loadPar s c g 0x20 = 0) (better : intervalBetter c g s) : loadingIntervalEnd c g s =
    onTxg c g (fun x => { x with candidate := some (meanEff (s.txg c g)) }) (marginCheck c g (intervalBegun c g s)) := by
  rw [loadingIntervalEnd]
  dsimp only
  rw [if_neg (not_or.2 ⟨Nat.ne_of_gt some_, on⟩), intervalEnd_begun]
  exact if_pos ⟨auto, better⟩

theorem loadingIntervalEnd_kept (other : loadPar s c g 0x20 ≠ 0 ∨ ¬intervalBetter c g s) :
    loadingIntervalEnd c g s = marginCheck c g (intervalBegun c g s) := by
  rw [loadingIntervalEnd]
  dsimp only
  rw [if_neg (not_or.2 ⟨Nat.ne_of_gt some_, on⟩), intervalEnd_begun]
  exact if_neg fun ⟨auto, better⟩ => other.elim (· auto) (· better)

end

/-! ### Entry to STEADY -/

theorem exec_proposalTimeout : exec (.proposalTimeout c g) s = .next (proposalTimeout c g s) := rfl

/-- A proposal not acknowledged is withdrawn with BITLOAD_SWITCH_TIMEOUT (R94). -/
theorem proposalTimeout_withdraws (h : (s.txg c g).st = .proposed) : proposalTimeout c g s =
    enterSteady c g (raise 66 (objGroup c g) (evtArg 0 0 0 0) (onTxg c g (fun x => { x with withdrawn := bump x.withdrawn }) s)) :=
  if_pos h

theorem proposalTimeout_idle (h : (s.txg c g).st ≠ .proposed) : proposalTimeout c g s = s := if_neg h

/-- The state at the entry to STEADY: waiting values and curves apply, and no proposal is outstanding (R94, R103). -/
def steadyReady (c : Fin 2) (g : Fin 16) (s : State) : State :=
  releaseCurves c (onTxg c g (fun x => { x with
    st := .steady, tidNext := 0, tableNext := List.replicate 16 0, countdown := 0, want := none })
    { s with par := s.par.release .r103 (objGroup c g) })

/-- What the policy in force proposes on entry: AUTO the table that waited, MANUAL its table when that is not in force (R90). -/
def steadyProposal (c : Fin 2) (g : Fin 16) (s : State) : Option (List Nat) :=
  let u := steadyReady c g s
  if loadPar u c g 0x20 = 0 then (s.txg c g).want
  else if loadPar u c g 0x20 = 1 then (u.txg c g).manual.filter fun t => t != (u.txg c g).tableCur && tableFits u c g.val t
  else none

theorem enterSteady_proposes {t : List Nat} (h : steadyProposal c g s = some t) :
    enterSteady c g s = onTxg c g (fun x => x.propose t) (steadyReady c g s) := by
  change (match steadyProposal c g s with | some t => _ | none => _) = _
  rw [h]
  rfl

theorem enterSteady_rests (h : steadyProposal c g s = none) : enterSteady c g s = steadyReady c g s := by
  change (match steadyProposal c g s with | some t => _ | none => _) = _
  rw [h]
  rfl

theorem steadyProposal_auto (auto : loadPar (steadyReady c g s) c g 0x20 = 0) : steadyProposal c g s = (s.txg c g).want := if_pos auto

theorem steadyProposal_hold (auto : loadPar (steadyReady c g s) c g 0x20 ≠ 0) (manual : loadPar (steadyReady c g s) c g 0x20 ≠ 1) :
    steadyProposal c g s = none := (if_neg auto).trans (if_neg manual)

section

variable (manual : loadPar (steadyReady c g s) c g 0x20 = 1)
include manual

theorem steadyProposal_manual : steadyProposal c g s = ((steadyReady c g s).txg c g).manual.filter fun t =>
    t != ((steadyReady c g s).txg c g).tableCur && tableFits (steadyReady c g s) c g.val t := by
  rw [steadyProposal]
  exact (if_neg (by rw [manual]; decide)).trans (if_pos manual)

theorem steadyProposal_fits {m : List Nat} (some_ : ((steadyReady c g s).txg c g).manual = some m)
    (new : m ≠ ((steadyReady c g s).txg c g).tableCur) (fits : tableFits (steadyReady c g s) c g.val m = true) :
    steadyProposal c g s = some m := by
  rw [steadyProposal_manual manual, some_, Option.filter_some, if_pos (by simp [new, fits])]

theorem steadyProposal_unfit (unfit : ∀ m, ((steadyReady c g s).txg c g).manual = some m →
      m = ((steadyReady c g s).txg c g).tableCur ∨ tableFits (steadyReady c g s) c g.val m = false) : steadyProposal c g s = none := by
  rw [steadyProposal_manual manual, Option.filter_eq_none_iff]
  intro m hm
  obtain same | bad := unfit m hm
  · simp [same]
  · simp [bad]

end

end Sys2Proof.Machine
end

section
/-! The tables that the host gives, and the statement on loading assembled (14_command_reference.md R344, R345;
04_transmit_bitloading.md R86, R87, R90, R99). -/

namespace Sys2Proof.Machine

variable {c : Fin 2} {g : Fin 16} {s : State} {q : Request}

/-! ### BITLOAD.TABLE.SET -/

theorem exec_bitloadTableSet : exec (.bitloadTableSet q) s = .next (deskRun 0x0402 tableSet q s) := rfl

/-- The table that a request carries. -/
def reqTable (q : Request) : List Nat := (List.range 16).map fun k => u16 q (4 + 2 * k)

theorem tableSet_barred (h : loadPar s (reqCarrier q) (reqGroup q) 0x20 ≠ 1) : tableSet q s = (s, refuse stBadState) := if_pos h

theorem tableFits_sum {tab : List Nat} {n : Nat} (good : badEntry s c n tab = none) : tableFits s c n tab =
    (((groupSubs s c n).map fun k => 16 + entryE (tab.getD k 0)).sum == targetOf s c n) := by
  rw [tableFits, good]
  rfl

section

variable (manual : loadPar s (reqCarrier q) (reqGroup q) 0x20 = 1)
include manual

theorem tableSet_badEntry {k : Nat} (bad : badEntry s (reqCarrier q) (reqGroup q).val (reqTable q) = some k) :
    tableSet q s = (s, badParam (4 + 2 * k)) := by
  refine (if_neg (fun other => other manual)).trans ?_
  rw [← reqTable, bad]

variable (good : badEntry s (reqCarrier q) (reqGroup q).val (reqTable q) = none)
include good

/-- A table that does not give the sum T is refused (R86, R90). -/
theorem tableSet_badSum (sum : ((groupSubs s (reqCarrier q) (reqGroup q).val).map fun k => 16 + entryE ((reqTable q).getD k 0)).sum ≠
    targetOf s (reqCarrier q) (reqGroup q).val) : tableSet q s = (s, badParam 4) := by
  refine (if_neg (fun other => other manual)).trans ?_
  rw [← reqTable, good]
  exact if_pos (by rw [tableFits_sum good, beq_false_of_ne sum]; rfl)

theorem tableSet_accepted (sum : ((groupSubs s (reqCarrier q) (reqGroup q).val).map fun k => 16 + entryE ((reqTable q).getD k 0)).sum =
    targetOf s (reqCarrier q) (reqGroup q).val) : tableSet q s =
      (keepBody 0x0402 q (onTxg (reqCarrier q) (reqGroup q) (fun x => { x.propose (reqTable q) with manual := some (reqTable q) }) s),
        ok (leBytes 1 (s.txg (reqCarrier q) (reqGroup q)).nextTid)) := by
  refine (if_neg (fun other => other manual)).trans ?_
  rw [← reqTable, good]
  exact if_neg (by rw [tableFits_sum good, beq_iff_eq.2 sum]; decide)

end

/-! ### BITLOAD.CURVE.SET -/

theorem exec_bitloadCurveSet : exec (.bitloadCurveSet q) s = .next (deskRun 0x0403 curveSet q s) := rfl

/-- The curve that a request carries. -/
def reqCurve (q : Request) : List Int := (List.range 105).map fun i => s16 q (8 + 2 * i)

theorem curveSet_badRate (h : 2 < u8 q 4) : curveSet q s = (s, badParam 4) := if_pos h

section

variable (rate : u8 q 4 ≤ 2)
include rate

/-- A curve that does not decrease is kept; it waits while a proposal is outstanding (R87, R103). -/
theorem curveSet_accepted (rises : ∀ i, i < 104 → (reqCurve q).getD i 0 ≤ (reqCurve q).getD (i + 1) 0) : curveSet q s =
    (keepBody 0x0403 q (releaseCurves (reqCarrier q)
      (onTx (reqCarrier q) (fun t => { t with curvesNext := putKey (u8 q 4) (reqCurve q) t.curvesNext }) s)), ok) := by
  have none_ : (List.range 104).find? (fun i => decide ((reqCurve q).getD (i + 1) 0 < (reqCurve q).getD i 0)) = none :=
    List.find?_eq_none.2 fun i hi => by simpa using rises i (List.mem_range.1 hi)
  refine (if_neg (Nat.not_lt.2 rate)).trans ?_
  rw [← reqCurve, none_]

theorem curveSet_falls {i : Nat} (lt : i < 104) (falls : (reqCurve q).getD (i + 1) 0 < (reqCurve q).getD i 0) :
    ∃ d, curveSet q s = (s, badParam d) := by
  have found : ((List.range 104).find? fun i => decide ((reqCurve q).getD (i + 1) 0 < (reqCurve q).getD i 0)).isSome = true :=
    List.find?_isSome.2 ⟨i, List.mem_range.2 lt, decide_eq_true falls⟩
  obtain ⟨j, first⟩ := Option.isSome_iff_exists.1 found
  refine ⟨10 + 2 * j, (if_neg (Nat.not_lt.2 rate)).trans ?_⟩
  rw [← reqCurve, first]

end

/-! ### TXDSP.PREDIST.SET -/

theorem exec_txdspPredistSet : exec (.txdspPredistSet q) s = .next (deskRun 0x0411 predistSet q s) := rfl

/-- The pre-distortion table that a request carries. -/
def reqPredist (q : Request) : List Nat := q.bulk.map (·.toNat)

/-- 1,024 codes that do not decrease (R99). -/
def predistOk (q : Request) : Prop := q.bulk.length = 1024 ∧ ∀ i, i < 1023 → (reqPredist q).getD i 0 ≤ (reqPredist q).getD (i + 1) 0

theorem predistOk_iff : predistOk q ↔ ¬(q.bulk.length ≠ 1024 ∨
    (List.range 1023).any (fun i => decide ((reqPredist q).getD (i + 1) 0 < (reqPredist q).getD i 0)) = true) := by
  simp only [predistOk, not_or, ne_eq, Decidable.not_not, List.any_eq_true, List.mem_range, decide_eq_true_eq, not_exists, not_and, Nat.not_lt]

theorem predistSet_refused (bad : ¬predistOk q) : predistSet q s = (s, badParam 0) :=
  if_pos (Decidable.of_not_not fun h => bad (predistOk_iff.2 h))

theorem predistSet_accepted (good : predistOk q) : predistSet q s =
    (keepBody 0x0411 q (onTx (reqCarrier q)
      (fun t => if t.txOn then { t with predistNext := some (reqPredist q) } else { t with predist := reqPredist q }) s), ok) :=
  if_neg (predistOk_iff.1 good)

/-- While the transmitter runs the table waits for the volume boundary (R99, R103). -/
theorem predistSet_running (good : predistOk q) (on : (s.txc (reqCarrier q)).txOn = true) : predistSet q s =
    (keepBody 0x0411 q (onTx (reqCarrier q) (fun t => { t with predistNext := some (reqPredist q) }) s), ok) :=
  (predistSet_accepted good).trans (congrArg (fun u => (keepBody 0x0411 q u, ok)) (onTx_congr (if_pos on)))

theorem predistSet_stopped (good : predistOk q) (off : (s.txc (reqCarrier q)).txOn = false) : predistSet q s =
    (keepBody 0x0411 q (onTx (reqCarrier q) (fun t => { t with predist := reqPredist q }) s), ok) :=
  (predistSet_accepted good).trans (congrArg (fun u => (keepBody 0x0411 q u, ok)) (onTx_congr (if_neg (by simp [off]))))

/-! ### The statement -/

theorem exec_qualityWindowEnd {ms : List (Fin 16 × SubQuality)} :
    exec (.qualityWindowEnd c g ms) s = .next (qualityWindowEnd c g ms s) := rfl

/-- Settles O55: each clause is the rule of one function, in the order of the statement. That a MANUAL table is proposed again on
entry to STEADY, after a withdrawal too (log 29), that a report is used once per RPT_SEQ (log 86) and that a table whose sum is not T
gives DETAIL 4 and a pre-distortion table that decreases DETAIL 0 (log 84) are the model's choices. -/
theorem loadingAndTransmitDsp : Obligations.LoadingAndTransmitDsp := by
  refine ⟨fun req eff e ks => ?_, fun req eff ks n e k m => allocate_step, fun c g bs s => ?_,
    fun x tab => ⟨propose_free, propose_barred, proposeAuto_armed, proposeAuto_again, proposeAuto_new, fun _ => nextTid_new⟩,
    fun c g s => ?_, fun c g ms s => exec_qualityWindowEnd, fun q s => ⟨fun run => ?_, fun run => ?_, fun run => ?_⟩⟩
  · have best := bestSub_isBest (req := req) (eff := eff) (e := e) (ks := ks)
    exact ⟨fun h => by rwa [h] at best, fun k m h => by rwa [h] at best⟩
  · refine ⟨fun good => ?_, fun track fresh => ?_, fun track known => ?_, fun track known same => ?_, fun track known other =>
      ⟨fun first => ?_, fun second => ?_⟩, rxLoading_armed, fun away => ?_, rxLoading_ackTid, fun a => ⟨ackLoading_arms, ackLoading_ignored⟩,
      useReport_skips, fun valid tid new on => ⟨fun auto low => ?_, fun other => ?_⟩, fun p => rxLoadBoundary_resynced,
      fun rpt i => accept_snr⟩
    · rw [exec_loadingFieldReceived, loadingField_taken good]
    · rw [rxLoading_fresh track fresh]
      exact ⟨rfl, rfl, rfl, rfl, rfl⟩
    · by_cases same : byteAt (padTo 112 (ohField 16 (padTo 112 bs))) 1 = (s.txg c g).rxTid
      · rw [rxLoading_agrees track known same]
        exact ⟨rfl, rfl⟩
      · obtain first | second := Nat.eq_zero_or_pos (s.txg c g).mismatch
        · rw [rxLoading_differs track known same first]
          exact ⟨rfl, rfl⟩
        · rw [rxLoading_resyncs track known same second]
          exact ⟨rfl, rfl⟩
    · rw [rxLoading_agrees track known same]
      exact ⟨rfl, rfl, rfl⟩
    · rw [rxLoading_differs track known other first]
      exact ⟨rfl, rfl, rfl⟩
    · rw [rxLoading_resyncs track known other second]
      exact ⟨rfl, rfl, rfl, rxLoading_resync_status track known other second⟩
    · rw [rxLoading_away away]
      exact ⟨rfl, rfl, rfl, rfl⟩
    · rw [useReport_takes valid tid new on]
      exact if_pos ⟨auto, low⟩
    · rw [useReport_takes valid tid new on]
      exact if_neg fun ⟨auto, low⟩ => other.elim (· auto) (Int.not_le.2 low)
  · refine ⟨fun h => ?_, fun eff h => ⟨fun auto better => ?_, fun other => ?_⟩, ⟨fun idle => ?_, fun some_ on =>
      ⟨fun auto better => ?_, fun other => ?_⟩⟩, fun h => ?_, fun h => ?_, fun t auto want => ?_, fun auto want => ?_,
      fun m manual some_ new fits => ?_, fun manual unfit => ?_, fun auto manual => ?_⟩
    · rw [exec_loadingCandidateReady, candidateReady_none h]
    · rw [exec_loadingCandidateReady, candidateReady_proposes h auto better]
    · rw [exec_loadingCandidateReady, candidateReady_drops h other]
    · rw [exec_loadingIntervalEnd, loadingIntervalEnd_idle idle]
      rfl
    · rw [exec_loadingIntervalEnd, loadingIntervalEnd_candidate some_ on auto better]
      rfl
    · rw [exec_loadingIntervalEnd, loadingIntervalEnd_kept some_ on other]
      rfl
    · rw [exec_proposalTimeout, proposalTimeout_idle h]
    · rw [exec_proposalTimeout, proposalTimeout_withdraws h]
    · exact enterSteady_proposes ((steadyProposal_auto auto).trans want)
    · exact enterSteady_rests ((steadyProposal_auto auto).trans want)
    · exact enterSteady_proposes (steadyProposal_fits manual some_ new fits)
    · exact enterSteady_rests (steadyProposal_unfit manual unfit)
    · exact enterSteady_rests (steadyProposal_hold auto manual)
  · refine ⟨fun other => ?_, fun manual => ⟨fun k bad => ?_, fun good sum => ?_, fun good sum => ?_⟩⟩
    · rw [exec_bitloadTableSet, deskRun_done run (tableSet_barred other)]
    · rw [exec_bitloadTableSet, deskRun_done run (tableSet_badEntry manual bad)]
    · rw [exec_bitloadTableSet, deskRun_done run (tableSet_badSum manual good sum)]
    · rw [exec_bitloadTableSet, deskRun_done run (tableSet_accepted manual good sum)]
      rfl
  · refine ⟨fun high => ?_, fun rate rises => ?_, fun rate i lt falls => ?_⟩
    · rw [exec_bitloadCurveSet, deskRun_done run (curveSet_badRate high)]
    · rw [exec_bitloadCurveSet, deskRun_done run (curveSet_accepted rate rises)]
      rfl
    · obtain ⟨d, refused⟩ := curveSet_falls (s := s) rate lt falls
      exact ⟨d, by rw [exec_bitloadCurveSet, deskRun_done run refused]⟩
  · refine ⟨fun good on => ?_, fun good off => ?_, fun bad => ?_⟩
    · rw [exec_txdspPredistSet, deskRun_done run (predistSet_running good on)]
      rfl
    · rw [exec_txdspPredistSet, deskRun_done run (predistSet_stopped good off)]
      rfl
    · rw [exec_txdspPredistSet, deskRun_done run (predistSet_refused bad)]

end Sys2Proof.Machine
end

section
/-! A codeword's parcel: from the stream of its group to the pool that takes it (05_readers_decoding.md R111 to R114, R121, R126). -/

namespace Sys2Proof.Machine

variable {c : Fin 2} {g : Fin 16} {p : Fin 8} {s : State} {ds : List Dim} {arrival : Nat}

/-! ### The parcel assembled -/

theorem exec_parcelAssembled : exec (.parcelAssembled c g) s = .next (parcelAssembled c g s) := rfl

/-- The codeword boundaries of a group are known, and it is in TRACK or has a codeword open (R74, R111). -/
structure Streaming (x : RxGroup) : Prop where
  synced : x.synced = true
  live : x.st = .track ∨ x.closing = true

theorem streaming_iff {x : RxGroup} : Streaming x ↔ x.synced = true ∧ (x.st = .track ∨ x.closing = true) :=
  ⟨fun ⟨synced, live⟩ => ⟨synced, live⟩, fun ⟨synced, live⟩ => ⟨synced, live⟩⟩

theorem not_streaming_iff {x : RxGroup} : ¬Streaming x ↔ x.synced = false ∨ (x.st ≠ .track ∧ x.closing = false) := by
  rw [streaming_iff, Decidable.not_and_iff_not_or_not, not_or, Bool.not_eq_true, Bool.not_eq_true]

/-- The stream bits that the next codeword may take. -/
def openBits (x : RxGroup) : Nat := segBits (sameVol (openStream x.segs)).1

/-- The arrival of the earliest folio of the stream. -/
def openArrival (x : RxGroup) : Nat := ((openStream x.segs).head?.map (·.arrival)).getD 0

/-- The stream of a group that has left TRACK ends. -/
def streamEnded (c : Fin 2) (g : Fin 16) (s : State) : State :=
  onRxg c g (fun x => { x with segs := [], synced := false, closing := false }) s

theorem parcelAssembled_idle (h : ¬Streaming (s.rxg c g)) : parcelAssembled c g s = s :=
  if_pos (by simpa using not_streaming_iff.1 h)

section

variable (live : Streaming (s.rxg c g))
include live

theorem parcelAssembled_streaming : parcelAssembled c g s =
    if 20480 ≤ openBits (s.rxg c g) then sendParcel c g (takeSegs 20480 (openStream (s.rxg c g).segs)).1 (openArrival (s.rxg c g))
      (onRxg c g (fun x => { x with segs := (takeSegs 20480 (openStream (s.rxg c g).segs)).2 }) s)
    else if (s.rxg c g).closing then
      if openBits (s.rxg c g) = 0 then streamEnded c g s
      else sendParcel c g (takeSegs (openBits (s.rxg c g)) (openStream (s.rxg c g).segs)).1 (openArrival (s.rxg c g)) (streamEnded c g s)
    else s :=
  if_neg fun idle => not_streaming_iff.2 (by simpa using idle) live

theorem parcelAssembled_whole (whole : 20480 ≤ openBits (s.rxg c g)) : parcelAssembled c g s =
    sendParcel c g (takeSegs 20480 (openStream (s.rxg c g).segs)).1 (openArrival (s.rxg c g))
      (onRxg c g (fun x => { x with segs := (takeSegs 20480 (openStream (s.rxg c g).segs)).2 }) s) := by
  rw [parcelAssembled_streaming live, if_pos whole]

variable (part : openBits (s.rxg c g) < 20480)
include part

theorem parcelAssembled_waits (open_ : (s.rxg c g).closing = false) : parcelAssembled c g s = s := by
  rw [parcelAssembled_streaming live, if_neg (Nat.not_le.2 part), if_neg (Bool.eq_false_iff.1 open_)]

theorem parcelAssembled_closing (closing : (s.rxg c g).closing = true) : parcelAssembled c g s =
    if openBits (s.rxg c g) = 0 then streamEnded c g s
    else sendParcel c g (takeSegs (openBits (s.rxg c g)) (openStream (s.rxg c g).segs)).1 (openArrival (s.rxg c g)) (streamEnded c g s) := by
  rw [parcelAssembled_streaming live, if_neg (Nat.not_le.2 part), if_pos closing]

end

/-! ### The pool that takes a parcel -/

section

variable {ok : Fin 8 → Bool} {key : Pool → Nat} {pre l : List (Fin 8)} {b : Option (Fin 8)}

/-- One step of the search for the pool with the least key. -/
def lowerPool (s : State) (ok : Fin 8 → Bool) (key : Pool → Nat) (b : Option (Fin 8)) (p : Fin 8) : Option (Fin 8) :=
  if !ok p then b
  else match b with
    | none => some p
    | some q => if key s.dec.pools[p] < key s.dec.pools[q] then some p else b

theorem bestPool_foldl : bestPool s ok key = (List.finRange 8).foldl (lowerPool s ok key) none := rfl

/-- What the choice among the pools `l` means: none satisfies the test, or one that does, with the least key. -/
def LeastPool (s : State) (ok : Fin 8 → Bool) (key : Pool → Nat) (l : List (Fin 8)) : Option (Fin 8) → Prop
  | none => ∀ q ∈ l, ok q = false
  | some p => ok p = true ∧ ∀ q ∈ l, ok q = true → key s.dec.pools[p] ≤ key s.dec.pools[q]

theorem lowerPool_skip (other : ok p = false) : lowerPool s ok key b p = b := if_pos (by simp [other])

theorem lowerPool_take (fits : ok p = true) (lower : ∀ q, b = some q → key s.dec.pools[p] < key s.dec.pools[q]) :
    lowerPool s ok key b p = some p := by
  refine (if_neg (by simp [fits])).trans ?_
  cases b with
  | none => rfl
  | some q => exact if_pos (lower q rfl)

theorem lowerPool_keep {q : Fin 8} (fits : ok p = true) (least : key s.dec.pools[q] ≤ key s.dec.pools[p]) :
    lowerPool s ok key (some q) p = some q :=
  (if_neg (by simp [fits])).trans (if_neg (Nat.not_lt.2 least))

theorem lowerPool_least (h : LeastPool s ok key pre b) : LeastPool s ok key (pre ++ [p]) (lowerPool s ok key b p) := by
  cases fits : ok p with
  | false =>
    rw [lowerPool_skip fits]
    cases b with
    | none => exact fun q hq => (List.mem_append.1 hq).elim (h q) fun hq => List.mem_singleton.1 hq ▸ fits
    | some r =>
      obtain ⟨ok_r, least⟩ := h
      refine ⟨ok_r, fun q hq ok_q => (List.mem_append.1 hq).elim (least q · ok_q) fun hq => ?_⟩
      rw [List.mem_singleton.1 hq, fits] at ok_q
      cases ok_q
  | true =>
    cases b with
    | none =>
      rw [lowerPool_take (b := none) fits nofun]
      refine ⟨fits, fun q hq ok_q => (List.mem_append.1 hq).elim (fun hq => ?_) fun hq => List.mem_singleton.1 hq ▸ Nat.le_refl _⟩
      rw [h q hq] at ok_q
      cases ok_q
    | some r =>
      obtain ⟨ok_r, least⟩ := h
      obtain lower | le := Nat.lt_or_ge (key s.dec.pools[p]) (key s.dec.pools[r])
      · rw [lowerPool_take fits fun q same => Option.some.inj same ▸ lower]
        exact ⟨fits, fun q hq ok_q => (List.mem_append.1 hq).elim (fun hq => Nat.le_of_lt (Nat.lt_of_lt_of_le lower (least q hq ok_q)))
          fun hq => List.mem_singleton.1 hq ▸ Nat.le_refl _⟩
      · rw [lowerPool_keep fits le]
        exact ⟨ok_r, fun q hq ok_q => (List.mem_append.1 hq).elim (least q · ok_q) fun hq => List.mem_singleton.1 hq ▸ le⟩

theorem foldl_lowerPool_least (h : LeastPool s ok key pre b) : LeastPool s ok key (pre ++ l) (l.foldl (lowerPool s ok key) b) := by
  induction l generalizing pre b with
  | nil => rwa [List.append_nil]
  | cons p l ih =>
    rw [List.append_cons]
    exact ih (lowerPool_least h)

theorem bestPool_least : LeastPool s ok key (List.finRange 8) (bestPool s ok key) :=
  foldl_lowerPool_least (pre := []) (b := none) fun _ h => nomatch h

theorem bestPool_none (h : bestPool s ok key = none) (q : Fin 8) : ok q = false := by
  have least := bestPool_least (s := s) (ok := ok) (key := key)
  rw [h] at least
  exact least q (List.mem_finRange q)

theorem bestPool_some (h : bestPool s ok key = some p) : ok p = true ∧ ∀ q, ok q = true → key s.dec.pools[p] ≤ key s.dec.pools[q] := by
  have least := bestPool_least (s := s) (ok := ok) (key := key)
  rw [h] at least
  obtain ⟨ok_p, least⟩ := least
  exact ⟨ok_p, fun q => least q (List.mem_finRange q)⟩

end

/-- A pool in service with room in its queue, as the choice tests it (R114). -/
def poolRoom (s : State) (q : Fin 8) : Bool := s.dec.pools[q].st == .isIn && s.dec.pools[q].queue.length < 48

theorem poolRoom_iff {q : Fin 8} : poolRoom s q = true ↔ s.dec.pools[q].st = .isIn ∧ s.dec.pools[q].queue.length < 48 := by
  simp [poolRoom]

theorem choosePool_eq : choosePool s c = (bestPool s (fun q => poolRoom s q && homePool c q) (·.queue.length)).or
    (bestPool s (poolRoom s) (·.queue.length)) := by
  change (match bestPool s (fun q => poolRoom s q && homePool c q) (·.queue.length) with | some p => _ | none => _) = _
  cases bestPool s (fun q => poolRoom s q && homePool c q) (·.queue.length) <;> rfl

/-- The pool chosen is a home pool, the shortest with room; or no home pool has room, and it is the shortest of all with room. -/
theorem choosePool_cases (h : choosePool s c = some p) :
    (homePool c p = true ∧ poolRoom s p = true ∧
      ∀ q, homePool c q = true → poolRoom s q = true → s.dec.pools[p].queue.length ≤ s.dec.pools[q].queue.length) ∨
    ((∀ q, homePool c q = true → poolRoom s q = false) ∧ poolRoom s p = true ∧
      ∀ q, poolRoom s q = true → s.dec.pools[p].queue.length ≤ s.dec.pools[q].queue.length) := by
  rw [choosePool_eq] at h
  obtain home | ⟨away, any⟩ := Option.or_eq_some_iff.1 h
  · obtain ⟨fits, least⟩ := bestPool_some home
    obtain ⟨room, home⟩ := Bool.and_eq_true_iff.1 fits
    exact .inl ⟨home, room, fun q home room => least q (Bool.and_eq_true_iff.2 ⟨room, home⟩)⟩
  · obtain ⟨room, least⟩ := bestPool_some any
    refine .inr ⟨fun q home => ?_, room, least⟩
    have full := bestPool_none away q
    rwa [home, Bool.and_true] at full

/-! ### The parcel sent -/

/-- The codeword of a parcel as it is numbered and given its deadline and slot, without the items that came poisoned (R112, R119,
R123). -/
def parcelWord (c : Fin 2) (g : Fin 16) (ds : List Dim) (arrival : Nat) (s : State) (bad : List Nat) (slot : Nat) : Codeword :=
  let i := 16 * c.val + g.val
  let seq := s.dec.nextSeq.getD i 0
  let llr := ds.flatMap (·.llr)
  { key := (i + 1) * 2 ^ 32 + seq, seq := seq, car := c, group := g, rate := (s.car c).ldpcRate
    deadline := arrival + (playoutNs s c) * 65536 + alignOffset s c - 1000 * 65536
    slot := slot, bad := bad, llr := packLlr (eraseItems bad llr), upper := packBits (ds.flatMap (·.up))
    filled := min 20480 llr.length
    level1 := leNat (packBits ((ds.flatMap fun d => (List.range d.llr.length).map (· == 1)).take 20480)), st := .queued }

/-- The words of the slot that a parcel's result needs (R112). -/
def parcelSlotWords (c : Fin 2) (ds : List Dim) (s : State) : Nat :=
  infoCols (s.car c).ldpcRate / 2 + ceilDiv (packBits (ds.flatMap (·.up))).length 64

/-- The codeword joins the list, its number is taken, and its slot is due with the folio of its arrival (R112, R124). -/
def listWord (c : Fin 2) (g : Fin 16) (arrival : Nat) (w : Codeword) (s : State) : State :=
  onRxg c g (fun x => { x with
      due := x.due.map fun d => if d.arrival = arrival then { d with slots := d.slots ++ [(w.slot, w.seq)] } else d })
    (onDec (fun d => { d with
      nextSeq := d.nextSeq.set (16 * c.val + g.val) ((w.seq + 1) % 2 ^ 32), words := (d.words.filter fun x => x.key != w.key) ++ [w] }) s)

/-- A pool takes the parcel by its deadline (R113, R114). -/
theorem sendParcel_queued (h : choosePool (countRate s) c = some p) : sendParcel c g ds arrival s =
    let b := chutePoison c.val (2 + p.val) (countRate s)
    let q := queueSlot c (parcelSlotWords c ds (countRate s)) b.2
    let w := parcelWord c g ds arrival (countRate s) b.1 q.1
    let v := listWord c g arrival w q.2
    onPool p (fun x => { x with
      queue := enqueue v w.key w.deadline x.queue, peak := max x.peak (enqueue v w.key w.deadline x.queue).length }) v := by
  simp only [sendParcel, h]
  rfl

/-- With no pool the parcel is written unresolved on a fixed-latency carrier, else parked on arrival (R114, R121, R126). -/
theorem sendParcel_full (h : choosePool (countRate s) c = none) : sendParcel c g ds arrival s =
    let q := queueSlot c (parcelSlotWords c ds (countRate s)) (countRate s)
    let w := parcelWord c g ds arrival (countRate s) [] q.1
    let u := raise 82 (objCarrier c) (evtArg 0 0 0 0) (listWord c g arrival w q.2)
    if fixedLatency u c then unresolve w.key 0 0 (issue c.val w (hardBits w.llr) true u)
    else park c.val w.key (hardBits w.llr) 0 true u := by
  simp only [sendParcel, h]
  rfl

end Sys2Proof.Machine
end

section
/-! What a Reader takes up, and how a codeword is parked (05_readers_decoding.md R115, R116, R120 to R122). -/

namespace Sys2Proof.Machine

variable {s : State} {p : Fin 8} {r : Fin 12} {k : Nat} {w : Codeword}

/-! ### Parking -/

/-- A codeword as it is parked, with its placeholder judged (R120). -/
def Codeword.parked (w : Codeword) (bits : List Byte) (iters : Nat) : Codeword :=
  { w with st := .parked, iter1 := iters, unsat := unsatisfied w.rate bits }

/-- The state with the codeword parked and its placeholder issued, before an entry is taken (R120). -/
def parkIssued (isl k : Nat) (bits : List Byte) (arrival : Bool) (w : Codeword) (s : State) : State :=
  issue isl w bits true (onCw k (fun _ => w) (onDecCtr w.car (fun c =>
    if arrival then { c with parkedArrival := bump c.parkedArrival } else { c with parkedCap := bump c.parkedCap }) s))

/-- An entry of the Reserve is taken. -/
def takeEntry (e k : Nat) (s : State) : State := onDec (fun d => { d with reserve := d.reserve ++ [(e, k)] }) s

section

variable {isl n e a : Nat} {bits : List Byte} {arrival : Bool} (held : s.cw k = some w)
include held

theorem park_dropped (full : freeEntry (parkIssued isl k bits arrival (w.parked bits n) s) = none) : park isl k bits n arrival s =
    raise 84 (objCarrier w.car) (evtArg 0 0 0 0) (unresolve k 2 n (parkIssued isl k bits arrival (w.parked bits n) s)) := by
  simp only [Codeword.parked, parkIssued] at full
  simp only [park, held, full]
  rfl

theorem park_kept (free : freeEntry (parkIssued isl k bits arrival (w.parked bits n) s) = some e)
    (word : reserveWord (takeEntry e k (parkIssued isl k bits arrival (w.parked bits n) s)) e = some a) : park isl k bits n arrival s =
      reserveHigh w.car (writeItem a (reserveBytes (w.parked bits n) arrival) w.seq 4 false []
        (takeEntry e k (parkIssued isl k bits arrival (w.parked bits n) s))) := by
  simp only [Codeword.parked, parkIssued, takeEntry] at free word
  simp only [park, held, free, word]
  rfl

end

/-! ### An idle Reader -/

theorem exec_readerIdle : exec (.readerIdle p r) s = .next (readerIdle p r s) := rfl

/-- The Reader is in service and without work, in a pool that is not OUT. -/
def mayTake (s : State) (p : Fin 8) (r : Fin 12) : Prop :=
  s.dec.pools[p].readers[r].inService = true ∧ s.dec.pools[p].readers[r].work = none ∧ s.dec.pools[p].st ≠ .out

theorem mayTake_iff : mayTake s p r ↔
    ¬((!s.dec.pools[p].readers[r].inService) = true ∨ s.dec.pools[p].readers[r].work.isSome = true ∨ s.dec.pools[p].st = .out) := by
  simp [mayTake]

theorem readerIdle_rests (h : ¬mayTake s p r) : readerIdle p r s = s := if_pos (Decidable.of_not_not fun live => h (mayTake_iff.2 live))

theorem nextQueued_own {l : List Nat} (h : s.dec.pools[p].queue = k :: l) : nextQueued s p = some (p, k) := by
  rw [nextQueued, h]

section

variable (idle : mayTake s p r)
include idle

theorem readerIdle_starts {q : Fin 8} (head : nextQueued s p = some (q, k)) (held : s.cw k = some w) :
    readerIdle p r s = startCodeword p r q w s := by
  refine (if_neg (mayTake_iff.1 idle)).trans ?_
  simp only [head, held]

variable (empty : nextQueued s p = none) (here : s.dec.pools[p].st = .isIn)
include empty here

theorem readerIdle_noReserve (none_ : nextReserve s = none) : readerIdle p r s = s := by
  refine (if_neg (mayTake_iff.1 idle)).trans ?_
  simp only [empty, none_, if_neg (Decidable.not_not.2 here)]

/-- With nothing queued the Reader begins to fetch a Reserve entry (R115, R122). -/
theorem readerIdle_fetches (entry : nextReserve s = some w) : readerIdle p r s =
    onReader p r (fun x => { x with work := some { key := w.key, rate := w.rate, reserve := true, fetching := true, from_ := p.val,
                                                   iter := 0, limit := 0, byCap := false } })
      (onCw w.key (fun w => { w with st := .redecoding }) s) := by
  refine (if_neg (mayTake_iff.1 idle)).trans ?_
  simp only [empty, entry, if_neg (Decidable.not_not.2 here)]

end

/-! ### A codeword from the Reader's own queue -/

/-- The cap on the iterations of a first pass, by the depth of the pool's queue (R116). -/
def passCap (s : State) (p : Fin 8) (c : Fin 2) : Nat :=
  min (decPar s c 0x40) (if decPar s c 0x51 < s.dec.pools[p].queue.length then decPar s c 0x50 else decPar s c 0x40)

/-- The iterations left before a codeword's deadline, for a Reader of the pool that holds it (R116). -/
def ownLeft (s : State) (p : Fin 8) (w : Codeword) : Nat := deadlineIters (s.tod16 + iter16 * ringDist p p) w.deadline

/-- The codeword has left its queue. -/
def unqueued (p : Fin 8) (k : Nat) (s : State) : State := onPool p (fun x => { x with queue := x.queue.filter (· != k) }) s

theorem startCodeword_late (few : min (passCap s p w.car) (ownLeft s p w) < 2) : startCodeword p r p w s =
    unresolve w.key 5 0 (issue (2 + p.val) w (hardBits w.llr) true (onDecCtr w.car (countErased w) (unqueued p w.key s))) := by
  rw [startCodeword, if_pos rfl]
  exact if_pos few

theorem startCodeword_begins (enough : 2 ≤ min (passCap s p w.car) (ownLeft s p w)) : startCodeword p r p w s =
    onReader p r (fun x => { x with
      work := some { key := w.key, rate := w.rate, reserve := false, fetching := false, from_ := p.val, iter := 0,
                     limit := min (passCap s p w.car) (ownLeft s p w), byCap := passCap s p w.car ≤ ownLeft s p w,
                     post := (minSumStart w.rate w.llr).1, msgs := (minSumStart w.rate w.llr).2 } })
      (onCw w.key (fun w => { w with st := .decoding }) (unqueued p w.key s)) := by
  rw [startCodeword, if_pos rfl]
  exact if_neg (Nat.not_lt.2 enough)

end Sys2Proof.Machine
end

section
/-! The end of an iteration: what the Reader judges its bits to be, and what follows (05_readers_decoding.md R117 to R120, R122,
R126 to R128). -/

namespace Sys2Proof.Machine

variable {s : State} {p : Fin 8} {r : Fin 12} {k : Work} {w : Codeword} {b : List Byte} {fault : Option (List Byte)} {rep : Bool} {isl : Nat}

theorem exec_decodeIterationEnd : exec (.decodeIterationEnd p r fault) s = .next (iterationEnd p r fault s) := rfl

/-- The work after one more iteration of layered min-sum (R117). -/
def Work.iterated (s : State) (k : Work) : Work :=
  let d := minSumIter k.rate (normFactor s (carrierOf ((k.key / 2 ^ 32 - 1) / 16)) k.reserve) (k.post, k.msgs)
  { k with iter := k.iter + 1, post := d.1, msgs := d.2 }

/-- The bits that the Reader has after an iteration: its own, or a faulty Reader's (R118). -/
def Work.bits (fault : Option (List Byte)) (k : Work) : List Byte := (fault.map (padTo 2560)).getD (minSumBits k.post)

/-- The Reader reports convergence: its checks hold, or it is faulty (R117, R118). -/
def Work.reports (fault : Option (List Byte)) (k : Work) : Bool := fault.isSome || unsatisfied k.rate (k.bits fault) == 0

/-- The Reader has worked one iteration. -/
def worked (p : Fin 8) (r : Fin 12) (k : Work) (s : State) : State :=
  onReader p r (fun x => { x with work := some k, busy := bump x.busy }) s

/-- What follows an iteration, from the bits and whether the Reader reports convergence. -/
def judged (p : Fin 8) (r : Fin 12) (k : Work) (b : List Byte) (rep : Bool) (s : State) : State :=
  match s.cw k.key with
  | none => readerDone p r (afterRelease p r k rep b s)
  | some w =>
    if rep then
      if unsatisfied w.rate b = 0 then readerDone p r (converged (2 + p.val) w k b s)
      else readerDone p r (readerFault p r w k s)
    else if k.limit ≤ k.iter then
      readerDone p r (exhausted (2 + p.val) w k b (onDecCtr w.car (fun c => if k.reserve && w.iter1 != 0 then c else countErased w c) s))
    else s

theorem iterationEnd_idle (h : s.dec.pools[p].readers[r].work = none) : iterationEnd p r fault s = s := by
  simp only [iterationEnd, h]

theorem iterationEnd_fetching (work : s.dec.pools[p].readers[r].work = some k) (fetching : k.fetching = true) :
    iterationEnd p r fault s = s := by
  simp only [iterationEnd, work, if_pos fetching]

theorem iterationEnd_judged (work : s.dec.pools[p].readers[r].work = some k) (decoding : k.fetching = false) :
    iterationEnd p r fault s = judged p r (k.iterated s) ((k.iterated s).bits fault) ((k.iterated s).reports fault)
      (worked p r (k.iterated s) s) := by
  rw [iterationEnd, work]
  exact if_neg (Bool.eq_false_iff.1 decoding)

theorem judged_released (gone : s.cw k.key = none) : judged p r k b rep s = readerDone p r (afterRelease p r k rep b s) := by
  rw [judged, gone]

section

variable (held : s.cw k.key = some w)
include held

theorem judged_converged (said : rep = true) (passes : unsatisfied w.rate b = 0) :
    judged p r k b rep s = readerDone p r (converged (2 + p.val) w k b s) := by
  rw [judged, held]
  exact (if_pos said).trans (if_pos passes)

/-- The syndrome checker rejects what the Reader reports (R118). -/
theorem judged_rejected (said : rep = true) (fails : unsatisfied w.rate b ≠ 0) :
    judged p r k b rep s = readerDone p r (readerFault p r w k s) := by
  rw [judged, held]
  exact (if_pos said).trans (if_neg fails)

theorem judged_goesOn (silent : rep = false) (more : k.iter < k.limit) : judged p r k b rep s = s := by
  rw [judged, held]
  exact (if_neg (Bool.eq_false_iff.1 silent)).trans (if_neg (Nat.not_le.2 more))

theorem judged_exhausted (silent : rep = false) (limit : k.limit ≤ k.iter) : judged p r k b rep s =
    readerDone p r (exhausted (2 + p.val) w k b (onDecCtr w.car (fun c => if k.reserve && w.iter1 != 0 then c else countErased w c) s)) := by
  rw [judged, held]
  exact (if_neg (Bool.eq_false_iff.1 silent)).trans (if_pos limit)

end

/-! ### A faulty Reader -/

/-- The Reader is out of service with DEC_READER_FAULT, and its carrier counts the fault (R118, R131). -/
def readerOut (p : Fin 8) (r : Fin 12) (c : Fin 2) (s : State) : State :=
  raise 85 (objReader p r) (evtArg 0 0 0 0) (onDecCtr c (fun c => { c with readerFaults := bump c.readerFaults })
    (onReader p r (fun x => { x with inService := false, faults := bump x.faults }) s))

/-- The parcel of a first pass returns to the head of the queue it came from (R118). -/
theorem readerFault_first {q : Fin 8} (first : k.reserve = false) (home : k.from_ = q.val) : readerFault p r w k s =
    readerOut p r w.car (onPool q (fun x => { x with queue := w.key :: x.queue }) (onCw w.key (fun w => { w with st := .queued }) s)) := by
  have same : (⟨k.from_ % 8, Nat.mod_lt _ (by decide)⟩ : Fin 8) = q := Fin.ext (by rw [home]; exact Nat.mod_eq_of_lt q.isLt)
  simp only [readerFault, first, if_neg Bool.false_ne_true, same]
  rfl

/-- The entry of a Reserve pass is parked again while another pass may start, else its codeword expires (R128). -/
theorem readerFault_reserve (second : k.reserve = true) : readerFault p r w k s =
    readerOut p r w.car (if s.tod16 + reserveLead s w ≤ w.deadline then onCw w.key (fun w => { w with st := .parked }) s
      else freeReserve w.key (unresolve w.key 3 (w.iter1 + k.iter) s)) := by
  simp only [readerFault, second, if_true]
  rfl

/-! ### The limit reached without convergence -/

theorem exhausted_better (second : k.reserve = true) (better : unsatisfied w.rate b < w.unsat) : exhausted isl w k b s =
    freeReserve w.key (unresolve w.key 1 (w.iter1 + k.iter) (issue isl w b true s)) := by
  simp only [exhausted, second, if_true, if_pos better]

theorem exhausted_noBetter (second : k.reserve = true) (same : w.unsat ≤ unsatisfied w.rate b) : exhausted isl w k b s =
    freeReserve w.key (unresolve w.key 1 (w.iter1 + k.iter) s) := by
  simp only [exhausted, second, if_true, if_neg (Nat.not_lt.2 same)]

section

variable (first : k.reserve = false)
include first

theorem exhausted_fixedLatency (fixed : fixedLatency s w.car = true) : exhausted isl w k b s =
    unresolve w.key 0 (w.iter1 + k.iter) (issue isl w b true s) := by
  simp only [exhausted, first, fixed, if_neg Bool.false_ne_true, if_true]

variable (free : fixedLatency s w.car = false)
include free

theorem exhausted_parks (cap : k.byCap = true) : exhausted isl w k b s = park isl w.key b k.iter false s := by
  simp only [exhausted, first, free, cap, if_neg Bool.false_ne_true, if_true]

theorem exhausted_atDeadline (late : k.byCap = false) : exhausted isl w k b s =
    unresolve w.key 5 (w.iter1 + k.iter) (issue isl w b true s) := by
  simp only [exhausted, first, free, late, if_neg Bool.false_ne_true]

end

end Sys2Proof.Machine
end

section
/-! The fetch of a Reserve entry, its expiry, a codeword's deadline and the write of a result (05_readers_decoding.md R119, R122,
R124, R125, R127, R128). -/

namespace Sys2Proof.Machine

variable {s : State} {p : Fin 8} {r : Fin 12} {c : Fin 2} {g : Fin 16} {seq : Word32} {w : Codeword}

/-! ### The fetch -/

theorem exec_reserveFetchComplete : exec (.reserveFetchComplete p r) s = .next (reserveFetch p r s) := rfl

theorem reserveFetch_idle (h : s.dec.pools[p].readers[r].work = none) : reserveFetch p r s = s := by
  simp only [reserveFetch, h]

/-- The 201 words of a codeword's entry as they are read from the Stacks (R122). -/
def entryRead (a : Nat) (w : Codeword) (s : State) : List Byte × Bool × State := readItem a 201 (some (4, w.seq % 256)) s

/-- The Reader gives the pass up, and the codeword is unresolved for a cause (R122, R128). -/
def passAbandoned (p : Fin 8) (r : Fin 12) (w : Codeword) (cause : Nat) (s : State) : State :=
  onReader p r (fun x => { x with work := none }) (freeReserve w.key (unresolve w.key cause w.iter1 s))

section

variable {k : Work} {e a : Nat} (work : s.dec.pools[p].readers[r].work = some k) (fetching : k.fetching = true)
  (held : s.cw k.key = some w) (entry : s.dec.reserve.find? (fun x => x.2 == k.key) = some (e, k.key)) (word : reserveWord s e = some a)
include work fetching held entry word

theorem reserveFetch_read : reserveFetch p r s =
    let rd := entryRead a w s
    let d := minSumStart w.rate (rd.1.drop 64)
    if rd.2.1 then passAbandoned p r w 4 (poisonOut 7 rd.2.2)
    else if w.deadline ≤ s.tod16 then passAbandoned p r w 3 rd.2.2
    else if deadlineIters s.tod16 w.deadline = 0 then passAbandoned p r w 5 rd.2.2
    else onReader p r (fun x => { x with work := some { k with
      fetching := false, iter := 0, limit := min (48 - w.iter1) (deadlineIters s.tod16 w.deadline), post := d.1, msgs := d.2 } }) rd.2.2 := by
  simp only [reserveFetch, work, held, entry, word]
  exact if_neg (by rw [fetching]; exact Bool.false_ne_true)

theorem reserveFetch_poisoned (poison : (entryRead a w s).2.1 = true) :
    reserveFetch p r s = passAbandoned p r w 4 (poisonOut 7 (entryRead a w s).2.2) := by
  rw [reserveFetch_read work fetching held entry word]
  exact if_pos poison

variable (clean : (entryRead a w s).2.1 = false)
include clean

theorem reserveFetch_clean : reserveFetch p r s =
    if w.deadline ≤ s.tod16 then passAbandoned p r w 3 (entryRead a w s).2.2
    else if deadlineIters s.tod16 w.deadline = 0 then passAbandoned p r w 5 (entryRead a w s).2.2
    else onReader p r (fun x => { x with work := some { k with
      fetching := false, iter := 0, limit := min (48 - w.iter1) (deadlineIters s.tod16 w.deadline)
      post := (minSumStart w.rate ((entryRead a w s).1.drop 64)).1, msgs := (minSumStart w.rate ((entryRead a w s).1.drop 64)).2 } })
      (entryRead a w s).2.2 := by
  rw [reserveFetch_read work fetching held entry word]
  exact if_neg (Bool.eq_false_iff.1 clean)

theorem reserveFetch_expired (past : w.deadline ≤ s.tod16) : reserveFetch p r s = passAbandoned p r w 3 (entryRead a w s).2.2 := by
  rw [reserveFetch_clean work fetching held entry word clean, if_pos past]

variable (early : s.tod16 < w.deadline)
include early

theorem reserveFetch_noIteration (none_ : deadlineIters s.tod16 w.deadline = 0) :
    reserveFetch p r s = passAbandoned p r w 5 (entryRead a w s).2.2 := by
  rw [reserveFetch_clean work fetching held entry word clean, if_neg (Nat.not_le.2 early), if_pos none_]

theorem reserveFetch_begins (some_ : deadlineIters s.tod16 w.deadline ≠ 0) : reserveFetch p r s =
    onReader p r (fun x => { x with work := some { k with
      fetching := false, iter := 0, limit := min (48 - w.iter1) (deadlineIters s.tod16 w.deadline)
      post := (minSumStart w.rate ((entryRead a w s).1.drop 64)).1, msgs := (minSumStart w.rate ((entryRead a w s).1.drop 64)).2 } })
      (entryRead a w s).2.2 := by
  rw [reserveFetch_clean work fetching held entry word clean, if_neg (Nat.not_le.2 early), if_neg some_]

end

/-! ### The expiry of an entry and the deadline of a codeword -/

theorem exec_reserveEntryExpiry : exec (.reserveEntryExpiry c g seq) s = .next (reserveExpiry c g seq s) := rfl

theorem exec_codewordDeadline : exec (.codewordDeadline c g seq) s = .next (codewordDeadline c g seq s) := rfl

/-- The key of a group's codeword by its number. -/
def cwKey (c : Fin 2) (g : Fin 16) (seq : Word32) : Nat := (16 * c.val + g.val + 1) * 2 ^ 32 + seq.toNat

/-- The codeword has left every queue, its entry and the list (R127). -/
def cwReleased (k : Nat) (s : State) : State :=
  onDec (fun d => { d with
    words := d.words.filter fun x => x.key != k
    pools := d.pools.map fun p => { p with queue := p.queue.filter (· != k) } }) (freeReserve k s)

theorem reserveExpiry_gone (h : s.cw (cwKey c g seq) = none) : reserveExpiry c g seq s = s := by
  simp only [cwKey] at h
  simp only [reserveExpiry, h]

theorem codewordDeadline_gone (h : s.cw (cwKey c g seq) = none) : codewordDeadline c g seq s = s := by
  simp only [cwKey] at h
  simp only [codewordDeadline, h]

section

variable (held : s.cw (cwKey c g seq) = some w)
include held

theorem reserveExpiry_held : reserveExpiry c g seq s =
    if w.st = .parked ∧ w.deadline < s.tod16 + reserveLead s w then freeReserve (cwKey c g seq) (unresolve (cwKey c g seq) 3 w.iter1 s) else s := by
  simp only [cwKey] at held
  simp only [reserveExpiry, held]
  rfl

theorem reserveExpiry_expires (parked : w.st = .parked) (late : w.deadline < s.tod16 + reserveLead s w) :
    reserveExpiry c g seq s = freeReserve (cwKey c g seq) (unresolve (cwKey c g seq) 3 w.iter1 s) := by
  rw [reserveExpiry_held held, if_pos ⟨parked, late⟩]

theorem reserveExpiry_stays (other : w.st ≠ .parked ∨ s.tod16 + reserveLead s w ≤ w.deadline) : reserveExpiry c g seq s = s := by
  rw [reserveExpiry_held held, if_neg fun ⟨parked, late⟩ => other.elim (· parked) (Nat.not_le.2 late)]

theorem codewordDeadline_held : codewordDeadline c g seq s =
    if w.st = .done ∨ w.st = .unresolved then cwReleased (cwKey c g seq) s
    else onDecCtr w.car (fun c => { c with causes := c.causes.modify 3 bump, hist := c.hist.modify (min 48 w.iter1) bump })
      (cwReleased (cwKey c g seq) s) := by
  simp only [cwKey] at held
  simp only [codewordDeadline, held]
  rfl

end

/-! ### The write of a result -/

theorem exec_resultWrite : exec .resultWrite s = .next (resultWrite s) := rfl

theorem resultWrite_idle (h : s.dec.results = []) : resultWrite s = s := by
  simp only [resultWrite, h]

section

variable {x : Result} {l : List Result}

/-- The read of a result's slot has begun (R125). -/
def slotRead (x : Result) (s : State) : Prop := ∃ q ∈ s.dec.slots, q.slot = x.slot ∧ q.seq = x.seq ∧ q.car = x.car ∧ q.readBegun = true

theorem slotRead_iff : slotRead x s ↔
    (s.dec.slots.any fun q => q.slot == x.slot && q.seq == x.seq && q.car == x.car && q.readBegun) = true := by
  simp [slotRead, and_assoc]

/-- What the Chute of a result delivers: the items poisoned, and the state with the result on its way (R119). -/
def resultSent (x : Result) (l : List Result) (s : State) : List Nat × State :=
  chutePoison x.island 18 (onDec (fun d => { d with results := l }) s)

/-- The result stands in its slot with the marks of its own poison and of its Chute's (R119, R124). -/
def resultStored (x : Result) (ch : List Nat × State) : State :=
  onDec (fun d => { d with slots := { slot := x.slot, car := x.car, seq := x.seq, words := ceilDiv x.data.length 64, unres := x.unres,
                                      readBegun := false } :: d.slots.filter fun y => y.slot != x.slot })
    (writeItem x.slot x.data x.seq 1 x.unres (x.poison ++ ch.1.flatMap fun i => [2 * i, 2 * i + 1]) ch.2)

variable (oldest : s.dec.results = x :: l)
include oldest

theorem resultWrite_late (gone : slotRead x (resultSent x l s).2) : resultWrite s = lateResult x.car (resultSent x l s).2 := by
  simp only [resultWrite, oldest]
  exact if_pos (slotRead_iff.1 gone)

theorem resultWrite_stored (open_ : ¬slotRead x (resultSent x l s).2) : resultWrite s = resultStored x (resultSent x l s) := by
  simp only [resultWrite, oldest]
  exact if_neg fun late => open_ (slotRead_iff.2 late)

end

end Sys2Proof.Machine
end

section
/-! The commands for pools and Readers, and the end of a removal and of a restore (05_readers_decoding.md R118, R129;
14_command_reference.md R344). -/

namespace Sys2Proof.Machine

variable {q : Request} {s : State} {p : Fin 8} {m : Nat}

/-! ### DECODE.POOL.REMOVE -/

theorem exec_decodePoolRemove : exec (.decodePoolRemove q) s = .next (deskRun 0x0503 poolRemove q s) := rfl

theorem poolRemove_out (out : s.dec.pools[reqPool q].st = .out) : poolRemove q s = (s, ok) := if_pos out

section

variable (live : s.dec.pools[reqPool q].st ≠ .out)
include live

/-- A pool that is not OUT, by the FORCE bit and the Readers that would remain. -/
theorem poolRemove_live : poolRemove q s =
    if (!bit (u8 q 4) 0) = true ∧ readersLeft s (reqPool q) * 100000000000 < 125 * measuredRate s * 240 then (s, refuse stNoCapacity)
    else (beginTransition (.pool (reqPool q)) 0x0503 q (onPool (reqPool q) (fun x => { x with st := .removing, restoring := none })
      (if bit (u8 q 4) 0 then terminate (.pool (reqPool q)) s else s)), .later) := if_neg live

theorem poolRemove_refused (plain : bit (u8 q 4) 0 = false)
    (few : readersLeft s (reqPool q) * 100000000000 < 125 * measuredRate s * 240) : poolRemove q s = (s, refuse stNoCapacity) := by
  rw [poolRemove_live live, if_pos ⟨by rw [plain]; rfl, few⟩]

theorem poolRemove_begins (plain : bit (u8 q 4) 0 = false)
    (enough : 125 * measuredRate s * 240 ≤ readersLeft s (reqPool q) * 100000000000) : poolRemove q s =
      (beginTransition (.pool (reqPool q)) 0x0503 q (onPool (reqPool q) (fun x => { x with st := .removing, restoring := none }) s), .later) := by
  rw [poolRemove_live live, if_neg fun ⟨_, few⟩ => Nat.not_lt.2 enough few, if_neg (Bool.eq_false_iff.1 plain)]

theorem poolRemove_forced (force : bit (u8 q 4) 0 = true) : poolRemove q s =
    (beginTransition (.pool (reqPool q)) 0x0503 q (onPool (reqPool q) (fun x => { x with st := .removing, restoring := none })
      (terminate (.pool (reqPool q)) s)), .later) := by
  rw [poolRemove_live live, if_neg (by simp [force]), if_pos force]

end

theorem exec_poolDrained : exec (.poolDrained p) s = .next (poolDrained p s) := rfl

theorem poolDrained_waits (h : ¬(s.dec.pools[p].st = .removing ∧ s.dec.pools[p].drained = true)) : poolDrained p s = s := if_neg h

/-- The pool reports OUT (R129). -/
theorem poolDrained_ends (h : s.dec.pools[p].st = .removing ∧ s.dec.pools[p].drained = true) : poolDrained p s =
    endTransition (.pool p) { status := stOk } (raise0 86 (objPool p) (onPool p (fun x => { x with st := .out }) s)) := if_pos h

/-! ### DECODE.POOL.RESTORE -/

theorem exec_decodePoolRestore {failed : Word16} : exec (.decodePoolRestore q failed) s = .next (deskRun 0x0504 (poolRestore failed) q s) := rfl

theorem poolRestore_barred {failed : Word16} (h : s.dec.pools[reqPool q].st = .isIn ∨ stopHeld (8 + (reqPool q).val) s = true) :
    poolRestore failed q s = (s, refuse stBadState) := if_pos h

theorem poolRestore_starts {failed : Word16} (away : s.dec.pools[reqPool q].st ≠ .isIn) (free : stopHeld (8 + (reqPool q).val) s = false) :
    poolRestore failed q s = (poolRestored (reqPool q) (requestDomain (8 + (reqPool q).val) .run
      (onPool (reqPool q) (fun x => { x with restoring := some (failed.toNat % 4096) }) (beginTransition (.pool (reqPool q)) 0x0504 q s))), .later) :=
  if_neg (not_or.2 ⟨away, Bool.eq_false_iff.1 free⟩)

/-- The pool is IN, without the Readers of the mask, and the response reports them (R129, R344). -/
def poolIn (p : Fin 8) (m : Nat) (s : State) : State :=
  endTransition (.pool p) { status := stOk, payload := leBytes 2 (m % 4096) } (onPool p (fun x => { x with
    st := .isIn, restoring := none, readers := Vector.ofFn fun r => { x.readers[r] with inService := !bit m r.val } }) s)

theorem poolRestored_run (mask : s.dec.pools[p].restoring = some m) (run : s.dom (8 + p.val) = .run) : poolRestored p s =
    if anyCarrier s then poolIn p m s else requestDomain (8 + p.val) .clockOff (poolIn p m s) := by
  rw [poolRestored, mask]
  exact if_neg fun off => off run

/-! ### DECODE.READER.ENABLE -/

theorem exec_decodeReaderEnable {failed : Bool} : exec (.decodeReaderEnable q failed) s = .next (deskRun 0x0505 (readerEnable failed) q s) := rfl

theorem readerEnable_barred {failed : Bool} (away : s.dec.pools[reqPool q].st ≠ .isIn) :
    readerEnable failed q s = (s, refuse stBadState) := if_pos away

theorem readerEnable_fails (here : s.dec.pools[reqPool q].st = .isIn) : readerEnable true q s =
    (raise0 85 (objReader (reqPool q) (reqReader q)) (onReader (reqPool q) (reqReader q) (fun x => { x with inService := false }) s),
      ok (leBytes 1 1)) := if_neg (Decidable.not_not.2 here)

theorem readerEnable_passes (here : s.dec.pools[reqPool q].st = .isIn) : readerEnable false q s =
    (onReader (reqPool q) (reqReader q) (fun x => { x with inService := true }) s, ok (leBytes 1 0)) := if_neg (Decidable.not_not.2 here)

/-! ### DECODE.SET -/

section

variable {rs : List ParRec}

theorem exec_decodeSet : exec (.decodeSet q) s = .next (deskRun 0x0501 decodeSet q s) := rfl

theorem decodeSet_malformed {off : Nat} (bad : parseRecords 0x0501 q = .error off) : decodeSet q s = (s, badParam off) := by
  rw [decodeSet, bad]

variable (records : parseRecords 0x0501 q = .ok rs)
include records

theorem decodeSet_refused {r : Reply} (bad : decodeSetCheck q rs s = some r) : decodeSet q s = (s, r) := by
  simp only [decodeSet, records, bad]

variable (good : decodeSetCheck q rs s = none)
include good

theorem decodeSet_stores (keep : hasRow rs 9 = false ∨ s.stk.region 1 = none) : decodeSet q s = (applyRecs 0x0501 q rs s, ok) := by
  simp only [decodeSet, records, good]
  exact if_neg fun ⟨count, held⟩ => keep.elim (Bool.eq_false_iff.1 · count) (Option.isSome_iff_ne_none.1 held)

variable (count : hasRow rs 9 = true) (held : s.stk.region 1 ≠ none)
include count held

/-- A new entry count reallocates the Reserve, which is empty then (R120, R236). -/
theorem decodeSet_reallocates {v : State}
    (room : allocRegion 1 (reservePages (applyRecs 0x0501 q rs s)) (applyRecs 0x0501 q rs s) = .ok v) :
    decodeSet q s = (onDec (fun d => { d with reserve := [], highArmed := true }) v, ok) := by
  simp only [decodeSet, records, good, room, if_pos (And.intro count (Option.isSome_iff_ne_none.2 held))]

theorem decodeSet_noRoom {e : Nat}
    (full : allocRegion 1 (reservePages (applyRecs 0x0501 q rs s)) (applyRecs 0x0501 q rs s) = .error e) : decodeSet q s = (s, refuse e) := by
  simp only [decodeSet, records, good, full, if_pos (And.intro count (Option.isSome_iff_ne_none.2 held))]

end

end Sys2Proof.Machine
end

section
/-! The statement on the decoding commands and the life of a codeword assembled (05_readers_decoding.md R114 to R129). -/

namespace Sys2Proof.Machine

/-- Settles O56: each clause is the rule of one function, in the order of the statement. That a parcel which finds every queue full on
a fixed-latency carrier is unresolved at once with its hard decisions, that a codeword on which a Reader still works at its deadline
counts as expired (cause 3) and that what this Reader would write counts as late (log 56), that the lowest free Reserve entry is taken
and that a word carries its sequence number mod 256 (log 90), and the choice of the slot and the places of the items (log 67) are the
model's choices. -/
theorem codewordsDecoded : Obligations.CodewordsDecoded := by
  refine ⟨fun q s => ⟨fun run => ?_, fun run f => ?_, fun run => ?_, fun run => ?_⟩, fun p s => ?_, fun s c p h => ?_, fun c g s => ?_,
    fun c g ds arrival s => ⟨fun p => sendParcel_queued, fun h => ⟨fun fixed => ?_, fun free => ?_⟩⟩,
    fun isl k bits n ar w s held => ⟨park_dropped held, fun e a => park_kept held⟩, fun p r s => ?_,
    fun p r w s => ⟨startCodeword_late, startCodeword_begins⟩, fun p r fault s => ⟨fun h => ?_, fun k work => ⟨fun fetching => ?_,
      fun decoding => ?_⟩⟩,
    fun isl w k b s => ⟨exhausted_better, exhausted_noBetter, exhausted_fixedLatency, exhausted_parks, exhausted_atDeadline⟩,
    fun p r s => ⟨fun h => ?_, fun k w e a work fetching held entry word => ?_⟩, fun c g seq s => ?_, fun s => ⟨fun h => ?_, fun x l oldest => ?_⟩⟩
  · refine ⟨fun out => ?_, fun live plain => ⟨fun few => ?_, fun enough => ?_⟩, fun live force => ?_⟩
    · rw [exec_decodePoolRemove, deskRun_done run (poolRemove_out out)]
    · rw [exec_decodePoolRemove, deskRun_done run (poolRemove_refused live plain few)]
    · rw [exec_decodePoolRemove, deskRun_later run (poolRemove_begins live plain enough)]
    · rw [exec_decodePoolRemove, deskRun_later run (poolRemove_forced live force)]
  · refine ⟨fun barred => ?_, fun away free => ?_⟩
    · rw [exec_decodePoolRestore, deskRun_done run (poolRestore_barred barred)]
    · rw [exec_decodePoolRestore, deskRun_later run (poolRestore_starts away free)]
  · refine ⟨fun away b => ?_, fun here => ⟨?_, ?_⟩⟩
    · rw [exec_decodeReaderEnable, deskRun_done run (readerEnable_barred away)]
    · rw [exec_decodeReaderEnable, deskRun_done run (readerEnable_fails here)]
    · rw [exec_decodeReaderEnable, deskRun_done run (readerEnable_passes here)]
  · refine ⟨fun off bad => ?_, fun rs records => ⟨fun d bad => ?_, fun good => ⟨fun keep => ?_, fun count held => ⟨fun v room => ?_, fun e full => ?_⟩⟩⟩⟩
    · rw [exec_decodeSet, deskRun_done run (decodeSet_malformed bad)]
    · rw [exec_decodeSet, deskRun_done run (decodeSet_refused records bad)]
    · rw [exec_decodeSet, deskRun_done run (decodeSet_stores records good keep)]
    · rw [exec_decodeSet, deskRun_done run (decodeSet_reallocates records good count held room)]
    · rw [exec_decodeSet, deskRun_done run (decodeSet_noRoom records good count held full)]
  · refine ⟨fun waits => ?_, fun go => ?_, fun m mask run => ⟨fun some_ => ?_, fun none_ => ?_⟩⟩
    · rw [exec_poolDrained, poolDrained_waits waits]
    · rw [exec_poolDrained, poolDrained_ends go]
    · exact (poolRestored_run mask run).trans (if_pos some_)
    · exact (poolRestored_run mask run).trans (if_neg (Bool.eq_false_iff.1 none_))
  · obtain ⟨home, room, least⟩ | ⟨full, room, least⟩ := choosePool_cases h
    · exact ⟨poolRoom_iff.1 room, fun _ q home_q room_q => least q home_q (poolRoom_iff.2 room_q),
        fun away => absurd home (Bool.eq_false_iff.1 away)⟩
    · have none_ : ∀ q, homePool c q = true → ¬(s.dec.pools[q].st = .isIn ∧ s.dec.pools[q].queue.length < 48) := fun q home room =>
        Bool.false_ne_true ((full q home).symm.trans (poolRoom_iff.2 room))
      exact ⟨poolRoom_iff.1 room, fun home => absurd (poolRoom_iff.1 room) (none_ p home),
        fun _ => ⟨none_, fun q room_q => least q (poolRoom_iff.2 room_q)⟩⟩
  · refine ⟨fun idle => ?_, fun synced live => ⟨fun whole => ?_, fun part open_ => ?_, fun none_ closing => ?_, fun some_ part closing => ?_⟩⟩
    · rw [exec_parcelAssembled, parcelAssembled_idle (not_streaming_iff.2 idle)]
    · rw [exec_parcelAssembled, parcelAssembled_whole ⟨synced, live⟩ whole]
      rfl
    · rw [exec_parcelAssembled, parcelAssembled_waits ⟨synced, live⟩ part open_]
    · rw [exec_parcelAssembled, parcelAssembled_closing ⟨synced, live⟩ (Nat.lt_of_le_of_lt (Nat.le_of_eq none_) (by decide)) closing]
      exact congrArg _ (if_pos none_)
    · rw [exec_parcelAssembled, parcelAssembled_closing ⟨synced, live⟩ part closing]
      exact congrArg _ (if_neg (Nat.ne_of_gt some_))
  · exact (sendParcel_full h).trans (if_pos fixed)
  · exact (sendParcel_full h).trans (if_neg (Bool.eq_false_iff.1 free))
  · refine ⟨fun rests => ?_, fun k l => nextQueued_own, fun q k w idle head held => ?_, fun idle empty here => ⟨fun none_ => ?_, fun w entry => ?_⟩⟩
    · rw [exec_readerIdle, readerIdle_rests rests]
    · rw [exec_readerIdle, readerIdle_starts idle head held]
    · rw [exec_readerIdle, readerIdle_noReserve idle empty here none_]
    · rw [exec_readerIdle, readerIdle_fetches idle empty here entry]
  · rw [exec_decodeIterationEnd, iterationEnd_idle h]
  · rw [exec_decodeIterationEnd, iterationEnd_fetching work fetching]
  · rw [exec_decodeIterationEnd, iterationEnd_judged work decoding]
    refine ⟨fun gone => ?_, fun w held => ⟨fun said passes => ?_, fun said fails first q home => ?_, fun said fails second => ?_,
      fun silent more => ?_, fun silent limit => ?_⟩⟩
    · exact congrArg _ (judged_released gone)
    · exact congrArg _ (judged_converged held said passes)
    · exact congrArg _ ((judged_rejected held said fails).trans (congrArg _ (readerFault_first first home)))
    · exact congrArg _ ((judged_rejected held said fails).trans (congrArg _ (readerFault_reserve second)))
    · exact congrArg _ (judged_goesOn held silent more)
    · exact congrArg _ (judged_exhausted held silent limit)
  · rw [exec_reserveFetchComplete, reserveFetch_idle h]
  · rw [exec_reserveFetchComplete]
    exact ⟨fun poison => congrArg _ (reserveFetch_poisoned work fetching held entry word poison),
      fun clean past => congrArg _ (reserveFetch_expired work fetching held entry word clean past),
      fun clean early none_ => congrArg _ (reserveFetch_noIteration work fetching held entry word clean early none_),
      fun clean early some_ => congrArg _ (reserveFetch_begins work fetching held entry word clean early some_)⟩
  · rw [exec_reserveEntryExpiry, exec_codewordDeadline]
    refine ⟨fun gone => ⟨?_, ?_⟩, fun w held => ⟨fun parked late => ?_, fun other => ?_, fun ended => ?_, fun open_ unresolved => ?_⟩⟩
    · rw [reserveExpiry_gone gone]
    · rw [codewordDeadline_gone gone]
    · exact congrArg _ (reserveExpiry_expires held parked late)
    · rw [reserveExpiry_stays held other]
    · exact congrArg _ ((codewordDeadline_held held).trans (if_pos ended))
    · exact congrArg _ ((codewordDeadline_held held).trans (if_neg (not_or.2 ⟨open_, unresolved⟩)))
  · rw [exec_resultWrite, resultWrite_idle h]
  · rw [exec_resultWrite]
    exact ⟨fun gone => congrArg _ (resultWrite_late oldest gone), fun open_ => congrArg _ (resultWrite_stored oldest open_)⟩

end Sys2Proof.Machine
end

section
/-! The Interloan transmitter: the queues, the tones, the slot grid and the JOIN (06_interloan.md R134, R136, R143 to R147). -/

namespace Sys2Proof.Machine

variable {c : Fin 2} {t : Fin 4} {n x v : Nat} {b : Burst} {s : State}

/-! ### Updates of the Interloan and of one tone -/

theorem onIl_congr {f g : Interloan → Interloan} (h : f s.il[c] = g s.il[c]) : onIl c f s = onIl c g s := by
  rw [onIl, onIl, upd_congr h]

theorem onIl_id {f : Interloan → Interloan} (h : f s.il[c] = s.il[c]) : onIl c f s = s := by
  rw [onIl, upd_id h]

/-- An update is what it makes of the tone as it stands. -/
theorem onTone_congr {f g : Tone → Tone} (h : f (s.tone c t) = g (s.tone c t)) : onTone c t f s = onTone c t g s :=
  onIl_congr (congrArg (fun v => { s.il[c] with tones := v }) (upd_congr h))

theorem onTone_id {f : Tone → Tone} (h : f (s.tone c t) = s.tone c t) : onTone c t f s = s :=
  onIl_id (congrArg (fun v => { s.il[c] with tones := v }) (upd_id h))

/-! ### The queues -/

/-- The types of bursts in the order of their queues: SCHED, TIME, KEY, JOIN, MGMT (R143). -/
def burstOrder : List Nat := [3, 2, 1, 4, 0]

theorem nextBurst_order {i : Interloan} :
    nextBurst i = burstOrder.findSome? fun typ => i.queue.find? fun b => b.typ == typ := rfl

theorem queued_none_iff {i : Interloan} {typ : Nat} : (i.queue.find? fun b => b.typ == typ) = none ↔ ∀ y ∈ i.queue, y.typ ≠ typ := by
  simp [List.find?_eq_none]

/-- With no next burst the queues of the five types are empty. -/
theorem nextBurst_none {i : Interloan} (h : nextBurst i = none) {y : Burst} (hy : y ∈ i.queue) : 5 ≤ y.typ := by
  rw [nextBurst_order, List.findSome?_eq_none_iff] at h
  have away : y.typ ∉ burstOrder := fun listed => queued_none_iff.1 (h y.typ listed) y hy rfl
  have types : ∀ typ < 5, typ ∈ burstOrder := by decide
  exact Nat.not_lt.1 fun lt => away (types y.typ lt)

/-- The next burst is queued, and no queue of an earlier type holds one. -/
theorem nextBurst_first {i : Interloan} (h : nextBurst i = some b) :
    b ∈ i.queue ∧ ∀ y ∈ i.queue, burstOrder.idxOf b.typ ≤ burstOrder.idxOf y.typ := by
  rw [nextBurst_order, List.findSome?_eq_some_iff] at h
  obtain ⟨before, typ, after, split, found, none_⟩ := h
  have typed : b.typ = typ := beq_iff_eq.1 (List.find?_some (p := fun y : Burst => y.typ == typ) found)
  have queued : b ∈ i.queue := List.mem_of_find?_eq_some found
  have later : ∀ y ∈ i.queue, y.typ ∉ before := fun y hy earlier => queued_none_iff.1 (none_ _ earlier) y hy rfl
  refine ⟨queued, fun y hy => ?_⟩
  rw [split, List.idxOf_append, if_neg (later b queued), List.idxOf_append, if_neg (later y hy), typed, List.idxOf_cons_self]
  exact Nat.add_le_add_right (Nat.zero_le _) _

/-! ### The lowest tone -/

theorem findTone_none {p : Fin 4 → Bool} (h : ∀ t, p t = false) : (List.finRange 4).find? p = none :=
  List.find?_eq_none.2 fun t _ => Bool.eq_false_iff.1 (h t)

theorem findTone_some {p : Fin 4 → Bool} (here : p t = true) (below : ∀ k, k < t → p k = false) :
    (List.finRange 4).find? p = some t := by
  refine List.find?_eq_some_iff_getElem.2 ⟨here, t.val, ?_, ?_, fun j hj => ?_⟩
  · rw [List.length_finRange]
    exact t.isLt
  · rw [List.getElem_finRange]
    rfl
  · rw [List.getElem_finRange, below _ hj]
    rfl

theorem placeBurst_empty (h : nextBurst s.il[c] = none) : placeBurst c n s = s := by
  rw [placeBurst, h]

theorem placeBurst_waits (head : nextBurst s.il[c] = some b) (none_ : ∀ t, toneQualifies s c n b.typ b.payload.length t = false) :
    placeBurst c n s = s := by
  simp only [placeBurst, head, findTone_none none_]

theorem placeBurst_sends (head : nextBurst s.il[c] = some b) (here : toneQualifies s c n b.typ b.payload.length t = true)
    (below : ∀ k, k < t → toneQualifies s c n b.typ b.payload.length k = false) :
    placeBurst c n s = sendBurst c t n b (onIl c (fun i => { i with queue := popBurst b.typ i.queue }) s) := by
  simp only [placeBurst, head, findTone_some here below]

/-! ### The JOIN of an unranged leaf -/

/-- A tone that can carry a JOIN: in the mask and free, at a slot that is not the quiet one. -/
def joinFits (s : State) (c : Fin 2) (n : Nat) (t : Fin 4) : Bool := toneInMask s c t.val && (s.tone c t).freeIn n && !isQuiet n

theorem placeJoin_rests (h : s.il[c].joinDue ≠ some n ∨ s.il[c].ranged = true) : placeJoin c n s = s := if_pos h

section

variable (due : s.il[c].joinDue = some n) (unranged : s.il[c].ranged = false)
include due unranged

theorem placeJoin_due : placeJoin c n s = match (List.finRange 4).find? (joinFits s c n) with
    | none => onIl c (fun i => { i with joinDue := none }) s
    | some t => sendBurst c t n { typ := 4, dst := 0x80, seq := s.il[c].nextSeq.getD 4 0, payload := joinBytes s c }
        (onIl c (fun i => { i with nextSeq := i.nextSeq.modify 4 fun k => (k + 1) % 65536 }) (onIl c (fun i => { i with joinDue := none }) s)) :=
  if_neg fun rests => rests.elim (· due) (Bool.eq_false_iff.1 unranged)

/-- Without a tone the JOIN is given up: its slot has passed. -/
theorem placeJoin_dropped (none_ : ∀ t, joinFits s c n t = false) : placeJoin c n s = onIl c (fun i => { i with joinDue := none }) s := by
  rw [placeJoin_due due unranged, findTone_none none_]

theorem placeJoin_sends (here : joinFits s c n t = true) (below : ∀ k, k < t → joinFits s c n k = false) :
    placeJoin c n s = sendBurst c t n { typ := 4, dst := 0x80, seq := s.il[c].nextSeq.getD 4 0, payload := joinBytes s c }
      (onIl c (fun i => { i with nextSeq := i.nextSeq.modify 4 fun k => (k + 1) % 65536 }) (onIl c (fun i => { i with joinDue := none }) s)) := by
  rw [placeJoin_due due unranged, findTone_some here below]

end

/-! ### The slot boundary -/

theorem exec_slotBoundaryTx : exec (.slotBoundaryTx c x) s = .next (slotBoundary c x s) := rfl

/-- A slot begins: waiting values and a waiting grant table apply, and tones whose bursts have ended fall silent (R134, R158). -/
def slotBegun (c : Fin 2) (x : Nat) (s : State) : State :=
  onIl c (fun i => { i with
    slot := gridSlot s c x, owner := i.ownerNext.getD i.owner, ownerNext := none
    tones := i.tones.map fun t => { t with sending := if t.freeIn (gridSlot s c x) then none else t.sending } })
    { s with par := s.par.release .r158 (objCarrier c) }

theorem slotBoundary_off (off : (s.txc c).txOn = false) : slotBoundary c x s = slotBegun c x s :=
  if_pos (show (!(s.txc c).txOn) = true by rw [off]; rfl)

section

variable (on : (s.txc c).txOn = true)
include on

/-- A transmitter that runs does what its mode asks of the slot, and places the next burst. -/
theorem slotBoundary_on : slotBoundary c x s = placeBurst c (gridSlot s c x)
    (if s.dev.mode = some .hub ∧ gridSlot s c x % 16 = 0 then
      ilEnqueue c 3 0xFE (schedBytes (slotBegun c x s) c ((slotVol (gridSlot s c x) + ilPar (slotBegun c x s) c 0x90) % 2 ^ 32))
        (onIl c (fun i => { i with queue := i.queue.filter fun b => b.typ != 3 }) (slotBegun c x s))
    else if s.dev.mode = some .leaf then
      placeJoin c (gridSlot s c x) (if gridSlot s c x % 16 = 0 then enterVolume c (slotVol (gridSlot s c x)) (slotBegun c x s) else slotBegun c x s)
    else slotBegun c x s) :=
  if_neg (show ¬(!(s.txc c).txOn) = true by rw [on]; decide)

theorem slotBoundary_hub (hub : s.dev.mode = some .hub) (first : gridSlot s c x % 16 = 0) : slotBoundary c x s =
    placeBurst c (gridSlot s c x) (ilEnqueue c 3 0xFE
      (schedBytes (slotBegun c x s) c ((slotVol (gridSlot s c x) + ilPar (slotBegun c x s) c 0x90) % 2 ^ 32))
      (onIl c (fun i => { i with queue := i.queue.filter fun b => b.typ != 3 }) (slotBegun c x s))) := by
  rw [slotBoundary_on on, if_pos ⟨hub, first⟩]

theorem slotBoundary_plain (notLeaf : s.dev.mode ≠ some .leaf) (noSched : s.dev.mode ≠ some .hub ∨ gridSlot s c x % 16 ≠ 0) :
    slotBoundary c x s = placeBurst c (gridSlot s c x) (slotBegun c x s) := by
  rw [slotBoundary_on on, if_neg (Decidable.not_and_iff_or_not.2 noSched), if_neg notLeaf]

theorem slotBoundary_leaf (leaf : s.dev.mode = some .leaf) : slotBoundary c x s = placeBurst c (gridSlot s c x) (placeJoin c (gridSlot s c x)
    (if gridSlot s c x % 16 = 0 then enterVolume c (slotVol (gridSlot s c x)) (slotBegun c x s) else slotBegun c x s)) := by
  rw [slotBoundary_on on, if_neg (by simp [leaf]), if_pos leaf]

end

/-! ### The join window -/

theorem exec_joinWindowStart : exec (.joinWindowStart c) s = .next (joinWindow c s) := rfl

/-- The volume that a leaf receives from its hub. -/
def hubVolume (s : State) (c : Fin 2) : Nat := (s.fol c ((groupsOf s c).headD 0)).rxVolume

/-- A volume is the first of a join window. -/
def firstOfWindow (i : Interloan) (v : Nat) : Prop := joinVolume i v = true ∧ joinVolume i ((v + 2 ^ 32 - 1) % 2 ^ 32) = false

theorem joinWindow_draws (leaf : s.dev.mode = some .leaf) (unranged : s.il[c].ranged = false) (first : firstOfWindow s.il[c] (hubVolume s c)) :
    joinWindow c s = onIl c (fun i => { i with joinDue := some (16 * hubVolume s c + (s.freeVal 4).toNat) }) s.drawn :=
  if_pos ⟨leaf, (Bool.not_eq_true' _).mpr unranged, first.1, (Bool.not_eq_true' _).mpr first.2⟩

theorem joinWindow_rests (h : s.dev.mode ≠ some .leaf ∨ s.il[c].ranged = true ∨ ¬firstOfWindow s.il[c] (hubVolume s c)) :
    joinWindow c s = s := by
  refine if_neg fun ⟨leaf, unranged, first, before⟩ => ?_
  rcases h with away | ranged | other
  · exact away leaf
  · exact Bool.eq_false_iff.1 ((Bool.not_eq_true' _).mp unranged) ranged
  · exact other ⟨first, (Bool.not_eq_true' _).mp before⟩

end Sys2Proof.Machine
end

section
/-! The receiver of a tone, from the detection to the header, and what times out beside it (06_interloan.md R148 to R157). -/

namespace Sys2Proof.Machine

variable {c : Fin 2} {t : Fin 4} {s : State} {mg m h start now : Nat} {x : Tone}

/-! ### Detections -/

theorem exec_toneDetection {ms : List Nat} {later : Nat} :
    exec (.toneDetection c t start ms later) s = .next (toneDetection c t start ms later s) := rfl

/-- The greatest metric of a timing, in 2^-16. -/
def greatestMetric (ms : List Nat) : Nat := min (bestHyp (ms.take 65)).2 65536

theorem toneDetection_declared {ms : List Nat} {later : Nat} (reached : 65536 * ilPar s c 0x40 ≤ 10000 * greatestMetric ms)
    (greatest : later ≤ greatestMetric ms) : toneDetection c t start ms later s =
      onTone c t (Tone.detect (ilPar s c 0x50) (greatestMetric ms) (bestHyp (ms.take 65)).1 start) s :=
  if_neg (not_or.2 ⟨Nat.not_lt.2 reached, Nat.not_lt.2 greatest⟩)

theorem toneDetection_none {ms : List Nat} {later : Nat}
    (none_ : 10000 * greatestMetric ms < 65536 * ilPar s c 0x40 ∨ greatestMetric ms < later) : toneDetection c t start ms later s = s :=
  if_pos none_

/-- The detector has counted a detection, 68 symbols after its preamble start. -/
def Tone.counted (start : Nat) (x : Tone) : Tone := { x with detections := bump x.detections, clock := max x.clock (start + 68) }

/-- A burst is being received, and its payload has not begun. -/
def Tone.beforePayload (x : Tone) : Prop := x.st = .preamble ∨ x.st = .train ∨ x.st = .header

/-- What a detection does is decided by the receiver's state (R152). -/
theorem detect_eq : Tone.detect mg m h start x = match x.st with
    | .off => x.counted start
    | .idle => takeDetection m h start (start + 68) (x.counted start)
    | .payload =>
      if snrAbove mg x.det m then { takeDetection m h start (start + 68) (x.counted start) with captured := bump x.captured }
      else { (x.counted start).hold m h start with collisions := bump x.collisions }
    | .preamble | .train | .header =>
      if x.det < m then { takeDetection m h start (start + 68) (x.counted start) with abandoned := bump x.abandoned }
      else (x.counted start).hold m h start := rfl

theorem detect_off (off : x.st = .off) : Tone.detect mg m h start x = x.counted start := by
  rw [detect_eq, off]

theorem detect_idle (idle : x.st = .idle) : Tone.detect mg m h start x = takeDetection m h start (start + 68) (x.counted start) := by
  rw [detect_eq, idle]

theorem detect_beforePayload (mid : x.beforePayload) : Tone.detect mg m h start x =
    if x.det < m then { takeDetection m h start (start + 68) (x.counted start) with abandoned := bump x.abandoned }
    else (x.counted start).hold m h start := by
  rcases mid with st | st | st <;> rw [detect_eq, st]

theorem detect_payload (payload : x.st = .payload) : Tone.detect mg m h start x =
    if snrAbove mg x.det m then { takeDetection m h start (start + 68) (x.counted start) with captured := bump x.captured }
    else { (x.counted start).hold m h start with collisions := bump x.collisions } := by
  rw [detect_eq, payload]

/-! ### The held detection -/

theorem hold_none (none_ : x.held = none) : (x.hold m h start).held = some (m, h, start) := by
  rw [Tone.hold, none_]

theorem hold_some {a k b : Nat} (held : x.held = some (a, k, b)) :
    (x.hold m h start).held = if a < m then some (m, h, start) else some (a, k, b) := by
  rw [Tone.hold, held]

/-- A receiver that gives up its burst, with what becomes of the held detection. -/
theorem release_eq : x.release now =
    let y := { x with poisonedCount := if x.poisoned then bump x.poisonedCount else x.poisonedCount, poisoned := false }
    match x.held with
    | some (a, k, b) =>
      if max x.clock now ≤ b + 512 then takeDetection a k b (max x.clock now) { y with held := none }
      else { y with held := none, st := .idle, clock := max x.clock now }
    | none => { y with st := .idle, clock := max x.clock now } := rfl

theorem release_idle (none_ : x.held = none) : (x.release now).st = .idle := by
  rw [release_eq, none_]

theorem release_poisonedCount : (x.release now).poisonedCount = if x.poisoned = true then bump x.poisonedCount else x.poisonedCount := by
  rw [release_eq]
  rcases x.held with _ | ⟨a, k, b⟩
  · rfl
  · dsimp only
    split <;> rfl

section

variable {a k b : Nat} (held : x.held = some (a, k, b))
include held

theorem release_takes (inHistory : max x.clock now ≤ b + 512) :
    (x.release now).st = .preamble ∧ (x.release now).det = a ∧ (x.release now).hyp = k ∧ (x.release now).start = b ∧ (x.release now).held = none := by
  rw [release_eq, held]
  dsimp only
  rw [if_pos inHistory]
  exact ⟨rfl, rfl, rfl, rfl, rfl⟩

theorem release_drops (past : b + 512 < max x.clock now) : (x.release now).st = .idle ∧ (x.release now).held = none := by
  rw [release_eq, held]
  dsimp only
  rw [if_neg (Nat.not_le.2 past)]
  exact ⟨rfl, rfl⟩

end

/-! ### Preamble, training and header -/

theorem exec_preambleEnd {a1 a16 : Int} {bad : Bool} :
    exec (.preambleEnd c t a1 a16 bad) s = .next (onTone c t (preambleEnd (s.car c).symRate a1 a16 bad) s) := rfl

theorem preambleEnd_other {r : Nat} {a1 a16 : Int} {bad : Bool} (st : x.st ≠ .preamble) : preambleEnd r a1 a16 bad x = x := if_neg st

theorem preambleEnd_trains {r : Nat} {a1 a16 : Int} {bad : Bool} (st : x.st = .preamble) : preambleEnd r a1 a16 bad x =
    { x with st := .train, clock := max x.clock (x.start + 128), freq := refined r x.hyp a1 a16, poisoned := x.poisoned || bad } := if_pos st

section

variable {h1x h1y h2x h2y : Int × Int} {bad : Bool}

theorem exec_burstTrainingEnd : exec (.burstTrainingEnd c t h1x h1y h2x h2y bad) s = .next (onTone c t (trainingEnd h1x h1y h2x h2y bad) s) := rfl

theorem trainingEnd_other (st : x.st ≠ .train) : trainingEnd h1x h1y h2x h2y bad x = x := if_pos st

theorem trainingEnd_solved (st : x.st = .train) (well : wellConditioned (jonesOf h1x h1y h2x h2y) = true) :
    trainingEnd h1x h1y h2x h2y bad x = { x with
      jones := jonesOf h1x h1y h2x h2y, poisoned := x.poisoned || bad, st := .header, clock := max x.clock (x.start + 256) } :=
  (if_neg (not_not_intro st)).trans (if_pos well)

theorem trainingEnd_fails (st : x.st = .train) (ill : wellConditioned (jonesOf h1x h1y h2x h2y) = false) :
    trainingEnd h1x h1y h2x h2y bad x =
      { ({ x with jones := jonesOf h1x h1y h2x h2y, poisoned := x.poisoned || bad } : Tone).release (x.start + 256) with trainFails := bump x.trainFails } :=
  (if_neg (not_not_intro st)).trans (if_neg (Bool.eq_false_iff.1 ill))

end

section

variable {r stamp : Nat} {bs : List Byte} {bad : Bool}

theorem exec_headerCrcReady :
    exec (.headerCrcReady c t bs bad stamp) s = .next (onTone c t (headerReady (s.car c).symRate bs bad stamp) s) := rfl

theorem headerReady_other (st : x.st ≠ .header) : headerReady r bs bad stamp x = x := if_pos st

theorem headerReady_bad (st : x.st = .header) (no : headerGood (scramble (padTo 32 bs)) = false) : headerReady r bs bad stamp x =
    { ({ x with poisoned := x.poisoned || bad } : Tone).release (x.start + 328) with headerErrs := bump x.headerErrs } :=
  (if_neg (not_not_intro st)).trans (if_neg (Bool.eq_false_iff.1 no))

/-- A good header gives the burst its fields, and its payload begins. -/
theorem headerReady_good (st : x.st = .header) (good : headerGood (scramble (padTo 32 bs)) = true) : headerReady r bs bad stamp x =
    let f := scramble (padTo 32 bs)
    { x with
      poisoned := x.poisoned || bad, st := .payload, clock := max x.clock (x.start + 328), typ := byteAt f 0 % 16, src := byteAt f 1
      dst := byteAt f 2, ranged := bit (byteAt f 3) 0, len := beAt f 4 2, seq := beAt f 6 2, txPos := beAt f 8 4, stamp := toneStamp r stamp } :=
  (if_neg (not_not_intro st)).trans (if_pos good)

end

/-! ### The leaf that is not heard, and the noise floor -/

theorem exec_leafTimeout {l : Fin 16} : exec (.leafTimeout c l) s = .next (leafTimeout c l s) := rfl

theorem leafTimeout_unranges {l : Fin 16} (h : s.dev.mode = some .hub ∧ inGrant s.il[c] l.val = true ∧ s.il[c].leaves[l].ranged = true) :
    leafTimeout c l s = raise 99 (objCarrier c) (evtArg 0 0 l.val 0)
      (onIl c (fun i => { i with leaves := upd i.leaves l fun x => { x with ranged := false } }) s) := if_pos h

theorem leafTimeout_rests {l : Fin 16} (h : ¬(s.dev.mode = some .hub ∧ inGrant s.il[c] l.val = true ∧ s.il[c].leaves[l].ranged = true)) :
    leafTimeout c l s = s := if_neg h

section

variable {x y : Int}

theorem exec_noiseWindowEnd : exec (.noiseWindowEnd c t x y) s = .next (noiseWindow c t x y s) := rfl

/-- A floor above the threshold is marked, and raises the event when it was not marked before (R157). -/
theorem noiseWindow_above (high : ilParI s c 0x71 * 256 < max x y * 100) : noiseWindow c t x y s =
    raiseIf (!(s.tone c t).noiseRaised) 97 (objCarrier c) (evtArg 0 t.val 0 0)
      (onTone c t (fun n => { n with noiseX := x, noiseY := y, noiseRaised := true }) s) := by
  simp only [noiseWindow, decide_eq_true high, Bool.true_and, Bool.true_or]

/-- A floor that is not above the threshold raises nothing; 1 dB below it the mark goes. -/
theorem noiseWindow_notAbove (low : ¬ilParI s c 0x71 * 256 < max x y * 100) : noiseWindow c t x y s =
    onTone c t (fun n => { n with
      noiseX := x, noiseY := y, noiseRaised := (s.tone c t).noiseRaised && !decide (max x y * 100 ≤ (ilParI s c 0x71 - 100) * 256) }) s := by
  simp only [noiseWindow, decide_eq_false low, Bool.false_and, Bool.false_or, raiseIf_false]

theorem noiseWindow_raises (high : ilParI s c 0x71 * 256 < max x y * 100) (new : (s.tone c t).noiseRaised = false) :
    noiseWindow c t x y s = raise 97 (objCarrier c) (evtArg 0 t.val 0 0)
      (onTone c t (fun n => { n with noiseX := x, noiseY := y, noiseRaised := true }) s) := by
  rw [noiseWindow_above high, new]
  rfl

theorem noiseWindow_marked (high : ilParI s c 0x71 * 256 < max x y * 100) (old : (s.tone c t).noiseRaised = true) :
    noiseWindow c t x y s = onTone c t (fun n => { n with noiseX := x, noiseY := y }) s := by
  rw [noiseWindow_above high, old, Bool.not_true, raiseIf_false]
  exact onTone_congr (by rw [old])

theorem noiseWindow_clears (under : max x y * 100 ≤ (ilParI s c 0x71 - 100) * 256) :
    noiseWindow c t x y s = onTone c t (fun n => { n with noiseX := x, noiseY := y, noiseRaised := false }) s := by
  simp only [noiseWindow_notAbove (show ¬ilParI s c 0x71 * 256 < max x y * 100 by omega), decide_eq_true under, Bool.not_true, Bool.and_false]

theorem noiseWindow_between (near : (ilParI s c 0x71 - 100) * 256 < max x y * 100) (low : ¬ilParI s c 0x71 * 256 < max x y * 100) :
    noiseWindow c t x y s = onTone c t (fun n => { n with noiseX := x, noiseY := y }) s := by
  simp only [noiseWindow_notAbove low, decide_eq_false (Int.not_le.2 near), Bool.not_false, Bool.and_true]
  exact onTone_congr rfl

end

end Sys2Proof.Machine
end

section
/-! INTERLOAN.SCHEDULE.SET, INTERLOAN.SEND and INTERLOAN.RECV (06_interloan.md R143, R145; 14_command_reference.md R347, R348). -/

namespace Sys2Proof.Machine

variable {q : Request} {s : State}

/-! ### INTERLOAN.SCHEDULE.SET -/

theorem exec_interloanScheduleSet : exec (.interloanScheduleSet q) s = .next (deskRun 0x0602 scheduleSet q s) := rfl

theorem scheduleSet_notHub (h : s.dev.mode ≠ some .hub) : scheduleSet q s = (s, refuse stBadState) := if_pos h

theorem scheduleSet_hub (hub : s.dev.mode = some .hub) : scheduleSet q s = match badOwner s (reqCarrier q) q with
    | some k => (s, badParam (4 + k))
    | none => (onIl (reqCarrier q) (fun i => if ilBusy i then { i with ownerNext := some ((List.range 64).map fun k => u8 q (4 + k)) }
        else { i with owner := (List.range 64).map fun k => u8 q (4 + k), ownerNext := none }) (keepBody 0x0602 q s), ok) :=
  if_neg (not_not_intro hub)

theorem scheduleSet_badOwner {k : Nat} (hub : s.dev.mode = some .hub) (bad : badOwner s (reqCarrier q) q = some k) :
    scheduleSet q s = (s, badParam (4 + k)) := by
  rw [scheduleSet_hub hub, bad]

section

variable (hub : s.dev.mode = some .hub) (good : badOwner s (reqCarrier q) q = none)
include hub good

/-- During a burst the grant table waits for the next slot boundary (R158). -/
theorem scheduleSet_waits (busy : ilBusy s.il[reqCarrier q] = true) : scheduleSet q s =
    (onIl (reqCarrier q) (fun i => { i with ownerNext := some ((List.range 64).map fun k => u8 q (4 + k)) }) (keepBody 0x0602 q s), ok) := by
  rw [scheduleSet_hub hub, good]
  exact congrArg (·, ok) (onIl_congr (if_pos busy))

theorem scheduleSet_applies (rest : ilBusy s.il[reqCarrier q] = false) : scheduleSet q s =
    (onIl (reqCarrier q) (fun i => { i with owner := (List.range 64).map fun k => u8 q (4 + k), ownerNext := none }) (keepBody 0x0602 q s), ok) := by
  rw [scheduleSet_hub hub, good]
  exact congrArg (·, ok) (onIl_congr (if_neg (Bool.eq_false_iff.1 rest)))

end

/-! ### INTERLOAN.SEND -/

theorem exec_interloanSend : exec (.interloanSend q) s = .next (deskRun 0x0603 interloanSend q s) := rfl

theorem interloanSend_badDst (bad : dstOk (u8 q 4) = false) : interloanSend q s = (s, badParam 4) := if_pos (by rw [bad]; rfl)

section

variable (dst : dstOk (u8 q 4) = true)
include dst

theorem interloanSend_long (long : 2048 < u16 q 6) : interloanSend q s = (s, badParam 6) :=
  (if_neg (by simp [dst])).trans (if_pos long)

variable (short : u16 q 6 ≤ 2048)
include short

theorem interloanSend_noBulk (some_ : 0 < u16 q 6) (none_ : q.slot = none) : interloanSend q s = (s, refuse stBadEntry) := by
  simp [interloanSend, dst, Nat.not_lt.2 short, some_, none_]

theorem interloanSend_shortBulk (slot : q.slot.isSome = true) (few : q.bulk.length < u16 q 6) : interloanSend q s = (s, badParam 6) := by
  simp [interloanSend, dst, Nat.not_lt.2 short, Option.isSome_iff_ne_none.1 slot, few]

variable (data : u16 q 6 ≤ q.bulk.length) (carried : u16 q 6 = 0 ∨ q.slot.isSome = true)
include data carried

/-- A datagram in order is refused while the carrier is disabled or its queue is full. -/
theorem interloanSend_formed : interloanSend q s =
    if (!(s.car (reqCarrier q)).enabled) = true then (s, refuse stBadState)
    else if 32 ≤ ilQueued s.il[reqCarrier q] 0 then
      (onIl (reqCarrier q) (fun i => { i with sendRefused := bump i.sendRefused }) s, refuse stBusy)
    else (ilEnqueue (reqCarrier q) 0 (u8 q 4) (q.bulk.take (u16 q 6)) s, ok (leBytes 2 (s.il[reqCarrier q].nextSeq.getD 0 0))) := by
  have held : ¬(0 < u16 q 6 ∧ q.slot.isNone = true) := fun ⟨some_, none_⟩ =>
    carried.elim (Nat.ne_of_gt some_) fun slot => by simp [Option.isNone_iff_eq_none.1 none_] at slot
  simp only [interloanSend, dst, Bool.not_true, Bool.false_eq_true, if_false, if_neg (Nat.not_lt.2 short), if_neg held,
    if_neg (Nat.not_lt.2 data)]

theorem interloanSend_disabled (off : (s.car (reqCarrier q)).enabled = false) : interloanSend q s = (s, refuse stBadState) :=
  (interloanSend_formed dst short data carried).trans (if_pos (by rw [off]; rfl))

variable (on : (s.car (reqCarrier q)).enabled = true)
include on

theorem interloanSend_full (full : 32 ≤ ilQueued s.il[reqCarrier q] 0) : interloanSend q s =
    (onIl (reqCarrier q) (fun i => { i with sendRefused := bump i.sendRefused }) s, refuse stBusy) :=
  (interloanSend_formed dst short data carried).trans ((if_neg (by rw [on]; decide)).trans (if_pos full))

theorem interloanSend_queues (room : ilQueued s.il[reqCarrier q] 0 < 32) : interloanSend q s =
    (ilEnqueue (reqCarrier q) 0 (u8 q 4) (q.bulk.take (u16 q 6)) s, ok (leBytes 2 (s.il[reqCarrier q].nextSeq.getD 0 0))) :=
  (interloanSend_formed dst short data carried).trans ((if_neg (by rw [on]; decide)).trans (if_neg (Nat.not_le.2 room)))

end

/-! ### INTERLOAN.RECV -/

theorem exec_interloanRecv : exec (.interloanRecv q) s = .next (deskRun 0x0604 interloanRecv q s) := rfl

theorem interloanRecv_empty (h : s.il[reqCarrier q].store = []) : interloanRecv q s = (s, ok (List.replicate 24 0)) := by
  simp only [interloanRecv, h]

/-- The oldest datagram of the store is returned, with the number of those that stay. -/
theorem interloanRecv_oldest {d : Datagram} {l : List Datagram} (h : s.il[reqCarrier q].store = d :: l) : interloanRecv q s =
    (onIl (reqCarrier q) (fun i => { i with store := l }) s, .done (okWith (leBytes 1 1 ++ leBytes 1 d.src ++ leBytes 1 d.dst ++ leBytes 1 d.tone
      ++ leBytes 2 d.seq ++ leBytes 2 d.payload.length ++ leBytes 6 d.stamp.sec ++ leBytes 2 d.stamp.frac ++ leBytes 4 d.stamp.ns
      ++ leBytes 2 (codeOf 16 d.evm) ++ leBytes 2 l.length) d.payload)) := by
  simp only [interloanRecv, h]
  rfl

end Sys2Proof.Machine
end

section
/-! The statement on the Interloan service assembled (06_interloan.md R136 to R157; 14_command_reference.md R348). -/

namespace Sys2Proof.Machine

/-- Settles O57: each clause is the rule of one function, in the order of the statement. That a JOIN goes out at
its drawn slot past the queues, which no grant serves (log 71), and that the value drawn for its slot is free from 0 to 15 (log 31) are
the model's choices. -/
theorem interloanService : Obligations.InterloanService := by
  refine ⟨fun i => ⟨fun none_ _ => nextBurst_none none_, fun b => nextBurst_first⟩,
    fun c n s => ⟨placeBurst_empty, fun b head => ⟨placeBurst_waits head, fun t => placeBurst_sends head⟩⟩, fun c x s => ?_,
    fun c n s => ⟨placeJoin_rests, fun due unranged => ⟨placeJoin_dropped due unranged, fun t => placeJoin_sends due unranged⟩⟩,
    fun c s => ⟨fun leaf unranged first => ?_, fun rests => ?_⟩,
    fun c t start ms later s => ⟨fun reached greatest => ?_, fun none_ => ?_⟩, fun mg m h start now x => ?_,
    fun c t a1 a16 h1x h1y h2x h2y bad s => ⟨fun other => ?_, fun st => ?_, fun other => ?_, fun st => ⟨fun well => ?_, fun ill => ?_⟩,
      fun bs stamp => ⟨fun other => ?_, fun st no => ?_, fun st good => ?_⟩⟩,
    fun c l s => ⟨fun go => ?_, fun stays => ?_⟩, fun c t x y s => ⟨fun high new => ?_, fun high old => ?_, fun under => ?_, fun near low => ?_⟩,
    fun q s => ⟨fun run => ?_, fun run => ?_, fun run => ?_⟩⟩
  · rw [exec_slotBoundaryTx]
    exact ⟨fun off => congrArg _ (slotBoundary_off off), fun on => ⟨fun hub first => congrArg _ (slotBoundary_hub on hub first),
      fun notLeaf noSched => congrArg _ (slotBoundary_plain on notLeaf noSched),
      fun leaf first => congrArg _ ((slotBoundary_leaf on leaf).trans (by rw [if_pos first]; rfl)),
      fun leaf later => congrArg _ ((slotBoundary_leaf on leaf).trans (by rw [if_neg later]; rfl))⟩⟩
  · exact ⟨(s.freeVal 4).toFin, by rw [exec_joinWindowStart, joinWindow_draws leaf unranged first]; rfl⟩
  · rw [exec_joinWindowStart, joinWindow_rests rests]
  · rw [exec_toneDetection]
    exact congrArg _ (toneDetection_declared reached greatest)
  · rw [exec_toneDetection, toneDetection_none none_]
  · exact ⟨detect_off, detect_idle, fun mid stronger => (detect_beforePayload mid).trans (if_pos stronger),
      fun mid weaker => (detect_beforePayload mid).trans (if_neg (Nat.not_lt.2 weaker)),
      fun payload captures => (detect_payload payload).trans (if_pos captures),
      fun payload collides => (detect_payload payload).trans (if_neg (Bool.eq_false_iff.1 collides)),
      fun none_ => ⟨hold_none none_, release_idle none_⟩, release_poisonedCount,
      fun a k b held => ⟨hold_some held, release_takes held, release_drops held⟩⟩
  · rw [exec_preambleEnd, onTone_id (preambleEnd_other other)]
  · rw [exec_preambleEnd]
    exact congrArg _ (onTone_congr (preambleEnd_trains st))
  · rw [exec_burstTrainingEnd, onTone_id (trainingEnd_other other)]
  · rw [exec_burstTrainingEnd]
    exact congrArg _ (onTone_congr (trainingEnd_solved st well))
  · rw [exec_burstTrainingEnd]
    exact congrArg _ (onTone_congr (trainingEnd_fails st ill))
  · rw [exec_headerCrcReady, onTone_id (headerReady_other other)]
  · rw [exec_headerCrcReady]
    exact congrArg _ (onTone_congr (headerReady_bad st no))
  · rw [exec_headerCrcReady]
    exact congrArg _ (onTone_congr (headerReady_good st good))
  · rw [exec_leafTimeout, leafTimeout_unranges go]
  · rw [exec_leafTimeout, leafTimeout_rests stays]
  · rw [exec_noiseWindowEnd, noiseWindow_raises high new]
  · rw [exec_noiseWindowEnd, noiseWindow_marked high old]
  · rw [exec_noiseWindowEnd, noiseWindow_clears under]
  · rw [exec_noiseWindowEnd, noiseWindow_between near low]
  · rw [exec_interloanScheduleSet]
    exact ⟨fun notHub => congrArg _ (deskRun_done run (scheduleSet_notHub notHub)),
      fun hub => ⟨fun k bad => congrArg _ (deskRun_done run (scheduleSet_badOwner hub bad)),
        fun good => ⟨fun busy => congrArg _ (deskRun_done run (scheduleSet_waits hub good busy)),
          fun rest => congrArg _ (deskRun_done run (scheduleSet_applies hub good rest))⟩⟩⟩
  · rw [exec_interloanSend]
    exact ⟨fun bad => congrArg _ (deskRun_done run (interloanSend_badDst bad)),
      fun dst long => congrArg _ (deskRun_done run (interloanSend_long dst long)),
      fun dst short some_ none_ => congrArg _ (deskRun_done run (interloanSend_noBulk dst short some_ none_)),
      fun dst short slot few => congrArg _ (deskRun_done run (interloanSend_shortBulk dst short slot few)),
      fun dst short data carried => ⟨fun off => congrArg _ (deskRun_done run (interloanSend_disabled dst short data carried off)),
        fun on full => congrArg _ (deskRun_done run (interloanSend_full dst short data carried on full)),
        fun on room => congrArg _ (deskRun_done run (interloanSend_queues dst short data carried on room))⟩⟩
  · rw [exec_interloanRecv]
    exact ⟨fun none_ => congrArg _ (deskRun_done run (interloanRecv_empty none_)),
      fun d l oldest => congrArg _ (deskRun_done run (interloanRecv_oldest oldest))⟩

end Sys2Proof.Machine
end

section
/-! The folio header: its CRC, alignment, the numbering jump, the slice check and the LEAF's numbering
(07_folio_encryption.md R163 to R165, R181). -/

namespace Sys2Proof.Machine

variable {c : Fin 2} {g : Fin 16} {h b : List Byte} {s : State}

/-! ### Updates of one group -/

/-- An update is what it makes of the group as it stands. -/
theorem onFol_congr {f k : FolioGroup → FolioGroup} (e : f (s.fol c g) = k (s.fol c g)) : onFol c g f s = onFol c g k s := by
  have groups : upd s.folio[c] g f = upd s.folio[c] g k := upd_congr e
  rw [onFol, onFol, upd_congr (f := fun v => upd v g f) (g := fun v => upd v g k) groups]

theorem onFol_onFol {f k : FolioGroup → FolioGroup} : onFol c g k (onFol c g f s) = onFol c g (fun x => k (f x)) s := by
  simp only [onFol, upd_upd]

theorem raiseFol_ite {p : Prop} [Decidable p] {n state epoch value : Nat} :
    (if p then raiseFol n c g state epoch value s else s) = raiseIf (decide p) n (objGroup c g) (evtArg state 0 epoch value) s := by
  split
  · next holds => rw [decide_eq_true holds, raiseIf_true, raiseFol]
  · next fails => rw [decide_eq_false fails, raiseIf_false]

/-! ### A header good or bad -/

theorem exec_folioHeaderReceived :
    exec (.folioHeaderReceived c g h) s = .next (groupHeard c g (headerReceived c g (ohField 0 (padTo 16 h)) s)) := rfl

theorem headerReceived_crcRight (good : beAt b 14 2 = crc16 (bytesAt b 0 14)) : headerReceived c g b s =
    noteArrival c g (numberFolio c g true b (leafNumbers c g true ((s.fol c g).lastGood == some (hdrPos b)) b (goodHeader c g b s))) := by
  simp only [headerReceived, good, beq_self_eq_true, if_true]

theorem headerReceived_crcWrong (bad : beAt b 14 2 ≠ crc16 (bytesAt b 0 14)) : headerReceived c g b s =
    noteArrival c g (numberFolio c g false b (leafNumbers c g false ((s.fol c g).lastGood == some (hdrPos b)) b (badHeader c g s))) := by
  simp only [headerReceived, beq_eq_false_iff_ne.2 bad, Bool.false_eq_true, if_false]

/-! ### The bad header -/

/-- The position that a group counts on to. -/
def FolioGroup.counted (f : FolioGroup) : Nat := nextPos (256 * f.rxVolume + f.rxFolio)

/-- What a bad header leaves of its group, the loss of alignment apart (R181). -/
def FolioGroup.countOn (f : FolioGroup) : FolioGroup :=
  { f with
    hcrc := bump f.hcrc, hcrcRun := f.hcrcRun + 1, goodRun := 0, jumpRun := 0, lastGood := none
    rxVolume := f.counted / 256, rxFolio := f.counted % 256 }

/-- The eighth bad header in a row ends alignment. -/
theorem badHeader_loses (eighth : (s.fol c g).hcrcRun + 1 = 8) (aligned : (s.fol c g).lof = false) :
    badHeader c g s = raiseFol 128 c g 1 0 0 (onFol c g (fun f => { f with lof := true }) (onFol c g FolioGroup.countOn s)) := by
  rw [onFol_onFol]
  refine (if_pos ⟨eighth, by rw [aligned]; rfl⟩).trans (congrArg (raiseFol 128 c g 1 0 0) (onFol_congr ?_))
  simp only [FolioGroup.countOn, FolioGroup.counted, eighth, decide_true, Bool.or_true]

theorem badHeader_counts (h : (s.fol c g).hcrcRun + 1 ≠ 8 ∨ (s.fol c g).lof = true) :
    badHeader c g s = onFol c g FolioGroup.countOn s := by
  have kept : ((s.fol c g).lof || decide ((s.fol c g).hcrcRun + 1 = 8)) = (s.fol c g).lof := by
    rcases h with other | lost
    · rw [decide_eq_false other, Bool.or_false]
    · rw [lost, Bool.true_or]
  have quiet : ¬((s.fol c g).hcrcRun + 1 = 8 ∧ (!(s.fol c g).lof) = true) := fun ⟨eighth, aligned⟩ =>
    h.elim (· eighth) fun lost => by simp [lost] at aligned
  refine (if_neg quiet).trans (onFol_congr ?_)
  simp only [FolioGroup.countOn, FolioGroup.counted, kept]

/-! ### The good header -/

/-- A good header at `p` that ends the loss of alignment: in TRACK, and not the first of its row. -/
abbrev endsLoss (s : State) (c : Fin 2) (g : Fin 16) (p : Nat) : Prop :=
  (s.fol c g).lof = true ∧ (s.rxg c g).st = .track ∧ (s.fol c g).lastGood = some p ∧ 1 ≤ (s.fol c g).goodRun

/-- A good header at `p` that is the third in a row to follow the one before but not the received count. -/
abbrev jumpsTo (s : State) (c : Fin 2) (g : Fin 16) (p : Nat) : Prop :=
  ¬endsLoss s c g p ∧ (s.fol c g).rxKnown = true ∧ p ≠ (s.fol c g).counted ∧ (s.fol c g).jumpLast = p ∧ (s.fol c g).jumpRun = 2

/-- The third value in a row of SLICES that is not the provisioned m. -/
abbrev entersSlices (s : State) (c : Fin 2) (g : Fin 16) (m : Nat) : Prop :=
  (s.fol c g).sliceDef = false ∧ m ≠ groupSlices s c g.val ∧ 2 ≤ (s.fol c g).sliceRun

/-- A run that goes on while `p` holds and begins again at 1 has reached two. -/
theorem two_le_run_iff {p : Prop} [Decidable p] {run : Nat} : 2 ≤ (if p then run + 1 else 1) ↔ p ∧ 1 ≤ run := by
  split <;> simp_all

theorem jumpRun_eq_three_iff {take : Prop} [Decidable take] {p counted run last : Nat} :
    (if take ∨ p = counted then 0 else if 0 < run ∧ last = p then run + 1 else 1) = 3 ↔
      ¬take ∧ p ≠ counted ∧ last = p ∧ run = 2 := by
  split
  · next h => exact ⟨fun e => absurd e (by decide), fun ⟨away, other, _⟩ => absurd h (not_or.2 ⟨away, other⟩)⟩
  · next h =>
    obtain ⟨away, other⟩ := not_or.1 h
    split
    · next onward => exact ⟨fun e => ⟨away, other, onward.2, by omega⟩, fun ⟨_, _, _, two⟩ => by omega⟩
    · next fresh => exact ⟨fun e => absurd e (by decide), fun ⟨_, _, same, two⟩ => absurd ⟨by omega, same⟩ fresh⟩

/-- The slice mismatch after a value that is bad or not: three bad ones enter it, three others leave it. -/
def sliceVerdict (defect bad : Bool) (run good : Nat) : Bool :=
  if defect then decide ((if bad then 0 else good + 1) < 3) else decide (3 ≤ if bad then run + 1 else 0)

theorem sliceVerdict_enters {bad : Bool} {run good : Nat} : sliceVerdict false bad run good = true ↔ bad = true ∧ 2 ≤ run := by
  cases bad <;> simp [sliceVerdict]

theorem sliceVerdict_leaves {bad : Bool} {run good : Nat} : sliceVerdict true bad run good = false ↔ bad = false ∧ 2 ≤ good := by
  cases bad <;> simp [sliceVerdict]

theorem entersSlices_iff {m : Nat} : (sliceVerdict (s.fol c g).sliceDef (m != groupSlices s c g.val) (s.fol c g).sliceRun (s.fol c g).sliceGood
    && !(s.fol c g).sliceDef) = true ↔ entersSlices s c g m := by
  cases defect : (s.fol c g).sliceDef
  · simp [sliceVerdict_enters, defect]
  · simp [defect]

/-- The number in use after a good header at `p`: the header's when it is taken, else the received count. -/
def numberTaken (s : State) (c : Fin 2) (g : Fin 16) (p : Nat) : Nat :=
  if (endsLoss s c g p ∨ (s.fol c g).rxKnown = false) ∨ jumpsTo s c g p then p else (s.fol c g).counted

theorem numberTaken_header {p : Nat} (h : endsLoss s c g p ∨ jumpsTo s c g p ∨ (s.fol c g).rxKnown = false ∨ p = (s.fol c g).counted) :
    numberTaken s c g p = p := by
  unfold numberTaken
  split
  · rfl
  · next other =>
    obtain ⟨⟨loss, known⟩, jump⟩ : (¬endsLoss s c g p ∧ ¬(s.fol c g).rxKnown = false) ∧ ¬jumpsTo s c g p := by simpa only [not_or] using other
    rcases h with h | h | h | h
    · exact absurd h loss
    · exact absurd h jump
    · exact absurd h known
    · exact h.symm

theorem numberTaken_count {p : Nat} (loss : ¬endsLoss s c g p) (jump : ¬jumpsTo s c g p) (known : (s.fol c g).rxKnown = true) :
    numberTaken s c g p = (s.fol c g).counted :=
  if_neg (by simp [loss, jump, known])

/-- What a good header makes of its group, with the runs that it counts (R164, R181). -/
def goodGroup (s : State) (c : Fin 2) (g : Fin 16) (h : List Byte) (good jump slice sliceGood : Nat) : FolioGroup :=
  { s.fol c g with
    hcrcRun := 0, goodRun := good, lastGood := some (nextPos (hdrPos h)), rxKnown := true
    rxVolume := numberTaken s c g (hdrPos h) / 256, rxFolio := numberTaken s c g (hdrPos h) % 256
    jumpRun := jump, jumpLast := nextPos (hdrPos h), sliceRun := slice, sliceGood := sliceGood
    sliceDef := sliceVerdict (s.fol c g).sliceDef (byteAt h 6 != groupSlices s c g.val) (s.fol c g).sliceRun (s.fol c g).sliceGood
    lof := (s.fol c g).lof && !decide (endsLoss s c g (hdrPos h)) }

theorem goodHeader_eq : ∃ good jump slice sliceGood : Nat, goodHeader c g h s =
    raiseIf (decide (entersSlices s c g (byteAt h 6))) 130 (objGroup c g) (evtArg 0 0 0 0)
      (raiseIf (decide (jumpsTo s c g (hdrPos h))) 129 (objGroup c g) (evtArg 0 0 0 0)
        (raiseIf (decide (endsLoss s c g (hdrPos h))) 128 (objGroup c g) (evtArg 0 0 0 0)
          (onFol c g (fun _ => goodGroup s c g h good jump slice sliceGood) s))) := by
  unfold goodHeader
  extract_lets f p follows run counted track exitLof take jr jump now bad sr sg mism s1 s2 s3
  have loss : exitLof ↔ endsLoss s c g p := and_congr_right' (and_congr_right' two_le_run_iff)
  have taken : take ↔ endsLoss s c g p ∨ f.rxKnown = false := or_congr loss (by simp)
  have third : jump ↔ jumpsTo s c g p := by
    refine jumpRun_eq_three_iff.trans ?_
    rw [taken, not_or, Bool.not_eq_false, and_assoc]
    rfl
  have number : now = numberTaken s c g p := by
    simp only [now, taken, third]
    rfl
  have slices : (mism && !f.sliceDef) = true ↔ entersSlices s c g (byteAt h 6) := entersSlices_iff
  have group : s1 = onFol c g (fun _ => goodGroup s c g h run (if jump then 0 else jr) sr sg) s := onFol_congr (by
    simp only [number, loss]
    rfl)
  refine ⟨run, if jump then 0 else jr, sr, sg, ?_⟩
  rw [raiseFol_ite, decide_eq_decide.2 slices]
  simp only [s3, s2, raiseFol_ite, group, loss, third]
  rfl

section

variable {good jump slice sliceGood : Nat}

theorem goodGroup_ends (loss : endsLoss s c g (hdrPos h)) : (goodGroup s c g h good jump slice sliceGood).lof = false := by
  simp only [goodGroup, decide_eq_true loss, Bool.not_true, Bool.and_false]

theorem goodGroup_keeps (none_ : ¬endsLoss s c g (hdrPos h)) :
    (goodGroup s c g h good jump slice sliceGood).lof = (s.fol c g).lof := by
  simp only [goodGroup, decide_eq_false none_, Bool.not_false, Bool.and_true]

theorem goodGroup_enters (clear : (s.fol c g).sliceDef = false) : (goodGroup s c g h good jump slice sliceGood).sliceDef = true ↔
    byteAt h 6 ≠ groupSlices s c g.val ∧ 2 ≤ (s.fol c g).sliceRun := by
  simp only [goodGroup, clear, sliceVerdict_enters, bne_iff_ne]

theorem goodGroup_leaves (defect : (s.fol c g).sliceDef = true) : (goodGroup s c g h good jump slice sliceGood).sliceDef = false ↔
    ¬byteAt h 6 ≠ groupSlices s c g.val ∧ 2 ≤ (s.fol c g).sliceGood := by
  simp only [goodGroup, defect, sliceVerdict_leaves, bne_eq_false_iff_eq, ne_eq, Decidable.not_not]

end

/-! ### The LEAF and the hub's numbering -/

section

variable {good follows : Bool}

theorem leafNumbers_notLeaf (mode : s.dev.mode ≠ some .leaf) : leafNumbers c g good follows h s = s := if_pos mode

variable (leaf : s.dev.mode = some .leaf)
include leaf

theorem leafNumbers_bad : leafNumbers c g false follows h s = onFol c g (fun f => { f with leafRun := 0 }) s :=
  if_neg (not_not_intro leaf)

variable (on : (s.fol c g).txOn = true)
include on

/-- While a LEAF sends, a header that agrees ends the run, one that does not follow begins it, and the third is adopted. -/
theorem leafNumbers_sending : leafNumbers c g true follows h s =
    let n := if beAt h 0 4 = (s.fol c g).txVolume then 0 else if follows = false then 1 else (s.fol c g).leafRun + 1
    onFol c g (fun f => { f with leafRun := n, adopt := if 3 ≤ n then some (beAt h 0 4) else if n = 0 then none else f.adopt }) s := by
  refine (if_neg (not_not_intro leaf)).trans (onFol_congr ?_)
  simp [on]

theorem leafNumbers_agrees (same : beAt h 0 4 = (s.fol c g).txVolume) :
    leafNumbers c g true follows h s = onFol c g (fun f => { f with leafRun := 0, adopt := none }) s := by
  rw [leafNumbers_sending leaf on, if_pos same]
  rfl

variable (differs : beAt h 0 4 ≠ (s.fol c g).txVolume)
include differs

theorem leafNumbers_restarts : leafNumbers c g true false h s = onFol c g (fun f => { f with leafRun := 1 }) s := by
  rw [leafNumbers_sending leaf on, if_neg differs]
  rfl

theorem leafNumbers_adopts (third : 2 ≤ (s.fol c g).leafRun) : leafNumbers c g true true h s =
    onFol c g (fun f => { f with leafRun := f.leafRun + 1, adopt := some (beAt h 0 4) }) s := by
  rw [leafNumbers_sending leaf on, if_neg differs, if_neg (by decide)]
  exact onFol_congr (by simp only [if_pos (Nat.succ_le_succ third)])

end

end Sys2Proof.Machine
end

section
/-! KEY fields, the schedule of receive keys and the tags of volumes (07_folio_encryption.md R172 to R174, R181). -/

namespace Sys2Proof.Machine

variable {c : Fin 2} {g : Fin 16} {v : Nat} {b : List Byte} {k : Crypt} {s : State}

/-! ### What the receiver notes of a good field -/

/-- A receiver out of schedule takes SLOT, EPOCH_CUR and KEY_VOL from the field (R174). -/
def Crypt.inSchedule (v : Nat) (b : List Byte) (k : Crypt) : Crypt :=
  if k.rxSync then k
  else { k with rxSync := true, rxSlot := byteAt b 0 / 32 % 2, rxEpoch := byteAt b 1, rxBase := (v + 2 ^ 32 - beAt b 4 4) % 2 ^ 32 }

/-- What a good field leaves, the tag apart. -/
def Crypt.noted (v : Nat) (b : List Byte) (k : Crypt) : Crypt :=
  let k1 := k.inSchedule v b
  { k1 with
    curGood := true, curEnc := k1.curEnc || bit (byteAt b 0) 7, curDiff := k1.curDiff || byteAt b 0 / 32 % 2 != k1.rxSlot
    curSlot := byteAt b 0 / 32 % 2, curKeyVol := beAt b 4 4
    rxArmed := if bit (byteAt b 0) 6 then some ((v + byteAt b 3) % 2 ^ 32, byteAt b 2) else k1.rxArmed
    lastEnc := bit (byteAt b 0) 7
    rxVols := (k1.scheduled v (bit (byteAt b 0) 7) :: k1.rxVols.filter fun x => x.vol != v).take 64 }

theorem heard_eq : k.heard v b =
    if bit (byteAt b 0) 4 then noteTag ((v + 2 ^ 32 - 1) % 2 ^ 32) (some (beAt b 8 16)) (k.noted v b) else k.noted v b := rfl

/-- The tag changes the tags held alone. -/
theorem heard_view {α : Type} {e : Crypt → α} (view : ∀ x l, e { x with gotTags := l } = e x) : e (k.heard v b) = e (k.noted v b) := by
  rw [heard_eq, noteTag]
  split
  · split
    · rfl
    · exact view _ _
  · rfl

/-- What taking the schedule keeps. -/
theorem inSchedule_view {α : Type} {e : Crypt → α}
    (view : ∀ x sync slot epoch base, e { x with rxSync := sync, rxSlot := slot, rxEpoch := epoch, rxBase := base } = e x) :
    e (k.inSchedule v b) = e k := by
  unfold Crypt.inSchedule
  split
  · rfl
  · exact view _ _ _ _ _

theorem heard_rxSync : (k.heard v b).rxSync = true := by
  refine (heard_view (e := Crypt.rxSync) fun _ _ => rfl).trans ?_
  show (k.inSchedule v b).rxSync = true
  unfold Crypt.inSchedule
  split
  · assumption
  · rfl

theorem heard_curEnc : (k.heard v b).curEnc = (k.curEnc || bit (byteAt b 0) 7) :=
  (heard_view (e := Crypt.curEnc) fun _ _ => rfl).trans
    (congrArg (· || bit (byteAt b 0) 7) (inSchedule_view (e := Crypt.curEnc) fun _ _ _ _ _ => rfl))

theorem heard_slots : (k.heard v b).slots = k.slots :=
  (heard_view (e := Crypt.slots) fun _ _ => rfl).trans (inSchedule_view (e := Crypt.slots) fun _ _ _ _ _ => rfl)

/-- The schedule that the receiver follows: slot, epoch and the volume whose KEY_VOL is 0. -/
def Crypt.schedule (k : Crypt) : Nat × Nat × Nat := (k.rxSlot, k.rxEpoch, k.rxBase)

theorem heard_takesSchedule (out : k.rxSync = false) :
    (k.heard v b).schedule = (byteAt b 0 / 32 % 2, byteAt b 1, (v + 2 ^ 32 - beAt b 4 4) % 2 ^ 32) := by
  refine (heard_view (e := Crypt.schedule) fun _ _ => rfl).trans ?_
  show (k.inSchedule v b).schedule = _
  rw [Crypt.inSchedule, if_neg (Bool.eq_false_iff.1 out)]
  rfl

theorem heard_keepsSchedule (follows : k.rxSync = true) : (k.heard v b).schedule = k.schedule := by
  refine (heard_view (e := Crypt.schedule) fun _ _ => rfl).trans ?_
  show (k.inSchedule v b).schedule = _
  rw [Crypt.inSchedule, if_pos follows]

theorem heard_rxArmed : (k.heard v b).rxArmed =
    if bit (byteAt b 0) 6 then some ((v + byteAt b 3) % 2 ^ 32, byteAt b 2) else k.rxArmed := by
  refine (heard_view (e := Crypt.rxArmed) fun _ _ => rfl).trans ?_
  rw [← inSchedule_view (e := Crypt.rxArmed) (k := k) (v := v) (b := b) fun _ _ _ _ _ => rfl]
  rfl

/-- The volume is held as the schedule has it, with the field's ENC. -/
theorem heard_rxVols : (k.heard v b).rxVols =
    ((k.heard v b).scheduled v (bit (byteAt b 0) 7) :: k.rxVols.filter fun x => x.vol != v).take 64 := by
  rw [heard_view (e := fun x => x.scheduled v (bit (byteAt b 0) 7)) fun _ _ => rfl, heard_view (e := Crypt.rxVols) fun _ _ => rfl,
    ← inSchedule_view (e := Crypt.rxVols) (k := k) (v := v) (b := b) fun _ _ _ _ _ => rfl]
  rfl

theorem noted_gotTags : (k.noted v b).gotTags = k.gotTags := inSchedule_view (e := Crypt.gotTags) fun _ _ _ _ _ => rfl

theorem heard_noTag (none_ : bit (byteAt b 0) 4 = false) : (k.heard v b).gotTags = k.gotTags := by
  rw [heard_eq, if_neg (Bool.eq_false_iff.1 none_), noted_gotTags]

theorem noteTag_new {t : Option Nat} (new : ∀ x ∈ k.gotTags, x.1 ≠ v) : (noteTag v t k).gotTags = ((v, t) :: k.gotTags).take 64 := by
  have unheld : ¬(k.gotTags.any fun x => x.1 == v) = true := fun held => by
    obtain ⟨x, mem, same⟩ := List.any_eq_true.1 held
    exact new x mem (beq_iff_eq.1 same)
  rw [noteTag, if_neg unheld]

theorem heard_tag (valid : bit (byteAt b 0) 4 = true) (new : ∀ x ∈ k.gotTags, x.1 ≠ (v + 2 ^ 32 - 1) % 2 ^ 32) :
    (k.heard v b).gotTags = (((v + 2 ^ 32 - 1) % 2 ^ 32, some (beAt b 8 16)) :: k.gotTags).take 64 := by
  rw [heard_eq, if_pos valid, noteTag_new (by rwa [noted_gotTags]), noted_gotTags]

/-! ### The field -/

theorem exec_keyFieldReceived {kf : List Byte} : exec (.keyFieldReceived c g kf) s =
    .next (groupHeard c g (keyField c g (s.fol c g).rxVolume (ohField 128 (padTo 26 kf)) s)) := rfl

theorem keyField_crcWrong (bad : beAt b 24 2 ≠ crc16 (bytesAt b 0 24)) :
    keyField c g v b s = onFol c g (fun f => { f with kcrc := bump f.kcrc }) s := if_neg bad

/-- The key that a field names can be used: encryption is on, and the slot holds the epoch (R181). -/
abbrev keyUsable (s : State) (c : Fin 2) (g : Fin 16) (slot epoch : Nat) : Prop :=
  encMode s c ≠ 0 ∧ (getNat {} (s.cry c g).slots slot).loaded = true ∧ (getNat {} (s.cry c g).slots slot).epoch = epoch

/-- What a field with or without ENC makes of the no-key and clear-reception defects (R181). -/
def FolioGroup.keyJudged (enc noKey : Bool) (f : FolioGroup) : FolioGroup :=
  { f with noKey := if enc then noKey else f.noKey, clearDef := f.clearDef && !enc, clearRun := if enc then 0 else f.clearRun }

theorem keyJudged_enc {noKey : Bool} {f : FolioGroup} : f.keyJudged true noKey = { f with noKey := noKey, clearDef := false, clearRun := 0 } := by
  simp [FolioGroup.keyJudged]

theorem keyJudged_clear {noKey : Bool} {f : FolioGroup} : f.keyJudged false noKey = f := by
  simp [FolioGroup.keyJudged]

/-- The state once a good field of volume `v` is noted. -/
def keyNoted (c : Fin 2) (g : Fin 16) (v : Nat) (b : List Byte) (s : State) : State := onCry c g (Crypt.heard v b) (rxKeyVolume c g v s)

/-- A good field of volume `v` names a key that cannot be used. -/
def keyMissing (c : Fin 2) (g : Fin 16) (v : Nat) (b : List Byte) (s : State) : Bool :=
  decide ¬keyUsable (keyNoted c g v b s) c g (byteAt b 0 / 32 % 2) (byteAt b 1)

/-- A good field is noted, shows whether its key can be used, and is seen by the exchange; then the tags are judged. -/
theorem keyField_crcRight (good : beAt b 24 2 = crc16 (bytesAt b 0 24)) : keyField c g v b s =
    judgeTags c g (kexSeen c g (byteAt b 1) (byteAt b 2) (bit (byteAt b 0) 6)
      (raiseIf (bit (byteAt b 0) 7 && keyMissing c g v b s && !((keyNoted c g v b s).fol c g).noKey) 142 (objGroup c g)
        (evtArg 0 0 (byteAt b 1) 0)
        (onFol c g (FolioGroup.keyJudged (bit (byteAt b 0) 7) (keyMissing c g v b s)) (keyNoted c g v b s)))) := by
  refine (if_pos good).trans ?_
  unfold goodKeyField
  extract_lets fl enc slot cur u key usable shows was s3 s4
  have unusable : (!usable) = keyMissing c g v b s := by
    rw [Bool.eq_iff_iff, keyMissing, decide_eq_true_iff, Bool.not_eq_true', ← Bool.not_eq_true]
    simp [usable, keyUsable, and_assoc, key, slot, cur, fl, u, keyNoted]
  have judged : s3 = onFol c g (FolioGroup.keyJudged enc (keyMissing c g v b s)) u := onFol_congr (by
    simp only [FolioGroup.keyJudged, shows, unusable])
  have new : (shows && !was) = (enc && keyMissing c g v b s && !was) := by
    cases named : enc <;> simp [shows, was, unusable, named]
  have raised : s4 = raiseIf (enc && keyMissing c g v b s && !was) 142 (objGroup c g) (evtArg 0 0 cur 0) s3 := by
    rw [← new]
    exact raiseFol_ite.trans (by rw [Bool.decide_eq_true])
  rw [raised, judged]
  rfl

/-! ### The scheduled change -/

theorem rxKeyVolume_unarmed (none_ : (s.cry c g).rxArmed = none) : rxKeyVolume c g v s = s := by
  simp only [rxKeyVolume, none_]

theorem rxKeyVolume_armed {va ep : Nat} (armed : (s.cry c g).rxArmed = some (va, ep)) : rxKeyVolume c g v s =
    if (v + 2 ^ 32 - va) % 2 ^ 32 < 2 ^ 31 then rxKeySwitch c g v ep (1 - (s.cry c g).rxSlot) va s else s := by
  simp only [rxKeyVolume, armed]

/-! ### Tags -/

section

variable {t r : Nat} (computed : (s.cry c g).doneTags = [(v, t)])
  (received : ((s.cry c g).gotTags.find? fun x => x.1 == v) = some (v, some r))

/-- The group no longer holds the tags of volume `v`. -/
def tagsDropped (c : Fin 2) (g : Fin 16) (v : Nat) (s : State) : State :=
  onCry c g (fun k => { k with doneTags := k.doneTags.filter fun x => x.1 != v, gotTags := k.gotTags.filter fun x => x.1 != v }) s

/-- What a tag that fails leaves of its group (R181). -/
def FolioGroup.tagFailed (f : FolioGroup) : FolioGroup :=
  { f with tagFails := bump f.tagFails, tagGoodRun := 0, tagFailRun := f.tagFailRun + 1, auth := f.auth || 3 ≤ f.tagFailRun + 1 }

include computed received

theorem judgeTags_verified (same : r = t) : judgeTags c g s = onFol c g (fun f => { f with
    verified := bump f.verified, tagFailRun := 0, tagGoodRun := f.tagGoodRun + 1, auth := f.auth && f.tagGoodRun + 1 < 3 })
    (tagsDropped c g v s) := by
  simp only [judgeTags, computed, List.foldl_cons, List.foldl_nil, received, if_pos same]
  rfl

theorem judgeTags_failed (differs : r ≠ t) : judgeTags c g s =
    if 3 ≤ (s.fol c g).tagFailRun + 1 ∧ (!(s.fol c g).auth) = true then
      raiseFol 139 c g 0 ((tagsDropped c g v s).cry c g).rxEpoch 0 (onFol c g FolioGroup.tagFailed (tagsDropped c g v s))
    else onFol c g FolioGroup.tagFailed (tagsDropped c g v s) := by
  simp only [judgeTags, computed, List.foldl_cons, List.foldl_nil, received, if_neg differs]
  rfl

end

end Sys2Proof.Machine
end

section
/-! The key exchange: its messages, its ends and its starts (07_folio_encryption.md R177 to R179, R182; 18_boot_security.md R437). -/

namespace Sys2Proof.Machine

variable {c : Fin 2} {g : Fin 16} {m : List Byte} {x : Kex} {s : State}

/-! ### The far end's epoch is seen -/

section

variable {cur nxt ep : Nat} {armed : Bool}

/-- A KEY field names an epoch as the one in force or as the next. -/
theorem namesEpoch_iff : (cur == ep || (armed && nxt == ep)) = true ↔ cur = ep ∨ armed = true ∧ nxt = ep := by simp

section

variable (running : (s.cry c g).kex = some x) (named : cur = x.epoch ∨ armed = true ∧ nxt = x.epoch)
include running named

theorem kexSeen_initiator (sent : x.phase = .awaitFar) : kexSeen c g cur nxt armed s =
    kexDone c g x.epoch (onCry c g (fun k => { k with armNext := some x.epoch }) s) := by
  simp only [kexSeen, running, namesEpoch_iff.2 named, Bool.not_true, Bool.false_eq_true, if_false, sent]

theorem kexSeen_responder (armedHere : x.phase = .awaitNear) : kexSeen c g cur nxt armed s = kexDone c g x.epoch s := by
  simp only [kexSeen, running, namesEpoch_iff.2 named, Bool.not_true, Bool.false_eq_true, if_false, armedHere]

end

theorem kexSeen_late (none_ : (s.cry c g).kex = none) (late : (s.cry c g).lateKex = some ep) (named : cur = ep ∨ armed = true ∧ nxt = ep) :
    kexSeen c g cur nxt armed s =
      kexDone c g ep (onCry c g (fun k => { k with armNext := some ep, lateKex := none, retryDue := false }) s) := by
  simp only [kexSeen, none_, late, if_pos (namesEpoch_iff.2 named)]

end

/-! ### Messages -/

theorem exec_kexMessageReceived : exec (.kexMessageReceived c g) s = .next (kexMessage c g s) := rfl

/-- The message held is given up. -/
def dropInbox (c : Fin 2) (g : Fin 16) (s : State) : State := onCry c g (fun k => { k with inbox := none }) s

theorem kexMessage_none (none_ : (s.cry c g).inbox = none) : kexMessage c g s = s := by
  simp only [kexMessage, none_]

section

variable {b : KexInbox} (held : (s.cry c g).inbox = some b)
include held

theorem kexMessage_part (part : b.whole = none) : kexMessage c g s = s := by
  simp only [kexMessage, held, part]

variable (whole : b.whole = some m)
include whole

/-- An M1 is taken where no exchange runs, or where this end still waits for M2 (R177). -/
theorem kexMessage_m1 (first : b.msg = 1) (free : ∀ x, (s.cry c g).kex = some x → x.phase = .awaitM2) :
    kexMessage c g s = if answersM1 s c g.val m = true then kexM1 c g m s else dropInbox c g s := by
  rcases running : (s.cry c g).kex with _ | x
  · simp only [kexMessage, held, whole, first, running, Bool.true_and]
    rfl
  · simp only [kexMessage, held, whole, first, running, free x running, beq_self_eq_true, Bool.true_and]
    rfl

variable (running : (s.cry c g).kex = some x)
include running

theorem kexMessage_m2 (second : b.msg = 2) :
    kexMessage c g s = if x.phase = .awaitM2 then kexM2 c g x m s else dropInbox c g s := by
  simp only [kexMessage, held, whole, second, running]
  rfl

theorem kexMessage_m3 (third : b.msg = 3) :
    kexMessage c g s = if x.phase = .awaitM3 then kexM3 c g x m s else dropInbox c g s := by
  simp only [kexMessage, held, whole, third, running]
  rfl

end

/-! ### M1 at the responder -/

theorem kexM1_stranger (unfit : peerOk s c g.val (bytesAt m 1220 1312) = false) : kexM1 c g m s = failKex c g 2 s :=
  if_pos (by rw [unfit]; rfl)

section

variable (fit : peerOk s c g.val (bytesAt m 1220 1312) = true)
include fit

theorem kexM1_badKey (none_ : kemEncaps (bytesAt m 36 1184) (beBytes 32 (s.freeVal 256).toNat) = none) :
    kexM1 c g m s = failKex c g 3 s := by
  simp only [kexM1, fit, none_, Bool.not_true, Bool.false_eq_true, if_false]

/-- M2 without its signature, with the capsule `ct` (R178). -/
def unsignedM2 (g : Fin 16) (m ct : List Byte) (s : State) : List Byte :=
  kexHead 2 (byteAt m 1) g ++ beBytes 32 (s.drawn.freeVal 256).toNat ++ padTo 1088 ct ++ padTo 1312 ownPub

/-- M2 (R178). -/
def signedM2 (g : Fin 16) (m ct : List Byte) (s : State) : List Byte :=
  unsignedM2 g m ct s ++ padTo 2420 (signDigest (sha3 (m ++ unsignedM2 g m ct s)) (s.drawn.drawn.freeVal 256))

theorem kexM1_answers {ct sec : List Byte}
    (sealed : kemEncaps (bytesAt m 36 1184) (beBytes 32 (s.freeVal 256).toNat) = some (ct, sec)) :
    kexM1 c g m s = sendFragments c g (byteAt m 1) 2 (signedM2 g m ct s) (onCry c g (fun k => { k with
      inbox := none
      kex := some { phase := .awaitM3, epoch := byteAt m 1, m1 := m, m2 := signedM2 g m ct s, dk := [], ss := BitVec.ofNat 256 (beNat sec) } })
      s.drawn.drawn.drawn) := by
  simp only [kexM1, fit, sealed, Bool.not_true, Bool.false_eq_true, if_false]
  rfl

end

/-! ### M2 at the initiator -/

theorem kexM2_stranger (unfit : peerOk s c g.val (bytesAt m 1124 1312) = false) : kexM2 c g x m s = failKex c g 2 s :=
  if_pos (by rw [unfit]; rfl)

section

variable (fit : peerOk s c g.val (bytesAt m 1124 1312) = true)
include fit

theorem kexM2_forged
    (bad : verifyDigest (bytesAt m 1124 1312) (sha3 (x.m1 ++ bytesAt m 0 2436)) (bytesAt m 2436 2420) = false) :
    kexM2 c g x m s = failKex c g 1 s := by
  simp only [kexM2, fit, bad, Bool.not_true, Bool.not_false, Bool.false_eq_true, if_false, if_true]

variable (signed : verifyDigest (bytesAt m 1124 1312) (sha3 (x.m1 ++ bytesAt m 0 2436)) (bytesAt m 2436 2420) = true)
include signed

theorem kexM2_noSecret (none_ : kemDecaps x.dk (bytesAt m 36 1088) = none) : kexM2 c g x m s = failKex c g 3 s := by
  simp only [kexM2, fit, signed, none_, Bool.not_true, Bool.false_eq_true, if_false]

/-- M3 (R178). -/
def signedM3 (g : Fin 16) (x : Kex) (m : List Byte) (s : State) : List Byte :=
  kexHead 3 x.epoch g ++ padTo 2420 (signDigest (sha3 (x.m1 ++ m ++ kexHead 3 x.epoch g)) (s.freeVal 256))

theorem kexM2_answers {sec : List Byte} (opened : kemDecaps x.dk (bytesAt m 36 1088) = some sec) :
    kexM2 c g x m s = sendFragments c g x.epoch 3 (signedM3 g x m s)
      (loadPair c g x.epoch (kexKeys x.m1 m (BitVec.ofNat 256 (beNat sec))).1 (kexKeys x.m1 m (BitVec.ofNat 256 (beNat sec))).2
        (onCry c g (fun k => { k with inbox := none, kex := some { x with phase := .awaitFar, m2 := m, ss := BitVec.ofNat 256 (beNat sec) } })
          s.drawn)) := by
  simp only [kexM2, fit, signed, opened, Bool.not_true, Bool.false_eq_true, if_false]
  rfl

end

/-! ### M3 at the responder -/

theorem kexM3_forged
    (bad : verifyDigest (bytesAt x.m1 1220 1312) (sha3 (x.m1 ++ x.m2 ++ bytesAt m 0 4)) (bytesAt m 4 2420) = false) :
    kexM3 c g x m s = failKex c g 1 s := if_pos (by rw [bad]; rfl)

/-- The responder loads the pair the other way round and arms. -/
theorem kexM3_arms
    (signed : verifyDigest (bytesAt x.m1 1220 1312) (sha3 (x.m1 ++ x.m2 ++ bytesAt m 0 4)) (bytesAt m 4 2420) = true) :
    kexM3 c g x m s = onCry c g (fun k => { k with inbox := none, armNext := some x.epoch, kex := some { x with phase := .awaitNear } })
      (loadPair c g x.epoch (kexKeys x.m1 x.m2 x.ss).2 (kexKeys x.m1 x.m2 x.ss).1 s) := if_neg (by rw [signed]; decide)

/-! ### The failure, the timeout and the starts -/

/-- CRYPT_KEX_FAIL carries the epoch of the exchange that ends, else the last one (R179). -/
theorem failKex_eq {cause : Nat} : failKex c g cause s =
    raiseFol 137 c g 0 (((s.cry c g).kex.map (·.epoch)).getD (s.cry c g).epoch) cause (onCry c g (fun k => { k with
      kex := none, inbox := none, failCause := cause, kexFails := bump k.kexFails, retryDue := true
      attempts := if 3 ≤ k.attempts + 1 then 0 else k.attempts + 1 }) s) := by
  unfold failKex
  rcases (s.cry c g).kex with _ | x <;> rfl

theorem exec_kexTimeout : exec (.kexTimeout c g) s = .next (kexTimeout c g s) := rfl

section

variable (running : (s.cry c g).kex = some x)
include running

theorem kexTimeout_fails (awaits : x.phase = .awaitM2 ∨ x.phase = .awaitM3) : kexTimeout c g s = failKex c g 4 s := by
  rcases awaits with phase | phase <;> simp only [kexTimeout, running, phase]

/-- An initiator that has sent M3 remembers the epoch (R182). -/
theorem kexTimeout_remembers (sent : x.phase = .awaitFar) :
    kexTimeout c g s = onCry c g (fun k => { k with lateKex := some x.epoch }) (failKex c g 4 s) := by
  simp only [kexTimeout, running, sent]

theorem kexTimeout_armed (armed : x.phase = .awaitNear) : kexTimeout c g s = s := by
  simp only [kexTimeout, running, armed]

end

theorem kexTimeout_none (none_ : (s.cry c g).kex = none) :
    kexTimeout c g s = if (s.cry c g).inbox.isSome = true then failKex c g 4 s else s := by
  simp only [kexTimeout, none_]

theorem exec_kexRetry : exec (.kexRetry c g) s = .next (kexRetry c g s) := rfl

theorem exec_rekeyIntervalEnd : exec (.rekeyIntervalEnd c g) s = .next (if (s.car c).enabled = true then tryKex c g s else s) := rfl

theorem kexRetry_due (due : (s.cry c g).retryDue = true) (on : (s.car c).enabled = true) :
    kexRetry c g s = tryKex c g (onCry c g (fun k => { k with retryDue := false }) s) := if_pos ⟨due, on⟩

theorem kexRetry_rests (h : (s.cry c g).retryDue = false ∨ (s.car c).enabled = false) : kexRetry c g s = s :=
  if_neg (by rcases h with h | h <;> simp [h])

theorem tryKex_starts (mode : encMode s c ≠ 0) (initiates : isInitiator s c g.val = true) (allowed : peerAllowed s c g.val = true)
    (idle : (s.cry c g).canStart = true) : tryKex c g s = startKex c g s := if_pos ⟨mode, initiates, allowed, idle⟩

theorem tryKex_rests (h : encMode s c = 0 ∨ isInitiator s c g.val = false ∨ peerAllowed s c g.val = false ∨ (s.cry c g).canStart = false) :
    tryKex c g s = s :=
  if_neg (by rcases h with h | h | h | h <;> simp [h])

/-! ### CRYPT.PEER.SET and CRYPT.REKEY -/

variable {q : Request}

theorem exec_cryptPeerSet : exec (.cryptPeerSet q) s = .next (deskRun 0x0711 cryptPeerSet q s) := rfl

theorem cryptPeerSet_running (h : (s.cry (reqCarrier q) (reqGroup q)).kex.isSome = true) :
    cryptPeerSet q s = (s, refuse stBadState) := if_pos h

theorem cryptPeerSet_stores (h : (s.cry (reqCarrier q) (reqGroup q)).kex = none) :
    cryptPeerSet q s = (keepBody 0x0711 q s, ok) := if_neg (by rw [h]; decide)

theorem exec_cryptRekey : exec (.cryptRekey q) s = .next (deskRun 0x0712 cryptRekey q s) := rfl

/-- No exchange can be asked of a group: no encryption, no initiator, a disabled carrier, or a peer hash that is required (R437). -/
abbrev rekeyBarred (s : State) (q : Request) : Prop :=
  encMode s (reqCarrier q) = 0 ∨ isInitiator s (reqCarrier q) (reqGroup q).val = false ∨ (s.car (reqCarrier q)).enabled = false ∨
    peerAllowed s (reqCarrier q) (reqGroup q).val = false

theorem cryptRekey_eq : cryptRekey q s =
    if rekeyBarred s q then (s, refuse stBadState)
    else if (s.cry (reqCarrier q) (reqGroup q)).canStart = false then (s, refuse stBusy)
    else (startKex (reqCarrier q) (reqGroup q) s, ok (leBytes 1 (((s.cry (reqCarrier q) (reqGroup q)).epoch + 1) % 256))) := by
  simp only [cryptRekey, rekeyBarred, Bool.not_eq_true']

end Sys2Proof.Machine
end

section
/-! The payload of a burst (06_interloan.md R139, R141, R142, R152, R154). -/

namespace Sys2Proof.Machine

variable {c : Fin 2} {t : Fin 4} {bs : List Byte} {po : Bool} {evm : Int} {s : State}

theorem exec_payloadCrcReady : exec (.payloadCrcReady c t bs po evm) s = .next (payloadReady c t bs po evm s) := rfl

/-- The payload and CRC bytes of the tone's burst after descrambling. -/
def burstBytes (s : State) (c : Fin 2) (t : Fin 4) (bs : List Byte) : List Byte :=
  (scramble (List.replicate 32 0 ++ padTo ((s.tone c t).len + 4) bs)).drop 32

/-- The burst's payload carries a good CRC-32C. -/
abbrev burstGood (s : State) (c : Fin 2) (t : Fin 4) (bs : List Byte) : Prop :=
  natAt (burstBytes s c t bs) (s.tone c t).len 4 = crc32c ((burstBytes s c t bs).take (s.tone c t).len)

/-- The burst's error and poison are noted. -/
def burstNoted (c : Fin 2) (t : Fin 4) (po : Bool) (evm : Int) (s : State) : State :=
  recordEvm c t (s.tone c t).src evm (onTone c t (fun x => { x with poisoned := x.poisoned || po }) s)

/-- The receiver is done with its burst (R152). -/
def burstDone (c : Fin 2) (t : Fin 4) (s : State) : State :=
  onTone c t (fun x => x.release (x.start + burstSymbols x.len + 8)) s

theorem payloadReady_other (st : (s.tone c t).st ≠ .payload) : payloadReady c t bs po evm s = s := if_pos st

section

variable (st : (s.tone c t).st = .payload)
include st

/-- A burst with a poisoned item is discarded, whatever its CRC shows. -/
theorem payloadReady_poisoned (poisoned : (s.tone c t).poisoned = true ∨ po = true) :
    payloadReady c t bs po evm s = burstDone c t (burstNoted c t po evm s) :=
  (if_neg (not_not_intro st)).trans (if_pos ((Bool.or_eq_true _ _).mpr poisoned))

variable (clean : (s.tone c t).poisoned = false) (last : po = false)
include clean last

theorem payloadReady_clean : payloadReady c t bs po evm s =
    if (!decide (burstGood s c t bs)) = true then
      burstDone c t (onTone c t (fun x => { x with payloadErrs := bump x.payloadErrs }) (burstNoted c t po evm s))
    else burstDone c t (deliver c t ((burstBytes s c t bs).take (s.tone c t).len) evm
      (raiseIf (decide (ilParI s c 0x60 * 256 < evm * 100)) 96 (objCarrier c) (evtArg 0 t.val (s.tone c t).src 0) (burstNoted c t po evm s))) :=
  (if_neg (not_not_intro st)).trans (if_neg (by simp [clean, last]))

theorem payloadReady_badCrc (bad : ¬burstGood s c t bs) : payloadReady c t bs po evm s =
    burstDone c t (onTone c t (fun x => { x with payloadErrs := bump x.payloadErrs }) (burstNoted c t po evm s)) := by
  rw [payloadReady_clean st clean last, decide_eq_false bad]
  rfl

theorem payloadReady_delivers (good : burstGood s c t bs) : payloadReady c t bs po evm s =
    burstDone c t (deliver c t ((burstBytes s c t bs).take (s.tone c t).len) evm
      (raiseIf (decide (ilParI s c 0x60 * 256 < evm * 100)) 96 (objCarrier c) (evtArg 0 t.val (s.tone c t).src 0) (burstNoted c t po evm s))) := by
  rw [payloadReady_clean st clean last, decide_eq_true good]
  rfl

end

end Sys2Proof.Machine
end

section
/-! The statement on folio frames and encryption assembled (07_folio_encryption.md R164 to R181; 14_command_reference.md R347). -/

namespace Sys2Proof.Machine

/-- Settles O58: each clause is the rule of one function, in the order of the statement. That an end without a peer hash acts as the
initiator until an M1 with a greater key shows, that an encapsulation key which fails the check of FIPS 203 fails the exchange with
cause 3 (log 32), and that the signatures are the pure form of ML-DSA-44 with an empty context over the 32-byte digest, with a free
random value (log 82), are the model's choices. -/
theorem folioFrameAndEncryption : Obligations.FolioFrameAndEncryption := by
  refine ⟨fun c g h s => ⟨fun good => ?_, fun bad => ?_⟩, fun c g s => ⟨badHeader_loses, badHeader_counts⟩, fun c g h s => ?_,
    fun c g b w h s => ⟨leafNumbers_notLeaf, fun leaf bad => ?_, fun leaf good on differs follows third => ?_,
      fun leaf good on differs fresh => ?_, fun leaf good on same => ?_⟩,
    fun c g kf s => ⟨fun bad => ?_, fun good => ?_⟩, fun v b k => ?_,
    fun c g v s => ⟨rxKeyVolume_unarmed, fun va ep armed => ⟨fun reached => ?_, fun later => ?_⟩⟩,
    fun c g v t r s computed received => ⟨judgeTags_verified computed received, fun differs third clear => ?_, fun differs early => ?_⟩,
    fun c g cur nxt a x s running named => ⟨kexSeen_initiator running named, kexSeen_responder running named⟩,
    fun c g cur nxt ep a s => kexSeen_late,
    fun c g s => ?_,
    fun c g x m s => ⟨kexM1_stranger, kexM1_badKey, fun ct sec fit => kexM1_answers fit, kexM2_stranger, kexM2_forged, kexM2_noSecret,
      fun sec fit signed => kexM2_answers fit signed, kexM3_forged, kexM3_arms⟩,
    fun c g cause s => failKex_eq, fun c g s => ?_, fun c g s => rfl, fun q s => ⟨fun run => ?_, fun run => ?_⟩,
    fun c t bs po evm s => ?_⟩
  · rw [exec_folioHeaderReceived, headerReceived_crcRight good]
  · rw [exec_folioHeaderReceived, headerReceived_crcWrong bad]
  · obtain ⟨good, jump, slice, sliceGood, taken⟩ := goodHeader_eq (c := c) (g := g) (h := h) (s := s)
    refine ⟨goodGroup s c g h good jump slice sliceGood, taken, rfl, rfl, rfl, rfl, goodGroup_ends, goodGroup_keeps, fun header => ?_,
      fun loss jump known => ?_, goodGroup_enters, goodGroup_leaves⟩
    · have number := numberTaken_header header
      exact ⟨congrArg (· / 256) number, congrArg (· % 256) number⟩
    · have number := numberTaken_count loss jump known
      exact ⟨congrArg (· / 256) number, congrArg (· % 256) number⟩
  · rw [bad, leafNumbers_bad leaf]
  · rw [good, follows, leafNumbers_adopts leaf on differs third]
  · rw [good, fresh, leafNumbers_restarts leaf on differs]
  · rw [good, leafNumbers_agrees leaf on same]
  · rw [exec_keyFieldReceived, keyField_crcWrong bad]
  · refine ⟨FolioGroup.keyJudged (bit (byteAt (ohField 128 (padTo 26 kf)) 0) 7)
      (keyMissing c g (s.fol c g).rxVolume (ohField 128 (padTo 26 kf)) s), ?_, fun enc f => ?_, fun clear => ?_⟩
    · rw [exec_keyFieldReceived, keyField_crcRight good]
      rfl
    · rw [enc, keyJudged_enc]
      rfl
    · rw [clear, keyJudged_clear]
  · refine ⟨heard_rxSync, ?_, heard_curEnc, heard_slots, fun out => ?_, fun follows => ?_, fun armed => ?_, fun unarmed => ?_, ?_, heard_rxVols,
      heard_noTag, heard_tag⟩
    · exact heard_view (e := Crypt.curGood) fun _ _ => rfl
    · have taken := heard_takesSchedule (v := v) (b := b) out
      simpa only [Crypt.schedule, Prod.mk.injEq] using taken
    · have kept := heard_keepsSchedule (v := v) (b := b) follows
      simpa only [Crypt.schedule, Prod.mk.injEq] using kept
    · rw [heard_rxArmed, if_pos armed]
    · rw [heard_rxArmed, if_neg (Bool.eq_false_iff.1 unarmed)]
    · exact heard_view (e := Crypt.lastEnc) fun _ _ => rfl
  · exact (rxKeyVolume_armed armed).trans (if_pos reached)
  · exact (rxKeyVolume_armed armed).trans (if_neg (Nat.not_lt.2 later))
  · exact (judgeTags_failed computed received differs).trans (if_pos ⟨Nat.le_of_eq (congrArg (· + 1) third.symm), by rw [clear]; rfl⟩)
  · exact (judgeTags_failed computed received differs).trans (if_neg fun raises => Nat.not_lt.2 raises.1 (Nat.succ_lt_succ early))
  · rw [exec_kexMessageReceived]
    refine ⟨fun none_ => congrArg _ (kexMessage_none none_), fun b held => ⟨fun part => congrArg _ (kexMessage_part held part),
      fun m whole => ⟨fun first free => ⟨fun answers => ?_, fun declines => ?_⟩, fun x running =>
        ⟨fun second => ⟨fun awaited => ?_, fun other => ?_⟩, fun third => ⟨fun awaited => ?_, fun other => ?_⟩⟩⟩⟩⟩
    · exact congrArg _ ((kexMessage_m1 held whole first free).trans (if_pos answers))
    · exact congrArg _ ((kexMessage_m1 held whole first free).trans (if_neg (Bool.eq_false_iff.1 declines)))
    · exact congrArg _ ((kexMessage_m2 held whole running second).trans (if_pos awaited))
    · exact congrArg _ ((kexMessage_m2 held whole running second).trans (if_neg other))
    · exact congrArg _ ((kexMessage_m3 held whole running third).trans (if_pos awaited))
    · exact congrArg _ ((kexMessage_m3 held whole running third).trans (if_neg other))
  · rw [exec_kexTimeout, exec_kexRetry, exec_rekeyIntervalEnd]
    refine ⟨fun x running awaits => congrArg _ (kexTimeout_fails running awaits),
      fun x running sent => congrArg _ (kexTimeout_remembers running sent), fun x running armed => congrArg _ (kexTimeout_armed running armed),
      fun none_ empty => ?_, fun b none_ held => ?_,
      fun due on => congrArg _ (kexRetry_due due on), fun rests => congrArg _ (kexRetry_rests rests),
      fun on mode initiates allowed idle => ?_, fun barred => ?_⟩
    · rw [kexTimeout_none none_, empty]
      rfl
    · rw [kexTimeout_none none_, held]
      rfl
    · rw [if_pos on, tryKex_starts mode initiates allowed idle]
    · rcases barred with off | rests
      · rw [if_neg (Bool.eq_false_iff.1 off)]
      · rw [tryKex_rests rests, ite_self]
  · rw [exec_cryptPeerSet]
    exact ⟨fun running => congrArg _ (deskRun_done run (cryptPeerSet_running running)),
      fun none_ => congrArg _ (deskRun_done run (cryptPeerSet_stores none_))⟩
  · rw [exec_cryptRekey]
    refine ⟨fun barred => ?_, fun free busy => ?_, fun free idle => ?_⟩
    · exact congrArg _ (deskRun_done run (cryptRekey_eq.trans (if_pos barred)))
    · exact congrArg _ (deskRun_done run (cryptRekey_eq.trans ((if_neg free).trans (if_pos busy))))
    · exact congrArg _ (deskRun_done run (cryptRekey_eq.trans ((if_neg free).trans (if_neg (by rw [idle]; decide)))))
  · rw [exec_payloadCrcReady]
    exact ⟨fun st => congrArg _ (payloadReady_other st), fun st => ⟨fun poisoned => congrArg _ (payloadReady_poisoned st poisoned),
      fun clean last bad => congrArg _ (payloadReady_badCrc st clean last bad),
      fun clean last good => congrArg _ (payloadReady_delivers st clean last good)⟩⟩

end Sys2Proof.Machine
end

section
/-! Seconds that close and the bins of performance monitoring (08_client_framers.md R201; 15_events_census.md R381 to R383). -/

namespace Sys2Proof.Machine

variable {i : FramerId} {b : Nat} {rs : RsSeen} {s : State} {key : Nat × Nat × Nat} {ne fe : Nat} {ned fed : Bool}

theorem exec_pmSecondClose : exec (.pmSecondClose i b rs) s = .next (pmSecondClose i b rs s) := rfl

theorem exec_pmSecondDecide : exec (.pmSecondDecide i) s = .next (pmSecondDecide i s) := rfl

theorem exec_pmBinBoundary {day : Bool} : exec (.pmBinBoundary day) s = .next (pmBinBoundary day s) := rfl

/-- A closed second enters the pipe of its entity alone, with the seconds that a time step passed over (R201, R257). -/
theorem pmSecond_eq : pmSecond key ne fe b ned fed s = { s with cen := { s.cen with pm := s.cen.pm.map fun x =>
    if (x.ob, x.layer, x.tpn) = key then
      { x with pipe := x.pipe ++ [.second ne fe b ned fed] ++ (if x.owed = 0 then [] else [.clean x.owed]), owed := 0 }
    else x } } := by
  simp only [pmSecond, onCen, beq_iff_eq]

/-- The framer as its second closes: an Ethernet one with what its RS decoder found (R188, R204). -/
def Framer.closing (rs : RsSeen) (f : Framer) : Framer := if isEth f then f.rsCount rs else f

theorem closing_eth {f : Framer} (eth : isEth f = true) : f.closing rs = f.rsCount rs := if_pos eth

theorem pmSecondClose_none (none_ : s.framer i = none) : pmSecondClose i b rs s = s := by
  simp only [pmSecondClose, none_]

theorem pmSecondClose_bond {n : Fin 48} : pmSecondClose (.bond n) b rs s =
    onBond n (fun _ => (s.bonds[n].closing rs).nextSecond) (pmResults (.bond n) (s.bonds[n].closing rs) b s) := rfl

theorem pmSecondClose_odum {c : Fin 2} {g : Fin 16} : pmSecondClose (.odum c g) b rs s = protSecond c g
    (onOdum c g (fun _ => (s.odum[c][g].closing rs).nextSecond) (pmResults (.odum c g) (s.odum[c][g].closing rs) b s)) := rfl

theorem pmSecondClose_trib {k n g t : Nat} {f : Framer} (here : s.framer (.trib k n g t) = some f) : pmSecondClose (.trib k n g t) b rs s =
    onFramer (.trib k n g t) (fun _ => (f.closing rs).nextSecond) (pmResults (.trib k n g t) (f.closing rs) b s) := by
  simp only [pmSecondClose, here]
  rfl

theorem pmResults_eth {n : Fin 48} {f : Framer} (eth : isEth f = true) : pmResults (.bond n) f b s =
    pmSecond (objBond n.val, 0xFF, 0) (f.rsUncorr - f.rsMark) 0 b f.neDefect f.feDefect s := if_pos eth

/-- The only tributary is the framer that its own identity names. -/
theorem framer_soleTrib {k n g t : Nat} {x : Trib} (sole : s.map.tribs = [x]) (named : x.isId k n g t = true) :
    s.framer (.trib k n g t) = some x.oh := by
  simp [State.framer, sole, named]

theorem pmBinBoundary_inside {day : Bool}
    (h : ¬((s.stamp.sec : Int) - (if s.time.utcValid then s.time.utcOffset else 0)) % (if day then 86400 else 900) = 0) :
    pmBinBoundary day s = s := if_neg h

theorem pmBinBoundary_at {day : Bool}
    (h : ((s.stamp.sec : Int) - (if s.time.utcValid then s.time.utcOffset else 0)) % (if day then 86400 else 900) = 0) :
    pmBinBoundary day s = { s with cen := { s.cen with
      pm := s.cen.pm.map fun x => { x with pipe := x.pipe ++ [PmStep.shift day] }, bounds := ((day, s.stamp.sec) :: s.cen.bounds).take 8 } } :=
  (if_pos h).trans rfl

end Sys2Proof.Machine
end

section
/-! How a second is judged and decided (15_events_census.md R381, R382). -/

namespace Sys2Proof.Machine

variable {x : PmEntity} {off p n ne fe b : Nat} {un es ss ned fed : Bool} {rest : List PmStep}

/-- An SES has a defect, or 15 per cent of its blocks errored; at the far end only without a near-end defect (R381). -/
theorem ses_second (blocks : 0 < b) : (PmStep.second ne fe b ned fed).ses =
    [(decide (ned = true ∨ 15 * b ≤ 100 * ne), decide (ned = false ∧ (fed = true ∨ 15 * b ≤ 100 * fe)))] := by
  cases ned <;> cases fed <;> simp [PmStep.ses, blocks]

theorem unavailNext_iff {now : Bool} {ten : List Bool} (whole : ten.length = 10) :
    unavailNext now ten = true ↔ if now then true ∈ ten else ∀ x ∈ ten, x = true := by
  cases now <;> simp [unavailNext, whole]

theorem pmDecide_early (few : (x.pipe.flatMap PmStep.ses).length < 10) : x.decide = x := if_neg (Nat.not_le.2 few)

theorem pmDecide_second (front : x.pipe = .second ne fe b ned fed :: rest) (known : 10 ≤ (x.pipe.flatMap PmStep.ses).length) :
    x.decide = x.decideSecond ne fe b ned fed rest := by
  rw [PmEntity.decide, if_pos known, front]
  rfl

/-- What no count of a single bin changes, a counted second does not change. -/
theorem count_kept {α : Type} {e : PmEntity → α} (kept : ∀ p n y, e (PmEntity.add p n y) = e y) : e (x.count off un es ss n) = e x := by
  simp only [PmEntity.count, apply_ite e, kept, ite_self]

/-! What is counted lies in the cells alone, whose number stays. -/

section

variable {α : Type} {e : PmEntity → α} (view : ∀ (y : PmEntity) l, e { y with cells := l } = e y)
include view

theorem add_view : e (x.add p n) = e x := view _ _

theorem count_view : e (x.count off un es ss n) = e x := count_kept fun _ _ _ => add_view view

/-- A decided second leaves the pipe, and both ends' unavailability follows the ten seconds from it on. -/
theorem decideSecond_view : e (x.decideSecond ne fe b ned fed rest) =
    let ten := ((PmStep.second ne fe b ned fed :: rest).flatMap PmStep.ses).take 10
    e { x with pipe := rest, neUnavail := unavailNext x.neUnavail (ten.map (·.1)), feUnavail := unavailNext x.feUnavail (ten.map (·.2)) } :=
  (count_view view).trans ((count_view view).trans (view _ _))

end

theorem add_cells_length : (x.add p n).cells.length = x.cells.length := by simp [PmEntity.add]

theorem count_cells_length : (x.count off un es ss n).cells.length = x.cells.length :=
  count_kept (e := fun y => y.cells.length) fun _ _ _ => add_cells_length

theorem foldl_modify_length {f : Nat → Nat} {is l : List Nat} : (is.foldl (fun l i => l.modify i f) l).length = l.length := by
  induction is generalizing l with
  | nil => rfl
  | cons i is ih => exact ih.trans (by simp)

theorem decideSecond_cells_length : (x.decideSecond ne fe b ned fed rest).cells.length = x.cells.length := by
  simp only [PmEntity.decideSecond, count_cells_length, PmEntity.onCurrent, foldl_modify_length]

/-- A bin that is not marked counts up to its greatest value. -/
theorem binAdd_unmarked {v : Nat} (h : v < 2 ^ 62) : binAdd n v = min (v + n) (2 ^ 62 - 1) := by
  rw [binAdd, binInvalid, Nat.mod_eq_of_lt h, Nat.sub_self, Nat.zero_add]

/-- A count goes to the two running bins of its parameter. -/
theorem add_cell {k : Nat} : (x.add p n).cells[k]? =
    if k = 103 * p ∨ k = 103 * p + 97 then x.cells[k]?.map (binAdd n) else x.cells[k]? := by
  by_cases h : k = 103 * p <;> by_cases h' : k = 103 * p + 97 <;> simp [PmEntity.add, h, h', eq_comm]

theorem add_cell_running {k v : Nat} (running : k = 103 * p ∨ k = 103 * p + 97) (here : x.cells[k]? = some v) (small : v < 2 ^ 62) :
    (x.add p n).cells[k]? = some (min (v + n) (2 ^ 62 - 1)) := by
  rw [add_cell, if_pos running, here, Option.map_some, binAdd_unmarked small]

end Sys2Proof.Machine
end

section
/-! The bins shift at a boundary (15_events_census.md R383). -/

namespace Sys2Proof.Machine

variable {x : PmEntity} {m p k n : Nat} {day : Bool}

theorem flatMap_range_length {α : Type} {f : Nat → List α} (len : ∀ p < m, (f p).length = n) : ((List.range m).flatMap f).length = n * m := by
  induction m with
  | zero => rfl
  | succ m ih => simp [List.range_succ, ih fun p h => len p (by omega), len m (by omega), Nat.mul_succ]

/-- Blocks of one length, side by side: an index is a block and a place in it. -/
theorem getElem?_flatMap_range {α : Type} {f : Nat → List α} (len : ∀ p < m, (f p).length = n) (hp : p < m) (hk : k < n) :
    ((List.range m).flatMap f)[n * p + k]? = (f p)[k]? := by
  induction m with
  | zero => omega
  | succ m ih =>
    have before : ((List.range m).flatMap f).length = n * m := flatMap_range_length fun p h => len p (by omega)
    rw [List.range_succ, List.flatMap_append, List.flatMap_singleton]
    by_cases last : p = m
    · rw [last, List.getElem?_append_right (by omega), before, Nat.add_sub_cancel_left]
    · have inside : n * p + n ≤ n * m := by
        rw [← Nat.mul_succ]
        exact Nat.mul_le_mul_left n (by omega)
      rw [List.getElem?_append_left (by omega), ih (fun p h => len p (by omega)) (by omega)]

/-- The bins of one parameter. -/
def PmEntity.bins (p : Nat) (x : PmEntity) : List Nat := (x.cells.drop (103 * p)).take 103

/-- The bins of one parameter after a boundary. -/
def shiftedBins (day : Bool) (l : List Nat) : List Nat :=
  if day then l.take 97 ++ [binInvalid] ++ (l.drop 97).take 5 else [binInvalid] ++ l.take 96 ++ l.drop 97

theorem shift_cells : (x.shift day).cells = (List.range 8).flatMap fun p => shiftedBins day (x.bins p) := rfl

theorem shiftedBins_length {l : List Nat} (len : l.length = 103) : (shiftedBins day l).length = 103 := by
  cases day <;> simp [shiftedBins, len]

theorem shiftedBins_quarter_new {l : List Nat} : (shiftedBins false l)[0]? = some (2 ^ 62) := rfl

theorem shiftedBins_quarter_past {l : List Nat} (len : l.length = 103) (hk : k < 96) : (shiftedBins false l)[1 + k]? = l[k]? := by
  simp [shiftedBins, Nat.add_comm 1 k, List.getElem?_append_left, len, hk]

theorem shiftedBins_day_new {l : List Nat} (len : l.length = 103) : (shiftedBins true l)[97]? = some (2 ^ 62) := by
  simp [shiftedBins, len, binInvalid]

theorem shiftedBins_day_past {l : List Nat} (len : l.length = 103) (hk : k < 5) : (shiftedBins true l)[98 + k]? = l[97 + k]? := by
  have front : (l.take 97 ++ [binInvalid]).length = 98 := by simp [len]
  rw [shiftedBins, if_pos rfl, List.getElem?_append_right (by omega), front, Nat.add_sub_cancel_left, List.getElem?_take_of_lt hk,
    List.getElem?_drop]

section

variable (hp : p < 8) (len : x.cells.length = 824)
include hp len

theorem bins_length : (x.bins p).length = 103 := by
  simp only [PmEntity.bins, List.length_take, List.length_drop, len]
  omega

omit hp len in
theorem bins_cell (hk : k < 103) : (x.bins p)[k]? = x.cells[103 * p + k]? := by
  simp [PmEntity.bins, hk]

theorem shift_cell (hk : k < 103) : (x.shift day).cells[103 * p + k]? = (shiftedBins day (x.bins p))[k]? :=
  getElem?_flatMap_range (fun _ h => shiftedBins_length (bins_length h len)) hp hk

end

end Sys2Proof.Machine
end

section
/-! The statement on performance monitoring assembled (08_client_framers.md R201, R221; 15_events_census.md R381 to R383). -/

namespace Sys2Proof.Machine

/-- Settles O49: a closed second is one step in the pipe of its entity, a decided one is counted in the running cells alone, and a
boundary shifts each parameter's block of 103 cells. -/
theorem performanceMonitoring : Obligations.PerformanceMonitoring := by
  refine ⟨fun i b rs s none_ => ?_, fun n b rs s eth => ?_, fun c g b rs s => ?_, fun k n g t b rs s x sole named => ?_,
    fun n s => rfl, fun day s => ⟨fun inside => ?_, fun at_ => ?_⟩, fun ne fe b ned fed => ses_second, fun now ten => unavailNext_iff,
    fun x => pmDecide_early, fun x ne fe b ned fed rest front known => ?_, fun off es ses errs x => ⟨rfl, rfl, rfl, rfl⟩,
    fun p n v w x hp len hv hw small small' => ?_, fun p x hp len => ?_⟩
  · rw [exec_pmSecondClose, pmSecondClose_none none_]
  · intro f
    rw [exec_pmSecondClose, pmSecondClose_bond, closing_eth eth, pmResults_eth (f := s.bonds[n].rsCount rs) eth, pmSecond_eq]
    rfl
  · rw [exec_pmSecondClose, pmSecondClose_odum]
    rfl
  · refine ⟨_, exec_pmSecondClose.trans (congrArg _ (pmSecondClose_trib (framer_soleTrib sole named))), ?_, ?_, rfl⟩
    · simp only [pmResults, pmSecond_eq, onFramer, onMap, sole, List.map_cons, List.map_nil, named, if_true]
      rfl
    · simp only [pmResults, pmSecond_eq]
      rfl
  · rw [exec_pmBinBoundary, pmBinBoundary_inside inside]
  · rw [exec_pmBinBoundary, pmBinBoundary_at at_]
  · simp only [pmDecide_second front known]
    rw [front]
    exact ⟨decideSecond_view (e := PmEntity.pipe) fun _ _ => rfl, decideSecond_view (e := PmEntity.neUnavail) fun _ _ => rfl,
      decideSecond_view (e := PmEntity.feUnavail) fun _ _ => rfl, decideSecond_view (e := PmEntity.ob) fun _ _ => rfl,
      decideSecond_view (e := PmEntity.layer) fun _ _ => rfl, decideSecond_view (e := PmEntity.tpn) fun _ _ => rfl,
      decideSecond_view (e := PmEntity.owed) fun _ _ => rfl, decideSecond_cells_length⟩
  · refine ⟨add_cell_running (.inl rfl) hv small, add_cell_running (.inr rfl) hw small', fun k quarter day => ?_⟩
    rw [add_cell, if_neg (by simp [quarter, day])]
  · refine ⟨?_, fun k hk => ?_, ?_, fun k hk => ?_⟩
    · exact (shift_cell (k := 0) hp len (by decide)).trans shiftedBins_quarter_new
    · rw [Nat.add_assoc, shift_cell hp len (by omega), shiftedBins_quarter_past (bins_length hp len) hk, bins_cell (by omega)]
    · rw [shift_cell hp len (by decide), shiftedBins_day_new (bins_length hp len)]
    · rw [Nat.add_assoc, shift_cell hp len (by omega), shiftedBins_day_past (bins_length hp len) hk, bins_cell (by omega), Nat.add_assoc]

end Sys2Proof.Machine
end

section
/-! The search for alignment (08_client_framers.md R189 to R192). -/

namespace Sys2Proof.Machine

variable {b : Fin 48} {k n m : Nat} {r : AlignCheck} {rs : List AlignCheck} {s : State} {u : AlignUnit} {f : Framer}

theorem exec_alignmentMatch : exec (.alignmentMatch b k r) s =
    .next (onUnit b k (fun u => u.open_ (framerPar s (.bond b) 0x40) (framerPar s (.bond b) 0x50) r) s) := rfl

/-- What a unit makes of the positions predicted for this instant (R189 to R192). -/
def AlignUnit.atPrediction (f : Framer) (rs : List AlignCheck) (u : AlignUnit) : AlignUnit :=
  match u.st with
  | .off => u
  | .search => u.predict f rs
  | .inFrame => ((rs.find? fun r => r.pos == u.pos).map (u.check f)).getD u

theorem atPrediction_off (st : u.st = .off) : u.atPrediction f rs = u := by simp only [AlignUnit.atPrediction, st]

theorem atPrediction_search (st : u.st = .search) : u.atPrediction f rs = u.predict f rs := by simp only [AlignUnit.atPrediction, st]

theorem atPrediction_elsewhere (st : u.st = .inFrame) (other : ∀ x ∈ rs, x.pos ≠ u.pos) : u.atPrediction f rs = u := by
  have none_ : (rs.find? fun r => r.pos == u.pos) = none := by simpa using other
  simp only [AlignUnit.atPrediction, st, none_, Option.map_none, Option.getD_none]

theorem atPrediction_checks {l l' : List AlignCheck} (st : u.st = .inFrame) (before : ∀ y ∈ l, y.pos ≠ u.pos) (here : r.pos = u.pos) :
    u.atPrediction f (l ++ r :: l') = u.check f r := by
  have first : ((l ++ r :: l').find? fun r => r.pos == u.pos) = some r := by
    have none_ : (l.find? fun r => r.pos == u.pos) = none := by simpa using before
    simp [List.find?_append, none_, here]
  simp only [AlignUnit.atPrediction, st, first, Option.map_some, Option.getD_some]

theorem exec_alignmentPrediction : exec (.alignmentPrediction b k rs) s = .next (onUnit b k (AlignUnit.atPrediction s.bonds[b] rs) s) := by
  have same : AlignUnit.atPrediction s.bonds[b] rs = fun u : AlignUnit => match u.st with
      | .off => u
      | .search => u.predict s.bonds[b] rs
      | .inFrame => match rs.find? fun r => r.pos == u.pos with
        | some r => u.check s.bonds[b] r
        | none => u := by
    funext u
    rw [AlignUnit.atPrediction]
    cases u.st with
    | off => rfl
    | search => rfl
    | inFrame => cases rs.find? fun r => r.pos == u.pos <;> rfl
  rw [same]
  rfl

/-! ### A candidate is opened -/

theorem open_rests (h : u.st ≠ .search ∨ ∃ x ∈ u.cands, x.pos = r.pos) : u.open_ n m r = u := if_pos (by simpa using h)

/-- The candidate that an exact match opens. -/
def openedCand (n m : Nat) (r : AlignCheck) : AlignCand := { pos := r.pos, ident := r.ident, confirms := 1, n := n, m := m }

section

variable (st : u.st = .search) (new : ∀ x ∈ u.cands, x.pos ≠ r.pos)
include st new

theorem open_goes : ¬(u.st ≠ .search ∨ u.cands.any (fun c => c.pos == r.pos) = true) := by simpa [st] using new

theorem open_aligns (one : n = 1) (alone : ∀ x ∈ u.cands, x.confirms < x.n) : u.open_ n m r = u.align (openedCand n m r) r :=
  (if_neg (open_goes st new)).trans (if_pos ⟨one.le, by simpa using alone⟩)

theorem open_holds (many : 2 ≤ n) : u.open_ n m r =
    if u.cands.length < 16 then { u with cands := u.cands ++ [openedCand n m r] }
    else { u with
      cands := u.cands.eraseIdx ((u.cands.findIdx? fun c => c.confirms == u.cands.foldl (fun a c => min a c.confirms) 255).getD 0) ++ [openedCand n m r]
      evictions := bump u.evictions } :=
  (if_neg (open_goes st new)).trans (if_neg fun h => absurd h.1 (by omega))

theorem open_appends (many : 2 ≤ n) (room : u.cands.length < 16) : u.open_ n m r = { u with cands := u.cands ++ [openedCand n m r] } :=
  (open_holds st new many).trans (if_pos room)

end

/-- The least of a start and the elements' values: below all of them, and one of them. -/
theorem foldl_min_spec {α β : Type} [LinearOrder β] {g : α → β} {l : List α} {a : β} :
    (l.foldl (fun a x => min a (g x)) a ≤ a ∧ ∀ y ∈ l, l.foldl (fun a x => min a (g x)) a ≤ g y) ∧
    (l.foldl (fun a x => min a (g x)) a = a ∨ ∃ y ∈ l, l.foldl (fun a x => min a (g x)) a = g y) := by
  induction l generalizing a with
  | nil => simp
  | cons x l ih =>
    obtain ⟨⟨start, below⟩, attained⟩ := ih (a := min a (g x))
    refine ⟨⟨start.trans (min_le_left _ _), ?_⟩, ?_⟩
    · simp only [List.forall_mem_cons, List.foldl_cons]
      exact ⟨start.trans (min_le_right _ _), below⟩
    · simp only [List.mem_cons, exists_eq_or_imp, List.foldl_cons]
      rcases attained with h | h
      · exact (min_choice a (g x)).imp h.trans fun e => .inl (h.trans e)
      · exact .inr (.inr h)

/-- The greatest of a start and the elements' values: above all of them, and one of them. -/
theorem foldl_max_spec {α : Type} {g : α → Nat} {l : List α} {a : Nat} :
    (a ≤ l.foldl (fun a x => max a (g x)) a ∧ ∀ y ∈ l, g y ≤ l.foldl (fun a x => max a (g x)) a) ∧
    (l.foldl (fun a x => max a (g x)) a = a ∨ ∃ y ∈ l, l.foldl (fun a x => max a (g x)) a = g y) :=
  foldl_min_spec (β := Natᵒᵈ) (g := g)

/-- Among candidates there is a first of the fewest confirmations. -/
theorem first_fewest {l : List AlignCand} (some_ : l ≠ []) (small : ∀ x ∈ l, x.confirms ≤ 255) :
    ∃ a x c, l = a ++ x :: c ∧ (∀ y ∈ a, x.confirms < y.confirms) ∧ (∀ y ∈ c, x.confirms ≤ y.confirms) ∧
      x.confirms = l.foldl (fun a c => min a c.confirms) 255 := by
  obtain ⟨⟨-, below⟩, attained⟩ := foldl_min_spec (g := AlignCand.confirms) (l := l) (a := 255)
  generalize l.foldl (fun a c => min a c.confirms) 255 = least at *
  have held : ∃ y ∈ l, y.confirms = least := by
    rcases attained with h | ⟨y, hy, h⟩
    · obtain ⟨y, hy⟩ := List.exists_mem_of_ne_nil l some_
      exact ⟨y, hy, le_antisymm (h ▸ small y hy) (below y hy)⟩
    · exact ⟨y, hy, h.symm⟩
  obtain ⟨x, found⟩ : ∃ x, (l.find? fun c => c.confirms == least) = some x := by
    rw [← Option.isSome_iff_exists, List.find?_isSome]
    simpa using held
  obtain ⟨hx, a, c, rfl, before⟩ := List.find?_eq_some_iff_append.1 found
  rw [beq_iff_eq] at hx
  subst hx
  refine ⟨a, x, c, rfl, fun y hy => ?_, fun y hy => below y (by simp [hy]), rfl⟩
  exact lt_of_le_of_ne (below y (by simp [hy])) fun e => by simpa [e] using before y hy

theorem eraseIdx_first {l a c : List AlignCand} {x : AlignCand} {least : Nat} (parts : l = a ++ x :: c) (before : ∀ y ∈ a, x.confirms < y.confirms)
    (here : x.confirms = least) : l.eraseIdx ((l.findIdx? fun c => c.confirms == least).getD 0) = a ++ c := by
  have none_ : (a.findIdx? fun c => c.confirms == least) = none := by
    simp only [List.findIdx?_eq_none_iff, beq_eq_false_iff_ne]
    exact fun y hy => here ▸ (before y hy).ne'
  subst parts
  simp [List.findIdx?_append, none_, here, List.findIdx?_cons, List.eraseIdx_append_of_length_le]

theorem open_evicts (st : u.st = .search) (new : ∀ x ∈ u.cands, x.pos ≠ r.pos) (many : 2 ≤ n) (full : 16 ≤ u.cands.length)
    (small : ∀ x ∈ u.cands, x.confirms ≤ 255) : ∃ l x l', u.cands = l ++ x :: l' ∧ (∀ y ∈ l, x.confirms < y.confirms) ∧
      (∀ y ∈ l', x.confirms ≤ y.confirms) ∧ u.open_ n m r = { u with cands := l ++ l' ++ [openedCand n m r], evictions := bump u.evictions } := by
  have some_ : u.cands ≠ [] := fun e => by simp [e] at full
  obtain ⟨l, x, l', parts, before, after_, fewest⟩ := first_fewest some_ small
  refine ⟨l, x, l', parts, before, after_, ?_⟩
  rw [open_holds st new many, if_neg (Nat.not_lt.2 full), eraseIdx_first parts before fewest]

/-! ### The candidates are tested -/

/-- A candidate after its test, if it is kept (R189); one without a test at this instant waits. -/
def AlignCand.tested (f : Framer) (rs : List AlignCheck) (c : AlignCand) : Option AlignCand :=
  match rs.find? fun r => r.pos == c.pos with
  | none => some c
  | some r => if r.matched && r.ident == predictId f c.ident then some { c with confirms := c.confirms + 1, ident := r.ident } else none

/-- The candidates kept, and those of them that have reached N. -/
def AlignUnit.kept (f : Framer) (rs : List AlignCheck) (u : AlignUnit) : List AlignCand := u.cands.filterMap (AlignCand.tested f rs)
def AlignUnit.reached (f : Framer) (rs : List AlignCheck) (u : AlignUnit) : List AlignCand :=
  (u.kept f rs).filter fun c => decide (c.n ≤ c.confirms)

/-- A new search after candidates that could not be told apart (R190). -/
def AlignUnit.ambiguous (u : AlignUnit) : AlignUnit := { u.restart with ambiguities := bump u.ambiguities }

/-- The outcome of the test by the candidates that have reached N. -/
theorem predict_eq : u.predict f rs = match u.reached f rs with
    | [] => if u.amb = 0 then { u with cands := u.kept f rs } else u.ambiguous
    | [c] => { u with cands := u.kept f rs }.align c
        ((rs.find? fun r : AlignCheck => r.pos == c.pos).getD { pos := c.pos, matched := true, ident := c.ident, lane := 0, skew := 0 })
    | _ => if 9 ≤ u.amb + 1 then u.ambiguous else { u with cands := u.kept f rs, amb := u.amb + 1 } := rfl

theorem predict_none (none_ : u.reached f rs = []) : u.predict f rs = if u.amb = 0 then { u with cands := u.kept f rs } else u.ambiguous := by
  rw [predict_eq, none_]

theorem predict_one {c : AlignCand} (one : u.reached f rs = [c]) : ∃ r, u.predict f rs = { u with cands := u.kept f rs }.align c r := by
  rw [predict_eq, one]
  exact ⟨_, rfl⟩

theorem predict_several (several : 2 ≤ (u.reached f rs).length) :
    u.predict f rs = if 9 ≤ u.amb + 1 then u.ambiguous else { u with cands := u.kept f rs, amb := u.amb + 1 } := by
  rw [predict_eq]
  generalize u.reached f rs = l at several
  match l with
  | [] => exact absurd several (by decide)
  | [c] => exact absurd several (by simp)
  | _ :: _ :: _ => rfl

theorem predict_again (h : u.reached f rs = [] ∧ u.amb ≠ 0 ∨ 2 ≤ (u.reached f rs).length ∧ 8 ≤ u.amb) : u.predict f rs = u.ambiguous := by
  rcases h with ⟨none_, amb⟩ | ⟨several, amb⟩
  · exact (predict_none none_).trans (if_neg amb)
  · exact (predict_several several).trans (if_pos (by omega))

/-! ### A unit in frame checks its position -/

/-- A frame without error: the pattern with its identity, inside the deskew window (R191, R193). -/
def checkClean (f : Framer) (u : AlignUnit) (r : AlignCheck) : Prop :=
  r.matched = true ∧ r.ident = predictId f u.ident ∧ ¬(f.inFrame = true ∧ f.deskew + 160 < r.skew)

theorem checkClean_iff : checkClean f u r ↔
    (r.matched && r.ident == predictId f u.ident && !(f.inFrame && decide (f.deskew + 160 < r.skew))) = true := by
  cases h : f.inFrame <;> simp [checkClean, h, and_assoc]

theorem check_clean (clean : checkClean f u r) : u.check f r = { u with ident := predictId f u.ident, skew := r.skew, errored := 0 } :=
  if_pos (checkClean_iff.1 clean)

theorem check_errored (bad : ¬checkClean f u r) (few : u.errored + 1 < u.m) : u.check f r =
    { u with ident := predictId f u.ident, skew := r.skew, errored := u.errored + 1, erroredFrames := bump u.erroredFrames } :=
  (if_neg (mt checkClean_iff.2 bad)).trans (if_pos few)

theorem check_loses (bad : ¬checkClean f u r) (last : u.m ≤ u.errored + 1) : u.check f r =
    { u with ident := predictId f u.ident, skew := r.skew, st := .search, cands := [], amb := 0, errored := 0, losses := bump u.losses
             erroredFrames := bump u.erroredFrames } :=
  (if_neg (mt checkClean_iff.2 bad)).trans (if_neg (Nat.not_lt.2 last))

end Sys2Proof.Machine
end

section
/-! The bond's frame (08_client_framers.md R193). -/

namespace Sys2Proof.Machine

variable {f : Framer} {us : List AlignUnit}

/-- The skew of the latest unit of a bond, and of the earliest. -/
def latestSkew (us : List AlignUnit) : Nat := us.foldl (fun a u => max a u.skew) 0
def earliestSkew (us : List AlignUnit) : Nat := us.foldl (fun a u => min a u.skew) (latestSkew us)

theorem skew_le_latest : ∀ u ∈ us, u.skew ≤ latestSkew us := (foldl_max_spec (g := AlignUnit.skew)).1.2

theorem latestSkew_attained : latestSkew us = 0 ∨ ∃ u ∈ us, latestSkew us = u.skew := (foldl_max_spec (g := AlignUnit.skew)).2

theorem earliest_le_skew : ∀ u ∈ us, earliestSkew us ≤ u.skew := (foldl_min_spec (g := AlignUnit.skew)).1.2

theorem earliestSkew_attained : earliestSkew us = latestSkew us ∨ ∃ u ∈ us, earliestSkew us = u.skew :=
  (foldl_min_spec (g := AlignUnit.skew)).2

/-- The spread of the units bounds every difference of two, and is one of them. -/
theorem spread_iff : latestSkew us - earliestSkew us ≤ 2560 ↔ ∀ u ∈ us, ∀ v ∈ us, u.skew ≤ v.skew + 2560 := by
  refine ⟨fun near u hu v hv => ?_, fun near => ?_⟩
  · have := skew_le_latest u hu
    have := earliest_le_skew v hv
    omega
  · rcases latestSkew_attained (us := us) with zero | ⟨u, hu, latest⟩
    · omega
    · rcases earliestSkew_attained (us := us) with same | ⟨v, hv, earliest⟩
      · omega
      · have := near u hu v hv
        omega

theorem bondFrame_inFrame : f.bondFrame.inFrame = (f.provisioned && !f.units.isEmpty && (f.units.all fun u => u.st == .inFrame) &&
    ((List.range f.units.length).all fun k => f.units.any fun u => laneOfId f u.ident == k) &&
    decide (latestSkew f.units - earliestSkew f.units ≤ 2560)) := rfl

theorem bondFrame_inFrame_iff : f.bondFrame.inFrame = true ↔ f.provisioned = true ∧ f.units ≠ [] ∧ (∀ u ∈ f.units, u.st = .inFrame) ∧
    (∀ k, k < f.units.length → ∃ u ∈ f.units, laneOfId f u.ident = k) ∧ ∀ u ∈ f.units, ∀ v ∈ f.units, u.skew ≤ v.skew + 2560 := by
  simp only [bondFrame_inFrame, Bool.and_eq_true, decide_eq_true_eq, spread_iff, List.all_eq_true, List.any_eq_true, beq_iff_eq,
    List.mem_range, Bool.not_eq_true', List.isEmpty_eq_false_iff, and_assoc]

theorem bondFrame_deskew : f.bondFrame.deskew = if f.bondFrame.inFrame && !f.inFrame then latestSkew f.units else f.deskew := rfl

theorem bondFrame_deskew_kept (h : f.inFrame = true ∨ f.bondFrame.inFrame = false) : f.bondFrame.deskew = f.deskew := by
  rw [bondFrame_deskew]
  rcases h with h | h <;> simp [h]

/-- At the entry to frame the deskew is the skew of the latest unit. -/
theorem bondFrame_deskew_entry (out : f.inFrame = false) (enters : f.bondFrame.inFrame = true) :
    (∀ u ∈ f.units, u.skew ≤ f.bondFrame.deskew) ∧ ∃ u ∈ f.units, u.skew = f.bondFrame.deskew := by
  have entry : f.bondFrame.deskew = latestSkew f.units := by rw [bondFrame_deskew, out, enters]; rfl
  rw [entry]
  refine ⟨skew_le_latest, ?_⟩
  rcases latestSkew_attained (us := f.units) with zero | ⟨u, hu, latest⟩
  · obtain ⟨-, some_, -⟩ := bondFrame_inFrame_iff.1 enters
    obtain ⟨u, hu⟩ := List.exists_mem_of_ne_nil _ some_
    exact ⟨u, hu, (Nat.le_zero.1 (zero ▸ skew_le_latest u hu)).trans zero.symm⟩
  · exact ⟨u, hu, latest.symm⟩

end Sys2Proof.Machine
end

section
/-! Defects: their masks, their declaration and the LOF time (08_client_framers.md R197, R200). -/

namespace Sys2Proof.Machine

variable {i : FramerId} {n l : Nat} {enter outer line trib : Bool} {kind : Option Nat} {s : State} {f : Framer} {es : List DefEvt} {d : DefectTimer}

theorem exec_defectPersistenceEnd : exec (.defectPersistenceEnd i d enter) s = .next (framerHeard i (defectPersistence i d enter s)) := rfl

/-- LOF, LOA and LOM end their LOF time alike. -/
theorem defectPersistence_timed (timed : (d, n) ∈ [(DefectTimer.lof, 161), (DefectTimer.loa, 162), (DefectTimer.lom, 163)]) :
    defectPersistence i d enter s = lofEnd i n enter s := by
  simp only [List.mem_cons, Prod.mk.injEq, List.not_mem_nil, or_false] at timed
  rcases timed with ⟨rfl, rfl⟩ | ⟨rfl, rfl⟩ | ⟨rfl, rfl⟩ <;> rfl

theorem lofEnd_rests (h : ∀ f, s.framer i = some f → (n, enter) ∉ f.timing) : lofEnd i n enter s = s := by
  cases here : s.framer i with
  | none => simp only [lofEnd, here]
  | some f =>
    have stopped : ¬f.timing.contains (n, enter) = true := by simpa using h f here
    simp only [lofEnd, here, if_neg stopped]

theorem lofEnd_runs (here : s.framer i = some f) (runs : (n, enter) ∈ f.timing) :
    let sl := max 1 (f.raw (isLine i) (isTrib i) none n 0)
    lofEnd i n enter s = evalWhole i (raise n (framerObj (if isLine i = true then sl else 0) i).1 (evtArg (b2n enter) 0xFF (framerObj 0 i).2 0)
      (onFramer i (fun f => { f with
        timing := f.timing.filter fun t => t != (n, enter)
        declared := if enter = true then (n, 0xFF, sl) :: f.declared else f.declared.filter fun d => d.1 != n }) s)) := by
  have running : f.timing.contains (n, enter) = true := by simpa using runs
  simp only [lofEnd, here, if_pos running]
  rfl

/-! ### One defect is judged -/

/-- Every declaration of a defect but the one at hand. -/
def Framer.without (n l : Nat) (f : Framer) : List (Nat × Nat × Nat) := f.declared.filter fun y => !(y.1 == n && y.2.1 == l)

/-- The timers after one of them is stopped, or run if it does not run already. -/
def Framer.timer (n : Nat) (entry : Bool) (stop : Prop) [Decidable stop] (f : Framer) : List (Nat × Bool) :=
  if stop then f.timing.filter fun t => t != (n, entry)
  else if f.timing.contains (n, entry) then f.timing else (n, entry) :: f.timing

theorem mem_timer {entry : Bool} {stop : Prop} [Decidable stop] : (n, entry) ∈ f.timer n entry stop ↔ ¬stop := by
  by_cases h : stop
  · simp [Framer.timer, h]
  · by_cases runs : (n, entry) ∈ f.timing <;> simp [Framer.timer, h, runs]

theorem judge_masked (masked : f.masked outer n l = true) : Framer.judge outer line trib kind (f, es) (n, l) =
    ({ f with
       declared := f.without n l, timing := f.timing.filter fun t => t.1 != n
       maskedHist := if f.has n l then (n, l) :: f.maskedHist.filter fun y => y != (n, l) else f.maskedHist }, es) := if_pos masked

section

variable (clear : f.masked outer n l = false)
include clear

theorem judge_timed (timed : isTimed n = true) : Framer.judge outer line trib kind (f, es) (n, l) =
    if f.has n l = false then ({ f with timing := f.timer n true (f.raw line trib kind n (defLayer l) = 0) }, es)
    else ({ f with timing := f.timer n false (f.restored n = false) }, es) := by
  refine (if_neg (Bool.eq_false_iff.1 clear)).trans ((if_pos timed).trans ?_)
  simp only [Bool.not_eq_true', Framer.timer]

theorem judge_timed_absent (timed : isTimed n = true) (absent : f.has n l = false) : Framer.judge outer line trib kind (f, es) (n, l) =
    ({ f with timing := f.timer n true (f.raw line trib kind n (defLayer l) = 0) }, es) :=
  (judge_timed clear timed).trans (if_pos absent)

theorem judge_timed_present (timed : isTimed n = true) (present : f.has n l = true) : Framer.judge outer line trib kind (f, es) (n, l) =
    ({ f with timing := f.timer n false (f.restored n = false) }, es) :=
  (judge_timed clear timed).trans (if_neg (by simp [present]))

variable (plain : isTimed n = false)
include plain

theorem judge_plain : Framer.judge outer line trib kind (f, es) (n, l) =
    if f.raw line trib kind n (defLayer l) ≠ 0 ∧ (!f.has n l) = true then
      ({ f with declared := (n, l, f.raw line trib kind n (defLayer l)) :: f.declared, maskedHist := f.maskedHist.filter fun y => y != (n, l) },
        es ++ [(n, l, f.raw line trib kind n (defLayer l), 1)])
    else if f.raw line trib kind n (defLayer l) = 0 ∧ f.has n l = true then
      ({ f with declared := f.without n l },
        es ++ [(n, l, ((f.declared.find? fun y => y.1 == n && y.2.1 == l).map (·.2.2)).getD 0, 0)])
    else (f, es) := by
  refine (if_neg (Bool.eq_false_iff.1 clear)).trans ((if_neg (Bool.eq_false_iff.1 plain)).trans ?_)
  cases f.declared.find? fun y => y.1 == n && y.2.1 == l <;> rfl

theorem judge_declares (found : f.raw line trib kind n (defLayer l) ≠ 0) (absent : f.has n l = false) :
    Framer.judge outer line trib kind (f, es) (n, l) =
      ({ f with declared := (n, l, f.raw line trib kind n (defLayer l)) :: f.declared, maskedHist := f.maskedHist.filter fun y => y != (n, l) },
        es ++ [(n, l, f.raw line trib kind n (defLayer l), 1)]) :=
  (judge_plain clear plain).trans (if_pos ⟨found, by simp [absent]⟩)

theorem judge_clears (gone : f.raw line trib kind n (defLayer l) = 0) (present : f.has n l = true) :
    ∃ sl, Framer.judge outer line trib kind (f, es) (n, l) = ({ f with declared := f.without n l }, es ++ [(n, l, sl, 0)]) :=
  ⟨_, (judge_plain clear plain).trans ((if_neg fun h => h.1 gone).trans (if_pos ⟨gone, present⟩))⟩

/-- A defect whose condition agrees with its declaration stays as it is. -/
theorem judge_keeps (agree : f.raw line trib kind n (defLayer l) ≠ 0 ↔ f.has n l = true) :
    Framer.judge outer line trib kind (f, es) (n, l) = (f, es) := by
  refine (judge_plain clear plain).trans ((if_neg fun h => ?_).trans (if_neg fun h => agree.2 h.2 h.1))
  simp [agree.1 h.1] at h

end

end Sys2Proof.Machine
end

section
/-! A frame's overhead (08_client_framers.md R194, R195, R197). -/

namespace Sys2Proof.Machine

variable {i : FramerId} {sl : Fin 32} {o : OtnFrame} {s : State} {f : Framer}

theorem exec_otnFrameReceived : exec (.otnFrameReceived i sl o) s = .next (framerHeard i (otnFrame i sl o s)) := rfl

/-- A framer's frames count: it is watched, and a bond is in frame and carries OTN. -/
def framesCount (s : State) (i : FramerId) : Prop :=
  framerWatched s i = true ∧ ∀ b, i = .bond b → s.bonds[b].inFrame = true ∧ isEth s.bonds[b] = false

theorem otnFrame_counts (live : framesCount s i) : otnFrame i sl o s = evalWhole i (frameIn i sl { o with mfas := o.mfas % 256 } s) := by
  obtain ⟨watched, bond⟩ := live
  refine if_pos ?_
  cases i with
  | bond b =>
    obtain ⟨inFrame, otn⟩ := bond b rfl
    show (framerWatched s (.bond b) && (s.bonds[b].inFrame && !isEth s.bonds[b])) = true
    rw [watched, inFrame, otn]
    rfl
  | odum c g => simp [watched]
  | trib k n g t => simp [watched]

theorem otnFrame_ignored (dead : ¬framesCount s i) : otnFrame i sl o s = s := by
  refine if_neg fun h => dead ?_
  obtain ⟨watched, bond⟩ := (Bool.and_eq_true_iff).1 h
  refine ⟨watched, fun b e => ?_⟩
  subst e
  simpa using bond

/-! ### The multiframe -/

/-- The MFAS of a frame follows that of the frame before it. -/
def mfasFollows (x : SliceOh) (o : OtnFrame) : Prop := ∀ v, x.mfas = some v → o.mfas = (v + 1) % 256

/-- A verdict on the multiframe: whether it is in, and the frames in a row that speak against it. -/
def multiframe (isIn good : Bool) (run n m : Nat) : Bool × Nat :=
  let next := if good != isIn then run + 1 else 0
  let flip := decide (if isIn then m ≤ next else n ≤ next)
  (isIn != flip, if flip then 0 else next)

variable {x : SliceOh} {run n m : Nat} {line first good : Bool}

theorem sliceFrame_mfas : (x.frame f n m line first o).mfas = some o.mfas := rfl

theorem sliceFrame_multiframe : ∃ good : Bool, (good = true ↔ mfasFollows x o) ∧
    (x.frame f n m line first o).mfIn = (multiframe x.mfIn good x.mfRun n m).1 ∧
    (x.frame f n m line first o).mfRun = (multiframe x.mfIn good x.mfRun n m).2 := by
  cases before : x.mfas with
  | none =>
    refine ⟨true, by simp [mfasFollows, before], ?_⟩
    simp [SliceOh.frame, multiframe, before]
  | some v =>
    refine ⟨o.mfas == (v + 1) % 256, by simp [mfasFollows, before], ?_⟩
    simp [SliceOh.frame, multiframe, before]

theorem multiframe_enters (hn : 1 ≤ n) : (multiframe false good run n m).1 = true ↔ good = true ∧ n ≤ run + 1 := by
  cases good <;> simp [multiframe]
  omega

theorem multiframe_leaves (hm : 1 ≤ m) : (multiframe true good run n m).1 = false ↔ ¬good = true ∧ m ≤ run + 1 := by
  cases good <;> simp [multiframe]
  omega

theorem multiframe_agrees {isIn : Bool} (agree : isIn = true ↔ good = true) : (multiframe isIn good run n m).2 = 0 := by
  have same : good = isIn := Bool.eq_iff_iff.2 agree.symm
  subst same
  simp [multiframe]

/-! ### The overhead of a layer -/

variable {y : LayerRx} {mfas : Nat} {h : LayerOh} {tti : Bool}

/-- The run of a value that repeats the one before it reaches k + 1 exactly when it stood at k. -/
theorem run_reaches {p : Prop} [Decidable p] {k : Nat} (hk : 1 ≤ k) : k + 1 ≤ (if p then run + 1 else 1) ↔ p ∧ k ≤ run := by
  by_cases hp : p <;> simp [hp]
  omega

theorem layerFrame_stat : (y.frame mfas h tti).stat = if h.stat = y.statCand ∧ 2 ≤ y.statRun then h.stat else y.stat := by
  simp only [LayerRx.frame, run_reaches (k := 2) (by decide), eq_comm]

theorem layerFrame_bdi : (y.frame mfas h tti).bdi = if h.bdi = y.bdiLast ∧ 4 ≤ y.bdiRun then h.bdi else y.bdi := by
  simp only [LayerRx.frame, run_reaches (k := 4) (by decide), eq_comm]

theorem layerFrame_ttiAcc : (y.frame mfas h tti).ttiAcc =
    if tti = true ∧ mfas % 64 = 63 ∧ y.ttiLast = y.ttiBuf.set (mfas % 64) h.tti ∧ 2 ≤ y.ttiRun then some (y.ttiBuf.set (mfas % 64) h.tti) else y.ttiAcc := by
  by_cases whole : (tti && mfas % 64 == 63) = true
  · have ends : tti = true ∧ mfas % 64 = 63 := by simpa using whole
    simp only [LayerRx.frame, whole, if_true, Bool.true_and, decide_eq_true_eq, run_reaches (k := 2) (by decide)]
    simp only [ends.1, ends.2, true_and]
  · have goes : ¬(tti = true ∧ mfas % 64 = 63 ∧ y.ttiLast = y.ttiBuf.set (mfas % 64) h.tti ∧ 2 ≤ y.ttiRun) := fun e => whole (by simp [e.1, e.2.1])
    rw [if_neg goes]
    simp [LayerRx.frame, Bool.eq_false_iff.2 whole]

end Sys2Proof.Machine
end

section
/-! The framer commands (14_command_reference.md R349 to R351; 08_client_framers.md R187, R192, R195, R199, R214). -/

namespace Sys2Proof.Machine

variable {q : Request} {s : State} {off : Nat}

/-- A chain of tests, each with its own answer, is the first fault found and what follows without one. -/
theorem ite_eq_elim {α β : Type} {c d : Prop} [Decidable c] [Decidable d] {x y g : β} {o : α} {r : Option α} {h : α → β} (same : c ↔ d)
    (answer : x = h o) (rest : ¬d → y = r.elim g h) : (if c then x else y) = (if d then some o else r).elim g h := by
  by_cases hd : d
  · rw [if_pos (same.2 hd), if_pos hd, answer, Option.elim_some]
  · rw [if_neg (mt same.1 hd), if_neg hd, rest hd]

theorem exec_framerProvision : exec (.framerProvision q) s = .next (pmSync (deskRun 0x0801 framerProvision q s)) := rfl

theorem exec_framerDeprovision : exec (.framerDeprovision q) s = .next (pmSync (deskRun 0x0802 framerDeprovision q s)) := rfl

theorem exec_framerOhSet : exec (.framerOhSet q) s = .next (pmSync (deskRun 0x0804 framerOhSetHeard q s)) := rfl

theorem exec_framerOhGet : exec (.framerOhGet q) s = .next (deskRun 0x0805 framerOhGet q s) := rfl

theorem exec_framerMaintSet : exec (.framerMaintSet q) s = .next (deskRun 0x0806 framerMaintSet q s) := rfl

/-! ### FRAMER.PROVISION -/

/-- The first field that FRAMER.PROVISION refuses, in the order of R350. -/
def provFault (q : Request) (s : State) : Option Nat :=
  if 9 < u8 q 4 then some 4 else if u8 q 5 ∉ laneCounts (u8 q 4) ∨ objIndex q % u8 q 5 ≠ 0 then some 5
  else if 1 < u8 q 6 ∨ (4 < u8 q 4 ∧ u8 q 6 ≠ 0) ∨ (u8 q 4 < 4 ∧ u8 q 6 = 1 ∧ s.dev.mode ≠ some .framer) then some 6
  else if isFlexo { iface := u8 q 4 } = false ∧ u16 q 8 ≠ 0 then some 8
  else if s.dev.mode = some .regenerator ∨ (∃ l ∈ bondLanes (objIndex q) (u8 q 5), mateLane s l = true) then some 0 else none

/-- A lane of the bond asked for belongs to a provisioned bond. -/
def lanesTaken (q : Request) (s : State) : Prop :=
  ∃ j : Fin 48, s.bonds[j].provisioned = true ∧ j.val < objIndex q + u8 q 5 ∧ objIndex q < j.val + s.bonds[j].k

/-- The bond asked for, and the synthesiser that it holds alone if it follows its source (R214). -/
abbrev askedBond (q : Request) : Framer := { provisioned := true, iface := u8 q 4, k := u8 q 5, fec := u8 q 6 }
def askedSynth (q : Request) (s : State) : Option Nat :=
  if rateFollowing (askedBond q) then soleSynth s (objIndex q) (u8 q 5) else none

/-- The bond asked for as it replaces the framer that stood there. -/
def Framer.provisionedBy (q : Request) (synth : Option Nat) (old : Framer) : Framer :=
  { askedBond q with
    cfg := old.cfg, maint := if u8 q 4 < 4 then (min old.maint.1 1, min old.maint.2 1) else old.maint, fbdi := old.fbdi, synth := synth
    flexGid := u16 q 8, flexIid := (bytesAt q.body 10 8).map (·.toNat), units := List.replicate (unitCount (u8 q 4)) {}
    poisonedEgress := old.poisonedEgress }

/-- The lanes of a rate-following bond are clocked by its synthesiser. -/
def clockLanes (b k : Nat) (synth : Option Nat) (s : State) : State :=
  synth.elim s fun y => { s with lanes := Vector.ofFn fun l => if b ≤ l.val && l.val < b + k then { s.lanes[l] with synth := y } else s.lanes[l] }

theorem clockLanes_bonds {b k : Nat} {synth : Option Nat} : (clockLanes b k synth s).bonds = s.bonds := by
  cases synth <;> simp only [clockLanes, Option.elim_none, Option.elim_some]

theorem clockLanes_lanes {b k y : Nat} {l : Fin 48} :
    (clockLanes b k (some y) s).lanes[l] = if b ≤ l.val ∧ l.val < b + k then { s.lanes[l] with synth := y } else s.lanes[l] := by
  simp [clockLanes]

/-- The state with the bond asked for, before the state of its lanes reaches it. -/
def bondPlaced (q : Request) (b : Fin 48) (s : State) : State :=
  clockLanes (objIndex q) (u8 q 5) (askedSynth q s) (onBond b (Framer.provisionedBy q (askedSynth q s)) (keepBody 0x0801 q s))

theorem bondPlaced_same {b : Fin 48} : (bondPlaced q b s).bonds[b] = s.bonds[b].provisionedBy q (askedSynth q s) :=
  (congrArg (·[b]) clockLanes_bonds).trans ((upd_get ..).trans (if_pos rfl))

theorem bondPlaced_other {b j : Fin 48} (h : j.val ≠ b.val) : (bondPlaced q b s).bonds[j] = s.bonds[j] :=
  (congrArg (·[j]) clockLanes_bonds).trans ((upd_get ..).trans (if_neg fun e => h (congrArg Fin.val e.symm)))

theorem askedSynth_follows (follows : rateFollowing (askedBond q) = true) : askedSynth q s = soleSynth s (objIndex q) (u8 q 5) := if_pos follows

theorem askedSynth_free (free : ¬rateFollowing (askedBond q) = true) : askedSynth q s = none := if_neg free

/-- The answer with every field good: the lanes are judged, then the synthesiser. -/
def provJudged (q : Request) (s : State) : State × Reply :=
  if ((List.finRange 48).any fun j => s.bonds[j].provisioned && decide (j.val < objIndex q + u8 q 5 ∧ objIndex q < j.val + s.bonds[j].k)) = true
  then (s, refuse stBadState)
  else if rateFollowing (askedBond q) = true ∧ (askedSynth q s).isNone = true then (s, refuse stNoCapacity)
  else if h : objIndex q < 48 then (bondFromLanes ⟨objIndex q, h⟩ (bondPlaced q ⟨objIndex q, h⟩ s), ok)
  else (s, badParam 0)

theorem framerProvision_eq : framerProvision q s = (provFault q s).elim (provJudged q s) fun off => (s, badParam off) :=
  ite_eq_elim .rfl rfl fun _ => ite_eq_elim (by simp) rfl fun _ => ite_eq_elim .rfl rfl fun _ => ite_eq_elim (by simp) rfl fun _ =>
    ite_eq_elim (by simp) rfl fun _ => if_congr .rfl rfl <| if_congr .rfl rfl <| dite_congr rfl (fun h => by
        unfold bondPlaced
        generalize chosen : askedSynth q s = synth
        unfold askedSynth at chosen
        rw [chosen]
        cases synth <;> rfl) fun _ => rfl

theorem framerProvision_bad (bad : provFault q s = some off) : framerProvision q s = (s, badParam off) := by
  rw [framerProvision_eq, bad, Option.elim_some]

section

variable (good : provFault q s = none)
include good

theorem framerProvision_judged : framerProvision q s = provJudged q s := by
  rw [framerProvision_eq, good, Option.elim_none]

theorem framerProvision_taken (taken : lanesTaken q s) : framerProvision q s = (s, refuse stBadState) :=
  (framerProvision_judged good).trans (if_pos (by simpa [lanesTaken] using taken))

variable (free : ¬lanesTaken q s)
include free

theorem framerProvision_free : framerProvision q s =
    if rateFollowing (askedBond q) = true ∧ (askedSynth q s).isNone = true then (s, refuse stNoCapacity)
    else if h : objIndex q < 48 then (bondFromLanes ⟨objIndex q, h⟩ (bondPlaced q ⟨objIndex q, h⟩ s), ok)
    else (s, badParam 0) :=
  (framerProvision_judged good).trans (if_neg (by simpa [lanesTaken] using free))

theorem framerProvision_noSynth (follows : rateFollowing (askedBond q) = true) (none_ : soleSynth s (objIndex q) (u8 q 5) = none) :
    framerProvision q s = (s, refuse stNoCapacity) :=
  (framerProvision_free good free).trans (if_pos ⟨follows, by rw [askedSynth_follows follows, none_]; rfl⟩)

theorem framerProvision_places (h : objIndex q < 48)
    (synth : rateFollowing (askedBond q) = true → soleSynth s (objIndex q) (u8 q 5) ≠ none) :
    framerProvision q s = (bondFromLanes ⟨objIndex q, h⟩ (bondPlaced q ⟨objIndex q, h⟩ s), ok) := by
  refine (framerProvision_free good free).trans ((if_neg fun e => ?_).trans (dif_pos h))
  have none_ := e.2
  rw [askedSynth_follows e.1, Option.isNone_iff_eq_none] at none_
  exact synth e.1 none_

end

/-! ### FRAMER.DEPROVISION -/

theorem framerDeprovision_used (used : bondInUse s (objIndex q) = true) : framerDeprovision q s = (s, refuse stBadState) := if_pos used

theorem framerDeprovision_unused (h : objIndex q < 48) (unused : bondInUse s (objIndex q) = false) : framerDeprovision q s =
    (onBond ⟨objIndex q, h⟩ (fun old => { ({} : Framer) with cfg := old.cfg, maint := old.maint, fbdi := old.fbdi, poisonedEgress := old.poisonedEgress })
      (dropBody 0x0801 (objBond (objIndex q)) (terminate (.bond (objIndex q)) s)), ok) :=
  (if_neg (Bool.eq_false_iff.1 unused)).trans (dif_pos h)

/-! ### FRAMER.OH.SET and FRAMER.OH.GET -/

/-- The first field that FRAMER.OH.SET refuses (R351). -/
def ohFault (q : Request) : Option Nat :=
  if 7 < u8 q 4 ∨ (isLine (reqFramer q) = true ∧ u8 q 4 = 0) then some 4
  else if bit (u8 q 5) 0 = true ∧ 3 < u8 q 6 then some 6 else if bit (u8 q 5) 0 = true ∧ 1 < u8 q 7 then some 7
  else if bit (u8 q 5) 3 = true ∧ 0xFF < u16 q 8 ∧ u16 q 8 ≠ 0xFFFF then some 8
  else if bit (u8 q 5) 4 = true ∧ (2 < u8 q 10 ∨ u8 q 4 < 2) then some 10 else none

/-- The settings of a layer with those that the mask names. -/
def LayerCfg.masked (q : Request) (c : LayerCfg) : LayerCfg :=
  { timMode := if bit (u8 q 5) 0 = true then u8 q 6 else c.timMode, timAct := if bit (u8 q 5) 0 = true then u8 q 7 == 1 else c.timAct
    expTti := if bit (u8 q 5) 1 = true then bytesAt q.body 12 32 else c.expTti
    txTti := if bit (u8 q 5) 2 = true then bytesAt q.body 44 64 else c.txTti
    expPt := if bit (u8 q 5) 3 = true then (if u16 q 8 = 0xFFFF then none else some (u16 q 8)) else c.expPt
    tcmMode := if bit (u8 q 5) 4 = true then u8 q 10 else c.tcmMode }

/-- The state with the overhead settings stored and the framer judged. -/
def ohStored (q : Request) (s : State) : State :=
  evalWhole (reqFramer q) (onFramer (reqFramer q) (fun f => { f with cfg := updNat f.cfg (u8 q 4) (LayerCfg.masked q) }) (keepBody 0x0804 q s))

theorem framerOhSet_eq : framerOhSet q s = (ohFault q).elim (ohStored q s, ok) fun off => (s, badParam off) :=
  ite_eq_elim .rfl rfl fun _ => ite_eq_elim .rfl rfl fun _ => ite_eq_elim .rfl rfl fun _ => ite_eq_elim .rfl rfl fun _ =>
    ite_eq_elim .rfl rfl fun _ => rfl

theorem framerOhSet_bad (bad : ohFault q = some off) : framerOhSetHeard q s = (s, badParam off) := by
  have refused : badParam off ≠ ok := by simp [badParam, ok, stBadParam, stOk]
  simp only [framerOhSetHeard, framerOhSet_eq, bad, Option.elim_some, if_neg refused]

theorem framerOhSet_stores (good : ohFault q = none) : framerOhSetHeard q s = (framerHeard (reqFramer q) (ohStored q s), ok) := by
  simp only [framerOhSetHeard, framerOhSet_eq, good, Option.elim_none, if_true]

theorem framerOhGet_bad (bad : 7 < u8 q 4 ∨ objKind q = 6 ∧ u8 q 4 = 0) : framerOhGet q s = (s, badParam 4) := if_pos bad

theorem framerOhGet_answers {f : Framer} (good : ¬(7 < u8 q 4 ∨ objKind q = 6 ∧ u8 q 4 = 0)) (here : s.framer (reqFramer q) = some f) :
    framerOhGet q s = (s, okBulk (
      let y := f.slices.getD (if objKind q = 6 then objSub2 q - 1 else 0) {}
      let x := getNat {} y.layers (u8 q 4)
      padTo 64 (x.ttiAcc.getD []) ++ leBytes 1 (y.pt.acc.getD 0) ++ leBytes 1 (x.stat % 8) ++ leBytes 2 0
        ++ leBytes 4 ((f.aps.getD (if u8 q 4 = 0 then 7 else u8 q 4 - 1) {}).acc.getD 0)) f.ftfl) := by
  refine (if_neg good).trans ?_
  rw [here]
  rfl

/-! ### FRAMER.MAINT.SET -/

/-- The first field that FRAMER.MAINT.SET refuses: an Ethernet bond has no signal but the replacement (R199, R349). -/
def maintFault (q : Request) (s : State) : Option Nat :=
  if 1 < u8 q 4 then some 4
  else if 3 < u8 q 5 ∨ ((getNat {} s.bonds (objIndex q)).provisioned = true ∧ isEth (getNat {} s.bonds (objIndex q)) = true ∧ 1 < u8 q 5) then some 5
  else if 1 < u8 q 6 then some 6 else none

/-- The state with a framer's maintenance signals set, and what follows of its egress. -/
def maintStored (q : Request) (g : Framer → Framer) (s : State) : State :=
  egressSync (reqFramer q) (onFramer (reqFramer q) g (keepBody 0x0806 q s))

theorem framerMaintSet_eq : framerMaintSet q s = (maintFault q s).elim (maintStored q (fun f =>
    if u8 q 4 = 0 then { f with maint := (u8 q 5, f.maint.2), fbdi := (u8 q 6 == 1, f.fbdi.2) }
    else { f with maint := (f.maint.1, u8 q 5), fbdi := (f.fbdi.1, u8 q 6 == 1) }) s, ok) fun off => (s, badParam off) :=
  ite_eq_elim .rfl rfl fun _ => ite_eq_elim .rfl rfl fun _ => ite_eq_elim .rfl rfl fun _ => rfl

theorem framerMaintSet_bad (bad : maintFault q s = some off) : framerMaintSet q s = (s, badParam off) := by
  rw [framerMaintSet_eq, bad, Option.elim_some]

theorem framerMaintSet_egress (good : maintFault q s = none) (egress : u8 q 4 = 0) : framerMaintSet q s =
    (maintStored q (fun f => { f with maint := (u8 q 5, f.maint.2), fbdi := (u8 q 6 == 1, f.fbdi.2) }) s, ok) := by
  simp only [framerMaintSet_eq, good, Option.elim_none, if_pos egress]

theorem framerMaintSet_mapper (good : maintFault q s = none) (mapper : u8 q 4 = 1) : framerMaintSet q s =
    (maintStored q (fun f => { f with maint := (f.maint.1, u8 q 5), fbdi := (f.fbdi.1, u8 q 6 == 1) }) s, ok) := by
  simp only [framerMaintSet_eq, good, Option.elim_none, mapper, if_neg Nat.one_ne_zero]

end Sys2Proof.Machine
end

section
/-! The statement on client framers assembled (08_client_framers.md R187 to R200; 14_command_reference.md R349 to R351). -/

namespace Sys2Proof.Machine

/-- Settles O59: each clause is the rule of one function, in the order of the statement. The unit counts of interfaces other than
OTL4.4 (log 34) and the order of the APS levels (log 33) are the model's choices. -/
theorem framersAndDefects : Obligations.FramersAndDefects := by
  refine ⟨fun b k r rs s => ⟨exec_alignmentMatch, AlignUnit.atPrediction s.bonds[b] rs, exec_alignmentPrediction, fun u =>
      ⟨atPrediction_off, atPrediction_search, atPrediction_elsewhere, fun st x l l' parts before here => ?_⟩⟩,
    fun u n m r => ⟨open_rests, fun st new => ⟨open_aligns st new, open_appends st new, open_evicts st new⟩⟩,
    fun f u rs => ⟨fun none_ amb => ?_, fun c one => ?_, fun several amb => ?_, predict_again⟩,
    fun f u r => ⟨check_clean, check_errored, check_loses⟩,
    fun f => ⟨bondFrame_inFrame_iff, bondFrame_deskew_kept, bondFrame_deskew_entry⟩,
    fun fid enter s => ⟨rfl, rfl, rfl, fun d n timed => ⟨fun rests => ?_, fun f here runs => ?_⟩⟩,
    fun s => ⟨fun _ => rfl, fun _ _ _ _ => rfl, fun _ _ => rfl⟩,
    fun outer line trib kind f es n l => ⟨fun masked => ?_, fun clear plain => ⟨fun found absent => ?_, fun gone present => ?_,
      fun found present => judge_keeps clear plain (by simp [found, present]), fun gone absent => judge_keeps clear plain (by simp [gone, absent])⟩,
      fun clear timed => ?_⟩,
    fun fid sl o s => ⟨fun live => ?_, fun dead => ?_⟩,
    fun f x n m line first o hn hm => ?_,
    fun x mfas o tti => ⟨fun e => ?_, fun e => ?_, fun e => ?_, fun e => ?_, fun e => ?_, fun e => ?_, rfl, rfl⟩,
    fun q s run => ⟨fun off bad => ?_, fun good taken => ?_, fun good free follows none_ => ?_, fun h good free synth => ?_⟩,
    fun q s run => ⟨fun used => ?_, fun h unused => ?_⟩,
    fun q s run => ⟨fun off bad => ?_, fun good => ?_⟩,
    fun q s run => ⟨fun bad => ?_, fun f good here => ?_⟩,
    fun q s run => ⟨fun off bad => ?_, fun good egress => ?_, fun good mapper => ?_⟩⟩
  · rw [parts, atPrediction_checks st before here]
  · exact (predict_none none_).trans (if_pos amb)
  · obtain ⟨r, e⟩ := predict_one one
    simp only [e]
    exact ⟨rfl, rfl, rfl, rfl, rfl, rfl, rfl, rfl, rfl⟩
  · exact (predict_several several).trans (if_neg (by omega))
  · rw [exec_defectPersistenceEnd, defectPersistence_timed timed, lofEnd_rests rests]
  · rw [exec_defectPersistenceEnd, defectPersistence_timed timed, lofEnd_runs here runs]
  · rw [judge_masked masked]
    exact ⟨rfl, rfl, fun t ht => by simpa using (List.mem_filter.1 ht).2, fun present => by simp [present]⟩
  · rw [judge_declares clear plain found absent]
    exact ⟨rfl, rfl⟩
  · obtain ⟨sl, e⟩ := judge_clears (es := es) clear plain gone present
    rw [e]
    exact ⟨rfl, sl, rfl⟩
  · cases h : f.has n l with
    | false =>
      rw [judge_timed_absent clear timed h]
      exact ⟨rfl, rfl, fun _ => mem_timer, nofun⟩
    | true =>
      rw [judge_timed_present clear timed h]
      exact ⟨rfl, rfl, nofun, fun _ => mem_timer.trans (by simp)⟩
  · rw [exec_otnFrameReceived, otnFrame_counts live]
  · rw [exec_otnFrameReceived, otnFrame_ignored dead]
  · obtain ⟨good, follows, inEq, runEq⟩ := sliceFrame_multiframe (f := f) (x := x) (o := o) (n := n) (m := m) (line := line) (first := first)
    refine ⟨sliceFrame_mfas, fun out => ?_, fun isIn => ?_, fun agree => ?_⟩
    · rw [inEq, out, multiframe_enters hn, follows]
      rfl
    · rw [inEq, isIn, multiframe_leaves hm, follows]
      rfl
    · rw [runEq, multiframe_agrees (agree.trans follows.symm)]
  · exact layerFrame_stat.trans (if_pos e)
  · exact layerFrame_stat.trans (if_neg e)
  · exact layerFrame_bdi.trans (if_pos e)
  · exact layerFrame_bdi.trans (if_neg e)
  · exact layerFrame_ttiAcc.trans (if_pos e)
  · exact layerFrame_ttiAcc.trans (if_neg e)
  · rw [exec_framerProvision, deskRun_done run (framerProvision_bad bad)]
  · rw [exec_framerProvision, deskRun_done run (framerProvision_taken good taken)]
  · rw [exec_framerProvision, deskRun_done run (framerProvision_noSynth good free follows none_)]
  · refine ⟨bondPlaced q ⟨objIndex q, h⟩ s, ?_, fun x e => ?_, fun j other => bondPlaced_other other, fun y follows some_ l => ?_, fun fixed => ?_⟩
    · rw [exec_framerProvision, deskRun_done run (framerProvision_places good free h synth)]
    · rw [bondPlaced_same] at e
      subst e
      exact ⟨rfl, rfl, rfl, rfl, rfl, rfl, rfl, askedSynth_follows, askedSynth_free⟩
    · rw [bondPlaced, askedSynth_follows follows, some_]
      exact clockLanes_lanes
    · rw [bondPlaced, askedSynth_free fixed]
      rfl
  · rw [exec_framerDeprovision, deskRun_done run (framerDeprovision_used used)]
  · rw [exec_framerDeprovision, deskRun_done run (framerDeprovision_unused h unused)]
  · rw [exec_framerOhSet, deskRun_done run (framerOhSet_bad bad)]
  · rw [exec_framerOhSet, deskRun_done run (framerOhSet_stores good)]
    rfl
  · rw [exec_framerOhGet, deskRun_done run (framerOhGet_bad bad)]
  · rw [exec_framerOhGet, deskRun_done run (framerOhGet_answers good here)]
  · rw [exec_framerMaintSet, deskRun_done run (framerMaintSet_bad bad)]
  · rw [exec_framerMaintSet, deskRun_done run (framerMaintSet_egress good egress)]
    rfl
  · rw [exec_framerMaintSet, deskRun_done run (framerMaintSet_mapper good mapper)]
    rfl

end Sys2Proof.Machine
end

section
/-! The state table and the selection of a protection group (09_mapping_protection.md R221 to R223). -/

namespace Sys2Proof.Machine

variable {b : ProtRule} {p : Prot}

theorem decide_requested (top : 7 ≤ p.top b) : p.decide b = { p with
    ms := if 7 < p.top b then false else p.ms, st := reqState (p.top b)
    onProt := if p.st.req ≠ p.top b ∨ p.top b = 9 then p.select b (p.top b) else p.onProt } := by
  refine (if_pos top).trans ?_
  by_cases above : 7 < p.top b <;> simp only [above, if_true, if_false]

/-- The state that a request leaves behind when it goes (R223). -/
def Prot.stateLeft (b : ProtRule) (p : Prot) : ProtState := match p.st with
  | .sfW => if b.rev then .wtr else .dnr
  | .sd => if b.rev then (if p.onProt then .wtr else .nr) else if p.onProt then .dnr else .nr
  | .lo => if !b.rev && p.onProt then .dnr else .nr
  | .fs => if !b.rev && p.onProt then .dnr else .nr
  | .ms => if !b.rev && p.onProt then .dnr else .nr
  | .sfP => .nr | .wtr => .wtr | .dnr => .dnr | .nr => .nr

theorem decide_gone (top : p.top b < 7) : p.decide b = { p with st := p.stateLeft b } := by
  have keepsMs : ¬7 < p.top b := by omega
  refine (if_neg (Nat.not_le.2 top)).trans ?_
  simp only [if_neg keepsMs]
  cases st : p.st with
  | sd => cases rev : b.rev <;> cases side : p.onProt <;> simp [Prot.stateLeft, st, rev, side]
  | wtr | dnr | nr =>
    simp only [Prot.stateLeft, st]
    rw [← st]
  | _ => simp only [Prot.stateLeft, st]

theorem decide_frame : (p.decide b).lo = p.lo ∧ (p.decide b).fs = p.fs ∧ (p.decide b).sides = p.sides ∧
    (p.decide b).leadA = p.leadA ∧ (p.decide b).leadB = p.leadB := by
  rcases Nat.lt_or_ge (p.top b) 7 with gone | requested
  · rw [decide_gone gone]; exact ⟨rfl, rfl, rfl, rfl, rfl⟩
  · rw [decide_requested requested]; exact ⟨rfl, rfl, rfl, rfl, rfl⟩

theorem select_sd : p.select b 9 = if (p.side 0).sd = true ∨ (p.side 1).sd = true then (p.side b.work).sd && !(p.side (1 - b.work)).sd
    else (p.farSr b).any srSig :=
  (if_neg (by decide)).trans ((if_pos rfl).trans (if_congr Bool.or_eq_true_iff rfl rfl))

end Sys2Proof.Machine
end

section
/-! What moves a group's selection and its selector (09_mapping_protection.md R223, R224; 20_mated_pair.md R485). -/

namespace Sys2Proof.Machine

variable {g : Fin 16} {k : Fin 18} {c arrival : Nat} {p : Prot} {s : State}

/-- An update of a group is what it makes of the group as it stands. -/
theorem onProt_congr {f h : Prot → Prot} (e : f s.prot[g] = h s.prot[g]) : onProt g f s = onProt g h s := by
  rw [onProt, onProt, upd_congr e]

theorem onProt_id {f : Prot → Prot} (e : f s.prot[g] = s.prot[g]) : onProt g f s = s := by
  rw [onProt, upd_id e]

theorem onProt_same {f : Prot → Prot} : (onProt g f s).prot[g] = f s.prot[g] := (upd_get ..).trans (if_pos rfl)

theorem exec_wtrExpiry_line (line : k.val < 16) : exec (.wtrExpiry k) s = .next (wtrExpiry ⟨k.val, line⟩ s) := congrArg _ (dif_pos line)

theorem exec_wtrExpiry_pair (pair : 16 ≤ k.val) : exec (.wtrExpiry k) s = .next (pairWtr (k.val - 16) s) :=
  congrArg _ (dif_neg (Nat.not_lt.2 pair))

theorem exec_selectorSwitch_line (line : k.val < 16) : exec (.selectorSwitch k arrival) s =
    .next (evalWhole (.odum 0 ⟨k.val, line⟩) (onProt ⟨k.val, line⟩ (selectorAt arrival) s)) := congrArg _ (dif_pos line)

theorem exec_selectorSwitch_pair (pair : 16 ≤ k.val) : exec (.selectorSwitch k arrival) s = .next (onPair (k.val - 16) (selectorAt arrival) s) :=
  congrArg _ (dif_neg (Nat.not_lt.2 pair))

theorem exec_fopTimeout : exec (.fopTimeout g) s = .next (fopTimeout g s) := rfl

theorem wtrExpiry_rests (h : ¬(s.prot[g].exists_ = true ∧ s.prot[g].st = .wtr)) : wtrExpiry g s = s := if_neg h

theorem wtrExpiry_selects (here : s.prot[g].exists_ = true) (wtr : s.prot[g].st = .wtr) : wtrExpiry g s =
    protRelease g (if s.prot[g].onProt
      then raise 178 (objProt g.val) (evtArg 0 0 (protRule s g.val).work 0)
        (onProt g (fun p => { p with st := .nr, onProt := false, onset := none, switches := p.switches.modify 0 bump }) s)
      else onProt g (fun p => { p with st := .nr, onProt := false, onset := none }) s) := by
  refine (if_pos ⟨here, wtr⟩).trans (congrArg (protRelease g) ?_)
  cases side : s.prot[g].onProt with
  | true =>
    rw [raiseIf_true, if_pos rfl, onProt_congr]
    rw [if_pos side]
  | false =>
    rw [raiseIf_false, if_neg Bool.false_ne_true, onProt_congr]
    rw [if_neg (Bool.eq_false_iff.1 side)]

theorem pairWtr_rests (h : s.mate.role = 0 ∨ (s.pairOf c).st ≠ .wtr) : pairWtr c s = s :=
  if_neg fun e => h.elim e.1 fun other => other e.2

theorem selectorAt_waits (h : p.selector = p.onProt ∨ ∃ x, p.onset = some x ∧ arrival < x) : selectorAt arrival p = p := by
  refine if_neg fun e => ?_
  rw [Bool.and_eq_true, bne_iff_ne] at e
  rcases h with same | ⟨x, onset, early⟩
  · exact e.1 same
  · simp [onset, Nat.not_le.2 early] at e

theorem selectorAt_moves (differs : p.selector ≠ p.onProt) (arrived : ∀ x, p.onset = some x → x ≤ arrival) :
    selectorAt arrival p = { p with selector := p.onProt, onset := none } := by
  refine if_pos ?_
  rw [Bool.and_eq_true, bne_iff_ne]
  refine ⟨differs, ?_⟩
  cases onset : p.onset with
  | none => rfl
  | some x => exact decide_eq_true (arrived x onset)

/-- What FOP_TIMEOUT finds is reported and kept (R223). -/
theorem fopTimeout_finds {bad : Bool}
    (e : (s.prot[g].exists_ && (protRule s g.val).bidir && (s.prot[g].farSr (protRule s g.val)).map srSig != some s.prot[g].onProt) = bad) :
    fopTimeout g s = raiseIf bad 180 (objProt g.val) (protArg (protRule s g.val) s.prot[g] 0) (onProt g (fun p => { p with fop := p.fop || bad }) s) := by
  subst e
  rfl

theorem fopTimeout_fails (here : s.prot[g].exists_ = true) (bidir : (protRule s g.val).bidir = true)
    (differs : (s.prot[g].farSr (protRule s g.val)).map srSig ≠ some s.prot[g].onProt) : fopTimeout g s =
    raise 180 (objProt g.val) (protArg (protRule s g.val) s.prot[g] 0) (onProt g (fun p => { p with fop := true }) s) := by
  rw [fopTimeout_finds (bad := true) (by rw [here, bidir]; exact bne_iff_ne.2 differs), raiseIf_true, onProt_congr]
  simp only [Bool.or_true]

theorem fopTimeout_agrees (good : ¬(s.prot[g].exists_ = true ∧ (protRule s g.val).bidir = true ∧
    (s.prot[g].farSr (protRule s g.val)).map srSig ≠ some s.prot[g].onProt)) : fopTimeout g s = s := by
  rw [fopTimeout_finds (Bool.eq_false_iff.2 fun e => good (by rwa [Bool.and_eq_true, Bool.and_eq_true, bne_iff_ne, and_assoc] at e)),
    raiseIf_false, onProt_id]
  simp only [Bool.or_false]

end Sys2Proof.Machine
end

section
/-! SR bytes, the hold-off and the alignment of the two carriers (09_mapping_protection.md R216, R217, R220, R221, R224). -/

namespace Sys2Proof.Machine

variable {c : Fin 2} {g : Fin 16} {bs : List Byte} {s t : State}

theorem exec_srFieldReceived {raw : List Byte} : exec (.srFieldReceived c g raw) s = .next (srReceived c g (ohField 154 (padTo 6 raw)) s) := rfl

theorem exec_holdOffExpiry : exec (.holdOffExpiry c g) s = .next (holdOff c g s) := rfl

theorem exec_protectionAlign : exec (.protectionAlign g) s = .next (protAlign g s) := rfl

/-- A group without provisioning is judged by nothing (R221, R223). -/
theorem protConditions_absent (absent : s.prot[g].exists_ = false) : protConditions g s = s := if_pos (by rw [absent]; rfl)

theorem protDecide_absent {onset : Nat} (absent : s.prot[g].exists_ = false) : protDecide g onset s = s := if_pos (by rw [absent]; rfl)

/-! ### SR_FIELD_RECEIVED -/

theorem onFol_id {f : FolioGroup → FolioGroup} (e : f (s.fol c g) = s.fol c g) : onFol c g f s = s := by
  rw [onFol, upd_id (upd_id e)]

/-- The state with a field counted as bad, and with the value of a good one in the filter (R217). -/
def srRejected (c : Fin 2) (g : Fin 16) (s : State) : State :=
  onProt g (fun p => { p with sides := upd p.sides c fun x => { x with srCrc := bump x.srCrc } })
    (onFol c g (fun f => { f with srCrc := bump f.srCrc }) s)
def srFiltered (c : Fin 2) (g : Fin 16) (bs : List Byte) (s : State) : State :=
  onProt g (fun p => { p with sides := upd p.sides c fun x =>
    { x with sr := x.sr.see (getParN s .r226 (objProt g.val) 0x40) (beAt bs 0 4), exer := if srReq (beAt bs 0 4) = 4 then bump x.exer else x.exer } }) s

/-- The D bit of an accepted value differs from the group's operation (R217). -/
def dDiffers (b : ProtRule) (x : Option Nat) : Bool := match x with | some v => srD v != b.bidir | none => false

theorem dDiffers_iff {b : ProtRule} {x : Option Nat} : dDiffers b x = true ↔ ∃ v, x = some v ∧ srD v ≠ b.bidir := by
  cases x <;> simp [dDiffers]

/-- What follows a field once it is stored: the conditions are judged, and a D bit that now differs is reported. -/
def srJudged (g : Fin 16) (s t : State) : State :=
  raiseIf (s.prot[g].exists_ && (protRule s g.val).bidir && dDiffers (protRule s g.val) (t.prot[g].farSr (protRule s g.val)) &&
      !dDiffers (protRule s g.val) (s.prot[g].farSr (protRule s g.val)))
    180 (objProt g.val) (protArg (protRule s g.val) t.prot[g] 0) (if s.prot[g].exists_ then protConditions g t else t)

/-- The state with a field stored by its verdict. -/
def srStored (good : Bool) (c : Fin 2) (g : Fin 16) (bs : List Byte) (s : State) : State :=
  onProt g (fun p => { p with sides := upd p.sides c fun x =>
    if good then { x with sr := x.sr.see (getParN s .r226 (objProt g.val) 0x40) (beAt bs 0 4), exer := if srReq (beAt bs 0 4) = 4 then bump x.exer else x.exer }
    else { x with srCrc := bump x.srCrc } })
    (onFol c g (fun f => if good then f else { f with srCrc := bump f.srCrc }) s)

theorem srReceived_stored {good : Bool} (e : (crc16 (bytesAt bs 0 4) == beAt bs 4 2) = good) :
    srReceived c g bs s = srJudged g s (srStored good c g bs s) := by
  subst e
  rfl

theorem srReceived_filters (good : crc16 (bytesAt bs 0 4) = beAt bs 4 2) : srReceived c g bs s = srJudged g s (srFiltered c g bs s) := by
  have stored : srStored true c g bs s = srFiltered c g bs s := congrArg (onProt g _) (onFol_id rfl)
  rw [srReceived_stored (beq_iff_eq.2 good), stored]

/-- What a change of one side keeps of it, it keeps of every side. -/
theorem side_upd_view {α : Type} {e : ProtSide → α} {f : ProtSide → ProtSide} {p : Prot} {i : Nat} (kept : ∀ x, e (f x) = e x) :
    e (getNat {} (upd p.sides c f) i) = e (p.side i) := by
  have byNumber : upd p.sides c f = updNat p.sides c.val f := (dif_pos c.isLt).symm
  rw [byNumber, Prot.side]
  by_cases same : i = c.val
  · rw [same, getNat_updNat_same c.isLt, kept]
  · rw [getNat_updNat_other same]

theorem farSr_of_sides {b : ProtRule} {p p' : Prot} (fail : ∀ i, (p'.side i).sfNow = (p.side i).sfNow)
    (sr : ∀ i, (p'.side i).sr = (p.side i).sr) : p'.farSr b = p.farSr b := by
  simp only [Prot.farSr, fail, sr]

/-- A field counted as bad is accepted by nothing: the far end's bytes stay. -/
theorem srRejected_farSr {b : ProtRule} : (srRejected c g s).prot[g].farSr b = s.prot[g].farSr b := by
  rw [srRejected, onProt_same]
  exact farSr_of_sides (fun i => side_upd_view (e := ProtSide.sfNow) fun _ => rfl) fun i => side_upd_view (e := ProtSide.sr) fun _ => rfl

theorem srReceived_rejects (bad : ¬crc16 (bytesAt bs 0 4) = beAt bs 4 2) :
    srReceived c g bs s = if s.prot[g].exists_ then protConditions g (srRejected c g s) else srRejected c g s := by
  have quiet : ∀ x y : Bool, (x && y && !y) = false := by decide
  have stored : srStored false c g bs s = srRejected c g s := rfl
  rw [srReceived_stored (beq_eq_false_iff_ne.2 bad), stored, srJudged, srRejected_farSr, quiet, raiseIf_false]

theorem srJudged_absent (absent : s.prot[g].exists_ = false) : srJudged g s t = t := by
  simp only [srJudged, absent, Bool.false_and, raiseIf_false, Bool.false_eq_true, if_false]

theorem srJudged_unidirectional (here : s.prot[g].exists_ = true) (uni : (protRule s g.val).bidir = false) :
    srJudged g s t = protConditions g t := by
  simp only [srJudged, here, uni, Bool.and_false, Bool.false_and, raiseIf_false, if_true]

theorem srJudged_alters (here : s.prot[g].exists_ = true) (bidir : (protRule s g.val).bidir = true)
    (now : ∃ v, t.prot[g].farSr (protRule s g.val) = some v ∧ srD v ≠ (protRule s g.val).bidir)
    (before : ¬∃ v, s.prot[g].farSr (protRule s g.val) = some v ∧ srD v ≠ (protRule s g.val).bidir) :
    srJudged g s t = raise 180 (objProt g.val) (protArg (protRule s g.val) t.prot[g] 0) (protConditions g t) := by
  rw [srJudged, here, bidir, dDiffers_iff.2 now, Bool.eq_false_iff.2 (mt dDiffers_iff.1 before)]
  exact raiseIf_true

/-! ### HOLD_OFF_EXPIRY and PROTECTION_ALIGN -/

/-- The conditions still present of one side become requests (R221). -/
def Prot.requestPresent (c : Fin 2) (p : Prot) : Prot := { p with sides := upd p.sides c fun x => { x with sf := x.sfNow, sd := x.sdNow } }

theorem holdOff_absent (absent : s.prot[g].exists_ = false) : holdOff c g s = onProt g (Prot.requestPresent c) s := by
  unfold holdOff
  rw [protConditions_absent absent]
  refine protDecide_absent ?_
  rw [onProt_same]
  exact absent

theorem protAlign_rests (h : s.prot[g].exists_ = false ∨ (s.prot[g].aligned = true ∧ ¬inTransition (.prot g.val) s = true) ∨
    (¬(s.rxg 0 g).st = .track ∧ ¬(s.rxg 1 g).st = .track)) : protAlign g s = s := by
  refine if_neg fun ⟨here, due, up⟩ => ?_
  rw [beq_iff_eq, beq_iff_eq] at up
  rcases h with absent | ⟨aligned, once⟩ | ⟨downA, downB⟩
  · exact Bool.noConfusion (absent.symm.trans here)
  · rw [aligned] at due
    exact due.elim Bool.noConfusion once
  · exact up.elim downA downB

/-- A group aligned by the arrivals `a` and `d` of the same folio on its carriers (R220 step 1). -/
def Prot.alignedAt (again : Bool) (a d : Nat) (p : Prot) : Prot :=
  { p with leadA := d - min a d, leadB := a - min a d, aligned := true, realigns := if again then bump p.realigns else p.realigns }

theorem align_both {p : Prot} {a d only : Nat} (common : p.common = some (a, d)) :
    p.align true only = { p with leadA := d - min a d, leadB := a - min a d, aligned := true } := by
  simp only [Prot.align, common]

/-- The group with the leads of its alignment, by the carriers that are in TRACK (R220). -/
def protAligned (g : Fin 16) (s : State) : State :=
  onProt g (fun p => { p.align ((s.rxg 0 g).st == .track && (s.rxg 1 g).st == .track) (if (s.rxg 0 g).st == .track then 0 else 1) with
    realigns := if inTransition (.prot g.val) s then bump p.realigns else p.realigns }) s

/-- The leads that PROT.REALIGN returns (R349). -/
def leadsOf (s : State) (p : Prot) : List Byte :=
  leBytes 4 (codeOf 32 (leadSymbols s 0 p.leadA)) ++ leBytes 4 (codeOf 32 (leadSymbols s 1 p.leadB))

theorem protAlign_goes (here : s.prot[g].exists_ = true) (due : s.prot[g].aligned = false ∨ inTransition (.prot g.val) s = true)
    (upA : (s.rxg 0 g).st = .track) :
    protAlign g s = protConditions g (endTransition (.prot g.val) (okWith (leadsOf s (protAligned g s).prot[g])) (protAligned g s)) :=
  if_pos ⟨here, due.imp_left fun e => by rw [e]; rfl, .inl (beq_iff_eq.2 upA)⟩

theorem protAligned_both {a d : Nat} (upA : (s.rxg 0 g).st = .track) (upB : (s.rxg 1 g).st = .track) (common : s.prot[g].common = some (a, d)) :
    protAligned g s = onProt g (Prot.alignedAt (inTransition (.prot g.val) s) a d) s :=
  onProt_congr (by simp only [upA, upB, beq_self_eq_true, Bool.and_self, align_both common]; rfl)

theorem protAlign_both {a d : Nat} (here : s.prot[g].exists_ = true) (due : s.prot[g].aligned = false ∨ inTransition (.prot g.val) s = true)
    (upA : (s.rxg 0 g).st = .track) (upB : (s.rxg 1 g).st = .track) (common : s.prot[g].common = some (a, d)) :
    let f := Prot.alignedAt (inTransition (.prot g.val) s) a d
    protAlign g s = protConditions g (endTransition (.prot g.val) (okWith (leadsOf s (f s.prot[g]))) (onProt g f s)) := by
  intro f
  rw [protAlign_goes here due upA, protAligned_both upA upB common, onProt_same]

end Sys2Proof.Machine
end

section
/-! The protection commands (14_command_reference.md R349; 09_mapping_protection.md R218, R220, R222, R223, R226, R236, R474). -/

namespace Sys2Proof.Machine

variable {q : Request} {s : State}

theorem exec_protProvision : exec (.protProvision q) s = .next (deskRun 0x0920 protProvision q s) := rfl

theorem exec_protCommand : exec (.protCommand q) s = .next (deskRun 0x0921 protCommand q s) := rfl

theorem exec_protRealign : exec (.protRealign q) s = .next (deskRun 0x0922 protRealign q s) := rfl

theorem exec_protStatus : exec (.protStatus q) s = .next (deskRun 0x0923 (sCommand protItems) q s) := rfl

/-! ### The object -/

/-- The protection group that a request names (R332). -/
abbrev reqProt (q : Request) : Fin 16 := groupOf (objIndex q)

theorem objOk_prot_missing (missing : groupExists s (objIndex q) = false ∨ hasLine s = false) {c : CmdInfo} (row : cmdInfo 0x0920 = some c) :
    objOk s c q = false := by
  have shapes : some [Shape.prot] = (cmdInfo 0x0920).map CmdInfo.shapes := rfl
  rw [row, Option.map_some, Option.some_inj] at shapes
  rw [objOk, ← shapes]
  rcases missing with h | h <;> simp [shapeOk, h]

theorem objOk_prot_absent (absent : s.prot[reqProt q].exists_ = false) {op : Nat}
    (shapes : some [Shape.protIn] = (cmdInfo op).map CmdInfo.shapes) {c : CmdInfo} (row : cmdInfo op = some c) : objOk s c q = false := by
  rw [row, Option.map_some, Option.some_inj] at shapes
  rw [objOk, ← shapes]
  by_cases inside : objIndex q < 16
  · have same : getNat {} s.prot (objIndex q) = s.prot[reqProt q] := by
      simp [getNat, groupOf, Nat.mod_eq_of_lt inside, inside]
    simp only [shapeOk, same, absent, Bool.and_false, Bool.false_and, List.any_cons, List.any_nil, Bool.or_false]
  · simp [shapeOk, inside]

/-! ### PROT.PROVISION -/

/-- The mode in force has no line to protect, or the group is not the same on both carriers (R218, R474). -/
abbrev protUnlike (s : State) (g : Fin 16) : Prop :=
  hasLine s = false ∨ s.dev.mode = some .regenerator ∨ (s.car 0).symRate ≠ (s.car 1).symRate ∨
    groupRun s 0 g.val ≠ groupRun s 1 g.val ∨ groupSlices s 0 g.val ≠ groupSlices s 1 g.val

theorem protProvision_badRecords {off : Nat} (bad : parseRecords 0x0920 q = .error off) : protProvision q s = (s, badParam off) := by
  simp only [protProvision, bad]

section

variable {rs : List ParRec} (good : parseRecords 0x0920 q = .ok rs)
include good

theorem protProvision_deletesNone (del : bit (u8 q 5) 0 = true) (absent : s.prot[reqProt q].exists_ = false) :
    protProvision q s = (s, refuse stBadState) := by
  simp only [protProvision, good, del, absent, Bool.not_false, if_true]

theorem protProvision_deletes (del : bit (u8 q 5) 0 = true) (here : s.prot[reqProt q].exists_ = true) :
    ∃ t, protProvision q s = (t, ok) ∧ t.prot[reqProt q] = {} := by
  simp only [protProvision, good, del, here, Bool.not_true, Bool.false_eq_true, if_true, if_false]
  exact ⟨_, rfl, onProt_same⟩

variable (set_ : bit (u8 q 5) 0 = false)
include set_

theorem protProvision_unlike (unlike : protUnlike s (reqProt q)) : protProvision q s = (s, badParam 0) := by
  simp only [protProvision, good, set_, Bool.false_eq_true, if_false]
  exact if_pos (by simpa using unlike)

variable (alike : ¬protUnlike s (reqProt q))
include alike

/-- A group alike on both carriers is refused to a member of a pair; else its values wait, or it takes what pages they need. -/
theorem protProvision_alike : protProvision q s = if s.mate.role ≠ 0 then (s, refuse stBadState)
    else if s.prot[reqProt q].exists_ = true ∧ s.prot[reqProt q].st ≠ .nr then (waitRecs 0x0920 q rs s, ok)
    else (growQueues (onProt (reqProt q) (fun p => { p with exists_ := true }) (applyRecs 0x0920 q rs s))).elim
      (s, refuse stNoCapacity) fun v => (protConditions (reqProt q) v, ok) := by
  simp only [protProvision, good, set_, Bool.false_eq_true, if_false]
  refine (if_neg (by simpa using alike)).trans (if_congr .rfl rfl (if_congr .rfl rfl ?_))
  cases growQueues (onProt (reqProt q) (fun p => { p with exists_ := true }) (applyRecs 0x0920 q rs s)) <;> rfl

theorem protProvision_mate (mate : s.mate.role ≠ 0) : protProvision q s = (s, refuse stBadState) :=
  (protProvision_alike good set_ alike).trans (if_pos mate)

variable (alone : s.mate.role = 0)
include alone

theorem protProvision_waits (here : s.prot[reqProt q].exists_ = true) (busy : s.prot[reqProt q].st ≠ .nr) :
    protProvision q s = (waitRecs 0x0920 q rs s, ok) :=
  (protProvision_alike good set_ alike).trans ((if_neg (not_not_intro alone)).trans (if_pos ⟨here, busy⟩))

variable (free : s.prot[reqProt q].exists_ = false ∨ s.prot[reqProt q].st = .nr)
include free

theorem protProvision_free : protProvision q s =
    (growQueues (onProt (reqProt q) (fun p => { p with exists_ := true }) (applyRecs 0x0920 q rs s))).elim
      (s, refuse stNoCapacity) fun v => (protConditions (reqProt q) v, ok) := by
  refine (protProvision_alike good set_ alike).trans ((if_neg (not_not_intro alone)).trans (if_neg fun ⟨here, busy⟩ => ?_))
  exact free.elim (fun absent => Bool.noConfusion (absent.symm.trans here)) busy

theorem protProvision_noPages (full : growQueues (onProt (reqProt q) (fun p => { p with exists_ := true }) (applyRecs 0x0920 q rs s)) = none) :
    protProvision q s = (s, refuse stNoCapacity) := by
  rw [protProvision_free good set_ alike alone free, full, Option.elim_none]

theorem protProvision_places {v : State}
    (fits : growQueues (onProt (reqProt q) (fun p => { p with exists_ := true }) (applyRecs 0x0920 q rs s)) = some v) :
    protProvision q s = (protConditions (reqProt q) v, ok) := by
  rw [protProvision_free good set_ alike alone free, fits, Option.elim_some]

end

/-! ### PROT.COMMAND -/

/-- The answer of an accepted command: the state entered (R223). -/
abbrev protReply (g : Fin 16) (s : State) : State × Reply := (s, ok (leBytes 1 s.prot[g].st.code))

/-- The command in force after it was accepted (R222). -/
def Prot.commanded (cmd : Nat) (p : Prot) : Prot :=
  if cmd = 1 then { p with lo := true } else if cmd = 2 then { p with fs := true } else { p with ms := true }

/-- The group with its commands cleared (R222, R223). -/
def Prot.cleared (st : ProtState) (p : Prot) : Prot := { p with lo := false, fs := false, ms := false, st := st }

theorem protCommand_unknown (high : 3 < u8 q 4) : protCommand q s = (s, badParam 4) := if_pos high

section

variable (known : u8 q 4 ≤ 3)
include known

variable (sets : u8 q 4 ≠ 0)
include sets

theorem protCommand_outranked
    (low : (if u8 q 4 = 1 then 15 else if u8 q 4 = 2 then 13 else 7) < s.prot[reqProt q].top (protRule s (reqProt q).val)) :
    protCommand q s = (s, refuse stBadState) :=
  (if_neg (Nat.not_lt.2 known)).trans ((if_neg sets).trans (if_pos low))

theorem protCommand_sets {f : Prot → Prot} {code : Nat} (makes : Prot.commanded (u8 q 4) = f)
    (needs : (if u8 q 4 = 1 then 15 else if u8 q 4 = 2 then 13 else 7) = code)
    (high : s.prot[reqProt q].top (protRule s (reqProt q).val) ≤ code) : let g := reqProt q
    protCommand q s = protReply g (protDecide g s.tod16 (onProt g f s)) := by
  subst makes needs
  exact (if_neg (Nat.not_lt.2 known)).trans ((if_neg sets).trans (if_neg (Nat.not_lt.2 high)))

end

/-- A cleared command leaves DNR where protection stays selected, NR elsewhere; NR entered brings parameters that waited into force. -/
theorem protCommand_clears (clear : u8 q 4 = 0) {st : ProtState}
    (left : (if !(protRule s (reqProt q).val).rev && s.prot[reqProt q].onProt then ProtState.dnr else .nr) = st) :
    let g := reqProt q
    let u := onProt g (Prot.cleared st) s
    protCommand q s = protReply g (protDecide g (s.tod16 - lookBack s g.val) (if s.prot[g].st ≠ .nr ∧ st = .nr then protRelease g u else u)) := by
  intro g u
  have placed : onProt g (fun p => { p with
      lo := false, fs := false, ms := false, st := if !(protRule s g.val).rev && p.onProt then .dnr else .nr }) s = u :=
    onProt_congr (by rw [left]; rfl)
  have entered : u.prot[g].st = st := by rw [onProt_same]; rfl
  refine (if_neg (by simp [clear])).trans ((if_pos clear).trans ?_)
  rw [placed]
  show protReply g (protDecide g _ (if s.prot[g].st ≠ .nr ∧ u.prot[g].st = .nr then protRelease g u else u)) = _
  rw [entered]

theorem protCommand_clears_dnr (clear : u8 q 4 = 0) (rev : (protRule s (reqProt q).val).rev = false)
    (side : s.prot[reqProt q].onProt = true) : let g := reqProt q
    protCommand q s = protReply g (protDecide g (s.tod16 - lookBack s g.val) (onProt g (Prot.cleared .dnr) s)) :=
  (protCommand_clears clear (st := .dnr) (if_pos (by rw [rev, side]; rfl))).trans (by simp)

theorem protCommand_clears_nr (clear : u8 q 4 = 0)
    (back : (protRule s (reqProt q).val).rev = true ∨ s.prot[reqProt q].onProt = false) :
    let g := reqProt q
    let u := onProt g (Prot.cleared .nr) s
    protCommand q s = protReply g (protDecide g (s.tod16 - lookBack s g.val) (if s.prot[g].st ≠ .nr then protRelease g u else u)) := by
  refine (protCommand_clears clear (st := .nr) (if_neg fun e => ?_)).trans (by simp)
  rw [Bool.and_eq_true, Bool.not_eq_true'] at e
  rcases back with rev | working
  · exact Bool.noConfusion (rev.symm.trans e.1)
  · exact Bool.noConfusion (working.symm.trans e.2)

/-! ### The statement -/

/-- Settles O48: each clause is the rule of one function, in the order of the statement. The order of SF before SD, the codes of NR and
DNR and that a command equal to the one in force is accepted (log 39), and which groups an object can name (log 12), are the model's
choices. -/
theorem lineProtection : Obligations.LineProtection := by
  refine ⟨fun b p => ⟨fun top => ?_, fun top => ?_, decide_frame⟩, fun b p => ⟨rfl, rfl, rfl, rfl, rfl, fun sd => ?_, fun noneA noneB => ?_⟩,
    fun k s line => ⟨fun rests => ?_, fun here wtr => ?_, fun arrival => ⟨fun waits => ?_, fun differs arrived => ?_⟩⟩,
    fun k arrival s pair => ⟨fun rests => ?_, ?_⟩, fun g s => ⟨fun ⟨here, bidir, differs⟩ => ?_, fun good => ?_⟩,
    fun c g raw s => ⟨fun bad => ?_, fun good => ⟨fun absent => ?_, fun here uni => ?_, fun here bidir now before => ?_⟩⟩,
    fun c g s => ⟨fun absent => ?_, fun here => rfl⟩, fun g s => ⟨fun rests => ?_, fun here due a d upA upB common => ?_⟩,
    fun q s run => ⟨fun off bad => ?_, fun rs good => ⟨fun del absent => ?_, fun del here => ?_, fun set_ => ⟨fun unlike => ?_, fun alike =>
      ⟨fun mate => ?_, fun alone => ⟨fun here busy => ?_, fun free => ⟨fun full => ?_, fun v fits => ?_⟩⟩⟩⟩⟩⟩,
    fun q s run => ⟨fun high => ?_, fun known => ⟨fun sets low => ?_, fun lo high => ?_, fun fs high => ?_, fun ms high => ?_,
      fun clear rev side => ?_, fun clear back => ?_⟩⟩,
    fun q s kind => ⟨fun missing turn => ?_, fun absent => ⟨fun turn => ?_, fun turn => ?_, fun turn => ?_⟩⟩, fun q s run => ?_⟩
  · rw [decide_requested top]
    exact ⟨rfl, fun above => if_pos above, fun same other => if_neg (by simp [same, other]), fun other => if_pos other⟩
  · rw [decide_gone top]
    exact ⟨rfl, rfl, rfl⟩
  · exact select_sd.trans (if_pos sd)
  · exact select_sd.trans (if_neg (by simp [noneA, noneB]))
  · rw [exec_wtrExpiry_line line, wtrExpiry_rests rests]
  · rw [exec_wtrExpiry_line line, wtrExpiry_selects here wtr]
  · rw [exec_selectorSwitch_line line, onProt_id (selectorAt_waits waits)]
  · rw [exec_selectorSwitch_line line]
    exact congrArg (fun u => Host.Outcome.next (evalWhole _ u)) (onProt_congr (selectorAt_moves differs arrived))
  · rw [exec_wtrExpiry_pair pair, pairWtr_rests rests]
  · exact exec_selectorSwitch_pair pair
  · rw [exec_fopTimeout, fopTimeout_fails here bidir differs]
  · rw [exec_fopTimeout, fopTimeout_agrees good]
  · rw [exec_srFieldReceived, srReceived_rejects bad]
    rfl
  · rw [exec_srFieldReceived, srReceived_filters good, srJudged_absent absent]
    rfl
  · rw [exec_srFieldReceived, srReceived_filters good, srJudged_unidirectional here uni]
    rfl
  · rw [exec_srFieldReceived, srReceived_filters good, srJudged_alters (t := srFiltered c g _ s) here bidir now before]
    rfl
  · rw [exec_holdOffExpiry, holdOff_absent absent]
    exact ⟨_, rfl, rfl⟩
  · rw [exec_protectionAlign, protAlign_rests rests]
  · rw [exec_protectionAlign, protAlign_both here due upA upB common]
    rfl
  · rw [exec_protProvision, deskRun_done run (protProvision_badRecords bad)]
  · rw [exec_protProvision, deskRun_done run (protProvision_deletesNone good del absent)]
  · obtain ⟨t, done, empty⟩ := protProvision_deletes good del here
    exact ⟨t, by rw [exec_protProvision, deskRun_done run done], empty⟩
  · rw [exec_protProvision, deskRun_done run (protProvision_unlike good set_ unlike)]
  · rw [exec_protProvision, deskRun_done run (protProvision_mate good set_ alike mate)]
  · rw [exec_protProvision, deskRun_done run (protProvision_waits good set_ alike alone here busy)]
  · rw [exec_protProvision, deskRun_done run (protProvision_noPages good set_ alike alone free full)]
  · rw [exec_protProvision, deskRun_done run (protProvision_places good set_ alike alone free fits)]
  · rw [exec_protCommand, deskRun_done run (protCommand_unknown high)]
  · rw [exec_protCommand, deskRun_done run (protCommand_outranked known sets low)]
  · rw [exec_protCommand, deskRun_done run (protCommand_sets known (by omega) (by rw [lo]) (by rw [lo]; rfl) high)]
    rfl
  · rw [exec_protCommand, deskRun_done run (protCommand_sets known (by omega) (by rw [fs]) (by rw [fs]; rfl) high)]
    rfl
  · rw [exec_protCommand, deskRun_done run (protCommand_sets known (by omega) (by rw [ms]) (by rw [ms]; rfl) high)]
    rfl
  · rw [exec_protCommand, deskRun_done run (protCommand_clears_dnr clear rev side)]
    rfl
  · rw [exec_protCommand, deskRun_done run (protCommand_clears_nr clear back)]
    rfl
  · rw [exec_protProvision, deskRun_noObject turn fun _ => objOk_prot_missing missing]
  · rw [exec_protCommand, deskRun_noObject turn fun _ => objOk_prot_absent absent rfl]
  · rw [exec_protRealign, deskRun_noObject turn fun _ => objOk_prot_absent absent rfl]
  · rw [exec_protStatus, deskRun_noObject turn fun _ => objOk_prot_absent absent rfl]
  · rw [exec_protRealign, deskRun_later run rfl]

end Sys2Proof.Machine
end

section
/-! The slots of a tributary and its multiframe boundary (09_mapping_protection.md R206, R207, R210, R227). -/

namespace Sys2Proof.Machine

variable {kind cont group : Nat} {idles : List (Nat × Nat × Nat)} {s t : State} {x : Trib}

theorem ceilDiv_le_iff {a b n : Nat} (hb : 0 < b) : ceilDiv a b ≤ n ↔ a ≤ b * n := by
  rw [ceilDiv, ← Nat.ceilDiv_eq_add_pred_div, ceilDiv_le_iff_le_mul hb]

/-- A tributary but for its overhead and defects; the mapper with such tributaries. -/
def Trib.bare (t : Trib) : Trib := { t with oh := {} }
def bareMap (s : State) : Mapping := { s.map with tribs := s.map.tribs.map Trib.bare }

theorem bareMap_fields (h : Same bareMap s t) : t.map.tribs.map Trib.bare = s.map.tribs.map Trib.bare ∧ t.map.conns = s.map.conns ∧
    t.map.delay = s.map.delay ∧ t.map.follow = s.map.follow := by
  have bare : bareMap t = bareMap s := h
  simp only [bareMap, Mapping.mk.injEq] at bare
  obtain ⟨tribs, conns, delay, -, -, follow⟩ := bare
  exact ⟨tribs, conns, delay, follow⟩

/-- A framer's update, its defects and its egress leave every tributary as it is but for its overhead. -/
theorem Same.onFramer_bare {i : FramerId} {f : Framer → Framer} (h : Same bareMap s t) : Same bareMap s (onFramer i f t) := by
  refine h.trans ?_
  cases i with
  | bond b => rfl
  | odum c g => rfl
  | trib k n g u =>
    refine congrArg (fun l => { t.map with tribs := l }) ?_
    refine List.map_map.trans (List.map_congr_left fun y _ => ?_)
    rw [Function.comp]
    split <;> rfl

theorem Same.evalMsim_bare (h : Same bareMap s t) : Same bareMap s (evalMsim kind cont group t) := by
  unfold evalMsim
  extract_lets i
  split
  · exact h
  · exact .foldl (fun _ _ k => k.onFramer_bare.raiseIf) h

theorem Same.egressSync_bare {i : FramerId} (h : Same bareMap s t) : Same bareMap s (egressSync i t) :=
  .foldl (fun _ _ k => k.onFramer_bare) h

/-- A tributary of a container. -/
def Trib.inside (kind cont group : Nat) (t : Trib) : Bool := t.ckind == kind && t.cont == cont && t.group == group

theorem inside_decide : x.inside kind cont group = decide (x.ckind = kind ∧ x.cont = cont ∧ x.group = group) := by
  rw [Bool.eq_iff_iff, decide_eq_true_iff]
  simp only [Trib.inside, Bool.and_eq_true, beq_iff_eq, and_assoc]

/-- The mapper after a boundary: added tributaries are in the structure sent, removed ones are gone (R210). -/
def Mapping.atBoundary (kind cont group : Nat) (m : Mapping) : Mapping :=
  { m with tribs := (m.tribs.filter fun t => !(t.inside kind cont group && t.removing)).map fun t =>
      if t.inside kind cont group then { t with active := true } else t }

theorem applyContainer_bare : Same bareMap (onMap (Mapping.atBoundary kind cont group) s) (applyContainer kind cont group s) := by
  unfold applyContainer
  extract_lets mine s1 fn ts d s2 i
  have placed : Same bareMap (onMap (Mapping.atBoundary kind cont group) s) s2 := rfl
  clear_value s2 ts i
  refine Same.egressSync_bare (Same.evalMsim_bare (.foldl (fun u y k => ?_) placed))
  split
  · split
    · exact k.complete
    · exact k
  · exact k

/-- The idles that IMP counted for a tributary in the multiframe (R227). -/
def Trib.countIdles (kind cont group : Nat) (idles : List (Nat × Nat × Nat)) (t : Trib) : Trib :=
  match idles.find? (fun x => t.isId kind cont group x.1 && t.kind == 0) with
  | some x => { t with idlesIn := satAdd t.idlesIn x.2.1, idlesOut := satAdd t.idlesOut x.2.2 }
  | none => t

theorem exec_multiframeBoundary : exec (.multiframeBoundary kind cont group idles) s = .next (pmSync (mateHandover kind cont group
    (applyContainer kind cont group (onMap (fun m => { m with tribs := m.tribs.map (Trib.countIdles kind cont group idles) }) s)))) := rfl

theorem mateHandover_map : (mateHandover kind cont group s).map = s.map := by
  unfold mateHandover
  split <;> rfl

theorem countIdles_frame : ∃ a b, x.countIdles kind cont group idles = { x with idlesIn := a, idlesOut := b } := by
  unfold Trib.countIdles
  split <;> exact ⟨_, _, rfl⟩

theorem countIdles_inside : (x.countIdles kind cont group idles).inside kind cont group = x.inside kind cont group := by
  obtain ⟨a, b, counted⟩ := countIdles_frame (x := x) (kind := kind) (cont := cont) (group := group) (idles := idles)
  rw [counted]
  rfl

theorem countIdles_removing : (x.countIdles kind cont group idles).removing = x.removing := by
  obtain ⟨a, b, counted⟩ := countIdles_frame (x := x) (kind := kind) (cont := cont) (group := group) (idles := idles)
  rw [counted]

theorem countIdles_elsewhere (out : x.inside kind cont group = false) : x.countIdles kind cont group idles = x := by
  have none_ : (idles.find? fun y => x.isId kind cont group y.1 && x.kind == 0) = none := by
    refine List.find?_eq_none.2 fun y _ => ?_
    have other : x.isId kind cont group y.1 = false := by
      show (x.inside kind cont group && x.tpn == y.1) = false
      rw [out, Bool.false_and]
    rw [other]
    exact Bool.false_ne_true
  simp only [Trib.countIdles, none_]

/-- A tributary of the container after its boundary: sent, and its idles counted. -/
def Trib.sent (idles : List (Nat × Nat × Nat)) (t : Trib) : Trib := match idles.find? fun x => t.tpn == x.1 && t.kind == 0 with
  | some x => { t with active := true, idlesIn := satAdd t.idlesIn x.2.1, idlesOut := satAdd t.idlesOut x.2.2 }
  | none => { t with active := true }

theorem countIdles_sent (isIn : x.inside kind cont group = true) : { x.countIdles kind cont group idles with active := true } = x.sent idles := by
  have same : (fun y : Nat × Nat × Nat => x.isId kind cont group y.1 && x.kind == 0) = fun y => x.tpn == y.1 && x.kind == 0 := by
    funext y
    show ((x.inside kind cont group && x.tpn == y.1) && x.kind == 0) = _
    rw [isIn, Bool.true_and]
  rw [Trib.countIdles, same, Trib.sent]
  cases idles.find? fun y => x.tpn == y.1 && x.kind == 0 <;> rfl

/-- The mapper after a boundary at which the idles are counted first. -/
theorem atBoundary_counted {m : Mapping} :
    (Mapping.atBoundary kind cont group { m with tribs := m.tribs.map (Trib.countIdles kind cont group idles) }).tribs =
      (m.tribs.filter fun t => !(t.inside kind cont group && t.removing)).map fun t => if t.inside kind cont group then t.sent idles else t := by
  have same : (fun t : Trib => !(t.inside kind cont group && t.removing)) ∘ Trib.countIdles kind cont group idles =
      fun t => !(t.inside kind cont group && t.removing) := by
    funext y
    simp only [Function.comp, countIdles_inside, countIdles_removing]
  rw [Mapping.atBoundary, List.filter_map, same, List.map_map]
  refine List.map_congr_left fun y _ => ?_
  rw [Function.comp, countIdles_inside]
  cases isIn : y.inside kind cont group with
  | true => exact countIdles_sent isIn
  | false => exact countIdles_elsewhere isIn

theorem multiframeBoundary_map : ∃ u : State, exec (.multiframeBoundary kind cont group idles) s = .next (pmSync u) ∧
    u.map.conns = s.map.conns ∧ u.map.delay = s.map.delay ∧ u.map.follow = s.map.follow ∧ u.map.tribs.map Trib.bare =
      (s.map.tribs.filter fun t => !(t.inside kind cont group && t.removing)).map fun t => (if t.inside kind cont group then t.sent idles else t).bare := by
  refine ⟨_, exec_multiframeBoundary, ?_⟩
  rw [mateHandover_map]
  obtain ⟨tribs, conns, delay, follow⟩ := bareMap_fields (applyContainer_bare (kind := kind) (cont := cont) (group := group)
    (s := onMap (fun m => { m with tribs := m.tribs.map (Trib.countIdles kind cont group idles) }) s))
  refine ⟨conns, delay, follow, tribs.trans ?_⟩
  exact (congrArg (List.map Trib.bare) atBoundary_counted).trans List.map_map

end Sys2Proof.Machine
end

section
/-! MAP.TRIB.ADD and MAP.TRIB.REMOVE (14_command_reference.md R352; 09_mapping_protection.md R206 to R210, R323). -/

namespace Sys2Proof.Machine

variable {q : Request} {s : State}

theorem exec_mapTribAdd : exec (.mapTribAdd q) s = .next (pmSync (deskRun 0x0901 mapTribAdd q s)) := rfl

theorem exec_mapTribRemove : exec (.mapTribRemove q) s = .next (pmSync (deskRun 0x0902 mapTribRemove q s)) := rfl

/-- The container that a request names (R352). -/
abbrev reqContainer (q : Request) : Fn := .container (u8 q 4) (u8 q 5) (u8 q 6)

theorem waitMultiframe_waits {op : Nat} (here : containerRuns s (u8 q 4) (u8 q 5) (u8 q 6) = true) :
    waitMultiframe op q s = (beginTransition (reqContainer q) op q s, .later) := if_pos here

theorem waitMultiframe_applies {op : Nat} (rests : containerRuns s (u8 q 4) (u8 q 5) (u8 q 6) = false) :
    waitMultiframe op q s = (applyContainer (u8 q 4) (u8 q 5) (u8 q 6) (beginTransition (reqContainer q) op q s), .later) :=
  if_neg (Bool.eq_false_iff.1 rests)

/-! ### MAP.TRIB.ADD -/

/-- The rate of the tributary asked for, the number of its slots, and the slots that are free in the order of AUTO (R206, R207, R209). -/
abbrev addRate (q : Request) (s : State) : Nat := tribRate (u8 q 7) (getNat {} s.bonds (u8 q 10)) (u32 q 12)
abbrev addSlots (q : Request) (s : State) : Nat := if u8 q 4 = 0 then lineSlots (addRate q s) else clientSlots (addRate q s)
abbrev addOrder (q : Request) (s : State) : List Nat := slotOrder (containerSlices s (u8 q 4) (u8 q 5) (u8 q 6))
abbrev addTaken (q : Request) (s : State) : List Nat := s.map.taken (u8 q 4) (u8 q 5) (u8 q 6)
abbrev addFree (q : Request) (s : State) : List Nat := (addOrder q s).filter fun c => !(addTaken q s).contains c

/-- No capacity; slots listed that are of the wrong number or not free; slots of the client that are not free (R208, R209, R352). -/
abbrev addFull (q : Request) (s : State) : Prop :=
  256 ≤ s.map.tribs.length ∨ 64 ≤ (s.map.inContainer (u8 q 4) (u8 q 5) (u8 q 6)).length ∨ (addFree q s).length < addSlots q s ∨
    (u16 q 18 ≠ 0 ∧ 64 ≤ (s.map.tribs.filter fun t => t.bond == u8 q 10).length) ∨ mateOver s (u8 q 4) (u8 q 5) (addRate q s) = true
abbrev addBadList (q : Request) (s : State) : Prop :=
  u16 q 16 ≠ 0 ∧ (u16 q 16 ≠ addSlots q s ∨ slotsOk (addOrder q s) (addTaken q s) (slotCodes q 0 (u16 q 16)) = false)
abbrev addBadNc (q : Request) (s : State) : Prop :=
  slotsOk (slotOrder (otucN (getNat {} s.bonds (u8 q 10)).iface)) (s.map.clientTaken (u8 q 10)) (slotCodes q (u16 q 16) (u16 q 18)) = false

/-- The tributary asked for, and the state that holds it. -/
abbrev addedTrib (q : Request) (s : State) : Trib := {
  ckind := u8 q 4, cont := u8 q 5, group := u8 q 6, tpn := u16 q 8, kind := u8 q 7, rate := addRate q s, bond := u8 q 10
  slots := if u16 q 16 = 0 then (addFree q s).take (addSlots q s) else slotCodes q 0 (u16 q 16)
  ncSlots := slotCodes q (u16 q 16) (u16 q 18), active := false, removing := false }
abbrev tribAdded (q : Request) (s : State) : State := onMap (fun m => { m with tribs := m.tribs ++ [addedTrib q s] }) s

theorem mapTribAdd_regenerator (regen : s.dev.mode = some .regenerator) : mapTribAdd q s = (s, refuse stBadState) := if_pos regen

section

variable (mode : ¬s.dev.mode = some .regenerator)
include mode

theorem mapTribAdd_badField {off : Nat} (bad : tribFieldBad q s = some off) : mapTribAdd q s = (s, badParam off) :=
  (if_neg mode).trans (by rw [bad])

variable (good : tribFieldBad q s = none)
include good

theorem mapTribAdd_judged : mapTribAdd q s = if addFull q s then (s, refuse stNoCapacity) else if addBadList q s then (s, badParam 16)
    else if addBadNc q s then (s, badParam 18) else waitMultiframe 0x0901 q (tribAdded q s) := by
  refine (if_neg mode).trans ?_
  rw [good]
  exact if_congr .rfl rfl (if_congr (by rw [Bool.not_eq_true']) rfl (if_congr (by rw [Bool.not_eq_true']) rfl rfl))

theorem mapTribAdd_full (full : addFull q s) : mapTribAdd q s = (s, refuse stNoCapacity) := (mapTribAdd_judged mode good).trans (if_pos full)

variable (room : ¬addFull q s)
include room

theorem mapTribAdd_badList (bad : addBadList q s) : mapTribAdd q s = (s, badParam 16) :=
  (mapTribAdd_judged mode good).trans ((if_neg room).trans (if_pos bad))

variable (list_ : ¬addBadList q s)
include list_

theorem mapTribAdd_badClient (bad : addBadNc q s) : mapTribAdd q s = (s, badParam 18) :=
  (mapTribAdd_judged mode good).trans ((if_neg room).trans ((if_neg list_).trans (if_pos bad)))

theorem mapTribAdd_holds (client : ¬addBadNc q s) : mapTribAdd q s = waitMultiframe 0x0901 q (tribAdded q s) :=
  (mapTribAdd_judged mode good).trans ((if_neg room).trans ((if_neg list_).trans (if_neg client)))

end

/-! ### MAP.TRIB.REMOVE -/

/-- The tributary that a request names, and whether the switch uses it (R212, R352). -/
abbrev isNamed (q : Request) (t : Trib) : Bool := t.isId (u8 q 4) (u8 q 5) (u8 q 6) (u16 q 8)
abbrev switched (q : Request) (s : State) : Prop :=
  u8 q 4 = 1 ∧ ∃ c ∈ s.map.conns, c.dst = { kind := 1, bond := u8 q 5, tpn := u16 q 8 } ∨ c.src = some { kind := 1, bond := u8 q 5, tpn := u16 q 8 }

theorem mapTribRemove_unknown (none_ : ∀ t ∈ s.map.tribs, isNamed q t = false) : mapTribRemove q s = (s, badParam 8) := by
  have missing : s.map.tribs.find? (isNamed q) = none := List.find?_eq_none.2 fun t ht => Bool.eq_false_iff.1 (none_ t ht)
  simp only [mapTribRemove, missing]

section

variable {t : Trib} (found : s.map.tribs.find? (isNamed q) = some t)
include found

theorem mapTribRemove_found : mapTribRemove q s = if switched q s then (s, refuse stBadState)
    else if t.active = false then
      (onMap (fun m => { m with tribs := m.tribs.filter fun t => !isNamed q t }) (terminate (reqContainer q) s), ok)
    else waitMultiframe 0x0902 q (onMap (fun m => { m with tribs := m.tribs.map fun t => if isNamed q t = true then { t with removing := true } else t }) s) := by
  simp only [mapTribRemove, found]
  exact if_congr (by simp [switched]) rfl (if_congr (by rw [Bool.not_eq_true']) rfl rfl)

theorem mapTribRemove_switched (used : switched q s) : mapTribRemove q s = (s, refuse stBadState) := (mapTribRemove_found found).trans (if_pos used)

variable (free : ¬switched q s)
include free

theorem mapTribRemove_unsent (unsent : t.active = false) : mapTribRemove q s =
    (onMap (fun m => { m with tribs := m.tribs.filter fun t => !isNamed q t }) (terminate (reqContainer q) s), ok) :=
  (mapTribRemove_found found).trans ((if_neg free).trans (if_pos unsent))

theorem mapTribRemove_sent (sent : t.active = true) : mapTribRemove q s =
    waitMultiframe 0x0902 q (onMap (fun m => { m with tribs := m.tribs.map fun t => if isNamed q t = true then { t with removing := true } else t }) s) :=
  (mapTribRemove_found found).trans ((if_neg free).trans (if_neg (by simp [sent])))

end

end Sys2Proof.Machine
end

section
/-! The tributary switch and rate-following bonds (09_mapping_protection.md R212 to R215, R242; 14_command_reference.md R353). -/

namespace Sys2Proof.Machine

variable {q : Request} {s v : State} {c : Conn} {dst src : SwUnit}

theorem exec_switchConnect : exec (.switchConnect q) s = .next (deskRun 0x0910 switchConnect q s) := rfl

theorem exec_switchDisconnect : exec (.switchDisconnect q) s = .next (deskRun 0x0911 switchDisconnect q s) := rfl

/-- The connection that ends in a destination. -/
abbrev connTo (dst : SwUnit) (s : State) : Option Conn := s.map.conns.find? fun c => c.dst == dst

theorem connTo_none (none_ : ∀ c ∈ s.map.conns, c.dst ≠ dst) : connTo dst s = none :=
  List.find?_eq_none.2 fun c hc => by simpa using none_ c hc

/-! ### SWITCH.CONNECT -/

/-- Source and destination carry the same kind and rate (R212). -/
abbrev carrySame (q : Request) (s : State) : Prop := ∃ a, (unitAt q 4).carries s = some a ∧ (unitAt q 8).carries s = some a

/-- A delay outside its range; a delay other than the one in force while connections stand; a source with 4 destinations (R213, R353). -/
abbrev connBadDelay (q : Request) : Prop := u32 q 12 ≠ 0 ∧ (u32 q 12 < 4000 ∨ 1000000 < u32 q 12)
abbrev connMoves (q : Request) (s : State) : Prop := u32 q 12 ≠ 0 ∧ u32 q 12 ≠ s.map.delay ∧ s.map.conns ≠ []
abbrev connFull (q : Request) (s : State) : Prop :=
  4 ≤ (s.map.conns.filter fun c => c.dst != unitAt q 8 && c.source == some (unitAt q 4)).length

/-- The delay of the device with the connection, the pages of the buffer that the first one takes, and the state that waits for the
frame boundary (R213, R215, R236). -/
abbrev connDelay (q : Request) (s : State) : Nat := if s.stk.region 3 = none ∧ u32 q 12 ≠ 0 then u32 q 12 else s.map.delay
abbrev connPages (q : Request) (s : State) : Except Nat State := if s.stk.region 3 = none then allocRegion 3 (switchPages (connDelay q s)) s else .ok s
abbrev connWaits (q : Request) (s v : State) : State :=
  onMap (fun m => { m with
    delay := connDelay q s
    conns := if (m.conns.any fun c => c.dst == unitAt q 8) = true
      then m.conns.map fun c => if c.dst = unitAt q 8 then { c with next := some (some (unitAt q 4)) } else c
      else m.conns ++ [{ dst := unitAt q 8, src := none, next := some (some (unitAt q 4)), ais := true }] })
    (beginTransition (.dest (unitAt q 8).kind (unitAt q 8).bond (unitAt q 8).tpn) 0x0910 q v)

theorem switchConnect_mode (mode : ¬s.dev.mode = some .framer) : switchConnect q s = (s, refuse stBadState) := if_pos mode

section

variable (framer : s.dev.mode = some .framer)
include framer

theorem switchConnect_noSource (none_ : (unitAt q 4).carries s = none) : switchConnect q s = (s, badParam 4) :=
  (if_neg (not_not_intro framer)).trans (by rw [none_])

theorem switchConnect_unlike (some_ : (unitAt q 4).carries s ≠ none) (unlike : ¬carrySame q s) : switchConnect q s = (s, badParam 8) := by
  refine (if_neg (not_not_intro framer)).trans ?_
  cases from_ : (unitAt q 4).carries s with
  | none => exact absurd from_ some_
  | some a =>
    cases to_ : (unitAt q 8).carries s with
    | none => rfl
    | some b => exact if_pos fun same : a = b => unlike ⟨a, from_, same ▸ to_⟩

variable (same : carrySame q s)
include same

theorem switchConnect_same : switchConnect q s = if connBadDelay q then (s, badParam 12) else if connMoves q s then (s, refuse stBadState)
    else if connFull q s then (s, refuse stNoCapacity) else match connPages q s with
      | .error e => (s, refuse e)
      | .ok v => (connWaits q s v, .later) := by
  obtain ⟨a, from_, to_⟩ := same
  refine (if_neg (not_not_intro framer)).trans ?_
  rw [from_, to_]
  refine (if_neg (not_not_intro rfl)).trans (if_congr .rfl rfl (if_congr (by simp) rfl (if_congr .rfl rfl ?_)))
  simp only [Option.isNone_iff_eq_none] <;> rfl

theorem switchConnect_badDelay (bad : connBadDelay q) : switchConnect q s = (s, badParam 12) := (switchConnect_same framer same).trans (if_pos bad)

variable (delay : ¬connBadDelay q)
include delay

theorem switchConnect_moves (moves : connMoves q s) : switchConnect q s = (s, refuse stBadState) :=
  (switchConnect_same framer same).trans ((if_neg delay).trans (if_pos moves))

variable (still : ¬connMoves q s)
include still

theorem switchConnect_full (full : connFull q s) : switchConnect q s = (s, refuse stNoCapacity) :=
  (switchConnect_same framer same).trans ((if_neg delay).trans ((if_neg still).trans (if_pos full)))

variable (room : ¬connFull q s)
include room

theorem switchConnect_begins (pages : connPages q s = .ok v) : switchConnect q s = (connWaits q s v, .later) :=
  (switchConnect_same framer same).trans ((if_neg delay).trans ((if_neg still).trans ((if_neg room).trans (by rw [pages]))))

theorem switchConnect_noPages {st : Nat} (pages : connPages q s = .error st) : switchConnect q s = (s, refuse st) :=
  (switchConnect_same framer same).trans ((if_neg delay).trans ((if_neg still).trans ((if_neg room).trans (by rw [pages]))))

end

/-! ### SWITCH.DISCONNECT -/

/-- The transition of the destination that a SWITCH.DISCONNECT names (R349). -/
abbrev disconnected (q : Request) : Fn := .dest (unitAt q 4).kind (unitAt q 4).bond (unitAt q 4).tpn

theorem switchDisconnect_unknown (none_ : ∀ c ∈ s.map.conns, c.dst ≠ unitAt q 4) : switchDisconnect q s = (s, refuse stBadState) := by
  simp only [switchDisconnect, connTo_none none_]

section

variable (found : connTo (unitAt q 4) s = some c)
include found

theorem switchDisconnect_pending (pending : c.src = none) : switchDisconnect q s =
    (onMap (fun m => { m with conns := m.conns.filter fun c => c.dst != unitAt q 4 }) (terminate (disconnected q) s), ok) := by
  simp only [switchDisconnect, found]
  exact if_pos (by rw [pending]; rfl)

theorem switchDisconnect_waits (made : c.src ≠ none) : switchDisconnect q s =
    (onMap (fun m => { m with conns := m.conns.map fun c => if c.dst = unitAt q 4 then { c with next := some none } else c })
      (beginTransition (disconnected q) 0x0911 q (terminate (disconnected q) s)), .later) := by
  simp only [switchDisconnect, found]
  exact if_neg (by rwa [Option.isNone_iff_eq_none])

end

/-! ### SWITCH_FRAME_BOUNDARY -/

/-- The bond of a destination (R212). -/
abbrev egressBond (dst : SwUnit) : FramerId := .bond ⟨dst.bond % 48, Nat.mod_lt _ (by decide)⟩

theorem exec_switchFrameBoundary {uk bond tpn : Nat} : exec (.switchFrameBoundary uk bond tpn) s =
    .next (egressSync (egressBond ⟨uk, bond, tpn⟩) (switchBoundary ⟨uk, bond, tpn⟩ s)) := rfl

/-- A change that has taken effect is told and its command completes (R215). -/
abbrev switchTold (dst : SwUnit) (s : State) : State :=
  endTransition (.dest dst.kind dst.bond dst.tpn) { status := stOk } (raise 177 (objBond dst.bond) (evtArg 0 0 dst.tpn 0) s)

theorem switchBoundary_none (none_ : ∀ c ∈ s.map.conns, c.dst ≠ dst) : switchBoundary dst s = s := by
  simp only [switchBoundary, connTo_none none_]

section

variable (found : connTo dst s = some c)
include found

theorem switchBoundary_whole (still : c.next = none) : switchBoundary dst s =
    onMap (fun m => { m with conns := m.conns.map fun c => if c.dst = dst then { c with ais := false } else c }) s := by
  simp only [switchBoundary, found, still]

theorem switchBoundary_connects (change : c.next = some (some src)) : switchBoundary dst s = switchTold dst (onMap (fun m => { m with
    changes := bump m.changes
    conns := m.conns.map fun c => if c.dst = dst then { c with src := some src, next := none, ais := true } else c }) s) := by
  simp only [switchBoundary, found, change]
  rfl

theorem switchBoundary_disconnects (change : c.next = some none) : switchBoundary dst s = switchTold dst (onMap (fun m => { m with
    changes := bump m.changes
    conns := m.conns.filter fun c => c.dst != dst
    out := { dst := dst, data := none, poison := false } :: m.out.filter fun o => o.dst != dst }) s) := by
  simp only [switchBoundary, found, change]
  rfl

end

/-! ### SWITCH_READ_DUE -/

section

variable {w seq arrival : Nat}

theorem exec_switchReadDue {uk bond tpn : Nat} {w : Fin 2147483648} : exec (.switchReadDue uk bond tpn w seq arrival) s =
    .next (switchRead ⟨uk, bond, tpn⟩ w.val seq arrival s) := rfl

/-- Before its time, and from a word outside the buffer, nothing is read (R213). -/
abbrev readEarly (w arrival : Nat) (s : State) : Prop := s.tod16 < arrival + s.map.delay * 65536 ∨ s.stk.codeAt (pageOf w) ≠ 3

theorem readRests_iff : (c.src.isNone || decide (s.tod16 < arrival + s.map.delay * 65536) || s.stk.codeAt (pageOf w) != 3) = true ↔
    c.src = none ∨ readEarly w arrival s := by
  simp [or_assoc]

/-- What is read for a destination, with the word's poison, and the state that hands it on (R213, R242). -/
abbrev switchWord (w seq : Nat) (s : State) : Delivered × State := stkRead w (some (3, seq % 256)) false false s
abbrev switchHanded (c : Conn) (dst : SwUnit) (w seq : Nat) (s : State) : State :=
  onMap (fun m => { m with
    out := { dst := dst, data := if c.ais = true then none else some (switchWord w seq s).1.data, poison := (switchWord w seq s).1.poison } ::
      m.out.filter fun o => o.dst != dst }) (switchWord w seq s).2

/-- The state with poisoned data counted for a bond's egress (R242). -/
abbrev poisonCounted (bond : Nat) (s : State) : State :=
  { s with bonds := updNat s.bonds bond fun f => { f with poisonedEgress := bump f.poisonedEgress } }

theorem switchRead_none (none_ : ∀ c ∈ s.map.conns, c.dst ≠ dst) : switchRead dst w seq arrival s = s := by
  simp only [switchRead, connTo_none none_]

variable (found : connTo dst s = some c)
include found

theorem switchRead_rests (h : c.src = none ∨ readEarly w arrival s) : switchRead dst w seq arrival s = s := by
  simp only [switchRead, found]
  exact if_pos (readRests_iff.2 h)

variable (made : c.src ≠ none) (due : ¬readEarly w arrival s)
include made due

theorem switchRead_reads : switchRead dst w seq arrival s =
    poisonOutIf (switchWord w seq s).1.poison (egressRow (getNat {} s.bonds dst.bond) dst)
      (if (switchWord w seq s).1.poison then poisonCounted dst.bond (switchHanded c dst w seq s) else switchHanded c dst w seq s) := by
  simp only [switchRead, found]
  exact if_neg (mt readRests_iff.1 (not_or.2 ⟨made, due⟩))

theorem switchRead_clean (clean : (switchWord w seq s).1.poison = false) :
    switchRead dst w seq arrival s = switchHanded c dst w seq s := by
  rw [switchRead_reads found made due, clean]
  rfl

theorem switchRead_poisoned (poison : (switchWord w seq s).1.poison = true) : switchRead dst w seq arrival s =
    poisonOutIf true (egressRow (getNat {} s.bonds dst.bond) dst) (poisonCounted dst.bond (switchHanded c dst w seq s)) := by
  rw [switchRead_reads found made due, poison, if_pos rfl]

end

/-! ### RATE_FOLLOW_STEER and RATE_HOLD_END -/

section

variable {b : Fin 48} {target : Int}

theorem exec_rateFollowSteer : exec (.rateFollowSteer b target) s = .next (rateSteer b target s) := rfl

theorem exec_rateHoldEnd : exec (.rateHoldEnd b) s = .next (rateHoldEnd b s) := rfl

/-- An update of a bond's rate is what it makes of the rate as it stands. -/
theorem follow_congr {f h : RateFollow → RateFollow} (e : f s.map.follow[b] = h s.map.follow[b]) :
    onMap (fun m => { m with follow := upd m.follow b f }) s = onMap (fun m => { m with follow := upd m.follow b h }) s := by
  rw [onMap, onMap, upd_congr e]

theorem rateSteer_other (other : rateFollowing s.bonds[b] = false) : rateSteer b target s = s := if_pos (by rw [other]; rfl)

/-- One step of 10^-6 ppm toward an offset (R214). -/
abbrev stepToward (x t : Int) : Int := if x < t then x + 1 else if t < x then x - 1 else x

/-- The rate of a rate-following bond after 1 µs, by whether it has a source (R214). -/
def RateFollow.steered (sourced : Bool) (target : Int) (r : RateFollow) : RateFollow :=
  if sourced then { offset := stepToward r.offset (max (-followLimit) (min followLimit target)), holding := false, returning := false }
  else if r.returning then { r with offset := stepToward r.offset 0 }
  else { r with holding := true }

theorem rateSteer_steers (mine : rateFollowing s.bonds[b] = true) {sourced : Bool} (source : followsSource s b = sourced) {r : RateFollow}
    (next : s.map.follow[b].steered sourced target = r) : rateSteer b target s = onMap (fun m => { m with follow := upd m.follow b fun _ => r }) s := by
  subst source next
  exact (if_neg (by rw [mine]; exact Bool.false_ne_true)).trans (follow_congr rfl)

theorem rateHoldEnd_holding (holding : s.map.follow[b].holding = true) : rateHoldEnd b s =
    onMap (fun m => { m with follow := upd m.follow b fun _ => { s.map.follow[b] with holding := false, returning := true } }) s :=
  follow_congr (if_pos holding)

theorem rateHoldEnd_other (other : s.map.follow[b].holding = false) : rateHoldEnd b s = s := by
  have same : upd s.map.follow b (fun r => if r.holding then { r with holding := false, returning := true } else r) = s.map.follow :=
    upd_id (if_neg (Bool.eq_false_iff.1 other))
  rw [rateHoldEnd, onMap, same]

end

end Sys2Proof.Machine
end

section
/-! Tributaries and their boundary, the tributary switch and rate-following bonds: the statement. -/

namespace Sys2Proof.Machine

/-- Settles O60: each clause is the rule of one function, in the order of the statement. The slot rate of a client OTUCn (log 36), that a
change is applied at once where the transmitter does not run (log 37), the containers and clients of CKIND 1 and the answer to a fifth
destination of one source (log 87), and the offsets that stand for a refusal (log 84) are the model's choices. -/
theorem mappingAndSwitch : Obligations.MappingAndSwitch := by
  refine ⟨fun r n => ⟨ceilDiv_le_iff (by decide), ceilDiv_le_iff (by decide)⟩, by decide, fun kind cont group idles s => ?_,
    fun q s run => ⟨fun regen => ?_, fun off mode bad => ?_, fun mode good full => ?_, fun mode good room bad => ?_,
      fun mode good room list_ bad => ?_, fun mode good room list_ client goes => ?_, fun mode good room list_ client rests => ?_⟩,
    fun q s run => ⟨fun none_ => ?_, fun t found => ⟨fun used => ?_, fun free unsent => ?_, fun free sent goes => ?_, fun free sent rests => ?_⟩⟩,
    fun q s run => ⟨fun mode => ?_, fun framer none_ => ?_, fun framer some_ unlike => ?_, fun framer same bad => ?_,
      fun framer same delay moves => ?_, fun framer same delay still full => ?_, fun framer same delay still room held => ?_,
      fun v framer same delay still room first pages => ?_, fun st framer same delay still room first pages => ?_⟩,
    fun q s run => ⟨fun none_ => ?_, fun c found => ⟨fun pending => ?_, fun made => ?_⟩⟩,
    fun uk bond tpn s => ⟨fun none_ => ?_, fun c found => ⟨fun still => ?_, fun src change => ?_, fun change => ?_⟩⟩,
    fun uk bond tpn w seq arrival s => ⟨fun none_ => ?_, fun c found => ⟨fun rests => ?_, fun made due clean => ?_, fun made due poison => ?_⟩⟩,
    fun b target s => ⟨fun other => ?_, fun mine source => ?_, fun mine source returns => ?_, fun mine source holds => ?_,
      fun holding => ?_, fun other => ?_⟩⟩
  · obtain ⟨u, run, conns, delay, follow, tribs⟩ := multiframeBoundary_map (kind := kind) (cont := cont) (group := group) (idles := idles) (s := s)
    refine ⟨u, run, conns, delay, follow, tribs.trans ?_⟩
    simp only [inside_decide, decide_eq_true_eq]
    rfl
  · rw [exec_mapTribAdd, deskRun_done run (mapTribAdd_regenerator regen)]
  · rw [exec_mapTribAdd, deskRun_done run (mapTribAdd_badField mode bad)]
  · rw [exec_mapTribAdd, deskRun_done run (mapTribAdd_full mode good full)]
  · rw [exec_mapTribAdd, deskRun_done run (mapTribAdd_badList mode good room bad)]
  · rw [exec_mapTribAdd, deskRun_done run (mapTribAdd_badClient mode good room list_ bad)]
  · rw [exec_mapTribAdd, deskRun_later run ((mapTribAdd_holds mode good room list_ client).trans (waitMultiframe_waits goes))]
  · rw [exec_mapTribAdd, deskRun_later run ((mapTribAdd_holds mode good room list_ client).trans (waitMultiframe_applies rests))]
  · rw [exec_mapTribRemove, deskRun_done run (mapTribRemove_unknown none_)]
  · rw [exec_mapTribRemove, deskRun_done run (mapTribRemove_switched found used)]
  · rw [exec_mapTribRemove, deskRun_done run (mapTribRemove_unsent found free unsent)]
  · rw [exec_mapTribRemove, deskRun_later run ((mapTribRemove_sent found free sent).trans (waitMultiframe_waits goes))]
  · rw [exec_mapTribRemove, deskRun_later run ((mapTribRemove_sent found free sent).trans (waitMultiframe_applies rests))]
  · rw [exec_switchConnect, deskRun_done run (switchConnect_mode mode)]
  · rw [exec_switchConnect, deskRun_done run (switchConnect_noSource framer none_)]
  · rw [exec_switchConnect, deskRun_done run (switchConnect_unlike framer some_ unlike)]
  · rw [exec_switchConnect, deskRun_done run (switchConnect_badDelay framer same bad)]
  · rw [exec_switchConnect, deskRun_done run (switchConnect_moves framer same delay moves)]
  · rw [exec_switchConnect, deskRun_done run (switchConnect_full framer same delay still full)]
  · rw [exec_switchConnect, deskRun_later run (switchConnect_begins framer same delay still room (if_neg held))]
  · rw [exec_switchConnect, deskRun_later run (switchConnect_begins framer same delay still room ((if_pos first).trans pages))]
  · rw [exec_switchConnect, deskRun_done run (switchConnect_noPages framer same delay still room ((if_pos first).trans pages))]
  · rw [exec_switchDisconnect, deskRun_done run (switchDisconnect_unknown none_)]
  · rw [exec_switchDisconnect, deskRun_done run (switchDisconnect_pending found pending)]
  · rw [exec_switchDisconnect, deskRun_later run (switchDisconnect_waits found made)]
  · rw [exec_switchFrameBoundary, switchBoundary_none none_]
  · rw [exec_switchFrameBoundary, switchBoundary_whole found still]
  · rw [exec_switchFrameBoundary, switchBoundary_connects found change]
  · rw [exec_switchFrameBoundary, switchBoundary_disconnects found change]
  · rw [exec_switchReadDue, switchRead_none none_]
  · rw [exec_switchReadDue, switchRead_rests found rests]
  · rw [exec_switchReadDue, switchRead_clean found made due clean]
  · refine ⟨poisonCounted bond (switchHanded c ⟨uk, bond, tpn⟩ w seq s), rfl, rfl, ?_⟩
    rw [exec_switchReadDue, switchRead_poisoned found made due poison]
  · rw [exec_rateFollowSteer, rateSteer_other other]
  · rw [exec_rateFollowSteer, rateSteer_steers mine source (if_pos rfl)]
    rfl
  · rw [exec_rateFollowSteer, rateSteer_steers mine source ((if_neg Bool.false_ne_true).trans (if_pos returns))]
  · rw [exec_rateFollowSteer, rateSteer_steers mine source ((if_neg Bool.false_ne_true).trans (if_neg (Bool.eq_false_iff.1 holds)))]
  · rw [exec_rateHoldEnd, rateHoldEnd_holding holding]
  · rw [exec_rateHoldEnd, rateHoldEnd_other other]

end Sys2Proof.Machine
end

section
/-! The state after reset (22_reset_bringup.md R498, R510): nothing is provisioned and every unit stands at its first value. -/

namespace Sys2Proof.Machine

variable {c : Fin 2} {l : Fin 48} {ch : Fin 4}

theorem reset_car : State.reset.car c = {} := Vector.getElem_replicate c.isLt

theorem reset_sf : State.reset.sf c = {} := Vector.getElem_replicate c.isLt

theorem reset_lane : State.reset.lanes[l] = {} := Vector.getElem_replicate l.isLt

theorem reset_chan : State.reset.chan ch = {} := Vector.getElem_replicate ch.isLt

/-- The carrier and octet domains are OFF, the pools in CLOCK_OFF, the stacks in RUN (R390). -/
theorem reset_dom : ∀ d : Fin 20, State.reset.dom d = if d.val < 8 then .off else if d.val < 16 then .clockOff else .run := by
  decide

/-- Settles O45: every array reads its first value at every index, and every other field is its value in `State.reset`. That the
device begins with RESET_N low, the moment of the reset (log 6), is the model's choice. -/
theorem resetValues : Obligations.ResetValues := by
  refine ⟨rfl, rfl, rfl, rfl, rfl, rfl, rfl, rfl, rfl, rfl, rfl, rfl, rfl, reset_dom, fun c => ?_, fun l => ?_, rfl, rfl, rfl, rfl, fun ch => ?_,
    rfl, rfl, rfl, rfl, rfl, rfl, rfl, rfl⟩
  · rw [reset_car, reset_sf]
    exact ⟨rfl, rfl, rfl, rfl, rfl⟩
  · rw [reset_lane]
  · rw [reset_chan]
    exact ⟨rfl, rfl, rfl, rfl, rfl, rfl, rfl⟩

end Sys2Proof.Machine
end

section
/-! The words of the Stacks: what reads back after a word is stored, what the tracker's work leaves of them, and what the stack
controllers' operations can touch (10_stacks.md R230 to R234, R238 to R243, R246). -/

namespace Sys2Proof.Machine

variable {α : Type} {e : State → α} {k l : Stacks} {w y : Nat} {v x : List Byte} {at_ : List Nat} {waiting : Bool} {s t : State}

theorem rising_of_wf (h : k.wf = true) : Rising k.mem := by
  simp only [Stacks.wf, Bool.and_eq_true, decide_eq_true_eq] at h
  exact h.1

theorem poisonWord_word_length (h : v.length = 72) : (poisonWord v).length = 72 := by
  simp [poisonWord, rsCheck_length, h]

/-! ### A word stored reads back, every other word as before -/

theorem sym_store_other (h : Rising k.mem) (len : v.length = 72) {a : Nat} (out : a / 72 ≠ w) : (k.store w v).sym a = k.sym a := by
  have kept : cellFind a (k.store w v).mem = cellFind a k.mem := cellFind_putList_other h (by omega)
  unfold Stacks.sym
  rw [kept]
  rfl

theorem sym_store_same (h : Rising k.mem) (len : v.length = 72) {i : Nat} (lt : i < v.length) : (k.store w v).sym (72 * w + i) = v[i] := by
  have found : cellFind (72 * w + i) (k.store w v).mem = if k.blank (pageOf w) = some v[i] then none else some v[i] :=
    cellFind_putList_in h lt
  have page : (k.store w v).blank (pageOf ((72 * w + i) / 72)) = k.blank (pageOf w) := by
    rw [show (72 * w + i) / 72 = w by omega]
    rfl
  unfold Stacks.sym
  rw [found, page]
  by_cases blank : k.blank (pageOf w) = some v[i]
  · rw [if_pos blank, blank]
  · rw [if_neg blank]

theorem word_store_same (h : Rising k.mem) (len : v.length = 72) : (k.store w v).word w = v := by
  refine List.ext_getElem (word_length.trans len.symm) fun i _ lt => ?_
  simpa [Stacks.word] using sym_store_same h len lt

theorem word_store_other (h : Rising k.mem) (len : v.length = 72) (ne : y ≠ w) : (k.store w v).word y = k.word y :=
  List.map_congr_left fun i hi => sym_store_other h len (by have := List.mem_range.1 hi; omega)

/-! ### Views of the Stacks -/

/-- The Stacks but for the tracker (R243). -/
def Stacks.untracked (k : Stacks) : Stacks := { k with tracker := [], trackerFull := false, trackAge := 0, evictions := 0, trackWb := 0 }

/-- What words read and the transactions in flight, with all else of the Stacks forgotten. -/
def Stacks.contents (k : Stacks) : Stacks :=
  { mem := k.mem, cleared := k.cleared, unwritten := k.unwritten, losses := k.losses, tags := k.tags }

theorem contents_of_untracked (h : k.untracked = l.untracked) : k.contents = l.contents :=
  (congrArg Stacks.contents h :)

theorem word_of_contents (h : k.contents = l.contents) : k.word y = l.word y :=
  (congrArg (Stacks.word · y) h :)

theorem mem_of_contents (h : k.contents = l.contents) : k.mem = l.mem :=
  (congrArg Stacks.mem h :)

theorem tags_of_contents (h : k.contents = l.contents) : k.tags = l.tags :=
  (congrArg Stacks.tags h :)

/-! ### The tracker -/

theorem trackAt_holds {i : Nat} (h : k.trackAt w = some i) : ∃ r, k.tracker.getD i none = some r := by
  obtain ⟨lt, hit, -⟩ := List.findIdx?_eq_some_iff_getElem.1 h
  rw [List.getD_eq_getElem _ none lt]
  cases e : k.tracker[i] with
  | none => simp [e] at hit
  | some r => exact ⟨r, rfl⟩

/-- `u` is `s` but for the tracker, the events and at most the corrected word `x` written back to `w`: never past a write that waits,
and always otherwise when two symbols were corrected (R243). -/
def Tracked (w : Nat) (x : List Byte) (at_ : List Nat) (waiting : Bool) (s u : State) : Prop :=
  ∃ wrote : Bool, (waiting = true → wrote = false) ∧ (at_.length = 2 → waiting = false → wrote = true) ∧
    u.stk.untracked = (if wrote then s.stk.store w x else s.stk).untracked

/-- The tracker writes a word back when `b` holds and no write to it waits. -/
theorem tracked_back {b : Bool} {u u' : State} (two : at_.length = 2 → b = true) (kept : u.stk.untracked = s.stk.untracked)
    (back : u'.stk.untracked = (if waiting then u.stk else u.stk.store w x).untracked) :
    Tracked w x at_ waiting s (if b then u' else u) := by
  have stored : (u.stk.store w x).untracked = (s.stk.store w x).untracked := (congrArg (Stacks.store · w x) kept :)
  refine ⟨b && !waiting, by rintro rfl; simp, fun h hw => by simp [two h, hw], ?_⟩
  cases b with
  | false => exact kept
  | true =>
    cases waiting with
    | false => exact back.trans stored
    | true => exact back.trans kept

theorem trackCorrection_tracked : Tracked w x at_ waiting s (trackCorrection w x at_ waiting s) := by
  unfold trackCorrection
  extract_lets sec bits rep hardT back full s2 new
  have backed : ∀ i (u : State), (back i u).stk.untracked = (if waiting then u.stk else u.stk.store w x).untracked := by
    intro i u
    cases waiting <;> rfl
  clear_value back
  split
  · next i at_w =>
    obtain ⟨r, hr⟩ := trackAt_holds at_w
    rw [hr]
    exact tracked_back (by intro two; simp [two]) rfl (backed ..)
  · split
    · cases waiting
      · simp only [Bool.not_false, Bool.and_true]
        exact tracked_back (by simp) rfl rfl
      · simp only [Bool.not_true, Bool.and_false, Bool.false_eq_true, if_false]
        exact ⟨false, fun _ => rfl, fun _ h => absurd h (by decide), rfl⟩
    · exact tracked_back (by simp) rfl (backed ..)

/-- Past a write that waits, the tracker leaves what words read and the counts of the banks. -/
theorem trackCorrection_waiting : (trackCorrection w x at_ true s).stk.untracked = s.stk.untracked := by
  obtain ⟨wrote, never, -, kept⟩ := trackCorrection_tracked (w := w) (x := x) (at_ := at_) (waiting := true) (s := s)
  rw [kept, never rfl]
  rfl

/-! ### The frame -/

/-- A view that sees neither the Stacks nor the events: all that the stack controllers can change. -/
structure StackBlind (e : State → α) : Prop where
  stk : ∀ f x, e (onStk f x) = e x := by intros; rfl
  evt : ∀ (x : State) v, e { x with evt := v } = e x := by intros; rfl

theorem Same.countBank {f : BankCtr → BankCtr} (h : Same e s t) (b : StackBlind e) : Same e s (Machine.countBank w f t) :=
  h.onStk (b.stk _)

theorem Same.writeBack (h : Same e s t) (b : StackBlind e) : Same e s (Machine.writeBack w v t) :=
  h.onStk (b.stk _)

theorem Same.raiseWord {n : Nat} (h : Same e s t) (b : StackBlind e) : Same e s (Machine.raiseWord n w t) :=
  h.raise fun _ => b.evt _ _

theorem Same.trackCorrection (h : Same e s t) (b : StackBlind e) : Same e s (Machine.trackCorrection w x at_ waiting t) := by
  unfold Machine.trackCorrection
  extract_lets sec bits rep hardT back full s2 new
  have backed : ∀ i u, Same e s u → Same e s (back i u) := fun i u hu =>
    .ite (fun _ => hu) fun _ => (hu.writeBack b).onStk (b.stk _)
  clear_value back
  have raised {c : Bool} {n ob : Nat} {a : EvtArg} {u : State} (hu : Same e s u) : Same e s (Machine.raiseIf c n ob a u) :=
    hu.raiseIf fun _ => b.evt _ _
  split
  · split
    · exact h
    · exact .ite (fun _ => backed _ _ (raised (raised (h.onStk (b.stk _))))) fun _ => raised (raised (h.onStk (b.stk _)))
  · split
    · have noted : Same e s s2 := (raised h).onStk (b.stk _)
      exact .ite (fun _ => (noted.writeBack b).onStk (b.stk _)) fun _ => noted
    · exact .ite (fun _ => backed _ _ (h.onStk (b.stk _))) fun _ => h.onStk (b.stk _)

theorem Same.stkRead {ex : Option (Nat × Nat)} {scrub : Bool} (h : Same e s t) (b : StackBlind e := by exact {}) :
    Same e s (Machine.stkRead w ex waiting scrub t).2 := by
  unfold Machine.stkRead
  extract_lets v s0 deliver checkAddr clean s1 s2
  have checked : ∀ x n u, Same e s u → Same e s (checkAddr x n u).2 := by
    intro x n u hu
    unfold checkAddr
    split
    · exact hu
    · split
      · exact hu
      · exact (hu.countBank b).raiseWord b
  have counted : Same e s s0 := h.onStk (b.stk _)
  clear_value checkAddr s0
  split
  · split
    · exact checked _ _ _ (.ite (fun _ => ((counted.onStk (b.stk _)).countBank b).onStk (b.stk _))
        fun _ => (counted.onStk (b.stk _)).countBank b)
    · exact checked _ _ _ (counted.onStk (b.stk _))
  · exact checked _ _ _ (.ite (fun _ => (((counted.countBank b).trackCorrection b).writeBack b).onStk (b.stk _))
      fun _ => (counted.countBank b).trackCorrection b)
  · exact .ite (fun _ => (counted.countBank b).raiseWord b)
      fun _ => (((counted.countBank b).raiseWord b).writeBack b).onStk (b.stk _)

/-- The state with the Stacks and the events of another: what the stack controllers leave unchanged. -/
def besidesStacks (r s : State) : State := { s with stk := r.stk, evt := r.evt }

theorem stkRead_besides {ex : Option (Nat × Nat)} {scrub : Bool} {r : State} :
    besidesStacks r (stkRead w ex waiting scrub s).2 = besidesStacks r s :=
  Same.stkRead (e := besidesStacks r) .refl

/-! ### Tags (R230) -/

/-- A transaction has taken a tag of the channel `c`. -/
def tagTaken (c : Nat) (s : State) : State :=
  onStk (fun k => { k with tags := k.tags.modify c (· + 1), tagPeak := k.tagPeak.modify c (max (k.tags.getD c 0 + 1)) }) s

theorem submit_free {r : StkReq} (h : s.stk.tags.getD (chanKey r.word) 0 < 768) : submit r s = runReq r (tagTaken (chanKey r.word) s) :=
  if_pos h

theorem submit_waits {r : StkReq} (h : 768 ≤ s.stk.tags.getD (chanKey r.word) 0) :
    submit r s = onStk (fun k => { k with tagWait := k.tagWait ++ [(chanKey r.word, r)] }) s :=
  if_neg (Nat.not_lt.2 h)

end Sys2Proof.Machine
end

section
/-! Whole-word and narrow writes, and the tags of the channels (10_stacks.md R230, R232, R237 to R241): what they store. -/

namespace Sys2Proof.Machine

variable {k : Stacks} {w off region n : Nat} {v x data : List Byte} {at_ : List Nat} {s t : State}

theorem exec_stacksRead {w : Fin 2147483648} {ex : Option (Nat × Nat)} {waiting : Bool} :
    exec (.stacksRead w ex waiting) s = .next (submit (.read w.val ex waiting) s) := rfl

theorem exec_stacksWholeWrite {w : Fin 2147483648} {seq : Nat} {unres endMark poison : Bool} :
    exec (.stacksWholeWrite w data seq region unres endMark poison) s =
      .next (submit (.write w.val data seq region unres endMark poison) s) := rfl

theorem exec_narrowWrite {w : Fin 2147483648} {off : Fin 64} :
    exec (.narrowWrite w off data) s = .next (submit (.narrow w.val off.val data (s.stk.codeAt (pageOf w.val))) s) := rfl

theorem exec_tagFreed {c : Fin 64} : exec (.tagFreed c) s = .next (tagFreed c s) := rfl

/-- Contents that differ by one word stored: that word, the others, and the tags. -/
theorem stored_of_contents {l : Stacks} (wf : k.wf = true) (len : v.length = 72) (h : l.contents = (k.store w v).contents) :
    l.word w = v ∧ (∀ y, y ≠ w → l.word y = k.word y) ∧ l.tags = k.tags :=
  ⟨(word_of_contents h).trans (word_store_same (rising_of_wf wf) len),
    fun _ ne => (word_of_contents h).trans (word_store_other (rising_of_wf wf) len ne), (tags_of_contents h :)⟩

/-! ### Narrow writes -/

/-- A word with bytes of its data replaced (R238, R239). -/
def mergedWord (off : Nat) (data : List Byte) (region : Nat) (x : List Byte) (poison : Bool) : List Byte :=
  mkWord (overlay (wData x) off data) (wSeq x) region (wUnres x) (wEnd x) poison

/-- A narrow write's word stored and its accesses counted (R253). -/
def narrowStored (w : Nat) (x : List Byte) (s : State) : State :=
  onStk (fun k =>
    { ((k.store w x).noteWrite w) with
      narrow := bump k.narrow
      bytesRead := k.bytesRead.modify (stackOfPage (pageOf w)) (satAdd · 64)
      bytesWritten := k.bytesWritten.modify (stackOfPage (pageOf w)) (satAdd · 64) }) s

/-- STACKS_PARTIAL_POISON counted and raised (R239). -/
def partialPoisoned (w : Nat) (s : State) : State :=
  raiseWord 214 w (onStk (fun k => { k with partialPoison := bump k.partialPoison }) s)

theorem stkNarrow_clean (h : rsDecode (s.stk.word w) = .clean) (clean : wPoison (s.stk.word w) = false) :
    stkNarrow w off data region s = narrowStored w (mergedWord off data region (s.stk.word w) false) s := by
  simp only [stkNarrow, h, clean, Bool.false_eq_true, if_false]
  rfl

theorem stkNarrow_poisoned (h : rsDecode (s.stk.word w) = .clean) (poison : wPoison (s.stk.word w) = true) :
    stkNarrow w off data region s = partialPoisoned w (narrowStored w (mergedWord off data region (s.stk.word w) true) s) := by
  simp only [stkNarrow, h, poison, if_true]
  rfl

theorem stkNarrow_corrected (h : rsDecode (s.stk.word w) = .corrected x at_) :
    stkNarrow w off data region s =
      let u := narrowStored w (mergedWord off data region x (wPoison x))
        (trackCorrection w x at_ true (countBank w (fun b => { b with corrected := bump b.corrected }) s))
      if wPoison x then partialPoisoned w u else u := by
  simp only [stkNarrow, h]
  rfl

theorem stkNarrow_uncorrectable (h : rsDecode (s.stk.word w) = .uncorrectable) :
    stkNarrow w off data region s = partialPoisoned w (raiseWord 212 w (narrowStored w (mergedWord off data region (s.stk.word w) true)
      (countBank w (fun b => { b with uncorr := bump b.uncorr }) s))) := by
  simp only [stkNarrow, h]
  rfl

/-- The word that a narrow write stores, by what decoding finds. -/
def narrowWord (w off : Nat) (data : List Byte) (region : Nat) (k : Stacks) : List Byte :=
  match rsDecode (k.word w) with
  | .clean => mergedWord off data region (k.word w) (wPoison (k.word w))
  | .corrected x _ => mergedWord off data region x (wPoison x)
  | .uncorrectable => mergedWord off data region (k.word w) true

theorem narrowWord_length : (narrowWord w off data region k).length = 72 := by
  unfold narrowWord
  split <;> exact mkWord_length

theorem narrowStored_contents {u : State} (h : u.stk.contents = s.stk.contents) :
    (narrowStored w v u).stk.contents = (s.stk.store w v).contents :=
  (congrArg (fun z => (Stacks.store z w v).contents) h :)

theorem stkNarrow_contents :
    (stkNarrow w off data region s).stk.contents = (s.stk.store w (narrowWord w off data region s.stk)).contents := by
  unfold narrowWord
  split
  · next h =>
    cases poison : wPoison (s.stk.word w) with
    | false => rw [stkNarrow_clean h poison]; rfl
    | true => rw [stkNarrow_poisoned h poison]; rfl
  · next x at_ h =>
    have stored : (narrowStored w (mergedWord off data region x (wPoison x))
        (trackCorrection w x at_ true (countBank w (fun b => { b with corrected := bump b.corrected }) s))).stk.contents =
          (s.stk.store w (mergedWord off data region x (wPoison x))).contents :=
      narrowStored_contents (contents_of_untracked trackCorrection_waiting :)
    rw [stkNarrow_corrected h]
    split <;> exact stored
  · next h => rw [stkNarrow_uncorrectable h]; rfl

theorem stkWrite_stores {seq : Nat} {unres endMark poison : Bool} (wf : s.stk.wf = true) :
    (stkWrite w data seq region unres endMark poison s).stk.word w = mkWord data seq region unres endMark poison ∧
    (∀ y, y ≠ w → (stkWrite w data seq region unres endMark poison s).stk.word y = s.stk.word y) ∧
    (stkWrite w data seq region unres endMark poison s).stk.tags = s.stk.tags :=
  stored_of_contents wf mkWord_length rfl

theorem stkNarrow_stores (wf : s.stk.wf = true) :
    (stkNarrow w off data region s).stk.word w = narrowWord w off data region s.stk ∧
    (∀ y, y ≠ w → (stkNarrow w off data region s).stk.word y = s.stk.word y) ∧ (stkNarrow w off data region s).stk.tags = s.stk.tags :=
  stored_of_contents wf narrowWord_length stkNarrow_contents

theorem Same.stkNarrow {α : Type} {e : State → α} (h : Same e s t) (b : StackBlind e := by exact {}) :
    Same e s (Machine.stkNarrow w off data region t) := by
  have stored {v u} (hu : Same e s u) : Same e s (narrowStored w v u) := hu.onStk (b.stk _)
  have poisoned {u} (hu : Same e s u) : Same e s (partialPoisoned w u) := (hu.onStk (b.stk _)).raiseWord b
  cases decode : rsDecode (t.stk.word w) with
  | clean =>
    cases poison : wPoison (t.stk.word w) with
    | false => exact stkNarrow_clean decode poison ▸ stored h
    | true => exact stkNarrow_poisoned decode poison ▸ poisoned (stored h)
  | corrected x at_ =>
    rw [stkNarrow_corrected decode]
    exact .ite (fun _ => poisoned (stored ((h.countBank b).trackCorrection b))) fun _ => stored ((h.countBank b).trackCorrection b)
  | uncorrectable => exact stkNarrow_uncorrectable decode ▸ poisoned ((stored (h.countBank b)).raiseWord b)

theorem stkNarrow_besides {r : State} : besidesStacks r (stkNarrow w off data region s) = besidesStacks r s :=
  Same.stkNarrow (e := besidesStacks r) .refl

/-! ### The events of a narrow write -/

theorem setBit_kept {m : Nat} {b : BitVec 512} (h : b.getLsbD m = true) : (setBit b n).getLsbD m = true := by
  simp [setBit, h]

theorem occur_kept {m tick ob : Nat} {e : EventTree} {st : Stamp} {a : EvtArg} (h : e.status.getLsbD m = true) :
    (e.occur st tick n ob a).status.getLsbD m = true := by
  have core {e : EventTree} {n ob : Nat} {a : EvtArg} (h : e.status.getLsbD m = true) : (e.occurCore st n ob a).1.status.getLsbD m = true := by
    rw [occurCore_status]
    exact setBit_kept h
  unfold EventTree.occur
  split
  · dsimp only
    split
    · exact core (core h)
    · exact core h
  · exact h

/-- An event raised leaves every source that is pending so. -/
theorem raise_kept {m ob : Nat} {a : EvtArg} (h : s.evt.status.getLsbD m = true) : (raise n ob a s).evt.status.getLsbD m = true := by
  rw [raise_evt]
  unfold EventTree.raiseEvt
  split
  · exact occur_kept h
  · split
    · exact occur_kept h
    · exact h

/-- An event that a rule limits is pending once raised, when none was raised for its scope within the last second (R516). -/
theorem raise_due {sc ob : Nat} {a : EvtArg} (hl : limitScope n ob a = some sc) (due : s.evt.limitOk s.dev.ticks n sc = true)
    (hd : eventDefined n = true) (hn : n < 512) : (raise n ob a s).evt.status.getLsbD n = true := by
  rw [raise_evt]
  simp only [EventTree.raiseEvt, hl, due, if_true]
  exact occur_status hd hn

theorem partialPoisoned_status : (partialPoisoned w s).evt.status.getLsbD 214 = true :=
  raise_status rfl rfl (by decide)

/-- A clean word: its own poison mark is kept, and is the one thing told (R239). -/
theorem narrow_clean (h : rsDecode (s.stk.word w) = .clean) :
    narrowWord w off data region s.stk = mergedWord off data region (s.stk.word w) (wPoison (s.stk.word w)) ∧
    (wPoison (s.stk.word w) = true → (stkNarrow w off data region s).evt.status.getLsbD 214 = true) ∧
    (wPoison (s.stk.word w) = false → (stkNarrow w off data region s).evt = s.evt) := by
  refine ⟨by simp only [narrowWord, h], fun poison => ?_, fun clean => ?_⟩
  · rw [stkNarrow_poisoned h poison]
    exact partialPoisoned_status
  · rw [stkNarrow_clean h clean]
    rfl

theorem narrow_corrected (h : rsDecode (s.stk.word w) = .corrected x at_) :
    narrowWord w off data region s.stk = mergedWord off data region x (wPoison x) ∧
    (wPoison x = true → (stkNarrow w off data region s).evt.status.getLsbD 214 = true) := by
  refine ⟨by simp only [narrowWord, h], fun poison => ?_⟩
  rw [stkNarrow_corrected h]
  dsimp only
  rw [if_pos poison]
  exact partialPoisoned_status

theorem narrow_uncorrectable (h : rsDecode (s.stk.word w) = .uncorrectable) :
    narrowWord w off data region s.stk = mergedWord off data region (s.stk.word w) true ∧
    (stkNarrow w off data region s).evt.status.getLsbD 214 = true ∧
    (s.evt.limitOk s.dev.ticks 212 (objWord w / 256 % 256) = true → (stkNarrow w off data region s).evt.status.getLsbD 212 = true) := by
  refine ⟨by simp only [narrowWord, h], ?_, fun due => ?_⟩
  · rw [stkNarrow_uncorrectable h]
    exact partialPoisoned_status
  · rw [stkNarrow_uncorrectable h]
    exact raise_kept (raise_due rfl due rfl (by decide))

/-! ### Freed tags -/

theorem tagFreed_none {c : Fin 64} (h : ∀ x ∈ s.stk.tagWait, x.1 ≠ c.val) :
    tagFreed c s = onStk (fun k => { k with tags := k.tags.modify c.val (· - 1) }) s := by
  have none_ : s.stk.tagWait.find? (fun x => x.1 == c.val) = none := List.find?_eq_none.2 (by simpa using h)
  simp only [tagFreed, none_]

theorem tagFreed_oldest {c : Fin 64} {a b : List (Nat × StkReq)} {r : StkReq} (waits : s.stk.tagWait = a ++ (c.val, r) :: b)
    (first : ∀ x ∈ a, x.1 ≠ c.val) : tagFreed c s = runReq r (onStk (fun k => { k with tagWait := a ++ b }) s) := by
  have first : ∀ x ∈ a, ¬(x.1 == c.val) = true := by simpa using first
  have found : s.stk.tagWait.find? (fun x => x.1 == c.val) = some (c.val, r) := by
    rw [waits, List.find?_append, List.find?_eq_none.2 first]
    simp
  have rest : s.stk.tagWait.eraseP (fun x => x.1 == c.val) = a ++ b := by
    rw [waits, List.eraseP_append_right _ first]
    simp
  simp only [tagFreed, found, onStk, rest]

/-- Settles O6: both writes store one word over the contents (`stored_of_contents`), with or without a tag to take, and a freed tag
goes to the first that waits. -/
theorem stacksWords : Obligations.StacksWords := by
  refine ⟨fun w s wf free => ⟨fun data seq region unres endMark poison => ?_, fun off data => ?_⟩,
    fun w s full => ⟨fun data seq region unres endMark poison => ?_, fun off data => ?_, fun ex waiting => ?_⟩,
    fun c s => ⟨fun none_ => ?_, fun a r b waits first => ?_⟩⟩
  · obtain ⟨same, others, tags⟩ := stkWrite_stores (s := tagTaken (chanKey w) s) (w := w.val) (data := data) (seq := seq) (region := region)
      (unres := unres) (endMark := endMark) (poison := poison) wf
    rw [exec_stacksWholeWrite, submit_free (r := .write w.val _ _ _ _ _ _) free]
    exact ⟨_, rfl, same, others, rfl, tags⟩
  · obtain ⟨same, others, tags⟩ := stkNarrow_stores (s := tagTaken (chanKey w) s) (w := w.val) (off := off.val) (data := data)
      (region := s.stk.codeAt (pageOf w)) wf
    rw [exec_narrowWrite, submit_free (r := .narrow w.val _ _ _) free]
    refine ⟨_, rfl, others, stkNarrow_besides (r := s), tags, fun clean => ?_, fun x l corrected => ?_, fun lost => ?_⟩
    · exact And.imp same.trans id (narrow_clean clean)
    · exact And.imp same.trans id (narrow_corrected corrected)
    · exact And.imp same.trans id (narrow_uncorrectable lost)
  · rw [exec_stacksWholeWrite, submit_waits (r := .write w.val _ _ _ _ _ _) full]
    rfl
  · rw [exec_narrowWrite, submit_waits (r := .narrow w.val _ _ _) full]
    rfl
  · rw [exec_stacksRead, submit_waits (r := .read w.val _ _) full]
    rfl
  · rw [exec_tagFreed, tagFreed_none none_]
  · rw [exec_tagFreed, tagFreed_oldest waits first]

end Sys2Proof.Machine
end

section
/-! Reads of the Stacks and of the scrubber (10_stacks.md R240 to R244): what they deliver, count and write back. -/

namespace Sys2Proof.Machine

variable {w rg sq : Nat} {x : List Byte} {at_ : List Nat} {waiting scrub : Bool} {ex : Option (Nat × Nat)} {s : State}

theorem exec_scrubRead : exec (.scrubRead waiting) s = .next (scrubRead waiting s) := rfl

/-! ### What a read does, by what decoding finds -/

/-- What a read delivers of the word `x` (R240). -/
def deliveredOf (x : List Byte) (outcome : Nat) (poison : Bool) : Delivered :=
  { data := wData x, poison := poison, outcome := outcome, unres := wUnres x, endMark := wEnd x }

/-- A read of 64 bytes counted (R253). -/
def readCounted (w : Nat) (s : State) : State :=
  onStk (fun k => { k with bytesRead := k.bytesRead.modify (stackOfPage (pageOf w)) (satAdd · 64) }) s

/-- A read that finds no symbol wrong frees the word's tracker entry unless it is HARD (R243). -/
def cleanRead (w : Nat) (s : State) : State :=
  onStk (fun k => k.freeTracks fun t => t.word == w && !t.hard) (readCounted w s)

/-- A corrected read counted in the word's bank (R240). -/
def correctedCounted (w : Nat) (s : State) : State :=
  countBank w (fun b => { b with corrected := bump b.corrected }) (readCounted w s)

/-- A read that cannot be corrected, counted and told (R241). -/
def lostRead (w : Nat) (s : State) : State :=
  raiseWord 212 w (countBank w (fun b => { b with uncorr := bump b.uncorr }) (readCounted w s))

/-- The word that a read could not correct, written back with the poison mark (R241). -/
def poisonBack (w : Nat) (s : State) : State :=
  onStk (fun k => { k with poisonWb := bump k.poisonWb }) (writeBack w (poisonWord (s.stk.word w)) (lostRead w s))

theorem cleanRead_mem : (cleanRead w s).stk.mem = s.stk.mem := rfl

theorem stkRead_clean (h : rsDecode (s.stk.word w) = .clean) :
    stkRead w none waiting false s = (deliveredOf (s.stk.word w) 0 (wPoison (s.stk.word w)),
      if wPoison (s.stk.word w) then countBank w (fun b => { b with poisonedReads := bump b.poisonedReads }) (cleanRead w s)
      else cleanRead w s) := by
  cases poison : wPoison (s.stk.word w) <;>
  · simp only [stkRead, h, poison]
    rfl

theorem stkRead_expected (h : rsDecode (s.stk.word w) = .clean) (clean : wPoison (s.stk.word w) = false) :
    stkRead w (some (rg, sq)) waiting false s =
      if wRegion (s.stk.word w) = rg ∧ wSeq (s.stk.word w) = sq then (deliveredOf (s.stk.word w) 0 false, cleanRead w s)
      else (deliveredOf (s.stk.word w) 0 true,
        raiseWord 213 w (countBank w (fun b => { b with addrCheck := bump b.addrCheck }) (cleanRead w s))) := by
  simp only [stkRead, h, clean]
  rfl

theorem stkRead_corrected (h : rsDecode (s.stk.word w) = .corrected x at_) :
    stkRead w none waiting false s = (deliveredOf x 1 (wPoison x),
      trackCorrection w x at_ waiting (correctedCounted w s)) := by
  simp only [stkRead, h]
  rfl

theorem stkRead_uncorrectable (h : rsDecode (s.stk.word w) = .uncorrectable) :
    stkRead w ex waiting scrub s = (deliveredOf (s.stk.word w) 2 true, if waiting then lostRead w s else poisonBack w s) := by
  simp only [stkRead, h]
  rfl

/-- A clean read changes the Stacks alone, and not their memory. -/
theorem stkRead_clean_state (h : rsDecode (s.stk.word w) = .clean) :
    ∃ k : Stacks, (stkRead w none waiting false s).2 = { s with stk := k } ∧ k.mem = s.stk.mem := by
  rw [stkRead_clean h]
  split
  · exact ⟨(countBank w (fun b => { b with poisonedReads := bump b.poisonedReads }) (cleanRead w s)).stk, rfl, cleanRead_mem (w := w)⟩
  · exact ⟨(cleanRead w s).stk, rfl, cleanRead_mem⟩

/-! ### The counts of a bank -/

theorem lookupD_putKey {β : Type} {d v : β} {n : Nat} (l : List (Nat × β)) : lookupD d n (putKey n v l) = v := by
  induction l with
  | nil => simp [putKey, lookupD]
  | cons y r ih =>
    unfold putKey
    split
    · simp [lookupD]
    · split
      · simp [lookupD]
      · next ne => simp [lookupD, ne, ih]

theorem countBank_bank {f : BankCtr → BankCtr} :
    lookupD {} (bankKey w) (countBank w f s).stk.banks = f (lookupD {} (bankKey w) s.stk.banks) :=
  lookupD_putKey s.stk.banks

/-! ### Reads -/

/-- A read done: its data and outcome stand at the port (R240). -/
def readDone (d : Delivered × State) : State :=
  onStk (fun k => { k with out := some (d.1.data, if d.1.poison && d.1.outcome != 2 then 3 else d.1.outcome) }) d.2

theorem exec_stacksRead_free {w : Fin 2147483648} (free : s.stk.tags.getD (chanKey w) 0 < 768) :
    exec (.stacksRead w ex waiting) s = .next (readDone (stkRead w ex waiting false (tagTaken (chanKey w) s))) := by
  rw [exec_stacksRead, submit_free (r := .read w.val _ _) free]
  rfl

variable {d : Delivered × State} {y : Nat}

theorem readDone_besides {r : State} : besidesStacks r (readDone d) = besidesStacks r d.2 := rfl

theorem readDone_word : (readDone d).stk.word y = d.2.stk.word y :=
  word_of_contents (k := (readDone d).stk) (l := d.2.stk) rfl

theorem readDone_banks : (readDone d).stk.banks = d.2.stk.banks := rfl

theorem readDone_mem : (readDone d).stk.mem = d.2.stk.mem := rfl

theorem readDone_out : (readDone d).stk.out = some (d.1.data, if d.1.poison && d.1.outcome != 2 then 3 else d.1.outcome) := rfl

theorem readDone_clean (h : rsDecode (s.stk.word w) = .clean) :
    (readDone (stkRead w none waiting false s)).stk.mem = s.stk.mem ∧ (readDone (stkRead w none waiting false s)).evt = s.evt ∧
    (∀ k, { readDone (stkRead w none waiting false s) with stk := k } = { s with stk := k }) ∧
    (readDone (stkRead w none waiting false s)).stk.out = some (wData (s.stk.word w), if wPoison (s.stk.word w) then 3 else 0) := by
  obtain ⟨k, state, mem⟩ := stkRead_clean_state (waiting := waiting) h
  refine ⟨?_, ?_, ?_, ?_⟩
  · rw [readDone_mem, state]
    exact mem
  · rw [readDone, state]
    rfl
  · intro l
    rw [readDone, state]
    rfl
  · rw [readDone_out, stkRead_clean h]
    cases wPoison (s.stk.word w) <;> rfl

theorem readDone_corrected (h : rsDecode (s.stk.word w) = .corrected x at_) :
    (readDone (stkRead w none waiting false s)).stk.out = some (wData x, if wPoison x then 3 else 1) := by
  rw [readDone_out, stkRead_corrected h]
  cases wPoison x <;> rfl

theorem readDone_uncorrectable (h : rsDecode (s.stk.word w) = .uncorrectable) :
    (readDone (stkRead w none waiting false s)).stk.out = some (wData (s.stk.word w), 2) := by
  rw [readDone_out, stkRead_uncorrectable h]
  rfl

/-- What the tracker's work at most writes back (R243). -/
theorem tracked_stores {u : State} (wf : s.stk.wf = true) (len : x.length = 72) (h : Tracked w x at_ waiting s u) :
    u.stk.banks = s.stk.banks ∧ (∀ y, y ≠ w → u.stk.word y = s.stk.word y) ∧ (u.stk.word w = s.stk.word w ∨ u.stk.word w = x) ∧
    (at_.length = 2 → waiting = false → u.stk.word w = x) ∧ (waiting = true → u.stk.mem = s.stk.mem) := by
  obtain ⟨wrote, never, always, kept⟩ := h
  cases wrote with
  | false =>
    have kept : u.stk.untracked = s.stk.untracked := kept
    have contents := contents_of_untracked kept
    exact ⟨(congrArg Stacks.banks kept :), fun y _ => word_of_contents contents, .inl (word_of_contents contents),
      fun two free => absurd (always two free) Bool.false_ne_true, fun _ => mem_of_contents contents⟩
  | true =>
    have kept : u.stk.untracked = (s.stk.store w x).untracked := kept
    obtain ⟨same, others, -⟩ := stored_of_contents wf len (contents_of_untracked kept)
    exact ⟨(congrArg Stacks.banks kept :), others, .inr same, fun _ _ => same, fun waits => absurd (never waits) Bool.noConfusion⟩

theorem correctedCounted_word {y : Nat} : (correctedCounted w s).stk.word y = s.stk.word y := rfl

theorem correctedCounted_mem : (correctedCounted w s).stk.mem = s.stk.mem := rfl

theorem correctedCounted_bank : (lookupD {} (bankKey w) (correctedCounted w s).stk.banks).corrected =
    bump (lookupD {} (bankKey w) s.stk.banks).corrected :=
  congrArg BankCtr.corrected (countBank_bank (w := w) (f := fun b => { b with corrected := bump b.corrected }) (s := readCounted w s))

/-- A corrected word is counted in its bank and at most written back (R240, R243). -/
theorem stkRead_corrected_stores (wf : s.stk.wf = true) (h : rsDecode (s.stk.word w) = .corrected x at_) :
    let t := (stkRead w none waiting false s).2
    (lookupD {} (bankKey w) t.stk.banks).corrected = bump (lookupD {} (bankKey w) s.stk.banks).corrected ∧
    (∀ y, y ≠ w → t.stk.word y = s.stk.word y) ∧ (t.stk.word w = s.stk.word w ∨ t.stk.word w = x) ∧
    (at_.length = 2 → waiting = false → t.stk.word w = x) ∧ (waiting = true → t.stk.mem = s.stk.mem) := by
  have wf : (correctedCounted w s).stk.wf = true := wf
  obtain ⟨banks, stores⟩ := tracked_stores wf ((rsDecode_length h).trans word_length)
    (trackCorrection_tracked (w := w) (at_ := at_) (waiting := waiting))
  rw [stkRead_corrected h]
  simp only [correctedCounted_word, correctedCounted_mem] at stores
  refine ⟨?_, stores⟩
  dsimp only
  rw [banks, correctedCounted_bank]

theorem writeBack_contents {u : State} {v : List Byte} (h : u.stk.contents = s.stk.contents) :
    (writeBack w v u).stk.contents = (s.stk.store w v).contents :=
  (congrArg (fun z => (Stacks.store z w v).contents) h :)

theorem lostRead_bank : (lookupD {} (bankKey w) (lostRead w s).stk.banks).uncorr = bump (lookupD {} (bankKey w) s.stk.banks).uncorr :=
  congrArg BankCtr.uncorr (countBank_bank (w := w) (f := fun b => { b with uncorr := bump b.uncorr }) (s := readCounted w s))

theorem lostRead_contents : (lostRead w s).stk.contents = s.stk.contents := rfl

theorem poisonCounted_contents {u : State} :
    (onStk (fun k => { k with poisonWb := bump k.poisonWb }) u).stk.contents = u.stk.contents := rfl

theorem lostRead_word {y : Nat} : (lostRead w s).stk.word y = s.stk.word y :=
  word_of_contents lostRead_contents

theorem poisonBack_banks : (poisonBack w s).stk.banks = (lostRead w s).stk.banks := rfl

theorem poisonBack_contents : (poisonBack w s).stk.contents = (s.stk.store w (poisonWord (s.stk.word w))).contents :=
  (poisonCounted_contents (u := writeBack w (poisonWord (s.stk.word w)) (lostRead w s))).trans (writeBack_contents lostRead_contents)

/-- A word that cannot be corrected is counted in its bank, and takes the poison mark unless a write to it waits (R241). -/
theorem stkRead_uncorrectable_stores (wf : s.stk.wf = true) (h : rsDecode (s.stk.word w) = .uncorrectable) :
    let t := (stkRead w ex waiting scrub s).2
    (lookupD {} (bankKey w) t.stk.banks).uncorr = bump (lookupD {} (bankKey w) s.stk.banks).uncorr ∧
    (∀ y, y ≠ w → t.stk.word y = s.stk.word y) ∧ t.stk.word w = if waiting then s.stk.word w else poisonWord (s.stk.word w) := by
  rw [stkRead_uncorrectable h]
  cases waiting with
  | false =>
    simp only [Bool.false_eq_true, if_false, poisonBack_banks]
    obtain ⟨same, others, -⟩ := stored_of_contents wf (poisonWord_word_length word_length) (poisonBack_contents (w := w) (s := s))
    exact ⟨lostRead_bank, others, same⟩
  | true =>
    simp only [if_true, lostRead_word]
    exact ⟨lostRead_bank, fun _ _ => trivial, trivial⟩

/-- A queue reader's clean read of a word that carries no mark (R240). -/
theorem stkRead_expected_checks (h : rsDecode (s.stk.word w) = .clean) (clean : wPoison (s.stk.word w) = false) :
    let t := readDone (stkRead w (some (rg, sq)) waiting false s)
    t.stk.mem = s.stk.mem ∧ if wRegion (s.stk.word w) = rg ∧ wSeq (s.stk.word w) = sq
      then t.stk.out = some (wData (s.stk.word w), 0) ∧
        (lookupD {} (bankKey w) t.stk.banks).addrCheck = (lookupD {} (bankKey w) s.stk.banks).addrCheck
      else t.stk.out = some (wData (s.stk.word w), 3) ∧
        (lookupD {} (bankKey w) t.stk.banks).addrCheck = bump (lookupD {} (bankKey w) s.stk.banks).addrCheck := by
  rw [stkRead_expected h clean]
  simp only [readDone_mem, readDone_out, readDone_banks]
  split
  · exact ⟨cleanRead_mem, rfl, rfl⟩
  · exact ⟨cleanRead_mem (w := w) (s := s), rfl,
      congrArg BankCtr.addrCheck (countBank_bank (w := w) (f := fun b => { b with addrCheck := bump b.addrCheck }) (s := cleanRead w s))⟩

/-! ### The scrubber (R244) -/

theorem scrubRead_off (h : s.stk.initialised = false ∨ getPar s .r252 objDevice 0x40 ≠ 1) : scrubRead waiting s = s := by
  refine if_neg fun on => ?_
  simp only [Bool.and_eq_true, beq_iff_eq] at on
  rcases h with h | h
  · simp [h] at on
  · exact h on.2

/-- The next word depends on the Accession log alone. -/
theorem nextScrub_log {k l : Stacks} (h : k.log = l.log) (n : Nat) : nextScrub k n w = nextScrub l n w := by
  have retired (p : Nat) : k.retired p = l.retired p := by rw [Stacks.retired, Stacks.retired, h]
  induction n generalizing w with
  | zero => rfl
  | succ n ih => simp only [nextScrub, retired, ih]

/-- The scrubber's place. -/
def scrubbedTo (n : Nat) (s : State) : State := onStk (fun k => { k with scrubPos := n }) s

theorem scrubbedTo_besides {n : Nat} {r : State} : besidesStacks r (scrubbedTo n s) = besidesStacks r s := rfl

theorem scrubbedTo_scrubPos {n : Nat} : (scrubbedTo n s).stk.scrubPos = n := rfl

theorem scrubbedTo_mem {n : Nat} : (scrubbedTo n s).stk.mem = s.stk.mem := rfl

theorem scrubRead_next (init : s.stk.initialised = true) (on : getPar s .r252 objDevice 0x40 = 1)
    (next : nextScrub s.stk 65537 s.stk.scrubPos = some w) :
    scrubRead waiting s = scrubbedTo (w + 1) (stkRead w none waiting true s).2 := by
  simp only [scrubRead, init, on, next, beq_self_eq_true, Bool.and_self, if_true, scrubbedTo]

/-- The pass has ended past the last word and the next one begins. -/
def scrubPassed (s : State) : State := onStk (fun k => { k with scrubPos := 0, scrubPasses := bump k.scrubPasses }) s

theorem scrubRead_wraps (init : s.stk.initialised = true) (on : getPar s .r252 objDevice 0x40 = 1)
    (past : nextScrub s.stk 65537 s.stk.scrubPos = none) (next : nextScrub s.stk 65537 0 = some w) :
    scrubRead waiting s = scrubbedTo (w + 1) (stkRead w none waiting true (scrubPassed s)).2 := by
  have again : nextScrub (scrubPassed s).stk 65537 0 = some w := (nextScrub_log (k := (scrubPassed s).stk) (l := s.stk) rfl _).trans next
  unfold scrubPassed at again ⊢
  simp only [scrubRead, init, on, past, again, beq_self_eq_true, Bool.and_self, if_true, scrubbedTo]

/-- Settles O7: a read by what decoding finds, over the state that has taken the tag; the scrubber by its next word. -/
theorem stacksReads : Obligations.StacksReads := by
  refine ⟨fun w waiting s wf free => ⟨fun clean => ?_, fun x l corrected => ?_, fun lost => ?_, fun rg sq clean plain => ?_⟩,
    fun waiting s => ⟨fun off => ?_, fun init on => ⟨fun w next => ?_, fun past w next => ?_⟩⟩⟩
  · obtain ⟨mem, evt, frame, out⟩ := readDone_clean (s := tagTaken (chanKey w) s) (w := w.val) (waiting := waiting) clean
    rw [exec_stacksRead_free free]
    exact ⟨_, rfl, mem, evt, frame s.stk, out⟩
  · obtain ⟨counted, stores⟩ := stkRead_corrected_stores (s := tagTaken (chanKey w) s) (w := w.val) (waiting := waiting) wf corrected
    rw [exec_stacksRead_free free]
    refine ⟨_, rfl, (readDone_besides (r := s)).trans stkRead_besides, readDone_corrected (s := tagTaken (chanKey w) s) corrected, ?_⟩
    simp only [readDone_word, readDone_banks, readDone_mem]
    exact ⟨counted, stores⟩
  · obtain ⟨counted, stores⟩ := stkRead_uncorrectable_stores (s := tagTaken (chanKey w) s) (w := w.val) (ex := none) (waiting := waiting)
      (scrub := false) wf lost
    rw [exec_stacksRead_free free]
    refine ⟨_, rfl, (readDone_besides (r := s)).trans stkRead_besides, readDone_uncorrectable (s := tagTaken (chanKey w) s) lost, ?_⟩
    simp only [readDone_word, readDone_banks]
    exact ⟨counted, stores⟩
  · rw [exec_stacksRead_free free]
    exact ⟨_, rfl, stkRead_expected_checks (s := tagTaken (chanKey w) s) (w := w.val) clean plain⟩
  · rw [exec_scrubRead, scrubRead_off off]
  · rw [exec_scrubRead, scrubRead_next init on next]
    exact ⟨_, rfl, scrubbedTo_scrubPos, scrubbedTo_mem, (scrubbedTo_besides (r := s)).trans stkRead_besides⟩
  · rw [exec_scrubRead, scrubRead_wraps init on past next]
    rfl

end Sys2Proof.Machine
end

section
/-! Reads and writes through the aperture (10_stacks.md R250, R251; 16_power.md R386): refused, and inside one word. -/

namespace Sys2Proof.Machine

variable {off n w acc : Nat} {bs : List Byte} {wr denied : Bool} {s : State}

theorem exec_apertureRead {off : Fin 67108864} {n : Fin 4097} : exec (.apertureRead off n) s = .next (apertureRead off.val n.val s) := rfl

theorem exec_apertureWrite {off : Fin 67108864} : exec (.apertureWrite off bs) s = .next (apertureWrite off.val (bs.take 4096) s) := rfl

/-- The aperture is enabled, and its path served, outside SLEEP (R250, R386). -/
def apOpen (s : State) : Prop := s.pwr.st ≠ .sleep ∧ s.ap.en = true ∧ pathServed s .bar0 = true

theorem apClosed_iff : (decide (s.pwr.st = .sleep) || !s.ap.en || !pathServed s .bar0) = true ↔ ¬apOpen s := by
  unfold apOpen
  cases s.ap.en <;> cases pathServed s .bar0 <;> simp

/-! ### Refused accesses -/

theorem apRefuse_ap : (apRefuse w wr denied s).ap =
    { s.ap with denied := s.ap.denied || denied, retired := s.ap.retired || !denied, lastWord := w, lastWrite := wr } := by
  cases denied <;> simp [apRefuse, raiseWord, apNote]

theorem apRefuse_status : (apRefuse w wr denied s).evt.status.getLsbD 211 = true :=
  raise_status rfl rfl (by decide)

theorem apRefuse_frame {a : Aperture} {e : EventTree} : { apRefuse w wr denied s with ap := a, evt := e } = { s with ap := a, evt := e } := rfl

theorem apertureRead_closed (h : ¬apOpen s) : apertureRead off n s = { s with ap := { s.ap with out := none, outEp := false } } :=
  if_pos (apClosed_iff.2 h)

theorem apertureWrite_closed (h : ¬apOpen s) : apertureWrite off bs s = s :=
  if_pos (apClosed_iff.2 h)

theorem apertureRead_stops (h : apOpen s) (stop : apStop s 0 (apertureWords s off n) = some (w, denied)) :
    apertureRead off n s = { apRefuse w false denied s with ap := { (apRefuse w false denied s).ap with out := none, outEp := false } } := by
  rw [apertureRead, if_neg (fun e => apClosed_iff.1 e h)]
  simp only [stop]

theorem apertureWrite_stops (h : apOpen s) (stop : apStop s 1 (apertureWords s off bs.length) = some (w, denied)) :
    apertureWrite off bs s = apRefuse w true denied s := by
  rw [apertureWrite, if_neg (fun e => apClosed_iff.1 e h)]
  simp only [stop]

/-! ### Accesses inside one word -/

theorem apertureWords_one (some_ : 0 < n) (inside : (s.ap.window * 67108864 + off) % 64 + n ≤ 64) :
    apertureWords s off n = [(s.ap.window * 67108864 + off) / 64] := by
  have last : (s.ap.window * 67108864 + off + n - 1) / 64 = (s.ap.window * 67108864 + off) / 64 := by omega
  simp [apertureWords, last, Nat.ne_of_gt some_]

/-- The state after poisoned bytes were read through the aperture (R251). -/
def apPoisoned (w : Nat) (bs : List Byte) (s : State) : State :=
  poisonOut 8 (apNote w false (fun x => { x with poison := true, out := some bs, outEp := x.epEn }) s)

theorem apPoisoned_ap : (apPoisoned w bs s).ap =
    { s.ap with lastWord := w, lastWrite := false, poison := true, out := some bs, outEp := s.ap.epEn } := rfl

theorem apPoisoned_mem : (apPoisoned w bs s).stk.mem = s.stk.mem := rfl

theorem apPoisoned_frame {a : Aperture} {k : Stacks} {e : EventTree} :
    { apPoisoned w bs s with ap := a, stk := k, evt := e } = { s with ap := a, stk := k, evt := e } := rfl

/-- A read served inside one word, as the stack controller delivers the word (R251). -/
theorem apertureRead_one (h : apOpen s) (words : apertureWords s off n = [w]) (served : apStop s 0 [w] = none) :
    apertureRead off n s =
      let d := stkRead w none false false s
      let bs := bytesAt d.1.data ((s.ap.window * 67108864 + off) % 64) n
      if d.1.poison then apPoisoned w bs d.2
      else { d.2 with ap := { d.2.ap with out := some bs, outEp := false } } := by
  rw [apertureRead, if_neg (fun e => apClosed_iff.1 e h)]
  simp only [words, served, List.foldl_cons, List.foldl_nil, List.nil_append]
  generalize stkRead w none false false s = d
  cases d.1.poison <;> rfl

/-- A clean word as it is read: the Stacks change, and not their memory. -/
theorem stkRead_clean_eq (h : rsDecode (s.stk.word w) = .clean) :
    ∃ k : Stacks, k.mem = s.stk.mem ∧
      stkRead w none false false s = (deliveredOf (s.stk.word w) 0 (wPoison (s.stk.word w)), { s with stk := k }) := by
  obtain ⟨k, state, mem⟩ := stkRead_clean_state (waiting := false) h
  exact ⟨k, mem, Prod.ext (by rw [stkRead_clean h]) state⟩

section

variable (h : apOpen s) (words : apertureWords s off n = [w]) (served : apStop s 0 [w] = none) (clean : rsDecode (s.stk.word w) = .clean)
include h words served clean

theorem apertureRead_unmarked (unmarked : wPoison (s.stk.word w) = false) :
    ∃ k : Stacks, k.mem = s.stk.mem ∧ apertureRead off n s = { s with
      stk := k
      ap := { s.ap with out := some (bytesAt (wData (s.stk.word w)) ((s.ap.window * 67108864 + off) % 64) n), outEp := false } } := by
  obtain ⟨k, mem, read⟩ := stkRead_clean_eq clean
  refine ⟨k, mem, ?_⟩
  rw [apertureRead_one h words served, read, unmarked]
  rfl

theorem apertureRead_marked (poison : wPoison (s.stk.word w) = true) :
    ∃ k : Stacks, k.mem = s.stk.mem ∧ apertureRead off n s =
      apPoisoned w (bytesAt (wData (s.stk.word w)) ((s.ap.window * 67108864 + off) % 64) n) { s with stk := k } := by
  obtain ⟨k, mem, read⟩ := stkRead_clean_eq clean
  refine ⟨k, mem, ?_⟩
  rw [apertureRead_one h words served, read, poison]
  rfl

end

theorem wordShare_one {a : Nat} (inside : a % 64 + bs.length ≤ 64) : wordShare a bs (a / 64) = (a % 64, bs) := by
  have lo : max a (64 * (a / 64)) = a := by omega
  have hi : min (a + bs.length) (64 * (a / 64) + 64) = a + bs.length := by omega
  have first : a - 64 * (a / 64) = a % 64 := by omega
  simp [wordShare, lo, hi, first, bytesAt]

theorem apertureWrite_one (h : apOpen s) (some_ : 0 < bs.length) (inside : (s.ap.window * 67108864 + off) % 64 + bs.length ≤ 64)
    (served : apStop s 1 [(s.ap.window * 67108864 + off) / 64] = none) :
    apertureWrite off bs s =
      let a := s.ap.window * 67108864 + off
      if bs.length = 64 then stkWrite (a / 64) bs 0 (s.stk.codeAt (pageOf (a / 64))) false false false s
      else stkNarrow (a / 64) (a % 64) bs (s.stk.codeAt (pageOf (a / 64))) s := by
  rw [apertureWrite, if_neg (fun e => apClosed_iff.1 e h)]
  simp only [apertureWords_one some_ inside, served, List.foldl_cons, List.foldl_nil, wordShare_one inside]

/-- Settles O9: an access by whether the aperture is open, then by the first word that is not served; inside one word it is the
controller's read or write of that word. -/
theorem aperture : Obligations.Aperture := by
  intro off s a open_
  refine ⟨fun closed n bs => ⟨?_, ?_⟩, fun live n w denied stop => ?_, fun live bs w denied stop => ?_,
    fun live n some_ inside served clean => ?_, fun live bs some_ inside served => ?_⟩
  · rw [exec_apertureRead, apertureRead_closed closed]
  · rw [exec_apertureWrite, apertureWrite_closed closed]
  · rw [exec_apertureRead, apertureRead_stops live stop]
    refine ⟨_, rfl, ?_, apRefuse_status, apRefuse_frame (w := w) (wr := false) (denied := denied)⟩
    rw [apRefuse_ap]
  · rw [exec_apertureWrite, apertureWrite_stops live stop]
    exact ⟨_, rfl, apRefuse_ap, apRefuse_status, apRefuse_frame (w := w) (wr := true) (denied := denied)⟩
  · have words := apertureWords_one some_ inside
    refine ⟨fun unmarked => ?_, fun poison => ?_⟩
    · obtain ⟨k, mem, read⟩ := apertureRead_unmarked live words served clean unmarked
      rw [exec_apertureRead, read]
      exact ⟨_, rfl, rfl, mem, rfl⟩
    · obtain ⟨k, mem, read⟩ := apertureRead_marked live words served clean poison
      rw [exec_apertureRead, read]
      exact ⟨_, rfl, apPoisoned_ap, apPoisoned_mem.trans mem, apPoisoned_frame⟩
  · have whole : bs.take 4096 = bs := List.take_of_length_le (by omega)
    rw [exec_apertureWrite, whole, apertureWrite_one live some_ inside served]

end Sys2Proof.Machine
end

section
/-! Initialisation, retirement and the reading commands of the Stacks (10_stacks.md R236, R243, R246 to R248; 14_command_reference.md
R354, R355). -/

namespace Sys2Proof.Machine

variable {q : Request} {s : State} {k : Stacks} {r : Region} {e : AccEntry} {p w : Nat}

theorem exec_stacksInit : exec (.stacksInit q) s = .next (deskRun 0x0A01 stacksInit q s) := rfl

theorem exec_stacksRetire : exec (.stacksRetire q) s = .next (deskRun 0x0A03 stacksRetire q s) := rfl

theorem exec_stacksTrackerGet : exec (.stacksTrackerGet q) s = .next (deskRun 0x0A05 stacksTrackerGet q s) := rfl

theorem exec_stacksTrackerClear : exec (.stacksTrackerClear q) s = .next (deskRun 0x0A06 stacksTrackerClear q s) := rfl

theorem exec_stacksAccessionGet : exec (.stacksAccessionGet q) s = .next (deskRun 0x0A07 stacksAccessionGet q s) := rfl

theorem exec_stacksWordRead : exec (.stacksWordRead q) s = .next (deskRun 0x0A08 stacksWordRead q s) := rfl

theorem exec_stacksInitComplete : exec .stacksInitComplete s = .next (stacksInitComplete s) := rfl

theorem exec_pageRetireComplete {p : Fin 65536} : exec (.pageRetireComplete p) s = .next (pageRetireComplete p.val s) := rfl

theorem exec_queueWrap {c : Fin 2} : exec (.queueWrap c) s = .next (protAll (queueWrap c s)) := rfl

/-! ### STACKS.INIT (R246) -/

theorem stacksInit_used (h : ∃ r ∈ s.stk.regions, r.r ≠ 0) : stacksInit q s = (s, refuse stBadState) :=
  if_pos (by simpa using h)

/-- Initialisation begun over the regions `k`. -/
def initBegun (q : Request) (k : Stacks) (s : State) : State :=
  beginTransition .stacks 0x0A01 q (stacksToRun { s with stk := { k with initBusy := true } })

theorem stacksInit_again (h : ∀ r ∈ s.stk.regions, r.r = 0) (area : s.stk.region 0 = some r) :
    stacksInit q s = (initBegun q s.stk s, .later) := by
  rw [stacksInit, if_neg (by simpa using h)]
  simp only [area]
  rfl

theorem stacksInit_first (h : ∀ r ∈ s.stk.regions, r.r = 0) (none_ : s.stk.region 0 = none) (pages : s.stk.allocRegion 0 40 = some k) :
    stacksInit q s = (initBegun q k s, .later) := by
  rw [stacksInit, if_neg (by simpa using h)]
  simp only [none_, pages]
  rfl

/-! ### A page becomes retired (R247, R248) -/

theorem retirePage_log : (retirePage e s).stk.log = s.stk.log ++ [e] := rfl

theorem retirePage_retiredNow : (retirePage e s).stk.retiredNow = s.stk.retiredNow + 1 := rfl

theorem retirePage_regions : (retirePage e s).stk.regions = s.stk.regions := rfl

/-- The state with the Stacks, the events and the Catalogue of another. -/
def besidesRetired (r s : State) : State := { s with stk := r.stk, evt := r.evt, cat := r.cat }

theorem retirePage_besides {r : State} : besidesRetired r (retirePage e s) = besidesRetired r s := rfl

theorem raise_besidesRetired {n ob : Nat} {a : EvtArg} {r : State} : besidesRetired r (raise n ob a s) = besidesRetired r s := rfl

/-! ### STACKS.RETIRE (R354) -/

/-- The entry that STACKS.RETIRE of a page opens in the Accession log (R247). -/
def pageEntry (q : Request) : AccEntry := { page := u16 q 6, cause := 0, stack := u8 q 8, chan := u8 q 9, bank := u8 q 10 }

theorem pageEntry_page : (pageEntry q).page = u16 q 6 := rfl

/-- The retirement of a page begun, with the entries that wait for their page's release. -/
def retireBegun (q : Request) (l : List AccEntry) (s : State) : State :=
  { s with stk := { s.stk with retiredNow := 0, retireObj := objPage (u16 q 6), retiring := l } }

theorem retireReport_one : retireReport (retirePage e (retireBegun q [] s)) =
    { status := stOk, payload := leBytes 2 1 ++ leBytes 2 (s.stk.log.length + 1) } := by
  simp [retireReport, retirePage_log, retirePage_retiredNow, retireBegun]

theorem retireBegun_besides {l : List AccEntry} {r : State} : besidesRetired r (retireBegun q l s) = besidesRetired r s := rfl

section

variable (page : u8 q 4 = 0) (now : u8 q 5 = 0) (good : s.stk.retired (u16 q 6) = false) (idle : s.stk.retiring = [])

include page good idle in
theorem retireTargets_page : retireTargets s.stk q = [pageEntry q] := by
  simp [retireTargets, pageEntry, page, good, idle]

include page now good idle

theorem stacksRetire_free (room : s.stk.log.length < 2048) (out : s.stk.regionAt (u16 q 6) = none) (unplanned : s.stk.planned (u16 q 6) = false) :
    stacksRetire q s = (raise 209 (objPage (u16 q 6)) (evtArg 0 0 (u16 q 6) 0) (retirePage (pageEntry q) (retireBegun q [] s)),
      .done (retireReport (retirePage (pageEntry q) (retireBegun q [] s)))) := by
  have fits : ¬2048 < s.stk.log.length + 1 := by omega
  have kept : ∀ bad, replacePages bad [pageEntry q] s.stk = some s.stk := fun bad => by simp [replacePages, pageEntry, out, unplanned]
  simp [stacksRetire, retireTargets_page page good idle, page, now, idle, fits, kept, out, pageEntry_page, raiseIf_true, retireBegun]

theorem stacksRetire_reserve (room : s.stk.log.length < 2048) (isIn : s.stk.regionAt (u16 q 6) = some r) (reserve : r.r = 1) :
    stacksRetire q s = (beginTransition .stacks 0x0A03 q (retireBegun q [pageEntry q] s), .later) := by
  have fits : ¬2048 < s.stk.log.length + 1 := by omega
  have kept : ∀ bad, replacePages bad [pageEntry q] s.stk = some s.stk := fun bad => by simp [replacePages, pageEntry, isIn, reserve]
  simp [stacksRetire, retireTargets_page page good idle, page, now, idle, fits, kept, isIn, pageEntry_page, retireBegun]

end

/-! ### The reading commands (R354, R355) -/

theorem stacksTrackerGet_page (h : u16 q 4 ≤ 255) : stacksTrackerGet q s =
    let l := (s.stk.tracker.drop (u16 q 4)).take 128
    (s, okBulk (leBytes 2 l.length ++ leBytes 2 (if u16 q 4 + l.length < 256 then u16 q 4 + l.length else 0)) (l.flatMap trackBytes)) :=
  if_neg (Nat.not_lt.2 h)

/-- The tracker entries that STACKS.TRACKER.CLEAR names (R354). -/
def clears (w : Nat) (t : Track) : Bool := w == 0xFFFFFFFF || t.word == w

/-- Of an index of the tracker: its entry is one that `hit` selects. -/
def entryHit (hit : Track → Bool) : Option Track → Bool
  | some t => hit t
  | none => false

theorem stacksTrackerClear_frees (h : u32 q 4 = 0xFFFFFFFF ∨ u32 q 4 < 2147483648) : stacksTrackerClear q s =
    (onStk (fun k => k.freeTracks (clears (u32 q 4))) s,
      ok (leBytes 2 (s.stk.tracker.filter (entryHit (clears (u32 q 4)))).length)) := by
  rw [stacksTrackerClear, if_neg (by omega)]
  rfl

theorem stacksWordRead_early (h : s.stk.initialised = false) : stacksWordRead q s = (s, refuse stBadState) := by
  simp [stacksWordRead, h]

section

variable (init : s.stk.initialised = true)
include init

theorem stacksWordRead_beyond (h : 2147483648 ≤ u32 q 4) : stacksWordRead q s = (s, badParam 4) := by
  simp [stacksWordRead, init, h]

theorem stacksWordRead_ungranted (h : u32 q 4 < 2147483648) (none_ : windowGrants s (pageOf (u32 q 4)) 0 = false) :
    stacksWordRead q s = (s, refuse stDenied) := by
  simp [stacksWordRead, init, Nat.not_le.2 h, none_]

/-- The outcome that STACKS.WORD.READ returns (R354). -/
def outcomeOf : Decoded → Nat
  | .clean => 0
  | .corrected _ _ => 1
  | .uncorrectable => 2

theorem stacksWordRead_granted (h : u32 q 4 < 2147483648) (granted : windowGrants s (pageOf (u32 q 4)) 0 = true) :
    stacksWordRead q s = (s, ok (s.stk.word (u32 q 4) ++ leBytes 1 (outcomeOf (rsDecode (s.stk.word (u32 q 4)))))) := by
  simp only [stacksWordRead, init, Nat.not_le.2 h, granted, Bool.not_true, Bool.false_eq_true, if_false]
  rfl

end

/-! ### STACKS_INIT_COMPLETE (R246) -/

theorem cellFind_mem {a : Nat} {v : Byte} {m : List Host.Cell} (h : cellFind a m = some v) : (a, v) ∈ m := by
  induction m with
  | nil => cases h
  | cons y r ih =>
    unfold cellFind at h
    split at h
    · next here =>
      cases h
      exact here ▸ List.mem_cons_self
    · split at h
      · cases h
      · exact List.mem_cons_of_mem _ (ih h)

/-- The Stacks with every word written 0 in every page that is not retired. -/
def Stacks.initDone (k : Stacks) : Stacks :=
  { k with
    mem := k.mem.filter fun c => k.retired (pageOf (c.1 / 72))
    cleared := true, unwritten := k.log.map (·.page), initialised := true, initBusy := false }

theorem initDone_sym {a : Nat} (h : k.retired (pageOf (a / 72)) = false) : k.initDone.sym a = 0 := by
  have unlisted : cellFind a k.initDone.mem = none := by
    cases found : cellFind a k.initDone.mem with
    | none => rfl
    | some v => simpa [h] using (List.mem_filter.1 (cellFind_mem found)).2
  have written : (k.log.map (·.page)).contains (pageOf (a / 72)) = false := by
    simpa [Stacks.retired, List.contains_eq_any_beq, Bool.beq_comm] using h
  have blank : k.initDone.blank (pageOf (a / 72)) = some 0 := by
    simp only [Stacks.blank, Stacks.initDone, written, Bool.not_false, Bool.and_self, if_true]
  unfold Stacks.sym
  rw [unlisted, blank]

theorem initDone_word (h : k.retired (pageOf w) = false) : k.initDone.word w = List.replicate 72 0 := by
  refine List.eq_replicate_iff.2 ⟨word_length, fun b hb => ?_⟩
  obtain ⟨i, hi, rfl⟩ := List.mem_map.1 hb
  have := List.mem_range.1 hi
  exact initDone_sym (by rwa [show (72 * w + i) / 72 = w by omega])

theorem stacksInitComplete_idle (h : s.stk.initBusy = false ∨ stacksRun s = false) : stacksInitComplete s = s := by
  refine if_neg fun ready => ?_
  rw [Bool.and_eq_true] at ready
  rcases h with h | h
  · exact absurd (h.symm.trans ready.1) Bool.false_ne_true
  · exact absurd (h.symm.trans ready.2) Bool.false_ne_true

/-- Initialisation ended, but for the command's completion. -/
def initEnded (s : State) : State := raise0 208 (objStack 0xFF 0xFF 0xFF) (onStk Stacks.initDone s)

theorem stacksInitComplete_ends (busy : s.stk.initBusy = true) (run : stacksRun s = true) :
    ∃ d, stacksInitComplete s = { initEnded s with desk := d } := by
  rw [stacksInitComplete, if_pos (by rw [busy, run]; rfl)]
  exact endTransition_changes_desk

theorem initEnded_status : (initEnded s).evt.status.getLsbD 208 = true :=
  raise_status rfl rfl (by decide)

/-! ### PAGE_RETIRE_COMPLETE (R248) -/

theorem pageRetire_unknown (h : ∀ e ∈ s.stk.retiring, e.page ≠ p) : pageRetireComplete p s = s := by
  have none_ : s.stk.retiring.find? (fun e => e.page == p) = none := List.find?_eq_none.2 (by simpa using h)
  simp only [pageRetireComplete, none_]

theorem pageRetire_held (h : stillHeld s p = true) : pageRetireComplete p s = s := by
  unfold pageRetireComplete
  split
  · rfl
  · exact if_pos h

theorem stillHeld_of (h : reserveHolds s p = true ∨ ∃ r ∈ s.stk.regions, ∃ x ∈ r.leaving, x.1 = p) : stillHeld s p = true := by
  simpa [stillHeld] using h

/-- A region without a page that its reader has released; the Reserve's pages keep their places (R248). -/
def Region.release (p : Nat) (r : Region) : Region :=
  { r with pages := if r.r = 1 then r.pages else r.pages.filter fun y => y != p, old := r.old.filter fun y => y != p }

theorem release_gone : ((r.release p).r ≠ 1 → p ∉ (r.release p).pages) ∧ p ∉ (r.release p).old := by
  refine ⟨fun other => ?_, ?_⟩
  · have other : r.r ≠ 1 := other
    simp [Region.release, other]
  · simp [Region.release]

/-- A page's release and retirement, but for the command's report. -/
def pageReleased (e : AccEntry) (s : State) : State :=
  retirePage e (onStk (fun k => { k with
    retiring := k.retiring.filter fun x => x.page != e.page, regions := k.regions.map (Region.release e.page) }) s)

theorem pageReleased_retiring (one : s.stk.retiring = [e]) : (pageReleased e s).stk.retiring = [] := by
  show s.stk.retiring.filter (fun x => x.page != e.page) = []
  simp [one]

theorem pageReleased_log : (pageReleased e s).stk.log = s.stk.log ++ [e] := rfl

theorem pageReleased_gone : ∀ r ∈ (pageReleased e s).stk.regions, (r.r ≠ 1 → e.page ∉ r.pages) ∧ e.page ∉ r.old := by
  intro r hr
  obtain ⟨x, -, rfl⟩ := List.mem_map.1 (show r ∈ s.stk.regions.map (Region.release e.page) from hr)
  exact release_gone

/-- The state with the Stacks, the events, the Desk and the Catalogue of another. -/
def besidesReleased (r s : State) : State := { s with stk := r.stk, evt := r.evt, desk := r.desk, cat := r.cat }

theorem onStk_besidesReleased {f : Stacks → Stacks} {r : State} : besidesReleased r (onStk f s) = besidesReleased r s := rfl

theorem retirePage_besidesReleased {r : State} : besidesReleased r (retirePage e s) = besidesReleased r s :=
  (congrArg (fun u : State => { u with desk := r.desk }) (retirePage_besides (e := e) (s := s) (r := r)) :)

theorem pageReleased_besides {r : State} : besidesReleased r (pageReleased e s) = besidesReleased r s :=
  retirePage_besidesReleased.trans onStk_besidesReleased

theorem raise_besidesReleased {n ob : Nat} {a : EvtArg} {d : Desk} {r : State} :
    besidesReleased r { raise n ob a s with desk := d } = besidesReleased r s := rfl

/-- The last page that a retirement waits for: it is retired, told, and the command completes. -/
theorem pageRetire_last (one : s.stk.retiring = [e]) (free : stillHeld s e.page = false) : ∃ d, pageRetireComplete e.page s =
    { raise 209 (pageReleased e s).stk.retireObj (evtArg 0 0 e.page 0) (pageReleased e s) with desk := d } := by
  have found : s.stk.retiring.find? (fun x => x.page == e.page) = some e := by simp [one]
  have last : (pageReleased e s).stk.retiring.isEmpty = true := by rw [pageReleased_retiring one]; rfl
  have ends : pageRetireComplete e.page s = endTransition .stacks (retireReport (pageReleased e s))
      (raise 209 (pageReleased e s).stk.retireObj (evtArg 0 0 e.page 0) (pageReleased e s)) := by
    simp only [pageRetireComplete, found, free, Bool.false_eq_true, if_false]
    exact if_pos last
  rw [ends]
  exact endTransition_changes_desk

/-- Settles O8: each clause is the rule of one function, in the order of the statement. The status for a word that no Charter window
grants is the model's choice (log 63). -/
theorem stacksCommands : Obligations.StacksCommands := by
  refine ⟨fun q s => ⟨fun run used => ?_, fun run free => ⟨fun r area => ?_, fun k none_ pages => ?_⟩, fun run page now good idle room => ?_,
    fun run low => ?_, fun run w hw named => ?_, fun run => ?_, fun run => ⟨fun early => ?_, fun init high => ?_, fun init low none_ => ?_,
    fun init low granted => ?_⟩⟩, fun s => ⟨fun idle => ?_, fun busy run => ?_⟩, fun p s => ⟨fun unknown => ?_, fun held => ?_,
    fun e one here free => ?_⟩, fun c s => ?_⟩
  · rw [exec_stacksInit, deskRun_done run (stacksInit_used used)]
  · rw [exec_stacksInit, deskRun_later run (stacksInit_again free area)]
    rfl
  · rw [exec_stacksInit, deskRun_later run (stacksInit_first free none_ pages)]
    rfl
  · refine ⟨fun out unplanned => ?_, fun r isIn reserve => ?_⟩
    · rw [exec_stacksRetire, deskRun_done run (stacksRetire_free page now good idle room out unplanned)]
      rw [retireReport_one]
      exact ⟨_, rfl, retirePage_log, retirePage_regions, raise_status rfl rfl (by decide),
        (raise_besidesRetired (r := s)).trans (retirePage_besides.trans retireBegun_besides)⟩
    · rw [exec_stacksRetire, deskRun_later run (stacksRetire_reserve page now good idle room isIn reserve)]
      exact ⟨_, rfl, rfl, rfl, rfl, rfl, rfl⟩
  · rw [exec_stacksTrackerGet, deskRun_done run (stacksTrackerGet_page low)]
    rfl
  · subst hw
    rw [exec_stacksTrackerClear, deskRun_done run (stacksTrackerClear_frees named)]
    rfl
  · rw [exec_stacksAccessionGet, deskRun_done run rfl]
    rfl
  · rw [exec_stacksWordRead, deskRun_done run (stacksWordRead_early early)]
  · rw [exec_stacksWordRead, deskRun_done run (stacksWordRead_beyond init high)]
  · rw [exec_stacksWordRead, deskRun_done run (stacksWordRead_ungranted init low none_)]
  · rw [exec_stacksWordRead, deskRun_done run (stacksWordRead_granted init low granted)]
    generalize rsDecode (s.stk.word (u32 q 4)) = d
    cases d <;> rfl
  · rw [exec_stacksInitComplete, stacksInitComplete_idle idle]
  · obtain ⟨d, ends⟩ := stacksInitComplete_ends busy run
    rw [exec_stacksInitComplete, ends]
    exact ⟨_, rfl, rfl, rfl, rfl, initEnded_status, fun w good => initDone_word good, rfl⟩
  · rw [exec_pageRetireComplete, pageRetire_unknown unknown]
  · rw [exec_pageRetireComplete, pageRetire_held (stillHeld_of held)]
  · rw [← here] at free ⊢
    obtain ⟨d, ends⟩ := pageRetire_last one free
    rw [exec_pageRetireComplete, ← here, ends]
    exact ⟨_, rfl, pageReleased_retiring one, pageReleased_log, pageReleased_gone, raise_status rfl rfl (by decide),
      (raise_besidesReleased (r := s)).trans pageReleased_besides⟩
  · rw [exec_queueWrap]
    rfl

end Sys2Proof.Machine
end

section
/-! One step of the block. -/

namespace Sys2Proof.Machine

/-- Settles O1, by whether a command waits. That the block idles with none is the model's choice (log 2). -/
theorem stepRunsFront : Obligations.StepRunsFront :=
  ⟨fun _ _ _ => step_runs_front rfl, fun _ idle => step_idle idle⟩

end Sys2Proof.Machine
end

section
/-! A held request that is released (13_curator_desk.md R319 to R322): the row of its opcode is the meaning of its own command. -/

namespace Sys2Proof.Machine

/-- The row that the meaning of a held command makes. -/
def heldMeaning (r : HeldInstr) : HeldRow := (r.1, fun q x s => exec (r.2 q x) s)

/-- The rows that HOLD_RELEASE looks through are the meanings of the 78 commands that can be held. -/
theorem heldRows_meanings : heldLine ++ heldClient ++ heldHouse = (heldRows1 ++ heldRows2 ++ heldRows3).map heldMeaning := rfl

theorem heldRows_opcodes_nodup : ((heldRows1 ++ heldRows2 ++ heldRows3).map (·.1)).Nodup := by
  decide

/-- Among entries with distinct keys the search for a key finds its own entry. -/
theorem find?_key_of_nodup {α : Type} {l : List (Nat × α)} (distinct : (l.map (·.1)).Nodup) {r : Nat × α} (mem : r ∈ l) :
    l.find? (fun x => x.1 == r.1) = some r := by
  induction l with
  | nil => cases mem
  | cons y l ih =>
    rw [List.map_cons, List.nodup_cons] at distinct
    obtain ⟨fresh, rest⟩ := distinct
    rcases List.mem_cons.1 mem with rfl | mem
    · simp
    · have other : y.1 ≠ r.1 := fun e => fresh (e ▸ List.mem_map_of_mem mem)
      simpa [other] using ih rest mem

theorem exec_holdRelease {ch : Fin 4} {tag : Word16} {x : HeldExtra} {s : State} :
    exec (.holdRelease ch tag x) s = holdRelease ch tag x s := rfl

theorem holdRelease_held {ch : Fin 4} {tag : Word16} {x : HeldExtra} {s : State} {o : Outst} (found : (s.chan ch).find tag = some o)
    (held : o.phase = .held) {r : HeldInstr} (mem : r ∈ heldRows1 ++ heldRows2 ++ heldRows3) (op : o.op = r.1) :
    holdRelease ch tag x s = exec (r.2 o.req x) s := by
  have row : (heldLine ++ heldClient ++ heldHouse).find? (fun y => y.1 == o.op) = some (heldMeaning r) := by
    rw [heldRows_meanings, List.find?_map, op]
    exact congrArg (Option.map heldMeaning) (find?_key_of_nodup heldRows_opcodes_nodup mem)
  rw [holdRelease, found]
  simp only [held, if_true, row]
  rfl

/-- Settles O24, by what the channel holds under the tag. -/
theorem heldRelease : Obligations.HeldRelease := by
  intro ch tag x s
  rw [exec_holdRelease]
  refine ⟨fun absent => ?_, fun o found live => ?_, fun o found held r mem op => holdRelease_held found held mem op⟩
  · rw [holdRelease, absent]
  · rw [holdRelease, found]
    exact if_neg live

end Sys2Proof.Machine
end

section
/-! The test access port (21_pins_electrical.md R509, R510). -/

namespace Sys2Proof.Machine

variable {s : State} {tms tdi : Bool}

theorem exec_tckEdge {rising : Bool} : exec (.tckEdge rising tms tdi) s = .next (if tapUp s then if rising then tapRise tms tdi s else tapFall s else s) := rfl

theorem exec_tckRise (up : tapUp s = true) : exec (.tckEdge true tms tdi) s = .next (tapRise tms tdi s) := by
  simp [exec_tckEdge, up]

theorem exec_tckFall (up : tapUp s = true) : exec (.tckEdge false tms tdi) s = .next (tapFall s) := by
  simp [exec_tckEdge, up]

theorem tapRise_pwr : (tapRise tms tdi s).pwr = s.pwr := by
  unfold tapRise
  dsimp only
  split <;> rfl

/-- An edge does not stop the port. -/
theorem tapUp_tapRise : tapUp (tapRise tms tdi s) = tapUp s := by
  simp only [tapUp, tapRise_pwr]

theorem tapRise_tap : (tapRise tms tdi s).pins.tap = s.pins.tap.next tms := rfl

/-- An edge into Test-Logic-Reset selects IDCODE. -/
theorem tapRise_toReset (h : s.pins.tap.next tms = .tlr) : (tapRise tms tdi s).pins.ins = .idcode := if_pos h

/-- IEEE 1149.1: from any state five edges with TMS high lead to Test-Logic-Reset. -/
theorem tap_five_high (t : Tap) : ((((t.next true).next true).next true).next true).next true = .tlr := by
  cases t <;> rfl

theorem tapRise_capture (state : s.pins.tap = .capDr) (ins : s.pins.ins = .idcode) :
    (tapRise false tdi s).pins.drShift = bitsOf 32 idcode := by
  unfold tapRise
  simp [state, tapCapture, ins]

theorem tapRise_shift (state : s.pins.tap = .shDr) : (tapRise false tdi s).pins.drShift = s.pins.drShift.drop 1 ++ [tdi] := by
  unfold tapRise
  simp [state]

/-- A shift changes the port's own registers alone. -/
theorem tapRise_shift_frame {p : Pins} (state : s.pins.tap = .shDr) : { tapRise false tdi s with pins := p } = { s with pins := p } := by
  unfold tapRise
  simp [state]

theorem tapFall_tdo (state : s.pins.tap = .shDr) : (tapFall s).pins.tdo = s.pins.drShift.head? := if_pos state

/-- Settles O44: every edge is one transition of the port; five with TMS high end in Test-Logic-Reset (`tap_five_high`). -/
theorem testAccessPort : Obligations.TestAccessPort := by
  refine ⟨fun s => ⟨_, rfl, rfl, rfl, rfl⟩, fun rising tms tdi s down => ?_, fun a b c d e s up => ?_, fun tdi s up ins => ⟨fun state => ?_, fun state => ?_⟩⟩
  · simp [exec_tckEdge, down]
  · refine ⟨tapRise true a s, _, _, _, _, exec_tckRise up, exec_tckRise ?_, exec_tckRise ?_, exec_tckRise ?_, exec_tckRise ?_, ?_, ?_⟩
    · simpa only [tapUp_tapRise] using up
    · simpa only [tapUp_tapRise] using up
    · simpa only [tapUp_tapRise] using up
    · simpa only [tapUp_tapRise] using up
    · simp only [tapRise_tap, tap_five_high]
    · exact tapRise_toReset (by simp only [tapRise_tap, tap_five_high])
  · exact ⟨_, exec_tckRise up, tapRise_tap.trans (by rw [state]; rfl), tapRise_capture state ins⟩
  · refine ⟨_, _, exec_tckFall up, tapFall_tdo state, rfl, exec_tckRise up, tapRise_shift state, ?_⟩
    exact tapRise_shift_frame (s := tapFall s) state

end Sys2Proof.Machine
end

section
/-! The vote of the Vault (18_boot_security.md R452): every word is rewritten as the majority of its copies. -/

namespace Sys2Proof.Machine

/-- The three copies of a word of the Vault are `x`. -/
def Vault.reads (v : Vault) (w x : Nat) : Prop := v.a.getD w 0 = x ∧ v.b.getD w 0 = x ∧ v.c.getD w 0 = x

/-- Each copy of the Vault is whole. -/
def Vault.whole (v : Vault) : Prop := v.a.length = 256 ∧ v.b.length = 256 ∧ v.c.length = 256

theorem Vault.word_of_reads {v : Vault} {w x : Nat} (h : v.reads w x) : v.word w = some x := by
  obtain ⟨ha, hb, hc⟩ := h
  simp only [Vault.word, ha, hb, true_or, if_true]

theorem Vault.put_whole {v : Vault} {w x : Nat} (h : v.whole) : (v.put w x).whole := by
  simpa [Vault.whole, Vault.put] using h

theorem getD_set_same {l : List Nat} {w x : Nat} (h : w < l.length) : (l.set w x).getD w 0 = x := by
  simp [h]

theorem getD_set_other {l : List Nat} {w u x : Nat} (h : u ≠ w) : (l.set w x).getD u 0 = l.getD u 0 := by
  simp [List.getD_eq_getElem?_getD, List.getElem?_set_ne (Ne.symm h)]

theorem Vault.put_reads {v : Vault} {w x : Nat} (h : v.whole) (lt : w < 256) : (v.put w x).reads w x := by
  obtain ⟨ha, hb, hc⟩ := h
  exact ⟨getD_set_same (ha ▸ lt), getD_set_same (hb ▸ lt), getD_set_same (hc ▸ lt)⟩

theorem Vault.put_other {v : Vault} {w u x y : Nat} (h : u ≠ w) : (v.put w x).reads u y ↔ v.reads u y := by
  simp only [Vault.reads, Vault.put, getD_set_other h]

theorem Vault.put_word_other {v : Vault} {w u x : Nat} (h : u ≠ w) : (v.put w x).word u = v.word u := by
  simp only [Vault.word, Vault.put, getD_set_other h]

variable {s : State} {w x : Nat}

/-- What a vote does where every word that it meets has a majority: those words read as their majority, no word's majority changes,
and nothing changes beside but VAULT_MISMATCH and the count of corrected words. -/
structure Voted (ws : List Nat) (s t : State) : Prop where
  frame : { t with vault := s.vault, evt := s.evt } = s
  noMajority : t.vault.noMajority = s.vault.noMajority
  whole : t.vault.whole
  words : ∀ u, t.vault.word u = s.vault.word u
  agreed : ∀ u y, s.vault.reads u y → t.vault.reads u y
  voted : ∀ u ∈ ws, ∃ y, s.vault.word u = some y ∧ t.vault.reads u y

theorem voteWord_equal (h : s.vault.a.getD w 0 = s.vault.b.getD w 0 ∧ s.vault.b.getD w 0 = s.vault.c.getD w 0) : voteWord s w = s :=
  if_pos h

theorem voteWord_corrects (differ : ¬(s.vault.a.getD w 0 = s.vault.b.getD w 0 ∧ s.vault.b.getD w 0 = s.vault.c.getD w 0))
    (majority : s.vault.word w = some x) : voteWord s w =
      raiseAon 357 objDevice (evtArg 0 w 0 0) { s with vault := { s.vault.put w x with corrected := bump s.vault.corrected } } := by
  rw [voteWord]
  dsimp only
  rw [if_neg differ, majority]

theorem voteWord_voted (whole : s.vault.whole) (lt : w < 256) (majority : s.vault.word w = some x) : Voted [w] s (voteWord s w) := by
  by_cases equal : s.vault.a.getD w 0 = s.vault.b.getD w 0 ∧ s.vault.b.getD w 0 = s.vault.c.getD w 0
  · rw [voteWord_equal equal]
    refine ⟨rfl, rfl, whole, fun _ => rfl, fun _ _ h => h, fun u mem => ?_⟩
    obtain rfl := List.mem_singleton.1 mem
    have reads : s.vault.reads u (s.vault.a.getD u 0) := ⟨rfl, equal.1.symm, (equal.1.trans equal.2).symm⟩
    exact ⟨_, Vault.word_of_reads reads, reads⟩
  · rw [voteWord_corrects equal majority]
    have put : (s.vault.put w x).reads w x := Vault.put_reads whole lt
    refine ⟨rfl, rfl, Vault.put_whole whole, fun u => ?_, fun u y h => ?_, fun u mem => ?_⟩
    · by_cases e : u = w
      · rw [e, majority]
        exact Vault.word_of_reads put
      · exact Vault.put_word_other e
    · by_cases e : u = w
      · obtain rfl : x = y := by
          have := Vault.word_of_reads h
          rw [e, majority] at this
          exact Option.some.inj this
        exact e ▸ put
      · exact (Vault.put_other e).2 h
    · obtain rfl := List.mem_singleton.1 mem
      exact ⟨x, majority, put⟩

theorem Voted.trans {l m : List Nat} {s t u : State} (h : Voted l s t) (g : Voted m t u) : Voted (l ++ m) s u where
  frame := by
    have first := h.frame
    rw [← g.frame] at first
    exact first
  noMajority := g.noMajority.trans h.noMajority
  whole := g.whole
  words k := (g.words k).trans (h.words k)
  agreed k y r := g.agreed k y (h.agreed k y r)
  voted k mem := by
    rcases List.mem_append.1 mem with mem | mem
    · obtain ⟨y, word, reads⟩ := h.voted k mem
      exact ⟨y, word, g.agreed k y reads⟩
    · obtain ⟨y, word, reads⟩ := g.voted k mem
      exact ⟨y, (h.words k) ▸ word, reads⟩

theorem foldl_voteWord_voted {ws : List Nat} (whole : s.vault.whole) (lt : ∀ u ∈ ws, u < 256)
    (majority : ∀ u ∈ ws, (s.vault.word u).isSome = true) : Voted ws s (ws.foldl voteWord s) := by
  induction ws generalizing s with
  | nil => exact ⟨rfl, rfl, whole, fun _ => rfl, fun _ _ h => h, nofun⟩
  | cons w ws ih =>
    obtain ⟨x, hx⟩ := Option.isSome_iff_exists.1 (majority w List.mem_cons_self)
    have first := voteWord_voted whole (lt w List.mem_cons_self) hx
    refine first.trans (ih first.whole (fun u mem => lt u (List.mem_cons_of_mem _ mem)) fun u mem => ?_)
    rw [first.words u]
    exact majority u (List.mem_cons_of_mem _ mem)

theorem foldl_vaultUpset_noMajority {ups : List (Fin 3 × Fin 256 × Word32)} {v : Vault} : (ups.foldl vaultUpset v).noMajority = v.noMajority := by
  induction ups generalizing v with
  | nil => rfl
  | cons x ups ih =>
    refine (ih (v := vaultUpset v x)).trans ?_
    unfold vaultUpset
    dsimp only
    split
    · rfl
    · split <;> rfl

theorem exec_vaultVote {ups : List (Fin 3 × Fin 256 × Word32)} : exec (.vaultVote ups) s = .next (vaultVote ups s) := rfl

/-- Settles O38: the words are voted one after the other, and the vote of one leaves the majority of every other. -/
theorem vaultVoted : Obligations.VaultVoted := by
  intro ups s
  rw [exec_vaultVote]
  refine ⟨fun off => by rw [vaultVote, if_pos off], fun on ha hb hc majority => ?_⟩
  have vote := foldl_voteWord_voted (s := { s with vault := ups.foldl vaultUpset s.vault }) (ws := List.range 256) ⟨ha, hb, hc⟩
    (fun _ => List.mem_range.1) fun u mem => majority u (List.mem_range.1 mem)
  rw [vaultVote, if_neg on]
  generalize (List.range 256).foldl voteWord _ = t at vote
  refine ⟨t, rfl, congrArg (fun x : State => { x with vault := s.vault }) vote.frame,
    vote.noMajority.trans foldl_vaultUpset_noMajority, fun w lt => ?_⟩
  obtain ⟨y, word, a, b, c⟩ := vote.voted w (List.mem_range.2 lt)
  exact ⟨word.trans (congrArg some a.symm), b.trans a.symm, c.trans a.symm⟩

end Sys2Proof.Machine
end

section
/-! The rule of light and the driving of a pair's outputs (19_laser_safety.md R457 to R459, R464, R465, R468, R471). -/

namespace Sys2Proof.Machine

variable {s : State} {c d : Fin 2} {quiet : Bool}

theorem onSafe_sf_other {f : SafeCarrier → SafeCarrier} (h : d ≠ c) : (onSafe c f s).sf d = s.sf d := by
  show (upd s.safe.cars c f)[d] = _
  rw [upd_get, if_neg h.symm]
  rfl

theorem onSafe_onSafe {f g : SafeCarrier → SafeCarrier} : onSafe c g (onSafe c f s) = onSafe c (fun x => g (f x)) s := by
  simp only [onSafe, upd_upd]

theorem onSafe_congr {f g : SafeCarrier → SafeCarrier} (h : f (s.sf c) = g (s.sf c)) : onSafe c f s = onSafe c g s := by
  have e : f s.safe.cars[c] = g s.safe.cars[c] := h
  simp only [onSafe, upd, e]

@[simp] theorem raiseAon_sf {n ob : Nat} {a : EvtArg} : (raiseAon n ob a s).sf c = s.sf c := rfl

/-! ### The rule of light -/

/-- What the rule of light asks of a carrier's own state (R458). -/
def SafeCarrier.asks (x : SafeCarrier) : Bool × Bool × Bool × Bool × Als × Nat := (x.used, x.req, x.alsPin, x.pinLow, x.als, x.diag)

theorem lightFails_congr {t : State} (own : (t.sf c).asks = (s.sf c).asks) (valid : t.safe.valid = s.safe.valid)
    (checks : checkTripped t c = checkTripped s c) (cars : t.cars = s.cars) (pwr : t.pwr = s.pwr) (house : t.house = s.house)
    (boot : t.boot = s.boot) : lightFails t c = lightFails s c := by
  simp only [SafeCarrier.asks, Prod.mk.injEq] at own
  obtain ⟨used, req, pin, low, als, diag⟩ := own
  simp only [lightFails, State.dom, used, req, pin, low, als, diag, valid, checks, cars, pwr, house, boot]

theorem lightAllowed_congr {t : State} (own : (t.sf c).asks = (s.sf c).asks) (valid : t.safe.valid = s.safe.valid)
    (checks : checkTripped t c = checkTripped s c) (cars : t.cars = s.cars) (pwr : t.pwr = s.pwr) (house : t.house = s.house)
    (boot : t.boot = s.boot) : lightAllowed t c = lightAllowed s c := by
  rw [lightAllowed, lightFails_congr own valid checks cars pwr house boot, lightAllowed]

theorem lightAllowed_shutdown (h : (s.sf c).als = .shutdown) : lightAllowed s c = false := by
  simp [lightAllowed, lightFails, h]

theorem lightAllowed_diag (h : (s.sf c).diag ≠ 0) : lightAllowed s c = false := by
  simp [lightAllowed, lightFails, h]

/-! ### Driving a pair -/

/-- A carrier's state once its pair is driven by the rule of light, with `n` trips counted. -/
def SafeCarrier.driven (s : State) (c : Fin 2) (n : Nat) (x : SafeCarrier) : SafeCarrier :=
  { x with
    txen := if s.pwr.st = .off then none else some (lightAllowed s c && s.pwr.st != .off)
    txdis := if s.pwr.st = .off then none else some !(lightAllowed s c && s.pwr.st != .off)
    mark := s.dev.ticks, litTicks := if (s.sf c).light then x.litTicks + (s.dev.ticks - x.mark) else x.litTicks, trips := n }

theorem driven_asks {n : Nat} {x : SafeCarrier} : (SafeCarrier.driven s c n x).asks = x.asks := rfl

/-- Driving a pair changes its carrier's state of the safety function and the event tree alone. -/
theorem driveLight_eq (quiet : Bool) (c : Fin 2) (s : State) : ∃ n e,
    driveLight quiet c s = { onSafe c (SafeCarrier.driven s c n) s with evt := e } := by
  unfold driveLight
  extract_lets on was s1 s2
  have first : s1 = onSafe c (SafeCarrier.driven s c (s.sf c).trips) s := onSafe_congr rfl
  have second : ∃ e, s2 = { onSafe c (SafeCarrier.driven s c (s.sf c).trips) s with evt := e } := by
    rw [← first]
    exact ⟨_, rfl⟩
  split
  · exact ⟨_, s.evt, first⟩
  · split
    · split
      · exact ⟨_, second⟩
      · obtain ⟨e, second⟩ := second
        have trip : onSafe c (fun x => { x with trips := bump x.trips }) (onSafe c (SafeCarrier.driven s c (s.sf c).trips) s) =
            onSafe c (SafeCarrier.driven s c (bump (s.sf c).trips)) s := by
          rw [onSafe_onSafe]
          exact onSafe_congr rfl
        refine ⟨bump (s.sf c).trips, ?_⟩
        rw [second, raiseTrip, ← trip]
        exact ⟨_, rfl⟩
    · exact ⟨_, second⟩

theorem driveLight_besides {f : Safety} {e : EventTree} : { driveLight quiet c s with safe := f, evt := e } = { s with safe := f, evt := e } := by
  obtain ⟨n, e, h⟩ := driveLight_eq quiet c s
  rw [h]
  rfl

/-- Driving a pair after a change of a carrier's own state leaves all beside the safety function and the event tree. -/
theorem driveLight_onSafe_frame {f : SafeCarrier → SafeCarrier} :
    { driveLight quiet c (onSafe c f s) with safe := s.safe, evt := s.evt } = s :=
  driveLight_besides

theorem driveLight_driven (quiet : Bool) (c : Fin 2) (s : State) : ∃ n, (driveLight quiet c s).sf c = SafeCarrier.driven s c n (s.sf c) := by
  obtain ⟨n, e, h⟩ := driveLight_eq quiet c s
  refine ⟨n, ?_⟩
  rw [h]
  exact onSafe_sf

@[simp] theorem driveLight_asks : ((driveLight quiet c s).sf c).asks = (s.sf c).asks := by
  obtain ⟨n, h⟩ := driveLight_driven quiet c s
  rw [h, driven_asks]

theorem driveLight_other (h : d ≠ c) : (driveLight quiet c s).sf d = s.sf d := by
  obtain ⟨n, e, eq⟩ := driveLight_eq quiet c s
  rw [eq]
  exact onSafe_sf_other h

theorem driveLight_allowed : lightAllowed (driveLight quiet c s) d = lightAllowed s d := by
  have own : ((driveLight quiet c s).sf d).asks = (s.sf d).asks := by
    by_cases h : d = c
    · rw [h, driveLight_asks]
    · rw [driveLight_other h]
  obtain ⟨n, e, h⟩ := driveLight_eq quiet c s
  rw [h] at own ⊢
  exact lightAllowed_congr own rfl rfl rfl rfl rfl rfl

/-- Outside OFF the pair follows the rule of light, and its pins differ (R457). -/
theorem driveLight_pins (on : s.pwr.st ≠ .off) : ((driveLight quiet c s).sf c).txen = some (lightAllowed s c) ∧
    ((driveLight quiet c s).sf c).txdis = some (!lightAllowed s c) := by
  obtain ⟨n, h⟩ := driveLight_driven quiet c s
  simp [h, SafeCarrier.driven, on]

/-- In OFF both outputs float (R469). -/
theorem driveLight_floats (off : s.pwr.st = .off) : ((driveLight quiet c s).sf c).txen = none ∧ ((driveLight quiet c s).sf c).txdis = none := by
  obtain ⟨n, h⟩ := driveLight_driven quiet c s
  simp [h, SafeCarrier.driven, off]

/-! ### The events of a change of light -/

theorem raiseAon_up {n ob : Nat} {a : EvtArg} (up : coreUp s = true) : raiseAon n ob a s = raise n ob a s := by
  rw [raiseAon, up, raiseIf_true]

theorem raiseAon_down {n ob : Nat} {a : EvtArg} (down : coreUp s = false) : raiseAon n ob a s = s := by
  rw [raiseAon, down, raiseIf_false]

theorem raiseAon_kept {n m ob : Nat} {a : EvtArg} (h : s.evt.status.getLsbD m = true) : (raiseAon n ob a s).evt.status.getLsbD m = true := by
  cases up : coreUp s with
  | true =>
    rw [raiseAon_up up]
    exact raise_kept h
  | false =>
    rw [raiseAon_down up]
    exact h

theorem raiseAon_status {n ob : Nat} {a : EvtArg} (up : coreUp s = true) (hl : limitScope n ob a = none) (hd : eventDefined n = true)
    (hn : n < 512) : (raiseAon n ob a s).evt.status.getLsbD n = true := by
  rw [raiseAon_up up]
  exact raise_status hl hd hn

theorem raiseTrip_kept {m cause check : Nat} (h : s.evt.status.getLsbD m = true) : (raiseTrip c cause check s).evt.status.getLsbD m = true := by
  refine raiseAon_kept ?_
  exact h

theorem driveLight_kept {m : Nat} (h : s.evt.status.getLsbD m = true) : (driveLight quiet c s).evt.status.getLsbD m = true := by
  unfold driveLight
  extract_lets on was s1 s2
  have kept : s2.evt.status.getLsbD m = true := raiseAon_kept (s := s1) h
  split
  · exact h
  · split
    · split
      · exact kept
      · exact raiseTrip_kept kept
    · exact kept

theorem not_off_of_coreUp (up : coreUp s = true) : s.pwr.st ≠ .off := by
  simp only [coreUp, Bool.and_eq_true, bne_iff_ne] at up
  exact up.2

/-- A change of light is reported while the core runs (SAFETY_TXEN_CHANGE). -/
theorem driveLight_change (up : coreUp s = true) (h : lightAllowed s c ≠ (s.sf c).light) :
    (driveLight quiet c s).evt.status.getLsbD 387 = true := by
  have on : (s.pwr.st != .off) = true := bne_iff_ne.2 (not_off_of_coreUp up)
  have changes : (lightAllowed s c && s.pwr.st != .off) ≠ (s.sf c).light := by rwa [on, Bool.and_true]
  unfold driveLight
  extract_lets on was s1 s2
  have raised : s2.evt.status.getLsbD 387 = true := raiseAon_status (s := s1) up rfl (by decide) (by decide)
  rw [if_neg changes]
  split
  · split
    · exact raised
    · exact raiseTrip_kept raised
  · exact raised

/-! ### SAFETY.TXEN.SET and the proof test -/

variable {q : Request}

theorem exec_safetyTxenSet : exec (.safetyTxenSet q) s = .next (deskRun 0x1101 txenSet q s) := rfl

theorem exec_safetyProofTest {failed : Word32} : exec (.safetyProofTest q failed) s = .next (deskRun 0x1103 (proofTest failed) q s) := rfl

theorem txenSet_badReq (h : 1 < u8 q 4) : txenSet q s = (s, badParam 4) := if_pos h

/-- The request for light as it is taken up: REQ, and the checks that a request after their trip re-arms. -/
def txenAsked (q : Request) (s : State) : State :=
  let c := reqCarrier q
  let on := u8 q 4 = 1 ∧ (s.sf c).tripTick ≠ some s.dev.ticks
  let s1 := onSafe c (fun x => { x with req := on }) s
  if on then { s1 with safe := { s1.safe with
      checks := s1.safe.checks.map fun k => if bit k.tripped c.val then { k with again := Nat.lor k.again (2 ^ c.val) } else k } }
  else s1

theorem txenAsked_sf : (txenAsked q s).sf d = (onSafe (reqCarrier q) (fun x => { x with
    req := decide (u8 q 4 = 1 ∧ (s.sf (reqCarrier q)).tripTick ≠ some s.dev.ticks) }) s).sf d := by
  unfold txenAsked
  dsimp only
  split <;> rfl

theorem txenAsked_frame : { txenAsked q s with safe := s.safe } = s := by
  unfold txenAsked
  dsimp only
  split <;> rfl

theorem txenSet_driven (h : u8 q 4 ≤ 1) : txenSet q s = (driveLight false (reqCarrier q) (txenAsked q s),
    ok (leBytes 1 (b2n ((driveLight false (reqCarrier q) (txenAsked q s)).sf (reqCarrier q)).light))) := if_neg (Nat.not_lt.2 h)

/-! ### The ALS request pin and the restart pulse -/

variable {low : Bool}

/-- The level of the ALS request pin as it is taken up: a pulse ends when the pin goes low (R464). -/
def SafeCarrier.pinTaken (low : Bool) (x : SafeCarrier) : SafeCarrier :=
  { x with pinLow := low, als := if x.alsPin && low && x.als == .pulse then .shutdown else x.als }

theorem alsPin_eq : alsPin c low s = if (s.sf c).alsPin ∧ (s.sf c).pinLow ≠ low
    then driveLight false c (raiseAon 386 (objCarrier c) (evtArg (b2n low) 0 0 0) (onSafe c (SafeCarrier.pinTaken low) s))
    else onSafe c (SafeCarrier.pinTaken low) s := by
  have taken : onSafe c (fun x => { x with
      pinLow := low, als := if (s.sf c).alsPin && low && (s.sf c).als == .pulse then .shutdown else (s.sf c).als }) s =
      onSafe c (SafeCarrier.pinTaken low) s := onSafe_congr rfl
  rw [← taken]
  rfl

theorem alsPin_asks : ((alsPin c low s).sf c).asks = (SafeCarrier.pinTaken low (s.sf c)).asks := by
  rw [alsPin_eq]
  split
  · rw [driveLight_asks, raiseAon_sf, onSafe_sf]
  · rw [onSafe_sf]

theorem alsPin_acts (pin : (s.sf c).alsPin = true) (changes : (s.sf c).pinLow ≠ low) (up : coreUp s = true) :
    (alsPin c low s).evt.status.getLsbD 386 = true := by
  rw [alsPin_eq, if_pos ⟨pin, changes⟩]
  exact driveLight_kept (raiseAon_status (s := onSafe c (SafeCarrier.pinTaken low) s) up rfl (by decide) (by decide))

theorem alsPin_silent (h : (s.sf c).alsPin = false ∨ (s.sf c).pinLow = low) : (alsPin c low s).evt = s.evt := by
  rw [alsPin_eq, if_neg]
  · rfl
  · rintro ⟨pin, changes⟩
    rcases h with h | h
    · simp [h] at pin
    · exact changes h

theorem alsPin_frame : { alsPin c low s with safe := s.safe, evt := s.evt } = s := by
  rw [alsPin_eq]
  split
  · exact driveLight_besides
  · rfl

/-- A restart pulse begins; its end restores the shutdown (R465). -/
def SafeCarrier.pulseBegun (x : SafeCarrier) : SafeCarrier := { x with als := .pulse, pulses := bump x.pulses }
def SafeCarrier.pulseEnded (x : SafeCarrier) : SafeCarrier := { x with als := .shutdown }

theorem alsPulseStart_eq (shut : (s.sf c).als = .shutdown) : alsPulseStart c s =
    driveLight false c (onSafe c SafeCarrier.pulseBegun s) := if_pos shut

theorem alsPulseEnd_eq (pulse : (s.sf c).als = .pulse) : alsPulseEnd c s =
    driveLight true c (onSafe c SafeCarrier.pulseEnded s) := if_pos pulse

/-- Settles O39: the pair is driven by the rule of light after each change of its conditions, which the driving leaves as they are. -/
theorem ruleOfLight : Obligations.RuleOfLight := by
  have req {x y : SafeCarrier} (h : x.asks = y.asks) : x.req = y.req ∧ x.als = y.als ∧ x.diag = y.diag ∧ x.pinLow = y.pinLow := by
    simp only [SafeCarrier.asks, Prod.mk.injEq] at h
    exact ⟨h.2.1, h.2.2.2.2.1, h.2.2.2.2.2, h.2.2.2.1⟩
  refine ⟨fun c s on => ?_, fun c s off => ⟨_, rfl, driveLight_floats off⟩, fun q s run => ⟨fun big => ?_, fun small on => ?_⟩,
    fun q failed s run => ⟨fun lit => ?_, fun dark => ?_⟩, fun c s => ⟨fun low => ?_, fun other => ?_, fun shut => ?_, fun other => ?_, fun pulse => ?_⟩⟩
  · obtain ⟨kreq, kals, kdiag, klow⟩ := req (driveLight_asks (quiet := false) (c := c) (s := s))
    exact ⟨_, rfl, (driveLight_pins on).1, (driveLight_pins on).2, driveLight_allowed, driveLight_change, kreq, kals, kdiag, klow,
      fun _ => driveLight_other, driveLight_besides⟩
  · rw [exec_safetyTxenSet, deskRun_done run (txenSet_badReq big)]
  · have power : (txenAsked q s).pwr = s.pwr := by
      have same := congrArg State.pwr (txenAsked_frame (q := q) (s := s))
      exact same
    have pins := driveLight_pins (quiet := false) (c := reqCarrier q) (s := txenAsked q s) (by rwa [power])
    obtain ⟨kreq, -⟩ := req (driveLight_asks (quiet := false) (c := reqCarrier q) (s := txenAsked q s))
    refine ⟨driveLight false (reqCarrier q) (txenAsked q s), ?_, ?_, ?_, ?_, fun d other => ?_, ?_⟩
    · rw [exec_safetyTxenSet, deskRun_done run (txenSet_driven small), driveLight_allowed]
      simp only [SafeCarrier.light, pins]
      cases lightAllowed (txenAsked q s) (reqCarrier q) <;> rfl
    · rw [kreq, txenAsked_sf, onSafe_sf]
      simp
    · rw [driveLight_allowed]
      exact pins.1
    · rw [driveLight_allowed]
      exact pins.2
    · rw [driveLight_other other, txenAsked_sf, onSafe_sf_other other]
    · rw [driveLight_besides]
      exact congrArg (fun t : State => { t with evt := s.evt }) txenAsked_frame
  · rw [exec_safetyProofTest, deskRun_done run (if_pos lit)]
  · rw [exec_safetyProofTest, deskRun_done run (if_neg (by simp [dark]))]
  · have asks := alsPin_asks (c := c) (low := low) (s := s)
    obtain ⟨kreq, kals, -, klow⟩ := req asks
    refine ⟨_, rfl, klow, kreq, kals.trans ?_, alsPin_acts, alsPin_silent, alsPin_frame⟩
    simp only [SafeCarrier.pinTaken, Bool.and_eq_true, beq_iff_eq, and_assoc]
  · exact congrArg _ (if_neg other)
  · obtain ⟨n, driven⟩ := driveLight_driven false c (onSafe c SafeCarrier.pulseBegun s)
    rw [onSafe_sf, ← alsPulseStart_eq shut] at driven
    refine ⟨alsPulseStart c s, rfl, by rw [driven]; rfl, by rw [driven]; rfl, fun on => ?_, ?_⟩
    · rw [alsPulseStart_eq shut, driveLight_allowed]
      exact (driveLight_pins (s := onSafe c SafeCarrier.pulseBegun s) on).1
    · rw [alsPulseStart_eq shut]
      exact driveLight_onSafe_frame
  · exact congrArg _ (if_neg other)
  · have dark : lightAllowed (onSafe c SafeCarrier.pulseEnded s) c = false := lightAllowed_shutdown (congrArg SafeCarrier.als onSafe_sf)
    have ends := (req (driveLight_asks (quiet := true) (c := c) (s := onSafe c SafeCarrier.pulseEnded s))).2.1
    rw [onSafe_sf] at ends
    refine ⟨alsPulseEnd c s, rfl, ?_, ?_, fun on => ?_, ?_⟩
    · rw [alsPulseEnd_eq pulse, ends]
      rfl
    · rw [alsPulseEnd_eq pulse, driveLight_allowed, dark]
    · rw [alsPulseEnd_eq pulse]
      have pins := driveLight_pins (quiet := true) (c := c) (s := onSafe c SafeCarrier.pulseEnded s) on
      rwa [dark] at pins
    · rw [alsPulseEnd_eq pulse]
      exact driveLight_onSafe_frame

end Sys2Proof.Machine
end

section
/-! The diagnostics of the safety function (19_laser_safety.md R466, R467, R469). -/

namespace Sys2Proof.Machine

variable {s : State} {c : Fin 2} {d : DiagSample}

/-! ### Masks of two carriers -/

theorem bit_pair (c : Fin 2) (p r : Bool) : bit (b2n p + 2 * b2n r) c.val = if c = 0 then p else r := by
  revert c p r
  decide

theorem bit_both (c : Fin 2) (p : Bool) : bit (3 * b2n p) c.val = p := by
  revert c p
  decide

theorem pair_eq_zero (p r : Bool) : b2n p + 2 * b2n r = 0 ↔ p = false ∧ r = false := by
  revert p r
  decide

/-! ### The counts and the faults -/

theorem onSafe_both {f g : SafeCarrier → SafeCarrier} : (onSafe 1 g (onSafe 0 f s)).sf c = if c = 0 then f (s.sf c) else g (s.sf c) := by
  match c with
  | 0 => rw [onSafe_sf_other (by decide), onSafe_sf, if_pos rfl]
  | 1 => rw [onSafe_sf, onSafe_sf_other (by decide), if_neg (by decide)]

theorem noteDiag_readback (a b : Bool × Bool) : (noteDiag (.readback a b) s).sf c = (s.sf c).compare (if c = 0 then a else b) := by
  rw [noteDiag, onSafe_both]
  split <;> rfl

theorem noteDiag_channels (a b : Bool × Bool) : (noteDiag (.channels a b) s).sf c = (s.sf c).agree (if c = 0 then a else b) := by
  rw [noteDiag, onSafe_both]
  split <;> rfl

theorem noteDiag_frame : { noteDiag d s with safe := s.safe } = s := by
  cases d <;> rfl

/-- A comparison counts; it latches nothing and changes no power state. -/
theorem noteDiag_diag : ((noteDiag d s).sf c).diag = (s.sf c).diag := by
  cases d with
  | readback a b => rw [noteDiag_readback]; rfl
  | channels a b => rw [noteDiag_channels]; rfl
  | clocks _ _ => rfl
  | config => rfl
  | freshness => rfl
  | heartbeat _ _ => rfl
  | alsInput _ _ => rfl

theorem noteDiag_pwr : (noteDiag d s).pwr = s.pwr := by
  cases d <;> rfl

theorem noteDiag_coreUp : coreUp (noteDiag d s) = coreUp s := by
  cases d <;> rfl

theorem diagMask_readback {a b : Bool × Bool} : bit (diagMask s (.readback a b)) c.val = decide (4 ≤ (s.sf c).backRun) := by
  match c with
  | 0 => exact bit_pair 0 _ _
  | 1 => exact bit_pair 1 _ _

theorem diagMask_heartbeat {x y : Nat} : bit (diagMask s (.heartbeat x y)) c.val = (decide (10 ≤ if c = 0 then x else y) && s.dom c == .run) := by
  match c with
  | 0 => exact bit_pair 0 _ _
  | 1 => exact bit_pair 1 _ _

/-! ### A fault is latched -/

/-- A carrier's state with a diagnostic latched. -/
def SafeCarrier.latched (n : Nat) (x : SafeCarrier) : SafeCarrier := { x with diag := Nat.lor x.diag (2 ^ n) }

/-- One carrier latches a diagnostic where the mask names it. -/
def SafeCarrier.latchedIf (n m : Nat) (c : Fin 2) (x : SafeCarrier) : SafeCarrier := if bit m c.val then x.latched n else x

theorem onSafe_latchedIf {n m : Nat} : onSafe c (SafeCarrier.latchedIf n m c) s =
    if bit m c.val then onSafe c (SafeCarrier.latched n) s else s := by
  unfold SafeCarrier.latchedIf
  split
  · rfl
  · simp [onSafe, upd]

/-- The carriers that a mask names latch a diagnostic. -/
def diagsLatched (n m : Nat) (s : State) : State := onSafe 1 (SafeCarrier.latchedIf n m 1) (onSafe 0 (SafeCarrier.latchedIf n m 0) s)

theorem diagsLatched_sf {n m : Nat} : (diagsLatched n m s).sf c = (s.sf c).latchedIf n m c := by
  rw [diagsLatched, onSafe_both]
  match c with
  | 0 => rfl
  | 1 => rfl

/-- The latched diagnostic, reported (SAFETY_DIAG_FAIL). -/
def diagReported (n m : Nat) (s : State) : State :=
  raiseAon 385 (if m = 3 then objDevice else objCarrier (m / 2)) (evtArg 0 n 0 0) (diagsLatched n m s)

/-- SAFETY_DIAG_FAIL, then both pairs by the rule of light (R467). -/
theorem latchDiag_eq {n m : Nat} : latchDiag n m s = driveAll (diagReported n m s) := by
  unfold latchDiag diagReported diagsLatched
  rw [onSafe_latchedIf, onSafe_latchedIf]
  rfl

theorem driveAll_besides {f : Safety} {e : EventTree} : { driveAll s with safe := f, evt := e } = { s with safe := f, evt := e } := by
  rw [driveAll, driveLight_besides, driveLight_besides]

theorem driveAll_kept {m : Nat} (h : s.evt.status.getLsbD m = true) : (driveAll s).evt.status.getLsbD m = true :=
  driveLight_kept (driveLight_kept h)

theorem driveAll_asks : ((driveAll s).sf c).asks = (s.sf c).asks := by
  unfold driveAll
  match c with
  | 0 => rw [driveLight_other (by decide), driveLight_asks]
  | 1 => rw [driveLight_asks, driveLight_other (by decide)]

theorem driveAll_allowed : lightAllowed (driveAll s) c = lightAllowed s c := by
  rw [driveAll, driveLight_allowed, driveLight_allowed]

theorem driveLight_pwr {quiet : Bool} : (driveLight quiet c s).pwr = s.pwr :=
  Same.driveLight (e := State.pwr) .refl

/-- Both pairs follow the rule of light outside OFF. -/
theorem driveAll_txen (on : s.pwr.st ≠ .off) : ((driveAll s).sf c).txen = some (lightAllowed s c) := by
  unfold driveAll
  match c with
  | 0 =>
    rw [driveLight_other (by decide)]
    exact (driveLight_pins on).1
  | 1 =>
    rw [(driveLight_pins (by rwa [driveLight_pwr])).1, driveLight_allowed]

theorem diag_of_asks {x y : SafeCarrier} (h : x.asks = y.asks) : x.diag = y.diag := by
  simp only [SafeCarrier.asks, Prod.mk.injEq] at h
  exact h.2.2.2.2.2

theorem diagReported_sf {n m : Nat} : (diagReported n m s).sf c = (s.sf c).latchedIf n m c := by
  rw [diagReported, raiseAon_sf, diagsLatched_sf]

theorem latchDiag_diag {n m : Nat} : ((latchDiag n m s).sf c).diag = ((s.sf c).latchedIf n m c).diag := by
  rw [latchDiag_eq, diag_of_asks driveAll_asks, diagReported_sf]

theorem lor_two_pow_ne_zero (x n : Nat) : Nat.lor x (2 ^ n) ≠ 0 := by
  have h : (Nat.lor x (2 ^ n)).testBit n = true := by
    show (x ||| 2 ^ n).testBit n = true
    simp
  intro zero
  rw [zero] at h
  simp at h

/-- No light on a carrier on which a diagnostic is latched (R458 condition 7, R467). -/
theorem latchDiag_dark {n m : Nat} (named : bit m c.val = true) (on : s.pwr.st ≠ .off) :
    lightAllowed (latchDiag n m s) c = false ∧ ((latchDiag n m s).sf c).txen = some false := by
  have dark : lightAllowed (diagReported n m s) c = false := by
    refine lightAllowed_diag ?_
    rw [diagReported_sf, SafeCarrier.latchedIf, if_pos named]
    exact lor_two_pow_ne_zero _ n
  have low := driveAll_txen (s := diagReported n m s) (c := c) on
  rw [dark] at low
  rw [latchDiag_eq, driveAll_allowed]
  exact ⟨dark, low⟩

theorem latchDiag_besides {n m : Nat} {f : Safety} {e : EventTree} :
    { latchDiag n m s with safe := f, evt := e } = { s with safe := f, evt := e } := by
  rw [latchDiag_eq, driveAll_besides]
  rfl

theorem latchDiag_raises {n m : Nat} (up : coreUp s = true) : (latchDiag n m s).evt.status.getLsbD 385 = true := by
  rw [latchDiag_eq]
  exact driveAll_kept (raiseAon_status (s := diagsLatched n m s) up rfl (by decide) (by decide))

/-! ### The tick -/

/-- The carriers on which a diagnostic's fault is new. -/
def freshMask (d : DiagSample) (s : State) : Nat :=
  b2n (bit (diagMask (noteDiag d s) d) 0 && !bit (s.sf 0).diag (diagBit d)) +
    2 * b2n (bit (diagMask (noteDiag d s) d) 1 && !bit (s.sf 1).diag (diagBit d))

theorem bit_freshMask : bit (freshMask d s) c.val = (bit (diagMask (noteDiag d s) d) c.val && !bit (s.sf c).diag (diagBit d)) := by
  rw [freshMask, bit_pair]
  match c with
  | 0 => rfl
  | 1 => rfl

theorem diagTick_rests (h : s.pwr.st = .off ∨ (s.pwr.st = .deepSleep ∧ diagBit d ≠ 0)) : diagTick d s = s := if_pos h

theorem diagTick_runs (h : ¬(s.pwr.st = .off ∨ (s.pwr.st = .deepSleep ∧ diagBit d ≠ 0))) :
    diagTick d s = if freshMask d s = 0 then noteDiag d s else latchDiag (diagBit d) (freshMask d s) (noteDiag d s) := if_neg h

theorem exec_safetyDiagTick : exec (.safetyDiagTick d) s = .next (diagTick d s) := rfl

theorem fresh_iff : (bit (diagMask (noteDiag d s) d) c.val = true ∧ bit (s.sf c).diag (diagBit d) = false) ↔ bit (freshMask d s) c.val = true := by
  rw [bit_freshMask]
  simp

theorem freshMask_ne_zero (h : bit (freshMask d s) c.val = true) : freshMask d s ≠ 0 := by
  intro zero
  simp [zero, bit] at h

theorem freshMask_zero (h0 : bit (freshMask d s) (0 : Fin 2).val ≠ true) (h1 : bit (freshMask d s) (1 : Fin 2).val ≠ true) : freshMask d s = 0 := by
  rw [bit_freshMask, ne_eq, Bool.not_eq_true] at h0 h1
  exact (pair_eq_zero _ _).2 ⟨h0, h1⟩

/-- Settles O40, by whether the diagnostic runs and whether its fault is new on some carrier. -/
theorem safetyDiagnostics : Obligations.SafetyDiagnostics := by
  refine ⟨fun a b c s => ⟨noteDiag_readback a b, noteDiag_channels a b, noteDiag_frame, noteDiag_frame, ?_, ?_⟩,
    fun s c x y => ⟨?_, ?_, ?_, ?_⟩, fun d s => ⟨fun h => ?_, fun on deep => ⟨fun old => ?_, fun new => ?_⟩⟩⟩
  · rw [diagMask_readback, decide_eq_true_iff]
  · rw [diagMask, bit_both, Bool.or_eq_true, decide_eq_true_iff, decide_eq_true_iff]
  · simp only [diagMask, bit_both, offRatio, Bool.or_eq_true, decide_eq_true_iff, or_assoc]
  · rw [diagMask, bit_both]
  · rw [diagMask_heartbeat, Bool.and_eq_true, decide_eq_true_iff, beq_iff_eq]
  · rw [diagMask, bit_both, Bool.or_eq_true, decide_eq_true_iff, decide_eq_true_iff]
  · rw [exec_safetyDiagTick, diagTick_rests h]
  all_goals
    simp only [fresh_iff] at *
    rw [exec_safetyDiagTick, diagTick_runs (by rintro (h | ⟨h, nz⟩); exacts [on h, nz (deep h)])]
  · rw [freshMask_zero old.1 old.2, if_pos rfl]
  · have some_ : freshMask d s ≠ 0 := new.elim freshMask_ne_zero freshMask_ne_zero
    rw [if_neg some_]
    refine ⟨_, rfl, fun up => latchDiag_raises (by rwa [noteDiag_coreUp]), ?_, fun c => ⟨fun named => ?_, fun other => ?_⟩⟩
    · rw [latchDiag_besides]
      exact congrArg (fun t : State => { t with evt := s.evt }) noteDiag_frame
    · obtain ⟨dark, low⟩ := latchDiag_dark (n := diagBit d) (s := noteDiag d s) named (by rwa [noteDiag_pwr])
      refine ⟨?_, dark, low⟩
      rw [latchDiag_diag, SafeCarrier.latchedIf, if_pos named]
      exact congrArg (fun x => Nat.lor x _) noteDiag_diag
    · rw [latchDiag_diag, SafeCarrier.latchedIf, if_neg other, noteDiag_diag]

end Sys2Proof.Machine
end

section
/-! The end of a boot (18_boot_security.md R432 steps 6 and 7; R328, R395, R399, R450, R456). -/

namespace Sys2Proof.Machine

variable {s : State}

theorem exec_yozonReady : exec .yozonReady s = .next (yozonReady s) := rfl

/-- Bad slots are reported by events alone. -/
theorem foldl_raise_evt {α : Type} {n : Nat} {ob : α → Nat} {a : State → α → EvtArg} {l : List α} :
    ∃ e, l.foldl (fun s x => raise n (ob x) (a s x) s) s = { s with evt := e } := by
  induction l generalizing s with
  | nil => exact ⟨_, rfl⟩
  | cons x l ih => exact ih

/-- What Yozon reports is spent, one more fallback is counted when there was one; the rest is events. -/
theorem bootReports_eq (s : State) : ∃ e n, bootReports s = { s with
    evt := e, boot := { s.boot with fallbacks := n, fallbackCause := none, slotBad := [] }
    pwr := { s.pwr with brownLatch := false }, house := { s.house with shutFresh := false } } ∧
    (s.boot.fallbackCause.isSome = true → n = bump s.boot.fallbacks) := by
  unfold bootReports
  extract_lets s1 s2 s3 s4
  obtain ⟨e1, n, h1, counted⟩ : ∃ e n, s1 = { s with evt := e, boot := { s.boot with fallbacks := n } } ∧
      (s.boot.fallbackCause.isSome = true → n = bump s.boot.fallbacks) := by
    unfold s1
    cases s.boot.fallbackCause with
    | none => exact ⟨s.evt, s.boot.fallbacks, rfl, nofun⟩
    | some k => exact ⟨_, _, rfl, fun _ => rfl⟩
  obtain ⟨e2, h2⟩ : ∃ e, s2 = { s1 with evt := e } := foldl_raise_evt
  obtain ⟨e3, h3⟩ : ∃ e, s3 = { s2 with evt := e } := ⟨_, rfl⟩
  obtain ⟨e4, h4⟩ : ∃ e, s4 = { s3 with evt := e } := by
    unfold s4
    split
    · exact ⟨_, rfl⟩
    · exact ⟨s3.evt, rfl⟩
  refine ⟨e4, n, ?_, counted⟩
  clear_value s1 s2 s3 s4
  subst h4 h3 h2 h1
  rfl

theorem eraseOther_eq (s : State) : ∃ x f, eraseOther s = { s with cat := { s.cat with erasing := x }, boot := { s.boot with flash := f } } := by
  unfold eraseOther
  dsimp only
  split
  · exact ⟨s.cat.erasing, s.boot.flash, rfl⟩
  · exact ⟨_, _, rfl⟩

/-- The Desk and every channel become ready. -/
def deskReady (s : State) : State :=
  { s with desk := { s.desk with ready := true, chans := s.desk.chans.map fun (c : Channel) => { c with ready := true } } }

/-- The state after a boot that is not an exit from DEEP_SLEEP, before what it found is reported. -/
def bootLoaded (s : State) : State :=
  onPwr (fun p => { p with wakeMask := 1, timerSec := 0 }) (loadOsc { s with boot := { s.boot with booting := false, fromDeep := false } })

theorem yozonReady_idle (h : s.boot.booting = false) : yozonReady s = s := if_pos (by rw [h]; rfl)

theorem yozonReady_boots (booting : s.boot.booting = true) (h : s.boot.fromDeep = false) :
    yozonReady s = driveAll (deskReady (eraseOther (bootReports (bootLoaded s)))) := by
  rw [yozonReady, booting, if_neg (by decide)]
  simp only [h, Bool.false_eq_true, if_false]
  rfl

/-- Settles O33: the effects of the end of a boot, one after the other; the pairs are then driven by the rule of light. -/
theorem bootEnd : Obligations.BootEnd := by
  intro s
  rw [exec_yozonReady]
  refine ⟨fun idle => by rw [yozonReady_idle idle], fun booting h => ⟨_, rfl, ?_⟩⟩
  rw [yozonReady_boots booting h]
  obtain ⟨e, n, reports, counted⟩ := bootReports_eq (bootLoaded s)
  obtain ⟨x, f, erase⟩ := eraseOther_eq (bootReports (bootLoaded s))
  have driven := driveAll_besides (s := deskReady (eraseOther (bootReports (bootLoaded s)))) (f := s.safe) (e := s.evt)
  generalize driveAll _ = t at driven ⊢
  rw [erase, reports] at driven
  have field {α : Type} (v : State → α) := congrArg v driven
  exact ⟨field State.desk, field State.pwr, field (·.boot.booting), field (·.boot.fallbackCause),
    field (·.boot.slotBad), fun fell => (field (·.boot.fallbacks)).trans (counted fell),
    field State.house, field (·.cat.records), field (·.cat.slot), field State.time,
    field State.cars, field State.lanes, field State.stk, field State.dev, field State.vault⟩

end Sys2Proof.Machine
end

section
/-! Writes of EVT_STATUS, EVT_EN and EVT_FORCE (15_events_census.md R364 to R369): each is one update of every bit of its group. -/

namespace Sys2Proof.Machine

variable {p : Path} {g : Fin 16} {v : Word32} {s : State} {e : EventTree} {st : Stamp} {t n m ob : Nat} {a : EvtArg}

theorem exec_evtStatusWrite {occ : List (Fin 32 × Word32 × EvtArg)} : exec (.evtStatusWrite p g v occ) s =
    .next (if evtLive s p then evtStatusWrite g v occ s else evtStatusWrite g 0 occ s) := rfl

theorem exec_evtEnWrite : exec (.evtEnWrite p g v) s = .next (if evtLive s p then evtEnWrite g v s else s) := rfl

theorem exec_evtForceWrite : exec (.evtForceWrite p g v) s = .next (if evtLive s p then evtForceWrite g v s else s) := rfl

/-! ### One bit of a group -/

theorem clrBit_get {b : BitVec 512} (h : n < 512) : (clrBit b n).getLsbD m = (b.getLsbD m && !decide (m = n)) := by
  unfold clrBit
  by_cases lt : m < 512
  · by_cases e : m = n
    · subst e; simp [h]
    · simp [lt, e]; omega
  · simp [BitVec.getLsbD_of_ge _ _ (Nat.le_of_not_lt lt)]

theorem putBit_get {b : BitVec 512} {x : Bool} (h : n < 512) : (putBit b n x).getLsbD m = if m = n then x else b.getLsbD m := by
  unfold putBit
  cases x with
  | true =>
    rw [if_pos rfl, setBit_get h]
    split <;> simp [*]
  | false =>
    rw [if_neg (by decide), clrBit_get h]
    split <;> simp [*]

/-- What the 32 places of a group, one after the other, do to the bit `m` of a view of the state: its own place alone counts. -/
theorem foldl_group {α : Type} {f : α → Nat → α} {obs : α → Bool} {put : Nat → Bool → Bool} {g : Nat} {x : α}
    (step : ∀ y i, i < 32 → obs (f y i) = if m = 32 * g + i then put i (obs y) else obs y) :
    obs ((List.range 32).foldl f x) = if m / 32 = g then put (m % 32) (obs x) else obs x := by
  have upTo (k : Nat) (hk : k ≤ 32) : obs ((List.range k).foldl f x) =
      if 32 * g ≤ m ∧ m < 32 * g + k then put (m - 32 * g) (obs x) else obs x := by
    induction k with
    | zero => rw [if_neg (by omega)]; rfl
    | succ k ih =>
      rw [List.range_succ, List.foldl_append, List.foldl_cons, List.foldl_nil, step _ _ (by omega), ih (by omega)]
      by_cases here : m = 32 * g + k
      · rw [if_pos here, if_neg (by omega), if_pos (by omega), show m - 32 * g = k by omega]
      · rw [if_neg here]
        exact if_congr (by omega) rfl rfl
  rw [upTo 32 (Nat.le_refl _)]
  by_cases here : m / 32 = g
  · rw [if_pos here, if_pos (by omega), show m - 32 * g = m % 32 by omega]
  · rw [if_neg here, if_neg (by omega)]

/-! ### EVT_STATUS -/

theorem clearStatus_get (g : Fin 16) : (e.clearStatus g.val v).status.getLsbD m =
    (e.status.getLsbD m && !(decide (m / 32 = g.val) && v.getLsbD (m % 32))) := by
  have fold := foldl_group (m := m) (g := g.val) (x := e.status) (obs := fun b : BitVec 512 => b.getLsbD m)
    (put := fun i b => b && !v.getLsbD i) (f := fun b i => if v.getLsbD i then clrBit b (32 * g.val + i) else b) fun b i lt => by
      cases v.getLsbD i with
      | true =>
        rw [if_pos rfl, clrBit_get (by omega)]
        split <;> simp [*]
      | false => simp
  refine fold.trans ?_
  split <;> simp [*]

theorem clearStatus_zero (g : Fin 16) : e.clearStatus g.val 0 = e := by
  have same : ∀ l : List Nat, l.foldl (fun b i => if (0 : Word32).getLsbD i then clrBit b (32 * g.val + i) else b) e.status = e.status := by
    intro l
    simp
  rw [EventTree.clearStatus, same]

/-! ### EVT_EN -/

/-- The write of one place of EVT_EN (R368): the enable, and the vector of a set status newly enabled. -/
def enStep (g : Nat) (v : Word32) (e : EventTree) (i : Nat) : EventTree :=
  let n := 32 * g + i
  if eventDefined n then
    let e1 := { e with en := putBit e.en n (v.getLsbD i) }
    if v.getLsbD i && !e.en.getLsbD n && e.status.getLsbD n then e1.signal n else e1
  else e

theorem writeEn_foldl {g : Nat} : e.writeEn g v = (List.range 32).foldl (enStep g v) e := rfl

theorem enStep_eq (g : Nat) (v : Word32) (e : EventTree) (i : Nat) : ∃ pba sent, enStep g v e i =
    { e with en := if eventDefined (32 * g + i) then putBit e.en (32 * g + i) (v.getLsbD i) else e.en, pba := pba, sent := sent } := by
  unfold enStep
  extract_lets n e1
  by_cases defined : eventDefined n = true
  · rw [if_pos defined, if_pos defined]
    split
    · exact signal_eq e1 n
    · exact ⟨e.pba, e.sent, rfl⟩
  · rw [if_neg defined, if_neg defined]
    exact ⟨e.pba, e.sent, rfl⟩

/-- A write of EVT_EN touches the enables, the vectors' pending bits and the messages sent alone. -/
theorem writeEn_eq (e : EventTree) (g : Nat) (v : Word32) : ∃ en pba sent, e.writeEn g v = { e with en := en, pba := pba, sent := sent } := by
  have all (l : List Nat) (x : EventTree) : ∃ en pba sent, l.foldl (enStep g v) x = { x with en := en, pba := pba, sent := sent } := by
    induction l generalizing x with
    | nil => exact ⟨x.en, x.pba, x.sent, rfl⟩
    | cons i l ih =>
      obtain ⟨pba, sent, h⟩ := enStep_eq g v x i
      rw [List.foldl_cons, h]
      exact ih _
  exact all _ e

theorem writeEn_get (g : Fin 16) : (e.writeEn g.val v).en.getLsbD m =
    if m / 32 = g.val ∧ eventDefined m = true then v.getLsbD (m % 32) else e.en.getLsbD m := by
  rw [writeEn_foldl, foldl_group (m := m) (g := g.val) (x := e) (obs := fun e : EventTree => e.en.getLsbD m)
    (put := fun i b => if eventDefined m then v.getLsbD i else b) (f := enStep g.val v) fun x i lt => ?_]
  · by_cases here : m / 32 = g.val <;> simp [here]
  · obtain ⟨pba, sent, h⟩ := enStep_eq g.val v x i
    rw [h]
    dsimp only
    by_cases here : m = 32 * g.val + i
    · rw [if_pos here, ← here]
      split
      · rw [putBit_get (by omega), if_pos rfl]
      · rfl
    · rw [if_neg here]
      split
      · rw [putBit_get (by omega), if_neg here]
      · rfl

/-! ### EVT_FORCE -/

theorem occurCore_en : (e.occurCore st n ob a).1.en = e.en := by
  unfold EventTree.occurCore
  extract_lets fresh e1 e2
  have signalled : e2.en = e.en := by
    unfold e2
    split
    · obtain ⟨pba, sent, h⟩ := signal_eq e1 n
      rw [h]
    · rfl
  split
  · exact signalled
  · split
    · exact signalled
    · exact signalled

theorem occur_en : (e.occur st t n ob a).en = e.en := by
  unfold EventTree.occur
  split
  · dsimp only
    split
    · rw [occurCore_en]
      exact occurCore_en
    · exact occurCore_en
  · rfl

/-- An occurrence sets its source's bit, and beside it EVT_LOG_LOST at most (R365, R371). -/
theorem occur_get (h : n < 512) (other : m ≠ 11) : (e.occur st t n ob a).status.getLsbD m =
    (e.status.getLsbD m || (decide (m = n) && eventDefined n)) := by
  unfold EventTree.occur
  cases defined : eventDefined n with
  | false => simp
  | true =>
    rw [if_pos rfl, Bool.and_true]
    dsimp only
    split
    · rw [occurCore_status, setBit_get (by decide), decide_eq_false other, Bool.or_false]
      show ((e.occurCore st n ob a).1.status.getLsbD m) = _
      rw [occurCore_status, setBit_get h]
    · rw [occurCore_status, setBit_get h]

theorem evtForceWrite_en : (evtForceWrite g v s).evt.en = s.evt.en := by
  have all (l : List Nat) (x : EventTree) : (l.foldl (fun e i =>
      if v.getLsbD i then e.occur (s.stampAt 24) s.dev.ticks (32 * g.val + i) 0xFF (evtArg 0 0 0 0) else e) x).en = x.en := by
    induction l generalizing x with
    | nil => rfl
    | cons i l ih =>
      rw [List.foldl_cons, ih]
      split
      · exact occur_en
      · rfl
  exact all _ _

theorem evtForceWrite_get (other : m ≠ 11) : (evtForceWrite g v s).evt.status.getLsbD m =
    (s.evt.status.getLsbD m || (decide (m / 32 = g.val) && v.getLsbD (m % 32) && eventDefined m)) := by
  have fold := foldl_group (m := m) (g := g.val) (x := s.evt) (obs := fun e : EventTree => e.status.getLsbD m)
    (put := fun i b => b || (v.getLsbD i && eventDefined m))
    (f := fun e i => if v.getLsbD i then e.occur (s.stampAt 24) s.dev.ticks (32 * g.val + i) 0xFF (evtArg 0 0 0 0) else e) fun x i lt => by
      cases v.getLsbD i with
      | false => simp
      | true =>
        rw [if_pos rfl, occur_get (by omega) other]
        by_cases here : m = 32 * g.val + i
        · simp [here]
        · simp [here]
  refine fold.trans ?_
  by_cases here : m / 32 = g.val <;> simp [here]

/-- Settles O26: the write by the register, where the path reaches it, and bit by bit. -/
theorem eventRegisters : Obligations.EventRegisters := by
  intro p g v s
  rw [exec_evtStatusWrite, exec_evtEnWrite, exec_evtForceWrite]
  refine ⟨fun dead => ?_, fun live => ?_⟩
  · simp only [dead, Bool.false_eq_true, if_false, evtStatusWrite, List.foldl_nil, clearStatus_zero, and_self]
  · simp only [live, if_true, exec_evtStatusWrite]
    refine ⟨⟨_, rfl, rfl, rfl, fun m => clearStatus_get g⟩, fun b ob a defined unlimited => ⟨_, rfl, rfl, ?_⟩,
      ⟨_, rfl, rfl, ?_⟩, ⟨_, rfl, rfl, evtForceWrite_en, fun m other => evtForceWrite_get other⟩⟩
    · exact raise_status unlimited defined (by omega)
    · obtain ⟨en, pba, sent, h⟩ := writeEn_eq s.evt g.val v
      refine ⟨?_, ?_, ?_, fun m => writeEn_get g⟩
      · exact (congrArg EventTree.status h :)
      · exact (congrArg EventTree.queue h :)
      · exact (congrArg EventTree.counts h :)

end Sys2Proof.Machine
end

section
/-! The event log and the vectors that cease to be masked (14_command_reference.md R338, R341; 15_events_census.md R368, R371). -/

namespace Sys2Proof.Machine

variable {s : State}

/-! ### The log -/

theorem exec_logRecordTake : exec .logRecordTake s = .next (logTake s) := rfl

theorem nextLogSeq_toNat (n : Word16) : (nextLogSeq n).toNat = n.toNat % 65535 + 1 := by
  unfold nextLogSeq
  split
  · next h => rw [h]; rfl
  · next h =>
    have lt := n.isLt
    have ne : n.toNat ≠ 65535 := fun e => h (BitVec.eq_of_toNat_eq e)
    rw [BitVec.toNat_add]
    show (n.toNat + 1) % 2 ^ 16 = _
    omega

theorem logTake_idle (h : s.evt.queue = [] ∨ curatorUp s = false) : logTake s = s := by
  unfold logTake
  split
  · rfl
  · next r rest queue =>
    rcases h with h | h
    · rw [h] at queue
      cases queue
    · simp [h]

theorem logTake_oldest {r : EvtRec} {rest : List EvtRec} (queue : s.evt.queue = r :: rest) (up : curatorUp s = true) :
    logTake s = { s with evt := { s.evt with
      queue := rest, logSeq := nextLogSeq s.evt.logSeq, logged := bump s.evt.logged
      log := (s.evt.log ++ [((nextLogSeq s.evt.logSeq).toNat, r)]).drop (s.evt.log.length + 1 - 1024) } } := by
  simp only [logTake, queue, up, if_true, List.length_append, List.length_singleton]

theorem exec_eventLogGet {q : Request} : exec (.eventLogGet q) s = .next (deskRun 0x0D01 eventLogGet q s) := rfl

/-- From START_SEQ 0 the records begin with the oldest kept. -/
theorem recsFrom_zero (l : List (Nat × EvtRec)) : recsFrom l 0 = l := by
  cases l <;> rfl

theorem eventLogGet_oldest {q : Request} (first : u16 q 4 = 0) : ∃ next, eventLogGet q s =
    (s, okBulk (leBytes 2 (min 128 s.evt.log.length) ++ next) ((s.evt.log.take 128).flatMap recBytes)) := by
  unfold eventLogGet
  rw [first, recsFrom_zero]
  dsimp only
  rw [List.length_take]
  exact ⟨_, rfl⟩

/-! ### Vectors that cease to be masked -/

/-- A vector ceases to be masked between two forms of the tree. -/
def EventTree.ceases (old e : EventTree) (v : Nat) : Bool := old.masked v && !e.masked v

/-- A source routed to a vector is pending. -/
def EventTree.called (e : EventTree) (v : Nat) : Bool := (List.range 512).any fun n => e.pend n && e.routedTo n v

/-- One vector of R368: where it ceases to be masked with its pending bit set, the bit is cleared and a message may be sent. -/
def unmaskStep (old e : EventTree) (v : Nat) : EventTree :=
  if old.ceases e v && e.pba.getLsbD v then
    { e with pba := clrBit e.pba v, sent := if e.called v then v :: e.sent else e.sent }
  else e

theorem unmasked_foldl {old e : EventTree} : old.unmasked e = (List.range 32).foldl (unmaskStep old) e := by
  refine congrArg (fun f => (List.range 32).foldl f e) (funext fun x => funext fun v => ?_)
  refine if_congr Iff.rfl ?_ rfl
  by_cases called : x.called v = true
  · rw [if_pos called]
    exact if_pos called
  · rw [if_neg called]
    exact if_neg called

theorem clrBit32_get {b : Word32} {n m : Nat} (h : n < 32) : (clrBit b n).getLsbD m = (b.getLsbD m && !decide (m = n)) := by
  unfold clrBit
  by_cases lt : m < 32
  · by_cases e : m = n
    · subst e; simp [h]
    · simp [lt, e]; omega
  · simp [BitVec.getLsbD_of_ge _ _ (Nat.le_of_not_lt lt)]

theorem unmaskStep_eq {old e : EventTree} {k : Nat} (h : k < 32) : ∃ pba sent, unmaskStep old e k = { e with pba := pba, sent := sent } ∧
    (∀ v, pba.getLsbD v = (e.pba.getLsbD v && !(decide (v = k) && old.ceases e v))) ∧
    ∀ v, sent.count v = e.sent.count v + if v = k ∧ old.ceases e v = true ∧ e.pba.getLsbD v = true ∧ e.called v = true then 1 else 0 := by
  unfold unmaskStep
  cases ceases : old.ceases e k with
  | false =>
    refine ⟨e.pba, e.sent, rfl, fun v => ?_, fun v => ?_⟩
    · by_cases here : v = k <;> simp [here, ceases]
    · rw [if_neg]
      · rfl
      · rintro ⟨rfl, yes, -⟩
        simp [ceases] at yes
  | true =>
    cases set_ : e.pba.getLsbD k with
    | false =>
      refine ⟨e.pba, e.sent, rfl, fun v => ?_, fun v => ?_⟩
      · by_cases here : v = k <;> simp [here, set_]
      · rw [if_neg]
        · rfl
        · rintro ⟨rfl, -, yes, -⟩
          simp [set_] at yes
    | true =>
      refine ⟨_, _, rfl, fun v => ?_, fun v => ?_⟩
      · rw [clrBit32_get h]
        by_cases here : v = k <;> simp [here, ceases]
      · by_cases here : v = k
        · subst here
          cases called : e.called v <;> simp [ceases, set_]
        · cases called : e.called k <;> simp [here, Ne.symm here]

/-- The first `k` vectors, each judged by the masks and the sources that the walk leaves as they are. -/
theorem unmaskSteps {old e : EventTree} {k : Nat} (h : k ≤ 32) : ∃ pba sent,
    (List.range k).foldl (unmaskStep old) e = { e with pba := pba, sent := sent } ∧
    (∀ v, pba.getLsbD v = (e.pba.getLsbD v && !(decide (v < k) && old.ceases e v))) ∧
    ∀ v, sent.count v = e.sent.count v + if v < k ∧ old.ceases e v = true ∧ e.pba.getLsbD v = true ∧ e.called v = true then 1 else 0 := by
  induction k with
  | zero => exact ⟨e.pba, e.sent, rfl, by simp, by simp⟩
  | succ k ih =>
    obtain ⟨pba, sent, before, bits, counts⟩ := ih (by omega)
    obtain ⟨pba', sent', step, bits', counts'⟩ := unmaskStep_eq (old := old) (e := { e with pba := pba, sent := sent }) (k := k) (by omega)
    refine ⟨pba', sent', ?_, fun v => ?_, fun v => ?_⟩
    · rw [List.range_succ, List.foldl_append, before]
      exact step
    · have ceases : old.ceases { e with pba := pba, sent := sent } v = old.ceases e v := rfl
      rw [bits', bits, ceases]
      by_cases here : v = k
      · subst here
        simp
      · simp [here, show v < k + 1 ↔ v < k by omega]
    · have ceases : old.ceases { e with pba := pba, sent := sent } v = old.ceases e v := rfl
      have called : EventTree.called { e with pba := pba, sent := sent } v = e.called v := by
        simp only [EventTree.called, EventTree.pend, EventTree.routedTo, EventTree.routeOf]
      rw [counts', counts, ceases, called]
      dsimp only
      rw [bits]
      by_cases here : v = k
      · subst here
        simp
      · simp [here, show v < k + 1 ↔ v < k by omega]

theorem exec_msixUnmask {w : MsixBit} : exec (.msixUnmask w) s = .next (if pathServed s .bar0 then msixUnmask w s else s) := rfl

/-- The tree with a mask cleared, before the vectors that it holds are judged. -/
def EventTree.withUnmasked (w : MsixBit) (e : EventTree) : EventTree :=
  match w with
  | .vectorMask v => { e with msix := upd e.msix v fun m => { m with mask := false } }
  | .functionMask => { e with functionMask := false }
  | .msixEnable => { e with msixEnable := true }

/-- A mask that is cleared leaves the status bits, the enables, the routes, the pending bits and the messages as they are. -/
theorem withUnmasked_eq (w : MsixBit) (e : EventTree) : ∃ x f m, e.withUnmasked w = { e with msix := x, functionMask := f, msixEnable := m } := by
  cases w with
  | vectorMask v => exact ⟨_, e.functionMask, e.msixEnable, rfl⟩
  | functionMask => exact ⟨e.msix, _, e.msixEnable, rfl⟩
  | msixEnable => exact ⟨e.msix, e.functionMask, _, rfl⟩

theorem msixUnmask_eq {w : MsixBit} : msixUnmask w s = { s with evt := s.evt.unmasked (s.evt.withUnmasked w) } := rfl

/-- Settles O27: a record taken is one update of the tree, and the vectors are judged one by one (`unmaskSteps`). -/
theorem eventLogAndVectors : Obligations.EventLogAndVectors := by
  refine ⟨fun s => ⟨fun idle => ?_, fun r rest queue up => ?_⟩, fun q s run first => ?_, fun w s => ⟨fun dead => ?_, fun live => ?_⟩⟩
  · rw [exec_logRecordTake, logTake_idle idle]
  · refine ⟨_, rfl, ?_⟩
    rw [logTake_oldest queue up]
    simp only [nextLogSeq_toNat, and_self]
  · obtain ⟨next, got⟩ := eventLogGet_oldest (s := s) first
    exact ⟨next, by rw [exec_eventLogGet, deskRun_done run got]⟩
  · rw [exec_msixUnmask, dead]
    rfl
  · rw [exec_msixUnmask, live]
    refine ⟨_, rfl, rfl, ?_⟩
    obtain ⟨pba, sent, walk, bits, counts⟩ := unmaskSteps (old := s.evt) (e := s.evt.withUnmasked w) (Nat.le_refl 32)
    rw [if_pos rfl, msixUnmask_eq, unmasked_foldl, walk]
    obtain ⟨x, f, m, cleared⟩ := withUnmasked_eq w s.evt
    refine ⟨(congrArg EventTree.status cleared :), (congrArg EventTree.en cleared :), (congrArg EventTree.route cleared :), fun v small => ⟨?_, ?_⟩⟩
    · rw [bits, decide_eq_true small, Bool.true_and, cleared]
      rfl
    · have called : (s.evt.withUnmasked w).called v = s.evt.called v := by
        rw [cleared]
        simp only [EventTree.called, EventTree.pend, EventTree.routedTo, EventTree.routeOf]
      have same : (s.evt.withUnmasked w).sent = s.evt.sent ∧ (s.evt.withUnmasked w).pba = s.evt.pba := by
        rw [cleared]
        exact ⟨rfl, rfl⟩
      rw [counts, called, same.1, same.2]
      refine congrArg (_ + ·) (if_congr ?_ rfl rfl)
      rw [Bool.and_eq_true, Bool.and_eq_true, and_assoc]
      exact ⟨fun ⟨_, ceases, rest⟩ => ⟨ceases, rest⟩, fun h => ⟨small, h⟩⟩

end Sys2Proof.Machine
end

section
/-! Census commands and the Census control register (14_command_reference.md R338; 15_events_census.md R376, R380). -/

namespace Sys2Proof.Machine

variable {q : Request} {p : Path} {b : Bool} {s : State} {t : Nat}

theorem exec_censusTake : exec (.censusTake q) s = .next (deskRun 0x0D10 censusTake q s) := rfl

theorem exec_censusSet : exec (.censusSet q) s = .next (deskRun 0x0D11 censusSet q s) := rfl

theorem exec_censusTakeRegister : exec (.censusTakeRegister p) s = .next (if evtLive s p then takeRegister s else s) := rfl

theorem exec_censusHoldWrite : exec (.censusHoldWrite p b) s = .next (if evtLive s p then holdWrite b s else s) := rfl

/-! ### The instant of a request -/

theorem wholeMs_whole (t : Nat) : wholeMs t % fracPerMs = 0 := Nat.mul_mod_left _ _

theorem wholeMs_first (t : Nat) : t ≤ wholeMs t ∧ wholeMs t < t + fracPerMs := by
  have pos : 0 < fracPerMs := by decide
  have split_ := Nat.div_add_mod (t + fracPerMs - 1) fracPerMs
  have rest := Nat.mod_lt (t + fracPerMs - 1) pos
  rw [Nat.mul_comm] at split_
  unfold wholeMs ceilDiv
  omega

/-- The instant that CENSUS.TAKE names: zero stands for the first whole millisecond at least 1 ms ahead. -/
def takenInstant (q : Request) (s : State) : Nat :=
  if u48 q 4 = 0 ∧ u32 q 12 = 0 then nextInstant s else stampVal { sec := u48 q 4, ns := u32 q 12, frac := 0 }

theorem censusTake_eq (ns : u32 q 12 ≤ 999999999) (ahead : s.tod16 ≤ takenInstant q s ∧ takenInstant q s ≤ s.tod16 + 86400 * fracPerSec)
    (init : s.stk.initialised = true) : censusTake q s = if s.cen.want.isSome then (s, refuse stBusy)
      else (beginTransition .census 0x0D10 q (onCen (fun c => { c with want := some (takenInstant q s), wantCmd := true }) s), .later) := by
  rw [censusTake]
  show (if 999999999 < u32 q 12 then _ else if takenInstant q s < s.tod16 ∨ s.tod16 + 86400 * fracPerSec < takenInstant q s then _ else _) = _
  rw [if_neg (by omega), if_neg (by omega), if_neg (by simp [init])]
  rfl

theorem censusSet_inForce (h : u32 q 4 = 0 ∨ 100 ≤ u32 q 4 ∧ u32 q 4 ≤ 3600000) :
    censusSet q s = (keepBody 0x0D11 q (onCen (fun c => { c with periodMs := u32 q 4 }) s), ok) := if_neg (by omega)

theorem censusSet_outOfRange (h : ¬(u32 q 4 = 0 ∨ 100 ≤ u32 q 4 ∧ u32 q 4 ≤ 3600000)) : censusSet q s = (s, badParam 4) := if_pos (by omega)

/-! ### The control register -/

theorem takeRegister_pending (h : s.cen.want.isSome = true) : takeRegister s = s := if_pos (.inl h)

theorem takeRegister_takes (none_ : s.cen.want = none) (init : s.stk.initialised = true) :
    takeRegister s = onCen (fun c => { c with want := some (nextInstant s), wantCmd := false }) s := if_neg (by simp [none_, init])

/-- Settles O28. That HOLD before the first snapshot sets the bit alone is the model's choice (log 53). -/
theorem censusRequests : Obligations.CensusRequests := by
  refine ⟨fun q s run ns init => ⟨fun past far busy => ?_, fun past far idle => ?_⟩, fun s => ⟨wholeMs_whole _, ?_, ?_⟩,
    fun q s run => ⟨fun good => ?_, fun bad => ?_⟩, fun p b s => ⟨fun dead => ?_, fun live => ?_⟩⟩
  · rw [exec_censusTake, deskRun_done run ((censusTake_eq ns ⟨past, far⟩ init).trans (if_pos busy))]
  · have begins := (censusTake_eq ns ⟨past, far⟩ init).trans (if_neg (by simp [idle]))
    exact ⟨_, congrArg _ (deskRun_later run begins), rfl, rfl, rfl, rfl⟩
  · exact (wholeMs_first _).1
  · have := (wholeMs_first (s.tod16 + fracPerMs)).2
    show wholeMs (s.tod16 + fracPerMs) < s.tod16 + 2 * fracPerMs
    omega
  · refine ⟨_, congrArg _ (deskRun_done run (censusSet_inForce good)), rfl, rfl, ?_⟩
    rw [bodyOf_keepBody]
    rfl
  · rw [exec_censusSet, deskRun_done run (censusSet_outOfRange bad)]
  · rw [exec_censusTakeRegister, exec_censusHoldWrite, dead]
    exact ⟨rfl, rfl⟩
  · simp only [exec_censusTakeRegister, exec_censusHoldWrite, live, if_true]
    refine ⟨fun pending => ?_, fun none_ init => ?_, rfl, fun first => ?_, fun later => ?_⟩
    · rw [takeRegister_pending pending]
    · rw [takeRegister_takes none_ init]
      rfl
    · simp only [holdWrite, onCen, first, if_true]
    · simp only [holdWrite, onCen, later, if_true, if_false]

end Sys2Proof.Machine
end

section
/-! The acceptance of a request (13_curator_desk.md R311, R313, R316, R318, R509). -/

namespace Sys2Proof.Machine

variable {s : State} {ch : Fin 4}

theorem exec_requestAccept : exec (.requestAccept ch) s = .next (acceptNext ch s) := rfl

/-! ### The turn -/

theorem requestWaits_iff : requestWaits s ch = true ↔
    accepting s ch = true ∧ (s.chan ch).reqHead ≠ (s.chan ch).reqTail ∧ tapHolds s (natAt (s.chan ch).entry 0 2) = false := by
  simp only [requestWaits, Bool.and_eq_true, bne_iff_ne, Bool.not_eq_true', and_assoc]

/-- The order of service: the channel after the one served last, and so round to it again. -/
def turnOrder (k : Fin 4) (n : Nat) : Fin 4 := k + 1 + (BitVec.ofNat 2 n).toFin

theorem turn_candidates (k : Fin 4) : [k + 1, k + 2, k + 3, k] = (List.range 4).map (turnOrder k) := by
  revert k
  decide

theorem turn_reaches (k ch : Fin 4) : ch ∈ (List.range 4).map (turnOrder k) := by
  revert k ch
  decide

theorem nextTurn_eq : nextTurn s = ((List.range 4).find? (requestWaits s ∘ turnOrder s.desk.served)).map (turnOrder s.desk.served) := by
  rw [nextTurn, turn_candidates, List.find?_map]

theorem nextTurn_waits (turn : nextTurn s = some ch) : requestWaits s ch = true :=
  List.find?_some turn

/-- Where a request waits, the turn falls to the first channel in the order in which one waits. -/
theorem nextTurn_first (waits : requestWaits s ch = true) : ∃ n, nextTurn s = some (turnOrder s.desk.served n) ∧ n < 4 ∧
    ∀ m < n, requestWaits s (turnOrder s.desk.served m) = false := by
  rw [nextTurn_eq]
  cases found : (List.range 4).find? (requestWaits s ∘ turnOrder s.desk.served) with
  | none =>
    obtain ⟨m, mem, rfl⟩ := List.mem_map.1 (turn_reaches s.desk.served ch)
    exact absurd waits (List.find?_eq_none.1 found m mem)
  | some n =>
    obtain ⟨-, mem, before⟩ := List.find?_range_eq_some.1 found
    exact ⟨n, rfl, List.mem_range.1 mem, fun m lt => by simpa using before m lt⟩

/-! ### Acceptance -/

/-- What becomes of a channel whose request is accepted: its count advances, and the request waits to run or is completed at once. -/
structure Accepted (op : Nat) (q : Request) (c c' : Channel) : Prop where
  reqHead : c'.reqHead = c.reqHead
  reqTail : c'.reqTail = c.reqTail
  rspTail : c'.rspTail = c.rspTail
  rspHead : c'.rspHead = c.rspHead
  win : c'.win = c.win
  seq : c'.seq = c.seq + 1
  fate : (∃ o : Outst, c'.outst = c.outst ++ [o] ∧ c'.done = c.done ∧ o.seq = c.seq + 1 ∧ o.req.tag = q.tag ∧ o.op = op) ∨
    ∃ d : Done, c'.done = c.done ++ [d] ∧ c'.outst = c.outst ∧ d.seq = c.seq + 1 ∧ d.tag = q.tag ∧
      (d.status = stBadEntry ∨ d.status = stBadOpcode ∨ d.status = stDenied)

theorem Accepted.outstanding {op : Nat} {q : Request} {c c' : Channel} (h : Accepted op q c c') : c'.outstanding = c.outstanding + 1 := by
  rcases h.fate with ⟨o, outst, done, -⟩ | ⟨d, done, outst, -⟩
  · simp only [Channel.outstanding, outst, done, List.length_append, List.length_singleton]
    omega
  · simp only [Channel.outstanding, outst, done, List.length_append, List.length_singleton]
    omega

theorem Accepted.ownsSlot {op : Nat} {q : Request} {c c' : Channel} {l : List SlotUse} (h : Accepted op q c c') :
    Accepted op q c { c' with slots := l } :=
  ⟨h.reqHead, h.reqTail, h.rspTail, h.rspHead, h.win, h.seq, h.fate⟩

/-- A request accepted into its channel: nothing but the Desk changes, there the order count and this channel. -/
structure AcceptedInto (op : Nat) (q : Request) (s t : State) : Prop where
  desk : deskOnly s t
  others : otherChannels q.ch s t
  served : t.desk.served = s.desk.served
  chan : Accepted op q (s.chan q.ch) (t.chan q.ch)

/-- What differs in the Desk alone from a state with another Desk differs in the Desk alone from the state itself. -/
theorem deskOnly_of_desk {d : Desk} {t : State} (h : deskOnly { s with desk := d } t) : deskOnly s t := by
  have kept := congrArg (fun x : State => { x with desk := s.desk }) h
  exact kept

/-- The entry's bulk slot counts as in use. -/
def slotOwned (q : Request) (s : State) : State :=
  match q.slot with
  | some sl => onChan q.ch (fun c => { c with slots := { slot := sl, tag := q.tag, unread := none } :: c.slots }) s
  | none => s

theorem AcceptedInto.slotOwned {op : Nat} {q : Request} {s t : State} (h : AcceptedInto op q s t) : AcceptedInto op q s (slotOwned q t) := by
  unfold Machine.slotOwned
  split
  · refine ⟨h.desk, fun k other => (onChan_other other).trans (h.others k other), h.served, ?_⟩
    rw [onChan_same]
    exact h.chan.ownsSlot
  · exact h

/-- One channel is changed, and the next request gets the next order number. -/
def takenInto (ch : Fin 4) (f : Channel → Channel) (s : State) : State :=
  { onChan ch f s with desk := { (onChan ch f s).desk with nextOrder := s.desk.nextOrder + 1 } }

theorem takenInto_accepted {op : Nat} {q : Request} {f : Channel → Channel} (h : Accepted op q (s.chan q.ch) (f (s.chan q.ch))) :
    AcceptedInto op q s (takenInto q.ch f s) := by
  refine ⟨rfl, fun k other => onChan_other other, rfl, ?_⟩
  have chan : (takenInto q.ch f s).chan q.ch = f (s.chan q.ch) := onChan_same
  rw [chan]
  exact h

/-- A request that is refused at its acceptance is completed at once. -/
theorem refused_accepted {op : Nat} {q : Request} {o : Outst} {r : Resp} {tick : Nat} (live : (s.chan q.ch).resetting = false)
    (seq : o.seq = (s.chan q.ch).seq + 1) (tag : o.req.tag = q.tag) (status : r.status = stBadEntry ∨ r.status = stBadOpcode ∨ r.status = stDenied) :
    Accepted op q (s.chan q.ch) ({ s.chan q.ch with seq := (s.chan q.ch).seq + 1 }.push (doneOf tick o r)) := by
  have pushed : { s.chan q.ch with seq := (s.chan q.ch).seq + 1 }.push (doneOf tick o r) =
      { ({ s.chan q.ch with seq := (s.chan q.ch).seq + 1 }.sticky r.status) with done := (s.chan q.ch).done ++ [doneOf tick o r] } :=
    if_neg (by simp [live])
  rw [pushed]
  exact ⟨rfl, rfl, rfl, rfl, rfl, rfl, .inr ⟨_, rfl, rfl, seq, tag, status⟩⟩

theorem acceptRequest_accepted {op : Nat} {bad : Bool} {q : Request} (live : (s.chan q.ch).resetting = false) :
    AcceptedInto op q s (acceptRequest op bad q s) := by
  unfold acceptRequest
  extract_lets c o isBad put own
  have refused {r : Resp} (status : r.status = stBadEntry ∨ r.status = stBadOpcode ∨ r.status = stDenied) : AcceptedInto op q s (put r) :=
    takenInto_accepted (refused_accepted (o := o) live rfl rfl status)
  have owned {t : State} (h : AcceptedInto op q s t) : AcceptedInto op q s (own t) := h.slotOwned
  clear_value own
  split
  · exact refused (.inl rfl)
  · split
    · exact owned (refused (.inr (.inl rfl)))
    · split
      · exact owned (refused (.inr (.inr rfl)))
      · split
        · exact refused (.inl rfl)
        · exact owned (takenInto_accepted ⟨rfl, rfl, rfl, rfl, rfl, rfl, .inl ⟨_, rfl, rfl, rfl, rfl, rfl⟩⟩)

/-- The state in which the entry of the channel that has the turn is accepted: its head has moved on. -/
def turnTaken (ch : Fin 4) (s : State) : State :=
  onChan ch (fun c => { c with reqHead := c.reqHead + 1 }) { s with desk := { s.desk with served := ch } }

theorem acceptNext_turn (turn : nextTurn s = some ch) : acceptNext ch s =
    acceptRequest (natAt (s.chan ch).entry 0 2) (entryBad (s.chan ch).entry) (requestOf ch (s.chan ch) (s.chan ch).entry) (turnTaken ch s) :=
  if_pos turn

theorem turnTaken_chan : (turnTaken ch s).chan ch = { s.chan ch with reqHead := (s.chan ch).reqHead + 1 } := onChan_same

/-- Settles O17, by whether the channel has the turn. That a request other than QUERY stays in its ring while the test access port
is outside Test-Logic-Reset is deduced (log 55). -/
theorem deskAcceptance : Obligations.DeskAcceptance := by
  intro ch s waits
  have waits_iff (k : Fin 4) : waits k ↔ requestWaits s k = true := requestWaits_iff.symm
  clear_value waits
  refine ⟨fun turn => (waits_iff ch).2 (nextTurn_waits turn), fun here => ?_, fun other => ?_, fun turn live => ?_⟩
  · obtain ⟨n, turn, lt, before⟩ := nextTurn_first ((waits_iff ch).1 here)
    refine ⟨_, n, turn, (waits_iff _).2 (nextTurn_waits turn), lt, rfl, fun m small => ?_⟩
    rw [waits_iff, Bool.not_eq_true]
    exact before m small
  · exact congrArg _ (if_neg other)
  · rw [exec_requestAccept, acceptNext_turn turn]
    have taken : (turnTaken ch s).chan ch = { s.chan ch with reqHead := (s.chan ch).reqHead + 1 } := turnTaken_chan
    have accepted := acceptRequest_accepted (s := turnTaken ch s) (op := natAt (s.chan ch).entry 0 2) (bad := entryBad (s.chan ch).entry)
      (q := requestOf ch (s.chan ch) (s.chan ch).entry) ((congrArg Channel.resetting taken).trans live)
    have chan : Accepted _ _ ((turnTaken ch s).chan ch) (State.chan _ ch) := accepted.chan
    have count := chan.outstanding
    rw [taken] at chan count
    refine ⟨_, rfl, deskOnly_of_desk accepted.desk, fun k other => (accepted.others k other).trans (onChan_other other), accepted.served, chan.reqHead, chan.seq,
      count, chan.reqTail, chan.rspTail, chan.rspHead, chan.win, chan.fate⟩

end Sys2Proof.Machine
end

section
/-! How a completed response is written (13_curator_desk.md R309, R314, R316, R317). -/

namespace Sys2Proof.Machine

variable {s : State} {ch : Fin 4} {d : Done}

theorem exec_responseWrite : exec (.responseWrite ch) s = .next (idleRest (activateProgress (writeResponse ch s))) := rfl

/-! ### What waits for a response to be written -/

theorem activateProgress_idle (h : s.desk.activating = false) : activateProgress s = s := if_neg (by simp [h])

/-- The gating of the idle core's clocks changes the power state alone. -/
theorem idleRest_eq (s : State) : ∃ p, idleRest s = { s with pwr := p } := by
  unfold idleRest
  split
  · exact ⟨_, rfl⟩
  · exact ⟨s.pwr, rfl⟩

theorem responseWrite_idle (h : s.desk.activating = false) (kept : (writeResponse ch s).desk.activating = s.desk.activating) :
    ∃ p, exec (.responseWrite ch) s = .next { writeResponse ch s with pwr := p } := by
  obtain ⟨p, rest⟩ := idleRest_eq (writeResponse ch s)
  exact ⟨p, by rw [exec_responseWrite, activateProgress_idle (kept.trans h), rest]⟩

/-! ### The entry and its bulk bytes -/

theorem padTo_length {n : Nat} {l : List Byte} : (padTo n l).length = n := by
  rw [padTo, bytesAt, List.length_append, List.length_take, List.length_replicate]
  omega

theorem responseEntry_length : (responseEntry d).length = 256 := by
  simp only [responseEntry, List.length_append, leBytes_length, padTo_length]

/-- The window with a response in it: its entry at RSP_TAIL, its bulk bytes in their slot. -/
def windowWith (c : Channel) (d : Done) : List Host.Cell :=
  let w := cellPutList (some 0) (rspEntryAt c.rspTail) (responseEntry d) c.win
  match d.slot with
  | some sl => cellPutList (some 0) (slotAt sl) d.bulk w
  | none => w

theorem rspEntryAt_below (i : Word16) (sl : Fin 32) : rspEntryAt i + 256 ≤ slotAt sl := by
  unfold rspEntryAt slotAt
  omega

theorem windowWith_entry {c : Channel} (rising : Rising c.win) :
    cellGetList (rspEntryAt c.rspTail) 256 (windowWith c d) = responseEntry d := by
  have put := getList_put_same (vs := responseEntry d) (a := rspEntryAt c.rspTail) rising responseEntry_length
  unfold windowWith
  dsimp only
  split
  · next sl _ => rw [getList_put_other (cellPutList_rising rising) (.inl (rspEntryAt_below c.rspTail sl)), put]
  · exact put

theorem windowWith_bulk {c : Channel} {sl : Fin 32} (rising : Rising c.win) (slot : d.slot = some sl) :
    cellGetList (slotAt sl) d.bulk.length (windowWith c d) = d.bulk := by
  simp only [windowWith, slot]
  exact getList_put_same (cellPutList_rising rising) rfl

/-! ### The write -/

theorem writeResponse_waits (h : (s.chan ch).done = [] ∨ 64 ≤ ((s.chan ch).rspTail - (s.chan ch).rspHead).toNat) : writeResponse ch s = s := by
  unfold writeResponse
  dsimp only
  split
  · rfl
  · next d rest done =>
    rcases h with none_ | full
    · rw [none_] at done
      cases done
    · exact if_neg (by omega)

/-- The channel once the oldest response of its queue has been written. -/
def Channel.responded (c : Channel) (d : Done) (rest : List Done) : Channel := { c with
  done := rest, win := windowWith c d, rspTail := c.rspTail + 1
  slots := c.slots.map fun u => if d.status != stBadEntry && u.tag = d.tag && u.unread.isNone then { u with unread := some c.rspTail } else u }

theorem writeResponse_writes {rest : List Done} (done : (s.chan ch).done = d :: rest)
    (room : ((s.chan ch).rspTail - (s.chan ch).rspHead).toNat < 64) : writeResponse ch s =
      let t := onChan ch (fun _ => (s.chan ch).responded d rest) s
      if (s.chan ch).irqEn then raise0 (4 + ch.val) objDevice t else t := by
  have responded : onChan ch (fun c => { c with
      done := rest, win := windowWith (s.chan ch) d, rspTail := c.rspTail + 1
      slots := c.slots.map fun u => if d.status != stBadEntry && u.tag = d.tag && u.unread.isNone then { u with unread := some c.rspTail } else u }) s =
      onChan ch (fun _ => (s.chan ch).responded d rest) s := rfl
  rw [← responded]
  simp only [writeResponse, done, room, if_true]
  rfl

theorem rspReady_unlimited (ch : Fin 4) : limitScope (4 + ch.val) objDevice (evtArg 0 0 0 0) = none ∧ eventDefined (4 + ch.val) = true := by
  revert ch
  decide

theorem raise0_rspReady : (raise0 (4 + ch.val) objDevice s).evt.status.getLsbD (4 + ch.val) = true :=
  raise_status (rspReady_unlimited ch).1 (rspReady_unlimited ch).2 (by omega)

/-- Settles O18, by whether a response waits and the ring has room. -/
theorem deskResponseWritten : Obligations.DeskResponseWritten := by
  intro ch s idle
  refine ⟨fun h => ?_, fun d rest done room _ _ sound => ?_⟩
  · have stays := writeResponse_waits h
    obtain ⟨p, run⟩ := responseWrite_idle idle (by rw [stays])
    exact ⟨_, run, by rw [stays], by rw [stays]⟩
  · have rising : Rising (s.chan ch).win := (cellsOk_iff.1 sound).1
    have writes := writeResponse_writes done room
    obtain ⟨p, run⟩ := responseWrite_idle (ch := ch) idle (by rw [writes]; dsimp only; split <;> rfl)
    have chan : (writeResponse ch s).chan ch = (s.chan ch).responded d rest := by
      rw [writes]
      dsimp only
      split
      · exact onChan_same
      · exact onChan_same
    have others (k : Fin 4) (other : k ≠ ch) : (writeResponse ch s).chan k = s.chan k := by
      rw [writes]
      dsimp only
      split
      · exact onChan_other other
      · exact onChan_other other
    have chan' : State.chan { writeResponse ch s with pwr := p } ch = (s.chan ch).responded d rest := chan
    refine ⟨_, run, ?_, others, ?_, ?_, ?_, ?_, ?_, fun sl slot => ?_, fun en => ?_, fun off => ?_⟩
    · rw [writes]
      dsimp only
      split <;> rfl
    · rw [chan']; rfl
    · rw [chan']; rfl
    · rw [chan']; rfl
    · rw [chan', Channel.outstanding, Channel.outstanding, done, List.length_cons]
      exact Nat.add_assoc _ _ _
    · rw [chan']
      exact windowWith_entry rising
    · rw [chan']
      exact windowWith_bulk rising slot
    · show (writeResponse ch s).evt.status.getLsbD _ = true
      rw [writes, en]
      exact raise0_rspReady
    · show (writeResponse ch s).evt = _
      rw [writes, off]
      rfl

end Sys2Proof.Machine
end

section
/-! Holds that pass their limit, functions without a reply, and restarts (13_curator_desk.md R322, R324, R326, R327). -/

namespace Sys2Proof.Machine

variable {s : State} {ch : Fin 4} {tag : Word16} {o : Outst}

theorem exec_holdLimitExpiry : exec (.holdLimitExpiry ch tag) s = .next (holdLimit ch tag s) := rfl

theorem exec_functionReplyTimeout : exec (.functionReplyTimeout ch tag) s = .next (replyTimeout ch tag s) := rfl

/-! ### The completion of an outstanding request -/

theorem complete_found {r : Resp} (found : (s.chan ch).find tag = some o) : complete ch tag r s =
    onChan ch (fun c => { c with outst := c.outst.filter fun x => x.req.tag != tag }.push (doneOf s.dev.ticks o r)) s := by
  simp only [complete, found]

theorem complete_others {r : Resp} : otherChannels ch s (complete ch tag r s) := by
  unfold complete
  split
  · exact fun _ _ => rfl
  · exact fun _ other => onChan_other other

/-- The request leaves the outstanding list, and its response waits at the end of its channel's queue. -/
theorem complete_chan {r : Resp} (found : (s.chan ch).find tag = some o) (live : (s.chan ch).resetting = false) :
    ((complete ch tag r s).chan ch).outst = (s.chan ch).outst.filter (fun x => x.req.tag != tag) ∧
    ((complete ch tag r s).chan ch).done = (s.chan ch).done ++ [doneOf s.dev.ticks o r] := by
  rw [complete_found found, onChan_same, Channel.push, if_neg (by simp [live])]
  exact ⟨rfl, rfl⟩

theorem complete_deskOnly {r : Resp} : deskOnly s (complete ch tag r s) := by
  obtain ⟨d, h⟩ := complete_changes_desk (ch := ch) (tag := tag) (r := r) (s := s)
  rw [deskOnly, h]

/-! ### The limit of a hold -/

theorem holdLimit_goesOn (found : (s.chan ch).find tag = some o) (h : o.phase ≠ .held ∨ waitedUs s o < 1000 * holdMs o.req) :
    holdLimit ch tag s = s := by
  rw [holdLimit, found]
  refine if_neg fun past => ?_
  rcases h with h | h
  · exact h past.1
  · omega

theorem holdLimit_passed (found : (s.chan ch).find tag = some o) (held : o.phase = .held) (past : 1000 * holdMs o.req ≤ waitedUs s o) :
    holdLimit ch tag s = complete ch tag { status := stInTransition } s := by
  rw [holdLimit, found]
  exact if_pos ⟨held, past⟩

/-! ### The time for a reply -/

/-- The function that a request is for, as R324 counts it in transition. -/
def replyFn (o : Outst) : Fn := match cmdInfo o.op with | some c => fnOfOp c o.req | none => .device

/-- The transitions once a function has given no reply: those that the request began go on without it, and the function has one. -/
def unreplied (ch : Fin 4) (tag : Word16) (o : Outst) (ts : List Transition) : List Transition :=
  if (orphan ch tag ts).any fun t => t.fn == replyFn o then orphan ch tag ts
  else { fn := replyFn o, op := o.op, by_ := none } :: orphan ch tag ts

theorem unreplied_any {ts : List Transition} : (unreplied ch tag o ts).any (fun t => t.fn == replyFn o) = true := by
  unfold unreplied
  split
  · assumption
  · simp

theorem replyTimeout_goesOn (found : (s.chan ch).find tag = some o)
    (h : o.phase ≠ .started ∨ waitedUs s o < 1000 * (completionMs s o.op o.req + 1000)) : replyTimeout ch tag s = s := by
  rw [replyTimeout, found]
  refine if_neg fun past => ?_
  rcases h with h | h
  · exact h past.1
  · omega

/-- The state in which a request that got no reply is completed. -/
def replyGivenUp (ch : Fin 4) (tag : Word16) (o : Outst) (s : State) : State :=
  { s with desk := { s.desk with transitions := unreplied ch tag o s.desk.transitions } }

theorem replyTimeout_passed (found : (s.chan ch).find tag = some o) (started : o.phase = .started)
    (past : 1000 * (completionMs s o.op o.req + 1000) ≤ waitedUs s o) : replyTimeout ch tag s =
      raise 3 objDevice (evtArg 0 ch.val o.op (objOf o.req)) (complete ch tag { status := stTimeout } (replyGivenUp ch tag o s)) := by
  rw [replyTimeout, found]
  exact if_pos ⟨started, past⟩

theorem complete_transitions {r : Resp} : (complete ch tag r s).desk.transitions = s.desk.transitions := by
  unfold complete
  split <;> rfl

/-! ### Restarts -/

theorem complete_restarts {r : Resp} : (complete ch tag r s).desk.restarts = s.desk.restarts := by
  unfold complete
  split <;> rfl

theorem complete_outst {r : Resp} : ((complete ch tag r s).chan ch).outst = (s.chan ch).outst.filter (fun x => x.req.tag != tag) := by
  cases found : (s.chan ch).find tag with
  | none =>
    simp only [complete, found]
    refine (List.filter_eq_self.2 fun x mem => ?_).symm
    simpa using List.find?_eq_none.1 found x mem
  | some o =>
    rw [complete_found found, onChan_same, Channel.push]
    split <;> rfl

/-- Every accepted request of one channel is completed. -/
def failChannel (r : Resp) (s : State) (ch : Fin 4) : State :=
  ((s.chan ch).outst.map (·.req.tag)).foldl (fun s tag => complete ch tag r s) s

theorem failAll_eq {st : Nat} : failAll st s = (List.finRange 4).foldl (failChannel { status := st }) s := rfl

theorem foldl_complete_outst {r : Resp} {tags : List Word16} : ((tags.foldl (fun s tag => complete ch tag r s) s).chan ch).outst =
    (s.chan ch).outst.filter fun x => !tags.contains x.req.tag := by
  induction tags generalizing s with
  | nil => simp
  | cons tag tags ih =>
    rw [List.foldl_cons, ih, complete_outst, List.filter_filter]
    refine List.filter_congr fun x _ => ?_
    rw [List.contains_cons, Bool.not_or, Bool.and_comm]
    rfl

theorem foldl_complete_others {r : Resp} {tags : List Word16} : otherChannels ch s (tags.foldl (fun s tag => complete ch tag r s) s) := by
  induction tags generalizing s with
  | nil => exact fun _ _ => rfl
  | cons tag tags ih => exact fun k other => (ih k other).trans (complete_others k other)

theorem failChannel_outst {r : Resp} (k : Fin 4) : ((failChannel r s ch).chan k).outst = if k = ch then [] else (s.chan k).outst := by
  unfold failChannel
  split
  · next same =>
    subst same
    rw [foldl_complete_outst]
    refine List.filter_eq_nil_iff.2 fun x mem => ?_
    simpa using ⟨x, mem, rfl⟩
  · next other => rw [foldl_complete_others k other]

theorem failChannels_outst {r : Resp} {l : List (Fin 4)} (k : Fin 4) :
    ((l.foldl (failChannel r) s).chan k).outst = if k ∈ l then [] else (s.chan k).outst := by
  induction l generalizing s with
  | nil => rfl
  | cons ch l ih =>
    rw [List.foldl_cons, ih, failChannel_outst]
    by_cases here : k = ch <;> simp [here]

theorem failAll_outst {st : Nat} (k : Fin 4) : ((failAll st s).chan k).outst = [] := by
  rw [failAll_eq, failChannels_outst, if_pos (List.mem_finRange k)]

theorem deskOnly_trans {t u : State} (h : deskOnly s t) (g : deskOnly t u) : deskOnly s u := by
  have kept := congrArg (fun x : State => { x with desk := s.desk }) g
  exact kept.trans h

theorem foldl_deskOnly {α : Type} {f : State → α → State} {l : List α} (step : ∀ t x, deskOnly t (f t x)) : deskOnly s (l.foldl f s) := by
  induction l generalizing s with
  | nil => exact rfl
  | cons x l ih => exact deskOnly_trans (step s x) ih

theorem foldl_restarts {α : Type} {f : State → α → State} {l : List α} (step : ∀ t x, (f t x).desk.restarts = t.desk.restarts) :
    (l.foldl f s).desk.restarts = s.desk.restarts := by
  induction l generalizing s with
  | nil => rfl
  | cons x l ih => exact ih.trans (step s x)

theorem failAll_deskOnly {st : Nat} : deskOnly s (failAll st s) :=
  foldl_deskOnly fun _ _ => foldl_deskOnly fun _ _ => complete_deskOnly

theorem failChannel_restarts {r : Resp} : (failChannel r s ch).desk.restarts = s.desk.restarts :=
  foldl_restarts fun _ _ => complete_restarts

theorem failAll_restarts {st : Nat} : (failAll st s).desk.restarts = s.desk.restarts := by
  rw [failAll_eq]
  exact foldl_restarts fun _ _ => failChannel_restarts

theorem exec_watchdogRestart (h : s.boot.trial = false) : exec .watchdogRestart s = .next (watchdogRestart s) := by
  show (.next (if s.boot.trial then trialBack (watchdogRestart s) else watchdogRestart s) : Out) = _
  rw [h]
  rfl

theorem watchdogRestart_eq (s : State) : ∃ a, watchdogRestart s = raise 8 objDevice a { failAll stRestarted s with
    desk := { (failAll stRestarted s).desk with
      restarts := (failAll stRestarted s).desk.restarts + 1, restarting := true, activating := false, ready := false
      transitions := (failAll stRestarted s).desk.transitions.map fun t => { t with by_ := none } } } := ⟨_, rfl⟩

/-- Settles O19: a hold, a function's reply and a restart by the watchdog, each by the condition of its rule. -/
theorem deskHoldsAndTimeouts : Obligations.DeskHoldsAndTimeouts := by
  refine ⟨fun ch tag s o found live => ⟨fun h => ?_, fun held past => ?_, fun h => ?_, fun started past => ?_⟩,
    fun s => ⟨fun trial => ?_, fun restarting => ?_⟩⟩
  · rw [exec_holdLimitExpiry, holdLimit_goesOn found h]
  · rw [exec_holdLimitExpiry, holdLimit_passed found held past]
    exact ⟨_, rfl, complete_deskOnly, complete_others, complete_chan found live⟩
  · rw [exec_functionReplyTimeout, replyTimeout_goesOn found h]
  · rw [exec_functionReplyTimeout, replyTimeout_passed found started past]
    obtain ⟨outst, done⟩ := complete_chan (s := replyGivenUp ch tag o s) (r := { status := stTimeout }) found live
    refine ⟨_, rfl, ?_, fun k other => complete_others k other, outst, done, raise_status rfl rfl (by decide), fun c info => ?_⟩
    · have kept := congrArg (fun t : State => { t with desk := s.desk, evt := s.evt })
        (complete_deskOnly (s := replyGivenUp ch tag o s) (ch := ch) (tag := tag) (r := { status := stTimeout }))
      exact kept
    · have fn : fnOfOp c o.req = replyFn o := by simp only [replyFn, info]
      show List.any (complete ch tag _ (replyGivenUp ch tag o s)).desk.transitions _ = true
      rw [complete_transitions, fn]
      exact unreplied_any
  · have kept : deskOnly s (failAll stRestarted s) := failAll_deskOnly
    have restarts : (failAll stRestarted s).desk.restarts = s.desk.restarts := failAll_restarts
    have empty (ch : Fin 4) : ((failAll stRestarted s).chan ch).outst = [] := failAll_outst ch
    obtain ⟨a, restart⟩ := watchdogRestart_eq s
    rw [exec_watchdogRestart trial, restart]
    generalize failAll stRestarted s = u at kept restarts empty
    refine ⟨_, rfl, ?_, empty, congrArg (· + 1) restarts, rfl, rfl, raise_status rfl rfl (by decide)⟩
    have frame := congrArg (fun t : State => { t with evt := s.evt }) kept
    exact frame
  · refine ⟨_, rfl, ?_⟩
    simp only [restartReady, restarting, if_true]
    exact ⟨rfl, rfl, rfl, rfl⟩

end Sys2Proof.Machine
end

section
/-! The records of a parameter command: how a request with a malformed record is refused, what an accepted record says, and what
the parameters read once the records are in force (14_command_reference.md R331 to R336). -/

namespace Sys2Proof.Machine

variable {q : Request} {s : State} {rs : List ParRec} {op off : Nat}

/-! ### A record refused -/

/-- A P command answers the offset of its first record refused, before any rule of its chapter is looked at. -/
theorem pCommand_malformed {chk : List ParRec → State → Option Reply} {act : List ParRec → State → State}
    (bad : parseRecords op q = .error off) : pCommand op chk act q s = (s, badParam off) := by
  simp only [pCommand, bad]

theorem protProvision_malformed (bad : parseRecords 0x0920 q = .error off) : protProvision q s = (s, badParam off) := by
  simp only [protProvision, bad]

/-- A command of the Desk whose action is a refusal of a parameter at an offset. -/
theorem deskRun_badParam {act : Request → State → State × Reply} (run : runs op q s = true) (bad : act q s = (s, badParam off)) :
    Host.Outcome.next (deskRun op act q s) =
      (.next (complete q.ch q.tag { status := stBadParam, detail := off } s) : Host.Outcome State Fault Refusal) :=
  congrArg Host.Outcome.next (deskRun_done run bad)

/-! ### A record accepted -/

/-- What an accepted record of a command says: it stands at its offset, its row takes the command, its Reserved bytes are 0 and
its value, read from its last four bytes, is allowed. -/
def RecordSays (op : Nat) (q : Request) (r : ParRec) : Prop :=
  r.row ∈ parTable (tabOf op) ∧ op ∈ r.row.ops ∧ r.row.pid = u16 q r.off ∧ u8 q (r.off + 2) = 0 ∧ u8 q (r.off + 3) = 0 ∧
    r.row.allows r.val = true ∧ r.val = if r.row.signed then signedOf 32 (u32 q (r.off + 4)) else (u32 q (r.off + 4) : Int)

/-- A guarded parse that succeeds has passed its guard. -/
theorem passed_of_ok {α : Type} {p : Prop} [Decidable p] {e : Nat} {x : Except Nat α} {r : α}
    (h : (if p then .error e else x) = .ok r) : ¬ p ∧ x = .ok r := by
  by_cases bad : p
  · rw [if_pos bad] at h
    cases h
  · rw [if_neg bad] at h
    exact ⟨bad, h⟩

theorem parseRecord_says {r : ParRec} (h : parseRecord op off q = .ok r) : r.off = off ∧ RecordSays op q r := by
  unfold parseRecord at h
  split at h
  case h_1 => cases h
  case h_2 row found =>
    obtain ⟨low, h⟩ := passed_of_ok h
    obtain ⟨high, h⟩ := passed_of_ok h
    by_cases fits : row.allows (if row.signed then signedOf 32 (u32 q (off + 4)) else (u32 q (off + 4) : Int)) = true
    · cases (if_pos fits).symm.trans h
      have named := List.find?_some found
      rw [Bool.and_eq_true, beq_iff_eq, List.contains_iff_mem] at named
      exact ⟨rfl, List.mem_of_find?_eq_some found, named.2, named.1, not_not.1 low, not_not.1 high, fits, rfl⟩
    · cases (if_neg fits).symm.trans h

/-- The records parsed from record `i` on. -/
theorem parseFrom_says {k i : Nat} (h : parseFrom op q k i = .ok rs) :
    rs.length = k ∧ ∀ (j : Nat) (r : ParRec), rs[j]? = some r → r.off = 8 + 8 * (i + j) ∧ RecordSays op q r := by
  induction k generalizing i rs with
  | zero =>
    cases h
    exact ⟨rfl, fun j r at_ => by cases at_⟩
  | succ k ih =>
    unfold parseFrom at h
    split at h
    · cases h
    · next r first =>
      split at h
      · cases h
      · next tail rest =>
        cases h
        obtain ⟨len, each⟩ := ih rest
        refine ⟨by rw [List.length_cons, len], fun j x at_ => ?_⟩
        cases j with
        | zero =>
          cases at_
          exact parseRecord_says first
        | succ j =>
          obtain ⟨place, said⟩ := each j x at_
          exact ⟨by omega, said⟩

theorem parseRecords_from (h : parseRecords op q = .ok rs) : parseFrom op q (u8 q 4) 0 = .ok rs :=
  (passed_of_ok (passed_of_ok (passed_of_ok (passed_of_ok h).2).2).2).2

/-! ### Records in force -/

/-- A value names a parameter of a table and an object. -/
def ParamVal.names (v : ParamVal) (t : PTab) (k pid : Nat) : Prop := v.tab = t ∧ v.obj = k ∧ v.pid = pid

section

variable {p : Params} {v : ParamVal} {l : List ParamVal} {t : PTab} {k pid : Nat} {x : Int}

theorem get_put_same (h : v.names t k pid) : (p.put v).get t k pid = v.val := by
  obtain ⟨rfl, rfl, rfl⟩ := h
  simp [Params.get, Params.put, putPar]

/-- Dropping a parameter does not hide another. -/
theorem find_dropPar (h : ¬ v.names t k pid) : (dropPar v l).find? (fun w => w.tab == t && w.obj == k && w.pid == pid) =
    l.find? fun w => w.tab == t && w.obj == k && w.pid == pid := by
  rw [dropPar, List.find?_filter]
  refine congrArg (List.find? · l) (funext fun w => ?_)
  by_cases named : w.names t k pid
  · obtain ⟨rfl, rfl, rfl⟩ := named
    have other : (w.tab == v.tab && w.obj == v.obj && w.pid == v.pid) = false := by
      rw [Bool.eq_false_iff]
      intro same
      simp only [Bool.and_eq_true, beq_iff_eq] at same
      exact h ⟨same.1.1.symm, same.1.2.symm, same.2.symm⟩
    simp [other]
  · have out : (w.tab == t && w.obj == k && w.pid == pid) = false := by
      rw [Bool.eq_false_iff]
      intro same
      simp only [Bool.and_eq_true, beq_iff_eq] at same
      exact named ⟨same.1.1, same.1.2, same.2⟩
    simp [out]

theorem get_put_other (h : ¬ v.names t k pid) : (p.put v).get t k pid = p.get t k pid := by
  have out : (v.tab == t && v.obj == k && v.pid == pid) = false := by
    rw [Bool.eq_false_iff]
    intro same
    simp only [Bool.and_eq_true, beq_iff_eq] at same
    exact h ⟨same.1.1, same.1.2, same.2⟩
  simp only [Params.get, Params.put, putPar, List.find?_cons, out, find_dropPar h]

/-- Values none of which names a parameter leave what it reads as. -/
theorem get_puts_other (h : ∀ v ∈ l, ¬ v.names t k pid) : (l.foldl Params.put p).get t k pid = p.get t k pid := by
  induction l generalizing p with
  | nil => rfl
  | cons v r ih =>
    rw [List.foldl_cons, ih fun w hw => h w (List.mem_cons_of_mem v hw), get_put_other (h v List.mem_cons_self)]

/-- Values that name a parameter with one value, at least one of them: the parameter reads as that value. -/
theorem get_puts_same (some_ : ∃ v ∈ l, v.names t k pid) (h : ∀ v ∈ l, v.val = x) : (l.foldl Params.put p).get t k pid = x := by
  induction l generalizing p with
  | nil =>
    obtain ⟨v, hv, _⟩ := some_
    cases hv
  | cons v r ih =>
    rw [List.foldl_cons]
    by_cases later : ∃ w ∈ r, w.names t k pid
    · exact ih later fun w hw => h w (List.mem_cons_of_mem v hw)
    · have rest : ∀ w ∈ r, ¬ w.names t k pid := fun w hw named => later ⟨w, hw, named⟩
      have front : v.names t k pid := by
        obtain ⟨w, hw, named⟩ := some_
        rcases List.mem_cons.1 hw with rfl | hw
        · exact named
        · exact absurd named (rest w hw)
      rw [get_puts_other rest, get_put_same front, h v List.mem_cons_self]

end

theorem mem_recVals {v : ParamVal} : v ∈ recVals op q rs ↔ ∃ r ∈ rs, ∃ k ∈ scopeKeys r.row.scope q,
    v = { tab := tabOf op, obj := k, pid := r.row.pid, val := r.val } := by
  simp only [recVals, List.mem_flatMap, List.mem_map, eq_comm (a := v)]

/-- The last record with its PID governs. -/
theorem applyRecs_last {a b : List ParRec} {r : ParRec} {k : Nat} (last : ∀ x ∈ b, x.row.pid ≠ r.row.pid)
    (key : k ∈ scopeKeys r.row.scope q) : (applyRecs op q (a ++ r :: b) s).par.get (tabOf op) k r.row.pid = r.val := by
  have after : ∀ v ∈ recVals op q b, ¬ v.names (tabOf op) k r.row.pid := by
    intro v hv named
    obtain ⟨x, hx, _, _, rfl⟩ := mem_recVals.1 hv
    exact last x hx named.2.2
  have parts : recVals op q (a ++ r :: b) = recVals op q a ++ (recVals op q [r] ++ recVals op q b) := by
    simp [recVals]
  have own : ∀ v ∈ recVals op q [r], v.val = r.val := by
    intro v hv
    obtain ⟨x, hx, _, _, rfl⟩ := mem_recVals.1 hv
    rw [List.mem_singleton.1 hx]
  rw [applyRecs, parts, List.foldl_append, List.foldl_append, get_puts_other after]
  exact get_puts_same ⟨_, mem_recVals.2 ⟨r, List.mem_singleton_self r, k, key, rfl⟩, rfl, rfl, rfl⟩ own

theorem applyRecs_other {t : PTab} {k pid : Nat}
    (out : t ≠ tabOf op ∨ ∀ r ∈ rs, r.row.pid = pid → k ∉ scopeKeys r.row.scope q) :
    (applyRecs op q rs s).par.get t k pid = s.par.get t k pid := by
  refine get_puts_other fun v hv named => ?_
  obtain ⟨r, hr, _, key, rfl⟩ := mem_recVals.1 hv
  obtain ⟨rfl, rfl, rfl⟩ := named
  rcases out with tab | keys
  · exact tab rfl
  · exact keys r hr rfl key

/-- Settles O20: every parameter row refuses through the one parser, an inversion of which says what an accepted record holds, and
the fold that puts records in force is read one value at a time. -/
theorem parameterRecords : Obligations.ParameterRecords := by
  unfold Obligations.ParameterRecords
  refine ⟨fun q s off => ?_, fun op q rs parsed => ?_⟩
  · dsimp only
    refine ⟨fun bad run => ?_, fun bad run => ?_, fun bad run => ?_, fun bad run => ?_, fun bad run => ?_, fun bad run => ?_,
      fun bad run => ?_, fun bad run => ?_, fun bad run => ?_, fun bad run => ?_, fun bad run => ?_, fun bad run => ?_,
      fun bad run => ?_, fun bad run => ?_, fun bad run => ?_, fun bad run => ?_, fun bad run => ?_⟩
    case refine_6 => exact deskRun_badParam run (decodeSet_malformed bad)
    case refine_10 => exact deskRun_badParam run (protProvision_malformed bad)
    case refine_13 => exact deskRun_badParam run (timeRefTableSet_eq.trans (pCommand_malformed bad))
    case refine_17 => exact deskRun_badParam run (laneSet_eq.trans (pCommand_malformed bad))
    all_goals exact deskRun_badParam run (pCommand_malformed bad)
  · obtain ⟨len, each⟩ := parseFrom_says (parseRecords_from parsed)
    refine ⟨len, fun i r at_ => ?_, fun s => ⟨?_, fun t k pid out => applyRecs_other out⟩⟩
    · obtain ⟨place, said⟩ := each i r at_
      exact ⟨by omega, said⟩
    · rintro a r b rfl last k key
      exact applyRecs_last last key

end Sys2Proof.Machine
end

section
/-! The status commands: the page of an object's items that fits in a bulk slot, and the rows that return it
(14_command_reference.md R337). -/

namespace Sys2Proof.Machine

variable {q : Request} {s : State} {op : Nat}

/-- The items that fit are the first ones of the list: as many as the room holds. -/
theorem fitItems_prefix (room : Nat) (l : List StatItem) : ∃ n ≤ l.length, fitItems room l = l.take n ∧
    ((l.take n).flatMap itemBytes).length ≤ room ∧
    (n < l.length → ∃ i, l[n]? = some i ∧ room < ((l.take n).flatMap itemBytes).length + (itemBytes i).length) := by
  induction l generalizing room with
  | nil => exact ⟨0, le_rfl, rfl, Nat.zero_le _, fun h => absurd h (lt_irrefl 0)⟩
  | cons i r ih =>
    by_cases fits : (itemBytes i).length ≤ room
    · obtain ⟨n, len, got, small, next⟩ := ih (room - (itemBytes i).length)
      refine ⟨n + 1, Nat.succ_le_succ len, ?_, ?_, fun more => ?_⟩
      · rw [fitItems, if_pos fits, got, List.take_succ_cons]
      · rw [List.take_succ_cons, List.flatMap_cons, List.length_append]
        omega
      · obtain ⟨j, at_, large⟩ := next (Nat.lt_of_succ_lt_succ more)
        refine ⟨j, at_, ?_⟩
        rw [List.take_succ_cons, List.flatMap_cons, List.length_append]
        omega
    · refine ⟨0, Nat.zero_le _, if_neg fits, Nat.zero_le _, fun _ => ⟨i, rfl, ?_⟩⟩
      rw [List.take_zero, List.flatMap_nil, List.length_nil, Nat.zero_add]
      exact Nat.lt_of_not_le fits

theorem pageItems_page (l : List StatItem) (start : Nat) : ∃ (n : Nat) (r : Resp), pageItems l start = .done r ∧ r.status = stOk ∧
    r.payload = leBytes 2 (if start + n < l.length then start + n else 0) ++ leBytes 2 n ++ leBytes 4 0 ∧
    r.bulk = ((l.drop start).take n).flatMap itemBytes ∧ r.bulk.length ≤ 4096 ∧ n ≤ l.length - start ∧
    (n < l.length - start → ∃ i, (l.drop start)[n]? = some i ∧ 4096 < r.bulk.length + (itemBytes i).length) := by
  obtain ⟨n, len, got, small, next⟩ := fitItems_prefix 4096 (l.drop start)
  have count : (fitItems 4096 (l.drop start)).length = n := by rw [got, List.length_take, Nat.min_eq_left len]
  rw [List.length_drop] at len next
  exact ⟨n, _, rfl, rfl, by rw [count], by rw [got], by rw [got]; exact small, len, fun more => by rw [got]; exact next more⟩

section

variable (slot : q.slot.isSome = true) (zero : u16 q 6 = 0) {items : Request → State → List StatItem} {r : Resp}
include slot zero

theorem sCommand_page (page : pageItems (items q s) (u16 q 4) = .done r) : sCommand items q s = (s, .done r) := by
  unfold sCommand
  rw [if_neg (by simpa [Option.isSome_iff_ne_none] using slot), if_neg (not_not.2 zero), page]

theorem deskRun_page (run : runs op q s = true) (page : pageItems (items q s) (u16 q 4) = .done r) :
    Host.Outcome.next (deskRun op (sCommand items) q s) = (.next (complete q.ch q.tag r s) : Host.Outcome State Fault Refusal) :=
  congrArg Host.Outcome.next (deskRun_done run (sCommand_page slot zero page))

end

/-- Settles O22: each row is the one status command on its object's items, whose page is as many of the first items as fit. -/
theorem statusCommands : Obligations.StatusCommands := by
  unfold Obligations.StatusCommands
  refine ⟨pageItems_page, fun q s slot zero answer pages => ?_⟩
  exact ⟨fun run => deskRun_page slot zero run (pages 0x0D12 s),
    fun run => deskRun_page slot zero run (pages 0x0213 s),
    fun run => deskRun_page slot zero run (pages 0x1013 s),
    fun run => deskRun_page slot zero run (pages 0x1020 s),
    fun run => deskRun_page slot zero run (pages 0x0701 s),
    fun run => deskRun_page slot zero run (pages 0x0713 s),
    fun run => deskRun_page slot zero run (pages 0x0807 s),
    fun run => deskRun_page slot zero run (pages 0x0F21 s),
    fun run => deskRun_page slot zero run (pages 0x0605 s),
    fun run => deskRun_page slot zero run (pages 0x0903 s),
    fun run => deskRun_page slot zero run (pages 0x1203 s),
    fun run => deskRun_page slot zero run (pages 0x0F04 s),
    fun run => deskRun_page slot zero run (pages 0x0E04 s),
    fun run => deskRun_page slot zero run (pages 0x0923 s),
    fun run => deskRun_page slot zero run (pages 0x0502 s),
    fun run => deskRun_page slot zero run (pages 0x0A04 s),
    fun run => deskRun_page slot zero run (pages 0x0304 s),
    fun run => deskRun_page slot zero run (pages 0x1102 s),
    fun run => deskRun_page slot zero run (pages 0x0F10 s),
    fun run => deskRun_page slot zero run (pages 0x0B0C s),
    fun run => deskRun_page slot zero run (pages 0x0404 s),
    fun run => deskRun_page slot zero run (pages 0x0412 s),
    fun seen run => deskRun_page slot zero run (pages 0x0C07 (laneSees (reqLane q) seen s))⟩

end Sys2Proof.Machine
end

section
/-! The boot that follows a reset: which image the boot ROM chooses and what each stage of the boot leaves in BOOT_STATUS, the
Charter and the Vault (18_boot_security.md R432 to R439, R452; 22_reset_bringup.md R511, R514). -/

namespace Sys2Proof.Machine

variable {s : State} {deep archive : Bool} {w : Bool}

/-! ### The image that the boot ROM chooses -/

/-- The image that the boot ROM tries first (R433). -/
def Boot.firstTried (b : Boot) : Bool := if (selectorOf b.flash).2.1 then !(selectorOf b.flash).1 else (selectorOf b.flash).1

theorem chooseImage_valid {b : Boot}
    (h : (b.err b.firstTried = 0 ∧ w = b.firstTried) ∨ (b.err b.firstTried ≠ 0 ∧ b.err (!b.firstTried) = 0 ∧ w = !b.firstTried)) :
    (chooseImage b).1 = some w := by
  rcases h with ⟨good, rfl⟩ | ⟨bad, good, rfl⟩
  · exact if_pos good
  · exact (if_neg bad).trans (if_pos good)

theorem chooseImage_none {b : Boot} (first : b.err b.firstTried ≠ 0) (second : b.err (!b.firstTried) ≠ 0) : (chooseImage b).1 = none :=
  (if_neg first).trans (if_neg second)

theorem romSelect_fallback {b : Boot} : (romSelect b).fallback = true ↔ b.err b.firstTried ≠ 0 :=
  decide_eq_true_iff

/-! ### The stages of the boot -/

theorem bufRest_same {α : Type} {e : State → α} (blind : ∀ (t : State) h, e { t with house := h } = e t) : Same e s (bufRest s) :=
  Same.foldl (fun u _ same => same.trans (blind u _)) .refl

theorem bufRest_boot : (bufRest s).boot = s.boot := bufRest_same fun _ _ => rfl

theorem bufRest_dev : (bufRest s).dev = s.dev := bufRest_same fun _ _ => rfl

theorem bufRest_vault : (bufRest s).vault = s.vault := bufRest_same fun _ _ => rfl

theorem encRequired_same {α : Type} {e : State → α} (blind : ∀ (t : State) p, e { t with par := p } = e t) : Same e s (encRequired s) := by
  refine .ite (fun _ => Same.foldl (fun u c same => ?_) .refl) fun _ => .refl
  exact .ite (fun _ => same.trans (blind u _)) fun _ => same

/-- The Vault's words of the safety configuration are written whole. -/
theorem foldl_put_whole {v : Vault} {f : Nat → Nat} {g : Nat → Nat} {l : List Nat} (h : v.whole) :
    (l.foldl (fun v i => v.put (f i) (g i)) v).whole := by
  induction l generalizing v with
  | nil => exact h
  | cons i r ih => exact ih (Vault.put_whole h)

theorem romBoard_boot : ∃ b, (romBoard s).boot = { s.boot with bcfgValid := b } := by
  unfold romBoard
  dsimp only
  split
  · refine ⟨true, bufRest_boot.trans ?_⟩
    split <;> rfl
  · exact ⟨false, rfl⟩

theorem romBoard_dev : (romBoard s).dev = s.dev := by
  unfold romBoard
  dsimp only
  split
  · refine bufRest_dev.trans ?_
    split <;> rfl
  · rfl

theorem romBoard_whole (h : s.vault.whole) : (romBoard s).vault.whole := by
  unfold romBoard
  dsimp only
  split
  · rw [bufRest_vault]
    split
    · exact foldl_put_whole h
    · exact h
  · exact h

theorem driveAll_boot : (driveAll s).boot = s.boot :=
  (congrArg State.boot (driveAll_besides (s := s) (f := s.safe) (e := s.evt)) :)

theorem driveAll_dev : (driveAll s).dev = s.dev :=
  (congrArg State.dev (driveAll_besides (s := s) (f := s.safe) (e := s.evt)) :)

theorem driveAll_vault : (driveAll s).vault = s.vault :=
  (congrArg State.vault (driveAll_besides (s := s) (f := s.safe) (e := s.evt)) :)

theorem encRequired_boot : (encRequired s).boot = s.boot := encRequired_same fun _ _ => rfl

theorem encRequired_dev : (encRequired s).dev = s.dev := encRequired_same fun _ _ => rfl

theorem encRequired_vault : (encRequired s).vault = s.vault := encRequired_same fun _ _ => rfl

/-! ### The boot as a whole -/

/-- The first stage starts with the Charter of the image it runs: CHARTER_LOCK open, every latched diagnostic ended. -/
def romStarts (w : Bool) (s : State) : State :=
  { s with
    vault := s.vault.put 0 0, boot := { romSelect s.boot with stage := 0, done := false }
    safe := { s.safe with cars := s.safe.cars.map clearDiag }
    dev := { s.dev with charter := secBytes (flashImg s.boot.flash w) (charterSec (flashImg s.boot.flash w)), imageB := w } }

/-- The board configuration record read, and CHARTER_LOCK closed. -/
def romLocks (s : State) : State :=
  let t := encRequired (romBoard s)
  { t with vault := t.vault.put 0 lockedWord, boot := { t.boot with stage := 1 } }

/-- Step 6 of R432: Yozon starts. -/
def yozonStarts (deep : Bool) (img : List Byte) (s : State) : State :=
  { s with boot := { s.boot with stage := 2, done := true, fw := fwOf img, fromDeep := deep } }

theorem romLocks_boot : ∃ b, (romLocks s).boot = { s.boot with bcfgValid := b, stage := 1 } := by
  obtain ⟨b, board⟩ := romBoard_boot (s := s)
  refine ⟨b, ?_⟩
  have read : (encRequired (romBoard s)).boot = { s.boot with bcfgValid := b } := encRequired_boot.trans board
  simp only [romLocks, read]

theorem romLocks_dev : (romLocks s).dev = s.dev := encRequired_dev.trans romBoard_dev

theorem romLocks_reads (h : s.vault.whole) : (romLocks s).vault.reads 0 lockedWord := by
  refine Vault.put_reads ?_ (by decide)
  rw [encRequired_vault]
  exact romBoard_whole h

section

variable (ch : (chooseImage s.boot).1 = some w)
include ch

theorem bootRun_valid : bootRun deep archive s =
    driveAll (yozonStarts deep (flashImg s.boot.flash w) (loadCatalogue deep archive (romLocks (romStarts w s)))) := by
  unfold bootRun
  rw [ch]
  rfl

theorem bootRun_boot : ∃ b f r l, (bootRun deep archive s).boot = { romSelect s.boot with
    stage := 2, done := true, fw := fwOf (flashImg s.boot.flash w), fromDeep := deep, bcfgValid := b, factory := f, catRecovered := r
    slotBad := l } := by
  obtain ⟨b, locks⟩ := romLocks_boot (s := romStarts w s)
  rw [bootRun_valid ch, driveAll_boot]
  refine ⟨b, (loadCatalogue deep archive (romLocks (romStarts w s))).boot.factory,
    (loadCatalogue deep archive (romLocks (romStarts w s))).boot.catRecovered,
    (loadCatalogue deep archive (romLocks (romStarts w s))).boot.slotBad, ?_⟩
  generalize romLocks (romStarts w s) = t at locks
  simp only [yozonStarts, loadCatalogue, locks, romStarts]

theorem bootRun_dev : (bootRun deep archive s).dev =
    { s.dev with charter := secBytes (flashImg s.boot.flash w) (charterSec (flashImg s.boot.flash w)), imageB := w } := by
  rw [bootRun_valid ch, driveAll_dev]
  exact romLocks_dev

/-- CHARTER_LOCK is written in every copy. -/
theorem bootRun_locked (whole : s.vault.whole) : (bootRun deep archive s).vault.reads 0 lockedWord := by
  rw [bootRun_valid ch, driveAll_vault]
  exact romLocks_reads (Vault.put_whole whole)

end

/-- RECOVERY (R434): neither image is valid. -/
theorem bootRun_recovery (ch : (chooseImage s.boot).1 = none) : ∃ f e, bootRun deep archive s = { s with
    vault := s.vault.put 0 0, safe := f, evt := e
    boot := { romSelect s.boot with stage := 0xF, done := false, fallback := false, fallbackCause := none } } := by
  refine ⟨(bootRun deep archive s).safe, (bootRun deep archive s).evt, ?_⟩
  unfold bootRun
  rw [ch]
  exact (driveAll_besides (f := (driveAll _).safe) (e := (driveAll _).evt) :)

theorem lightAllowed_recovery {c : Fin 2} (h : s.boot.stage = 0xF) : lightAllowed s c = false := by
  simp [lightAllowed, lightFails, h]

/-! ### From the release of the reset -/

/-- The state in which a boot runs: the contents of the stacks lost with their supply, the causes found (R511, R512). -/
def bootStarts (wake : Bool) (s : State) : State :=
  let s0 := if s.boot.stackSupplyLost then { s with stk := s.stk.lost } else s
  { s0 with boot := { s0.boot with cause := bootCause wake s0.stk.initialised s0, stackSupplyLost := false, coldNext := false } }

/-- What the end of the boot ROM's part adds. -/
def bootLeft (s : State) : State :=
  { s with
    boot := { s.boot with archiveOk := s.boot.archiveOk || s.boot.done, booting := s.boot.done }
    house := { s.house with afterShut := s.house.shutFresh } }

theorem bootUp_eq {wake : Bool} : bootUp deep wake s = bootLeft (bootRun deep s.boot.archiveOk (bootStarts wake s)) := by
  unfold bootUp bootStarts
  split <;> rfl

theorem bootStarts_boot {wake : Bool} : (bootStarts wake s).boot = { s.boot with
    cause := bootCause wake (s.stk.initialised && !s.boot.stackSupplyLost) s, stackSupplyLost := false, coldNext := false } := by
  unfold bootStarts
  split
  · next lost => simp [lost, bootCause, show s.stk.lost.initialised = false from rfl]
  · next kept => simp [kept, bootCause]

theorem bootStarts_dev {wake : Bool} : (bootStarts wake s).dev = s.dev := by
  unfold bootStarts
  split <;> rfl

theorem bootStarts_vault {wake : Bool} : (bootStarts wake s).vault = s.vault := by
  unfold bootStarts
  split <;> rfl

theorem bootCause_reset {kept : Bool} : bootCause false kept s = s.boot.cause + 128 * (if s.boot.archiveOk then 1 else 0) +
    64 * (if kept then 1 else 0) + 16 * (if s.pwr.brownLatch then 1 else 0) + 8 * (if s.house.shutRecord.isSome then 1 else 0) := rfl

/-- The causes found stand in BOOT_RESET_CAUSE, whichever image runs or none; RESET_N stays as it was. -/
theorem bootRun_keeps : (bootRun deep archive s).boot.cause = s.boot.cause ∧ (bootRun deep archive s).boot.resetLow = s.boot.resetLow := by
  cases ch : (chooseImage s.boot).1 with
  | none =>
    obtain ⟨f, e, h⟩ := bootRun_recovery (deep := deep) (archive := archive) ch
    rw [h]
    exact ⟨rfl, rfl⟩
  | some w =>
    obtain ⟨_, _, _, _, h⟩ := bootRun_boot (deep := deep) (archive := archive) ch
    rw [h]
    exact ⟨rfl, rfl⟩

theorem charterLocked_of_reads (h : s.vault.reads 0 lockedWord) : charterLocked s = true := by
  simp [charterLocked, Vault.word_of_reads h]

/-- The state that a release of RESET_N boots. -/
def released (board : Option Flash) (s : State) : State :=
  { s with boot := { s.boot with resetLow := false, flash := board.getD s.boot.flash } }

theorem resetRelease_boots {board : Option Flash} (low : s.boot.resetLow = true) (on : s.pwr.st ≠ .off) :
    resetRelease board s = bootUp false false (released board s) := by
  unfold resetRelease
  rw [if_neg (by rw [low]; decide)]
  exact if_neg on

theorem bootStarts_err {wake : Bool} {x : Bool} : (bootStarts wake s).boot.err x = s.boot.err x := by
  rw [bootStarts_boot]
  rfl

theorem bootStarts_first {wake : Bool} : (bootStarts wake s).boot.firstTried = s.boot.firstTried := by
  rw [bootStarts_boot]
  rfl

theorem bootStarts_flash {wake : Bool} : (bootStarts wake s).boot.flash = s.boot.flash := by
  rw [bootStarts_boot]

section

variable {wake : Bool}

/-- A boot that finds a valid image runs it. -/
theorem bootUp_image
    (h : (s.boot.err s.boot.firstTried = 0 ∧ w = s.boot.firstTried) ∨
      (s.boot.err s.boot.firstTried ≠ 0 ∧ s.boot.err (!s.boot.firstTried) = 0 ∧ w = !s.boot.firstTried)) :
    let t := bootUp deep wake s
    t.boot.stage = 2 ∧ t.boot.done = true ∧ t.boot.booting = true ∧ t.boot.archiveOk = true ∧ t.dev.imageB = w ∧
      t.dev.charter = secBytes (flashImg s.boot.flash w) (charterSec (flashImg s.boot.flash w)) ∧
      t.boot.fw = fwOf (flashImg s.boot.flash w) ∧ (t.boot.fallback = true ↔ s.boot.err s.boot.firstTried ≠ 0) ∧ t.boot.fromDeep = deep ∧
      (s.vault.whole → charterLocked t = true) := by
  have ch : (chooseImage (bootStarts wake s).boot).1 = some w := by
    refine chooseImage_valid ?_
    simpa only [bootStarts_err, bootStarts_first] using h
  obtain ⟨_, _, _, _, boot⟩ := bootRun_boot (deep := deep) (archive := s.boot.archiveOk) ch
  have dev := bootRun_dev (deep := deep) (archive := s.boot.archiveOk) ch
  have fallback := romSelect_fallback (b := (bootStarts wake s).boot)
  rw [bootStarts_err, bootStarts_first] at fallback
  rw [bootStarts_dev, bootStarts_flash] at dev
  rw [bootStarts_flash] at boot
  dsimp only
  rw [bootUp_eq]
  simp only [bootLeft, boot, dev, Bool.or_true, true_and]
  exact ⟨fallback, fun whole => charterLocked_of_reads (bootRun_locked ch (by rwa [bootStarts_vault]))⟩

/-- A boot that finds none ends in RECOVERY (R434). -/
theorem bootUp_recovery (first : s.boot.err s.boot.firstTried ≠ 0) (second : s.boot.err (!s.boot.firstTried) ≠ 0) :
    let t := bootUp deep wake s
    t.boot.stage = 0xF ∧ t.boot.done = false ∧ t.boot.booting = false ∧ t.boot.fallback = false ∧ t.dev = s.dev ∧
      ∀ c : Fin 2, lightAllowed t c = false := by
  have ch : (chooseImage (bootStarts wake s).boot).1 = none := by
    refine chooseImage_none ?_ ?_
    · rwa [bootStarts_err, bootStarts_first]
    · rwa [bootStarts_err, bootStarts_first]
  obtain ⟨_, _, run⟩ := bootRun_recovery (deep := deep) (archive := s.boot.archiveOk) ch
  dsimp only
  rw [bootUp_eq, run]
  exact ⟨rfl, rfl, rfl, rfl, bootStarts_dev (wake := wake), fun c => lightAllowed_recovery rfl⟩

theorem bootUp_keeps : (bootUp deep wake s).boot.resetLow = s.boot.resetLow ∧
    (bootUp deep wake s).boot.cause = bootCause wake (s.stk.initialised && !s.boot.stackSupplyLost) s := by
  obtain ⟨cause, low⟩ := bootRun_keeps (deep := deep) (archive := s.boot.archiveOk) (s := bootStarts wake s)
  rw [bootStarts_boot] at cause low
  rw [bootUp_eq]
  exact ⟨low, cause⟩

end

/-- Settles O47: the release boots as `bootUp` does, whose chosen image is settled by the two results. -/
theorem bootRuns : Obligations.BootRuns := by
  unfold Obligations.BootRuns
  intro board s
  refine ⟨fun high => congrArg Host.Outcome.next (if_pos (by rw [high]; rfl)), fun low off => ?_, fun low on =>
    ⟨bootUp false false (released board s), congrArg Host.Outcome.next (resetRelease_boots low on), ?_⟩⟩
  · refine congrArg Host.Outcome.next ?_
    unfold resetRelease
    rw [if_neg (by rw [low]; decide)]
    exact if_pos off
  · obtain ⟨reset, cause⟩ := bootUp_keeps (deep := false) (wake := false) (s := released board s)
    refine ⟨reset, fun w chosen => ?_, fun first second => ?_, cause.trans bootCause_reset⟩
    · obtain ⟨stage, done, booting, archive, image, charter, fw, fallback, fromDeep, locked⟩ := 
        bootUp_image (deep := false) (wake := false) (s := released board s) chosen
      exact ⟨stage, done, booting, archive, image, charter, fw, fallback, fromDeep, fun a b c => locked ⟨a, b, c⟩⟩
    · exact bootUp_recovery (deep := false) (wake := false) (s := released board s) first second

end Sys2Proof.Machine
end

section
/-! The sources of reset and what each reaches (22_reset_bringup.md R510 to R514; 16_power.md R386, R399, R400; 19_laser_safety.md
R459, R469). -/

namespace Sys2Proof.Machine

variable {s : State}

/-! ### RESET_N -/

theorem resetAssert_low (low : s.boot.resetLow = true) : resetAssert s = s := if_pos low

theorem resetAssert_off (high : s.boot.resetLow = false) (off : s.pwr.st = .off) :
    resetAssert s = { s with boot := { s.boot with resetLow := true } } :=
  (if_neg (by rw [high]; decide)).trans (if_pos off)

/-- The state of a device held by RESET_N. -/
def heldInReset (s : State) : State :=
  let t := resetAll 2 s
  { t with boot := { t.boot with resetLow := true } }

theorem resetAssert_on (high : s.boot.resetLow = false) (on : s.pwr.st ≠ .off) : resetAssert s = heldInReset s :=
  (if_neg (by rw [high]; decide)).trans (if_neg on)

/-- The safety function stands with its configuration, and every pair is dark (R459, R510). -/
theorem heldInReset_sf (c : Fin 2) : ((heldInReset s).sf c).req = false ∧ ((heldInReset s).sf c).txen = some false ∧
    ((heldInReset s).sf c).txdis = some true ∧ ((heldInReset s).sf c).used = (s.sf c).used := by
  have own : (heldInReset s).safe = s.safe.over := rfl
  simp [State.sf, own, Safety.over]

/-- The condition of R512 that keeps the contents of the stacks. -/
def StacksKeep (s : State) : Prop := s.stk.initialised = true ∧ ∀ d ∈ [16, 17, 18, 19], s.dom d = .run ∨ s.dom d = .selfRefresh

theorem stacksOver_kept (h : StacksKeep s) : stacksOver s = s.stk.kept := by
  obtain ⟨ready, awake⟩ := h
  refine if_pos (Bool.and_eq_true_iff.2 ⟨ready, List.all_eq_true.2 fun d hd => ?_⟩)
  rw [Bool.or_eq_true, beq_iff_eq, beq_iff_eq]
  exact awake d hd

theorem stacksOver_lost (h : ¬ StacksKeep s) : stacksOver s = s.stk.lost := by
  refine if_neg fun kept => h ?_
  obtain ⟨ready, awake⟩ := Bool.and_eq_true_iff.1 kept
  refine ⟨ready, fun d hd => ?_⟩
  have own := List.all_eq_true.1 awake d hd
  rwa [Bool.or_eq_true, beq_iff_eq, beq_iff_eq] at own

theorem stacksOver_log : (stacksOver s).log = s.stk.log := by
  unfold stacksOver
  split <;> rfl

/-! ### BOOT_RESET -/

section

variable {p : Path} {v : Word32}

/-- The channel whose grant of MAINTENANCE a path's BOOT_RESET needs. -/
def resetChan (p : Path) : Fin 4 := if p = .spi then 1 else 0

theorem bootResetWrite_eq : exec (.bootResetWrite p v) s =
    if p = .mate ∨ !pathServed s p ∨ v.toNat / 65536 ≠ 0xA5C3 ∨ !granted s (resetChan p) .maintenance ∨ s.boot.resetLow then .next s
    else if v.toNat % 65536 / 2 ≠ 0 then .fault .reservedFieldWritten
    else if v.getLsbD 0 then .next (bootUp false false (resetAll 4 s))
    else .next s := rfl

theorem bootResetWrite_ignored (h : p = .mate ∨ pathServed s p = false ∨ v.toNat / 65536 ≠ 0xA5C3 ∨
      granted s (resetChan p) .maintenance = false ∨ s.boot.resetLow = true ∨ v.toNat % 65536 = 0) :
    exec (.bootResetWrite p v) s = .next s := by
  rw [bootResetWrite_eq]
  by_cases shut : p = .mate ∨ !pathServed s p ∨ v.toNat / 65536 ≠ 0xA5C3 ∨ !granted s (resetChan p) .maintenance ∨ s.boot.resetLow
  · exact if_pos shut
  · have clear : v.toNat % 65536 = 0 := by
      simp only [not_or, Bool.not_eq_true', Bool.not_eq_true, ne_eq, not_not, Bool.not_eq_false] at shut
      obtain ⟨out, served, key, grant, high⟩ := shut
      simpa [out, served, key, grant, high] using h
    have low : v.getLsbD 0 = false := by
      rw [BitVec.getLsbD, Nat.testBit_zero, decide_eq_false_iff_not]
      omega
    rw [if_neg shut, if_neg (by omega), if_neg (by rw [low]; decide)]

theorem bootResetWrite_full (near : p ≠ .mate) (served : pathServed s p = true) (key : v.toNat = 0xA5C30001)
    (grant : granted s (resetChan p) .maintenance = true) (high : s.boot.resetLow = false) :
    exec (.bootResetWrite p v) s = .next (bootUp false false (resetAll 4 s)) := by
  have full : v.getLsbD 0 = true := by
    rw [BitVec.getLsbD, key]
    decide
  rw [bootResetWrite_eq, if_neg (by simp [near, served, key, grant, high]), if_neg (by rw [key]; decide), if_pos full]

end

/-! ### The supplies -/

theorem darkDomains_off : ∀ d : Fin 20, (getNat {} darkDomains d).st = .off := by decide

theorem dom_dark {t : State} (dark : t.pwr.domains = darkDomains) (d : Fin 20) : t.dom d = .off := by
  rw [State.dom, dark, darkDomains_off]

/-- Settles O46: each source against the state it leaves, field by field. That PERST_N resets the MSI-X state is the model's
presumption (log 9). -/
theorem resets : Obligations.Resets := by
  unfold Obligations.Resets
  intro s
  refine ⟨rfl, fun low => congrArg Host.Outcome.next (resetAssert_low low), fun high off => congrArg Host.Outcome.next (resetAssert_off high off),
    fun high on => ⟨heldInReset s, congrArg Host.Outcome.next (resetAssert_on high on), ?_⟩, fun p v =>
    ⟨bootResetWrite_ignored, bootResetWrite_full⟩, ?_, fun n => ?_, rfl, rfl⟩
  · refine ⟨rfl, rfl, rfl, rfl, rfl, rfl, rfl, rfl, rfl, rfl, rfl, rfl, heldInReset_sf, stacksOver_log, ⟨fun kept => ?_, fun lost => ?_⟩,
      rfl, rfl, rfl, rfl, rfl, rfl, rfl, rfl, rfl⟩
    · have left : (heldInReset s).stk = s.stk.kept := stacksOver_kept kept
      rw [left]
      exact ⟨rfl, rfl⟩
    · have left : (heldInReset s).stk = s.stk.lost := stacksOver_lost lost
      rw [left]
      exact ⟨rfl, rfl⟩
  · refine ⟨brownout s, rfl, rfl, rfl, rfl, rfl, rfl, dom_dark rfl, fun c => ?_, rfl, rfl, rfl, rfl, rfl⟩
    have floats : (brownout s).safe.cars = (s.safe.cars.map fun x => ({ pinLow := x.pinLow } : SafeCarrier)).map
      (fun x => { x with txen := none, txdis := none }) := rfl
    simp [State.sf, floats]
  · refine ⟨supplyFault n s, rfl, rfl, ?_, ?_⟩
    · simp [supplyFault, onBoot]
    · simp [supplyFault, onBoot, or_assoc]

end Sys2Proof.Machine
end

section
/-! The device's power states: what POWER.DEVICE.SET asks, the entry up to its commit, the sources that end it and the exit
(16_power.md R386 to R401, R404). -/

namespace Sys2Proof.Machine

variable {q : Request} {s : State} {t : DevPower}

/-! ### POWER.DEVICE.SET -/

/-- A state above IDLE, taken at once. -/
def stateTaken (t : DevPower) (s : State) : State := stateDone t (onPwr (fun p => { p with coresOff := false }) (toState t s))

/-- The entry to a state below IDLE, begun. -/
def entryBegun (t : DevPower) (s : State) : State :=
  { s with
    desk := { s.desk with ready := false }
    pwr := { s.pwr with entering := some t, drained := false, committed := false, latched := false, rested := [] } }

/-- What POWER.DEVICE.SET answers for a state above IDLE. -/
def setHigh (t : DevPower) (s : State) : State × Reply := if s.pwr.st = t then (s, ok) else (stateTaken t s, ok)

/-- What POWER.DEVICE.SET answers for a state below IDLE. -/
def setLow (t : DevPower) (s : State) : State × Reply :=
  if sleepRefused s then (s, refuse stBadState)
  else if !(List.range 6).any (wakeEnabled s t) then (s, badParam 4)
  else (entryBegun t s, ok)

theorem deviceSet_high (h : u8 q 4 = 0 ∧ t = .run ∨ u8 q 4 = 1 ∧ t = .idle) : deviceSet q s = setHigh t s := by
  rcases h with ⟨asked, rfl⟩ | ⟨asked, rfl⟩
  · simp only [deviceSet, asked]
    rfl
  · simp only [deviceSet, asked]
    rfl

theorem deviceSet_low (h : u8 q 4 = 2 ∧ t = .sleep ∨ u8 q 4 = 3 ∧ t = .deepSleep ∨ u8 q 4 = 4 ∧ t = .off) : deviceSet q s = setLow t s := by
  rcases h with ⟨asked, rfl⟩ | ⟨asked, rfl⟩ | ⟨asked, rfl⟩
  · simp only [deviceSet, asked]
    rfl
  · simp only [deviceSet, asked]
    rfl
  · simp only [deviceSet, asked]
    rfl

theorem deviceSet_unknown (h : 4 < u8 q 4) : deviceSet q s = (s, badParam 4) := by
  obtain ⟨n, asked⟩ := Nat.exists_eq_add_of_lt h
  have large : u8 q 4 = n + 5 := by omega
  simp only [deviceSet, large]

theorem sleepRefused_eq : sleepRefused s = true ↔ anyCarrier s = true ∨ anyBond s = true ∨ s.link.isUp = true := by
  simp only [sleepRefused, Bool.or_eq_true, or_assoc]

theorem setLow_refused (h : anyCarrier s = true ∨ anyBond s = true ∨ s.link.isUp = true) : setLow t s = (s, refuse stBadState) :=
  if_pos (sleepRefused_eq.2 h)

section

variable (carriers : anyCarrier s = false) (bonds : anyBond s = false) (link : s.link.isUp = false)
include carriers bonds link

theorem sleepRefused_idle : ¬ sleepRefused s = true := by
  simp [sleepRefused, carriers, bonds, link]

theorem setLow_sourceless (none_ : ∀ b < 6, wakeEnabled s t b = false) : setLow t s = (s, badParam 4) := by
  have out : (List.range 6).any (wakeEnabled s t) = false :=
    List.any_eq_false.2 fun b hb => by rw [none_ b (List.mem_range.1 hb)]; decide
  unfold setLow
  rw [if_neg (sleepRefused_idle carriers bonds link), out]
  rfl

theorem setLow_begins {b : Nat} (lt : b < 6) (on : wakeEnabled s t b = true) : setLow t s = (entryBegun t s, ok) := by
  have some_ : (List.range 6).any (wakeEnabled s t) = true := List.any_eq_true.2 ⟨b, List.mem_range.2 lt, on⟩
  unfold setLow
  rw [if_neg (sleepRefused_idle carriers bonds link), some_]
  rfl

end

/-! ### The entry -/

section

/-- The entry drained: the stacks that run go to rest. -/
def entryRested (s : State) : State :=
  let up := [16, 17, 18, 19].filter fun d => s.dom d == .run || s.dom d == .starting
  up.foldl (fun s d => requestDomain d .selfRefresh s) { s with pwr := { s.pwr with drained := true, rested := up } }

theorem entryDrained_waits (h : s.pwr.entering = none ∨ s.pwr.drained = true ∨ deskBusy s = true ∨ s.cat.writing.isSome = true ∨
    s.cat.erasing.isSome = true) : entryDrained s = s := by
  unfold entryDrained
  split
  · rfl
  · next t entering =>
    rcases h with none_ | busy
    · rw [entering] at none_
      cases none_
    · refine if_pos ?_
      rcases busy with h | h | h | h <;> simp [h]

theorem entryDrained_done (entering : s.pwr.entering = some t) (first : s.pwr.drained = false) (idle : deskBusy s = false)
    (up : s.desk.restarting = false) (writing : s.cat.writing = none) (erasing : s.cat.erasing = none) :
    entryDrained s = if t = .deepSleep
      then onPwr (fun p => { p with saveHw := some (saveHwOf s), saveFw := some (saveFwOf s) }) (entryRested s) else entryRested s := by
  unfold entryDrained
  rw [entering]
  exact if_neg (by simp [first, idle, up, writing, erasing])

theorem sleepCommit_waits (h : s.pwr.entering = none ∨ s.pwr.drained = false ∨ s.pwr.committed = true ∨ stacksResting s = false) :
    sleepCommit s = s := by
  unfold sleepCommit
  split
  · rfl
  · next t entering =>
    rcases h with none_ | busy
    · rw [entering] at none_
      cases none_
    · refine if_pos ?_
      rcases busy with h | h | h <;> simp [h]

/-- The wake record of a new entry, and every monitor conversion ended with its clock (R388, R397). -/
def entryRecorded (t : DevPower) (s : State) : State :=
  { s with
    pwr := { s.pwr with committed := true, record := { s.pwr.record with
      fromState := t.code, source := 0, aborted := false, brownout := false, archiveBad := false, elapsedValid := false, other := 0
      entrySec := recordSec s, elapsedMs := 0, exitUs := 0 } }
    house := { s.house with madc := s.house.madc.map fun (x : Madc) => { x with running := none, aborted := none } } }

theorem sleepCommit_commits (entering : s.pwr.entering = some t) (drained : s.pwr.drained = true) (first : s.pwr.committed = false)
    (resting : stacksResting s = true) : sleepCommit s = restCheck (queueStages 20
      (((List.range 16) ++ (if t = DevPower.sleep then [] else [16, 17, 18, 19])).foldl (fun s d => requestDomain d .off s)
        ((List.range 6).foldl (fun s o => octetDown o s) (safetyLeave 1 (safetyLeave 0 (entryRecorded t s)))))) := by
  unfold sleepCommit
  rw [entering]
  exact if_neg (by simp [drained, first, resting])

end

/-! ### The sources -/

section

variable {b : Fin 6} {ms : Nat}

theorem wakeLatch_awake (entering : s.pwr.entering = none) (exiting : s.pwr.exiting = false) (st : s.pwr.st = .run ∨ s.pwr.st = .idle) :
    wakeLatch b ms s = s := by
  have none_ : wakeEnabled s s.pwr.st b = false := by
    rcases st with h | h <;> simp [wakeEnabled, wakesFrom, h]
  unfold wakeLatch
  simp only [entering, exiting, none_, Bool.false_eq_true, if_false]

theorem wakeLatch_masked (entering : s.pwr.entering = some t) (off : wakeEnabled s t b = false) : wakeLatch b ms s = s := by
  unfold wakeLatch
  simp only [entering, off, Bool.not_false, if_true]

section

variable (entering : s.pwr.entering = some t) (on : wakeEnabled s t b = true)
include entering on

theorem wakeLatch_noted (latched : s.pwr.latched = true) : wakeLatch b ms s = noteOther b.val s := by
  unfold wakeLatch
  simp only [entering, on, latched, Bool.not_true, Bool.false_eq_true, if_false, if_true]

theorem wakeLatch_first (latched : s.pwr.latched = false) (committed : s.pwr.committed = true) :
    wakeLatch b ms s = firstSource t b.val ms s := by
  unfold wakeLatch
  simp only [entering, on, latched, committed, Bool.not_true, Bool.false_eq_true, if_false, if_true]

theorem wakeLatch_abandons (latched : s.pwr.latched = false) (committed : s.pwr.committed = false) :
    wakeLatch b ms s = abandonEntry t b.val s := by
  unfold wakeLatch
  simp only [entering, on, latched, committed, Bool.not_true, Bool.false_eq_true, if_false]

end

/-- Without entry and exit a source that is enabled begins the exit from the state the device rests in. -/
theorem wakeLatch_exits (entering : s.pwr.entering = none) (exiting : s.pwr.exiting = false) (on : wakeEnabled s s.pwr.st b = true) :
    wakeLatch b ms s = beginExit (firstSource s.pwr.st b.val ms s) := by
  unfold wakeLatch
  simp only [entering, exiting, on, Bool.false_eq_true, if_false, if_true]

/-- The record of a first source, but after a brown-out into OFF, whose record stands (R399). -/
theorem firstSource_records {n : Nat} (h : t ≠ .off ∨ s.pwr.brownLatch = false) : firstSource t n ms s = { s with pwr := { s.pwr with
    latched := true, record := { s.pwr.record with
      fromState := t.code, source := n, elapsedValid := t != .off, elapsedMs := if t = .off then 0 else min ms (2 ^ 32 - 1) } } } := by
  have stands : (s.pwr.brownLatch && t == .off) = false := by
    rcases h with h | h
    · simp [h]
    · simp [h]
  have elapsed : (if (t != .off) = true then min ms (2 ^ 32 - 1) else 0) = if t = .off then 0 else min ms (2 ^ 32 - 1) := by
    by_cases off : t = .off
    · simp [off]
    · simp [off]
  unfold firstSource
  simp only [onPwr, stands, Bool.false_eq_true, if_false, elapsed]

theorem abandonEntry_unrested {n : Nat} (h : s.pwr.rested = []) : abandonEntry t n s = { s with pwr := { s.pwr with
    entering := none, drained := false, committed := false, latched := true, exiting := true, aborted := bump s.pwr.aborted
    record := { s.pwr.record with
      fromState := t.code, source := n, aborted := true, brownout := false, archiveBad := false, elapsedValid := false, other := 0
      entrySec := 0, elapsedMs := 0, exitUs := 0 } } } := by
  unfold abandonEntry
  rw [h]
  rfl

end

/-! ### The exit -/

section

variable {us : Nat}

theorem exitComplete_waits (h : s.pwr.exiting = false ∨ coreBack s = false) : exitComplete us s = s := by
  refine if_pos ?_
  rcases h with h | h <;> simp [h]

/-- The wake record once its exit is complete. -/
def exitRecord (us : Nat) (w : WakeRecord) : WakeRecord := { w with exitUs := min us (2 ^ 32 - 1), wakes := (w.wakes + 1) % 2 ^ 32 }

/-- RUN again, the Desk ready and the exit recorded, before it is reported. -/
def exitTaken (us : Nat) (s : State) : State :=
  onPwr (fun p => { p with exiting := false, latched := false, rested := [], coresOff := false, record := exitRecord us s.pwr.record })
    (toState .run { s with desk := { s.desk with ready := !s.desk.restarting } })

/-- The exit is reported by events alone. -/
theorem exitComplete_reports (exiting : s.pwr.exiting = true) (back : coreBack s = true)
    (ready : s.pwr.record.fromState = 2 ∨ s.desk.ready = true) : ∃ e, exitComplete us s = { exitTaken us s with evt := e } ∧
      e.status.getLsbD 292 = true := by
  have goes : ¬((!s.pwr.exiting || !coreBack s ||
      ((s.pwr.record.fromState == 3 || s.pwr.record.fromState == 4) && !s.pwr.record.aborted) && !s.desk.ready) = true) := by
    rcases ready with h | h <;> simp [exiting, back, h]
  have raised : (raise 292 objDevice (evtArg 0 (exitRecord us s.pwr.record).source (wakeFlags (exitRecord us s.pwr.record))
      (exitRecord us s.pwr.record).exitUs) (exitTaken us s)).evt.status.getLsbD 292 = true := raise_status rfl (by decide) (by decide)
  have step : exitComplete us s = _ := if_neg goes
  rw [step]
  dsimp only
  split
  · exact ⟨_, rfl, raised⟩
  · exact ⟨_, rfl, raise_kept raised⟩

end

/-- Settles O32: each row by the branch of its definition that its conditions select. That the safety samples count as fresh from the
end of SLEEP is the model's choice (log 97). -/
theorem powerStates : Obligations.PowerStates := by
  unfold Obligations.PowerStates
  refine ⟨fun q s run => ⟨fun unknown => ?_, fun t asked => ⟨fun same => ?_, fun other => ?_⟩, fun t asked => ⟨fun used => ?_,
    fun carriers bonds link none_ => ?_, fun carriers bonds link b lt on => ?_⟩⟩, fun s => rfl, fun s => ⟨fun h => ?_, ?_, fun h => ?_, ?_⟩,
    fun b ms s => ⟨fun entering exiting st => ?_, fun t entering off => ?_, fun t entering on => ⟨fun latched => ?_,
      fun latched committed record => ?_, fun latched committed rested => ?_⟩, fun entering exiting st on => ?_⟩,
    fun us s => ⟨fun h => ?_, fun exiting back ready => ?_⟩⟩
  · exact congrArg Host.Outcome.next (deskRun_done run (deviceSet_unknown unknown))
  · exact congrArg Host.Outcome.next (deskRun_done run ((deviceSet_high asked).trans (if_pos same)))
  · exact ⟨stateTaken t s, congrArg Host.Outcome.next (deskRun_done run ((deviceSet_high asked).trans (if_neg other))), rfl, rfl,
      raise_status rfl (by decide) (by decide), rfl, rfl, rfl⟩
  · exact congrArg Host.Outcome.next (deskRun_done run ((deviceSet_low asked).trans (setLow_refused used)))
  · exact congrArg Host.Outcome.next (deskRun_done run ((deviceSet_low asked).trans (setLow_sourceless carriers bonds link none_)))
  · exact congrArg Host.Outcome.next (deskRun_done run ((deviceSet_low asked).trans (setLow_begins carriers bonds link lt on)))
  · exact congrArg Host.Outcome.next (entryDrained_waits h)
  · intro t entering first idle up writing erasing
    have done := entryDrained_done entering first idle up writing erasing
    refine ⟨fun light => congrArg Host.Outcome.next (done.trans (if_neg ?_)), fun deep => congrArg Host.Outcome.next (done.trans (if_pos deep))⟩
    rcases light with rfl | rfl <;> decide
  · exact congrArg Host.Outcome.next (sleepCommit_waits h)
  · intro t entering drained first resting
    exact congrArg Host.Outcome.next (sleepCommit_commits entering drained first resting)
  · exact congrArg Host.Outcome.next (wakeLatch_awake entering exiting st)
  · exact congrArg Host.Outcome.next (wakeLatch_masked entering off)
  · exact congrArg Host.Outcome.next (wakeLatch_noted entering on latched)
  · exact congrArg Host.Outcome.next ((wakeLatch_first entering on latched committed).trans (firstSource_records record))
  · exact congrArg Host.Outcome.next ((wakeLatch_abandons entering on latched committed).trans (abandonEntry_unrested rested))
  · rw [← st] at on
    refine congrArg Host.Outcome.next ((wakeLatch_exits entering exiting on).trans (congrArg beginExit ?_))
    rw [st]
    exact firstSource_records (.inl (by decide))
  · exact congrArg Host.Outcome.next (exitComplete_waits h)
  · obtain ⟨e, out, raised⟩ := exitComplete_reports (us := us) exiting back ready
    refine ⟨_, congrArg Host.Outcome.next out, rfl, rfl, rfl, rfl, rfl, rfl, raised, rfl, rfl⟩

end Sys2Proof.Machine
end

section
/-! How a domain's transition goes on: the admission of its stages, its drain, power-good and the state it settles in
(16_power.md R391 to R393, R404, R417). -/

namespace Sys2Proof.Machine

variable {s t : State} {d r : Nat}

/-! ### Admission -/

theorem restCheck_idle (h : s.pwr.entering = none) : restCheck s = s := by
  unfold restCheck
  rw [h]

section

variable {step : Nat} {w : Bool} {rest : List (Nat × Nat × Bool)}

theorem admits_iff {p : Power} {tick : Nat} : p.admits tick step = true ↔
    p.stepSum tick + step ≤ 100 * p.budgetA ∨ (100 * p.budgetA < step ∧ p.stepSum tick = 0) := by
  simp [Power.admits]

/-- A stage that begins: it leaves the queue and its step counts from now. -/
def stageBegun (d step : Nat) (rest : List (Nat × Nat × Bool)) (s : State) : State :=
  onDom d (fun x => { x with stagesLeft := x.stagesLeft - 1 }) (onPwr (fun p => { p with
    queue := rest, begun := (s.dev.ticks, step) :: (p.begun.filter fun b => s.dev.ticks < b.1 + p.windowUs * 625) }) s)

theorem admissionStart_begins (queue : s.pwr.queue = (d, step, w) :: rest) (fits : s.pwr.admits s.dev.ticks step = true)
    (on : (s.domain d).st = .starting ∨ 2 ≤ (s.domain d).stagesLeft) : admissionStart s = stageBegun d step rest s := by
  unfold admissionStart
  rw [queue]
  dsimp only
  rw [if_pos fits]
  refine if_neg fun last => ?_
  obtain ⟨lt, stopping, _, none_⟩ := last
  rw [onDom_same lt] at stopping none_
  have st : (s.domain d).st = .stopping := stopping
  have left : (s.domain d).stagesLeft - 1 = 0 := none_
  rcases on with start | more
  · rw [st] at start
    cases start
  · omega

theorem admissionStart_waits (queue : s.pwr.queue = (d, step, w) :: rest) (over_ : s.pwr.admits s.dev.ticks step = false) :
    admissionStart s = raise 290 (objDomain d) (evtArg 0 0 0 s.pwr.queue.length) { s with pwr := { s.pwr with
      waits := satAdd s.pwr.waits (s.pwr.queue.filter fun x => !x.2.2).length
      queue := s.pwr.queue.map fun x => (x.1, x.2.1, true) } } := by
  have step_ : admissionStart s = raise 290 (objDomain d) (evtArg 0 0 0 s.pwr.queue.length) (onPwr (fun p => { p with
      waits := satAdd p.waits (p.queue.filter fun x => !x.2.2).length
      queue := p.queue.map fun x => (x.1, x.2.1, true) }) s) := by
    unfold admissionStart
    split
    · next none_ =>
      rw [queue] at none_
      cases none_
    · next e f _ tail found =>
      rw [queue] at found
      cases found
      rw [over_]
      rfl
  exact step_

end

/-! ### The drain of a stopping domain -/

section

variable {d : Fin 20}

theorem domainStopDrained_waits (h : s.dom d ≠ .stopping ∨ (s.domain d).drained = true ∨ domainChutesEmpty d s = false ∨
    domainTagsFree d s = false) : domainStopDrained d s = s := by
  refine if_neg fun ready => ?_
  obtain ⟨stopping, open_, chutes, tags⟩ := ready
  rcases h with h | h | h | h
  · exact h stopping
  · rw [h] at open_
    cases open_
  · rw [h] at chutes
    cases chutes
  · rw [h] at tags
    cases tags

theorem domainStopDrained_drains (stopping : s.dom d = .stopping) (open_ : (s.domain d).drained = false)
    (chutes : domainChutesEmpty d s = true) (tags : domainTagsFree d s = true) :
    domainStopDrained d s = queueStages d (onDom d (fun x => { x with drained := true, saved := true }) s) :=
  if_pos ⟨stopping, by rw [open_]; rfl, chutes, tags⟩

end

/-! ### Power-good -/

/-- A domain that may settle in its target. -/
def PowerGood (d : Fin 20) (s : State) : Prop :=
  s.dom d = .starting ∧ (s.domain d).stagesLeft = 0 ∧ railFault d s = false ∧ ∀ x ∈ s.pwr.raises, x.dom ≠ d.val

section

variable {d : Fin 20}

theorem powerGood_iff : PowerGood d s ↔ (s.domain d).st = .starting ∧ (s.domain d).stagesLeft = 0 ∧ (!railFault d s) = true ∧
    (!(s.pwr.raises.any fun y => y.dom == d.val)) = true := by
  simp only [PowerGood, State.dom, State.domain, Bool.not_eq_true', List.any_eq_false, beq_iff_eq, ne_eq]

theorem domainPowerGood_waits (h : ¬ PowerGood d s) : domainPowerGood d s = s := if_neg (mt powerGood_iff.2 h)

theorem domainPowerGood_settles (h : PowerGood d s) : domainPowerGood d s = domainUp d (settleDomain d (s.domain d).target false s) :=
  if_pos (powerGood_iff.1 h)

theorem domainFail_other (h : s.dom d ≠ .starting) : domainFail d s = s := if_neg h

theorem domainFail_starting (h : s.dom d = .starting) : domainFail d s = domainCommandsFail d stTimeout (settleDomain d .off true
    { s with pwr := { s.pwr with queue := s.pwr.queue.filter fun x => x.1 != d.val, raises := s.pwr.raises.filter fun x => x.dom != d.val } }) :=
  if_pos h

end

/-! ### The voltage of adaptive rails -/

section

variable {x : Nat} {f : Rail → Rail}

theorem onRail_same (h : r < 16) : (onRail r f s).rail r = f (s.rail r) := getNat_updNat_same h

theorem onRail_other (h : x ≠ r) : (onRail r f s).rail x = s.rail x := getNat_updNat_other h

end

/-- What a rail needs is seen in its own ceiling and loop offset and the Factory record alone. -/
theorem railNeed_congr (rail : (t.rail r).mv = (s.rail r).mv ∧ (t.rail r).offset = (s.rail r).offset) (boot : t.boot = s.boot) :
    railNeed r d t = railNeed r d s := by
  obtain ⟨mv, off⟩ := rail
  simp only [railNeed, ringRecord, mv, off, boot]

theorem railTarget_congr (rail : (t.rail r).mv = (s.rail r).mv ∧ (t.rail r).offset = (s.rail r).offset) (boot : t.boot = s.boot)
    (doms : ∀ x, t.dom x = s.dom x) (st : t.pwr.st = s.pwr.st) : railTarget r t = railTarget r s := by
  simp only [railTarget, doms, st, fun d => railNeed_congr (d := d) rail boot]

/-- A rail that feeds a domain whose clocks have stopped, lowered to what the others on it need. -/
def loweredRail (d : Nat) (s : State) (r : Nat) : Rail :=
  let x := s.rail r
  if railFeeds r d && x.configured && x.adaptive && !x.settling then
    { x with setMv := min x.setMv (max (railFloor r) (railTarget r s)) }
  else x

/-- One rail lowered. -/
def lowerRail (d : Nat) (s : State) (r : Nat) : State :=
  let x := s.rail r
  if railFeeds r d && x.configured && x.adaptive && !x.settling then
    onRail r (fun x => { x with setMv := min x.setMv (max (railFloor r) (railTarget r s)) }) s
  else s

theorem lowerRails_eq : lowerRails d s = (List.range 13).foldl (lowerRail d) s := rfl

theorem lowerRail_same (h : r < 16) : (lowerRail d s r).rail r = loweredRail d s r := by
  unfold lowerRail loweredRail
  dsimp only
  split
  · exact onRail_same h
  · rfl

theorem lowerRail_other {x : Nat} (h : x ≠ r) : (lowerRail d s r).rail x = s.rail x := by
  unfold lowerRail
  dsimp only
  split
  · exact onRail_other h
  · rfl

theorem lowerRail_besides {h : House} : { lowerRail d s r with house := h } = { s with house := h } := by
  unfold lowerRail
  dsimp only
  split <;> rfl

theorem loweredRail_need : (loweredRail d s r).mv = (s.rail r).mv ∧ (loweredRail d s r).offset = (s.rail r).offset := by
  unfold loweredRail
  dsimp only
  split <;> exact ⟨rfl, rfl⟩

/-- Lowering one rail leaves what another is lowered to. -/
theorem loweredRail_lowerRail {x : Nat} (h : x ≠ r) : loweredRail d (lowerRail d s r) x = loweredRail d s x := by
  have boot : (lowerRail d s r).boot = s.boot := (congrArg State.boot (lowerRail_besides (h := s.house)) :)
  have pwr : (lowerRail d s r).pwr = s.pwr := (congrArg State.pwr (lowerRail_besides (h := s.house)) :)
  have same := lowerRail_other (d := d) (s := s) h
  have target : railTarget x (lowerRail d s r) = railTarget x s :=
    railTarget_congr (by rw [same]; exact ⟨rfl, rfl⟩) boot (fun y => by rw [State.dom, pwr]; rfl) (by rw [pwr])
  simp only [loweredRail, same, target]

theorem lowerRails_out {l : List Nat} (h : r ∉ l) : (l.foldl (lowerRail d) s).rail r = s.rail r := by
  induction l generalizing s with
  | nil => rfl
  | cons x l ih =>
    rw [List.mem_cons, not_or] at h
    rw [List.foldl_cons, ih h.2, lowerRail_other h.1]

theorem lowerRails_in {l : List Nat} (nodup : l.Nodup) (h : r ∈ l) (lt : r < 16) : (l.foldl (lowerRail d) s).rail r = loweredRail d s r := by
  induction l generalizing s with
  | nil => cases h
  | cons x l ih =>
    rw [List.nodup_cons] at nodup
    rw [List.foldl_cons]
    rcases List.mem_cons.1 h with rfl | later
    · rw [lowerRails_out nodup.1, lowerRail_same lt]
    · have apart_ : r ≠ x := fun e => nodup.1 (e ▸ later)
      rw [ih nodup.2 later, loweredRail_lowerRail apart_]

theorem lowerRails_rail : (lowerRails d s).rail r = if r < 13 then loweredRail d s r else s.rail r := by
  rw [lowerRails_eq]
  by_cases lt : r < 13
  · rw [if_pos lt]
    exact lowerRails_in List.nodup_range (List.mem_range.2 lt) (by omega)
  · rw [if_neg lt]
    exact lowerRails_out fun h => lt (List.mem_range.1 h)

/-! ### A domain that settles -/

section

variable {st : DomState} {failed : Bool}

/-- The domain in the state that it settles in. -/
def Domain.settled (st : DomState) (failed : Bool) (x : Domain) : Domain :=
  { x with
    st := st, stagesLeft := 0, drained := false, thermal := false, leg := none
    transitions := bump x.transitions, failed := if failed then bump x.failed else x.failed
    saved := st != .run && (x.saved || !failed) }

/-- What else a settled domain changes: the contents of a stack, its rails, its performance bins. -/
def settledSides (d : Nat) (st : DomState) (s : State) : State :=
  if st = .off && 16 ≤ d then loseStack (d - 16) (lowerRails d s)
  else if st = .run then pmPut (fun x => objInDomain x.ob d) .suspect s else lowerRails d s

theorem settledSides_same {α : Type} {e : State → α} (h1 : ∀ f x, e (onHouse f x) = e x) (h2 : ∀ f x, e (onStk f x) = e x)
    (h3 : ∀ f x, e (onCen f x) = e x) : e (settledSides d st s) = e s := by
  have lower : e (lowerRails d s) = e s := Same.refl.lowerRails h1
  unfold settledSides
  split
  · exact (h2 _ _).trans lower
  · split
    · exact h3 _ _
    · exact lower

theorem settledSides_house (h : st ≠ .run) : (settledSides d st s).house = (lowerRails d s).house := by
  unfold settledSides
  rw [if_neg h]
  split <;> rfl

/-- A domain that settles without a second leg and with no request that waits. -/
theorem settleDomain_ends (leg : (s.domain d).leg = none) (next : (s.domain d).next = []) : ∃ a k, settleDomain d st failed s =
    { onDom d (fun x => { x with next := x.next.drop 1 }) (raise 289 (objDomain d) a
      (settledSides d st (onDom d (Domain.settled st failed) s))) with desk := k } := by
  obtain ⟨k, desk⟩ := endTransition_changes_desk (fn := .domain d)
    (r := if failed then { status := stTimeout } else { status := stOk, payload := leBytes 1 st.reqCode })
    (s := onDom d (fun x => { x with next := x.next.drop 1 }) (raise 289 (objDomain d)
      (evtArg 0 st.code (b2n failed) (elapsedUs (s.domain d).since s.dev.ticks)) (settledSides d st (onDom d (Domain.settled st failed) s))))
  refine ⟨_, k, Eq.trans ?_ desk⟩
  unfold settleDomain
  simp only [leg, next]
  rfl

/-- Its own entry of the domains, the others', and all that a domain's end leaves. -/
theorem settleDomain_state (lt : d < 20) (leg : (s.domain d).leg = none) (next : (s.domain d).next = []) :
    let u := settleDomain d st failed s
    (u.dom d = st ∧ (u.domain d).transitions = bump (s.domain d).transitions ∧
      (u.domain d).failed = (if failed then bump (s.domain d).failed else (s.domain d).failed)) ∧
    (∀ x, x ≠ d → u.domain x = s.domain x) ∧ u.evt.status.getLsbD 289 = true ∧
    (u.pwr.queue = s.pwr.queue ∧ u.pwr.st = s.pwr.st ∧ u.time = s.time ∧ u.safe = s.safe ∧ u.lanes = s.lanes ∧ u.cars = s.cars ∧
      u.boot = s.boot) ∧
    u.house = (settledSides d st (onDom d (Domain.settled st failed) s)).house := by
  obtain ⟨a, k, eq⟩ := settleDomain_ends (st := st) (failed := failed) leg next
  have pwr : (settledSides d st (onDom d (Domain.settled st failed) s)).pwr = (onDom d (Domain.settled st failed) s).pwr :=
    settledSides_same (e := State.pwr) (fun _ _ => rfl) (fun _ _ => rfl) fun _ _ => rfl
  have rest : ∀ {α : Type} {e : State → α}, (∀ f x, e (onHouse f x) = e x) → (∀ f x, e (onStk f x) = e x) → (∀ f x, e (onCen f x) = e x) →
      e (settledSides d st (onDom d (Domain.settled st failed) s)) = e (onDom d (Domain.settled st failed) s) := settledSides_same
  have time := rest (e := State.time) (fun _ _ => rfl) (fun _ _ => rfl) fun _ _ => rfl
  have safe := rest (e := State.safe) (fun _ _ => rfl) (fun _ _ => rfl) fun _ _ => rfl
  have lanes := rest (e := State.lanes) (fun _ _ => rfl) (fun _ _ => rfl) fun _ _ => rfl
  have cars := rest (e := State.cars) (fun _ _ => rfl) (fun _ _ => rfl) fun _ _ => rfl
  have boot := rest (e := State.boot) (fun _ _ => rfl) (fun _ _ => rfl) fun _ _ => rfl
  dsimp only
  rw [eq]
  generalize settledSides d st (onDom d (Domain.settled st failed) s) = v at pwr time safe lanes cars boot
  have domains : ∀ x, v.domain x = (onDom d (Domain.settled st failed) s).domain x := fun x => by rw [State.domain, pwr]; rfl
  have own : ({ onDom d (fun x => { x with next := x.next.drop 1 }) (raise 289 (objDomain d) a v) with desk := k } : State).domain d =
      { Domain.settled st failed (s.domain d) with next := (s.domain d).next.drop 1 } := by
    refine (onDom_same (s := raise 289 (objDomain d) a v) lt).trans ?_
    have at_ : (raise 289 (objDomain d) a v).domain d = Domain.settled st failed (s.domain d) := (domains d).trans (onDom_same lt)
    rw [at_]
    rfl
  have raised : (raise 289 (objDomain d) a v).evt.status.getLsbD 289 = true := raise_status rfl (by decide) (by decide)
  refine ⟨⟨congrArg Domain.st own, congrArg Domain.transitions own, congrArg Domain.failed own⟩, fun x other => ?_, raised, ?_, rfl⟩
  · exact (onDom_other (s := raise 289 (objDomain d) a v) other).trans ((domains x).trans (onDom_other other))
  · exact ⟨(congrArg Power.queue pwr :), (congrArg Power.st pwr :), time, safe, lanes, cars, boot⟩

/-- The adaptive rails that feed a domain which settles out of RUN are lowered to what the domains then running need (log 79). -/
theorem settleDomain_rail (lt : d < 20) (leg : (s.domain d).leg = none) (next : (s.domain d).next = []) (low : st ≠ .run) :
    let u := settleDomain d st failed s
    let x := s.rail r
    u.rail r = if r < 13 ∧ railFeeds r d = true ∧ x.configured = true ∧ x.adaptive = true ∧ x.settling = false
      then { x with setMv := min x.setMv (max (railFloor r) (railTarget r u)) } else x := by
  obtain ⟨⟨own, _, _⟩, others, _, ⟨_, power, _, _, _, _, boot⟩, house⟩ := settleDomain_state (st := st) (failed := failed) lt leg next
  dsimp only
  generalize settleDomain d st failed s = u at own others power boot house
  have rail : u.rail r = if r < 13 then loweredRail d (onDom d (Domain.settled st failed) s) r else s.rail r := by
    rw [State.rail, house, settledSides_house low]
    exact lowerRails_rail
  have need : (u.rail r).mv = (s.rail r).mv ∧ (u.rail r).offset = (s.rail r).offset := by
    rw [rail]
    split
    · exact loweredRail_need
    · exact ⟨rfl, rfl⟩
  have doms : ∀ x, u.dom x = (onDom d (Domain.settled st failed) s).dom x := by
    intro x
    by_cases same : x = d
    · subst same
      exact own.trans (congrArg Domain.st (onDom_same (f := Domain.settled st failed) lt)).symm
    · exact congrArg Domain.st ((others x same).trans (onDom_other same).symm)
  have target : railTarget r u = railTarget r (onDom d (Domain.settled st failed) s) := railTarget_congr need boot doms power
  rw [rail, target]
  by_cases feeds : r < 13
  · rw [if_pos feeds]
    have plain : (onDom d (Domain.settled st failed) s).rail r = s.rail r := rfl
    simp only [loweredRail, plain, feeds, true_and, Bool.and_eq_true, Bool.not_eq_true', and_assoc]
  · rw [if_neg feeds, if_neg fun h => feeds h.1]

end

/-! ### The rails that domains wait for -/

section

variable {r : Fin 16}

/-- Judging a rail changes its cause, its count of faults and the event tree. -/
theorem judgeRail_eq : ∃ (n : Nat) (f : Rail → Nat) (e : EventTree),
    judgeRail r s = { onRail r (fun x => { x with cause := n, faults := f x }) s with evt := e } := by
  unfold judgeRail
  dsimp only
  split
  · exact ⟨_, _, s.evt, rfl⟩
  · exact ⟨_, _, _, rfl⟩

theorem judgeRail_pwr : (judgeRail r s).pwr = s.pwr := by
  obtain ⟨n, f, e, h⟩ := judgeRail_eq (r := r) (s := s)
  rw [h]
  rfl

theorem judgeRail_settling : ((judgeRail r s).rail r).settling = (s.rail r).settling := by
  obtain ⟨n, f, e, h⟩ := judgeRail_eq (r := r) (s := s)
  have own := congrArg Rail.settling (onRail_same (s := s) (f := fun x => { x with cause := n, faults := f x }) r.isLt)
  rw [h]
  exact own

/-- The rail that settled, judged, before what waited for it goes on. -/
def railSettled (r : Fin 16) (s : State) : State := judgeRail r (onRail r (fun x => { x with settling := false, voutBad := false }) s)

theorem railSettled_pwr : (railSettled r s).pwr = s.pwr := judgeRail_pwr

theorem railSettled_settling : ((railSettled r s).rail r).settling = false :=
  judgeRail_settling.trans (congrArg Rail.settling (onRail_same r.isLt))

/-- One domain that waited goes on, when it waits for no other rail. -/
def railReleases (s : State) (d : Nat) : State :=
  if s.pwr.raises.any fun x => x.dom == d then s
  else if d = 20 then queueStages 20 s
  else if (s.domain d).st = .starting then queueStages d s else s

theorem voutSettled_eq : voutSettled r s = (railWaiters r s).foldl railReleases
    (onPwr (fun p => { p with raises := p.raises.filter fun x => x.rail != r.val }) (railSettled r s)) := rfl

theorem voutSettled_unwaited (h : ∀ x ∈ s.pwr.raises, x.rail ≠ r.val) : voutSettled r s = railSettled r s := by
  have none_ : railWaiters r s = [] := by
    have empty : (s.pwr.raises.filter fun x => x.rail == r.val) = [] :=
      List.filter_eq_nil_iff.2 fun x hx => by simpa using h x hx
    rw [railWaiters, empty]
    rfl
  have kept : (railSettled r s).pwr.raises.filter (fun x => x.rail != r.val) = (railSettled r s).pwr.raises := by
    rw [railSettled_pwr]
    exact List.filter_eq_self.2 fun x hx => by simpa using h x hx
  rw [voutSettled_eq, none_, onPwr, kept]
  rfl

/-- A rail that one starting domain waits for: the domain's stages are queued. -/
theorem voutSettled_releases (waits : s.pwr.raises = [{ rail := r, dom := d }]) (lt : d < 20) (starting : s.dom d = .starting) :
    voutSettled r s = queueStages d (onPwr (fun p => { p with raises := [] }) (railSettled r s)) := by
  have one : railWaiters r s = [d] := by
    rw [railWaiters, waits]
    simp [List.eraseDups_cons]
  have spent : (railSettled r s).pwr.raises.filter (fun x => x.rail != r.val) = [] := by
    rw [railSettled_pwr, waits]
    simp
  have state : ((onPwr (fun p => { p with raises := [] }) (railSettled r s)).domain d).st = .starting := by
    have pwr : (railSettled r s).pwr.domains = s.pwr.domains := by rw [railSettled_pwr]
    show (getNat {} (railSettled r s).pwr.domains d).st = .starting
    rw [pwr]
    exact starting
  have first : onPwr (fun p => { p with raises := p.raises.filter fun x => x.rail != r.val }) (railSettled r s) =
      onPwr (fun p => { p with raises := [] }) (railSettled r s) := by
    rw [onPwr, spent]
    rfl
  have quiet : ¬ ((onPwr (fun p => { p with raises := [] }) (railSettled r s)).pwr.raises.any fun x => x.dom == d) = true := nofun
  rw [voutSettled_eq, one, first, List.foldl_cons, List.foldl_nil, railReleases, if_neg quiet, if_neg (by omega), if_pos state]

theorem voutSettled_released (waits : s.pwr.raises = [{ rail := r, dom := d }]) (lt : d < 20) (starting : s.dom d = .starting)
    (cool : (s.domain d).thermal = false) : (voutSettled r s).pwr.raises = [] ∧
      (voutSettled r s).pwr.queue = s.pwr.queue ++ List.replicate (stagesOf d).1 (d, (stagesOf d).2, false) ∧
      ((voutSettled r s).rail r).settling = false := by
  rw [voutSettled_releases waits lt starting]
  have pwr : (railSettled r s).pwr = s.pwr := railSettled_pwr
  have off := railSettled_settling (r := r) (s := s)
  generalize railSettled r s = u at pwr off
  refine ⟨rfl, ?_, off⟩
  rw [queueStages_queue]
  · rw [onPwr, pwr]
  · rw [State.domain, onPwr, pwr]
    exact cool

theorem voutSettleTimeout_settled (h : (s.rail r).settling = false) : voutSettleTimeout r s = s :=
  if_neg (by rw [h]; decide)

theorem voutSettleTimeout_fails (h : (s.rail r).settling = true) : voutSettleTimeout r s = (railWaiters r s).foldl (fun s d => domainFail d s)
    (judgeRail r (onRail r (fun x => { x with settling := false, voutBad := true }) s)) := if_pos h

end

/-- Settles O31: the sequencer's rows by their branches, and a settled domain field by field. That the adaptive rails are lowered when a
domain settles out of RUN is the model's choice (log 79). -/
theorem powerDomainProgress : Obligations.PowerDomainProgress := by
  unfold Obligations.PowerDomainProgress
  refine ⟨fun s queue entering => ?_, fun s d step w rest queue entering => ⟨fun fits on => ?_, fun waits => ?_⟩, fun d s =>
    ⟨fun h => congrArg Host.Outcome.next (domainStopDrained_waits h), fun stopping open_ chutes tags cool => ?_⟩, fun d s => ⟨fun h =>
      congrArg Host.Outcome.next (domainPowerGood_waits h), fun h => congrArg Host.Outcome.next (domainPowerGood_settles h),
      fun entering other => ?_, fun starting => ?_⟩, fun d st failed s lt leg next => ?_, fun r s none_ => ?_,
    fun r s d waits lt starting cool => ?_, fun r s entering => ⟨fun settled => ?_, fun settling => ?_⟩⟩
  · have idle : admissionStart s = s := by
      unfold admissionStart
      rw [queue]
    refine congrArg Host.Outcome.next ?_
    rw [idle, restCheck_idle entering]
  · have begins := admissionStart_begins queue (admits_iff.2 fits) on
    refine ⟨stageBegun d step rest s, congrArg Host.Outcome.next ?_, rfl, rfl, fun lt => onDom_same lt, fun x other => onDom_other other, rfl⟩
    rw [begins]
    exact restCheck_idle entering
  · have later := admissionStart_waits queue (Bool.eq_false_iff.2 (mt admits_iff.1 waits))
    refine congrArg Host.Outcome.next ?_
    rw [later]
    exact restCheck_idle entering
  · refine ⟨_, congrArg Host.Outcome.next (domainStopDrained_drains stopping open_ chutes tags), onDom_same d.isLt,
      fun x other => onDom_other other, queueStages_queue ?_, rfl⟩
    rw [onDom_same d.isLt]
    exact cool
  · refine congrArg Host.Outcome.next ?_
    rw [domainFail_other other, restCheck_idle entering]
  · exact congrArg (fun t => Host.Outcome.next (restCheck t)) (domainFail_starting starting)
  · obtain ⟨⟨own, transitions, fails⟩, others, raised, ⟨queue, _, time, safe, lanes, cars, _⟩, house⟩ :=
      settleDomain_state (st := st) (failed := failed) lt leg next
    refine ⟨own, transitions, fails, others, raised, queue, time, safe, lanes, cars, fun run => ?_, fun low r =>
      settleDomain_rail lt leg next low⟩
    rw [house, run]
    rfl
  · exact ⟨railSettled r s, congrArg Host.Outcome.next (voutSettled_unwaited none_), railSettled_pwr, rfl⟩
  · exact ⟨voutSettled r s, rfl, voutSettled_released waits lt starting cool⟩
  · refine congrArg Host.Outcome.next ?_
    rw [voutSettleTimeout_settled settled, restCheck_idle entering]
  · exact congrArg (fun t => Host.Outcome.next (restCheck t)) (voutSettleTimeout_fails settling)

end Sys2Proof.Machine
end

section
/-! The monitor converters: channels, due and urgent conversions and their results (17_monitors_thermal.md R405 to R416;
14_command_reference.md R360, R361). -/

namespace Sys2Proof.Machine

variable {q : Request} {s t : State} {k j : Nat} {m n : Fin 2}

/-! ### Channels and converters -/

section

variable {f : MonChan → MonChan} {g : Madc → Madc}

theorem onMon_same (h : k < 64) : (onMon k f s).chanOf k = f (s.chanOf k) := getNat_updNat_same h

theorem onMadc_same : (onMadc m g s).madcOf m = g (s.madcOf m) := by
  show (upd s.house.madc m g)[m] = _
  rw [upd_get, if_pos rfl]
  rfl

theorem onMadc_other (h : n ≠ m) : (onMadc m g s).madcOf n = s.madcOf n := by
  show (upd s.house.madc m g)[n] = _
  rw [upd_get, if_neg (Ne.symm h)]
  rfl

end

/-- A converter with its reference buffer on or off as it is wanted (R408). -/
def Madc.rested (need : Bool) (x : Madc) : Madc :=
  let want := x.en || need
  if want && x.buf == .off then { x with buf := .warming }
  else if !want && x.running.isNone then { x with buf := .off } else x

theorem bufRest_eq : bufRest s = onMadc 1 (Madc.rested (bufNeeded s 1)) (onMadc 0 (Madc.rested (bufNeeded s 0)) s) := rfl

theorem bufRest_madc : (bufRest s).madcOf m = Madc.rested (bufNeeded s m) (s.madcOf m) := by
  rw [bufRest_eq]
  match m with
  | 0 => rw [onMadc_other (by decide), onMadc_same]
  | 1 => rw [onMadc_same, onMadc_other (by decide)]

theorem rested_keeps {need : Bool} {x : Madc} : (x.rested need).running = x.running ∧ (x.rested need).aborted = x.aborted ∧
    (x.rested need).en = x.en := by
  unfold Madc.rested
  dsimp only
  split
  · exact ⟨rfl, rfl, rfl⟩
  · split <;> exact ⟨rfl, rfl, rfl⟩

theorem rested_buf {need : Bool} {x : Madc} : (x.rested need).buf =
    if (x.en || need) = true ∧ x.buf = .off then .warming else if (x.en || need) = false ∧ x.running = none then .off else x.buf := by
  unfold Madc.rested
  dsimp only
  by_cases want : (x.en || need) = true
  · by_cases off : x.buf = .off
    · simp [want, off]
    · simp [want, off]
  · rw [Bool.not_eq_true] at want
    cases x.running <;> simp [want]

/-! ### Settings and readings -/

/-- The channel as MON.CHANNEL.SET asks for it. -/
def askedChan (q : Request) (s : State) : MonChan :=
  { s.chanOf (objSub q) with conv := u8 q 4, gain := u8 q 5, filter := u8 q 6, periodUs := u32 q 8 }

/-- The channel set, and no longer due when it is unscheduled. -/
def chanSet (q : Request) (s : State) : State :=
  onHouse (fun h => { h with due := if u32 q 8 = 0 then h.due.filter fun d => d.2 != objSub q else h.due })
    (onMon (objSub q) (fun _ => askedChan q s) (keepBody 0x0F02 q s))

theorem chanSet_same (h : objSub q < 64) : (chanSet q s).chanOf (objSub q) = askedChan q s :=
  getNat_updNat_same h

theorem chanSet_other (h : j ≠ objSub q) : (chanSet q s).chanOf j = s.chanOf j := getNat_updNat_other h

theorem monChannelSet_eq : monChannelSet q s =
    if 2 < u8 q 4 then (s, badParam 4) else if 3 < u8 q 5 then (s, badParam 5) else if 3 < u8 q 6 then (s, badParam 6)
    else if owned s (objSub q) then (s, refuse stBadState) else if !settingOk s (objSub q) (askedChan q s) then (s, badParam 8)
    else (chanSet q s, ok) := rfl

/-- MON.REF.SET before the buffers follow: EN of each converter. -/
def refsEnabled (q : Request) (s : State) : State :=
  onMadc 1 (fun x => { x with en := bit (u8 q 4) 1 }) (onMadc 0 (fun x => { x with en := bit (u8 q 4) 0 }) (keepBody 0x0F01 q s))

theorem monRefSet_eq : monRefSet q s = (bufRest (refsEnabled q s), ok) := rfl

theorem refsEnabled_madc : (refsEnabled q s).madcOf m = { s.madcOf m with en := bit (u8 q 4) m.val } := by
  unfold refsEnabled
  match m with
  | 0 => exact (onMadc_other (by decide)).trans onMadc_same
  | 1 => exact onMadc_same.trans (congrArg (fun x : Madc => { x with en := bit (u8 q 4) 1 }) (onMadc_other (by decide)))

/-! ### What starts -/

theorem startUrgent_none (h : s.house.urgent = []) : startUrgent s = none := by
  rw [startUrgent, h]
  rfl

theorem startAborted_none (h : ∀ j : Fin 2, (s.madcOf j).aborted = none) : startAborted s = none := by
  simp only [startAborted, List.findSome?_cons, List.findSome?_nil, h, Option.map_none]

theorem startDue_none (h : s.house.due = []) : startDue s = none := by
  simp only [startDue, nextDue, h, List.findSome?_cons, List.findSome?_nil, List.find?_nil, Option.map_none]

/-- Nothing waits. -/
structure MonQuiet (s : State) : Prop where
  due : s.house.due = []
  urgent : s.house.urgent = []
  aborted : ∀ j : Fin 2, (s.madcOf j).aborted = none

theorem dispatchMon_quiet (h : MonQuiet s) {i : Nat} : dispatchMon i s = s := by
  cases i with
  | zero => rfl
  | succ i =>
    rw [dispatchMon, startUrgent_none h.urgent, startAborted_none h.aborted, startDue_none h.due]
    rfl

/-- One conversion starts, and then nothing waits. -/
theorem dispatchMon_one (first : startUrgent s = some t ∨ startUrgent s = none ∧ startAborted s = none ∧ startDue s = some t)
    (quiet : MonQuiet t) {i : Nat} : dispatchMon (i + 1) s = t := by
  rw [dispatchMon]
  rcases first with h | ⟨hu, ha, hd⟩
  · rw [h]
    exact dispatchMon_quiet quiet
  · rw [hu, ha, hd]
    exact dispatchMon_quiet quiet

theorem conv_on : ∀ m n : Fin 2, (m.val == n.val || m.val == 2) = decide (n = m) := by decide

theorem conv_single : ∀ m : Fin 2, (m.val == 2) = false := by decide

theorem convsOf_one (m : Fin 2) : convsOf m.val = [m] := by revert m; decide

theorem notReady_one (h : (s.madcOf m).buf = .ready) : notReady s [m] = [] := by
  simp [notReady, h]

/-! ### A due instant -/

/-- The due channel that may start, with its converters. -/
def duePick (s : State) : Option (List (Fin 2) × (Nat × Nat)) :=
  let idle (m : Fin 2) : Bool := (s.madcOf m).running.isNone && (s.madcOf m).aborted.isNone
  ([0, 1] : List (Fin 2)).findSome? fun m =>
    match nextDue s m with
    | none => none
    | some x =>
      let ms := convsOf (s.chanOf x.2).conv
      if ms.all fun y => idle y && nextDue s y == some x then some (ms, x) else none

/-- Its start, or the skip of the converters whose buffer is not ready. -/
def dueStart (s : State) (p : List (Fin 2) × (Nat × Nat)) : State :=
  let x := s.chanOf p.2.2
  let s1 := onHouse (fun h => { h with due := h.due.erase p.2 }) s
  match notReady s p.1 with
  | [] => convStartOn p.1 { chan := p.2.2, gain := x.gain, filter := x.filter, shared := x.conv == 2,
                            stream := if x.streamed then some 0 else none } s1
  | bad => bad.foldl (fun s m => skipOn m s) s1

theorem startDue_eq : startDue s = (duePick s).map (dueStart s) := rfl

/-- A plain conversion of a channel. -/
def plainConv (k : Nat) (x : MonChan) : Conversion := { chan := k, gain := x.gain, filter := x.filter, shared := false, stream := none }

/-- A converter with a conversion begun. -/
def Madc.begun (c : Conversion) (x : Madc) : Madc := { x with aborted := none, running := some c }

section

variable {i : Nat} (due : s.house.due = [(i, k)]) (scheduled : (s.chanOf k).periodUs ≠ 0) (conv : (s.chanOf k).conv = m.val)
include due scheduled conv

theorem nextDue_one : nextDue s n = if n = m then some (i, k) else none := by
  have on_ : (s.chanOf k).on n = decide (n = m) := by
    have pos : 0 < (s.chanOf k).periodUs := Nat.pos_of_ne_zero scheduled
    simp only [MonChan.on, pos, decide_true, Bool.true_and, conv, conv_on]
  simp only [nextDue, due, List.find?_cons, List.find?_nil, on_]
  by_cases h : n = m
  · rw [if_pos h, decide_eq_true h]
  · rw [if_neg h, decide_eq_false h]

theorem startDue_one (plain : (s.chanOf k).streamed = false)
    (idle : ∀ j : Fin 2, (s.madcOf j).running = none ∧ (s.madcOf j).aborted = none) (ready : (s.madcOf m).buf = .ready) :
    startDue s = some (onMadc m (Madc.begun (plainConv k (s.chanOf k))) (onHouse (fun h => { h with due := [] }) s)) := by
  have next : ∀ n : Fin 2, nextDue s n = if n = m then some (i, k) else none := fun n => nextDue_one due scheduled conv
  have shared : ((s.chanOf k).conv == 2) = false := by rw [conv, conv_single]
  have spent : s.house.due.erase (i, k) = [] := by simp [due]
  have at_ : convsOf (s.chanOf k).conv = [m] := by rw [conv, convsOf_one]
  have pick : duePick s = some ([m], (i, k)) := by
    unfold duePick
    match m with
    | 0 => simp [next, at_, idle]
    | 1 => simp [next, at_, idle]
  rw [startDue_eq, pick, Option.map_some, dueStart]
  dsimp only
  rw [notReady_one ready]
  dsimp only
  rw [shared, plain, onHouse, spent]
  rfl

end

/-- The channel put in its place among those that are due. -/
def dueQueued (k : Fin 64) (s : State) : State :=
  onHouse (fun h => { h with due := insertDue (dueInstant (s.chanOf k).periodUs s, k.val) h.due }) s

theorem conversionDue_idle {k : Fin 64} (h : (s.chanOf k).periodUs = 0 ∨ owned s k = true ∨ monStopped s = true) : conversionDue k s = s :=
  if_pos h

section

variable {k : Fin 64} (scheduled : (s.chanOf k).periodUs ≠ 0) (free : owned s k = false) (runs_ : monStopped s = false)
  (plain : (s.chanOf k).streamed = false)
include scheduled free runs_ plain

theorem conversionDue_goes : conversionDue k s =
    if s.house.due.any fun d => d.2 == k.val then onMon k (fun x => { x with late := bump x.late }) s
    else dispatchMon 70 (dueQueued k s) := by
  unfold conversionDue
  dsimp only
  rw [if_neg (by simp [scheduled, free, runs_]), if_neg (by simp [plain])]
  rfl

theorem conversionDue_late (waits : (s.house.due.any fun d => d.2 == k.val) = true) :
    conversionDue k s = onMon k (fun x => { x with late := bump x.late }) s :=
  (conversionDue_goes scheduled free runs_ plain).trans (if_pos waits)

theorem conversionDue_starts (conv : (s.chanOf k).conv = m.val) (due : s.house.due = []) (urgent : s.house.urgent = [])
    (idle : ∀ j : Fin 2, (s.madcOf j).running = none ∧ (s.madcOf j).aborted = none) (ready : (s.madcOf m).buf = .ready) :
    conversionDue k s = onMadc m (Madc.begun (plainConv k (s.chanOf k))) s := by
  have none_ : ¬ (s.house.due.any fun d => d.2 == k.val) = true := by simp [due]
  have own : onHouse (fun h => { h with due := [] }) (dueQueued k s) = s := by
    show { s with house := { s.house with due := [] } } = s
    rw [← due]
  have starts : startDue (dueQueued k s) =
      some (onMadc m (Madc.begun (plainConv k (s.chanOf k))) (onHouse (fun h => { h with due := [] }) (dueQueued k s))) :=
    startDue_one (i := dueInstant (s.chanOf k).periodUs s) (by rw [dueQueued, onHouse, due]; rfl) scheduled conv plain idle ready
  rw [own] at starts
  rw [conversionDue_goes scheduled free runs_ plain, if_neg none_]
  have none1 : startUrgent (dueQueued k s) = none := startUrgent_none urgent
  have none2 : startAborted (dueQueued k s) = none := startAborted_none fun j => (idle j).2
  refine dispatchMon_one (.inr ⟨none1, none2, starts⟩) ⟨due, urgent, fun j => ?_⟩
  by_cases h : j = m
  · rw [h, onMadc_same]
    rfl
  · rw [onMadc_other h]
    exact (idle j).2

end

/-! ### An urgent request -/

section

variable {k : Fin 16}

theorem urgentRequest_ignored (h : s.safe.valid = false ∨ monStopped s = true ∨ s.safe.checks[k.val]? = none) : urgentRequest k s = s := by
  have none_ : (if s.safe.valid && !monStopped s then s.safe.checks[k.val]? else none) = none := by
    rcases h with h | h | h <;> simp [h]
  unfold urgentRequest
  rw [none_]

/-- The conversion of a check on its converter. -/
def urgentConv (k : Nat) (x : SafeCheck) : Conversion :=
  { chan := x.chan, gain := x.gain, filter := x.filter, shared := false, check := some k }

/-- A converter with an urgent conversion begun. -/
def Madc.urged (c : Conversion) (x : Madc) : Madc := { x with urgents := bump x.urgents, running := some c }

section

variable {x : SafeCheck} (at_ : s.safe.checks[k.val]? = some x) (conv : x.conv = m.val)
include at_ conv

theorem startUrgent_one (urgent : s.house.urgent = [k.val]) (idle : (s.madcOf m).running = none) : startUrgent s =
    some (onMadc m (Madc.urged (urgentConv k x)) (onHouse (fun h => { h with urgent := [] }) s)) := by
  have shared : (x.conv == 2) = false := by rw [conv, conv_single]
  have one : convsOf x.conv = [m] := by rw [conv, convsOf_one]
  have spent : s.house.urgent.erase k.val = [] := by simp [urgent]
  have pick : (s.house.urgent.find? fun k => (convsOf ((s.safe.checks[k]?.map (·.conv)).getD 2)).all fun m => (s.madcOf m).running.isNone) =
      some k.val := by
    simp [urgent, at_, one, idle]
  unfold startUrgent
  rw [pick, Option.map_some]
  dsimp only
  rw [at_, Option.getD_some, one, shared, onHouse, spent]
  rfl

theorem urgentRequest_starts (valid : s.safe.valid = true) (runs_ : monStopped s = false) (due : s.house.due = []) (urgent : s.house.urgent = [])
    (idle : ∀ j : Fin 2, (s.madcOf j).running = none ∧ (s.madcOf j).aborted = none) (ready : (s.madcOf m).buf = .ready) :
    urgentRequest k s = onMadc m (Madc.urged (urgentConv k x)) s := by
  have some_ : (if s.safe.valid && !monStopped s then s.safe.checks[k.val]? else none) = some x := by simp [valid, runs_, at_]
  have one : convsOf x.conv = [m] := by rw [conv, convsOf_one]
  have still : preempt m s = s := by simp only [preempt, (idle m).1]
  have own : onHouse (fun h => { h with urgent := [] }) (onHouse (fun h => { h with urgent := h.urgent ++ [k.val] }) s) = s := by
    show { s with house := { s.house with urgent := [] } } = s
    rw [← urgent]
  have starts := startUrgent_one (s := onHouse (fun h => { h with urgent := h.urgent ++ [k.val] }) s) (m := m) at_ conv
    (by rw [onHouse, urgent]; rfl) (idle m).1
  rw [own] at starts
  unfold urgentRequest
  rw [some_]
  dsimp only
  rw [one, notReady_one ready]
  dsimp only
  rw [if_neg (by simp [urgent]), List.foldl_cons, List.foldl_nil, still]
  refine dispatchMon_one (.inl starts) ⟨due, urgent, fun j => ?_⟩
  by_cases h : j = m
  · rw [h, onMadc_same]
    exact (idle m).2
  · rw [onMadc_other h]
    exact (idle j).2

end

end

/-! ### The end of a conversion -/

section

variable {va vb : Int} {c : Conversion}

theorem conversionEnd_idle (h : (s.madcOf m).running = none ∨ monStopped s = true) : conversionEnd m va vb s = s := by
  unfold conversionEnd
  split
  · rfl
  · next c run =>
    rcases h with none_ | stopped
    · rw [run] at none_
      cases none_
    · exact if_pos stopped

/-- The channel once a settled result of a converter is delivered. -/
def MonChan.took (c : Conversion) (m : Fin 2) (code : Int) (x : MonChan) : MonChan :=
  { x with
    codeA := if m.val = 0 then code else x.codeA, codeB := if m.val = 1 then code else x.codeB
    settledA := if m.val = 0 && !false then code else x.settledA, settledB := if m.val = 1 && !false then code else x.settledB
    sensor := if !false && !false then code else x.sensor, conversions := bump x.conversions
    unsettled := if false then bump x.unsettled else x.unsettled, restarts := if c.restarted then bump x.restarts else x.restarts }

/-- The sample of a settled result. -/
def settledSample (c : Conversion) (m : Fin 2) (code : Int) (s : State) : MonSample :=
  { chan := c.chan, conv := m.val, flags := b2n false + 2 * b2n false + 4 * b2n c.restarted + 8 * b2n s.house.lostPending
    setting := c.gain + 4 * c.filter, code := code, sec := (s.stampAt 25).sec % 2 ^ 32, ns := (s.stampAt 25).ns }

/-- A settled result enters the queue and is its channel's latest. -/
theorem deliverResult_settled {code : Int} (room : s.house.queue.length < 1024) : deliverResult c m code false false s =
    onHouse (fun h => { h with queue := h.queue ++ [settledSample c m code s], lostPending := false })
      (onMon c.chan (MonChan.took c m code) s) :=
  if_pos (show (onMon c.chan (MonChan.took c m code) s).house.queue.length < 1024 from room)

/-- The result of a conversion that is plain: not shared, not streamed, not urgent. -/
def plainResult (m : Fin 2) (c : Conversion) (code : Int) (s : State) : State :=
  onHouse (fun h => { h with queue := h.queue ++ [settledSample c m code s], lostPending := false })
    (onMon c.chan (MonChan.took c m code) (onMadc m (fun x => { x with running := none }) s))

theorem plainResult_waits {code : Int} : (plainResult m c code s).house.due = s.house.due ∧
    (plainResult m c code s).house.urgent = s.house.urgent := ⟨rfl, rfl⟩

theorem plainResult_madc {code : Int} (j : Fin 2) :
    (plainResult m c code s).madcOf j = (onMadc m (fun x => { x with running := none }) s).madcOf j := rfl

theorem plainResult_aborted {code : Int} (h : ∀ j : Fin 2, (s.madcOf j).aborted = none) (j : Fin 2) :
    ((plainResult m c code s).madcOf j).aborted = none := by
  rw [plainResult_madc]
  by_cases same : j = m
  · rw [same, onMadc_same]
    exact h m
  · rw [onMadc_other same]
    exact h j

theorem bufRest_quiet (h : MonQuiet s) : MonQuiet (bufRest s) :=
  ⟨h.due, h.urgent, fun j => by rw [bufRest_madc, rested_keeps.2.1, h.aborted]⟩

variable (run : (s.madcOf m).running = some c) (single : c.shared = false) (whole : c.stream = none) (plain : c.check = none)
include run single whole plain

omit run in
theorem finishConv_plain (room : s.house.queue.length < 1024) :
    finishConv m c va vb s = plainResult m c (monCode c.chan c.gain (if m = 0 then va else vb)) s := by
  unfold finishConv
  simp only [single, whole, plain, Bool.false_eq_true, if_false]
  exact deliverResult_settled room

theorem conversionEnd_plain (runs_ : monStopped s = false) (room : s.house.queue.length < 1024) (due : s.house.due = [])
    (urgent : s.house.urgent = []) (none_ : ∀ j : Fin 2, (s.madcOf j).aborted = none) :
    conversionEnd m va vb s = bufRest (plainResult m c (monCode c.chan c.gain (if m = 0 then va else vb)) s) := by
  unfold conversionEnd
  rw [run]
  dsimp only
  rw [if_neg (by rw [runs_]; decide), finishConv_plain single whole plain room]
  exact dispatchMon_quiet (bufRest_quiet ⟨plainResult_waits.1.trans due, plainResult_waits.2.trans urgent, plainResult_aborted none_⟩)

end

theorem bufRest_running : ((bufRest s).madcOf m).running = (s.madcOf m).running := by rw [bufRest_madc, rested_keeps.1]

theorem bufRest_besides {h : House} : { bufRest s with house := h } = { s with house := h } := rfl

theorem bufRest_queue : (bufRest s).house.queue = s.house.queue := rfl

theorem bufRest_chan : (bufRest s).chanOf k = s.chanOf k := rfl

section

variable {c : Conversion} {code : Int}

theorem onHouse_besides {f : House → House} {h : House} : { onHouse f s with house := h } = { s with house := h } := rfl

theorem plainResult_besides {h : House} : { plainResult m c code s with house := h } = { s with house := h } := by
  rw [plainResult, onHouse_besides, onMon, onHouse_besides, onMadc, onHouse_besides]

theorem plainResult_queue : (plainResult m c code s).house.queue = s.house.queue ++ [settledSample c m code s] := rfl

theorem plainResult_running : ((plainResult m c code s).madcOf m).running = none :=
  congrArg Madc.running (onMadc_same (m := m) (g := fun x => { x with running := none }) (s := s))

theorem plainResult_chan (h : c.chan < 64) : (plainResult m c code s).chanOf c.chan = MonChan.took c m code (s.chanOf c.chan) :=
  onMon_same (s := onMadc m (fun x => { x with running := none }) s) h

end

/-! ### The process monitors -/

theorem adaptRail_fixed (h : (s.rail k).configured = false ∨ (s.rail k).adaptive = false) : adaptRail k s = s := by
  refine if_pos ?_
  rcases h with h | h <;> simp [h]

/-- The rates of the islands' rings, kept. -/
def frosTaken (fro : List Nat) (s : State) : State := onHouse (fun h => { h with fro := (fro ++ List.replicate 27 0).take 27 }) s

theorem processMonitor_eq {fro : List Nat} : processMonitor fro s = adaptRail 6 (adaptRail 0 (frosTaken fro s)) := rfl

/-- Settles O34: each row by its branch; the one conversion that may start is found by the dispatcher's own search. -/
theorem monitors : Obligations.Monitors := by
  unfold Obligations.Monitors
  refine ⟨fun q s run => ?_, fun q s run => ⟨fun bad => ?_, fun low high => ?_⟩, fun q s run => ?_, fun m s => ⟨fun h => ?_, fun h => ?_⟩,
    fun k s => ⟨fun h => ?_, fun scheduled free runs_ plain waits => ?_, fun m scheduled free runs_ plain conv due urgent idle ready => ?_⟩,
    fun k s => ⟨fun h => ?_, fun x m valid runs_ at_ conv due urgent idle ready => ?_⟩,
    fun m va vb s => ⟨fun h => ?_, fun c run single whole plain runs_ room due urgent none_ => ?_⟩, fun fro s fixed => ?_⟩
  · dsimp only
    refine ⟨fun conv => ?_, fun conv gain => ?_, fun conv gain filter => ?_, fun conv gain filter => ⟨fun own => ?_, fun free bad => ?_,
      fun free fits => ?_⟩⟩
    · exact deskRun_badParam run (monChannelSet_eq.trans (if_pos conv))
    · refine deskRun_badParam run (monChannelSet_eq.trans ?_)
      rw [if_neg (by omega), if_pos gain]
    · refine deskRun_badParam run (monChannelSet_eq.trans ?_)
      rw [if_neg (by omega), if_neg (by omega), if_pos filter]
    · refine congrArg Host.Outcome.next (deskRun_done run (monChannelSet_eq.trans ?_))
      rw [if_neg (by omega), if_neg (by omega), if_neg (by omega), if_pos own]
      rfl
    · refine deskRun_badParam run (monChannelSet_eq.trans ?_)
      rw [if_neg (by omega), if_neg (by omega), if_neg (by omega), if_neg (by rw [free]; decide), if_pos]
      rw [Bool.not_eq_true']
      exact bad
    · refine ⟨chanSet q s, congrArg Host.Outcome.next (deskRun_done run (monChannelSet_eq.trans ?_)), chanSet_same,
        fun j other => chanSet_other other, rfl, rfl⟩
      rw [if_neg (by omega), if_neg (by omega), if_neg (by omega), if_neg (by rw [free]; decide), if_neg]
      · rfl
      · rw [Bool.not_eq_true', Bool.not_eq_false]
        exact fits
  · exact deskRun_badParam run (if_pos bad)
  · exact congrArg Host.Outcome.next (deskRun_done run (if_neg (by omega)))
  · refine ⟨bufRest (refsEnabled q s), congrArg Host.Outcome.next (deskRun_done run monRefSet_eq), rfl, fun m => ?_⟩
    dsimp only
    rw [bufRest_madc, rested_keeps.2.2, rested_buf, refsEnabled_madc]
    exact ⟨rfl, rfl⟩
  · exact congrArg Host.Outcome.next (if_neg h)
  · refine ⟨_, congrArg Host.Outcome.next (if_pos h), congrArg Madc.buf onMadc_same, ?_, rfl⟩
    rw [onMadc_same, ← h]
  · exact congrArg Host.Outcome.next (conversionDue_idle h)
  · exact congrArg Host.Outcome.next (conversionDue_late scheduled free runs_ plain waits)
  · exact congrArg Host.Outcome.next (conversionDue_starts scheduled free runs_ plain conv due urgent idle ready)
  · exact congrArg Host.Outcome.next (urgentRequest_ignored h)
  · exact congrArg Host.Outcome.next (urgentRequest_starts at_ conv valid runs_ due urgent idle ready)
  · exact congrArg Host.Outcome.next (conversionEnd_idle h)
  · dsimp only
    refine ⟨_, congrArg Host.Outcome.next (conversionEnd_plain run single whole plain runs_ room due urgent none_), ?_, ?_, ?_, ?_, fun lt => ?_⟩
    · rw [bufRest_running, plainResult_running]
    · rw [bufRest_besides, plainResult_besides]
    · rw [bufRest_queue, plainResult_queue, List.drop_left]
      rfl
    · rw [bufRest_queue, plainResult_queue, List.take_left]
    · rw [bufRest_chan, plainResult_chan lt]
      exact ⟨rfl, rfl⟩
  · refine congrArg Host.Outcome.next (show processMonitor fro s = _ from ?_)
    have first : adaptRail 0 (frosTaken fro s) = frosTaken fro s := adaptRail_fixed (fixed 0 (.inl rfl))
    have second : adaptRail 6 (frosTaken fro s) = frosTaken fro s := adaptRail_fixed (fixed 6 (.inr rfl))
    rw [processMonitor_eq, first, second]
    rfl

end Sys2Proof.Machine
end

section
/-! Sensor readings and the thermal states, PMBus rails and GPIO (17_monitors_thermal.md R417 to R423, R428; 14_command_reference.md
R360; 20_mated_pair.md R486). -/

namespace Sys2Proof.Machine

variable {q : Request} {s t u : State} {n m : Nat}

/-! ### Sensors -/

theorem getNat_ofFn {α : Type} {k : Nat} {d : α} {f : Fin k → α} (i : Fin k) : getNat d (Vector.ofFn f) i = f i := by
  simp [getNat, List.getD]

theorem getNat_fin {α : Type} {k : Nat} {d : α} {v : Vector α k} (i : Fin k) : getNat d v i = v[i] := by
  simp [getNat, List.getD]

theorem onSensor_same {f : Sensor → Sensor} (h : n < 32) : (onSensor n f s).house.sensor n = f (s.house.sensor n) := getNat_updNat_same h

theorem onSensor_other {f : Sensor → Sensor} (h : m ≠ n) : (onSensor n f s).house.sensor m = s.house.sensor m := getNat_updNat_other h

/-- A change that no sensor's health survives without having been there, and that is seen in no other part of a sensor but its run of
neighbour checks. -/
def Sensor.MayFault (x y : Sensor) : Prop :=
  ∃ b k, y = { x with healthy := b, neighbourRun := k } ∧ (b = true → x.healthy = true)

theorem Sensor.MayFault.refl (x : Sensor) : x.MayFault x := ⟨x.healthy, x.neighbourRun, rfl, id⟩

theorem Sensor.MayFault.trans {x y z : Sensor} (h : x.MayFault y) (g : y.MayFault z) : x.MayFault z := by
  obtain ⟨b, k, rfl, own⟩ := h
  obtain ⟨c, l, rfl, next⟩ := g
  exact ⟨c, l, rfl, fun on => own (next on)⟩

/-- What the checks of the sensors do to a state. -/
structure SensorsChecked (s t : State) : Prop where
  frame : ∃ v e, t = { s with house := { s.house with sensors := v }, evt := e }
  each : ∀ n : Fin 32, (s.house.sensor n).MayFault (t.house.sensor n)

theorem SensorsChecked.refl : SensorsChecked s s := ⟨⟨s.house.sensors, s.evt, rfl⟩, fun _ => .refl _⟩

theorem SensorsChecked.trans (h : SensorsChecked s t) (g : SensorsChecked t u) : SensorsChecked s u := by
  refine ⟨?_, fun n => (h.each n).trans (g.each n)⟩
  obtain ⟨v, e, rfl⟩ := h.frame
  obtain ⟨w, f, rfl⟩ := g.frame
  exact ⟨w, f, rfl⟩

theorem onSensor_checked {f : Sensor → Sensor} (h : ∀ x, Sensor.MayFault x (f x)) : SensorsChecked s (onSensor n f s) := by
  refine ⟨⟨updNat s.house.sensors n f, s.evt, rfl⟩, fun m => ?_⟩
  by_cases same : m.val = n
  · subst same
    rw [onSensor_same m.isLt]
    exact h _
  · rw [onSensor_other same]
    exact .refl _

theorem raise_checked {k ob : Nat} {a : EvtArg} : SensorsChecked s (raise k ob a s) := ⟨⟨s.house.sensors, _, rfl⟩, fun _ => .refl _⟩

theorem sensorFault_checked {why : Nat} : SensorsChecked s (sensorFault n why s) :=
  (onSensor_checked fun x => ⟨false, x.neighbourRun, rfl, nofun⟩).trans raise_checked

theorem foldl_checked {α : Type} {f : State → α → State} {l : List α} (h : ∀ s x, SensorsChecked s (f s x)) : SensorsChecked s (l.foldl f s) := by
  induction l generalizing s with
  | nil => exact .refl
  | cons x l ih => exact (h s x).trans ih

theorem sensorChecks_checked : SensorsChecked s (sensorChecks s) := by
  refine foldl_checked fun u n => ?_
  dsimp only
  have run : SensorsChecked u (onSensor n (fun x => { x with neighbourRun := neighbourRun s.house n }) u) :=
    onSensor_checked fun x => ⟨x.healthy, _, rfl, id⟩
  split
  · split
    · exact run.trans sensorFault_checked
    · split
      · exact run.trans sensorFault_checked
      · exact run
  · exact .refl

/-- The sensors with the readings of a millisecond. -/
def readStep (rs : List Int) (s : State) : State :=
  onHouse (fun h => { h with
    readings := h.readings + 1
    sensors := Vector.ofFn fun n =>
      (h.sensors[n]).read (thermLimit s 110) (thermLimit s 120) (thermLimit s 125) (rs.getD n.val 0) }) s

/-- Their runs of equal readings, against the sensors as they were. -/
def stuckStep (old : House) (s : State) : State :=
  onHouse (fun h => { h with sensors := Vector.ofFn fun n => stuckRun h n.val (old.sensor n.val) }) s

/-- The sensors with the readings of a millisecond, before any check. -/
def sensorsRead (rs : List Int) (s : State) : State := stuckStep s.house (readStep rs s)

/-- The readings checked and judged, before the table of R421. -/
def readingsJudged (rs : List Int) (s : State) : State := rateEvents (onHouse House.judged (sensorChecks (sensorsRead rs s)))

theorem sensorReading_dark {rs : List Int} (h : s.boot.resetLow = true ∨ s.pwr.st = .deepSleep ∨ s.pwr.st = .off) :
    sensorReading rs s = s := if_pos h

theorem sensorReading_live {rs : List Int} (high : s.boot.resetLow = false) (deep : s.pwr.st ≠ .deepSleep) (off : s.pwr.st ≠ .off) :
    sensorReading rs s = thermStep (readingsJudged rs s) := if_neg (by simp [high, deep, off])

section

variable {rs : List Int} (n : Fin 32)

theorem stuckRun_reads {h : House} {k : Nat} {old : Sensor} : ∃ a b, stuckRun h k old = { h.sensor k with
    same := if old.hist = [] ∨ (h.sensor k).reading ≠ old.reading then 0 else old.same + 1, nearAt := a, nearMoved := b } := by
  unfold stuckRun
  dsimp only
  simp only [List.isEmpty_iff]
  split
  · exact ⟨_, _, rfl⟩
  · exact ⟨_, _, rfl⟩

theorem readStep_sensor : (readStep rs s).house.sensor n =
    (s.house.sensor n).read (thermLimit s 110) (thermLimit s 120) (thermLimit s 125) (rs.getD n 0) := by
  have at_ : s.house.sensors[n] = s.house.sensor n := (getNat_fin n).symm
  rw [← at_]
  exact getNat_ofFn n

theorem stuckStep_sensor {old : House} : ∃ a b, (stuckStep old s).house.sensor n = { s.house.sensor n with
    same := if (old.sensor n).hist = [] ∨ (s.house.sensor n).reading ≠ (old.sensor n).reading then 0 else (old.sensor n).same + 1
    nearAt := a, nearMoved := b } := by
  obtain ⟨a, b, stuck⟩ := stuckRun_reads (h := s.house) (k := n.val) (old := old.sensor n)
  exact ⟨a, b, (getNat_ofFn n).trans stuck⟩

theorem rateEvents_sensors : (rateEvents s).house.sensors = s.house.sensors := rfl

theorem judged_sensors {h : House} : h.judged.sensors = h.sensors := rfl

theorem readingsJudged_sensors : (readingsJudged rs s).house.sensors = (sensorChecks (sensorsRead rs s)).house.sensors := by
  rw [readingsJudged, rateEvents_sensors, onHouse, judged_sensors]

end

/-- What a sensor keeps of a reading, with its limits. -/
def Sensor.Took (warn stop shut r : Int) (x y : Sensor) : Prop :=
  y.reading = r ∧ y.hist = (r :: x.hist).take 288 ∧ y.peak = max x.peak r ∧ (y.healthy = true → x.healthy = true) ∧
    y.warnRun = (if warn ≤ r then x.warnRun + 1 else 0) ∧ y.stopRun = (if stop ≤ r then x.stopRun + 1 else 0) ∧
    y.shutRun = (if shut ≤ r then x.shutRun + 1 else 0) ∧ y.same = (if x.hist = [] ∨ r ≠ x.reading then 0 else x.same + 1)

theorem took_of_checked {warn stop shut r : Int} {x y z : Sensor} {a : List Int} {b : Bool}
    (stuck : y = { x.read warn stop shut r with same := if x.hist = [] ∨ r ≠ x.reading then 0 else x.same + 1, nearAt := a, nearMoved := b })
    (checked : y.MayFault z) : Sensor.Took warn stop shut r x z := by
  obtain ⟨c, k, rfl, healthy⟩ := checked
  subst stuck
  exact ⟨rfl, rfl, rfl, healthy, rfl, rfl, rfl, rfl⟩

theorem readingsJudged_reads {rs : List Int} (n : Fin 32) : Sensor.Took (thermLimit s 110) (thermLimit s 120) (thermLimit s 125) (rs.getD n 0)
    (s.house.sensor n) ((readingsJudged rs s).house.sensor n) := by
  obtain ⟨a, b, stuck⟩ := stuckStep_sensor (s := readStep rs s) (old := s.house) n
  rw [readStep_sensor] at stuck
  have own : (readingsJudged rs s).house.sensor n = (sensorChecks (sensorsRead rs s)).house.sensor n :=
    by simp only [House.sensor, readingsJudged_sensors]
  rw [own]
  exact took_of_checked stuck (sensorChecks_checked.each n)

/-- What the readings leave of the rest: the thermal state, the power state; one more reading counts. -/
def readView (s : State) : ThermState × Power × Nat := (s.house.therm, s.pwr, s.house.readings)

theorem rateEvents_view : readView (rateEvents s) = readView s := rfl

theorem judged_view : readView (onHouse House.judged s) = readView s := rfl

theorem stuckStep_view {old : House} : readView (stuckStep old s) = readView s := by
  simp only [readView, stuckStep, onHouse]

theorem readStep_view {rs : List Int} : readView (readStep rs s) = (s.house.therm, s.pwr, s.house.readings + 1) := by
  simp only [readView, readStep, onHouse]

theorem sensorChecks_view : readView (sensorChecks s) = readView s := by
  obtain ⟨v, e, frame⟩ := (sensorChecks_checked (s := s)).frame
  rw [frame]
  rfl

theorem readingsJudged_keeps {rs : List Int} :
    readView (readingsJudged rs s) = (s.house.therm, s.pwr, s.house.readings + 1) := by
  rw [readingsJudged, rateEvents_view, judged_view, sensorChecks_view, sensorsRead, stuckStep_view, readStep_view]

/-! ### The table of R421 -/

/-- The device was shut down by temperature and is still hot at its first readings (R423). -/
def HotAgain (u : State) : Prop := u.house.afterShut = true ∧ u.house.readings ≤ 100 ∧ thermLimit u 110 ≤ u.house.tMax

theorem hotAgain_iff : (u.house.afterShut && u.house.readings ≤ 100 && thermLimit u 110 ≤ u.house.tMax) = true ↔ HotAgain u := by
  simp only [HotAgain, Bool.and_eq_true, decide_eq_true_iff, and_assoc]

theorem thermStep_shut (h : shutSensor u = some n) : thermStep u = thermalShutdown n u := by
  unfold thermStep
  rw [h]

theorem thermStep_again (none_ : shutSensor u = none) (again : HotAgain u) :
    thermStep u = thermalShutdown (u.house.hottest.getD 0) u := by
  unfold thermStep
  dsimp only
  rw [none_, hotAgain_iff.2 again]

theorem thermStep_table (none_ : shutSensor u = none) (again : ¬ HotAgain u) : thermStep u =
    let stopHot := u.house.healthySensors.find? fun n => 3 ≤ (u.house.sensor n).stopRun
    let warnHot := u.house.healthySensors.find? fun n => 3 ≤ (u.house.sensor n).warnRun
    if (u.house.therm = .normal ∨ u.house.therm = .warn) ∧ (stopHot.isSome ∨ u.house.rateStop) then
      raiseTherm 329 1 stopHot (thermalStop (onHouse (fun h => { h with stops := bump h.stops }) (thermTo .stop u)))
    else if u.house.therm = .normal ∧ (warnHot.isSome ∨ u.house.rateWarn) then
      raiseTherm 328 1 warnHot (onHouse (fun h => { h with warns := bump h.warns }) (thermTo .warn u))
    else onHouse (fun h => { h with recovering := if mayRecover u then h.recovering + 1 else 0 }) u := by
  unfold thermStep
  dsimp only
  rw [none_, Bool.eq_false_iff.2 (mt hotAgain_iff.1 again)]

theorem mayRecover_iff : mayRecover u = true ↔ ∃ d, u.house.rMax = some d ∧ d * 125 < 2 * 16384 ∧
    (u.house.therm = .warn ∧ u.house.tMax ≤ thermLimit u 105 ∨ u.house.therm = .stop ∧ u.house.tMax ≤ thermLimit u 100) := by
  unfold mayRecover
  cases u.house.rMax with
  | none => simp
  | some d =>
    simp only [riseAtLeast, ge_iff_le, Bool.or_eq_true, Bool.and_eq_true, beq_iff_eq, decide_eq_true_iff, Bool.not_eq_true',
      decide_eq_false_iff_not, not_le, Option.some.injEq]
    constructor
    · rintro (⟨⟨therm, cool⟩, slow⟩ | ⟨⟨therm, cool⟩, slow⟩)
      · exact ⟨d, rfl, slow, .inl ⟨therm, cool⟩⟩
      · exact ⟨d, rfl, slow, .inr ⟨therm, cool⟩⟩
    · rintro ⟨_, rfl, slow, ⟨therm, cool⟩ | ⟨therm, cool⟩⟩
      · exact .inl ⟨⟨therm, cool⟩, slow⟩
      · exact .inr ⟨⟨therm, cool⟩, slow⟩

theorem thermalRecovery_holds (h : s.house.therm = .warn ∧ s.house.recovering < 1000 ∨ s.house.therm = .stop ∧ s.house.recovering < 10000 ∨
    s.house.therm = .normal) : thermalRecovery s = s := by
  unfold thermalRecovery
  rcases h with ⟨therm, short⟩ | ⟨therm, short⟩ | therm
  · exact if_pos (by rw [therm]; exact short)
  · exact if_pos (by rw [therm]; exact short)
  · rw [therm]
    exact ite_self s

theorem thermalRecovery_warn (long : 1000 ≤ s.house.recovering) (therm : s.house.therm = .warn) :
    thermalRecovery s = raiseTherm 328 0 s.house.hottest (thermTo .normal s) := by
  unfold thermalRecovery
  rw [therm]
  exact if_neg (by simpa using long)

theorem thermalRecovery_stop (long : 10000 ≤ s.house.recovering) (therm : s.house.therm = .stop) : thermalRecovery s =
    raiseTherm 329 0 s.house.hottest (thermalRestore (onHouse (fun h => { h with warns := bump h.warns }) (thermTo .warn s))) := by
  unfold thermalRecovery
  rw [therm]
  exact if_neg (by simpa using long)

/-! ### Rails -/

section

variable {r : Fin 16} {f : Rail → Rail}

/-- A rail with its fault judged. -/
def Rail.judged (x : Rail) : Rail := { x with cause := x.judge, faults := if x.cause = 0 ∧ x.judge ≠ 0 then bump x.faults else x.faults }

theorem onRail_congr {g : Rail → Rail} {k : Nat} (lt : k < 16) (h : f (s.rail k) = g (s.rail k)) : onRail k f s = onRail k g s := by
  have own : ∀ f : Rail → Rail, (updNat s.house.rails k f) = s.house.rails.set k (f (s.house.rails[k])) := fun f => dif_pos lt
  have at_ : s.rail k = s.house.rails[k] := getNat_fin ⟨k, lt⟩
  rw [at_] at h
  simp only [onRail, onHouse, own, h]

/-- A rail judged raises PMBUS_FAULT on entry to and exit from a fault alone. -/
theorem judgeRail_raises : judgeRail r s = raiseIf (((s.rail r).cause == 0) != ((s.rail r).judge == 0)) 323 objDevice
    (evtArg (b2n ((s.rail r).judge != 0)) r (if (s.rail r).judge = 0 then (s.rail r).cause else (s.rail r).judge) (s.rail r).status)
    (onRail r Rail.judged s) := by
  have own : onRail r (fun x => { x with
      cause := (s.rail r).judge, faults := if x.cause = 0 ∧ (s.rail r).judge ≠ 0 then bump x.faults else x.faults }) s =
      onRail r Rail.judged s := onRail_congr r.isLt rfl
  unfold judgeRail
  dsimp only
  rw [own]
  by_cases same : (s.rail r).cause = 0 ↔ (s.rail r).judge = 0
  · rw [if_pos same]
    have quiet : (((s.rail r).cause == 0) != ((s.rail r).judge == 0)) = false := by
      rw [bne_eq_false_iff_eq, Bool.eq_iff_iff, beq_iff_eq, beq_iff_eq]
      exact same
    rw [quiet]
    rfl
  · rw [if_neg same]
    have loud : (((s.rail r).cause == 0) != ((s.rail r).judge == 0)) = true := by
      rw [bne_iff_ne]
      intro eq
      rw [Bool.eq_iff_iff, beq_iff_eq, beq_iff_eq] at eq
      exact same eq
    rw [loud]
    rfl

/-- A rail with a read taken in. -/
def Rail.polled (rd : PmRead) (x : Rail) : Rail :=
  match rd with
  | .values mv ma => { x with vout := mv.toNat, iout := ma.toNat, nackRun := 0, pecRun := 0 }
  | .status w => { x with status := w.toNat, nackRun := 0, pecRun := 0 }
  | .noAck => { x with nackRun := x.nackRun + 1, nacks := bump x.nacks }
  | .badPec => { x with pecRun := x.pecRun + 1, pecs := bump x.pecs, nackRun := 0 }

theorem pmbusPoll_unused {rd : PmRead} (h : (s.rail r).configured = false) : pmbusPoll r rd s = s := if_neg (by rw [h]; decide)

theorem pmbusPoll_reads {rd : PmRead} (h : (s.rail r).configured = true) : pmbusPoll r rd s = judgeRail r (onRail r (Rail.polled rd) s) :=
  if_pos h

theorem polled_cause {rd : PmRead} {x : Rail} : (x.polled rd).cause = x.cause ∧ (x.polled rd).voutBad = x.voutBad := by
  cases rd <;> exact ⟨rfl, rfl⟩

end

/-! ### PMBUS.RAIL.SET and GPIO -/

/-- The rail asked for in adaptive mode. -/
def railAdaptive (q : Request) : Bool := u8 q 6 = 1

/-- The rail set, and its body kept. -/
def railSet (q : Request) (s : State) : State :=
  onRail (u8 q 4) (fun x => { x with
      configured := true, addr := u8 q 5, adaptive := railAdaptive q, mv := u16 q 8, setMv := u16 q 8, offset := 0, aboveRun := 0 })
    (keepBody 0x0F20 q { s with par := { s.par with bodies :=
      { op := 0x0F20, obj := railKey (u8 q 4), body := q.body, bulk := [] } ::
        (s.par.bodies.filter fun b => !(b.op == 0x0F20 && (b.obj == railKey (u8 q 4) || b.obj == 0))) } })

theorem pmbusRailSet_eq : pmbusRailSet q s =
    if 15 < u8 q 4 then (s, badParam 4) else if 127 < u8 q 5 then (s, badParam 5)
    else if 1 < u8 q 6 ∨ (u8 q 6 = 1 ∧ u8 q 4 ≠ 0 ∧ u8 q 4 ≠ 6) then (s, badParam 6)
    else if (s.rail (u8 q 4)).configured ∧ railInUse (u8 q 4) s ∧ (s.rail (u8 q 4)).adaptive ≠ railAdaptive q then (s, refuse stBadState)
    else (railSet q s, ok) := rfl

theorem railSet_same (h : u8 q 4 < 16) : (railSet q s).rail (u8 q 4) = { s.rail (u8 q 4) with
    configured := true, addr := u8 q 5, adaptive := railAdaptive q, mv := u16 q 8, setMv := u16 q 8, offset := 0, aboveRun := 0 } :=
  getNat_updNat_same h

theorem railSet_other (h : n ≠ u8 q 4) : (railSet q s).rail n = s.rail n := getNat_updNat_other h

/-- The body in force of GPIO.SET: it names every pin set so far, with its direction and level. -/
def gpioBody (q : Request) (s : State) : Request :=
  let dir := pickBits 24 (u32 q 4) (u32 q 8) s.house.gpioDir
  let out := pickBits 24 (u32 q 4) (u32 q 12) s.house.gpioOut
  let old := match bodyOf s 0x0F30 objDevice with
    | some b => natAt b.body 4 4
    | none => 0
  { q with body := leBytes 4 objDevice ++ leBytes 4 (Nat.lor old (u32 q 4)) ++ leBytes 4 dir ++ leBytes 4 out }

/-- Pins set, with the request whose body is kept. -/
def pinsSet (q : Request) (dir out : Nat) (s : State) : State :=
  onHouse (fun h => { h with gpioDir := dir, gpioOut := out }) (keepBody 0x0F30 q s)

theorem pinsSet_keeps {dir out : Nat} : { pinsSet q dir out s with house := s.house, par := s.par } = s ∧
    (pinsSet q dir out s).house.gpioDir = dir ∧ (pinsSet q dir out s).house.gpioOut = out ∧
    { (pinsSet q dir out s).house with gpioDir := s.house.gpioDir, gpioOut := s.house.gpioOut } = s.house := ⟨rfl, rfl, rfl, rfl⟩

/-- The pins set as a request asks. -/
def gpioTaken (q : Request) (s : State) : State :=
  pinsSet (gpioBody q s) (pickBits 24 (u32 q 4) (u32 q 8) s.house.gpioDir) (pickBits 24 (u32 q 4) (u32 q 12) s.house.gpioOut) s

theorem gpioSet_eq : gpioSet q s = if 2 ^ 24 ≤ u32 q 4 then (s, badParam 4)
    else if s.mate.role ≠ 0 ∧ (bit (u32 q 4) 22 ∨ bit (u32 q 4) 23) then (s, badParam 4) else (gpioTaken q s, ok) := rfl

/-- A sensor whose reading is stuck while a neighbour moves. -/
theorem sensorStuck_faults {n : Fin 32} (healthy : (s.house.sensor n).healthy = true) (long : 10000 ≤ (s.house.sensor n).same)
    (moved : (s.house.sensor n).nearMoved = true) : sensorStuck n s = sensorFault n 3 s :=
  if_pos (by simp [healthy, long, moved])

theorem sensorStuck_waits {n : Fin 32} (h : (s.house.sensor n).healthy = false ∨ (s.house.sensor n).same < 10000 ∨
    (s.house.sensor n).nearMoved = false) : sensorStuck n s = s := by
  refine if_neg ?_
  rcases h with h | h | h <;> simp [h]

theorem raiseIf_house {b : Bool} {k ob : Nat} {a : EvtArg} : (raiseIf b k ob a s).house = s.house := rfl

/-- The values that a poll leaves in a rail. -/
theorem polled_keeps {rd : PmRead} {x : Rail} : match rd with
    | .values mv ma => (x.polled rd).vout = mv.toNat ∧ (x.polled rd).iout = ma.toNat ∧ (x.polled rd).status = x.status ∧
        (x.polled rd).nackRun = 0 ∧ (x.polled rd).pecRun = 0 ∧ (x.polled rd).nacks = x.nacks ∧ (x.polled rd).pecs = x.pecs
    | .status w => (x.polled rd).status = w.toNat ∧ (x.polled rd).vout = x.vout ∧ (x.polled rd).iout = x.iout ∧
        (x.polled rd).nackRun = 0 ∧ (x.polled rd).pecRun = 0 ∧ (x.polled rd).nacks = x.nacks ∧ (x.polled rd).pecs = x.pecs
    | .noAck => (x.polled rd).status = x.status ∧ (x.polled rd).vout = x.vout ∧ (x.polled rd).nackRun = x.nackRun + 1 ∧
        (x.polled rd).nacks = bump x.nacks
    | .badPec => (x.polled rd).status = x.status ∧ (x.polled rd).vout = x.vout ∧ (x.polled rd).pecRun = x.pecRun + 1 ∧
        (x.polled rd).pecs = bump x.pecs ∧ (x.polled rd).nackRun = 0 := by
  cases rd with
  | values mv ma => exact ⟨rfl, rfl, rfl, rfl, rfl, rfl, rfl⟩
  | status w => exact ⟨rfl, rfl, rfl, rfl, rfl, rfl, rfl⟩
  | noAck => exact ⟨rfl, rfl, rfl, rfl⟩
  | badPec => exact ⟨rfl, rfl, rfl, rfl, rfl⟩

section

variable {r : Fin 16} {rd : PmRead}

/-- The rail polled and judged, before the event. -/
def railPolled (r : Fin 16) (rd : PmRead) (s : State) : State := onRail r Rail.judged (onRail r (Rail.polled rd) s)

theorem railPolled_same : (railPolled r rd s).rail r = ((s.rail r).polled rd).judged := by
  rw [railPolled, onRail_same r.isLt, onRail_same r.isLt]

theorem railPolled_other {j : Nat} (h : j ≠ r) : (railPolled r rd s).rail j = s.rail j := by
  rw [railPolled, onRail_other h, onRail_other h]

theorem pmbusPoll_raises (h : (s.rail r).configured = true) : pmbusPoll r rd s =
    raiseIf (((s.rail r).cause == 0) != (((s.rail r).polled rd).judge == 0)) 323 objDevice
      (evtArg (b2n (((s.rail r).polled rd).judge != 0)) r
        (if ((s.rail r).polled rd).judge = 0 then (s.rail r).cause else ((s.rail r).polled rd).judge) ((s.rail r).polled rd).status)
      (railPolled r rd s) := by
  rw [pmbusPoll_reads h, judgeRail_raises, onRail_same r.isLt, polled_cause.1]
  rfl

end

/-- Settles O35: the readings by what each sensor keeps through the checks, the table of R421 by its branches, and the rails and pins by
the answers of their commands. -/
theorem thermalAndRails : Obligations.ThermalAndRails := by
  unfold Obligations.ThermalAndRails
  refine ⟨fun rs s => ⟨fun dark => ?_, fun high deep off => ?_⟩, fun u => ?_, fun s => ⟨fun h => ?_, fun long therm => ?_, fun long therm => ?_⟩,
    fun n s => ⟨fun h => ?_, fun healthy long moved => ?_⟩, fun r rd s => ⟨fun h => ?_, fun h => ?_⟩, fun q s run => ?_, fun q s run => ?_,
    fun q pins s run single => ?_⟩
  · exact congrArg Host.Outcome.next (sensorReading_dark dark)
  · have keeps := readingsJudged_keeps (rs := rs) (s := s)
    simp only [readView, Prod.mk.injEq] at keeps
    obtain ⟨therm, pwr, readings⟩ := keeps
    exact ⟨readingsJudged rs s, congrArg Host.Outcome.next (sensorReading_live high deep off), therm, pwr, readings, readingsJudged_reads⟩
  · refine ⟨fun n shut => thermStep_shut shut, thermStep_again, fun none_ again stop => ?_, fun none_ again stop warn => ?_, mayRecover_iff,
      fun none_ again stop warn => ?_⟩
    · exact (thermStep_table none_ again).trans (if_pos stop)
    · exact (thermStep_table none_ again).trans ((if_neg stop).trans (if_pos warn))
    · have rests := (thermStep_table none_ again).trans ((if_neg stop).trans (if_neg warn))
      rw [rests]
      exact ⟨rfl, rfl, rfl⟩
  · exact congrArg Host.Outcome.next (thermalRecovery_holds h)
  · exact congrArg Host.Outcome.next (thermalRecovery_warn long therm)
  · exact congrArg Host.Outcome.next (thermalRecovery_stop long therm)
  · exact congrArg Host.Outcome.next (sensorStuck_waits h)
  · refine ⟨sensorFault n 3 s, congrArg Host.Outcome.next (sensorStuck_faults healthy long moved), ?_, rfl, fun m other => onSensor_other other⟩
    exact congrArg Sensor.healthy (onSensor_same (f := fun x => { x with healthy := false }) n.isLt)
  · exact congrArg Host.Outcome.next (pmbusPoll_unused h)
  · have own : (pmbusPoll r rd s).rail r = ((s.rail r).polled rd).judged := by
      rw [pmbusPoll_raises h, State.rail, raiseIf_house]
      exact railPolled_same
    have cause : ((s.rail r).polled rd).judged.cause = ((s.rail r).polled rd).judge := rfl
    refine ⟨pmbusPoll r rd s, rfl, fun j other => ?_, ?_⟩
    · rw [pmbusPoll_raises h, State.rail, raiseIf_house]
      exact railPolled_other other
    · dsimp only
      rw [own]
      refine ⟨polled_keeps, ?_, ?_⟩
      · rw [cause, Rail.judge, polled_cause.2]
        rfl
      · rw [cause, pmbusPoll_raises h]
        rfl
  · dsimp only
    refine ⟨fun far => ?_, fun near addr mode => ?_, fun near addr low mode => ⟨fun held => ?_, fun free => ?_⟩⟩
    · exact deskRun_badParam run (pmbusRailSet_eq.trans (if_pos far))
    · refine deskRun_badParam run (pmbusRailSet_eq.trans ?_)
      rw [if_neg (by omega), if_neg (by omega), if_pos mode]
    · refine congrArg Host.Outcome.next (deskRun_done run (pmbusRailSet_eq.trans ?_))
      rw [if_neg (by omega), if_neg (by omega), if_neg (by omega)]
      exact if_pos held
    · refine ⟨railSet q s, congrArg Host.Outcome.next (deskRun_done run (pmbusRailSet_eq.trans ?_)), rfl, ?_⟩
      · rw [if_neg (by omega), if_neg (by omega), if_neg (by omega)]
        exact if_neg free
      · rw [railSet_same (by omega)]
        exact ⟨rfl, rfl, rfl, rfl, fun j other => railSet_other other⟩
  · dsimp only
    refine ⟨fun bad => ?_, fun free => ⟨gpioTaken q s, ?_, pinsSet_keeps⟩⟩
    · refine deskRun_badParam run (gpioSet_eq.trans ?_)
      by_cases large : 2 ^ 24 ≤ u32 q 4
      · exact if_pos large
      · exact (if_neg large).trans (if_pos (bad.resolve_left large))
    · refine congrArg Host.Outcome.next (deskRun_done run (gpioSet_eq.trans ?_))
      exact (if_neg fun large => free (.inl large)).trans (if_neg fun pair => free (.inr pair))
  · refine congrArg Host.Outcome.next (deskRun_done run ?_)
    have drive : gpioDrive s = (s.house.gpioDir, s.house.gpioOut) := if_pos single
    unfold gpioGet
    rw [drive]
    rfl

end Sys2Proof.Machine
end

section
/-! Firmware load, programming, activation, commit and trial (18_boot_security.md R442 to R445; 13_curator_desk.md R326, R327;
14_command_reference.md R362). -/

namespace Sys2Proof.Machine

variable {q : Request} {s t : State}

/-! ### FW.LOAD -/

section

variable {total : Nat}

/-- The end of a load (R442, R444): programming begins, or the load fails. -/
def loadEnded (total : Nat) (x : State) : State × List Byte :=
  let r := loadResult total x.boot.staged x.boot
  (if r = 0 then { x with boot := { x.boot with staging := none, programming := true, flash := flashSetImg x.boot.flash (!x.dev.imageB) [0] } }
    else if r = 2 then raise 354 objDevice (evtArg 0 0 x.boot.counter (svnOf x.boot.staged))
      (freeStaging { x with boot := { x.boot with loadFails := bump x.boot.loadFails } })
    else raise 353 objDevice (evtArg 0 r 0 0) (freeStaging { x with boot := { x.boot with loadFails := bump x.boot.loadFails } }), leBytes 1 r)

theorem fwLast_eq {x : State} : fwLast total x = ((loadEnded total x).1, ok (loadEnded total x).2) := by
  unfold fwLast loadEnded
  dsimp only
  by_cases good : loadResult total x.boot.staged x.boot = 0
  · rw [if_pos good, if_pos good, good]
    rfl
  · rw [if_neg good, if_neg good]
    split <;> rfl

end

/-- A chunk of a load, appended. -/
def chunkAdded (q : Request) (s : State) : State := { s with boot := { s.boot with staged := s.boot.staged ++ q.bulk } }

/-- A chunk taken, the last one with the end of the load. -/
def chunkTaken (q : Request) (x : State) : State × List Byte :=
  if bit (u8 q 12) 1 then loadEnded (u32 q 8) x else (x, leBytes 1 0)

/-- What FW.LOAD answers with a chunk that it takes. -/
def chunkReply (q : Request) (s : State) : State × Reply :=
  if bit (u8 q 12) 1 then fwLast (u32 q 8) (chunkAdded q s) else (chunkAdded q s, ok (leBytes 1 0))

theorem chunkReply_eq : chunkReply q s = ((chunkTaken q (chunkAdded q s)).1, ok (chunkTaken q (chunkAdded q s)).2) := by
  unfold chunkReply chunkTaken
  split
  · exact fwLast_eq
  · rfl

/-- The staging area, freed for a first chunk: an earlier load or programming is abandoned (log 80). -/
def loadCleared (s : State) : State :=
  freeStaging (if s.boot.staging.isSome ∨ s.boot.programming = true
    then { s with boot := { s.boot with flash := flashSetImg s.boot.flash (!s.dev.imageB) [0] } } else s)

/-- A load begun in two pages. -/
def loadBegun (q : Request) (pages : List Nat) (s : State) : State :=
  { s with stk := { s.stk with staging := pages }, boot := { s.boot with staging := some (q.ch, u32 q 8), loads := bump s.boot.loads } }

theorem fwLoad_first (first : bit (u8 q 12) 0 = true) : fwLoad q s =
    if !s.stk.initialised ∨ (stagingPages (loadCleared s).stk).length < 2 ∨ u32 q 4 ≠ 0 then (s, refuse stBadState)
    else chunkReply q (loadBegun q (stagingPages (loadCleared s).stk) (loadCleared s)) := by
  unfold fwLoad
  exact if_pos first

theorem fwLoad_next (next : bit (u8 q 12) 0 = false) : fwLoad q s = match s.boot.staging with
    | none => (s, refuse stBadState)
    | some x => if x ≠ (q.ch, u32 q 8) ∨ u32 q 4 ≠ s.boot.staged.length then (s, refuse stBadState) else chunkReply q s := by
  unfold fwLoad
  exact if_neg (by rw [next]; decide)

theorem fwLoad_breaks (next : bit (u8 q 12) 0 = false)
    (bad : s.boot.staging ≠ some (q.ch, u32 q 8) ∨ u32 q 4 ≠ s.boot.staged.length) : fwLoad q s = (s, refuse stBadState) := by
  rw [fwLoad_next next]
  split
  · rfl
  · next x found =>
    refine if_pos (bad.imp_left fun other eq => other ?_)
    rw [found, eq]

theorem fwLoad_continues (next : bit (u8 q 12) 0 = false) (load : s.boot.staging = some (q.ch, u32 q 8))
    (at_ : u32 q 4 = s.boot.staged.length) : fwLoad q s = chunkReply q s := by
  rw [fwLoad_next next, load]
  exact if_neg (by simp [at_])

/-! ### Programming -/

section

variable {bad : List (Nat × Byte)}

/-- The inactive image as it reads back, with the staging area freed. -/
def programmed (bad : List (Nat × Byte)) (s : State) : State :=
  freeStaging { s with boot := { s.boot with flash := flashSetImg s.boot.flash (!s.dev.imageB) (readBack s.boot.staged bad) } }

theorem programmingDone_waits (h : s.boot.programming = false ∨ s.pwr.st ≠ .run ∧ s.pwr.st ≠ .idle) : programmingDone bad s = s := by
  refine if_neg ?_
  rcases h with h | ⟨run, idle⟩
  · simp [h]
  · simp [run, idle]

theorem programmingDone_ends (on : s.boot.programming = true) (up : s.pwr.st = .run ∨ s.pwr.st = .idle) : programmingDone bad s =
    if imageValid s.boot.counter s.boot.revoked (readBack s.boot.staged bad) then programmed bad s
    else raise 353 objDevice (evtArg 0 4 0 0) (onBoot (fun b => { b with loadFails := bump b.loadFails }) (programmed bad s)) :=
  if_pos ⟨on, up⟩

end

/-! ### Activation -/

theorem complete_activating {ch : Fin 4} {tag : Word16} {r : Resp} : (complete ch tag r s).desk.activating = s.desk.activating := by
  unfold complete
  split <;> rfl

/-- A trial selector is written, and no more requests are accepted (R326, R445). -/
def activation (s : State) : State :=
  { s with
    desk := { s.desk with activating := true }
    boot := { s.boot with flash := writeSel s.boot.flash (!s.dev.imageB) true, activations := bump s.boot.activations } }

theorem fwActivate_refused (h : inactiveState s ≠ 3) : fwActivate q s = (s, refuse stBadState) := if_pos h

theorem fwActivate_begins (h : inactiveState s = 3) : fwActivate q s = (activation s, .later) := if_neg (not_not.2 h)

theorem activateProgress_switches (on : s.desk.activating = true) (up : s.desk.restarting = false) (idle : deskBusy s = false) :
    activateProgress s = switchImage s := by
  unfold activateProgress
  rw [if_pos (by simp [on, up]), if_neg (by rw [idle]; decide)]

/-! ### Commit -/

/-- A bit of a word after a mask of revoke bits is set but for a signer's. -/
theorem revoked_bit {old mask signer k : Nat} (h : k < 4) :
    bit (Nat.lor old ((Nat.xor (Nat.lor mask (2 ^ signer)) (2 ^ signer)) % 16)) k = (bit old k || (bit mask k && decide (signer ≠ k))) := by
  have low : (Nat.xor (Nat.lor mask (2 ^ signer)) (2 ^ signer)) % 16 = (Nat.xor (Nat.lor mask (2 ^ signer)) (2 ^ signer)) % 2 ^ 4 := rfl
  rw [low]
  show (old ||| ((mask ||| 2 ^ signer) ^^^ 2 ^ signer) % 2 ^ 4).testBit k = _
  rw [Nat.testBit_lor, Nat.testBit_mod_two_pow, Nat.testBit_xor, Nat.testBit_lor, Nat.testBit_two_pow]
  by_cases own : signer = k
  · simp [bit, own]
  · simp [bit, own, h]

theorem signerOf_keeps {revoked : Nat} {img : List Byte} {k : Nat} (h : k < 4) :
    decide ((signerOf revoked img).getD 4 ≠ k) = (signerOf revoked img != some k) := by
  cases signerOf revoked img with
  | none =>
    have out : (4 : Nat) ≠ k := by omega
    simp [out]
  | some j =>
    rw [Option.getD_some, Bool.eq_iff_iff, decide_eq_true_iff, bne_iff_ne, ne_eq, ne_eq, Option.some.injEq]

theorem fwCommit_refused (h : s.boot.trial = true ∨ min (svnOf (runningImage s)) 128 ≤ s.boot.counter) :
    fwCommit q s = (s, refuse stBadState) := if_pos h

/-- The counter raised to the SVN, and the revoke bits of the image set but for its signer's. -/
def committed (s : State) : State :=
  onBoot (fun b => { b with
    counter := min (svnOf (runningImage s)) 128
    revoked := Nat.lor b.revoked ((Nat.xor (Nat.lor (revokeOf (runningImage s)) (2 ^ ((signerOf s.boot.revoked (runningImage s)).getD 4)))
      (2 ^ ((signerOf s.boot.revoked (runningImage s)).getD 4))) % 16)
    commits := bump b.commits }) s

theorem fwCommit_commits (trial : s.boot.trial = false) (low : s.boot.counter < min (svnOf (runningImage s)) 128) :
    fwCommit q s = (committed s, ok (leBytes 4 (min (svnOf (runningImage s)) 128))) := by
  refine if_neg fun bad => ?_
  rcases bad with on | high
  · rw [trial] at on
    cases on
  · exact Nat.not_le_of_lt low high

theorem committed_revoked {k : Nat} (h : k < 4) : bit (committed s).boot.revoked k =
    (bit s.boot.revoked k || (bit (revokeOf (runningImage s)) k && signerOf s.boot.revoked (runningImage s) != some k)) := by
  rw [← signerOf_keeps h]
  exact revoked_bit h

/-! ### Trial -/

theorem trialEnd_waits (h : ¬(s.boot.trial = true ∧ s.desk.ready = true ∧ s.boot.trialSince + 60 * 625000000 ≤ s.dev.ticks)) :
    trialEnd s = s := if_neg h

theorem trialEnd_ends (trial : s.boot.trial = true) (ready : s.desk.ready = true)
    (long : s.boot.trialSince + 60 * 625000000 ≤ s.dev.ticks) :
    trialEnd s = { s with boot := { s.boot with trial := false, flash := writeSel s.boot.flash s.dev.imageB false } } :=
  if_pos ⟨trial, ready, long⟩

/-- A restart by the watchdog changes the Desk, which is in restart and not ready, and the event tree. -/
theorem watchdogRestart_frame : ∃ d e, watchdogRestart s = { s with desk := d, evt := e } ∧ d.restarting = true ∧ d.ready = false := by
  obtain ⟨a, eq⟩ := watchdogRestart_eq s
  have only : { failAll stRestarted s with desk := s.desk } = s := failAll_deskOnly
  refine ⟨(watchdogRestart s).desk, (watchdogRestart s).evt, ?_, ?_, ?_⟩
  · rw [eq]
    generalize failAll stRestarted s = u at only
    rw [← only]
    rfl
  · rw [eq]
    rfl
  · rw [eq]
    rfl

theorem trialBack_status : (trialBack s).evt.status.getLsbD 352 = true := raise_status rfl (by decide) (by decide)

/-- The previous image again (R445). -/
theorem trialBack_eq : ∃ e, trialBack s = { s with
    dev := { s.dev with imageB := !s.dev.imageB }, evt := e
    boot := { s.boot with
      trial := false, fw := fwOf (flashImg s.boot.flash !s.dev.imageB)
      flash := writeSel s.boot.flash (!s.dev.imageB) false, fallbacks := bump s.boot.fallbacks } } := ⟨_, rfl⟩

theorem execTrialFallback_waits (h : s.boot.trial = false ∨ s.desk.ready = true) : exec .trialFallback s = .next s := by
  refine congrArg Host.Outcome.next (if_neg fun both => ?_)
  obtain ⟨trial, late⟩ := both
  rcases h with h | h
  · rw [h] at trial
    cases trial
  · rw [h] at late
    cases late

theorem execTrialFallback_goes (trial : s.boot.trial = true) (late : s.desk.ready = false) :
    exec .trialFallback s = .next (trialBack (watchdogRestart s)) :=
  congrArg Host.Outcome.next (if_pos ⟨trial, by rw [late]; rfl⟩)

/-- Settles O36: the load by the answer to each of its chunks, the rest by the branches of their rows. That a first chunk over a load or
programming leaves the inactive image invalid is the model's choice (log 80). -/
theorem firmwareUpdate : Obligations.FirmwareUpdate := by
  unfold Obligations.FirmwareUpdate
  refine ⟨fun q s run => ?_, fun bad s => ?_, fun q s run idle => ⟨fun other => ?_, fun valid => ?_⟩, fun s on up idle => ?_, fun q s run => ?_,
    fun s => ⟨fun h => ?_, fun trial ready long => ?_, execTrialFallback_waits, fun trial late => ?_⟩⟩
  · have taken : ∀ u, fwLoad q s = chunkReply q u → exec (.fwLoad q) s =
        .next (complete q.ch q.tag { status := stOk, payload := (chunkTaken q (chunkAdded q u)).2 } (chunkTaken q (chunkAdded q u)).1) :=
      fun u h => congrArg Host.Outcome.next (deskRun_done run (h.trans chunkReply_eq))
    have refused : fwLoad q s = (s, refuse stBadState) → exec (.fwLoad q) s = .next (complete q.ch q.tag { status := stBadState } s) :=
      fun h => congrArg Host.Outcome.next (deskRun_done run h)
    refine ⟨fun first bad => refused ((fwLoad_first first).trans (if_pos ?_)), fun first up room at_ => ?_,
      fun next bad => refused (fwLoad_breaks next bad), fun next load at_ => taken s (fwLoad_continues next load at_)⟩
    · exact bad.imp_left fun off => by rw [off]; rfl
    · refine taken _ ((fwLoad_first first).trans (if_neg fun bad => ?_))
      rcases bad with off | few | far
      · rw [up] at off
        cases off
      · exact Nat.not_lt_of_le room few
      · exact far at_
  · refine ⟨fun h => congrArg Host.Outcome.next (programmingDone_waits h), fun on up valid => ?_, fun on up invalid => ?_⟩
    · exact congrArg Host.Outcome.next ((programmingDone_ends on up).trans (if_pos valid))
    · exact congrArg Host.Outcome.next ((programmingDone_ends on up).trans (if_neg (Bool.eq_false_iff.1 invalid)))
  · have refused : deskRun 0x1011 fwActivate q s = complete q.ch q.tag { status := stBadState } s := deskRun_done run (fwActivate_refused other)
    refine congrArg Host.Outcome.next (?_ : activateProgress (deskRun 0x1011 fwActivate q s) = _)
    rw [refused, activateProgress_idle (complete_activating.trans idle)]
  · have begins : deskRun 0x1011 fwActivate q s = setPhase q.ch q.tag .started (activation s) := deskRun_later run (fwActivate_begins valid)
    exact congrArg (fun u => Host.Outcome.next (activateProgress u)) begins
  · exact activateProgress_switches on up idle
  · refine ⟨fun h => congrArg Host.Outcome.next (deskRun_done run (fwCommit_refused h)), fun trial low =>
      ⟨committed s, congrArg Host.Outcome.next (deskRun_done run (fwCommit_commits trial low)), rfl, rfl, rfl, rfl, fun k lt => committed_revoked lt⟩⟩
  · exact congrArg Host.Outcome.next (trialEnd_waits h)
  · exact congrArg Host.Outcome.next (trialEnd_ends trial ready long)
  · obtain ⟨d, e, restart, restarting, late'⟩ := watchdogRestart_frame (s := s)
    obtain ⟨e', back⟩ := trialBack_eq (s := watchdogRestart s)
    have raised := trialBack_status (s := watchdogRestart s)
    refine ⟨_, execTrialFallback_goes trial late, ?_⟩
    rw [back, restart] at raised ⊢
    exact ⟨rfl, rfl, rfl, rfl, rfl, raised, restarting, late', rfl⟩

end Sys2Proof.Machine
end

section
/-! Identity, the Charter in force and the Catalogue: what the security commands return, the removal of Calibration records, and the
writes and erases of the slots (18_boot_security.md R435, R440, R441, R447 to R450; 14_command_reference.md R362). -/

namespace Sys2Proof.Machine

variable {q : Request} {s : State}

/-! ### Keyed lists -/

section

variable {β : Type} {d v : β} {k j : Nat}

theorem lookupD_putKey_other (l : List (Nat × β)) (h : k ≠ j) : lookupD d k (putKey j v l) = lookupD d k l := by
  induction l with
  | nil => simp [putKey, lookupD, Ne.symm h]
  | cons y r ih =>
    unfold putKey
    split
    · simp [lookupD, Ne.symm h]
    · split
      · next same => simp [lookupD, same, Ne.symm h]
      · simp only [lookupD, ih]

/-- The keys of a list, put in with one value. -/
def putKeys (v : β) (ks : List Nat) (l : List (Nat × β)) : List (Nat × β) := ks.foldl (fun l k => putKey k v l) l

theorem lookupD_putKeys_other {ks : List Nat} (l : List (Nat × β)) (h : k ∉ ks) : lookupD d k (putKeys v ks l) = lookupD d k l := by
  induction ks generalizing l with
  | nil => rfl
  | cons j ks ih =>
    rw [List.mem_cons, not_or] at h
    exact (ih _ h.2).trans (lookupD_putKey_other l h.1)

theorem lookupD_putKeys {ks : List Nat} (l : List (Nat × β)) (h : k ∈ ks) : lookupD d k (putKeys v ks l) = v := by
  induction ks generalizing l with
  | nil => cases h
  | cons j ks ih =>
    by_cases later : k ∈ ks
    · exact ih _ later
    · have first : k = j := (List.mem_cons.1 h).resolve_right later
      subst first
      exact (lookupD_putKeys_other _ later).trans (lookupD_putKey l)

end

/-! ### Converters at their default -/

section

variable {c e : Fin 2} {k j : Fin 8} {f : Conv → Conv} {l : List Nat}

theorem onConv_conv : (onConv c k f s).conv e j = if c = e ∧ k = j then f (s.conv e j) else s.conv e j := by
  show ((upd s.cars c fun x => { x with convs := upd x.convs k f })[e]).convs[j] = _
  rw [upd_get]
  by_cases h : c = e
  · rw [if_pos h]
    dsimp only
    rw [upd_get]
    by_cases g : k = j
    · rw [if_pos g, if_pos ⟨h, g⟩]
      rfl
    · rw [if_neg g, if_neg fun both => g both.2]
      rfl
  · rw [if_neg h, if_neg fun both => h both.1]
    rfl

theorem onConv_car (x : Vector Conv 8) : { (onConv c k f s).car e with convs := x } = { s.car e with convs := x } := by
  show { (upd s.cars c fun x => { x with convs := upd x.convs k f })[e] with convs := x } = _
  rw [upd_get]
  split <;> rfl

theorem place_iff : ∀ i : Fin 16, ∀ e : Fin 2, ∀ j : Fin 8, (carrierOf (i.val / 8) = e ∧ convOf i.val = j) ↔ i.val = 8 * e.val + j.val := by
  decide

theorem default_default {x : Conv} : x.default.default = x.default := rfl

theorem convDefaults_conv : (convDefaults l s).conv e j = if 8 * e.val + j.val ∈ l then (s.conv e j).default else s.conv e j := by
  induction l generalizing s with
  | nil => rfl
  | cons i l ih =>
    have step : (if i < 16 then onConv (carrierOf (i / 8)) (convOf i) Conv.default s else s).conv e j =
        if i = 8 * e.val + j.val then (s.conv e j).default else s.conv e j := by
      by_cases near : i < 16
      · rw [if_pos near, onConv_conv]
        simp only [place_iff ⟨i, near⟩ e j]
      · rw [if_neg near, if_neg (by omega)]
    refine (ih (s := if i < 16 then onConv (carrierOf (i / 8)) (convOf i) Conv.default s else s)).trans ?_
    rw [step]
    by_cases own : i = 8 * e.val + j.val
    · rw [if_pos own, own, default_default, ite_self, if_pos List.mem_cons_self]
    · have ne : 8 * e.val + j.val ≠ i := fun h => own h.symm
      simp only [if_neg own, List.mem_cons, ne, false_or]

theorem convDefaults_besides {v : Vector Carrier 2} : { convDefaults l s with cars := v } = { s with cars := v } := by
  induction l generalizing s with
  | nil => rfl
  | cons i l ih =>
    refine (ih (s := if i < 16 then onConv (carrierOf (i / 8)) (convOf i) Conv.default s else s)).trans ?_
    split <;> rfl

theorem convDefaults_frame : { convDefaults l s with cars := s.cars } = s := convDefaults_besides

theorem convDefaults_car (x : Vector Conv 8) : { (convDefaults l s).car e with convs := x } = { s.car e with convs := x } := by
  induction l generalizing s with
  | nil => rfl
  | cons i l ih =>
    refine (ih (s := if i < 16 then onConv (carrierOf (i / 8)) (convOf i) Conv.default s else s)).trans ?_
    split
    · exact onConv_car x
    · rfl

end

/-! ### CATALOGUE.RESET -/

theorem catKey_parts (k : Nat) : catKey (k / 65536) (k % 65536) = k := by
  unfold catKey
  omega

/-- Records whose removal becomes pending. -/
def recordsGone (ks : List Nat) (s : State) : State :=
  { s with cat := { s.cat with pending := putKeys [] ks s.cat.pending } }

theorem recordsGone_cars {ks : List Nat} : { recordsGone ks s with cars := s.cars } = recordsGone ks s := rfl

theorem recordsGone_pending {ks : List Nat} : (recordsGone ks s).cat.pending = putKeys [] ks s.cat.pending := rfl

theorem recordsGone_cat {ks : List Nat} : { (recordsGone ks s).cat with pending := s.cat.pending } = s.cat := rfl

theorem recordsGone_conv {ks : List Nat} {c : Fin 2} {k : Fin 8} : (recordsGone ks s).conv c k = s.conv c k := rfl

theorem recordsGone_besides {ks : List Nat} : { recordsGone ks s with cat := s.cat } = s := rfl

theorem recordsGone_eq {ks : List Nat} : ks.foldl (fun s k => catChange (k / 65536) (k % 65536) [] s) s = recordsGone ks s := by
  induction ks generalizing s with
  | nil => rfl
  | cons k ks ih =>
    rw [List.foldl_cons, ih]
    simp only [recordsGone, catChange, onCat, catKey_parts, putKeys, List.foldl_cons]

/-- The converters whose records are among some keys. -/
def convsOfKeys (ks : List Nat) : List Nat := ks.filterMap fun k => if k / 65536 = 1 then some (k % 65536) else none

/-- Every Calibration record, those that wait or are being written with them. -/
def calibrations (s : State) : List Nat :=
  ((s.cat.records ++ s.cat.writing.getD [] ++ s.cat.pending).map (·.1)).eraseDups.filter fun k => isCalibration (k / 65536)

theorem catReset_eq : catReset q s =
    if s.cars.toList.any (·.enabled) then (s, refuse stBadState)
    else if u16 q 4 = 0xFFFF then
      (convDefaults (List.range 16) (convDefaults (convsOfKeys (calibrations s)) (recordsGone (calibrations s) s)), ok)
    else match (slotList s)[u16 q 4]? with
      | none => (s, badParam 4)
      | some x => if isCalibration (x.1 / 65536) then (convDefaults (convsOfKeys [x.1]) (recordsGone [x.1] s), ok) else (s, badParam 4) := by
  unfold catReset
  simp only [recordsGone_eq]
  rfl

theorem mem_calibrations {k : Nat} : k ∈ calibrations s ↔
    (∃ x ∈ s.cat.records ++ s.cat.writing.getD [] ++ s.cat.pending, x.1 = k) ∧ isCalibration (k / 65536) = true := by
  rw [calibrations, List.mem_filter, List.mem_eraseDups, List.mem_map]

theorem anyEnabled_iff : s.cars.toList.any (·.enabled) = true ↔ ∃ c : Fin 2, (s.car c).enabled = true := by
  rw [List.any_eq_true]
  constructor
  · rintro ⟨x, mem, on⟩
    obtain ⟨i, lt, at_⟩ := List.mem_iff_getElem.1 mem
    have len : s.cars.toList.length = 2 := s.cars.length_toList
    refine ⟨⟨i, len ▸ lt⟩, ?_⟩
    rw [← at_, Vector.getElem_toList] at on
    exact on
  · rintro ⟨c, on⟩
    exact ⟨s.cars[c], Vector.mem_toList_iff.2 (Vector.getElem_mem c.isLt), on⟩

theorem convsOfKeys_one {k i : Nat} : i ∈ convsOfKeys [k] ↔ k / 65536 = 1 ∧ k % 65536 = i := by
  unfold convsOfKeys
  by_cases h : k / 65536 = 1
  · simp [h, eq_comm]
  · simp [h]

/-- Every Calibration record removed, and every converter at its default. -/
def allReset (s : State) : State :=
  convDefaults (List.range 16) (convDefaults (convsOfKeys (calibrations s)) (recordsGone (calibrations s) s))

theorem allReset_frame : { allReset s with cars := s.cars } = recordsGone (calibrations s) s := by
  rw [allReset, convDefaults_besides, convDefaults_besides, recordsGone_cars]

theorem allReset_cat : (allReset s).cat = (recordsGone (calibrations s) s).cat := by
  rw [← allReset_frame]

theorem allReset_car (c : Fin 2) (x : Vector Conv 8) : { (allReset s).car c with convs := x } = { s.car c with convs := x } := by
  rw [allReset, convDefaults_car, convDefaults_car]
  rfl

theorem allReset_conv (c : Fin 2) (k : Fin 8) : (allReset s).conv c k = (s.conv c k).default := by
  have near : 8 * c.val + k.val ∈ List.range 16 := List.mem_range.2 (by omega)
  rw [allReset, convDefaults_conv, if_pos near, convDefaults_conv, recordsGone_conv]
  split
  · exact default_default
  · rfl

theorem allReset_keeps : { allReset s with cat := s.cat, cars := s.cars } = s ∧ { (allReset s).cat with pending := s.cat.pending } = s.cat ∧
    (∀ x ∈ s.cat.records ++ s.cat.writing.getD [] ++ s.cat.pending, isCalibration (x.1 / 65536) = true →
      lookupD [0] x.1 (allReset s).cat.pending = []) ∧
    (∀ k, (∀ x ∈ s.cat.records ++ s.cat.writing.getD [] ++ s.cat.pending, isCalibration (x.1 / 65536) = true → x.1 ≠ k) →
      lookupD [0] k (allReset s).cat.pending = lookupD [0] k s.cat.pending) ∧
    ∀ c, { (allReset s).car c with convs := (s.car c).convs } = s.car c ∧ ∀ k, (allReset s).conv c k = (s.conv c k).default := by
  have pending : (allReset s).cat.pending = putKeys [] (calibrations s) s.cat.pending := by rw [allReset_cat, recordsGone_pending]
  refine ⟨?_, ?_, fun x mem calibration => ?_, fun k other => ?_, fun c => ⟨allReset_car c _, allReset_conv c⟩⟩
  · have frame := congrArg (fun u : State => { u with cat := s.cat }) (allReset_frame (s := s))
    exact frame.trans recordsGone_besides
  · rw [allReset_cat, recordsGone_cat]
  · rw [pending]
    exact lookupD_putKeys _ (mem_calibrations.2 ⟨⟨x, mem, rfl⟩, calibration⟩)
  · rw [pending]
    refine lookupD_putKeys_other _ fun mem => ?_
    obtain ⟨⟨x, all, rfl⟩, calibration⟩ := mem_calibrations.1 mem
    exact other x all calibration rfl

/-! ### The slots -/

theorem flashCat_set {f : Flash} {t : Bool} {x y : List Byte} : flashCat (flashSetCat (flashSetCat f t x) (!t) y) t = x := by
  cases t <;> rfl

section

variable {bad : List (Nat × Byte)} {recs : List (Nat × List Byte)}

/-- What waits after a write that failed: the changes that it held, with those that came since. -/
def changesKept (recs : List (Nat × List Byte)) (s : State) : List (Nat × List Byte) :=
  let changed := recs.filter fun x => lookupD [] x.1 s.cat.records != x.2
  let gone := (s.cat.records.filter fun x => lookupD [] x.1 recs == []).map fun x => (x.1, ([] : List Byte))
  s.cat.pending.foldl (fun l x => putKey x.1 x.2 l) (changed ++ gone)

theorem catWriteStart_waits (h : (s.cat.pending = [] ∧ s.cat.mustWrite = false) ∨ s.cat.writing.isSome = true ∨ s.cat.erasing.isSome = true ∨
    stopHolds s = true ∨ s.desk.ready = false) : catWriteStart s = s := by
  refine if_pos ?_
  rcases h with ⟨none_, whole⟩ | h | h | h | h
  · exact .inl ⟨by rw [none_]; rfl, by rw [whole]; rfl⟩
  · exact .inr (.inl h)
  · exact .inr (.inr (.inl h))
  · exact .inr (.inr (.inr (.inl h)))
  · exact .inr (.inr (.inr (.inr (by rw [h]; rfl))))

theorem catWriteStart_starts (change : s.cat.pending ≠ [] ∨ s.cat.mustWrite = true) (writing : s.cat.writing = none)
    (erasing : s.cat.erasing = none) (stop : stopHolds s = false) (ready : s.desk.ready = true) : catWriteStart s = { s with
      cat := { s.cat with writing := some (nextRecords s), pending := [], mustWrite := false, retry := false }
      boot := { s.boot with flash := flashSetCat s.boot.flash (catTarget s.cat) partSlot } } := by
  refine if_neg fun h => ?_
  rcases h with ⟨none_, whole⟩ | h | h | h | h
  · rcases change with some_ | must
    · exact some_ (List.isEmpty_iff.1 none_)
    · rw [must] at whole
      cases whole
  · rw [writing] at h
    cases h
  · rw [erasing] at h
    cases h
  · rw [stop] at h
    cases h
  · rw [ready] at h
    cases h

theorem catWriteDone_waits (h : s.cat.writing = none ∨ s.cat.erasing.isSome = true) : catWriteDone bad s = s := by
  unfold catWriteDone
  split
  · rfl
  · next recs writing =>
    rcases h with none_ | erasing
    · rw [writing] at none_
      cases none_
    · exact if_pos erasing

section

variable (writing : s.cat.writing = some recs) (erasing : s.cat.erasing = none)
include writing erasing

theorem catWriteDone_writes (good : slotState (readBack (newSlot recs s) bad) = 1) :
    catWriteDone bad s = catWritten (readBack (newSlot recs s) bad) recs s := by
  unfold catWriteDone
  rw [writing]
  dsimp only
  rw [if_neg (by rw [erasing]; decide), if_pos good]

theorem catWriteDone_retries (worse : slotState (readBack (newSlot recs s) bad) ≠ 1) (first : s.cat.retry = false) :
    catWriteDone bad s = { s with cat := { s.cat with erasing := some (catTarget s.cat), retry := true } } := by
  unfold catWriteDone
  rw [writing]
  dsimp only
  rw [if_neg (by rw [erasing]; decide), if_neg worse]
  exact if_neg (by rw [first]; decide)

/-- A second bad read-back is reported, and the changes wait again. -/
theorem catWriteDone_fails (worse : slotState (readBack (newSlot recs s) bad) ≠ 1) (again : s.cat.retry = true) :
    catWriteDone bad s = raise 356 objDevice (evtArg 0 (b2n (catTarget s.cat)) 0 0) { s with cat := { s.cat with
      erasing := some (catTarget s.cat), writing := none, retry := false, writeFails := bump s.cat.writeFails
      mustWrite := s.cat.slot.isNone, pending := changesKept recs s } } := by
  unfold catWriteDone
  rw [writing]
  dsimp only
  rw [if_neg (by rw [erasing]; decide), if_neg worse]
  exact if_pos again

end

end

/-- Settles O37: the answers of the security commands as their rows give them, the removals by what a keyed list reads, and the writes by the
branches of their rows. The free random value of the signature is the model's choice (log 82). -/
theorem identityAndCatalogue : Obligations.IdentityAndCatalogue := by
  unfold Obligations.IdentityAndCatalogue
  refine ⟨fun q s => ⟨fun run => ?_, fun run => ?_, fun run => ?_, fun run => ⟨fun none_ => ?_, fun x found => ?_⟩, fun run => ⟨fun on => ?_,
    fun off => ?_⟩⟩, fun s => ⟨fun h => ?_, fun change writing erasing stop ready => ?_, fun bad h => ?_, fun bad recs writing erasing =>
      ⟨fun good => ?_, fun worse first => ?_, fun worse again => ?_⟩, fun none_ => ?_, fun b some_ => ?_⟩⟩
  · exact congrArg Host.Outcome.next (deskRun_done run rfl)
  · exact congrArg Host.Outcome.next (deskRun_done run rfl)
  · exact congrArg Host.Outcome.next (deskRun_done run rfl)
  · refine deskRun_badParam run ?_
    have at_ : (slotList s)[u16 q 4]? = none := none_
    rw [catRead, at_]
  · refine congrArg Host.Outcome.next (deskRun_done run ?_)
    have at_ : (slotList s)[u16 q 4]? = some x := found
    rw [catRead, at_]
    rfl
  · exact congrArg Host.Outcome.next (deskRun_done run (catReset_eq.trans (if_pos (anyEnabled_iff.2 on))))
  · have idle : ¬ s.cars.toList.any (·.enabled) = true := fun on => by
      obtain ⟨c, h⟩ := anyEnabled_iff.1 on
      rw [off c] at h
      cases h
    refine ⟨fun every => ?_, fun one x found calibration => ?_, fun one none_ => ?_⟩
    · exact ⟨_, congrArg Host.Outcome.next (deskRun_done run (catReset_eq.trans ((if_neg idle).trans (if_pos every)))), allReset_keeps⟩
    · have at_ : (slotList s)[u16 q 4]? = some x := found
      have reset : catReset q s = (convDefaults (convsOfKeys [x.1]) (recordsGone [x.1] s), ok) := by
        rw [catReset_eq, if_neg idle, if_neg one, at_]
        exact if_pos calibration
      refine ⟨_, congrArg Host.Outcome.next (deskRun_done run reset), convDefaults_frame, fun c => ⟨convDefaults_car _, fun k => ?_⟩⟩
      rw [convDefaults_conv]
      simp only [convsOfKeys_one]
      rfl
    · refine deskRun_badParam run (catReset_eq.trans ((if_neg idle).trans ((if_neg one).trans ?_)))
      split
      · rfl
      · next x found => exact if_neg (Bool.eq_false_iff.1 (none_ x found))
  · exact congrArg Host.Outcome.next (catWriteStart_waits h)
  · exact congrArg Host.Outcome.next (catWriteStart_starts change writing erasing stop ready)
  · exact congrArg Host.Outcome.next (catWriteDone_waits h)
  · exact ⟨catWritten (readBack (newSlot recs s) bad) recs s, congrArg Host.Outcome.next (catWriteDone_writes writing erasing good), rfl,
      flashCat_set, raise_status rfl (by decide) (by decide), rfl⟩
  · exact congrArg Host.Outcome.next (catWriteDone_retries writing erasing worse first)
  · exact ⟨_, congrArg Host.Outcome.next (catWriteDone_fails writing erasing worse again), rfl, rfl, rfl, rfl, rfl, rfl, raise_status rfl (by decide) (by decide), rfl⟩
  · refine congrArg Host.Outcome.next (?_ : catEraseDone s = s)
    rw [catEraseDone, none_]
  · refine congrArg Host.Outcome.next (?_ : catEraseDone s = _)
    rw [catEraseDone, some_]

end Sys2Proof.Machine
end

section
/-! The frequency references: the target, the DPLL, a second's measurement, the oscillator and their commands
(11_time_references.md R273 to R281; 14_command_reference.md R356, R357). -/

namespace Sys2Proof.Machine

variable {q : Request} {s t u : State} {k j : Fin 12} {ago : Nat} {fault : Bool} {offs l : List (Fin 12 × Int)} {x : Fin 12 × Int}

/-! ### The candidates -/

/-- The state with its candidates and events forgotten. -/
def candless (s t : State) : State := { t with time := { t.time with cands := s.time.cands }, evt := s.evt }

/-- The state with the time engine and the events forgotten. -/
def timeless (s t : State) : State := { t with time := s.time, evt := s.evt }

theorem timeless_frame (h : Same (timeless s) s t) : { t with time := s.time, evt := s.evt } = s := h

theorem onCand_same {f : Cand → Cand} : (onCand k f s).cand k = f (s.cand k) := by
  show (upd s.time.cands k f)[k] = _
  rw [upd_get, if_pos rfl]
  rfl

theorem onCand_other {f : Cand → Cand} (h : j ≠ k) : (onCand k f s).cand j = s.cand j := by
  show (upd s.time.cands k f)[j] = _
  rw [upd_get, if_neg (Ne.symm h)]
  rfl

theorem onCand_candless {f : Cand → Cand} : Same (candless s) t (onCand k f t) := rfl

theorem raise_candless {n ob : Nat} {a : EvtArg} : Same (candless s) t (raise n ob a t) := rfl

/-- What a candidate that loses qualification becomes (R276). -/
def Cand.disqualified (c : Cand) : Cand := if c.qualified then { c with qualified := false, lost := true } else c

theorem loseQual_same : (loseQual k s).cand k = (s.cand k).disqualified := by
  unfold loseQual Cand.disqualified
  split
  · exact onCand_same
  · rfl

theorem loseQual_other (h : j ≠ k) : (loseQual k s).cand j = s.cand j := by
  unfold loseQual
  split
  · exact onCand_other h
  · rfl

theorem loseQual_candless : Same (candless s) t (loseQual k t) :=
  .ite (fun _ => onCand_candless.trans raise_candless) fun _ => .refl

theorem disqualified_twice {c : Cand} : c.disqualified.disqualified = c.disqualified := by
  unfold Cand.disqualified
  cases h : c.qualified <;> simp [h]

/-- Several candidates lose qualification. -/
theorem losers_cand {ks : List (Fin 12)} :
    (ks.foldl (fun s k => loseQual k s) s).cand j = if j ∈ ks then (s.cand j).disqualified else s.cand j := by
  induction ks generalizing s with
  | nil => rfl
  | cons k r ih =>
    rw [List.foldl_cons, ih]
    by_cases e : j = k
    · subst e
      simp [loseQual_same, disqualified_twice]
    · simp [loseQual_other e, e]

theorem losers_candless {ks : List (Fin 12)} : Same (candless s) t (ks.foldl (fun s k => loseQual k s) t) :=
  .foldl (fun _ _ h => h.trans loseQual_candless) .refl

/-! ### The target -/

theorem chooseTarget_forced (f : s.time.force = some k) (a : (s.cand k).active = true) : chooseTarget s = some k := by
  simp [chooseTarget, f, a]

theorem chooseTarget_manual (f : s.time.force = none) (m : s.time.manual = some k) (e : (s.cand k).eligible = true) :
    chooseTarget s = some k := by
  simp [chooseTarget, f, m, e]

/-- The target without a forced, a manual or a mate's reference: the selected one while it may stay, or the table's (R277). -/
def autoTarget (s : State) : Option (Fin 12) :=
  if s.time.dpll = .locked ∧ !revertive s then
    match s.time.selected with
    | some k => if (s.cand k).eligible then some k else topEligible s
    | none => topEligible s
  else topEligible s

theorem chooseTarget_auto (f : s.time.force = none) (m : s.time.manual = none) (w : followsMate s = false) :
    chooseTarget s = autoTarget s := by
  simp only [chooseTarget, f, m, w, Bool.false_eq_true, if_false]
  rfl

theorem autoTarget_stays (d : s.time.dpll = .locked) (r : revertive s = false) (sel : s.time.selected = some k)
    (e : (s.cand k).eligible = true) : autoTarget s = some k := by
  unfold autoTarget
  rw [if_pos ⟨d, by rw [r]; rfl⟩, sel]
  exact if_pos e

theorem autoTarget_table (h : s.time.dpll ≠ .locked ∨ revertive s = true) : autoTarget s = topEligible s :=
  if_neg fun ⟨d, r⟩ => h.elim (fun n => n d) fun n => by rw [n] at r; exact Bool.noConfusion r

/-! ### The DPLL moves (R280) -/

/-- The state with the target that is chosen. -/
def aimed (s : State) : State := onTime (fun t => { t with target := chooseTarget s }) s

/-- The control value kept for holdover, when there is one (R281). -/
def holdValue (ago : Nat) (s : State) : Option Int :=
  if historyQualified s.time.history then holdoverSpan (s.time.history.drop (30 + ago)) else none

/-- The manual choice that stands: one that is no longer eligible is dropped (R278). -/
def manualKept (s : State) : Option (Fin 12) := match s.time.manual with
  | some k => if (s.cand k).eligible then some k else none
  | none => none

/-- The table of R280 for the target that is chosen. -/
def dpllMoved (ago : Nat) (s : State) : State := match chooseTarget s with
  | some k =>
    if s.time.selected = some k ∧ s.time.dpll ≠ .holdover ∧ s.time.dpll ≠ .freeRun then aimed s
    else raise 225 objTime (evtArg 0 k.val 0 0) (onTime (fun t => { t with
        dpll := .acquire, lockRun := false, selected := some k, buildOuts := t.buildOuts + 1, refSwitches := bump t.refSwitches }) (aimed s))
  | none =>
    if s.time.dpll = .holdover ∨ s.time.dpll = .freeRun then aimed s
    else match holdValue ago s with
      | some v => raise0 227 objTime (onTime (fun t => { t with
          dpll := .holdover, lockRun := false, selected := none, control := v, holdoverValue := v,
          holdoverEntries := bump t.holdoverEntries }) (aimed s))
      | none => raise0 228 objTime (onTime (fun t => { t with dpll := .freeRun, lockRun := false, selected := none, control := 0 })
          (aimed s))

theorem retarget_eq : retarget ago s = dpllMoved ago { s with time := { s.time with manual := manualKept s } } := rfl

theorem retarget_auto (m : s.time.manual = none) : retarget ago s = dpllMoved ago s := by
  have kept : manualKept s = s.time.manual := by
    unfold manualKept
    rw [m]
  rw [retarget_eq, kept]

theorem retarget_frame : { retarget ago s with time := s.time, evt := s.evt } = s :=
  timeless_frame (Same.retarget .refl)

/-- What every move of the DPLL leaves of the time engine. -/
theorem retarget_keeps : (retarget ago s).time.cands = s.time.cands ∧ (retarget ago s).time.history = s.time.history ∧
    (retarget ago s).time.loFault = s.time.loFault := by
  unfold retarget
  extract_lets s0 tg s1 y
  have kept : s1.time.cands = s.time.cands ∧ s1.time.history = s.time.history ∧ s1.time.loFault = s.time.loFault := ⟨rfl, rfl, rfl⟩
  clear_value y s1 tg
  split
  · split <;> exact kept
  · split
    · exact kept
    · split <;> exact kept

theorem retarget_cand : (retarget ago s).cand k = s.cand k := by
  unfold State.cand
  rw [retarget_keeps.1]

theorem retarget_event_cand {e : EventTree} : (retarget ago { s with evt := e }).cand k = s.cand k := by
  rw [retarget_cand]
  rfl

/-- A target: it is acquired unless the DPLL is on it already. -/
theorem retarget_target (m : s.time.manual = none) (c : chooseTarget s = some k) :
    (s.time.selected = some k ∧ s.time.dpll ≠ .holdover ∧ s.time.dpll ≠ .freeRun →
      (retarget ago s).time.dpll = s.time.dpll ∧ (retarget ago s).evt = s.evt) ∧
    (¬(s.time.selected = some k ∧ s.time.dpll ≠ .holdover ∧ s.time.dpll ≠ .freeRun) →
      (retarget ago s).time.dpll = .acquire ∧ (retarget ago s).time.selected = some k ∧
        (retarget ago s).evt = (raise 225 objTime (evtArg 0 k.val 0 0) s).evt) := by
  rw [retarget_auto m]
  unfold dpllMoved
  rw [c]
  dsimp only
  refine ⟨fun on => ?_, fun off => ?_⟩
  · rw [if_pos on]
    exact ⟨rfl, rfl⟩
  · rw [if_neg off]
    exact ⟨rfl, rfl, rfl⟩

theorem retarget_rests (m : s.time.manual = none) (c : chooseTarget s = none) (d : s.time.dpll = .holdover ∨ s.time.dpll = .freeRun) :
    (retarget ago s).time.dpll = s.time.dpll := by
  rw [retarget_auto m]
  unfold dpllMoved
  rw [c]
  dsimp only
  rw [if_pos d]
  rfl

/-- Without a target: holdover on the history's value. -/
theorem retarget_holds (m : s.time.manual = none) (c : chooseTarget s = none) (h : s.time.dpll ≠ .holdover) (f : s.time.dpll ≠ .freeRun)
    {v : Int} (span : holdValue ago s = some v) : (retarget ago s).time.dpll = .holdover ∧ (retarget ago s).time.selected = none ∧
      (retarget ago s).time.control = v ∧ (retarget ago s).time.holdoverValue = v ∧ (retarget ago s).evt = (raise0 227 objTime s).evt := by
  rw [retarget_auto m]
  unfold dpllMoved
  rw [c]
  dsimp only
  rw [if_neg (not_or.2 ⟨h, f⟩), span]
  exact ⟨rfl, rfl, rfl, rfl, rfl⟩

/-- Without a target and without a value to hold: free run. -/
theorem retarget_free (m : s.time.manual = none) (c : chooseTarget s = none) (h : s.time.dpll ≠ .holdover) (f : s.time.dpll ≠ .freeRun)
    (span : holdValue ago s = none) : (retarget ago s).time.dpll = .freeRun ∧ (retarget ago s).time.selected = none ∧
      (retarget ago s).time.control = 0 ∧ (retarget ago s).evt = (raise0 228 objTime s).evt := by
  rw [retarget_auto m]
  unfold dpllMoved
  rw [c]
  dsimp only
  rw [if_neg (not_or.2 ⟨h, f⟩), span]
  exact ⟨rfl, rfl, rfl, rfl⟩

theorem retarget_aims (m : s.time.manual = none) : (retarget ago s).time.target = chooseTarget s := by
  rw [retarget_auto m]
  unfold dpllMoved
  split
  · split <;> rfl
  · split
    · rfl
    · split <;> rfl

/-! ### Activity lost, qualification taken and given (R276) -/

theorem refActivityLoss_same : (refActivityLoss k s).cand k =
    ({ s.cand k with active := false, inTol := false, oot := 0 } : Cand).disqualified := by
  unfold refActivityLoss
  rw [retarget_cand, loseQual_same, onCand_same]

theorem refActivityLoss_other (h : j ≠ k) : (refActivityLoss k s).cand j = s.cand j := by
  unfold refActivityLoss
  rw [retarget_cand, loseQual_other h, onCand_other h]

theorem refActivityLoss_frame : { refActivityLoss k s with time := s.time, evt := s.evt } = s :=
  timeless_frame (Same.retarget (Same.loseQual (Same.onCand .refl)))

/-- What the end of a candidate's time makes of it. -/
def Cand.timed (restore : Bool) (c : Cand) : Cand := if restore then { c with lost := false } else { c with qualified := true }

theorem qualificationTimerEnd_idle {restore : Bool} (h : (s.cand k).active = false ∨ (s.cand k).inTol = false ∨ restore ≠ (s.cand k).qualified) :
    qualificationTimerEnd k restore s = s := by
  unfold qualificationTimerEnd
  dsimp only
  by_cases live : ((s.cand k).active && (s.cand k).inTol) = true
  · rw [if_pos live]
    obtain ⟨active, tol⟩ := Bool.and_eq_true_iff.1 live
    have other : restore ≠ (s.cand k).qualified := by simpa [active, tol] using h
    cases restore with
    | true => rw [if_pos rfl, if_neg fun e => other e.symm]
    | false => rw [if_neg (by decide), if_pos (by simpa using other.symm)]
  · rw [if_neg live]

/-- The time's end acts on its candidate, and the target is chosen again. -/
theorem qualificationTimerEnd_acts {restore : Bool} (active : (s.cand k).active = true) (tol : (s.cand k).inTol = true)
    (h : restore = (s.cand k).qualified) : ∃ e, qualificationTimerEnd k restore s =
      retarget 0 { onCand k (Cand.timed restore) s with evt := e } := by
  unfold qualificationTimerEnd
  dsimp only
  rw [if_pos (by rw [active, tol]; rfl)]
  cases restore with
  | true => rw [if_pos rfl, if_pos h.symm]; exact ⟨_, rfl⟩
  | false => rw [if_neg (by decide), if_neg (by simp [← h])]; exact ⟨_, rfl⟩

/-! ### A second's measurement (R275) -/

/-- The candidate as its measurement leaves it. -/
def Cand.tested (hard soft cons o : Int) (fault : Bool) (c : Cand) : Cand :=
  let dev := ((o - cons).natAbs : Int)
  let good := (fault || (o.natAbs : Int) ≤ hard) && dev ≤ soft
  { c with active := true, offset := o, consensus := cons, inTol := good, oot := if good then 0 else c.oot + 1,
           beyondHalf := if 2 * dev > soft then c.beyondHalf + 1 else 0 }

/-- What the tests of one second's measurements leave of a state for those that follow: the limits, which candidates are
qualified, the one selected, and the candidates without a measurement. -/
structure Tests (offs : List (Fin 12 × Int)) (s t : State) : Prop where
  forgets : Same (candless s) s t
  qualified : ∀ j, (t.cand j).qualified = (s.cand j).qualified
  unmeasured : ∀ j, j ∉ offs.map (·.1) → t.cand j = s.cand j

theorem candless_par (h : Same (candless s) s t) : t.par = s.par := by
  have e : candless s t = candless s s := h
  exact (congrArg State.par e :)

theorem candless_selected (h : Same (candless s) s t) : t.time.selected = s.time.selected := by
  have e : candless s t = candless s s := h
  exact (congrArg (·.time.selected) e :)

theorem candless_par_get {r : PTab} {ob pid : Nat} (h : Same (candless s) s t) : getPar t r ob pid = getPar s r ob pid := by
  have par := candless_par h
  unfold getPar
  rw [par]

/-- The consensus does not change while the candidates are tested. -/
theorem consensus_tests (h : Tests offs s t) : consensusFor t k offs = consensusFor s k offs := by
  unfold consensusFor
  rw [candless_selected h.forgets]
  simp only [h.qualified]
  split
  · rfl
  · split
    · rfl
    · next sel _ =>
      by_cases m : sel ∈ offs.map (·.1)
      · obtain ⟨y, hy, e⟩ := List.mem_map.1 m
        have found : (offs.find? fun x => x.1 == sel).isSome = true := List.find?_isSome.2 ⟨y, hy, by simp [e]⟩
        obtain ⟨z, hz⟩ := Option.isSome_iff_exists.1 found
        rw [hz]
        rfl
      · rw [h.unmeasured sel m]

theorem testCand_eq (h : Tests offs s t) : testCand fault offs t x =
    onCand x.1 (Cand.tested (getPar s .r285 objTime 0x20) (getPar s .r285 objTime 0x21) (consensusFor s x.1 offs) x.2 fault) t := by
  unfold testCand Cand.tested
  rw [consensus_tests h, candless_par_get h.forgets, candless_par_get h.forgets]

theorem testCand_tests (h : Tests offs s t) (m : x ∈ offs) : Tests offs s (testCand fault offs t x) := by
  rw [testCand_eq h]
  refine ⟨h.forgets.trans onCand_candless, fun j => ?_, fun j hj => ?_⟩
  · by_cases e : j = x.1
    · subst e
      rw [onCand_same]
      exact h.qualified _
    · rw [onCand_other e]
      exact h.qualified j
  · rw [onCand_other (fun e => hj (List.mem_map.2 ⟨x, m, e.symm⟩))]
    exact h.unmeasured j hj

theorem tests_unmeasured (h : Tests offs s t) (sub : ∀ x ∈ l, x ∈ offs) (m : k ∉ l.map (·.1)) :
    (l.foldl (testCand fault offs) t).cand k = t.cand k := by
  induction l generalizing t with
  | nil => rfl
  | cons x r ih =>
    obtain ⟨hx, hr⟩ := not_or.1 fun e => m (List.mem_cons.2 e)
    rw [List.foldl_cons, ih (testCand_tests h (sub x (.head _))) (fun y hy => sub y (.tail _ hy)) hr, testCand_eq h, onCand_other hx]

/-- Each measured candidate is tested once. -/
theorem tests_measured {o : Int} (h : Tests offs s t) (sub : ∀ x ∈ l, x ∈ offs) (once : (l.map (·.1)).Nodup) (m : (k, o) ∈ l) :
    (l.foldl (testCand fault offs) t).cand k = (t.cand k).tested (getPar s .r285 objTime 0x20) (getPar s .r285 objTime 0x21)
      (consensusFor s k offs) o fault := by
  induction l generalizing t with
  | nil => cases m
  | cons x r ih =>
    obtain ⟨alone, rest⟩ := List.nodup_cons.1 once
    have next := testCand_tests (fault := fault) h (sub x (.head _))
    have sub' : ∀ y ∈ r, y ∈ offs := fun y hy => sub y (.tail _ hy)
    rw [List.foldl_cons]
    rcases List.mem_cons.1 m with rfl | m
    · rw [tests_unmeasured next sub' alone, testCand_eq h, onCand_same]
    · have other : k ≠ x.1 := fun e => alone (List.mem_map.2 ⟨_, m, e⟩)
      rw [ih next sub' rest m, testCand_eq h, onCand_other other]

/-- A second's offset of a candidate carries its number. -/
theorem refOffsets_keys {meas : List (Fin 12 × Int)} : ((refOffsets s meas).map (·.1)).Nodup := by
  unfold refOffsets
  rw [List.map_filterMap]
  refine (List.nodup_finRange 12).filterMap fun a b k ha hb => ?_
  have own : ∀ {a k : Fin 12}, k ∈ Option.map (·.1) (if !refLive s a then none
      else if a.val = 5 ∨ a.val = 6 then (lineGroup s (carrierOf (a.val - 5))).map fun g => (a, recovered s (s.rxg (carrierOf (a.val - 5)) g).clockOff)
      else meas.find? fun x => x.1 == a) → k = a := by
    intro a k h
    split at h
    · cases h
    · split at h
      · obtain ⟨_, hx, rfl⟩ := Option.map_eq_some_iff.1 h
        obtain ⟨_, _, rfl⟩ := Option.map_eq_some_iff.1 hx
        rfl
      · obtain ⟨x, hx, rfl⟩ := Option.map_eq_some_iff.1 h
        simpa using List.find?_some hx
  exact (own ha).symm.trans (own hb)

/-- A second's verdict on the oscillator has been kept and reported. -/
def oscJudged (fault : Bool) (s : State) : State :=
  raiseIf (fault && !s.time.loFault) 229 objTime (evtArg 0 0 0 0) (onTime (fun t => { t with loFault := fault }) s)

/-- The state whose candidates have been tested. -/
def secondTested (fault : Bool) (offs : List (Fin 12 × Int)) (s : State) : State := offs.foldl (testCand fault offs) (oscJudged fault s)

/-- The second's control value is recorded (R281). -/
def recorded (control : Int) (good : Bool) (s : State) : State :=
  onTime (fun t => { t with
    history := ((control, good) :: t.history).take 3600, lockRun := t.dpll == .locked,
    control := if t.dpll = .acquire ∨ t.dpll = .locked then control else t.control }) s

/-- The candidates that lose qualification at the second's end. -/
def losersOf (s : State) : List (Fin 12) := (List.finRange 12).filter fun k => (s.cand k).qualified && 2 ≤ (s.cand k).oot

/-- A second's measurement: the tests, the record, the losses, and the target chosen again. -/
theorem refMeasurement_eq {meas : List (Fin 12 × Int)} {control : Int} : ∃ good ago,
    refMeasurement meas control s =
      let s3 := recorded control good (secondTested (oscFaulty s (refOffsets s meas)) (refOffsets s meas) s)
      retarget ago ((losersOf s3).foldl (fun s k => loseQual k s) s3) := ⟨_, _, rfl⟩

theorem oscJudged_tests : Tests offs (oscJudged fault s) (oscJudged fault s) := ⟨.refl, fun _ => rfl, fun _ _ => rfl⟩

theorem secondTested_candless : Same (candless s) (oscJudged fault s) (secondTested fault offs s) :=
  .foldl (fun _ _ h => h.trans onCand_candless) .refl

theorem secondTested_measured {o : Int} (once : (offs.map (·.1)).Nodup) (m : (k, o) ∈ offs) : (secondTested fault offs s).cand k =
    (s.cand k).tested (getPar s .r285 objTime 0x20) (getPar s .r285 objTime 0x21) (consensusFor s k offs) o fault :=
  tests_measured (s := oscJudged fault s) oscJudged_tests (fun _ h => h) once m

theorem secondTested_unmeasured (m : k ∉ offs.map (·.1)) : (secondTested fault offs s).cand k = s.cand k :=
  tests_unmeasured (s := oscJudged fault s) oscJudged_tests (fun _ h => h) m

/-- A candidate that failed twice in a row loses qualification. -/
theorem losersOf_cand : ((losersOf s).foldl (fun s k => loseQual k s) s).cand k =
    if 2 ≤ (s.cand k).oot then (s.cand k).disqualified else s.cand k := by
  rw [losers_cand]
  by_cases out : 2 ≤ (s.cand k).oot
  · rw [if_pos out]
    by_cases qual : (s.cand k).qualified = true
    · exact if_pos (by simp [losersOf, out, qual])
    · rw [if_neg (by simp [losersOf, qual])]
      simp [Cand.disqualified, qual]
  · rw [if_neg (by simp [losersOf, out]), if_neg out]

theorem disqualified_keeps {c : Cand} : c.disqualified.active = c.active ∧ c.disqualified.offset = c.offset ∧
    c.disqualified.consensus = c.consensus ∧ c.disqualified.inTol = c.inTol ∧ c.disqualified.oot = c.oot ∧
    c.disqualified.qualified = false := by
  unfold Cand.disqualified
  split
  · exact ⟨rfl, rfl, rfl, rfl, rfl, rfl⟩
  · next h => exact ⟨rfl, rfl, rfl, rfl, rfl, by simpa using h⟩

/-- What every candidate is after a second's measurement. -/
theorem refMeasurement_cand {meas : List (Fin 12 × Int)} {control : Int} : (refMeasurement meas control s).cand k =
    let c := (secondTested (oscFaulty s (refOffsets s meas)) (refOffsets s meas) s).cand k
    if 2 ≤ c.oot then c.disqualified else c := by
  obtain ⟨good, ago, eq⟩ := refMeasurement_eq (s := s) (meas := meas) (control := control)
  rw [eq]
  dsimp only
  rw [retarget_cand, losersOf_cand]
  rfl

theorem refMeasurement_unmeasured {meas : List (Fin 12 × Int)} {control : Int} (m : k ∉ (refOffsets s meas).map (·.1)) (run : (s.cand k).oot < 2) :
    (refMeasurement meas control s).cand k = s.cand k := by
  rw [refMeasurement_cand, secondTested_unmeasured m]
  exact if_neg (Nat.not_le.2 run)

theorem refMeasurement_measured {meas : List (Fin 12 × Int)} {control o : Int} (m : (k, o) ∈ refOffsets s meas) :
    let x := s.cand k
    let y := (refMeasurement meas control s).cand k
    let z := x.tested (getPar s .r285 objTime 0x20) (getPar s .r285 objTime 0x21) (consensusFor s k (refOffsets s meas)) o
      (oscFaulty s (refOffsets s meas))
    y.active = true ∧ y.offset = o ∧ y.consensus = z.consensus ∧ y.inTol = z.inTol ∧ y.oot = z.oot ∧
      y.qualified = (x.qualified && y.oot < 2) := by
  dsimp only
  rw [refMeasurement_cand, secondTested_measured refOffsets_keys m]
  dsimp only
  obtain ⟨active, offset, consensus, tol, oot, lost⟩ := disqualified_keeps (c := (s.cand k).tested (getPar s .r285 objTime 0x20)
    (getPar s .r285 objTime 0x21) (consensusFor s k (refOffsets s meas)) o (oscFaulty s (refOffsets s meas)))
  split
  · next out =>
    refine ⟨active, offset, consensus, tol, oot, ?_⟩
    rw [lost, oot]
    simp [Nat.not_lt.2 out]
  · next stay =>
    refine ⟨rfl, rfl, rfl, rfl, rfl, ?_⟩
    simp only [Nat.lt_of_not_le stay, decide_true, Bool.and_true]
    rfl

/-- What the second leaves of the time engine beside the candidates. -/
theorem refMeasurement_time {meas : List (Fin 12 × Int)} {control : Int} : ∃ good,
    (refMeasurement meas control s).time.loFault = oscFaulty s (refOffsets s meas) ∧
    (refMeasurement meas control s).time.history = ((control, good) :: s.time.history).take 3600 := by
  obtain ⟨good, ago, eq⟩ := refMeasurement_eq (s := s) (meas := meas) (control := control)
  have tested : candless s (secondTested (oscFaulty s (refOffsets s meas)) (refOffsets s meas) s) = candless s (oscJudged _ s) :=
    secondTested_candless
  obtain ⟨s3, hs3⟩ : ∃ x, x = recorded control good (secondTested (oscFaulty s (refOffsets s meas)) (refOffsets s meas) s) := ⟨_, rfl⟩
  rw [← hs3] at eq
  have lost : candless s ((losersOf s3).foldl (fun s k => loseQual k s) s3) = candless s s3 := losers_candless
  have hist : (secondTested (oscFaulty s (refOffsets s meas)) (refOffsets s meas) s).time.history = s.time.history :=
    (congrArg (·.time.history) tested :)
  refine ⟨good, ?_, ?_⟩
  · rw [eq]
    refine retarget_keeps.2.2.trans ((congrArg (·.time.loFault) lost :).trans ?_)
    rw [hs3]
    exact (congrArg (·.time.loFault) tested :)
  · rw [eq]
    refine retarget_keeps.2.1.trans ((congrArg (·.time.history) lost :).trans ?_)
    rw [hs3]
    exact congrArg (fun h => ((control, good) :: h).take 3600) hist

theorem refMeasurement_frame {meas : List (Fin 12 × Int)} {control : Int} :
    { refMeasurement meas control s with time := s.time, evt := s.evt } = s := by
  obtain ⟨good, ago, eq⟩ := refMeasurement_eq (s := s) (meas := meas) (control := control)
  rw [eq]
  refine timeless_frame (Same.retarget (.foldl (fun _ _ h => Same.loseQual h) ?_))
  exact Same.foldl (e := timeless s) (fun _ _ h => Same.onCand h) .refl

/-! ### The oscillator and the requests -/

theorem keepOsc_frame : ∃ v, keepOsc s = { s with cat := v } := ⟨_, rfl⟩

/-- The two halves' fits agree within 10 ppb (R274). -/
def fitsAgree (a b : Int × Int × Int × Int) (temps : List Int) : Bool :=
  temps.all fun x => ((oscPoly a x - oscPoly b x).natAbs : Int) ≤ ppmRate 10

theorem loLearnEnd_eq {a b fit : Int × Int × Int × Int} {temps : List Int} : loLearnEnd a b fit temps s =
    if s.time.learning then
      if fitsAgree a b temps then keepOsc { s with time := { s.time with learning := false, oscCoef := fit } }
      else raise0 237 objTime { s with time := { s.time with learning := false } }
    else s := rfl

theorem dpllLock_eq : dpllLock s = if s.time.dpll = .acquire then
    retarget 0 (raise 226 objTime (evtArg 0 ((s.time.selected.map (·.val)).getD 0) 0 0) { s with time := { s.time with dpll := .locked } })
    else s := rfl

theorem timeRefCommand_eq (h : u8 q 4 = k.val) : timeRefCommand q s = match u8 q 5 with
    | 0 => (retarget 0 { s with time := { s.time with force := some k } }, ok)
    | 1 => if (s.cand k).eligible then (retarget 0 { s with time := { s.time with manual := some k } }, ok) else (s, refuse stBadState)
    | 2 => (retarget 0 { s with time := { s.time with cands := upd s.time.cands k fun c => { c with lockout := true } } }, ok)
    | 3 => (retarget 0 { s with time := { s.time with
              force := none, manual := none, cands := s.time.cands.map fun c => { c with lockout := false } } }, ok)
    | _ => (s, badParam 5) := by
  unfold timeRefCommand
  rw [dif_pos (h ▸ k.isLt)]
  have same : (⟨u8 q 4, h ▸ k.isLt⟩ : Fin 12) = k := Fin.ext h
  rw [same]
  rfl

theorem timeRefCommand_number (h : 12 ≤ u8 q 4) : timeRefCommand q s = (s, badParam 4) := dif_neg (Nat.not_lt.2 h)

theorem timeRefCommand_action (h : u8 q 4 < 12) (g : 3 < u8 q 5) : timeRefCommand q s = (s, badParam 5) := by
  rw [timeRefCommand_eq (k := ⟨_, h⟩) rfl]
  split
  · omega
  · omega
  · omega
  · omega
  · rfl

/-- A request on a reference that acts chooses the target again. -/
theorem timeRefCommand_puts {v : TimeState} (run : runs 0x0B03 q s = true) (e : timeRefCommand q s = (retarget 0 { s with time := v }, ok)) :
    exec (.timeRefCommand q) s = .next (complete q.ch q.tag { status := stOk } (retarget 0 { s with time := v })) :=
  congrArg Host.Outcome.next (deskRun_done run e)

theorem timeLoCompSet_eq : timeLoCompSet q s =
    if 1 < u8 q 4 then (s, badParam 4)
    else if (if u8 q 4 = 0 then 32 else 64) ≤ u8 q 5 then (s, badParam 5)
    else (keepOsc (keepBody 0x0B04 q { s with time := { s.time with
      oscKind := u8 q 4, oscIdx := u8 q 5, oscCoef := (s64 q 8, s64 q 16, s64 q 24, s64 q 32) } }), ok) := rfl

theorem timeLoLearn_eq : timeLoLearn q s =
    if u32 q 4 < 3600000 ∨ 604800000 < u32 q 4 then (s, badParam 4)
    else if s.time.dpll ≠ .locked then (s, refuse stBadState)
    else ({ s with time := { s.time with learning := true } }, ok) := rfl

theorem timeTest_eq {w : Word32} : timeTest w q s =
    if timeBusy s then (s, refuse stBadState)
    else (raise0 228 objTime { s with time := { s.time with
        dpll := .freeRun, lockRun := false, selected := none, control := 0, history := [] } },
      ok (leBytes 1 (b2n (w != 0)) ++ leBytes 3 0 ++ leBytes 4 w.toNat)) := rfl

/-! ### The obligation -/

theorem exec_refActivityLoss : exec (.refActivityLoss k) s = .next (refActivityLoss k s) := rfl

theorem exec_refMeasurement {meas : List (Fin 12 × Int)} {control : Int} :
    exec (.refMeasurement meas control) s = .next (refMeasurement meas control s) := rfl

theorem exec_qualificationTimerEnd {restore : Bool} :
    exec (.qualificationTimerEnd k restore) s = .next (qualificationTimerEnd k restore s) := rfl

theorem exec_loLearnEnd {a b fit : Int × Int × Int × Int} {temps : List Int} :
    exec (.loLearnEnd a b fit temps) s = .next (loLearnEnd a b fit temps s) := rfl

/-- Settles O10: the choice of the target goes by R278, the DPLL by the table of R280, and a second's measurement tests each
candidate once, against a consensus that the tests of the others do not move. That the line clocks are measured by what
their receivers have recovered is the model's choice (log 75). -/
theorem frequencyReferences : Obligations.FrequencyReferences := by
  unfold Obligations.FrequencyReferences
  refine ⟨fun s => ⟨fun k f a => chooseTarget_forced f a, fun f => ⟨fun k m e => chooseTarget_manual f m e, fun m w => ⟨?_, ?_⟩⟩⟩,
    fun ago s m => ⟨retarget_frame, retarget_aims m, retarget_keeps.1, retarget_keeps.2.1, fun k c => retarget_target m c,
      fun c d => retarget_rests m c d, fun c h f => ⟨fun v span => retarget_holds m c h f span, fun span => retarget_free m c h f span⟩⟩,
    fun k s => ⟨_, exec_refActivityLoss, refActivityLoss_frame, ?_, ?_, ?_, ?_, fun j h => refActivityLoss_other h⟩,
    fun meas control s => ⟨_, exec_refMeasurement, refMeasurement_frame, ?_, ?_, ?_, ?_, ?_⟩,
    fun k restore s => ⟨?_, ?_⟩,
    fun s => congrArg Host.Outcome.next (dpllLock_eq.trans ?_),
    fun s => rfl, fun a b fit temps s => ⟨?_, ?_⟩, fun q s run => ⟨?_, ?_, fun k h => ⟨?_, ?_, ?_, ?_, ?_⟩⟩,
    fun q s run => ⟨?_, ?_, ?_⟩, fun q s run => ⟨?_, ?_, ?_⟩, fun q w s run => ⟨?_, ?_⟩⟩
  · exact fun k d r sel e => (chooseTarget_auto f m w).trans (autoTarget_stays d r sel e)
  · exact fun away => (chooseTarget_auto f m w).trans (autoTarget_table away)
  · rw [refActivityLoss_same]; unfold Cand.disqualified; split <;> rfl
  · rw [refActivityLoss_same]; unfold Cand.disqualified; split <;> rfl
  · rw [refActivityLoss_same]; exact disqualified_keeps.2.2.2.2.2
  · rw [refActivityLoss_same]; unfold Cand.disqualified; split <;> simp_all
  · obtain ⟨_, fault, _⟩ := refMeasurement_time (s := s) (meas := meas) (control := control)
    exact fault
  · obtain ⟨_, _, history⟩ := refMeasurement_time (s := s) (meas := meas) (control := control)
    rw [history, show 3600 = 3599 + 1 from rfl, List.take_succ_cons]
    rfl
  · obtain ⟨_, _, history⟩ := refMeasurement_time (s := s) (meas := meas) (control := control)
    rw [history, show 3600 = 3599 + 1 from rfl, List.take_succ_cons]
    rfl
  · exact fun k o m => refMeasurement_measured m
  · exact fun k m run => refMeasurement_unmeasured m run
  · exact fun h => congrArg Host.Outcome.next (qualificationTimerEnd_idle h)
  · intro active tol h
    obtain ⟨e, eq⟩ := qualificationTimerEnd_acts active tol h
    refine ⟨_, exec_qualificationTimerEnd, ?_⟩
    rw [eq]
    refine ⟨timeless_frame (Same.retarget rfl), ?_, ?_, fun j other => retarget_event_cand.trans (onCand_other other)⟩
    · rw [retarget_event_cand, onCand_same]
      cases restore
      · rfl
      · exact h.symm
    · rw [retarget_event_cand, onCand_same]
      cases restore <;> simp [Cand.timed]
  · rfl
  · intro off
    rw [exec_loLearnEnd, loLearnEnd_eq, off]
    rfl
  · intro on fits
    refine ⟨_, exec_loLearnEnd, ?_⟩
    rw [loLearnEnd_eq, if_pos on]
    have agree : fitsAgree a b temps = true ↔ fits := by simp [fitsAgree, fits]
    by_cases h : fits
    · rw [if_pos (agree.2 h)]
      obtain ⟨v, eq⟩ := keepOsc_frame (s := { s with time := { s.time with learning := false, oscCoef := fit } })
      rw [eq]
      exact ⟨rfl, fun _ => ⟨rfl, rfl⟩, fun no => (no h).elim⟩
    · rw [if_neg fun e => h (agree.1 e)]
      exact ⟨rfl, fun yes => (h yes).elim, fun _ => rfl⟩
  · exact fun h => deskRun_badParam run (timeRefCommand_number h)
  · exact fun h g => deskRun_badParam run (timeRefCommand_action h g)
  · exact fun a => timeRefCommand_puts run (by rw [timeRefCommand_eq h, a]; rfl)
  · exact fun a e => timeRefCommand_puts run (by rw [timeRefCommand_eq h, a]; exact if_pos e)
  · exact fun a e => congrArg Host.Outcome.next (deskRun_done run (by
      rw [timeRefCommand_eq h, a]
      exact if_neg (by rw [e]; exact Bool.noConfusion)))
  · exact fun a => timeRefCommand_puts run (by rw [timeRefCommand_eq h, a]; rfl)
  · exact fun a => timeRefCommand_puts run (by rw [timeRefCommand_eq h, a]; rfl)
  · exact fun h => deskRun_badParam run (by rw [timeLoCompSet_eq, if_pos h])
  · exact fun h g => deskRun_badParam run (by rw [timeLoCompSet_eq, if_neg (Nat.not_lt.2 h), if_pos g])
  · intro h g
    refine ⟨_, congrArg Host.Outcome.next (deskRun_done run (by
      rw [timeLoCompSet_eq, if_neg (Nat.not_lt.2 h), if_neg (Nat.not_le.2 g)]
      rfl)), ?_⟩
    obtain ⟨v, eq⟩ := keepOsc_frame (s := keepBody 0x0B04 q { s with time := { s.time with
      oscKind := u8 q 4, oscIdx := u8 q 5, oscCoef := (s64 q 8, s64 q 16, s64 q 24, s64 q 32) } })
    rw [eq]
    exact ⟨rfl, rfl, rfl, rfl⟩
  · exact fun bad => deskRun_badParam run (by rw [timeLoLearn_eq, if_pos bad])
  · exact fun good d => congrArg Host.Outcome.next (deskRun_done run (by rw [timeLoLearn_eq, if_neg good, if_pos d]; rfl))
  · exact fun good d => congrArg Host.Outcome.next (deskRun_done run (by
      rw [timeLoLearn_eq, if_neg good, if_neg (not_not.2 d)]; rfl))
  · exact fun busy => congrArg Host.Outcome.next (deskRun_done run (by rw [timeTest_eq, if_pos busy]; rfl))
  · exact fun idle => congrArg Host.Outcome.next (deskRun_done run (by
      rw [timeTest_eq, if_neg (by rw [idle]; exact Bool.noConfusion)]; rfl))

end Sys2Proof.Machine
end

section
/-! The time of day: its counter, the choice of its source, the servo, TIME.SET, TIME.ADJUST and 1PPS_IN
(11_time_references.md R256 to R263; 14_command_reference.md R356). -/

namespace Sys2Proof.Machine

variable {q : Request} {s t u : State} {v n width : Nat} {th : Int} {sub : Fin 400} {src : Option Source} {src' : Source}

/-! ### The counter (R256, R257) -/

theorem applyStep_held (h : latching s = true) : applyStep s = s := if_pos h

theorem applyStep_none (a : s.time.stepTo = none) (b : s.time.stepBy = none) : applyStep s = s := by
  unfold applyStep
  split
  · rfl
  · rw [a, b]

/-- A waiting step sets the counter, and nothing but the time and the bins' entities changes. -/
theorem applyStep_to (h : latching s = false) (a : s.time.stepTo = some v) : applyStep s =
    pmStep s.time.tod (v * todUnit) { s with time := { s.time with tod := v * todUnit, stepTo := none, stepBy := none } } := by
  unfold applyStep
  rw [if_neg (by rw [h]; exact Bool.noConfusion)]
  dsimp only
  rw [a]
  rfl

/-- The ticks have advanced the counter; a waiting step is still to be made. -/
def ticked (n : Nat) (amt : Int) (s : State) : State :=
  { s with dev := { s.dev with ticks := s.dev.ticks + n }, time := { s.time with
      tod := s.time.tod + ((n : Int) * 8 * (2 ^ 48 + (if s.time.adjust = 0 then s.time.rho else 0)) + amt).toNat,
      adjust := s.time.adjust - amt } }

theorem timeTick_forward (h : 0 ≤ s.time.adjust) :
    timeTick n s = applyStep (ticked n (min s.time.adjust (n * 8 * max 0 (slewLimit s))) s) := by
  unfold timeTick ticked
  dsimp only
  rw [if_pos h]

theorem ticked_none (h : s.time.adjust = 0) : ticked n (min s.time.adjust (n * 8 * max 0 (slewLimit s))) s =
    { s with dev := { s.dev with ticks := s.dev.ticks + n },
             time := { s.time with tod := s.time.tod + ((n : Int) * 8 * (2 ^ 48 + s.time.rho)).toNat } } := by
  have limit : (0 : Int) ≤ n * 8 * max 0 (slewLimit s) := Int.mul_nonneg (by omega) (le_max_left _ _)
  have none_ : min s.time.adjust (n * 8 * max 0 (slewLimit s)) = 0 := by rw [h]; exact min_eq_left limit
  have same : s.time.adjust - 0 = s.time.adjust := Int.sub_zero _
  unfold ticked
  rw [none_, if_pos h, same, Int.add_zero]

theorem exec_timeTick_off (h : coreUp s = false) : exec (.timeTick n) s = .next s :=
  congrArg Host.Outcome.next (if_neg (by rw [h]; exact Bool.noConfusion))

theorem exec_timeTick_on (h : coreUp s = true) : exec (.timeTick n) s = .next (timeTick n s) :=
  congrArg Host.Outcome.next (if_pos h)

/-! ### The choice of the source (R259, R261) -/

/-- The primary's ten seconds count while the primary is valid. -/
def primaryHeld (s : State) : Bool := match primary s with
  | some p => s.time.primary10 && sourceValid s p
  | none => false

/-- A source taken into use with a window of its own; what waited for the window takes effect (R285). -/
def sourceTaken (src : Option Source) (s : State) : State :=
  raise0 230 (sourceObj src) (onTime (fun t => { t with inUse := src, winSum := 0, winCount := 0 })
    { s with par := s.par.release .r285 objTime })

/-- The servo's move for the source in use (R261). -/
def servoMoved (src : Option Source) (s : State) : State :=
  match src, s.time.servo with
  | none, .acquire => raise0 231 objTime (onTime (fun t => { t with servo := .holdover, traceable := false }) s)
  | none, .locked => raise0 231 objTime (onTime (fun t => { t with servo := .holdover, traceable := false }) s)
  | some _, .free => onTime (fun t => { t with servo := .acquire }) s
  | some _, .holdover => onTime (fun t => { t with servo := .locked }) s
  | _, _ => s

theorem reselect_choice : reselect s =
    let s0 := { s with time := { s.time with primary10 := primaryHeld s } }
    if chooseSource s0 = s0.time.inUse then s0 else servoMoved (chooseSource s0) (sourceTaken (chooseSource s0) s0) := rfl

theorem reselect_held (h : s.time.primary10 = true → ∃ p, primary s = some p ∧ sourceValid s p = true) : reselect s =
    if chooseSource s = s.time.inUse then s else servoMoved (chooseSource s) (sourceTaken (chooseSource s) s) := by
  have held : primaryHeld s = s.time.primary10 := by
    unfold primaryHeld
    cases on : s.time.primary10 with
    | true =>
      obtain ⟨p, prim, valid⟩ := h on
      simp [prim, valid]
    | false => cases primary s <;> rfl
  rw [reselect_choice, held]

theorem servoMoved_frame : { servoMoved src s with time := s.time, evt := s.evt } = s := by
  unfold servoMoved
  split <;> rfl

theorem servoMoved_keeps : (servoMoved src s).time.inUse = s.time.inUse ∧ (servoMoved src s).time.winSum = s.time.winSum ∧
    (servoMoved src s).time.winCount = s.time.winCount ∧ (servoMoved src s).time.utcOffset = s.time.utcOffset ∧
    (servoMoved src s).time.utcValid = s.time.utcValid := by
  unfold servoMoved
  split <;> exact ⟨rfl, rfl, rfl, rfl, rfl⟩

theorem servoMoved_servo : (servoMoved src s).time.servo = match src, s.time.servo with
    | none, .acquire => .holdover
    | none, .locked => .holdover
    | some _, .free => .acquire
    | some _, .holdover => .locked
    | _, x => x := by
  unfold servoMoved
  cases src with
  | none =>
    cases h : s.time.servo with
    | acquire | locked => rfl
    | free | holdover => exact h
  | some x =>
    cases h : s.time.servo with
    | free | holdover => rfl
    | acquire | locked => exact h

/-- Without a source a servo that ran holds over. -/
theorem servoMoved_lost (h : s.time.servo = .acquire ∨ s.time.servo = .locked) :
    (servoMoved none s).time.traceable = false ∧ (servoMoved none s).evt = (raise0 231 objTime s).evt := by
  unfold servoMoved
  rcases h with h | h <;> rw [h] <;> exact ⟨rfl, rfl⟩

theorem servoMoved_quiet (h : src.isSome) : (servoMoved src s).evt = s.evt := by
  obtain ⟨x, rfl⟩ := Option.isSome_iff_exists.1 h
  unfold servoMoved
  cases s.time.servo <;> rfl

theorem reselect_same (h : s.time.primary10 = true → ∃ p, primary s = some p ∧ sourceValid s p = true)
    (e : chooseSource s = s.time.inUse) : reselect s = s := (reselect_held h).trans (if_pos e)

theorem reselect_switch (h : s.time.primary10 = true → ∃ p, primary s = some p ∧ sourceValid s p = true)
    (e : chooseSource s ≠ s.time.inUse) : reselect s = servoMoved (chooseSource s) (sourceTaken (chooseSource s) s) :=
  (reselect_held h).trans (if_neg e)

theorem servoMoved_taken_frame :
    { servoMoved src (sourceTaken src s) with time := s.time, evt := s.evt, par := s.par } = s := by
  have moved := servoMoved_frame (src := src) (s := sourceTaken src s)
  exact (congrArg (fun x : State => { x with time := s.time, evt := s.evt, par := s.par }) moved :)

theorem servoMoved_par : (servoMoved src s).par = s.par := (congrArg State.par servoMoved_frame :)

/-- The choice of the source keeps the offset to UTC. -/
theorem reselect_utc : (reselect s).time.utcOffset = s.time.utcOffset ∧ (reselect s).time.utcValid = s.time.utcValid := by
  rw [reselect_choice]
  dsimp only
  split
  · exact ⟨rfl, rfl⟩
  · obtain ⟨_, _, _, offset, valid⟩ := servoMoved_keeps (src := chooseSource { s with time := { s.time with primary10 := primaryHeld s } })
      (s := sourceTaken (chooseSource { s with time := { s.time with primary10 := primaryHeld s } })
        { s with time := { s.time with primary10 := primaryHeld s } })
    exact ⟨offset, valid⟩

/-! ### The bins' alignment to UTC (R383) -/

theorem pmAlign_kept (o : t.time.utcOffset = s.time.utcOffset) (v : t.time.utcValid = s.time.utcValid) : pmAlign s t = t := by
  refine if_pos ⟨?_, v.symm⟩
  unfold TimeState.binOffset
  rw [o, v]

/-- The alignment changes the bins alone. -/
theorem pmAlign_frame : { pmAlign s t with cen := t.cen } = t := by
  have put : ∀ {u : State}, { u with cen := t.cen } = t → { pmPut (fun _ => true) .suspect u with cen := t.cen } = t := id
  have shift : ∀ {day : Bool} {u : State}, { u with cen := t.cen } = t → { pmShift day u with cen := t.cen } = t := id
  unfold pmAlign
  split
  · rfl
  · exact put (shift (shift (put rfl)))

/-! ### The servo's window (R260 to R262) -/

/-- The window's mean is taken and its samples are spent. -/
def windowSpent (th : Int) (s : State) : State := { s with time := { s.time with thetaBar := th, winSum := 0, winCount := 0 } }

/-- What the mean of a window does in each state of the servo (R261, R262). -/
def windowActs (th : Int) (s u : State) : State :=
  match s.time.servo with
  | .acquire => followSource (stepBy th { u with time := { u.time with servo := .locked } })
  | .locked =>
    if (th.natAbs : Int) > divRound (getPar s .r285 objTime 0xB0 * 65536) 1 then followSource (stepBy th u)
    else if (th.natAbs : Int) > getPar s .r285 objTime 0xC0 * 65536 then
      raise 233 objTime (evtArg 0 0 0 (codeOf 64 (theta256 th))) (followSource (slew th u))
    else followSource (slew th u)
  | _ => u

theorem servoWindow_idle (h : s.time.inUse = none ∨ s.time.winCount = 0 ∧ s.time.inUse ≠ some .host) : servoWindow s = s := by
  unfold servoWindow
  dsimp only
  rcases h with h | ⟨n, h⟩
  · rw [h]
    split
    · contradiction
    · rfl
  · rw [if_neg (not_not.2 n), if_neg h]

theorem servoWindow_mean (i : s.time.inUse = some src') (n : s.time.winCount ≠ 0) : servoWindow s =
    windowActs (divRound s.time.winSum s.time.winCount) s (windowSpent (divRound s.time.winSum s.time.winCount) s) := by
  unfold servoWindow
  dsimp only
  rw [if_pos n, i]
  dsimp only
  unfold windowActs
  cases s.time.servo <;> rfl

/-- The window's end, and the parameters that waited for it (R285). -/
def windowReleased (s : State) : State := { s with par := s.par.release .r285 objTime }

theorem exec_servoWindowEnd : exec .servoWindowEnd s = .next (pmAlign s (windowReleased (servoWindow s))) := rfl

theorem exec_servoWindowEnd_mean (i : s.time.inUse = some src') (n : s.time.winCount ≠ 0)
    (e : windowActs (divRound s.time.winSum s.time.winCount) s (windowSpent (divRound s.time.winSum s.time.winCount) s) = u) :
    exec .servoWindowEnd s = .next (pmAlign s (windowReleased u)) := by
  rw [exec_servoWindowEnd, servoWindow_mean i n, e]

theorem windowActs_acquire (h : s.time.servo = .acquire) :
    windowActs th s u = followSource (stepBy th { u with time := { u.time with servo := .locked } }) := by
  unfold windowActs
  rw [h]

theorem windowActs_locked (h : s.time.servo = .locked) : windowActs th s u =
    if (th.natAbs : Int) > divRound (getPar s .r285 objTime 0xB0 * 65536) 1 then followSource (stepBy th u)
    else if (th.natAbs : Int) > getPar s .r285 objTime 0xC0 * 65536 then
      raise 233 objTime (evtArg 0 0 0 (codeOf 64 (theta256 th))) (followSource (slew th u))
    else followSource (slew th u) := by
  unfold windowActs
  rw [h]

/-! ### TIME.SET and TIME.ADJUST (R262) -/

/-- The time that a TIME.SET names. -/
def timeNamed (q : Request) : Nat := stampVal { sec := u48 q 4, ns := u32 q 12, frac := u16 q 10 }

theorem timeSet_eq : timeSet q s =
    if !hostRules s then (s, refuse stBadState)
    else if 999999999 < u32 q 12 then (s, badParam 12)
    else (reselect (raise 232 objTime (evtArg 0 0 0 (codeOf 64 ((timeNamed q : Int) - s.tod16)))
      { s with time := { s.time with stepTo := some (timeNamed q), todValid := true, hostSet := true, steps := bump s.time.steps } }), ok) := rfl

theorem timeAdjust_eq : timeAdjust q s =
    if !hostRules s then (s, refuse stBadState)
    else if (s64 q 8).natAbs > fracPerSec then (s, badParam 8)
    else ({ s with time := { s.time with adjust := s.time.adjust + s64 q 8 * todUnit } }, ok) := rfl

/-! ### 1PPS_IN (R258 to R260, R263) -/

/-- The stamp of an edge. -/
def edgeStamp (sub : Fin 400) (s : State) : Nat := s.tod16 + sub.val * 4 * 65536 / 1000

/-- An edge without a message clears the run. -/
theorem ppsInEdge_bare (w : 100 ≤ width) (los : s.time.ppsLos = false) (msg : s.time.todMsg = none) : ppsInEdge sub width s =
    reselect { s with time := { s.time with ppsRun := 0, ppsLast := some (edgeStamp sub s), ppsLastTick := s.dev.ticks } } := by
  unfold ppsInEdge
  rw [if_neg (Nat.not_lt.2 w)]
  dsimp only
  rw [los, msg]
  simp only [onTime, los, Bool.false_eq_true, if_false]
  rfl

/-- The edge that a message names is kept. -/
def edgeNamed (sub : Fin 400) (m : TodMsg) (s : State) : State :=
  { s with time := { s.time with ppsRun := if edgeSpacingOk s then s.time.ppsRun + 1 else 0, ppsLast := some (edgeStamp sub s),
                                 ppsLastTick := s.dev.ticks, lastNamed := some m.sec, todMsg := none } }

/-- The offset sample that an edge of 1PPS_IN gives (R260). -/
def edgeSample (sub : Fin 400) (m : TodMsg) (s : State) : Int :=
  (m.sec * fracPerSec : Int) - ((edgeStamp sub s : Int) - divRound (getPar s .r285 objTime 0xF0 * 65536) 16000)

/-- The sample enters the window, and the message's flags the time (R255). -/
def edgeSampled (th : Int) (m : TodMsg) (s : State) : State :=
  addSample th (onTime (fun x => { x with
    traceable := if x.servo = .locked then bit m.flags 0 else x.traceable, leap61 := bit m.flags 1,
    leap59 := bit m.flags 2, utcValid := bit m.flags 3, utcOffset := m.utcOffset }) s)

theorem ppsInEdge_named {m : TodMsg} (w : 100 ≤ width) (los : s.time.ppsLos = false) (msg : s.time.todMsg = some m) : ppsInEdge sub width s =
    if (reselect (edgeNamed sub m s)).time.inUse = some .pps then edgeSampled (edgeSample sub m s) m (reselect (edgeNamed sub m s))
    else reselect (edgeNamed sub m s) := by
  unfold ppsInEdge
  rw [if_neg (Nat.not_lt.2 w)]
  dsimp only
  rw [los, msg]
  rfl

/-- What the edge that a message names leaves, once the bins are aligned. -/
theorem edgeSampled_aligned {m : TodMsg} : let t := pmAlign s (if u.time.inUse = some .pps then edgeSampled th m u else u)
    { t with time := u.time, cen := u.cen } = u ∧ (u.time.inUse ≠ some .pps → t.time = u.time) ∧
      (u.time.inUse = some .pps → t.time.winCount = u.time.winCount + 1 ∧ t.time.utcOffset = m.utcOffset ∧
        t.time.utcValid = bit m.flags 3 ∧ t.time.winSum = u.time.winSum + th) := by
  have align : ∀ x : State, (pmAlign s x).time = x.time := fun x => (congrArg State.time pmAlign_frame :)
  have frame : ∀ x : State, { x with time := u.time } = u → { pmAlign s x with time := u.time, cen := u.cen } = u := fun x h =>
    (congrArg (fun y : State => { y with time := u.time, cen := u.cen }) (pmAlign_frame (s := s) (t := x)) :).trans
      (congrArg (fun y : State => { y with cen := u.cen }) h)
  dsimp only
  by_cases pps : u.time.inUse = some .pps
  · rw [if_pos pps, align]
    exact ⟨frame _ rfl, fun no => (no pps).elim, fun _ => ⟨rfl, rfl, rfl, rfl⟩⟩
  · rw [if_neg pps, align]
    exact ⟨frame _ rfl, fun _ => rfl, fun yes => (pps yes).elim⟩

theorem exec_ppsInEdge : exec (.ppsInEdge sub width) s = .next (pmAlign s (ppsInEdge sub width s)) := rfl

theorem exec_ppsInLos : exec .ppsInLos s = .next (refLosses (ppsInLos s)) := rfl

/-! ### The obligation -/

/-- Settles O11: the counter advances by the ticks, the source is the one that `chooseSource` names, and a window's mean acts as
the servo's state and the two thresholds say. -/
theorem timeOfDay : Obligations.TimeOfDay := by
  unfold Obligations.TimeOfDay
  refine ⟨fun n s => ⟨exec_timeTick_off, fun on none_ noStep => ⟨?_, ?_⟩, ?_⟩, fun s => rfl,
    fun s held => ⟨fun same => reselect_same held same, fun switch => ?_⟩,
    fun s => ⟨rfl, rfl, fun _ _ => rfl, ?_, ?_⟩,
    fun s => ⟨?_, fun src i n => ⟨?_, ?_, ?_, ?_⟩, fun th => ⟨rfl, rfl⟩⟩,
    fun q s run => ⟨?_, ?_, ?_⟩, fun q s run => ⟨?_, ?_, ?_⟩, fun sub width s => ⟨?_, ?_, ?_⟩, fun s => ⟨?_, ?_⟩⟩
  · intro waits
    rw [exec_timeTick_on on, timeTick_forward (none_ ▸ Int.le_refl 0), ticked_none none_]
    rcases waits with noTarget | held
    · exact congrArg Host.Outcome.next (applyStep_none noTarget noStep)
    · exact congrArg Host.Outcome.next (applyStep_held held)
  · intro v target open_
    refine ⟨_, exec_timeTick_on on, ?_⟩
    have step := applyStep_to (s := ticked n (min s.time.adjust (n * 8 * max 0 (slewLimit s))) s) open_ target
    rw [timeTick_forward (none_ ▸ Int.le_refl 0), step]
    exact ⟨rfl, rfl, rfl, rfl⟩
  · intro on forward noTarget noStep
    refine ⟨_, exec_timeTick_on on, ?_⟩
    rw [timeTick_forward forward]
    exact congrArg (·.time.adjust) (applyStep_none (s := ticked n _ s) noTarget noStep)
  · obtain ⟨inUse, sum, count, _, _⟩ := servoMoved_keeps (src := chooseSource s) (s := sourceTaken (chooseSource s) s)
    rw [reselect_switch held switch]
    refine ⟨servoMoved_taken_frame, servoMoved_par, inUse, sum, count, servoMoved_servo, ?_, fun some_ => servoMoved_quiet some_⟩
    intro none_ servo
    rw [none_]
    exact servoMoved_lost (s := sourceTaken none s) servo
  · intro none_
    exact congrArg Host.Outcome.next (show timeSourceTimer .primaryTenSeconds s = s by unfold timeSourceTimer; rw [none_])
  · intro p prim valid
    refine congrArg Host.Outcome.next (show timeSourceTimer .primaryTenSeconds s = _ from ?_)
    unfold timeSourceTimer
    dsimp only
    rw [prim]
    exact if_pos valid
  · intro idle
    rw [exec_servoWindowEnd, servoWindow_idle idle]
    exact congrArg Host.Outcome.next (pmAlign_kept rfl rfl)
  · exact fun servo => exec_servoWindowEnd_mean i n (windowActs_acquire servo)
  · exact fun servo far => exec_servoWindowEnd_mean i n ((windowActs_locked servo).trans (if_pos far))
  · exact fun servo far high => exec_servoWindowEnd_mean i n ((windowActs_locked servo).trans ((if_neg far).trans (if_neg high)))
  · exact fun servo far high => exec_servoWindowEnd_mean i n ((windowActs_locked servo).trans ((if_neg far).trans (if_pos high)))
  · exact fun no => congrArg Host.Outcome.next (deskRun_done run (by rw [timeSet_eq, no]; rfl))
  · exact fun yes bad => deskRun_badParam run (by rw [timeSet_eq, yes]; exact if_pos bad)
  · exact fun yes good => congrArg Host.Outcome.next (deskRun_done run (by rw [timeSet_eq, yes]; exact if_neg (Nat.not_lt.2 good)))
  · exact fun no => congrArg Host.Outcome.next (deskRun_done run (by rw [timeAdjust_eq, no]; rfl))
  · exact fun yes bad => deskRun_badParam run (by rw [timeAdjust_eq, yes]; exact if_pos bad)
  · exact fun yes good => congrArg Host.Outcome.next (deskRun_done run (by rw [timeAdjust_eq, yes]; exact if_neg (Nat.not_lt.2 good)))
  · intro short
    rw [exec_ppsInEdge, show ppsInEdge sub width s = s from if_pos short]
    exact congrArg Host.Outcome.next (pmAlign_kept rfl rfl)
  · intro long los msg
    rw [exec_ppsInEdge, ppsInEdge_bare long los msg]
    exact congrArg Host.Outcome.next (pmAlign_kept reselect_utc.1 reselect_utc.2)
  · intro m long los msg
    refine ⟨_, exec_ppsInEdge, ?_⟩
    rw [ppsInEdge_named long los msg]
    obtain ⟨frame, same, sample⟩ := edgeSampled_aligned (s := s) (u := reselect (edgeNamed sub m s)) (th := edgeSample sub m s) (m := m)
    refine ⟨frame, same, fun pps => ?_⟩
    obtain ⟨count, offset, valid, sum⟩ := sample pps
    exact ⟨count, offset, valid, sum.trans (by unfold edgeSample; rw [Nat.cast_mul]; rfl)⟩
  · intro los
    rw [exec_ppsInLos, show ppsInLos s = s from if_pos los]
  · intro los
    rw [exec_ppsInLos]
    exact congrArg (fun x => Host.Outcome.next (refLosses x)) (if_neg (by rw [los]; exact Bool.noConfusion))

end Sys2Proof.Machine
end

section
/-! Serial time, the Colophon, TIME bursts and the PTP transparent clock (11_time_references.md R263 to R272;
14_command_reference.md R356). -/

namespace Sys2Proof.Machine

variable {q : Request} {s t u : State} {bs : List Byte} {c : Fin 2} {g : Fin 16} {b j : Fin 48} {m : PtpMsg} {burst : TimeBurst} {n : Nat}

/-! ### TOD_IN and TOD_OUT (R263, R264) -/

theorem todInOk_parts (h : todInOk bs s = true) : bs.length = 16 ∧ beAt bs 14 2 = crc16 (bs.take 14) ∧ byteAt bs 0 = 0x5A ∧
    byteAt bs 1 = 0xA5 ∧ 62500000 ≤ s.dev.ticks - s.time.ppsLastTick ∧ ∀ n, s.time.lastNamed = some n → beAt bs 4 6 = n + 1 := by
  simp only [todInOk, Bool.and_eq_true, beq_iff_eq, decide_eq_true_eq] at h
  obtain ⟨⟨⟨⟨⟨⟨⟨⟨length, sync⟩, sync2⟩, _⟩, crc⟩, _⟩, early⟩, _⟩, next⟩ := h
  refine ⟨length, crc, sync, sync2, early, fun n named => ?_⟩
  rw [named] at next
  exact beq_iff_eq.1 next

theorem todInMessage_eq : todInMessage bs s = if todInOk bs s then
      { s with time := { s.time with
          todMsg := some { sec := beAt bs 4 6, flags := byteAt bs 3, utcOffset := signedOf 16 (beAt bs 10 2) } } }
    else raise 235 objTime (evtArg 0 0 0 0) { s with time := { s.time with todInErrs := bump s.time.todInErrs, lastNamed := none } } := rfl

theorem ppsOutOn_iff : ppsOutOn s = true ↔
    if getPar s .r285 objTime 0x101 = 0 then s.time.servo = .locked ∨ s.time.servo = .holdover else s.time.todValid = true := by
  unfold ppsOutOn
  split <;> simp

theorem ppsOutEdge_eq : ppsOutEdge s = if ppsOutOn s then
      { s with time := { s.time with
          ppsOutSec := some ((s.tod16 + (divRound (getPar s .r285 objTime 0xF1 * 65536) 16000).toNat) / fracPerSec),
          ppsOutWidth := getParN s .r285 objTime 0x100 } }
    else { s with time := { s.time with ppsOutSec := none, ppsOutWidth := 0 } } := rfl

theorem todOutSend_none (h : s.time.ppsOutSec = none) : todOutSend s = s := by
  unfold todOutSend
  rw [h]

theorem todOutSend_some (h : s.time.ppsOutSec = some n) : todOutSend s = if ppsOutOn s then
    { s with time := { s.time with todOut := todOutMessage s.time (n + 1) :: s.time.todOut } } else s := by
  unfold todOutSend
  rw [h]
  rfl

theorem todOutSend_squelched (h : ¬ppsOutOn s = true) : todOutSend s = s := by
  cases sec : s.time.ppsOutSec with
  | none => exact todOutSend_none sec
  | some n => exact (todOutSend_some sec).trans (if_neg h)

/-! ### The Colophon (R265 to R267) -/

/-- A Colophon field is discarded: it came poisoned, or its CRC is wrong. -/
def colophonBad (bs : List Byte) (poisoned : Bool) : Prop := poisoned = true ∨ beAt bs 14 2 ≠ crc16 (bytesAt bs 0 14)

/-- The stamp of a Colophon field. -/
def colophonStamp (bs : List Byte) : Nat := stampVal { sec := beAt bs 2 6, ns := beAt bs 8 4, frac := beAt bs 12 2 }

theorem colophonRecord_discarded {p : Bool} (h : colophonBad bs p) : colophonRecord c g bs p s =
    { s with time := { s.time with crcFails := bump s.time.crcFails } } := by
  refine if_pos ?_
  rcases h with h | h <;> simp [h]

theorem colophonRecord_kept {p : Bool} (h : ¬colophonBad bs p) : colophonRecord c g bs p s =
    if byteAt bs 0 / 64 = 1 then onLink c g (fun l => { l with farTx := some (byteAt bs 1, colophonStamp bs), goodTx := true }) s
    else if byteAt bs 0 / 64 = 2 then onLink c g (fun l => { l with farRx := some (byteAt bs 1, colophonStamp bs), goodRx := true }) s
    else s := by
  refine if_neg fun bad => h ?_
  simpa [colophonBad] using bad

theorem exec_colophonRecordReceived : exec (.colophonRecordReceived c g bs) s =
    .next (reselect (colophonRecord c g (ohField 160 (padTo 16 bs)) (!(chutePoison (10 + c.val) 23 s).1.isEmpty)
      (chutePoison (10 + c.val) 23 s).2)) := rfl

theorem poisoned_iff {α : Type} {l : List α} : (!l.isEmpty) = true ↔ l ≠ [] := by simp

theorem exec_colophonSample : exec (.colophonSample c g) s = .next (colophonSample c g s) := rfl

/-- A link whose volume's pairs are used up. -/
def pairsUsed (c : Fin 2) (g : Fin 16) (s : State) : State := onLink c g (fun l => { l with goodTx := false, goodRx := false }) s

theorem colophonSample_none (h : (s.lnk c g).farRx = none ∨ (s.lnk c g).farTx = none ∨ (s.lnk c g).burst = none) :
    colophonSample c g s = reselect (pairsUsed c g s) := by
  unfold colophonSample
  dsimp only
  split
  · next rx tx b x y z =>
    rw [x, y, z] at h
    simp at h
  · rfl

/-- A sample is in hand: both directions' delays, the mean path delay and the offset (R267). -/
theorem colophonSample_some {rx tx : Nat × Nat} {t1 t4 : Nat} (x : (s.lnk c g).farRx = some rx) (y : (s.lnk c g).farTx = some tx)
    (z : (s.lnk c g).burst = some burst) (e1 : stampFor (s.fol c g).txVolume (s.lnk c g).tx rx.1 = some t1)
    (e4 : stampFor (s.fol c g).rxVolume (s.lnk c g).rx tx.1 = some t4) :
    let dOut : Int := ((rx.2 : Int) * 125 - burst.dlyRx * 512) - ((t1 : Int) * 125 + linkPar s c g 0xE2 * 512)
    let dIn : Int := ((t4 : Int) * 125 - linkPar s c g 0xE3 * 512) - ((tx.2 : Int) * 125 + burst.dlyTx * 512)
    let a := asymmetry s c g burst
    let th := divRound (dOut - dIn - a) 2
    let u := reselect (onLink c g (fun l => { l with theta := th, mpd := divRound (dOut + dIn) 2, asym := a }) s.drawn)
    colophonSample c g s = pairsUsed c g (if u.time.inUse = some (.colophon c g) then addSample (divRound th 125) u else u) := by
  unfold colophonSample
  dsimp only
  rw [x, y, z]
  dsimp only
  rw [e1, e4]
  rfl

theorem asymmetry_fixed (h : linkPar s c g 0xE5 = 1) : asymmetry s c g burst = linkPar s c g 0xE4 * 512 := if_pos h

theorem asymmetry_dispersion (h : linkPar s c g 0xE5 ≠ 1) (p : linkPar s c g 0xE1 ≠ 0) (f : burst.freq ≠ 0) : asymmetry s c g burst =
    divRound ((burst.cdTotal + (s.rxg c g).cdTotal) * 299792458000 * (burst.freq - linkPar s c g 0xE1) * 8192)
      (32 * linkPar s c g 0xE1 * burst.freq).toNat + linkPar s c g 0xE4 * 512 :=
  (if_neg h).trans (if_neg (not_or.2 ⟨p, f⟩))

/-! ### TIME bursts (R269) -/

theorem timeBurstBytes_length : (timeBurstBytes s c g).length = 40 := by
  simp [timeBurstBytes, beBytes_length]

theorem timeBurstSend_eq : timeBurstSend c g s =
    if linkRole s c g = 0 then s else ilEnqueue c 2 (ilPeer s g) (timeBurstBytes s c g) s := rfl

/-! ### The transparent clock (R270 to R272) -/

/-- The transparent clock acts on a message of a bond. -/
theorem ptp_acts (on : tcOn s b = true) (h : m.handled = true) : (tcOn s b && m.handled) = true := by rw [on, h]; rfl

theorem ptp_passes (h : tcOn s b = false ∨ m.handled = false) : ¬(tcOn s b && m.handled) = true := by
  rcases h with h | h <;> rw [h]
  · exact Bool.noConfusion
  · rw [Bool.and_false]; exact Bool.noConfusion

/-- The residence time of a message (R271), and the message with it added. -/
def ptpResidence (now : Nat) (m : PtpMsg) : Nat := (now + 2 ^ 32 - m.field % 2 ^ 32) % 2 ^ 32

def ptpCorrected (d : Nat) (m : PtpMsg) : PtpMsg :=
  let cor := (m.correction + d * 4096) % 2 ^ 64
  { m with correction := cor, field := 0, carry :=
      carryAfter (carryAfter (carryAfter m.carry m.field 0) (m.correction / 2 ^ 32) (cor / 2 ^ 32)) (m.correction % 2 ^ 32) (cor % 2 ^ 32) }

/-- A bond's transparent clock after an egress message. -/
def ptpCounted (servo : Servo) (d : Nat) (m : PtpMsg) (p : PtpBond) : PtpBond :=
  { p with corrected := bump p.corrected, notLocked := if servo = .locked then p.notLocked else bump p.notLocked,
           overLimit := if 268000000 * 16 < d then bump p.overLimit else p.overLimit, last := some (ptpCorrected d m) }

theorem ptpEgress_acts {sub : Nat} (on : tcOn s b = true) (h : m.handled = true) : ptpEgress b sub m s =
    let d := ptpResidence (ptpStamp16 s sub) m
    if 268000000 * 16 < d then raise 236 (objBond b) (evtArg 0 0 0 0) (onPtp b (ptpCounted s.time.servo d m) s)
    else onPtp b (ptpCounted s.time.servo d m) s := if_pos (ptp_acts on h)

theorem onPtp_same {f : PtpBond → PtpBond} : (onPtp b f s).time.ptp[b] = f s.time.ptp[b] := by
  show (upd s.time.ptp b f)[b] = _
  rw [upd_get, if_pos rfl]

theorem onPtp_other {f : PtpBond → PtpBond} (h : j ≠ b) : (onPtp b f s).time.ptp[j] = s.time.ptp[j] := by
  show (upd s.time.ptp b f)[j] = _
  rw [upd_get, if_neg (Ne.symm h)]

theorem ptpTcSet_eq : ptpTcSet q s =
    if 1 < u8 q 4 then (s, badParam 4)
    else if !ethTerminate (getNat {} s.bonds (objIndex q)) then (s, refuse stBadState)
    else (keepBody 0x0B10 q s, ok) := rfl

/-! ### The obligation -/

/-- Settles O12: the samples and the residence times are computed as R267 and R271 say, each division rounded once (the rounding
is the model's choice, log 91). -/
theorem timeMessages : Obligations.TimeMessages := by
  unfold Obligations.TimeMessages
  refine ⟨fun bs s => ⟨?_, ?_, todInOk_parts⟩, fun s => ⟨?_, ?_, ?_, ?_⟩, fun c g raw s => ⟨?_, ?_, ?_, ?_⟩,
    fun c g s => ⟨?_, ?_, fun b => ⟨asymmetry_fixed, asymmetry_dispersion⟩⟩, fun c g s => ⟨?_, ?_, timeBurstBytes_length⟩,
    fun b sub m s => ⟨?_, ?_, ?_⟩, fun s b v body one eth => ?_, fun q s run => ⟨?_, ?_, ?_⟩⟩
  · exact fun good => congrArg Host.Outcome.next (todInMessage_eq.trans (if_pos good))
  · exact fun bad => congrArg Host.Outcome.next (todInMessage_eq.trans (if_neg (by rw [bad]; exact Bool.noConfusion)))
  · intro off
    have quiet : ¬ppsOutOn s = true := fun on => off (ppsOutOn_iff.1 on)
    exact ⟨congrArg Host.Outcome.next (ppsOutEdge_eq.trans (if_neg quiet)), congrArg Host.Outcome.next (todOutSend_squelched quiet)⟩
  · exact fun on => congrArg Host.Outcome.next (ppsOutEdge_eq.trans (if_pos (ppsOutOn_iff.2 on)))
  · exact fun none_ => congrArg Host.Outcome.next (todOutSend_none none_)
  · exact fun n on sec => congrArg Host.Outcome.next ((todOutSend_some sec).trans (if_pos (ppsOutOn_iff.2 on)))
  · intro bad
    rw [exec_colophonRecordReceived, colophonRecord_discarded (bad.imp_left poisoned_iff.2)]
  · intro good kind
    rw [exec_colophonRecordReceived, colophonRecord_kept fun bad => good (bad.imp_left poisoned_iff.1)]
    exact congrArg (fun x => Host.Outcome.next (reselect x)) (if_pos kind)
  · intro good kind
    rw [exec_colophonRecordReceived, colophonRecord_kept fun bad => good (bad.imp_left poisoned_iff.1)]
    exact congrArg (fun x => Host.Outcome.next (reselect x)) ((if_neg (by rw [kind]; decide)).trans (if_pos kind))
  · intro good one two
    rw [exec_colophonRecordReceived, colophonRecord_kept fun bad => good (bad.imp_left poisoned_iff.1)]
    exact congrArg (fun x => Host.Outcome.next (reselect x)) ((if_neg one).trans (if_neg two))
  · exact fun h => congrArg Host.Outcome.next (colophonSample_none h)
  · intro rx tx burst t1 t4 x y z e1 e4
    rw [exec_colophonSample, colophonSample_some x y z e1 e4]
    dsimp only
    split <;> rfl
  · exact fun off => congrArg Host.Outcome.next (timeBurstSend_eq.trans (if_pos off))
  · exact fun on => congrArg Host.Outcome.next (timeBurstSend_eq.trans (if_neg on))
  · exact fun h => ⟨congrArg Host.Outcome.next (if_neg (ptp_passes h)), congrArg Host.Outcome.next (if_neg (ptp_passes h))⟩
  · exact fun on h => congrArg Host.Outcome.next (if_pos (ptp_acts on h))
  · intro on h
    exact ⟨onPtp b (ptpCounted s.time.servo (ptpResidence (ptpStamp16 s sub.val) m) m) s,
      ptpCorrected (ptpResidence (ptpStamp16 s sub.val) m) m, congrArg Host.Outcome.next (ptpEgress_acts on h), rfl, rfl, rfl, rfl, rfl,
      congrArg PtpBond.last onPtp_same, congrArg PtpBond.corrected onPtp_same, congrArg PtpBond.notLocked onPtp_same,
      congrArg PtpBond.overLimit onPtp_same, fun j other => onPtp_other other, rfl⟩
  · unfold tcOn
    rw [eth, body]
    exact beq_iff_eq.2 one
  · exact fun bad => deskRun_badParam run (ptpTcSet_eq.trans (if_pos bad))
  · exact fun low eth => congrArg Host.Outcome.next (deskRun_done run (by
      rw [ptpTcSet_eq, if_neg (Nat.not_lt.2 low), eth]; rfl))
  · exact fun low eth => congrArg Host.Outcome.next (deskRun_done run (by
      rw [ptpTcSet_eq, if_neg (Nat.not_lt.2 low), eth]; rfl))

end Sys2Proof.Machine
end

section
/-! Lane provisioning, the lane states, lane tests and loopbacks (12_host_lanes.md R288 to R303; 14_command_reference.md R358,
R359). -/

namespace Sys2Proof.Machine

variable {q : Request} {s t u : State} {l j : Fin 48} {st : LaneState} {techs : List (Nat × Nat)} {seen : LaneSeen}

theorem lane_fin : s.lane l.val = s.lanes[l] := getNat_fin l

theorem onLane_same {f : Lane → Lane} : (onLane l f s).lanes[l] = f s.lanes[l] := by
  show (upd s.lanes l f)[l] = _
  rw [upd_get, if_pos rfl]

theorem onLane_other {f : Lane → Lane} (h : j ≠ l) : (onLane l f s).lanes[j] = s.lanes[j] := by
  show (upd s.lanes l f)[j] = _
  rw [upd_get, if_neg (Ne.symm h)]

/-- No provisioned bond covers a lane. -/
def laneFree (l : Fin 48) (s : State) : Prop := ∀ b : Fin 48, ¬(s.bonds[b].provisioned = true ∧ b.val ≤ l.val ∧ l.val < b.val + s.bonds[b].k)

theorem laneChanged_free (h : laneFree l s) : laneChanged l.val s = s := by
  have none_ : ((List.finRange 48).find? fun b => s.bonds[b].provisioned && b.val ≤ l.val && l.val < b.val + s.bonds[b].k) = none := by
    refine List.find?_eq_none.2 fun b _ on => h b ?_
    simpa [and_assoc] using on
  unfold laneChanged
  rw [none_]

/-! ### Provisioning (R288, R289, R358) -/

def laneModeOf (n : Nat) : LaneMode := if n = 0 then .anKr else if n = 1 then .training else if n = 2 then .fixed else .stepped

/-- The lane that a request provisions, and its octet's domain requested (R390). -/
def laneTaken (l : Fin 48) (y : Nat) (q : Request) (s : State) : State :=
  requestDomain (2 + l.val / 8) .run (beginTransition (.lane l.val) 0x0C01 q (onLane l (fun x => { x with
    provisioned := true, rate := u32 q 4, mode := laneModeOf (u8 q 8), preset := tapsOf q, taps := tapsOf q, synth := y, los := true
    lol := false, excluded := false, stored := [] }) (keepBody 0x0C01 q s)))

theorem laneProvision_eq (h : objIndex q = l.val) : laneProvision q s =
    if s.lanes[l].provisioned ∨ stopHeld (2 + l.val / 8) s then (s, refuse stBadState)
    else if !(laneRates.any fun r => r.1 == u32 q 4) then (s, badParam 4)
    else if 3 < u8 q 8 ∨ (u8 q 8 = 3 ∧ l.val < 32) then (s, badParam 8)
    else if (tapsOf q).getD 3 0 ≤ 0 ∨ 128 < ((tapsOf q).map Int.natAbs).sum then (s, badParam 12)
    else match pickSynth s l.val (u32 q 4) with
      | none => (s, refuse stNoCapacity)
      | some y =>
        let u := laneTaken l y q s
        (if u.dom (2 + l.val / 8) = .run then octetUp (l.val / 8) u else u, .later) := by
  unfold laneProvision
  rw [h]
  dsimp only
  rw [lane_fin]
  simp only [dif_pos l.isLt]
  rfl

theorem rate_known {n : Nat} : (!(laneRates.any fun r => r.1 == n)) = true ↔ ∀ r ∈ laneRates, r.1 ≠ n := by simp

theorem laneProvision_open (h : objIndex q = l.val) (off : s.lanes[l].provisioned = false) (held : ¬stopHeld (2 + l.val / 8) s = true) :
    laneProvision q s =
    if !(laneRates.any fun r => r.1 == u32 q 4) then (s, badParam 4)
    else if 3 < u8 q 8 ∨ (u8 q 8 = 3 ∧ l.val < 32) then (s, badParam 8)
    else if (tapsOf q).getD 3 0 ≤ 0 ∨ 128 < ((tapsOf q).map Int.natAbs).sum then (s, badParam 12)
    else match pickSynth s l.val (u32 q 4) with
      | none => (s, refuse stNoCapacity)
      | some y =>
        let u := laneTaken l y q s
        (if u.dom (2 + l.val / 8) = .run then octetUp (l.val / 8) u else u, .later) :=
  (laneProvision_eq h).trans (if_neg (not_or.2 ⟨by rw [off]; exact Bool.noConfusion, held⟩))

theorem laneProvision_rate (h : objIndex q = l.val) (off : s.lanes[l].provisioned = false) (held : ¬stopHeld (2 + l.val / 8) s = true)
    (rate : ∃ r ∈ laneRates, r.1 = u32 q 4) : laneProvision q s =
    if 3 < u8 q 8 ∨ (u8 q 8 = 3 ∧ l.val < 32) then (s, badParam 8)
    else if (tapsOf q).getD 3 0 ≤ 0 ∨ 128 < ((tapsOf q).map Int.natAbs).sum then (s, badParam 12)
    else match pickSynth s l.val (u32 q 4) with
      | none => (s, refuse stNoCapacity)
      | some y =>
        let u := laneTaken l y q s
        (if u.dom (2 + l.val / 8) = .run then octetUp (l.val / 8) u else u, .later) :=
  (laneProvision_open h off held).trans (if_neg fun no => by
    obtain ⟨r, mem, eq⟩ := rate
    exact rate_known.1 no r mem eq)

theorem laneDeprovision_bonded (h : objIndex q = l.val) (b : (bondOfLane s l.val).isSome = true) :
    laneDeprovision q s = (s, refuse stBadState) := by
  unfold laneDeprovision
  rw [h]
  exact if_pos b

/-- A lane that is deprovisioned is OFF; its counts stay (R294, R358). -/
def laneDropped (l : Fin 48) (s : State) : State :=
  onLane l (fun x => { x with provisioned := false, loop := 0, loopNext := none, excluded := false, stored := [] })
    (dropBody 0x0C01 (objLane l.val) (laneTo l .off (terminate (.lane l.val) s)))

theorem laneDeprovision_free (h : objIndex q = l.val) (b : (bondOfLane s l.val).isSome = false) : laneDeprovision q s =
    (if (linkLanes (laneDropped l s)).isEmpty then { laneDropped l s with link := {} } else laneDropped l s, ok) := by
  unfold laneDeprovision
  rw [h]
  simp only [b, Bool.false_eq_true, if_false, dif_pos l.isLt]
  rfl

/-! ### Signal and lock (R294, R298, R300) -/

/-- A lane in WAIT with its signal goes on, unless it is EXCLUDED (R294, R297). -/
theorem laneWait_eq : laneWait l s = if s.lanes[l].los || s.lanes[l].excluded then laneTo l .wait s
    else if s.lanes[l].mode = .anKr then laneTo l .an s else laneTrain l s := rfl

theorem raiseLane_lanes {n k : Nat} : (raiseLane n l k s).lanes = s.lanes := rfl

/-- LOS has declared: a lane of a step under way fails it (R297). -/
def losDeclared (l : Fin 48) (s : State) : State :=
  let fail := isStepped s.lanes[l] ∧ (s.link.phase = .training ∨ s.link.phase = .soak)
  onLane l (fun x => { x with
    los := true, losCount := bump x.losCount, pass := if fail then some false else x.pass, trained := x.trained && !decide fail }) s

theorem laneLos_eq : laneLos l s = if s.lanes[l].st = .off ∨ s.lanes[l].los ∨ s.lanes[l].rxDir = .sleep then s
    else linkTrained (laneTo l .wait (raiseLane 256 l 1 (losDeclared l s))) := rfl

/-- LOS has cleared. -/
def losCleared (l : Fin 48) (s : State) : State := raiseLane 256 l 0 (onLane l (fun x => { x with los := false }) s)

theorem laneLosClear_eq : laneLosClear l s = if s.lanes[l].st = .off ∨ !s.lanes[l].los then s
    else if s.lanes[l].st = .wait then laneWait l (losCleared l s) else losCleared l s := rfl

theorem losCleared_lane : (losCleared l s).lanes[l] = { s.lanes[l] with los := false } := by
  unfold losCleared
  rw [raiseLane_lanes, onLane_same]

theorem laneWait_losCleared : laneWait l (losCleared l s) = if s.lanes[l].excluded then laneTo l .wait (losCleared l s)
    else if s.lanes[l].mode = .anKr then laneTo l .an (losCleared l s) else laneTrain l (losCleared l s) := by
  rw [laneWait_eq, losCleared_lane]
  rfl

/-- Lock is lost: a lane of the link retrains from its stored taps (R297). -/
def lolDeclared (l : Fin 48) (s : State) : State :=
  let x := s.lanes[l]
  raiseLane 257 l 1 (onLane l (fun x' => { x' with
    lol := true, lolCount := bump x'.lolCount, trained := false, pass := none
    taps := if isStepped x then lookupD x'.taps s.link.cls x'.stored else x'.taps }) s)

theorem laneLol_eq : laneLol l s = if s.lanes[l].st ≠ .up then s
    else if s.lanes[l].mode = .anKr then laneTo l .an (lolDeclared l s) else laneTrain l (lolDeclared l s) := rfl

/-! ### Negotiation and training (R292, R294, R296) -/

/-- A negotiation has failed. -/
def anFailed (l : Fin 48) (s : State) : State := raiseLane 258 l 0 (onLane l (fun x => { x with anFails := bump x.anFails }) s)

/-- The technology that a lane advertises: that of its bond. -/
def techOf (l : Fin 48) (s : State) : Option (Nat × Nat) := (bondOfLane s l.val).map fun b => (s.bonds[b].iface, s.bonds[b].k)

theorem anResolved_eq : anResolved l techs s = if s.lanes[l].st ≠ .an then s
    else if (techOf l s).any techs.contains then laneTrain l s else anFailed l s := rfl

theorem techOf_common : (techOf l s).any techs.contains = true ↔
    ∃ b, bondOfLane s l.val = some b ∧ (s.bonds[b].iface, s.bonds[b].k) ∈ techs := by
  unfold techOf
  cases bondOfLane s l.val <;> simp

theorem anTimeout_eq : anTimeout l s = if s.lanes[l].st ≠ .an then s else laneWait l (anFailed l s) := rfl

/-- A lane has trained and is UP. -/
def laneLocked (l : Fin 48) (s : State) : State :=
  raiseLane 260 l 0 (laneTo l .up (onLane l (fun x => { x with lol := false, trained := isStepped x }) s))

theorem laneTrained_eq : laneTrained l s = if s.lanes[l].st ≠ .train then s
    else if isStepped s.lanes[l] ∧ s.link.phase ≠ .up then
      if s.link.phase = .training ∧ s.lanes[l].pass.isNone then linkTrained (onLane l (fun x => { x with trained := true }) s) else s
    else if s.lanes[l].lol then raiseLane 257 l 0 (laneLocked l s) else laneLocked l s := rfl

/-- The training time of a lane has run out. -/
def trainFailed (l : Fin 48) (s : State) : State := raiseLane 259 l 0 (onLane l (fun x => { x with trainFails := bump x.trainFails }) s)

/-- A lane without signal that takes part in a step (R297). -/
def waitsInStep (l : Fin 48) (s : State) : Bool :=
  isStepped s.lanes[l] && s.lanes[l].st == .wait && s.link.phase == .training && s.lanes[l].pass.isNone && !s.lanes[l].excluded

/-- A lane has trained: in a step of the link, at both ends. -/
def hasTrained (l : Fin 48) (s : State) : Bool :=
  if isStepped s.lanes[l] ∧ s.link.phase ≠ .up then s.lanes[l].complete else s.lanes[l].trained

theorem trainingTimeout_eq : trainingTimeout l s =
    if (s.lanes[l].st ≠ .train ∧ !waitsInStep l s) ∨ hasTrained l s then s
    else if !isStepped s.lanes[l] then laneWait l (trainFailed l s)
    else if s.link.phase = .up then raiseLink 263 (laneExclude l (trainFailed l s))
    else linkTrained (onLane l (fun x => { x with pass := some false }) (trainFailed l s)) := rfl

theorem trainingTimeout_runs (on : s.lanes[l].st = .train) (h : ¬hasTrained l s = true) : trainingTimeout l s =
    if !isStepped s.lanes[l] then laneWait l (trainFailed l s)
    else if s.link.phase = .up then raiseLink 263 (laneExclude l (trainFailed l s))
    else linkTrained (onLane l (fun x => { x with pass := some false }) (trainFailed l s)) :=
  trainingTimeout_eq.trans (if_neg (not_or.2 ⟨fun h => h.1 on, h⟩))

/-! ### Tests and loopbacks (R301, R302, R359) -/

/-- A pattern of PAM4 that a lane at an NRZ rate cannot take. -/
def pamOnly (x : Lane) (p : Nat) : Bool := 7 ≤ p && p ≤ 9 && x.provisioned && classOf x.rate == 0

theorem pamOnly_iff {x : Lane} {p : Nat} : pamOnly x p = true ↔ 7 ≤ p ∧ p ≤ 9 ∧ x.provisioned = true ∧ classOf x.rate = 0 := by
  simp [pamOnly, and_assoc]

/-- The generator and the checker are set. -/
def testSet (q : Request) (s : State) : State :=
  onLane (reqLane q) (fun x => { x with
    gen := u8 q 4, chk := u8 q 5, inject := u8 q 6, injectLive := bit (u8 q 7) 0, user := u64 q 8
    testBits := if bit (u8 q 7) 2 then 0 else x.testBits, testErrs := if bit (u8 q 7) 2 then 0 else x.testErrs
    testSyms := if bit (u8 q 7) 2 then 0 else x.testSyms }) (laneWoken (reqLane q) (keepBody 0x0C04 q s))

theorem laneTestSet_eq : laneTestSet q s =
    if 11 < u8 q 4 ∨ pamOnly (s.lane (objIndex q)) (u8 q 4) then (s, badParam 4)
    else if 11 < u8 q 5 ∨ pamOnly (s.lane (objIndex q)) (u8 q 5) then (s, badParam 5)
    else if u8 q 6 = 2 ∨ 12 < u8 q 6 then (s, badParam 6)
    else if laneNeedsForce s (objIndex q) ∧ !bit (u8 q 7) 1 then (s, refuse stBadState)
    else (testSet q s, ok) := rfl

/-- The patterns that a request names are ones that the lane takes. -/
def patternsGood (q : Request) (s : State) : Prop :=
  u8 q 4 ≤ 11 ∧ ¬pamOnly (s.lane (objIndex q)) (u8 q 4) ∧ u8 q 5 ≤ 11 ∧ ¬pamOnly (s.lane (objIndex q)) (u8 q 5)

theorem laneTestSet_patterns (h : patternsGood q s) : laneTestSet q s =
    if u8 q 6 = 2 ∨ 12 < u8 q 6 then (s, badParam 6)
    else if laneNeedsForce s (objIndex q) ∧ !bit (u8 q 7) 1 then (s, refuse stBadState)
    else (testSet q s, ok) := by
  obtain ⟨gen, genPam, chk, chkPam⟩ := h
  rw [laneTestSet_eq, if_neg (not_or.2 ⟨Nat.not_lt.2 gen, genPam⟩), if_neg (not_or.2 ⟨Nat.not_lt.2 chk, chkPam⟩)]

theorem patternsGood_of (h : u8 q 4 ≤ 11 ∧ ¬(7 ≤ u8 q 4 ∧ u8 q 4 ≤ 9 ∧ (s.lane (objIndex q)).provisioned = true ∧
      classOf (s.lane (objIndex q)).rate = 0) ∧ u8 q 5 ≤ 11 ∧ ¬(7 ≤ u8 q 5 ∧ u8 q 5 ≤ 9 ∧ (s.lane (objIndex q)).provisioned = true ∧
      classOf (s.lane (objIndex q)).rate = 0)) : patternsGood q s := by
  obtain ⟨gen, genPam, chk, chkPam⟩ := h
  exact ⟨gen, fun h => genPam (pamOnly_iff.1 h), chk, fun h => chkPam (pamOnly_iff.1 h)⟩

/-- The loopback is set; it is in force at the relock. -/
def loopbackSet (q : Request) (s : State) : State :=
  onLane (reqLane q) (fun x => { x with
    loopNext := some (u8 q 4), synth := if u8 q 4 = 3 then (freeSynth s (objIndex q)).getD x.synth else x.synth })
    (laneWoken (reqLane q) (keepBody 0x0C05 q s))

theorem laneLoopbackSet_eq : laneLoopbackSet q s =
    if 3 < u8 q 4 then (s, badParam 4)
    else if 1 < u8 q 5 then (s, badParam 5)
    else if laneNeedsForce s (objIndex q) ∧ u8 q 5 = 0 then (s, refuse stBadState)
    else if u8 q 4 = 3 ∧ (freeSynth s (objIndex q)).isNone then (s, refuse stNoCapacity)
    else (loopbackSet q s, ok) := rfl

/-- A lane whose loopback has come into force. -/
def Lane.relocked (x : Lane) : Lane := match x.loopNext with
  | some v => { x with loop := v, loopNext := none }
  | none => x

theorem exec_loopbackRelock : exec (.loopbackRelock l) s = .next (onLane l Lane.relocked s) := rfl

theorem relocked_loop {x : Lane} : x.relocked.loopNext = none ∧ x.relocked.loop = x.loopNext.getD x.loop := by
  unfold Lane.relocked
  split
  · next h => exact ⟨rfl, by rw [h]; rfl⟩
  · next h => exact ⟨h, by rw [h]; rfl⟩

theorem laneMateRetrain_eq : laneMateRetrain q s =
    if !isStepped (s.lane (objIndex q)) then (s, refuse stBadState) else (linkRestart s, ok) := rfl

/-! ### The obligation -/

theorem exec_laneProvision (run : runs 0x0C01 q s = true) {v : State} {r : Resp} (e : laneProvision q s = (v, .done r)) :
    exec (.laneProvision q) s = .next (complete q.ch q.tag r v) := congrArg Host.Outcome.next (deskRun_done run e)

/-- Settles O13: each request refuses in the order of its fields and else acts, and each of the lane's events acts in the states
that R294 gives it. -/
theorem laneBringUp : Obligations.LaneBringUp := by
  unfold Obligations.LaneBringUp
  refine ⟨fun l st s free => laneChanged_free free,
    fun l q s at_ run => ⟨?_, fun off held => ⟨?_, fun rate => ⟨?_, ?_, fun mode taps => ⟨?_, fun y synth => ?_⟩⟩⟩⟩,
    fun l q s at_ run => ⟨?_, ?_⟩, fun l s => ⟨?_, ?_, ?_, ?_, ?_, ?_⟩, fun l s => ⟨?_, ?_⟩, fun l s => ⟨?_, ?_, ?_, ?_, ?_, ?_⟩,
    fun q seen s run => ⟨?_, ?_, ?_, ?_⟩, fun q s run => ⟨?_, ?_, ?_, ?_⟩, fun l s => ?_, fun q s run => ?_⟩
  · exact fun no => exec_laneProvision run ((laneProvision_eq at_).trans (if_pos no))
  · exact fun unknown => exec_laneProvision run ((laneProvision_open at_ off held).trans (if_pos (rate_known.2 unknown)))
  · exact fun mode => exec_laneProvision run ((laneProvision_rate at_ off held rate).trans (if_pos mode))
  · exact fun mode taps => exec_laneProvision run ((laneProvision_rate at_ off held rate).trans ((if_neg mode).trans (if_pos taps)))
  · intro none_
    exact exec_laneProvision run ((laneProvision_rate at_ off held rate).trans ((if_neg mode).trans ((if_neg taps).trans (by rw [none_]; rfl))))
  · exact congrArg Host.Outcome.next (deskRun_later run
      ((laneProvision_rate at_ off held rate).trans ((if_neg mode).trans ((if_neg taps).trans (by rw [synth]; rfl)))))
  · exact fun bonded => congrArg Host.Outcome.next (deskRun_done run (laneDeprovision_bonded at_ bonded))
  · exact fun free => congrArg Host.Outcome.next (deskRun_done run (laneDeprovision_free at_ free))
  · exact fun h => congrArg Host.Outcome.next (laneLos_eq.trans (if_pos h))
  · exact fun on clear awake => congrArg Host.Outcome.next (laneLos_eq.trans (if_neg (not_or.2 ⟨on, not_or.2 ⟨by rw [clear]; decide, awake⟩⟩)))
  · exact fun h => congrArg Host.Outcome.next (laneLosClear_eq.trans (if_pos (h.imp_right (by intro e; rw [e]; rfl))))
  · intro on los
    have clears := (laneLosClear_eq (l := l) (s := s)).trans (if_neg (not_or.2 ⟨on, by rw [los]; decide⟩))
    refine ⟨fun up => ?_, fun wait out => ?_, fun wait stays => ?_⟩
    · exact congrArg Host.Outcome.next (clears.trans (if_neg up))
    · exact congrArg Host.Outcome.next (clears.trans ((if_pos wait).trans (laneWait_losCleared.trans (if_pos out))))
    · exact congrArg Host.Outcome.next (clears.trans ((if_pos wait).trans (laneWait_losCleared.trans (if_neg (by rw [stays]; decide)))))
  · exact fun down => congrArg Host.Outcome.next (laneLol_eq.trans (if_pos down))
  · exact fun up => congrArg Host.Outcome.next (laneLol_eq.trans (if_neg (not_not.2 up)))
  · exact fun no => ⟨fun techs => congrArg Host.Outcome.next (anResolved_eq.trans (if_pos no)),
      congrArg Host.Outcome.next (anTimeout_eq.trans (if_pos no))⟩
  · intro an
    refine ⟨fun techs => ⟨fun common => ?_, fun none_ => ?_⟩, congrArg Host.Outcome.next (anTimeout_eq.trans (if_neg (not_not.2 an)))⟩
    · exact congrArg Host.Outcome.next (anResolved_eq.trans ((if_neg (not_not.2 an)).trans (if_pos (techOf_common.2 common))))
    · exact congrArg Host.Outcome.next (anResolved_eq.trans ((if_neg (not_not.2 an)).trans (if_neg fun c => none_ (techOf_common.1 c))))
  · exact fun no => congrArg Host.Outcome.next (laneTrained_eq.trans (if_pos no))
  · intro train alone
    refine congrArg Host.Outcome.next (laneTrained_eq.trans ((if_neg (not_not.2 train)).trans (if_neg fun ⟨step, up⟩ => ?_)))
    exact alone.elim (fun h => Bool.noConfusion (h.symm.trans step)) up
  · intro train step training undecided
    exact congrArg Host.Outcome.next (laneTrained_eq.trans ((if_neg (not_not.2 train)).trans
      ((if_pos ⟨step, by rw [training]; decide⟩).trans (if_pos ⟨training, by rw [undecided]; rfl⟩))))
  · intro alone h
    refine congrArg Host.Outcome.next (trainingTimeout_eq.trans (if_pos ?_))
    refine h.imp (fun no => ⟨no, by unfold waitsInStep; rw [alone]; rfl⟩) fun done => ?_
    rw [hasTrained, if_neg (by rw [alone]; simp)]
    exact done
  · exact fun done => congrArg Host.Outcome.next (trainingTimeout_eq.trans (if_pos (.inr done)))
  · intro train out
    have runs_ := trainingTimeout_runs (l := l) (s := s) train (fun yes => Bool.noConfusion (out.symm.trans yes))
    refine ⟨fun alone => ?_, fun step up => ?_, fun step down => ?_⟩
    · exact congrArg Host.Outcome.next (runs_.trans (if_pos (by rw [alone]; rfl)))
    · exact congrArg Host.Outcome.next (runs_.trans ((if_neg (by rw [step]; decide)).trans (if_pos up)))
    · exact congrArg Host.Outcome.next (runs_.trans ((if_neg (by rw [step]; decide)).trans (if_neg down)))
  · exact fun bad => deskRun_badParam run (laneTestSet_eq.trans (if_pos (bad.imp_right pamOnly_iff.2)))
  · intro gen pam bad
    exact deskRun_badParam run (laneTestSet_eq.trans ((if_neg (not_or.2 ⟨Nat.not_lt.2 gen, fun h => pam (pamOnly_iff.1 h)⟩)).trans
      (if_pos (bad.imp_right pamOnly_iff.2))))
  · exact fun good bad => deskRun_badParam run ((laneTestSet_patterns (patternsGood_of good)).trans (if_pos bad))
  · intro good two twelve
    have sets := (laneTestSet_patterns (patternsGood_of good)).trans (if_neg (not_or.2 ⟨two, Nat.not_lt.2 twelve⟩))
    refine ⟨fun needs none_ => ?_, fun free => ?_⟩
    · exact congrArg Host.Outcome.next (deskRun_done run (sets.trans (if_pos ⟨needs, by rw [none_]; rfl⟩)))
    · refine congrArg Host.Outcome.next (deskRun_done run (sets.trans (if_neg fun ⟨needs, none_⟩ => ?_)))
      exact free.elim (fun h => Bool.noConfusion (h.symm.trans needs)) fun h => by rw [h] at none_; exact Bool.noConfusion none_
  · exact fun bad => deskRun_badParam run (laneLoopbackSet_eq.trans (if_pos bad))
  · exact fun kind bad => deskRun_badParam run (laneLoopbackSet_eq.trans ((if_neg (Nat.not_lt.2 kind)).trans (if_pos bad)))
  · intro kind force needs
    exact congrArg Host.Outcome.next (deskRun_done run (laneLoopbackSet_eq.trans ((if_neg (Nat.not_lt.2 kind)).trans
      ((if_neg (by rw [force]; decide)).trans (if_pos ⟨needs, force⟩)))))
  · intro kind force free
    have allowed : ¬(laneNeedsForce s (objIndex q) = true ∧ u8 q 5 = 0) := fun ⟨needs, none_⟩ =>
      free.elim (fun h => Bool.noConfusion (h.symm.trans needs)) fun h => absurd (none_.symm.trans h) (by decide)
    have sets := laneLoopbackSet_eq.trans ((if_neg (Nat.not_lt.2 kind)).trans ((if_neg (Nat.not_lt.2 force)).trans (if_neg allowed)))
    refine ⟨fun three none_ => ?_, fun some_ => ?_⟩
    · exact congrArg Host.Outcome.next (deskRun_done run (sets.trans (if_pos ⟨three, by rw [none_]; rfl⟩)))
    · refine congrArg Host.Outcome.next (deskRun_done run (sets.trans (if_neg fun ⟨three, none_⟩ => ?_)))
      exact some_.elim (fun h => h three) fun h => Option.isSome_iff_ne_none.1 h (Option.isNone_iff_eq_none.1 none_)
  · exact ⟨_, exec_loopbackRelock, by rw [onLane_same]; exact relocked_loop.1, by rw [onLane_same]; exact relocked_loop.2, rfl,
      fun j other => onLane_other other⟩
  · by_cases step : isStepped (s.lane (objIndex q)) = true
    · rw [if_pos step]
      exact congrArg Host.Outcome.next (deskRun_done run (laneMateRetrain_eq.trans (if_neg (by rw [step]; decide))))
    · rw [if_neg step]
      exact congrArg Host.Outcome.next (deskRun_done run (laneMateRetrain_eq.trans (if_pos (by simpa using step))))

end Sys2Proof.Machine
end

section
/-! The stepped bring-up of the mate link and the low-power states of its lanes (12_host_lanes.md R293 to R299). -/

namespace Sys2Proof.Machine

variable {s t u : State} {l j : Fin 48} {x : Lane} {fr : List Byte} {tap op : Nat} {ms : List (Nat × Nat)}

/-! ### The control field that a lane sends (R295) -/

/-- The code of a lane's result, and whether it has trained. -/
def resultByte (x : Lane) : Nat := (match x.pass with | none => 0 | some true => 64 | some false => 128) + 32 * b2n x.trained

theorem resultByte_bits : bit (resultByte x % 256) 6 = (x.pass == some true) ∧ bit (resultByte x % 256) 7 = (x.pass == some false) ∧
    bit (resultByte x % 256) 5 = x.trained := by
  unfold resultByte
  match x.pass, x.trained with
  | none, false | none, true | some true, false | some true, true | some false, false | some false, true => decide

/-- The decision that a lane's frame carries. -/
def decisionCode (s : State) : Nat :=
  if s.link.master ∧ s.link.phase = .decision then (match linkDecision s with
    | .up => 1 | .hold => 2 | .down => 3 | .restart => 3 | .none => 0) else 0

/-- The 20 bytes of a lane's frame before its CRC. -/
def mateFrameBody (s : State) (l : Fin 48) : List Byte :=
  beBytes 4 0x3C5AA5C3 ++ beBytes 1 (l.val - 32) ++ beBytes 1 s.link.cls ++ beBytes 1 (ownCaps s) ++ beBytes 1 (resultByte s.lanes[l])
    ++ beBytes 2 ((s.freeVal 6).toNat * 1024 + 256 * s.lanes[l].coefStatus) ++ beBytes 1 (decisionCode s)
    ++ beBytes 1 (if decisionCode s = 0 then 0 else s.link.count) ++ beBytes 8 Config.serial.toNat

theorem mateFrameOut_eq : mateFrameOut s l = mateFrameBody s l ++ beBytes 2 (crc16 (mateFrameBody s l)) := rfl

theorem mateFrameBody_length : (mateFrameBody s l).length = 20 := by
  simp only [mateFrameBody, List.length_append, beBytes_length]

theorem mateFrameOut_length : (mateFrameOut s l).length = 22 := by
  rw [mateFrameOut_eq, List.length_append, mateFrameBody_length, beBytes_length]

theorem mateFrameOut_marker : beAt (mateFrameOut s l) 0 4 = 0x3C5AA5C3 := by
  simp only [mateFrameOut_eq, mateFrameBody, List.append_assoc]
  exact beAt_beBytes (l := []) rfl

theorem mateFrameOut_lane : byteAt (mateFrameOut s l) 4 = (l.val - 32) % 256 := by
  simp only [mateFrameOut_eq, mateFrameBody, List.append_assoc]
  exact byteAt_beBytes (beBytes_length 4 _)

theorem mateFrameOut_class : byteAt (mateFrameOut s l) 5 = s.link.cls % 256 := by
  simp only [mateFrameOut_eq, mateFrameBody, List.append_assoc]
  rw [← List.append_assoc]
  exact byteAt_beBytes (by simp only [List.length_append, beBytes_length])

theorem mateFrameOut_result : byteAt (mateFrameOut s l) 7 = resultByte s.lanes[l] % 256 := by
  simp only [mateFrameOut_eq, mateFrameBody, List.append_assoc]
  rw [← List.append_assoc, ← List.append_assoc, ← List.append_assoc]
  exact byteAt_beBytes (by simp only [List.length_append, beBytes_length])

theorem mateFrameOut_crc : beAt (mateFrameOut s l) 20 2 = crc16 (bytesAt (mateFrameOut s l) 0 20) % 65536 := by
  rw [mateFrameOut_eq, beAt_crc16 mateFrameBody_length]
  exact (Nat.mod_eq_of_lt (crc16_lt _)).symm

/-! ### Frames sent and received -/

/-- The frame of this lane counts the master's decision down. -/
def countsDown (l : Fin 48) (s : State) : Prop := s.link.master = true ∧ s.link.phase = .decision ∧ (stepLanes s).head? = some l

theorem sendMateFrame_lane : (sendMateFrame l s).lanes[l] = { s.lanes[l] with frame := mateFrameOut s l } := by
  unfold sendMateFrame
  split <;> exact onLane_same

theorem sendMateFrame_other (h : j ≠ l) : (sendMateFrame l s).lanes[j] = s.lanes[j] := by
  unfold sendMateFrame
  split <;> exact onLane_other h

theorem sendMateFrame_counts (h : countsDown l s) : (sendMateFrame l s).link = { s.link with count := max 1 (s.link.count - 1) } :=
  congrArg State.link (if_pos h)

theorem sendMateFrame_still (h : ¬countsDown l s) : (sendMateFrame l s).link = s.link := by
  have eq : sendMateFrame l s = onLane l (fun x => { x with frame := mateFrameOut s l }) s.drawn := if_neg h
  rw [eq]
  rfl

theorem sendMateFrame_frame : { sendMateFrame l s with lanes := s.lanes, link := s.link, free := s.free } = s := by
  unfold sendMateFrame
  split <;> rfl

/-- A frame that is not discarded (R295). -/
def frameGood (fr : List Byte) : Bool := beAt fr 0 4 == 0x3C5AA5C3 && crc16 (bytesAt fr 0 20) == beAt fr 20 2

theorem frameGood_iff : frameGood fr = true ↔ beAt fr 0 4 = 0x3C5AA5C3 ∧ crc16 (bytesAt fr 0 20) = beAt fr 20 2 := by
  simp [frameGood]

/-- What a good frame brings: the far end's result, its coefficient request and, from the master, its decision. -/
def frameTaken (l : Fin 48) (fr : List Byte) (s : State) : State :=
  let master := decide (beAt fr 12 8 < Config.serial.toNat)
  { onLane l (fun x => ({ x with farPass := field (byteAt fr 7) 6 2 == 1, farTrained := bit (byteAt fr 7) 5 } : Lane).coefficient
      (field (beAt fr 8 2) 12 4) (field (beAt fr 8 2) 10 2)) s with
    link := { s.link with
      farCaps := byteAt fr 6 % 16, master := master, decision := if master then s.link.decision else decisionOf (byteAt fr 10) s.link.cls
      count := if master then s.link.count else byteAt fr 11 } }

theorem mateFrame_eq : mateFrame l fr s = if !isStepped s.lanes[l] ∨ s.lanes[l].st ≠ .train then s
    else if !frameGood fr then sendMateFrame l s else sendMateFrame l (linkTrained (frameTaken l fr s)) := rfl

theorem mateFrame_training (step : isStepped s.lanes[l] = true) (train : s.lanes[l].st = .train) : mateFrame l fr s =
    if !frameGood fr then sendMateFrame l s else sendMateFrame l (linkTrained (frameTaken l fr s)) :=
  mateFrame_eq.trans (if_neg (not_or.2 ⟨by rw [step]; decide, not_not.2 train⟩))

/-! ### The coefficients (R293, R295) -/

/-- The taps that a request asks for, and whether they stay inside the limits (the model's choice, log 40). -/
def tapsMoved (tap op : Nat) (x : Lane) : List Int :=
  x.taps.modify tap fun v => if op = 1 then v + 1 else if op = 2 then v - 1 else x.preset.getD tap v

def tapsFit (ts : List Int) : Bool := decide (0 < ts.getD 3 0) && decide ((ts.map Int.natAbs).sum ≤ 128)

theorem tapsFit_iff {ts : List Int} : tapsFit ts = true ↔ 0 < ts.getD 3 0 ∧ (ts.map Int.natAbs).sum ≤ 128 := by simp [tapsFit]

theorem coefficient_eq : x.coefficient tap op = if op = 0 ∨ 4 < tap then { x with coefStatus := 0 }
    else if tapsFit (tapsMoved tap op x) then { x with taps := tapsMoved tap op x, coefStatus := 1 } else { x with coefStatus := 2 } := rfl

theorem coefficient_moves (o : op ≠ 0) (k : tap ≤ 4) : x.coefficient tap op =
    if tapsFit (tapsMoved tap op x) then { x with taps := tapsMoved tap op x, coefStatus := 1 } else { x with coefStatus := 2 } :=
  coefficient_eq.trans (if_neg (not_or.2 ⟨o, Nat.not_lt.2 k⟩))

/-! ### The end of a soak (R296) -/

/-- Does a lane pass its step? -/
def soakPass (lim : Nat) (m : Nat × Nat) (x : Lane) : Bool := x.complete && x.pass != some false && berOk lim m.1 m.2

def Lane.soaked (cls lim : Nat) (m : Nat × Nat) (x : Lane) : Lane :=
  { x with pass := some (soakPass lim m x), stored := if soakPass lim m x then putKey cls x.taps x.stored else x.stored }

/-- One lane of the step is judged. -/
def soakLane (lim : Nat) (ms : List (Nat × Nat)) (s : State) (l : Fin 48) : State :=
  onLane l (Lane.soaked s.link.cls lim (ms.getD (l.val - 32) (0, 1))) s

/-- The soak is over; the master sends its decision for 64 frames. -/
def soakOver (s : State) : State := { s with link := { s.link with phase := .decision, count := if s.link.master then 64 else s.link.count } }

theorem soakEnd_eq : soakEnd ms s = if s.link.phase ≠ .soak then s
    else (stepLanes s).foldl (soakLane (matePar s 0x41) ms) (soakOver s) := rfl

theorem soakLanes_frame {lim : Nat} {ls : List (Fin 48)} : ∃ v, ls.foldl (soakLane lim ms) s = { s with lanes := v } := by
  induction ls generalizing s with
  | nil => exact ⟨_, rfl⟩
  | cons k r ih =>
    obtain ⟨v, eq⟩ := ih (s := soakLane lim ms s k)
    exact ⟨v, eq⟩

theorem soakLanes_lane {lim : Nat} {ls : List (Fin 48)} (once : ls.Nodup) : (ls.foldl (soakLane lim ms) s).lanes[l] =
    if l ∈ ls then (s.lanes[l]).soaked s.link.cls lim (ms.getD (l.val - 32) (0, 1)) else s.lanes[l] := by
  induction ls generalizing s with
  | nil => rfl
  | cons k r ih =>
    obtain ⟨alone, rest⟩ := List.nodup_cons.1 once
    rw [List.foldl_cons, ih rest]
    unfold soakLane
    by_cases e : l = k
    · subst e
      rw [if_neg alone, if_pos (.head _), onLane_same]
    · simp only [onLane_other e, List.mem_cons, e, false_or]
      rfl

theorem stepLanes_nodup : (stepLanes s).Nodup := (((List.nodup_finRange 48).filter _).filter _).filter _

/-! ### The decision (R296, R297) -/

/-- A higher class that both ends allow. -/
def higherClass (s : State) : Prop :=
  s.link.cls < 3 ∧ classRate (s.link.cls + 1) ≤ matePar s 0x30 ∧ bit s.link.farCaps (s.link.cls + 1) = true

theorem linkDecision_up (n : matePar s 0x31 ≤ ((stepLanes s).filter fun l => s.lanes[l].passed).length) (h : higherClass s) :
    linkDecision s = .up := (if_pos n).trans (if_pos h)

theorem linkDecision_hold (n : matePar s 0x31 ≤ ((stepLanes s).filter fun l => s.lanes[l].passed).length) (h : ¬higherClass s) :
    linkDecision s = .hold := (if_pos n).trans (if_neg h)

theorem linkDecision_down (n : ¬matePar s 0x31 ≤ ((stepLanes s).filter fun l => s.lanes[l].passed).length) (h : 0 < s.link.cls) :
    linkDecision s = .down := (if_neg n).trans (if_pos h)

theorem linkDecision_restart (n : ¬matePar s 0x31 ≤ ((stepLanes s).filter fun l => s.lanes[l].passed).length) (h : s.link.cls = 0) :
    linkDecision s = .restart := (if_neg n).trans (if_neg (by omega))

/-- The decision in force at this end: the master's own, the other end's received one. -/
def decisionHere (s : State) : Decision := if s.link.master then linkDecision s else s.link.decision

/-- The lanes of the step fall silent before the frames of the new class. -/
def linkQuiet (s : State) : State :=
  (stepLanes s).foldl (fun s l => laneTo l .wait s) { s with link := { s.link with phase := .quiet } }

/-- The failed lanes of a step are EXCLUDED. -/
def failedOut (s : State) : State := (stepLanes s).foldl (fun s l => if s.lanes[l].passed then s else laneExclude l s) s

/-- The lanes that did not pass at a class are EXCLUDED. -/
def lowerOut (cls : Nat) (s : State) : State :=
  (linkLanes s).foldl (fun s l => onLane l (fun x => { x with excluded := !(x.stored.any fun y => y.1 == cls) }) s) s

/-- The link goes on to a class. -/
def classSet (cls : Nat) (noSoak : Bool) (s : State) : State := { s with link := { s.link with cls := cls, noSoak := noSoak } }

/-- A decision that is applied (R297). -/
def decisionApplied (d : Decision) (s : State) : State := match d with
  | .none => s
  | .up => linkQuiet (classSet ((failedOut s).link.cls + 1) false (failedOut s))
  | .hold => linkHold Lane.passed s
  | .down => linkQuiet (classSet (s.link.cls - 1) true (lowerOut (s.link.cls - 1) s))
  | .restart => linkQuiet (classSet 0 false s)

theorem mateDecision_eq : mateDecision s = if s.link.phase ≠ .decision then s else decisionApplied (decisionHere s) s := rfl

theorem mateDecision_made {d : Decision} (on : s.link.phase = .decision) (h : decisionHere s = d) : mateDecision s = decisionApplied d s := by
  rw [mateDecision_eq, if_neg (not_not.2 on), h]

theorem exec_mateDecisionApply (h : mateDecision s = t) : exec .mateDecisionApply s = .next (mateTime (mateProgress t)) := by rw [← h]; rfl

/-! ### The low-power states (R298, R299) -/

theorem idleAllowed_iff : idleAllowed s l = true ↔ isStepped s.lanes[l] = true ∧ s.lanes[l].st = .up ∧ lanePar s l.val 0x50 = 1 := by
  simp [idleAllowed, and_assoc]

/-- The markers of the far end are followed on an UP lane of the link. -/
theorem followsMarkers_iff : (isStepped s.lanes[l] && s.lanes[l].st == .up) = true ↔ isStepped s.lanes[l] = true ∧ s.lanes[l].st = .up := by
  simp

theorem exec_idleEntry : exec (.idleEntry l) s = .next (if idleAllowed s l && s.lanes[l].txDir == .active then
    onLane l (fun x => { x.account s.dev.ticks with txDir := .ei, eiEntries := bump x.eiEntries }) s else s) := rfl

theorem exec_sleepDelayEnd : exec (.sleepDelayEnd l) s = .next (if s.lanes[l].st = .up ∧ s.lanes[l].txDir = .ei then
    onLane l (fun x => { x.account s.dev.ticks with txDir := .sleep, sleepEntries := bump x.sleepEntries }) s else s) := rfl

/-- The receive direction after a marker. -/
def Lane.marked (m : IdleMark) (x : Lane) : Lane := match m with
  | .idle => { x with rxDir := .ei }
  | .sleep => { x with rxDir := .sleep }
  | .keepAlive => x

theorem exec_laneRxIdleMarker {m : IdleMark} : exec (.laneRxIdleMarker l m) s = .next (if isStepped s.lanes[l] && s.lanes[l].st == .up then
    onLane l (fun x => (x.account s.dev.ticks).marked m) s else s) := rfl

theorem exitBurst_eq {locked : Bool} : exitBurst l locked s = if s.lanes[l].rxDir ≠ .ei then s
    else if locked then onLane l (fun x => { x.account s.dev.ticks with rxDir := .active }) s
    else raiseLane 261 l 0 (onLane l (fun x => { x.account s.dev.ticks with rxDir := .sleep, exitFails := bump x.exitFails }) s) := rfl

/-! ### The obligation -/

/-- Settles O14: a frame is answered, a good one is taken, the soak's end judges each lane of the step once, and the master's
decision is the first rule of R296 that applies. That every received frame is answered, one with a bad CRC too, is the
model's choice (log 76); so are the coefficient's step of 1/128 and the limit on the sum behind status 2 (log 40). -/
theorem mateLinkAndLowPower : Obligations.MateLinkAndLowPower := by
  unfold Obligations.MateLinkAndLowPower
  refine ⟨fun l fr s => ⟨?_, fun step train => ⟨?_, ?_⟩⟩, fun l s => ?_, fun x tap op => ⟨?_, ?_, ?_⟩, fun ms s => ⟨?_, ?_⟩,
    fun s => ⟨linkDecision_up, linkDecision_hold, linkDecision_down, linkDecision_restart⟩,
    fun s => ⟨?_, fun on => ⟨?_, ?_, ?_, ?_, ?_⟩, rfl⟩, fun l s => ⟨?_, ?_, ?_, ?_, ?_, ?_, rfl⟩,
    fun l s => ⟨?_, ?_, ?_, ?_, ?_, ?_, ?_, ?_⟩⟩
  · exact fun out => congrArg Host.Outcome.next (mateFrame_eq.trans (if_pos (out.imp_left (by intro e; rw [e]; rfl))))
  · exact fun bad => congrArg Host.Outcome.next ((mateFrame_training step train).trans
      (if_pos (by rw [Bool.not_eq_true']; exact Bool.eq_false_iff.2 fun h => bad (frameGood_iff.1 h))))
  · intro good
    refine ⟨frameTaken l fr s, congrArg Host.Outcome.next ((mateFrame_training step train).trans
      (if_neg (by rw [frameGood_iff.2 good]; decide))), ?_, onLane_same, fun j other => onLane_other other, rfl⟩
    unfold frameTaken
    simp only [decide_eq_true_eq]
  · obtain ⟨passes, fails, trained⟩ := resultByte_bits (x := s.lanes[l])
    dsimp only
    rw [mateFrameOut_result, passes, fails, trained]
    refine ⟨sendMateFrame_lane, fun j other => sendMateFrame_other other, ?_, sendMateFrame_frame, mateFrameOut_length, mateFrameOut_marker,
      mateFrameOut_lane, mateFrameOut_class, mateFrameOut_crc, fun p => ?_, fun p => ?_, fun p => ?_, rfl⟩
    · split
      · next counts => exact sendMateFrame_counts counts
      · next still => exact sendMateFrame_still still
    · rw [p]; decide
    · rw [p]; decide
    · rw [p]; decide
  · exact fun idle => coefficient_eq.trans (if_pos idle)
  · exact fun o k fits => (coefficient_moves o k).trans (if_pos (tapsFit_iff.2 fits))
  · exact fun o k out => (coefficient_moves o k).trans (if_neg fun h => out (tapsFit_iff.1 h))
  · exact fun off => congrArg Host.Outcome.next (soakEnd_eq.trans (if_pos off))
  · intro on
    obtain ⟨v, frame⟩ := soakLanes_frame (lim := matePar s 0x41) (ms := ms) (ls := stepLanes s) (s := soakOver s)
    have judged := fun l => soakLanes_lane (l := l) (lim := matePar s 0x41) (ms := ms) (s := soakOver s) (stepLanes_nodup (s := s))
    refine ⟨_, congrArg Host.Outcome.next (soakEnd_eq.trans (if_neg (not_not.2 on))), ?_, ?_, fun l => ⟨fun m => ?_, fun m => ?_⟩⟩
    · rw [frame]; rfl
    · rw [frame]; rfl
    · exact (judged l).trans (if_pos m)
    · exact (judged l).trans (if_neg m)
  · exact fun off => exec_mateDecisionApply (mateDecision_eq.trans (if_pos off))
  · exact fun d => exec_mateDecisionApply (mateDecision_made on d)
  · exact fun d => exec_mateDecisionApply (mateDecision_made on d)
  · exact fun d => exec_mateDecisionApply (mateDecision_made on d)
  · exact fun d => exec_mateDecisionApply (mateDecision_made on d)
  · exact fun d => exec_mateDecisionApply (mateDecision_made on d)
  · exact fun allowed active => exec_idleEntry.trans (congrArg Host.Outcome.next
      (if_pos (Bool.and_eq_true_iff.2 ⟨idleAllowed_iff.2 allowed, beq_iff_eq.2 active⟩)))
  · intro no
    refine exec_idleEntry.trans (congrArg Host.Outcome.next (if_neg fun h => ?_))
    obtain ⟨allowed, active⟩ := Bool.and_eq_true_iff.1 h
    exact no.elim (fun n => n (idleAllowed_iff.1 allowed)) fun n => n (beq_iff_eq.1 active)
  · exact fun ei => congrArg Host.Outcome.next (if_pos ei)
  · exact fun no => congrArg Host.Outcome.next (if_neg no)
  · exact fun up ei => exec_sleepDelayEnd.trans (congrArg Host.Outcome.next (if_pos ⟨up, ei⟩))
  · exact fun no => exec_sleepDelayEnd.trans (congrArg Host.Outcome.next (if_neg (not_and_or.2 no)))
  · intro no m
    refine exec_laneRxIdleMarker.trans (congrArg Host.Outcome.next (if_neg fun h => ?_))
    obtain ⟨step, up⟩ := followsMarkers_iff.1 h
    exact no.elim (fun n => Bool.noConfusion (n.symm.trans step)) fun n => n up
  · intro step up
    have follows := followsMarkers_iff.2 ⟨step, up⟩
    exact ⟨exec_laneRxIdleMarker.trans (congrArg Host.Outcome.next (if_pos follows)),
      exec_laneRxIdleMarker.trans (congrArg Host.Outcome.next (if_pos follows)),
      exec_laneRxIdleMarker.trans (congrArg Host.Outcome.next (if_pos follows))⟩
  · exact fun no b => congrArg Host.Outcome.next (exitBurst_eq.trans (if_pos no))
  · exact fun ei => ⟨congrArg Host.Outcome.next (exitBurst_eq.trans (if_neg (not_not.2 ei))),
      congrArg Host.Outcome.next (exitBurst_eq.trans (if_neg (not_not.2 ei)))⟩
  · exact fun asleep => congrArg Host.Outcome.next (if_pos asleep)
  · exact fun no => congrArg Host.Outcome.next (if_neg no)
  · exact fun up asleep => congrArg Host.Outcome.next (if_pos ⟨up, asleep⟩)
  · exact fun no => congrArg Host.Outcome.next (if_neg (not_and_or.2 no))

end Sys2Proof.Machine
end

section
/-! The mated pair: its blocks and records, the pair state, MATE_SYNC, mirroring and shadows, and its commands
(20_mated_pair.md R474 to R485; 14_command_reference.md R362). -/

namespace Sys2Proof.Machine

variable {q : Request} {s t u : State} {b : List Byte} {p : PeerRecord} {peer : MateProv} {c tpn w seq how cause onset : Nat}

/-! ### Blocks and records (R477, R478) -/

/-- The item that a mirror block carries. -/
def mirrorItemOf (b : List Byte) : MirrorItem :=
  { car := byteAt b 2 / 128, tpn := beAt b 2 2 % 1024, data := bytesAt b 4 256, poison := bit (byteAt b 1) 0, endMark := bit (byteAt b 1) 1 }

theorem mateBlock_eq : mateBlock b s =
    if beAt b 260 4 ≠ crc32c (bytesAt b 0 260) then { s with mate := { s.mate with badBlocks := bump s.mate.badBlocks } }
    else if s.mate.role = 0 then s
    else if byteAt b 0 = 1 then { s with mate := { s.mate with mirror := s.mate.mirror ++ [mirrorItemOf b] } }
    else if byteAt b 0 = 2 then mateRecord (bytesAt b 4 256) s
    else if byteAt b 0 = 3 then { s with mate := { s.mate with deskIn := bytesAt b 4 256 } }
    else s := rfl

/-- A good block on a member is taken by its type. -/
theorem mateBlock_member (good : ¬beAt b 260 4 ≠ crc32c (bytesAt b 0 260)) (member : s.mate.role ≠ 0) : mateBlock b s =
    if byteAt b 0 = 1 then { s with mate := { s.mate with mirror := s.mate.mirror ++ [mirrorItemOf b] } }
    else if byteAt b 0 = 2 then mateRecord (bytesAt b 4 256) s
    else if byteAt b 0 = 3 then { s with mate := { s.mate with deskIn := bytesAt b 4 256 } }
    else s := mateBlock_eq.trans ((if_neg good).trans (if_neg member))

theorem mateBlock_ignored (good : ¬beAt b 260 4 ≠ crc32c (bytesAt b 0 260))
    (h : s.mate.role = 0 ∨ byteAt b 0 ≠ 1 ∧ byteAt b 0 ≠ 2 ∧ byteAt b 0 ≠ 3) : mateBlock b s = s := by
  by_cases member : s.mate.role = 0
  · exact mateBlock_eq.trans ((if_neg good).trans (if_pos member))
  · obtain ⟨one, two, three⟩ := h.resolve_left member
    exact (mateBlock_member good member).trans ((if_neg one).trans ((if_neg two).trans (if_neg three)))

theorem stateRecord_length : (stateRecord s).length = 256 := padTo_length

/-- The 260 bytes of a block before its CRC. -/
def blockBody (typ flags stream : Nat) (pl : List Byte) : List Byte := beBytes 1 typ ++ beBytes 1 flags ++ beBytes 2 stream ++ padTo 256 pl

theorem blockBytes_eq {typ flags stream : Nat} {pl : List Byte} :
    blockBytes typ flags stream pl = blockBody typ flags stream pl ++ beBytes 4 (crc32c (blockBody typ flags stream pl)) := rfl

theorem blockBytes_length {typ flags stream : Nat} {pl : List Byte} : (blockBytes typ flags stream pl).length = 264 := by
  simp only [blockBytes_eq, blockBody, List.length_append, beBytes_length, padTo_length]

theorem blockBytes_payload {typ flags stream : Nat} {pl : List Byte} : bytesAt (blockBytes typ flags stream pl) 4 256 = padTo 256 pl := by
  rw [blockBytes_eq]
  generalize crc32c (blockBody typ flags stream pl) = sum
  unfold blockBody
  rw [List.append_assoc]
  exact bytesAt_append (by simp only [List.length_append, beBytes_length]) padTo_length

/-! ### What the pair groups change (R485) -/

section

variable {α : Type} {e : State → α}

/-- A view that does not see the pair groups or the events. -/
structure PairBlind (e : State → α) : Prop where
  pair : ∀ c f x, e (onPair c f x) = e x := by intros; rfl
  evt : ∀ b n ob a x, e (raiseIf b n ob a x) = e x := by intros; rfl

theorem Same.pairDecide (h : Same e s t) (k : PairBlind e) : Same e s (Machine.pairDecide c onset t) := by
  unfold Machine.pairDecide
  exact (h.trans (k.pair _ _ _)).raiseIf (k.evt _ _ _ _)

theorem Same.pairConditions (h : Same e s t) (k : PairBlind e) : Same e s (Machine.pairConditions onset t) := by
  unfold Machine.pairConditions
  refine .ite (fun _ => h) fun _ => .foldl (fun u c hu => ?_) h
  exact Same.pairDecide (.foldl (fun _ _ hv => hv.raiseIf (k.evt _ _ _ _)) (hu.trans (k.pair _ _ _))) k

end

/-- The member with its pair groups forgotten. -/
def pairless (m : Mate) : Mate := { m with pair := Vector.replicate 2 {} }

theorem pairConditions_mate : pairless (pairConditions onset s).mate = pairless s.mate :=
  Same.pairConditions (e := fun x => pairless x.mate) .refl {}

theorem retarget_mate {ago : Nat} : (retarget ago s).mate = s.mate := Same.retarget (e := State.mate) .refl

/-- The state with the pair's own state, the time engine and the events forgotten. -/
def mateless (s t : State) : State := { t with mate := s.mate, time := s.time, evt := s.evt }

/-! ### The pair state (R484) -/

/-- The conditions under which LINKING or ALONE goes on to CHECKING. -/
def mayCheck (p : PeerRecord) (s : State) : Bool :=
  (s.mate.st = .linking ∨ s.mate.st = .alone) && s.link.isUp && mateSyncOn s && p.role + s.mate.role == 3 && p.role != 0 && !bit p.flags 2

theorem mayCheck_iff : mayCheck p s = true ↔ (s.mate.st = .linking ∨ s.mate.st = .alone) ∧ s.link.isUp = true ∧ mateSyncOn s = true ∧
    p.role + s.mate.role = 3 ∧ p.role ≠ 0 ∧ bit p.flags 2 = false := by
  simp [mayCheck, and_assoc]

/-- The member goes on to CHECKING, with MATE_LINK_UP. -/
def checkingBegun (p : PeerRecord) (s : State) : State :=
  pairConditions s.tod16 (raise 416 objMate (evtArg 0 s.link.cls (linkMask s) 0)
    { s with mate := { s.mate with st := .checking, donor := donorIsOwn s.mate p, mismatch := false } })

theorem mateProgress_eq (h : s.mate.peer = some p) : mateProgress s = if mayCheck p s then checkingBegun p s else s := by
  unfold mateProgress
  dsimp only
  rw [h]
  rfl

/-- ALIGNING at equal VOLUMEs: PAIRED under the conditions of R484. -/
theorem mateAlign_aligning (st : s.mate.st = .aligning) (vol : p.volume = (s.fol 0 (leadGroup s 0)).txVolume) : mateAlign p s =
    if s.mate.theta.natAbs < 65536 ∧ shadowsSynced s = true ∧ 16 ≤ s.mate.eqRun then
      raise 419 objMate (evtArg 1 0 0 p.volume) { s with mate := { s.mate with st := .paired, paired := bump s.mate.paired, neRun := 0 } }
    else s := by
  unfold mateAlign
  dsimp only
  rw [if_pos st, ← vol, if_neg (not_not.2 rfl)]
  rfl

theorem mateAlign_paired (st : s.mate.st = .paired) : mateAlign p s = if 3 ≤ s.mate.neRun then
    retarget 0 (raise 419 objMate (evtArg 0 0 0 0) { s with mate := { s.mate with st := .aligning, eqRun := 0, neRun := 0 } }) else s := by
  unfold mateAlign
  dsimp only
  rw [if_neg (by rw [st]; decide)]
  unfold leavePaired
  rw [if_pos st]
  rfl

theorem recompare_eq : recompare peer s = if s.mate.st ≠ .checking then s
    else if peer = mateProv s then retarget 0 { s with mate := { s.mate with
        st := .aligning, mismatch := false, owns := Vector.replicate 2 (Vector.replicate 16 s.mate.donor), shadows := [], mirror := []
        eqRun := 0, neRun := 0 } }
    else { s with mate := { s.mate with mismatch := true } } := rfl

/-! ### The mate is lost (R484, R485) -/

/-- The carriers that a member takes over. -/
def carriersTaken (m : Mate) : Nat := ([0, 1] : List Nat).foldl (fun k c =>
  if (getNat (Vector.replicate 16 true) m.owns c).toList.all id then k else k + 2 ^ c) 0

/-- A member that has lost its mate is ALONE with both carriers. -/
def Mate.alone (m : Mate) : Mate :=
  { m with st := .alone, donor := false, mismatch := false, owns := Vector.replicate 2 (Vector.replicate 16 true), eqRun := 0, neRun := 0
           peer := m.peer.map fun p => { p with role := 0, flags := 0 }
           takeovers := if carriersTaken m = 0 then m.takeovers else bump m.takeovers }

theorem mateLost_eq : mateLost cause s = if !s.mate.st.joined then s
    else pairConditions s.mate.peerAt (retarget 0 (raise 417 objMate (evtArg 0 cause (carriersTaken s.mate) s.mate.lastSeq)
      { s with mate := s.mate.alone })) := rfl

theorem mateLost_joined (h : s.mate.st.joined = true) : pairless (mateLost cause s).mate = pairless s.mate.alone ∧
    mateless s (mateLost cause s) = s := by
  rw [mateLost_eq, if_neg (by rw [h]; decide)]
  refine ⟨pairConditions_mate.trans (congrArg pairless retarget_mate), ?_⟩
  exact Same.pairConditions (e := mateless s) (Same.retarget rfl) {}

/-! ### MATE_SYNC (R263, R479) -/

/-- A marker follows the one before by 1 s. -/
def markerGood (s : State) : Bool :=
  s.mate.lastMarker.isSome && decide (625000000 ≤ s.dev.ticks - s.mate.lastTick + 625) && decide (s.dev.ticks - s.mate.lastTick ≤ 625000000 + 625)

theorem markerGood_iff : markerGood s = true ↔ s.mate.lastMarker.isSome = true ∧ 625000000 ≤ s.dev.ticks - s.mate.lastTick + 625 ∧
    s.dev.ticks - s.mate.lastTick ≤ 625000000 + 625 := by
  simp [markerGood, and_assoc]

/-- The marker is taken. -/
def markerTaken (sub : Fin 400) (run : Nat) (s : State) : State :=
  onCand 11 (fun c => { c with active := true }) { s with mate := { s.mate with
    markers := run, missing := 0, lastMarker := some (s.tod16 + sub.val * 4 * 65536 / 1000), lastTick := s.dev.ticks } }

theorem exec_mateSyncMarker {sub : Fin 400} : exec (.mateSyncMarker sub) s =
    let u := markerTaken sub (if markerGood s then s.mate.markers + 1 else 0) s
    .next (mateProgress (mateTime (if 3 ≤ u.mate.markers then mateSyncLost false u else u))) := rfl

/-- A marker is missing. -/
def markerGone (s : State) : State := { s with mate := { s.mate with markers := 0, missing := s.mate.missing + 1 } }

theorem exec_mateSyncMarkerMissing : exec .mateSyncMarkerMissing s =
    .next (mateTime (if 2 ≤ s.mate.missing + 1 then mateSyncLost true (markerGone s) else markerGone s)) := rfl

/-! ### A record that is sent (R478) -/

/-- The arrivals and the poison that a record reports have been taken up. -/
def recordReady (s : State) : State :=
  ([0, 1] : List (Fin 2)).foldl (fun s c => poisonOutIf s.mate.digs[c].lastBad 10 s)
    (([0, 1] : List (Fin 2)).foldl (fun s (c : Fin 2) => pairArrival c.val s.mate.own (ownArrival s c) s) (pairConditions s.tod16 s))

theorem recordSend_eq : recordSend s = if s.mate.role = 0 then s else onMate (fun m => { m with
    sent := blockBytes 2 0 0 (stateRecord (recordReady s)), digs := m.digs.map fun (d : MateDigest) => { d with lastBad := false } })
    (recordReady s) := rfl

theorem poisonOutIf_mate {k : Bool} {row : Nat} : (poisonOutIf k row s).mate = s.mate := by
  cases k <;> rfl

theorem recordReady_mate : pairless (recordReady s).mate = pairless s.mate := by
  refine Same.foldl (e := fun x => pairless x.mate) (s := s) (fun u c h => ?_) ?_
  · exact (congrArg pairless poisonOutIf_mate).trans h
  · exact Same.foldl (e := fun x => pairless x.mate) (fun u c h => h) pairConditions_mate

/-! ### Mirroring (R477, R481, R482) -/

/-- The four words named lie in the transmit queue. -/
def inTransmitQueue (w : Nat) (s : State) : Bool := ([0, 1, 2, 3] : List Nat).all fun k => s.stk.codeAt (pageOf (w + k)) == 2

theorem inTransmitQueue_iff : inTransmitQueue w s = true ↔ ∀ k : Nat, k < 4 → s.stk.codeAt (pageOf (w + k)) = 2 := by
  simp only [inTransmitQueue, List.all_eq_true, beq_iff_eq]
  refine ⟨fun h k hk => h k ?_, fun h k hk => h k ?_⟩
  · match k, hk with
    | 0, _ | 1, _ | 2, _ | 3, _ => decide
  · revert hk
    simp only [List.mem_cons, List.not_mem_nil, or_false]
    omega

/-- The pair is ALIGNING or PAIRED. -/
def pairAligned (s : State) : Bool := s.mate.st == .aligning || s.mate.st == .paired

theorem pairAligned_iff : pairAligned s = true ↔ s.mate.st = .aligning ∨ s.mate.st = .paired := by simp [pairAligned]

theorem mirrorApply_none {k : Fin 2} {lost end_ : Bool} {shadow : List Byte} (h : s.mate.role = 0 ∨ ¬inTransmitQueue w s = true ∨
    streamTrib s k.val tpn = none) : mirrorApply k tpn w seq lost shadow end_ s = s := by
  unfold mirrorApply
  dsimp only
  split
  · rfl
  · next x found =>
    refine if_pos (h.imp_right fun h => ?_)
    have out := h.resolve_right fun none_ => by rw [none_] at found; cases found
    rw [Bool.not_eq_true']
    exact Bool.eq_false_iff.2 out

theorem mirrorApply_item {k : Fin 2} {lost end_ : Bool} {shadow : List Byte} {x : Trib} (member : s.mate.role ≠ 0)
    (queue : inTransmitQueue w s = true) (found : streamTrib s k.val tpn = some x) : mirrorApply k tpn w seq lost shadow end_ s =
    if ownsTrib s x then
      if pairAligned s && isMirrored s x then mirrorSend k.val tpn w s
      else if s.mate.st = .alone ∧ !lost then mirrorWrite k.val tpn w seq false shadow end_ s
      else s
    else if pairAligned s then mirrorWrite k.val tpn w seq lost shadow end_ s
    else s := by
  unfold mirrorApply
  dsimp only
  rw [found]
  have go : ¬(s.mate.role = 0 ∨ (!inTransmitQueue w s) = true) := not_or.2 ⟨member, by rw [queue]; decide⟩
  exact if_neg go

/-- An owner that does not send an item. -/
theorem notSent {x : Trib} (h : ¬(s.mate.st = .aligning ∨ s.mate.st = .paired) ∨ isMirrored s x = false) :
    ¬(pairAligned s && isMirrored s x) = true := by
  intro e
  obtain ⟨aligned, sent⟩ := Bool.and_eq_true_iff.1 e
  exact h.elim (fun n => n (pairAligned_iff.1 aligned)) fun n => Bool.noConfusion (n.symm.trans sent)

theorem mirrorSend_mate : (mirrorSend c tpn w s).mate = { s.mate with
    mirrorOut := blockBytes 1 (b2n (itemAt s w).2.1 + 2 * b2n (itemAt s w).2.2) (32768 * c + tpn) (itemAt s w).1 } := poisonOutIf_mate

/-- An item belongs to a tributary of a carrier. -/
def isItemOf (c tpn : Nat) (x : MirrorItem) : Bool := x.car == c && x.tpn == tpn

theorem mirrorWrite_none {end_ : Bool} {shadow : List Byte} (h : s.mate.mirror.find? (isItemOf c tpn) = none) :
    mirrorWrite c tpn w seq false shadow end_ s = s := by
  unfold mirrorWrite
  dsimp only
  rw [if_neg Bool.noConfusion, show s.mate.mirror.find? (fun x => x.car == c && x.tpn == tpn) = none from h]

theorem mirrorWrite_some {end_ : Bool} {shadow : List Byte} {x : MirrorItem} (h : s.mate.mirror.find? (isItemOf c tpn) = some x) :
    mirrorWrite c tpn w seq false shadow end_ s =
      shadowItem c tpn (if x.poison then 2 else if x.data = shadow ∧ x.endMark = end_ then 0 else 1) x.endMark
        (putItem w seq x.data x.poison x.endMark { s with mate := { s.mate with
          lastSeq := seq, mirror := s.mate.mirror.eraseP (isItemOf c tpn)
          poisoned := if x.poison then bump s.mate.poisoned else s.mate.poisoned } }) := by
  unfold mirrorWrite
  dsimp only
  rw [if_neg Bool.noConfusion, show s.mate.mirror.find? (fun x => x.car == c && x.tpn == tpn) = some x from h]
  simp only [Bool.and_eq_true, beq_iff_eq]
  rfl

/-! ### Shadows (R482) -/

theorem shadow_named {m : Mate} : (m.shadow c tpn).car = c ∧ (m.shadow c tpn).tpn = tpn := by
  unfold Mate.shadow
  cases h : m.shadows.find? fun x => x.car == c && x.tpn == tpn with
  | none => exact ⟨rfl, rfl⟩
  | some x => simpa using List.find?_some h

theorem shadow_putShadow {m : Mate} {x : Shadow} (h : x.car = c ∧ x.tpn = tpn) : (m.putShadow x).shadow c tpn = x := by
  obtain ⟨rfl, rfl⟩ := h
  simp [Mate.shadow, Mate.putShadow]

/-- A shadow after a frame that was compared. -/
def Shadow.judged (eq : Bool) (x : Shadow) : Shadow :=
  if eq then { x with eqRun := x.eqRun + 1, neRun := 0, synced := x.synced || 64 ≤ x.eqRun + 1 }
  else { x with eqRun := 0, neRun := x.neRun + 1, synced := x.synced && x.neRun + 1 < 4 }

theorem judged_named {eq : Bool} {x : Shadow} : (x.judged eq).car = x.car ∧ (x.judged eq).tpn = x.tpn := by
  cases eq <;> exact ⟨rfl, rfl⟩

theorem leavePaired_shadows : (leavePaired s).mate.shadows = s.mate.shadows := by
  unfold leavePaired
  split
  · rw [retarget_mate]; rfl
  · rfl

theorem leavePaired_shadow : (leavePaired s).mate.shadow c tpn = s.mate.shadow c tpn := by
  unfold Mate.shadow
  rw [leavePaired_shadows]

theorem shadowFrame_eq {eq : Bool} : shadowFrame c tpn eq s =
    let x := s.mate.shadow c tpn
    let s1 := onMate (fun m => m.putShadow (x.judged eq)) s
    if x.synced && !(x.judged eq).synced && (mirrored s c).any (fun t => t.tpn == tpn) then leavePaired s1 else s1 := rfl

theorem shadowFrame_shadow {eq : Bool} : (shadowFrame c tpn eq s).mate.shadow c tpn = (s.mate.shadow c tpn).judged eq := by
  have put : (onMate (fun m => m.putShadow ((s.mate.shadow c tpn).judged eq)) s).mate.shadow c tpn = (s.mate.shadow c tpn).judged eq :=
    shadow_putShadow ⟨judged_named.1.trans shadow_named.1, judged_named.2.trans shadow_named.2⟩
  rw [shadowFrame_eq]
  dsimp only
  split
  · exact leavePaired_shadow.trans put
  · exact put

theorem shadowItem_eq {last : Bool} : shadowItem c tpn how last s =
    let x := s.mate.shadow c tpn
    let kept : State := { s with mate := s.mate.putShadow { x with frame := if last then 0 else max x.frame how } }
    if last && max x.frame how != 2 then shadowFrame c tpn (max x.frame how == 0) kept else kept := rfl

/-! ### MATE.PROVISION (R362, R474) -/

/-- The lanes that a request names. -/
def lanesNamed (q : Request) : List (Fin 48) := mateLinkLanes.filter fun l => bit (u16 q 6) (l.val - 32)

/-- The device's provisioning leaves no room for a mate. -/
def mateBarred (q : Request) (s : State) : Prop :=
  s.dev.mode = some .framer ∨ (s.prot.toList.any (·.exists_)) = true ∨ ((lanesNamed q).any fun l => (bondOfLane s l.val).isSome) = true

/-- A member with its role; a new role begins the pair again in LINKING. -/
def roleTaken (q : Request) (s : State) : State :=
  let m : Mate := { s.mate with role := u8 q 4, lanes := u16 q 6, limitNs := u32 q 8 }
  { s with mate := (if s.mate.role ≠ u8 q 4 then { m with
      st := .linking, since := s.dev.ticks, donor := false, mismatch := false, peer := none, pair := Vector.replicate 2 {}, mirror := []
      shadows := [], owns := Vector.replicate 2 (Vector.replicate 16 true) } else m) }

theorem mateProvision_role (h : 2 < u8 q 4) : mateProvision q s = (s, badParam 4) := if_pos h

theorem mateProvision_remove (h : u8 q 4 = 0) : mateProvision q s = (mateRemove q s, ok) :=
  (if_neg (by omega)).trans (if_pos h)

theorem mateProvision_barred (r : u8 q 4 ≠ 0) (r2 : u8 q 4 ≤ 2) (h : mateBarred q s) : mateProvision q s = (s, refuse stBadState) :=
  (if_neg (Nat.not_lt.2 r2)).trans ((if_neg r).trans (if_pos h))

theorem mateProvision_open (r : u8 q 4 ≠ 0) (r2 : u8 q 4 ≤ 2) (h : ¬mateBarred q s) : mateProvision q s =
    if (lanesNamed q).any fun l => !isStepped s.lanes[l] then (s, badParam 6)
    else if u32 q 8 < 1000000 ∨ 100000000 < u32 q 8 then (s, badParam 8)
    else match growQueues (roleTaken q s) with
      | none => (s, refuse stNoCapacity)
      | some v => (pairConditions v.tod16 (keepBody 0x1201 q v), ok) := by
  have role : roleTaken q s = if s.mate.role ≠ u8 q 4 then onMate (fun m => { m with
      st := .linking, since := s.dev.ticks, donor := false, mismatch := false, peer := none, pair := Vector.replicate 2 {}, mirror := []
      shadows := [], owns := Vector.replicate 2 (Vector.replicate 16 true) })
        (onMate (fun m => { m with role := u8 q 4, lanes := u16 q 6, limitNs := u32 q 8 }) s)
      else onMate (fun m => { m with role := u8 q 4, lanes := u16 q 6, limitNs := u32 q 8 }) s := by
    unfold roleTaken
    split <;> rfl
  rw [role]
  exact (if_neg (Nat.not_lt.2 r2)).trans ((if_neg r).trans (if_neg h))

theorem steps_iff : ((lanesNamed q).any fun l => !isStepped s.lanes[l]) = true ↔ ¬∀ l ∈ lanesNamed q, isStepped s.lanes[l] = true := by
  simp

/-! ### MATE.COMMAND (R222, R223, R485) -/

/-- The rank of a command's request (R222). -/
def commandRank (cmd : Nat) : Nat := if cmd = 1 then 15 else if cmd = 2 then 13 else 7

/-- A request in force on a pair group outranks the command. -/
def outranked (q : Request) (s : State) : Bool := ([0, 1] : List Nat).any fun c => decide (commandRank (u8 q 4) < (s.pairOf c).top (pairRule s))

theorem outranked_iff : outranked q s = true ↔
    commandRank (u8 q 4) < (s.pairOf 0).top (pairRule s) ∨ commandRank (u8 q 4) < (s.pairOf 1).top (pairRule s) := by
  simp [outranked]

/-- A pair group with the command's request set. -/
def commanded (cmd : Nat) (r : ProtRule) (p : Prot) : Prot :=
  if cmd = 0 then { p with lo := false, fs := false, ms := false, st := if !r.rev && p.onProt then .dnr else .nr }
  else if cmd = 1 then { p with lo := true } else if cmd = 2 then { p with fs := true } else { p with ms := true }

/-- The command acts on a pair group, which then settles. -/
def pairCommanded (cmd : Nat) (r : ProtRule) (c : Nat) (s : State) : State := pairDecide c s.tod16 (onPair c (commanded cmd r) s)

theorem mateCommand_eq {denies : Bool} : mateCommand denies q s =
    if 3 < u8 q 4 then (s, badParam 4)
    else if s.mate.role = 0 ∨ (u8 q 4 ≠ 0 ∧ outranked q s) then (s, refuse stBadState)
    else if denies ∧ q.ch ≠ 2 ∧ s.mate.st.joined then (s, refuse stDenied)
    else
      let u := pairCommanded (u8 q 4) (pairRule s) 1 (pairCommanded (u8 q 4) (pairRule s) 0 s)
      (u, ok (leBytes 1 (u.pairOf 0).st.code)) := rfl

theorem mateCommand_goes {denies : Bool} (k : u8 q 4 ≤ 3) (member : s.mate.role ≠ 0) (rank : u8 q 4 = 0 ∨ ¬outranked q s = true) :
    mateCommand denies q s =
    if denies ∧ q.ch ≠ 2 ∧ s.mate.st.joined then (s, refuse stDenied)
    else
      let u := pairCommanded (u8 q 4) (pairRule s) 1 (pairCommanded (u8 q 4) (pairRule s) 0 s)
      (u, ok (leBytes 1 (u.pairOf 0).st.code)) :=
  mateCommand_eq.trans ((if_neg (Nat.not_lt.2 k)).trans
    (if_neg (not_or.2 ⟨member, fun ⟨nonzero, below⟩ => rank.elim nonzero fun h => h below⟩)))

/-! ### The obligation -/

theorem exec_mateBlockReceived : exec (.mateBlockReceived b) s = .next (mateBlock b s) := rfl

theorem exec_checkingRecompare : exec (.checkingRecompare peer) s = .next (recompare peer s) := rfl

theorem exec_stateRecordSend : exec .stateRecordSend s = .next (recordSend s) := rfl

theorem exec_mirrorItemApply {k : Fin 2} {n : Fin 1024} {x : Fin 2147483645} {lost end_ : Bool} {shadow : List Byte} :
    exec (.mirrorItemApply k n x seq lost shadow end_) s = .next (mirrorApply k n.val x.val seq lost shadow end_ s) := rfl

/-- Settles O41: each block, marker, item and request acts in the states that R484 gives it, and the pair groups settle without
touching the rest of the member. Of a lost mate, that its role and flags count again only from its next record, that a frame with
a lost or poisoned item is not judged, that boundaries align on equal VOLUMEs, and the choice of the donor are the model's
choices (log 51), as is the end mark's place in the last of an item's four words (log 52). -/
theorem matedPair : Obligations.MatedPair := by
  unfold Obligations.MatedPair
  refine ⟨fun b s => ⟨?_, ?_, fun good member => ⟨?_, ?_, ?_⟩⟩, fun s p peer => ⟨?_, ?_⟩, fun p s st vol => ⟨?_, ?_⟩, fun p s => mateAlign_paired,
    fun peer s => ⟨?_, fun on => ⟨?_, ?_⟩⟩, fun s => ⟨rfl, rfl, fun cause => ⟨?_, ?_⟩⟩, fun sub s => ?_, fun s => ⟨?_, rfl, fun _ => rfl⟩,
    fun s => ⟨?_, stateRecord_length, ?_, fun _ _ _ _ => ⟨blockBytes_length, blockBytes_payload⟩⟩,
    fun k tpn w seq lost shadow end_ s => ⟨?_, fun x member queue found => ⟨fun own => ⟨?_, fun off => ⟨?_, ?_⟩⟩, fun other => ⟨?_, ?_⟩⟩⟩,
    fun c tpn w seq shadow end_ s => ⟨mirrorSend_mate, rfl, mirrorWrite_none, fun x => mirrorWrite_some⟩,
    fun c tpn eq s => ⟨?_, ?_⟩, fun c tpn how last s => ?_, fun q s run => ⟨?_, ?_, fun r r2 => ⟨?_, ?_, ?_, fun free steps limit => ⟨?_, ?_⟩⟩⟩,
    fun q denies s run => ⟨?_, ?_, fun k member rank => ⟨?_, ?_⟩⟩⟩
  · exact fun bad => exec_mateBlockReceived.trans (congrArg Host.Outcome.next (mateBlock_eq.trans (if_pos bad)))
  · exact fun good none_ => exec_mateBlockReceived.trans (congrArg Host.Outcome.next (mateBlock_ignored good none_))
  · exact fun one => exec_mateBlockReceived.trans (congrArg Host.Outcome.next ((mateBlock_member good member).trans (if_pos one)))
  · exact fun two => exec_mateBlockReceived.trans (congrArg Host.Outcome.next ((mateBlock_member good member).trans
      ((if_neg (by rw [two]; decide)).trans (if_pos two))))
  · exact fun three => exec_mateBlockReceived.trans (congrArg Host.Outcome.next ((mateBlock_member good member).trans
      ((if_neg (by rw [three]; decide)).trans ((if_neg (by rw [three]; decide)).trans (if_pos three)))))
  · exact fun no => (mateProgress_eq peer).trans (if_neg fun h => no (mayCheck_iff.1 h))
  · exact fun go => (mateProgress_eq peer).trans (if_pos (mayCheck_iff.2 go))
  · exact fun go => (mateAlign_aligning st vol).trans (if_pos go)
  · exact fun no => (mateAlign_aligning st vol).trans (if_neg no)
  · exact fun off => exec_checkingRecompare.trans (congrArg Host.Outcome.next (recompare_eq.trans (if_pos off)))
  · exact fun other => exec_checkingRecompare.trans (congrArg Host.Outcome.next (recompare_eq.trans ((if_neg (not_not.2 on)).trans (if_neg other))))
  · exact fun same => exec_checkingRecompare.trans (congrArg Host.Outcome.next (recompare_eq.trans ((if_neg (not_not.2 on)).trans (if_pos same))))
  · exact fun apart => mateLost_eq.trans (if_pos (by rw [apart]; rfl))
  · intro joined
    obtain ⟨mate, frame⟩ := mateLost_joined (cause := cause) joined
    exact ⟨(congrArg Mate.st mate :), (congrArg Mate.donor mate :), (congrArg Mate.owns mate :), (congrArg Mate.peer mate :),
      (congrArg Mate.role mate :), (congrArg Mate.shadows mate :), (congrArg Mate.mirror mate :), frame⟩
  · rw [exec_mateSyncMarker]
    simp only [markerGood_iff]
    rfl
  · rw [exec_mateSyncMarkerMissing]
    simp only [Nat.reduceLeDiff]
    rfl
  · exact fun none_ => exec_stateRecordSend.trans (congrArg Host.Outcome.next (recordSend_eq.trans (if_pos none_)))
  · intro member
    refine ⟨recordReady s, _, exec_stateRecordSend.trans (congrArg Host.Outcome.next (recordSend_eq.trans (if_neg member))), rfl, ?_, ?_⟩
    · exact (congrArg Mate.role (recordReady_mate (s := s)) :)
    · exact (congrArg Mate.st (recordReady_mate (s := s)) :)
  · exact fun h => exec_mirrorItemApply.trans (congrArg Host.Outcome.next (mirrorApply_none
      (h.imp_right fun h => h.imp_left fun h e => h (inTransmitQueue_iff.1 e))))
  · intro aligned mirrored_
    exact exec_mirrorItemApply.trans (congrArg Host.Outcome.next ((mirrorApply_item member (inTransmitQueue_iff.2 queue) found).trans
      ((if_pos own).trans (if_pos (Bool.and_eq_true_iff.2 ⟨pairAligned_iff.2 aligned, mirrored_⟩)))))
  · intro alone kept
    exact exec_mirrorItemApply.trans (congrArg Host.Outcome.next ((mirrorApply_item member (inTransmitQueue_iff.2 queue) found).trans
      ((if_pos own).trans ((if_neg (notSent off)).trans (if_pos ⟨alone, by rw [kept]; rfl⟩)))))
  · intro out
    refine exec_mirrorItemApply.trans (congrArg Host.Outcome.next ((mirrorApply_item member (inTransmitQueue_iff.2 queue) found).trans
      ((if_pos own).trans ((if_neg (notSent off)).trans (if_neg fun ⟨alone, kept⟩ => ?_)))))
    exact out.elim (fun h => h alone) fun h => by rw [h] at kept; exact Bool.noConfusion kept
  · intro aligned
    exact exec_mirrorItemApply.trans (congrArg Host.Outcome.next ((mirrorApply_item member (inTransmitQueue_iff.2 queue) found).trans
      ((if_neg (by rw [other]; decide)).trans (if_pos (pairAligned_iff.2 aligned)))))
  · intro apart
    exact exec_mirrorItemApply.trans (congrArg Host.Outcome.next ((mirrorApply_item member (inTransmitQueue_iff.2 queue) found).trans
      ((if_neg (by rw [other]; decide)).trans (if_neg fun h => apart (pairAligned_iff.1 h)))))
  · rintro rfl
    exact shadowFrame_shadow
  · rintro rfl
    exact shadowFrame_shadow
  · rw [shadowItem_eq]
    simp only [Bool.and_eq_true, bne_iff_ne]
  · exact fun bad => deskRun_badParam run (mateProvision_role bad)
  · exact fun none_ => congrArg Host.Outcome.next (deskRun_done run (mateProvision_remove none_))
  · exact fun barred => congrArg Host.Outcome.next (deskRun_done run (mateProvision_barred r r2 barred))
  · exact fun free steps => deskRun_badParam run ((mateProvision_open r r2 free).trans (if_pos (steps_iff.2 steps)))
  · exact fun free steps limit => deskRun_badParam run ((mateProvision_open r r2 free).trans
      ((if_neg fun h => steps_iff.1 h steps).trans (if_pos limit)))
  · intro none_
    exact congrArg Host.Outcome.next (deskRun_done run ((mateProvision_open r r2 free).trans
      ((if_neg fun h => steps_iff.1 h steps).trans ((if_neg limit).trans (by rw [show growQueues (roleTaken q s) = none from none_]; rfl)))))
  · intro v some_
    exact congrArg Host.Outcome.next (deskRun_done run ((mateProvision_open r r2 free).trans
      ((if_neg fun h => steps_iff.1 h steps).trans ((if_neg limit).trans (by rw [show growQueues (roleTaken q s) = some v from some_]; rfl)))))
  · exact fun bad => deskRun_badParam run (mateCommand_eq.trans (if_pos bad))
  · intro k out
    exact congrArg Host.Outcome.next (deskRun_done run (mateCommand_eq.trans ((if_neg (Nat.not_lt.2 k)).trans
      (if_pos (out.imp_right fun h => ⟨h.1, outranked_iff.2 h.2⟩)))))
  · intro denied stranger joined
    exact congrArg Host.Outcome.next (deskRun_done run ((mateCommand_goes k member (rank.imp_right fun h e => h (outranked_iff.1 e))).trans
      (if_pos ⟨denied, stranger, joined⟩)))
  · intro allowed
    refine congrArg Host.Outcome.next (deskRun_done run ((mateCommand_goes k member (rank.imp_right fun h e => h (outranked_iff.1 e))).trans
      (if_neg fun ⟨denied, stranger, joined⟩ => ?_)))
    exact allowed.elim (fun h => Bool.noConfusion (h.symm.trans denied)) fun h =>
      h.elim stranger fun h => Bool.noConfusion (h.symm.trans joined)

end Sys2Proof.Machine
end
